-- ==== Sys2Proof/Word.lean ====
section
/-! DEFINITION. Word.lean: the words of the KP9600 model. Registers are 32 bits wide (R6, R7); a 64-bit value occupies two
registers, low half first (R25); structures in memory and on the wires are bytes. -/

namespace Sys2Proof

/-- A register word. -/
abbrev Word := BitVec 32
/-- A byte of a structure or of a wire. -/
abbrev Byte := BitVec 8
/-- A 64-bit value held in two registers, or in the R208 time format. -/
abbrev DWord := BitVec 64

end Sys2Proof
end

