-- ==== Sys2Proof/Syntax.lean ====
section
/-! DEFINITION. Syntax.lean: the commands of the KP9600, one constructor for each row of the opcode table, and what their
operands are made of. -/

namespace Sys2Proof

/-- Who makes a register access (R7, R16): PCIe, the sideband window (both ports as one, R410), internal firmware. -/
inductive Req where
  | host | side | int
deriving DecidableEq, Repr

/-- A channel, or the agent behind it. -/
abbrev Ch := Fin 8
/-- An image slot of a channel. -/
abbrev SlotId := Fin 4
/-- A physical part of a channel: CS0 or CS1. -/
abbrev PartId := Fin 2

/-- One agent-side transaction as the wires carry it (R58 to R96). -/
structure Txn where
  /-- the channel -/
  ch : Ch
  /-- the opcode byte -/
  op : Byte
  /-- the second command byte, where the port is in 8D-8D-8D (R69) -/
  ext : Byte := 0
  /-- the address bytes the agent sends, in wire order: most significant byte first (R5) -/
  addr : List Byte := []
  /-- the data bytes the agent clocks out of the port -/
  n : Nat := 0
  /-- the data bytes the agent sends -/
  data : List Byte := []
  /-- whether CS_N rises on a byte boundary (R82) -/
  onByte : Bool := true
  /-- the continuous-read mode bits in the first dummy cycles (R76) -/
  modeBits : Byte := 0
  /-- the first data byte that is not ready at its launch edge for the clock's sake (overspeed, R66) -/
  lateAt : Option Nat := none
  /-- the data bytes of the transaction that an In-flight frame holds already, as ranges: first byte, count (R89) -/
  fetched : List (Nat × Nat) := []
  /-- the data byte from whose launch on the operation or the emulated busy time in hand has ended, and whether the operation
  succeeded (R81, R83) -/
  endsAt : Option (Nat × Bool) := none
deriving DecidableEq, Repr

/-- The requirement a slot's manifest signatures must meet (R133). -/
inductive SigRule where
  | classical | postQuantum | hybrid
deriving DecidableEq, Repr

/-- One signature of a signed object, with the declared result of its check (R133; log entry 3). -/
structure Sig where
  /-- the COSE algorithm identifier -/
  alg : Int
  /-- the key identifier: the first 16 bytes of the key's digest, as a number -/
  keyId : Nat
  /-- whether the signature over the object verifies under that key -/
  valid : Bool
deriving DecidableEq, Repr

/-- One entry of a manifest's REGIONS: [MREGION, FIRST, COUNT, POLICY] (R134). -/
structure MRegion where
  mregion : Nat
  first : Nat
  count : Nat
  policy : Nat
deriving DecidableEq, Repr

/-- A manifest as the KP9600 reads it (R131, R133, R134). -/
structure Manifest where
  /-- L, the length word of metadata page 0 -/
  len : Nat
  /-- CBOR well formed, deterministic and under tag 98, with no text-string key (R133, R134) -/
  wellFormed : Bool
  ctype : Nat
  format : Nat
  hash : Int
  channel : Nat
  slot : Nat
  vintage : Nat
  npages : Nat
  nmeta : Nat
  height : Nat
  /-- ROOT, as a number -/
  root : Nat
  regions : List MRegion
  sealkey : Option Nat
  prefetch : List (Nat × Nat)
  imageId : Nat
  sigs : List Sig
  /-- SHA-384 of the manifest's L Cyold bytes, as a number (R260) -/
  digest : Nat
deriving DecidableEq, Repr

/-- What Racking one Span or metadata page found (R154, R157): pages of a mismatch the re-read did not repeat, nodes and pages of
confirmed mismatches, Pinned pages whose self-check failed. -/
structure RackFind where
  unrepeated : List Nat := []
  badNodes : List Nat := []
  badPages : List Nat := []
  selfBad : List Nat := []
deriving DecidableEq, Repr

/-- What the verification of a page came to (R146, R147, R159): every digest matches its verified parent; the page's own does not; that
of its level-1 or level-2 node of a number does not. -/
inductive Found where
  | pass
  | leaf
  | node (g : Nat)
deriving DecidableEq, Repr

/-- A port with a device side: channel 0 to 7, or 8 for the vault (R127). -/
abbrev PortId := Fin 9

/-- What one eye training of a part measured (R120). -/
structure Training where
  /-- how many SCLK steps the port dropped for windows below 40 % of the unit interval; none where training failed at the lowest -/
  drops : Option Nat
  /-- widest passing window and chosen DQS or sampling tap, 0 to 127 -/
  window : Nat
  tap : Nat
  /-- the per-bit data delays, 0 to 31 taps each -/
  bits : List Nat := []
  /-- device-side command latency, ns -/
  dlat : Nat
  /-- die temperature, °C, as a byte -/
  temp : Nat
deriving DecidableEq, Repr

/-- What SFDP reports of a part (R119, R456). -/
structure Sfdp where
  /-- log2 of the size in bytes; 0 where SFDP is unreadable -/
  sizeLog : Nat
  /-- erase sizes in bytes, ascending -/
  erases : List Nat
  canSuspend : Bool
  progInErase : Bool
  /-- typical and maximum program and erase times, suspend and resume latencies, as its parameter tables give them -/
  times : List Nat := []
deriving DecidableEq, Repr

/-- An owner key a policy bundle or a token carries: its OTP slot and the SHA-384 of its public key, as a number (R270,
R271). -/
structure OwnerPub where
  slot : Nat
  digest : Nat
deriving DecidableEq, Repr

/-- A SLOTKEYS entry of a bundle: channel, slot, requirement, MKEYS indices (R270). -/
structure SlotKey where
  channel : Nat
  slot : Nat
  rule : SigRule
  keys : List Nat
deriving DecidableEq, Repr

/-- An SPDM.REQ entry of a bundle: agent, EID, delay in s, REFDIG as a number (R269, R270). -/
structure SpdmReq where
  agent : Nat
  eid : Nat
  delay : Nat
  refdig : Nat
deriving DecidableEq, Repr

/-- A policy bundle as the KP9600 reads it (R270, R271). Digests and identifiers are numbers. -/
structure Bundle where
  /-- Cyold well formed, deterministic, tag 98, only the keys of R270 -/
  wellFormed : Bool
  ctype : Nat
  format : Nat
  version : Nat
  unitid : Option Nat
  vintage : Nat
  lifecycle : Nat
  owners : List OwnerPub
  sigs : List Sig
  regs : List (Nat × Word)
  /-- key identifiers of MKEYS -/
  mkeys : List Nat
  slotkeys : List SlotKey
  /-- TSA key digests -/
  tsa : List Nat
  perms : Nat
  /-- RECOVERY: SOURCES for each agent, HOSTAGENT, BMCAGENT, BMCEID, HOSTWAIT, BMCWAIT, STREAMGAP -/
  sources : List Nat
  hostAgent : Nat
  bmcAgent : Nat
  bmcEid : Nat
  hostWait : Nat
  bmcWait : Nat
  streamGap : Nat
  /-- FWCFG -/
  confirm : Nat
  fwesc : Nat
  /-- SPDM -/
  hbPeriod : Nat
  spdmReq : List SpdmReq
  /-- SHA-384 of the bundle's Cyold bytes -/
  digest : Nat
deriving DecidableEq, Repr

/-- A firmware package as the KP9600 reads it (R283). -/
structure Package where
  /-- L, the manifest length of bytes 0 to 3 -/
  len : Nat
  wellFormed : Bool
  version : Nat
  size : Nat
  vintage : Nat
  interface : Nat
  wardenDig : Nat
  stewardDig : Nat
  /-- end of the last component from 0x0001_0000 -/
  compEnd : Nat
  sigs : List Sig
  /-- every component digest matches -/
  digestsOk : Bool
deriving DecidableEq, Repr

/-- An owner or vendor authority token (R281, R331, R341). -/
structure Token where
  wellFormed : Bool
  ctype : Nat
  format : Nat
  /-- UNITID; none where the token names none -/
  unitid : Option Nat
  /-- NONCE as a number -/
  nonce : Nat
  action : Nat
  agents : Nat
  owners : List OwnerPub
  sigs : List Sig
deriving DecidableEq, Repr

/-- The path a command comes by: the admin queue with its CID, the sideband with the requester's EID, or the TAP. -/
inductive Src where
  | host (cid : Nat)
  | side (eid : Nat)
  | tap
deriving DecidableEq, Repr

/-- What a telemetry window measured (R376): busy shares, minima and maxima, die temperature and rails. -/
structure TlmMeas where
  pressBusy : List Nat
  aesBusy : List Nat
  creditMin : Nat
  unitsOut : Nat
  freeMin : Nat
  inflMax : Nat
  tempMin : Nat
  tempMax : Nat
  rails : List Nat
  /-- per channel: device-side busy time in µs, longest verdict in µs, mean Racking share -/
  dbusy : List Nat
  vmax : List Nat
  rack : List Nat
deriving DecidableEq, Repr

/-- The clocks a RING monitor or a lock detector watches (R392). -/
inductive MonClk where
  | core | press | fab | flash | ref25
deriving DecidableEq, Repr
/-- The blob of KEY_CMD IMPORT (R322) with the result of its decapsulation and tag check: the material it opens to. -/
structure ImportBlob where
  type : Nat
  rights : Nat
  label : Nat
  /-- length of the request data -/
  len : Nat
  /-- SHA-384 of the request data -/
  digest : Nat
  material : Option Nat
deriving DecidableEq, Repr

/-- KEYREQ of a key token: SUBOP, LABEL, REQDIG (R320). -/
structure KeyReq where
  subop : Nat
  label : Nat
  digest : Nat
deriving DecidableEq, Repr

/-- An entry of KEYS of a lifecycle token: OTP slot, algorithm, digest of the public key (R329). -/
structure KeyEnt where
  slot : Nat
  alg : Int
  digest : Nat
deriving DecidableEq, Repr

/-- A lifecycle authority token (R329): `signers` are SIGNPUB's slots and digests. -/
structure LcToken where
  wellFormed : Bool
  ctype : Nat
  format : Nat
  unitid : Option Nat
  nonce : Nat
  action : Nat
  keys : List KeyEnt
  target : Nat
  ssvid : Nat
  ssid : Nat
  signers : List OwnerPub
  sigs : List Sig
deriving DecidableEq, Repr

/-- A debug token (R339): its digest is SHA-384 of its bytes. -/
structure DbgToken where
  wellFormed : Bool
  ctype : Nat
  format : Nat
  unitid : Option Nat
  nonce : Nat
  role : Nat
  scope : Nat
  consentDig : Nat
  digest : Nat
  signers : List OwnerPub
  sigs : List Sig
deriving DecidableEq, Repr

/-- A time-stamp token (R211): the result of its parse, its signer's key digest, its times in KEEP ticks and µs. -/
structure AnchorTok where
  len : Nat
  wellFormed : Bool
  spki : Nat
  sigOk : Bool
  imprint : List Byte
  nonce : List Byte
  genTime : Nat
  accuracy : Option Nat
  digest : List Byte
deriving DecidableEq, Repr

/-- What decoding the helper records gave (R296, R298): e_S and e_D of a record that decodes and whose CHECK matches, for the
newest vault record and for OTP slots 0 to 2. -/
structure PufDecode where
  vault : Option (Nat × Nat)
  otp0 : Option (Nat × Nat)
  otp1 : Option (Nat × Nat)
  otp2 : Option (Nat × Nat)
deriving DecidableEq, Repr


/-- A page of an image: slot, image page index. -/
structure PageId where
  slot : SlotId
  page : Nat
deriving DecidableEq, Repr

/-- A conservation law that fails, with the unit it names (R27): a Cellar bank (physical), the Cellar tags, the ledger's own
self-check, a Press engine, a host queue, the recorder, the engine or AES lane of a stream's segment, a stream's chain unit, a
channel's serving path. -/
inductive Law where
  | bank (b : Fin 17)
  | tags
  | selfCheck
  | engine (e : Fin 8)
  | queue (q : Nat)
  | events
  | sealEngine (stream : Nat) (e : Fin 8)
  | sealLane (stream : Nat) (l : Fin 4)
  | sealSeq (stream : Nat)
  | agent (n : Ch)
deriving DecidableEq, Repr

/-- What bring-up found of a fitted part (R119, R120): its SFDP, none where it is unreadable, and its eye training; whether the
pattern page reads erased, and whether the part stays busy through all of R122. -/
structure PartFound where
  sfdp : Option Sfdp
  train : Training
  erased : Bool := false
  stuck : Bool := false
deriving DecidableEq, Repr

/-- An entry of the vault header's directory of golden agent images (R126): channel, slot, offset and length on the vault part it
lies on, offset of its manifest, and the manifest there as last verified. -/
structure Golden where
  chan : Nat
  slot : Nat
  off : Nat
  len : Nat
  manOff : Nat
  part : Nat
  valid : Bool
  man : Option Manifest
deriving DecidableEq, Repr

/-- A copy of the vault header as it reads (R126): its sequence number and its directory. -/
structure VaultHeader where
  seq : Nat
  golden : List Golden
deriving DecidableEq, Repr

/-- What bring-up read of a slot's active copy (R136): its manifest, and whether its root and anchors verify. -/
structure SlotFound where
  man : Option Manifest
  rootOk : Bool
  anchors : Bool
deriving DecidableEq, Repr

/-- Which part of an 8-byte BAR4 location is read (R222, R374). -/
inductive Half where
  | lo | hi | both
deriving DecidableEq, Repr

/-- A host access to a BAR (R221, R222): its BAR, offset and length in bytes; a write carries its data, and whether all its byte
enables are set. -/
inductive BarAcc where
  | read (bar off len : Nat)
  | write (bar off len : Nat) (v : DWord) (enabled : Bool)
deriving DecidableEq, Repr

/-- A configuration request (R220, R221, R246, R250): a read of an offset, or a write of a field: BAR0, BAR2 or BAR4, Memory Space and
Bus Master Enable, Extended Tag and 10-Bit Tag Requester Enable, payload and read request size in bytes, completion timeout value, MSI-X
enable and function mask. -/
inductive CfgReq where
  | read (off : Nat)
  | bar (k : Fin 3) (base : Nat)
  | mse (on : Bool)
  | bme (on : Bool)
  | extTag (on : Bool)
  | tag10 (on : Bool)
  | mps (bytes : Nat)
  | mrrs (bytes : Nat)
  | cto (v : Nat)
  | msixEn (on : Bool)
  | funcMask (on : Bool)
deriving DecidableEq, Repr

/-- What a memory read was for (R247): a submission entry, the segment of a stream in progress, the data of a VERIFY_SEGMENT, a
command buffer, the seal log control block. -/
inductive ReadFor where
  | entry (q : Nat)
  | segment (stream : Nat)
  | verify (q cid : Nat)
  | buffer (cid opcode : Nat)
  | logCtl
deriving DecidableEq, Repr

/-- A command: one constructor for each row of the opcode table. -/
inductive Instr where
  /-- COMMIT_GO (R17) -/
  | commitGo (q : Req) (mask : Word)
  /-- COMMIT_APPLY (R17) -/
  | commitApply
  /-- COMMIT_TIMEOUT (R17) -/
  | commitTimeout
  /-- COMMIT_DISCARD (R23) -/
  | commitDiscard (q : Req) (mask : Word)
  /-- LOW_HALF_READ (R25) -/
  | lowHalfRead (q : Req) (off : Nat) (hi : Bool)
  /-- HIGH_HALF_WRITE (R25) -/
  | highHalfWrite (q : Req) (off : Nat) (v : Word)
  /-- REGISTER_WRITE (R7) -/
  | registerWrite (q : Req) (off : Nat) (v : Word)
  /-- RC_READ (R7) -/
  | rcRead (q : Req) (n : Ch)
  /-- SNAPSHOT (R241) -/
  | snapshot (cid len mask addr : Nat)
  /-- LEDGER_VIOLATION (R28) -/
  | ledgerViolation (l : Law)
  /-- BANK_UNCORRECTABLE (R145) -/
  | bankUncorrectable (b : Fin 16) (bad : List Nat)
  /-- BANK_COPY_COMPLETE (R145) -/
  | bankCopyComplete (bad : List Nat)
  /-- CELLAR_SCRUB_PASS (R37) -/
  | cellarScrubPass
  /-- MEMTEST_BANK (R38) -/
  | memtestBank (ok : Bool)
  /-- MAIN_POWER_GOOD_RISE (R45) -/
  | mainPowerGoodRise (addrSel strap : Nat) (perst halt : Bool)
  /-- MAIN_POWER_GOOD_FALL (R41) -/
  | mainPowerGoodFall
  /-- PLL_LOCK (R391) -/
  | pllLock
  /-- VAULT_IDENTIFY (R119, R126): header copies A and B as they read, none where one does not verify -/
  | vaultIdentify (cs0 cs1 : Option PartFound) (busMode : Nat) (hdrA : Option VaultHeader) (hdrB : Option VaultHeader := none)
  /-- ROOTSTOCK_REGENERATE (R296) -/
  | rootstockRegenerate (d : PufDecode)
  /-- ROOTSTOCK_RETRY (R296) -/
  | rootstockRetry (d : PufDecode)
  /-- SELF_TEST_STARTUP (R316) -/
  | selfTestStartup (badEngines badLanes : List Nat) (pku rng store ledger : Bool)
  /-- FIRMWARE_VERIFY (R45, R256); `dev`: a copy of the DeviceID certificate passes its check -/
  | firmwareVerify (a b g : Bool) (dev : Bool := true)
  /-- POLICY_APPLY (R273) -/
  | policyApply
  /-- CHANNEL_BRINGUP (R119) -/
  | channelBringup (n : Ch) (p0 p1 : Option PartFound) (s0 s1 s2 s3 : SlotFound)
  /-- EXIT_CHECKS (R41) -/
  | exitChecks (ok : Bool)
  /-- INTENT_RESUME (R57) -/
  | intentResume (kind : Nat) (chan slot : Nat) (m : Manifest) (ok : Bool)
  /-- MODE_WRITE (R41) -/
  | modeWrite (m cause : Nat)
  /-- DEVICE_RESTART (R49) -/
  | deviceRestart (cause : Nat)
  /-- PERST_N_ASSERT (R21) -/
  | perstNAssert
  /-- PERST_N_RELEASE (R47) -/
  | perstNRelease
  /-- FUNCTION_LEVEL_RESET (R248) -/
  | functionLevelReset (done : Bool)
  /-- LINK_DOWN (R248) -/
  | linkDown
  /-- LINK_TRAINED (R219) -/
  | linkTrained (speed width : Nat)
  /-- AGENT_READ (R62) -/
  | agentRead (t : Txn)
  /-- CONTINUOUS_READ (R76) -/
  | continuousRead (t : Txn)
  /-- READ_SFDP (R79) -/
  | readSfdp (t : Txn)
  /-- READ_ID (R77) -/
  | readId (t : Txn)
  /-- READ_REG (R81) -/
  | readReg (t : Txn)
  /-- WRITE_ENABLE (R82) -/
  | writeEnable (t : Txn)
  /-- WRITE_DISABLE (R82) -/
  | writeDisable (t : Txn)
  /-- PROGRAM (R83) -/
  | program (t : Txn)
  /-- ERASE (R83) -/
  | erase (t : Txn)
  /-- ERASE_CHIP (R83) -/
  | eraseChip (t : Txn)
  /-- SUSPEND (R86) -/
  | suspend (t : Txn) (early : Bool)
  /-- SUSPEND_FORWARD (R86) -/
  | suspendForward (n : Ch)
  /-- RESUME (R87) -/
  | resume (t : Txn)
  /-- WRITE_REG (R81) -/
  | writeReg (t : Txn)
  /-- MODESET (R74) -/
  | modeset (t : Txn)
  /-- RESET_ENABLE (R71) -/
  | resetEnable (t : Txn)
  /-- RESET (R75) -/
  | reset (t : Txn)
  /-- CLEAR_FAIL (R71) -/
  | clearFail (t : Txn)
  /-- ADDR_MODE (R71) -/
  | addrMode (t : Txn)
  /-- ACCEPT (R71) -/
  | accept (t : Txn)
  /-- UNLISTED_OPCODE (R73) -/
  | unlistedOpcode (t : Txn)
  /-- HEARTBEAT_SERVICE (R93) -/
  | heartbeatService (t : Txn)
  /-- SCLK_MEASURE (R59) -/
  | sclkMeasure (n : Ch) (khz : Nat)
  /-- AGENT_OPERATION_END (R83) -/
  | agentOperationEnd (n : Ch) (ok : Bool)
  /-- BLOCKBUSY_END (R84) -/
  | blockbusyEnd (n : Ch)
  /-- SET_PHASE (R106) -/
  | setPhase (cid channel phase : Nat)
  /-- BOOTTIME_ELAPSED (R106) -/
  | boottimeElapsed (n : Ch)
  /-- UPDATE_TIMEOUT (R106) -/
  | updateTimeout (n : Ch)
  /-- DEVICE_OP_ISSUE (R110) -/
  | deviceOpIssue (n : Ch)
  /-- STATUS_POLL (R108) -/
  | statusPoll (n : Ch) (k : PartId)
  /-- EXPOSED_WAIT_END (R107) -/
  | exposedWaitEnd (n : Ch) (k : SlotId)
  /-- ACTIVATE (R111) -/
  | activate (cid channel slot mloc flipNow len : Nat) (m : Manifest)
  /-- STAGING_VERIFY (R112) -/
  | stagingVerify (n : Ch) (k : SlotId) (ok : Bool)
  /-- COPY_UNIT (R113) -/
  | copyUnit (n : Ch) (k : SlotId) (units : Nat) (ok : Bool)
  /-- CONFIRM (R115) -/
  | confirm (cid channel slot : Nat)
  /-- CONFIRM_WINDOW_END (R115) -/
  | confirmWindowEnd (n : Ch) (k : SlotId)
  /-- VINTAGE_BURN_STEP (R116) -/
  | vintageBurnStep (n : Ch) (k : SlotId) (ok : Bool)
  /-- EYE_TRAINING (R120) -/
  | eyeTraining (port : PortId) (k : PartId) (t : Training)
  /-- RETRAIN_DUE (R121) -/
  | retrainDue (port : PortId)
  /-- PART_BUSY_TIMEOUT (R122) -/
  | partBusyTimeout (port : PortId) (k : PartId)
  /-- PART_SOFTWARE_RESET_END (R122) -/
  | partSoftwareResetEnd (port : PortId) (k : PartId) (busy : Bool)
  /-- PART_RESET_PULSE_END (R122) -/
  | partResetPulseEnd (port : PortId) (k : PartId) (bad : Bool)
  /-- SECTOR_REFRESH_STEP (R123) -/
  | sectorRefreshStep (n : Ch) (k : PartId) (slot : SlotId) (unit : Nat) (active verified resident : Bool)
  /-- REFRESH_PERIOD_ROLLOVER (R123) -/
  | refreshPeriodRollover
  /-- JOURNAL_COMPACTION_STEP (R127) -/
  | journalCompactionStep (key : Bool)
  /-- VAULT_RETRAIN (R282) -/
  | vaultRetrain (t : Training) (header : Bool)
  /-- DECANT_PAGE (R137) -/
  | decantPage (n : Ch) (p : PageId) (node ok keyOk : Bool)
  /-- DEFERRED_VERDICT (R147) -/
  | deferredVerdict (n : Ch) (p : PageId) (found : Found)
  /-- VERDICT_LATE (R147) -/
  | verdictLate (n : Ch) (p : PageId)
  /-- LATE_RESULT (R147) -/
  | lateResult (n : Ch) (p : PageId) (found : Found)
  /-- PRESS_CREDIT_GRANT (R151) -/
  | pressCreditGrant
  /-- RACKING_SHARE_WINDOW (R155) -/
  | rackingShareWindow (port : PortId) (u : Nat) (pressBusy : Bool)
  /-- RACK_SPAN (R154) -/
  | rackSpan (port : PortId) (f : RackFind) (m : Option Manifest)
  /-- GRAFT_CANDIDATE (R159): image page, or node, `page` of slot k -/
  | graftCandidate (n : Ch) (k : SlotId) (page copy : Nat) (node qualifies : Bool)
  /-- GRAFT_REPAIR_STEP (R160): of the erase unit at byte address `unit` of a part; `bad`, none where left out, are the failures that step 1
  finds, `ok` the read-back of step 4 -/
  | graftRepairStep (n : Ch) (k : SlotId) (copy : Nat) (part : PartId) (unit : Nat := 0) (bad : RackFind := {}) (ok : Bool := true)
  /-- AUTOREL_RELEASE (R162) -/
  | autorelRelease (n : Ch)
  /-- PC_OUT_MISMATCH (R169) -/
  | pcOutMismatch (k : Nat)
  /-- PC_IN_CHANGE (R170) -/
  | pcInChange (k : Nat) (level : Bool)
  /-- HALT_N_FALL (R171) -/
  | haltNFall
  /-- HALT_N_RISE (R171) -/
  | haltNRise
  /-- SEQ_END (R173) -/
  | seqEnd
  /-- SEQ_SET (R173) -/
  | seqSet
  /-- SEQ_WAIT_IN (R173) -/
  | seqWaitIn
  /-- SEQ_DELAY (R173) -/
  | seqDelay
  /-- SEQ_RELEASE (R173) -/
  | seqRelease
  /-- SEQ_WAIT_HB (R173) -/
  | seqWaitHb
  /-- SEQ_WAIT_SATISFIED (R173) -/
  | seqWaitSatisfied
  /-- SEQ_TIMEOUT (R173) -/
  | seqTimeout
  /-- DELAY_EXPIRY (R174) -/
  | delayExpiry
  /-- SUBPROGRAM_START (R176) -/
  | subprogramStart
  /-- RERELEASE (R176) -/
  | rerelease (n : Ch)
  /-- URGENT_STOP (R177) -/
  | urgentStop (side : Bool) (mask seq : Nat)
  /-- URGENT_RELEASE (R177) -/
  | urgentRelease (side : Bool) (mask seq : Nat)
  /-- URGENT_RESTART (R177) -/
  | urgentRestart (side : Bool) (mask seq : Nat)
  /-- QCLEAR_ELAPSED (R180) -/
  | qclearElapsed (n : Ch)
  /-- SBSVC_WRITE (R182) -/
  | sbsvcWrite (n : Ch) (key : Word)
  /-- WATCHDOG_FIRST_EXPIRY (R183) -/
  | watchdogFirstExpiry (n : Ch)
  /-- WATCHDOG_SECOND_EXPIRY (R183) -/
  | watchdogSecondExpiry (n : Ch)
  /-- STREAM_OPEN (R192) -/
  | streamOpen (cid no qpair enc overlap label weight : Nat)
  /-- STREAM_CLOSE (R191) -/
  | streamClose (cid no : Nat)
  /-- SEAL_SEGMENT (R193) -/
  | sealSegment (q cid no len src dst rcpt : Nat)
  /-- VERIFY_SEGMENT (R214) -/
  | verifySegment (q cid form len : Nat) (data rcpt : List Byte) (prev : Option (List Byte))
  /-- SEAL_LOG (R205) -/
  | sealLog (cid recBase listBase ctl recSlots listEnt : Nat)
  /-- ANCHOR_REQUEST (R210) -/
  | anchorRequest (cid len addr : Nat)
  /-- ANCHOR_SUBMIT (R211) -/
  | anchorSubmit (cid : Nat) (t : AnchorTok)
  /-- RUN_START (R190) -/
  | runStart
  /-- SEGMENT_BEGIN (R10, R194); `attention`: the sealing engine finds that the descriptor needs firmware attention, not so where it is
  left out -/
  | segmentBegin (attention : Bool := false)
  /-- SEGMENT_COMPLETE (R194) -/
  | segmentComplete (no : Nat) (data : List Byte)
  /-- EPOCH_CLOSE (R197) -/
  | epochClose
  /-- EPOCH_FINALISE (R198) -/
  | epochFinalise
  /-- SEAL_SIGN (R201) -/
  | sealSign
  /-- SEAL_JOURNAL_WRITE (R204) -/
  | sealJournalWrite (ok : Bool)
  /-- SEAL_OUTPUT (R206) -/
  | sealOutput
  /-- SEAL_LOG_POLL (R206) -/
  | sealLogPoll (counts : Option (Nat × Nat))
  /-- UNC_WARN (R209) -/
  | uncWarn
  /-- ENTRY_FETCH (R234) -/
  | entryFetch (q cid opcode flags : Nat) (reserved : Option Nat)
  /-- SQ_DOORBELL (R235) -/
  | sqDoorbell (q index : Nat)
  /-- CQ_DOORBELL (R235) -/
  | cqDoorbell (q index : Nat)
  /-- UNSUPPORTED_REQUEST (R222): a BAR access, which is refused outside the served forms; left out, one of no form -/
  | unsupportedRequest (a : BarAcc := .read 0 0 0)
  /-- MEMORY_READ_ERROR (R247) -/
  | memoryReadError (w : ReadFor) (kind : Nat)
  /-- IDENTIFY (R240) -/
  | identify (cid len addr : Nat)
  /-- LOG_READ (R364) -/
  | logRead (cid src len from_ addr : Nat)
  /-- LOG_CLEAR (R364) -/
  | logClear (cid : Nat)
  /-- CERT_READ (R258) -/
  | certRead (cid chain off len addr : Nat)
  /-- GET_NONCE (R338) -/
  | getNonce (src : Src) (len addr : Nat)
  /-- AGENT_HEARTBEAT (R182) -/
  | agentHeartbeat (cid agent : Nat) (key : Word)
  /-- REIMAGE (R278) -/
  | reimage (cid agent source : Nat)
  /-- QRELEASE (R281) -/
  | qrelease (cid len : Nat) (t : Token)
  /-- IMAGE_STREAM (R279) -/
  | imageStream (cid channel slot : Nat) (last : Bool) (off len : Nat)
  /-- IMAGE_CHUNK_PROGRAM (R279) -/
  | imageChunkProgram (port : PortId) (ok : Bool)
  /-- IMAGE_VERIFY (R279) -/
  | imageVerify (n : Ch) (m : Manifest) (trellisOk : Bool)
  /-- RECOVER_PLATFORM (R281) -/
  | recoverPlatform (src : Src) (len : Nat) (t : Token)
  /-- GOLDEN_FIRMWARE_RESTORE (R281) -/
  | goldenFirmwareRestore (src : Src) (len : Nat) (t : Token)
  /-- AUTHORISED_RECOVERY (R281) -/
  | authorisedRecovery (src : Src) (len : Nat) (t : Token)
  /-- POLICY_LOAD (R272) -/
  | policyLoad (cid len : Nat) (b : Bundle)
  /-- POLICY_STORE_DURABLE (R273) -/
  | policyStoreDurable
  /-- POLICY_APPLY_RETRY (R273) -/
  | policyApplyRetry (expired : Bool)
  /-- POLICY_VINTAGE_BURN (R274) -/
  | policyVintageBurn (ok : Bool)
  /-- FW_DOWNLOAD (R284) -/
  | fwDownload (cid : Nat) (last : Bool) (off len : Nat) (pkg : Option Package)
  /-- FW_PACKAGE_VERIFY (R284) -/
  | fwPackageVerify
  /-- FW_ACTIVATE (R285) -/
  | fwActivate (cid target : Nat)
  /-- HANDOVER_HALT (R286) -/
  | handoverHalt
  /-- HANDOVER_LOAD (R286) -/
  | handoverLoad (ok : Bool)
  /-- CHECK_IN (R286) -/
  | checkIn
  /-- HANDOVER_FALLBACK (R287) -/
  | handoverFallback
  /-- FW_CONFIRM (R288) -/
  | fwConfirm (ok : Bool)
  /-- GOLDEN_COPY_STEP (R288) -/
  | goldenCopyStep (last : Bool)
  /-- PLATFORM_CERT_ISSUE (R264) -/
  | platformCertIssue
  /-- RECOVERY_SOURCE_TRY (R277) -/
  | recoverySourceTry (n : Ch) (m : Option Manifest) (anchors : Bool)
  /-- RECOVERY_SOURCE_TIMEOUT (R277) -/
  | recoverySourceTimeout (n : Ch)
  /-- ACT_COMMIT_RETRY (R276) -/
  | actCommitRetry (n : Ch)
  /-- REC_QUERY (R280) -/
  | recQuery (eid : Nat)
  /-- REC_CHUNK (R280) -/
  | recChunk (eid off len : Nat)
  /-- REC_END (R280) -/
  | recEnd (eid : Nat)
  /-- RESTART (R50) -/
  | restart (cid : Nat)
  /-- DEBUG_OPEN (R342) -/
  | debugOpen (src : Src) (len t1 : Nat) (a : DbgToken) (second : Option (Nat × DbgToken))
  /-- ENTER_TEST (R330) -/
  | enterTest (src : Src) (len : Nat) (t : LcToken) (stop : Option Nat)
  /-- ENTER_PRODUCTION (R330) -/
  | enterProduction (src : Src) (len : Nat) (t : LcToken) (stop : Option Nat)
  /-- ENTER_EOL (R330) -/
  | enterEol (src : Src) (len : Nat) (t : LcToken) (stop : Option Nat)
  /-- OWNER_CLAIM (R330) -/
  | ownerClaim (src : Src) (len : Nat) (t : LcToken) (stop : Option Nat)
  /-- OWNER_ADD (R330) -/
  | ownerAdd (src : Src) (len : Nat) (t : LcToken) (stop : Option Nat)
  /-- OWNER_REVOKE (R330) -/
  | ownerRevoke (src : Src) (len : Nat) (t : LcToken) (stop : Option Nat)
  /-- SET_SUBSYS (R330) -/
  | setSubsys (src : Src) (len : Nat) (t : LcToken) (stop : Option Nat)
  /-- VENDOR_REVOKE (R330) -/
  | vendorRevoke (src : Src) (len : Nat) (t : LcToken) (stop : Option Nat)
  /-- COMPLETE_TRANSITION (R333) -/
  | completeTransition (src : Src) (len : Nat) (t : LcToken) (stop : Option Nat)
  /-- INFO (R320) -/
  | info (cid label len addr : Nat)
  /-- LIST (R320) -/
  | list (cid len addr : Nat)
  /-- IMPORT_PUB (R321) -/
  | importPub (cid len addr : Nat)
  /-- IMPORT (R323) -/
  | importKey (cid label len tlen : Nat) (t : Token) (kr : Option KeyReq) (b : ImportBlob)
  /-- DESTROY (R323) -/
  | destroy (cid label len tlen : Nat) (t : Token) (kr : Option KeyReq)
  /-- SEAL_ROTATE (R323) -/
  | sealRotate (cid len tlen : Nat) (t : Token) (kr : Option KeyReq)
  /-- KEY_JOURNAL_COMMIT (R310) -/
  | keyJournalCommit (ok : Bool)
  /-- MSIX_AGGREGATION_TIMEOUT (R238) -/
  | msixAggregationTimeout (q : Nat)
  /-- MSIX_VECTOR_UNMASK (R238) -/
  | msixVectorUnmask (v : Fin 64) (addr data : Nat) (masked : Bool)
  /-- RETENTION_ACK (R249) -/
  | retentionAck (q : Nat)
  /-- BUS_MASTER_DISABLE (R250) -/
  | busMasterDisable
  /-- POWER_STATE_CHANGE (R250) -/
  | powerStateChange (d3 : Bool)
  /-- MCTP_MESSAGE (R224); `lens`: the payload of each packet of a message over VDM -/
  | mctpMessage (tr type : Nat) (lens : List Nat)
  /-- SET_ENDPOINT_ID (R224) -/
  | setEndpointId (tr eid : Nat)
  /-- GET_VERSION (R266) -/
  | getVersion (eid tr : Nat)
  /-- GET_CAPABILITIES (R266) -/
  | getCapabilities (eid tr : Nat)
  /-- NEGOTIATE_ALGORITHMS (R265) -/
  | negotiateAlgorithms (eid tr : Nat) (offered : Bool)
  /-- GET_DIGESTS (R266) -/
  | getDigests (eid tr : Nat)
  /-- GET_CERTIFICATE (R266) -/
  | getCertificate (eid tr slot off len : Nat)
  /-- CHALLENGE (R266) -/
  | challenge (eid tr slot hashType : Nat) (nonce : List Byte)
  /-- GET_MEASUREMENTS (R259) -/
  | getMeasurements (eid tr op : Nat) (signed : Bool) (nonce : List Byte)
  /-- KEY_EXCHANGE (R266) -/
  | keyExchange (eid tr slot : Nat)
  /-- FINISH (R266) -/
  | finish (eid tr : Nat) (ok : Bool)
  /-- HEARTBEAT (R266) -/
  | heartbeat (eid tr : Nat)
  /-- END_SESSION (R266) -/
  | endSession (eid tr : Nat)
  /-- SPDM_UNSUPPORTED_REQUEST (R266) -/
  | spdmUnsupportedRequest (eid tr : Nat)
  /-- SPDM_SESSION_TIMEOUT (R267) -/
  | spdmSessionTimeout (eid tr : Nat)
  /-- SPDM_CONNECTION_IDLE (R267) -/
  | spdmConnectionIdle (eid tr : Nat)
  /-- SPDM_AGENT_REQUEST (R269) -/
  | spdmAgentRequest (n : Ch)
  /-- SPDM_AGENT_RESPONSE (R269) -/
  | spdmAgentResponse (n : Ch) (sigOk : Bool) (dig : Nat)
  /-- SPDM_AGENT_RETRY (R269) -/
  | spdmAgentRetry (n : Ch)
  /-- PUF_DL_MEASURE (R298) -/
  | pufDlMeasure (e : Nat)
  /-- REENROL (R299) -/
  | reenrol (ok otp : Bool)
  /-- PUF_BUFFER_CLEAR (R296) -/
  | pufBufferClear
  /-- CASK_REMASK (R309) -/
  | caskRemask
  /-- PERIODIC_SELF_TEST (R316) -/
  | periodicSelfTest (lane : Bool)
  /-- SELF_TEST_DRAIN_END (R316) -/
  | selfTestDrainEnd (pass : Bool)
  /-- ENGINE_DERATE (R316) -/
  | engineDerate (e : Fin 8)
  /-- ENGINE_RESTORE (R316) -/
  | engineRestore (e : Fin 8)
  /-- DRBG_RESEED (R319) -/
  | drbgReseed
  /-- ENTROPY_TEST_FAIL (R319) -/
  | entropyTestFail
  /-- DRBG_REINSTANTIATE (R319) -/
  | drbgReinstantiate (ok : Bool)
  /-- TAMPER_TRIP (R346) -/
  | tamperTrip (src : Fin 20) (level : Bool)
  /-- MESH_SAMPLE (R347) -/
  | meshSample (k : Fin 2) (good : Bool)
  /-- SHELF_MESH_BURST (R347) -/
  | shelfMeshBurst (k : Fin 2) (good : List Bool)
  /-- SHELF_TEMP_SAMPLE (R345) -/
  | shelfTempSample (quarter : Int)
  /-- VBAT_LOW (R352) -/
  | vbatLow
  /-- EVENT_RAISE (R356) -/
  | eventRaise
  /-- RING_WRITE (R363) -/
  | ringWrite
  /-- JOURNAL_BLOCK_DUE (R365) -/
  | journalBlockDue
  /-- JOURNAL_BLOCK_DURABLE (R365) -/
  | journalBlockDurable (passed : Bool)
  /-- JOURNAL_RETRY (R368) -/
  | journalRetry (passed : Bool)
  /-- LW_CLEAR (R368) -/
  | lwClear
  /-- RDATA_READ (R364) -/
  | rdataRead (q : Req) (k : Fin 8)
  /-- MSIGAP_EXPIRY (R360) -/
  | msigapExpiry (v : Nat)
  /-- ROUTE_WRITE (R378) -/
  | routeWrite (q : Req) (v : Word)
  /-- PEND_HI_READ (R378) -/
  | pendHiRead (q : Req)
  /-- COUNTER_DATA_READ (R372) -/
  | counterDataRead (q : Req) (hi : Bool)
  /-- COUNTER_WRITE (R372) -/
  | counterWrite (q : Req) (v : Word)
  /-- BAR4_READ (R374) -/
  | bar4Read (k : Fin 8192) (h : Half)
  /-- TELEMETRY_PERIOD (R375) -/
  | telemetryPeriod (m : TlmMeas) (formed : Bool)
  /-- TELEMETRY_LATE (R375) -/
  | telemetryLate
  /-- OPDATA_ACCESS (R70) -/
  | opdataAccess (q : Req) (n : Ch) (w : Option Word)
  /-- SFDPDATA_READ (R79) -/
  | sfdpdataRead (q : Req) (n : Ch)
  /-- STDATA_ACCESS (R125) -/
  | stdataAccess (q : Req) (n : Ch) (k : Fin 3) (w : Option Word)
  /-- RGDATA_ACCESS (R125) -/
  | rgdataAccess (q : Req) (n : Ch) (k : Fin 3) (w : Option Word)
  /-- SEQDATA_ACCESS (R187) -/
  | seqdataAccess (q : Req) (w : Option Word)
  /-- BADDATA_READ (R165) -/
  | baddataRead (q : Req) (n : Ch)
  /-- STRDATA_READ (R218) -/
  | strdataRead (q : Req) (k : Fin 2)
  /-- STRATT_READ (R218) -/
  | strattRead (q : Req)
  /-- CASKDATA_READ (R325) -/
  | caskdataRead (q : Req) (k : Fin 8)
  /-- THDATA_READ (R354) -/
  | thdataRead (q : Req) (k : Fin 4)
  /-- VCTR_READ (R353) -/
  | vctrRead (q : Req)
  /-- TLM_DATA_READ (R381) -/
  | tlmDataRead (q : Req)
  /-- TXDATA_WRITE (R418) -/
  | txdataWrite (q : Req) (a : Fin 2) (v : Word)
  /-- RXDATA_READ (R418) -/
  | rxdataRead (q : Req) (a : Fin 2)
  /-- WD0_CFG_WRITE (R386) -/
  | wd0CfgWrite (q : Req) (v : Word)
  /-- WD0_WINDOW_WRITE (R386) -/
  | wd0WindowWrite (q : Req) (v : Word)
  /-- WD0_SERVICE (R387) -/
  | wd0Service (q : Req) (key : Word)
  /-- WD0_FIRST_EXPIRY (R385) -/
  | wd0FirstExpiry
  /-- WD0_SECOND_EXPIRY (R385) -/
  | wd0SecondExpiry
  /-- RING_MONITOR_TRIP (R390) -/
  | ringMonitorTrip
  /-- CLOCK_MONITOR_TRIP (R392) -/
  | clockMonitorTrip (c : MonClk) (byLock : Bool)
  /-- FLASH_CLOCK_LOSS (R394) -/
  | flashClockLoss
  /-- FLASH_RELOCK (R394) -/
  | flashRelock
  /-- FLASH_RELOCK_TIMEOUT (R394) -/
  | flashRelockTimeout
  /-- REFCLK_LOSS (R395) -/
  | refclkLoss
  /-- KEEPER_CRYSTAL_LOSS (R395) -/
  | keeperCrystalLoss
  /-- KEEPER_CRYSTAL_RETURN (R395) -/
  | keeperCrystalReturn
  /-- RING_LOSS (R395) -/
  | ringLoss
  /-- TEMP_THRESHOLD (R396) -/
  | tempThreshold (quarter : Int)
  /-- RAIL_EXCURSION (R396) -/
  | railExcursion (rail : Nat)
  /-- WINDOW_READ (R407) -/
  | windowRead (p : Fin 2) (bank off n : Nat)
  /-- WINDOW_WRITE (R408) -/
  | windowWrite (p : Fin 2) (bank off n : Nat) (data : List Byte) (pecOk : Bool)
  /-- SMBUS_TIMEOUT (R404) -/
  | smbusTimeout (p : Fin 2)
  /-- MCTP_RESPONSE_RETRY (R404) -/
  | mctpResponseRetry (p : Fin 2) (lost : Bool)
  /-- MCTP_PACKET (R411) -/
  | mctpPacket (p : Fin 2) (eid type len : Nat) (som eom : Bool)
  /-- MCTP_PACKET_READ (R405) -/
  | mctpPacketRead (p : Fin 2)
  /-- ENTDAA (R405) -/
  | entdaa (p : Fin 2) (addr : Nat)
  /-- SETDASA (R405) -/
  | setdasa (p : Fin 2) (addr new : Nat)
  /-- SETNEWDA (R405) -/
  | setnewda (p : Fin 2) (addr new : Nat)
  /-- RSTDAA (R405) -/
  | rstdaa (p : Fin 2)
  /-- ENEC (R405) -/
  | enec (p : Fin 2) (addr : Option Nat) (int : Bool)
  /-- DISEC (R405) -/
  | disec (p : Fin 2) (addr : Option Nat) (int : Bool)
  /-- GETPID (R405) -/
  | getpid (p : Fin 2) (addr : Nat)
  /-- GETBCR (R405) -/
  | getbcr (p : Fin 2) (addr : Nat)
  /-- GETDCR (R405) -/
  | getdcr (p : Fin 2) (addr : Nat)
  /-- GETSTATUS (R405) -/
  | getstatus (p : Fin 2) (addr : Nat)
  /-- GETMWL (R405) -/
  | getmwl (p : Fin 2) (addr : Nat)
  /-- SETMWL (R405) -/
  | setmwl (p : Fin 2) (addr : Option Nat) (v : Nat)
  /-- GETMRL (R405) -/
  | getmrl (p : Fin 2) (addr : Nat)
  /-- SETMRL (R405) -/
  | setmrl (p : Fin 2) (addr : Option Nat) (v : Nat)
  /-- GETMXDS (R405) -/
  | getmxds (p : Fin 2) (addr : Nat)
  /-- MCTP_IDENTIFY (R412) -/
  | mctpIdentify (eid : Nat)
  /-- MCTP_LOG_READ (R412) -/
  | mctpLogRead (eid src from_ max : Nat)
  /-- MCTP_CERT_READ (R412) -/
  | mctpCertRead (eid chain off len : Nat)
  /-- MCTP_LOG_CLEAR (R412) -/
  | mctpLogClear (eid : Nat)
  /-- MCTP_SET_PHASE (R412) -/
  | mctpSetPhase (eid channel phase : Nat)
  /-- MCTP_ACTIVATE (R412) -/
  | mctpActivate (eid channel slot flipNow : Nat) (m : Manifest)
  /-- MCTP_REIMAGE (R412) -/
  | mctpReimage (eid agent source : Nat)
  /-- MCTP_POLICY_LOAD (R412) -/
  | mctpPolicyLoad (eid off : Nat) (last : Bool) (len : Nat) (b : Bundle)
  /-- MCTP_FW_DOWNLOAD (R412) -/
  | mctpFwDownload (eid off : Nat) (last : Bool) (len : Nat) (pkg : Option Package)
  /-- MCTP_FW_ACTIVATE (R412) -/
  | mctpFwActivate (eid target : Nat)
  /-- AUX_GO (R415) -/
  | auxGo (q : Req) (a : Fin 2) (sel len : Nat)
  /-- AUX_ABORT (R418) -/
  | auxAbort (q : Req) (a : Fin 2) (n : Nat) (rx : List Byte)
  /-- FRAME_SEND (R416) -/
  | frameSend (q : Req) (a : Fin 2) (v : Word)
  /-- AUX_TRANSFER_DONE (R415) -/
  | auxTransferDone (a : Fin 2) (rx : List Byte)
  /-- SLAVE_TRANSFER_END (R417) -/
  | slaveTransferEnd (a : Fin 2) (n : Nat) (rx : List Byte)
  /-- UART_RECEIVE (R419) -/
  | uartReceive (b : Byte) (overrun : Bool)
  /-- GPIO_EDGE (R420) -/
  | gpioEdge (k : Fin 16) (level : Bool)
  /-- KEEPER_POWER_LOSS (R56) -/
  | keeperPowerLoss
  /-- TAP_RESET (R50) -/
  | tapReset
  /-- DEBUGGER_HALT (R388) -/
  | debuggerHalt (warden : Bool)
  /-- DEBUGGER_RESUME (R388) -/
  | debuggerResume (warden : Bool)
  /-- RING_RETURN (R395) -/
  | ringReturn
  /-- REFCLK_RETURN (R395) -/
  | refclkReturn
  /-- CONFIG_REQUEST (R47) -/
  | configRequest (r : CfgReq)
  /-- RECORDER_SRAM_ERROR (R368) -/
  | recorderSramError
  /-- OWN_FIRMWARE_FAULT (R41) -/
  | ownFirmwareFault
  /-- RECOVERY_WRITE_STEP (R276) -/
  | recoveryWriteStep (n : Ch) (last ok : Bool)
deriving DecidableEq, Repr

end Sys2Proof
end

