-- ==== Sys2Proof/Decode.lean ====
section
/-! DEFINITION. Decode.lean: the command a table word spells. The opcode table of the KP9600 gives no row any bits: its
commands come over wires, buses and registers, not as encoded words. -/

namespace Sys2Proof

/-- No word spells a command: the table gives its rows no bits. -/
def decodeTableWord (_nbits _w : Nat) : Option Instr := none

end Sys2Proof
end

