-- ==== Sys2Proof/Config.lean ====
section
/-! DEFINITION. Config.lean: what the spec leaves open, and the cryptography the model does not compute. Every constant here
is opaque: nothing in Lean can evaluate it, so a statement about it holds for every value. -/

namespace Sys2Proof.Config

/-- A value the spec leaves open, one for each reading of the state's own counter (log entry 2). -/
opaque freeValue : Nat → BitVec 64

/-- Bytes drawn from the DRBG: the k-th draw of n bytes (R319; log entry 3). -/
opaque drbgBytes : Nat → Nat → List Byte

/-- A SHA-384 digest of bytes, the 48 bytes the algorithm outputs (R129, R264; log entry 3). -/
opaque sha384 : List Byte → List Byte

/-- An HMAC-SHA-384 of bytes under a key named by a number (R127, R365; log entry 3). -/
opaque hmac384 : Nat → List Byte → List Byte

/-- A signature by the key named by a number, with the 32 bytes that hedge it, over bytes (R201, R266, R318; log entry 3). -/
opaque sign : Nat → List Byte → List Byte → List Byte

/-- The faults in a row, a mismatch of its own check of a signature among them, that the operations of the PKU meet from the k-th on, as
many as are told at once (R318; log entry 65). -/
opaque pkuFaults : Nat → List Nat

/-- The public value of a key named by its material, in the encoding of R255 (R200, R256, R321; log entry 3). -/
opaque publicBytes : Nat → List Byte

/-- Certificate `k` of the vault's certificates area, ECDSA or ML-DSA: 0 root, 1 product CA, 2 DeviceID (R256; log entry 3). -/
opaque vaultCert : Nat → Bool → List Byte

/-- The DER bytes of a certificate with the fields of R257, signed by its issuer, ECDSA or ML-DSA (R256, R257; log entry 3). -/
opaque certDer : Bool → List (List Byte) → List Byte

/-- Cycles of the device-side read command of a protocol mode, where the spec states none (R148; log entry 2). -/
opaque readCycles : Nat → Nat

/-- Byte `i` of the SFDP parameter table `id` built from the committed words, the opcode entries with their opcodes and the times
of the physical parts; its revision bytes at 1,024 and 1,025 (R79; log entry 9). -/
opaque sfdpTable : Nat → List Word → List (Nat × Word) → List (List Nat) → Nat → Byte

/-- The 256 bytes of the eye-training pattern page (R120; log entry 2). -/
opaque eyePattern : List Byte

/-- Erases of a vault area at which it passes its wear-levelling threshold, by the area's offset (R37, R128; log entry 2). -/
opaque wearLimit : Nat → Nat

/-- Digest of the mask ROM (R257; log entry 3). -/
opaque romDigest : List Byte

/-- AES-256-GCM: the ciphertext, and the tag, of a plaintext under a key named by a number (R195; log entry 3). -/
opaque gcmText : Nat → List Byte → List Byte → List Byte
opaque gcmTag : Nat → List Byte → List Byte → List Byte

/-- The CRC-16 of a tamper history record: the CCITT polynomial, its start value and bit order open (R349; log entry 2). -/
opaque crc16 : List Byte → BitVec 16

/-- The firmware of a command opcode lies in an overlay: the overlays' content is Afdon's own (R282, R283; log entry 2). -/
opaque inOverlay : Nat → Bool

end Sys2Proof.Config
end

