-- ==== Sys2Proof/Machine/Bits.lean ====
section
/-! DEFINITION. Machine/Bits.lean: bit fields of register words, little-endian byte order of structures (R4), the most
significant byte first order of wire addresses (R5), and the CRC-32 of the last-mode record (R55). -/

namespace Sys2Proof.Machine

/-- Bits `hi` to `lo` of a word, as a number. -/
def fld (w : Word) (hi lo : Nat) : Nat := (w.toNat / 2 ^ lo) % 2 ^ (hi - lo + 1)

/-- Bit `i` of a word. -/
def bit (w : Word) (i : Nat) : Bool := w.getLsbD i

/-- A flag as a number, 0 or 1. -/
def b2n (b : Bool) : Nat := if b then 1 else 0

/-- A word of one flag at bit `i`. -/
def bitAt (b : Bool) (i : Nat) : Nat := if b then 2 ^ i else 0

/-- A number as a register word; bits above 31 are dropped. -/
def word (n : Nat) : Word := BitVec.ofNat 32 n

/-- The low and the high half of a 64-bit value. -/
def loHalf (d : DWord) : Word := d.extractLsb' 0 32
def hiHalf (d : DWord) : Word := d.extractLsb' 32 32
def joinHalves (hi lo : Word) : DWord := hi ++ lo

/-- A word merged into another under a mask: the masked bits come from `new`. -/
def merge (mask old new : Word) : Word := (old &&& ~~~mask) ||| (new &&& mask)

/-- A count that wraps from 0xFFFF_FFFF to 0. -/
def wrap32 (n : Nat) : Nat := n % 4294967296

/-- A count that saturates at `m`. -/
def sat (m n : Nat) : Nat := if n < m then n else m

/-- `k` little-endian bytes of a number (R4). -/
def leBytes : Nat → Nat → List Byte
  | 0, _ => []
  | k + 1, n => BitVec.ofNat 8 n :: leBytes k (n / 256)

/-- The number that little-endian bytes spell (R4). -/
def leNat : List Byte → Nat
  | [] => 0
  | b :: r => b.toNat + 256 * leNat r

/-- `k` bytes of a number, most significant first: the order of every wire address (R5). -/
def beBytes (k n : Nat) : List Byte := (leBytes k n).reverse

/-- The number that bytes spell, most significant first (R5). -/
def beNat (bs : List Byte) : Nat := bs.foldl (fun a b => 256 * a + b.toNat) 0

/-- Little-endian bytes of a word (R4). -/
def wordBytes (w : Word) : List Byte := leBytes 4 w.toNat

/-- Bytes `at` to `at + k - 1` of a structure; a byte beyond its end reads as 0. -/
def bytesAt (bs : List Byte) (off k : Nat) : List Byte :=
  ((bs.drop off).take k) ++ List.replicate (k - ((bs.drop off).take k).length) 0#8

/-- The little-endian word at a byte offset of a structure. -/
def wordAt (bs : List Byte) (off : Nat) : Word := word (leNat (bytesAt bs off 4))

/-- A structure padded with zero bytes, or cut, to `n` bytes. -/
def padTo (n : Nat) (bs : List Byte) : List Byte := bytesAt bs 0 n

/-- One shift of the reflected CRC-32 of IEEE 802.3 (R55). -/
def crcShift (c : BitVec 32) : BitVec 32 := if c.getLsbD 0 then (c >>> 1) ^^^ 0xEDB88320#32 else c >>> 1

/-- CRC-32 over one byte. -/
def crcByte (c : BitVec 32) (b : Byte) : BitVec 32 :=
  let x := c ^^^ b.zeroExtend 32
  crcShift (crcShift (crcShift (crcShift (crcShift (crcShift (crcShift (crcShift x)))))))

/-- The CRC-32 (IEEE 802.3 polynomial) of bytes (R55). -/
def crc32 (bs : List Byte) : BitVec 32 := ~~~ (bs.foldl crcByte 0xFFFFFFFF#32)

/-- The number of bits set in the low `k` bits of a number. -/
def popCount : Nat → Nat → Nat
  | 0, _ => 0
  | k + 1, n => n % 2 + popCount k (n / 2)

/-- The positions of the bits set in the low `k` bits of a word, in ascending order. -/
def bitsOf (k : Nat) (w : Word) : List Nat := (List.range k).filter (fun i => w.getLsbD i)

/-- An entry put before the first one it need not follow, and a list put in an order by it (equal entries keep theirs). -/
def insertBy {α : Type} (le : α → α → Bool) (x : α) : List α → List α
  | [] => [x]
  | y :: r => if le x y then x :: y :: r else y :: insertBy le x r

def sortBy {α : Type} (le : α → α → Bool) (xs : List α) : List α := xs.foldr (insertBy le) []

/-- Two's complement of a 16-bit field. -/
def int16 (w : Nat) : Int := if w % 65536 < 32768 then (w % 65536 : Int) else (w % 65536 : Int) - 65536

end Sys2Proof.Machine
end

