-- ==== Sys2Proof/Machine/RegTable.lean ====
section
/-! DEFINITION. Machine/RegTable.lean: the writable registers of the KP9600 as rows: where each lies (Register Index, R424
to R426), which commit group it belongs to (R22), which of its bits each requester may store (the RW bits of R7), which
bits are W1C, and its reset value. Every mask is read off the field table of the register's home chapter (the rule named
in the row). A register that is not listed has no stored bits: it reads live state, or reads 0 and ignores writes
(R425). -/

namespace Sys2Proof.Machine

/-- The commit group of a register's writable fields (R22, R424). -/
inductive GroupKind where
  /-- The register belongs to no commit group; its fields act at once. -/
  | none
  /-- A fixed group. -/
  | fixed (g : Nat)
  /-- Group n of channel n (FCHn operation). -/
  | chan
  /-- Group 8 + n of channel n (FCHn layout). -/
  | layout
deriving DecidableEq, Repr

/-- One row of the register table: `count` registers, `stride` bytes apart, from `base`. -/
structure RegRow where
  name   : String
  rule   : String
  base   : Nat
  stride : Nat
  count  : Nat
  group  : GroupKind
  perReq : Bool
  hostRW : Word
  sideRW : Word
  intRW  : Word
  w1c    : Word
  reset  : Word
deriving DecidableEq, Repr

/-- COMMIT. -/
def regRowsCommit : List RegRow :=
  [ ⟨"COMMIT.TIMEOUT", "R23", 0x108, 0x0, 1, .none, true, 0xFFFF#32, 0xFFFF#32, 0xFFFF#32, 0x0#32, 0x2710#32⟩
  , ⟨"COMMIT.STATUS", "R23", 0x114, 0x0, 1, .none, true, 0x0#32, 0x0#32, 0x0#32, 0x2#32, 0x0#32⟩ ]

/-- PLAT. -/
def regRowsPlat : List RegRow :=
  [ ⟨"PLAT.MODE", "R43", 0x200, 0x0, 1, .none, false, 0x0#32, 0x0#32, 0x7#32, 0x0#32, 0x1#32⟩
  , ⟨"PLAT.RSTCAUSE", "R43", 0x208, 0x0, 1, .none, true, 0x0#32, 0x0#32, 0x0#32, 0xFF#32, 0x0#32⟩
  , ⟨"PLAT.PCOUTCFG", "R187", 0x240, 0x4, 24, .fixed 22, false, 0x0#32, 0x0#32, 0x1FF#32, 0x0#32, 0x0#32⟩
  , ⟨"PLAT.PCINCFG", "R187", 0x2A0, 0x4, 16, .fixed 22, false, 0x0#32, 0x0#32, 0xFFC0#32, 0x0#32, 0x0#32⟩
  , ⟨"PLAT.OUTLVL", "R187", 0x2E0, 0x0, 1, .none, false, 0x0#32, 0x0#32, 0x0#32, 0xFF000000#32, 0x0#32⟩
  , ⟨"PLAT.OUTLVL2", "R187", 0x344, 0x0, 1, .none, false, 0x0#32, 0x0#32, 0x0#32, 0xFFFF#32, 0x0#32⟩
  , ⟨"PLAT.SEQCTL", "R187", 0x2E8, 0x0, 1, .fixed 22, false, 0x0#32, 0x0#32, 0xFF01F8#32, 0x0#32, 0xF0#32⟩
  , ⟨"PLAT.SEQENT", "R187", 0x2F0, 0x4, 2, .fixed 22, false, 0x0#32, 0x0#32, 0xFFFFFFFF#32, 0x0#32, 0xFFFFFFFF#32⟩
  , ⟨"PLAT.SEQIDX", "R187", 0x2F8, 0x0, 1, .none, true, 0x1FF#32, 0x1FF#32, 0x1FF#32, 0x0#32, 0x0#32⟩
  , ⟨"PLAT.AGTCFG", "R187", 0x300, 0x4, 8, .fixed 22, false, 0x0#32, 0x0#32, 0xFFFFFF80#32, 0x0#32, 0x330A1800#32⟩ ]

/-- EVT, REC, WDT and CNT. -/
def regRowsEvt : List RegRow :=
  [ ⟨"EVT.IDX", "R378", 0x400, 0x0, 1, .none, true, 0x103FF#32, 0x103FF#32, 0x103FF#32, 0x0#32, 0x0#32⟩
  , ⟨"EVT.CFG", "R378", 0x410, 0x0, 1, .fixed 17, false, 0xFFFF#32, 0xFFFF#32, 0xFFFF#32, 0x0#32, 0xA#32⟩
  , ⟨"EVT.GPIOSTAT", "R378", 0x414, 0x0, 1, .none, false, 0x0#32, 0x0#32, 0x0#32, 0xFFFF#32, 0x0#32⟩
  , ⟨"REC.CFG", "R379", 0x504, 0x0, 1, .fixed 18, false, 0xFF0000#32, 0xFF0000#32, 0xFF0077#32, 0x0#32, 0x640053#32⟩
  , ⟨"WDT.APER", "R188", 0x680, 0x10, 8, .fixed 19, false, 0x0#32, 0x0#32, 0x87FFFFFF#32, 0x0#32, 0x0#32⟩
  , ⟨"WDT.AWIN", "R188", 0x684, 0x10, 8, .fixed 19, false, 0x0#32, 0x0#32, 0xF0FFFFFF#32, 0x0#32, 0x10000000#32⟩
  , ⟨"CNT.CTL", "R380", 0x700, 0x0, 1, .fixed 20, false, 0x0#32, 0x0#32, 0x80000000#32, 0x0#32, 0x0#32⟩
  , ⟨"CNT.STAT", "R380", 0x704, 0x0, 1, .none, false, 0x0#32, 0x0#32, 0x0#32, 0x1#32, 0x0#32⟩
  , ⟨"CNT.IDX", "R380", 0x708, 0x0, 1, .none, true, 0x101FF#32, 0x101FF#32, 0x101FF#32, 0x0#32, 0x0#32⟩
  , ⟨"CNT.SEL", "R380", 0x720, 0x4, 16, .fixed 20, false, 0xBFBFBFBF#32, 0xBFBFBFBF#32, 0xBFBFBFBF#32, 0x0#32, 0x0#32⟩ ]

/-- HOSTQ descriptors. -/
def regRowsHostq : List RegRow :=
  [ ⟨"HOSTQ.BASELO.Q0", "R253", 0x1C0, 0x0, 1, .fixed 16, false, 0xFFFFF000#32, 0x0#32, 0xFFFFF000#32, 0x0#32, 0x0#32⟩
  , ⟨"HOSTQ.BASEHI.Q0", "R253", 0x1C4, 0x0, 1, .fixed 16, false, 0xFFFFFFFF#32, 0x0#32, 0xFFFFFFFF#32, 0x0#32, 0x0#32⟩
  , ⟨"HOSTQ.BASELO.Q1", "R253", 0x1D0, 0x0, 1, .fixed 16, false, 0xFFFFF000#32, 0x0#32, 0xFFFFF000#32, 0x0#32, 0x0#32⟩
  , ⟨"HOSTQ.BASEHI.Q1", "R253", 0x1D4, 0x0, 1, .fixed 16, false, 0xFFFFFFFF#32, 0x0#32, 0xFFFFFFFF#32, 0x0#32, 0x0#32⟩
  , ⟨"HOSTQ.BASELO.Q2", "R253", 0x1E0, 0x0, 1, .fixed 16, false, 0xFFFFF000#32, 0x0#32, 0xFFFFF000#32, 0x0#32, 0x0#32⟩
  , ⟨"HOSTQ.BASEHI.Q2", "R253", 0x1E4, 0x0, 1, .fixed 16, false, 0xFFFFFFFF#32, 0x0#32, 0xFFFFFFFF#32, 0x0#32, 0x0#32⟩
  , ⟨"HOSTQ.BASELO.Q3", "R253", 0x1F0, 0x0, 1, .fixed 16, false, 0xFFFFF000#32, 0x0#32, 0xFFFFF000#32, 0x0#32, 0x0#32⟩
  , ⟨"HOSTQ.BASEHI.Q3", "R253", 0x1F4, 0x0, 1, .fixed 16, false, 0xFFFFFFFF#32, 0x0#32, 0xFFFFFFFF#32, 0x0#32, 0x0#32⟩
  , ⟨"HOSTQ.CFG.Q0", "R253", 0x1C8, 0x0, 1, .fixed 16, false, 0x8F000000#32, 0x0#32, 0x8F000000#32, 0x0#32, 0x4000000#32⟩
  , ⟨"HOSTQ.CFG.Q1", "R253", 0x1D8, 0x0, 1, .fixed 16, false, 0x8F3FFFFF#32, 0x0#32, 0x8F3FFFFF#32, 0x0#32, 0x4000100#32⟩
  , ⟨"HOSTQ.CFG.Q2", "R253", 0x1E8, 0x0, 1, .fixed 16, false, 0xFF3FFFFF#32, 0x0#32, 0xFF3FFFFF#32, 0x0#32, 0x4000100#32⟩
  , ⟨"HOSTQ.CFG.Q3", "R253", 0x1F8, 0x0, 1, .fixed 16, false, 0x8F3FFFFF#32, 0x0#32, 0x8F3FFFFF#32, 0x0#32, 0x4000100#32⟩
  , ⟨"HOSTQ.BASELO.sealing", "R253", 0x800, 0x10, 128, .fixed 16, false, 0xFFFFF000#32, 0x0#32, 0xFFFFF000#32, 0x0#32, 0x0#32⟩
  , ⟨"HOSTQ.BASEHI.sealing", "R253", 0x804, 0x10, 128, .fixed 16, false, 0xFFFFFFFF#32, 0x0#32, 0xFFFFFFFF#32, 0x0#32, 0x0#32⟩
  , ⟨"HOSTQ.CFG.sealSub", "R253", 0x808, 0x20, 64, .fixed 16, false, 0x8F00003F#32, 0x0#32, 0x8F00003F#32, 0x0#32, 0x4000020#32⟩
  , ⟨"HOSTQ.CFG.sealCpl", "R253", 0x818, 0x20, 64, .fixed 16, false, 0x8F3FFFFF#32, 0x0#32, 0x8F3FFFFF#32, 0x0#32, 0x4000100#32⟩ ]

/-- FCHn agent side. -/
def regRowsFchA : List RegRow :=
  [ ⟨"FCH.APORT", "R97", 0x1000, 0x200, 8, .none, false, 0x0#32, 0x0#32, 0x0#32, 0x1000000#32, 0x0#32⟩
  , ⟨"FCH.ACFG", "R97", 0x1004, 0x200, 8, .chan, false, 0x0#32, 0x0#32, 0xFFFF3FFF#32, 0x0#32, 0x320200#32⟩
  , ⟨"FCH.EMUL", "R97", 0x1008, 0x200, 8, .chan, false, 0x0#32, 0x0#32, 0x1FFFFFF#32, 0x0#32, 0x140000#32⟩
  , ⟨"FCH.FAILREG", "R97", 0x100C, 0x200, 8, .chan, false, 0x0#32, 0x0#32, 0xFFFFFF#32, 0x0#32, 0x888888#32⟩
  , ⟨"FCH.BLOCKBUSY", "R97", 0x1010, 0x200, 8, .chan, false, 0x0#32, 0x0#32, 0xFFFF#32, 0x0#32, 0x0#32⟩
  , ⟨"FCH.JEDEC0", "R97", 0x1014, 0x200, 8, .chan, false, 0x0#32, 0x0#32, 0xFFFFFFFF#32, 0x0#32, 0x0#32⟩
  , ⟨"FCH.JEDEC1", "R97", 0x1018, 0x200, 8, .chan, false, 0x0#32, 0x0#32, 0xFFFFFFFF#32, 0x0#32, 0x0#32⟩
  , ⟨"FCH.JEDEC2", "R97", 0x101C, 0x200, 8, .chan, false, 0x0#32, 0x0#32, 0xFFFFFFFF#32, 0x0#32, 0x0#32⟩
  , ⟨"FCH.JEDEC3", "R97", 0x1020, 0x200, 8, .chan, false, 0x0#32, 0x0#32, 0xFFFFFFFF#32, 0x0#32, 0x0#32⟩
  , ⟨"FCH.HBADDR", "R97", 0x1024, 0x200, 8, .chan, false, 0x0#32, 0x0#32, 0xFFFFF000#32, 0x0#32, 0x0#32⟩
  , ⟨"FCH.MSW0", "R97", 0x1028, 0x200, 8, .chan, false, 0x0#32, 0x0#32, 0x801FFFFF#32, 0x0#32, 0x0#32⟩
  , ⟨"FCH.MSW1", "R97", 0x102C, 0x200, 8, .chan, false, 0x0#32, 0x0#32, 0x801FFFFF#32, 0x0#32, 0x0#32⟩
  , ⟨"FCH.MSW2", "R97", 0x1030, 0x200, 8, .chan, false, 0x0#32, 0x0#32, 0x801FFFFF#32, 0x0#32, 0x0#32⟩
  , ⟨"FCH.MSW3", "R97", 0x1034, 0x200, 8, .chan, false, 0x0#32, 0x0#32, 0x801FFFFF#32, 0x0#32, 0x0#32⟩
  , ⟨"FCH.OPIDX", "R97", 0x1038, 0x200, 8, .none, true, 0x1FF#32, 0x1FF#32, 0x1FF#32, 0x0#32, 0x0#32⟩
  , ⟨"FCH.SFDPIDX", "R97", 0x1040, 0x200, 8, .none, true, 0x1FF#32, 0x1FF#32, 0x1FF#32, 0x0#32, 0x0#32⟩ ]

/-- FCHn device side and Trellis. -/
def regRowsFchB : List RegRow :=
  [ ⟨"FCH.STIDX", "R125", 0x1080, 0x200, 8, .none, true, 0xFF#32, 0xFF#32, 0xFF#32, 0x0#32, 0x0#32⟩
  , ⟨"FCH.RGIDX", "R125", 0x1090, 0x200, 8, .none, true, 0xFF#32, 0xFF#32, 0xFF#32, 0x0#32, 0x0#32⟩
  , ⟨"FCH.VCFG", "R125", 0x10A0, 0x200, 8, .layout, false, 0x0#32, 0x0#32, 0x3F#32, 0x0#32, 0x0#32⟩
  , ⟨"FCH.PHASE", "R125", 0x10A4, 0x200, 8, .chan, false, 0x0#32, 0x0#32, 0xFFFFFFFC#32, 0x0#32, 0x2580010#32⟩
  , ⟨"FCH.SLOT0", "R125", 0x10A8, 0x200, 8, .layout, false, 0x0#32, 0x0#32, 0x10#32, 0x0#32, 0x0#32⟩
  , ⟨"FCH.SLOT1", "R125", 0x10AC, 0x200, 8, .layout, false, 0x0#32, 0x0#32, 0x10#32, 0x0#32, 0x0#32⟩
  , ⟨"FCH.SLOT2", "R125", 0x10B0, 0x200, 8, .layout, false, 0x0#32, 0x0#32, 0x10#32, 0x0#32, 0x0#32⟩
  , ⟨"FCH.SLOT3", "R125", 0x10B4, 0x200, 8, .layout, false, 0x0#32, 0x0#32, 0x10#32, 0x0#32, 0x0#32⟩
  , ⟨"FCH.SLOTCFG0", "R125", 0x10B8, 0x200, 8, .layout, false, 0x0#32, 0x0#32, 0xCFFF0FFF#32, 0x0#32, 0x0#32⟩
  , ⟨"FCH.SLOTCFG1", "R125", 0x10BC, 0x200, 8, .layout, false, 0x0#32, 0x0#32, 0xCFFF0FFF#32, 0x0#32, 0x0#32⟩
  , ⟨"FCH.SLOTCFG2", "R125", 0x10C0, 0x200, 8, .layout, false, 0x0#32, 0x0#32, 0xCFFF0FFF#32, 0x0#32, 0x0#32⟩
  , ⟨"FCH.SLOTCFG3", "R125", 0x10C4, 0x200, 8, .layout, false, 0x0#32, 0x0#32, 0xCFFF0FFF#32, 0x0#32, 0x0#32⟩
  , ⟨"FCH.DPART0", "R125", 0x10C8, 0x200, 8, .layout, false, 0x0#32, 0x0#32, 0xFFFF03F#32, 0x0#32, 0x32F000#32⟩
  , ⟨"FCH.DPART1", "R125", 0x10CC, 0x200, 8, .layout, false, 0x0#32, 0x0#32, 0xFFFF03F#32, 0x0#32, 0x32F000#32⟩
  , ⟨"FCH.WEARCFG", "R125", 0x10DC, 0x200, 8, .chan, false, 0x0#32, 0x0#32, 0xFFFFFFFF#32, 0x0#32, 0x0#32⟩
  , ⟨"FCH.TVCFG", "R165", 0x1100, 0x200, 8, .chan, false, 0x0#32, 0x0#32, 0xFFFFFF18#32, 0x0#32, 0x19050108#32⟩
  , ⟨"FCH.QUOTA", "R165", 0x1104, 0x200, 8, .fixed 24, false, 0x0#32, 0x0#32, 0xFFFF#32, 0x0#32, 0x10#32⟩
  , ⟨"FCH.CREDIT", "R165", 0x1108, 0x200, 8, .fixed 24, false, 0x0#32, 0x0#32, 0x1F#32, 0x0#32, 0x10#32⟩
  , ⟨"FCH.BADIDX", "R165", 0x1130, 0x200, 8, .none, true, 0x7F#32, 0x7F#32, 0x7F#32, 0x0#32, 0x0#32⟩ ]

/-- CELLAR, SEAL, CRYPTO and IDENT. -/
def regRowsMid : List RegRow :=
  [ ⟨"CELLAR.CFG", "R166", 0x2210, 0x0, 1, .fixed 24, false, 0x0#32, 0x0#32, 0xFFFFFF00#32, 0x0#32, 0x1004000#32⟩
  , ⟨"CELLAR.PCREDIT", "R166", 0x2214, 0x0, 1, .fixed 24, false, 0x0#32, 0x0#32, 0xFFFF00#32, 0x0#32, 0x280840#32⟩
  , ⟨"SEAL.CTL", "R218", 0x2400, 0x0, 1, .fixed 21, false, 0x0#32, 0x0#32, 0xC3FFFFFF#32, 0x0#32, 0xFA03E8#32⟩
  , ⟨"SEAL.ANCHCFG", "R218", 0x2404, 0x0, 1, .fixed 21, false, 0x0#32, 0x0#32, 0xFFFFFFFF#32, 0x0#32, 0x3C0005#32⟩
  , ⟨"SEAL.STRIDX", "R218", 0x244C, 0x0, 1, .none, true, 0x1FFF#32, 0x1FFF#32, 0x1FFF#32, 0x0#32, 0x0#32⟩
  , ⟨"CRYPTO.CFG", "R325", 0x2610, 0x0, 1, .fixed 25, false, 0x0#32, 0x0#32, 0xFF80FFFF#32, 0x0#32, 0x3C8003E8#32⟩
  , ⟨"CRYPTO.CASKIDX", "R325", 0x2620, 0x0, 1, .none, true, 0xFF#32, 0xFF#32, 0xFF#32, 0x0#32, 0x0#32⟩
  , ⟨"IDENT.VSEL", "R353", 0x30, 0x0, 1, .none, true, 0x1F#32, 0x1F#32, 0x1F#32, 0x0#32, 0x0#32⟩
  , ⟨"IDENT.TCLASS0", "R354", 0xC0, 0x0, 1, .fixed 30, false, 0x0#32, 0x0#32, 0x3FFFFFFF#32, 0x0#32, 0x0#32⟩
  , ⟨"IDENT.TCLASS1", "R354", 0xC4, 0x0, 1, .fixed 30, false, 0x0#32, 0x0#32, 0x3FFFFFFF#32, 0x0#32, 0x94926DB#32⟩
  , ⟨"IDENT.TINCFG", "R354", 0xC8, 0x0, 1, .fixed 30, false, 0x0#32, 0x0#32, 0xFFFFFFFF#32, 0x0#32, 0x0#32⟩
  , ⟨"IDENT.TMESH", "R354", 0xCC, 0x0, 1, .fixed 30, false, 0x0#32, 0x0#32, 0xC0000CFF#32, 0x0#32, 0x444#32⟩
  , ⟨"IDENT.TSTAT", "R354", 0xD0, 0x0, 1, .none, false, 0x0#32, 0x0#32, 0x0#32, 0xFFFFF#32, 0x0#32⟩
  , ⟨"IDENT.THIDX", "R354", 0xE0, 0x0, 1, .none, true, 0xF#32, 0xF#32, 0xF#32, 0x0#32, 0x0#32⟩ ]

/-- AUX, GPIO, UART, SIDE, TLM and CLKPWR. -/
def regRowsLow : List RegRow :=
  [ ⟨"AS.CFG", "R423", 0x2800, 0x40, 2, .fixed 26, false, 0xE0FFFFFF#32, 0xE0FFFFFF#32, 0xE0FFFFFF#32, 0x0#32, 0x80200258#32⟩
  , ⟨"AS.SELCFG", "R423", 0x2804, 0x40, 2, .fixed 26, false, 0x7777#32, 0x7777#32, 0x7777#32, 0x0#32, 0x0#32⟩
  , ⟨"AS.STAT", "R423", 0x280C, 0x40, 2, .none, false, 0x0#32, 0x0#32, 0x0#32, 0x7C000000#32, 0x0#32⟩
  , ⟨"AS.BIDX", "R423", 0x2810, 0x40, 2, .none, true, 0x3FF#32, 0x3FF#32, 0x3FF#32, 0x0#32, 0x0#32⟩
  , ⟨"GPIO.MODE", "R423", 0x2880, 0x0, 1, .fixed 26, false, 0x0#32, 0x0#32, 0xFFFFFFFF#32, 0x0#32, 0x0#32⟩
  , ⟨"GPIO.DRV", "R423", 0x2884, 0x0, 1, .fixed 26, false, 0x0#32, 0x0#32, 0xFFFFFFFF#32, 0x0#32, 0x0#32⟩
  , ⟨"GPIO.OUT", "R423", 0x2888, 0x0, 1, .none, false, 0xFFFF#32, 0xFFFF#32, 0xFFFF#32, 0x0#32, 0x0#32⟩
  , ⟨"GPIO.EVEN", "R423", 0x2890, 0x0, 1, .fixed 26, false, 0x0#32, 0x0#32, 0xFFFF#32, 0x0#32, 0x0#32⟩
  , ⟨"UART.CFG", "R423", 0x28A0, 0x0, 1, .fixed 26, false, 0x0#32, 0x0#32, 0xFFFF#32, 0x0#32, 0x146#32⟩
  , ⟨"UART.STAT", "R423", 0x28A4, 0x0, 1, .none, false, 0x0#32, 0x0#32, 0x0#32, 0x4#32, 0x0#32⟩
  , ⟨"SIDE.CFG", "R422", 0x2A00, 0x0, 1, .fixed 27, false, 0x0#32, 0x0#32, 0x3F3F#32, 0x0#32, 0x2D2D#32⟩
  , ⟨"SIDE.STAT", "R422", 0x2A04, 0x4, 2, .none, false, 0x0#32, 0x0#32, 0x0#32, 0xFF000000#32, 0x0#32⟩
  , ⟨"TLM.CFG", "R381", 0x2C00, 0x0, 1, .fixed 28, false, 0xFFFF#32, 0xFFFF#32, 0xFFFF#32, 0x0#32, 0x3E8#32⟩
  , ⟨"TLM.IDX", "R381", 0x2C08, 0x0, 1, .none, true, 0xFF#32, 0xFF#32, 0xFF#32, 0x0#32, 0x0#32⟩
  , ⟨"CLKPWR.MON", "R402", 0x2E00, 0x0, 1, .none, false, 0x0#32, 0x0#32, 0x0#32, 0xF#32, 0x0#32⟩
  , ⟨"CLKPWR.CFG", "R402", 0x2E0C, 0x0, 1, .fixed 29, false, 0x0#32, 0x0#32, 0xFFFF#32, 0x0#32, 0x6E64#32⟩ ]

/-- Every row of the register table. -/
def regRows : List RegRow :=
  regRowsCommit ++ regRowsPlat ++ regRowsEvt ++ regRowsHostq ++ regRowsFchA ++ regRowsFchB ++ regRowsMid ++ regRowsLow

/-- Whether `off` is one of the registers of the row. -/
def RegRow.holds (r : RegRow) (off : Nat) : Bool :=
  if r.stride = 0 then off == r.base
  else decide (r.base ≤ off ∧ off < r.base + r.stride * r.count ∧ (off - r.base) % r.stride = 0)

/-- The row of a register offset, where it has stored bits. -/
def regRow? (off : Nat) : Option RegRow := regRows.find? (fun r => r.holds off)

/-- The keys of the indexed tables, above the 64 KiB of register offsets: the opcode tables (R70), the stitch tables
(R99), the region tables (R103), the sequencer program (R172) and the event routes (R359). -/
def opKey (n i : Nat) : Nat := 0x10000 + 0x100 * n + i
def stKey (n i k : Nat) : Nat := 0x20000 + 0x1000 * n + 4 * i + k
def rgKey (n i k : Nat) : Nat := 0x30000 + 0x1000 * n + 4 * i + k
def seqKey (i : Nat) : Nat := 0x40000 + i
def routeKey (src : Nat) : Nat := 0x50000 + src

/-- Word i of the SFDP image of channel n: a key of the staged copies alone, for what firmware writes there (R97). -/
def sfdpKey (n i : Nat) : Nat := 0x60000 + 0x100 * n + i

/-- The channel a per-channel register offset belongs to. -/
def chanOf (off : Nat) : Nat := (off - 0x1000) / 0x200

/-- The value a stored register or table entry has after a device restart (R424, R125, R187, R378). -/
def regReset (key : Nat) : Word :=
  if key < 0x10000 then (match regRow? key with | some r => r.reset | none => 0#32)
  else if 0x50000 ≤ key ∧ key < 0x60000 then 0x40000000#32
  else 0#32

/-- The commit group of a key (R22); `none` where it belongs to none. -/
def groupOf (key : Nat) : Option Nat :=
  if key < 0x10000 then
    match regRow? key with
    | some r => (match r.group with
        | .none => none
        | .fixed g => some g
        | .chan => some (chanOf key)
        | .layout => some (8 + chanOf key))
    | none => none
  else if key < 0x20000 then some ((key - 0x10000) / 0x100)
  else if key < 0x30000 then some (8 + (key - 0x20000) / 0x1000)
  else if key < 0x40000 then some (8 + (key - 0x30000) / 0x1000)
  else if key < 0x50000 then some 22
  else if key < 0x60000 then some 17
  else some ((key - 0x60000) / 0x100)

/-- The bits of a table entry that are no reserved ones (R6): of an opcode entry 24:0 (R70), of an extent's words (R99), of a
region's words (R103); a sequencer word and an SFDP word have none. -/
def tableBits (key : Nat) : Word :=
  if key < 0x20000 then 0x01FFFFFF#32
  else if key < 0x30000 then (if key % 4 = 0 then 0xFFFFFFF0#32 else if key % 4 = 1 then 0xFFFFF000#32 else 0x001FFFFF#32)
  else if key < 0x40000 then (if key % 4 = 0 then 0xFFFFFFFF#32 else if key % 4 = 1 then 0x001FFFFF#32 else 0x00010777#32)
  else 0xFFFFFFFF#32

/-- The bits of a key that a requester's write stores (R7). A route's lock is looked up by the caller (R359). -/
def rwMask (req : Req) (key : Nat) : Word :=
  if key < 0x10000 then
    match regRow? key with
    | some r => (match req with | .host => r.hostRW | .side => r.sideRW | .int => r.intRW)
    | none => 0#32
  else if key < 0x50000 ∨ 0x60000 ≤ key then (match req with | .int => tableBits key | _ => 0#32)
  else (match req with | .int => 0xF83F8F00#32 | _ => 0x483F8F00#32)

end Sys2Proof.Machine
end

