-- ==== Sys2Proof/Machine/Types.lean ====
section
/-! DEFINITION. Machine/Types.lean: the types of the parts of the state. -/

namespace Sys2Proof.Machine

/-- The six operating modes and their codes in PLAT.MODE.MODE (R39). -/
inductive Mode where
  | shelf | hold | verify | guard | recover | lockdown
deriving DecidableEq, Repr

/-- The six per-agent states and their codes in PLAT.AGENT (R43, R44). -/
inductive AgentSt where
  | disabled | held | decanting | released | quarantined | reimaging
deriving DecidableEq, Repr

/-- The phases of an agent and their codes in FCHn.PHASE (R106). -/
inductive Phase where
  | boot | run | update
deriving DecidableEq, Repr

/-- The states of an image slot and their codes in FCHn.SLOTk.UPD (R117). -/
inductive Upd where
  | idle | verifying | copying | waitPart | flipPending | confirming | burning | rollingBack
deriving DecidableEq, Repr

/-- The completion status codes (R231). -/
inductive Status where
  | ok | noop | invalidOpcode | invalidField | notPermitted | busyRetry | keyRevoked | verifyFail | staleGeneration
  | dmaError | aborted | resourceExhausted | deviceFault
deriving DecidableEq, Repr

/-- A sparse register store: (key, value), keys strictly rising. -/
abbrev Store := List (Nat × Word)

/-- The register copies and latches of one requester (R16, R23, R25). -/
structure ReqView where
  /-- staged entries of this requester's shadow copy, by key -/
  staged : Store
  /-- this requester's own registers (index registers, COMMIT.TIMEOUT), by offset -/
  own : Store
  /-- low-half read latches: offset of the low half, high half latched -/
  latch : Store
  /-- the 64-bit write latch: offset of the low half, its value -/
  wlatch : Option (Nat × Word)
  /-- COMMIT.STATUS.RESULT -/
  result : Status
  /-- COMMIT.STATUS.REFUSED -/
  refused : Bool
  lastMask : Word
  failGrp : Word
  /-- PLAT.RSTCAUSE bits 7:0 -/
  rstcause : Word
  /-- REC.RDNO and the record REC.RDATA shows (R364) -/
  rdno : Nat
  /-- sampled words: REC.RDATA, SEAL.STRDATA, CRYPTO.CASKDATA, IDENT.THDATA and TLM.DATA, by offset -/
  sample : Store
  /-- EVERY channel's FCHn.VMAX for this requester, ns (R165) -/
  vmax : List Nat
deriving DecidableEq, Repr

/-- The register file: the active copy, the sticky W1C bits, the three requesters' copies and the commit engine. -/
structure Regs where
  active : Store
  sticky : Store
  host : ReqView
  side : ReqView
  int : ReqView
  /-- COMMIT.GEN -/
  gen : Word
  /-- the commit in progress: requester and mask (R19) -/
  cur : Option (Req × Word)
  /-- the GOs waiting in their slots, in order of arrival (R19) -/
  waiting : List (Req × Word)
deriving DecidableEq, Repr

/-- A raise of an event source (R356). -/
structure Raise where
  src : Nat
  sev : Nat
  arg : Nat
deriving DecidableEq, Repr

/-- The record kinds (R362). -/
inductive RecKind where
  | event | cleared | start | degraded | gap
deriving DecidableEq, Repr

/-- An event record (R362). -/
structure Rec where
  recno : Nat
  src : Nat
  sev : Nat
  kind : RecKind
  time : DWord
  cycle : Nat
  count : Nat
  arg : Nat
deriving DecidableEq, Repr

/-- The pending count of a source with a record in flight (R357). -/
structure PendCnt where
  src : Nat
  count : Nat
  sev : Nat
  arg : Nat
deriving DecidableEq, Repr

/-- A block of the event journal (R365). -/
structure JBlock where
  bseq : Nat
  first : Bool
  prevFailed : Bool
  carried : Bool
  recs : List Rec
  /-- the MAC chain is broken at this block (R365, R367) -/
  bad : Bool
deriving DecidableEq, Repr

/-- The event router and the recorder (R355 to R368). -/
structure Evt where
  /-- raises on their way to the router, oldest first -/
  transit : List Raise
  /-- records formed and not yet written to the ring, oldest first -/
  inflight : List Rec
  pend : List PendCnt
  /-- stored ring records in RECNO order, each with its reclaimable mark -/
  ring : List (Rec × Bool)
  nextNo : Nat
  clearNo : Nat
  /-- REC.SUPPR0 to 7 -/
  suppr : List Nat
  /-- raises per severity since restart: all, recorded, coalesced, suppressed (R27, R376) -/
  raisedN : List Nat
  recordedN : List Nat
  coalescedN : List Nat
  suppressedN : List Nat
  /-- EV875 is raised at the first suppression after a stored record -/
  supprSince : Bool
  staging : List Rec
  /-- blocks handed to the vault port and not yet durable, oldest first -/
  jwait : List JBlock
  journal : List JBlock
  /-- RECNOs up to this one are reclaimable in the journal (R366) -/
  jClear : Nat
  /-- (RECNO, times carried) of journal records carried forward (R366) -/
  jCarried : List (Nat × Nat)
  nextBseq : Nat
  /-- REC.JHEAD -/
  jhead : Nat
  firstBlock : Bool
  prevBad : Bool
  ringFail : Bool
  jFail : Bool
  /-- vectors whose MSIGAP is running, with whether a raise is carried (R360) -/
  msiGap : List (Nat × Bool)
deriving DecidableEq, Repr

/-- The last-mode record (R55). -/
structure LastRec where
  seq : Nat
  mode : Nat
  cause : Nat
  lifecycle : Nat
  flags : Nat
  rtc : DWord
  agents : Nat
  commitGen : Nat
  policyId : Nat
deriving DecidableEq, Repr

/-- The start-up steps of R45 that have completed. -/
structure Boot where
  pll : Bool
  vault : Bool
  /-- the Rootstock step has ended, with or without a root (R296, R297) -/
  root : Bool
  selfTest : Bool
  /-- the self-tests have failed in the DRBG's instantiation alone, which is tried again (R319) -/
  rngHeld : Bool
  firmware : Bool
  policy : Bool
  /-- channels whose bring-up has ended, good or bad -/
  brought : List Nat
deriving DecidableEq, Repr

/-- Modes and start-up (R39 to R57). -/
structure Plat where
  mode : Mode
  prev : Mode
  cause : Nat
  awaitPolicy : Bool
  romsvc : Bool
  lastValid : Bool
  /-- the last-mode record found at this start (PLAT.LASTREC) -/
  lastRec : Option LastRec
  /-- PERST_N and HALT_N levels -/
  perstN : Bool
  haltN : Bool
  /-- µs to VERIFY and to GUARD, 0xFFFF_FFFF until reached -/
  holdTime : Word
  guardTime : Word
  /-- time of main power-good or of the device restart -/
  restartAt : Nat
  boot : Boot
  /-- a shut door on firmware: both pairs run (R45), the mask ROM serves (R52) -/
  fwRuns : Bool
  /-- event sources of the exceptions held in the Warden and the Steward exception queues (R10) -/
  excWarden : List Nat
  excSteward : List Nat
  /-- the port whose eye is being trained again (R37, R121): 0 to 7, or 8 the vault's -/
  training : Option Nat
  /-- this start followed main power-good; the Keeper had lost its power before it (R56) -/
  porStart : Bool
  keepLost : Bool
deriving DecidableEq, Repr

/-- What the Keeper domain retains (R55, R56, R208, R349 to R351, R368, R389). -/
structure Keeper where
  vbat : Bool
  /-- RTC: valid, its value in KEEP ticks at `rtcAt` -/
  rtcValid : Bool
  rtcBase : Nat
  rtcAt : Nat
  shelfTime : DWord
  /-- the two last-mode slots; none where the CRC does not match -/
  slot0 : Option LastRec
  slot1 : Option LastRec
  /-- the Keeper lost its power since the last start -/
  lost : Bool
  /-- Last Word registers, LWVALID -/
  lw : List Word
  lwValid : Bool
  /-- tamper latch: TLATCH, its time, TSTAT.TRIP, the count of trips -/
  tlHolding : Bool
  tlClass : Nat
  tlSource : Nat
  tlTrips : Nat
  tlTime : DWord
  trip : Word
  /-- tamper history: up to eight records of four words -/
  thist : List (List Word)
  thNext : Nat
  /-- retained WD0 count, its stored inverse and LASTCAUSE (R389) -/
  wdCount : Nat
  wdInv : Nat
  lastCause : Nat
  /-- the clock event that a LASTCAUSE of 4 reports at the next start (R389, R393) -/
  fatalEv : Nat
  /-- the debug latch (R343) -/
  dbgLatch : Bool
deriving DecidableEq, Repr

/-- The kinds of an accepted agent operation (R83). -/
inductive OpKind where
  | program | erase
deriving DecidableEq, Repr

/-- Where an accepted agent operation stands (R83, R86, R87, R110): waiting in arbitration, held there by a SUSPEND, running,
suspended on its part, or resumed while another operation runs, its resume command still to be sent. -/
inductive OpSt where
  | waiting | heldInArb | running | suspended | resumeWait
deriving DecidableEq, Repr

/-- An accepted agent program or erase (R83, R92). -/
structure AgentOp where
  kind : OpKind
  st : OpSt
  /-- virtual byte address and length of its range -/
  base : Nat
  len : Nat
  /-- the parts it runs on: an erase may cover extents of both (R102) -/
  parts : List PartId
  /-- the program latch (R92) -/
  payload : List Byte
  /-- a SUSPEND waits for the minimum resume-to-suspend interval (R86) -/
  suspendHeld : Bool
  /-- an EV at severity 5 has reported that it is past its maximum time (R83) -/
  late : Bool
deriving DecidableEq, Repr

/-- What an SFDP image is built from (R79): the committed words of group n and the virtual size, the opcode entries with their
opcodes, the times of the physical parts. -/
structure SfdpSrc where
  regs : List Word
  vpages : Nat
  ops : List (Nat × Word)
  times : List (List Nat)
deriving DecidableEq, Repr

/-- The agent-side port of a channel (R58 to R97). -/
structure Port where
  mode : Nat
  addr4 : Bool
  /-- continuous read armed: the opcode whose entry the next transaction uses (R76) -/
  xip : Option Byte
  rstEn : Bool
  /-- driving stopped until the agent is released again (R90, R91) -/
  stopped : Bool
  srHigh : Byte
  cr : Byte
  wip : Bool
  wel : Bool
  pfail : Bool
  efail : Bool
  prot : Bool
  /-- blocked-write emulation busy (R84) -/
  blockBusy : Bool
  /-- accepted operations, innermost first (R87) -/
  ops : List AgentOp
  sclkMhz : Nat
  /-- opcodes whose entry is hit-only (R65) -/
  hitOnly : List Nat
  /-- what the SFDP image was last built from; none before the first build (R79) -/
  sfdp : Option SfdpSrc
  /-- words of the image that firmware has written since through SFDPDATA (R97) -/
  sfdpInt : Store
  srvCellar : Nat
  srvRt : Nat
  synth : Nat
  underruns : Nat
  refusals : Nat
  blocks : Nat
  hbok : Nat
  hbbad : Nat
deriving DecidableEq, Repr

/-- Who keeps a part busy (R107, R108). -/
inductive Busy where
  | agent | copy | refresh | repair | recovery | vault
deriving DecidableEq, Repr

/-- A physical part of a channel or of the vault (R119 to R123, R456). -/
structure Part where
  present : Bool
  failed : Bool
  mismatch : Bool
  /-- trained SCLK, MHz; window, tap and die temperature of the last training -/
  sclk : Nat
  window : Nat
  tap : Nat
  /-- per-bit data delays, taps -/
  bits : List Nat
  temp : Nat
  /-- device-side command latency, ns (DLAT) -/
  dlat : Nat
  /-- SFDP: erase unit in bytes, erase types in bytes, suspend given, program allowed during erase suspend -/
  unit : Nat
  erases : List Nat
  canSuspend : Bool
  progInErase : Bool
  times : List Nat
  /-- log2 of the size SFDP reports -/
  sizeLog : Nat
  busy : Option Busy
  /-- the KP9600's own program or erase is suspended for a redirect (R455) -/
  susp : Bool
  /-- escalation of R122: 0 normal, 1 second period, 2 software reset, 3 RST_N pulse -/
  stage : Nat
  /-- refresh erases in the 30-day period; (unit, time) of the refreshes since (R123) -/
  used : Nat
  refreshed : List (Nat × Nat)
  /-- the refresh in progress: slot, unit, last completed step; a refresh waits on the exposed part (R107, R123) -/
  refresh : Option (SlotId × Nat × Nat)
  refreshWaits : Bool
deriving DecidableEq, Repr

/-- An update in progress in a slot (R111 to R118). -/
structure Update where
  man : Manifest
  flipNow : Bool
  step : Nat
  nsteps : Nat
  fails : Nat
  oldAct : Bool
  hb : Nat
  /-- the confirmation window is open: the agent has been released since the flip -/
  windowOpen : Bool
deriving DecidableEq, Repr

/-- An image slot (R98, R117, R125). -/
structure Slot where
  upd : Upd
  inactValid : Bool
  goldValid : Bool
  progress : Nat
  /-- staging window locked (R111) -/
  locked : Bool
  /-- its ACT commit waits for the commit in progress (R19) -/
  actWait : Bool
  up : Option Update
  /-- the manifests last verified of copies A, B and GOLDEN -/
  manA : Option Manifest
  manB : Option Manifest
  manG : Option Manifest
deriving DecidableEq, Repr

/-- A pending DEFERRED verdict (R144, R147, R458). -/
structure Pend where
  pg : PageId
  /-- the copy code the bytes come from -/
  copy : Nat
  /-- an In-flight frame receives the page; false where R458 streams it -/
  framed : Bool
  /-- time of the launch of the first byte served -/
  at_ : Nat
  /-- judged LATE already, its verification still running -/
  late : Bool
deriving DecidableEq, Repr

/-- A Graft in progress on a page or node (R158, R159). -/
structure Graft where
  pg : PageId
  copy : Nat
  node : Bool
  served : Bool
  /-- the page is of the pinned set, during Decanting -/
  pinned : Bool
  /-- the candidates not tried yet, in order, by their copy codes (R158) -/
  left : List Nat
deriving DecidableEq, Repr

/-- A repair of an erase unit of a copy (R160): its part and physical address; the image pages and the nodes of the unit that failed;
the last completed step. -/
structure Repair where
  slot : SlotId
  copy : Nat
  part : PartId
  unit : Nat
  pages : List Nat
  nodes : List Nat
  /-- a manifest of the unit is replaced too (R158) -/
  manifest : Bool
  step : Nat
  fails : Nat
  /-- it waits on an exposed part (R107) -/
  waits : Bool
deriving DecidableEq, Repr

/-- SRC and DST of the repair's intent record (R127): the unit's page, and the location, 2 and 3 for the vault's parts. -/
def Repair.place (r : Repair) : Nat := r.unit / 4096 * 4096 + r.part.val + (if r.copy = 8 then 2 else 0)

/-- The Racking cursor of a channel or of the vault (R153). Of the vault's, `copy` is 8 in the golden agent images and 9 in the
firmware copies, and `slot` which of them. -/
structure Cursor where
  copy : Nat
  slot : Nat
  metaPages : Bool
  span : Nat
  share : Nat
  cycles : Nat
  /-- a cycle has completed since the previous Harvest (R156), and the RTC at the last one (R262) -/
  done : Bool
  lastCyc : DWord
deriving DecidableEq, Repr

/-- A flash channel with its agent (chapters 03 to 05). -/
structure Chan where
  st : AgentSt
  phase : Phase
  /-- time of the last release -/
  relAt : Nat
  port : Port
  slots : Vector Slot 4
  parts : Vector Part 2
  /-- channel bring-up: ended good -/
  brought : Bool
  resv : Nat
  verdicts : List Pend
  bad : List PageId
  grafts : List Graft
  repairs : List Repair
  repairsDone : Nat
  nofit : Bool
  vslow : Bool
  vworst : Nat
  vpass : Nat
  vfail : Nat
  vlate : Nat
  rackErr : Nat
  cur : Cursor
  failpg : Word
  /-- the page of a quarantine that AUTOREL may end: passed or substituted, Span Racked again (R162) -/
  autorel : Option (PageId × Bool × Bool)
  /-- the whole pinned set has been found Pinned since Decanting began -/
  setRes : Bool
  /-- how far Decanting has come since it began: pages of the pinned set, then pages of the PREFETCH ranges; PREFETCH has ended (R137) -/
  decAt : Nat
  prefAt : Nat
  prefEnd : Bool
deriving DecidableEq, Repr

/-- The states of a Cellar frame (R142). -/
inductive FrameSt where
  | inflight | resident | pinned
deriving DecidableEq, Repr

/-- The tag of a frame that is not Free (R142). -/
structure Frame where
  no : Nat
  st : FrameSt
  node : Bool
  ch : Nat
  slot : Nat
  copy : Nat
  index : Nat
  anchor : Bool
  graft : Bool
  ref : Bool
deriving DecidableEq, Repr

/-- The Cellar (R142 to R145). -/
structure Cellar where
  /-- the frames that are not Free, in frame-number order -/
  frames : List Frame
  /-- logical banks lost beyond the spare -/
  lost : List Nat
  /-- physical bank of each logical bank -/
  map : List Nat
  idle : Option Nat
  /-- physical banks mapped out -/
  out : List Nat
  /-- a failing logical bank is being copied to the idle bank -/
  copying : Option Nat
  testing : Bool
  /-- banks the full memory test has still to test -/
  toTest : List Nat
  testDone : Bool
  nofit : Bool
  uncorr : Nat
  /-- the hands of the second-chance clock, of data frames and of node frames (R144) -/
  hand : Nat
  nodeHand : Nat
  harvests : Nat
  harvTime : DWord
deriving DecidableEq, Repr

/-- A Press job that outlives one command (R150): its class of R151, its channel where it has one, a tag; of Decanting, which goes by
release stage (R138). -/
structure Job where
  cls : Nat
  ch : Option Nat
  tag : Nat
  engine : Nat
  decant : Bool := false
deriving DecidableEq, Repr

/-- A job of the sealing classes (R151). -/
def Job.sealing (j : Job) : Bool := decide (j.cls = 3 ∨ j.cls = 5)

/-- An intent record of the vault's intent journal (R127). `macOk`: its MAC verifies under the journal key in force. -/
structure Intent where
  seq : Nat
  kind : Nat
  chan : Nat
  slot : Nat
  state : Nat
  step : Nat
  nsteps : Nat
  src : Nat
  dst : Nat
  arg : Nat
  macOk : Bool
deriving DecidableEq, Repr

/-- The vault port and what its part holds (R126 to R128). -/
structure Vault where
  parts : Vector Part 2
  size0 : Nat
  size1 : Nat
  busMode : Nat
  intents : List Intent
  nextSeq : Nat
  golden : List Golden
  cur : Cursor
  /-- the sequence numbers of header copies A and B; none where a copy does not verify (R126) -/
  hdrA : Option Nat
  hdrB : Option Nat
  /-- erases of each wear-levelled area, by its offset (R37, R128) -/
  wear : List (Nat × Nat)
  /-- the compaction in progress: of the key journal or not, steps completed, steps in all (R15, R127) -/
  compact : Option (Bool × Nat × Nat)
  /-- the active copies named in the vault header: 4n + k where slot k of channel n runs copy B (R297) -/
  acts : List Nat
deriving DecidableEq, Repr

/-- What an agent's platform control and its watchdog hold (R177 to R183, R187, R188). -/
structure AgentCtl where
  /-- AGTSTAT.QCAUSE, QCOUNT and WDRST -/
  qcause : Nat
  qcount : Nat
  wdrst : Nat
  /-- held by HALT_N, and the urgent stop latch -/
  halt : Bool
  stop : Bool
  /-- an urgent RELEASE has named it while HALT_N was low: HALTLATCH holds it no longer (R171, R178) -/
  haltFreed : Bool
  /-- path and FAB cycle of the last STOP that named it (R178) -/
  stopAt : Option (Bool × Nat)
  /-- its linked PWREN pin was deasserted under QPWROFF: only its subprogram asserts it again (R179) -/
  pwrOff : Bool
  /-- the agent's release step has been reached (R173, R176) -/
  stepReached : Bool
  /-- the first heartbeat since its release has been accepted (R173) -/
  hbSeen : Bool
  /-- FAB cycles RELEASED since the last counted quarantine, up to the present release (R180) -/
  relSum : Nat
  /-- the agent returns from REIMAGING: its release clears QCOUNT and WDRST (R180, R183) -/
  reimaged : Bool
  /-- its pages are as Decanting left them: HELD needs no new Decanting (R44) -/
  intact : Bool
  /-- consecutive accepted services (R183) -/
  streak : Nat
  /-- the watchdog: WARN, time of its last restart, a service accepted since release (R181, R384) -/
  warn : Bool
  wdAt : Nat
  served : Bool
deriving DecidableEq, Repr

/-- What a sequencer program does at its word (R173). -/
inductive SeqWait where
  | ready | input | delay | release | hb
deriving DecidableEq, Repr

/-- The program the sequencer runs: its word, its agent where it is a subprogram, what it waits for (R172). -/
structure Prog where
  pc : Nat
  sub : Option Nat
  wait : SeqWait
deriving DecidableEq, Repr

/-- Platform control (R167 to R188). -/
structure Ctl where
  agents : Vector AgentCtl 8
  prog : Option Prog
  /-- the main program has ended or stopped -/
  mainOver : Bool
  done : Bool
  failed : Bool
  failpc : Nat
  stage : Nat
  /-- agents whose subprogram waits, in request order -/
  requests : List Nat
  /-- filtered ball levels of PC_IN[15:0] -/
  pcIn : Word
  /-- PWREN and SIGNAL pins the sequencer has set asserted -/
  pinSet : Word
  /-- pins are driven: the first policy commit since main power-good or the restart has been made (R168) -/
  driven : Bool
  urgHost : Nat
  urgSide : Nat
deriving DecidableEq, Repr

/-- The 328 performance counters (R369): (index, value) of those that are not 0, and the indices with OVF set. -/
structure Cntr where
  vals : List (Nat × Nat)
  ovf : List Nat
deriving DecidableEq, Repr

/-- What a telemetry boundary snapshots of the counts of a window (R375, R376): one number a field. -/
structure Snap where
  time : Nat
  rtc : DWord
  /-- per channel: bytes served, read-through bytes, PASS, FAIL and LATE verdicts, spans Racked, blocks, underruns -/
  served : List Nat
  rtBytes : List Nat
  pass : List Nat
  bad : List Nat
  spans : List Nat
  blocks : List Nat
  underruns : List Nat
  sealBytes : Nat
  segments : Nat
  epochs : Nat
  segFail : Nat
  rdBytes : Nat
  wrBytes : Nat
  raised : List Nat
  suppr : List Nat
deriving DecidableEq, Repr

/-- The telemetry unit (R375, R376). -/
structure Tlm where
  /-- PERIOD in force, ms: a new one takes effect at a boundary -/
  period : Nat
  num : Nat
  /-- snapshots at the three latest boundaries, newest first -/
  snaps : List Snap
  /-- the record of a boundary that is still to be produced, of that boundary's values -/
  due : Option (List Byte)
  /-- the latest record -/
  record : List Byte
  /-- totals since restart that the record's window differences are taken of -/
  spans : List Nat
  sealBytes : Nat
  segments : Nat
  epochs : Nat
  segFail : Nat
  rdBytes : Nat
  wrBytes : Nat
deriving DecidableEq, Repr

/-- Watchdog WD0 (R382 to R389). -/
structure Wd0 where
  /-- WDT.CFG bits 30:0, WDT.WINDOW.OPEN and the OPEN captured at the first accepted write -/
  cfg : Word
  open_ : Word
  captured : Nat
  locked : Bool
  warn : Bool
  served : Bool
  paused : Bool
  /-- time of the last restart of the count, and the cycles counted at a pause -/
  at_ : Nat
  held : Nat
  early : Nat
  wrongKey : Nat
deriving DecidableEq, Repr

/-- Clocks, temperature and rails (R391 to R396, R402). -/
structure Clk where
  keepSub : Bool
  /-- PLL lock bits: CORE, PRESS, FAB, FLASH, PCIE -/
  lock : Word
  /-- FLASH is lost and has not relocked -/
  flashLost : Bool
  ringLost : Bool
  refclkLost : Bool
  /-- die temperature now and its highest since restart, units of 0.25 °C, two's complement -/
  tempNow : Word
  tempMax : Word
  /-- EV970 and EV971 armed -/
  warnArmed : Bool
  critArmed : Bool
deriving DecidableEq, Repr

/-- The states of a queue and their codes in HOSTQ.STAT.STATE (R253). -/
inductive QState where
  | disabled | running | error | fault
deriving DecidableEq, Repr

/-- A host queue (R225 to R238, R243, R253). -/
structure HQueue where
  st : QState
  cause : Nat
  /-- PHASE of the next entry written (device-written queues) -/
  phase : Bool
  /-- next entry to fetch or to write -/
  pos : Nat
  /-- the doorbell's tail (submission) or head (device-written) -/
  bell : Nat
  /-- entries since the last message -/
  unsig : Nat
  /-- Q2 and Q3: entries produced since enabled, dropped since the last written -/
  qseq : Nat
  lost : Nat
deriving DecidableEq, Repr

/-- An admin or seal command consumed from its queue and not yet completed (R234). -/
structure Fetched where
  q : Nat
  cid : Nat
  opcode : Nat
  noint : Bool
  /-- the fetch position after it was consumed (R230) -/
  head : Nat
  /-- its checks have passed: it waits or runs as a segment, or it waits for a segment (R193) -/
  taken : Bool
deriving DecidableEq, Repr

/-- A completion entry (R230). -/
structure Cpl where
  cid : Nat
  sqid : Nat
  sqhead : Nat
  status : Status
  detail : Nat
  result : List Byte
deriving DecidableEq, Repr

/-- A retained completion: the entry, with a SEAL_SEGMENT's receipt address and bytes (R249); its NOINT flag, whether it has
been written to its queue, and whether it is to be written as a replay. -/
structure Retained where
  cq : Nat
  cpl : Cpl
  receipt : Option (Nat × List Byte)
  noint : Bool
  sent : Bool
  replay : Bool
deriving DecidableEq, Repr

/-- An MSI-X table entry (R238, R252). -/
structure Vec where
  addr : Nat
  data : Nat
  masked : Bool
  pending : Bool
deriving DecidableEq, Repr

/-- The PCIe function, its queues and its messages (R219 to R253). -/
structure HostIf where
  linkUp : Bool
  speed : Nat
  width : Nat
  /-- configuration space: memory space enable, bus master enable, D3hot, extended and 10-bit tags, MPS and MRRS in bytes,
  completion timeout value -/
  mse : Bool
  bme : Bool
  d3hot : Bool
  extTag : Bool
  tag10 : Bool
  mps : Nat
  mrrs : Nat
  cto : Nat
  msixEn : Bool
  funcMask : Bool
  /-- base addresses of BAR0, BAR2 and BAR4 (R221) -/
  bars : Vector Nat 3
  /-- an FLR is under way -/
  flr : Bool
  /-- the seal submission queue of the last fetch: its place in the round robin (R215) -/
  lastSq : Nat
  /-- MCTP endpoint ID on VDM (R224) -/
  eid : Nat
  queues : Vector HQueue 136
  fetched : List Fetched
  retained : List Retained
  vecs : Vector Vec 64
deriving DecidableEq, Repr

/-- A firmware copy of the vault: A, B or golden (R283 to R289). -/
structure FwCopy where
  pkg : Option Package
  /-- bootable and confirmed by the vault header -/
  bootable : Bool
  confirmed : Bool
deriving DecidableEq, Repr

/-- Codes of IDENT.FWSTAT.STATE (R292). -/
inductive FwSt where
  | idle | downloading | downloaded | handover | confirming | burning | goldcopy
deriving DecidableEq, Repr

/-- Steps of a live handover of one pair (R286). -/
inductive HandSt where
  | waiting | halted | loaded
deriving DecidableEq, Repr

/-- A live handover under way: which pair now, which pairs still follow, its step (R285, R286). -/
structure Hand where
  warden : Bool
  rest : List Bool
  st : HandSt
deriving DecidableEq, Repr

/-- A vault policy slot (R48, R273). -/
structure PolSlot where
  bundle : Bundle
  valid : Bool
deriving DecidableEq, Repr

/-- A chunked transfer: bytes held, and stream buffers of 64 KiB in use (R279, R284). -/
structure Stream64 where
  held : Nat
  /-- bytes of each buffered chunk still to be programmed, oldest first -/
  bufs : List Nat
  last : Bool
deriving DecidableEq, Repr

/-- Where the recovery of a slot from its current source stands (R276 to R280). -/
inductive RecSt where
  | trying | actCommit | writing | streaming | verifying
deriving DecidableEq, Repr

/-- The recovery of a REIMAGING agent (R277). -/
structure RecJob where
  ch : Nat
  /-- failed slots still to restore; the head is the current one -/
  slots : List Nat
  /-- current source, 1 to 5 -/
  source : Nat
  /-- a REIMAGE that names one source (R278) -/
  single : Bool
  st : RecSt
  stream : Stream64
  step : Nat
  fails : Nat
  /-- time of the request or of the latest chunk -/
  at_ : Nat
  /-- the manifest of the image that source 2 or 3 writes -/
  man : Option Manifest
deriving DecidableEq, Repr

/-- A rewrite of a failed copy from the restored one after source 1 (R276). -/
structure Rewrite where
  ch : Nat
  slot : Nat
  copy : Nat
  /-- erase units written; failed read-backs of the unit in hand; it waits on an exposed part (R107) -/
  step : Nat
  fails : Nat
  waits : Bool
deriving DecidableEq, Repr

/-- An SPDM connection (R267). -/
structure Conn where
  eid : Nat
  /-- 0 VDM, 1 SB0, 2 SB1 -/
  transport : Nat
  /-- versions, capabilities and algorithms negotiated -/
  stage : Nat
  session : Bool
  /-- the Cask of the session's secrets, 17 to 20 (R304) -/
  sess : Nat
  /-- the handshake of the session is finished -/
  finished : Bool
  /-- END_SESSION has ended its session -/
  ended : Bool
deriving DecidableEq, Repr

/-- The outcome of the agent's SPDM measurement (R262, R269). -/
structure SpdmRes where
  res : Nat
  dig : Nat
  tries : Nat
  /-- the requester waits for an answer, to the request of this place in the order of R269 -/
  open_ : Bool
  step : Nat
deriving DecidableEq, Repr

/-- Identity, policy, recovery, firmware and attestation (R254 to R292). -/
structure Ident where
  slot0 : Option PolSlot
  slot1 : Option PolSlot
  /-- the vault slot of the applied bundle, and the bundle -/
  applied : Option (Nat × Bundle)
  /-- IDENT.POLSTAT: STATE, RESULT, REASON; POLFAIL -/
  polState : Nat
  polResult : Nat
  polReason : Nat
  polFail : Word
  /-- a bundle being stored or applied: its vault slot and the bundle -/
  storing : Option (Nat × Bundle)
  /-- bytes held in the staging buffer of a sideband POLICY_LOAD (R412) -/
  polHeld : Nat
  /-- steps of counter 14 wait to be burned -/
  polBurn : Bool
  /-- the current nonce -/
  nonce : Option Nat
  fwA : FwCopy
  fwB : FwCopy
  fwGold : FwCopy
  /-- running copy: 0 A, 1 B, 2 golden, 3 none; preferred copy of the vault header -/
  runCopy : Nat
  preferred : Nat
  fwState : FwSt
  /-- the package download: its bytes and the package its first chunk announces -/
  dl : Stream64
  dlPkg : Option Package
  dlCopy : Nat
  /-- the package comes by the sideband (R413) -/
  dlSide : Bool
  fallbacks : Nat
  hand : Option Hand
  wver : Nat
  sver : Nat
  /-- copies still to be rewritten in steps: (from, to) -/
  fwCopies : List (Nat × Nat)
  recs : List RecJob
  /-- the outcome of the latest verification of a BMC's image, until the next source 5 request (R280) -/
  recEnd : Option Bool
  rewrites : List Rewrite
  platGen : Nat
  certDue : Bool
  /-- a copy of the DeviceID certificate passes its check (R256) -/
  devCert : Bool
  /-- the Alias, Platform and Seal certificates, ECDSA and ML-DSA (R256) -/
  aliasCert : List Byte × List Byte
  platCert : List Byte × List Byte
  sealCert : List Byte × List Byte
  conns : List Conn
  spdm : Vector SpdmRes 8
  /-- a RECOVER_PLATFORM's listed agents (R281, R282) -/
  recAgents : List Nat
  /-- FWESC as the vault header holds it; 3 where the header is unreadable (R289) -/
  fwesc : Nat
deriving DecidableEq, Repr

/-- The states of a Press engine or an AES lane and their codes in CRYPTO.UNITS (R316). -/
inductive EngineSt where
  | inService | derated | selfTest | out
deriving DecidableEq, Repr

/-- The Press pool (R150, R151, R316): the eight engines, the jobs that hold a credit and the jobs that wait for one. -/
structure Press where
  engines : List EngineSt
  held : List Job
  waiting : List Job
deriving DecidableEq, Repr

/-- STATE of a Cask entry (R301). -/
inductive CaskSt where
  | empty | valid | pending | absent | zeroised
deriving DecidableEq, Repr

/-- A Cask: its entry and its two shares (R301). -/
structure Cask where
  st : CaskSt
  type : Nat
  parent : Nat
  label : Nat
  gen : Nat
  pgen : Nat
  rights : Nat
  origin : Nat
  flags : Nat
  share0 : BitVec 512
  share1 : BitVec 512
deriving DecidableEq, Repr

/-- A helper record (R295): sequence, region, origin, and which DRBG draw its secret bits m_S and m_D came from. -/
structure Helper where
  seq : Nat
  region : Nat
  origin : Nat
  secret : Nat
deriving DecidableEq, Repr

/-- A key change on its way through the key journal (R310): KIND, Cask index, label, type, rights, new GEN, new material, the
command it completes, failed read-backs so far. -/
structure KeyChange where
  kind : Nat
  cask : Nat
  label : Nat
  type : Nat
  rights : Nat
  gen : Nat
  material : Nat
  f : Fetched
  fails : Nat
deriving DecidableEq, Repr

/-- A committed key of the key journal (R310, R311). -/
structure KeyRec where
  cask : Nat
  label : Nat
  type : Nat
  rights : Nat
  gen : Nat
  material : Nat
deriving DecidableEq, Repr

/-- Rootstock, Casks and the cryptographic units (R293 to R323). -/
structure Crypt where
  /-- CRYPTO.ROOT: STATE, ATTEMPTS, SOURCE, REGION, DLERR, SRAMERR -/
  rootSt : Nat
  attempts : Nat
  source : Nat
  region : Nat
  dlErr : Nat
  sramErr : Nat
  /-- the Rootstock register, and the secret bits in the extractor buffers (which draw they are) -/
  root : Option Nat
  buffers : Option Nat
  /-- helper records of the vault, oldest first -/
  helpers : List Helper
  /-- CRYPTO.PUF: DLTRIP; time of the last re-enrolment on the RTC, KEEP ticks -/
  dlTrip : Nat
  enrolAt : Option Nat
  /-- a re-enrolment is due; it is due at once, whatever the 30 days (R296, R298, R299) -/
  due : Bool
  dueNow : Bool
  /-- a re-enrolment has failed its check: it is tried again at the next start (R299) -/
  reFailed : Bool
  /-- e_S and e_D of the newest OTP record at this start (R300) -/
  otpErrS : Nat
  otpErrD : Nat
  casks : Vector Cask 128
  /-- the key journal: the change in progress, the committed keys, the last committed SEALGEN -/
  change : Option KeyChange
  keys : List KeyRec
  sealGen : Nat
  kjSeq : Nat
  kjFill : Nat
  kjMacFail : Nat
  kjWrFail : Nat
  /-- a Seal certificate has been issued up to this generation -/
  certGen : Nat
  /-- AES lanes, the next engine and lane in rotation, the unit draining for its test -/
  lanes : List EngineSt
  nextEngine : Nat
  nextLane : Nat
  draining : Option Nat
  /-- CRYPTO.STAT.PKUFAULT; the model's own: operations of the PKU so far, the faults in a row that the next one meets,
  and those of the ones after it as far as they are drawn -/
  pkuFault : Bool
  pkuOps : Nat
  pkuNext : Nat
  pkuAhead : List Nat
  /-- CRYPTO.RNG: STATE, HFAIL, RESEEDS; generate requests since the last reseed; times of recent health failures -/
  rngSt : Nat
  hfail : Nat
  reseeds : Nat
  requests : Nat
  failTimes : List Nat
  /-- draws of the DRBG so far -/
  draws : Nat
  /-- CRYPTO.KEYS.INVAL -/
  inval : Nat
  /-- the journal key the vault's journals were last written under; it changed at this start (R305) -/
  lastKey : Option (BitVec 512)
  keysChanged : Bool
deriving DecidableEq, Repr

/-- The identity block of OTP (R336). -/
structure OtpIdent where
  /-- bytes 0 to 27 -/
  bytes : List Byte
  crc : Word
deriving DecidableEq, Repr

/-- The OTP array (R326). Digests are numbers, 0 where unprogrammed. -/
structure Otp where
  wTest : BitVec 16
  wProd : BitVec 16
  wEol : BitVec 16
  fuses : BitVec 8
  ident : OtpIdent
  ssvid : Nat
  ssid : Nat
  written : Nat
  vendors : List Nat
  owners : List Nat
  orev : BitVec 8
  vrev : BitVec 4
  vctr : Vector (BitVec 64) 16
  helpers : List (Option Helper)
  /-- Afdon analog trim -/
  trim : Nat
deriving DecidableEq, Repr

/-- Lifecycle, debug and what of tamper response is not in the Keeper (R326 to R351). -/
structure Life where
  otp : Otp
  /-- a transition's last bit was verified: the next start raises EV1016 -/
  moved : Bool
  progFail : Nat
  debugOpen : Bool
  scope : Nat
  role : Nat
  rejects : Nat
  lastRej : Nat
  haltedW : Bool
  haltedS : Bool
  /-- filtered TAMP levels; consecutive mismatches of meshes 0 and 1 -/
  tampLvl : Nat
  mesh0 : Nat
  mesh1 : Nat
  vbatLow : Bool
  /-- subsystem IDs as configuration space shows them -/
  ssShown : Nat
  /-- source 18 has been judged since the Keeper lost its power (R346) -/
  judged18 : Bool
deriving DecidableEq, Repr

/-- A sideband port (R403 to R413). -/
structure SbPort where
  eid : Nat
  dyn : Option Nat
  /-- in-band interrupts enabled (ENEC, DISEC) -/
  ibi : Bool
  mwl : Nat
  mrl : Nat
  /-- a message being reassembled: source EID, type, bytes -/
  part : Option (Nat × Nat × Nat)
  /-- received messages that the Steward has not taken: source EID, type -/
  msgs : List (Nat × Nat)
  /-- response packets that wait, and tries of the first -/
  resp : List (List Byte)
  tries : Nat
deriving DecidableEq, Repr

/-- The sideband (R403 to R413): the ports, the ADDR_SEL and SB_MODE straps. -/
structure Side where
  ports : Vector SbPort 2
  addrSel : Nat
  strap : Nat
  /-- port and source EID of the message the Steward serves (R413): its responses leave by that port -/
  now : Option (Nat × Nat)
deriving DecidableEq, Repr

/-- An auxiliary serial port (R414 to R418): the running or armed transfer and the buffers. -/
structure AuxPort where
  busy : Bool
  len : Nat
  bits : Nat
  /-- the running transfer is a fallback frame -/
  frame : Bool
  tx : Store
  rx : Store
  frx : Word
deriving DecidableEq, Repr

/-- Auxiliary serial, GPIO and UART (R414 to R420). -/
structure Aux where
  ports : Vector AuxPort 2
  /-- filtered ball levels of GPIO -/
  gpioIn : Word
  /-- bytes the console has taken -/
  console : List Byte
deriving DecidableEq, Repr

/-- The states of a stream and their codes in SEAL.STRDATA0 (R191). -/
inductive StreamSt where
  | closed | open_ | keylost | fault
deriving DecidableEq, Repr

/-- A SEAL_SEGMENT that has passed its checks (R193): its fetched entry, the bytes it names. -/
structure Seg where
  f : Fetched
  len : Nat
  src : Nat
  dst : Nat
  rcpt : Nat
deriving DecidableEq, Repr

/-- A segment in progress (R194): the epoch in which it began, its ATTEMPT. -/
structure SegRun where
  seg : Seg
  begin_ : Nat
  attempt : Nat
deriving DecidableEq, Repr

/-- A stream that has had an instance in this run (R189 to R196). -/
structure Stream where
  no : Nat
  st : StreamSt
  gen : Nat
  seq : Nat
  attempt : Nat
  overlap : Nat
  enc : Bool
  label : Nat
  /-- the Cask and the GEN it is bound to (R307) -/
  cask : Nat
  caskGen : Nat
  weight : Nat
  qpair : Nat
  tailPrev : List Byte
  prevRcpt : List Byte
  queue : List Seg
  run : Option SegRun
  /-- what deficit round robin has left it, bytes (R215) -/
  deficit : Nat
  /-- a STREAM_CLOSE waits for the segment in progress -/
  closing : Option Fetched
deriving DecidableEq, Repr

/-- An entry of an epoch's receipt list (R199), with the LEN of its segment. -/
structure ListEnt where
  stream : Nat
  gen : Nat
  run : Nat
  seq : Nat
  digest : List Byte
  len : Nat
deriving DecidableEq, Repr

/-- An epoch: open, closed and not finalised, or finalised and unsigned (R197 to R200). -/
structure Epoch where
  no : Nat
  run : Nat
  /-- RTC at opening and close, KEEP ticks of both -/
  tstart : DWord
  tend : DWord
  openTick : Nat
  closeTick : Nat
  unc : Nat
  extended : Bool
  anchor : Option (List Byte)
  platdig : List Byte
  entries : List ListEnt
  straddlers : List ListEnt
  listStart : Nat
deriving DecidableEq, Repr

/-- A signed seal that has not left (R200, R204, R206): its epoch, its bytes 0 to 3,724, its digest, its entries, the
POWER_GAP and ANCHOR records ahead of it; journalled. -/
structure SealOut where
  epoch : Nat
  run : Nat
  bytes : List Byte
  digest : List Byte
  tend : DWord
  unc : Nat
  entries : List ListEnt
  before : List (List Byte)
  covered : Bool
deriving DecidableEq, Repr

/-- A record of the sealing journal (R204): KIND 1 EPOCH, 2 RUNSTART, 3 ANCHOR; `mac`: its MAC verifies under the journal key in
force. -/
structure JournalRec where
  kind : Nat
  mac : Bool
  seq : Nat
  run : Nat
  epoch : Nat
  time : DWord
  unc : Nat
  digest : List Byte
deriving DecidableEq, Repr

/-- A seal log setting (R205). -/
structure SealLog where
  recBase : Nat
  recSlots : Nat
  listBase : Nat
  listEnt : Nat
  ctl : Nat
deriving DecidableEq, Repr

/-- An outstanding anchor request (R210), q in KEEP ticks. -/
structure AnchorReq where
  nonce : List Byte
  imprint : List Byte
  q : Nat
deriving DecidableEq, Repr

/-- An accepted anchor that waits for its boundary (R212); times in KEEP ticks, accuracy in µs. -/
structure AnchorAcc where
  req : AnchorReq
  s : Nat
  gen : Nat
  acc : Nat
  accAbsent : Bool
  slot : Nat
  tokenDig : List Byte
deriving DecidableEq, Repr

/-- The sealing engine (R189 to R218). -/
structure Seal where
  running : Bool
  run : Nat
  /-- the highest RUN the sealing journal has held; no run has started since the device restart -/
  lastRun : Nat
  firstRun : Bool
  /-- PLAT.MODE.CAUSE that ended the previous run, 0x80 for a disable -/
  endCause : Nat
  streams : List Stream
  /-- next stream of the deficit round robin -/
  rr : Nat
  log : Option SealLog
  nextLog : Option SealLog
  /-- logs that a change has replaced, each with the last epoch whose records still go to it (R205) -/
  oldLogs : List (Nat × SealLog)
  open_ : Option Epoch
  closed : List Epoch
  unsigned : List Epoch
  signed : List SealOut
  /-- digest the next seal carries as PREVSEAL, and that it is the run's POWER_GAP -/
  prevSeal : List Byte
  gapFirst : Bool
  gap : Option (List Byte)
  /-- ANCHOR records that wait for their epoch's seal: (epoch, record) -/
  anchors : List (Nat × List Byte)
  /-- the open epoch of the present boundary: time at which it opened -/
  boundaryAt : Option Nat
  /-- the sealing journal's records, newest first; the next SEQ; positions of the circular log written so far; time of the last EPOCH
  record -/
  jLog : List JournalRec
  jSeq : Nat
  jPos : Nat
  jAt : Option Nat
  listNext : Nat
  listProd : Nat
  recProd : Nat
  listCons : Nat
  recCons : Nat
  /-- digest of the newest released seal -/
  released : Option (List Byte)
  request : Option AnchorReq
  accepted : Option AnchorAcc
  /-- genTime of the last applied anchor; BNEW of it; baseline b0 and UNC0 -/
  lastGen : Option Nat
  bnew : DWord
  base : Option (Nat × Nat)
  uncWarned : Bool
  /-- EV750 raised in this run; EV743 raised for this stall; EV744 for this wait -/
  told750 : Bool
  stalled : Bool
  keyWait : Bool
  /-- generation that signed the last seal, and the one the open epoch is bound to -/
  signGen : Nat
  /-- the keys of that generation, as numbers -/
  signKeys : Option (Nat × Nat)
  bytes : Nat
  segFail : Nat
deriving DecidableEq, Repr

end Sys2Proof.Machine
end

