-- ==== Sys2Proof/Machine/State.lean ====
section
/-! DEFINITION. Machine/State.lean: the state of the KP9600, its faults and refusals, and the state after reset (R39, R45, R56). -/

namespace Sys2Proof.Machine

/-- A command the KP9600 issues to a physical flash part (R107 to R123). -/
inductive FlashOp where
  | suspend | resume | program | erase | poll | softReset | rstPulse
deriving DecidableEq, Repr

/-- What leaves the KP9600 (log entry 4): data and messages on its wires and buses, oldest first in `outbox`. -/
inductive Out where
  /-- bytes of a virtual byte address served to an agent; `done` where the transaction was served to its end, `dqs` where the
  port drives the read data strobe with them (R60) -/
  | arrayRead (ch : Ch) (addr n : Nat) (done dqs : Bool)
  /-- register, identification or SFDP bytes to an agent, with or without the read data strobe (R60) -/
  | wire (ch : Ch) (dqs : Bool) (bytes : List Byte)
  /-- a command to a physical part of a channel, or of the vault (port 8); its address bytes in wire order, most significant byte first (R5), none where it has none -/
  | flashCmd (port : PortId) (part : PartId) (op : FlashOp) (addr : List Byte) (len : Nat) (data : List Byte)
  /-- posted memory write -/
  | hostWrite (addr : Nat) (bytes : List Byte)
  /-- MSI-X message -/
  | msi (v : Nat)
  /-- GPIO pin asserted by an event, or a level driven -/
  | gpio (pin : Nat) (level : Bool)
  /-- MCTP vendor message body -/
  | mctp (eid : Nat) (bytes : List Byte)
  /-- SPDM message -/
  | spdm (eid transport code : Nat) (bytes : List Byte)
  /-- an exception to a core pair, by event source -/
  | exception (warden : Bool) (src : Nat)
  /-- the value of a register read -/
  | regValue (q : Req) (off : Nat) (v : Word)
  /-- a TLP completion of a BAR read of 8 bytes -/
  | regValue64 (off : Nat) (v : DWord)
  /-- a word of BAR2 as the host reads it (R222) -/
  | bar2Value (off : Nat) (v : Word)
  /-- Unsupported Request, Configuration Request Retry Status, a configuration value -/
  | ur
  | crs
  | configValue (off : Nat) (v : Word)
  /-- bytes on a sideband port, and whether it acknowledged -/
  | side (port : Nat) (bytes : List Byte)
  | sideNack (port : Nat)
  /-- an MCTP packet of a sideband port -/
  | packet (port : Nat) (bytes : List Byte)
  /-- a packet of a message over VDM, with its payload (R224) -/
  | vdm (eid : Nat) (bytes : List Byte)
  /-- a reassembled MCTP message handed to its service, by message type -/
  | dispatch (type : Nat)
  /-- a service mailbox answer of the TAP -/
  | tap (bytes : List Byte)
  /-- a transfer of an auxiliary port begins: select, bits; frame bits -/
  | aux (port sel len : Nat) (data : List Byte)
  | frame (port sel width : Nat) (bits : Word)
  /-- a SEALED page goes through an AES lane (R130, R139, R157): AES-256-XTS under the key of a Cask, data unit of 4,096 bytes, the
  tweak, decrypted or encrypted -/
  | xts (cask : Nat) (tweak : List Byte) (decrypt : Bool)
deriving DecidableEq, Repr

/-- Faults. -/
inductive Fault where
  /-- A register command names an offset that is not a multiple of 4 or lies outside BAR0's 64 KiB of registers: the spec
  has no register there. Raised by REGISTER_WRITE and by the register data rows. Safe. -/
  | noRegister (off : Nat)
deriving DecidableEq, Repr

/-- Refusals. -/
inductive Refusal where
  /-- A row of the opcode table that has no meaning yet. Answered by Dispatch alone. Safe. -/
  | notModelled (mnemonic : String)
deriving DecidableEq, Repr

/-- The state of the KP9600. -/
structure State where
  /-- the commands that wait, first in, first out -/
  pending : List Instr
  /-- FAB cycles since the model's beginning -/
  time : Nat
  /-- which free value is next (log entry 2); the model's own -/
  freeCtr : Nat
  /-- what has left the KP9600 (log entry 4) -/
  outbox : List Out
  regs : Regs
  evt : Evt
  plat : Plat
  keeper : Keeper
  chs : Vector Chan 8
  cellar : Cellar
  press : Press
  vault : Vault
  ctl : Ctl
  cntr : Cntr
  tlm : Tlm
  wd0 : Wd0
  clk : Clk
  host : HostIf
  ident : Ident
  sealing : Seal
  crypt : Crypt
  life : Life
  side : Side
  aux : Aux
deriving DecidableEq, Repr

/-! ## The state after a start: each part as a device restart leaves it -/

def emptyView : ReqView :=
  { staged := [], own := [], latch := [], wlatch := none, result := .ok, refused := false, lastMask := 0#32, failGrp := 0#32,
    rstcause := 0#32, rdno := 0, sample := [], vmax := [0, 0, 0, 0, 0, 0, 0, 0] }

def startRegs : Regs :=
  { active := [], sticky := [], host := emptyView, side := emptyView, int := emptyView, gen := 0#32, cur := none, waiting := [] }

/-- The START record (R362): the first record after each device start. -/
def startRec (no : Nat) (time : DWord) : Rec :=
  { recno := no, src := 883, sev := 2, kind := .start, time := time, cycle := 0, count := 1, arg := 0 }

def startEvt : Evt :=
  { transit := [], inflight := [], pend := [], ring := [(startRec 1 0#64, false)], nextNo := 2, clearNo := 0
    suppr := [0, 0, 0, 0, 0, 0, 0, 0], raisedN := [0, 0, 1, 0, 0, 0, 0, 0], recordedN := [0, 0, 1, 0, 0, 0, 0, 0]
    coalescedN := [0, 0, 0, 0, 0, 0, 0, 0], suppressedN := [0, 0, 0, 0, 0, 0, 0, 0], supprSince := false, staging := [startRec 1 0#64]
    jwait := [], journal := [], jClear := 0, jCarried := [], nextBseq := 0, jhead := 0, firstBlock := true, prevBad := false
    ringFail := false, jFail := false, msiGap := [] }

def startBoot : Boot :=
  { pll := false, vault := false, root := false, selfTest := false, rngHeld := false, firmware := false, policy := false, brought := [] }

def startPlat : Plat :=
  { mode := .hold, prev := .shelf, cause := 0, awaitPolicy := false, romsvc := false, lastValid := false, lastRec := none
    perstN := true, haltN := true, holdTime := 0xFFFFFFFF#32, guardTime := 0xFFFFFFFF#32, restartAt := 0
    boot := startBoot, fwRuns := false, excWarden := [], excSteward := [], training := none, porStart := true, keepLost := false }

/-- A Keeper domain that has just been powered (R56). -/
def freshKeeper : Keeper :=
  { vbat := true, rtcValid := false, rtcBase := 0, rtcAt := 0, shelfTime := 0#64, slot0 := none, slot1 := none, lost := false
    lw := [0#32, 0#32, 0#32, 0#32, 0#32, 0#32, 0#32, 0#32], lwValid := false, tlHolding := false, tlClass := 0, tlSource := 0
    tlTrips := 0, tlTime := 0#64, trip := 0#32, thist := [], thNext := 0, wdCount := 0, wdInv := 255, lastCause := 0
    fatalEv := 0, dbgLatch := false }

def startPort : Port :=
  { mode := 0, addr4 := false, xip := none, rstEn := false, stopped := false, srHigh := 0#8, cr := 0#8, wip := false, wel := false
    pfail := false, efail := false, prot := false, blockBusy := false, ops := [], sclkMhz := 0, hitOnly := [], sfdp := none, sfdpInt := [], srvCellar := 0
    srvRt := 0, synth := 0, underruns := 0, refusals := 0, blocks := 0, hbok := 0, hbbad := 0 }

def startPart : Part :=
  { present := false, failed := false, mismatch := false, sclk := 0, window := 0, tap := 0, bits := [], temp := 0, dlat := 0, unit := 0
    erases := [], canSuspend := false, progInErase := false, times := [], sizeLog := 0, busy := none, susp := false, stage := 0, used := 0
    refreshed := [], refresh := none, refreshWaits := false }

def startSlot : Slot :=
  { upd := .idle, inactValid := false, goldValid := false, progress := 0, locked := false, actWait := false, up := none, manA := none
    manB := none, manG := none }

def startCursor : Cursor :=
  { copy := 0, slot := 0, metaPages := false, span := 0, share := 0, cycles := 0, done := false, lastCyc := 0#64 }

def startChan : Chan :=
  { st := .disabled, phase := .boot, relAt := 0, port := startPort, slots := Vector.replicate 4 startSlot
    parts := Vector.replicate 2 startPart, brought := false, resv := 0, verdicts := [], bad := [], grafts := [], repairs := []
    repairsDone := 0, nofit := false, vslow := false, vworst := 0, vpass := 0, vfail := 0, vlate := 0, rackErr := 0
    cur := startCursor, failpg := 0#32, autorel := none, setRes := false, decAt := 0, prefAt := 0, prefEnd := false }

def startCellar : Cellar :=
  { frames := [], lost := [], map := [0, 1, 2, 3, 4, 5, 6, 7, 8, 9, 10, 11, 12, 13, 14, 15], idle := some 16, out := []
    copying := none, testing := false, toTest := [], testDone := false, nofit := false, uncorr := 0, hand := 0, nodeHand := 0, harvests := 0
    harvTime := 0#64 }

def startPress : Press :=
  { engines := [.inService, .inService, .inService, .inService, .inService, .inService, .inService, .inService], held := []
    waiting := [] }

/-- A vault with nothing written. -/
def blankVault : Vault :=
  { parts := Vector.replicate 2 startPart, size0 := 0, size1 := 0, busMode := 0, intents := []
    nextSeq := 0, golden := [], cur := startCursor, hdrA := none, hdrB := none, wear := [], compact := none, acts := [] }

def startAgent : AgentCtl :=
  { qcause := 0, qcount := 0, wdrst := 0, halt := false, stop := false, haltFreed := false, stopAt := none, pwrOff := false, stepReached := false, hbSeen := false
    relSum := 0, reimaged := false, intact := false, streak := 0, warn := false, wdAt := 0, served := false }

def startCtl : Ctl :=
  { agents := Vector.replicate 8 startAgent, prog := none, mainOver := false, done := false, failed := false
    failpc := 0, stage := 0, requests := [], pcIn := 0#32, pinSet := 0#32, driven := false, urgHost := 0, urgSide := 0 }

def startCntr : Cntr := { vals := [], ovf := [] }

def startTlm : Tlm :=
  { period := 1000, num := 0, snaps := [], due := none, record := [], spans := [0, 0, 0, 0, 0, 0, 0, 0], sealBytes := 0
    segments := 0, epochs := 0, segFail := 0, rdBytes := 0, wrBytes := 0 }

def startWd0 : Wd0 :=
  { cfg := 0#32, open_ := 0#32, captured := 0, locked := false, warn := false, served := false, paused := false, at_ := 0, held := 0
    early := 0, wrongKey := 0 }

def startClk : Clk :=
  { keepSub := false, lock := 0x1F#32, flashLost := false, ringLost := false, refclkLost := false, tempNow := 0#32
    tempMax := 0x8000#32, warnArmed := true, critArmed := true }

/-- A queue that is disabled. -/
def emptyQueue : HQueue :=
  { st := .disabled, cause := 0, phase := true, pos := 0, bell := 0, unsig := 0, qseq := 0, lost := 0 }

def startVec : Vec := { addr := 0, data := 0, masked := true, pending := false }

/-- The PCIe function as PERST_N leaves it (R219, R248). -/
def startHost : HostIf :=
  { linkUp := false, speed := 0, width := 0, mse := false, bme := false, d3hot := false, extTag := false, tag10 := false, mps := 128
    mrrs := 512, cto := 0, msixEn := false, funcMask := false, bars := Vector.replicate 3 0, flr := false, lastSq := 134, eid := 0, queues := Vector.replicate 136 emptyQueue
    fetched := [], retained := [], vecs := Vector.replicate 64 startVec }

def noFw : FwCopy := { pkg := none, bootable := false, confirmed := false }
def noSpdm : SpdmRes := { res := 0, dig := 0, tries := 0, open_ := false, step := 0 }

def startIdent : Ident :=
  { slot0 := none, slot1 := none, applied := none, polState := 0, polResult := 0, polReason := 0, polFail := 0#32
    storing := none, polHeld := 0, polBurn := false, nonce := none, fwA := noFw, fwB := noFw, fwGold := noFw
    runCopy := 3, preferred := 0, fwState := .idle, dl := { held := 0, bufs := [], last := false }, dlPkg := none, dlCopy := 0, dlSide := false
    fallbacks := 0, hand := none, wver := 0, sver := 0, fwCopies := [], recs := [], recEnd := none, rewrites := [], platGen := 0
    devCert := true, aliasCert := ([], []), platCert := ([], []), sealCert := ([], [])
    certDue := false, conns := [], spdm := Vector.replicate 8 noSpdm, recAgents := [], fwesc := 3 }

def startSeal : Seal :=
  { running := false, run := 0, lastRun := 0, firstRun := true, endCause := 0, streams := [], rr := 0, log := none, nextLog := none, oldLogs := [], open_ := none
    closed := [], unsigned := [], signed := [], prevSeal := [], gapFirst := false, gap := none, anchors := [], boundaryAt := none
    jLog := [], jSeq := 0, jPos := 0, jAt := none, listNext := 0, listProd := 0, recProd := 0, listCons := 0
    recCons := 0, released := none, request := none, accepted := none, lastGen := none, bnew := 0#64, base := none
    uncWarned := false, told750 := false, stalled := false, keyWait := false, signGen := 0, signKeys := none, bytes := 0, segFail := 0 }

/-- An EMPTY Cask, as the zeroise line leaves it (R313). -/
def emptyCask : Cask :=
  { st := .empty, type := 0, parent := 0, label := 0, gen := 0, pgen := 0, rights := 0, origin := 0, flags := 0,
    share0 := 0#512, share1 := 0#512 }

def startCrypt : Crypt :=
  { rootSt := 0, attempts := 0, source := 7, region := 0, dlErr := 0, sramErr := 0, root := none, buffers := none, helpers := []
    dlTrip := 0, enrolAt := none, due := false, dueNow := false, reFailed := false, otpErrS := 0, otpErrD := 0
    casks := Vector.replicate 128 emptyCask, change := none, keys := [], sealGen := 1, kjSeq := 0, kjFill := 0, kjMacFail := 0
    kjWrFail := 0, certGen := 0, lanes := [.inService, .inService, .inService, .inService], nextEngine := 0
    nextLane := 0, draining := none, pkuFault := false, pkuOps := 0, pkuNext := 0, pkuAhead := [], rngSt := 0, hfail := 0, reseeds := 0, requests := 0, failTimes := []
    draws := 0, inval := 0, lastKey := none, keysChanged := false }

/-- The OTP array of a part as Afdon ships it: PRODUCTION, no owner key claimed (R328); the identity block all zeros. -/
def shippedOtp : Otp :=
  { wTest := 0xA5C3#16, wProd := 0x3C96#16, wEol := 0#16, fuses := 0#8
    ident := { bytes := List.replicate 28 0#8, crc := crc32 (List.replicate 28 0#8) }
    ssvid := 0, ssid := 0, written := 0, vendors := [0, 0, 0, 0], owners := [0, 0, 0, 0, 0, 0, 0, 0], orev := 0#8, vrev := 0#4
    vctr := Vector.replicate 16 0#64, helpers := [none, none, none], trim := 0 }

def startLife : Life :=
  { otp := shippedOtp, moved := false, progFail := 0, debugOpen := false, scope := 0, role := 0, rejects := 0, lastRej := 0
    haltedW := false, haltedS := false, tampLvl := 0, mesh0 := 0, mesh1 := 0, vbatLow := false, ssShown := 0, judged18 := false }

def startSbPort : SbPort :=
  { eid := 0, dyn := none, ibi := true, mwl := 69, mrl := 69, part := none, msgs := [], resp := [], tries := 0 }

def startSide : Side := { ports := Vector.replicate 2 startSbPort, addrSel := 0, strap := 0, now := none }

def startAuxPort : AuxPort :=
  { busy := false, len := 0, bits := 0, frame := false, tx := [], rx := [], frx := 0#32 }

def startAux : Aux := { ports := Vector.replicate 2 startAuxPort, gpioIn := 0#32, console := [] }

/-- The machine right after reset: HOLD at the beginning of R45, every register at its reset value, nothing in the vault, the
Keeper just powered, no command waiting (log entries 5 to 7 name the values the spec does not give). -/
def State.reset : State :=
  { pending := [], time := 0, freeCtr := 0, outbox := [], regs := startRegs, evt := startEvt, plat := startPlat
    keeper := freshKeeper, chs := Vector.replicate 8 startChan, cellar := startCellar, press := startPress, vault := blankVault
    ctl := startCtl, cntr := startCntr, tlm := startTlm, wd0 := startWd0, clk := startClk, host := startHost, ident := startIdent
    sealing := startSeal, crypt := startCrypt, life := startLife, side := startSide, aux := startAux }

end Sys2Proof.Machine
end

