-- ==== Sys2Proof/Machine/Ops.lean ====
section
/-! DEFINITION. Machine/Ops.lean: the named operations over the register copies, the channels, time and the event router. -/

namespace Sys2Proof.Machine

/-! ## Sparse stores -/

/-- The value of a key: the listed one, or the default. -/
def storeGet (d : Nat → Word) : Store → Nat → Word
  | [], k => d k
  | (a, v) :: r, k => if a = k then v else storeGet d r k

/-- Writing a key, keys kept strictly rising and no entry equal to its default. -/
def storePut (d : Nat → Word) : Store → Nat → Word → Store
  | [], k, v => if v = d k then [] else [(k, v)]
  | (a, w) :: r, k, v =>
    if k < a then (if v = d k then (a, w) :: r else (k, v) :: (a, w) :: r)
    else if k = a then (if v = d k then r else (k, v) :: r)
    else (a, w) :: storePut d r k v

/-- The canonical form from a lower bound on: keys strictly rising, no entry equal to its default. -/
def storeWfFrom (d : Nat → Word) : Nat → Store → Bool
  | _, [] => true
  | lo, (a, v) :: r => decide (lo ≤ a) && decide (v ≠ d a) && storeWfFrom d (a + 1) r

/-- The canonical form of a store. -/
def storeWf (d : Nat → Word) (st : Store) : Bool := storeWfFrom d 0 st

/-- The entry a staged copy holds for a key, where it holds one. -/
def stagedGet? : Store → Nat → Option Word
  | [], _ => none
  | (a, v) :: r, k => if a = k then some v else stagedGet? r k

/-- Staging a value: keys kept strictly rising, every staged key listed. -/
def stagedPut : Store → Nat → Word → Store
  | [], k, v => [(k, v)]
  | (a, w) :: r, k, v =>
    if k < a then (k, v) :: (a, w) :: r else if k = a then (k, v) :: r else (a, w) :: stagedPut r k v

/-- No default: every value other than zero is listed. -/
def zeroDefault (_ : Nat) : Word := 0#32

/-! ## Requesters -/

/-- A requester's copies and latches. -/
def State.view (s : State) : Req → ReqView
  | .host => s.regs.host
  | .side => s.regs.side
  | .int => s.regs.int

/-- Changing a requester's copies and latches. -/
def State.setView (s : State) (q : Req) (v : ReqView) : State :=
  match q with
  | .host => { s with regs := { s.regs with host := v } }
  | .side => { s with regs := { s.regs with side := v } }
  | .int => { s with regs := { s.regs with int := v } }

/-- A requester's own register (index registers, COMMIT.TIMEOUT), at its reset value until written. -/
def State.ownReg (s : State) (q : Req) (off : Nat) : Word := storeGet regReset (s.view q).own off

/-- Writing a requester's own register. -/
def State.setOwn (s : State) (q : Req) (off : Nat) (v : Word) : State :=
  s.setView q { s.view q with own := storePut regReset (s.view q).own off v }

/-! ## The active copy -/

/-- A stored register or table entry of the active copy (R16). -/
def State.cfg (s : State) (key : Nat) : Word := storeGet regReset s.regs.active key

/-- Writing a stored register of the active copy (command registers, R16). -/
def State.setCfg (s : State) (key : Nat) (v : Word) : State :=
  { s with regs := { s.regs with active := storePut regReset s.regs.active key v } }

/-- A sticky W1C register's bits. -/
def State.sticky (s : State) (off : Nat) : Word := storeGet zeroDefault s.regs.sticky off

/-- Setting sticky bits. -/
def State.setSticky (s : State) (off : Nat) (bits : Word) : State :=
  { s with regs := { s.regs with sticky := storePut zeroDefault s.regs.sticky off (s.sticky off ||| bits) } }

/-- Clearing sticky bits. -/
def State.clearSticky (s : State) (off : Nat) (bits : Word) : State :=
  { s with regs := { s.regs with sticky := storePut zeroDefault s.regs.sticky off (s.sticky off &&& ~~~bits) } }

/-- A register of channel n at its offset in the FCHn block. -/
def fch (n : Ch) (off : Nat) : Nat := 0x1000 + 0x200 * n.val + off

/-! ## Channels -/

/-- Channel n. -/
def State.chan (s : State) (n : Ch) : Chan := s.chs[n.val]

/-- Channel n replaced. -/
def State.setChan (s : State) (n : Ch) (c : Chan) : State := { s with chs := s.chs.set n.val c }

/-- Channel n changed. -/
def State.updChan (s : State) (n : Ch) (f : Chan → Chan) : State := s.setChan n (f (s.chan n))

/-- The agent-side port of channel n changed. -/
def State.updPort (s : State) (n : Ch) (f : Port → Port) : State :=
  s.updChan n (fun c => { c with port := f c.port })

/-- A slot of a channel. -/
def Chan.slot (c : Chan) (k : SlotId) : Slot := c.slots[k.val]

/-- A slot of channel n changed. -/
def State.updSlot (s : State) (n : Ch) (k : SlotId) (f : Slot → Slot) : State :=
  s.updChan n (fun c => { c with slots := c.slots.set k.val (f (c.slot k)) })

/-- A part of a channel. -/
def Chan.prt (c : Chan) (k : PartId) : Part := c.parts[k.val]

/-- A part of channel n changed. -/
def State.updPart (s : State) (n : Ch) (k : PartId) (f : Part → Part) : State :=
  s.updChan n (fun c => { c with parts := c.parts.set k.val (f (c.prt k)) })

/-- Every channel in order. -/
def allCh : List Ch := [0, 1, 2, 3, 4, 5, 6, 7]
def allSlots : List SlotId := [0, 1, 2, 3]
def allParts : List PartId := [0, 1]

/-- A step over every channel in order. -/
def forCh (f : State → Ch → State) (s : State) : State := allCh.foldl f s

/-! ## Time (R208, R362) -/

/-- KEEP ticks (32,768 per second) in a number of FAB cycles (600 MHz). -/
def keepTicks (cycles : Nat) : Nat := cycles * 512 / 9375000

/-- The RTC in KEEP ticks. -/
def State.rtcTicks (s : State) : Nat := s.keeper.rtcBase + keepTicks (s.time - s.keeper.rtcAt)

/-- A time in the R208 format: bit 63 valid, bits 62:15 seconds, bits 14:0 sub-seconds. -/
def timeWord (valid : Bool) (ticks : Nat) : DWord := BitVec.ofNat 64 (ticks % 2 ^ 63 + bitAt valid 63)

/-- The RTC in the R208 format. -/
def State.rtc (s : State) : DWord := timeWord s.keeper.rtcValid s.rtcTicks

/-- FAB cycles since the device restart. -/
def State.cycles (s : State) : Nat := s.time - s.plat.restartAt

/-- µs since the device restart. -/
def State.usSinceRestart (s : State) : Nat := s.cycles / 600

/-- The next free value, and the counter moved on (log entry 2). -/
def State.free (s : State) : BitVec 64 := Config.freeValue s.freeCtr
def State.bumpFree (s : State) : State := { s with freeCtr := s.freeCtr + 1 }

/-! ## Codes -/

def Mode.code : Mode → Nat
  | .shelf => 0 | .hold => 1 | .verify => 2 | .guard => 3 | .recover => 4 | .lockdown => 5
def AgentSt.code : AgentSt → Nat
  | .disabled => 0 | .held => 1 | .decanting => 2 | .released => 3 | .quarantined => 4 | .reimaging => 5
def Phase.code : Phase → Nat
  | .boot => 0 | .run => 1 | .update => 2
def Upd.code : Upd → Nat
  | .idle => 0 | .verifying => 1 | .copying => 2 | .waitPart => 3 | .flipPending => 4 | .confirming => 5
  | .burning => 6 | .rollingBack => 7
def Status.code : Status → Nat
  | .ok => 0 | .noop => 1 | .invalidOpcode => 2 | .invalidField => 3 | .notPermitted => 4 | .busyRetry => 5
  | .keyRevoked => 6 | .verifyFail => 7 | .staleGeneration => 8 | .dmaError => 9 | .aborted => 10
  | .resourceExhausted => 11 | .deviceFault => 12
def RecKind.code : RecKind → Nat
  | .event => 0 | .cleared => 1 | .start => 2 | .degraded => 3 | .gap => 4

/-! ## Raising events -/

/-- The severities of EV(64n + 0) to EV(64n + 53) (R95, R124, R163). -/
def chanSev : List Nat :=
  [4, 4, 4, 4, 4, 4, 1, 2, 0, 4, 1, 1, 3, 3, 6, 2,
   4, 1, 3, 2, 5, 2, 2, 2, 5, 2, 5, 6, 4, 1, 1, 3,
   1, 6, 6, 6, 5, 5, 1, 6, 6, 6, 5, 5, 3, 6, 4, 2, 6, 5, 0, 5, 6, 0]

/-- The severities of EV512 to EV536 (R128, R291). -/
def vaultSev : List Nat :=
  [4, 5, 7, 2, 1, 5, 2, 2, 5, 2, 2, 5, 2, 2, 6, 2, 6, 4, 5, 2, 6, 4, 1, 3, 5]

/-- The severities of EV544 to EV586 (R324). -/
def cryptoSev : List Nat :=
  [6, 6, 6, 6, 6, 6, 6, 6, 4, 4, 4, 4, 4, 4, 4, 4, 6, 6, 6, 6, 7, 6, 6, 7, 0, 1, 5, 7, 4, 2, 3, 2, 3, 4, 4, 4, 6, 5,
   6, 3, 7, 6, 0]

/-- The severities of EV672 to EV686 (R251); EV679 is reserved. -/
def linkSev : List Nat := [5, 3, 2, 3, 2, 4, 2, 0, 5, 4, 4, 3, 4, 3, 3]

/-- The severities of EV736 to EV755 (R217). -/
def sealSev : List Nat := [1, 1, 4, 5, 0, 5, 4, 5, 6, 2, 1, 2, 4, 6, 5, 3, 6, 3, 4, 6]

/-- The severities of EV770 to EV779 (R186). -/
def platSev : List Nat := [1, 5, 5, 2, 5, 2, 4, 6, 5, 1]

/-- The severities of EV820 to EV826 (R352). -/
def keeperSev : List Nat := [5, 7, 4, 6, 5, 2, 5]

/-- The severities of EV872 to EV883 (R377). -/
def recSev : List Nat := [5, 2, 2, 4, 5, 4, 3, 4, 2, 0, 3, 2]

/-- The severities of EV960 to EV973 (R400). -/
def clkSev : List Nat := [7, 7, 7, 6, 3, 6, 7, 6, 3, 5, 4, 6, 5]

/-- The severities of EV992 to EV1011 (R421). -/
def sideSev : List Nat := [3, 3, 3, 3, 4, 4, 3, 3, 0, 0, 3, 3, 3, 3, 2, 0, 1, 1, 1, 1]

/-- The severity a source's home chapter gives it. Sources whose severity depends on the case (EV768, EV769, EV771,
EV800 to EV819, EV1020) are raised with `raiseAt`. -/
def sevOf (src : Nat) : Nat :=
  if src < 512 then chanSev.getD (src % 64) 0
  else if src < 544 then vaultSev.getD (src - 512) 0
  else if src < 608 then cryptoSev.getD (src - 544) 0
  else if src < 672 then 5
  else if src < 736 then linkSev.getD (src - 672) 0
  else if src < 768 then sealSev.getD (src - 736) 0
  else if src < 770 then 2
  else if src < 780 then platSev.getD (src - 770) 0
  else if src < 800 then 1
  else if src < 820 then 3
  else if src < 832 then keeperSev.getD (src - 820) 0
  else if src < 836 then [5, 6, 5, 4].getD (src - 832) 0
  else if src < 868 then [4, 5, 4, 6].getD ((src - 832) % 4) 0
  else if src < 872 then 4
  else if src < 896 then recSev.getD (src - 872) 0
  else if src < 960 then 1
  else if src < 992 then clkSev.getD (src - 960) 0
  else if src < 1016 then sideSev.getD (src - 992) 0
  else [6, 7, 6, 7, 5, 7, 7, 5].getD (src - 1016) 0

/-- A raise at a severity: it sets out for the router (R356). -/
def State.raiseAt (s : State) (src sev arg : Nat) : State :=
  { s with evt := { s.evt with transit := s.evt.transit ++ [⟨src, sev, arg⟩] } }

/-- A raise at the severity of its home chapter. -/
def State.raise (s : State) (src arg : Nat) : State := s.raiseAt src (sevOf src) arg

/-- A raise where a condition holds. -/
def State.raiseIf (s : State) (c : Bool) (src arg : Nat) : State := if c then s.raise src arg else s

/-- EV(64n + k). -/
def State.raiseCh (s : State) (n : Ch) (k arg : Nat) : State := s.raise (64 * n.val + k) arg

/-- ARG of a channel event (R358): page, opcode, copy code and slot. -/
def chArg (page op copy slot : Nat) : Nat := page % 2 ^ 20 + 2 ^ 20 * (op % 256) + 2 ^ 28 * (copy % 8) + 2 ^ 31 * (slot % 4)

/-- A message to the outside (log entry 4). -/
def State.emit (s : State) (o : Out) : State := { s with outbox := s.outbox ++ [o] }

/-- A command to a part of a channel, or of the vault. -/
def State.flash (s : State) (n : Ch) (k : PartId) (op : FlashOp) (addr : List Byte) (len : Nat) (data : List Byte) : State :=
  s.emit (.flashCmd ⟨n.val, Nat.lt_succ_of_lt n.isLt⟩ k op addr len data)
def State.vaultFlash (s : State) (k : PartId) (op : FlashOp) : State := s.emit (.flashCmd 8 k op [] 0 [])

/-! ## The last-mode record, modes and agent states -/

/-- PLAT.AGENT: three bits an agent (R43). -/
def State.agentWord (s : State) : Nat := allCh.foldr (fun n a => (s.chan n).st.code * 8 ^ n.val + a) 0

end Sys2Proof.Machine
end

