-- ==== Sys2Proof/Machine/Operands.lean ====
section
/-! DEFINITION. Machine/Operands.lean: what an agent command and a configuration register name: regions, extents, copies, opcode entries. -/

namespace Sys2Proof.Machine

/-! ## The region table (R103) -/

/-- An entry of a region table. -/
structure Region where
  vbase : Nat
  valid : Bool
  /-- 0 STRICT, 1 DEFERRED, 2 SEALED, 3 OPEN -/
  policy : Nat
  slot : SlotId
  mregion : Nat
  npages : Nat
  stage : Bool
  /-- RGDATA2: permissions by phase -/
  perms : Word
deriving DecidableEq, Repr

/-- Region i of channel n of a register view `rd`. -/
def regionOf (rd : Nat → Word) (n i : Nat) : Region :=
  let w0 := rd (rgKey n i 0)
  let w1 := rd (rgKey n i 1)
  let w2 := rd (rgKey n i 2)
  { vbase := fld w0 31 12, valid := bit w0 11 && decide (fld w1 20 0 ≠ 0), policy := fld w0 10 9,
    slot := ⟨fld w0 8 7 % 4, Nat.mod_lt _ (by decide)⟩, mregion := fld w0 6 0, npages := fld w1 20 0,
    stage := bit w2 16, perms := w2 }

/-- The valid regions of channel n, in table order (a region with NPAGES = 0 is unused, R35, R103). -/
def regionsOf (rd : Nat → Word) (n : Nat) : List Region :=
  ((List.range 128).map (regionOf rd n)).filter (fun r => r.valid)

/-- Whether a region covers a virtual page. -/
def Region.covers (r : Region) (v : Nat) : Bool := decide (r.vbase ≤ v ∧ v < r.vbase + r.npages)

/-- Permission bit of a region in a phase: 0 read, 1 program, 2 erase (R103). -/
def Region.perm (r : Region) (ph : Phase) (k : Nat) : Bool := bit r.perms (4 * ph.code + k)

/-- An agent is enabled while its region table holds a valid region with NPAGES ≥ 1 (R457). -/
def enabledIn (rd : Nat → Word) (n : Nat) : Bool := !(regionsOf rd n).isEmpty

def State.enabled (s : State) (n : Ch) : Bool := enabledIn s.cfg n.val

/-- The regions of channel n's active copy. -/
def State.regions (s : State) (n : Ch) : List Region := regionsOf s.cfg n.val

/-- Pages of the virtual flash, 2^VSIZE bytes (R100, R125). -/
def State.vpages (s : State) (n : Ch) : Nat := 2 ^ (fld (s.cfg (fch n 0xA0)) 5 0) / 4096

/-- A virtual page, wrapped at the virtual size (R100). -/
def State.vwrap (s : State) (n : Ch) (v : Nat) : Nat := if s.vpages n = 0 then v else v % s.vpages n

/-- The region that covers a virtual page. -/
def State.regionAt (s : State) (n : Ch) (v : Nat) : Option Region := (s.regions n).find? (fun r => r.covers v)

/-- SLOTCFGk.EN (R125). -/
def State.slotEnabled (s : State) (n : Ch) (k : SlotId) : Bool := bit (s.cfg (fch n (0xB8 + 4 * k.val))) 31

/-- SLOTk.ACT: the active copy code of a slot, 1 for A and 2 for B (R99, R125). -/
def State.actCopy (s : State) (n : Ch) (k : SlotId) : Nat := if bit (s.cfg (fch n (0xA8 + 4 * k.val))) 4 then 2 else 1
def State.inactCopy (s : State) (n : Ch) (k : SlotId) : Nat := 3 - s.actCopy n k

/-- The image regions of a slot (STRICT, DEFERRED and SEALED) in ascending virtual order (R98). -/
def imageRegions (rs : List Region) (k : SlotId) : List Region :=
  sortBy (fun a b => decide (a.vbase ≤ b.vbase)) (rs.filter (fun r => decide (r.policy ≠ 3) && decide (r.slot = k)))

/-- Image pages of a slot (R98). -/
def imagePages (rs : List Region) (k : SlotId) : Nat := ((imageRegions rs k).map (fun r => r.npages)).sum

/-- The image page index of a virtual page of a slot: the pages of the slot's regions below it (R98). -/
def imageIndex (rs : List Region) (k : SlotId) (v : Nat) : Nat :=
  ((imageRegions rs k).map (fun r => if v < r.vbase then 0 else if v < r.vbase + r.npages then v - r.vbase else r.npages)).sum

/-- The virtual page of an image page index. -/
def virtOfImage (rs : List Region) (k : SlotId) (i : Nat) : Option Nat :=
  ((imageRegions rs k).foldl
    (fun (acc : Nat × Option Nat) r =>
      match acc.2 with
      | some v => (acc.1, some v)
      | none => if acc.1 < r.npages then (0, some (r.vbase + acc.1)) else (acc.1 - r.npages, none))
    (i, none)).2

/-- The pinned-set pages of a slot's regions: STRICT and SEALED (R137). -/
def pinnedOf (rs : List Region) (k : SlotId) : Nat :=
  ((imageRegions rs k).map (fun r => if r.policy = 0 ∨ r.policy = 2 then r.npages else 0)).sum

/-- The pinned-set pages of a channel: every enabled slot's (R137, R140). -/
def pinnedIn (rd : Nat → Word) (n : Nat) : Nat :=
  (allSlots.map (fun k => if bit (rd (0x1000 + 0x200 * n + 0xB8 + 4 * k.val)) 31 then pinnedOf (regionsOf rd n) k else 0)).sum

def State.pinnedSet (s : State) (n : Ch) : Nat := pinnedIn s.cfg n.val

/-- The policy of an image page (R103): its region's. -/
def State.policyOfPage (s : State) (n : Ch) (p : PageId) : Nat :=
  match virtOfImage (s.regions n) p.slot p.page with
  | some v => (match s.regionAt n v with | some r => r.policy | none => 3)
  | none => 3

/-! ## The stitch table (R99, R100) -/

/-- An extent of a stitch table. -/
structure Extent where
  vbase : Nat
  valid : Bool
  copy : Nat
  slot : SlotId
  part : PartId
  metaExt : Bool
  pbase : Nat
  npages : Nat
deriving DecidableEq, Repr

/-- Extent i of channel n of a register view. -/
def extentOf (rd : Nat → Word) (n i : Nat) : Extent :=
  let w0 := rd (stKey n i 0)
  let w1 := rd (stKey n i 1)
  let w2 := rd (stKey n i 2)
  { vbase := fld w0 31 12, valid := bit w0 11 && decide (fld w2 20 0 ≠ 0), copy := fld w0 10 8,
    slot := ⟨fld w0 7 6 % 4, Nat.mod_lt _ (by decide)⟩, part := if bit w0 5 then 1 else 0, metaExt := bit w0 4,
    pbase := fld w1 31 12, npages := fld w2 20 0 }

/-- The valid extents of channel n (an extent with NPAGES = 0 is unused, R99). -/
def extentsOf (rd : Nat → Word) (n : Nat) : List Extent :=
  ((List.range 64).map (extentOf rd n)).filter (fun e => e.valid)

def State.extents (s : State) (n : Ch) : List Extent := extentsOf s.cfg n.val

/-- Whether an extent covers a page of its space. -/
def Extent.covers (e : Extent) (v : Nat) : Bool := decide (e.vbase ≤ v ∧ v < e.vbase + e.npages)

/-- Whether an extent is served: DIRECT, STAGING, or the active copy of its slot (R100). -/
def State.served (s : State) (n : Ch) (e : Extent) : Bool :=
  !e.metaExt && (decide (e.copy = 0 ∨ e.copy = 4) || decide (e.copy = s.actCopy n e.slot))

/-- The serving extent of a virtual page (R100). -/
def State.servingExtent (s : State) (n : Ch) (v : Nat) : Option Extent :=
  (s.extents n).find? (fun e => s.served n e && e.covers v)

/-- The physical page an extent maps a virtual page to. -/
def Extent.phys (e : Extent) (v : Nat) : Nat := e.pbase + (v - e.vbase)

/-- The part that holds a copy of an image page, and the physical page there (R99). -/
def State.placeOfCopy (s : State) (n : Ch) (copy : Nat) (p : PageId) : Option (PartId × Nat) :=
  match virtOfImage (s.regions n) p.slot p.page with
  | none => none
  | some v => ((s.extents n).find? (fun e => !e.metaExt && decide (e.copy = copy) && decide (e.slot = p.slot) && e.covers v)).map
      (fun e => (e.part, e.phys v))

/-- The place of a metadata page of a copy: its part and physical page (R99). -/
def State.placeOfMeta (s : State) (n : Ch) (copy : Nat) (k : SlotId) (i : Nat) : Option (PartId × Nat) :=
  ((s.extents n).find? (fun e => e.metaExt && decide (e.copy = copy) && decide (e.slot = k) && e.covers i)).map
    (fun e => (e.part, e.phys i))

/-- The part that holds a copy of an image page (R99). -/
def State.partOfCopy (s : State) (n : Ch) (copy : Nat) (p : PageId) : Option PartId := (s.placeOfCopy n copy p).map (fun x => x.1)

/-- Whether a slot's extents hold a copy at all (R98). -/
def State.hasCopy (s : State) (n : Ch) (k : SlotId) (copy : Nat) : Bool :=
  (s.extents n).any (fun e => !e.metaExt && decide (e.copy = copy) && decide (e.slot = k))

/-- Extents in ascending order of their pages. -/
def inOrder (es : List Extent) : List Extent := sortBy (fun a b => decide (a.vbase ≤ b.vbase)) es

/-- A slot's staging extents (R98, R99): those that hold the window's pages in order, and META ones. -/
def stagingOf (es : List Extent) (k : SlotId) (m : Bool) : List Extent :=
  inOrder (es.filter (fun e => decide (e.metaExt = m) && decide (e.copy = 4) && decide (e.slot = k)))

/-- Metadata pages that a slot's staging window holds: its META extents', or the pages after its image area (R98). -/
def stagingMeta (rs : List Region) (es : List Extent) (k : SlotId) : Nat :=
  let m := stagingOf es k true
  if m.isEmpty then ((stagingOf es k false).map (fun e => e.npages)).sum - imagePages rs k else (m.map (fun e => e.npages)).sum

/-- The i-th page of a list of extents: its part and physical page. -/
def nthPage : List Extent → Nat → Option (PartId × Nat)
  | [], _ => none
  | e :: r, i => if i < e.npages then some (e.part, e.pbase + i) else nthPage r (i - e.npages)

/-- Where a page of the staged image, or of its metadata, lies (R98): the metadata area follows the image area at the next page. -/
def State.stagingPlace (s : State) (n : Ch) (k : SlotId) (m : Bool) (i : Nat) : Option (PartId × Nat) :=
  let es := s.extents n
  if m = false then nthPage (stagingOf es k false) i
  else if (stagingOf es k true).isEmpty then nthPage (stagingOf es k false) (imagePages (s.regions n) k + i)
  else nthPage (stagingOf es k true) i

/-- Metadata pages of a copy (R98). -/
def metaPages (es : List Extent) (k : SlotId) (copy : Nat) : Nat :=
  ((es.filter (fun e => e.metaExt && decide (e.copy = copy) && decide (e.slot = k))).map (fun e => e.npages)).sum

/-- Image pages that a copy's extents map (R98, R101). -/
def copyPages (es : List Extent) (k : SlotId) (copy : Nat) : Nat :=
  ((es.filter (fun e => !e.metaExt && decide (e.copy = copy) && decide (e.slot = k))).map (fun e => e.npages)).sum

/-! ## The shape of a Trellis (R129, R131, R132) -/

/-- Nodes of the level above `n` children. -/
def parents (n : Nat) : Nat := (n + 7) / 8

/-- The level sizes n_1, n_2, … up to the root; 20 levels cover any N of R129. -/
def levelsFrom : Nat → Nat → List Nat
  | 0, _ => []
  | f + 1, n => if parents n ≤ 1 then [1] else parents n :: levelsFrom f (parents n)

def levels (n : Nat) : List Nat := levelsFrom 20 n

/-- The height H of an image of n pages. -/
def trellisHeight (n : Nat) : Nat := (levels n).length

/-- All nodes of an image of n pages. -/
def trellisNodes (n : Nat) : Nat := (levels n).sum

/-- Metadata pages an image of n pages uses: 16 manifest pages and its node pages (R131). -/
def metaUsed (n : Nat) : Nat := 16 + (trellisNodes n + 9) / 10

/-- Anchor nodes of an image: level 3 and above, and the root (R132). -/
def anchorNodes (n : Nat) : Nat := if 2 < trellisHeight n then ((levels n).drop 2).sum else 1

/-- Frames the anchors of an image fill, ten nodes each (R132). -/
def anchorFrames (n : Nat) : Nat := (anchorNodes n + 9) / 10

/-! ## The erase units of a copy (R113, R456) -/

/-- An erase unit of a copy (R113, R456): its part, its physical address and size in bytes, and the first page it holds of the copy's
image or metadata area. -/
structure CopyUnit where
  part : PartId
  addr : Nat
  size : Nat
  metaPg : Bool
  page : Nat
deriving DecidableEq, Repr

/-- The erase units that an extent fills, of `u` bytes each, in ascending order. -/
def Extent.units (e : Extent) (u first : Nat) : List CopyUnit :=
  (List.range ((4096 * e.npages + u - 1) / u)).map (fun i =>
    ⟨e.part, 4096 * e.pbase + i * u, min u (4096 * e.npages - i * u), e.metaExt, first + i * u / 4096⟩)

/-- The erase units of a copy's image and metadata areas in ascending order (R113, R456). -/
def State.copyUnitList (s : State) (n : Ch) (k : SlotId) (copy : Nat) : List CopyUnit :=
  let mine := fun (m : Bool) => inOrder ((s.extents n).filter (fun e => decide (e.metaExt = m) && decide (e.copy = copy) && decide (e.slot = k)))
  let u := fun (e : Extent) => max 4096 ((s.chan n).prt e.part).unit
  (mine false).flatMap (fun e => e.units (u e) (imageIndex (s.regions n) k e.vbase)) ++ (mine true).flatMap (fun e => e.units (u e) e.vbase)

/-- Several units may be erased in one step: they follow each other on one part, and together are one erase of a type that its SFDP
lists, aligned in physical address (R456). -/
def unitsJoin (types : List Nat) : List CopyUnit → Bool
  | [] => false
  | [_] => true
  | u :: r =>
    let total := u.size + (r.map (fun x => x.size)).sum
    types.contains total && decide (u.addr % total = 0) &&
      (r.foldl (fun (a : Bool × Nat) x => (a.1 && decide (x.part = u.part ∧ x.addr = a.2), x.addr + x.size)) (true, u.addr + u.size)).1

/-- The part that holds the next unit of a slot's staging copy. -/
def State.nextPart (s : State) (n : Ch) (k : SlotId) : PartId :=
  let step := match ((s.chan n).slot k).up with | some u => u.step | none => 0
  (((s.copyUnitList n k (s.inactCopy n k)).drop step).head?.map (fun u => u.part)).getD 0

/-! ## Exposure (R107) -/

/-- A region's permission in the phase, the staging lock of its slot applied (R111). -/
def State.permNow (s : State) (n : Ch) (r : Region) (k : Nat) : Bool :=
  r.perm (s.chan n).phase k && !(r.stage && ((s.chan n).slot r.slot).locked)

/-- Whether part k of channel n holds a page the agent may reach in a DEFERRED or OPEN region. -/
def State.reaches (s : State) (n : Ch) (k : PartId) : Bool :=
  (s.regions n).any (fun r => decide (r.policy = 1 ∨ r.policy = 3) &&
    (s.permNow n r 0 || s.permNow n r 1 || s.permNow n r 2) &&
    (s.extents n).any (fun e => s.served n e && decide (e.part = k) &&
      decide (e.vbase < r.vbase + r.npages ∧ r.vbase < e.vbase + e.npages)))

/-! ## Graft candidates (R158, R455) -/

/-- A slot's golden agent image in the vault, where its directory entry is valid (R126). -/
def State.goldenOf (s : State) (n : Ch) (k : SlotId) : Option Golden :=
  s.vault.golden.find? (fun g => g.valid && decide (g.chan = n.val ∧ g.slot = k.val))

/-- The place of an image page, or of a metadata page, of a copy: on the channel's parts, or of the vault's golden image (copy code 8)
on the vault's. -/
def State.pagePlace (s : State) (n : Ch) (copy : Nat) (k : SlotId) (metaPg : Bool) (i : Nat) : Option (PartId × Nat) :=
  if copy = 8 then (s.goldenOf n k).map (fun g => (⟨g.part % 2, Nat.mod_lt _ (by decide)⟩, (if metaPg then g.manOff else g.off) / 4096 + i))
  else if metaPg then s.placeOfMeta n copy k i
  else s.placeOfCopy n copy ⟨k, i⟩

/-- The candidates for a failure in a copy, by their copy codes (R158). DESIGN CHOICE: for a failure in the golden copy or in the
vault's image both A and B are tried, the active copy first; R158 speaks of one 'other copy, A or B' (log entry 64). -/
def State.candidates (s : State) (n : Ch) (k : SlotId) (copy : Nat) : List Nat :=
  (if copy = 1 then [2, 3, 8] else if copy = 2 then [1, 3, 8] else [s.actCopy n k, s.inactCopy n k] ++ (if copy = 3 then [8] else [3])).filter
    (fun c => if c = 8 then (s.goldenOf n k).isSome else s.hasCopy n k c)

/-- The place of a Graft candidate: the same image page, or the metadata page that holds the same node (R131, R158). -/
def State.candPlace (s : State) (n : Ch) (g : Graft) (c : Nat) : Option (PartId × Nat) :=
  s.pagePlace n c g.pg.slot g.node (if g.node then 16 + g.pg.page / 10 else g.pg.page)

/-- The KP9600's own program or erase that a part of channel n has in hand (R107): of a staging copy, a refresh, a repair, a
recovery. -/
def State.ownWrite (s : State) (n : Ch) (k : PartId) : Option Busy :=
  let c := s.chan n
  if allSlots.any (fun z => decide ((c.slot z).upd = .copying) && decide (s.nextPart n z = k)) then some .copy
  else if (c.prt k).refresh.isSome then some .refresh
  else if c.repairs.any (fun r => decide (r.part = k) && decide (1 ≤ r.step)) then some .repair
  else if s.ident.recs.any (fun j => decide (j.ch = n.val ∧ (j.st = .writing ∨ j.st = .streaming))) ∨
      s.ident.rewrites.any (fun r => decide (r.ch = n.val)) then some .recovery
  else none

/-- A program or erase that the vault part on VP_CS0_N has in hand: of a journal, a bundle, a key, the firmware, a golden image. -/
def State.vaultWrite (s : State) : Option Busy :=
  if !s.evt.jwait.isEmpty || s.ident.storing.isSome || s.crypt.change.isSome || !s.ident.dl.bufs.isEmpty || !s.ident.fwCopies.isEmpty ||
      s.vault.compact.isSome then some .vault
  else none

/-- A part of a channel, or of the vault where the copy code is 8. -/
def State.partOf (s : State) (n : Ch) (copy : Nat) (k : PartId) : Part := if copy = 8 then s.vault.parts[k.val] else (s.chan n).prt k

/-- The program or erase of the KP9600 that such a part has in hand. -/
def State.writeOn (s : State) (n : Ch) (copy : Nat) (k : PartId) : Option Busy :=
  if copy = 8 then (if k = 0 then s.vaultWrite else none) else s.ownWrite n k

/-- The candidates of a Graft that are left and whose parts are not FAILED. -/
def State.candLeft (s : State) (n : Ch) (g : Graft) : List Nat :=
  g.left.filter (fun c => match s.candPlace n g c with | some x => !(s.partOf n c x.1).failed | none => false)

/-- The candidate a Graft reads now (R158, R455): the first left whose part is not busy with an operation of the KP9600 that it cannot
suspend; a candidate that is skipped so is returned to when that operation has ended. -/
def State.graftCand (s : State) (n : Ch) (g : Graft) : Option Nat :=
  (s.candLeft n g).find? (fun c => match s.candPlace n g c with
    | some x => (s.writeOn n c x.1).isNone || (s.partOf n c x.1).canSuspend
    | none => false)

/-- The redirect of a served DEFERRED page that fails (R159, R455): the candidate and its place. -/
def State.redirectOf (s : State) (n : Ch) (g : Graft) : Option (Nat × PartId × Nat) :=
  if g.served && !g.node && decide (s.policyOfPage n g.pg = 1) then
    (s.graftCand n g).bind (fun c => (s.candPlace n g c).map (fun x => (c, x.1, x.2)))
  else none

/-- A redirect points to a part of the channel, or of the vault where `copy` is 8. -/
def State.redirectTo (s : State) (n : Ch) (vault : Bool) (k : PartId) : Bool :=
  (s.chan n).grafts.any (fun g => match s.redirectOf n g with | some (c, j, _) => decide ((c = 8) = (vault = true)) && decide (j = k) | none => false)

/-- A part is exposed (R107): the agent runs and may reach it, or a redirect points to it. -/
def State.exposed (s : State) (n : Ch) (k : PartId) : Bool :=
  decide ((s.chan n).st = .released) &&
    (s.reaches n k || s.redirectTo n false k)

/-! ## The opcode table (R69 to R73) -/

/-- The command phase of a mode code: lanes and clocking (R69). -/
def cmdPhase (m : Nat) : Nat := if m = 5 then 1 else if m = 8 then 2 else if m = 9 then 3 else 0

/-- Fields of an opcode entry (R70). -/
def opClass (e : Word) : Nat := fld e 4 0
def opFormat (e : Word) : Nat := fld e 11 8
def opAddr (e : Word) : Nat := fld e 13 12
def opDir (e : Word) : Nat := fld e 15 14
def opDummy (e : Word) : Nat := fld e 21 16
def opArg (e : Word) : Nat := fld e 23 22
def opCont (e : Word) : Bool := bit e 24
def opPhaseOk (e : Word) (ph : Phase) : Bool := bit e (5 + ph.code)

/-- An entry is usable in a mode: FORMAT 15, or the same command phase (R69). -/
def opUsable (e : Word) (mode : Nat) : Bool := decide (opFormat e = 15) || decide (cmdPhase (opFormat e) = cmdPhase mode)

/-- The second command byte of 8D-8D-8D agrees with the first (R69). -/
def State.extOk (s : State) (n : Ch) (op ext : Byte) : Bool :=
  decide ((s.chan n).port.mode ≠ 9) ||
    (if bit (s.cfg (fch n 4)) 5 then decide (ext = op) else decide (ext = ~~~op))

/-- What the port makes of an opcode (R73). -/
inductive OpLook where
  | unlisted
  | phaseRefused (e : Word)
  | listed (e : Word)
deriving DecidableEq, Repr

/-- The look-up of an opcode in the channel's table (R69, R73). -/
def State.lookOp (s : State) (n : Ch) (op ext : Byte) : OpLook :=
  let e := s.cfg (opKey n.val op.toNat)
  if opClass e = 0 ∨ opUsable e (s.chan n).port.mode = false ∨ s.extOk n op ext = false then .unlisted
  else if opPhaseOk e (s.chan n).phase then .listed e else .phaseRefused e

/-- The modes the port can enter: BOOTMODE and the TARGET of every valid mode-switch register (R69). -/
def enterModes (rd : Nat → Word) (n : Nat) : List Nat :=
  fld (rd (0x1000 + 0x200 * n + 4)) 3 0 ::
    ([0, 1, 2, 3].filterMap (fun k =>
      let m := rd (0x1000 + 0x200 * n + 0x28 + 4 * k)
      if bit m 31 then some (fld m 19 16) else none))

/-- Clock limit of a mode, MHz (R59). -/
def modeLimit (fmax m : Nat) : Nat := if m = 9 then fmax else if fmax < 133 then fmax else 133

/-- Cycles from the page-address-known point to the address-complete point (R61), for SDR modes. -/
def pakCycles (m : Nat) : Nat :=
  if m = 2 then 6 else if m = 4 ∨ m = 5 then 3 else if m = 7 ∨ m = 8 then 1 else 12

/-- The smallest D from 0 to 63 that meets a bound, or 64 (R64). -/
def leastDummyFrom (p : Nat → Bool) : Nat → Nat → Nat
  | 0, d => d
  | f + 1, d => if p d then d else leastDummyFrom p f (d + 1)

/-- T in ps at a clock in MHz is 10⁶ ÷ f: the hit minimum at f MHz (R62, R64): launch follows PAK by 48 ns or more. -/
def hitMin (m f : Nat) : Nat :=
  if f = 0 then 0
  else if m = 9 then leastDummyFrom (fun d => decide (48 * f ≤ (d + 1) * 1000)) 64 0
  else leastDummyFrom (fun d => decide (2 * 48 * f ≤ (2 * (pakCycles m + d) + 1) * 1000)) 64 0

/-- The miss minimum at f MHz for a read-through latency in ns: (D + 0.5) × T ≥ MISSLAT (R64). -/
def missMin (f ns : Nat) : Nat :=
  if f = 0 then 0 else leastDummyFrom (fun d => decide (2 * ns * f ≤ (2 * d + 1) * 1000)) 64 0

/-- MISSLAT.NS of a part: its DLAT and 20 ns (R63, R109). -/
def State.missLat (s : State) (n : Ch) (k : PartId) : Nat := ((s.chan n).prt k).dlat + 20

/-- The modes an entry can be used in (R69). -/
def usedModes (rd : Nat → Word) (n : Nat) (e : Word) : List Nat := (enterModes rd n).filter (fun m => opUsable e m)

/-- MISSLAT.NS of a channel: the largest latency of its present parts. DESIGN CHOICE: R63 gives the latency of the part that holds
the page, and leaves open which of two parts the channel's one register shows (log entry 64). -/
def State.missLatMax (s : State) (n : Ch) : Nat :=
  allParts.foldl (fun a k => if ((s.chan n).prt k).present ∧ a < s.missLat n k then s.missLat n k else a) 0

/-- HITONLY of an entry: it meets the hit minimum and in some mode not the miss minimum (R65). -/
def State.hitOnlyEntry (s : State) (n : Ch) (i : Nat) : Bool :=
  let e := s.cfg (opKey n.val i)
  decide (opClass e = 1) &&
    (usedModes s.cfg n.val e).any (fun m =>
      decide (opDummy e < missMin (modeLimit (fld (s.cfg (fch n 4)) 23 16) m) (s.missLatMax n)))

/-- FCHn.OPDATA: an entry as it reads, HITONLY in bit 31 (R65, R70). -/
def State.opWord (s : State) (n : Ch) (i : Nat) : Word :=
  s.cfg (opKey n.val i) ||| word (bitAt ((s.chan n).port.hitOnly.contains i) 31)

/-- The HITONLY opcodes recomputed; EV(64n + 15) where one changes (R65). -/
def State.recomputeHitOnly (s : State) (n : Ch) : State :=
  let new := (List.range 256).filter (fun i => s.hitOnlyEntry n i)
  (s.updPort n (fun p => { p with hitOnly := new })).raiseIf (decide (new ≠ (s.chan n).port.hitOnly)) (64 * n.val + 15) 0

end Sys2Proof.Machine
end

