-- ==== Sys2Proof/Machine/Flags.lean ====
section
/-! DEFINITION. Machine/Flags.lean: the status flags of an agent-side port (R81, R97). -/

namespace Sys2Proof.Machine

/-! ## The emulated registers of a port (R81, R97) -/

/-- PSUS or ESUS: a suspended or held operation of the kind (R86, R87). -/
def Port.susp (p : Port) (k : OpKind) : Bool :=
  p.ops.any (fun o => decide (o.kind = k) && decide (o.st = .suspended ∨ o.st = .heldInArb))

def Port.psus (p : Port) : Bool := p.susp .program
def Port.esus (p : Port) : Bool := p.susp .erase

/-- SR: WIP in bit 0, WEL in bit 1, bits 7:2 as stored (R81). -/
def Port.sr (p : Port) : Byte :=
  (p.srHigh &&& 0xFC#8) ||| BitVec.ofNat 8 (bitAt p.wip 0 + bitAt p.wel 1)

/-- One placed bit of FR: a position of 8 to 15 is absent (R81). -/
def frBit (pos : Nat) (b : Bool) : Byte := if pos < 8 ∧ b = true then BitVec.ofNat 8 (2 ^ pos) else 0#8

/-- FR: the bits FAILREG places; READY is the inverse of WIP (R81, R97). -/
def frOf (failreg : Word) (p : Port) : Byte :=
  frBit (fld failreg 3 0) p.pfail ||| frBit (fld failreg 7 4) p.efail ||| frBit (fld failreg 11 8) p.prot |||
  frBit (fld failreg 15 12) p.psus ||| frBit (fld failreg 19 16) p.esus ||| frBit (fld failreg 23 20) (!p.wip)

def State.fr (s : State) (n : Ch) : Byte := frOf (s.cfg (fch n 0xC)) (s.chan n).port

/-- The emulated register that a READ_REG entry's ARG selects: 0 SR, 1 CR, 2 FR (R71, R81). -/
def State.emulReg (s : State) (n : Ch) (arg : Nat) : Byte :=
  if arg = 0 then (s.chan n).port.sr else if arg = 1 then (s.chan n).port.cr else s.fr n

/-- FCHn.ESTAT (R97). -/
def State.estat (s : State) (n : Ch) : Word :=
  word ((s.chan n).port.sr.toNat + 256 * (s.chan n).port.cr.toNat + 65536 * (s.fr n).toNat)

/-- FCHn.APORT (R97). A transaction is one command of the model, so no CS_N is low between two commands: ACTIVE reads 0
(log entry 8). -/
def State.aport (s : State) (n : Ch) : Word :=
  let p := (s.chan n).port
  word (p.mode % 16 + bitAt p.addr4 4 + bitAt p.xip.isSome 5 + bitAt p.wip 6 + bitAt p.wel 7 + bitAt p.esus 8 +
    bitAt p.psus 9 + 65536 * (p.sclkMhz % 256)) ||| s.sticky (fch n 0)

/-- FCHn.MISSLAT (R63, R64, R97), for the port's current mode at its limit. -/
def State.missLatReg (s : State) (n : Ch) : Word :=
  let p := (s.chan n).port
  let f := modeLimit (fld (s.cfg (fch n 4)) 23 16) p.mode
  let ns := s.missLatMax n
  let miss := missMin f ns
  word (ns % 4096 + 65536 * (if 63 < miss then 63 else miss) + 2 ^ 24 * (hitMin p.mode f % 64))

/-! ## The reset state of a port (R60) -/

/-- The port drives DQS with the data: in 8D-8D-8D, and with DQSSDR in modes 6 to 8 (R60, R78). -/
def State.dqs (s : State) (n : Ch) : Bool :=
  let m := (s.chan n).port.mode
  decide (m = 9) || (bit (s.cfg (fch n 4)) 7 && decide (6 ≤ m ∧ m ≤ 8))

/-- The port as every agent reset and every software reset leaves it: BOOTMODE, BOOTADDR4, continuous read disarmed, the
emulated registers at EMUL's values, the fail bits clear; accepted operations go on and WIP stays 1 until they end (R75,
R88). -/
def State.bootPort (s : State) (n : Ch) : State :=
  let acfg := s.cfg (fch n 4)
  let emul := s.cfg (fch n 8)
  s.updPort n (fun p =>
    { p with
      mode := fld acfg 3 0
      addr4 := bit acfg 4
      xip := none
      rstEn := false
      srHigh := BitVec.ofNat 8 (fld emul 7 0) &&& 0xFC#8
      cr := BitVec.ofNat 8 (fld emul 15 8)
      wip := !p.ops.isEmpty
      wel := false
      blockBusy := false
      pfail := false
      efail := false
      prot := false })

/-- An operation that keeps WIP at 1 (R83, R87). -/
def AgentOp.live (o : AgentOp) : Bool := decide (o.st = .waiting ∨ o.st = .running ∨ o.st = .resumeWait)

/-- A part whose busy state begins or ends, and its escalation with it (R108, R122). -/
def State.setBusy (s : State) (n : Ch) (ks : List PartId) (b : Option Busy) : State :=
  ks.foldl (fun s k => s.updPart n k (fun p => { p with busy := b, stage := 0 })) s

/-- A suspend or resume command to the parts of an operation (R86, R87). -/
def State.opCmd (s : State) (n : Ch) (o : AgentOp) (c : FlashOp) : State :=
  o.parts.foldl (fun s k => s.flash n k c [] 0 []) s

/-- Suspended and held operations go on (R75, R88): one held in arbitration waits there again, a suspended one resumes, beside a
running one in its turn. `act`: an operation runs. -/
def resumeAllFrom : Bool → List AgentOp → List AgentOp
  | _, [] => []
  | act, o :: r =>
    match o.st with
    | .heldInArb => { o with st := .waiting, suspendHeld := false } :: resumeAllFrom act r
    | .suspended => { o with st := if act then .resumeWait else .running, suspendHeld := false } :: resumeAllFrom true r
    | _ => { o with suspendHeld := false } :: resumeAllFrom act r

/-- An operation of a port runs. -/
def Port.opRuns (p : Port) : Bool := p.ops.any (fun o => decide (o.st = .running))

/-- The device side resumes what is suspended and completes it (R75, R88): the resume command goes to the parts of the operation
that runs again. -/
def State.resumeAll (s : State) (n : Ch) : State :=
  let p := (s.chan n).port
  let s := match p.opRuns, p.ops.find? (fun o => decide (o.st = .suspended)) with
    | false, some o => (s.setBusy n o.parts (some .agent)).opCmd n o .resume
    | _, _ => s
  s.updPort n (fun p => { p with ops := resumeAllFrom p.opRuns p.ops })

/-! ## The SFDP image (R79) -/

/-- What the Warden builds the image of channel n from now: the committed words of group n, the virtual size, the opcode entries that
are not NONE with their opcodes, the times of the physical parts. -/
def State.sfdpNow (s : State) (n : Ch) : SfdpSrc :=
  { regs := [4, 8, 0x28, 0x2C, 0x30, 0x34, 0xA0].map (fun o => s.cfg (fch n o))
    vpages := s.vpages n
    ops := ((List.range 256).map (fun i => (i, s.cfg (opKey n.val i)))).filter (fun e => decide (opClass e.2 ≠ 0))
    times := allParts.map (fun k => ((s.chan n).prt k).times) }

/-- The image is built (R79): at a commit of group n, and where an eye training changes a HITONLY. `words`: what firmware's commit
writes to it through SFDPDATA (R97). -/
def State.buildSfdp (s : State) (n : Ch) (words : Store) : State :=
  let b := s.sfdpNow n
  s.updPort n (fun p => { p with sfdp := some b, sfdpInt := words })

/-- The parameter tables of an image with their lengths in DWORDs (R79; log entry 9). -/
def SfdpSrc.tables (b : SfdpSrc) : List (Nat × Nat) :=
  [(0xFF00, 20)] ++ (if 4096 < b.vpages then [(0xFF84, 2)] else []) ++
    (if b.ops.any (fun e => decide (opFormat e.2 = 9)) then [(0xFF05, 5)] else []) ++
    (if [2, 3, 4, 5].any (fun i => let m := b.regs.getD i 0#32; bit m 31 && decide (fld m 19 16 = 9)) then [(0xFF0A, 8)] else []) ++
    [(0xFF87, 28)]

/-- A byte of a parameter table. -/
def SfdpSrc.tableByte (b : SfdpSrc) (id i : Nat) : Byte := Config.sfdpTable id b.regs b.ops b.times i

/-- Parameter headers from table pointer `p` on: identifier, revision, length and pointer. -/
def SfdpSrc.headers (b : SfdpSrc) : List (Nat × Nat) → Nat → List Byte
  | [], _ => []
  | (id, len) :: r, p =>
    [BitVec.ofNat 8 id, b.tableByte id 1024, b.tableByte id 1025, BitVec.ofNat 8 len] ++ leBytes 3 p ++
      [BitVec.ofNat 8 (id / 256)] ++ b.headers r (p + 4 * len)

/-- The built image (R79): the signature, revision 1.8, the parameter headers, then the tables. -/
def SfdpSrc.image (b : SfdpSrc) : List Byte :=
  [0x53#8, 0x46#8, 0x44#8, 0x50#8, 0x08#8, 0x01#8, BitVec.ofNat 8 (b.tables.length - 1), 0xFF#8] ++
    b.headers b.tables (8 + 8 * b.tables.length) ++
    b.tables.flatMap (fun t => (List.range (4 * t.2)).map (fun i => b.tableByte t.1 i))

/-- Byte `i` of channel n's SFDP image: a word that firmware has written, else the built image; beyond the tables, and beyond the 1
KiB, 0xFF (R79, R97). -/
def State.sfdpByte (s : State) (n : Ch) (i : Nat) : Byte :=
  let p := (s.chan n).port
  match stagedGet? p.sfdpInt (i / 4) with
  | some w => (wordBytes w).getD (i % 4) 0#8
  | none => (match p.sfdp with | some b => b.image.getD i 0xFF#8 | none => 0xFF#8)

/-- Bytes of the image from an address on. -/
def State.sfdpBytes (s : State) (n : Ch) (addr k : Nat) : List Byte := (List.range k).map (fun i => s.sfdpByte n (addr + i))

/-- FCHn.SFDPDATA (R97): four bytes of the image, 0 before one is built. -/
def State.sfdpWord (s : State) (n : Ch) (i : Nat) : Word :=
  let p := (s.chan n).port
  if p.sfdp.isNone ∧ p.sfdpInt.isEmpty then 0#32 else wordAt (s.sfdpBytes n (4 * i) 4) 0

end Sys2Proof.Machine
end

