-- ==== Sys2Proof/Machine/ModeOps.lean ====
section
/-! DEFINITION. Machine/ModeOps.lean: the OTP array, exceptions, counters, modes, agent states, intent records and phases. -/

namespace Sys2Proof.Machine

/-! ## The OTP array: lifecycle words, digest slots, Vintage counters (R326, R327, R335) -/

/-- The valid patterns of the lifecycle words (R327). -/
def patTest : BitVec 16 := 0xA5C3#16
def patProd : BitVec 16 := 0x3C96#16
def patEol : BitVec 16 := 0xC369#16

/-- A word is partial: nonzero, no bit outside its pattern, not the whole pattern (R327). -/
def partialWord (w p : BitVec 16) : Bool := decide (w ≠ 0#16) && decide (w &&& ~~~p = 0#16) && decide (w ≠ p)

/-- The lifecycle state's readout code (R327): 0 BLANK, 1 TEST, 2 PRODUCTION, 3 END_OF_LIFE, 7 INVALID. -/
def lcCode (t p e : BitVec 16) : Nat :=
  if t = 0#16 ∧ p = 0#16 ∧ e = 0#16 then 0
  else if t = patTest ∧ p = 0#16 ∧ e = 0#16 then 1
  else if t = patTest ∧ p = patProd ∧ e = 0#16 then 2
  else if e = patEol ∧ (t = 0#16 ∨ t = patTest) ∧ (p = 0#16 ∨ p = patProd) then 3
  else 7

def Otp.lc (o : Otp) : Nat := lcCode o.wTest o.wProd o.wEol

/-- The lifecycle readout code now. -/
def State.lifeCode (s : State) : Nat := s.life.otp.lc

/-- UNITID as a number, byte 0 lowest (R336). -/
def State.unitid (s : State) : Nat := leNat (bytesAt s.life.otp.ident.bytes 16 12)

/-- The value of a Vintage counter: the position of its highest bit, plus one (R335). -/
def vctrValue (v : BitVec 64) : Nat := (List.range 64).foldl (fun a i => if v.getLsbD i then i + 1 else a) 0

/-- A bit below the highest reads 0 (R335). -/
def vctrGap (v : BitVec 64) : Bool := (List.range (vctrValue v)).any (fun i => !v.getLsbD i)

/-- The bits of Vintage counter k; 0 to 13 serve slots, 14 policy bundles, 15 the device firmware (R335). -/
def State.vctr (s : State) (k : Nat) : BitVec 64 := s.life.otp.vctr.toList.getD k 0#64

def State.vintage (s : State) (k : Nat) : Nat := vctrValue (s.vctr k)

/-- OTP changed. -/
def State.updOtp (s : State) (f : Otp → Otp) : State := { s with life := { s.life with otp := f s.life.otp } }

/-- One step of a Vintage burn: the next position is programmed (R116, R335). A full counter stays. -/
def State.burnVintage (s : State) (k : Nat) : State :=
  s.updOtp (fun o =>
    if h : k < 16 then { o with vctr := o.vctr.set k (o.vctr[k] ||| (BitVec.ofNat 64 (2 ^ vctrValue o.vctr[k]))) } else o)

/-- The digest of a programmed owner slot (R326). -/
def State.ownerDigest (s : State) (k : Nat) : Option Nat :=
  let d := s.life.otp.owners.getD k 0
  if d = 0 then none else some d

/-- The digest of a programmed vendor slot (R326). -/
def State.vendorDigest (s : State) (k : Nat) : Option Nat :=
  let d := s.life.otp.vendors.getD k 0
  if d = 0 then none else some d

def State.ownerRevoked (s : State) (k : Nat) : Bool := s.life.otp.orev.getLsbD k
def State.vendorRevoked (s : State) (k : Nat) : Bool := s.life.otp.vrev.getLsbD k

/-- The digests of the vendor root keys in force (R283, R334). -/
def State.vendorKeys (s : State) : List Nat :=
  (List.range 4).filterMap (fun k => if s.vendorRevoked k then none else s.vendorDigest k)

/-- A bit that still reads 0 after its pulses stops the operation: EV1018, PROGFAIL (R326). -/
def State.otpFail (s : State) : State :=
  ({ s with life := { s.life with progFail := sat 255 (s.life.progFail + 1) } } : State).raise 1018 0

/-- A PUF-invalidate fuse reads 1 (R326). -/
def State.fusesBlown (s : State) : Bool := decide (s.life.otp.fuses ≠ 0#8)

/-- Debug under the HALT scope or wider is open (R341). -/
def State.haltScope (s : State) : Bool :=
  decide (s.lifeCode = 0) || (s.life.debugOpen && decide (2 ≤ s.life.scope))

/-- Debug at the OBSERVE scope or wider is open (R341). -/
def State.observeScope (s : State) : Bool :=
  decide (s.lifeCode = 0) || (s.life.debugOpen && decide (1 ≤ s.life.scope))

/-! ## The exception queues (R10) -/

/-- A core pair runs: firmware runs and no handover has halted the pair (R286). -/
def State.pairRuns (s : State) (warden : Bool) : Bool :=
  s.plat.fwRuns &&
    !(match s.ident.hand with | some h => decide (h.warden = warden) && decide (h.st ≠ .waiting) | none => false)

/-- The pending count of a source goes up by one (R10). -/
def bumpPend (p : List PendCnt) (src : Nat) : List PendCnt :=
  if p.any (fun x => x.src = src) then p.map (fun x => if x.src = src then { x with count := x.count + 1 } else x)
  else p ++ [⟨src, 1, sevOf src, 0⟩]

/-- An exception toward a core pair (R10): delivered to a pair that runs, queued for one that does not, and with a full queue
counted in the pending count of its source, with EV1023. -/
def State.exception (s : State) (warden : Bool) (src : Nat) : State :=
  if s.pairRuns warden then s.emit (.exception warden src)
  else
    let held := if warden then s.plat.excWarden else s.plat.excSteward
    if held.length < 4096 then
      { s with plat := if warden then { s.plat with excWarden := s.plat.excWarden ++ [src] }
                       else { s.plat with excSteward := s.plat.excSteward ++ [src] } }
    else
      let s : State := { s with evt := { s.evt with pend := bumpPend s.evt.pend src } }
      s.raiseIf (decide (src ≠ 1023)) 1023 (b2n warden)

/-- Queued exceptions are drained to the pairs that run (R286, R287). -/
def State.drainExceptions (s : State) : State :=
  let w := if s.pairRuns true then s.plat.excWarden else []
  let t := if s.pairRuns false then s.plat.excSteward else []
  let s := (t.foldl (fun s e => s.emit (.exception false e)) (w.foldl (fun s e => s.emit (.exception true e)) s))
  { s with plat := { s.plat with
      excWarden := if s.pairRuns true then [] else s.plat.excWarden
      excSteward := if s.pairRuns false then [] else s.plat.excSteward } }

/-! ## Counters (R369, R370, R371, R373) -/

/-- A number of a sparse list of (key, number), 0 where not listed. -/
def natGet : List (Nat × Nat) → Nat → Nat
  | [], _ => 0
  | (a, v) :: r, k => if a = k then v else natGet r k

/-- A number stored in a sparse list, keys rising, no 0 listed. -/
def natPut : List (Nat × Nat) → Nat → Nat → List (Nat × Nat)
  | [], k, v => if v = 0 then [] else [(k, v)]
  | (a, w) :: r, k, v =>
    if k < a then (if v = 0 then (a, w) :: r else (k, v) :: (a, w) :: r)
    else if k = a then (if v = 0 then r else (k, v) :: r)
    else (a, w) :: natPut r k v

/-- A counter index that exists: fixed and programmable counters of a channel, or a queue-class counter (R369). -/
def counterOk (i : Nat) : Bool := decide (i < 0x80 ∧ i % 16 < 9) || decide (0x100 ≤ i ∧ i < 0x1DC)

/-- The overflow source of a counter (R373). -/
def ovfSource (i : Nat) : Nat := if i < 0x80 then 896 + i / 16 else 904 + (i - 0x100) / 8

/-- A counter stored with a sum: it wraps at 2^48, sets OVF and raises its overflow event (R373). -/
def State.storeCounter (s : State) (i sum : Nat) : State :=
  if counterOk i = false then s
  else
    let s1 : State := { s with cntr := { s.cntr with
      vals := natPut s.cntr.vals i (sum % 2 ^ 48)
      ovf := if 2 ^ 48 ≤ sum then i :: s.cntr.ovf.filter (fun j => j ≠ i) else s.cntr.ovf } }
    s1.raiseIf (decide (2 ^ 48 ≤ sum)) (ovfSource i) i

/-- A counter increases (R369). -/
def State.addCounter (s : State) (i k : Nat) : State :=
  if k = 0 then s else s.storeCounter i (natGet s.cntr.vals i + k)

/-- The selection byte of programmable counter j of channel n (R370, R380). -/
def State.cntSel (s : State) (n j : Nat) : Nat :=
  let w := s.cfg (0x720 + 8 * n + (if j < 4 then 0 else 4))
  fld w (8 * (j % 4) + 7) (8 * (j % 4))

/-- A flash-class event of channel n, counted k times by every programmable counter that selects it (R369, R370). -/
def State.cntNat (s : State) (n code k : Nat) : State :=
  (List.range 8).foldl (fun s j => if s.cntSel n j = 128 + code then s.addCounter (16 * n + 1 + j) k else s) s

def State.cnt (s : State) (n : Ch) (code k : Nat) : State := s.cntNat n.val code k

/-- Queue-class counter i (R371). -/
def State.cntQ (s : State) (i k : Nat) : State := s.addCounter (0x100 + i) k

/-! ## Modes (R39 to R44, R55) -/

/-- Main power is on: some register and wire is live (R40). -/
def State.powered (s : State) : Bool := decide (s.plat.mode ≠ .shelf)

/-- Background work other than scrubbing and re-masking is served in this mode (R40). -/
def State.background (s : State) : Bool := decide (s.plat.mode = .verify ∨ s.plat.mode = .guard ∨ s.plat.mode = .recover)

/-- A policy bundle is applied. -/
def State.policyApplied (s : State) : Bool := s.ident.applied.isSome

/-- The applied bundle. -/
def State.bundle (s : State) : Option Bundle := s.ident.applied.map (fun x => x.2)

/-- Open intent records: the newest of their kind, channel and slot, neither done nor rolled back (R127). -/
def liveIntentsOf : List Intent → List Intent
  | [] => []
  | i :: r =>
    if r.any (fun j => decide (j.kind = i.kind ∧ j.chan = i.chan ∧ j.slot = i.slot)) ∨ i.state = 1 ∨ i.state = 2 then liveIntentsOf r
    else i :: liveIntentsOf r

/-- A record whose MAC fails is ignored: the previous valid one of its kind, channel and slot stands for the operation (R127). -/
def liveIntents (l : List Intent) : List Intent := liveIntentsOf (l.filter (fun i => i.macOk))

/-! ## The vault's parts (R122, R128) -/

/-- The vault port writes VP_CS0_N now: the flash PLL runs and the part is not FAILED, to which no command goes (R122, R282, R391). -/
def State.vaultUp (s : State) : Bool := s.powered && !s.clk.flashLost && !s.vault.parts[0].failed

/-- A vault part changed. -/
def State.updVaultPart (s : State) (k : PartId) (f : Part → Part) : State :=
  { s with vault := { s.vault with parts := s.vault.parts.set k.val (f s.vault.parts[k.val]) } }

/-- A vault part is ready again. -/
def State.vaultIdle (s : State) (k : PartId) : State := s.updVaultPart k (fun p => { p with busy := none, stage := 0 })

/-- An operation of the KP9600 on VP_CS0_N has ended by itself: a part that stayed busy past its maximum time is ready again, unless its
reset has begun (R122). -/
def State.vaultDone (s : State) : State := if s.vault.parts[0].stage ≤ 1 then s.vaultIdle 0 else s

/-! ## The last-mode record (R55) -/

/-- SRC and DST of a firmware copy in an intent record (R126, R127): its area on VP_CS0_N. -/
def fwPlace (k : Nat) : Nat := (if k = 0 then 0x400000 else if k = 1 then 0xC00000 else 0x1400000) + 2

/-- ARG of a vault event (R358): the address on the part of a chip select. DESIGN CHOICE: the area that the event is about, and 0 where it
is about none (log entry 67). -/
def vaultArg (addr cs : Nat) : Nat := addr % 2 ^ 32 + 2 ^ 32 * (2 + cs)

/-- ARG of an event about a firmware copy, and about a policy bundle slot (R126, R358). -/
def fwArg (k : Nat) : Nat := vaultArg (if k = 0 then 0x400000 else if k = 1 then 0xC00000 else 0x1400000) 0
def polArg (k : Nat) : Nat := vaultArg (if k = 0 then 0xF0000 else 0x130000) 0

/-- The slot with the higher SEQ, compared modulo 2^32 (R55). -/
def lastNewer (a b : LastRec) : Bool := decide (0 < (a.seq + 2 ^ 32 - b.seq) % 2 ^ 32 ∧ (a.seq + 2 ^ 32 - b.seq) % 2 ^ 32 < 2 ^ 31)

/-- Whether the valid record with the higher SEQ is in slot 0. -/
def Keeper.lastIn0 (k : Keeper) : Bool :=
  match k.slot0, k.slot1 with
  | some a, some b => lastNewer a b
  | some _, none => true
  | none, _ => false

/-- The last-mode record: the valid slot with the higher SEQ (R55). -/
def Keeper.last (k : Keeper) : Option LastRec := if k.lastIn0 then k.slot0 else k.slot1

/-- The first four bytes of the applied bundle's digest; 0 where none is applied. -/
def State.policyId (s : State) : Nat :=
  match s.bundle with
  | some b => b.digest / 2 ^ 352 % 2 ^ 8 + 2 ^ 8 * (b.digest / 2 ^ 360 % 2 ^ 8) + 2 ^ 16 * (b.digest / 2 ^ 368 % 2 ^ 8) +
      2 ^ 24 * (b.digest / 2 ^ 376 % 2 ^ 8)
  | none => 0

/-- The record a mode or agent-state change writes (R55). With no valid record before it, its SEQ is a free value. -/
def State.lastNow (s : State) : LastRec :=
  { seq := match s.keeper.last with | some r => wrap32 (r.seq + 1) | none => (s.free).toNat % 2 ^ 32
    mode := s.plat.mode.code
    cause := s.plat.cause
    lifecycle := s.lifeCode
    flags := bitAt (!s.plat.haltN) 0 + bitAt s.life.debugOpen 1 + bitAt s.policyApplied 2 +
      bitAt (!(liveIntents s.vault.intents).isEmpty) 3
    rtc := s.rtc
    agents := s.agentWord
    commitGen := s.regs.gen.toNat
    policyId := s.policyId }

/-- The last-mode record is written to the slot that does not hold the valid record with the higher SEQ (R55). -/
def State.writeLast (s : State) : State :=
  let r := s.lastNow
  let s : State := { s with freeCtr := if s.keeper.last.isSome then s.freeCtr else s.freeCtr + 1 }
  if s.keeper.lastIn0 then { s with keeper := { s.keeper with slot1 := some r } }
  else { s with keeper := { s.keeper with slot0 := some r } }

/-- The severity of EV768 for a target mode (R41). -/
def modeSev (m : Mode) : Nat := match m with | .lockdown => 6 | .recover => 5 | _ => 2

/-- The mode changes (R41): PREV, CAUSE, HOLDTIME or GUARDTIME, the retained count at GUARD (R389), the last-mode record and
EV768. -/
def State.setMode (s : State) (m : Mode) (cause : Nat) : State :=
  let us := word s.usSinceRestart
  let s : State := { s with
    plat := { s.plat with
      mode := m, prev := s.plat.mode, cause := cause
      holdTime := if m = .verify ∧ s.plat.holdTime = 0xFFFFFFFF#32 then us else s.plat.holdTime
      guardTime := if m = .guard ∧ s.plat.guardTime = 0xFFFFFFFF#32 then us else s.plat.guardTime }
    keeper := { s.keeper with
      wdCount := if m = .guard then 0 else s.keeper.wdCount
      wdInv := if m = .guard then 255 else s.keeper.wdInv } }
  (s.writeLast).raiseAt 768 (modeSev m) (m.code + 256 * cause)

/-- An agent's platform control. -/
def State.agt (s : State) (n : Ch) : AgentCtl := s.ctl.agents[n.val]

/-- An agent's platform control changed. -/
def State.updAgt (s : State) (n : Ch) (f : AgentCtl → AgentCtl) : State :=
  { s with ctl := { s.ctl with agents := s.ctl.agents.set n.val (f (s.agt n)) } }

/-- An agent's state changes: the last-mode record and EV769 (R44). -/
def State.setAgent (s : State) (n : Ch) (a : AgentSt) : State :=
  if (s.chan n).st = a then s
  else ((s.updChan n (fun c => { c with st := a })).writeLast).raiseAt 769
    (if a = .quarantined ∨ a = .reimaging then 4 else 1) (n.val + 256 * a.code)

/-! ## Intent records (R127) -/

/-- Whether operations that open an intent record may begin: not in RECOVER after a vault failure (R282), nor without the
Rootstock (R297). -/
def State.intentsOk (s : State) : Bool :=
  !(decide (s.plat.mode = .recover) && decide (s.plat.cause = 0x16)) && s.crypt.root.isSome

/-- A device-side port starts no transaction: it is being trained (R118, R120), or FLASH is lost (R394). -/
def State.portHeld (s : State) (n : Ch) : Bool := decide (s.plat.training = some n.val) || s.clk.flashLost

/-- The agent's own operation keeps a part: it runs there or is suspended there (R108, R110). -/
def State.agentOn (s : State) (n : Ch) (k : PartId) : Bool :=
  (s.chan n).port.ops.any (fun o => o.parts.contains k && decide (o.st = .running ∨ o.st = .suspended ∨ o.st = .resumeWait))

/-- The KP9600's own program or erase may go to a part now (R38, R107, R108, R122): the port takes it, the agent's own operation is
not on the part, the part is not FAILED nor being reset, and no redirect has it suspended (R455). -/
def State.canWrite (s : State) (n : Ch) (k : PartId) : Bool :=
  !s.portHeld n && !s.agentOn n k && !((s.chan n).prt k).failed && !((s.chan n).prt k).susp && decide (((s.chan n).prt k).stage ≤ 1)

/-- The die temperature is above TCRIT (R396). -/
def State.hot (s : State) : Bool := decide (4 * (fld (s.cfg 0x2E0C) 15 8 : Int) < int16 s.clk.tempNow.toNat)

/-- A place on a part as the SRC and DST of an intent record name it: the page in bits 31:12, CS0 or CS1 in bits 3:0 (R127). -/
def placeWord (x : Option (PartId × Nat)) : Nat := match x with | some (k, p) => 4096 * p + k.val | none => 0

/-- The place of the first page of a copy's image area. -/
def State.copyPlace (s : State) (n : Ch) (k : SlotId) (copy : Nat) : Nat := placeWord (s.placeOfCopy n copy ⟨k, 0⟩)

/-- A write of the vault header (R126): it goes to the copy that does not hold the higher valid sequence number. -/
def State.writeHeader (s : State) : State :=
  let v := s.vault
  let a := v.hdrA.getD 0
  let b := v.hdrB.getD 0
  if b ≤ a ∧ v.hdrA.isSome = true then { s with vault := { v with hdrB := some (a + 1) } }
  else { s with vault := { v with hdrA := some (b + 1) } }

/-- A vault area is erased once more: EV516 where it passes its wear-levelling threshold, which the spec leaves open (R37, R128). -/
def State.wearErase (s : State) (area : Nat) : State :=
  let c := (match s.vault.wear.find? (fun x => decide (x.1 = area)) with | some x => x.2 | none => 0) + 1
  ({ s with vault := { s.vault with wear := (area, c) :: s.vault.wear.filter (fun x => decide (x.1 ≠ area)) } } : State).raiseIf
    (decide (c = Config.wearLimit area)) 516 0

/-- An intent record is appended; without the Rootstock the journal is not written (R297, R313). -/
def State.intent (s : State) (kind chan slot state step nsteps src dst arg : Nat) : State :=
  if s.crypt.root = none then s
  else { s with vault := { s.vault with
      intents := s.vault.intents ++ [⟨s.vault.nextSeq, kind, chan, slot, state, step, nsteps, src, dst, arg, true⟩]
      nextSeq := wrap32 (s.vault.nextSeq + 1) } }

/-! ## Phases (R106) -/

/-- The phase changes and EV(64n + 17) is raised. -/
def State.setPhase (s : State) (n : Ch) (p : Phase) : State :=
  if (s.chan n).phase = p then s else (s.updChan n (fun c => { c with phase := p })).raiseCh n 17 0

end Sys2Proof.Machine
end

