-- ==== Sys2Proof/Machine/HostOps.lean ====
section
/-! DEFINITION. Machine/HostOps.lean: host queues, messages and completions (R225 to R249). -/

namespace Sys2Proof.Machine

/-! ## The link and memory traffic (R246, R248, R250, R371, R376) -/

/-- Memory requests and messages may be issued (R250). -/
def State.busOk (s : State) : Bool :=
  s.powered && s.plat.perstN && s.host.linkUp && s.host.bme && !s.host.d3hot && !s.host.flr

/-- The read requests of k bytes from an address, each of at most `mrrs` bytes and within one 4 KiB block (R245). -/
def readRequests (addr k mrrs : Nat) : Nat :=
  let up := fun (n : Nat) => (n + mrrs - 1) / mrrs
  let first := min k (4096 - addr % 4096)
  up first + (k - first) / 4096 * up 4096 + up ((k - first) % 4096)

/-- Bytes read from host memory, from an address (R245, R371, R376). DESIGN CHOICE: a command buffer counts as 4 KiB aligned where the
command does not carry its address (log entry 67). -/
def State.countRead (s : State) (k : Nat) (addr : Nat := 0) : State :=
  let s := (s.cntQ 212 (readRequests addr k s.host.mrrs)).cntQ 213 k
  { s with tlm := { s.tlm with rdBytes := s.tlm.rdBytes + k } }

/-- Bytes written to host memory: the bytes leave, and are counted (R371, R376). -/
def State.hostWrite (s : State) (addr : Nat) (bs : List Byte) : State :=
  let s := (s.cntQ 214 bs.length).emit (.hostWrite addr bs)
  { s with tlm := { s.tlm with wrBytes := s.tlm.wrBytes + bs.length } }

/-! ## MSI-X (R238) -/

/-- A message of vector v: pended while the vector or the function is masked or MSI-X is not enabled (R238). -/
def State.msi (s : State) (v : Nat) : State :=
  if h : v < 64 then
    let e := s.host.vecs[v]
    if e.masked ∨ s.host.funcMask ∨ s.host.msixEn = false ∨ s.busOk = false then
      { s with host := { s.host with vecs := s.host.vecs.set v { e with pending := true } } }
    else (s.cntQ 209 1).emit (.msi v)
  else s

/-- An event sent to vector v: one message per MSIGAP; raises within the gap are carried (R360). -/
def State.vecEvent (s : State) (v : Nat) : State :=
  if fld (s.cfg 0x410) 15 0 = 0 then s.msi v
  else if s.evt.msiGap.any (fun g => g.1 = v) then
    { s with evt := { s.evt with msiGap := s.evt.msiGap.map (fun g => if g.1 = v then (v, true) else g) } }
  else ({ s with evt := { s.evt with msiGap := s.evt.msiGap ++ [(v, false)] } } : State).msi v

/-! ## Queues (R225 to R238) -/

/-- The descriptor base of queue q (R225). -/
def qBase (q : Nat) : Nat := if q < 4 then 0x1C0 + 16 * q else 0x800 + 16 * (q - 8)

/-- A queue that has a descriptor. -/
def qExists (q : Nat) : Bool := decide (q < 4) || decide (8 ≤ q ∧ q < 136)

/-- A submission queue: Q0 and the even seal queues. -/
def qSub (q : Nat) : Bool := decide (q = 0) || decide (8 ≤ q ∧ q < 136 ∧ q % 2 = 0)

def State.qCfg (s : State) (q : Nat) : Word := s.cfg (qBase q + 8)
def State.queue (s : State) (q : Nat) : HQueue := s.host.queues.toList.getD q emptyQueue
def State.updQueue (s : State) (q : Nat) (f : HQueue → HQueue) : State :=
  if h : q < 136 then { s with host := { s.host with queues := s.host.queues.set q (f s.host.queues[q]) } } else s

/-- TAGCAP of a seal submission queue (R226, R253). -/
def State.tagCap (s : State) (q : Nat) : Nat := fld (s.qCfg q) 5 0

/-- Entries of a ring. -/
def State.qSize (s : State) (q : Nat) : Nat := 2 ^ fld (s.qCfg q) 27 24

/-- The address of an entry of a ring. -/
def State.qAddr (s : State) (q pos bytes : Nat) : Nat :=
  (s.cfg (qBase q)).toNat + 2 ^ 32 * (s.cfg (qBase q + 4)).toNat + bytes * pos

/-- Free slots of a device-written queue: one slot stays between its position and its head. -/
def State.qFree (s : State) (q : Nat) : Nat :=
  let z := s.qSize q
  (z - 1) - ((s.queue q).pos + z - (s.queue q).bell) % z

/-- The error event of a queue: EV672 for the admin pair, EV(608 + p) for seal pair p (R251). -/
def qEvent (q : Nat) : Nat := if q < 4 then 672 else 608 + (q - 8) / 2

/-- ARG of a queue event (R358). -/
def qArg (q cause cid : Nat) : Nat := q % 256 + 256 * cause + 65536 * cid

/-- A queue enters ERROR or FAULT with its event (R235, R247, R28). -/
def State.qFail (s : State) (q : Nat) (st : QState) (cause : Nat) : State :=
  (s.updQueue q (fun z => { z with st := st, cause := cause })).raise (qEvent q) (qArg q cause 0)

/-- One entry written to a device-written queue: its message count, position and phase (R232, R238). -/
def State.qWrite (s : State) (q bytes : Nat) (noint : Bool) (entry : Bool → List Byte) : State :=
  let z := s.queue q
  let s := s.hostWrite (s.qAddr q z.pos bytes) (entry z.phase)
  let c := s.qCfg q
  let n := z.unsig + b2n (!noint)
  let fire := bit c 15 && !noint && decide (fld c 14 8 ≤ n)
  let s := s.updQueue q (fun z =>
    { z with
      pos := (z.pos + 1) % s.qSize q
      phase := if z.pos + 1 = s.qSize q then !z.phase else z.phase
      unsig := if fire then 0 else n })
  if fire then s.msi (fld c 21 16) else s

/-- One entry of Q2 or Q3 (R243, R244): written, or dropped and counted in LOST with its event (Q2 once per run of
drops). They are served while the Steward firmware runs, and the telemetry queue not in LOCKDOWN (R40). -/
def State.qReport (s : State) (q bytes : Nat) (body : List Byte) : State :=
  let z := s.queue q
  if z.st ≠ .running ∨ s.plat.fwRuns = false ∨ (q = 3 ∧ s.plat.mode = .lockdown) then s
  else
    let s := s.updQueue q (fun z => { z with qseq := z.qseq + 1 })
    if s.qFree q = 0 ∨ s.busOk = false then
      let first := decide (z.lost = 0)
      let s := (s.updQueue q (fun z => { z with lost := wrap32 (z.lost + 1) })).cntQ (if q = 2 then 195 else 197) 1
      if q = 2 then s.raiseIf first 673 (qArg q 0 0) else s.raise 674 (qArg q 0 0)
    else
      let w := bytes - 32
      let s := (s.qWrite q bytes false (fun ph => padTo (bytes - 4)
        (padTo w body ++ leBytes 8 (z.qseq + 1) ++ leBytes 4 z.lost) ++ leBytes 4 (b2n ph))).cntQ (if q = 2 then 194 else 196) 1
      s.updQueue q (fun z => { z with lost := 0 })

/-! ## Completions (R230, R231, R249) -/

/-- A completion entry's bytes (R230). -/
def cplBytes (c : Cpl) (phase replay : Bool) : List Byte :=
  leBytes 2 c.cid ++ leBytes 2 c.sqid ++ leBytes 2 c.sqhead ++ leBytes 1 c.status.code ++ leBytes 1 c.detail ++
    padTo 16 (if c.status = .ok then c.result else []) ++ leBytes 4 0 ++ leBytes 4 (b2n phase + 2 * b2n replay)

/-- A retained entry waits to be written, and its queue and the bus can take it (R232, R249). -/
def State.cplGoes (s : State) (r : Retained) : Bool := !r.sent && decide ((s.queue r.cq).st = .running) && s.busOk

/-- A retained entry that can go is written (R232). -/
def State.sendCpl (s : State) (r : Retained) : State × Retained :=
  if s.cplGoes r then (s.qWrite r.cq 32 r.noint (fun ph => cplBytes r.cpl ph r.replay), { r with sent := true }) else (s, r)

/-- The receipt of a replayed entry that can go is written again (R249). -/
def State.sendReceipt (s : State) (r : Retained) : State :=
  match s.cplGoes r && r.replay, r.receipt with
  | true, some x => s.hostWrite x.1 x.2
  | _, _ => s

/-- Every retained entry that waits is written where it can be, replayed receipts first. -/
def State.flushCpl (s : State) : State :=
  let s := s.host.retained.foldl State.sendReceipt s
  let r := s.host.retained.foldl (fun (a : State × List Retained) x => let y := a.1.sendCpl x; (y.1, a.2 ++ [y.2])) (s, [])
  { r.1 with host := { r.1.host with retained := r.2 } }

/-- A completion is retained until acknowledged, and written where its queue can take it (R230, R234, R249). -/
def State.postCpl (s : State) (sq : Nat) (c : Cpl) (noint : Bool) (receipt : Option (Nat × List Byte)) : State :=
  let r := s.sendCpl { cq := sq + 1, cpl := c, receipt := receipt, noint := noint, sent := false, replay := false }
  { r.1 with host := { r.1.host with retained := r.1.host.retained ++ [r.2] } }

/-! ## MCTP responses (R404, R405, R411, R413) -/

/-- A sideband port. -/
def State.sb (s : State) (p : Nat) : SbPort := s.side.ports.toList.getD p startSbPort

/-- A sideband port changed. -/
def State.updSb (s : State) (p : Nat) (f : SbPort → SbPort) : State :=
  if h : p < 2 then { s with side := { s.side with ports := s.side.ports.set p (f s.side.ports[p]) } } else s

/-- SIDE.CFG.MODE of a port: 0 off, 1 SMBus, 2 I3C (R422). -/
def State.sbMode (s : State) (p : Nat) : Nat := fld (s.cfg 0x2A00) (8 * p + 1) (8 * p)

/-- A message cut into packets of 64 bytes (R224, R411). -/
def cutPackets : Nat → List Byte → List (List Byte)
  | 0, _ => []
  | f + 1, bs => if bs.length ≤ 64 then [bs] else bs.take 64 :: cutPackets f (bs.drop 64)

/-- The packets of a response wait at a port; on I3C an in-band interrupt with the byte 0xAE says so (R405). -/
def State.queueResponse (s : State) (p : Nat) (bs : List Byte) : State :=
  let first := (s.sb p).resp.isEmpty
  let s := s.updSb p (fun z => { z with resp := z.resp ++ cutPackets 128 bs })
  if first ∧ s.sbMode p = 2 ∧ (s.sb p).ibi = true ∧ (s.sb p).dyn.isSome then s.emit (.side p [0xAE#8]) else s

/-- A vendor message leaves toward an EID, by the port its request came by (R413; log entry 4). -/
def State.mctpSend (s : State) (eid : Nat) (bs : List Byte) : State :=
  let s := s.emit (.mctp eid bs)
  match s.side.now with
  | some (p, e) => if e = eid then s.queueResponse p bs else s
  | none => s

/-! ## Commands -/

/-- What a command answers: its status, the DETAIL of an INVALID_FIELD, its RESULT. -/
structure Reply where
  st : Status
  detail : Nat
  result : List Byte
deriving DecidableEq, Repr

def reply (st : Status) : Reply := { st := st, detail := 0, result := [] }
def badField (at_ : Nat) : Reply := { st := .invalidField, detail := at_, result := [] }
def okWith (r : List Byte) : Reply := { st := .ok, detail := 0, result := r }

/-- The oldest admin command not yet completed, where it has this CID and opcode (R234). -/
def State.adminHead (s : State) (cid opcode : Nat) : Option Fetched :=
  match s.host.fetched.find? (fun f => f.q = 0) with
  | some f => if f.cid = cid ∧ f.opcode = opcode ∧ f.taken = false then some f else none
  | none => none

/-- The fetched command leaves. -/
def State.dropFetched (s : State) (f : Fetched) : State :=
  { s with host := { s.host with fetched := s.host.fetched.erase f } }

/-- A completion of a fetched command (R230, R371). One whose queue has been reset since is lost with it (R51). -/
def State.completeCmd (s : State) (f : Fetched) (r : Reply) : State :=
  if s.host.fetched.contains f = false then s else
  let s := s.dropFetched f
  let s := if f.q = 0 then (s.cntQ 192 1).cntQ 193 (b2n (decide (r.st ≠ .ok))) else s
  s.postCpl f.q { cid := f.cid, sqid := f.q, sqhead := f.head, status := r.st,
                  detail := r.detail, result := r.result } f.noint none

/-- Opcodes Q0 accepts in LOCKDOWN and under the mask ROM service (R240); what is off in a mode completes with
NOT_PERMITTED. -/
def State.adminAllowed (s : State) (opcode : Nat) : Bool :=
  match s.plat.mode with
  | .lockdown => decide (opcode = 1 ∨ opcode = 3 ∨ opcode = 5 ∨ opcode = 6 ∨ opcode = 0x2A ∨ opcode = 0x17)
  | _ => if s.plat.romsvc then decide (opcode = 1 ∨ opcode = 3 ∨ opcode = 0x21) else true

/-- The Steward firmware, or the mask ROM, serves the admin queue now: not during a Steward handover (R40, R52, R286). -/
def State.serving (s : State) : Bool :=
  s.powered && (s.plat.fwRuns || s.plat.romsvc) &&
    !(match s.ident.hand with | some h => !h.warden && decide (h.st ≠ .waiting) | none => false)

/-- The Warden pair has halted for its own handover (R286). -/
def State.wardenAway (s : State) : Bool :=
  match s.ident.hand with | some h => h.warden && decide (h.st ≠ .waiting) | none => false

/-- Admin opcodes that need the Warden (R286). DESIGN CHOICE: those of policy, flash, the platform and recovery, its work in R11's block
table (log entry 64). -/
def needsWarden (opcode : Nat) : Bool := [0x10, 0x11, 0x12, 0x14, 0x15, 0x16, 0x17, 0x20].contains opcode

/-- The firmware that serves an opcode is away: its Warden part during a Warden handover (R286), or its overlay while the vault part has
FAILED (R282). -/
def State.firmwareAway (s : State) (opcode : Nat) : Bool :=
  (s.wardenAway && needsWarden opcode) || (decide (s.plat.mode = .recover ∧ s.plat.cause = 0x16) && Config.inOverlay opcode)

/-- The execution of an admin command: the oldest fetched one with this CID and opcode (R233, R234). Its mode is checked,
then `k` does the work; the completion follows in the same command. -/
def State.admin (s : State) (cid opcode : Nat) (k : State → State × Reply) : State :=
  match s.adminHead cid opcode with
  | none => s
  | some f =>
    if s.serving = false ∨ s.busOk = false then s
    else if s.adminAllowed opcode = false then s.completeCmd f (reply .notPermitted)
    else if s.firmwareAway opcode then s.completeCmd f (reply .busyRetry)
    else
      let r := k s
      r.1.completeCmd f r.2

/-- Opcodes a requester other than the host's queue may use now: on the TAP, which needs no firmware, every one but in LOCKDOWN
(R40, R344). -/
def State.commandAllowed (s : State) (src : Src) (opcode : Nat) : Bool :=
  match src with
  | .tap => decide (s.plat.mode ≠ .lockdown) || s.adminAllowed opcode
  | _ => s.adminAllowed opcode

/-- The bytes a reply has on the sideband and the TAP: the status, and on OK the result (R280, R344). -/
def Reply.bytes (r : Reply) : List Byte := leBytes 1 r.st.code ++ (if r.st = .ok then r.result else [])

/-- A command that comes by any of the three paths of R344, with its checks and work `k`; the reply is none where the command
was not executed. -/
def State.command (s : State) (src : Src) (opcode : Nat) (k : State → State × Reply) : State × Option Reply :=
  match src with
  | .host cid =>
    match s.adminHead cid opcode with
    | none => (s, none)
    | some f =>
      if s.serving = false ∨ s.busOk = false then (s, none)
      else if s.commandAllowed src opcode = false then (s.completeCmd f (reply .notPermitted), none)
      else if s.firmwareAway opcode then (s.completeCmd f (reply .busyRetry), none)
      else
        let r := k s
        (r.1.completeCmd f r.2, some r.2)
  | .side eid =>
    if s.serving = false then (s, none)
    else if s.commandAllowed src opcode = false then (s.mctpSend eid (reply .notPermitted).bytes, none)
    else if s.firmwareAway opcode then (s.mctpSend eid (reply .busyRetry).bytes, none)
    else
      let r := k s
      (r.1.mctpSend eid r.2.bytes, some r.2)
  | .tap =>
    if s.powered = false then (s, none)
    else if s.commandAllowed src opcode = false then (s.emit (.tap (reply .notPermitted).bytes), none)
    else
      let r := k s
      (r.1.emit (.tap r.2.bytes), some r.2)

/-- The command was executed and answered OK. -/
def replyOk (r : Option Reply) : Bool := match r with | some x => decide (x.st = .ok) | none => false

end Sys2Proof.Machine
end

