-- ==== Sys2Proof/Machine/SealOps.lean ====
section
/-! DEFINITION. Machine/SealOps.lean: streams of the sealing engine (R189 to R196). -/

namespace Sys2Proof.Machine

/-! ## The sealing journal (R204) -/

/-- The newest valid record of a KIND: one whose MAC fails is ignored (R204). -/
def Seal.newest (x : Seal) (kind : Nat) : Option JournalRec := x.jLog.find? (fun r => r.mac && decide (r.kind = kind))

def Seal.jEpoch (x : Seal) : Option JournalRec := x.newest 1
def Seal.jRun (x : Seal) : Option JournalRec := x.newest 2
def Seal.jAnchor (x : Seal) : Option JournalRec := x.newest 3

/-- A record of some KIND fails its MAC and is skipped: it is newer than the one in force (R203, R204). -/
def Seal.skips (x : Seal) : Bool :=
  [1, 2, 3].any (fun k => match x.jLog.find? (fun r => decide (r.kind = k)) with | some r => !r.mac | none => false)

/-- A record at the head of the log. -/
def Seal.jPut (x : Seal) (r : JournalRec) : Seal :=
  { x with jLog := { r with seq := x.jSeq } :: x.jLog, jSeq := wrap32 (x.jSeq + 1), jPos := x.jPos + 1 }

/-- The newest record of a KIND is rewritten at the head where the unit to be erased holds it. -/
def Seal.jKeep (old : List JournalRec) (x : Seal) (kind : Nat) : Seal :=
  match x.newest kind with
  | some r => if old.contains r then x.jPut r else x
  | none => x

/-- A record is written: the log is circular over sixteen units of 512 records, and the head's first record in a unit erases the unit
after it, once the newest RUNSTART and ANCHOR are rewritten at the head if that unit holds them (R204). DEDUCED: one unit ahead, so that
the head has room for the rewritten records before the erase (log entry 66). -/
def Seal.jWrite (x : Seal) (r : JournalRec) : Seal :=
  let y := x.jPut r
  if y.jPos % 512 ≠ 1 then y
  else
    let old := y.jLog.drop (14 * 512 + 1)
    let z := Seal.jKeep old (Seal.jKeep old y 2) 3
    { z with jLog := z.jLog.take (z.jLog.length - old.length) }

/-! ## Streams (R189 to R196) -/

/-- The stream with a number, where it has had an instance in this run. -/
def State.stream (s : State) (k : Nat) : Option Stream := s.sealing.streams.find? (fun x => x.no = k)

/-- A stream stored. -/
def State.setStream (s : State) (x : Stream) : State :=
  { s with sealing := { s.sealing with
    streams := if s.sealing.streams.any (fun y => y.no = x.no) then s.sealing.streams.map (fun y => if y.no = x.no then x else y)
    else s.sealing.streams ++ [x] } }

/-- Streams not CLOSED (R218). -/
def State.openStreams (s : State) : Nat := (s.sealing.streams.filter (fun x => decide (x.st ≠ .closed))).length

/-- ARG of a sealing event (R358): stream, and the low 32 bits of EPOCH. -/
def sealArg (stream epoch : Nat) : Nat := stream % 4096 + 65536 * (epoch % 2 ^ 32)

/-- The number of the open epoch, 0 where none is open. -/
def State.epochNo (s : State) : Nat := match s.sealing.open_ with | some e => e.no | none => 0

/-- A sealing event about a stream in the open epoch. -/
def State.raiseSeal (s : State) (src stream : Nat) : State := s.raise src (sealArg stream s.epochNo)

/-- The tags of the Press jobs of a stream's segment: its digest's and its tail digest's. -/
def segTag (stream : Nat) : Nat := 65536 + stream
def tailTag (stream : Nat) : Nat := 131072 + stream

/-- The Press credits of a segment go back, and what of it waited for one waits no more (R215). -/
def State.segCredit (s : State) (stream : Nat) : State :=
  let mine := fun (j : Job) => j.sealing && decide (j.tag = segTag stream ∨ j.tag = tailTag stream)
  { s with press := { s.press with held := s.press.held.filter (fun j => !mine j), waiting := s.press.waiting.filter (fun j => !mine j) } }

/-- A fetched segment completes with a status and no SEQ (R194). -/
def State.failSeg (s : State) (g : Seg) (st : Status) : State :=
  let s := if st = .dmaError ∨ st = .keyRevoked ∨ st = .deviceFault then
      { s with sealing := { s.sealing with segFail := wrap32 (s.sealing.segFail + 1) }, tlm := { s.tlm with segFail := s.tlm.segFail + 1 } } else s
  let s := if st = .dmaError then s.cntQ 204 1 else if st = .keyRevoked ∨ st = .aborted then s.cntQ 205 1 else s
  s.completeCmd g.f (reply st)

/-- Every queued segment of a stream completes with a status. -/
def State.dropQueue (s : State) (x : Stream) (st : Status) : State := x.queue.foldl (fun s g => s.failSeg g st) s

/-- RESULT of STREAM_CLOSE: the last SEQ issued, and GEN (R191, R239). -/
def Stream.closeResult (x : Stream) : List Byte := leBytes 8 (if x.seq = 0 then 2 ^ 64 - 1 else x.seq - 1) ++ leBytes 2 x.gen

/-- A stream with no segment in progress closes (R191): queued segments ABORTED, EV737. -/
def State.closeStream (s : State) (x : Stream) : State :=
  let s := s.dropQueue x .aborted
  (s.setStream { x with st := .closed, queue := [], run := none, closing := none, deficit := 0 }).raiseSeal 737 x.no

/-- A STREAM_CLOSE that waited completes with its stream closed. -/
def State.closeWaiting (s : State) (x : Stream) : State :=
  match x.closing with
  | some f => (s.closeStream x).completeCmd f (okWith x.closeResult)
  | none => s

/-- A stream's key is invalidated or stale (R191): KEYLOST with EV739; the segment in progress and the queued ones complete
with KEY_REVOKED, and EV578 reports the aborted operation (R308). -/
def State.loseKey (s : State) (x : Stream) : State :=
  let s := match x.run with
    | some r => ((s.segCredit x.no).failSeg r.seg .keyRevoked).raise 578 (x.cask + 256 * Status.keyRevoked.code)
    | none => s
  let s := s.dropQueue x .keyRevoked
  let y := { x with st := .keylost, queue := [], run := none, deficit := 0 }
  let s := (s.setStream y).raiseSeal 739 x.no
  s.closeWaiting y

/-- Every open encrypting stream bound to one of these Casks loses its key. -/
def State.loseKeys (s : State) (casks : List Nat) : State :=
  (s.sealing.streams.filter (fun x => decide (x.st = .open_) && x.enc && casks.contains x.cask)).foldl (fun s x => s.loseKey x) s

/-- The run ends (R190, R191, R248): every stream CLOSED without an event, segments abandoned with a status, the log and the
epochs that are not sealed gone. -/
def State.endRun (s : State) (cause : Nat) (st : Status) : State :=
  if s.sealing.running = false then s
  else
    let s := s.sealing.streams.foldl (fun s x =>
      let s := match x.run with | some r => (s.segCredit x.no).failSeg r.seg st | none => s
      let s := s.dropQueue x st
      match x.closing with | some f => s.completeCmd f (okWith x.closeResult) | none => s) s
    { s with sealing := { s.sealing with
        running := false, run := 0, endCause := cause, streams := [], rr := 0, log := none, nextLog := none, oldLogs := [], open_ := none
        closed := [], unsigned := [], signed := [], gap := none, anchors := [], accepted := none, stalled := false, keyWait := false } }

end Sys2Proof.Machine
end

