-- ==== Sys2Proof/Machine/KeyOps.lean ====
section
/-! DEFINITION. Machine/KeyOps.lean: Casks, derivation and the zeroise line (R301 to R319). -/

namespace Sys2Proof.Machine

/-! ## Randomness (R319) -/

/-- The next draw of n bytes from the DRBG. -/
def State.rand (s : State) (n : Nat) : List Byte := Config.drbgBytes s.crypt.draws n

/-- A generate request is counted. -/
def State.drawn (s : State) : State :=
  { s with crypt := { s.crypt with draws := s.crypt.draws + 1, requests := s.crypt.requests + 1 } }

/-! ## The PKU (R318) -/

/-- An operation of the PKU: a fault is retried once, and the Bool says that it was done. A second fault is EV565, and what asked for the
operation ends with DEVICE_FAULT. One operation is one step, so the PKU's order of service orders nothing (log entry 65). -/
def State.pkuRun (s : State) : State × Bool :=
  let n := s.crypt.pkuNext
  let ahead := if s.crypt.pkuAhead = [] then Config.pkuFaults (s.crypt.pkuOps + 1) else s.crypt.pkuAhead
  let t : State := { s with crypt := { s.crypt with
    pkuFault := s.crypt.pkuFault || decide (1 ≤ n), pkuOps := s.crypt.pkuOps + 1, pkuNext := ahead.headD 0, pkuAhead := ahead.tail } }
  (t.raiseIf (decide (2 ≤ n)) 565 (256 * Status.deviceFault.code), decide (n < 2))

/-- A signature by a key over bytes, hedged with 32 bytes from the DRBG and verified by the PKU before its release; none after a second
fault (R318), or while the DRBG is stopped, whose request then ends with DEVICE_FAULT (R319). -/
def State.signed (s : State) (key : Nat) (msg : List Byte) : State × Option (List Byte) :=
  if s.crypt.rngSt ≠ 1 then (s, none) else
  let r := s.pkuRun
  if r.2 then (r.1.drawn, some (Config.sign key (r.1.rand 32) msg)) else (r.1, none)

/-- Both signatures of a pair of keys over the same bytes. -/
def State.signedTwice (s : State) (k1 k2 : Nat) (msg : List Byte) : State × Option (List Byte × List Byte) :=
  let a := s.signed k1 msg
  match a.2 with
  | none => (a.1, none)
  | some x =>
    let b := a.1.signed k2 msg
    (b.1, b.2.map (fun y => (x, y)))

/-- Work `k` whose signatures the PKU verifies first, where `asks` says that it gets as far (R318). -/
def State.withPku (s : State) (asks : Bool) (k : State → State × Status) : State × Status :=
  if asks then
    let r := s.pkuRun
    if r.2 then k r.1 else (r.1, .deviceFault)
  else k s

/-! ## Derivation (R306) -/

/-- The 4-byte big-endian integer of R306. -/
def be4 (n : Nat) : List Byte := (leBytes 4 n).reverse

/-- The HMAC message of block i (R306). -/
def kdfMsg (i : Nat) (label ctx : List Byte) (bits : Nat) : List Byte := be4 i ++ label ++ [0#8] ++ ctx ++ be4 bits

/-- K(1) ‖ K(2) and so on: `n` blocks from block i. -/
def kdfBlocks (ki : Nat) (label ctx : List Byte) (bits : Nat) : Nat → Nat → List Byte
  | 0, _ => []
  | n + 1, i => Config.hmac384 ki (kdfMsg i label ctx bits) ++ kdfBlocks ki label ctx bits n (i + 1)

/-- The KDF in counter mode with HMAC-SHA-384: `bits` of output (R306). -/
def kdf (ki : Nat) (label ctx : List Byte) (bits : Nat) : List Byte :=
  padTo (bits / 8) (kdfBlocks ki label ctx bits ((bits + 383) / 384) 1)

/-- The ASCII bytes of a label. -/
def ascii (t : String) : List Byte := t.toList.map (fun c => BitVec.ofNat 8 c.toNat)

/-- The order of the P-384 group. -/
def p384n : Nat :=
  0xFFFFFFFFFFFFFFFFFFFFFFFFFFFFFFFFFFFFFFFFFFFFFFFFC7634D81F4372DDF581A0DB248B0A77AECEC196ACCC52973

/-- Output bits of a derivation by type (R306): KDK 384, AES-256 and ML-DSA seeds 256, EC 448, ML-KEM and XTS 512. -/
def kdfBits (type : Nat) : Nat := if type = 1 then 384 else if type = 4 then 448 else if type = 3 ∨ type = 6 then 512 else 256

/-- The material of a derived key, byte 0 lowest; an EC scalar is (c mod (n − 1)) + 1 (R306). -/
def derive (ki type : Nat) (label ctx : List Byte) : Nat :=
  let out := kdf ki label ctx (kdfBits type)
  if type = 4 then beNat out % (p384n - 1) + 1 else leNat out

/-! ## Casks (R301 to R308) -/

def CaskSt.code : CaskSt → Nat
  | .empty => 0 | .valid => 1 | .pending => 2 | .absent => 3 | .zeroised => 4

def State.cask (s : State) (i : Nat) : Cask := s.crypt.casks.toList.getD i emptyCask

def State.setCask (s : State) (i : Nat) (c : Cask) : State :=
  if h : i < 128 then { s with crypt := { s.crypt with casks := s.crypt.casks.set i c } } else s

/-- Key material: the XOR of the two shares (R301). -/
def Cask.key (c : Cask) : Nat := (c.share0 ^^^ c.share1).toNat

/-- A Cask in use: VALID, or PENDING with the old material in use (R301). -/
def Cask.live (c : Cask) : Bool := decide (c.st = .valid ∨ c.st = .pending)

/-- The ancestry of a Cask holds: every PGEN equals its parent's GEN (R307). -/
def State.ancestry (s : State) : Nat → Nat → Bool
  | 0, _ => true
  | f + 1, i =>
    let c := s.cask i
    c.live && (decide (0x80 ≤ c.parent) || (decide (c.pgen = (s.cask c.parent).gen) && s.ancestry f c.parent))

/-- A use of a Cask under its binding (R307). -/
def State.caskOk (s : State) (i gen : Nat) : Bool := decide ((s.cask i).gen = gen) && s.ancestry 8 i

/-- A right of a Cask (R303). -/
def Cask.may (c : Cask) (right : Nat) : Bool := c.rights.testBit right

/-- The Cask with a label, where one is in use or was (R302). -/
def State.caskByLabel (s : State) (label : Nat) : Option Nat :=
  (List.range 128).find? (fun i => decide ((s.cask i).st ≠ .empty ∧ (s.cask i).st ≠ .absent) && decide ((s.cask i).label = label))

/-- Cask j lies beneath Cask i. -/
def State.beneath (s : State) : Nat → Nat → Nat → Bool
  | 0, _, _ => false
  | f + 1, i, j =>
    let p := (s.cask j).parent
    (s.cask j).st ≠ .empty && (decide (p = i) || (decide (p < 128) && s.beneath f i p))

/-- The descendants of a Cask. -/
def State.descendants (s : State) (i : Nat) : List Nat := (List.range 128).filter (fun j => decide (j ≠ i) && s.beneath 8 i j)

/-- A Cask zeroised with its entry kept (R308). -/
def Cask.zeroise (c : Cask) : Cask := { c with st := .zeroised, share0 := 0#512, share1 := 0#512 }

/-- A Cask is invalidated (R308): its descendants are zeroised, streams bound to any of them lose their key, EV577. What the
Cask itself becomes is the caller's. -/
def State.invalidate (s : State) (i : Nat) : State :=
  let ds := s.descendants i
  let s := ds.foldl (fun s j => s.setCask j (s.cask j).zeroise) s
  let s : State := { s with crypt := { s.crypt with inval := sat 255 (s.crypt.inval + 1) } }
  (s.loseKeys (i :: ds)).raise 577 i

/-- A Cask with new material: shares under a fresh mask (R301, R309). -/
def State.fill (s : State) (i : Nat) (c : Cask) (material : Nat) : State :=
  let m := BitVec.ofNat 512 (leNat (s.rand 64))
  s.drawn.setCask i { c with share0 := m, share1 := BitVec.ofNat 512 material ^^^ m }

/-- The fixed Casks' types, parents and rights (R304). -/
def fixedCask (i : Nat) : Nat × Nat × Nat :=
  match i with
  | 0 => (4, 0x80, 2) | 1 => (5, 0x80, 2) | 2 => (1, 0x80, 1) | 3 => (4, 2, 4) | 4 => (5, 2, 4) | 5 => (1, 2, 1)
  | 6 => (4, 5, 4) | 7 => (5, 5, 4) | 8 => (1, 0x80, 1) | 9 => (1, 0x80, 1) | 10 => (1, 8, 0x10) | 11 => (2, 8, 0x20)
  | 12 => (2, 8, 0x40) | 13 => (4, 8, 0x80) | 14 => (6, 8, 0x80) | 15 => (4, 9, 8) | 16 => (5, 9, 8) | _ => (0, 0, 0)

/-- The derivation labels of the fixed Casks (R304). -/
def fixedLabel (i : Nat) : String :=
  ["KP9600 DeviceID EC", "KP9600 DeviceID ML", "KP9600 CDI L1", "KP9600 Alias EC", "KP9600 Alias ML", "KP9600 CDI L2",
   "KP9600 Platform EC", "KP9600 Platform ML", "KP9600 Warden", "KP9600 Steward", "KP9600 journal", "KP9600 vault wrap",
   "KP9600 Cellar", "KP9600 import EC", "KP9600 import KEM", "KP9600 seal EC", "KP9600 seal ML"].getD i ""

/-- A fixed Cask without the Rootstock (R297, R301): ABSENT; the scramble key comes from the DRBG alone. After the zeroise line it
stays EMPTY (R313). -/
def State.withoutRoot (s : State) (i : Nat) (drbg : List Byte) : State :=
  let f := fixedCask i
  let c : Cask := { emptyCask with type := f.1, label := 0x80000000 + i, rights := f.2.2 }
  if s.crypt.root.isSome ∨ s.plat.mode = .lockdown then s
  else if i = 12 then s.fill i { c with st := .valid, parent := 0x81, gen := (s.cask i).gen + 1, origin := 2, flags := 2 } (leNat drbg)
  else s.setCask i { c with st := .absent, parent := f.2.1 }

/-- A fixed Cask derived with its context (R304, R306): GEN increments at each derivation; a Seal Cask's GEN is `gen`. With
its parent missing it is not derived. -/
def State.deriveFixed (s : State) (i : Nat) (ctx : List Byte) (gen : Option Nat) : State :=
  let f := fixedCask i
  let ki := if f.2.1 = 0x80 then s.crypt.root else if (s.cask f.2.1).live then some (s.cask f.2.1).key else none
  match ki with
  | none => s.withoutRoot i ctx
  | some k =>
    s.fill i
      { st := .valid, type := f.1, parent := f.2.1, label := 0x80000000 + i
        gen := match gen with | some g => g | none => (s.cask i).gen + 1
        pgen := if f.2.1 = 0x80 then 0 else (s.cask f.2.1).gen
        rights := f.2.2, origin := 0, flags := 2, share0 := 0#512, share1 := 0#512 }
      (derive k f.1 (ascii (fixedLabel i)) ctx)

/-- A SHA-384 digest held as a number, as its 48 bytes: the first byte is the most significant (R255). -/
def digBytes (d : Nat) : List Byte := (leBytes 48 d).reverse

/-- UNITID, 12 bytes (R336). -/
def State.unitidBytes (s : State) : List Byte := bytesAt s.life.otp.ident.bytes 16 12

/-- A Cask that is derived again is invalidated first (R308). -/
def State.invalidateLive (s : State) (i : Nat) : State := if (s.cask i).live then s.invalidate i else s

/-! ## Certificates (R255 to R257) -/

/-- A key identifier (R255): the first 16 bytes of SHA-384 over the public key. -/
def keyIdent (key : Nat) : List Byte := padTo 16 (Config.sha384 (Config.publicBytes key))

/-- The uppercase hexadecimal digits of bytes, in ASCII. -/
def hexDigits (bs : List Byte) : List Byte :=
  let digit := fun (n : Nat) => BitVec.ofNat 8 (if n < 10 then 48 + n else 55 + n)
  bs.flatMap (fun b => [digit (b.toNat / 16), digit (b.toNat % 16)])

/-- serialNumber of a certificate (R257): 20 bytes of the digest of its key, bit 7 of the first byte cleared. -/
def certSerial (key : Nat) : List Byte :=
  match padTo 20 (Config.sha384 (Config.publicBytes key)) with
  | b :: r => (b &&& 0x7F#8) :: r
  | [] => []

/-- The fields of a certificate in the order of R257: `tcb` the fields of its TcbInfo. The notBefore year counts from 2000. -/
def State.certFields (s : State) (issuer subject : String) (issKey subKey : Nat) (ca : Bool) (tcb : List (List Byte)) : List (List Byte) :=
  let o := s.life.otp.ident.bytes
  let name := fun (t : String) => ascii t ++ hexDigits s.unitidBytes
  let year := (bytesAt o 10 1).map (fun b => [BitVec.ofNat 8 (48 + b.toNat / 10 % 10), BitVec.ofNat 8 (48 + b.toNat % 10)])
  [certSerial subKey, name issuer, name subject, ascii "20" ++ year.flatten ++ ascii "0101000000Z", ascii "99991231235959Z",
    leBytes 1 (b2n ca), leBytes 1 (b2n ca), keyIdent subKey, keyIdent issKey] ++ tcb ++ [bytesAt o 0 12]

/-- The ECDSA and the ML-DSA certificate for the keys of Casks i and i + 1, issued by those of Casks j and j + 1 (R256). -/
def State.certPair (s : State) (issuer subject : String) (j i : Nat) (ca : Bool) (tcb : List (List Byte)) : List Byte × List Byte :=
  let key := fun (k : Nat) => (s.cask k).key
  (Config.certDer false (s.certFields issuer subject (key j) (key i) ca tcb),
   Config.certDer true (s.certFields issuer subject (key (j + 1)) (key (i + 1)) ca tcb))

/-- CDI_L1 and the Alias keys derived for the packages of the Warden's and the Steward's image, and the Alias certificates issued (R254,
R256, R286, R304, R308). -/
def State.deriveL0 (s : State) (w st : Package) : State :=
  let s := s.invalidateLive 2
  let ctx := padTo 48 Config.romDigest ++ digBytes w.wardenDig ++ digBytes st.stewardDig ++ leBytes 1 s.lifeCode ++ leBytes 1 (b2n s.life.debugOpen)
  let s := ((s.deriveFixed 2 ctx none).deriveFixed 3 [] none).deriveFixed 4 [] none
  let c := s.certPair "KP9600 DeviceID" "KP9600 Alias" 0 3 true
    [leBytes 1 1, digBytes w.wardenDig, leBytes 1 w.vintage, digBytes st.stewardDig, leBytes 1 st.vintage]
  { s with ident := { s.ident with aliasCert := c } }

/-- CDI_L2 and the Platform keys derived from PLATDIG, and the Platform certificates issued (R256, R264, R304, R308). -/
def State.deriveL2 (s : State) (platDig : List Byte) : State :=
  let s := (((s.invalidateLive 5).deriveFixed 5 platDig none).deriveFixed 6 [] none).deriveFixed 7 [] none
  let v := match s.bundle with | some b => b.version | none => 0
  { s with ident := { s.ident with platCert := s.certPair "KP9600 Alias" "KP9600 Platform" 3 6 false [leBytes 1 2, platDig, leBytes 4 v] } }

/-- The Seal certificates, issued at the first derivation of a generation of the sealing keys (R256, R257); `auth` is the digest of the
vendor key that signed the running package. -/
def State.issueSeal (s : State) (auth : Nat) : State :=
  let g := s.crypt.sealGen
  if s.crypt.certGen = g ∧ s.ident.sealCert ≠ ([], []) then s
  else
    let c := s.certPair "KP9600 DeviceID" "KP9600 Seal" 0 15 false [leBytes 1 1, Config.sha384 ((digBytes auth).take 16)]
    { s with
      crypt := { s.crypt with certGen := g }
      ident := { s.ident with sealCert := c } }

/-- AUTH: the digest of the vendor root key that signed a package; 0 where no key in force did (R304). -/
def State.authDigest (s : State) (sigs : List Sig) : Nat :=
  ((s.vendorKeys.find? (fun d => sigs.any (fun g => g.valid && decide (g.keyId = d / 2 ^ 256)))).getD 0)

/-- The journal key's material, where Cask 10 is in use. -/
def State.journalKey (s : State) : Option (BitVec 512) :=
  let c := s.cask 10
  if c.live then some (c.share0 ^^^ c.share1) else none

/-- The Cask of a new SPDM session: 17 to 20 (R304). -/
def State.freeSession (s : State) : Nat := ([17, 18, 19, 20].find? (fun i => !(s.cask i).live)).getD 17

/-- The secrets of a new SPDM session stand in its Cask (R303, R304; log entry 3). -/
def State.openSession (s : State) (i : Nat) : State :=
  s.fill i
    { st := .valid, type := 1, parent := 0x82, label := 0x80000000 + i, gen := (s.cask i).gen + 1, pgen := 0, rights := 0x400
      origin := 3, flags := 2, share0 := 0#512, share1 := 0#512 } (leNat (padTo 48 (Config.sha384 (s.rand 48))))

/-- A session ends: its Cask is empty (R304). -/
def State.endSession (s : State) (c : Conn) : State :=
  if c.session then s.setCask c.sess { emptyCask with gen := (s.cask c.sess).gen } else s

/-- The Rootstock is present in this power cycle. -/
def State.rooted (s : State) : Bool := s.crypt.root.isSome

/-! ## The zeroise line and the stores it clears (R313, R314) -/

/-- The key stores cleared: every Cask EMPTY, the Rootstock, buffers and DRBG state gone, the Cellar unreadable; the DRBG is
instantiated afresh. A key change on its way ends with KEY_REVOKED (R314). CRYPTO.ROOT shows no Rootstock (log entry 61). -/
def State.clearStores (s : State) : State :=
  let s := match s.crypt.change with | some c => s.completeCmd c.f (reply .keyRevoked) | none => s
  { s with
    crypt := { s.crypt with
      casks := Vector.replicate 128 emptyCask, root := none, buffers := none, change := none
      rootSt := if s.crypt.rootSt = 1 then 0 else s.crypt.rootSt
      rngSt := 1, requests := 0, draws := s.crypt.draws + 1 }
    cellar := { s.cellar with frames := [] } }

/-- The zeroise line acts (R313): operations in flight end with KEY_REVOKED (R314), the stores are cleared, EV584. -/
def State.zeroiseLine (s : State) (cause : Nat) : State := ((s.endRun cause .keyRevoked).clearStores).raise 584 0

end Sys2Proof.Machine
end

