-- ==== Sys2Proof/Machine/AgentOps.lean ====
section
/-! DEFINITION. Machine/AgentOps.lean: the Cellar, flips, holds, quarantine and the mode changes they make. -/

namespace Sys2Proof.Machine

/-! ## Cellar frames (R141 to R145, R458) -/

/-- In-service frames: 16,384 less 1,024 for each bank lost beyond the spare (R27, R29). -/
def State.inService (s : State) : Nat := 16384 - 1024 * s.cellar.lost.length

/-- CELLAR.CFG.NODERES and GRAFTMAX, FCHn.QUOTA.QMIN (R165, R166). -/
def State.nodeRes (s : State) : Nat := fld (s.cfg 0x2210) 31 16
def State.graftMax (s : State) : Nat := fld (s.cfg 0x2210) 15 8
def State.qmin (s : State) (n : Nat) : Nat := fld (s.cfg (0x1000 + 0x200 * n + 0x104)) 15 0

/-- The first frame number from `c` on that no listed frame has and whose bank is in service. -/
def freeNoFrom (used lost : List Nat) : Nat → Nat → Option Nat
  | 0, _ => none
  | f + 1, c =>
    if 16384 ≤ c then none
    else if used.contains c ∨ lost.contains (c / 1024) then freeNoFrom used lost f (c + 1)
    else some c

/-- The frames listed, in frame-number order. -/
def insertFrame (f : Frame) : List Frame → List Frame
  | [] => [f]
  | g :: r => if f.no < g.no then f :: g :: r else if f.no = g.no then f :: r else g :: insertFrame f r

/-- A frame that a tag selects leaves: it becomes Free (R143). -/
def State.freeFrames (s : State) (p : Frame → Bool) : State :=
  { s with cellar := { s.cellar with frames := s.cellar.frames.filter (fun f => !p f) } }

/-- The frames of a channel become Free: layout commit, DISABLED, QUARANTINED or REIMAGING (R143). -/
def State.freeChan (s : State) (n : Ch) : State := s.freeFrames (fun f => decide (f.ch = n.val))

/-- The Free frames (R27, R166). -/
def State.freeCount (s : State) : Nat := s.inService - s.cellar.frames.length

/-- An evictable Resident data frame of a channel: ANCHOR = 0, GRAFT = 0 (R144). -/
def Frame.evictable (f : Frame) (ch : Nat) : Bool :=
  !f.node && decide (f.st = .resident) && !f.anchor && !f.graft && decide (f.ch = ch)

def State.evictableCount (s : State) (ch : Nat) : Nat := (s.cellar.frames.filter (fun f => f.evictable ch)).length

/-- The channel with the largest positive score, the lower number winning a tie. -/
def bestChan (score : Nat → Nat) : Option Nat :=
  (List.range 8).foldl (fun b c =>
    if score c = 0 then b
    else match b with
      | none => some c
      | some d => if score d < score c then some c else some d) none

/-- The victim channel of R144 for an admission by channel n; R458's, regardless of QMIN, for a pinned-set or Graft
admission. -/
def State.victimChan (s : State) (n : Ch) (anyway : Bool) : Option Nat :=
  match bestChan (fun c => s.evictableCount c - s.qmin c) with
  | some c => some c
  | none => if 0 < s.evictableCount n.val then some n.val
            else if anyway then bestChan s.evictableCount else none

/-- One turn of the second-chance clock over a channel's evictable frames from the hand on: REF is cleared on each frame
passed, the first found with REF = 0 is taken (R144). -/
def clockPick : List Nat → List Frame → Option Nat × List Nat
  | passed, [] => (none, passed)
  | passed, f :: r => if f.ref then clockPick (f.no :: passed) r else (some f.no, passed)

/-- The frame that the second-chance clock takes of a list from a hand on, and the frames whose REF it clears on its way: after a turn that
found REF set everywhere, the first (R144). -/
def clockTurn (hand : Nat) (es : List Frame) : Option Nat × List Nat :=
  let order := es.filter (fun f => decide (hand ≤ f.no)) ++ es.filter (fun f => decide (f.no < hand))
  let r := clockPick [] order
  (match r.1 with | some v => some v | none => order.head?.map (fun f => f.no), r.2)

/-- The frames a clock has passed lose REF. -/
def State.clearRefs (s : State) (passed : List Nat) : State :=
  { s with cellar := { s.cellar with frames := s.cellar.frames.map (fun (f : Frame) => if passed.contains f.no then { f with ref := false } else f) } }

/-- Eviction in a channel by the second-chance clock (R144). DESIGN CHOICE: one hand serves every channel; R144 does not say whether
each channel has its own (log entry 5). -/
def State.evict (s : State) (ch : Nat) : State :=
  match clockTurn s.cellar.hand (s.cellar.frames.filter (fun f => f.evictable ch)) with
  | (none, _) => s
  | (some v, passed) =>
    let s := ((s.freeFrames (fun f => decide (f.no = v))).cntNat ch 41 1).clearRefs passed
    { s with cellar := { s.cellar with hand := v + 1 } }

/-- Eviction of a node frame by the same clock within the node reserve, anchors skipped (R144). -/
def State.evictNode (s : State) : State :=
  match clockTurn s.cellar.nodeHand (s.cellar.frames.filter (fun f => f.node && !f.anchor)) with
  | (none, _) => s
  | (some v, passed) =>
    let s := (s.freeFrames (fun f => decide (f.no = v))).clearRefs passed
    { s with cellar := { s.cellar with nodeHand := v + 1 } }

/-- A Free data frame exists outside the node reserve (R144). -/
def State.dataFree (s : State) : Bool :=
  decide ((s.cellar.frames.filter (fun f => !f.node)).length + s.nodeRes < s.inService)

/-- The tag of an admission is written to a Free frame (R142, R143). The node reserve is NODERES frames in service: data frames leave
that many free. DESIGN CHOICE: data takes the lowest Free frame from number NODERES on, or below where none is Free there; R142 does
not number the frames of the reserve (log entry 64). -/
def State.placeData (s : State) (f : Frame) : State :=
  let used := s.cellar.frames.map (fun g => g.no)
  match (freeNoFrom used s.cellar.lost 16384 s.nodeRes).or (freeNoFrom used s.cellar.lost 16384 0) with
  | none => s
  | some k => { s with cellar := { s.cellar with frames := insertFrame { f with no := k } s.cellar.frames } }

/-- An admission (R144, R458): a Free frame, or one eviction and its frame; the Bool says whether it was made. -/
def State.admitData (s : State) (n : Ch) (anyway : Bool) (f : Frame) : State × Bool :=
  if s.dataFree then ((s.placeData f).cnt n 43 1, true)
  else
    match s.victimChan n anyway with
    | none => (s, false)
    | some c => (((s.evict c).placeData f).cnt n 43 1, true)

/-- A node frame of the node reserve (R142, R144): NODERES frames hold nodes at most, so with all in use one that is no anchor is evicted.
After the loss of a bank the reserve may have to take back a frame of a Resident data page. -/
def State.admitNode (s : State) (f : Frame) : State :=
  let s := if (s.cellar.frames.filter (fun g => g.node)).length < s.nodeRes then s else s.evictNode
  if s.nodeRes ≤ (s.cellar.frames.filter (fun g => g.node)).length then s
  else
    let s := if s.freeCount = 0 then (match bestChan s.evictableCount with | some c => s.evict c | none => s) else s
    match freeNoFrom (s.cellar.frames.map (fun g => g.no)) s.cellar.lost 16384 0 with
    | none => s
    | some k => { s with cellar := { s.cellar with frames := insertFrame { f with no := k, node := true } s.cellar.frames } }

/-- A data frame's tag. -/
def dataFrame (st : FrameSt) (n : Ch) (copy : Nat) (p : PageId) (graft : Bool) : Frame :=
  { no := 0, st := st, node := false, ch := n.val, slot := p.slot.val, copy := copy, index := p.page, anchor := false,
    graft := graft, ref := true }

/-- Pinned data frames of a channel's pinned set (R165). -/
def State.pinnedHeld (s : State) (n : Ch) : Nat :=
  (s.cellar.frames.filter (fun f => decide (f.ch = n.val) && !f.node && decide (f.st = .pinned) &&
    decide (s.policyOfPage n ⟨⟨f.slot % 4, Nat.mod_lt _ (by decide)⟩, f.index⟩ = 0 ∨
            s.policyOfPage n ⟨⟨f.slot % 4, Nat.mod_lt _ (by decide)⟩, f.index⟩ = 2))).length

/-- Every page of the pinned set is Pinned; an empty set is (R137, R165). -/
def State.setResident (s : State) (n : Ch) : Bool := decide (s.pinnedSet n ≤ s.pinnedHeld n)

/-- EV(64n + 38) when the whole pinned set is found Pinned, whichever page comes last (R137). -/
def State.noteSet (s : State) (n : Ch) : State :=
  if (s.chan n).setRes = false ∧ s.setResident n = true ∧ (s.chan n).st = .decanting then
    (s.updChan n (fun c => { c with setRes := true })).raiseCh n 38 0
  else s

/-- Graft-held frames (R159, R165). -/
def State.graftHeld (s : State) : Nat := (s.cellar.frames.filter (fun f => f.graft)).length
def State.graftHeldOf (s : State) (n : Ch) : Nat := (s.cellar.frames.filter (fun f => f.graft && decide (f.ch = n.val))).length

/-- Frames in a state (R27, R166). -/
def State.frameCount (s : State) (st : FrameSt) : Nat := (s.cellar.frames.filter (fun f => decide (f.st = st))).length

/-- A Pinned or Resident data frame of a page of the active copy. -/
def Frame.holds (f : Frame) (n : Ch) (p : PageId) : Bool :=
  !f.node && decide (f.ch = n.val ∧ f.slot = p.slot.val ∧ f.index = p.page) && decide (f.st ≠ .inflight)

def State.frameOf (s : State) (n : Ch) (p : PageId) : Option Frame := s.cellar.frames.find? (fun f => f.holds n p)

/-! ## Press credits (R150, R151) -/

/-- Engines in service: neither OUT nor in self-test; the pool is eight credits an engine (R27, R152). -/
def State.enginesIn (s : State) : Nat := (s.press.engines.filter (fun e => decide (e = .inService ∨ e = .derated))).length
def State.credits (s : State) : Nat := 8 * s.enginesIn
def State.creditsFree (s : State) : Nat := s.credits - s.press.held.length
def State.channelHeld (s : State) (n : Nat) : Nat := (s.press.held.filter (fun j => decide (j.ch = some n))).length
def State.sealHeld (s : State) : Nat := (s.press.held.filter (fun j => decide (j.cls = 3 ∨ j.cls = 5))).length

/-- A job joins the waiting jobs of the Press pool. -/
def State.pressWait (s : State) (j : Job) : State := { s with press := { s.press with waiting := s.press.waiting ++ [j] } }

/-- A job ends: it leaves the held and the waiting jobs, its credit free. -/
def State.pressEnd (s : State) (p : Job → Bool) : State :=
  { s with press := { s.press with held := s.press.held.filter (fun j => !p j), waiting := s.press.waiting.filter (fun j => !p j) } }

/-- The tag of a page's job, and of a node's. -/
def verdictTag (p : PageId) : Nat := 4 * p.page + p.slot.val
def nodeTag (p : PageId) (node : Bool) : Nat := 2 * verdictTag p + bitAt node 40

/-- The words of a program from an entry to its END; none where it runs past word 255 (R172, R175). -/
def progWords (rd : Nat → Word) : Nat → Nat → Option (List Word)
  | 0, _ => none
  | f + 1, i =>
    if 255 < i then none
    else if fld (rd (seqKey i)) 31 28 = 0 then some [rd (seqKey i)]
    else (progWords rd f (i + 1)).map (fun r => rd (seqKey i) :: r)

/-- The rate of an engine, in halves of 1.6 GB/s. -/
def EngineSt.rate : EngineSt → Nat
  | .inService => 2 | .derated => 1 | .selfTest => 0 | .out => 0

/-- The in-service engine with the highest rate ÷ (busy contexts + 1), the lower number on a tie (R150). -/
def State.pickEngine (s : State) : Option Nat :=
  (List.range 8).foldl (fun b e =>
    let r := (s.press.engines.getD e .out).rate
    let busy := (s.press.held.filter (fun j => decide (j.engine = e))).length
    if r = 0 ∨ 8 ≤ busy ∨ s.crypt.draining = some e then b
    else match b with
      | none => some e
      | some d =>
        let rd := (s.press.engines.getD d .out).rate
        let bd := (s.press.held.filter (fun j => decide (j.engine = d))).length
        if rd * (busy + 1) < r * (bd + 1) then some e else some d) none

/-- The sealing reservation and cap of R151 in the present configuration. -/
def State.sealRes (s : State) : Nat := fld (s.cfg 0x2214) 15 8
def State.sealCap (s : State) : Nat := fld (s.cfg 0x2214) 23 16

/-- The sealing reservation that the pool leaves: where the pool falls below the reservations, it shrinks first (R152). -/
def State.sealResNow (s : State) : Nat := s.sealRes - ((allCh.filter s.enabled).length + 2 + s.sealRes - s.credits)

/-- Credits other classes' unused reservations keep free from a job (R151). -/
def State.reservedFor (s : State) (j : Job) : Nat :=
  let chans := (allCh.filter (fun n => s.enabled n && !(j.cls = 1 ∧ j.ch = some n.val) && decide ((s.press.held.filter
    (fun h => decide (h.cls = 1 ∧ h.ch = some n.val))).length = 0))).length
  let internal := if j.cls = 2 then 0 else 2 - min 2 (s.press.held.filter (fun h => decide (h.cls = 2))).length
  let sealing := if j.cls = 3 then 0 else s.sealResNow - min s.sealResNow s.sealHeld
  chans + internal + sealing

/-- Whether the pool can grant a job its credit now (R151): its class's cap, and the other classes' reservations kept. -/
def State.grantable (s : State) (j : Job) : Bool :=
  let capOk := match j.ch with
    | some n => decide (s.channelHeld n < fld (s.cfg (0x1000 + 0x200 * n + 0x108)) 4 0)
    | none => if j.cls = 2 then decide ((s.press.held.filter (fun h => decide (h.cls = 2))).length < 8)
              else decide (j.cls = 6) || decide (s.sealHeld < s.sealCap)
  capOk && decide (s.reservedFor j < s.creditsFree)

/-- The release stage of an agent (R138, R173): STAGE of the first RELEASE of the main program that names it; 8 where none does. -/
def State.releaseStage (s : State) (n : Nat) : Nat :=
  match (progWords s.cfg 256 (fld (s.cfg 0x2E8) 23 16)).bind (fun ws => ws.find? (fun w => decide (fld w 31 28 = 4) && bit w n)) with
  | some w => fld w 25 23
  | none => 8

/-- A Decanting job goes before another: a lower release stage, or a lower channel within a stage (R138). -/
def State.decantBefore (s : State) (a b : Job) : Bool :=
  let x := a.ch.getD 8
  let y := b.ch.getD 8
  decide (s.releaseStage x < s.releaseStage y ∨ (s.releaseStage x = s.releaseStage y ∧ x < y))

/-- The job of a class that goes first: the oldest; a Decanting job leaves its turn to the first Decanting job of R138. -/
def State.firstJob (s : State) : List Job → Option Job
  | [] => none
  | j :: r => some (if j.decant then (r.filter (fun k => k.decant)).foldl (fun b k => if s.decantBefore k b then k else b) j else j)

/-- The waiting job of the highest priority that can be granted (R138, R151). -/
def State.nextJob (s : State) : Option Job :=
  [1, 2, 3, 4, 5, 6].findSome? (fun c => s.firstJob (s.press.waiting.filter (fun j => decide (j.cls = c) && s.grantable j)))

/-- A waiting job takes a credit on an engine (R150, R151): the channel's count, and EV(64n + 53) where it is then at its cap. -/
def State.grantJob (s : State) (j : Job) (e : Nat) : State :=
  let s : State := { s with press := { s.press with waiting := s.press.waiting.erase j, held := s.press.held ++ [{ j with engine := e }] } }
  match j.ch with
  | some n => if h : n < 8 then
      (s.cnt ⟨n, h⟩ 34 1).raiseIf (decide (s.channelHeld n = fld (s.cfg (0x1000 + 0x200 * n + 0x108)) 4 0)) (64 * n + 53) 0
    else s
  | none => s

/-- One job by its class, channel and tag. -/
def Job.same (a b : Job) : Bool := decide (a.cls = b.cls ∧ a.ch = b.ch ∧ a.tag = b.tag)

/-- A job whose digest is out with this command (R150, R151): it takes its credit where it holds one already, or where its turn has come
and one can be granted, and returns it. Otherwise it waits for one; the Bool says whether it has run. -/
def State.pressRun (s : State) (j : Job) : State × Bool :=
  if s.press.held.any j.same then (s.pressEnd j.same, true)
  else
    let s := if s.press.waiting.any j.same then s else s.pressWait j
    match s.nextJob, s.pickEngine with
    | some k, some e => if j.same k then ((s.grantJob k e).pressEnd j.same, true) else (s, false)
    | _, _ => (s, false)


/-! ## A/B activation (R114 to R117) -/

/-- SLOTk of a channel: where ACT is bit 4. -/
def slotReg (n : Ch) (k : SlotId) : Nat := fch n (0xA8 + 4 * k.val)

/-- A commit of one field by the KP9600 at a safe point that already holds (R17, R114): the value and COMMIT.GEN; it is the Int
requester's last finished commit (R23). -/
def State.commitField (s : State) (key : Nat) (v : Word) : State :=
  let s := s.setCfg key v
  let m := match groupOf key with | some g => word (2 ^ g) | none => 0#32
  { s with regs := { s.regs with gen := s.regs.gen + 1, int := { s.regs.int with result := .ok, lastMask := m, failGrp := 0#32 } } }

/-- PLATDIG changes (R264): counted now; L1's new Platform certificate is due. -/
def State.platChange (s : State) : State :=
  { s with ident := { s.ident with platGen := (s.ident.platGen + 1) % 65536, certDue := true } }

/-- ACT committed to the other copy, which is a layout commit: the channel's frames go (R143); the known-bad pages of the copy that
stops being active leave the list (R149), and PLATDIG changes (R264). -/
def State.commitAct (s : State) (n : Ch) (k : SlotId) : State :=
  let s := s.commitField (slotReg n k) (s.cfg (slotReg n k) ^^^ 0x10#32)
  let i := 4 * n.val + k.val
  let s : State := { s with vault := { s.vault with
    acts := if s.actCopy n k = 2 then i :: s.vault.acts.filter (fun j => j ≠ i) else s.vault.acts.filter (fun j => j ≠ i) } }
  let s := s.updChan n (fun c =>
    { c with bad := c.bad.filter (fun p => decide (p.slot ≠ k)), verdicts := c.verdicts.map (fun d => { d with framed := false }) })
  (s.freeChan n).writeHeader.platChange

/-- A slot in FLIP_PENDING flips (R114): ACT committed, CONFIRMING, EV(64n + 22). -/
def State.flip (s : State) (n : Ch) (k : SlotId) : State :=
  let s := s.commitAct n k
  let s := s.updSlot n k (fun z => { z with upd := .confirming, up := z.up.map (fun u => { u with hb := 0, windowOpen := false }) })
  let act := s.actCopy n k
  (s.intent 2 n.val k.val 3 1 1 (s.copyPlace n k (3 - act)) (s.copyPlace n k act) (act - 1)).raiseCh n 22 (chArg 0 0 act k.val)

/-- An unconfirmed image begins its rollback, the agent's reset being asserted (R115): ROLLING_BACK, EV(64n + 24), the rejected copy
no source. Its intent record has two steps, the flip that is done and the flip back, which tells it from a flip's (R118; log entry
64). -/
def State.beginRollback (s : State) (n : Ch) (k : SlotId) : State :=
  let rejected := s.actCopy n k
  let s := (s.updSlot n k (fun z => { z with upd := .rollingBack, inactValid := false })).raiseCh n 24 (chArg 0 0 rejected k.val)
  s.intent 2 n.val k.val 0 1 2 (s.copyPlace n k rejected) (s.copyPlace n k (3 - rejected)) (2 - rejected)

/-- The ACT commit that a slot waits for is made (R114, R115): a pending flip takes effect, or a rollback's old ACT is committed. -/
def State.actNow (s : State) (n : Ch) (k : SlotId) : State :=
  let s := s.updSlot n k (fun z => { z with actWait := false })
  match ((s.chan n).slot k).upd with
  | .flipPending => s.flip n k
  | .rollingBack => s.commitAct n k
  | _ => s

/-- What the assertion of an agent's reset makes of a slot (R114, R115): an ACT commit is due for a pending flip; an unconfirmed image
begins its rollback, and one is due for that. -/
def State.resetSlot (s : State) (n : Ch) (k : SlotId) : State :=
  match ((s.chan n).slot k).upd with
  | .flipPending => s.updSlot n k (fun z => { z with actWait := true })
  | .confirming => (s.beginRollback n k).updSlot n k (fun z => { z with actWait := true })
  | _ => s

/-- An ACT commit of the channel is due (R19). -/
def State.actPending (s : State) (n : Ch) : Bool := allSlots.any (fun k => ((s.chan n).slot k).actWait)

/-- The ACT commits that are due are made, but wait while another commit is in progress (R19). -/
def State.applyActs (s : State) (n : Ch) : State :=
  if s.regs.cur.isSome then s
  else allSlots.foldl (fun s k => if ((s.chan n).slot k).actWait then s.actNow n k else s) s

/-- What the assertion of an agent's reset does to its slots. The Bool says that the layout has changed, or is to change. -/
def State.resetSlots (s : State) (n : Ch) : State × Bool :=
  let s := allSlots.foldl (fun s k => s.resetSlot n k) s
  (s.applyActs n, s.actPending n)

/-! ## Reservations and Decanting (R44, R137, R141) -/

/-- Reservations the other agents hold (R141). -/
def State.reservations (s : State) (n : Ch) : Nat :=
  (allCh.map (fun m => if m = n then 0 else (s.chan m).resv)).sum

/-- The state HELD or DECANTING returns to Decanting anew: no page counts as found. -/
def State.startDecant (s : State) (n : Ch) : State :=
  let s := (s.updChan n (fun c => { c with setRes := false, decAt := 0, prefAt := 0, prefEnd := false })).updAgt n (fun a => { a with intact := false })
  (s.setAgent n .decanting).noteSet n

/-- The channel may Decant in this mode (R44, R46). -/
def State.mayDecant (s : State) (n : Ch) : Bool :=
  (s.chan n).brought &&
    match s.plat.mode with
    | .hold => s.policyApplied
    | .verify => true
    | .guard => true
    | .recover => true
    | _ => false

/-! ## The agent's reset asserted (R44, R88, R91, R106) -/

/-- The agent leaves RELEASED: port state, phase, watchdog and released time (R88, R106, R180, R181). -/
def State.dropReset (s : State) (n : Ch) : State :=
  let s := (s.resumeAll n).bootPort n
  let s := s.updAgt n (fun a => { a with
    relSum := if (s.chan n).st = .released then a.relSum + (s.time - (s.chan n).relAt) else a.relSum
    warn := false, hbSeen := false, served := false })
  s.setPhase n .boot

/-- SEQENTn: the subprogram word of an agent, 0xFF none (R187). -/
def State.subEntry (s : State) (n : Ch) : Nat := fld (s.cfg (0x2F0 + 4 * (n.val / 4))) (8 * (n.val % 4) + 7) (8 * (n.val % 4))

/-- An agent with a changed layout is Decanted anew, once no ACT commit of it waits (R44). -/
def State.decantNew (s : State) (n : Ch) : State :=
  if s.actPending n then s
  else if s.mayDecant n then s.startDecant n
  else s.updAgt n (fun a => { a with intact := false })

/-- A request for the agent's subprogram under the re-release rule; where that subprogram still runs, it runs again after its end
(R176). -/
def State.requestSub (s : State) (n : Ch) : State :=
  if (s.agt n).stepReached ∧ s.subEntry n ≠ 0xFF ∧ n.val ∉ s.ctl.requests then
    { s with ctl := { s.ctl with requests := s.ctl.requests ++ [n.val] } }
  else s

/-- The agent's reset is asserted and it becomes HELD (R44); with a flip or a rollback it passes to DECANTING instead, at once or
after the commit in progress. An agent that is not RELEASED is in reset already. -/
def State.holdAgent (s : State) (n : Ch) : State :=
  if (s.chan n).st = .released then
    let r := (s.dropReset n).resetSlots n
    let s := if r.2 = true ∧ r.1.actPending n = false ∧ r.1.mayDecant n = true then r.1.startDecant n
      else (r.1.updAgt n (fun a => { a with intact := a.intact && !r.2 })).setAgent n .held
    s.requestSub n
  else s

/-- A flip that ACTIVATE asks for with FLIPNOW (R114): the reset is asserted; an agent already HELD takes the flip in the
reset that holds it (R44). -/
def State.flipReset (s : State) (n : Ch) : State :=
  if (s.chan n).st = .released then s.holdAgent n
  else if (s.chan n).st = .held ∨ (s.chan n).st = .decanting then
    let r := s.resetSlots n
    if r.2 then r.1.decantNew n else r.1
  else s

/-- An unconfirmed image is rolled back although no other reset has come (R115): the agent's reset is asserted for it. -/
def State.rollback (s : State) (n : Ch) (k : SlotId) : State :=
  if (s.chan n).st = .released then s.holdAgent n
  else if ((s.chan n).slot k).upd = .confirming then
    let s := (s.resetSlot n k).applyActs n
    if (s.chan n).st = .held ∨ (s.chan n).st = .decanting then s.decantNew n else s
  else s

/-- The ACT commits that waited for a commit are made when it has ended, before any GO that waits, and their agents are Decanted
(R19, R44). DESIGN CHOICE: before a GO that arrived earlier; R19 orders only GOs of one cycle (log entry 64). -/
def State.actsDue (s : State) : State :=
  forCh (fun s n =>
    if s.actPending n then
      let s := s.applyActs n
      if (s.chan n).st = .held ∨ (s.chan n).st = .decanting then s.decantNew n else s
    else s) s

/-! ## Quarantine and re-imaging (R179, R180, R275, R277) -/

/-- The enabled slots of an agent. -/
def State.enabledSlots (s : State) (n : Ch) : List Nat := (allSlots.filter (fun k => s.slotEnabled n k)).map (fun k => k.val)

/-- The agent's frames and reservation go, and Decanting and PREFETCH end (R137, R141, R143). -/
def State.dropFrames (s : State) (n : Ch) : State :=
  ((s.freeChan n).pressEnd (fun j => j.decant && decide (j.ch = some n.val))).updChan n (fun c =>
    { c with resv := 0, setRes := false, prefEnd := true, verdicts := c.verdicts.map (fun d => { d with framed := false }) })

/-- The linked PWREN pin of an agent (R167). -/
def State.pwrenOf (s : State) (n : Ch) : Option Nat :=
  (List.range 24).find? (fun k => decide (fld (s.cfg (0x240 + 4 * k)) 2 0 = 2 ∧ fld (s.cfg (0x240 + 4 * k)) 5 3 = n.val))

/-- A sequencer pin set asserted or deasserted. -/
def State.setPin (s : State) (k : Nat) (on : Bool) : State :=
  let m := word (2 ^ k)
  { s with ctl := { s.ctl with pinSet := if on then s.ctl.pinSet ||| m else s.ctl.pinSet &&& ~~~m } }

/-- AGTCFGn of PLAT (R187). -/
def State.agtCfg (s : State) (n : Ch) : Word := s.cfg (0x300 + 4 * n.val)

/-- With QPWROFF the agent's linked PWREN pin is deasserted in QUARANTINED and REIMAGING (R179, R185). -/
def State.powerOffQ (s : State) (n : Ch) : State :=
  if bit (s.agtCfg n) 7 then
    (match s.pwrenOf n with | some k => (s.updAgt n (fun a => { a with pwrOff := true })).setPin k false | none => s)
  else s

/-- An agent passes to REIMAGING with a recovery (R44, R185, R277). -/
def State.reimage (s : State) (n : Ch) (job : RecJob) : State :=
  let s := ((s.dropFrames n).setAgent n .reimaging).powerOffQ n
  let s := s.updAgt n (fun a => { a with intact := false, reimaged := true })
  { s with ident := { s.ident with recs := s.ident.recs.filter (fun j => j.ch ≠ n.val) ++ [job] } }

/-- The recovery of the slots given, as it begins. -/
def State.newRec (s : State) (n : Ch) (slots : List Nat) (source : Nat) (single : Bool) : RecJob :=
  { ch := n.val, slots := slots, source := source, single := single, st := .trying
    stream := { held := 0, bufs := [], last := false }, step := 0, fails := 0, at_ := s.time, man := none }

/-- An agent passes to REIMAGING for the slots given: recovery starts, EV529 (R277). -/
def State.enterReimaging (s : State) (n : Ch) (slots : List Nat) (source : Nat) (single : Bool) : State :=
  (s.reimage n (s.newRec n slots source single)).raise 529 0

/-- An agent becomes QUARANTINED (R44, R179, R180): reset asserted, serving stopped, frames freed, reservation released, an
unconfirmed image rolled back, QPWROFF, QCAUSE and QCOUNT; at QLIMIT it passes to REIMAGING with EV777. A quarantine by
the watchdog is itself the escalation (R183), and one from REIMAGING (QCAUSE 8) is not counted. It comes from RELEASED, from DECANTING
where the pinned set does not fit (QCAUSE 7) or a part is FAILED (6; R122), and from REIMAGING whose sources are exhausted (R44); RECOVER_PLATFORM's, which names no cause
(0), from HELD and DECANTING too (R281). -/
def State.quarantine (s : State) (n : Ch) (cause : Nat) : State :=
  let st := (s.chan n).st
  if ¬(st = .released ∨ (st = .decanting ∧ (cause = 6 ∨ cause = 7)) ∨ (st = .reimaging ∧ cause = 8) ∨ ((st = .held ∨ st = .decanting) ∧ cause = 0)) then s
  else
    let s := if st = .released then s.dropReset n else s
    let s := (s.updPort n (fun p => { p with stopped := true })).updChan n (fun c =>
      { c with autorel := if cause = 1 ∨ cause = 2 then c.autorel else none })
    let s := ((s.resetSlots n).1.dropFrames n).setAgent n .quarantined
    let counted := decide (cause ≠ 4 ∧ cause ≠ 8)
    let s := s.updAgt n (fun a => { a with
      qcause := cause, intact := false
      qcount := if counted then sat 255 (a.qcount + 1) else a.qcount
      relSum := if counted then 0 else a.relSum })
    let s : State := { s with ctl := { s.ctl with requests := s.ctl.requests.filter (fun m => m ≠ n.val) } }
    let s := s.powerOffQ n
    let lim := fld (s.agtCfg n) 31 28
    if counted ∧ lim ≠ 0 ∧ lim ≤ (s.agt n).qcount then (s.enterReimaging n (s.enabledSlots n) 0 false).raise 777 0
    else if cause = 4 then s.enterReimaging n (s.enabledSlots n) 0 false
    else s

/-- A slot whose pinned-set page cannot be repaired during Decanting: the agent passes from DECANTING to REIMAGING (R44,
R277). -/
def State.startReimage (s : State) (n : Ch) (k : SlotId) : State :=
  if (s.chan n).st = .decanting then s.enterReimaging n [k.val] 0 false else s

/-- The reservation of an agent fails (R141): EV(64n + 39), NOFIT, and the agent becomes QUARANTINED. -/
def State.noFit (s : State) (n : Ch) : State :=
  ((({ s with cellar := { s.cellar with nofit := true } } : State).updChan n (fun c => { c with nofit := true })).raiseCh n 39 0).quarantine n 7

/-- The pages of an agent's pinned set do not exceed the figure of R141. -/
def State.resvFits (s : State) (n : Ch) : Bool := decide (s.pinnedSet n + s.nodeRes + s.graftMax + s.reservations n ≤ s.inService)

/-- An agent that passes to DECANTING takes its reservation, or becomes QUARANTINED from there (R44, R141). -/
def State.reserve (s : State) (n : Ch) : State :=
  if s.resvFits n then (s.updChan n (fun c => { c with resv := s.pinnedSet n, nofit := false })).startDecant n
  else (s.setAgent n .decanting).noFit n

/-- A reservation is taken on the way from HELD to DECANTING, or the agent becomes QUARANTINED (R44, R141). -/
def State.tryDecant (s : State) (n : Ch) : State :=
  if (s.chan n).st = .held ∧ (s.agt n).intact = false ∧ s.mayDecant n = true then
    s.reserve n
  else s

/-- An agent's page failed Graft and goes to the known-bad list of 64; a list that becomes full quarantines the agent (R149). -/
def State.knowBad (s : State) (n : Ch) (p : PageId) : State :=
  if (s.chan n).bad.contains p ∨ 64 ≤ (s.chan n).bad.length then s
  else
    let s := s.updChan n (fun c => { c with bad := c.bad ++ [p] })
    if (s.chan n).bad.length = 64 then s.quarantine n 5 else s

/-- The owner-authorised release (R44): QUARANTINED to HELD, pages Decanted again before the release. -/
def State.releaseQuarantine (s : State) (n : Ch) : State :=
  if (s.chan n).st = .quarantined then ((s.setAgent n .held).requestSub n).tryDecant n else s

/-- A slot between ACTIVATE and the end of its staging copy (R106). -/
def State.updating (s : State) (n : Ch) : Bool :=
  allSlots.any (fun k => match ((s.chan n).slot k).upd with
    | .verifying => true | .copying => true | .waitPart => true | _ => false)

/-! ## RECOVER and LOCKDOWN (R41, R52, R53, R275, R282) -/

/-- Every agent but the disabled ones becomes HELD (R44): LOCKDOWN. The reset of a RELEASED one is asserted, with what that does to its
slots (R114, R115). -/
def State.holdAll (s : State) : State :=
  forCh (fun s n =>
    match (s.chan n).st with
    | .disabled => s
    | .released =>
      let r := (s.dropReset n).resetSlots n
      (r.1.updAgt n (fun a => { a with intact := a.intact && !r.2 })).setAgent n .held
    | _ => s.setAgent n .held) s

/-- LOCKDOWN is entered (R41, R44, R53, R346): every agent held, the sequencer stopped, pins with LOCKOFF deasserted,
recoveries and SPDM connections ended, key stores cleared, debug access closed (R343). A tamper source of a zeroise class trips in
LOCKDOWN too: its row's From is any mode but SHELF, so CAUSE is written again. -/
def State.enterLockdown (s : State) (cause : Nat) : State :=
  if s.plat.mode = .shelf ∨ (s.plat.mode = .lockdown ∧ ¬(cause = 0x10 ∨ cause = 0x11 ∨ cause = 0x12)) then s
  else
    let s := (s.endRun cause .keyRevoked).clearStores
    let s := s.holdAll.setMode .lockdown cause
    let off := word (((List.range 24).filter (fun k => bit (s.cfg (0x240 + 4 * k)) 8)).foldl (fun a k => a + 2 ^ k) 0)
    { s with
      ctl := { s.ctl with prog := none, requests := [], pinSet := s.ctl.pinSet &&& ~~~off }
      ident := { s.ident with recs := [], conns := [], hand := none }
      life := { s.life with debugOpen := false, scope := if s.keeper.dbgLatch then s.life.scope else 0, role := if s.keeper.dbgLatch then s.life.role else 0 } }

/-- RECOVER is entered from HOLD (0x06 to 0x08) or from VERIFY and GUARD (the others) (R41). -/
def State.enterRecover (s : State) (cause : Nat) : State :=
  let ok := match s.plat.mode with
    | .hold => decide (cause = 6 ∨ cause = 7 ∨ cause = 8)
    | .verify => decide (cause = 9 ∨ cause = 0xA ∨ cause = 0xB ∨ cause = 0xE ∨ cause = 0x16)
    | .guard => decide (cause = 9 ∨ cause = 0xA ∨ cause = 0xB ∨ cause = 0xE ∨ cause = 0x16)
    | _ => false
  if ok then s.setMode .recover cause else s

/-- An agent that is held is Decanted again (R282): none of its frames counts any more. -/
def State.decantAgain (s : State) (n : Ch) : State :=
  if (s.chan n).st = .held ∨ (s.chan n).st = .decanting then
    let s := ((s.freeChan n).updChan n (fun c => { c with verdicts := c.verdicts.map (fun d => { d with framed := false }) })).updAgt n
      (fun a => { a with intact := false })
    if (s.chan n).st = .decanting then s.startDecant n else s.tryDecant n
  else s

/-- The sequencer's main program starts (R45, R172). -/
def State.seqStart (s : State) : State :=
  { s with ctl := { s.ctl with prog := some { pc := fld (s.cfg 0x2E8) 23 16, sub := none, wait := .ready } } }

/-- The platform is restored: VERIFY with CAUSE 0x0C; affected agents are Decanted again, after the ledger's RECOVER every one
(R41, R282). Where RECOVER was entered again before VERIFY (R57), the sequencer starts now. -/
def State.platformRestored (s : State) : State :=
  if s.plat.mode = .recover then
    let first := decide (s.plat.holdTime = 0xFFFFFFFF#32)
    let t := forCh (fun t n => if s.plat.cause = 9 then t.decantAgain n else t.tryDecant n) (s.setMode .verify 0x0C)
    if first then t.seqStart else t
  else s

/-- A request for a subprogram where the agent is held and that subprogram does not run: at an urgent RELEASE (R173, R176). -/
def State.requestHeld (s : State) (n : Ch) : State :=
  if ((s.chan n).st = .held ∨ (s.chan n).st = .decanting) ∧ (s.ctl.prog.map (fun p => p.sub)) ≠ some (some n.val) then s.requestSub n else s

end Sys2Proof.Machine
end

