-- ==== Sys2Proof/Machine/TamperOps.lean ====
section
/-! DEFINITION. Machine/TamperOps.lean: tamper response (R345 to R352). -/

namespace Sys2Proof.Machine

/-! ## The Keeper's records of a trip (R349, R350) -/

/-- The class of a source (R346). -/
def State.tamperClass (s : State) (src : Nat) : Nat :=
  if src < 10 then fld (s.cfg 0xC0) (3 * src + 2) (3 * src) else fld (s.cfg 0xC4) (3 * (src - 10) + 2) (3 * (src - 10))

/-- The four words of a history record (R349). -/
def histWords (time : DWord) (src cls mode seq count : Nat) : List Word :=
  let bs := leBytes 8 time.toNat ++ leBytes 1 src ++ leBytes 1 cls ++ leBytes 1 mode ++ leBytes 1 seq ++ leBytes 2 count
  let all := bs ++ leBytes 2 (Config.crc16 bs).toNat
  [wordAt all 0, wordAt all 4, wordAt all 8, wordAt all 12]

/-- TIME of a history record, in KEEP ticks. -/
def histTicks (r : List Word) : Nat := (r.getD 0 0#32).toNat + 2 ^ 32 * ((r.getD 1 0#32).toNat % 2 ^ 31)

/-- SOURCE of a history record. -/
def histSource (r : List Word) : Nat := fld (r.getD 2 0#32) 7 0

/-- The position in the circle of the newest record. -/
def Keeper.newestTrip (k : Keeper) : Nat := (k.thNext + 7) % 8

/-- A trip in the history: a new record in the circle of eight, or one more in the newest, where that is of the same source
and not more than 1 s old (R349). -/
def State.history (s : State) (src cls : Nat) : State :=
  let k := s.keeper
  let old := k.thist.getD k.newestTrip []
  if k.thist ≠ [] ∧ histSource old = src ∧ s.rtcTicks < histTicks old + 32768 then
    let w := old.getD 2 0#32
    let time := joinHalves (old.getD 1 0#32) (old.getD 0 0#32)
    let r := histWords time src (fld w 15 8) (fld w 23 16) (fld w 31 24) (sat 0xFFFF (fld (old.getD 3 0#32) 15 0 + 1))
    { s with keeper := { k with thist := k.thist.set k.newestTrip r } }
  else
    let r := histWords s.rtc src cls s.plat.mode.code k.thNext 1
    let i := k.thNext % 8
    { s with keeper := { k with thist := if i < k.thist.length then k.thist.set i r else k.thist ++ [r], thNext := (k.thNext + 1) % 256 } }

/-- The tamper latch takes a trip of class ZEROISE or above; of two sources in one KEEP cycle with one class, the lower number
stays (R349). -/
def State.latchTrip (s : State) (src cls : Nat) : State :=
  let k := s.keeper
  if cls < 3 then s
  else if k.tlHolding = false ∨ k.tlClass < cls then
    { s with keeper := { k with tlHolding := true, tlClass := cls, tlSource := src, tlTrips := 1, tlTime := s.rtc } }
  else if k.tlClass = cls then
    { s with keeper := { k with
        tlTrips := sat 0xFFFF (k.tlTrips + 1)
        tlSource := if k.tlTime = s.rtc then min src k.tlSource else k.tlSource } }
  else s

/-- What the Keeper records of a trip: TSTAT.TRIP, the history, the latch. -/
def State.noteTrip (s : State) (src cls : Nat) : State :=
  let s : State := { s with keeper := { s.keeper with trip := s.keeper.trip ||| word (2 ^ src) } }
  (s.history src cls).latchTrip src cls

/-- The PUF-invalidate fuses are burned, EV821 (R346); CRYPTO.ROOT shows them blown (R325). -/
def State.burnFuses (s : State) : State :=
  let s := s.updOtp (fun o => { o with fuses := 0xFF#8 })
  ({ s with crypt := { s.crypt with rootSt := 4 } } : State).raise 821 0

/-- A tamper trip (R346, R348, R350): recorded; with main power on its class responds. A class of ZEROISE or above acts on the
key stores first, stops the agent-side ports and enters LOCKDOWN. -/
def State.trip (s : State) (src : Nat) : State :=
  let cls := s.tamperClass src
  let arg := src + 32 * cls
  if cls = 0 ∨ 5 < cls then s
  else
    let s := s.noteTrip src cls
    if s.powered = false then s
    else if cls = 1 then s.raiseAt (800 + src) 3 arg
    else if cls = 2 then s.raiseAt (800 + src) 6 arg
    else
      let cause := 0x10 + (cls - 3)
      let s := s.zeroiseLine cause
      let s := forCh (fun s n => s.updPort n (fun p => { p with stopped := true })) s
      let s := (s.enterLockdown cause).raiseAt (800 + src) 7 arg
      if cls = 5 then s.burnFuses else s

/-- Tamper source 18 is judged when the bundle is first applied after a Keeper power loss (R346). -/
def State.judgeLoss (s : State) : State :=
  if s.plat.keepLost = true ∧ s.life.judged18 = false then
    ({ s with life := { s.life with judged18 := true } } : State).trip 18
  else s

/-! ## The sources (R345, R347, R348) -/

/-- A source that main power supplies is gated while power-good is low, 10 and 11 also for 1.0 ms after it rises (R345). -/
def State.sourceLive (s : State) (src : Nat) : Bool :=
  if s.powered then
    decide (src ≠ 18) && !(decide (src = 10 ∨ src = 11) && s.plat.porStart && decide (s.usSinceRestart < 1000)) &&
      (decide (src ≠ 8 ∧ src ≠ 9) || bit (s.cfg 0xCC) (src + 22))
  else s.keeper.vbat && decide (src < 8 ∨ src = 19)

/-- TAMPER_TRIP (R345, R346): a source trips. For TAMP[s], `level` is the filtered level that has come; it trips where it equals
ACTLVL. -/
def execTamperTrip (src : Fin 20) (level : Bool) (s : State) : Host.Outcome State Fault Refusal :=
  .next (if s.sourceLive src.val = false then s
  else if src.val < 8 then
    let m := s.life.tampLvl
    let m := if m.testBit src.val = level then m else if level then m + 2 ^ src.val else m - 2 ^ src.val
    let s : State := { s with life := { s.life with tampLvl := m } }
    if level = bit (s.cfg 0xC8) (24 + src.val) then s.trip src.val else s
  else s.trip src.val)

/-- One sample of a mesh bit (R347): TOL consecutive mismatches trip the mesh. -/
def State.meshSample (s : State) (k : Fin 2) (good : Bool) : State :=
  let w := s.cfg 0xCC
  let tol := if k.val = 0 then fld w 3 0 else fld w 7 4
  let old := if k.val = 0 then s.life.mesh0 else s.life.mesh1
  let new := if good then 0 else old + 1
  let fire := decide (tol ≤ new) && !good
  let v := if fire then 0 else new
  let s : State := { s with life := if k.val = 0 then { s.life with mesh0 := v } else { s.life with mesh1 := v } }
  if fire then s.trip (8 + k.val) else s

/-- MESH_SAMPLE (R347): a driven mesh's bit is compared in the last of its 8 KEEP cycles. -/
def execMeshSample (k : Fin 2) (good : Bool) (s : State) : Host.Outcome State Fault Refusal :=
  .next (if s.powered ∧ bit (s.cfg 0xCC) (30 + k.val) = true then s.meshSample k good else s)

/-- SHELF_MESH_BURST (R347): 32 bits of an enabled mesh, each with the result of its comparison. -/
def execShelfMeshBurst (k : Fin 2) (good : List Bool) (s : State) : Host.Outcome State Fault Refusal :=
  .next (if s.powered = false ∧ s.keeper.vbat = true ∧ bit (s.cfg 0xCC) (30 + k.val) = true then
    (good.take 32).foldl (fun s g => s.meshSample k g) s
  else s)

/-- SHELF_TEMP_SAMPLE (R345): the Keeper's sensor reads, in units of 0.25 °C. -/
def execShelfTempSample (quarter : Int) (s : State) : Host.Outcome State Fault Refusal :=
  .next (if s.powered = true ∨ s.keeper.vbat = false then s
  else if quarter < -200 then s.trip 12
  else if 520 < quarter then s.trip 13
  else s)

/-- VBAT_LOW (R345, R352): VBAT falls below 2.6 V with main power present: EV822, and source 19 trips. -/
def execVbatLow (s : State) : Host.Outcome State Fault Refusal :=
  .next (if s.powered then
    (({ s with life := { s.life with vbatLow := true } } : State).raise 822 0).trip 19
  else s)

end Sys2Proof.Machine
end

