-- ==== Sys2Proof/Machine/VerdictOps.lean ====
section
/-! DEFINITION. Machine/VerdictOps.lean: release, watchdog services, DEFERRED verdicts and Graft. -/

namespace Sys2Proof.Machine

/-! ## Confirmation (R115, R116) -/

/-- Burning ends (R116, R117): IDLE; copies below the counter are no source any more. -/
def State.burnDone (s : State) (n : Ch) (k : SlotId) : State :=
  let v := s.vintage (fld (s.cfg (fch n (0xB8 + 4 * k.val))) 27 24)
  let below := fun (m : Option Manifest) => match m with | some m => decide (m.vintage < v) | none => false
  (s.updSlot n k (fun z =>
    { z with
      upd := .idle, up := none, progress := 0
      inactValid := z.inactValid && !below (if s.inactCopy n k = 1 then z.manA else z.manB)
      goldValid := z.goldValid && !below z.manG })).intent 3 n.val k.val 1 1 1
    (s.copyPlace n k (s.actCopy n k)) (s.copyPlace n k (s.actCopy n k)) v

/-- The image is confirmed (R115, R116): BURNING, EV(64n + 23). With nothing to burn the slot returns to IDLE. -/
def State.confirmImage (s : State) (n : Ch) (k : SlotId) : State :=
  match ((s.chan n).slot k).upd, ((s.chan n).slot k).up with
  | .confirming, some u =>
    let ctr := fld (s.cfg (fch n (0xB8 + 4 * k.val))) 27 24
    let left := u.man.vintage - s.vintage ctr
    let s := (s.updSlot n k (fun z => { z with upd := .burning, up := some { u with step := 0, nsteps := left } })).raiseCh n 23 (chArg 0 0 (s.actCopy n k) k.val)
    let here := s.copyPlace n k (s.actCopy n k)
    let s := s.intent 2 n.val k.val 1 1 1 (s.copyPlace n k (s.inactCopy n k)) here (b2n (!u.oldAct))
    if left = 0 then s.burnDone n k else s.intent 3 n.val k.val 0 0 left here here u.man.vintage
  | _, _ => s

/-! ## Release (R44, R60, R115, R173, R176, R181) -/

/-- Held by HALT_N or by a stop latch (R171, R177), by the ledger's RECOVER (R282), or by a commit in progress that names its
layout group or an ACT commit that waits (R18). -/
def State.barred (s : State) (n : Ch) : Bool :=
  !s.plat.haltN || decide (s.plat.mode = .recover ∧ s.plat.cause = 9) || (s.agt n).stop || (s.agt n).halt || s.actPending n || s.regs.cur.any (fun c => c.2.getLsbD (8 + n.val))

/-- An agent is eligible for release (R176); one that HELD keeps its resident pages needs no Decanting (R44). -/
def State.eligible (s : State) (n : Ch) : Bool :=
  ((decide ((s.chan n).st = .decanting) && s.setResident n) || (decide ((s.chan n).st = .held) && (s.agt n).intact && s.setResident n)) &&
    !s.barred n && (decide (s.plat.mode = .verify) || decide (s.plat.mode = .guard) || decide (s.plat.mode = .recover))

/-- What the release does to a slot: the confirmation window opens, a rollback ends (R115, R117). -/
def State.releaseSlot (s : State) (n : Ch) (k : SlotId) : State :=
  match ((s.chan n).slot k).upd with
  | .confirming =>
    let s := s.updSlot n k (fun z => { z with up := z.up.map (fun u => { u with windowOpen := true, hb := 0 }) })
    let c := s.cfg (fch n (0xB8 + 4 * k.val))
    if fld c 23 16 = 0 ∧ bit c 30 = false then s.confirmImage n k else s
  | .rollingBack =>
    (s.updSlot n k (fun z => { z with upd := .idle, up := none, progress := 0 })).intent 2 n.val k.val 2 2 2
      (s.copyPlace n k (s.inactCopy n k)) (s.copyPlace n k (s.actCopy n k)) (s.actCopy n k - 1)
  | _ => s

/-- The reset of an agent is deasserted (R44, R60, R90, R181). DESIGN CHOICE: the first release after REIMAGING clears QCOUNT and WDRST
also where REIMAGING ended in QUARANTINED and QRELEASE ended that; R180 does not say whether this is a release after REIMAGING (log
entry 64). -/
def State.releaseAgent (s : State) (n : Ch) : State :=
  let s := (s.bootPort n).updPort n (fun p => { p with stopped := false })
  let s := s.updChan n (fun c => { c with relAt := s.time })
  let s := s.updAgt n (fun a => { a with
    hbSeen := false, warn := false, wdAt := s.time, served := false, intact := true, reimaged := false
    qcount := if a.reimaged then 0 else a.qcount
    wdrst := if a.reimaged then 0 else a.wdrst
    streak := if a.reimaged then 0 else a.streak })
  let s := s.setAgent n .released
  allSlots.foldl (fun s k => s.releaseSlot n k) s

/-- VERIFY becomes GUARD when every enabled agent is RELEASED (R41). -/
def State.checkGuard (s : State) : State :=
  if s.plat.mode = .verify ∧ allCh.all (fun n => !s.enabled n || decide ((s.chan n).st = .released)) then s.setMode .guard 5 else s

/-- Agents released together in one cycle (R173). -/
def State.releaseMany (s : State) (ns : List Ch) : State := (ns.foldl State.releaseAgent s).checkGuard

/-! ## Watchdog services (R93, R115, R181 to R183, R383, R384) -/

/-- WDT.APERm and WDT.AWINm of agent n's watchdog, m = n + 1 (R188). -/
def State.aper (s : State) (n : Ch) : Word := s.cfg (0x680 + 16 * n.val)
def State.awin (s : State) (n : Ch) : Word := s.cfg (0x684 + 16 * n.val)

/-- The source EV(832 + 4m + k) of agent n's watchdog. -/
def wdEv (n : Ch) (k : Nat) : Nat := 836 + 4 * n.val + k

/-- WDm counts: its agent is RELEASED and it is enabled (R181, R182). -/
def State.wdRunning (s : State) (n : Ch) : Bool := decide ((s.chan n).st = .released) && bit (s.aper n) 31

/-- ELAPSED of WDm: units of 2^(10 + PRESC) CORE cycles since its last restart, at the model's clock, up to PERIOD (R181,
R382). -/
def State.wdElapsed (s : State) (n : Ch) : Nat :=
  if s.wdRunning n then min (fld (s.aper n) 23 0) ((s.time - (s.agt n).wdAt) * 4 / (3 * 2 ^ (10 + fld (s.aper n) 26 24))) else 0

/-- A service with the right key would be accepted now (R181, R383, R384). -/
def State.wdInWin (s : State) (n : Ch) : Bool :=
  s.wdRunning n &&
    ((!(s.agt n).served || (s.agt n).warn || decide (fld (s.awin n) 23 0 ≤ s.wdElapsed n)) && decide (s.wdElapsed n < fld (s.aper n) 23 0))

/-- The watchdog resets its agent (R183): HELD, WDRST, second-expiry event; at WDLIMIT QUARANTINED and so REIMAGING. -/
def State.wdReset (s : State) (n : Ch) : State :=
  let e := s.wdElapsed n
  let s := (s.updAgt n (fun a => { a with wdrst := sat 255 (a.wdrst + 1), streak := 0 })).cnt n 46 1
  let lim := fld (s.agtCfg n) 27 24
  if lim ≠ 0 ∧ lim ≤ (s.agt n).wdrst then ((s.raise (wdEv n 1) e).raise (wdEv n 3) e).quarantine n 4
  else (s.raise (wdEv n 1) e).holdAgent n

/-- An accepted service (R115, R181, R183, R384): the count restarts, WARN clears, the phase may become RUN, the image may
be confirmed. `page` says that it came by the heartbeat page. -/
def State.wdAccept (s : State) (n : Ch) (page : Bool) : State :=
  let s := s.updAgt n (fun a =>
    { a with
      served := true, warn := false, wdAt := s.time
      hbSeen := a.hbSeen || page
      streak := if 16 ≤ a.streak + 1 then 0 else a.streak + 1
      wdrst := if 16 ≤ a.streak + 1 then 0 else a.wdrst })
  s

/-- An accepted heartbeat counts for the phase and for a slot in CONFIRMING (R106, R115). DESIGN CHOICE: with CONFBY = 1 and CONFIRMHB
above 0 heartbeats confirm the image too; the first of R115's ways has no condition on CONFBY (log entry 64). -/
def State.countHeartbeat (s : State) (n : Ch) : State :=
  let s := if fld (s.cfg (fch n 0xA4)) 3 2 = 0 ∧ (s.chan n).phase = .boot then s.setPhase n .run else s
  allSlots.foldl (fun s k =>
    match ((s.chan n).slot k).upd, ((s.chan n).slot k).up with
    | .confirming, some u =>
      if u.windowOpen then
        let s := s.updSlot n k (fun z => { z with up := some { u with hb := u.hb + 1 } })
        let need := fld (s.cfg (fch n (0xB8 + 4 * k.val))) 23 16
        if need ≠ 0 ∧ need ≤ u.hb + 1 then s.confirmImage n k else s
      else s
    | _, _ => s) s

/-- What a service comes to (R182). -/
inductive Service where
  | ignored | barred | accepted | failure | discarded
deriving DecidableEq, Repr

/-- How WDm judges a service of source bit `src` of AWIN (28 heartbeat page, 29 host command, 30 sideband) with a right or
wrong key (R182, R383): not counting, source not permitted, accepted, service failure, or discarded in an expiry cycle. -/
def State.judge (s : State) (n : Ch) (src : Nat) (key : Bool) : Service :=
  if s.wdRunning n = false then .ignored
  else if bit (s.awin n) src = false then .barred
  else if key = false then .failure
  else if s.wdInWin n then .accepted
  else if fld (s.aper n) 23 0 ≤ s.wdElapsed n then .discarded
  else .failure

/-- A service reaches WDm (R182, R183). -/
def State.wdService (s : State) (n : Ch) (src : Nat) (key : Bool) : State × Service :=
  match s.judge n src key with
  | .ignored => (s, .ignored)
  | .barred => (s.raise (wdEv n 2) (s.wdElapsed n), .barred)
  | .accepted => (s.wdAccept n (decide (src = 28)), .accepted)
  | .discarded => (s, .discarded)
  | .failure =>
    let s := (s.raise (wdEv n 2) (s.wdElapsed n)).updAgt n (fun a => { a with streak := 0 })
    (if bit (s.awin n) 31 then s else s.wdReset n, .failure)

/-- A program to the heartbeat page (R93, R95, R97): HBOK or HBBAD, the port's event, and WDm's judgement. The port accepts
what WDm accepts; `good` says that the transaction is a service with the right key. -/
def State.heartbeat (s : State) (n : Ch) (good : Bool) (op : Nat) : State :=
  let r := s.wdService n 28 good
  match r.2 with
  | .accepted =>
    (((r.1.updPort n (fun p => { p with hbok := wrap32 (p.hbok + 1) })).cnt n 13 1).raiseCh n 8 (chArg 0 op 0 0)).countHeartbeat n
  | .ignored => if good then r.1 else
      (r.1.updPort n (fun p => { p with hbbad := wrap32 (p.hbbad + 1) })).raiseCh n 9 (chArg 0 op 0 0)
  | .discarded => r.1
  | .barred => r.1
  | .failure => (r.1.updPort n (fun p => { p with hbbad := wrap32 (p.hbbad + 1) })).raiseCh n 9 (chArg 0 op 0 0)

/-! ## DEFERRED verdicts (R90, R144, R146, R147) -/

/-- R90: serving stops, EV(64n + 14), an exception toward the Warden pair (R10), and the agent becomes QUARANTINED. -/
def State.failedVerdict (s : State) (n : Ch) (cause : Nat) : State :=
  ((s.raiseCh n 14 0).exception true (64 * n.val + 14)).quarantine n cause

/-- FLASH cycles, 2.5 ns each, from the launch of a verdict's first byte to now (R370, R391). -/
def State.verdictCycles (s : State) (d : Pend) : Nat := (s.time - d.at_) * 2 / 3

/-- ns from the launch of a verdict's first byte to now, at the model's clock. -/
def State.verdictNs (s : State) (d : Pend) : Nat := (s.time - d.at_) * 5 / 3

/-- FCHn.VMAX of every requester takes the longest verdict time, in ns (R165). -/
def ReqView.noteVmax (v : ReqView) (n ns : Nat) : ReqView := { v with vmax := v.vmax.set n (max ns (v.vmax.getD n 0)) }

def State.noteVmax (s : State) (n : Ch) (ns : Nat) : State :=
  { s with regs := { s.regs with host := s.regs.host.noteVmax n.val ns, side := s.regs.side.noteVmax n.val ns, int := s.regs.int.noteVmax n.val ns } }

/-- A verdict is LATE (R147): VLATE, EV(64n + 41), treated as FAIL; its time counts for VMAX
(R165); its verification goes on to a result. -/
def State.lateVerdict (s : State) (n : Ch) (d : Pend) : State :=
  let s := s.updChan n (fun c =>
    { c with
      vlate := wrap32 (c.vlate + 1)
      verdicts := c.verdicts.map (fun e => if e.pg = d.pg ∧ e.late = false then { e with late := true, framed := false } else e)
      autorel := some (d.pg, false, false) })
  let s := (s.noteVmax n (s.verdictNs d)).freeFrames (fun f => decide (f.ch = n.val ∧ f.slot = d.pg.slot.val ∧ f.index = d.pg.page ∧ f.st = .inflight))
  ((((s.cnt n 33 (s.verdictCycles d)).cnt n 32 1).raiseCh n 41 (chArg d.pg.page 0 d.copy d.pg.slot.val)).failedVerdict n 2)

/-- The Press job of a DEFERRED verdict (R151). -/
def verdictJob (n : Ch) (p : PageId) : Job := { cls := 1, ch := some n.val, tag := verdictTag p, engine := 8 }

/-- A DEFERRED miss opens its verdict (R89, R144, R146, R458): an In-flight frame where one can be admitted; a 65th pending
verdict declares the oldest late. -/
def State.openVerdict (s : State) (n : Ch) (p : PageId) (copy : Nat) : State :=
  let live := (s.chan n).verdicts.filter (fun d => !d.late)
  let s := if 64 ≤ live.length then (match live.head? with | some d => s.lateVerdict n d | none => s) else s
  if (s.chan n).st = .released then
    let r := s.admitData n false (dataFrame .inflight n copy p false)
    (r.1.updChan n (fun c => { c with verdicts := c.verdicts ++ [{ pg := p, copy := copy, framed := r.2, at_ := s.time, late := false }] })).pressWait (verdictJob n p)
  else s

/-! ## Graft (R158 to R161) -/

/-- FCHn.FAILPG (R165): a node by the metadata page that holds it (R131). -/
def failpgWord (copy slot page cause : Nat) (metaPg : Bool) : Word :=
  word (page % 2 ^ 20 + 2 ^ 24 * (cause % 4) + bitAt metaPg 26 + 2 ^ 27 * (slot % 4) + 2 ^ 29 * (copy % 8))

/-- The image pages below node g: its first and how many, from the level sizes and the pages one node of the lowest of them
covers (R131). -/
def nodePages : List Nat → Nat → Nat → Nat × Nat
  | [], _, _ => (0, 0)
  | l :: r, w, g => if g < l then (g * w, w) else nodePages r (8 * w) (g - l)

/-- The image pages that fail with a page or node: itself, or every page below the node (R159). -/
def State.failing (s : State) (n : Ch) (p : PageId) (node : Bool) : List Nat :=
  if node then
    let np := imagePages (s.regions n) p.slot
    let r := nodePages (levels np) 8 p.page
    List.range' r.1 (min r.2 (np - r.1))
  else [p.page]

/-- The golden agent image of a slot is marked invalid in the vault header: EV517 (R161, R291). -/
def State.goldenInvalid (s : State) (n : Ch) (k : SlotId) : State :=
  match s.goldenOf n k with
  | none => s
  | some g =>
    let v := s.vault.golden.map (fun x => if x.chan = n.val ∧ x.slot = k.val then { x with valid := false } else x)
    (({ s with vault := { s.vault with golden := v } } : State).writeHeader).raise 517 (vaultArg g.off (g.part % 2))

/-- A copy is no recovery source any more: EV(64n + 51), or the vault's event (R160, R161). -/
def State.noSource (s : State) (n : Ch) (k : SlotId) (copy : Nat) : State :=
  if copy = 8 then s.goldenInvalid n k
  else (s.updSlot n k (fun z => if copy = 3 then { z with goldValid := false } else { z with inactValid := false })).raiseCh n 51 (chArg 0 0 copy k.val)

/-- The redirects of a channel as they now stand (R455): the KP9600's own program or erase on the part that one points to is suspended,
and resumed when none does any more. -/
def State.tendRedirects (s : State) (n : Ch) : State :=
  let s := allParts.foldl (fun s k =>
    let p := (s.chan n).prt k
    let on := s.redirectTo n false k
    if on ∧ p.susp = false ∧ p.canSuspend = true ∧ (s.ownWrite n k).isSome = true then
      (s.updPart n k (fun p => { p with susp := true })).flash n k .suspend [] 0 []
    else if on = false ∧ p.susp = true then (s.updPart n k (fun p => { p with susp := false })).flash n k .resume [] 0 []
    else s) s
  let set := fun (s : State) (b : Bool) (op : FlashOp) =>
    (({ s with vault := { s.vault with parts := s.vault.parts.set 0 { s.vault.parts[0] with susp := b } } } : State).vaultFlash 0 op)
  let on := allCh.any (fun m => s.redirectTo m true 0)
  let p := s.vault.parts[0]
  if on ∧ p.susp = false ∧ p.canSuspend = true ∧ s.vaultWrite.isSome = true then set s true .suspend
  else if on = false ∧ p.susp = true then set s false .resume
  else s

/-- When no candidate qualifies (R161); with a node every page below it fails (R159). -/
def State.graftExhausted (s : State) (n : Ch) (g : Graft) : State :=
  let s := s.updChan n (fun c => { c with grafts := c.grafts.filter (fun h => !decide (h.pg = g.pg ∧ h.copy = g.copy ∧ h.node = g.node)) })
  let s := s.raiseCh n 48 (chArg g.pg.page 0 g.copy g.pg.slot.val)
  if g.copy ≠ s.actCopy n g.pg.slot then s.noSource n g.pg.slot g.copy
  else if g.pinned ∧ (s.chan n).st = .decanting then s.startReimage n g.pg.slot
  else if g.served then (s.failing n g.pg g.node).foldl (fun s i => s.knowBad n ⟨g.pg.slot, i⟩) s
  else s

/-- A candidate of a Graft has failed (R158, R161): the next is tried, or none is left. -/
def State.candFails (s : State) (n : Ch) (g : Graft) (c : Nat) : State :=
  let h := { g with left := g.left.filter (fun x => x ≠ c) }
  if s.candLeft n h = [] then s.graftExhausted n g
  else s.updChan n (fun ch => { ch with grafts := ch.grafts.map (fun x => if x = g then h else x) })

/-- A confirmed failure of a page or node (R158, R159, R161): FAILPG, then Graft where GRAFTEN is 1, a served page's read-through
redirected at once to the first candidate that can be read. -/
def State.confirmedFailure (s : State) (n : Ch) (p : PageId) (copy cause : Nat) (node : Bool) : State :=
  let act := decide (copy = s.actCopy n p.slot)
  let pinned := act && (s.failing n p node).any (fun i => let pol := s.policyOfPage n ⟨p.slot, i⟩; decide (pol = 0 ∨ pol = 2))
  let g : Graft := { pg := p, copy := copy, node := node, served := act, pinned := pinned, left := s.candidates n p.slot copy }
  let s := s.updChan n (fun c => { c with failpg := failpgWord copy p.slot.val (if node then 16 + p.page / 10 else p.page) cause node })
  if bit (s.cfg (fch n 0x100)) 3 = false then s.graftExhausted n g
  else if (s.chan n).grafts.any (fun h => decide (h.pg = p ∧ h.copy = copy ∧ h.node = node)) then s
  else (s.updChan n (fun c => { c with grafts := c.grafts ++ [g] })).tendRedirects n

end Sys2Proof.Machine
end

