-- ==== Sys2Proof/Machine/Commit.lean ====
section
/-! DEFINITION. Machine/Commit.lean: shadow copies, the rules each commit group is checked against, and COMMIT.GO (R16 to
R23). -/

namespace Sys2Proof.Machine

/-! ## Staging (R16, R70, R99, R103, R172, R359) -/

/-- A requester's staged view: its shadow copy, and the active copy where it has staged nothing (R16). -/
def State.stagedView (s : State) (q : Req) (key : Nat) : Word := (stagedGet? (s.view q).staged key).getD (s.cfg key)

/-- COMMIT.PENDING (R23). -/
def State.stagedMask (s : State) (q : Req) : Word :=
  (s.view q).staged.foldl (fun a e => match groupOf e.1 with | some g => a ||| word (2 ^ g) | none => a) 0#32

/-- A value staged: the bits the requester may store, the others as the active copy holds them (R7, R16). -/
def State.stageKey (s : State) (q : Req) (key : Nat) (v : Word) : State :=
  let m := rwMask q key
  if m = 0#32 then s
  else s.setView q { s.view q with staged := stagedPut (s.view q).staged key (merge m (s.stagedView q key) v) }

/-- An index of `wrap` entries in the low bits goes on by one where its AUTOINC bit is set. -/
def nextIndex (w : Word) (autoBit wrap : Nat) : Word :=
  if bit w autoBit then word (w.toNat / 2 ^ autoBit * 2 ^ autoBit + (w.toNat % 2 ^ autoBit + 1) % wrap) else w

/-- The index register at an offset goes on. -/
def State.autoInc (s : State) (q : Req) (off autoBit wrap : Nat) : State :=
  s.setOwn q off (nextIndex (s.ownReg q off) autoBit wrap)

/-- A write to the program word, opcode entry, SFDP word, extent or region that an index register selects (R70, R125, R187): staged, with
the index going on; none where the offset is no such data register. -/
def State.writeTable (s : State) (q : Req) (off : Nat) (v : Word) : Option State :=
  if off = 0x2FC then some ((s.stageKey q (seqKey (fld (s.ownReg q 0x2F8) 7 0)) v).autoInc q 0x2F8 8 256)
  else if 0x1000 ≤ off ∧ off < 0x2000 then
    let n := (off - 0x1000) / 0x200
    let base := 0x1000 + 0x200 * n
    let o := off - base
    let opi := s.ownReg q (base + 0x38)
    let sti := s.ownReg q (base + 0x80)
    let rgi := s.ownReg q (base + 0x90)
    if o = 0x3C then some ((s.stageKey q (opKey n (fld opi 7 0)) v).autoInc q (base + 0x38) 8 256)
    else if o = 0x44 then
      some ((s.stageKey q (sfdpKey n (fld (s.ownReg q (base + 0x40)) 7 0)) v).autoInc q (base + 0x40) 8 256)
    else if o = 0x84 then some (s.stageKey q (stKey n (fld sti 5 0) 0) v)
    else if o = 0x88 then some (s.stageKey q (stKey n (fld sti 5 0) 1) v)
    else if o = 0x8C then some ((s.stageKey q (stKey n (fld sti 5 0) 2) v).autoInc q (base + 0x80) 7 64)
    else if o = 0x94 then some (s.stageKey q (rgKey n (fld rgi 6 0) 0) v)
    else if o = 0x98 then some (s.stageKey q (rgKey n (fld rgi 6 0) 1) v)
    else if o = 0x9C then some ((s.stageKey q (rgKey n (fld rgi 6 0) 2) v).autoInc q (base + 0x90) 7 128)
    else none
  else none

/-- A write to EVT.ROUTE (R359, R378): staged unless the route is locked against the writer; SRC goes on all the same. -/
def State.writeRoute (s : State) (q : Req) (v : Word) : State :=
  let src := fld (s.ownReg q 0x400) 9 0
  let s := if q ≠ .int ∧ bit (s.cfg (routeKey src)) 31 = true then s else s.stageKey q (routeKey src) v
  s.autoInc q 0x400 16 1024

/-- A write to CNT.DATA_HI (R25, R372, R373, R380): the counter takes the 48 bits with the low half held before; bit 31 of the high half
clears its OVF as well. -/
def State.writeCounter (s : State) (q : Req) (hi : Word) : State :=
  let idx := s.ownReg q 0x708
  let i := fld idx 8 0
  let lo := match (s.view q).wlatch with | some (0x70C, w) => w.toNat | _ => 0
  let s := s.setView q { s.view q with wlatch := none }
  let s := if counterOk i = false then s
    else { s with cntr := { s.cntr with
      vals := natPut s.cntr.vals i (lo + 2 ^ 32 * fld hi 15 0)
      ovf := if bit hi 31 then s.cntr.ovf.filter (fun j => j ≠ i) else s.cntr.ovf } }
  s.autoInc q 0x708 16 512

/-- A write that only stages, moves an index or stores a field that belongs to no group: what policy application and
REGISTER_WRITE share (R7, R16, R273). -/
def State.stageWrite (s : State) (q : Req) (off : Nat) (v : Word) : State :=
  match s.writeTable q off v with
  | some t => t
  | none =>
    if off = 0x404 then s.writeRoute q v
    else if off = 0x70C then s.setView q { s.view q with wlatch := some (0x70C, v) }
    else if off = 0x710 then s.writeCounter q v
    else if off = 0x200 then s
    else
      match regRow? off with
      | none => s
      | some r =>
        if r.perReq then s.setOwn q off (merge (rwMask q off) (s.ownReg q off) v)
        else if r.group = .none then s.setCfg off (merge (rwMask q off) (s.cfg off) v)
        else s.stageKey q off v

/-! ## Group n: opcode tables and latency (R65, R72, R93, R115, R155) -/

/-- The DIR, ADDR and ARG a class lists (R71). -/
def opShapeOk (e : Word) : Bool :=
  let c := opClass e
  let dir := opDir e
  let addr := opAddr e
  let arg := opArg e
  let shape := fun (d : Nat) (a : Bool) (m : Nat) => decide (dir = d) && a && decide (arg ≤ m)
  match c with
  | 0 => shape 0 (decide (addr = 0)) 0
  | 1 => shape 2 (decide (addr ≠ 0)) 0
  | 2 => shape 2 (decide (addr ≠ 0)) 0
  | 3 => shape 2 true 0
  | 4 => shape 2 true 2
  | 7 => shape 1 (decide (addr ≠ 0)) 0
  | 8 => shape 0 (decide (addr ≠ 0)) 3
  | 12 => shape 1 (decide (addr = 0)) 1
  | 13 => shape 1 true 0
  | 17 => shape 0 (decide (addr = 0)) 1
  | _ => shape 0 (decide (addr = 0)) 0

/-- R72 and R65 on one opcode entry. -/
def opEntryOk (rd : Nat → Word) (n : Nat) (e : Word) : Bool :=
  let f := opFormat e
  let modes := usedModes rd n e
  let fmax := fld (rd (0x1000 + 0x200 * n + 4)) 23 16
  decide (opClass e ≤ 18) && decide (f ≤ 9 ∨ f = 15) && decide (opDir e ≠ 3) && opShapeOk e &&
    !(decide (opAddr e = 1) && (decide (f = 9) || (decide (f = 15) && (enterModes rd n).contains 9))) &&
    (!opCont e || (decide (opClass e = 1) && decide (f = 2 ∨ f = 4 ∨ f = 7))) &&
    (decide (opClass e ≠ 1) || modes.all (fun m => decide (hitMin m (modeLimit fmax m) ≤ opDummy e)))

/-- The region of a view that covers a virtual page. -/
def regionIn (rd : Nat → Word) (n v : Nat) : Option Region := (regionsOf rd n).find? (fun r => r.covers v)

/-- R93: the heartbeat page lies in an OPEN region, or in none, below the virtual size. -/
def hbPageOk (rd : Nat → Word) (n : Nat) : Bool :=
  let b := 0x1000 + 0x200 * n
  if bit (rd (b + 4)) 12 = false then true
  else
    let v := fld (rd (b + 0x24)) 31 12
    decide (v < 2 ^ (fld (rd (b + 0xA0)) 5 0) / 4096) &&
      (match regionIn rd n v with | some r => decide (r.policy = 3) | none => true)

/-- No two FAILREG fields name the same bit position of FR; 8 to 15 are absent (R97). -/
def failregOk (w : Word) : Bool :=
  decide (([0, 4, 8, 12, 16, 20].map (fun i => fld w (i + 3) i)).filter (fun k => decide (k < 8))).Nodup

/-- Confirmation of a slot can come (R115). -/
def confirmOk (rd : Nat → Word) (n : Nat) : Bool :=
  let hben := bit (rd (0x1000 + 0x200 * n + 4)) 12
  allSlots.all (fun k =>
    let w := rd (0x1000 + 0x200 * n + 0xB8 + 4 * k.val)
    !bit w 31 ||
      (!(decide (bit w 30 = false) && decide (fld w 23 16 ≠ 0) && !hben) &&
        !(decide (fld w 11 0 = 0) && (bit w 30 || decide (fld w 23 16 ≠ 0)))))

/-- Group n of a register view (R22). -/
def chanGroupOk (rd : Nat → Word) (n : Nat) : Bool :=
  let b := 0x1000 + 0x200 * n
  let acfg := rd (b + 4)
  let tv := rd (b + 0x100)
  (List.range 256).all (fun i => decide (rd (opKey n i) = 0#32) || opEntryOk rd n (rd (opKey n i))) &&
    [0, 1, 2, 3].all (fun k => let m := rd (b + 0x28 + 4 * k); !bit m 31 || decide (fld m 19 16 ≤ 9)) &&
    decide (fld acfg 3 0 ≤ 9) && failregOk (rd (b + 0xC)) &&
    (!enabledIn rd n || (decide (2 ≤ fld acfg 11 8) && decide (1 ≤ fld acfg 23 16 ∧ fld acfg 23 16 ≤ 200))) &&
    decide (fld (rd (b + 0xA4)) 3 2 ≠ 3) && hbPageOk rd n && confirmOk rd n &&
    decide (1 ≤ fld tv 15 8 ∧ fld tv 15 8 ≤ fld tv 23 16 ∧ fld tv 23 16 ≤ fld tv 31 24 ∧ fld tv 31 24 ≤ 50)

/-! ## Group 8 + n: stitch and region tables (R99 to R104, R119, R120, R125, R148, R274) -/

/-- Intervals in ascending order cover every page from `pos` to `total` once. -/
def tilesFrom : List (Nat × Nat) → Nat → Nat → Bool
  | [], pos, total => decide (total ≤ pos)
  | (b, len) :: r, pos, total => if total ≤ b then decide (total ≤ pos) else decide (b = pos) && tilesFrom r (b + len) total

def tiles (is : List (Nat × Nat)) (total : Nat) : Bool :=
  tilesFrom (sortBy (fun a b => decide (a.1 ≤ b.1)) is) 0 total

/-- The serving extents of a view for one choice of active copies: bit k of `acts` says that slot k runs copy B (R100). -/
def servingIn (es : List Extent) (acts : Nat) : List (Nat × Nat) :=
  (es.filter (fun e => !e.metaExt && (decide (e.copy = 0 ∨ e.copy = 4) || decide (e.copy = 1 + b2n (acts.testBit e.slot.val))))).map
    (fun e => (e.vbase, e.npages))

/-- The choices of active copies to check: both for an enabled slot, the present one for any other (R101). -/
def actChoices (rd : Nat → Word) (n : Nat) : List Nat :=
  let en := fun (k : SlotId) => bit (rd (0x1000 + 0x200 * n + 0xB8 + 4 * k.val)) 31
  let act := fun (k : SlotId) => bit (rd (0x1000 + 0x200 * n + 0xA8 + 4 * k.val)) 4
  (List.range 16).filter (fun a => allSlots.all (fun k => en k || decide (a.testBit k.val = act k)))

/-- Two extents overlap on one part (R101). -/
def physOverlap (a b : Extent) : Bool := decide (a.part = b.part) && decide (a.pbase < b.pbase + b.npages ∧ b.pbase < a.pbase + a.npages)

/-- No two extents of a list overlap. -/
def noOverlap : List Extent → Bool
  | [] => true
  | e :: r => r.all (fun f => !physOverlap e f) && noOverlap r

/-- The golden areas of a slot, enabled or not, are absent or complete: of the sizes of its A area (R101). -/
def goldenOk (es : List Extent) (k : SlotId) : Bool :=
  decide (copyPages es k 3 = 0 ∧ metaPages es k 3 = 0) ||
    decide (copyPages es k 3 = copyPages es k 1 ∧ metaPages es k 3 = metaPages es k 1)

/-- Copy pairs and staging areas of an enabled slot (R101). -/
def slotAreasOk (rs : List Region) (es : List Extent) (k : SlotId) : Bool :=
  let img := fun c => copyPages es k c
  let met := fun c => metaPages es k c
  let staging := es.filter (fun e => decide (e.copy = 4) && decide (e.slot = k))
  decide (img 1 = img 2 ∧ met 1 = met 2) && decide (img 1 + met 1 ≤ img 4 + met 4) &&
    (staging.isEmpty || rs.any (fun r => r.stage && staging.all (fun e =>
      e.metaExt || decide (r.vbase ≤ e.vbase ∧ e.vbase + e.npages ≤ r.vbase + r.npages))))

/-- The erase unit of a part in pages: the smallest erase its SFDP lists (R456); one page where no part has been identified. -/
def unitPages (p : Part) : Nat := max 1 (p.unit / 4096)

/-- Extents in a region that grants erase start and end on whole erase units (R101). -/
def eraseAligned (parts : Nat → Nat) (r : Region) (e : Extent) : Bool :=
  let u := parts e.part.val
  e.metaExt || !decide (e.vbase < r.vbase + r.npages ∧ r.vbase < e.vbase + e.npages) ||
    !(bit r.perms 2 || bit r.perms 6 || bit r.perms 10) ||
    decide (e.vbase % u = 0 ∧ e.pbase % u = 0 ∧ e.npages % u = 0)

/-- The highest erase unit of a part that no extent maps (R120), of `size / u` units of `u` pages. -/
def topFreeUnit (es : List Extent) (k u size : Nat) : Option Nat :=
  let mine := es.filter (fun e => decide (e.part.val = k))
  let count := size / u
  let free := ((count - 1) :: mine.map (fun e => e.pbase / u - 1)).filter (fun c =>
    decide (c < count) && mine.all (fun e => decide (e.pbase + e.npages ≤ c * u ∨ (c + 1) * u ≤ e.pbase)))
  free.foldl (fun b c => match b with | none => some c | some d => some (max c d)) none

/-- A part leaves one erase unit that no extent maps (R120). -/
def freeUnit (es : List Extent) (k u size : Nat) : Bool := (topFreeUnit es k u size).isSome

/-- The SCLK steps a part may run at, highest first, MHz rounded down (R456): FLASH divided by 2, 3, 4, 5, 6 or 8, not above FMAX. -/
def sclkSteps (mode fmax : Nat) : List Nat :=
  (if mode = 9 then [200, 133, 100] else [200, 133, 100, 80, 66, 50]).filter (fun f => decide (f ≤ fmax ∧ (f = 66 → 66 < fmax)))

/-- The step a commit reckons with: the highest (R148, R456). -/
def sclkStep (mode fmax : Nat) : Nat := (sclkSteps mode fmax).headD 0

/-- An SCLK in units of a third of a MHz: the 133.3 and 66.7 MHz steps exactly. -/
def sclkThirds (f : Nat) : Nat := if f = 133 then 400 else if f = 66 then 200 else 3 * f

/-- The rate of a mode at an SCLK (R148), in units of 1/24 MB/s: data lanes and edges. -/
def rawRate (mode sclk : Nat) : Nat :=
  let t := sclkThirds sclk
  if mode = 9 then 16 * t
  else if mode = 6 ∨ mode = 7 ∨ mode = 8 then 8 * t
  else if mode = 3 ∨ mode = 4 ∨ mode = 5 then 4 * t
  else if mode = 1 ∨ mode = 2 then 2 * t
  else t

/-- VWORST of a part in ns: 4 × (DLAT + 20) + 4,864 bytes ÷ rate + 3,000 (R148); `rate` in units of 1/24 MB/s. -/
def vworstNs (dlat rate : Nat) : Nat := 4 * (dlat + 20) + (if rate = 0 then 0 else 4864 * 1000 * 24 / rate) + 3000

/-- The cycles of the device-side read command of a mode: 23 in 8D-8D-8D and 25 in 1-8-8, of which R148's table has the latency;
open for the others. -/
def readCycles (mode : Nat) : Nat := if mode = 9 then 23 else if mode = 7 then 25 else Config.readCycles mode

/-- R119, R148 and the size rules on DPARTk of a view (R101, R125). -/
def dpartOk (rd : Nat → Word) (n : Nat) (rs : List Region) (es : List Extent) (k u : Nat) : Bool :=
  let w := rd (0x1000 + 0x200 * n + 0xC8 + 4 * k)
  let size := fld w 5 0
  let pages := if size = 0 then 0 else 2 ^ size / 4096
  let mode := fld w 27 24
  let fmax := fld w 23 16
  let sclk := sclkStep mode fmax
  let deferred := rs.any (fun r => decide (r.policy = 1) && es.any (fun e => !e.metaExt && decide (e.part.val = k) &&
    decide (e.vbase < r.vbase + r.npages ∧ r.vbase < e.vbase + e.npages)))
  es.all (fun e => decide (e.part.val ≠ k) || decide (e.pbase + e.npages ≤ pages)) &&
    (decide (size = 0) ||
      (decide (50 ≤ fmax) && decide (mode ≤ 9) && !(decide (mode = 9) && decide (fmax < 100)) && freeUnit es k u pages)) &&
    (!deferred || decide (sclk ≠ 0 ∧ vworstNs (readCycles mode * 3000 / sclkThirds sclk + 10) (rawRate mode sclk) ≤ 40000))

/-- The Vintage counters the enabled slots of a view name, over every channel (R125). -/
def vctrNames (rd : Nat → Word) : List Nat :=
  (List.range 8).flatMap (fun n => allSlots.filterMap (fun k =>
    let w := rd (0x1000 + 0x200 * n + 0xB8 + 4 * k.val)
    if bit w 31 then some (fld w 27 24) else none))

/-- Group 8 + n of a register view (R22). `units` gives each part's erase unit in pages. -/
def layoutGroupOk (rd : Nat → Word) (n : Nat) (units : Nat → Nat) : Bool :=
  let b := 0x1000 + 0x200 * n
  let rs := regionsOf rd n
  let es := extentsOf rd n
  let vsize := fld (rd (b + 0xA0)) 5 0
  let total := 2 ^ vsize / 4096
  (rs.isEmpty ||
    (decide (20 ≤ vsize ∧ vsize ≤ 32) && tiles (rs.map (fun r => (r.vbase, r.npages))) total &&
      (actChoices rd n).all (fun a => tiles (servingIn es a) total))) &&
    allSlots.all (fun k => (!bit (rd (b + 0xB8 + 4 * k.val)) 31 || slotAreasOk rs es k) && goldenOk es k) &&
    noOverlap es && es.all (fun e => decide (e.copy ≤ 4) && !(e.metaExt && decide (e.copy = 0))) &&
    rs.all (fun r => (decide (r.policy = 3) || decide (r.perms &&& 0x666#32 = 0#32)) && (!r.stage || decide (r.policy = 3)) &&
      es.all (fun e => eraseAligned units r e)) &&
    [0, 1].all (fun k => dpartOk rd n rs es k (units k)) &&
    decide (vctrNames rd).Nodup && (vctrNames rd).all (fun v => decide (v ≤ 13)) && hbPageOk rd n && confirmOk rd n

/-! ## The other groups -/

/-- Q_LOG2SIZE, EN, AGGCOUNT and AGGTIME of a queue's CFG (R253). -/
def qEn (c : Word) : Bool := bit c 31

/-- Whether queue q has a descriptor. -/
def qWritten (q : Nat) : Bool := qExists q && !qSub q

/-- Group 16 of a register view against the active copy (R226). -/
def hostqGroupOk (rd old : Nat → Word) : Bool :=
  ((List.range 136).filter qExists).all (fun q =>
    let c := rd (qBase q + 8)
    let o := old (qBase q + 8)
    (!qEn c ||
      (decide (4 ≤ fld c 27 24 ∧ fld c 27 24 ≤ 12) &&
        (!(decide (8 ≤ q) && qSub q) || decide (fld c 5 0 ≤ 32)) &&
        (!qWritten q || !(decide (1 < fld c 14 8) && decide (fld c 7 0 = 0))) &&
        (!qSub q || qEn (rd (qBase (q + 1) + 8))))) &&
    (!(qEn c && qEn o) || (decide (rd (qBase q) = old (qBase q)) && decide (rd (qBase q + 4) = old (qBase q + 4)) &&
      decide (fld c 27 24 = fld o 27 24))))

/-- WD(n + 1) of a register view (R36, R184). -/
def wdGroupOk (rd : Nat → Word) (n : Nat) : Bool :=
  let a := rd (0x680 + 16 * n)
  let w := rd (0x684 + 16 * n)
  let cycles := fld a 23 0 * 2 ^ (10 + fld a 26 24)
  !bit a 31 || (decide (fld a 26 24 ≠ 7) && decide (fld w 23 0 ≤ fld a 23 0) && decide (800000 ≤ cycles ∧ cycles ≤ 48000000000))

/-- The bytes of CNT.SEL0 to SEL15 name counted events (R370, R380). -/
def cntGroupOk (rd : Nat → Word) : Bool :=
  (List.range 16).all (fun i => [0, 1, 2, 3].all (fun j =>
    let b := fld (rd (0x720 + 4 * i)) (8 * j + 7) (8 * j); decide (b < 128) || decide (b - 128 < 48)))

/-- A word of the sequencer program uses no reserved code and sets only the pins and waits only for the inputs it may (R173,
R175); `sub` names the agent whose subprogram holds the word. -/
def seqWordOk (rd : Nat → Word) (w : Word) (sub : Option Nat) : Bool :=
  let role := fun k => fld (rd (0x240 + 4 * k)) 2 0
  let pinAg := fun k => fld (rd (0x240 + 4 * k)) 5 3
  match fld w 31 28 with
  | 0 => true
  | 1 =>
    let p := fld w 27 23
    decide (p < 24) && (match sub with
      | none => decide (role p = 2 ∨ role p = 3)
      | some n => decide (role p = 2 ∧ pinAg p = n))
  | 2 => decide (fld w 22 21 ≤ 1)
  | 3 => true
  | 4 => decide (fld w 27 26 ≤ 2) && (match sub with | none => true | some n => decide (fld w 7 0 = 2 ^ n ∨ fld w 7 0 = 0))
  | 5 => decide (fld w 27 26 ≤ 1) && bit (rd (0x1000 + 0x200 * fld w 2 0 + 4)) 12 &&
      (match sub with | none => true | some n => decide (fld w 2 0 = n))
  | _ => false

/-- The stages of the main program's RELEASE words are at least 1 and never fall (R175). -/
def stagesRise : List Word → Nat → Bool
  | [], _ => true
  | w :: r, lo => if fld w 31 28 = 4 then decide (lo ≤ fld w 25 23) && stagesRise r (fld w 25 23) else stagesRise r lo

/-- SEQENTn of a view. -/
def subEntryIn (rd : Nat → Word) (n : Nat) : Nat := fld (rd (0x2F0 + 4 * (n / 4))) (8 * (n % 4) + 7) (8 * (n % 4))

/-- Group 22 of a register view (R175). -/
def platGroupOk (rd old : Nat → Word) (running : Bool) : Bool :=
  let pins := List.range 24
  let role := fun k => fld (rd (0x240 + 4 * k)) 2 0
  let pinAg := fun k => fld (rd (0x240 + 4 * k)) 5 3
  let with_ := fun r n => pins.filter (fun k => decide (role k = r ∧ pinAg k = n))
  (List.range 8).all (fun n =>
      (!enabledIn rd n || decide ((with_ 1 n).length = 1)) && decide ((with_ 2 n).length ≤ 1) &&
      (!bit (rd (0x300 + 4 * n)) 7 || decide ((with_ 2 n).length = 1 ∧ subEntryIn rd n ≠ 0xFF)) &&
      (decide (subEntryIn rd n = 0xFF) || (match progWords rd 256 (subEntryIn rd n) with
        | some ws => ws.all (fun w => seqWordOk rd w (some n))
        | none => false))) &&
    pins.all (fun k => decide (role k ≤ 5) && !(decide (role k = 1) && !bit (rd (0x240 + 4 * k)) 7 && !bit (rd (0x240 + 4 * k)) 6)) &&
    (match progWords rd 256 (fld (rd 0x2E8) 23 16) with
      | some ws => ws.all (fun w => seqWordOk rd w none) && stagesRise ws 1
      | none => false) &&
    (!running || (List.range 256).all (fun i => decide (rd (seqKey i) = old (seqKey i))))

/-- Group 24 of a register view (R151, R166). -/
def cellarGroupOk (rd : Nat → Word) : Bool :=
  let sealres := fld (rd 0x2214) 15 8
  let sealcap := fld (rd 0x2214) 23 16
  let enabled := ((List.range 8).filter (fun n => enabledIn rd n)).length
  decide (enabled + 2 + sealres ≤ 48) && decide (sealres ≤ sealcap ∧ sealcap ≤ 56) && decide (256 ≤ fld (rd 0x2210) 31 16) &&
    (List.range 8).all (fun n => let c := fld (rd (0x1000 + 0x200 * n + 0x108)) 4 0; decide (1 ≤ c ∧ c ≤ 16))

/-- The class field of tamper source j (R346, R354). -/
def tclassIn (rd : Nat → Word) (j : Nat) : Nat := if j < 10 then fld (rd 0xC0) (3 * j + 2) (3 * j) else fld (rd 0xC4) (3 * (j - 10) + 2) (3 * (j - 10))

/-- Group 30 of a register view (R346, R347): sources 8 and 9 are the meshes. -/
def tamperGroupOk (rd : Nat → Word) (production : Bool) : Bool :=
  let m := rd 0xCC
  (List.range 20).all (fun j => decide (tclassIn rd j ≤ 5)) &&
    (decide (tclassIn rd 8 = 0) || bit m 30) && (decide (tclassIn rd 9 = 0) || bit m 31) &&
    (!production || [10, 11, 12, 13].all (fun j => decide (2 ≤ tclassIn rd j))) &&
    decide (fld m 3 0 ≠ 0) && decide (fld m 7 4 ≠ 0)

/-- Commit validation of a group against the requester's staged view (R17). Groups 17, 23, 27 and 31 have no rule. -/
def State.groupOk (s : State) (g : Nat) (rd : Nat → Word) : Bool :=
  if g < 8 then chanGroupOk rd g
  else if g < 16 then
    layoutGroupOk rd (g - 8) (fun k => unitPages ((s.chs.toList.getD (g - 8) startChan).parts.toList.getD k startPart))
  else
    match g with
    | 16 => hostqGroupOk rd s.cfg
    | 18 => decide (fld (rd 0x504) 23 16 ≠ 0)
    | 19 => (List.range 8).all (fun n => wdGroupOk rd n)
    | 20 => cntGroupOk rd
    | 21 =>
      let c := rd 0x2400
      decide (100 ≤ fld c 15 0 ∧ fld c 15 0 ≤ 60000) && decide (10 ≤ fld c 25 16 ∧ fld c 25 16 ≤ 1000) && decide (1 ≤ fld (rd 0x2404) 27 16)
    | 22 => platGroupOk rd s.cfg s.ctl.prog.isSome
    | 24 => cellarGroupOk rd
    | 25 =>
      let c := rd 0x2610
      decide (10 ≤ fld c 31 24) && decide (100 ≤ fld c 15 0 ∧ fld c 15 0 ≤ 60000)
    | 26 => [0, 1].all (fun a => let c := rd (0x2800 + 0x40 * a); !bit c 31 || decide (6 ≤ fld c 15 0))
    | 28 => let p := fld (rd 0x2C00) 15 0; decide (p = 0) || decide (100 ≤ p ∧ p ≤ 60000)
    | 29 => let c := rd 0x2E0C; decide (fld c 7 0 < fld c 15 8) && decide (fld c 15 8 < 130)
    | 30 => tamperGroupOk rd (decide (s.lifeCode = 2))
    | _ => true

/-! ## GO (R17, R19, R20) -/

/-- The groups of a mask, in ascending order. -/
def groupsOf (mask : Word) : List Nat := bitsOf 32 mask

/-- A requester's view of the registers at its commit: its staged fields in the masked groups, the active copy elsewhere. -/
def State.commitView (s : State) (q : Req) (mask : Word) (key : Nat) : Word :=
  match stagedGet? (s.view q).staged key, groupOf key with
  | some v, some g => if mask.getLsbD g then v else s.cfg key
  | _, _ => s.cfg key

/-- The masked groups that fail validation; a group with nothing staged is not checked (R17, R20). -/
def State.badGroups (s : State) (q : Req) (mask : Word) : Word :=
  let staged := s.stagedMask q
  ((groupsOf mask).filter (fun g => staged.getLsbD g && !s.groupOk g (s.commitView q mask))).foldl
    (fun a g => a ||| word (2 ^ g)) 0#32

/-- A commit ends for its requester with a result (R23). -/
def State.setResult (s : State) (q : Req) (st : Status) (mask failGrp : Word) : State :=
  s.setView q { s.view q with result := st, lastMask := mask, failGrp := failGrp }

/-- The watchdogs whose enabled period is 0 raise EV(832 + 4m + 2) where group 19 is refused (R36, R184). -/
def State.wdZeroPeriod (s : State) (rd : Nat → Word) : State :=
  forCh (fun s n => s.raiseIf (bit (rd (0x680 + 16 * n.val)) 31 && decide (fld (rd (0x680 + 16 * n.val)) 23 0 = 0)) (wdEv n 2) 0) s

/-- A commit begins (R17): its staged fields are checked, and it waits for its safe points. -/
def State.beginCommit (s : State) (q : Req) (mask : Word) : State :=
  let bad := s.badGroups q mask
  if bad = 0#32 then { s with regs := { s.regs with cur := some (q, mask) } }
  else
    let s := if bad.getLsbD 19 then s.wdZeroPeriod (s.commitView q mask) else s
    s.setResult q .invalidField mask bad

/-- A requester's commit is in progress (COMMIT.STATUS.BUSY), or its GO waits in the slot (WAITING). -/
def State.commitBusy (s : State) (q : Req) : Bool := s.regs.cur.any (fun c => decide (c.1 = q))
def State.commitWaiting (s : State) (q : Req) : Bool := s.regs.waiting.any (fun w => decide (w.1 = q))

/-- A write to COMMIT.GO (R19, R20): refused while the requester's own commit is in progress or waits, a NOOP with an empty mask
or a TIMEOUT of 0, begun where no commit is in progress, or placed in the requester's slot. -/
def State.commitGo (s : State) (q : Req) (mask : Word) : State :=
  if s.commitBusy q ∨ s.commitWaiting q then s.setView q { s.view q with refused := true }
  else if mask = 0#32 ∨ fld (s.ownReg q 0x108) 15 0 = 0 then s.setResult q .noop mask 0#32
  else if s.regs.cur = none then s.beginCommit q mask
  else { s with regs := { s.regs with waiting := s.regs.waiting ++ [(q, mask)] } }

end Sys2Proof.Machine
end

