-- ==== Sys2Proof/Machine/Policy.lean ====
section
/-! DEFINITION. Machine/Policy.lean: policy bundles (R270 to R274). -/

namespace Sys2Proof.Machine

/-! ## Owner signatures and tokens (R255, R271, R281) -/

/-- A key identifier: the first 16 bytes of the 48-byte digest of a public key (R255). -/
def keyIdOf (digest : Nat) : Nat := digest / 2 ^ 256

/-- The two signatures of R271: one ECDSA P-384, one ML-DSA-65, ML-DSA-87 or HSS/LMS, each valid and from a listed owner
key. -/
def ownerSigs (owners : List OwnerPub) (sigs : List Sig) : Bool :=
  let by_ := fun (g : Sig) => g.valid && owners.any (fun o => decide (keyIdOf o.digest = g.keyId))
  sigs.any (fun g => by_ g && decide (g.alg = -35)) &&
    sigs.any (fun g => by_ g && decide (g.alg = -65602 ∨ g.alg = -65603 ∨ g.alg = -46))

/-- Every listed owner key's digest stands in the OTP slot it names (R271). -/
def State.ownersInOtp (s : State) (owners : List OwnerPub) : Bool :=
  owners.all (fun o => decide (s.ownerDigest o.slot = some o.digest))

/-- A listed owner slot is revoked (R271). -/
def State.ownersRevoked (s : State) (owners : List OwnerPub) : Bool := owners.any (fun o => s.ownerRevoked o.slot)

/-- The checks of an owner authority token but its ACTION (R281): form, unit, nonce, keys and signatures. -/
def State.tokenStatus (s : State) (t : Token) : Status :=
  if t.wellFormed = false ∨ t.ctype ≠ 5 ∨ t.format ≠ 1 ∨ t.unitid ≠ some s.unitid ∨ s.ident.nonce ≠ some t.nonce ∨
      s.ownersInOtp t.owners = false then .verifyFail
  else if s.ownersRevoked t.owners then .keyRevoked
  else if ownerSigs t.owners t.sigs = false then .verifyFail
  else .ok

/-- The nonce is consumed by any token check (R281). -/
def State.useNonce (s : State) : State := { s with ident := { s.ident with nonce := none } }

/-- The check of a token comes as far as its signatures (R281). -/
def State.tokenSigned (s : State) (t : Token) : Bool :=
  decide (s.tokenStatus { t with sigs := [] } = .verifyFail) && t.wellFormed && decide (t.ctype = 5 ∧ t.format = 1 ∧ t.unitid = some s.unitid) &&
    decide (s.ident.nonce = some t.nonce) && s.ownersInOtp t.owners && !s.ownersRevoked t.owners

/-- A token checked: the nonce consumed, EV520 on a failure (R281, R318). -/
def State.checkToken (s : State) (t : Token) : State × Status :=
  let r := s.withPku (s.tokenSigned t) (fun u => (u, s.tokenStatus t))
  (r.1.useNonce.raiseIf (decide (r.2 ≠ .ok)) 520 0, r.2)

/-! ## Policy bundles (R48, R140, R270 to R274) -/

/-- The bits of a BAR0 offset that an Int write stores, index and data registers of the tables among them (R7, R272). -/
def intMask (off : Nat) : Word :=
  if off % 4 ≠ 0 ∨ 0x10000 ≤ off then 0#32
  else if off = 0x404 then 0xF83F8F00#32
  else if off = 0x2FC then 0xFFFFFFFF#32
  else if off = 0x70C then 0xFFFFFFFF#32
  else if off = 0x710 then 0x8000FFFF#32
  else if 0x1000 ≤ off ∧ off < 0x2000 then
    let o := (off - 0x1000) % 0x200
    if o = 0x3C then tableBits 0x10000
    else if o = 0x44 then tableBits 0x60000
    else if o = 0x84 ∨ o = 0x88 ∨ o = 0x8C then tableBits (0x20000 + (o - 0x84) / 4)
    else if o = 0x94 ∨ o = 0x98 ∨ o = 0x9C then tableBits (0x30000 + (o - 0x94) / 4)
    else rwMask .int off
  else rwMask .int off

/-- Check 11 of R272 on one REGS pair: an Int RW field outside the COMMIT and HOSTQ blocks and WDT.SBSVCm. -/
def regPairOk (p : Nat × Word) : Bool :=
  decide (intMask p.1 ≠ 0#32) && decide (p.2 &&& ~~~(intMask p.1) = 0#32) &&
    !(decide (0x100 ≤ p.1 ∧ p.1 < 0x200)) && !(decide (0x800 ≤ p.1 ∧ p.1 < 0x1000)) &&
    !(decide (0x680 ≤ p.1 ∧ p.1 < 0x700 ∧ p.1 % 16 = 12))

/-- The pinned total of a register view (R140). -/
def pinnedTotal (rd : Nat → Word) : Nat := ((List.range 8).map (fun n => pinnedIn rd n)).sum

/-- The anchor frames of all enabled slots (R132, R140). -/
def anchorTotal (rd : Nat → Word) : Nat :=
  ((List.range 8).map (fun n => (allSlots.map (fun k =>
    if bit (rd (0x1000 + 0x200 * n + 0xB8 + 4 * k.val)) 31 ∧ imagePages (regionsOf rd n) k ≠ 0 then anchorFrames (imagePages (regionsOf rd n) k) else 0)).sum)).sum

/-- R140 of a register view. -/
def State.pinnedFits (s : State) (rd : Nat → Word) : Bool :=
  let t := pinnedTotal rd
  let node := fld (rd 0x2210) 31 16
  let graft := fld (rd 0x2210) 15 8
  let q := ((List.range 8).map (fun n => fld (rd (0x1000 + 0x200 * n + 0x104)) 15 0)).sum
  decide (t ≤ 14336) && decide (t + node + graft + q ≤ 16384) && decide (anchorTotal rd + 32 ≤ node) &&
    (!s.cellar.nofit || decide (t + node ≤ s.inService))

/-- The pinned total fits the frames in service, with the node reserve or R29's 256 node frames (R29, R140, R282). -/
def State.totalFits (s : State) : Bool := decide (pinnedTotal s.cfg + max 256 s.nodeRes ≤ s.inService)

/-- No enabled slot names Vintage counter 14 or 15 (R272, R274). -/
def vctrOk (rd : Nat → Word) (n : Nat) : Bool :=
  allSlots.all (fun k => let w := rd (0x1000 + 0x200 * n + 0xB8 + 4 * k.val); !bit w 31 || decide (fld w 27 24 < 14))

/-- The bundle's staged view: its REGS written in order into an empty Int shadow (R270, R273). -/
def State.stageBundle (s : State) (b : Bundle) : State :=
  b.regs.foldl (fun s p => s.stageWrite .int p.1 p.2)
    { s with regs := { s.regs with int := { s.regs.int with staged := [] } } }

/-- The first of checks 3 to 8 and 11 to 12 of R272 that a bundle fails, with its status; (0, ok) where it passes. -/
def State.bundleForm (s : State) (b : Bundle) : Nat × Status :=
  if b.wellFormed = false ∨ b.ctype ≠ 3 ∨ b.format ≠ 1 then (3, .invalidField)
  else if s.ownersInOtp b.owners = false then (4, .verifyFail)
  else if s.ownersRevoked b.owners then (5, .keyRevoked)
  else if ownerSigs b.owners b.sigs = false then (6, .verifyFail)
  else if (match b.unitid with | some u => decide (u ≠ s.unitid) | none => false) = true ∨ b.lifecycle.testBit s.lifeCode = false then (7, .notPermitted)
  else if ¬(b.vintage ≤ 64 ∧ s.vintage 14 ≤ b.vintage) then (8, .verifyFail)
  else (0, .ok)

def State.bundleRegs (s : State) (b : Bundle) : Nat × Status :=
  if b.regs.all regPairOk = false ∨ 16384 < b.regs.length then (11, .invalidField)
  else
    let t := s.stageBundle b
    let rd := t.stagedView .int
    if s.pinnedFits rd = false ∨ (List.range 8).all (fun n => vctrOk rd n) = false then (12, .invalidField)
    else (0, .ok)

/-- Every check a stored bundle passes at start (R273). -/
def State.bundleValid (s : State) (b : Bundle) : Bool := decide ((s.bundleForm b).1 = 0) && decide ((s.bundleRegs b).1 = 0)

/-- Every slot IDLE and no agent REIMAGING (R272, R285). -/
def State.slotsQuiet (s : State) : Bool :=
  allCh.all (fun n => allSlots.all (fun k => decide (((s.chan n).slot k).upd = .idle)) && decide ((s.chan n).st ≠ .reimaging))

/-- PERMS of the applied bundle (R270); without a bundle nothing is permitted. -/
def State.perm (s : State) (i : Nat) : Bool := match s.bundle with | some b => b.perms.testBit i | none => false

/-- The checks of POLICY_LOAD in order (R272): the failing check and its status. A bundle that the sideband has begun to hand over shares the
staging buffer (R412, R413). -/
def State.policyCheck (s : State) (side : Bool) (b : Bundle) : Nat × Status :=
  let modeOk := decide (s.plat.mode = .hold ∨ s.plat.mode = .verify ∨ s.plat.mode = .guard ∨ s.plat.mode = .recover)
  if modeOk = false ∨ (side = true ∧ s.perm 5 = false) then (1, .notPermitted)
  else if s.ident.polState = 1 ∨ s.ident.polState = 2 ∨ s.slotsQuiet = false ∨ (side = false ∧ s.ident.polHeld ≠ 0) then (2, .busyRetry)
  else if (s.bundleForm b).1 ≠ 0 then s.bundleForm b
  else if (s.bundle.map (fun a => a.digest)) = some b.digest then (9, .noop)
  else if (match s.bundle with | some a => decide (b.version ≤ a.version) | none => false) = true then (10, .verifyFail)
  else s.bundleRegs b

/-- POLICY_LOAD's work on either path (R272, R273): a rejection leaves its check and status in POLSTAT with EV520; an
accepted bundle is being stored in the vault slot that does not hold the applied one. -/
def State.policyLoad (s : State) (side : Bool) (b : Bundle) : State × Status :=
  let c := s.policyCheck side b
  let r := s.withPku (decide (c.1 = 0 ∨ 6 ≤ c.1)) (fun u => (u, .ok))
  if r.2 ≠ .ok then r else
  let s := r.1
  if c.2 = .ok then
    let slot := match s.ident.applied with | some (k, _) => 1 - k | none => if s.ident.slot0.isSome then 1 else 0
    ({ s with ident := { s.ident with storing := some (slot, b), polState := 1, polResult := 0, polReason := 0 } }, .ok)
  else
    (({ s with ident := { s.ident with polResult := c.2.code, polReason := c.1 } } : State).raise 520 0, c.2)

/-- POLICY_LOAD (R239, R272). -/
def execPolicyLoad (cid len : Nat) (b : Bundle) (s : State) : Host.Outcome State Fault Refusal :=
  .next (s.admin cid 0x20 (fun s =>
    if len = 0 then (s, reply .noop)
    else if 262140 < len then (s, badField 24)
    else
      let r := s.policyLoad false b
      (r.1, { reply r.2 with detail := if r.2 = .invalidField then 16 else 0 })))

/-- A vault policy slot written. -/
def State.setPolSlot (s : State) (k : Nat) (p : Option PolSlot) : State :=
  { s with ident := { s.ident with slot0 := if k = 0 then p else s.ident.slot0, slot1 := if k = 0 then s.ident.slot1 else p } }

/-- POLICY_STORE_DURABLE (R272, R273): the stored bundle is durable, EV518, and its application begins. -/
def execPolicyStoreDurable (s : State) : Host.Outcome State Fault Refusal :=
  .next (match s.vaultUp, s.ident.polState, s.ident.storing with
    | true, 1, some (k, b) =>
      let s := s.vaultDone.setPolSlot k (some { bundle := b, valid := true })
      ({ s with ident := { s.ident with polState := 2 } } : State).raise 518 (polArg k)
    | _, _, _ => s)

/-- The bundle a start applies (R48, R273): of the stored slots that pass, the one with the higher VERSION. -/
def State.bootBundle (s : State) : Option (Nat × Bundle) :=
  let ok := fun (p : Option PolSlot) => match p with | some q => q.valid && s.bundleValid q.bundle | none => false
  match s.ident.slot0, s.ident.slot1 with
  | some a, some b =>
    if ok (some a) = true ∧ (ok (some b) = false ∨ b.bundle.version ≤ a.bundle.version) then some (0, a.bundle)
    else if ok (some b) then some (1, b.bundle) else none
  | some a, none => if ok (some a) then some (0, a.bundle) else none
  | none, some b => if ok (some b) then some (1, b.bundle) else none
  | none, none => none

/-- The GO of a policy ended (R273): OK applies the bundle, EV519; INVALID_FIELD marks its slot invalid, EV520 with REASON 13;
BUSY_RETRY leaves it to be repeated. -/
def State.policyOutcome (s : State) (st : Status) (failGrp : Word) : State :=
  match s.ident.polState, s.ident.storing with
  | 2, some (k, b) =>
    match st with
    | .ok =>
      let s := if b.fwesc = s.ident.fwesc then s else s.writeHeader
      let s : State := { s with
        ident := { s.ident with
          applied := some (k, b), storing := none, polState := 3, polResult := 0
          polReason := 0, polBurn := decide (s.vintage 14 < b.vintage), fwesc := b.fwesc }
        plat := { s.plat with awaitPolicy := false, boot := { s.plat.boot with policy := true } }
        ctl := { s.ctl with driven := true } }
      let s := (s.raise 519 (polArg k)).platChange
      let s := (forCh (fun s n => s.tryDecant n) s).judgeLoss
      if s.plat.mode = .recover ∧ s.plat.cause = 0xA ∧ s.totalFits = true then s.platformRestored else s
    | .invalidField =>
      let slot := if k = 0 then s.ident.slot0 else s.ident.slot1
      let s := s.setPolSlot k (slot.map (fun p => { p with valid := false }))
      ({ s with ident := { s.ident with
          storing := none, polState := if s.ident.applied.isSome then 3 else 0
          polResult := 3, polReason := 13, polFail := failGrp } } : State).raise 520 (polArg k)
    | _ => s
  | _, _ => s

/-- The application of the bundle in hand: REGS staged, group 31 staged, one Int GO with a TIMEOUT of 65,535 µs (R273). While
another Int commit is in progress it waits (R19). A GO that fails its checks at once ends there. -/
def State.policyGo (s : State) (b : Bundle) : State :=
  if s.commitBusy .int ∨ s.commitWaiting .int then s
  else
    let s := (s.stageBundle b).setOwn .int 0x108 0xFFFF#32
    let s := s.commitGo .int (s.stagedMask .int ||| 0x80000000#32)
    if s.commitBusy .int ∨ s.commitWaiting .int then s else s.policyOutcome s.regs.int.result s.regs.int.failGrp

/-- POLICY_APPLY (R45, R48, R273): a durable bundle is staged and its GO issued; at start, the newer stored bundle that
passes; with none stored HOLD waits (AWAITPOLICY), with all rejected RECOVER is entered with CAUSE 0x07. -/
def execPolicyApply (s : State) : Host.Outcome State Fault Refusal :=
  .next (if s.powered = false ∨ s.regs.cur.any (fun c => decide (c.1 = .int ∧ bit c.2 31 = true)) = true then s
  else
    match s.ident.polState, s.ident.storing with
    | 2, some (_, b) => s.policyGo b
    | _, _ =>
      if s.plat.mode = .hold ∧ s.plat.boot.firmware ∧ s.plat.boot.policy = false ∧ s.ident.applied = none then
        match s.bootBundle with
        | some (k, b) =>
          ({ s with ident := { s.ident with polState := 2, storing := some (k, b) } } : State).policyGo b
        | none =>
          if s.ident.slot0 = none ∧ s.ident.slot1 = none then { s with plat := { s.plat with awaitPolicy := true } }
          else ({ s with ident := { s.ident with polResult := 7 } } : State).enterRecover 7
      else s)

/-- POLICY_APPLY_RETRY (R273): a policy GO that ended BUSY_RETRY is repeated; `expired` where 120 s have passed, and the
bundle is rejected with REASON 14. -/
def execPolicyApplyRetry (expired : Bool) (s : State) : Host.Outcome State Fault Refusal :=
  .next (match s.powered, s.ident.polState, s.ident.storing with
    | true, 2, some (k, b) =>
      if s.regs.cur.any (fun c => decide (c.1 = .int)) = true ∨ s.regs.waiting.any (fun c => decide (c.1 = .int)) = true then s
      else if expired then
        ({ s with ident := { s.ident with storing := none, polState := if s.ident.applied.isSome then 3 else 0, polResult := 5, polReason := 14 } } : State).raise 520 (polArg k)
      else s.policyGo b
    | _, _, _ => s)

/-- The intent record of a burn of counter 14 or 15 up to `v`, opened before its first step and updated after each (R116, R127). -/
def State.noteBurn (s : State) (ctr v : Nat) : State :=
  let left := v - s.vintage ctr
  let n := match (liveIntents s.vault.intents).find? (fun i => decide (i.kind = 3 ∧ i.chan = 8 ∧ i.arg = v)) with
    | some i => i.nsteps | none => left
  s.intent 3 8 0 (if left = 0 then 1 else 0) (n - left) n 0 0 v

/-- One step of a burn of counter 14 or 15 (R274, R288): EV521. -/
def State.burnStep (s : State) (ctr v : Nat) : State :=
  let open_ := (liveIntents s.vault.intents).any (fun i => decide (i.kind = 3 ∧ i.chan = 8 ∧ i.arg = v))
  let s := if open_ then s else s.noteBurn ctr v
  ((s.burnVintage ctr).noteBurn ctr v).raise 521 0

/-- POLICY_VINTAGE_BURN (R274): after CONFIRM seconds applied in VERIFY or GUARD, one step of counter 14; `ok` false where the
bit fails (R326). -/
def execPolicyVintageBurn (ok : Bool) (s : State) : Host.Outcome State Fault Refusal :=
  .next (match s.powered, s.bundle with
    | true, some b =>
      if s.ident.polBurn = false ∨ (s.plat.mode ≠ .verify ∧ s.plat.mode ≠ .guard) then s
      else if b.vintage ≤ s.vintage 14 then { s with ident := { s.ident with polBurn := false } }
      else if ok then
        let s := s.burnStep 14 b.vintage
        { s with ident := { s.ident with polBurn := decide (s.vintage 14 < b.vintage) } }
      else s.otpFail
    | _, _ => s)

/-- A slot's SLOTKEYS entry in the applied bundle (R133, R270): its requirement and its keys' identifiers. -/
def State.slotKeyEntry (s : State) (n : Ch) (k : SlotId) : Option SlotKey :=
  s.bundle.bind (fun b => b.slotkeys.find? (fun e => decide (e.channel = n.val ∧ e.slot = k.val)))

def State.slotSigRule (s : State) (n : Ch) (k : SlotId) : SigRule :=
  match s.slotKeyEntry n k with | some e => e.rule | none => .classical

def State.slotKeyIds (s : State) (n : Ch) (k : SlotId) : List Nat :=
  match s.slotKeyEntry n k, s.bundle with
  | some e, some b => e.keys.filterMap (fun i => b.mkeys[i]?)
  | _, _ => []

end Sys2Proof.Machine
end

