-- ==== Sys2Proof/Machine/Trellis.lean ====
section
/-! DEFINITION. Machine/Trellis.lean: Decanting, verdicts, Racking and Graft (chapter 05). -/

namespace Sys2Proof.Machine

/-! ## Manifest acceptance (R133 to R135) -/

/-- The class of a COSE algorithm: classical, post-quantum, or not accepted (R133). -/
inductive AlgClass where
  | classical | postQuantum | refused
deriving DecidableEq, Repr

def algClass (a : Int) : AlgClass :=
  if a = -7 ∨ a = -35 then .classical
  else if a = -46 ∨ a = -65601 ∨ a = -65602 ∨ a = -65603 ∨ a = -65610 then .postQuantum
  else .refused

/-- The signatures of a class that count: valid, by a named key (R133). -/
def sigOf (cls : AlgClass) (keys : List Nat) (sigs : List Sig) : Bool :=
  sigs.any (fun g => g.valid && decide (algClass g.alg = cls) && keys.contains g.keyId)

/-- A signature requirement met by the signatures of the named keys (R133). -/
def sigsMeet (rule : SigRule) (keys : List Nat) (sigs : List Sig) : Bool :=
  match rule with
  | .classical => sigOf .classical keys sigs
  | .postQuantum => sigOf .postQuantum keys sigs
  | .hybrid => sigOf .classical keys sigs && sigOf .postQuantum keys sigs

/-- Check 1 of R135. -/
def manForm (m : Manifest) : Bool :=
  decide (1 ≤ m.len ∧ m.len ≤ 65532) && m.wellFormed && decide (m.ctype = 2 ∧ m.format = 1 ∧ m.hash = -43)

/-- REGIONS tile image pages 0 to N − 1 in ascending FIRST order (check 5 of R135). -/
def regionsTile : List MRegion → Nat → Nat → Bool
  | [], at_, n => decide (at_ = n)
  | r :: rest, at_, n => decide (r.first = at_) && regionsTile rest (at_ + r.count) n

/-- Check 5 of R135: the tiling, the region table's entries each naming one REGIONS entry in order, SEALKEY exactly where a
SEALED entry is. -/
def manRegions (rs : List Region) (k : SlotId) (m : Manifest) : Bool :=
  regionsTile m.regions 0 m.npages &&
  decide ((imageRegions rs k).map (fun r => (r.mregion, r.npages, r.policy)) =
    m.regions.map (fun e => (e.mregion, e.count, e.policy))) &&
  decide (m.sealkey.isSome = m.regions.any (fun e => decide (e.policy = 2)))

/-- Metadata pages that a copy has room for; the staging window's follow its image pages, a golden image's its manifest offset (R98,
R126). -/
def State.metaRoom (s : State) (n : Ch) (k : SlotId) (copy : Nat) : Nat :=
  if copy = 8 then (match s.goldenOf n k with | some g => (g.off + g.len - g.manOff) / 4096 | none => 0)
  else if copy = 4 then stagingMeta (s.regions n) (s.extents n) k else metaPages (s.extents n) k copy

/-- The first check of R135 a manifest of channel n and slot k fails, 1 to 6; 0 where it passes all. -/
def State.manCheck (s : State) (n : Ch) (k : SlotId) (copy : Nat) (m : Manifest) : Nat :=
  let rs := s.regions n
  if manForm m = false then 1
  else if sigsMeet (s.slotSigRule n k) (s.slotKeyIds n k) m.sigs = false then 2
  else if ¬(m.channel = n.val ∧ m.slot = k.val) then 3
  else if ¬(m.npages = imagePages rs k ∧ 1 ≤ m.npages ∧ m.nmeta ≤ s.metaRoom n k copy ∧ m.height = trellisHeight m.npages) then 4
  else if manRegions rs k m = false then 5
  else if ¬(m.vintage ≤ 64 ∧ s.vintage (fld (s.cfg (fch n (0xB8 + 4 * k.val))) 27 24) ≤ m.vintage) then 6
  else 0

/-- The event a failed check raises: 33 for 1 and 2, 34 for 3 to 5, 35 for 6, 36 for 7 (R135). -/
def manEvent (c : Nat) : Nat := if c ≤ 2 then 33 else if c ≤ 5 then 34 else if c = 6 then 35 else 36

/-- The manifest kept as the copy's last verified one. -/
def Slot.setMan (k : Slot) (copy : Nat) (m : Option Manifest) : Slot :=
  if copy = 1 then { k with manA := m } else if copy = 2 then { k with manB := m } else { k with manG := m }

def Slot.man (k : Slot) (copy : Nat) : Option Manifest :=
  if copy = 1 then k.manA else if copy = 2 then k.manB else k.manG

/-! ## Decanting (R136 to R141) -/

/-- Frames of a slot's anchors, held in the node reserve while the copy is active (R132). -/
def State.loadAnchors (s : State) (n : Ch) (k : SlotId) (copy npages : Nat) : State :=
  (List.range (anchorFrames npages)).foldl (fun s i =>
    s.admitNode { no := 0, st := .resident, node := true, ch := n.val, slot := k.val, copy := copy,
                  index := trellisNodes npages - anchorNodes npages + 10 * i, anchor := true, graft := false, ref := true }) s

/-- The frame of a fetched node (R132, R142): an anchor goes to the frame of its ten, held as an anchor while the copy is active;
any other node to a frame of its own. DESIGN CHOICE: INDEX is the first node of a frame, and R142 does not say how many nodes a frame
that holds no anchors has (log entry 64). -/
def State.nodeFrame (s : State) (n : Ch) (p : PageId) (copy : Nat) : Frame :=
  let np := imagePages (s.regions n) p.slot
  let first := trellisNodes np - anchorNodes np
  let anchor := decide (first ≤ p.page)
  { no := 0, st := .resident, node := true, ch := n.val, slot := p.slot.val, copy := copy,
    index := if anchor then first + 10 * ((p.page - first) / 10) else p.page, anchor := anchor, graft := false, ref := true }

/-- A frame holds the same nodes as another. -/
def Frame.sameNodes (g f : Frame) : Bool := g.node && decide (g.ch = f.ch ∧ g.slot = f.slot ∧ g.copy = f.copy ∧ g.index = f.index)

/-- A verified node is in the node reserve. -/
def State.nodeHeld (s : State) (n : Ch) (p : PageId) (copy : Nat) : Bool := s.cellar.frames.any (fun g => g.sameNodes (s.nodeFrame n p copy))

/-- A verified node enters the node reserve; where its frame holds it already, the frame counts as referenced (R144). -/
def State.keepNode (s : State) (n : Ch) (p : PageId) (copy : Nat) : State :=
  let f := s.nodeFrame n p copy
  if s.nodeHeld n p copy then
    { s with cellar := { s.cellar with frames := s.cellar.frames.map (fun g => if g.sameNodes f then { g with ref := true } else g) } }
  else s.admitNode f

/-- The anchors of a copy, verified from the root down, are in the node reserve (R132, R136, R153). -/
def State.withAnchors (s : State) (n : Ch) (k : SlotId) (copy : Nat) : State :=
  if s.nodeHeld n ⟨k, trellisNodes (imagePages (s.regions n) k) - 1⟩ copy then s else s.loadAnchors n k copy (imagePages (s.regions n) k)

/-- The parent of node g from the level sizes, `base` the number of the level's first node; none for the root (R129, R131). -/
def nodeParent : List Nat → Nat → Nat → Option Nat
  | [], _, _ => none
  | [_], _, _ => none
  | l :: r, base, g => if g < base + l then some (base + l + (g - base) / 8) else nodeParent r (base + l) g

/-- The nodes between a page and the anchors, the level-2 node first (R132, R146). -/
def State.pathNodes (s : State) (n : Ch) (p : PageId) : List Nat :=
  let np := imagePages (s.regions n) p.slot
  [parents np + p.page / 64, p.page / 8].filter (fun g => decide (g < trellisNodes np - anchorNodes np))

/-- What a page needs before it can be verified (R11, R137): its level-1 node is held, and no node on its path, nor the page itself, is
a confirmed failure with nothing in its place. -/
def State.pathClear (s : State) (n : Ch) (p : PageId) (copy : Nat) : Bool :=
  s.nodeHeld n ⟨p.slot, p.page / 8⟩ copy && !(s.chan n).bad.contains p &&
    !(s.chan n).grafts.any (fun g => g.node && decide (g.copy = copy ∧ g.pg.slot = p.slot) && (s.failing n g.pg true).contains p.page)

/-- What a node needs before it can be verified: its parent is held, or it is the root, whose digest the manifest holds (R132, R137). -/
def State.parentHeld (s : State) (n : Ch) (p : PageId) (copy : Nat) : Bool :=
  match nodeParent (levels (imagePages (s.regions n) p.slot)) 0 p.page with
  | some g => s.nodeHeld n ⟨p.slot, g⟩ copy
  | none => decide (p.page + 1 = trellisNodes (imagePages (s.regions n) p.slot))

/-- The Cask a slot's manifest names for its SEALED pages (R139). -/
def State.xtsCask (s : State) (n : Ch) (k : SlotId) (copy : Nat) : Option Nat :=
  ((((s.chan n).slot k).man copy).bind (fun m => m.sealkey)).bind (fun l => s.caskByLabel l)

/-- That Cask is in use, its ancestry holds and it carries the XTS right (R303, R307). -/
def State.xtsReady (s : State) (n : Ch) (k : SlotId) (copy : Nat) : Bool :=
  match s.xtsCask n k copy with
  | some i => s.ancestry 8 i && (s.cask i).may 9
  | none => false

/-- A use of a Cask that lacks the right is refused with EV580 (R303). -/
def State.xtsRefused (s : State) (n : Ch) (k : SlotId) (copy : Nat) : State :=
  match s.xtsCask n k copy with
  | some i => s.raiseIf (!(s.cask i).may 9) 580 i
  | none => s

/-- The Graft in progress on a page or node of a copy. -/
def State.graftOf (s : State) (n : Ch) (p : PageId) (copy : Nat) (node : Bool) : Option Graft :=
  (s.chan n).grafts.find? (fun g => decide (g.pg = p ∧ g.copy = copy ∧ g.node = node))

/-- The Graft in progress on a page. -/
def State.graftFor (s : State) (n : Ch) (p : PageId) (copy : Nat) : Option Graft := s.graftOf n p copy false

/-- The place of an item in a list of ranges taken in turn. -/
def rangeRank : List (Nat × Nat) → Nat → Option Nat
  | [], _ => none
  | (a, c) :: r, x => if a ≤ x ∧ x < a + c then some (x - a) else (rangeRank r x).map (fun k => c + k)

/-- The PREFETCH ranges of the active copies of the enabled slots, by slot (R134, R137). -/
def State.prefetchOf (s : State) (n : Ch) (k : SlotId) : List (Nat × Nat) :=
  if s.slotEnabled n k then (match ((s.chan n).slot k).man (s.actCopy n k) with | some m => m.prefetch | none => []) else []

/-- How many pages the PREFETCH ranges of the slots before one name, and the place of its page among them all (R137). -/
def State.prefRank (s : State) (n : Ch) (p : PageId) : Option Nat :=
  let before := ((allSlots.filter (fun k => decide (k < p.slot))).map (fun k => ((s.prefetchOf n k).map (fun r => r.2)).sum)).sum
  (rangeRank (s.prefetchOf n p.slot) p.page).map (fun r => before + r)

/-- How many pages of the pinned set come before a page: those of the enabled slots below, and of its own slot the pinned pages of a
lower index (R137). -/
def State.pinRank (s : State) (n : Ch) (p : PageId) : Nat :=
  let rs := s.regions n
  let below := ((allSlots.filter (fun k => decide (k < p.slot) && s.slotEnabled n k)).map (pinnedOf rs)).sum
  below + ((imageRegions rs p.slot).foldl (fun (a : Nat × Nat) r =>
    (a.1 + r.npages, a.2 + (if r.policy = 0 ∨ r.policy = 2 then min r.npages (p.page - a.1) else 0))) (0, 0)).2

/-- Resident data frames of a channel that are not held under Graft (R137). -/
def State.prefetchFull (s : State) (n : Ch) : Bool := decide (s.qmin n.val + 1024 ≤ s.evictableCount n.val)

/-- The Press job of a page or node that Decanting fetches: class 1 for a DECANTING agent, else 4 (R137, R138, R151). -/
def State.decantJob (s : State) (n : Ch) (p : PageId) (node prefetch : Bool) : Job :=
  { cls := if (s.chan n).st = .decanting ∧ prefetch = false then 1 else 4, ch := some n.val, tag := nodeTag p node, engine := 8, decant := true }

/-- A SEALED page goes through an AES lane under its slot's Cask: the tweak is the image page index as 16 bytes, least significant
first (R130, R139). -/
def State.xtsPage (s : State) (n : Ch) (p : PageId) (copy : Nat) (decrypt : Bool) : State :=
  match s.policyOfPage n p, s.xtsCask n p.slot copy with
  | 2, some i => s.emit (.xts i (leBytes 16 p.page) decrypt)
  | _, _ => s

/-- A node that Decanting fetches (R136, R137): verified against its parent, it is kept; a mismatch is EV(64n + 36) and a confirmed
failure. -/
def State.decantNode (s : State) (n : Ch) (p : PageId) (ok : Bool) : State :=
  let act := s.actCopy n p.slot
  if s.parentHeld n p act = false then s
  else if ok then s.keepNode n p act
  else (s.raiseCh n 36 (chArg p.page 0 act p.slot.val)).confirmedFailure n p act 0 true

/-- A page of the pinned set that Decanting fetches in its turn, or again (R137, R139). -/
def State.decantPinned (s : State) (n : Ch) (p : PageId) (ok keyOk : Bool) : State :=
  let act := s.actCopy n p.slot
  let s := s.updChan n (fun c => { c with decAt := if s.pinRank n p = c.decAt then c.decAt + 1 else c.decAt })
  if (s.frameOf n p).isSome ∨ (s.graftFor n p act).isSome then s
  else if ok = false then (s.raiseCh n 37 (chArg p.page 0 act p.slot.val)).confirmedFailure n p act 0 false
  else if s.policyOfPage n p = 2 ∧ (keyOk = false ∨ s.xtsReady n p.slot act = false) then s.xtsRefused n p.slot act
  else (((s.admitData n true (dataFrame .pinned n act p false)).1.xtsPage n p act true).cnt n 37 1).noteSet n

/-- A page of a PREFETCH range in its turn (R137, R458): PREFETCH of the channel ends where its frames are enough or none can be
admitted. -/
def State.decantPrefetch (s : State) (n : Ch) (p : PageId) (ok : Bool) : State :=
  let act := s.actCopy n p.slot
  let stop := fun (s : State) => s.updChan n (fun c => { c with prefEnd := true })
  if s.prefetchFull n then stop s
  else
    let s := s.updChan n (fun c => { c with prefAt := c.prefAt + 1 })
    if (s.frameOf n p).isSome ∨ s.policyOfPage n p ≠ 1 ∨ (s.graftFor n p act).isSome then s
    else if ok = false then s.confirmedFailure n p act 0 false
    else
      let r := s.admitData n false (dataFrame .resident n act p false)
      if r.2 then r.1.cnt n 37 1 else stop s

/-- A page that Decanting may fetch now (R137): of the pinned set in its order or behind it, of a PREFETCH range in its order after the
whole pinned set has been fetched. -/
def State.decantTurn (s : State) (n : Ch) (p : PageId) : Bool :=
  let c := s.chan n
  let pol := s.policyOfPage n p
  if pol = 0 ∨ pol = 2 then decide (s.pinRank n p ≤ c.decAt)
  else !c.prefEnd && decide (s.pinnedSet n ≤ c.decAt) && decide (s.prefRank n p = some c.prefAt)

/-- DECANT_PAGE (R11, R130, R137 to R139, R143): a fetched page of the active copy, `ok` where its digest equals its verified leaf
entry; `keyOk` false where the XTS Cask's use aborts. A `node` is the Trellis node of that number. Its Press job takes and returns a
credit; where it must wait for one, the page is taken once it has it. -/
def execDecantPage (n : Ch) (p : PageId) (node ok keyOk : Bool) (s : State) : Host.Outcome State Fault Refusal :=
  .next (
    let c := s.chan n
    let pol := s.policyOfPage n p
    let pinned := decide (pol = 0 ∨ pol = 2)
    if s.powered = false ∨ s.portHeld n = true ∨ (c.st ≠ .decanting ∧ c.st ≠ .released) ∨ s.slotEnabled n p.slot = false then s
    else if node = false ∧ (s.decantTurn n p = false ∨ s.pathClear n p (s.actCopy n p.slot) = false) then s
    else
      let r := s.pressRun (s.decantJob n p node (!pinned && !node))
      if r.2 = false then r.1
      else if node then r.1.decantNode n p ok
      else if pinned then r.1.decantPinned n p ok keyOk
      else r.1.decantPrefetch n p ok)

/-! ## Verdicts (R89, R90, R147) -/

/-- The pending verdict of a page that is not LATE. -/
def State.liveVerdict (s : State) (n : Ch) (p : PageId) : Option Pend :=
  (s.chan n).verdicts.find? (fun d => decide (d.pg = p) && !d.late)

/-- The verdict of a page leaves the pending list and its job returns its credit. -/
def State.dropVerdict (s : State) (n : Ch) (p : PageId) : State :=
  (s.updChan n (fun c => { c with verdicts := c.verdicts.filter (fun d => !decide (d.pg = p)) })).pressEnd
    (fun j => decide (j.cls = 1 ∧ j.ch = some n.val ∧ j.tag = verdictTag p))

/-- The In-flight frame of a page. -/
def Frame.inflightOf (f : Frame) (n : Ch) (p : PageId) : Bool :=
  !f.node && decide (f.ch = n.val ∧ f.slot = p.slot.val ∧ f.index = p.page ∧ f.st = .inflight)

/-- A PASS verdict (R147): the frame becomes Resident, VPASS counts. -/
def State.passVerdict (s : State) (n : Ch) (d : Pend) : State :=
  let s := (s.dropVerdict n d.pg).noteVmax n (s.verdictNs d)
  let s : State := { s with cellar := { s.cellar with frames := s.cellar.frames.map (fun f =>
    if f.inflightOf n d.pg then { f with st := .resident, ref := true } else f) } }
  ((s.updChan n (fun c => { c with vpass := wrap32 (c.vpass + 1) })).cnt n 30 1).cnt n 33 (s.verdictCycles d)

/-- What a page's verification that ends in a mismatch starts (R147, R158, R159): Graft on the page, or on the node that does not match;
a page served from a redirect goes to its next candidate. -/
def State.verdictFailure (s : State) (n : Ch) (d : Pend) (found : Found) : State :=
  match (s.chan n).grafts.find? (fun g => decide (g.pg = d.pg) && g.served && !g.node && decide (g.copy ≠ d.copy)), found with
  | some g, _ => (s.candFails n g d.copy).tendRedirects n
  | none, .node g => (s.raiseCh n 36 (chArg g 0 d.copy d.pg.slot.val)).confirmedFailure n ⟨d.pg.slot, g⟩ d.copy 1 true
  | none, _ => s.confirmedFailure n d.pg d.copy 1 false

/-- A FAIL verdict (R147): the frame freed, VFAIL, EV(64n + 40), R90, and Graft on the page. -/
def State.failVerdict (s : State) (n : Ch) (d : Pend) (found : Found) : State :=
  let s := ((s.dropVerdict n d.pg).noteVmax n (s.verdictNs d)).freeFrames (fun f => f.inflightOf n d.pg)
  let s := s.updChan n (fun c => { c with vfail := wrap32 (c.vfail + 1), autorel := some (d.pg, false, false) })
  ((((s.cnt n 33 (s.verdictCycles d)).cnt n 31 1).raiseCh n 40 (chArg d.pg.page 0 d.copy d.pg.slot.val)).failedVerdict n 1).verdictFailure n d found

/-- The nodes that a verdict's verification fetched and found good enter node frames (R143, R146): on a PASS the page's level-2 and
level-1 nodes, and the anchors above them where they were not held. -/
def State.keepPath (s : State) (n : Ch) (d : Pend) : State :=
  if d.copy = s.actCopy n d.pg.slot then
    (s.pathNodes n d.pg).foldl (fun s g => s.keepNode n ⟨d.pg.slot, g⟩ d.copy) (s.withAnchors n d.pg.slot d.copy)
  else s

/-- DEFERRED_VERDICT (R146, R147): verification of a page ends before its deadline. Its Press job holds a verdict credit: where it still
waits for one, no result is reached. -/
def execDeferredVerdict (n : Ch) (p : PageId) (found : Found) (s : State) : Host.Outcome State Fault Refusal :=
  .next (match s.powered, s.liveVerdict n p with
    | true, some d =>
      let r := s.pressRun (verdictJob n p)
      if r.2 = false then r.1
      else if found = .pass then (r.1.keepPath n d).passVerdict n d
      else r.1.failVerdict n d found
    | _, _ => s)

/-- VERDICT_LATE (R147): the deadline cycle passes with no result. -/
def execVerdictLate (n : Ch) (p : PageId) (s : State) : Host.Outcome State Fault Refusal :=
  .next (match s.powered, s.liveVerdict n p with
    | true, some d => s.lateVerdict n d
    | _, _ => s)

/-- The page of a standing quarantine has passed or been substituted (R162). -/
def Chan.autorelPass (c : Chan) (p : PageId) : Chan :=
  match c.autorel with
  | some (q, _, racked) => if q = p then { c with autorel := some (q, true, racked) } else c
  | none => c

/-- LATE_RESULT (R147): the result a LATE verdict's verification reaches: a mismatch is a confirmed failure, a pass admits
nothing and counts as the page having passed for R162. -/
def execLateResult (n : Ch) (p : PageId) (found : Found) (s : State) : Host.Outcome State Fault Refusal :=
  .next (match s.powered, (s.chan n).verdicts.find? (fun d => decide (d.pg = p) && d.late) with
    | true, some d =>
      let r := s.pressRun (verdictJob n p)
      if r.2 = false then r.1
      else if found = .pass then (r.1.dropVerdict n p).updChan n (fun c => c.autorelPass p)
      else (r.1.dropVerdict n p).verdictFailure n d found
    | _, _ => s)

/-! ## Press credits (R150 to R152) -/

/-- PRESS_CREDIT_GRANT (R151): a free credit goes to the highest-priority waiting job, which starts on the engine of R150. -/
def execPressCreditGrant (s : State) : Host.Outcome State Fault Refusal :=
  .next (match s.powered, s.nextJob, s.pickEngine with
    | true, some j, some e => s.grantJob j e
    | _, _, _ => s)

/-! ## Racking and Harvest (R153 to R157) -/

/-- The share of the next 1 ms window, from the agent-caused busy share `u`, in percent, of the window before (R155, R396). -/
def State.rackShare (s : State) (t : Word) (u : Nat) (pressBusy : Bool) : Nat :=
  if 60 < u ∨ pressBusy ∨ s.hot then fld t 15 8 else if u < 10 then fld t 31 24 else fld t 23 16

/-- RACKING_SHARE_WINDOW (R153, R155): the share of the next 1 ms window, from the agent-caused busy share `u` (in percent) of the
window before and whether the Press pool was more than 90 % busy. The vault's cursor uses the default shares, its `u` the vault's own
traffic: no register sets others for it. -/
def execRackingShareWindow (port : PortId) (u : Nat) (pressBusy : Bool) (s : State) : Host.Outcome State Fault Refusal :=
  .next (if s.powered = false then s
  else if h : port.val < 8 then
    let n : Ch := ⟨port.val, h⟩
    s.updChan n (fun c => { c with cur := { c.cur with share := s.rackShare (s.cfg (fch n 0x100)) u pressBusy } })
  else { s with vault := { s.vault with cur := { s.vault.cur with share := s.rackShare (regReset 0x1100) u pressBusy } } })

/-- The erase unit that holds a place of a copy (R456): its byte address. -/
def State.unitBase (s : State) (n : Ch) (copy : Nat) (x : PartId × Nat) : Nat :=
  let u := max 4096 (s.partOf n copy x.1).unit
  4096 * x.2 / u * u

/-- An erase unit of a copy has an open intent record, or a staging copy, a recovery, a sector refresh or a repair is writing it (R154). -/
def State.unitOpen (s : State) (n : Ch) (k : SlotId) (copy : Nat) (x : PartId × Nat) : Bool :=
  let u := s.unitBase n copy x
  (s.chan n).repairs.any (fun r => decide (1 ≤ r.step ∧ (r.copy = 8) = (copy = 8) ∧ r.part = x.1 ∧ r.unit = u)) ||
    (decide (copy ≠ 8) && (match ((s.chan n).prt x.1).refresh with | some (_, i, _) => decide (i * ((s.chan n).prt x.1).unit = u) | none => false)) ||
    (liveIntents s.vault.intents).any (fun i => decide (i.chan = n.val) &&
      (decide (i.slot = k.val ∧ ((i.kind = 1 ∧ copy = s.inactCopy n k) ∨ (i.kind = 7 ∧ copy = s.actCopy n k))) ||
       (decide (i.kind = 4 ∨ i.kind = 5) && decide (i.dst % 16 = x.1.val + (if copy = 8 then 2 else 0) ∧ s.unitBase n copy (x.1, i.dst / 4096) = u))))

/-- An image page, or a metadata page, of a copy is skipped by Racking in this cycle (R154). -/
def State.rackSkips (s : State) (n : Ch) (k : SlotId) (copy : Nat) (metaPg : Bool) (i : Nat) : Bool :=
  match s.pagePlace n copy k metaPg i with
  | some x => s.unitOpen n k copy x
  | none => false

/-- What Racking one Span or one metadata page found (R154, R157), of the pages it did not skip. A self-check of a SEALED frame encrypts
it again. -/
def State.rackFindings (s : State) (n : Ch) (k : SlotId) (copy : Nat) (f : RackFind) : State :=
  let seen := fun (pg : Nat) => !s.rackSkips n k copy false pg
  let s0 := s
  let s := (f.unrepeated.filter seen).foldl (fun s pg => (s.updChan n (fun c => { c with rackErr := wrap32 (c.rackErr + 1) })).raiseCh n 44 (chArg pg 0 copy k.val)) s
  let s := (f.badNodes.filter (fun g => !s0.rackSkips n k copy true (16 + g / 10))).foldl
    (fun s g => ((s.cnt n 39 1).raiseCh n 43 (chArg g 0 copy k.val)).confirmedFailure n ⟨k, g⟩ copy 2 true) s
  let s := (f.badPages.filter seen).foldl (fun s pg => ((s.cnt n 39 1).raiseCh n 43 (chArg pg 0 copy k.val)).confirmedFailure n ⟨k, pg⟩ copy 2 false) s
  (f.selfBad.filter seen).foldl (fun s pg =>
    if copy = s.actCopy n k then
      let s := ((s.xtsPage n ⟨k, pg⟩ copy false).raiseCh n 45 (chArg pg 0 copy k.val)).freeFrames (fun fr => fr.holds n ⟨k, pg⟩ && decide (fr.st = .pinned))
      if f.badPages.contains pg then s.confirmedFailure n ⟨k, pg⟩ copy 3 false else s
    else s) s

/-- The copies a cursor visits in a slot: the active copy, the inactive one, the golden one where present (R153). Whether a copy has a
manifest shows at its start. -/
def State.rackCopies (s : State) (n : Ch) (k : SlotId) : List Nat :=
  if s.slotEnabled n k then
    s.actCopy n k ::
      ((if s.hasCopy n k (s.inactCopy n k) then [s.inactCopy n k] else []) ++ (if s.hasCopy n k 3 then [3] else []))
  else []

/-- The cycle of work of a channel's cursor: (slot, copy) in order (R153). -/
def State.rackOrder (s : State) (n : Ch) : List (Nat × Nat) :=
  allSlots.flatMap (fun k => (s.rackCopies n k).map (fun c => (k.val, c)))

/-- The cycle of work of the vault's cursor: the golden agent images, then the firmware copies A, B and golden (R153). -/
def State.vaultOrder (s : State) : List (Nat × Nat) :=
  ((List.range s.vault.golden.length).filter (fun i => match s.vault.golden[i]? with | some g => g.valid | none => false)).map (fun i => (i, 8)) ++
    (([(0, s.ident.fwA), (1, s.ident.fwB), (2, s.ident.fwGold)].filter (fun x => x.2.pkg.isSome)).map (fun x => (x.1, 9)))

/-- The entry after one in a list; none after the last. -/
def nextAfter [DecidableEq α] (x : α) : List α → Option α
  | [] => none
  | a :: r => if a = x then r.head? else nextAfter x r

/-- A cursor where it stands in its cycle: at its place, or at the beginning of the cycle where the copy it stood at is none the
cycle visits (R153). -/
def Cursor.inOrder (c : Cursor) (o : List (Nat × Nat)) : Cursor :=
  if o.contains (c.slot, c.copy) then c
  else match o.head? with
    | some (k, cp) => { c with slot := k, copy := cp, metaPages := false, span := 0 }
    | none => c

def State.cursorAt (s : State) (n : Ch) : Cursor := (s.chan n).cur.inOrder (s.rackOrder n)

/-- A cursor at the start of the next copy of its cycle; after the last one a cycle is complete, which the Bool says (R153, R156). -/
def Cursor.nextCopy (c : Cursor) (o : List (Nat × Nat)) (now : DWord) : Cursor × Bool :=
  match nextAfter (c.slot, c.copy) o with
  | some (k, cp) => ({ c with slot := k, copy := cp, metaPages := false, span := 0 }, false)
  | none =>
    let d := { c with metaPages := false, span := 0, cycles := wrap32 (c.cycles + 1), done := true, lastCyc := now }
    ((match o.head? with | some (k, cp) => { d with slot := k, copy := cp } | none => d), true)

/-- The cursor's next place in a copy of `np` image pages: next Span, then the used metadata pages, then the next copy (R153). -/
def Cursor.advance (c : Cursor) (o : List (Nat × Nat)) (np : Nat) (now : DWord) : Cursor × Bool :=
  if c.metaPages = false ∧ 64 * (c.span + 1) < np then ({ c with span := c.span + 1 }, false)
  else if c.metaPages = false then ({ c with metaPages := true, span := 0 }, false)
  else if c.span + 1 < metaUsed np then ({ c with span := c.span + 1 }, false)
  else c.nextCopy o now

/-- The copy is done: anchors of a copy that is not the active one go (R153). -/
def State.dropAnchors (s : State) (n : Ch) (k : SlotId) (copy : Nat) : State :=
  if copy = s.actCopy n k then s
  else s.freeFrames (fun f => f.node && decide (f.ch = n.val ∧ f.slot = k.val ∧ f.copy = copy))

/-- A Harvest ends when every enabled channel cursor and the vault's have completed a cycle since the last one (R156); a cursor with no
work has none to complete. -/
def State.harvest (s : State) : State :=
  if allCh.all (fun n => !s.enabled n || (s.chan n).cur.done || (s.rackOrder n).isEmpty) && (s.vault.cur.done || s.vaultOrder.isEmpty) then
    let s := forCh (fun s n => s.updChan n (fun c => { c with cur := { c.cur with done := false } })) s
    { s with vault := { s.vault with cur := { s.vault.cur with done := false } },
             cellar := { s.cellar with harvests := wrap32 (s.cellar.harvests + 1), harvTime := s.rtc } }
  else s

/-! ### Repairs that are due (R158 to R160) -/

/-- A failing page, node or manifest of a copy joins the repair of its erase unit (R160, R456). -/
def State.addRepair (s : State) (n : Ch) (k : SlotId) (copy : Nat) (metaPg : Bool) (i : Nat) (f : Repair → Repair) : State :=
  match s.pagePlace n copy k metaPg i with
  | none => s
  | some x =>
    let u := s.unitBase n copy x
    let mine := fun (r : Repair) => decide (r.slot = k ∧ r.copy = copy ∧ r.part = x.1 ∧ r.unit = u)
    let new : Repair := { slot := k, copy := copy, part := x.1, unit := u, pages := [], nodes := [], manifest := false, step := 0, fails := 0, waits := false }
    let all := (s.chan n).repairs
    let all := if all.any mine then all.map (fun r => if mine r then f r else r) else all ++ [f new]
    s.updChan n (fun c => { c with repairs := all })

/-- The manifest of a copy that failed is replaced by a byte-identical one of another copy that passes R135 (R158). -/
def State.replaceManifest (s : State) (n : Ch) (k : SlotId) (copy : Nat) : State :=
  match ((s.chan n).slot k).man copy with
  | none => s
  | some m =>
    if [1, 2, 3].any (fun c => decide (c ≠ copy) && decide (((s.chan n).slot k).man c = some m)) && decide (s.manCheck n k copy m = 0) then
      s.addRepair n k copy true 0 (fun r => { r with manifest := true })
    else s

/-- The manifest check at a copy's start, once a cycle (R135, R136, R153): a failing inactive or golden copy is no recovery source, a
passing one becomes one. The Bool says that the copy has a manifest that passes; after a second fault of the PKU it is not checked in this
cycle (R318). -/
def State.rackManifest (s : State) (n : Ch) (k : SlotId) (copy : Nat) (m : Option Manifest) : State × Bool :=
  let v := s.pkuRun
  let s := v.1
  if v.2 = false then (s, true) else
  let c := match m with | some m => s.manCheck n k copy m | none => 1
  let good := decide (c = 0)
  let s := if copy = s.actCopy n k then s
    else s.updSlot n k (fun z => if copy = 3 then { z with goldValid := good } else { z with inactValid := good })
  let s := s.raiseIf (!good && (m.isSome || decide (copy = s.actCopy n k))) (64 * n.val + manEvent c) (chArg 0 0 copy k.val)
  (if good then s.updSlot n k (fun z => z.setMan copy m) else s.replaceManifest n k copy, good)

/-! ### RACK_SPAN -/

/-- Racking may run on a channel (R40, R153): VERIFY with no agent DECANTING on it, GUARD, or RECOVER on a channel that is not
being restored. -/
def State.rackAllowed (s : State) (n : Ch) : Bool :=
  (s.chan n).brought && !s.clk.flashLost && !s.wardenAway &&
    match s.plat.mode with
    | .verify => decide ((s.chan n).st ≠ .decanting)
    | .guard => true
    | .recover => decide ((s.chan n).st ≠ .reimaging)
    | _ => false

/-- The page whose Span is Racked ahead of the cursor: of a quarantine that AUTOREL may end (R162). -/
def State.rackAhead (s : State) (n : Ch) : Option PageId :=
  match (s.chan n).st, (s.chan n).autorel with
  | .quarantined, some (p, _, false) => if bit (s.cfg (fch n 0x100)) 4 = true ∧ s.slotEnabled n p.slot = true then some p else none
  | _, _ => none

/-- Pages of a Span, or the metadata page, at a cursor's place that are not skipped (R154). -/
def State.rackPages (s : State) (n : Ch) (k : SlotId) (c : Cursor) : Nat :=
  if c.metaPages then (if s.rackSkips n k c.copy true c.span then 0 else 1)
  else ((List.range' (64 * c.span) (min 64 (imagePages (s.regions n) k - 64 * c.span))).filter (fun i => !s.rackSkips n k c.copy false i)).length

/-- A Span has been Racked (R376). -/
def State.countSpan (s : State) (n : Ch) : State :=
  { s with tlm := { s.tlm with spans := s.tlm.spans.set n.val (s.tlm.spans.getD n.val 0 + 1) } }

/-- The Span of a page Racked ahead of the cursor, steps 1 to 3 (R162): the cursor stays. -/
def State.rackForRelease (s : State) (n : Ch) (p : PageId) (f : RackFind) : State :=
  let c : Cursor := { (s.chan n).cur with slot := p.slot.val, copy := s.actCopy n p.slot, metaPages := false, span := p.page / 64 }
  let pages := s.rackPages n p.slot c
  let s := (((s.rackFindings n p.slot (s.actCopy n p.slot) { f with selfBad := [] }).cnt n 38 pages).countSpan n)
  s.updChan n (fun d => { d with autorel := d.autorel.map (fun x => (x.1, x.2.1, x.2.2 || decide (x.1 = p))) })

/-- The Span or metadata page of a cursor position Racked (R154, R156, R376); where every page of it is skipped, it is not. -/
def State.rackHere (s : State) (n : Ch) (k : SlotId) (c : Cursor) (f : RackFind) : State :=
  let pages := s.rackPages n k c
  if pages = 0 then s
  else
    let s := (s.rackFindings n k c.copy f).cnt n 38 pages
    if c.metaPages then s else s.countSpan n

/-- The slot a cursor is in. -/
def Cursor.slotId (c : Cursor) : SlotId := ⟨c.slot % 4, Nat.mod_lt _ (by decide)⟩

/-- The cursor goes on to a place; the anchors of a copy it leaves go, and a cycle's end Harvests (R153, R157). -/
def State.rackOnward (s : State) (n : Ch) (c : Cursor) (a : Cursor × Bool) : State :=
  let s := if a.1.slot = c.slot ∧ a.1.copy = c.copy then s else s.dropAnchors n c.slotId c.copy
  let s := s.updChan n (fun d => { d with cur := a.1 })
  if a.2 then (s.raiseCh n 50 0).harvest else s

/-- The anchors of a copy are read and verified at its start where they are not held (R153): they are kept where none of them fails. -/
def State.rackAnchors (s : State) (n : Ch) (k : SlotId) (copy : Nat) (f : RackFind) : State :=
  let np := imagePages (s.regions n) k
  if f.badNodes.any (fun g => decide (trellisNodes np - anchorNodes np ≤ g)) then s else s.withAnchors n k copy

/-- One step of the cursor at a position (R136, R153, R154, R156, R157). A copy other than the active one that has no good manifest is
left at once. -/
def State.rackAt (s : State) (n : Ch) (c : Cursor) (f : RackFind) (m : Option Manifest) : State :=
  let k := c.slotId
  let o := s.rackOrder n
  let np := imagePages (s.regions n) k
  if c.metaPages = false ∧ c.span = 0 then
    let r := s.rackManifest n k c.copy m
    if r.2 = false ∧ c.copy ≠ s.actCopy n k then r.1.rackOnward n c (c.nextCopy o s.rtc)
    else ((r.1.rackAnchors n k c.copy f).rackHere n k c f).rackOnward n c (c.advance o np s.rtc)
  else (s.rackHere n k c f).rackOnward n c (c.advance o np s.rtc)

/-- The cursor's Span or metadata page Racked (R153). -/
def State.rackCursor (s : State) (n : Ch) (f : RackFind) (m : Option Manifest) : State :=
  if (s.rackOrder n).isEmpty then s else s.rackAt n (s.cursorAt n) f m

/-- A firmware copy of the vault that Racking finds failing is marked invalid (R161): EV517. -/
def State.fwInvalid (s : State) (i : Nat) : State :=
  let bad := fun (c : FwCopy) => { c with bootable := false }
  let d := s.ident
  (({ s with ident := if i = 0 then { d with fwA := bad d.fwA } else if i = 1 then { d with fwB := bad d.fwB } else { d with fwGold := bad d.fwGold } } : State).writeHeader).raise
    517 (fwArg i)

/-- The vault's cursor goes on; at its cycle's end a Harvest may end (R153, R156). -/
def State.vaultOnward (s : State) (a : Cursor × Bool) : State :=
  let s : State := { s with vault := { s.vault with cur := a.1 } }
  if a.2 then s.harvest else s

/-- One step of the vault's cursor: a Span or metadata page of a golden agent image, or a firmware copy (R153, R154, R161). -/
def State.rackVault (s : State) (f : RackFind) (m : Option Manifest) : State :=
  let o := s.vaultOrder
  let c := s.vault.cur.inOrder o
  if o.isEmpty then s
  else if c.copy = 9 then (if f.badPages.isEmpty then s else s.fwInvalid c.slot).vaultOnward (c.nextCopy o s.rtc)
  else
    match s.vault.golden[c.slot]? with
    | none => s.vaultOnward (c.nextCopy o s.rtc)
    | some g =>
      if h : g.chan < 8 ∧ g.slot < 4 then
        let n : Ch := ⟨g.chan, h.1⟩
        let k : SlotId := ⟨g.slot, h.2⟩
        let bad := match m with | some m => s.manCheck n k 8 m | none => 1
        if c.metaPages = false ∧ c.span = 0 ∧ bad ≠ 0 then
          ((s.raiseCh n (manEvent bad) (chArg 0 0 3 k.val)).goldenInvalid n k).vaultOnward (c.nextCopy o s.rtc)
        else
          let s := if c.metaPages = false ∧ c.span = 0 then
              { s with vault := { s.vault with golden := s.vault.golden.map (fun x => if x = g then { x with man := m } else x) } } else s
          (s.rackFindings n k 8 f).vaultOnward (c.advance o (imagePages (s.regions n) k) s.rtc)
      else s.vaultOnward (c.nextCopy o s.rtc)

/-- RACK_SPAN (R153, R154, R156, R157, R162): a Span or metadata page is Racked and what it found is acted on: the Span an AUTOREL
release waits for, or else the cursor's, which advances; on port 8 the vault's cursor. `m` is the manifest of a copy as its first step
reads it. Its Press job takes and returns a credit. -/
def execRackSpan (port : PortId) (f : RackFind) (m : Option Manifest) (s : State) : Host.Outcome State Fault Refusal :=
  .next (if h : port.val < 8 then
    let n : Ch := ⟨port.val, h⟩
    if s.portHeld n = true ∨ s.rackAllowed n = false then s
    else
      let r := s.pressRun { cls := 6, ch := some n.val, tag := (s.chan n).cur.span, engine := 8 }
      if r.2 = false then r.1
      else match r.1.rackAhead n with
        | some p => r.1.rackForRelease n p f
        | none => r.1.rackCursor n f m
  else if s.background = false ∨ s.clk.flashLost = true ∨ s.wardenAway = true ∨ s.plat.training = some 8 then s
  else
    let r := s.pressRun { cls := 6, ch := none, tag := s.vault.cur.span, engine := 8 }
    if r.2 = false then r.1 else r.1.rackVault f m)

/-! ## Graft (R158 to R162, R455) -/

/-- A page that qualifies is held under Graft (R159): the frame that holds it already, or one more. -/
def State.graftHold (s : State) (n : Ch) (p : PageId) (copy : Nat) : State :=
  let s := if (s.frameOf n p).isSome then
      { s with cellar := { s.cellar with frames := s.cellar.frames.map (fun f => if f.holds n p then { f with st := .pinned, graft := true } else f) } }
    else (s.admitData n true (dataFrame .pinned n copy p true)).1
  s.xtsPage n p copy true

/-- A page or node qualifies (R139, R159): a served page is graft-held, or goes to the known-bad list where GRAFTMAX frames are in use;
a served node enters the node reserve; a copy that is not served needs no substitution. The repair of its unit is due. -/
def State.graftQualifies (s : State) (n : Ch) (g : Graft) : State :=
  let k := g.pg.slot
  let passes := s.failing n g.pg g.node
  let s := s.updChan n (fun c =>
    let c := { c with grafts := c.grafts.filter (fun x => !decide (x = g)) }
    passes.foldl (fun c i => c.autorelPass ⟨k, i⟩) c)
  let s := if g.node then s.addRepair n k g.copy true (16 + g.pg.page / 10) (fun r => { r with nodes := g.pg.page :: r.nodes })
    else s.addRepair n k g.copy false g.pg.page (fun r => { r with pages := g.pg.page :: r.pages })
  if (g.served && decide (g.copy = s.actCopy n k)) = false then s
  else if g.node then (s.keepNode n g.pg g.copy).raiseCh n 46 (chArg g.pg.page 0 g.copy k.val)
  else if s.graftMax ≤ s.graftHeld then (s.raiseCh n 49 (chArg g.pg.page 0 g.copy k.val)).knowBad n g.pg
  else (((s.graftHold n g.pg g.copy).cnt n 40 1).raiseCh n 46 (chArg g.pg.page 0 g.copy k.val)).noteSet n

/-- The port that holds a copy takes a device-side transaction now (R38). -/
def State.copyHeld (s : State) (n : Ch) (copy : Nat) : Bool :=
  if copy = 8 then decide (s.plat.training = some 8) || s.clk.flashLost else s.portHeld n

/-- GRAFT_CANDIDATE (R38, R139, R158, R159, R161, R455): the read of the candidate in hand completes; `qualifies` where its digest
equals the failing copy's own entry. A SEALED page that would be served waits for its Cask. Where no candidate is left that can be read
at all, none qualifies. -/
def execGraftCandidate (n : Ch) (k : SlotId) (page copy : Nat) (node qualifies : Bool) (s : State) : Host.Outcome State Fault Refusal :=
  .next (match s.powered, s.graftOf n ⟨k, page⟩ copy node with
    | true, some g =>
      if s.candLeft n g = [] then (s.graftExhausted n g).tendRedirects n
      else
        match s.graftCand n g with
        | none => s
        | some c =>
          if s.copyHeld n c then s
          else
            let r := s.pressRun { cls := 4, ch := some n.val, tag := nodeTag ⟨k, page⟩ node, engine := 8 }
            if r.2 = false then r.1
            else if qualifies = false then (r.1.candFails n g c).tendRedirects n
            else if g.served && !node && decide (s.policyOfPage n ⟨k, page⟩ = 2) && !s.xtsReady n k copy then r.1.xtsRefused n k copy
            else (r.1.graftQualifies n g).tendRedirects n
    | _, _ => s)

/-- A repair may write to the part of a copy now (R107, R160). -/
def State.repairAllowed (s : State) (n : Ch) (r : Repair) : Bool :=
  let st := (s.chan n).st
  if s.wardenAway then false
  else if r.copy = 8 then !(s.vault.parts[r.part.val]).failed && !(s.vault.parts[r.part.val]).susp
  else
    !s.exposed n r.part && s.canWrite n r.part &&
      (decide (st = .quarantined ∨ st = .reimaging ∨ st = .disabled) ||
        !((s.regions n).any (fun g => decide (g.policy = 1 ∨ g.policy = 3) &&
          (s.extents n).any (fun e => s.served n e && decide (e.part = r.part) &&
            decide (e.vbase < g.vbase + g.npages ∧ g.vbase < e.vbase + e.npages)))))

/-- The intent record of a repair (R127, R160). -/
def State.repairRec (s : State) (n : Ch) (r : Repair) (state step : Nat) : State := s.intent 4 n.val r.slot.val state step 5 r.place r.place 0

/-- The record of a repair is open. -/
def State.repairOpen (s : State) (n : Ch) (r : Repair) : Bool :=
  (liveIntents s.vault.intents).any (fun i => decide (i.kind = 4 ∧ i.chan = n.val ∧ i.slot = r.slot.val ∧ i.dst = r.place))

/-- A repair changed, or gone. -/
def Repair.isOf (r q : Repair) : Bool := decide (r.slot = q.slot ∧ r.copy = q.copy ∧ r.part = q.part ∧ r.unit = q.unit)
def State.setRepair (s : State) (n : Ch) (r : Repair) : State :=
  s.updChan n (fun c => { c with repairs := c.repairs.map (fun x => if x.isOf r then r else x) })
def State.dropRepair (s : State) (n : Ch) (r : Repair) : State :=
  s.updChan n (fun c => { c with repairs := c.repairs.filter (fun x => !x.isOf r) })

/-- A command of a repair to its part. -/
def State.repairFlash (s : State) (n : Ch) (r : Repair) (op : FlashOp) : State :=
  let len := max 4096 (s.partOf n r.copy r.part).unit
  if r.copy = 8 then s.emit (.flashCmd 8 r.part op (beBytes 4 r.unit) len []) else s.flash n r.part op (beBytes 4 r.unit) len []

/-- A failing page or node of the copy lies in the unit of a repair and has no substitute yet. -/
def State.graftInUnit (s : State) (n : Ch) (r : Repair) : Bool :=
  (s.chan n).grafts.any (fun g => decide (g.copy = r.copy ∧ g.pg.slot = r.slot) &&
    match s.candPlace n g r.copy with | some x => decide (x.1 = r.part ∧ s.unitBase n r.copy x = r.unit) | none => false)

/-- Step 1 of a repair (R160): its record is opened; the unit's other pages are read and verified, further failures grafted, and the step
is complete once each has its substitute. DESIGN CHOICE: FAILPG.CAUSE of such a failure is Racking's; R165 has no code for it (log entry
64). -/
def State.repairRead (s : State) (n : Ch) (r : Repair) (bad : RackFind) : State :=
  let s := if s.repairOpen n r then s else s.repairRec n r 0 0
  let s := bad.badNodes.foldl (fun s g => s.confirmedFailure n ⟨r.slot, g⟩ r.copy 2 true) s
  let s := bad.badPages.foldl (fun s pg => s.confirmedFailure n ⟨r.slot, pg⟩ r.copy 2 false) s
  if s.graftInUnit n r then s
  else
    match (s.chan n).repairs.find? (fun x => x.isOf r) with
    | some q => (s.setRepair n { q with step := 1, waits := false }).repairRec n r 0 1
    | none => s

/-- Step 4 of a repair (R160): the read-back; after the fourth failure the unit is unrepairable. -/
def State.repairReadBack (s : State) (n : Ch) (r : Repair) (ok : Bool) : State :=
  if ok then (s.setRepair n { r with step := 4, waits := false }).repairRec n r 0 4
  else if r.fails < 3 then s.setRepair n { r with step := 1, fails := r.fails + 1, waits := false }
  else
    let s := (s.dropRepair n r).repairRec n r 2 3
    if r.copy = s.actCopy n r.slot then s else s.noSource n r.slot r.copy

/-- Step 5 of a repair (R143, R149, R160): graft-held frames become Resident, the pages leave the known-bad list, EV(64n + 47). -/
def State.repairDone (s : State) (n : Ch) (r : Repair) : State :=
  let s := (s.dropRepair n r).repairRec n r 1 5
  let mine := fun (i : Nat) => r.pages.contains i && decide (r.copy = s.actCopy n r.slot)
  let s : State := { s with cellar := { s.cellar with frames := s.cellar.frames.map (fun f =>
    if f.graft = true ∧ f.ch = n.val ∧ f.slot = r.slot.val ∧ mine f.index = true then { f with st := .resident, graft := false } else f) } }
  (s.updChan n (fun c =>
    let c := { c with repairsDone := sat 0xFFFF (c.repairsDone + 1), bad := c.bad.filter (fun b => !(decide (b.slot = r.slot) && mine b.page)) }
    (r.pages.filter mine).foldl (fun c i => c.autorelPass ⟨r.slot, i⟩) c)).raiseCh n 47 (chArg (r.pages.headD 0) 0 r.copy r.slot.val)

/-- GRAFT_REPAIR_STEP (R15, R107, R127, R160): one of the five steps of rewriting the failing erase unit at byte address `unit` of a
part; `bad` are the further failures that step 1 finds, `ok` the result of step 4's read-back. -/
def execGraftRepairStep (n : Ch) (k : SlotId) (copy : Nat) (part : PartId) (s : State) (unit : Nat := 0) (bad : RackFind := {})
    (ok : Bool := true) : Host.Outcome State Fault Refusal :=
  .next (match s.background, (s.chan n).repairs.find? (fun r => decide (r.slot = k ∧ r.copy = copy ∧ r.part = part ∧ r.unit = unit)) with
    | true, some r =>
      if s.copyHeld n copy = true ∨ (r.step = 0 ∧ s.intentsOk = false) then s
      else if r.step < 4 ∧ s.repairAllowed n r = false then
        (if copy ≠ 8 ∧ s.exposed n r.part = true ∧ r.waits = false then (s.setRepair n { r with waits := true }).raiseCh n 29 0 else s)
      else
        match r.step with
        | 0 => s.repairRead n r bad
        | 1 => ((s.repairFlash n r .erase).setRepair n { r with step := 2, waits := false }).repairRec n r 0 2
        | 2 => ((s.repairFlash n r .program).setRepair n { r with step := 3, waits := false }).repairRec n r 0 3
        | 3 => s.repairReadBack n r ok
        | _ => s.repairDone n r
    | _, _ => s)

/-- A node number on the path of a Span's pages below the anchors: one of its eight level-1 nodes or its level-2 node (R154). -/
def spanNode (np span g : Nat) : Bool :=
  decide ((8 * span ≤ g ∧ g < 8 * span + 8 ∧ g < parents np) ∨ g = parents np + span)

/-- Every confirmed mismatch in the Span of a page of the active copy has been substituted (R162). -/
def State.spanClean (s : State) (n : Ch) (p : PageId) : Bool :=
  let np := imagePages (s.regions n) p.slot
  (s.chan n).grafts.all (fun g => !(decide (g.pg.slot = p.slot ∧ g.copy = s.actCopy n p.slot) &&
    (if g.node then spanNode np (p.page / 64) g.pg.page else decide (g.pg.page / 64 = p.page / 64)))) &&
  (s.chan n).bad.all (fun b => !decide (b.slot = p.slot ∧ b.page / 64 = p.page / 64))

/-- AUTOREL_RELEASE (R162): with AUTOREL, a quarantine that a failed or late verdict caused ends as the owner-authorised
release of R44, once the page has passed or been substituted and its Span has been Racked again with no mismatch left. -/
def execAutorelRelease (n : Ch) (s : State) : Host.Outcome State Fault Refusal :=
  .next (match s.powered, (s.chan n).st, (s.chan n).autorel with
    | true, .quarantined, some (p, true, true) =>
      if bit (s.cfg (fch n 0x100)) 4 && s.spanClean n p then
        (s.updChan n (fun c => { c with autorel := none })).releaseQuarantine n
      else s
    | _, _, _ => s)

end Sys2Proof.Machine
end

