-- ==== Sys2Proof/Machine/Events.lean ====
section
/-! DEFINITION. Machine/Events.lean: the event router, recorder and telemetry (chapter 12). -/

namespace Sys2Proof.Machine

/-! ## Records (R362) -/

/-- A record's bytes (R362). -/
def recBytes (r : Rec) : List Byte :=
  leBytes 4 r.recno ++ leBytes 2 (r.src % 1024) ++ leBytes 1 (r.sev % 8) ++ leBytes 1 r.kind.code ++ leBytes 8 r.time.toNat ++
    leBytes 4 r.cycle ++ leBytes 6 r.count ++ leBytes 6 r.arg

/-- An element of a list of numbers changed. -/
def listAdd (l : List Nat) (i k : Nat) : List Nat := l.set i (l.getD i 0 + k)

/-- The KIND of the records of a source (R362, R363, R364, R368). -/
def kindOf (src : Nat) : RecKind := if src = 872 then .degraded else if src = 874 then .cleared else if src = 883 then .start else .event

/-- A record formed now (R357, R362): it takes the next RECNO; its raises are counted at its severity. -/
def State.formRec (s : State) (src sev count arg : Nat) : State :=
  let r : Rec := { recno := s.evt.nextNo, src := src, sev := sev, kind := kindOf src, time := s.rtc,
                   cycle := wrap32 s.cycles, count := count, arg := arg % 2 ^ 48 }
  { s with evt := { s.evt with
      inflight := s.evt.inflight ++ [r], nextNo := s.evt.nextNo + 1
      raisedN := listAdd s.evt.raisedN sev count, coalescedN := listAdd s.evt.coalescedN sev (count - 1) } }

/-- A raise of a source whose record is in flight adds to its pending count (R357). -/
def addPend (p : List PendCnt) (r : Raise) : List PendCnt :=
  if p.any (fun x => x.src = r.src) then
    p.map (fun x => if x.src = r.src then { x with count := x.count + 1, sev := max x.sev r.sev, arg := r.arg } else x)
  else p ++ [{ src := r.src, count := 1, sev := r.sev, arg := r.arg }]

/-- The route of a source (R359). -/
def State.route (s : State) (src : Nat) : Word := s.cfg (routeKey src)

/-- A raise goes to the cores, the vector and the pin its route names (R359, R360, R361, R400). -/
def State.deliver (s : State) (r : Raise) : State :=
  let w := s.route r.src
  let both := decide (r.src = 872 ∨ r.src = 832)
  let s := if bit w 29 ∨ both then s.exception true r.src else s
  let s := if bit w 28 ∨ both then s.exception false r.src else s
  let s := if bit w 27 then s.vecEvent (fld w 21 16) else s
  if bit w 15 then (s.setSticky 0x414 (word (2 ^ fld w 11 8))).emit (.gpio (fld w 11 8) true) else s

/-- The router takes a raise (R356, R357, R359): a record, a pending count, or, with REC = 0, the suppressed counts. -/
def State.takeRaise (s : State) (r : Raise) : State :=
  let s := s.deliver r
  if bit (s.route r.src) 30 = false ∧ r.src ≠ 872 then
    { s with evt := { s.evt with
        suppr := s.evt.suppr.set r.sev (wrap32 (s.evt.suppr.getD r.sev 0 + 1))
        raisedN := listAdd s.evt.raisedN r.sev 1, suppressedN := listAdd s.evt.suppressedN r.sev 1 } }
  else if s.evt.inflight.any (fun x => x.src = r.src) then { s with evt := { s.evt with pend := addPend s.evt.pend r } }
  else s.formRec r.src r.sev 1 r.arg

/-- EVENT_RAISE (R356, R357): the oldest raise on its way reaches the router. -/
def execEventRaise (s : State) : Host.Outcome State Fault Refusal :=
  .next (match s.powered, s.evt.transit with
    | true, r :: rest => ({ s with evt := { s.evt with transit := rest } } : State).takeRaise r
    | _, _ => s)

/-! ## The ring (R363) -/

/-- The ring position a new record takes: a free slot, the oldest reclaimable record's, the oldest of equal or lower
severity; none where it is not stored. The ring is in RECNO order. -/
def ringStore (ring : List (Rec × Bool)) (r : Rec) : Option (List (Rec × Bool)) :=
  if ring.length < 4096 then some (ring ++ [(r, false)])
  else
    match ring.find? (fun x => x.2) with
    | some v => some (ring.erase v ++ [(r, false)])
    | none =>
      match ring.find? (fun x => decide (x.1.sev ≤ r.sev)) with
      | some v => some (ring.erase v ++ [(r, false)])
      | none => none

/-- A record goes to the ring, or is suppressed: SUPPRn, EV875 at the first after a stored one (R363). The Bool says that it
was stored. DEDUCED: with the ring failed the record counts as recorded in the law of R27, for R363 suppresses none then (log entry 64). -/
def State.toRing (s : State) (r : Rec) : State × Bool :=
  if s.evt.ringFail then ({ s with evt := { s.evt with recordedN := listAdd s.evt.recordedN r.sev 1 } }, false)
  else
    match ringStore s.evt.ring r with
    | some ring => ({ s with evt := { s.evt with ring := ring, supprSince := false, recordedN := listAdd s.evt.recordedN r.sev 1 } }, true)
    | none =>
      (({ s with evt := { s.evt with
          suppr := s.evt.suppr.set r.sev (wrap32 (s.evt.suppr.getD r.sev 0 + r.count)), supprSince := true
          suppressedN := listAdd s.evt.suppressedN r.sev 1 } } : State).raiseIf (!s.evt.supprSince) 875 0, false)

/-! ## The journal (R365 to R367) -/

/-- REC.CFG.JMINSEV and LWMIN (R379). -/
def State.jMin (s : State) : Nat := fld (s.cfg 0x504) 2 0
def State.lwMin (s : State) : Nat := fld (s.cfg 0x504) 6 4

/-- A record the journal receives (R365). -/
def State.journals (s : State) (r : Rec) : Bool := decide (s.jMin ≤ r.sev) || decide (r.kind ≠ .event)

/-- An event record merged into the staged one of its source (R365). -/
def mergeStaged (r : Rec) : List Rec → Option (List Rec)
  | [] => none
  | x :: rest =>
    if x.kind = .event ∧ r.kind = .event ∧ x.src = r.src then
      some ({ x with count := x.count + r.count, sev := max x.sev r.sev, arg := r.arg } :: rest)
    else (mergeStaged r rest).map (fun l => x :: l)

/-- Records not written yet: staged, or in a block on its way to the vault (R365, R368). -/
def State.unwritten (s : State) : List Rec := s.evt.jwait.flatMap (fun b => b.recs) ++ s.evt.staging

/-- The lowest severity among the carried records, once they fill 64 units of 256 blocks (R366). -/
def State.carryFloor (s : State) : Option Nat :=
  if 64 * 256 ≤ (s.evt.journal.filter (fun b => b.carried)).length then
    (s.evt.journal.flatMap (fun b => if b.carried then b.recs.map (fun r => r.sev) else [])).foldl
      (fun (a : Option Nat) v => match a with | none => some v | some m => some (min m v)) none
  else none

/-- A record is staged for the journal (R365, R366): merged, appended, or not journalled (EV877, EV878). The Bool says that
the journal has it. -/
def State.stage (s : State) (r : Rec) : State × Bool :=
  if s.journals r = false then (s, false)
  else if (match s.carryFloor with | some m => decide (r.sev < m ∧ r.kind = .event) | none => false) = true then
    (({ s with evt := { s.evt with suppr := s.evt.suppr.set r.sev (wrap32 (s.evt.suppr.getD r.sev 0 + r.count)) } } : State).raise 877 0, false)
  else
    match mergeStaged r s.evt.staging with
    | some l => ({ s with evt := { s.evt with staging := l } }, !s.evt.jFail)
    | none =>
      if s.unwritten.length < 36 then ({ s with evt := { s.evt with staging := s.evt.staging ++ [r] } }, !s.evt.jFail)
      else (s.raise 878 0, false)

/-- The Last Word registers take a record: LWVALID, EV879 (R368). -/
def State.lastWord (s : State) (r : Rec) : State :=
  let ws := (List.range 8).map (fun k => wordAt (recBytes r) (4 * k))
  ({ s with keeper := { s.keeper with lw := ws, lwValid := true } } : State).raise 879 0

/-- A formed record is written (R243, R357, R363, R365, R368): ring, journal staging, Q2, Last Word, then the source's pending
count forms its next record. -/
def State.writeRec (s : State) (r : Rec) : State :=
  let a := s.toRing r
  let b := a.1.stage r
  let s := b.1
  let s := if fld (s.qCfg 2) 30 28 ≤ r.sev ∨ r.src = 872 then s.qReport 2 64 (recBytes r) else s
  let s := if r.kind = .degraded ∨ (s.lwMin ≤ r.sev ∧ a.2 = false ∧ b.2 = false) then s.lastWord r else s
  match s.evt.pend.find? (fun p => p.src = r.src) with
  | some p => ({ s with evt := { s.evt with pend := s.evt.pend.filter (fun x => x.src ≠ r.src) } } : State).formRec p.src p.sev p.count p.arg
  | none => s

/-- RING_WRITE (R357, R363): the oldest in-flight record is written. -/
def execRingWrite (s : State) : Host.Outcome State Fault Refusal :=
  .next (match s.powered, s.evt.inflight with
    | true, r :: rest => ({ s with evt := { s.evt with inflight := rest } } : State).writeRec r
    | _, _ => s)

/-- The recorder enters DEGRADED, or fails further: EV872 with ARG bit 0 (ring) or 1 (journal) (R368). -/
def State.degrade (s : State) (ring : Bool) : State :=
  ({ s with evt := { s.evt with ringFail := s.evt.ringFail || ring, jFail := s.evt.jFail || !ring } } : State).raise 872 (if ring then 1 else 2)

/-- RECORDER_SRAM_ERROR (R368): the ring fails until the next device restart. -/
def execRecorderSramError (s : State) : Host.Outcome State Fault Refusal :=
  .next (if s.powered ∧ s.evt.ringFail = false then s.degrade true else s)

/-- Staged records put into a block (R365). -/
def State.makeBlock (s : State) : State :=
  match s.evt.staging with
  | [] => s
  | _ =>
    let b : JBlock := { bseq := s.evt.nextBseq, first := s.evt.firstBlock, prevFailed := s.evt.prevBad, carried := false,
                        recs := s.evt.staging.take 6, bad := false }
    { s with evt := { s.evt with
        staging := s.evt.staging.drop 6, jwait := s.evt.jwait ++ [b], nextBseq := wrap32 (s.evt.nextBseq + 1)
        firstBlock := false, prevBad := false } }

/-- JOURNAL_BLOCK_DUE (R365): six staged records, or JFLUSH ms after the first, make a block due. A block's MAC needs the
journal key. -/
def execJournalBlockDue (s : State) : Host.Outcome State Fault Refusal :=
  .next (if s.powered ∧ s.journalKey.isSome then s.makeBlock else s)

/-- Blocks of six records with rising BSEQ, marked as carried (R365, R366). -/
def carryBlocks (bseq : Nat) (keep : List Rec) : List JBlock :=
  (List.range ((keep.length + 5) / 6)).map (fun i =>
    { bseq := wrap32 (bseq + i), first := false, prevFailed := false, carried := true, recs := (keep.drop (6 * i)).take 6, bad := false })

/-- Records of the oldest unit carried to the head (R366): not reclaimable, not carried twice, of a severity above the highest
that waits in staging. Blocks that wait for the vault take the numbers after theirs. -/
def State.carryUnit (s : State) : State :=
  let old := (s.evt.journal.take 256).flatMap (fun b => b.recs)
  let top : Nat := s.unwritten.foldl (fun a r => max a (r.sev + 1)) 0
  let keep : List Rec := ((s.evt.journal.take 256).flatMap (fun b => if b.bad then [] else b.recs)).filter (fun (r : Rec) =>
    decide (s.evt.jClear < r.recno) && decide (natGet s.evt.jCarried r.recno < 2) && decide (top ≤ r.sev))
  let blocks := carryBlocks (s.evt.nextBseq + 2 ^ 32 - s.evt.jwait.length) keep
  let k := blocks.length
  { s with evt := { s.evt with
      journal := s.evt.journal.drop 256 ++ blocks
      jwait := s.evt.jwait.map (fun b => { b with bseq := wrap32 (b.bseq + k) })
      nextBseq := wrap32 (s.evt.nextBseq + k)
      jhead := match blocks.getLast? with | some b => b.bseq | none => s.evt.jhead
      jCarried := keep.foldl (fun l r => natPut l r.recno (natGet s.evt.jCarried r.recno + 1))
        (s.evt.jCarried.filter (fun x => old.all (fun r => decide (r.recno ≠ x.1)))) } }

/-- A block becomes durable: JHEAD takes its BSEQ; the head erases its oldest unit where the area is full, which wears the
area (R128, R365, R366). -/
def State.blockDurable (s : State) (b : JBlock) (rest : List JBlock) : State :=
  let s : State := { s with evt := { s.evt with jwait := rest, journal := s.evt.journal ++ [b], jhead := b.bseq } }
  if 127 * 256 < s.evt.journal.length then s.carryUnit.wearErase 0x1C00000 else s

/-- JOURNAL_BLOCK_DURABLE (R365, R368): the oldest block's read-back passes; `passed` false is its third failure, and the
journal fails. -/
def execJournalBlockDurable (passed : Bool) (s : State) : Host.Outcome State Fault Refusal :=
  .next (match s.powered && !s.clk.flashLost, s.evt.jwait with
    | true, b :: rest => if s.evt.jFail then s else if passed = false then s.vaultDone.degrade false else if s.vaultUp then s.vaultDone.blockDurable b rest else s
    | _, _ => s)

/-- JOURNAL_RETRY (R368): the failed journal retries its oldest block; a success clears the failure with EV873. Without the
journal key nothing is written (R297). -/
def execJournalRetry (passed : Bool) (s : State) : Host.Outcome State Fault Refusal :=
  .next (if s.vaultUp ∧ s.evt.jFail ∧ passed ∧ s.journalKey.isSome then
    let s : State := ({ s.vaultDone with evt := { s.vaultDone.evt with jFail := false } } : State).raise 873 0
    match s.evt.jwait with
    | b :: rest => s.blockDurable b rest
    | [] => s
  else s)

/-- LW_CLEAR (R368, R379). -/
def execLwClear (s : State) : Host.Outcome State Fault Refusal :=
  .next (if s.powered then { s with keeper := { s.keeper with lwValid := false } } else s)

/-- A clear of the log (R364): every stored ring record reclaimable, the CLEARED record formed; its RECNO is CLEARNO. The raise goes
to the destinations that its route names too (R359). -/
def State.clearLog (s : State) : State :=
  let newest := s.evt.ring.foldl (fun a x => if x.2 then a else max a x.1.recno) 0
  let no := s.evt.nextNo
  let s : State := { s with evt := { s.evt with ring := s.evt.ring.map (fun x => (x.1, true)), clearNo := no, jClear := max s.evt.jClear newest } }
  (s.formRec 874 2 1 newest).deliver ⟨874, 2, newest⟩

/-- Records of the ring from a number on, in RECNO order. -/
def State.ringFrom (s : State) (no : Nat) : List Rec := (s.evt.ring.map (fun x => x.1)).filter (fun r => decide (no ≤ r.recno))

/-- Journal records from a number on, in RECNO order, with one GAP record where the chain fails (R365). -/
def State.journalFrom (s : State) (no : Nat) : List Rec :=
  sortBy (fun a b => decide (a.recno ≤ b.recno)) ((s.evt.journal.flatMap (fun b =>
    if b.bad then [{ recno := (b.recs.head?.map (fun r => r.recno)).getD 0, src := 876, sev := 0, kind := .gap, time := 0#64, cycle := 0,
                     count := 1, arg := b.bseq }]
    else b.recs)).filter (fun r => decide (no ≤ r.recno)))

/-- The answer of a log read: the records' bytes, the next record index and the count (R239, R364). -/
def logAnswer (rs : List Rec) (next len : Nat) : List Byte × Nat × Nat :=
  let out := rs.take (len / 32)
  (out.flatMap recBytes, (match out.getLast? with | some r => r.recno + 1 | none => next), out.length)

/-- LOG_READ (R239, R364, R365). -/
def execLogRead (cid src len from_ addr : Nat) (s : State) : Host.Outcome State Fault Refusal :=
  .next (s.admin cid 3 (fun s =>
    if len = 0 then (s, reply .noop)
    else if 1 < src then (s, badField 8)
    else if len < 32 then (s, badField 24)
    else
      let a := logAnswer (if src = 0 then s.ringFrom from_ else s.journalFrom from_) from_ len
      (s.hostWrite addr a.1, okWith (leBytes 8 a.2.1 ++ leBytes 4 a.2.2))))

/-- LOG_CLEAR (R240, R364). -/
def execLogClear (cid : Nat) (s : State) : Host.Outcome State Fault Refusal :=
  .next (s.admin cid 4 (fun s => (s.clearLog, okWith (leBytes 8 s.evt.nextNo))))

/-- MSIGAP_EXPIRY (R360): the gap of a vector ends; carried raises send one message and a new gap runs. -/
def execMsigapExpiry (v : Nat) (s : State) : Host.Outcome State Fault Refusal :=
  .next (match s.powered, s.evt.msiGap.find? (fun g => g.1 = v) with
    | true, some g =>
      if g.2 then ({ s with evt := { s.evt with msiGap := s.evt.msiGap.map (fun x => if x.1 = v then (v, false) else x) } } : State).msi v
      else { s with evt := { s.evt with msiGap := s.evt.msiGap.filter (fun x => x.1 ≠ v) } }
    | _, _ => s)

/-! ## Telemetry (R375, R376) -/

/-- What a boundary snapshots (R375). -/
def State.snapshotNow (s : State) : Snap :=
  let per := fun (f : Chan → Nat) => allCh.map (fun n => f (s.chan n))
  { time := s.time, rtc := s.rtc
    served := per (fun c => c.port.srvCellar + c.port.srvRt + c.port.synth), rtBytes := per (fun c => c.port.srvRt)
    pass := per (fun c => c.vpass), bad := per (fun c => c.vfail + c.vlate), spans := s.tlm.spans
    blocks := per (fun c => c.port.blocks), underruns := per (fun c => c.port.underruns)
    sealBytes := s.tlm.sealBytes, segments := s.tlm.segments, epochs := s.tlm.epochs, segFail := s.tlm.segFail
    rdBytes := s.tlm.rdBytes, wrBytes := s.tlm.wrBytes, raised := s.evt.raisedN, suppr := s.evt.suppr }

/-- The snapshot of the unit's start: all counts 0. -/
def zeroSnap (time : Nat) (rtc : DWord) : Snap :=
  { time := time, rtc := rtc, served := [], rtBytes := [], pass := [], bad := [], spans := [], blocks := [], underruns := [],
    sealBytes := 0, segments := 0, epochs := 0, segFail := 0, rdBytes := 0, wrBytes := 0, raised := [], suppr := [] }

/-- A 32-byte channel block of the record (R376). -/
def tlmChan (s : State) (a b : Snap) (m : TlmMeas) (n : Ch) : List Byte :=
  let d := fun (f : Snap → List Nat) => (f b).getD n.val 0 - (f a).getD n.val 0
  let w := fun (f : Snap → List Nat) => wrap32 ((f b).getD n.val 0 + 2 ^ 32 - wrap32 ((f a).getD n.val 0))
  leBytes 8 (d Snap.served) ++ leBytes 4 (d Snap.rtBytes / 1024) ++ leBytes 4 (m.dbusy.getD n.val 0) ++
    leBytes 2 (sat 0xFFFF (w Snap.pass)) ++ leBytes 2 (sat 0xFFFF (w Snap.bad)) ++ leBytes 2 (sat 0xFFFF (m.vmax.getD n.val 0)) ++
    leBytes 1 (m.rack.getD n.val 0) ++ leBytes 1 (s.chan n).st.code ++ leBytes 4 (d Snap.spans) ++
    leBytes 2 (sat 0xFFFF (w Snap.blocks)) ++ leBytes 2 (sat 0xFFFF (w Snap.underruns))

/-- The telemetry record of a window from snapshot `a` to snapshot `b` (R376). -/
def State.tlmRecord (s : State) (a b : Snap) (m : TlmMeas) (half : Bool) (num : Nat) : List Byte :=
  let eight := fun (f : Snap → List Nat) => (List.range 8).flatMap (fun i => leBytes 4 (wrap32 ((f b).getD i 0 + 2 ^ 32 - wrap32 ((f a).getD i 0))))
  leBytes 2 0x20 ++ leBytes 2 1 ++ leBytes 4 s.tlm.period ++ leBytes 8 num ++ leBytes 8 a.rtc.toNat ++ leBytes 8 b.rtc.toNat ++
    leBytes 4 ((b.time - a.time) / 600000) ++ leBytes 4 (b2n half + 2 * b2n (!s.keeper.rtcValid)) ++
    allCh.flatMap (tlmChan s a b m) ++
    (List.range 8).flatMap (fun e => leBytes 1 (m.pressBusy.getD e 0xFF)) ++ (List.range 4).flatMap (fun l => leBytes 1 (m.aesBusy.getD l 0xFF)) ++
    leBytes 1 m.creditMin ++ leBytes 1 m.unitsOut ++ leBytes 2 m.freeMin ++ leBytes 2 (s.frameCount .pinned) ++
    leBytes 2 (s.frameCount .resident) ++ leBytes 2 m.inflMax ++ leBytes 2 0 ++
    leBytes 8 (b.sealBytes - a.sealBytes) ++ leBytes 4 (b.segments - a.segments) ++ leBytes 4 (b.epochs - a.epochs) ++
    leBytes 4 (b.segFail - a.segFail) ++ leBytes 2 s.openStreams ++ leBytes 2 0 ++ leBytes 8 (b.rdBytes - a.rdBytes) ++
    leBytes 8 (b.wrBytes - a.wrBytes) ++ leBytes 2 m.tempMin ++ leBytes 2 m.tempMax ++
    (List.range 6).flatMap (fun i => leBytes 2 (m.rails.getD i 0)) ++ eight Snap.raised ++ eight Snap.suppr ++
    leBytes 1 s.plat.mode.code ++ leBytes 1 s.plat.cause ++ leBytes 2 0 ++ leBytes 4 s.agentWord ++ padTo 32 []

/-- The record of the boundary just snapshotted (R375). -/
def State.boundaryRecord (s : State) (m : TlmMeas) : List Byte :=
  match s.tlm.snaps with
  | b :: rest => s.tlmRecord (rest.getD 1 (rest.getD 0 b)) b m (decide (rest.length < 2)) s.tlm.num
  | [] => []

/-- A record is produced: TLM.DATA, Q3, EV881 (R244, R375). -/
def State.formTlm (s : State) (r : List Byte) : State :=
  (({ s with tlm := { s.tlm with record := r, due := none } } : State).qReport 3 512 r).raise 881 0

/-- TELEMETRY_PERIOD (R375): a period boundary: every count snapshotted, and the record formed now or still due; a new PERIOD
takes effect; a PERIOD of 0 produces nothing. -/
def execTelemetryPeriod (m : TlmMeas) (formed : Bool) (s : State) : Host.Outcome State Fault Refusal :=
  .next (if s.powered = false then s
  else
    let next := fld (s.cfg 0x2C00) 15 0
    if s.tlm.period = 0 then
      { s with tlm := { s.tlm with period := next, snaps := if next = 0 then [] else [s.snapshotNow] } }
    else
      let old := if s.tlm.snaps = [] then [zeroSnap s.plat.restartAt 0#64] else s.tlm.snaps
      let s : State := { s with tlm := { s.tlm with snaps := (s.snapshotNow :: old).take 3, num := s.tlm.num + 1 } }
      let r := s.boundaryRecord m
      let s : State := if formed then s.formTlm r else { s with tlm := { s.tlm with due := some r } }
      { s with tlm := { s.tlm with period := next } })

/-- TELEMETRY_LATE (R375): the record is not formed within 10 ms: EV882; it is formed then, of its boundary's values. -/
def execTelemetryLate (s : State) : Host.Outcome State Fault Refusal :=
  .next (match s.powered, s.tlm.due with
    | true, some r => (s.raise 882 0).formTlm r
    | _, _ => s)

end Sys2Proof.Machine
end

