-- ==== Sys2Proof/Machine/Restart.lean ====
section
/-! DEFINITION. Machine/Restart.lean: what a host reset and a device restart leave (R45, R49, R248). -/

namespace Sys2Proof.Machine

/-! ## Resets of the host side (R21, R51, R248, R249) -/

/-- A view whose shadows, COMMIT.STATUS and latches are gone (R21). -/
def ReqView.dropShadows (v : ReqView) : ReqView :=
  { v with staged := [], latch := [], wlatch := none, result := .ok, refused := false }

/-- A register of commit group 16 (R22, R225). -/
def inGroup16 (key : Nat) : Bool := decide (0x1C0 ≤ key ∧ key < 0x200) || decide (0x800 ≤ key ∧ key < 0x1000)

/-- PERST_N, FLR and link down on the queues and the Host shadows (R21, R51, R248): queues disabled, group 16 at its reset
values, Host commits and latches gone, the seal log cleared, segments abandoned. A stream whose STREAM_CLOSE waited for its segment is
CLOSED, EV737. Retained completions stay. -/
def State.hostReset (s : State) : State :=
  let closing := s.sealing.streams.filter (fun x => x.closing.isSome)
  let t : State := { s with
    regs := { s.regs with
      active := s.regs.active.filter (fun e => !inGroup16 e.1)
      host := s.regs.host.dropShadows
      cur := match s.regs.cur with | some (.host, _) => none | c => c
      waiting := s.regs.waiting.filter (fun w => w.1 ≠ .host) }
    host := { s.host with queues := Vector.replicate 136 emptyQueue, fetched := [] }
    press := { s.press with held := s.press.held.filter (fun j => !j.sealing), waiting := s.press.waiting.filter (fun j => !j.sealing) }
    sealing := { s.sealing with
      log := none, nextLog := none, oldLogs := []
      streams := s.sealing.streams.map (fun x =>
        { x with run := none, queue := [], st := if x.closing.isSome then .closed else x.st, closing := none }) } }
  closing.foldl (fun s x => s.raiseSeal 737 x.no) t

/-- SPDM connections and the endpoint ID of VDM go with the transport (R224, R267). -/
def State.dropVdm (s : State) : State :=
  let s := (s.ident.conns.filter (fun c => decide (c.transport = 0))).foldl State.endSession s
  { s with
    host := { s.host with eid := 0 }
    ident := { s.ident with conns := s.ident.conns.filter (fun c => c.transport ≠ 0) } }

/-! ## The start of the machine (R45, R49, R50, R56, R403) -/

/-- Every raise on its way and every formed record taken and written. -/
def State.settle (s : State) : State :=
  let ts := s.evt.transit
  let s := ts.foldl State.takeRaise { s with evt := { s.evt with transit := [] } }
  let rs := s.evt.inflight
  rs.foldl State.writeRec { s with evt := { s.evt with inflight := [] } }

/-- The staged records in blocks, six at a time. -/
def State.makeBlocks : Nat → State → State
  | 0, s => s
  | k + 1, s => State.makeBlocks k s.makeBlock

/-- Before a restart that gives warning, every staged record is written as journal blocks and read back (R49, R367). Without
the journal key, or with the journal failed, there is nothing to write to. -/
def State.flushJournal (s : State) : State :=
  let s := s.settle
  if s.journalKey = none ∨ s.evt.jFail then s
  else
    let s := State.makeBlocks 6 s
    let head := match s.evt.jwait.getLast? with | some b => b.bseq | none => s.evt.jhead
    { s with evt := { s.evt with journal := s.evt.journal ++ s.evt.jwait, jwait := [], jhead := head } }

/-- The highest RECNO of the journal (R362). -/
def Evt.journalTop (e : Evt) : Nat :=
  e.journal.foldl (fun a b => b.recs.foldl (fun a r => max a r.recno) a) 0

/-- The event router and recorder after a start: the ring holds the START record; RECNO goes on from the journal (R362,
R363, R367). -/
def Evt.restart (e : Evt) (time : DWord) (arg : Nat) : Evt :=
  let no := e.journalTop + 1
  { startEvt with
    ring := [({ startRec no time with arg := arg }, false)], staging := [{ startRec no time with arg := arg }], nextNo := no + 1
    journal := e.journal, jClear := e.jClear, jCarried := e.jCarried
    nextBseq := e.nextBseq, jhead := e.jhead, prevBad := e.prevBad }

/-- What the vault keeps of identity, policy and firmware (R48, R283, R289, R290): a package that was not confirmed is kept as
DOWNLOADED, a partial one is erased. -/
def Ident.restart (i : Ident) : Ident :=
  { startIdent with
    slot0 := i.slot0, slot1 := i.slot1, fwA := i.fwA, fwB := i.fwB, fwGold := i.fwGold, preferred := i.preferred
    fwState := match i.fwState with
      | .downloaded => .downloaded | .handover => .downloaded | .confirming => .downloaded | .burning => .burning
      | .goldcopy => .goldcopy | _ => .idle
    dlPkg := if i.fwState = .downloading then none else i.dlPkg, dlCopy := i.dlCopy, fwCopies := i.fwCopies, fwesc := i.fwesc
    devCert := i.devCert, sealCert := i.sealCert }

/-- What of the cryptographic units outlives a start: helper records, the key journal and the count of draws (R295, R310). -/
def Crypt.restart (c : Crypt) : Crypt :=
  { startCrypt with
    helpers := c.helpers, enrolAt := c.enrolAt, due := c.due, keys := c.keys, sealGen := c.sealGen, kjSeq := c.kjSeq
    kjFill := c.kjFill, certGen := c.certGen, draws := c.draws, lastKey := c.lastKey, keysChanged := c.keysChanged
    pkuOps := c.pkuOps, pkuNext := c.pkuNext, pkuAhead := c.pkuAhead }

/-- What of sealing outlives a start: the sealing journal, the time base that its ANCHOR record holds, and the newest released seal (R190,
R204, R209, R210). -/
def Seal.restart (x : Seal) (cause : Nat) : Seal :=
  { startSeal with
    lastRun := x.lastRun, endCause := if x.running then cause else x.endCause, jLog := x.jLog, jSeq := x.jSeq, jPos := x.jPos
    lastGen := x.lastGen, base := x.jAnchor.map (fun r => (r.time.toNat % 2 ^ 63, r.unc))
    bnew := match x.jAnchor with | some r => r.time | none => 0#64
    uncWarned := x.uncWarned, released := x.released, signGen := x.signGen, signKeys := x.signKeys }

/-- A channel after a start: refresh budgets are kept, the rest is found anew at bring-up. -/
def Chan.restart (c : Chan) : Chan :=
  { startChan with parts := c.parts.map (fun p => { startPart with used := p.used, refreshed := p.refreshed }) }

/-- Group 30's registers, which the Keeper domain holds (R346). -/
def inGroup30 (key : Nat) : Bool := decide (key = 0xC0 ∨ key = 0xC4 ∨ key = 0xC8 ∨ key = 0xCC)

/-- SIDE.CFG as the SB_MODE straps set it (R403, R422). -/
def strapCfg (strap : Nat) : Word := word (0x2C + (1 + strap % 2) + 256 * (0x2C + (1 + strap / 2 % 2)))

/-- The machine at the beginning of R45 with a cause and RSTCAUSE bits; `host` is what the PCIe block is left as. -/
def State.start (s : State) (cause : Nat) (bits : Word) (host : HostIf) : State :=
  let bits := bits ||| word (bitAt s.keeper.lost 7)
  let v := { emptyView with rstcause := bits }
  let t : State :=
    { s with
      regs := { startRegs with active := s.regs.active.filter (fun e => inGroup30 e.1), host := v, side := v, int := v }
      evt := s.evt.restart s.rtc (bits.toNat % 256 + 256 * cause)
      plat := { startPlat with
        mode := s.plat.mode, perstN := s.plat.perstN, haltN := s.plat.haltN, restartAt := s.time
        lastRec := s.keeper.last, porStart := bits.getLsbD 0, keepLost := s.keeper.lost }
      keeper := { s.keeper with lost := false }
      chs := s.chs.map Chan.restart
      cellar := startCellar, press := startPress
      vault := { blankVault with
        intents := s.vault.intents, nextSeq := s.vault.nextSeq
        golden := s.vault.golden, hdrA := s.vault.hdrA, hdrB := s.vault.hdrB, wear := s.vault.wear, acts := s.vault.acts }
      ctl := { startCtl with pcIn := s.ctl.pcIn }
      cntr := startCntr, tlm := { startTlm with snaps := [zeroSnap s.time s.rtc] }, wd0 := startWd0
      clk := { startClk with
        keepSub := s.clk.keepSub, refclkLost := s.clk.refclkLost, tempNow := s.clk.tempNow
        lock := if s.clk.refclkLost then 0xF#32 else 0x1F#32 }
      host := host
      ident := s.ident.restart, sealing := s.sealing.restart cause, crypt := s.crypt.restart
      life := { startLife with
        otp := s.life.otp, moved := s.life.moved, tampLvl := s.life.tampLvl, vbatLow := s.life.vbatLow
        judged18 := s.life.judged18 && !s.keeper.lost
        scope := if s.keeper.dbgLatch then s.life.scope else 0, role := if s.keeper.dbgLatch then s.life.role else 0
        ssShown := s.life.otp.ssvid + 65536 * s.life.otp.ssid }
      side := { startSide with addrSel := s.side.addrSel, strap := s.side.strap }
      aux := { startAux with gpioIn := s.aux.gpioIn } }
  (t.setCfg 0x2A00 (strapCfg s.side.strap)).setMode .hold cause

/-- A device restart (R49, R50, R248): the event journal flushed where the cause gives warning, then HOLD at the beginning of
R45. The PCIe block keeps its link and configuration space; every queue is disabled and retained completions are
discarded. -/
def State.deviceRestart (s : State) (cause : Nat) (bits : Word) (flush : Bool) : State :=
  if s.powered = false then s
  else
    let s := if flush then s.flushJournal else s
    s.start cause bits { s.host with queues := Vector.replicate 136 emptyQueue, fetched := [], retained := [] }

/-- FLASH is lost (R394): device-side transactions stop and the PLL resets; EV963. -/
def State.flashLoss (s : State) : State :=
  if s.clk.flashLost then s
  else
    (({ s with clk := { s.clk with flashLost := true, lock := s.clk.lock &&& ~~~0x8#32 } } : State).setSticky 0x2E00 0x1#32).raise 963 0

end Sys2Proof.Machine
end

