-- ==== Sys2Proof/Machine/CommitExec.lean ====
section
/-! DEFINITION. Machine/CommitExec.lean: the commit cycle, its effects on the blocks, and the COMMIT commands (R16 to R23). -/

namespace Sys2Proof.Machine

/-! ## Safe points (R22) -/

/-- The requester has staged a value that changes a key (R22, R227). -/
def State.changes (s : State) (q : Req) (p : Nat → Bool) : Bool :=
  (s.view q).staged.any (fun e => p e.1 && decide (e.2 ≠ s.cfg e.1))

/-- A device-written queue that a commit disables waits for the commands of its submission queue in progress (R227). -/
def State.pairBusy (s : State) (q : Nat) : Bool :=
  if q = 1 then s.host.fetched.any (fun f => decide (f.q = 0) && f.taken)
  else s.sealing.streams.any (fun x => match x.run with | some r => decide (r.seg.f.q + 1 = q) | none => false)

/-- Group g is at its safe point for a requester's commit (R22). A group in which it has staged nothing is (R20); a transaction,
a fetch, a record write and a bus transfer are one command each, so none is open between two commands (log entry 8). Group 25 holds
what acts on the PUF, the DRBG and every engine and lane, so no Press job and no segment may be in flight. -/
def State.atSafePoint (s : State) (q : Req) (mask : Word) (g : Nat) : Bool :=
  if (s.stagedMask q).getLsbD g = false then true
  else if g < 8 then true
  else if h : g < 16 then decide ((s.chan ⟨g - 8, by omega⟩).st ≠ .released)
  else
    match g with
    | 16 => (List.range 136).all (fun k => !(qWritten k && qEn (s.qCfg k) && !qEn (s.commitView q mask (qBase k + 8)) && s.pairBusy k))
    | 19 => allCh.all (fun n =>
        !s.changes q (fun k => decide (k = 0x680 + 16 * n.val ∨ k = 0x684 + 16 * n.val)) || !s.wdRunning n ||
          decide ((s.agt n).wdAt = s.time))
    | 21 => !s.sealing.running || s.sealing.open_.isNone || decide (s.sealing.boundaryAt = some s.time)
    | 22 => (match s.ctl.prog with | some p => decide (p.wait ≠ .ready) | none => true)
    | 24 => decide (s.frameCount .inflight = 0)
    | 25 => s.crypt.draining.isNone && s.press.held.isEmpty && s.sealing.streams.all (fun x => x.run.isNone)
    | 26 => [0, 1].all (fun a =>
        !s.changes q (fun k => decide (k = 0x2800 + 0x40 * a ∨ k = 0x2804 + 0x40 * a)) || !(s.aux.ports.toList.getD a startAuxPort).busy)
    | 28 => decide (s.tlm.period = 0) || (match s.tlm.snaps with | b :: _ => decide (b.time = s.time) | [] => false)
    | _ => true

/-- The masked groups that have not reached their safe points. -/
def State.waitingGroups (s : State) (q : Req) (mask : Word) : Word :=
  ((groupsOf mask).filter (fun g => !s.atSafePoint q mask g)).foldl (fun a g => a ||| word (2 ^ g)) 0#32

/-! ## What the blocks do in the commit cycle -/

/-- An agent whose layout has changed is Decanted anew, its reservation taken for the new pinned set (R44, R141). -/
def State.redecant (s : State) (n : Ch) : State :=
  if ((s.chan n).st = .held ∨ (s.chan n).st = .decanting) ∧ s.mayDecant n = true then
    s.reserve n
  else s.updAgt n (fun a => { a with intact := false })

/-- Policy disables an agent (R44, R72, R457): DISABLED, its opcode, stitch and region tables cleared. -/
def State.disableAgent (s : State) (n : Ch) : State :=
  let mine := fun (k : Nat) => decide (opKey n.val 0 ≤ k ∧ k < opKey n.val 256 ∨ stKey n.val 0 0 ≤ k ∧ k < stKey n.val 64 0 ∨
    rgKey n.val 0 0 ≤ k ∧ k < rgKey n.val 128 0)
  let s : State := { s with regs := { s.regs with active := s.regs.active.filter (fun e => !mine e.1) } }
  let s := (s.updChan n (fun c =>
    { c with resv := 0, verdicts := [], bad := [], grafts := [], repairs := [], autorel := none, setRes := false, prefEnd := true })).setAgent n .disabled
  { s with
    ctl := { s.ctl with requests := s.ctl.requests.filter (fun m => m ≠ n.val) }
    ident := { s.ident with recs := s.ident.recs.filter (fun j => j.ch ≠ n.val) } }

/-- Policy enables an agent (R44, R176, R457): HELD; after the main program has ended its release step counts as reached. -/
def State.enableAgent (s : State) (n : Ch) : State :=
  let s := (s.updAgt n (fun a => { a with intact := false, pwrOff := false, stepReached := s.ctl.mainOver })).setAgent n .held
  (s.tryDecant n).requestSub n

/-- At the policy application of a start the active copies that the vault header names are active again (R57, R297). -/
def State.restoreActs (s : State) (n : Ch) : State :=
  allSlots.foldl (fun s k =>
    if s.vault.acts.contains (4 * n.val + k.val) then s.setCfg (slotReg n k) (s.cfg (slotReg n k) ||| 0x10#32) else s) s

/-- A layout commit of channel n, from the configuration `old` (R44, R127, R143, R149, R457). -/
def State.applyLayout (s : State) (old : Nat → Word) (n : Ch) : State :=
  let was := enabledIn old n.val
  let now := s.enabled n
  let s := if s.plat.boot.policy then s else s.restoreActs n
  let flipped := fun (k : SlotId) => decide (bit (old (slotReg n k)) 4 ≠ bit (s.cfg (slotReg n k)) 4)
  let s := (s.freeChan n).updChan n (fun c =>
    { c with verdicts := c.verdicts.map (fun d => { d with framed := false }), bad := c.bad.filter (fun p => !flipped p.slot) })
  let s : State := { s with vault := { s.vault with
    acts := s.vault.acts.filter (fun j => j / 4 ≠ n.val) ++
      (allSlots.filter (fun k => decide (s.actCopy n k = 2))).map (fun k => 4 * n.val + k.val) } }
  if was = true ∧ now = false then s.disableAgent n
  else if was = false ∧ now = true then s.enableAgent n
  else if now then s.redecant n
  else s

/-- Entries of a submission queue that were fetched and have not begun complete with ABORTED; a segment in progress runs to its
end (R227). -/
def State.abortQueue (s : State) (q : Nat) : State :=
  let segs := s.sealing.streams.flatMap (fun x => x.queue.filter (fun g => decide (g.f.q = q)))
  let s : State := { s with sealing := { s.sealing with streams := s.sealing.streams.map (fun x => { x with queue := x.queue.filter (fun g => decide (g.f.q ≠ q)) }) } }
  let s := segs.foldl (fun (s : State) g => s.failSeg g .aborted) s
  (s.host.fetched.filter (fun f => decide (f.q = q) && !f.taken)).foldl (fun s f => s.completeCmd f (reply .aborted)) s

/-- Retained completions of a queue that is enabled are written again, receipts first, with REPLAY = 1 and EV685 (R249). -/
def State.replay (s : State) (q : Nat) : State :=
  if s.host.retained.any (fun r => decide (r.cq = q)) then
    let s : State := { s with host := { s.host with
      retained := s.host.retained.map (fun r => if r.cq = q then { r with sent := false, replay := true } else r) } }
    s.flushCpl.raise 685 0
  else s

/-- A commit of group 16, from the configuration `old` (R227, R249). -/
def State.applyQueues (s : State) (old : Nat → Word) : State :=
  let qs := (List.range 136).filter qExists
  let off := qs.filter (fun q => qEn (old (qBase q + 8)) && !qEn (s.qCfg q))
  let on := qs.filter (fun q => !qEn (old (qBase q + 8)) && qEn (s.qCfg q))
  let s := (off.filter qSub).foldl State.abortQueue s
  let s := off.foldl (fun s q => s.updQueue q (fun _ => emptyQueue)) s
  let s := on.foldl (fun s q => s.updQueue q (fun _ => { emptyQueue with st := .running })) s
  (on.filter qWritten).foldl State.replay s

/-- EN = 0 committed (R190): the run ends with cause 0x80; every stream is closed, queued segments ABORTED; epochs that are
closed, unsigned or signed go on to their seals, and so does the one this boundary closes. -/
def State.sealDisable (s : State) : State :=
  if s.sealing.running = false then s
  else
    let s := s.sealing.streams.foldl (fun s x =>
      let s := match x.run with | some r => (s.segCredit x.no).failSeg r.seg .aborted | none => s
      let s := s.dropQueue x .aborted
      match x.closing with | some f => s.completeCmd f (okWith x.closeResult) | none => s) s
    { s with sealing := { s.sealing with
        running := false, run := 0, endCause := 0x80, streams := [], rr := 0, open_ := none, accepted := none, stalled := false } }

/-- The words of channel n's SFDP image that a list of staged entries writes (R97). -/
def sfdpWords (n : Ch) (staged : Store) : Store :=
  staged.filterMap (fun e => if sfdpKey n.val 0 ≤ e.1 ∧ e.1 < sfdpKey n.val 256 then some (e.1 - sfdpKey n.val 0, e.2) else none)

/-- The effects of a commit on the blocks, group by group; `staged` are its entries. -/
def State.applyEffects (s : State) (old : Nat → Word) (staged : Store) (groups : List Nat) : State :=
  let s := forCh (fun s n => if groups.contains n.val ∨ groups.contains (8 + n.val) then s.recomputeHitOnly n else s) s
  let s := forCh (fun s n => if groups.contains n.val then s.buildSfdp n (sfdpWords n staged) else s) s
  let s := forCh (fun s n => if groups.contains (8 + n.val) then s.applyLayout old n else s) s
  let s := if groups.contains 16 then s.applyQueues old else s
  let s := if groups.contains 19 then
      forCh (fun s n => if !bit (old (0x680 + 16 * n.val)) 31 ∧ bit (s.aper n) 31 then s.updAgt n (fun a => { a with wdAt := s.time, warn := false, served := false }) else s) s
    else s
  if groups.contains 21 ∧ bit (s.cfg 0x2400) 31 = false then s.sealDisable else s

/-- The masked groups' staged fields become active together, and COMMIT.GEN increments (R17). -/
def State.mergeStaged (s : State) (q : Req) (mask : Word) : State :=
  let inMask := fun (e : Nat × Word) => match groupOf e.1 with | some g => mask.getLsbD g | none => false
  let v := s.view q
  let s : State := { s with regs := { s.regs with
    active := (v.staged.filter (fun e => inMask e && decide (e.1 < 0x60000))).foldl (fun a e => storePut regReset a e.1 e.2) s.regs.active, gen := s.regs.gen + 1 } }
  s.setView q { s.view q with staged := v.staged.filter (fun e => !inMask e) }

/-! ## The end of a commit (R17, R19, R23) -/

/-- A policy commit's outcome is its requester's (R273). -/
def State.commitOutcome (s : State) (q : Req) (st : Status) (mask failGrp : Word) : State :=
  let s := s.setResult q st mask failGrp
  if q = .int ∧ mask.getLsbD 31 then s.policyOutcome st failGrp else s

/-- The GO that has waited longest begins (R19); one that fails its checks ends at once, and the next begins. -/
def State.startWaiting : Nat → State → State
  | 0, s => s
  | k + 1, s =>
    match s.regs.cur, s.regs.waiting with
    | none, (q, m) :: rest =>
      let t := ({ s with regs := { s.regs with waiting := rest } } : State).beginCommit q m
      State.startWaiting k (if t.regs.cur = none ∧ q = .int ∧ m.getLsbD 31 then t.policyOutcome (t.view q).result (t.view q).failGrp else t)
    | _, _ => s

/-- The commit engine is free: ACT commits that waited are made, and a waiting GO begins (R19). -/
def State.commitFree (s : State) : State := State.startWaiting 3 s.actsDue

/-- A reset of the host side ends the Host commit, and the slot is free for the next requester (R21, R51, R248). -/
def State.hostGone (s : State) : State := s.hostReset.commitFree

/-- The link goes down without PERST_N (R248, R395): EV680. -/
def State.linkDown (s : State) : State :=
  let s := s.hostGone
  ({ s with host := { s.host with linkUp := false, speed := 0, width := 0 } } : State).raise 680 0

/-- The commit in progress ends with a result, and what waited for it begins. -/
def State.endCommit (s : State) (q : Req) (st : Status) (mask failGrp : Word) : State :=
  (({ s with regs := { s.regs with cur := none } } : State).commitOutcome q st mask failGrp).commitFree

/-- A requester whose register accesses arrive: main power is on; Host needs the link, Memory Space Enable and D0 (R40, R219,
R250). -/
def State.reaches_ (s : State) (q : Req) : Bool :=
  s.powered && (match q with
    | .host => s.plat.perstN && s.host.linkUp && s.host.mse && !s.host.d3hot && !s.host.flr
    | _ => true)

/-- COMMIT_GO (R17, R19, R20). -/
def execCommitGo (q : Req) (mask : Word) (s : State) : Host.Outcome State Fault Refusal :=
  .next (if s.reaches_ q then s.commitGo q mask else s)

/-- COMMIT_APPLY (R17, R22): the commit cycle: every masked group is at its safe point. -/
def execCommitApply (s : State) : Host.Outcome State Fault Refusal :=
  .next (match s.powered, s.regs.cur with
    | true, some (q, mask) =>
      if s.waitingGroups q mask ≠ 0#32 then s
      else
        let groups := (groupsOf mask).filter (fun g => (s.stagedMask q).getLsbD g)
        ((s.mergeStaged q mask).applyEffects s.cfg (s.view q).staged groups).endCommit q .ok mask 0#32
    | _, _ => s)

/-- COMMIT_TIMEOUT (R17): the safe points have not come within TIMEOUT: BUSY_RETRY, the staged fields kept. -/
def execCommitTimeout (s : State) : Host.Outcome State Fault Refusal :=
  .next (match s.powered, s.regs.cur with
    | true, some (q, mask) => if s.waitingGroups q mask = 0#32 then s else s.endCommit q .busyRetry mask (s.waitingGroups q mask)
    | _, _ => s)

/-- A write to COMMIT.DISCARD: the staged fields of the masked groups go, but for groups of the requester's own commit (R23). -/
def State.discard (s : State) (q : Req) (mask : Word) : State :=
  let own := (s.regs.cur.toList ++ s.regs.waiting).foldl (fun (a : Word) c => if c.1 = q then a ||| c.2 else a) 0#32
  let m := mask &&& ~~~own
  s.setView q { s.view q with staged := (s.view q).staged.filter (fun e => match groupOf e.1 with | some g => !m.getLsbD g | none => true) }

/-- COMMIT_DISCARD (R23). -/
def execCommitDiscard (q : Req) (mask : Word) (s : State) : Host.Outcome State Fault Refusal :=
  .next (if s.reaches_ q then s.discard q mask else s)

end Sys2Proof.Machine
end

