-- ==== Sys2Proof/Machine/AuxPorts.lean ====
section
/-! DEFINITION. Machine/AuxPorts.lean: auxiliary serial ports, UART console and GPIO (R414 to R420). -/

namespace Sys2Proof.Machine

/-! ## The ports (R414 to R418) -/

/-- A register of port ASa. -/
def asReg (a off : Nat) : Nat := 0x2800 + 0x40 * a + off

def State.auxPort (s : State) (a : Nat) : AuxPort := s.aux.ports.toList.getD a startAuxPort

/-- A port changed. -/
def State.updAux (s : State) (a : Nat) (f : AuxPort → AuxPort) : State :=
  if h : a < 2 then { s with aux := { s.aux with ports := s.aux.ports.set a (f s.aux.ports[a]) } } else s

/-- MASTER, LSBFIRST, FRAME, FSEL and WIDTH of ASa.CFG (R423). -/
def State.asMaster (s : State) (a : Nat) : Bool := bit (s.cfg (asReg a 0)) 31
def State.asLsb (s : State) (a : Nat) : Bool := bit (s.cfg (asReg a 0)) 30
def State.asFrame (s : State) (a : Nat) : Bool := bit (s.cfg (asReg a 0)) 29
def State.asFsel (s : State) (a : Nat) : Nat := fld (s.cfg (asReg a 0)) 23 22
def State.asWidth (s : State) (a : Nat) : Nat := fld (s.cfg (asReg a 0)) 21 16

/-- SELCFG.EN of a select; a slave uses select 0's entry (R414, R415). -/
def State.selOk (s : State) (a sel : Nat) : Bool := bit (s.cfg (asReg a 4)) (4 * (if s.asMaster a then sel else 0) + 2)

/-- A transfer is rejected (R416, R418): REJECT and the reject event. -/
def State.auxReject (s : State) (a : Nat) : State := (s.setSticky (asReg a 0xC) 0x20000000#32).raise (1002 + a) 0

/-- Byte i of a buffer. -/
def bufByte (st : Store) (i : Nat) : Byte := BitVec.ofNat 8 ((storeGet zeroDefault st (i / 4)).toNat / 2 ^ (8 * (i % 4)))

/-- The bytes of the transmit buffer that `n` bits take (R415). -/
def AuxPort.txBytes (p : AuxPort) (n : Nat) : List Byte := (List.range ((n + 7) / 8)).map (bufByte p.tx)

/-- A transfer begins, or a slave port is armed (R415, R417). -/
def State.auxBegin (s : State) (a sel len : Nat) (frame : Bool) (ftx : Word) : State :=
  let s := s.updAux a (fun p => { p with busy := true, len := len, bits := 0, frame := frame })
  if s.asMaster a then s.emit (if frame then .frame a sel len ftx else .aux a sel len ((s.auxPort a).txBytes len)) else s

/-- CTL.GO (R415, R416, R418): LEN 0 is a NOOP; BUSY, FRAME = 1 and a select that is not usable reject the transfer. -/
def State.auxGo (s : State) (a sel len : Nat) : State :=
  if len = 0 then s
  else if (s.auxPort a).busy ∨ s.asFrame a = true ∨ s.selOk a sel = false then s.auxReject a
  else s.auxBegin a sel len false 0#32

/-- A write to ASa.FTX (R416, R418): one frame; a WIDTH outside 4 to 32, BUSY and an unusable select reject it. Outside frame
mode the write starts nothing. -/
def State.frameSend (s : State) (a : Nat) (v : Word) : State :=
  if s.asFrame a = false then s
  else if (s.auxPort a).busy ∨ s.asWidth a < 4 ∨ 32 < s.asWidth a ∨ s.selOk a (s.asFsel a) = false then s.auxReject a
  else s.auxBegin a (s.asFsel a) (s.asWidth a) true v

/-- Bytes stored from byte 0 onward; later bytes stay (R415). -/
def bufStore (st : Store) (bs : List Byte) : Store :=
  (List.range ((bs.length + 3) / 4)).foldl (fun acc j =>
    storePut zeroDefault acc j (word (leNat ((List.range 4).map (fun i =>
      if 4 * j + i < bs.length then bs.getD (4 * j + i) 0#8 else bufByte st (4 * j + i)))))) st

/-- `n` received bits as buffer bytes: the unused bits of the last byte read 0 (R415). -/
def rxBytes (lsb : Bool) (n : Nat) (bs : List Byte) : List Byte :=
  let k := (n + 7) / 8
  let full := padTo k bs
  if n % 8 = 0 then full
  else
    let m : Byte := if lsb then BitVec.ofNat 8 (2 ^ (n % 8) - 1) else BitVec.ofNat 8 (256 - 2 ^ (8 - n % 8))
    full.take (k - 1) ++ [full.getD (k - 1) 0#8 &&& m]

/-- A transfer ends with `n` bits received (R415 to R418); a frame's bits are the low WIDTH bits of the number the bytes
spell. -/
def State.auxEnd (s : State) (a n : Nat) (rx : List Byte) : State :=
  s.updAux a (fun p =>
    if p.frame then { p with busy := false, bits := n, frx := word (leNat rx % 2 ^ n) }
    else { p with busy := false, bits := n, rx := bufStore p.rx (rxBytes (s.asLsb a) n rx) })

/-- CTL.ABORT (R418): a running transfer stops at the next bit boundary with `n` bits done; ABORTED and its event. -/
def State.auxAbort (s : State) (a n : Nat) (rx : List Byte) : State :=
  if (s.auxPort a).busy then
    ((s.auxEnd a (min n (s.auxPort a).len) rx).setSticky (asReg a 0xC) 0x10000000#32).raise (1002 + a) 0
  else s

/-- AUX_GO (R415, R418). -/
def execAuxGo (q : Req) (a : Fin 2) (sel len : Nat) (s : State) : Host.Outcome State Fault Refusal :=
  .next (if s.reaches_ q then s.auxGo a.val (sel % 4) (len % 16384) else s)

/-- AUX_ABORT (R418): `n` bits done and what was received, at the bit boundary. -/
def execAuxAbort (q : Req) (a : Fin 2) (n : Nat) (rx : List Byte) (s : State) : Host.Outcome State Fault Refusal :=
  .next (if s.reaches_ q then s.auxAbort a.val n rx else s)

/-- FRAME_SEND (R416). -/
def execFrameSend (q : Req) (a : Fin 2) (v : Word) (s : State) : Host.Outcome State Fault Refusal :=
  .next (if s.reaches_ q then s.frameSend a.val v else s)

/-- AUX_TRANSFER_DONE (R415): the select of a master transfer deasserts; DONE and the completion event. -/
def execAuxTransferDone (a : Fin 2) (rx : List Byte) (s : State) : Host.Outcome State Fault Refusal :=
  .next (if s.powered ∧ (s.auxPort a.val).busy ∧ s.asMaster a.val = true then
    ((s.auxEnd a.val (s.auxPort a.val).len rx).setSticky (asReg a.val 0xC) 0x40000000#32).raise (1000 + a.val) 0
  else s)

/-- SLAVE_TRANSFER_END (R417): CS_N[0] rises after `n` clocked bits. An armed port stores those of LEN, more set OVER; a port
that is not armed sets OVER. -/
def execSlaveTransferEnd (a : Fin 2) (n : Nat) (rx : List Byte) (s : State) : Host.Outcome State Fault Refusal :=
  .next (
    let p := s.auxPort a.val
    if s.powered = false ∨ s.asMaster a.val = true then s
    else if p.busy then
      let s := s.emit (.aux a.val 0 (min n p.len) (p.txBytes (min n p.len)))
      let s := ((s.auxEnd a.val (min n p.len) rx).setSticky (asReg a.val 0xC) 0x40000000#32).raise (1000 + a.val) 0
      if p.len < n then (s.setSticky (asReg a.val 0xC) 0x8000000#32).raise (1004 + a.val) 0 else s
    else (s.setSticky (asReg a.val 0xC) 0x8000000#32).raise (1004 + a.val) 0)

/-- ASa.STAT (R423). While BUSY, BITS is what the wires have done so far: free, up to LEN (log entry 2). -/
def State.asStat (s : State) (a : Nat) : Word :=
  let p := s.auxPort a
  let bits := if p.busy then s.free.toNat % (p.len + 1) else p.bits
  word (bitAt p.busy 31 + bits % 16384) ||| s.sticky (asReg a 0xC)

/-- RX buffer word i (R415, R418): of a transfer that runs, what its bits have been so far is free (log entry 2). -/
def State.rxWord (s : State) (a i : Nat) : Word :=
  let p := s.auxPort a
  if p.busy ∧ p.frame = false ∧ 32 * i < p.len then s.free.setWidth 32 else storeGet zeroDefault p.rx i

/-! ## The UART console (R419) -/

/-- UART_RECEIVE (R341, R419): a byte arrives, or overruns, where console input is enabled. -/
def execUartReceive (b : Byte) (overrun : Bool) (s : State) : Host.Outcome State Fault Refusal :=
  .next (if s.powered = false ∨ s.haltScope = false then s
  else if overrun then (s.setSticky 0x28A4 0x4#32).raise 1006 0
  else { s with aux := { s.aux with console := s.aux.console ++ [b] } })

/-! ## GPIO (R420) -/

/-- The pin is an input: neither event mode nor OUTEN, or the pins are undriven still (R420). -/
def State.gpioInput (s : State) (k : Nat) : Bool :=
  !s.ctl.driven || (!bit (s.cfg 0x2880) (16 + k) && !bit (s.cfg 0x2880) k)

/-- The level a pin drives, where it drives (R420). -/
def State.gpioDrive (s : State) (k : Nat) : Option Bool :=
  if s.gpioInput k ∨ s.powered = false then none
  else
    let level := if bit (s.cfg 0x2880) (16 + k) then decide (bit (s.sticky 0x414) k = bit (s.cfg 0x2884) (16 + k)) else bit (s.cfg 0x2888) k
    if bit (s.cfg 0x2884) k ∧ level then none else some level

/-- GPIO_EDGE (R420): the filtered level of a ball changes; an input with its EVEN bit raises its group's event. -/
def execGpioEdge (k : Fin 16) (level : Bool) (s : State) : Host.Outcome State Fault Refusal :=
  .next (if s.powered = false ∨ bit s.aux.gpioIn k.val = level then s
  else
    let m := word (2 ^ k.val)
    ({ s with aux := { s.aux with gpioIn := if level then s.aux.gpioIn ||| m else s.aux.gpioIn &&& ~~~m } } : State).raiseIf
      (s.gpioInput k.val && bit (s.cfg 0x2890) k.val) (1008 + k.val / 4) 0)

end Sys2Proof.Machine
end

