-- ==== Sys2Proof/Machine/AgentPort.lean ====
section
/-! DEFINITION. Machine/AgentPort.lean: agent-side transactions (chapter 03). -/

namespace Sys2Proof.Machine

/-! ## Counting (R96, R97, R370) -/

/-- Bytes served from the Cellar, each counted once (R96). -/
def State.countCellar (s : State) (n : Ch) (k : Nat) : State :=
  (s.updPort n (fun p => { p with srvCellar := (p.srvCellar + k) % 2 ^ 64 })).cnt n 2 k

/-- Bytes served by read-through, each counted once (R96). -/
def State.countRt (s : State) (n : Ch) (k : Nat) : State :=
  (s.updPort n (fun p => { p with srvRt := (p.srvRt + k) % 2 ^ 64 })).cnt n 3 k

/-- Synthesised bytes (R96). -/
def State.countSynth (s : State) (n : Ch) (k : Nat) : State :=
  (s.updPort n (fun p => { p with synth := wrap32 (p.synth + k) })).cnt n 12 k

/-- An underrun: the wire undriven to CS_N's rise, UNDERRUNS, the event, and the agent's reset where UNDERRST is 1 (R66). -/
def State.underrun (s : State) (n : Ch) (vpage op : Nat) : State :=
  let s := ((s.updPort n (fun p => { p with underruns := wrap32 (p.underruns + 1) })).cnt n 11 1).raiseCh n 4 (chArg vpage op 0 0)
  if bit (s.cfg (fch n 4)) 6 then s.holdAgent n else s

/-! ## The gate every transaction passes (R69, R73, R75, R91) -/

/-- The port takes the edges of this agent: power is on, the agent runs, serving is not stopped (R44, R90, R91). -/
def State.portOpen (s : State) (n : Ch) : Bool :=
  s.powered && decide ((s.chan n).st = .released) && !(s.chan n).port.stopped

/-- An unlisted or phase-refused opcode: ignored until CS_N rises, REFUSALS counts it, its event is raised (R73, R95); an unlisted one
posts an exception toward the Warden pair (R10). -/
def State.refuseOp (s : State) (n : Ch) (k : Nat) (op : Byte) : State :=
  let s := ((s.updPort n (fun p => { p with refusals := wrap32 (p.refusals + 1) })).cnt n 10 1).raiseCh n k (chArg 0 op.toNat 0 0)
  if k = 0 then s.exception true (64 * n.val) else s

/-- The classes that follow the blocked-write emulation where the phase refuses them (R73). -/
def blockedClass (c : Nat) : Bool := decide (c = 7 ∨ c = 8 ∨ c = 9)

/-- A transaction of class `cls`: where the port is shut, or continuous read is armed so that no opcode is decoded (R76),
or the opcode's entry is of another class (that class's own command carries it), nothing happens here; an unlisted or
phase-refused opcode is refused; RESET_ENABLE is disarmed by every transaction (R75); else `k` acts on the entry. The Bool
given to `k` is the entry's phase bit, which only program and erase classes reach as false. -/
def State.gate (s : State) (t : Txn) (cls : Nat) (k : Word → Bool → State → State) : State :=
  if s.portOpen t.ch = false ∨ (s.chan t.ch).port.xip.isSome then s
  else
    let s1 := (s.updPort t.ch (fun p => { p with rstEn := false })).cnt t.ch 0 1
    match s.lookOp t.ch t.op t.ext with
    | .unlisted => s1.refuseOp t.ch 0 t.op
    | .phaseRefused e =>
      if opClass e = cls ∧ blockedClass cls = true then k e false s1
      else if blockedClass (opClass e) = true then s1 else s1.refuseOp t.ch 1 t.op
    | .listed e => if opClass e = cls then k e true s1 else s1

/-- The address bytes of an entry: three, four or as many as the port's current address mode has (R70); four in 8D-8D-8D (R78). -/
def State.addrBytes (s : State) (n : Ch) (e : Word) : Nat :=
  let p := (s.chan n).port
  if opAddr e = 0 then 0
  else if p.mode = 9 ∨ opAddr e = 2 ∨ (opAddr e = 3 ∧ p.addr4 = true) then 4
  else 3

/-- The address of a transaction: what its address bytes spell, most significant byte first (R5, R70). -/
def State.txnAddr (s : State) (t : Txn) (e : Word) : Nat := beNat (t.addr.take (s.addrBytes t.ch e))

/-! ## Array reads (R62 to R68, R85, R87, R89, R100, R105, R149, R455) -/

/-- Where the bytes of a page came from: the next page's crossing depends on it (R68). -/
inductive Served where
  | stop
  | hit
  | rt (part : PartId) (copy phys : Nat)
deriving DecidableEq, Repr

/-- The heartbeat page of channel n (R93). -/
def State.hbPage (s : State) (n : Ch) (v : Nat) : Bool :=
  bit (s.cfg (fch n 4)) 12 && decide (fld (s.cfg (fch n 0x24)) 31 12 = v)

/-- REF set on the frames of a page that is served (R142). -/
def State.touch (s : State) (n : Ch) (p : PageId) : State :=
  { s with cellar := { s.cellar with frames := s.cellar.frames.map (fun f => if f.holds n p then { f with ref := true } else f) } }

/-- A virtual byte range meets the range of a suspended operation (R87). -/
def Port.inSuspended (p : Port) (a len : Nat) : Bool :=
  p.ops.any (fun o => decide (o.st = .suspended ∨ o.st = .heldInArb) && decide (a < o.base + o.len ∧ o.base < a + len))

/-- WIP is 1 from an accepted program or erase (R85). -/
def Port.wipOp (p : Port) : Bool := p.ops.any AgentOp.live

/-- A read that is not served while busy, in a suspended range or before a redirect is active (R85, R87, R455). -/
def State.notServed (s : State) (n : Ch) (v op : Nat) : State := s.raiseCh n 12 (chArg v op 0 0)

/-- Bytes of one page by read-through (R63, R68, R85): from part, copy and physical page. A hit-only entry in the transaction's
first page, a FAILED part, FLASH lost (R394), a non-contiguous crossing from a page being read through and a busy port stop it; at
a crossing from a hit the device read is issued 512 bytes ahead, so it is in time for a hit-only entry too (R68). -/
def State.readThrough (s : State) (t : Txn) (v len : Nat) (prev : Option Served) (part : PartId) (copy phys : Nat) :
    State × Served :=
  let c := s.chan t.ch
  let n := t.ch
  if c.port.wipOp then (s.notServed n v t.op.toNat, .stop)
  else if s.clk.flashLost ∨ (s.partOf n copy part).failed ∨ (prev = none ∧ c.port.hitOnly.contains t.op.toNat = true) then
    (s.underrun n v t.op.toNat, .stop)
  else
    match prev with
    | some (.rt p2 c2 ph2) =>
      if p2 = part ∧ c2 = copy ∧ phys = ph2 + 1 then (s.countRt n len, .rt part copy phys)
      else (s.underrun n v t.op.toNat, .stop)
    | _ => ((s.cnt n 5 1).countRt n len, .rt part copy phys)

/-- A DEFERRED read-through opens its page's verdict, unless one is pending (R89, R144, R146). -/
def State.withVerdict (r : State × Served) (n : Ch) (p : PageId) (copy : Nat) : State × Served :=
  match r.2 with
  | .rt .. =>
    if (r.1.chan n).verdicts.any (fun d => decide (d.pg = p) && !d.late) then r
    else
      let s := r.1.openVerdict n p copy
      (s, if s.portOpen n then r.2 else .stop)
  | _ => r

/-- How many of the data bytes i to i + len − 1 the ranges hold, and how many from i on without a gap (R89). -/
def fetchedIn (rs : List (Nat × Nat)) (i len : Nat) : Nat := min len ((rs.map (fun r => min (i + len) (r.1 + r.2) - max i r.1)).sum)
def fetchedFrom (rs : List (Nat × Nat)) (i len : Nat) : Nat :=
  min len (rs.foldl (fun a r => if r.1 ≤ i then max a (r.1 + r.2 - i) else a) 0)

/-- Bytes of a page with a pending verdict (R89, R458): those fetched already from its In-flight frame, as Cellar bytes, the others
by read-through of the copy under the verdict. -/
def State.servePending (s : State) (t : Txn) (v i len : Nat) (prev : Option Served) (d : Pend) : State × Served :=
  let n := t.ch
  let have_ := if d.framed then fetchedIn t.fetched i len else 0
  if have_ = len then (s.countCellar n len, .hit)
  else
    match s.pagePlace n d.copy d.pg.slot false d.pg.page with
    | none => (s.notServed n v t.op.toNat, .stop)
    | some x =>
      let r := s.readThrough t v (len - have_) prev x.1 d.copy x.2
      match r.2 with
      | .stop => (r.1.countCellar n (if d.framed then fetchedFrom t.fetched i len else 0), .stop)
      | got => (r.1.countCellar n have_, got)

/-- Bytes of one page of an image (R62, R63, R66, R89, R143, R149, R455). A quarantine by a known-bad page is one that AUTOREL may
end. DESIGN CHOICE: R162 names failures of a page, and does not say whether a read of a page known bad already is one (log entry
64). -/
def State.serveImage (s : State) (t : Txn) (v i len : Nat) (prev : Option Served) (r : Region) (p : PageId) : State × Served :=
  let n := t.ch
  let c := s.chan n
  if c.bad.contains p then
    let s := s.updChan n (fun c => { c with autorel := some (p, false, false) })
    ((s.raiseCh n 52 (chArg p.page t.op.toNat (s.actCopy n p.slot) p.slot.val)).failedVerdict n 1, .stop)
  else if (s.frameOf n p).isSome then (((s.touch n p).cnt n 4 1).countCellar n len, .hit)
  else if r.policy ≠ 1 then (s.underrun n v t.op.toNat, .stop)
  else
    match c.verdicts.find? (fun d => decide (d.pg = p) && !d.late), c.grafts.find? (fun g => decide (g.pg = p) && g.served && !g.node) with
    | some d, _ => s.servePending t v i len prev d
    | none, some g =>
      match s.redirectOf n g with
      | some (copy, k, phys) => State.withVerdict (s.readThrough t v len prev k copy phys) n p copy
      | none => (s.notServed n v t.op.toNat, .stop)
    | none, none =>
      match s.servingExtent n v with
      | some e => State.withVerdict (s.readThrough t v len prev e.part e.copy (e.phys v)) n p (s.actCopy n p.slot)
      | none => (s.underrun n v t.op.toNat, .stop)

/-- Bytes of the heartbeat page from an offset on: HBOK, HBBAD, the window flag, then 0xFF (R94). -/
def State.hbBytes (s : State) (n : Ch) (off len : Nat) : List Byte :=
  let p := (s.chan n).port
  let b := ((leBytes 4 p.hbok ++ leBytes 4 p.hbbad ++ leBytes 1 (b2n (s.wdInWin n))).drop off).take len
  b ++ List.replicate (len - b.length) 0xFF#8

/-- Bytes of one virtual page (R62 to R68, R93, R94, R100, R105). -/
def State.servePage (s : State) (t : Txn) (v off i len : Nat) (prev : Option Served) : State × Served :=
  let n := t.ch
  if s.hbPage n v then ((s.countSynth n len).emit (.wire n (s.dqs n) (s.hbBytes n off len)), .hit)
  else
    match s.regionAt n v with
    | none => (s.raiseCh n 16 (chArg v t.op.toNat 0 0), .stop)
    | some r =>
      if s.permNow n r 0 = false then (s.raiseCh n 16 (chArg v t.op.toNat 0 0), .stop)
      else if (s.chan n).port.inSuspended (4096 * v + off) len then (s.notServed n v t.op.toNat, .stop)
      else if r.policy = 3 then
        match s.servingExtent n v with
        | some e => s.readThrough t v len prev e.part e.copy (e.phys v)
        | none => (s.underrun n v t.op.toNat, .stop)
      else s.serveImage t v i len prev r ⟨r.slot, imageIndex (s.regions n) r.slot v⟩

/-- The pages of a read in order: byte `i` of the transaction is at virtual byte `a` (R68, R100). A byte that the clock
does not allow is an underrun (R66). -/
def State.servePages (t : Txn) : Nat → State → Nat → Nat → Option Served → State × Bool
  | 0, s, _, _, _ => (s, true)
  | f + 1, s, i, a, prev =>
    if t.n ≤ i then (s, true)
    else
      let v := s.vwrap t.ch (a / 4096)
      let off := a % 4096
      let want := min (4096 - off) (t.n - i)
      let len := (match t.lateAt with | some k => if i ≤ k ∧ k < i + want then k - i else want | none => want)
      let s := if prev.isSome then s.cnt t.ch 6 1 else s
      let r := if len = 0 then (s, Served.hit) else s.servePage t v off i len prev
      match r.2 with
      | .stop => (r.1, false)
      | got =>
        if len < want then (r.1.underrun t.ch v t.op.toNat, false)
        else State.servePages t f r.1 (i + want) (a + want) (some got)

/-- The READ transaction from its address on (R62 to R68): the pages served, the wire's bytes named to the outside. The
Bool says whether the transaction completed. -/
def State.readArray (s : State) (t : Txn) (addr : Nat) : State × Bool :=
  let r := State.servePages t (t.n / 4096 + 2) (s.cnt t.ch 1 1) 0 addr none
  (r.1.emit (.arrayRead t.ch addr t.n r.2 (s.dqs t.ch)), r.2)

/-- Continuous read is armed by a completed READ with CONT = 1, XIPEN = 1 and matching mode bits; while it is armed, mode bits that
differ disarm it (R76). -/
def State.armXip (s : State) (t : Txn) (acfg e : Word) (done : Bool) : State :=
  let same := decide (fld acfg 31 24 = t.modeBits.toNat)
  let arm := done && opCont e && bit acfg 13
  s.updPort t.ch (fun p => { p with xip := if same then (if arm then some t.op else p.xip) else none })

/-- AGENT_READ (R62). -/
def execAgentRead (t : Txn) (s : State) : Host.Outcome State Fault Refusal :=
  .next (s.gate t 1 (fun e _ s =>
    let r := s.readArray t (s.txnAddr t e)
    r.1.armXip t (s.cfg (fch t.ch 4)) e r.2))

/-- CONTINUOUS_READ (R76): with continuous read armed the transaction starts with the address and uses the armed entry;
mode bits that differ disarm it. With none armed it does not arise. -/
def execContinuousRead (t : Txn) (s : State) : Host.Outcome State Fault Refusal :=
  .next (match (s.chan t.ch).port.xip with
    | none => s
    | some op =>
      if s.portOpen t.ch then
        let t := { t with op := op }
        let e := s.cfg (opKey t.ch.val op.toNat)
        let s := (s.updPort t.ch (fun p => { p with rstEn := false })).cnt t.ch 0 1
        let r := s.readArray t (s.txnAddr t e)
        r.1.armXip t (s.cfg (fch t.ch 4)) e r.2
      else s)

/-! ## Identification, SFDP and the emulated registers (R77 to R82) -/

/-- READ_ID (R77): IDLEN + 1 bytes of JEDEC0 to JEDEC3, then 0x00. -/
def State.idBytes (s : State) (n : Ch) (k : Nat) : List Byte :=
  let all := wordBytes (s.cfg (fch n 0x14)) ++ wordBytes (s.cfg (fch n 0x18)) ++ wordBytes (s.cfg (fch n 0x1C)) ++
    wordBytes (s.cfg (fch n 0x20))
  padTo k (all.take (fld (s.cfg (fch n 4)) 11 8 + 1))

/-- READ_ID (R77, R96). -/
def execReadId (t : Txn) (s : State) : Host.Outcome State Fault Refusal :=
  .next (s.gate t 3 (fun _ _ s => (s.countSynth t.ch t.n).emit (.wire t.ch (s.dqs t.ch) (s.idBytes t.ch t.n))))

/-- READ_SFDP (R79, R96): the bytes of the synthesised image from the address on. -/
def execReadSfdp (t : Txn) (s : State) : Host.Outcome State Fault Refusal :=
  .next (s.gate t 2 (fun e _ s =>
    (s.countSynth t.ch t.n).emit (.wire t.ch (s.dqs t.ch) (s.sfdpBytes t.ch (s.txnAddr t e) t.n))))

/-- Operations that are left when one has ended: WIP and WEL fall with the last of them (R83). -/
def Port.ended (p : Port) (ops : List AgentOp) : Port :=
  let busy := ops.any AgentOp.live
  { p with ops := ops, wip := busy, wel := p.wel && busy }

/-- The running operation of a port, and the rest. -/
def takeRunning : List AgentOp → Option (AgentOp × List AgentOp)
  | [] => none
  | o :: r => if o.st = .running then some (o, r) else (takeRunning r).map (fun x => (x.1, o :: x.2))

/-- The running operation of channel n ends (R83): its parts are free, WIP and WEL fall, a failure sets PFAIL or EFAIL. -/
def State.opEnd (s : State) (n : Ch) (ok : Bool) : State :=
  match takeRunning (s.chan n).port.ops with
  | some (o, rest) =>
    (s.setBusy n o.parts none).updPort n (fun p =>
      { p.ended rest with
        pfail := p.pfail || (!ok && decide (o.kind = .program))
        efail := p.efail || (!ok && decide (o.kind = .erase)) })
  | none => s

/-- The emulated busy time of a blocked write expires (R84): WIP and WEL fall. -/
def State.blockEnd (s : State) (n : Ch) : State :=
  if (s.chan n).port.blockBusy then s.updPort n (fun p => { p with blockBusy := false, wip := p.wipOp, wel := false }) else s

/-- What ends while a register read is held open (R81): the emulated busy time, or the running operation. -/
def State.busyEnds (s : State) (n : Ch) (ok : Bool) : State := if (s.chan n).port.blockBusy then s.blockEnd n else s.opEnd n ok

/-- READ_REG (R81, R96): the selected emulated register, repeated, each repetition sampled at its own launch edge. -/
def execReadReg (t : Txn) (s : State) : Host.Outcome State Fault Refusal :=
  .next (s.gate t 4 (fun e _ s =>
    let s := s.countSynth t.ch t.n
    match t.endsAt with
    | none => s.emit (.wire t.ch (s.dqs t.ch) (List.replicate t.n (s.emulReg t.ch (opArg e))))
    | some (k, ok) =>
      let u := s.busyEnds t.ch ok
      u.emit (.wire t.ch (s.dqs t.ch)
        (List.replicate (min k t.n) (s.emulReg t.ch (opArg e)) ++ List.replicate (t.n - k) (u.emulReg t.ch (opArg e))))))

/-- WRITE_ENABLE (R82). DESIGN CHOICE: it acts while WIP is 1 too; R85 names it neither among the commands that act nor among those
ignored (log entry 14). -/
def execWriteEnable (t : Txn) (s : State) : Host.Outcome State Fault Refusal :=
  .next (s.gate t 5 (fun _ _ s => s.updPort t.ch (fun p => { p with wel := true })))

/-- WRITE_DISABLE (R82). -/
def execWriteDisable (t : Txn) (s : State) : Host.Outcome State Fault Refusal :=
  .next (s.gate t 6 (fun _ _ s => s.updPort t.ch (fun p => { p with wel := false })))

/-- A write-class command ignored (R82, R95): WEL is cleared where CS_N did not rise on a byte boundary. -/
def State.writeIgnored (s : State) (t : Txn) (v : Nat) : State :=
  (s.updPort t.ch (fun p => { p with wel := p.wel && t.onByte })).raiseCh t.ch 13 (chArg v t.op.toNat 0 0)

/-- WEL is 1 and CS_N rises on a byte boundary (R82). -/
def State.writeOk (s : State) (t : Txn) : Bool := (s.chan t.ch).port.wel && t.onByte

/-- WRITE_REG (R81): into the emulated SR (bits 7:2) or CR. -/
def execWriteReg (t : Txn) (s : State) : Host.Outcome State Fault Refusal :=
  .next (s.gate t 12 (fun e _ s =>
    if s.writeOk t then
      match t.data with
      | [] => s
      | b :: _ => s.updPort t.ch (fun p => if opArg e = 0 then { p with srHigh := b &&& 0xFC#8 } else { p with cr := b })
    else s.writeIgnored t 0))

/-- The first valid mode-switch register that a MODESET matches (R74). -/
def State.modeSwitch (s : State) (t : Txn) (b : Byte) : Option Word :=
  ([0, 1, 2, 3].map (fun k => s.cfg (fch t.ch (0x28 + 4 * k)))).find?
    (fun m => bit m 31 && decide (fld m 7 0 = t.op.toNat ∧ fld m 15 8 = b.toNat))

/-- MODESET (R74). -/
def execModeset (t : Txn) (s : State) : Host.Outcome State Fault Refusal :=
  .next (s.gate t 13 (fun _ _ s =>
    if s.writeOk t then
      match t.data with
      | [] => s.raiseCh t.ch 13 (chArg 0 t.op.toNat 0 0)
      | b :: _ =>
        match s.modeSwitch t b with
        | some m => (s.updPort t.ch (fun p =>
            { p with cr := b, mode := fld m 19 16, addr4 := bit m 20, wel := false })).raiseCh t.ch 6 (chArg 0 t.op.toNat 0 0)
        | none => (s.updPort t.ch (fun p => { p with cr := b })).raiseCh t.ch 13 (chArg 0 t.op.toNat 0 0)
    else s.writeIgnored t 0))

/-- ADDR_MODE (R71): enters (ARG 0) or leaves (ARG 1) four-byte addresses at CS_N rise. DESIGN CHOICE: while WIP is 1 too, which R85
leaves open (log entry 14). -/
def execAddrMode (t : Txn) (s : State) : Host.Outcome State Fault Refusal :=
  .next (s.gate t 17 (fun e _ s =>
    (s.updPort t.ch (fun p => { p with addr4 := decide (opArg e = 0) })).raiseCh t.ch 6 (chArg 0 t.op.toNat 0 0)))

/-- ACCEPT (R71): taken with no effect. -/
def execAccept (t : Txn) (s : State) : Host.Outcome State Fault Refusal := .next (s.gate t 18 (fun _ _ s => s))

/-- RESET_ENABLE (R71): arms RESET for the next transaction. -/
def execResetEnable (t : Txn) (s : State) : Host.Outcome State Fault Refusal :=
  .next (s.gate t 14 (fun _ _ s => s.updPort t.ch (fun p => { p with rstEn := true })))

/-- RESET (R75): acts only right after RESET_ENABLE; the port returns to its boot state, accepted operations go on. -/
def execReset (t : Txn) (s : State) : Host.Outcome State Fault Refusal :=
  .next (if (s.chan t.ch).port.rstEn then
    s.gate t 15 (fun _ _ s => ((s.resumeAll t.ch).bootPort t.ch).raiseCh t.ch 7 (chArg 0 t.op.toNat 0 0))
  else s.gate t 15 (fun _ _ s => s))

/-- CLEAR_FAIL (R71, R84): clears PFAIL, EFAIL and PROT. DESIGN CHOICE: while WIP is 1 too, which R85 leaves open (log entry 14). -/
def execClearFail (t : Txn) (s : State) : Host.Outcome State Fault Refusal :=
  .next (s.gate t 16 (fun _ _ s => s.updPort t.ch (fun p => { p with pfail := false, efail := false, prot := false })))

/-- UNLISTED_OPCODE (R73): an unlisted or phase-refused opcode is ignored and its event raised; a listed opcode is its own
class's command and is not touched here. -/
def execUnlistedOpcode (t : Txn) (s : State) : Host.Outcome State Fault Refusal :=
  .next (s.gate t 0 (fun _ _ s => s))

/-! ## Programs and erases (R83 to R88, R92, R94) -/

/-- The virtual pages of a write: page range and the heartbeat page left out (R94). -/
structure Range where
  base : Nat
  len : Nat
deriving DecidableEq, Repr

/-- Every page of a range but the heartbeat page is permitted in the current phase (R83, R94). -/
def State.rangeOk (s : State) (n : Ch) (r : Range) (k : Nat) : Bool :=
  (List.range ((r.base % 4096 + r.len + 4095) / 4096)).all (fun i =>
    let v := s.vwrap n (r.base / 4096 + i)
    s.hbPage n v || (match s.regionAt n v with | some g => s.permNow n g k | none => false))

/-- The blocked-write emulation (R84). DESIGN CHOICE: every write that it refuses is R10's program or erase that is not resolvable from
the region table, and posts an exception toward the Warden pair (log entry 64). -/
def State.blockWrite (s : State) (t : Txn) (kind : OpKind) (v : Nat) : State :=
  let busy := decide (fld (s.cfg (fch t.ch 0x10)) 15 0 ≠ 0)
  let k := if kind = .program then 2 else 3
  (((s.updPort t.ch (fun p =>
    { p with
      pfail := p.pfail || decide (kind = .program)
      efail := p.efail || decide (kind = .erase)
      prot := true
      wip := p.wip || busy
      blockBusy := busy
      wel := busy
      blocks := wrap32 (p.blocks + 1) })).cnt t.ch 9 1).raiseCh t.ch k (chArg v t.op.toNat 0 0)).exception true (64 * t.ch.val + k)

/-- The program page of EMUL.PGSZ (R83). -/
def State.pgsz (s : State) (n : Ch) : Nat := if bit (s.cfg (fch n 8)) 24 then 512 else 256

/-- The program latch: data wraps within the program page, unwritten bytes 0xFF (R83, R92). -/
def wrapPayload (sz off : Nat) (data : List Byte) : List Byte :=
  (data.foldl (fun (acc : List Byte × Nat) b => (acc.1.set (acc.2 % sz) b, acc.2 + 1)) (List.replicate sz 0xFF#8, off)).1

/-- The parts a write reaches (R100, R102): those of the serving extents that cover a page of its range, the heartbeat page left out
(R94). -/
def State.partsOf (s : State) (n : Ch) (r : Range) : List PartId :=
  allParts.filter (fun k => (s.extents n).any (fun e => s.served n e && decide (e.part = k) &&
    (List.range ((r.base % 4096 + r.len + 4095) / 4096)).any (fun i =>
      let v := s.vwrap n (r.base / 4096 + i)
      e.covers v && !s.hbPage n v)))

/-- Acceptance of a write: handed to device-side arbitration at CS_N rise, WIP becomes 1 (R83). A write that no physical page takes,
such as an erase of the heartbeat page alone, has no work: WEL is cleared and WIP does not rise (R35, R94). -/
def State.acceptOp (s : State) (t : Txn) (kind : OpKind) (r : Range) (payload : List Byte) : State :=
  match s.partsOf t.ch r with
  | [] => s.updPort t.ch (fun p => { p with wel := false })
  | ks =>
    (s.updPort t.ch (fun p =>
      { p with
        wip := true
        ops := { kind := kind, st := .waiting, base := r.base, len := r.len, parts := ks, payload := payload,
                 suspendHeld := false, late := false } :: p.ops })).cnt t.ch (if kind = .program then 7 else 8) 1

/-- Whether one more program is accepted while an erase is suspended: one program outside its range, where the part's SFDP
permits it (R87). -/
def State.programInErase (s : State) (n : Ch) (r : Range) : Bool :=
  match (s.chan n).port.ops with
  | [o] => decide (o.kind = .erase) && !(s.chan n).port.inSuspended r.base r.len && o.parts.all (fun k => ((s.chan n).prt k).progInErase)
  | _ => false

/-- A write-class array transaction (R82 to R87): WEL and the byte boundary, then WIP and suspended operations, then the
phase bit and the region permission. -/
def State.writeArray (s : State) (t : Txn) (kind : OpKind) (r : Range) (phaseOk : Bool) (payload : List Byte) : State :=
  let v := s.vwrap t.ch (r.base / 4096)
  let p := (s.chan t.ch).port
  if s.writeOk t = false then s.writeIgnored t v
  else if p.wip then s.raiseCh t.ch 13 (chArg v t.op.toNat 0 0)
  else if p.ops.isEmpty = false ∧ (kind = .erase ∨ s.programInErase t.ch r = false) then
    s.raiseCh t.ch 13 (chArg v t.op.toNat 0 0)
  else if phaseOk = false ∨ s.rangeOk t.ch r (if kind = .program then 1 else 2) = false then s.blockWrite t kind v
  else if r.len = 0 then s.updPort t.ch (fun p => { p with wel := false })
  else s.acceptOp t kind r payload

/-- A program to the heartbeat page is a watchdog service or a rejected one (R93): WEL is cleared, WIP never rises. DESIGN CHOICE: it
is judged as a service while WIP is 1 too, since R93's page overrides the tables and R85's programs are those of the array (log
entry 18). -/
def State.heartbeatProgram (s : State) (t : Txn) (addr : Nat) (phaseOk : Bool) : State :=
  let good := s.writeOk t && phaseOk && decide (addr % 4096 = 0) && decide (t.data.take 4 = [0x5E#8, 0xED#8, 0xC0#8, 0xDE#8])
  (s.updPort t.ch (fun p => { p with wel := false })).heartbeat t.ch good t.op.toNat

/-- PROGRAM (R83, R93). -/
def execProgram (t : Txn) (s : State) : Host.Outcome State Fault Refusal :=
  .next (s.gate t 7 (fun e ok s =>
    let a := s.txnAddr t e
    if s.hbPage t.ch (s.vwrap t.ch (a / 4096)) then s.heartbeatProgram t a ok
    else
      let sz := s.pgsz t.ch
      s.writeArray t .program ⟨a / sz * sz, if t.data.isEmpty then 0 else sz⟩ ok (wrapPayload sz (a % sz) t.data)))

/-- HEARTBEAT_SERVICE (R93): a PROGRAM transaction to the heartbeat page, judged at its CS_N rise; one to another page is
PROGRAM's. -/
def execHeartbeatService (t : Txn) (s : State) : Host.Outcome State Fault Refusal :=
  .next (s.gate t 7 (fun e ok s =>
    let a := s.txnAddr t e
    if s.hbPage t.ch (s.vwrap t.ch (a / 4096)) then s.heartbeatProgram t a ok else s))

/-- The size of an ERASE entry's ARG (R71). -/
def eraseSize (arg : Nat) : Nat := if arg = 0 then 4096 else if arg = 1 then 32768 else if arg = 2 then 65536 else 262144

/-- ERASE (R83): the address aligned down to the erase size. -/
def execErase (t : Txn) (s : State) : Host.Outcome State Fault Refusal :=
  .next (s.gate t 8 (fun e ok s =>
    let sz := eraseSize (opArg e)
    s.writeArray t .erase ⟨s.txnAddr t e / sz * sz, sz⟩ ok []))

/-- ERASE_CHIP (R83): the whole virtual flash. -/
def execEraseChip (t : Txn) (s : State) : Host.Outcome State Fault Refusal :=
  .next (s.gate t 9 (fun _ ok s => s.writeArray t .erase ⟨0, 4096 * s.vpages t.ch⟩ ok []))

/-- The innermost operation changed. -/
def Port.updInner (p : Port) (f : AgentOp → AgentOp) : Port :=
  match p.ops with
  | [] => p
  | o :: r => { p with ops := f o :: r }

/-- The suspend of the innermost operation takes effect: WIP falls, PSUS or ESUS rises (R86). -/
def State.suspendInner (s : State) (n : Ch) : State :=
  match (s.chan n).port.ops with
  | [] => s
  | o :: _ =>
    match o.st with
    | .waiting => (s.updPort n (fun p => { p.updInner (fun o => { o with st := .heldInArb, suspendHeld := false }) with wip := false })).raiseCh n 10 0
    | .running =>
      ((((s.setBusy n o.parts none).updPort n (fun p =>
        { p.updInner (fun o => { o with st := .suspended, suspendHeld := false }) with wip := false })).cnt n 14 1).raiseCh n 10 0).opCmd n o .suspend
    | .resumeWait => (s.updPort n (fun p => { p.updInner (fun o => { o with st := .suspended }) with wip := false })).raiseCh n 10 0
    | _ => s

/-- SUSPEND (R86). `early`: the part's minimum resume-to-suspend interval has not passed, so the SUSPEND is held. -/
def execSuspend (t : Txn) (early : Bool) (s : State) : Host.Outcome State Fault Refusal :=
  .next (s.gate t 10 (fun _ _ s =>
    match (s.chan t.ch).port.ops with
    | [] => s
    | o :: _ =>
      if (s.chan t.ch).port.blockBusy ∨ o.live = false then s
      else if early ∧ o.st = .running then
        (s.updPort t.ch (fun p => p.updInner (fun o => { o with suspendHeld := true }))).raiseCh t.ch 10 0
      else s.suspendInner t.ch))

/-- SUSPEND_FORWARD (R86): a held SUSPEND is forwarded once the interval has passed. -/
def execSuspendForward (n : Ch) (s : State) : Host.Outcome State Fault Refusal :=
  .next (match (s.chan n).port.ops with
    | o :: _ => if s.powered ∧ o.suspendHeld ∧ o.st = .running then s.suspendInner n else s
    | [] => s)

/-- The innermost suspended or held operation goes on (R87); beside another running one its resume waits its turn. -/
def resumeFirst : Bool → List AgentOp → List AgentOp
  | _, [] => []
  | act, o :: r =>
    match o.st with
    | .heldInArb => { o with st := .waiting } :: r
    | .suspended => { o with st := if act then .resumeWait else .running } :: r
    | _ => o :: resumeFirst act r

/-- RESUME (R87): the innermost suspended operation resumes and WIP becomes 1; with nothing suspended it is ignored. DESIGN CHOICE: it
acts while another operation keeps WIP at 1 too, which R85 leaves open (log entry 14). -/
def execResume (t : Txn) (s : State) : Host.Outcome State Fault Refusal :=
  .next (s.gate t 11 (fun _ _ s =>
    let p := (s.chan t.ch).port
    match p.ops.find? (fun o => decide (o.st = .suspended ∨ o.st = .heldInArb)) with
    | none => s
    | some o =>
      let s := if o.st = .suspended ∧ p.opRuns = false then (s.setBusy t.ch o.parts (some .agent)).opCmd t.ch o .resume else s
      let s := s.updPort t.ch (fun p => { p with ops := resumeFirst p.opRuns p.ops, wip := true })
      if o.st = .suspended then s.raiseCh t.ch 11 0 else s))

/-- SCLK_MEASURE (R59): the measurement of a 1 µs window, in kHz; above 1.02 times the current mode's limit it sets
OVERSPEED and raises the event. -/
def execSclkMeasure (n : Ch) (khz : Nat) (s : State) : Host.Outcome State Fault Refusal :=
  .next (if s.portOpen n then
    let lim := modeLimit (fld (s.cfg (fch n 4)) 23 16) (s.chan n).port.mode
    let s := s.updPort n (fun p => { p with sclkMhz := khz / 1000 })
    if 1020 * lim < khz then (s.setSticky (fch n 0) 0x01000000#32).raiseCh n 5 0 else s
  else s)

/-- AGENT_OPERATION_END (R83): the physical operation ends; `ok` says whether it succeeded. -/
def execAgentOperationEnd (n : Ch) (ok : Bool) (s : State) : Host.Outcome State Fault Refusal :=
  .next (if s.powered then s.opEnd n ok else s)

/-- BLOCKBUSY_END (R84): the emulated busy time of a blocked write expires; WIP and WEL fall. -/
def execBlockbusyEnd (n : Ch) (s : State) : Host.Outcome State Fault Refusal :=
  .next (if s.powered then s.blockEnd n else s)

end Sys2Proof.Machine
end

