-- ==== Sys2Proof/Machine/Device.lean ====
section
/-! DEFINITION. Machine/Device.lean: the device side of the channels (chapter 04). -/

namespace Sys2Proof.Machine

/-! ## Phases (R106) -/

/-- SET_PHASE (R106): the new state and the status it completes with. `side`: the requester is the sideband. DESIGN CHOICE: naming
UPDATE, a requester that UPDSRC does not permit is turned away before UPDMAX = 0 makes a NOOP; R106 orders neither before the other
(log entry 64). -/
def State.setPhaseCmd (s : State) (side : Bool) (channel phase : Nat) : State × Status :=
  if h : channel < 8 then
    let n : Ch := ⟨channel, h⟩
    let c := s.chan n
    let r := s.cfg (fch n 0xA4)
    if 2 < phase then (s, .invalidField)
    else if c.st = .disabled then (s, .notPermitted)
    else if c.phase.code = phase then (s, .noop)
    else
      match c.phase, phase with
      | .boot, 1 => (s.setPhase n .run, .ok)
      | .run, 2 =>
        if bit r (if side then 5 else 4) = false then (s, .notPermitted)
        else if fld r 31 16 = 0 then (s, .noop)
        else (s.setPhase n .update, .ok)
      | .update, 1 => if s.updating n then (s, .notPermitted) else (s.setPhase n .run, .ok)
      | _, _ => (s, .notPermitted)
  else (s, .invalidField)

/-- BOOTTIME_ELAPSED (R106): with RUNON = 1, BOOTTIME after release moves the agent from BOOT to RUN. -/
def execBoottimeElapsed (n : Ch) (s : State) : Host.Outcome State Fault Refusal :=
  .next (if s.powered ∧ (s.chan n).st = .released ∧ (s.chan n).phase = .boot ∧ fld (s.cfg (fch n 0xA4)) 3 2 = 1 then s.setPhase n .run else s)

/-- UPDATE_TIMEOUT (R106): UPDMAX elapses with no ACTIVATE accepted; RUN, with EV(64n + 18). -/
def execUpdateTimeout (n : Ch) (s : State) : Host.Outcome State Fault Refusal :=
  .next (if s.powered ∧ (s.chan n).phase = .update ∧ s.updating n = false then (s.setPhase n .run).raiseCh n 18 0 else s)

/-! ## Physical operations (R102, R108, R110) -/

/-- The largest erase type of a part that is aligned in both addresses and lies in what is left (R102). -/
def pickErase (types : List Nat) (v p left : Nat) : Option Nat :=
  (types.filter (fun e => decide (0 < e ∧ v % e = 0 ∧ p % e = 0 ∧ e ≤ left))).foldl
    (fun b e => match b with | none => some e | some d => if d < e then some e else some d) none

/-- The physical erases of one extent's share of an erase (R102): (physical address, size). -/
def splitExtent (types : List Nat) : Nat → Nat → Nat → Nat → List (Nat × Nat)
  | 0, _, _, _ => []
  | f + 1, v, p, left =>
    if left = 0 then []
    else match pickErase types v p left with
      | none => []
      | some e => (p, e) :: splitExtent types f (v + e) (p + e) (left - e)

/-- The physical erases of a virtual erase, extent by extent (R102): (part, address, size). -/
def State.eraseSplit (s : State) (n : Ch) (base len : Nat) : List (PartId × Nat × Nat) :=
  ((s.extents n).filter (fun e => s.served n e)).flatMap (fun e =>
    let lo := max base (4096 * e.vbase)
    let hi := min (base + len) (4096 * (e.vbase + e.npages))
    (splitExtent ((s.chan n).prt e.part).erases ((hi - lo) / 4096 + 1) lo (4096 * e.pbase + (lo - 4096 * e.vbase)) (hi - lo)).map
      (fun x => (e.part, x.1, x.2)))

/-- The heartbeat page stays out of an erase (R94). -/
def State.eraseRanges (s : State) (n : Ch) (o : AgentOp) : List (Nat × Nat) :=
  let hb := 4096 * fld (s.cfg (fch n 0x24)) 31 12
  if bit (s.cfg (fch n 4)) 12 ∧ o.base ≤ hb ∧ hb < o.base + o.len then [(o.base, hb - o.base), (hb + 4096, o.base + o.len - (hb + 4096))]
  else [(o.base, o.len)]

/-- An operation that the device side has still to start, or to resume. -/
def AgentOp.toIssue (o : AgentOp) : Bool := decide (o.st = .waiting ∨ o.st = .resumeWait)

/-- The first waiting operation in order of acceptance starts running; the list is innermost first. -/
def startWaiting : List AgentOp → List AgentOp
  | [] => []
  | o :: r => if r.any AgentOp.toIssue then o :: startWaiting r
              else if o.toIssue then { o with st := .running } :: r else o :: r

/-- The physical commands of an operation that is issued for the first time (R92, R102). -/
def State.issueNew (s : State) (n : Ch) (o : AgentOp) : State :=
  match o.kind with
  | .program =>
    let v := s.vwrap n (o.base / 4096)
    match s.servingExtent n v with
    | some e => (s.cnt n 29 1).flash n e.part .program (beBytes 4 (4096 * e.phys v + o.base % 4096)) o.len o.payload
    | none => s
  | .erase =>
    ((s.eraseRanges n o).flatMap (fun r => s.eraseSplit n r.1 r.2)).foldl
      (fun s x => (s.cnt n 28 1).flash n x.1 .erase (beBytes 4 x.2.1) x.2.2 []) s

/-- DEVICE_OP_ISSUE (R87, R108, R110): the accepted operation that waits longest is issued to its parts, or resumed there, when none
runs on the channel, none of its parts is busy and none is FAILED. -/
def execDeviceOpIssue (n : Ch) (s : State) : Host.Outcome State Fault Refusal :=
  .next (
    let p := (s.chan n).port
    match p.ops.reverse.find? AgentOp.toIssue with
    | none => s
    | some o =>
      if s.powered = false ∨ p.opRuns = true ∨ s.clk.flashLost = true ∨
          o.parts.any (fun k => ((s.chan n).prt k).failed || ((s.chan n).prt k).busy.isSome) = true then s
      else
        let s := (s.updPort n (fun p => { p with ops := startWaiting p.ops })).setBusy n o.parts (some .agent)
        if o.st = .resumeWait then s.opCmd n o .resume else s.issueNew n o)

/-- STATUS_POLL (R108): a poll of a busy part is issued; it changes no state but the count of polls. -/
def execStatusPoll (n : Ch) (k : PartId) (s : State) : Host.Outcome State Fault Refusal :=
  .next (if s.powered ∧ ((s.chan n).prt k).busy.isSome ∧ ((s.chan n).prt k).failed = false then
    (s.cnt n 27 1).flash n k .poll [] 0 []
  else s)

/-! ## The image update flow (R111 to R118) -/

/-- EXPOSED_WAIT_END (R107, R117): a write that waited on an exposed part goes on once the part is no longer exposed. -/
def execExposedWaitEnd (n : Ch) (k : SlotId) (s : State) : Host.Outcome State Fault Refusal :=
  .next (if s.powered ∧ ((s.chan n).slot k).upd = .waitPart ∧ s.exposed n (s.nextPart n k) = false then
    s.updSlot n k (fun z => { z with upd := .copying })
  else s)

/-- Erase units of the inactive copy's image and metadata areas (R113, R456). -/
def State.copyUnits (s : State) (n : Ch) (k : SlotId) : Nat := (s.copyUnitList n k (s.inactCopy n k)).length

/-- The status of ACTIVATE (R111), checked in order. -/
def State.activateStatus (s : State) (n : Ch) (k : SlotId) (flipNow : Nat) (m : Manifest) : Status :=
  let c := s.chan n
  let z := c.slot k
  let staging := (s.extents n).filter (fun e => decide (e.copy = 4) && decide (e.slot = k))
  if 1 < flipNow then .invalidField
  else if ¬(s.slotEnabled n k = true ∧ (c.st = .released ∨ c.st = .held) ∧ c.phase = .update ∧ s.intentsOk = true) then .notPermitted
  else if z.upd ≠ .idle then .busyRetry
  else if c.port.ops.any (fun o => staging.any (fun e => decide (o.base < 4096 * (e.vbase + e.npages) ∧ 4096 * e.vbase < o.base + o.len))) then .busyRetry
  else
    match s.manCheck n k 4 m with
    | 0 => .ok
    | 2 => .verifyFail
    | 6 => .verifyFail
    | 4 => .invalidField
    | _ => .invalidField

/-- A rejection of ACTIVATE: EV(64n + 20) (R111). -/
def State.activateRefused (s : State) (channel slot : Nat) : State :=
  if h : channel < 8 then s.raiseCh ⟨channel, h⟩ 20 (chArg 0 0 4 slot) else s

/-- ACTIVATE (R111, R318): checks in order, EV(64n + 19) on acceptance and EV(64n + 20) on each rejection. -/
def State.activateCmd (s : State) (channel slot flipNow : Nat) (m : Manifest) : State × Status :=
  if h : channel < 8 ∧ slot < 4 then
    let n : Ch := ⟨channel, h.1⟩
    let k : SlotId := ⟨slot, h.2⟩
    let early := s.activateStatus n k flipNow m
    let v := s.withPku (decide (flipNow ≤ 1 ∧ early ≠ .notPermitted ∧ early ≠ .busyRetry ∧ s.manCheck n k 4 m ≠ 1)) (fun u => (u, early))
    let s := v.1
    let st := v.2
    let a := chArg 0 0 4 slot
    if st = .ok then
      ((s.updSlot n k (fun z =>
        { z with
          upd := .verifying, locked := true, progress := 0
          up := some { man := m, flipNow := decide (flipNow = 1), step := 0, nsteps := s.copyUnits n k, fails := 0,
                       oldAct := decide (s.actCopy n k = 2), hb := 0, windowOpen := false } })).raiseCh n 19 a, .ok)
    else (s.raiseCh n 20 a, st)
  else (s.activateRefused channel slot, .invalidField)

/-- A staging copy is complete or its activation abandoned: phase UPDATE becomes RUN; from any other phase nothing changes (R106). -/
def State.runAfterCopy (s : State) (n : Ch) : State := if (s.chan n).phase = .update then s.setPhase n .run else s

/-- An activation is abandoned: IDLE, the lock lifted, RUN, EV(64n + 20) (R106, R112, R113). -/
def State.abandonUpdate (s : State) (n : Ch) (k : SlotId) : State :=
  ((s.updSlot n k (fun z => { z with upd := .idle, locked := false, up := none, progress := 0 })).runAfterCopy n).raiseCh n 20 (chArg 0 0 4 k.val)

/-- STAGING_VERIFY (R112, R151): every staged page checked against the manifest's Trellis, the root first, with an internal Press
credit; not while the port is being trained (R38). DEDUCED: the check of a staged image is the internal work on manifests of R151 (log entry 64). -/
def execStagingVerify (n : Ch) (k : SlotId) (ok : Bool) (s : State) : Host.Outcome State Fault Refusal :=
  .next (match s.powered, ((s.chan n).slot k).upd, ((s.chan n).slot k).up with
    | true, .verifying, some u =>
      if s.portHeld n then s
      else
        let r := s.pressRun { cls := 2, ch := none, tag := 4 * n.val + k.val, engine := 8 }
        if r.2 = false then r.1
        else if ok then (r.1.updSlot n k (fun z => { z with upd := .copying, progress := 0 })).intent 1 n.val k.val 0 0 u.nsteps
          (placeWord (s.stagingPlace n k false 0)) (s.copyPlace n k (s.inactCopy n k)) 0
        else r.1.abandonUpdate n k
    | _, _, _ => s)

/-- Open repairs of a copy that a staging copy overwrites close, their intent records as rolled back (R160). -/
def State.closeRepairs (s : State) (n : Ch) (k : SlotId) (copy : Nat) : State :=
  let mine := fun (r : Repair) => decide (r.copy = copy ∧ r.slot = k)
  let s := ((s.chan n).repairs.filter (fun r => mine r && decide (1 ≤ r.step))).foldl
    (fun s r => s.intent 4 n.val k.val 2 (r.step - 1) 5 r.place r.place 0) s
  s.updChan n (fun c => { c with repairs := c.repairs.filter (fun r => !mine r) })

/-- The last unit of a staging copy has verified (R113): FLIP_PENDING, the lock lifted, EV(64n + 21), phase RUN; the flip's record is
opened, and FLIPNOW asserts the agent's reset (R114). -/
def State.copyDone (s : State) (n : Ch) (k : SlotId) (u : Update) (src dst : Nat) : State :=
  let copy := s.inactCopy n k
  let s := s.closeRepairs n k copy
  let s := (s.updSlot n k (fun z => { z with upd := .flipPending, locked := false } |>.setMan copy (some u.man))).intent 1 n.val k.val 1 u.nsteps u.nsteps src dst 0
  let s := s.intent 2 n.val k.val 0 0 1 (s.copyPlace n k (3 - copy)) (s.copyPlace n k copy) (copy - 1)
  let s := (s.raiseCh n 21 (chArg 0 0 4 k.val)).runAfterCopy n
  if u.flipNow then s.flipReset n else s

/-- COPY_UNIT (R113, R456): the next `units` erase units of the inactive copy written from staging in one step, `ok` where their
read-back verifies. Units that R456 does not join in one step are not written so. -/
def execCopyUnit (n : Ch) (k : SlotId) (units : Nat) (ok : Bool) (s : State) : Host.Outcome State Fault Refusal :=
  .next (match s.powered, ((s.chan n).slot k).upd, ((s.chan n).slot k).up with
    | true, .copying, some u =>
      let us := ((s.copyUnitList n k (s.inactCopy n k)).drop u.step).take units
      match us with
      | [] => if u.nsteps ≤ u.step then s.copyDone n k u 0 (s.copyPlace n k (s.inactCopy n k)) else s
      | x :: _ =>
        if unitsJoin ((s.chan n).prt x.part).erases us = false then s
        else if s.exposed n x.part then (s.updSlot n k (fun z => { z with upd := .waitPart })).raiseCh n 29 0
        else if s.canWrite n x.part = false then s
        else
          let s := s.setBusy n [x.part] none
          let src := placeWord (s.stagingPlace n k x.metaPg x.page)
          let dst := placeWord (some (x.part, x.addr / 4096))
          if ok = false then
            if u.fails < 3 then s.updSlot n k (fun z => { z with up := some { u with fails := u.fails + 1 } })
            else ((s.abandonUpdate n k).updSlot n k (fun z => { z with inactValid := false })).intent 1 n.val k.val 2 u.step u.nsteps src dst 0
          else
            let u := { u with step := u.step + us.length, fails := 0 }
            let s := s.updSlot n k (fun z => { z with up := some u, progress := 100 * u.step / max 1 u.nsteps })
            if u.step < u.nsteps then s.intent 1 n.val k.val 0 u.step u.nsteps src dst 0 else s.copyDone n k u src dst
    | _, _, _ => s)

/-- The confirmation window of a slot's update is open (R115). -/
def Slot.inWindow (z : Slot) : Bool := match z.up with | some u => u.windowOpen | none => false

/-- A slot confirmed by command (R115): in CONFIRMING, with CONFBY = 1, within its window. -/
def State.confirmSlot (s : State) (n : Ch) (k : SlotId) : State × Status :=
  if ((s.chan n).slot k).upd = .confirming ∧ bit (s.cfg (fch n (0xB8 + 4 * k.val))) 30 = true ∧ ((s.chan n).slot k).inWindow = true then
    (s.confirmImage n k, .ok)
  else (s, .notPermitted)

/-- CONFIRM (R115): the slot its fields name is confirmed. -/
def State.confirmCmd (s : State) (channel slot : Nat) : State × Status :=
  if h : channel < 8 ∧ slot < 4 then s.confirmSlot ⟨channel, h.1⟩ ⟨slot, h.2⟩ else (s, .invalidField)

/-- CONFIRM_WINDOW_END (R115): CONFTIME ends before confirmation, and the image is rolled back. -/
def execConfirmWindowEnd (n : Ch) (k : SlotId) (s : State) : Host.Outcome State Fault Refusal :=
  .next (match s.powered, ((s.chan n).slot k).upd, ((s.chan n).slot k).up with
    | true, .confirming, some u => if u.windowOpen then s.rollback n k else s
    | _, _, _ => s)

/-- VINTAGE_BURN_STEP (R116): the lowest unburned step of the slot's counter is programmed and verified; `ok` false where
the bit fails (R326). A tamper's LOCKDOWN stops it at the current bit (R351). -/
def execVintageBurnStep (n : Ch) (k : SlotId) (ok : Bool) (s : State) : Host.Outcome State Fault Refusal :=
  .next (match s.powered, ((s.chan n).slot k).upd, ((s.chan n).slot k).up with
    | true, .burning, some u =>
      if s.plat.mode = .lockdown then s else
      let ctr := fld (s.cfg (fch n (0xB8 + 4 * k.val))) 27 24
      if ok then
        let s := (s.burnVintage ctr).raiseCh n 25 (chArg 0 0 (s.actCopy n k) k.val)
        if u.man.vintage ≤ s.vintage ctr then s.burnDone n k
        else (s.updSlot n k (fun z => { z with up := some { u with step := u.step + 1 } })).intent 3 n.val k.val 0 (u.step + 1) u.nsteps
          (s.copyPlace n k (s.actCopy n k)) (s.copyPlace n k (s.actCopy n k)) u.man.vintage
      else s.otpFail
    | _, _, _ => s)

/-! ## The device-side port (R119 to R123, R128) -/

/-- Whether a part holds DEFERRED pages. -/
def State.holdsDeferred (s : State) (n : Ch) (k : PartId) : Bool :=
  (s.regions n).any (fun g => decide (g.policy = 1) && (s.extents n).any (fun e => !e.metaExt && decide (e.part = k) &&
    decide (e.vbase < g.vbase + g.npages ∧ g.vbase < e.vbase + e.npages)))

/-- TSTAT.VWORST and VSLOW recomputed after a training (R148). DESIGN CHOICE: VWORST shows whole units of 10 ns, rounded down, and 0xFFFF
for what does not fit; R148 and R165 name no rounding (log entry 64). -/
def State.recomputeVworst (s : State) (n : Ch) : State :=
  let w := allParts.foldl (fun a k =>
    let p := (s.chan n).prt k
    if p.present ∧ s.holdsDeferred n k then max a (vworstNs p.dlat (rawRate (fld (s.cfg (fch n (0xC8 + 4 * k.val))) 27 24) p.sclk)) else a) 0
  let slow := decide (40000 < w)
  (s.updChan n (fun c => { c with vworst := min 0xFFFF (w / 10), vslow := slow })).raiseIf slow (64 * n.val + 42) 0

/-- A vault part that is FAILED (R128): EV514; CS0 enters RECOVER, CS1 makes its golden images invalid with EV517 each. -/
def State.vaultPartFailed (s : State) (k : PartId) : State :=
  let s : State := { s with vault := { s.vault with parts := s.vault.parts.set k.val { s.vault.parts[k.val] with failed := true, busy := none } } }
  let s := s.raise 514 (vaultArg 0 k.val)
  if k = 0 then s.enterRecover 0x16
  else
    let hit := s.vault.golden.filter (fun g => decide (g.part = 1) && g.valid)
    let s := hit.foldl (fun s g => s.raise 517 (vaultArg g.off 1)) s
    { s with vault := { s.vault with golden := s.vault.golden.map (fun g => if g.part = 1 then { g with valid := false } else g) } }

/-- A part holds a page that is served to the agent and is in no frame of the Cellar; an OPEN page never is (R65, R122). -/
def State.servedOutside (s : State) (n : Ch) (k : PartId) : Bool :=
  (s.regions n).any (fun g => (s.extents n).any (fun e =>
    let lo := max g.vbase e.vbase
    s.served n e && decide (e.part = k) && (List.range' lo (min (g.vbase + g.npages) (e.vbase + e.npages) - lo)).any (fun v =>
      decide (g.policy = 3) || (s.frameOf n ⟨g.slot, imageIndex (s.regions n) g.slot v⟩).isNone)))

/-- A channel's part is FAILED (R119, R122): EV(64n + 27); an agent operation on it ends with its fail bit; during bring-up
the bring-up fails; an agent with a served page on it that is not resident is quarantined. -/
def State.partFailed (s : State) (n : Ch) (k : PartId) : State :=
  let s := s.updPart n k (fun p => { p with failed := true, busy := none, stage := 0, refresh := none })
  let hit := (s.chan n).port.ops.filter (fun o => o.parts.contains k)
  let s := hit.foldl (fun s o => if o.st = .running then s.setBusy n (o.parts.filter (fun j => decide (j ≠ k))) none else s) s
  let s := s.updPort n (fun p =>
    { p.ended (p.ops.filter (fun o => !o.parts.contains k)) with
      pfail := p.pfail || hit.any (fun o => decide (o.kind = .program))
      efail := p.efail || hit.any (fun o => decide (o.kind = .erase)) })
  let s := s.raiseCh n 27 0
  if s.servedOutside n k ∧ ((s.chan n).st = .released ∨ (s.chan n).st = .decanting) ∧ (s.chan n).brought then s.quarantine n 6 else s

/-- The SCLK that a training settles on (R120, R456): the highest step, or as many steps lower as the port dropped; none where the
part fails at the lowest. -/
def trainedSclk (t : Training) (steps : List Nat) : Option Nat := t.drops.bind (fun d => steps[d]?)

/-- The values an eye training sets (R120). -/
def Part.train (p : Part) (t : Training) (f : Nat) : Part :=
  { p with sclk := f, window := t.window, tap := t.tap, bits := t.bits, dlat := t.dlat, temp := t.temp }

/-- The SCLK steps of part k of channel n: DPARTk.MODE and FMAX (R456). -/
def State.stepsOf (s : State) (n : Ch) (k : PartId) : List Nat :=
  let w := s.cfg (fch n (0xC8 + 4 * k.val))
  sclkSteps (fld w 27 24) (fld w 23 16)

/-- The SCLK steps of the vault's parts, in the protocol mode of their bus (R128, R456). -/
def State.vaultSteps (s : State) : List Nat := sclkSteps (if s.vault.busMode = 2 then 9 else 0) 200

/-- One event for each step dropped (R120). -/
def State.raiseDrops (s : State) (t : Training) (src : Nat) : State :=
  (List.replicate (t.drops.getD 0) ()).foldl (fun s _ => s.raise src 0) s

/-- HITONLY and VWORST of a channel after an eye training (R65, R79, R148): a changed HITONLY has the SFDP image built again. -/
def State.afterTraining (s : State) (n : Ch) : State :=
  let old := (s.chan n).port.hitOnly
  let s := s.recomputeHitOnly n
  let s := if (s.chan n).port.hitOnly = old then s else s.buildSfdp n []
  s.recomputeVworst n

/-- EYE_TRAINING (R120, R121): training of a part completes; delays, DLAT and MISSLAT are set, SCLK may be lowered; HITONLY
and VWORST are recomputed; a part that fails at 50 MHz is FAILED. A retraining under way on the port ends. -/
def execEyeTraining (port : PortId) (k : PartId) (t : Training) (s : State) : Host.Outcome State Fault Refusal :=
  .next (if s.powered = false then s
  else
    let s : State := { s with plat := { s.plat with training := if s.plat.training = some port.val then none else s.plat.training } }
    if h : port.val < 8 then
      let n : Ch := ⟨port.val, h⟩
      if ((s.chan n).prt k).present = false ∨ ((s.chan n).prt k).failed = true then s
      else
        match trainedSclk t (s.stepsOf n k) with
        | none => s.partFailed n k
        | some f => (((s.updPart n k (fun p => p.train t f)).cnt n 44 1).raiseDrops t (64 * n.val + 28)).afterTraining n
    else if (s.vault.parts[k.val]).present = false ∨ (s.vault.parts[k.val]).failed = true then s
    else
      match trainedSclk t s.vaultSteps with
      | none => s.vaultPartFailed k
      | some f => (s.updVaultPart k (fun p => p.train t f)).raiseDrops t 512)

/-- RETRAIN_DUE (R37, R38, R40, R121): retraining of one port starts; one port at a time. -/
def execRetrainDue (port : PortId) (s : State) : Host.Outcome State Fault Refusal :=
  .next (if s.background ∧ s.plat.training = none then { s with plat := { s.plat with training := some port.val } } else s)

/-- What a part that stays busy past its maximum time is busy with: what it is known to be, or the KP9600's own operation in hand. -/
def busyWith (p : Part) (own : Option Busy) : Option Busy := match p.busy with | some b => some b | none => own

/-- An agent operation past the maximum time that SFDP advertises, running or still waiting in arbitration: the blocked-write event
at severity 5, once (R83). -/
def State.opLate (s : State) (n : Ch) (k : PartId) : State :=
  match (s.chan n).port.ops.find? (fun o => o.parts.contains k && o.live && !o.late) with
  | some o => (s.updPort n (fun q => { q with ops := q.ops.map (fun x => if x = o then { x with late := true } else x) })).raiseAt
      (64 * n.val + (if o.kind = .program then 2 else 3)) 5 (chArg (o.base / 4096) 0 0 0)
  | none => s

/-- PART_BUSY_TIMEOUT (R10, R83, R122, R128): a part stays busy past its maximum time: EV(64n + 26), or EV513, and an exception, then
after a second such period its software reset. -/
def execPartBusyTimeout (port : PortId) (k : PartId) (s : State) : Host.Outcome State Fault Refusal :=
  .next (if s.powered = false then s
  else if h : port.val < 8 then
    let n : Ch := ⟨port.val, h⟩
    let p := (s.chan n).prt k
    let b := busyWith p (s.ownWrite n k)
    let s := s.opLate n k
    if b = none ∨ p.failed = true then s
    else if p.stage = 0 then ((s.updPart n k (fun p => { p with busy := b, stage := 1 })).raiseCh n 26 0).exception true (64 * n.val + 26)
    else if p.stage = 1 then (s.updPart n k (fun p => { p with stage := 2 })).flash n k .softReset [] 0 []
    else s
  else
    let p := s.vault.parts[k.val]
    let b := busyWith p (if k = 0 then s.vaultWrite else none)
    if b = none ∨ p.failed = true then s
    else if p.stage = 0 then ((s.updVaultPart k (fun p => { p with busy := b, stage := 1 })).raise 513 (vaultArg 0 k.val)).exception true 513
    else if p.stage = 1 then (s.updVaultPart k (fun p => { p with stage := 2 })).vaultFlash k .softReset
    else s)

/-- The operation in hand of a part that its reset has ended: an agent operation sets its fail bit (R83, R122). -/
def State.partRecovered (s : State) (n : Ch) (k : PartId) : State :=
  let hit := (s.chan n).port.ops.filter (fun o => o.parts.contains k && decide (o.st = .running))
  let s := hit.foldl (fun s o => s.setBusy n o.parts none) (s.setBusy n [k] none)
  s.updPort n (fun p =>
    { p.ended (p.ops.filter (fun o => !(o.parts.contains k && decide (o.st = .running)))) with
      pfail := p.pfail || hit.any (fun o => decide (o.kind = .program))
      efail := p.efail || hit.any (fun o => decide (o.kind = .erase)) })

/-- PART_SOFTWARE_RESET_END (R122): the part is polled again; still busy, its RST_N is pulsed, once the other part has no
operation running. -/
def execPartSoftwareResetEnd (port : PortId) (k : PartId) (busy : Bool) (s : State) : Host.Outcome State Fault Refusal :=
  .next (if s.powered = false then s
  else if h : port.val < 8 then
    let n : Ch := ⟨port.val, h⟩
    if ((s.chan n).prt k).stage ≠ 2 then s
    else if busy = false then s.partRecovered n k
    else if ((s.chan n).prt (1 - k)).busy.isSome then s
    else (s.updPart n k (fun p => { p with stage := 3 })).flash n k .rstPulse [] 0 []
  else if (s.vault.parts[k.val]).stage ≠ 2 then s
  else if busy = false then s.vaultIdle k
  else if (s.vault.parts[(1 - k).val]).busy.isSome then s
  else (s.updVaultPart k (fun p => { p with stage := 3 })).vaultFlash k .rstPulse)

/-- PART_RESET_PULSE_END (R122): after the pulse a part still busy, or failing training, is FAILED. -/
def execPartResetPulseEnd (port : PortId) (k : PartId) (bad : Bool) (s : State) : Host.Outcome State Fault Refusal :=
  .next (if s.powered = false then s
  else if h : port.val < 8 then
    let n : Ch := ⟨port.val, h⟩
    if ((s.chan n).prt k).stage ≠ 3 then s
    else if bad then s.partFailed n k else s.partRecovered n k
  else if (s.vault.parts[k.val]).stage ≠ 3 then s
  else if bad then s.vaultPartFailed k
  else s.vaultIdle k)

/-- FAB cycles of a day, for WEARCFG.MININT (R123). -/
def dayCycles : Nat := 51840000000000

/-- The channel is busy with foreground work (R37): an accepted agent operation, a busy part, Decanting. -/
def State.chanBusy (s : State) (n : Ch) : Bool :=
  let c := s.chan n
  !c.port.ops.isEmpty || allParts.any (fun k => (c.prt k).busy.isSome) || decide (c.st = .decanting)

/-- A step of a refresh of a part may run now (R37, R40, R107, R123). -/
def State.refreshOpen (s : State) (n : Ch) (k : PartId) : Bool :=
  let p := (s.chan n).prt k
  s.background && p.present && !p.failed && decide (fld (s.cfg (fch n 0xDC)) 31 16 ≠ 0) && !s.hot && s.intentsOk && s.canWrite n k && !s.chanBusy n

/-- SRC and DST of a refresh's intent record: the vault refresh buffer on VP_CS0_N, and the unit (R126, R127). -/
def refreshSrc : Nat := 0x270000 + 2
def State.refreshDst (s : State) (n : Ch) (k : PartId) (unit : Nat) : Nat := unit * ((s.chan n).prt k).unit + k.val

/-- The record of step `st` of a refresh. -/
def State.refreshRec (s : State) (n : Ch) (k : PartId) (slot : SlotId) (unit state st : Nat) : State :=
  s.intent 5 n.val slot.val state st 3 refreshSrc (s.refreshDst n k unit) 0

/-- SECTOR_REFRESH_STEP (R15, R37, R107, R123): a step of the rewrite of one erase unit of a copy. The first copies the unit to the
vault refresh buffer and writes the intent record; the second erases it, the third programs it from the buffer and verifies it.
`verified`: its data comes from a source verified in this step; `resident`: every served page of the unit is resident. -/
def execSectorRefreshStep (n : Ch) (k : PartId) (slot : SlotId) (unit : Nat) (active verified resident : Bool) (s : State) :
    Host.Outcome State Fault Refusal :=
  .next (
    let p := (s.chan n).prt k
    let w := s.cfg (fch n 0xDC)
    if s.refreshOpen n k = false then s
    else if s.exposed n k then
      if p.refreshWaits then s else (s.updPart n k (fun p => { p with refreshWaits := true })).raiseCh n 29 0
    else
      let s := s.updPart n k (fun p => { p with refreshWaits := false })
      match p.refresh with
      | none =>
        if fld w 31 16 ≤ p.used then s.raiseCh n 31 0
        else if p.refreshed.any (fun x => decide (x.1 = unit ∧ s.time < x.2 + dayCycles * fld w 15 0)) ∨ verified = false ∨
            (active = true ∧ resident = false) then s
        else (s.refreshRec n k slot unit 0 1).updPart n k (fun p => { p with refresh := some (slot, unit, 1) })
      | some (z, u, 1) =>
        if active = true ∧ resident = false then s
        else
          ((s.refreshRec n k z u 0 2).flash n k .erase (beBytes 4 (u * p.unit)) p.unit []).updPart n k (fun p =>
            { p with refresh := some (z, u, 2), used := p.used + 1, refreshed := (u, s.time) :: p.refreshed.filter (fun x => x.1 ≠ u) })
      | some (z, u, _) =>
        if verified = false then s
        else ((s.refreshRec n k z u 1 3).updPart n k (fun p => { p with refresh := none })).raiseCh n 30 0)

/-- REFRESH_PERIOD_ROLLOVER (R123): a 30-day period ends and the per-part counts restart. -/
def execRefreshPeriodRollover (s : State) : Host.Outcome State Fault Refusal :=
  .next (if s.powered then
    forCh (fun s n => allParts.foldl (fun s k => s.updPart n k (fun p => { p with used := 0 })) s) s
  else s)

/-- The fill of the intent journal, %: 4,096 records of 64 bytes in 256 KiB (R126, R127). -/
def State.intentFill (s : State) : Nat := s.vault.intents.length * 100 / 4096

/-- Records that survive compaction of a journal: those of the intent journal in force, or the key journal's committed keys and
SEALGEN, four records each (R127, R312). -/
def State.compactTotal (s : State) (key : Bool) : Nat :=
  if key then s.crypt.keys.length + b2n (decide (1 < s.crypt.sealGen)) else (liveIntents s.vault.intents).length

/-- A compaction begins (R15, R31, R127): its intent record is written before its first step. ARG is 0 for either journal; SRC names
the journal's first page. -/
def State.compactBegin (s : State) (key : Bool) : State :=
  let total := s.compactTotal key
  let s := s.intent 8 8 0 0 0 (total + 1) (if key then 0x60000 + 2 else 0x20000 + 2) (if key then 0x60000 + 2 else 0x20000 + 2) 0
  { s with vault := { s.vault with compact := some (key, 0, total + 1) } }

/-- The last step of a compaction: superseded and closed records leave, the journal's area is erased once more, and the compaction's
record is done. -/
def State.compactEnd (s : State) (key : Bool) (n : Nat) : State :=
  let s : State := { s.vaultDone with vault := { s.vaultDone.vault with compact := none } }
  let s := if key then
      let live := s.compactTotal true
      (({ s with crypt := { s.crypt with kjFill := 4 * live, kjSeq := wrap32 (s.crypt.kjSeq + 2 * live) } } : State).wearErase 0x60000)
    else ({ s with vault := { s.vault with intents := liveIntents s.vault.intents } } : State).wearErase 0x20000
  s.intent 8 8 0 1 n n (if key then 0x60000 + 2 else 0x20000 + 2) (if key then 0x60000 + 2 else 0x20000 + 2) 0

/-- JOURNAL_COMPACTION_STEP (R15, R31, R127, R312): one step of compaction of the intent journal, or of the key journal, that has passed
75 % full: the first writes the intent record, each further one rewrites one surviving record at the head, the last drops what is
superseded or closed. -/
def execJournalCompactionStep (key : Bool) (s : State) : Host.Outcome State Fault Refusal :=
  .next (if s.vaultUp = false ∨ s.crypt.root = none then s
  else
    match s.vault.compact with
    | none => if 75 < (if key then s.crypt.kjFill * 100 / 1636 else s.intentFill) then s.compactBegin key else s
    | some (j, i, total) =>
      if j ≠ key then s
      else if i + 1 < total then { s with vault := { s.vault with compact := some (j, i + 1, total) } }
      else s.compactEnd key total)

/-- After a vault failure the platform is restored once no open intent record is left to resume (R57, R282). -/
def State.vaultRestored (s : State) : State :=
  if s.plat.mode = .recover ∧ s.plat.cause = 0x16 ∧ s.vault.parts[0].failed = false ∧ liveIntents s.vault.intents = [] then
    s.platformRestored
  else s

/-- VAULT_RETRAIN (R282): in RECOVER after a vault failure the vault part is identified and trained again; `header` where a
vault header copy verifies. -/
def execVaultRetrain (t : Training) (header : Bool) (s : State) : Host.Outcome State Fault Refusal :=
  .next (match trainedSclk t s.vaultSteps with
    | some f =>
      if s.plat.mode = .recover ∧ s.plat.cause = 0x16 ∧ header then
        (s.updVaultPart 0 (fun p => { p.train t f with failed := false, present := true, busy := none, stage := 0 })).vaultRestored
      else s
    | none => s)

end Sys2Proof.Machine
end

