-- ==== Sys2Proof/Machine/Platform.lean ====
section
/-! DEFINITION. Machine/Platform.lean: platform control (chapter 06). -/

namespace Sys2Proof.Machine

/-! ## Pins (R167 to R170) -/

/-- PCOUTCFGk and PCINCFGk (R187). -/
def State.pcOut (s : State) (k : Nat) : Word := s.cfg (0x240 + 4 * k)
def State.pcIn (s : State) (k : Nat) : Word := s.cfg (0x2A0 + 4 * k)

/-- An agent of a pin's AGENT field. -/
def pinAgent (w : Word) : Ch := ⟨fld w 5 3 % 8, Nat.mod_lt _ (by decide)⟩

/-- The level a PC_OUT pin's role gives it: asserted or not (R167). -/
def State.pinAsserted (s : State) (k : Nat) : Bool :=
  let w := s.pcOut k
  match fld w 2 0 with
  | 1 => decide ((s.chan (pinAgent w)).st ≠ .released)
  | 2 => bit s.ctl.pinSet k
  | 3 => bit s.ctl.pinSet k
  | 4 => decide (s.plat.mode = .recover) || decide (s.plat.mode = .lockdown)
  | 5 => allCh.any (fun n => (s.agt n).halt || (s.agt n).stop)
  | _ => false

/-- The ball level a PC_OUT pin drives, where it drives: push-pull, or open-drain and low (R168, R169). -/
def State.pinDrive (s : State) (k : Nat) : Option Bool :=
  let w := s.pcOut k
  if s.ctl.driven = false ∨ s.powered = false ∨ fld w 2 0 = 0 ∨ 5 < fld w 2 0 then none
  else
    let level := decide (s.pinAsserted k = bit w 6)
    if bit w 7 then some level else if level then none else some false

/-- The mismatch bit of a pin: OUTLVL bits 31:24 for pins 0 to 7, OUTLVL2 for pins 8 to 23 (R187). -/
def mismatchBit (k : Nat) : Nat × Word := if k < 8 then (0x2E0, word (2 ^ (24 + k))) else (0x344, word (2 ^ (k - 8)))

/-- PC_OUT_MISMATCH (R169): a driving ball has differed from its level for 1 µs. -/
def execPcOutMismatch (k : Nat) (s : State) : Host.Outcome State Fault Refusal :=
  .next (if k < 24 ∧ (s.pinDrive k).isSome then (s.setSticky (mismatchBit k).1 (mismatchBit k).2).raise 778 0 else s)

/-- A filtered PC_IN level says "asserted" (R170). -/
def State.inAsserted (s : State) (k : Nat) : Bool := decide (bit s.ctl.pcIn k = bit (s.pcIn k) 7)

/-- PC_IN_CHANGE (R170): a ball has held a new level for DEBOUNCE. -/
def execPcInChange (k : Nat) (level : Bool) (s : State) : Host.Outcome State Fault Refusal :=
  .next (if s.powered = false ∨ 16 ≤ k ∨ bit s.ctl.pcIn k = level then s
  else
    let m := word (2 ^ k)
    ({ s with ctl := { s.ctl with pcIn := if level then s.ctl.pcIn ||| m else s.ctl.pcIn &&& ~~~m } } : State).raiseIf
      (bit (s.pcIn k) 6) (784 + k) 0)

/-! ## HALT_N (R91, R171, R178) -/

/-- HALT_N_FALL (R91, R171): HALTED, every RELEASED agent held, EV772, and each port's serving stopped;
an image in CONFIRMING rolls back whatever its agent's state (R178). -/
def execHaltNFall (s : State) : Host.Outcome State Fault Refusal :=
  .next (if s.powered = false ∨ s.plat.haltN = false then s
  else
    let s : State := { s with plat := { s.plat with haltN := false } }
    let s := forCh (fun s n =>
      if (s.chan n).st = .released then
        (((s.updAgt n (fun a => { a with halt := true, haltFreed := false })).cnt n 46 1).raiseCh n 14 0).holdAgent n
      else allSlots.foldl (fun s k => s.rollback n k) s) s
    s.raise 772 0)

/-- HALT_N_RISE (R171, R178): the agents it held may be released again under the re-release rule, unless HALTLATCH keeps them and no
urgent RELEASE has named them. -/
def execHaltNRise (s : State) : Host.Outcome State Fault Refusal :=
  .next (if s.powered = false ∨ s.plat.haltN = true then s
  else
    let s : State := { s with plat := { s.plat with haltN := true } }
    let latch := bit (s.cfg 0x2E8) 3
    (forCh (fun s n => s.updAgt n (fun a => { a with halt := a.halt && latch && !a.haltFreed })) s).raise 773 0)

/-! ## The sequencer (R172 to R176) -/

/-- The word at an index of the program (R187). -/
def State.seqWord (s : State) (i : Nat) : Word := s.cfg (seqKey i)

/-- The opcode of the word under the sequencer, where a program executes and does not wait. -/
def State.seqOp (s : State) : Option (Prog × Word) :=
  match s.powered, s.ctl.prog with
  | true, some p => if p.wait = .ready ∧ s.plat.mode ≠ .lockdown ∧ s.plat.mode ≠ .hold then some (p, s.seqWord p.pc) else none
  | _, _ => none

def State.setProg (s : State) (p : Option Prog) : State := { s with ctl := { s.ctl with prog := p } }

/-- The program continues with the next word. -/
def State.seqNext (s : State) (p : Prog) : State := s.setProg (some { p with pc := p.pc + 1, wait := .ready })

/-- The program waits at its word. -/
def State.seqWaitAt (s : State) (p : Prog) (w : SeqWait) : State := s.setProg (some { p with wait := w })

/-- The agents of a mask. -/
def agentsOf (mask : Nat) : List Ch := allCh.filter (fun n => mask.testBit n.val)

/-- SEQ_END (R173): the program ends; EV770 for the main program. -/
def execSeqEnd (s : State) : Host.Outcome State Fault Refusal :=
  .next (match s.seqOp with
    | some (p, w) =>
      if fld w 31 28 = 0 then
        let s := s.setProg none
        if p.sub = none then ({ s with ctl := { s.ctl with mainOver := true, done := true } } : State).raise 770 0 else s
      else s
    | none => s)

/-- A SET of a pin by a program (R173, R179): a linked PWREN pin that QPWROFF deasserted is asserted by its agent's subprogram alone. -/
def State.seqPin (s : State) (p : Prog) (k : Nat) (on : Bool) : State :=
  match allCh.find? (fun n => (s.agt n).pwrOff && bit (s.agtCfg n) 7 && decide (s.pwrenOf n = some k)) with
  | some n =>
    if on = false then s.setPin k false
    else if p.sub = some n.val then (s.updAgt n (fun a => { a with pwrOff := false })).setPin k true
    else s
  | none => s.setPin k on

/-- SEQ_SET (R173): a PWREN or SIGNAL pin is driven. -/
def execSeqSet (s : State) : Host.Outcome State Fault Refusal :=
  .next (match s.seqOp with
    | some (p, w) => if fld w 31 28 = 1 then (s.seqPin p (fld w 27 23) (bit w 22)).seqNext p else s
    | none => s)

/-- SEQ_WAIT_IN (R173, R174): waits for a filtered level; a level already there and a TIMEOUT of 0 go straight on. -/
def execSeqWaitIn (s : State) : Host.Outcome State Fault Refusal :=
  .next (match s.seqOp with
    | some (p, w) =>
      if fld w 31 28 = 2 then
        if fld w 15 0 = 0 ∨ s.inAsserted (fld w 27 24) = bit w 23 then s.seqNext p else s.seqWaitAt p .input
      else s
    | none => s)

/-- SEQ_DELAY (R173, R174). -/
def execSeqDelay (s : State) : Host.Outcome State Fault Refusal :=
  .next (match s.seqOp with
    | some (p, w) => if fld w 31 28 = 3 then (if fld w 19 0 = 0 then s.seqNext p else s.seqWaitAt p .delay) else s
    | none => s)

/-- DELAY_EXPIRY (R174). -/
def execDelayExpiry (s : State) : Host.Outcome State Fault Refusal :=
  .next (match s.powered, s.ctl.prog with
    | true, some p => if p.wait = .delay then s.seqNext p else s
    | _, _ => s)

/-- The agents of a RELEASE that may still be released: not those that run already, nor those that policy disables or that
are quarantined or re-imaged (they come back under the re-release rule). -/
def State.releaseTargets (s : State) (mask : Nat) : List Ch := (agentsOf mask).filter (fun n => decide ((s.chan n).st ≠ .released))

/-- A RELEASE step whose agents are all eligible: they are released together, and the program goes on (R173). -/
def State.seqRelease (s : State) (p : Prog) (w : Word) (ns : List Ch) : State :=
  let s := s.seqNext p
  let s := if p.sub = none then { s with ctl := { s.ctl with stage := fld w 25 23 } } else s
  s.releaseMany ns

/-- SEQ_RELEASE (R173, R174, R176): the release steps of the MASK are reached; when every one is eligible they are released
together, else the program waits. -/
def execSeqRelease (s : State) : Host.Outcome State Fault Refusal :=
  .next (match s.seqOp with
    | some (p, w) =>
      if fld w 31 28 = 4 then
        let mask := fld w 7 0
        if mask = 0 ∨ fld w 19 8 = 0 then s.seqNext p
        else
          let s := (agentsOf mask).foldl (fun s n => s.updAgt n (fun a => { a with stepReached := true })) s
          let ns := s.releaseTargets mask
          if ns.all (fun n => s.eligible n) then s.seqRelease p w ns else s.seqWaitAt p .release
      else s
    | none => s)

/-- SEQ_WAIT_HB (R173, R174): waits for an agent's first accepted heartbeat since its release. -/
def execSeqWaitHb (s : State) : Host.Outcome State Fault Refusal :=
  .next (match s.seqOp with
    | some (p, w) =>
      if fld w 31 28 = 5 then
        if fld w 19 8 = 0 ∨ (s.agt ⟨fld w 2 0 % 8, Nat.mod_lt _ (by decide)⟩).hbSeen then s.seqNext p else s.seqWaitAt p .hb
      else s
    | none => s)

/-- SEQ_WAIT_SATISFIED (R173): what the program waits for has come. -/
def execSeqWaitSatisfied (s : State) : Host.Outcome State Fault Refusal :=
  .next (match s.powered, s.ctl.prog with
    | true, some p =>
      let w := s.seqWord p.pc
      match p.wait with
      | .input => if s.inAsserted (fld w 27 24) = bit w 23 then s.seqNext p else s
      | .hb => if (s.agt ⟨fld w 2 0 % 8, Nat.mod_lt _ (by decide)⟩).hbSeen then s.seqNext p else s
      | .release =>
        let ns := s.releaseTargets (fld w 7 0)
        if ns.all (fun n => s.eligible n) then s.seqRelease p w ns else s
      | _ => s
    | _, _ => s)

/-- The ONFAIL field of a waiting instruction (R173). -/
def seqOnfail (w : Word) : Nat := if fld w 31 28 = 2 then fld w 22 21 else fld w 27 26

/-- A failed step stops its program (R173): FAILED and FAILPC, EV771 at severity 6. -/
def State.seqStop (s : State) (p : Prog) : State :=
  let s := s.setProg none
  ({ s with ctl := { s.ctl with failed := true, failpc := p.pc, mainOver := s.ctl.mainOver || p.sub.isNone } } : State).raiseAt 771 6 0

/-- An agent that a RELEASE did not release, its step still reached, comes back under the re-release rule: its subprogram is
requested, the one that runs among them (R173, R176; log entry 58). -/
def State.requestHeldAgain (s : State) (n : Ch) : State :=
  if ((s.chan n).st = .held ∨ (s.chan n).st = .decanting) ∧ (s.agt n).stepReached = true ∧ s.subEntry n ≠ 0xFF ∧
      n.val ∉ s.ctl.requests then
    { s with ctl := { s.ctl with requests := s.ctl.requests ++ [n.val] } }
  else s

/-- A program waits at a RELEASE that names the agent: it is released with the others of the MASK (R173). -/
def State.inRelease (s : State) (n : Ch) : Bool :=
  s.ctl.prog.any (fun p => decide (p.wait = .release) && bit (s.seqWord p.pc) n.val)

/-- SEQ_TIMEOUT (R173): a TIMEOUT runs out and ONFAIL decides. -/
def execSeqTimeout (s : State) : Host.Outcome State Fault Refusal :=
  .next (match s.powered, s.ctl.prog with
    | true, some p =>
      let w := s.seqWord p.pc
      if p.wait = .ready ∨ p.wait = .delay then s
      else if seqOnfail w = 1 then
        let s := if p.wait = .release ∧ p.sub = none then
            (s.releaseTargets (fld w 7 0)).foldl (fun s n => s.updAgt n (fun a => { a with stepReached := false })) s
          else s
        s.seqStop p
      else
        let s := s.raiseAt 771 5 0
        if p.wait = .release then
          let go := if seqOnfail w = 2 then (s.releaseTargets (fld w 7 0)).filter (fun n => s.eligible n) else []
          ((s.releaseTargets (fld w 7 0)).filter (fun n => !go.contains n)).foldl State.requestHeldAgain
            (if seqOnfail w = 2 then s.seqRelease p w go else s.seqNext p)
        else s.seqNext p
    | _, _ => s)

/-- SUBPROGRAM_START (R176): the first requested subprogram starts once the main program is over and none runs; EV779. -/
def execSubprogramStart (s : State) : Host.Outcome State Fault Refusal :=
  .next (if s.powered = false ∨ s.ctl.mainOver = false ∨ s.ctl.prog.isSome ∨ s.plat.mode = .lockdown then s
  else
    match s.ctl.requests with
    | [] => s
    | m :: rest =>
      if h : m < 8 then
        let n : Ch := ⟨m, h⟩
        let s : State := { s with ctl := { s.ctl with requests := rest } }
        if (s.chan n).st = .held ∨ (s.chan n).st = .decanting then
          (s.setProg (some { pc := s.subEntry n, sub := some m, wait := .ready })).raise 779 0
        else s
      else s)

/-- RERELEASE (R44, R176): an agent whose release step has been reached, that has no subprogram and is eligible, is released
once RSTHOLD has passed; this command is the end of that hold. One that a RELEASE waits to release with others is not (R173). -/
def execRerelease (n : Ch) (s : State) : Host.Outcome State Fault Refusal :=
  .next (if s.powered ∧ (s.agt n).stepReached ∧ s.subEntry n = 0xFF ∧ s.inRelease n = false ∧ s.eligible n = true then s.releaseMany [n] else s)

/-! ## Urgent commands (R177, R178) -/

/-- URGPERM bit of a code on a path (R187); none where the code does not exist there. -/
def urgBit (side : Bool) (code : Nat) : Option Nat :=
  match code, side with
  | 1, false => some 4
  | 2, false => some 5
  | 1, true => some 6
  | 2, true => some 7
  | 3, true => some 8
  | _, _ => none

/-- An urgent command is accepted (R177): code, path, permission, MASK of a RESTART, and SEQ. -/
def State.urgentOk (s : State) (side : Bool) (code mask seq : Nat) : Bool :=
  (match urgBit side code with | some i => bit (s.cfg 0x2E8) i | none => false) &&
    (decide (code ≠ 3) || decide (mask = 0)) &&
    (let last := if side then s.ctl.urgSide else s.ctl.urgHost
     let d := (seq + 65536 - last) % 65536
     decide (1 ≤ d ∧ d ≤ 32767))

/-- An accepted urgent command consumes its SEQ (R177). -/
def State.takeSeq (s : State) (side : Bool) (seq : Nat) : State :=
  { s with ctl := { s.ctl with urgSide := if side then seq else s.ctl.urgSide, urgHost := if side then s.ctl.urgHost else seq } }

/-- The effect of one path's urgent command; a refused one raises EV776 and leaves URGSEQ. -/
def State.urgent (s : State) (side : Bool) (code mask seq : Nat) (act : State → State) : State :=
  if s.powered = false then s
  else if s.urgentOk side code mask seq then
    let s := (s.takeSeq side seq).cntQ 211 (b2n (!side))
    if mask = 0 ∧ code ≠ 3 then s else act s
  else s.raise 776 0

/-- An accepted STOP (R91, R177): stop latches set, RELEASED agents held, EV774; an image in CONFIRMING
rolls back whatever its agent's state (R178). -/
def State.urgentStop (s : State) (side : Bool) (mask seq : Nat) : State :=
  s.urgent side 1 (mask % 256) seq (fun s =>
    ((agentsOf mask).foldl (fun s n =>
      let s := s.updAgt n (fun a => { a with stop := true, stopAt := some (side, s.time) })
      if (s.chan n).st = .released then ((s.cnt n 46 1).raiseCh n 14 0).holdAgent n
      else allSlots.foldl (fun s k => s.rollback n k) s) s).raise 774 0)

/-- A STOP from the other path in the same FAB cycle, which wins over a RELEASE (R178). -/
def State.stopWins (s : State) (side : Bool) (n : Ch) : Bool := decide ((s.agt n).stopAt = some (!side, s.time))

/-- An accepted RELEASE (R171, R173, R177, R178): stop latches and HALT_N's latched holds cleared, release steps reached, EV775; the
agents are released again under the re-release rule, once HALT_N is high. -/
def State.urgentRelease (s : State) (side : Bool) (mask seq : Nat) : State :=
  s.urgent side 2 (mask % 256) seq (fun s =>
    ((agentsOf mask).foldl (fun s n =>
      (s.updAgt n (fun a => { a with stop := a.stop && s.stopWins side n, halt := a.halt && !s.plat.haltN,
                                     haltFreed := a.halt && !s.plat.haltN,
                                     stepReached := a.stepReached || s.ctl.mainOver })).requestHeld n) s).raise 775 0)

/-- A RESTART (R50, R177): by the sideband, a device restart with CAUSE 0x03; from the host it is refused. -/
def State.urgentRestart (s : State) (side : Bool) (mask seq : Nat) : State :=
  s.urgent side 3 mask seq (fun s => s.deviceRestart 3 0x10#32 true)

/-- A write to the urgent register of one path: CODE, MASK, SEQ (R177, R187). -/
def State.urgentWrite (s : State) (side : Bool) (v : Word) : State :=
  match fld v 31 24 with
  | 1 => s.urgentStop side (fld v 23 16) (fld v 15 0)
  | 2 => s.urgentRelease side (fld v 23 16) (fld v 15 0)
  | 3 => s.urgentRestart side (fld v 23 16) (fld v 15 0)
  | c => s.urgent side c (fld v 23 16) (fld v 15 0) id

/-- URGENT_STOP (R177). -/
def execUrgentStop (side : Bool) (mask seq : Nat) (s : State) : Host.Outcome State Fault Refusal := .next (s.urgentStop side mask seq)

/-- URGENT_RELEASE (R177). -/
def execUrgentRelease (side : Bool) (mask seq : Nat) (s : State) : Host.Outcome State Fault Refusal := .next (s.urgentRelease side mask seq)

/-- URGENT_RESTART (R50, R177). -/
def execUrgentRestart (side : Bool) (mask seq : Nat) (s : State) : Host.Outcome State Fault Refusal := .next (s.urgentRestart side mask seq)

/-! ## Quarantine count and agent watchdogs (R180 to R183) -/

/-- QCLEAR_ELAPSED (R180): QCLEAR hours of RELEASED time clear QCOUNT. -/
def execQclearElapsed (n : Ch) (s : State) : Host.Outcome State Fault Refusal :=
  .next (if s.powered ∧ fld (s.agtCfg n) 15 8 ≠ 0 then s.updAgt n (fun a => { a with qcount := 0, relSum := 0 }) else s)

/-- A write to WDT.SBSVCm, m = n + 1 (R182). -/
def State.sbsvc (s : State) (n : Ch) (key : Word) : State := (s.wdService n 30 (decide (key = 0x5EEDC0DE#32))).1

/-- SBSVC_WRITE (R182). -/
def execSbsvcWrite (n : Ch) (key : Word) (s : State) : Host.Outcome State Fault Refusal :=
  .next (if s.powered then s.sbsvc n key else s)

/-- WATCHDOG_FIRST_EXPIRY (R183): WARN, the first-expiry event, the count restarts. -/
def execWatchdogFirstExpiry (n : Ch) (s : State) : Host.Outcome State Fault Refusal :=
  .next (if s.powered ∧ s.wdRunning n = true ∧ (s.agt n).warn = false then
    (s.updAgt n (fun a => { a with warn := true, wdAt := s.time })).raise (wdEv n 0) (fld (s.aper n) 23 0)
  else s)

/-- WATCHDOG_SECOND_EXPIRY (R183). -/
def execWatchdogSecondExpiry (n : Ch) (s : State) : Host.Outcome State Fault Refusal :=
  .next (if s.powered ∧ s.wdRunning n = true ∧ (s.agt n).warn = true then s.wdReset n else s)

end Sys2Proof.Machine
end

