-- ==== Sys2Proof/Machine/WdClk.lean ====
section
/-! DEFINITION. Machine/WdClk.lean: watchdog WD0, clocks, temperature and rails (chapter 13). -/

namespace Sys2Proof.Machine

/-! ## WD0 (R382 to R390) -/

/-- WDT.CFG's fields: PERIOD, PRESC, FAILACT, CLKSEL (R401). -/
def Wd0.period (w : Wd0) : Nat := fld w.cfg 23 0
def Wd0.presc (w : Wd0) : Nat := fld w.cfg 26 24
def Wd0.ring (w : Wd0) : Bool := bit w.cfg 30

/-- Cycles of WD0's clock in FAB cycles: CORE 800 MHz, RING at its nominal 100 MHz (R390, R391). -/
def Wd0.cyclesOf (w : Wd0) (fab : Nat) : Nat := if w.ring then fab / 6 else fab * 4 / 3

/-- ELAPSED: units since the last restart, up to PERIOD; held by a debug halt (R382, R388). -/
def State.wd0Elapsed (s : State) : Nat :=
  let w := s.wd0
  if w.locked then
    min w.period ((if w.paused then w.held else w.cyclesOf (s.time - w.at_)) / 2 ^ (10 + w.presc))
  else 0

/-- A right key would be accepted now (R383, R384). -/
def State.wd0InWin (s : State) : Bool :=
  s.wd0.locked && (!s.wd0.served || s.wd0.warn || decide (s.wd0.captured ≤ s.wd0Elapsed)) && decide (s.wd0Elapsed < s.wd0.period)

/-- The range of PERIOD × 2^(10 + PRESC): 1 ms to 60 s of the selected clock (R386, R390). -/
def wd0Range (ring : Bool) (cycles : Nat) : Bool :=
  if ring then decide (100000 ≤ cycles ∧ cycles ≤ 6000000000) else decide (800000 ≤ cycles ∧ cycles ≤ 48000000000)

/-- A write to WDT.CFG is accepted (R386). -/
def State.wd0CfgOk (s : State) (v : Word) : Bool :=
  decide (fld v 23 0 ≠ 0) && decide (fld v 26 24 ≠ 7) && wd0Range (bit v 30) (fld v 23 0 * 2 ^ (10 + fld v 26 24)) &&
    decide (fld s.wd0.open_ 23 0 ≤ fld v 23 0)

/-- A write to WDT.CFG (R386): the first accepted Int write starts and locks WD0; a rejected or later one raises EV835. Host and
Side writes are ignored (R7). -/
def State.wd0CfgWrite (s : State) (q : Req) (v : Word) : State :=
  if q ≠ .int then s
  else if s.wd0.locked ∨ s.wd0CfgOk v = false then s.raise 835 (s.wd0Elapsed)
  else { s with wd0 := { s.wd0 with
    cfg := v &&& 0x67FFFFFF#32, captured := fld s.wd0.open_ 23 0, locked := true, warn := false, served := false, at_ := s.time } }

/-- WD0_CFG_WRITE (R386). -/
def execWd0CfgWrite (q : Req) (v : Word) (s : State) : Host.Outcome State Fault Refusal :=
  .next (if s.powered then s.wd0CfgWrite q v else s)

/-- A write to WDT.WINDOW (R386). -/
def State.wd0WindowWrite (s : State) (q : Req) (v : Word) : State :=
  if q ≠ .int then s
  else if s.wd0.locked then s.raise 835 (s.wd0Elapsed)
  else { s with wd0 := { s.wd0 with open_ := v &&& 0xFFFFFF#32 } }

/-- WD0_WINDOW_WRITE (R386). -/
def execWd0WindowWrite (q : Req) (v : Word) (s : State) : Host.Outcome State Fault Refusal :=
  .next (if s.powered then s.wd0WindowWrite q v else s)

/-- A WD0 reset (R385, R389): COUNT and LASTCAUSE in the Keeper, then the device restart with CAUSE 0x01 and no journal
flush (R367). -/
def State.wd0Reset (s : State) (last : Nat) : State :=
  let c := sat 255 (s.keeper.wdCount + 1)
  ({ s with keeper := { s.keeper with wdCount := c, wdInv := 255 - c, lastCause := last } } : State).deviceRestart 1 0x4#32 false

/-- An Int write to WDT.SERVICE (R387): accepted, discarded in the expiry cycle, or a service failure. -/
def State.wd0Serve (s : State) (q : Req) (key : Word) : State :=
  if q ≠ .int ∨ s.wd0.locked = false then s
  else if key ≠ 0x5EEDC0DE#32 then
    let s : State := ({ s with wd0 := { s.wd0 with wrongKey := sat 0xFFFF (s.wd0.wrongKey + 1) } } : State).raise 834 s.wd0Elapsed
    if bit s.wd0.cfg 29 then s else s.wd0Reset 2
  else if s.wd0InWin then { s with wd0 := { s.wd0 with served := true, warn := false, at_ := s.time, held := 0 } }
  else if s.wd0.period ≤ s.wd0Elapsed then s
  else
    let s : State := ({ s with wd0 := { s.wd0 with early := sat 0xFFFF (s.wd0.early + 1) } } : State).raise 834 s.wd0Elapsed
    if bit s.wd0.cfg 29 then s else s.wd0Reset 3

/-- WD0_SERVICE (R387). -/
def execWd0Service (q : Req) (key : Word) (s : State) : Host.Outcome State Fault Refusal :=
  .next (if s.powered then s.wd0Serve q key else s)

/-- WD0_FIRST_EXPIRY (R385). -/
def execWd0FirstExpiry (s : State) : Host.Outcome State Fault Refusal :=
  .next (if s.powered ∧ s.wd0.locked ∧ s.wd0.paused = false ∧ s.wd0.warn = false then
    ({ s with wd0 := { s.wd0 with warn := true, at_ := s.time } } : State).raise 832 s.wd0.period
  else s)

/-- WD0_SECOND_EXPIRY (R385). -/
def execWd0SecondExpiry (s : State) : Host.Outcome State Fault Refusal :=
  .next (if s.powered ∧ s.wd0.locked ∧ s.wd0.paused = false ∧ s.wd0.warn = true then s.wd0Reset 1 else s)

/-- RING_MONITOR_TRIP (R390): with CLKSEL = 1 it acts as a second expiry with LASTCAUSE 5. -/
def execRingMonitorTrip (s : State) : Host.Outcome State Fault Refusal :=
  .next (if s.powered ∧ s.wd0.locked ∧ s.wd0.ring = true then s.wd0Reset 5 else s)

/-- DEBUGGER_HALT (R388): a debugger under the HALT scope halts a core pair; with the Warden's, WD0 holds its count. -/
def execDebuggerHalt (warden : Bool) (s : State) : Host.Outcome State Fault Refusal :=
  .next (if s.powered ∧ s.haltScope = true then
    let s : State := { s with life := { s.life with haltedW := s.life.haltedW || warden, haltedS := s.life.haltedS || !warden } }
    if warden ∧ s.wd0.paused = false then
      { s with wd0 := { s.wd0 with paused := true, held := s.wd0.cyclesOf (s.time - s.wd0.at_) } }
    else s
  else s)

/-- DEBUGGER_RESUME (R388): the count goes on from the value held. -/
def execDebuggerResume (warden : Bool) (s : State) : Host.Outcome State Fault Refusal :=
  .next (if s.powered then
    let s : State := { s with life := { s.life with haltedW := s.life.haltedW && !warden, haltedS := s.life.haltedS && warden } }
    if warden ∧ s.wd0.paused = true then
      { s with wd0 := { s.wd0 with paused := false, at_ := s.time - (if s.wd0.ring then s.wd0.held * 6 else s.wd0.held * 3 / 4) } }
    else s
  else s)

/-! ## Clocks (R391 to R396) -/

/-- Which clock a monitor or lock detector names (R392). -/
def clockEv (c : MonClk) : Nat := match c with | .core => 960 | .press => 961 | .fab => 962 | .flash => 963 | .ref25 => 966

/-- A fatal monitor trip (R389, R393): agents' resets asserted, COUNT, LASTCAUSE 4, the clock noted for the next start's event,
device restart with CAUSE 0x01 and no journal flush. -/
def State.fatalTrip (s : State) (c : MonClk) : State :=
  let k := sat 255 (s.keeper.wdCount + 1)
  let s : State := { s with keeper := { s.keeper with wdCount := k, wdInv := 255 - k, lastCause := 4, fatalEv := clockEv c } }
  s.deviceRestart 1 0x4#32 false

/-- CLOCK_MONITOR_TRIP (R392, R393): CORE, PRESS, FAB and the 25 MHz reference are fatal; FLASH is FLASH_CLOCK_LOSS's. The
monitors that RING drives are blind while RING is lost (R395); a lock detector is not. -/
def execClockMonitorTrip (c : MonClk) (byLock : Bool) (s : State) : Host.Outcome State Fault Refusal :=
  .next (if s.powered = false ∨ (s.clk.ringLost = true ∧ byLock = false) then s
  else match c with
    | .flash => s.flashLoss
    | c => s.fatalTrip c)

/-- FLASH_CLOCK_LOSS (R394). -/
def execFlashClockLoss (s : State) : Host.Outcome State Fault Refusal := .next (if s.powered then s.flashLoss else s)

/-- FLASH_RELOCK (R394): ports retrain in turn, preempted transactions are reissued, EV964. -/
def execFlashRelock (s : State) : Host.Outcome State Fault Refusal :=
  .next (if s.powered ∧ s.clk.flashLost then
    ({ s with clk := { s.clk with flashLost := false, lock := s.clk.lock ||| 0x8#32 }, plat := { s.plat with training := some 0 } } : State).raise 964 0
  else s)

/-- FLASH_RELOCK_TIMEOUT (R394): the loss becomes fatal, with EV963 as its event. -/
def execFlashRelockTimeout (s : State) : Host.Outcome State Fault Refusal :=
  .next (if s.powered ∧ s.clk.flashLost then s.fatalTrip .flash else s)

/-- REFCLK_LOSS (R248, R395): a link down without PERST_N, EV969. -/
def execRefclkLoss (s : State) : Host.Outcome State Fault Refusal :=
  .next (if s.powered ∧ s.clk.refclkLost = false then
    let s : State := ({ s with clk := { s.clk with refclkLost := true, lock := s.clk.lock &&& ~~~0x10#32 } } : State).setSticky 0x2E00 0x8#32
    (if s.host.linkUp then s.linkDown else s).raise 969 0
  else s)

/-- REFCLK_RETURN (R395): the PCIe block starts to retrain. -/
def execRefclkReturn (s : State) : Host.Outcome State Fault Refusal :=
  .next (if s.powered ∧ s.clk.refclkLost then { s with clk := { s.clk with refclkLost := false, lock := s.clk.lock ||| 0x10#32 } } else s)

/-- The RTC becomes invalid (R208, R395): the count goes on. -/
def State.rtcInvalid (s : State) : State := { s with keeper := { s.keeper with rtcValid := false } }

/-- KEEPER_CRYSTAL_LOSS (R395). In SHELF, and while RING is lost, nothing watches the crystal. -/
def execKeeperCrystalLoss (s : State) : Host.Outcome State Fault Refusal :=
  .next (if s.powered ∧ s.clk.keepSub = false ∧ s.clk.ringLost = false then
    ((({ s with clk := { s.clk with keepSub := true } } : State).rtcInvalid).setSticky 0x2E00 0x4#32).raise 967 0
  else s)

/-- KEEPER_CRYSTAL_RETURN (R395): back at a tick boundary, EV968; the RTC stays invalid until the next anchor. -/
def execKeeperCrystalReturn (s : State) : Host.Outcome State Fault Refusal :=
  .next (if s.powered ∧ s.clk.keepSub then ({ s with clk := { s.clk with keepSub := false } } : State).raise 968 0 else s)

/-- RING_LOSS (R395): EV965; the monitors that RING drives are blind. -/
def execRingLoss (s : State) : Host.Outcome State Fault Refusal :=
  .next (if s.powered ∧ s.clk.ringLost = false then
    (({ s with clk := { s.clk with ringLost := true } } : State).setSticky 0x2E00 0x2#32).raise 965 0
  else s)

/-- RING_RETURN (R395): the monitors it drives watch again. -/
def execRingReturn (s : State) : Host.Outcome State Fault Refusal :=
  .next (if s.powered then { s with clk := { s.clk with ringLost := false } } else s)

/-- TEMP_THRESHOLD (R396): the die temperature, in units of 0.25 °C, is measured anew: crossing TWARN raises EV970, crossing
TCRIT EV971; each re-arms 5 °C below. -/
def execTempThreshold (quarter : Int) (s : State) : Host.Outcome State Fault Refusal :=
  .next (if s.powered = false then s
  else
    let c := s.cfg 0x2E0C
    let warn : Int := 4 * (fld c 7 0 : Int)
    let crit : Int := 4 * (fld c 15 8 : Int)
    let t := (quarter % 65536).toNat
    let hi := if int16 s.clk.tempMax.toNat < quarter then word t else s.clk.tempMax
    let w := decide (warn < quarter)
    let x := decide (crit < quarter)
    let s1 : State := { s with clk := { s.clk with
      tempNow := word t, tempMax := hi
      warnArmed := if w then false else s.clk.warnArmed || decide (quarter ≤ warn - 20)
      critArmed := if x then false else s.clk.critArmed || decide (quarter ≤ crit - 20) } }
    (s1.raiseIf (w && s.clk.warnArmed) 970 0).raiseIf (x && s.clk.critArmed) 971 0)

/-- RAIL_EXCURSION (R396): EV972 with the rail's index. -/
def execRailExcursion (rail : Nat) (s : State) : Host.Outcome State Fault Refusal :=
  .next (if s.powered then s.raise 972 rail else s)

end Sys2Proof.Machine
end

