-- ==== Sys2Proof/Machine/Recovery.lean ====
section
/-! DEFINITION. Machine/Recovery.lean: recovery (R275 to R282). -/

namespace Sys2Proof.Machine

/-! ## Chunked transfers (R279, R284) -/

/-- The checks of a chunk: OFFSET, LEN, LAST and a free buffer (R279). `s_` is the whole length. -/
def chunkStatus (x : Stream64) (s_ off len : Nat) (last : Bool) : Reply :=
  if off ≠ x.held then badField 12
  else if ¬(1 ≤ len ∧ len ≤ 65536) ∨ s_ < off + len then badField 24
  else if last ≠ decide (off + len = s_) then badField 10
  else if 2 ≤ x.bufs.length then reply .busyRetry
  else reply .ok

/-- A chunk is buffered (R279). -/
def Stream64.push (x : Stream64) (len : Nat) (last : Bool) : Stream64 :=
  { held := x.held + len, bufs := x.bufs ++ [len], last := last }

/-! ## Recovery of agent images (R275 to R282) -/

/-- A chunked transfer with nothing held. -/
def noStream : Stream64 := { held := 0, bufs := [], last := false }

/-- The recovery of a REIMAGING agent. -/
def State.recOf (s : State) (n : Ch) : Option RecJob := s.ident.recs.find? (fun j => j.ch = n.val)

/-- A recovery changed. -/
def State.updRec (s : State) (n : Ch) (f : RecJob → RecJob) : State :=
  { s with ident := { s.ident with recs := s.ident.recs.map (fun j => if j.ch = n.val then f j else j) } }

/-- The slot a recovery works on. -/
def RecJob.slot (j : RecJob) : SlotId := ⟨j.slots.headD 0 % 4, Nat.mod_lt _ (by decide)⟩

/-- S, the bytes of a slot's image and metadata areas (R279). -/
def State.recSize (s : State) (n : Ch) (k : SlotId) : Nat :=
  4096 * (imagePages (s.regions n) k + metaPages (s.extents n) k (s.actCopy n k))

/-- SOURCES of the applied bundle permits a source for an agent (R270, R277). -/
def State.sourcePermitted (s : State) (n : Ch) (k : Nat) : Bool :=
  match s.bundle with | some b => (b.sources.getD n.val 0).testBit (k - 1) | none => false

/-- A source is available now (R276). `m` is the manifest read from source 1 or 3, `anchors` the check of its anchors. -/
def State.sourceAvailable (s : State) (n : Ch) (k : SlotId) (src : Nat) (m : Option Manifest) (anchors : Bool) : Bool :=
  let z := (s.chan n).slot k
  let good := match m with
    | some m => decide (s.manCheck n k (if src = 1 then s.inactCopy n k else s.actCopy n k) m = 0) && anchors
    | none => false
  match src with
  | 1 => z.inactValid || (good && s.hasCopy n k (s.inactCopy n k))
  | 2 => z.goldValid
  | 3 => s.vault.golden.any (fun d => d.valid && decide (d.chan = n.val ∧ d.slot = k.val)) && good
  | 4 => (match s.bundle with | some b => decide (b.hostAgent ≠ n.val) | none => false) && qEn (s.qCfg 0) && qEn (s.qCfg 1)
  | 5 => (match s.bundle with
      | some b => decide (b.bmcAgent ≠ n.val) && allCh.any (fun m => decide (m.val = b.bmcAgent) && decide ((s.chan m).st = .released))
      | none => false)
  | _ => false

/-- A slot is restored (R276, R277): the next one, or EV531 and Decanting, where the agent takes its reservation anew. -/
def State.slotRestored (s : State) (n : Ch) (j : RecJob) : State :=
  match j.slots.tail with
  | k :: rest => s.updRec n (fun x =>
      { x with slots := k :: rest, source := 0, st := .trying, step := 0, fails := 0, stream := noStream })
  | [] =>
    let s : State := ({ s with ident := { s.ident with recs := s.ident.recs.filter (fun x => x.ch ≠ n.val) } } : State).raise 531 0
    let s := s.platChange
    if s.resvFits n then (s.reserve n).requestSub n else s.reserve n

/-- Recovery is exhausted: EV532, QUARANTINED with QCAUSE 8 (R44, R277, R278). -/
def State.recExhausted (s : State) (n : Ch) : State :=
  (({ s with ident := { s.ident with recs := s.ident.recs.filter (fun x => x.ch ≠ n.val) } } : State).raise 532 0).quarantine n 8

/-- The source in hand fails (R277, R278): EV530; a source named by REIMAGE was the only one. -/
def State.sourceFails (s : State) (n : Ch) (j : RecJob) : State :=
  let s := s.raise 530 0
  if j.single then s.recExhausted n
  else s.updRec n (fun x => { x with st := .trying, step := 0, fails := 0, stream := noStream })

/-- The ACT commit of source 1 (R276): its safe point holds while the agent is REIMAGING. It applies, fails validation, or
meets a commit in progress and is to be repeated. -/
def State.recActCommit (s : State) (n : Ch) (j : RecJob) : State :=
  let k := j.slot
  if s.regs.cur.isSome then s.updRec n (fun x => { x with st := .actCommit })
  else
    let failed := s.actCopy n k
    let t := s.commitAct n k
    if t.groupOk (8 + n.val) t.cfg = false then
      (s.updSlot n k (fun z => { z with inactValid := false })).sourceFails n { j with st := .trying }
    else
      let t := t.updSlot n k (fun z => { z with inactValid := false })
      ({ t with ident := { t.ident with rewrites := t.ident.rewrites ++ [⟨n.val, k.val, failed, 0, 0, false⟩] } } : State).slotRestored n j

/-- The manifest of the inactive copy, verified as source 1 is tried, is kept; INACTVALID becomes 1 (R136). -/
def State.keepInact (s : State) (n : Ch) (k : SlotId) (m : Option Manifest) : State :=
  if ((s.chan n).slot k).inactValid then s
  else s.updSlot n k (fun z => ({ z with inactValid := true }).setMan (s.inactCopy n k) m)

/-- SRC and DST of a recovery write's record (R127): the golden copy on the channel or the vault's image, 0 where the image is streamed;
the copy ACT names. -/
def State.recSrc (s : State) (n : Ch) (k : SlotId) (src : Nat) : Nat :=
  if src = 2 then s.copyPlace n k 3
  else if src = 3 then (match s.pagePlace n 8 k false 0 with | some x => 4096 * x.2 + 2 + x.1.val | none => 0)
  else 0

/-- Steps of a recovery write: the erase units of the copy ACT names, or the 4,096-byte pages of a streamed image. -/
def State.recSteps (s : State) (n : Ch) (j : RecJob) : Nat :=
  if j.source = 2 ∨ j.source = 3 then (s.copyUnitList n j.slot (s.actCopy n j.slot)).length else s.recSize n j.slot / 4096

/-- The record of a recovery write. -/
def State.recRecord (s : State) (n : Ch) (j : RecJob) (state step : Nat) : State :=
  s.intent 7 n.val j.slot.val state step (s.recSteps n j) (s.recSrc n j.slot j.source) (s.copyPlace n j.slot (s.actCopy n j.slot)) 0

/-- The source in hand fails: the record of a write that has begun is rolled back (R31, R277). -/
def State.writeFails (s : State) (n : Ch) (j : RecJob) : State :=
  (if 1 ≤ j.step then s.recRecord n j 2 j.step else s).sourceFails n j

/-- A source begins (R136, R276, R279, R280): ACT commit, a KIND 7 write, or a request to the host or the BMC with EV533. `m` is the
manifest that the try read. -/
def State.beginSource (s : State) (n : Ch) (j : RecJob) (src : Nat) (m : Option Manifest) : State :=
  let s := if src = 1 then s.keepInact n j.slot m else s
  let s := s.updRec n (fun x =>
    { x with
      source := src, step := 0, fails := 0, at_ := s.time, stream := noStream
      man := if src = 2 then ((s.chan n).slot j.slot).manG else if src = 3 then m else none
      st := if src = 1 then .actCommit else if src = 2 ∨ src = 3 then .writing else .streaming })
  let j := { j with source := src }
  if src = 1 then s.recActCommit n j
  else if src = 2 ∨ src = 3 then s.recRecord n j 0 0
  else (if src = 5 then { s with ident := { s.ident with recEnd := none } } else s).raise 533 0

/-- The first permitted and available source from `k` on (R277). -/
def State.nextSource (s : State) (n : Ch) (sl : SlotId) (m : Option Manifest) (anchors : Bool) (from_ : Nat) : Option Nat :=
  [1, 2, 3, 4, 5].find? (fun k => decide (from_ < k) && s.sourcePermitted n k && s.sourceAvailable n sl k m anchors)

/-- The check that a try makes of the inactive copy (R136): a manifest or anchor that fails raises the event of R135. -/
def State.checkInact (s : State) (n : Ch) (j : RecJob) (m : Option Manifest) (anchors : Bool) : State :=
  if j.source ≠ 0 ∨ ((s.chan n).slot j.slot).inactValid = true ∨ s.hasCopy n j.slot (s.inactCopy n j.slot) = false then s
  else
    let c := match m with | some m => s.manCheck n j.slot (s.inactCopy n j.slot) m | none => 1
    let c := if c = 0 ∧ anchors = false then 7 else c
    s.raiseIf (decide (c ≠ 0)) (64 * n.val + manEvent c) (chArg 0 0 (s.inactCopy n j.slot) j.slot.val)

/-- RECOVERY_SOURCE_TRY (R277): the next permitted and available source is tried for the slot in hand. `m` and `anchors`: the
manifest of the copy or vault image the try reads, and the check of its anchors. After a second fault of the PKU the try is made
again (R318). -/
def execRecoverySourceTry (n : Ch) (m : Option Manifest) (anchors : Bool) (s : State) : Host.Outcome State Fault Refusal :=
  .next (match s.powered, (s.chan n).st, s.recOf n with
    | true, .reimaging, some j =>
      if j.st ≠ .trying ∨ s.plat.mode = .lockdown ∨ s.intentsOk = false ∨ s.wardenAway = true then s
      else
      let v := s.pkuRun
      let s := v.1
      if v.2 = false then s else
      let s := s.checkInact n j m anchors
      if j.single then
        if s.sourceAvailable n j.slot j.source m anchors then s.beginSource n j j.source m else s.sourceFails n j
      else
        match s.nextSource n j.slot m anchors j.source with
        | some k => s.beginSource n j k m
        | none => s.recExhausted n
    | _, _, _ => s)

/-- RECOVERY_SOURCE_TIMEOUT (R277): HOSTWAIT, BMCWAIT or STREAMGAP expires. -/
def execRecoverySourceTimeout (n : Ch) (s : State) : Host.Outcome State Fault Refusal :=
  .next (match s.powered, s.recOf n with
    | true, some j => if j.st = .streaming then s.writeFails n j else s
    | _, _ => s)

/-- ACT_COMMIT_RETRY (R276). -/
def execActCommitRetry (n : Ch) (s : State) : Host.Outcome State Fault Refusal :=
  .next (match s.powered, s.recOf n with
    | true, some j => if j.st = .actCommit then s.recActCommit n j else s
    | _, _ => s)

/-- The restored copy is written and verified: its manifest is the source's, the KIND 7 record closes and the slot is restored
(R276). -/
def State.recWritten (s : State) (n : Ch) (j : RecJob) : State :=
  let s := if j.man.isSome then s.updSlot n j.slot (fun z => z.setMan (s.actCopy n j.slot) j.man) else s
  ((s.recRecord n j 1 (s.recSteps n j)).closeRepairs n j.slot (s.actCopy n j.slot)).slotRestored n j

/-- A step of a KIND 7 write from source 2 or 3 (R276, R277): the next erase unit of the copy ACT names, or, once every unit is written, a
step of the full Trellis read-back. `last` where the read-back is complete, `ok` the read-back of this step. -/
def State.recWrite (s : State) (n : Ch) (j : RecJob) (last ok : Bool) : State :=
  let us := s.copyUnitList n j.slot (s.actCopy n j.slot)
  match us.drop j.step with
  | [] => if ok = false then s.writeFails n j else if last then s.recWritten n j else s
  | u :: rest =>
    if s.canWrite n u.part = false then s
    else
      let s := s.setBusy n [u.part] none
      if ok = false then
        if j.fails < 3 then s.updRec n (fun x => { x with fails := x.fails + 1 }) else (s.recRecord n j 2 j.step).sourceFails n j
      else if last ∧ rest = [] then s.recWritten n j
      else (s.updRec n (fun x => { x with step := x.step + 1, fails := 0 })).recRecord n j 0 (j.step + 1)

/-- A rewrite in hand changed. -/
def State.updRewrite (s : State) (r : Rewrite) (g : Rewrite → Rewrite) : State :=
  { s with ident := { s.ident with rewrites := s.ident.rewrites.map (fun x => if x = r then g x else x) } }

/-- The record of a rewrite of a failed copy (R127, R276). -/
def State.rewriteRecord (s : State) (n : Ch) (r : Rewrite) (k : SlotId) (state step : Nat) : State :=
  s.intent 7 n.val k.val state step (s.copyUnitList n k r.copy).length (s.copyPlace n k (s.actCopy n k)) (s.copyPlace n k r.copy) 0

/-- A step of rewriting the copy that source 1 left failed from the copy in use, once the part of its next unit is not exposed (R107,
R276): EV29 once per wait. The restored copy becomes the inactive one, verified. A unit that fails four read-backs gives the rewrite up. -/
def State.rewriteStep (s : State) (n : Ch) (r : Rewrite) (last ok : Bool) : State :=
  let k : SlotId := ⟨r.slot % 4, Nat.mod_lt _ (by decide)⟩
  let units := s.copyUnitList n k r.copy
  match units[r.step]? with
  | none => { s with ident := { s.ident with rewrites := s.ident.rewrites.erase r } }
  | some u =>
    if s.exposed n u.part then (if r.waits then s else (s.updRewrite r (fun x => { x with waits := true })).raiseCh n 29 0)
    else if s.canWrite n u.part = false then s
    else
      let s := s.setBusy n [u.part] none
      if ok = false then
        if r.fails < 3 then s.updRewrite r (fun x => { x with fails := x.fails + 1, waits := false })
        else ({ s with ident := { s.ident with rewrites := s.ident.rewrites.erase r } } : State).rewriteRecord n r k 2 r.step
      else if r.step + 1 < units.length then
        (s.updRewrite r (fun x => { x with step := x.step + 1, fails := 0, waits := false })).rewriteRecord n r k 0 (r.step + 1)
      else if last then
        let s := ({ s with ident := { s.ident with rewrites := s.ident.rewrites.erase r } } : State).rewriteRecord n r k 1 units.length
        if r.copy = s.inactCopy n k then
          (s.closeRepairs n k r.copy).updSlot n k (fun z => ({ z with inactValid := true }).setMan r.copy (z.man (s.actCopy n k)))
        else s
      else s

/-- RECOVERY_WRITE_STEP (R276, R277): one step of a recovery write of an agent being reimaged; for an agent that has none, of the rewrite
of a copy that source 1 left failed. -/
def execRecoveryWriteStep (n : Ch) (last ok : Bool) (s : State) : Host.Outcome State Fault Refusal :=
  .next (if s.powered = false ∨ s.intentsOk = false ∨ s.portHeld n = true ∨ s.wardenAway = true then s
  else
    match s.recOf n with
    | some j => if j.st = .writing then s.recWrite n j last ok else s
    | none =>
      match s.ident.rewrites.find? (fun r => r.ch = n.val) with
      | some r => s.rewriteStep n r last ok
      | none => s)

/-- REIMAGE's checks and effect (R278). -/
def State.reimageCmd (s : State) (side : Bool) (agent source : Nat) : State × Status :=
  if h : agent < 8 then
    let n : Ch := ⟨agent, h⟩
    if 5 < source then (s, .invalidField)
    else if (s.chan n).st ≠ .quarantined ∨ s.perm (if side then 3 else 2) = false ∨ s.intentsOk = false then (s, .notPermitted)
    else if source ≠ 0 ∧ s.sourcePermitted n source = false then (s, .notPermitted)
    else (s.enterReimaging n (s.enabledSlots n) source (decide (source ≠ 0)), .ok)
  else (s, .invalidField)

/-- REIMAGE (R239, R278). -/
def execReimage (cid agent source : Nat) (s : State) : Host.Outcome State Fault Refusal :=
  .next (s.admin cid 0x14 (fun s =>
    let r := s.reimageCmd false agent source
    (r.1, { reply r.2 with detail := if r.2 = .invalidField then (if agent < 8 then 9 else 8) else 0 })))

/-- QRELEASE (R44, R281): an owner token with ACTION 1 returns QUARANTINED agents to HELD. -/
def execQrelease (cid len : Nat) (t : Token) (s : State) : Host.Outcome State Fault Refusal :=
  .next (s.admin cid 0x15 (fun s =>
    if len = 0 then (s, reply .noop)
    else
      let r := s.checkToken t
      if r.2 ≠ .ok then (r.1, reply r.2)
      else if t.action ≠ 1 ∨ (agentsOf t.agents).all (fun n => decide ((s.chan n).st = .quarantined)) = false ∨ agentsOf t.agents = [] then
        (r.1, reply .notPermitted)
      else ((agentsOf t.agents).foldl (fun s n => s.releaseQuarantine n) r.1, reply .ok)))

/-- IMAGE_STREAM (R279): a chunk of the host's image for the slot whose current source is 4. -/
def execImageStream (cid channel slot : Nat) (last : Bool) (off len : Nat) (s : State) : Host.Outcome State Fault Refusal :=
  .next (s.admin cid 0x16 (fun s =>
    if len = 0 then (s, reply .noop)
    else if h : channel < 8 then
      let n : Ch := ⟨channel, h⟩
      match s.recOf n with
      | some j =>
        if j.st = .streaming ∧ j.source = 4 ∧ j.slot.val = slot then
          let r := chunkStatus j.stream (s.recSize n j.slot) off len last
          if r.st = .ok then
            ((s.updRec n (fun x => { x with stream := x.stream.push len last, at_ := s.time })).countRead len, okWith (leBytes 4 (j.stream.held + len)))
          else (s, r)
        else (s, reply .notPermitted)
      | none => (s, reply .notPermitted)
    else (s, reply .notPermitted)))

/-- IMAGE_CHUNK_PROGRAM (R31, R127, R279, R284): the oldest buffered chunk of an agent's recovery, or of the firmware package where `port`
is the vault's, is erased and programmed in steps, its intent record updated; `ok` false after the fourth failed read-back of a unit. -/
def execImageChunkProgram (port : PortId) (ok : Bool) (s : State) : Host.Outcome State Fault Refusal :=
  .next (if s.powered = false then s
  else if h : port.val < 8 then
    let n : Ch := ⟨port.val, h⟩
    match s.recOf n with
    | some j =>
      match j.stream.bufs with
      | _ :: rest =>
        if j.st ≠ .streaming ∨ s.wardenAway = true then s
        else if ok = false then s.writeFails n j
        else
          let step := (j.stream.held - rest.sum) / 4096
          (s.recRecord n j 0 step).updRec n (fun x =>
            { x with
              step := step, stream := { x.stream with bufs := rest }
              st := if rest = [] ∧ x.stream.last = true then .verifying else x.st })
      | [] => s
    | none => s
  else
    match s.ident.dl.bufs with
    | _ :: rest =>
      let s := s.vaultDone
      if ok then
        let size := match s.ident.dlPkg with | some p => p.size / 4096 | none => 0
        ({ s with ident := { s.ident with dl := { s.ident.dl with bufs := rest } } } : State).intent 6 8 0 0
          ((s.ident.dl.held - rest.sum) / 4096) size 0 (fwPlace s.ident.dlCopy) 0
      else (({ s with ident := { s.ident with dl := { held := 0, bufs := [], last := false }, dlPkg := none, fwState := .idle } } : State).intent 6 8 0 2 0 0 0 (fwPlace s.ident.dlCopy) 0).raise 523 (fwArg s.ident.dlCopy)
    | [] => s)

/-- IMAGE_VERIFY (R276, R279, R318): verification of a fully streamed image against its manifest and Trellis; after a second fault of the
PKU it is made again. -/
def execImageVerify (n : Ch) (m : Manifest) (trellisOk : Bool) (s : State) : Host.Outcome State Fault Refusal :=
  .next (match s.powered, s.recOf n with
    | true, some j =>
      if j.st ≠ .verifying ∨ s.wardenAway = true then s
      else
      let v := s.pkuRun
      let s := v.1
      if v.2 = false then s
      else
      let pass := decide (s.manCheck n j.slot (s.actCopy n j.slot) m = 0 ∧ trellisOk = true)
      let s := if j.source = 5 then { s with ident := { s.ident with recEnd := some pass } } else s
      if pass then
        (s.updSlot n j.slot (fun z => z.setMan (s.actCopy n j.slot) (some m))).recWritten n j
      else s.writeFails n j
    | _, _ => s)

/-- The recovery an open source 5 request is for (R280). -/
def State.bmcJob (s : State) : Option (Ch × RecJob) :=
  (allCh.filterMap (fun n => (s.recOf n).map (fun j => (n, j)))).find? (fun x => decide (x.2.source = 5) && decide (x.2.st = .streaming ∨ x.2.st = .verifying))

/-- A vendor message of the BMC is answered; messages from any other EID are discarded (R280). -/
def State.fromBmc (s : State) (eid : Nat) (k : State → State × List Byte) : State :=
  match s.bundle with
  | some b => if s.powered ∧ s.plat.fwRuns ∧ eid = b.bmcEid then (k s).1.mctpSend eid (k s).2 else s
  | none => s

/-- REC_QUERY (R280). -/
def execRecQuery (eid : Nat) (s : State) : Host.Outcome State Fault Refusal :=
  .next (s.fromBmc eid (fun s =>
    match s.bmcJob with
    | some (n, j) => (s, leBytes 1 0 ++ leBytes 1 n.val ++ leBytes 1 j.slot.val ++
        leBytes 1 (s.vintage (fld (s.cfg (fch n (0xB8 + 4 * j.slot.val))) 27 24)) ++ leBytes 4 (s.recSize n j.slot) ++ leBytes 4 j.stream.held)
    | none => (s, leBytes 1 Status.notPermitted.code)))

/-- REC_CHUNK (R280): rules of R279; LAST is implied. -/
def execRecChunk (eid off len : Nat) (s : State) : Host.Outcome State Fault Refusal :=
  .next (s.fromBmc eid (fun s =>
    match s.bmcJob with
    | some (n, j) =>
      if j.st ≠ .streaming then (s, leBytes 1 Status.notPermitted.code)
      else
        let last := decide (off + len = s.recSize n j.slot)
        let r := if 4000 < len then badField 4 else chunkStatus j.stream (s.recSize n j.slot) off len last
        if r.st = .ok then (s.updRec n (fun x => { x with stream := x.stream.push len last, at_ := s.time }), leBytes 1 0 ++ leBytes 4 (j.stream.held + len))
        else (s, leBytes 1 r.st.code)
    | none => (s, leBytes 1 Status.notPermitted.code)))

/-- REC_END (R280): BUSY_RETRY while verification runs, then OK or VERIFY_FAIL; before the last chunk, and where no
source 5 request was ever made, there is nothing to report on. -/
def execRecEnd (eid : Nat) (s : State) : Host.Outcome State Fault Refusal :=
  .next (s.fromBmc eid (fun s =>
    match s.bmcJob with
    | some (_, j) => (s, leBytes 1 (if j.st = .verifying ∨ j.stream.last = true then Status.busyRetry.code else Status.notPermitted.code))
    | none => (s, leBytes 1 (match s.ident.recEnd with
        | some true => Status.ok.code
        | some false => Status.verifyFail.code
        | none => Status.notPermitted.code))))

/-! ## RECOVER_PLATFORM (R281, R282) -/

/-- RECOVER_PLATFORM on one of its actions: token, then the action's mode, then its effect (R281). A token that names another
of the actions 2 to 4 is that action's command. -/
def State.recoverCmd (s : State) (len : Nat) (t : Token) (mine : Bool) (modeOk : Bool) (act : State → State) : State × Reply :=
  if len = 0 then (s, reply .noop)
  else
    let r := s.checkToken t
    if r.2 ≠ .ok then (r.1, reply r.2)
    else if mine = false ∨ modeOk = false then (r.1, reply .notPermitted)
    else (act r.1, reply .ok)

/-- The mode is VERIFY or GUARD. -/
def State.verifyOrGuard (s : State) : Bool := decide (s.plat.mode = .verify ∨ s.plat.mode = .guard)

/-- RECOVER_PLATFORM (R281, R282): ACTION 2 enters RECOVER with CAUSE 0x0B; the listed agents are QUARANTINED, then REIMAGING
by source 0. -/
def execRecoverPlatform (src : Src) (len : Nat) (t : Token) (s : State) : Host.Outcome State Fault Refusal :=
  .next (if t.action = 3 ∨ t.action = 4 then s
  else (s.command src 0x17 (fun s => s.recoverCmd len t (decide (t.action = 2)) s.verifyOrGuard (fun s =>
    let s := s.enterRecover 0x0B
    let s : State := { s with ident := { s.ident with recAgents := (agentsOf t.agents).map (fun n => n.val) } }
    (agentsOf t.agents).foldl (fun s n =>
      let s := s.quarantine n 0
      if (s.chan n).st = .quarantined then s.enterReimaging n (s.enabledSlots n) 0 false else s) s))).1)

/-- GOLDEN_FIRMWARE_RESTORE (R281): ACTION 3: firmware copies A and B are rewritten from the vault golden firmware; the device
restart follows the last GOLDEN_COPY_STEP. -/
def execGoldenFirmwareRestore (src : Src) (len : Nat) (t : Token) (s : State) : Host.Outcome State Fault Refusal :=
  .next (if t.action = 3 then
    (s.command src 0x17 (fun s => s.recoverCmd len t true ((s.verifyOrGuard || decide (s.plat.mode = .recover)) && s.intentsOk) (fun s =>
      { s with ident := { s.ident with fwCopies := [(2, 0), (2, 1), (3, 3)], fwState := .goldcopy } }))).1
  else s)

/-- AUTHORISED_RECOVERY (R54, R281, R350): ACTION 4 in LOCKDOWN clears the holding tamper record, EV820 where it was held across
power cycles; device restart, CAUSE 0x0D. Entries by a permanent zeroise and by END_OF_LIFE have no exit, and an INVALID
lifecycle leaves by COMPLETE_TRANSITION alone. -/
def execAuthorisedRecovery (src : Src) (len : Nat) (t : Token) (s : State) : Host.Outcome State Fault Refusal :=
  .next (if t.action = 4 then
    let exit_ := decide (s.plat.mode = .lockdown) && decide (s.plat.cause = 0x10 ∨ s.plat.cause = 0x11 ∨ s.plat.cause = 0x14)
    let u := s.command src 0x17 (fun s => s.recoverCmd len t true exit_ (fun s =>
      ({ s with keeper := { s.keeper with tlHolding := s.keeper.tlHolding && decide (s.keeper.tlClass = 5) } } : State).raiseIf
        (s.keeper.tlHolding && decide (s.keeper.tlClass = 4)) 820 0))
    if replyOk u.2 then u.1.deviceRestart 0xD 0x40#32 true else u.1
  else s)

end Sys2Proof.Machine
end

