-- ==== Sys2Proof/Machine/Firmware.lean ====
section
/-! DEFINITION. Machine/Firmware.lean: device firmware (R283 to R292). -/

namespace Sys2Proof.Machine

/-! ## Firmware packages (R283 to R290) -/

/-- A firmware copy: 0 A, 1 B, 2 golden. -/
def Ident.fw (i : Ident) (k : Nat) : FwCopy := if k = 0 then i.fwA else if k = 1 then i.fwB else i.fwGold

def Ident.setFw (i : Ident) (k : Nat) (c : FwCopy) : Ident :=
  if k = 0 then { i with fwA := c } else if k = 1 then { i with fwB := c } else { i with fwGold := c }

/-- The copy FW_DOWNLOAD writes (R284): neither running nor golden; with neither A nor B running, one that does not boot, else
the one that is not preferred. -/
def Ident.inactive (i : Ident) : Nat :=
  if i.runCopy = 0 then 1
  else if i.runCopy = 1 then 0
  else if i.fwA.bootable = false then 0 else if i.fwB.bootable = false then 1 else 1 - i.preferred

/-- The signatures of a package: ECDSA P-384 and ML-DSA-87, each from a vendor root key of OTP (R283). -/
def State.vendorSigs (s : State) (sigs : List Sig) : Bool :=
  let by_ := fun (g : Sig) => g.valid && s.vendorKeys.any (fun d => decide (keyIdOf d = g.keyId))
  sigs.any (fun g => by_ g && decide (g.alg = -35)) && sigs.any (fun g => by_ g && decide (g.alg = -65603))

/-- SIZE within the range of R283, and a well-formed manifest. -/
def packageFormOk (p : Package) : Bool := p.wellFormed && decide (0x10000 + p.compEnd ≤ p.size ∧ p.size ≤ 8388608)

/-- Verification of a package (R283, R284). -/
def State.packageOk (s : State) (p : Package) : Bool := packageFormOk p && s.vendorSigs p.sigs && p.digestsOk && decide (p.vintage ≤ 64)

/-- The work of a FW_DOWNLOAD chunk on either path (R284); a second stream by the other path finds the first in progress (R413). `pkg` is what the first chunk's bytes spell. -/
def State.fwDownload (s : State) (side last : Bool) (off len : Nat) (pkg : Option Package) : State × Reply :=
  let i := s.ident
  if s.intentsOk = false then (s, reply .notPermitted)
  else if i.fwState = .handover ∨ i.fwState = .confirming ∨ i.fwState = .burning ∨ i.fwState = .goldcopy ∨ i.dl.last = true ∨
      (i.fwState = .downloading ∧ i.dlSide ≠ side) then (s, reply .busyRetry)
  else if off = 0 ∧ i.dl.held = 0 then
    match pkg with
    | none => (s, badField 24)
    | some p =>
      if len < 4 + p.len ∨ packageFormOk p = false then (s, badField 24)
      else
        let r := chunkStatus { held := 0, bufs := i.dl.bufs, last := false } p.size off len last
        if r.st ≠ .ok then (s, r)
        else
          let k := i.inactive
          let s := s.intent 6 8 0 0 0 (p.size / 4096) 0 (fwPlace k) 0
          let j : Ident := { i with dl := i.dl.push len last, dlPkg := some p, dlCopy := k, dlSide := side, fwState := .downloading }
          (({ s with ident := j.setFw k noFw } : State).writeHeader, okWith (leBytes 4 len))
  else
    match i.dlPkg with
    | none => (s, badField 12)
    | some p =>
      let r := chunkStatus i.dl p.size off len last
      if r.st ≠ .ok then (s, r)
      else ({ s with ident := { i with dl := i.dl.push len last } }, okWith (leBytes 4 (i.dl.held + len)))

/-- FW_DOWNLOAD (R239, R284). -/
def execFwDownload (cid : Nat) (last : Bool) (off len : Nat) (pkg : Option Package) (s : State) : Host.Outcome State Fault Refusal :=
  .next (s.admin cid 0x21 (fun s =>
    if len = 0 then (s, reply .noop)
    else
      let r := s.fwDownload false last off len pkg
      (if r.2.st = .ok then r.1.countRead len else r.1, r.2)))

/-- FW_PACKAGE_VERIFY (R151, R284): every chunk programmed and the last given, the digest with an internal Press credit: DOWNLOADED with EV522, or the copy erased with EV523.
Under the mask ROM service a verified package is booted: a device restart into HOLD follows (R41, R52). -/
def execFwPackageVerify (s : State) : Host.Outcome State Fault Refusal :=
  .next (match s.powered, s.ident.fwState, s.ident.dlPkg with
    | true, .downloading, some p =>
      if s.ident.dl.last = false ∨ s.ident.dl.bufs ≠ [] then s
      else
        let r := s.pressRun { cls := 2, ch := none, tag := 64, engine := 8 }
        if r.2 = false then r.1 else
        let v := r.1.pkuRun
        if v.2 = false then v.1 else
        let s := v.1
        let k := s.ident.dlCopy
        let clear : Ident := { s.ident with dl := noStream, dlPkg := none }
        if s.packageOk p then
          let c : FwCopy := { pkg := some p, bootable := true, confirmed := s.plat.romsvc }
          let s : State := ({ s with ident := ({ clear with fwState := .downloaded } : Ident).setFw k c } : State).writeHeader.raise 522 (fwArg k)
          let s := s.intent 6 8 0 1 1 1 0 (fwPlace s.ident.dlCopy) 0
          if s.plat.romsvc then ({ s with ident := { s.ident with preferred := k } } : State).deviceRestart 0xC 0x20#32 true else s
        else
          (({ s with ident := ({ clear with fwState := .idle } : Ident).setFw k noFw } : State).raise 523 (fwArg k)).intent 6 8 0 2 1 1 0 (fwPlace s.ident.dlCopy) 0
    | _, _, _ => s)

/-- The package downloaded and not yet activated. -/
def State.downloaded (s : State) : Option (Nat × Package) :=
  if s.ident.fwState = .downloaded then (s.ident.fw s.ident.dlCopy).pkg.map (fun p => (s.ident.dlCopy, p)) else none

/-- The package that runs. -/
def State.runningPkg (s : State) : Option Package := (s.ident.fw s.ident.runCopy).pkg

/-- WD0's period in CORE cycles is below 2.5 s (R285). -/
def State.wd0Short (s : State) : Bool :=
  s.wd0.locked &&
    (if s.wd0.ring then decide (fld s.wd0.cfg 23 0 * 2 ^ (10 + fld s.wd0.cfg 26 24) < 250000000)
     else decide (fld s.wd0.cfg 23 0 * 2 ^ (10 + fld s.wd0.cfg 26 24) < 2000000000))

/-- The checks of FW_ACTIVATE in order (R285). -/
def State.fwActivateStatus (s : State) (side : Bool) (target : Nat) : Status :=
  let recOk := decide (s.plat.mode = .recover) && decide (s.plat.cause = 8 ∨ s.plat.cause = 0xE)
  if (side = true ∧ s.perm 4 = false) ∨ (s.plat.mode ≠ .guard ∧ recOk = false) ∨ s.intentsOk = false then .notPermitted
  else
    match s.downloaded with
    | none => .busyRetry
    | some (_, p) =>
      if s.ident.hand.isSome ∨ s.slotsQuiet = false ∨ s.ident.polState = 1 ∨ s.ident.polState = 2 then .busyRetry
      else if p.vintage < s.vintage 15 then .verifyFail
      else if 2 < target then .invalidField
      else if (match s.runningPkg with
          | some r => decide ((target = 0 ∧ (p.stewardDig ≠ r.stewardDig ∨ p.interface ≠ r.interface)) ∨
                      (target = 1 ∧ (p.wardenDig ≠ r.wardenDig ∨ p.interface ≠ r.interface)))
          | none => decide (target < 2)) = true then .invalidField
      else if s.wd0Short then .notPermitted
      else .ok

/-- FW_ACTIVATE's effect (R285, R286): in RECOVER the package becomes preferred and confirmed and a device restart follows; in
GUARD a live handover begins. -/
def State.fwActivate (s : State) (side : Bool) (target : Nat) : State × Status :=
  let st := s.fwActivateStatus side target
  if st ≠ .ok then (s, st)
  else if s.plat.mode = .guard then
    let h : Hand := { warden := decide (target ≠ 1), rest := if target = 2 then [false] else [], st := .waiting }
    ({ s with ident := { s.ident with fwState := .handover, hand := some h } }, .ok)
  else
    let k := s.ident.dlCopy
    (({ s with ident := ({ s.ident with preferred := k } : Ident).setFw k { s.ident.fw k with confirmed := true } } : State).writeHeader, .ok)

/-- FW_ACTIVATE (R239, R285). -/
def execFwActivate (cid target : Nat) (s : State) : Host.Outcome State Fault Refusal :=
  .next (
    let go := (s.adminHead cid 0x22).isSome && s.serving && s.busOk && s.adminAllowed 0x22 && !s.firmwareAway 0x22 &&
      decide (s.fwActivateStatus false target = .ok) && decide (s.plat.mode = .recover)
    let u := s.admin cid 0x22 (fun s =>
      let r := s.fwActivate false target
      (r.1, { reply r.2 with detail := if r.2 = .invalidField then 8 else 0 }))
    if go then u.deviceRestart 0xC 0x20#32 true else u)

/-- HANDOVER_HALT (R286): the outgoing pair writes its handover block and halts: KIND 6 in STATE 3, EV524. The
WD0 service that the Warden gives first is a WD0 command of its own. -/
def execHandoverHalt (s : State) : Host.Outcome State Fault Refusal :=
  .next (match s.powered, s.ident.hand with
    | true, some h =>
      if h.st = .waiting then
        (({ s with ident := { s.ident with hand := some { h with st := .halted } } } : State).intent 6 8 0 3 0 1 0 (fwPlace s.ident.dlCopy) 0).raise 524 (fwArg s.ident.dlCopy)
      else s
    | _, _ => s)

/-- The outgoing image goes on (R287): EV526, FALLBACKS, the KIND 6 record rolled back, the package DOWNLOADED; with TARGET 2
both pairs return to the outgoing copy. The loader has derived the outgoing image's Alias keys again. -/
def State.fallback (s : State) : State :=
  let v := match s.runningPkg with | some p => p.version | none => 0
  let s := match s.runningPkg with | some p => s.deriveL0 p p | none => s
  let s : State := { s with ident := { s.ident with
    hand := none, fwState := .downloaded, fallbacks := sat 255 (s.ident.fallbacks + 1), wver := v, sver := v, certDue := true } }
  ((s.intent 6 8 0 2 0 1 0 (fwPlace s.ident.dlCopy) 0).raise 526 (fwArg s.ident.dlCopy)).drainExceptions

/-- HANDOVER_LOAD (R286): the mask ROM loader reads the new image, `ok` where its digest equals the manifest's, and derives
CDI_L1 and the Alias keys: with TARGET 2 the Steward's old image runs on while the Warden's is new. -/
def execHandoverLoad (ok : Bool) (s : State) : Host.Outcome State Fault Refusal :=
  .next (match s.powered, s.ident.hand with
    | true, some h =>
      if h.st ≠ .halted then s
      else if ok then
        let s : State := { s with ident := { s.ident with hand := some { h with st := .loaded } } }
        (match (s.ident.fw s.ident.dlCopy).pkg, s.runningPkg with
         | some p, some r => s.deriveL0 p (if h.rest = [] then p else r)
         | some p, none => s.deriveL0 p p
         | none, _ => s)
      else s.fallback
    | _, _ => s)

/-- The new firmware of every pair of the handover runs (R285, R286): it is the running copy, and its confirmation opens. -/
def State.handoverDone (s : State) : State :=
  let s : State := { s with ident := { s.ident with hand := none, runCopy := s.ident.dlCopy, fwState := .confirming } }
  s.platChange

/-- CHECK_IN (R286): the new firmware checks in, EV525, queued exceptions drained; with TARGET 2 the Steward follows. -/
def execCheckIn (s : State) : Host.Outcome State Fault Refusal :=
  .next (match s.powered, s.ident.hand with
    | true, some h =>
      if h.st ≠ .loaded then s
      else
        let v := match (s.ident.fw s.ident.dlCopy).pkg with | some p => p.version | none => 0
        let s : State := { s with ident := { s.ident with wver := if h.warden then v else s.ident.wver, sver := if h.warden then s.ident.sver else v } }
        let s := (s.raise 525 (fwArg s.ident.dlCopy)).drainExceptions
        (match h.rest with
         | w :: r => { s with ident := { s.ident with hand := some { warden := w, rest := r, st := .waiting } } }
         | [] => { s.handoverDone with ident := { s.handoverDone.ident with wver := v, sver := v } })
    | _, _ => s)

/-- HANDOVER_FALLBACK (R287): no check-in within 2 s of the halt, or the handover block unreadable. -/
def execHandoverFallback (s : State) : Host.Outcome State Fault Refusal :=
  .next (match s.powered, s.ident.hand with
    | true, some h => if h.st = .waiting then s else s.fallback
    | _, _ => s)

/-- FW_CONFIRM (R288): first the confirmation, after CONFIRM seconds in GUARD with no WD0 first expiry: the new copy preferred
and confirmed, EV527; then one step of counter 15 each time; then the golden copy where its Vintage is below the
counter. `ok` false where a bit fails (R326). -/
def execFwConfirm (ok : Bool) (s : State) : Host.Outcome State Fault Refusal :=
  .next (if s.powered = false ∨ s.plat.mode = .lockdown then s
  else
    let k := s.ident.runCopy
    let v := match s.runningPkg with | some p => p.vintage | none => 0
    let finish := fun (s : State) =>
      match s.ident.fwGold.pkg with
      | some g => if g.vintage < s.vintage 15 then { s with ident := { s.ident with fwState := .goldcopy, fwCopies := s.ident.fwCopies ++ [(k, 2)] } }
                  else { s with ident := { s.ident with fwState := .idle } }
      | none => { s with ident := { s.ident with fwState := .idle } }
    match s.ident.fwState with
    | .confirming =>
      if s.plat.mode ≠ .guard ∨ s.wd0.warn = true then s
      else
        let s : State := ({ s with ident := ({ s.ident with preferred := k, fwState := .burning } : Ident).setFw k { s.ident.fw k with confirmed := true } } : State).writeHeader.raise 527 (fwArg k)
        let s := s.intent 6 8 0 1 1 1 0 (fwPlace s.ident.dlCopy) 0
        if v ≤ s.vintage 15 then finish s else s
    | .burning =>
      if ok = false then s.otpFail
      else if v ≤ s.vintage 15 then finish s
      else
        let s := s.burnStep 15 v
        if v ≤ s.vintage 15 then finish s else s
    | _ => s)

/-- GOLDEN_COPY_STEP (R31, R281, R288, R289): one step of copying a firmware package over another copy: the first writes the intent
record and leaves the copy written over unbootable until the last (R290), `last` ends the copy. A restore of ACTION 3 ends with a device restart. -/
def execGoldenCopyStep (last : Bool) (s : State) : Host.Outcome State Fault Refusal :=
  .next (match s.powered, s.ident.fwCopies with
    | true, (a, b) :: rest =>
      let open_ := (liveIntents s.vault.intents).any (fun i => decide (i.kind = 7 ∧ i.chan = 8))
      if s.intentsOk = false ∨ (a < 2 ∧ b < 2 ∧ s.plat.mode ≠ .guard) then s
      else if open_ = false ∨ last = false then
        let s : State := if open_ then s else { s with ident := s.ident.setFw b { s.ident.fw b with bootable := false } }
        s.vaultDone.intent 7 8 0 0 (b2n open_) 2 (fwPlace a) (fwPlace b) 0
      else
        let s := s.vaultDone
        let src := s.ident.fw a
        let j : Ident := { s.ident with fwCopies := rest, fwState := if rest = [] then .idle else s.ident.fwState }
        let s : State := { s with ident := j.setFw b { pkg := src.pkg, bootable := true, confirmed := true } }
        let s := s.writeHeader
        let s := s.intent 7 8 0 1 2 2 (fwPlace a) (fwPlace b) 0
        (match rest with
         | [(3, 3)] => ({ s with ident := { s.ident with fwCopies := [], fwState := .idle, preferred := 0 } } : State).deviceRestart 0xC 0x20#32 true
         | _ => s)
    | _, _ => s)

end Sys2Proof.Machine
end

