-- ==== Sys2Proof/Machine/Spdm.lean ====
section
/-! DEFINITION. Machine/Spdm.lean: SPDM (R259 to R269). -/

namespace Sys2Proof.Machine

/-! ## Measurements (R257 to R264) -/

/-- A deterministic CBOR unsigned integer (R260): major type `m`. -/
def cborHead (m n : Nat) : List Byte :=
  if n < 24 then leBytes 1 (32 * m + n)
  else if n < 256 then leBytes 1 (32 * m + 24) ++ beBytes 1 n
  else if n < 65536 then leBytes 1 (32 * m + 25) ++ beBytes 2 n
  else leBytes 1 (32 * m + 26) ++ beBytes 4 n

/-- The deterministic CBOR encoding of REGIONS (R134, R260). -/
def regionsCbor (rs : List MRegion) : List Byte :=
  cborHead 4 rs.length ++ rs.flatMap (fun r =>
    cborHead 4 4 ++ cborHead 0 r.mregion ++ cborHead 0 r.first ++ cborHead 0 r.count ++ cborHead 0 r.policy)

/-- The Image record of a slot (R260). -/
def imageRecord (n : Ch) (k : SlotId) (m : Manifest) : List Byte :=
  leBytes 1 3 ++ leBytes 1 n.val ++ leBytes 1 k.val ++ leBytes 1 m.vintage ++ leBytes 1 m.regions.length ++ leBytes 1 m.height ++
    leBytes 2 0 ++ leBytes 4 m.npages ++ leBytes 4 0 ++ beBytes 48 m.root ++ beBytes 48 m.imageId ++
    Config.sha384 (regionsCbor m.regions) ++ beBytes 48 m.digest

/-- The digest of the image of slot s of agent n; none for a disabled slot or one whose manifest is not verified (R259). -/
def State.imageDigest (s : State) (n : Ch) (k : SlotId) : Option (List Byte) :=
  if s.slotEnabled n k then (((s.chan n).slot k).man (s.actCopy n k)).map (fun m => Config.sha384 (imageRecord n k m)) else none

/-- The active stitch table, then the region table, three words an entry (R261). -/
def State.layoutBytes (s : State) (n : Ch) : List Byte :=
  ((List.range 64).flatMap (fun i => [0, 1, 2].flatMap (fun k => wordBytes (s.cfg (stKey n.val i k))))) ++
    (List.range 128).flatMap (fun i => [0, 1, 2].flatMap (fun k => wordBytes (s.cfg (rgKey n.val i k))))

/-- The Agent record (R261). -/
def State.agentRecord (s : State) (n : Ch) : List Byte :=
  leBytes 1 4 ++ leBytes 1 n.val ++ leBytes 1 ((s.enabledSlots n).foldl (fun a k => a + 2 ^ k) 0) ++
    leBytes 1 (fld (s.cfg (fch n 0xA0)) 5 0) ++ leBytes 4 0 ++ Config.sha384 (s.layoutBytes n) ++
    Config.sha384 ((List.range 256).flatMap (fun i => wordBytes (s.cfg (opKey n.val i)))) ++
    allSlots.flatMap (fun k => (s.imageDigest n k).getD (padTo 48 []))

/-- The Platform record (R263). -/
def State.platRecord (s : State) : List Byte :=
  let run := s.runningPkg
  leBytes 1 5 ++ leBytes 1 s.lifeCode ++
    leBytes 1 (b2n s.life.debugOpen + 2 * b2n s.policyApplied + 4 * b2n (decide (s.ident.runCopy = 2))) ++
    leBytes 1 (match run with | some p => p.vintage | none => 0) ++
    leBytes 1 (allCh.foldl (fun a n => a + bitAt (s.enabled n) n.val) 0) ++ leBytes 3 0 ++ leBytes 12 s.unitid ++ leBytes 4 0 ++
    padTo 48 Config.romDigest ++ beBytes 48 (match run with | some p => p.wardenDig | none => 0) ++
    beBytes 48 (match run with | some p => p.stewardDig | none => 0) ++ beBytes 48 (match s.bundle with | some b => b.digest | none => 0) ++
    allCh.flatMap (fun n => if s.enabled n then Config.sha384 (s.agentRecord n) else padTo 48 [])

/-- PLATDIG (R263). -/
def State.platDig (s : State) : List Byte := Config.sha384 s.platRecord

/-- PLATFORM_CERT_ISSUE (R264, R304): L1 derives CDI_L2 and the attestation keys of the new PLATDIG and issues the Platform
certificate: EV534. After a second fault of the PKU it is still due (R318). -/
def execPlatformCertIssue (s : State) : Host.Outcome State Fault Refusal :=
  .next (if s.powered ∧ s.ident.certDue then
    let r := s.pkuRun
    if r.2 then (({ r.1 with ident := { r.1.ident with certDue := false } } : State).deriveL2 s.platDig).raise 534 0 else r.1
  else s)

/-- The health block of agent n (R262). -/
def State.healthBlock (s : State) (n : Ch) : List Byte :=
  let c := s.chan n
  leBytes 1 c.st.code ++ leBytes 1 c.phase.code ++ leBytes 1 (s.agt n).qcount ++ leBytes 1 (s.agt n).wdrst ++ leBytes 1 c.bad.length ++
    leBytes 1 (s.graftHeldOf n) ++ leBytes 1 (b2n (c.prt 0).failed + 2 * b2n (c.prt 1).failed + 4 * b2n c.vslow) ++
    leBytes 1 (s.ident.spdm[n.val]).res ++
    leBytes 1 ((allSlots.map (fun k => bitAt (c.slot k).inactValid (2 * k.val) + bitAt (c.slot k).goldValid (2 * k.val + 1))).sum) ++
    leBytes 1 ((allSlots.map (fun k => bitAt (decide (s.actCopy n k = 2)) k.val)).sum) ++ leBytes 2 0 ++
    leBytes 4 c.cur.cycles ++ leBytes 8 c.cur.lastCyc.toNat ++ leBytes 8 (s.ident.spdm[n.val]).dig

/-- One measurement block: Index, specification, size, DMTF type, value size, value (R259). -/
def measBlock (index type : Nat) (v : List Byte) : List Byte :=
  leBytes 1 index ++ leBytes 1 1 ++ leBytes 2 (v.length + 3) ++ leBytes 1 type ++ leBytes 2 v.length ++ v

/-- The measurements now reported (R40, R259, R268): (index, DMTF type, value). In HOLD, where only the KP9600 itself is measured, with no
bundle applied, in LOCKDOWN and with debug open only indices 1 to 6. -/
def State.measurements (s : State) : List (Nat × Nat × List Byte) :=
  let run := s.runningPkg
  let base : List (Nat × Nat × List Byte) :=
    [(1, 0, padTo 48 Config.romDigest)] ++
    (match run with
     | some p => [(2, 1, beBytes 48 p.wardenDig), (3, 1, beBytes 48 p.stewardDig), (4, 0x87, leBytes 8 p.vintage)]
     | none => []) ++
    (match s.bundle with | some b => [(5, 3, beBytes 48 b.digest)] | none => []) ++
    [(6, 0x85, leBytes 4 0x1F ++ leBytes 4 (2 ^ min 4 s.lifeCode) ++ leBytes 4 1 ++ leBytes 4 (b2n s.life.debugOpen))]
  if s.policyApplied = false ∨ s.plat.mode = .hold ∨ s.plat.mode = .lockdown ∨ s.life.debugOpen = true then base
  else
    base ++ allCh.flatMap (fun n => allSlots.filterMap (fun k => (s.imageDigest n k).map (fun d => (16 + 4 * n.val + k.val, 1, d)))) ++
      (allCh.filter (fun n => s.enabled n)).map (fun n => (48 + n.val, 3, Config.sha384 (s.agentRecord n))) ++
      (allCh.filter (fun n => s.enabled n)).map (fun n => (56 + n.val, 0x84, s.healthBlock n)) ++ [(64, 3, s.platDig)]

/-! ## The SPDM responder (R265 to R268) -/

/-- ErrorCodes of DSP0274 that the responder answers with. -/
inductive SpdmErr where
  | invalidRequest | busy | unexpectedRequest | unspecified | unsupportedRequest
deriving DecidableEq, Repr

def SpdmErr.code : SpdmErr → Nat
  | .invalidRequest => 1 | .busy => 3 | .unexpectedRequest => 4 | .unspecified => 5 | .unsupportedRequest => 7

/-- The connection of a requester. -/
def State.conn (s : State) (eid tr : Nat) : Option Conn := s.ident.conns.find? (fun c => decide (c.eid = eid ∧ c.transport = tr))

def State.setConn (s : State) (c : Conn) : State :=
  { s with ident := { s.ident with
    conns := if s.ident.conns.any (fun d => decide (d.eid = c.eid ∧ d.transport = c.transport)) then
      s.ident.conns.map (fun d => if d.eid = c.eid ∧ d.transport = c.transport then c else d) else s.ident.conns ++ [c] } }

def State.dropConn (s : State) (eid tr : Nat) : State :=
  { s with ident := { s.ident with conns := s.ident.conns.filter (fun d => !decide (d.eid = eid ∧ d.transport = tr)) } }

/-- An answer leaves: its response code and content; over VDM in packets of 64 bytes (R224). -/
def State.spdmSay (s : State) (eid tr code : Nat) (body : List Byte) : State :=
  let s := s.emit (.spdm eid tr code body)
  if 0 < tr then s.queueResponse (tr - 1) (leBytes 1 code ++ body)
  else (cutPackets 128 (leBytes 1 code ++ body)).foldl (fun s b => s.emit (.vdm eid b)) s

/-- ERROR (R265 to R268). -/
def State.spdmErr (s : State) (eid tr : Nat) (e : SpdmErr) : State := s.spdmSay eid tr 0x7F (leBytes 1 e.code)

/-- LOCKDOWN, or debug open: signed services are refused (R268). -/
def State.spdmRestricted (s : State) : Bool := decide (s.plat.mode = .lockdown) || s.life.debugOpen

/-- The responder takes messages: firmware runs, and no Steward handover holds them (R268, R286). -/
def State.spdmOn (s : State) : Bool :=
  s.powered && s.plat.fwRuns && !s.plat.romsvc && !(match s.ident.hand with | some h => !h.warden && decide (h.st ≠ .waiting) | none => false)

/-- A request on a connection that has reached a stage; a fifth requester is answered Busy, an early request
UnexpectedRequest (R267). -/
def State.spdmReq (s : State) (eid tr stage : Nat) (k : Conn → State → State) : State :=
  if s.spdmOn = false then s
  else
    match s.conn eid tr with
    | some c => if c.stage < stage then s.spdmErr eid tr .unexpectedRequest else k { c with ended := false } s
    | none =>
      if 4 ≤ s.ident.conns.length then s.spdmErr eid tr .busy
      else if 0 < stage then s.spdmErr eid tr .unexpectedRequest
      else k { eid := eid, transport := tr, stage := 0, session := false, sess := 0, finished := false, ended := false } s

/-- GET_VERSION (R265, R266): versions 1.2 and 1.3; the connection starts over. -/
def execGetVersion (eid tr : Nat) (s : State) : Host.Outcome State Fault Refusal :=
  .next (s.spdmReq eid tr 0 (fun c s =>
    ((s.endSession c).setConn { c with stage := 1, session := false, finished := false }).spdmSay eid tr 0x04 [0x12#8, 0x13#8]))

/-- Capability flags of R265: CERT, CHAL, MEAS signed, ENCRYPT, MAC, KEY_EX, HBEAT, ALIAS_CERT (bit places of DSP0274). -/
def spdmCaps : Nat := 2 ^ 1 + 2 ^ 2 + 2 * 2 ^ 3 + 2 ^ 6 + 2 ^ 7 + 2 ^ 9 + 2 ^ 13 + 2 ^ 16

/-- GET_CAPABILITIES (R265): CTExponent 17, DataTransferSize and MaxSPDMmsgSize 4,096. -/
def execGetCapabilities (eid tr : Nat) (s : State) : Host.Outcome State Fault Refusal :=
  .next (s.spdmReq eid tr 1 (fun c s =>
    (s.setConn { c with stage := 2 }).spdmSay eid tr 0x61 (leBytes 1 17 ++ leBytes 4 spdmCaps ++ leBytes 4 4096 ++ leBytes 4 4096)))

/-- The selections that ALGORITHMS answers (R265): DMTF, OpaqueDataFmt1, SHA-384 measurements, ECDSA P-384, SHA-384, then secp384r1,
AES-256-GCM and the SPDM key schedule (places of DSP0274, log entry 59). -/
def spdmAlgs : List Byte :=
  leBytes 1 1 ++ leBytes 1 2 ++ leBytes 4 4 ++ leBytes 4 0x80 ++ leBytes 4 2 ++
    leBytes 2 0x2002 ++ leBytes 2 0x10 ++ leBytes 2 0x2003 ++ leBytes 2 2 ++ leBytes 2 0x2005 ++ leBytes 2 1

/-- NEGOTIATE_ALGORITHMS (R265): an offer that lacks the value of some item is an InvalidRequest. -/
def execNegotiateAlgorithms (eid tr : Nat) (offered : Bool) (s : State) : Host.Outcome State Fault Refusal :=
  .next (s.spdmReq eid tr 2 (fun c s =>
    if offered then (s.setConn { c with stage := 3 }).spdmSay eid tr 0x63 spdmAlgs else (s.setConn c).spdmErr eid tr .invalidRequest))

/-- A chain in the format of SPDM 1.2 (R258): Length, Reserved, RootHash, the certificates, root first; `root` is the root certificate. -/
def chainBytes (root : List Byte) (certs : List (List Byte)) : List Byte :=
  leBytes 2 (52 + certs.flatten.length) ++ [0#8, 0#8] ++ padTo 48 (Config.sha384 root) ++ certs.flatten

/-- Positions 0 to 2, of the vault; none where both copies of the DeviceID certificate fail their check (R256). -/
def State.vaultCerts (s : State) (mldsa : Bool) : List (List Byte) :=
  if s.ident.devCert then [0, 1, 2].map (fun k => Config.vaultCert k mldsa) else []

/-- One of a pair of certificates. -/
def pickCert (mldsa : Bool) (p : List Byte × List Byte) : List Byte := if mldsa then p.2 else p.1

/-- The attestation chain (R256, R258, R268): without the Platform certificate while no bundle is applied, and positions 0 to 2
alone where services are restricted. -/
def State.attChain (s : State) (mldsa : Bool) : List Byte :=
  chainBytes (Config.vaultCert 0 mldsa) (s.vaultCerts mldsa ++
    (if s.spdmRestricted then []
     else pickCert mldsa s.ident.aliasCert :: (if s.policyApplied then [pickCert mldsa s.ident.platCert] else [])))

/-- The sealing chain (R256): positions 0, 1, 2 and 3′, once a Seal certificate has been issued. -/
def State.sealChain (s : State) (mldsa : Bool) : List Byte :=
  chainBytes (Config.vaultCert 0 mldsa) (s.vaultCerts mldsa ++ (if s.crypt.certGen = 0 then [] else [pickCert mldsa s.ident.sealCert]))

/-- GET_DIGESTS (R266, R268). -/
def execGetDigests (eid tr : Nat) (s : State) : Host.Outcome State Fault Refusal :=
  .next (s.spdmReq eid tr 3 (fun c s => (s.setConn c).spdmSay eid tr 0x01 (leBytes 1 1 ++ Config.sha384 (s.attChain false))))

/-- GET_CERTIFICATE (R265, R266): slot 0 only. -/
def execGetCertificate (eid tr slot off len : Nat) (s : State) : Host.Outcome State Fault Refusal :=
  .next (s.spdmReq eid tr 3 (fun c s =>
    if slot ≠ 0 then (s.setConn c).spdmErr eid tr .invalidRequest
    else (s.setConn c).spdmSay eid tr 0x02 (((s.attChain false).drop off).take len)))

/-- The key that signs: the attestation key, the Alias key while no bundle is applied (R266). -/
def State.spdmKey (s : State) : Nat := (s.cask (if s.policyApplied then 6 else 3)).key

/-- A response with a signature over `msg` (R266, R318). DESIGN CHOICE: where the PKU faults twice, ERROR Unspecified: no completion status
exists on SPDM (log entry 65). -/
def State.spdmSigned (s : State) (eid tr code : Nat) (body msg : List Byte) : State :=
  let r := s.signed s.spdmKey msg
  match r.2 with
  | some sig => r.1.spdmSay eid tr code (body ++ sig)
  | none => r.1.spdmErr eid tr .unspecified

/-- CHALLENGE (R266): MeasurementSummaryHashType none (0), TCB (1) or all (0xFF). -/
def execChallenge (eid tr slot hashType : Nat) (nonce : List Byte) (s : State) : Host.Outcome State Fault Refusal :=
  .next (s.spdmReq eid tr 3 (fun c s =>
    let s := s.setConn c
    if s.spdmRestricted then s.spdmErr eid tr .unspecified
    else if slot ≠ 0 ∨ (hashType ≠ 0 ∧ hashType ≠ 1 ∧ hashType ≠ 0xFF) then s.spdmErr eid tr .invalidRequest
    else
      let ms := s.measurements.filter (fun m => hashType = 0xFF ∨ m.1 ≤ 6 ∨ m.1 = 64)
      let sum := if hashType = 0 then [] else Config.sha384 (ms.flatMap (fun m => measBlock m.1 m.2.1 m.2.2))
      s.spdmSigned eid tr 0x03 (Config.sha384 (s.attChain false) ++ sum) (nonce ++ sum)))

/-- GET_MEASUREMENTS (R259, R266, R268): operation 0 counts, 0xFF all, else one index; signed ones are refused where services
are restricted. -/
def execGetMeasurements (eid tr op : Nat) (signed : Bool) (nonce : List Byte) (s : State) : Host.Outcome State Fault Refusal :=
  .next (s.spdmReq eid tr 3 (fun c s =>
    let s := s.setConn c
    if s.spdmRestricted ∧ signed then s.spdmErr eid tr .unspecified
    else
      let ms := s.measurements
      let body :=
        if op = 0 then leBytes 1 ms.length
        else ((ms.filter (fun m => op = 0xFF ∨ m.1 = op)).flatMap (fun m => measBlock m.1 m.2.1 m.2.2))
      if op ≠ 0 ∧ body = [] then s.spdmErr eid tr .invalidRequest
      else if signed then s.spdmSigned eid tr 0x60 body (nonce ++ body)
      else s.spdmSay eid tr 0x60 body))

/-- Sessions open (R267, R292). -/
def State.sessions (s : State) : Nat := (s.ident.conns.filter (fun c => c.session)).length

/-- KEY_EXCHANGE (R265, R266, R318): the key agreement and the signature of the answer, which carries HeartbeatPeriod; a session is
opened. -/
def execKeyExchange (eid tr slot : Nat) (s : State) : Host.Outcome State Fault Refusal :=
  .next (s.spdmReq eid tr 3 (fun c s =>
    if s.spdmRestricted then (s.setConn c).spdmErr eid tr .unspecified
    else if slot ≠ 0 then (s.setConn c).spdmErr eid tr .invalidRequest
    else if c.session = false ∧ 4 ≤ s.sessions then (s.setConn c).spdmErr eid tr .busy
    else
      let hb := match s.bundle with | some b => b.hbPeriod | none => 60
      let i := if c.session then c.sess else s.freeSession
      let v := s.pkuRun
      let g := v.1.signed v.1.spdmKey []
      if v.2 = false then (v.1.setConn c).spdmErr eid tr .unspecified
      else
        match g.2 with
        | some sig => ((g.1.openSession i).setConn { c with session := true, sess := i, finished := false }).spdmSay eid tr 0x64 (leBytes 1 hb ++ sig)
        | none => (g.1.setConn c).spdmErr eid tr .unspecified))

/-- FINISH (R266): the session's handshake ends; a wrong one ends the session abnormally, EV535. -/
def execFinish (eid tr : Nat) (ok : Bool) (s : State) : Host.Outcome State Fault Refusal :=
  .next (s.spdmReq eid tr 3 (fun c s =>
    if c.session = false ∨ c.finished = true then (s.setConn c).spdmErr eid tr .unexpectedRequest
    else if ok then (s.setConn { c with finished := true }).spdmSay eid tr 0x65 []
    else (((s.endSession c).setConn { c with session := false }).raise 535 0).spdmErr eid tr .invalidRequest))

/-- HEARTBEAT (R266): only inside a session. -/
def execHeartbeat (eid tr : Nat) (s : State) : Host.Outcome State Fault Refusal :=
  .next (s.spdmReq eid tr 3 (fun c s =>
    if c.session = true ∧ c.finished = true then (s.setConn c).spdmSay eid tr 0x68 [] else (s.setConn c).spdmErr eid tr .unexpectedRequest))

/-- END_SESSION (R266, R267): only inside a session; the connection ends 60 s later without a request. -/
def execEndSession (eid tr : Nat) (s : State) : Host.Outcome State Fault Refusal :=
  .next (s.spdmReq eid tr 3 (fun c s =>
    if c.session = true ∧ c.finished = true then ((s.endSession c).setConn { c with session := false, finished := false, ended := true }).spdmSay eid tr 0x6C []
    else (s.setConn c).spdmErr eid tr .unexpectedRequest))

/-- SPDM_UNSUPPORTED_REQUEST (R266). -/
def execSpdmUnsupportedRequest (eid tr : Nat) (s : State) : Host.Outcome State Fault Refusal :=
  .next (s.spdmReq eid tr 0 (fun _ s => s.spdmErr eid tr .unsupportedRequest))

/-- SPDM_SESSION_TIMEOUT (R267): the session ends abnormally, EV535. -/
def execSpdmSessionTimeout (eid tr : Nat) (s : State) : Host.Outcome State Fault Refusal :=
  .next (match s.powered, s.conn eid tr with
    | true, some c => if c.session then ((s.endSession c).setConn { c with session := false, finished := false }).raise 535 0 else s
    | _, _ => s)

/-- SPDM_CONNECTION_IDLE (R267): 60 s after END_SESSION without a request the connection ends. -/
def execSpdmConnectionIdle (eid tr : Nat) (s : State) : Host.Outcome State Fault Refusal :=
  .next (match s.powered, s.conn eid tr with
    | true, some c => if c.ended then (s.endSession c).dropConn eid tr else s
    | _, _ => s)

/-! ## The SPDM requester (R269) -/

/-- The bundle's REQ entry of an agent. -/
def State.spdmEntry (s : State) (n : Ch) : Option SpdmReq := s.bundle.bind (fun b => b.spdmReq.find? (fun r => r.agent = n.val))

def State.setSpdm (s : State) (n : Ch) (f : SpdmRes → SpdmRes) : State :=
  { s with ident := { s.ident with spdm := s.ident.spdm.set n.val (f s.ident.spdm[n.val]) } }

/-- The requests of R269 in order, by code: GET_VERSION, GET_CAPABILITIES, NEGOTIATE_ALGORITHMS, GET_DIGESTS, GET_CERTIFICATE and
GET_MEASUREMENTS. -/
def spdmSteps : List Nat := [0x84, 0xE1, 0xE3, 0x81, 0x82, 0xE0]

/-- The request of a place in that order goes to an agent over VDM: ECDSA P-256 and P-384 with SHA-256 and SHA-384 offered, all
measurements asked for with a fresh nonce and a signature. -/
def State.askAgent (s : State) (r : SpdmReq) (step : Nat) : State :=
  match step with
  | 2 => s.spdmSay r.eid 0 0xE3 (leBytes 4 0x90 ++ leBytes 4 3)
  | 5 => s.drawn.spdmSay r.eid 0 0xE0 (leBytes 1 1 ++ leBytes 1 0xFF ++ s.rand 32)
  | _ => s.spdmSay r.eid 0 (spdmSteps.getD step 0) []

/-- SPDM_AGENT_REQUEST (R269): DELAY after release the exchange with the agent begins. -/
def execSpdmAgentRequest (n : Ch) (s : State) : Host.Outcome State Fault Refusal :=
  .next (match s.spdmOn, s.spdmEntry n with
    | true, some r =>
      if (s.chan n).st = .released then (s.setSpdm n (fun x => { x with open_ := true, tries := 1, step := 0 })).askAgent r 0 else s
    | _, _ => s)

/-- SPDM_AGENT_RESPONSE (R262, R269): the answer to the request that is open; the next request follows. The last answer is checked: its
signature, `sigOk`, and SHA-384 of its MeasurementRecord against REFDIG; a mismatch raises EV536. -/
def execSpdmAgentResponse (n : Ch) (sigOk : Bool) (dig : Nat) (s : State) : Host.Outcome State Fault Refusal :=
  .next (match s.spdmOn, s.spdmEntry n with
    | true, some r =>
      let x := s.ident.spdm[n.val]
      if x.open_ = false then s
      else if x.step < 5 then (s.setSpdm n (fun x => { x with tries := 1, step := x.step + 1 })).askAgent r (x.step + 1)
      else
        let ok := sigOk && decide (dig = r.refdig)
        (s.setSpdm n (fun x => { x with open_ := false, res := if ok then 1 else 2, dig := leNat (beBytes 8 (dig / 2 ^ 320)) })).raiseIf (!ok) 536 0
    | _, _ => s)

/-- SPDM_AGENT_RETRY (R269): the CT time of the open request expires; up to three tries, then no response, EV536. -/
def execSpdmAgentRetry (n : Ch) (s : State) : Host.Outcome State Fault Refusal :=
  .next (match s.spdmOn, s.spdmEntry n with
    | true, some r =>
      let x := s.ident.spdm[n.val]
      if x.open_ = false then s
      else if x.tries < 3 then (s.setSpdm n (fun x => { x with tries := x.tries + 1 })).askAgent r x.step
      else (s.setSpdm n (fun x => { x with open_ := false, res := 3 })).raise 536 0
    | _, _ => s)

end Sys2Proof.Machine
end

