-- ==== Sys2Proof/Machine/Sealing.lean ====
section
/-! DEFINITION. Machine/Sealing.lean: sealing streams, epochs, seals, the seal log and time anchors (R189 to R217). -/

namespace Sys2Proof.Machine

/-! ## Time (R208, R209) -/

/-- The largest uncertainty: no bound is known (R208). -/
def uncMax : Nat := 0xFFFFFFFFFFFFFFFF

/-- ⌈20 × t⌉ µs for t in KEEP ticks (R209). -/
def drift (ticks : Nat) : Nat := (20 * ticks + 32767) / 32768

/-- µs in a number of KEEP ticks, rounded up. -/
def ticksUs (ticks : Nat) : Nat := (ticks * 1000000 + 32767) / 32768

/-- UNC at an RTC reading in KEEP ticks (R209). -/
def State.uncAt (s : State) (t : Nat) : Nat :=
  match s.keeper.rtcValid, s.sealing.base with
  | true, some (b0, unc0) => min uncMax (unc0 + drift (t - b0))
  | _, _ => uncMax

/-- UNC now. -/
def State.unc (s : State) : Nat := s.uncAt s.rtcTicks

/-! ## Streams (R189 to R193) -/

/-- Sealing may be used in this mode (R40). -/
def State.sealMode (s : State) : Bool := decide (s.plat.mode = .verify ∨ s.plat.mode = .guard ∨ s.plat.mode = .recover)

/-- The sealing key is valid: both Seal Casks in use under the Steward key (R190, R201, R307). -/
def State.sealKeyOk (s : State) : Bool := s.caskOk 15 (s.cask 15).gen && s.caskOk 16 (s.cask 16).gen

/-- STREAM_OPEN's checks in table order (R192): the status, its DETAIL, the key's Cask. -/
def State.streamOpenCheck (s : State) (no qpair enc overlap label weight : Nat) : Reply × Nat :=
  let cask := s.caskByLabel label
  let c := s.cask (cask.getD 0)
  if s.sealMode = false ∨ s.sealing.running = false then (reply .notPermitted, 0)
  else if 4095 < no then (badField 8, 0)
  else if (match s.stream no with | some x => decide (x.st ≠ .closed) | none => false) = true then (reply .notPermitted, 0)
  else if 63 < qpair ∨ qEn (s.qCfg (8 + 2 * qpair)) = false ∨ qEn (s.qCfg (9 + 2 * qpair)) = false then (badField 10, 0)
  else if 65536 < overlap then (badField 12, 0)
  else if 1 < enc then (badField 11, 0)
  else if enc = 1 ∧ bit (s.cfg 0x2400) 30 = false then (reply .notPermitted, 0)
  else if enc = 1 ∧ cask = none then (badField 16, 0)
  else if enc = 1 ∧ c.live = false then (reply .keyRevoked, 0)
  else if enc = 1 ∧ c.may 8 = false then (badField 16, 0)
  else if ¬(1 ≤ weight ∧ weight ≤ 16) then (badField 20, 0)
  else if (match s.stream no with | some x => decide (65535 ≤ x.gen) | none => false) = true then (reply .resourceExhausted, 0)
  else (reply .ok, cask.getD 0)

/-- STREAM_OPEN (R189, R191, R192, R307). -/
def execStreamOpen (cid no qpair enc overlap label weight : Nat) (s : State) : Host.Outcome State Fault Refusal :=
  .next (s.admin cid 0x30 (fun s =>
    let r := s.streamOpenCheck no qpair enc overlap label weight
    if r.1.st ≠ .ok then (s, r.1)
    else
      let gen := match s.stream no with | some x => x.gen + 1 | none => 0
      let x : Stream :=
        { no := no, st := .open_, gen := gen, seq := 0, attempt := 0, overlap := overlap, enc := decide (enc = 1)
          label := if enc = 1 then label else 0, cask := r.2, caskGen := (s.cask r.2).gen, weight := weight, qpair := qpair
          tailPrev := padTo 48 [], prevRcpt := padTo 48 [], queue := [], run := none, deficit := 0, closing := none }
      ((s.setStream x).raiseSeal 736 no, okWith (leBytes 2 gen))))

/-- STREAM_CLOSE (R191): queued segments are ABORTED; while a segment is in progress the command waits for its end. A CLOSED
stream has nothing to close. -/
def execStreamClose (cid no : Nat) (s : State) : Host.Outcome State Fault Refusal :=
  .next (match s.adminHead cid 0x31, s.stream no with
    | some f, some x =>
      if s.serving = false ∨ s.busOk = false then s
      else if s.adminAllowed 0x31 = false ∨ s.sealMode = false then s.completeCmd f (reply .notPermitted)
      else if s.firmwareAway 0x31 then s.completeCmd f (reply .busyRetry)
      else if x.st = .closed then s.completeCmd f (badField 8)
      else if x.run = none then (s.closeStream x).completeCmd f (okWith x.closeResult)
      else
        let s := (s.dropQueue x .aborted).setStream { x with queue := [], closing := some { f with taken := true } }
        { s with host := { s.host with fetched := s.host.fetched.map (fun g => if g = f then { f with taken := true } else g) } }
    | _, _ => s.admin cid 0x31 (fun s => (s, if s.sealMode then badField 8 else reply .notPermitted)))

/-- The oldest entry of a seal queue whose checks are due, where it has this CID and opcode. -/
def State.sealHead (s : State) (q cid opcode : Nat) : Option Fetched :=
  match s.host.fetched.find? (fun f => decide (f.q = q) && !f.taken) with
  | some f => if f.cid = cid ∧ f.opcode = opcode then some f else none
  | none => none

/-- SEAL_SEGMENT's checks in table order (R40, R193). -/
def State.segCheck (s : State) (q no len dst rcpt : Nat) : Status × Nat :=
  if s.plat.mode = .recover ∧ s.plat.fwRuns = false then (.busyRetry, 0)
  else if s.sealMode = false ∨ s.sealing.running = false ∨ s.sealing.log = none then (.notPermitted, 0)
  else if len = 0 then (.noop, 0)
  else
    match s.stream no with
    | none => (.invalidField, 8)
    | some x =>
      match x.st with
      | .closed => (.invalidField, 8)
      | .keylost => (.keyRevoked, 0)
      | .fault => (.deviceFault, 0)
      | .open_ =>
        if q ≠ 8 + 2 * x.qpair then (.notPermitted, 0)
        else if 67108864 < len then (.invalidField, 16)
        else if (dst ≠ 0) ≠ (x.enc = true) then (.invalidField, 32)
        else if rcpt % 64 ≠ 0 then (.invalidField, 40)
        else (.ok, 0)

/-- SEAL_SEGMENT (R193): a checked entry joins its stream's queue; one that arrives while the stream closes is ABORTED with the
others. -/
def execSealSegment (q cid no len src dst rcpt : Nat) (s : State) : Host.Outcome State Fault Refusal :=
  .next (match s.sealHead q cid 0x80 with
    | none => s
    | some f =>
      let r := s.segCheck q no len dst rcpt
      if s.powered = false then s
      else
        match r.1, s.stream no with
        | .ok, some x =>
          let f' := { f with taken := true }
          let s : State := { s with host := { s.host with fetched := s.host.fetched.map (fun g => if g = f then f' else g) } }
          let g : Seg := { f := f', len := len, src := src, dst := dst, rcpt := rcpt }
          if x.closing.isSome then s.failSeg g .aborted else s.setStream { x with queue := x.queue ++ [g] }
        | st, _ => s.completeCmd f { st := st, detail := r.2, result := [] })

/-! ## Segments (R194 to R196, R213, R215) -/

/-- Free slots of a ring of `size` from its producer and consumer counts; a consumer count out of range is no space (R206). -/
def ringSpace (size prod cons : Nat) : Nat := if prod < cons ∨ size < prod - cons then 0 else size - (prod - cons)

/-- Entries in the on-die list buffer (R199, R206, R207): those of every epoch after the oldest that is not finalised, and of that epoch
and the finalised ones before it what the list ring has no room for. DEDUCED: an entry that has room in the ring counts as released from
the buffer, although the model shows it in host memory with its epoch's seal (log entry 66). -/
def State.listHeld (s : State) : Nat :=
  let n := fun (e : Epoch) => e.entries.length + e.straddlers.length
  let live := s.sealing.closed ++ s.sealing.open_.toList
  let free := match s.sealing.log with | some l => ringSpace l.listEnt s.sealing.listProd s.sealing.listCons | none => 0
  (s.sealing.unsigned.map n).sum + (s.sealing.signed.map (fun o => o.entries.length)).sum + (live.take 1 |>.map n).sum - free +
    ((live.drop 1).map n).sum

/-- The on-die list buffer of 65,536 entries is full (R199, R207). -/
def State.listFull (s : State) : Bool := decide (65536 ≤ s.listHeld)

/-- The oldest closed epoch is finalised: its list is complete (R198, R199). -/
def State.finalise (s : State) : State :=
  match s.sealing.closed with
  | e :: rest =>
    let n := e.entries.length + e.straddlers.length
    { s with sealing := { s.sealing with
      closed := rest, unsigned := s.sealing.unsigned ++ [{ e with listStart := s.sealing.listNext }], listNext := s.sealing.listNext + n } }
  | [] => s

/-- KEEP ticks since the close of an epoch, against SEAL.CTL.SEALWAIT, in thousandths of a tick. -/
def State.waitTicks (s : State) (e : Epoch) : Nat := (keepTicks s.time - e.closeTick) * 1000
def State.sealWait (s : State) : Nat := fld (s.cfg 0x2400) 25 16 * 32768

/-- A Press job of the sealing classes whose digest is out with this command (R151, R215): within SEALRES first, then up to SEALCAP. -/
def State.sealRun (s : State) (tag : Nat) : State × Bool :=
  s.pressRun (((s.press.held ++ s.press.waiting).find? (fun h => h.sealing && decide (h.tag = tag))).getD
    { cls := if s.sealHeld < s.sealRes then 3 else 5, ch := none, tag := tag, engine := 8 })

/-- The credits a segment needs for its end (R152, R215): its digest's, where an engine's loss has taken it, and its tail digest's where
OVERLAP is not 0. Without them its reads pause. -/
def State.segRun (s : State) (x : Stream) : State × Bool :=
  let a := if s.press.waiting.any (fun h => h.sealing && decide (h.tag = segTag x.no)) then s.sealRun (segTag x.no) else (s, true)
  if a.2 = false ∨ x.overlap = 0 then a else a.1.sealRun (tailTag x.no)

/-- Visits of the deficit round robin until a stream's head segment may start (R215). -/
def Stream.visits (x : Stream) : Nat :=
  match x.queue with
  | g :: _ => let quantum := x.weight * 1048576
              max 1 ((g.len - x.deficit + quantum - 1) / quantum)
  | [] => 0

/-- The streams whose head segment waits, from the next of the round on (R215); with a TAGCAP of 0 no read is issued (R226). -/
def State.waitingStreams (s : State) : List Stream :=
  let xs := sortBy (fun (a b : Stream) => decide (a.no ≤ b.no))
    (s.sealing.streams.filter (fun x => decide (x.st = .open_) && x.run.isNone && !x.queue.isEmpty &&
      decide (s.tagCap (8 + 2 * x.qpair) ≠ 0)))
  xs.filter (fun x => decide (s.sealing.rr ≤ x.no)) ++ xs.filter (fun x => decide (x.no < s.sealing.rr))

/-- The first of a list with the fewest visits. -/
def leastVisits : List Stream → Option Stream
  | [] => none
  | x :: r => match leastVisits r with
    | none => some x
    | some y => if x.visits ≤ y.visits then some x else some y

/-- What the round leaves every waiting stream when the chosen one starts: those before it have had as many visits, those after
it one fewer. -/
def drrShares (chosen : Nat) (v : Nat) : Bool → List Stream → List (Nat × Nat)
  | _, [] => []
  | past, x :: r =>
    let quantum := x.weight * 1048576
    let len := match x.queue with | g :: _ => g.len | [] => 0
    (x.no, if x.no = chosen then x.deficit + v * quantum - len
           else x.deficit + (if past then v - 1 else v) * quantum) :: drrShares chosen v (past || decide (x.no = chosen)) r

/-- The segment of a stream begins: a credit of the sealing classes and an engine (R151, R194, R213). -/
def State.beginSegment (s : State) (x : Stream) (g : Seg) (e : Nat) : State :=
  let j : Job := { cls := if s.sealHeld < s.sealRes then 3 else 5, ch := none, tag := segTag x.no, engine := e }
  let s : State := { s with press := { s.press with held := s.press.held ++ [j] } }
  s.setStream { x with
    queue := x.queue.tail, attempt := if x.enc then x.attempt + 1 else x.attempt
    run := some { seg := g, begin_ := s.epochNo, attempt := if x.enc then x.attempt else 0 } }

/-- SEGMENT_BEGIN (R10, R194, R207, R213, R215, R307): the next stream of the deficit round robin begins its head segment when a
credit is free. A stale or missing key makes the stream KEYLOST. `attention`: the sealing engine finds that the descriptor needs firmware
attention, and BUSY_RETRY completes it with an exception toward the Steward pair. DESIGN CHOICE: the exception's source is EV738, the
sealing engine's of a segment that ends without a seal (log entry 64). -/
def execSegmentBegin (s : State) (attention : Bool := false) : Host.Outcome State Fault Refusal :=
  .next (
    if s.powered = false ∨ s.sealing.running = false ∨ s.busOk = false then s
    else if s.listFull then
      if s.sealing.stalled then s else ({ s with sealing := { s.sealing with stalled := true } } : State).raiseSeal 743 0
    else
      let s : State := { s with sealing := { s.sealing with stalled := false } }
      let ws := s.waitingStreams
      match leastVisits ws with
      | none => s
      | some x =>
        match x.queue, s.pickEngine with
        | g :: _, some e =>
          let j : Job := { cls := if s.sealHeld < s.sealRes then 3 else 5, ch := none, tag := segTag x.no, engine := e }
          if s.grantable j = false then s.cntQ 217 1
          else
            let shares := drrShares x.no x.visits false ws
            let s : State := { s with sealing := { s.sealing with
              rr := (x.no + 1) % 4096
              streams := s.sealing.streams.map (fun y => match shares.find? (fun p => decide (p.1 = y.no)) with
                | some p => { y with deficit := if y.queue.tail = [] ∧ y.no = x.no then 0 else p.2 } | none => y) } }
            match s.stream x.no with
            | none => s
            | some x =>
              if x.enc ∧ s.caskOk x.cask x.caskGen = false then (s.raise 579 (x.cask + 256 * Status.staleGeneration.code)).loseKey x
              else if x.enc ∧ 4294967296 ≤ x.attempt then
                (s.setStream { x with queue := x.queue.tail }).failSeg g .resourceExhausted
              else if attention then ((s.setStream { x with queue := x.queue.tail }).failSeg g .busyRetry).exception false 738
              else s.beginSegment x g e
        | _, _ => s)

/-- A segment key of R213, 256 bits. -/
def State.segKey (s : State) (cask run stream gen : Nat) : Nat :=
  leNat (kdf (s.cask cask).key (ascii "KP9600 segment key") (s.unitidBytes ++ leBytes 4 run ++ leBytes 2 stream ++ leBytes 2 gen) 256)

/-- The nonce and the associated data of R213. -/
def gcmNonce (seq attempt : Nat) : List Byte := leBytes 8 seq ++ leBytes 4 attempt
def gcmAad (stream gen run seq len : Nat) : List Byte := leBytes 2 stream ++ leBytes 2 gen ++ leBytes 4 run ++ leBytes 8 seq ++ leBytes 8 len

/-- TAIL: the digest of the last min(OVERLAP, LEN) bytes (R195). -/
def tailDigest (overlap : Nat) (data : List Byte) : List Byte := Config.sha384 (data.drop (data.length - min overlap data.length))

/-- A receipt's 256 bytes (R196). -/
def receiptBytes (stream gen run flags seq len beginEp ep : Nat) (time : DWord) (overlap label : Nat)
    (segDig tail prevRcpt tag unitid : List Byte) (attempt : Nat) : List Byte :=
  leBytes 2 1 ++ leBytes 2 1 ++ leBytes 2 stream ++ leBytes 2 gen ++ leBytes 4 run ++ leBytes 4 flags ++ leBytes 8 seq ++ leBytes 8 len ++
    leBytes 8 beginEp ++ leBytes 8 ep ++ leBytes 8 time.toNat ++ leBytes 4 overlap ++ leBytes 4 label ++ padTo 48 segDig ++ padTo 48 tail ++
    padTo 48 prevRcpt ++ padTo 16 tag ++ padTo 12 unitid ++ leBytes 4 attempt ++ padTo 16 []

/-- The open epoch changed. -/
def State.updOpen (s : State) (f : Epoch → Epoch) : State :=
  { s with sealing := { s.sealing with open_ := s.sealing.open_.map f } }

/-- A sealed segment of pair p is counted (R371, R376). -/
def State.countSegment (s : State) (p len src overlap : Nat) (enc : Bool) : State :=
  let s := ((((s.cntQ (3 * p) 1).cntQ (3 * p + 1) len).cntQ 219 (min overlap len)).cntQ 218 (if enc then len else 0)).countRead len src
  { s with
    sealing := { s.sealing with bytes := (s.sealing.bytes + len) % 2 ^ 64 }
    tlm := { s.tlm with sealBytes := s.tlm.sealBytes + len, segments := s.tlm.segments + 1 } }

/-- SEGMENT_COMPLETE (R194 to R199): the digests and the tag of a stream's segment are complete: SEQ, the receipt, its list
entry, ciphertext, then the completion. `data` is the plaintext read. Where the list buffer is then full, the oldest closed epoch is
finalised at once (R199). -/
def execSegmentComplete (no : Nat) (data : List Byte) (s : State) : Host.Outcome State Fault Refusal :=
  .next (match s.powered && s.busOk && decide (s.host.retained.length < 256), s.stream no with
    | true, some x =>
      match x.run with
      | none => s
      | some r =>
        let c := s.segRun x
        if c.2 = false then c.1 else
        let s := c.1
        let data := padTo r.seg.len data
        let ep := s.epochNo
        let straddle := decide (r.begin_ < ep) && s.sealing.closed.any (fun e => decide (e.no = r.begin_ ∧ s.waitTicks e ≤ s.sealWait))
        let late := decide (r.begin_ < ep) && !straddle
        let flags := b2n x.enc + 2 * b2n straddle + 4 * b2n late + 8 * b2n (decide (x.seq = 0)) + 16 * b2n s.keeper.rtcValid
        let segDig := Config.sha384 (x.tailPrev ++ data)
        let tail := tailDigest x.overlap data
        let key := s.segKey x.cask s.sealing.run no x.gen
        let text := padTo r.seg.len (Config.gcmText key (gcmNonce x.seq r.attempt) data)
        let tag := if x.enc then padTo 16 (Config.gcmTag key (gcmNonce x.seq r.attempt ++ gcmAad no x.gen s.sealing.run x.seq r.seg.len) text) else []
        let rcpt := receiptBytes no x.gen s.sealing.run flags x.seq r.seg.len r.begin_ ep s.rtc x.overlap x.label segDig tail x.prevRcpt tag
          s.unitidBytes (if x.enc then r.attempt else 0)
        let dig := Config.sha384 rcpt
        let ent : ListEnt := { stream := no, gen := x.gen, run := s.sealing.run, seq := x.seq, digest := dig, len := r.seg.len }
        let s := (s.segCredit no).countSegment x.qpair r.seg.len r.seg.src x.overlap x.enc
        let s := ((s.cntQ 202 (b2n straddle)).cntQ 203 (b2n late)).raiseIf late 753 (sealArg no s.epochNo)
        let s := s.updOpen (fun e => { e with entries := e.entries ++ [ent] })
        let s : State := { s with sealing := { s.sealing with
          closed := s.sealing.closed.map (fun e => if e.no = r.begin_ ∧ straddle = true then { e with straddlers := e.straddlers ++ [ent] } else e) } }
        let y := { x with seq := x.seq + 1, tailPrev := tail, prevRcpt := dig, run := none }
        let s := s.setStream y
        let s := (if x.enc then s.hostWrite r.seg.dst text else s).hostWrite r.seg.rcpt rcpt
        let s := (s.dropFetched r.seg.f).postCpl r.seg.f.q
          { cid := r.seg.f.cid, sqid := r.seg.f.q, sqhead := r.seg.f.head, status := .ok, detail := 0
            result := leBytes 8 x.seq ++ leBytes 8 ep } r.seg.f.noint (some (r.seg.rcpt, rcpt))
        let s := if s.listFull then s.finalise else s
        s.closeWaiting y
    | _, _ => s)

/-- The first failing check of R214, and its status and DETAIL; OK where none fails. `data` as stored, `prev` where PREV is
given. -/
def State.verifyCheck (s : State) (form : Nat) (data rcpt : List Byte) (prev : Option (List Byte)) : Status × Nat :=
  let w := fun off k => leNat (bytesAt rcpt off k)
  let first := (w 12 4).testBit 3
  let enc := form = 1
  let key := match s.caskByLabel (w 60 4) with | some i => some i | none => none
  let live := match key with | some i => (s.cask i).live | none => false
  let segKey := s.segKey (key.getD 0) (w 8 4) (w 4 2) (w 6 2)
  let plain := if enc then padTo data.length (Config.gcmText segKey (gcmNonce (w 16 8) (w 236 4)) data) else data
  let tailPrev := match prev with | some p => bytesAt p 112 48 | none => padTo 48 []
  if w 0 2 ≠ 1 ∨ w 2 2 ≠ 1 ∨ prev.isSome = first then (.verifyFail, 0x11)
  else if (match prev with
      | some p => decide (bytesAt p 8 4 ≠ bytesAt rcpt 8 4 ∨ bytesAt p 4 4 ≠ bytesAt rcpt 4 4 ∨ leNat (bytesAt p 16 8) + 1 ≠ w 16 8 ∨
          padTo 48 (Config.sha384 (padTo 256 p)) ≠ bytesAt rcpt 160 48)
      | none => false) = true then (.verifyFail, 0x12)
  else if enc ∧ bytesAt rcpt 224 12 ≠ s.unitidBytes then (.notPermitted, 0x13)
  else if enc ∧ live = false then (.keyRevoked, 0x13)
  else if enc ∧ padTo 16 (Config.gcmTag segKey (gcmNonce (w 16 8) (w 236 4) ++ gcmAad (w 4 2) (w 6 2) (w 8 4) (w 16 8) (w 24 8)) data) ≠ bytesAt rcpt 208 16 then
    (.verifyFail, 0x13)
  else if padTo 48 (Config.sha384 (tailPrev ++ plain)) ≠ bytesAt rcpt 64 48 then (.verifyFail, 0x14)
  else if padTo 48 (tailDigest (w 56 4) plain) ≠ bytesAt rcpt 112 48 then (.verifyFail, 0x15)
  else (.ok, 0)

/-- VERIFY_SEGMENT (R214, R226): on a seal queue, changing no stream; its digest takes and returns a Press credit of the sealing classes,
and waits for one; with a TAGCAP of 0 no read is issued. -/
def execVerifySegment (q cid form len : Nat) (data rcpt : List Byte) (prev : Option (List Byte)) (s : State) :
    Host.Outcome State Fault Refusal :=
  .next (match s.sealHead q cid 0x81 with
    | none => s
    | some f =>
      if s.powered = false ∨ s.busOk = false ∨ s.tagCap q = 0 then s
      else if s.plat.mode = .recover ∧ s.plat.fwRuns = false then s.completeCmd f (reply .busyRetry)
      else if s.sealMode = false then s.completeCmd f (reply .notPermitted)
      else if len = 0 then s.completeCmd f (reply .noop)
      else if 1 < form then s.completeCmd f (badField 8)
      else if len ≠ leNat (bytesAt rcpt 24 8) then s.completeCmd f (badField 24)
      else
        let c := s.sealRun (1048576 + 65536 * q + cid)
        if c.2 = false then c.1 else
        let s := c.1
        let r := s.verifyCheck form (padTo len data) rcpt prev
        let s := (((s.countRead len).countRead 256).countRead (if prev.isSome then 256 else 0)).cntQ (if r.1 = .ok then 206 else 207) 1
        (s.raiseIf (decide (r.1 ≠ .ok)) 754 (sealArg 0 s.epochNo)).completeCmd f { st := r.1, detail := r.2, result := [] })

/-! ## Runs, epochs and seals (R190, R197 to R203) -/

/-- The POWER_GAP record of a new run (R203): its first 160 bytes. -/
def State.powerGap (s : State) (run : Nat) : List Byte :=
  let j := s.sealing.jEpoch
  let skipped := s.crypt.keysChanged || s.sealing.skips
  let shelf := s.plat.porStart && s.sealing.firstRun
  leBytes 2 0x11 ++ leBytes 2 1 ++ leBytes 4 run ++ leBytes 8 (match j with | some r => r.epoch | none => 0) ++
    leBytes 8 (if shelf then s.keeper.shelfTime.toNat else 0) ++ leBytes 8 s.rtc.toNat ++ leBytes 8 s.unc ++
    leBytes 4 (match j with | some r => r.run | none => 0) ++ leBytes 1 s.sealing.endCause ++
    leBytes 1 (b2n s.plat.keepLost + 2 * b2n (shelf && s.keeper.shelfTime.getLsbD 63) + 4 * b2n skipped + 8 * b2n j.isNone) ++
    leBytes 2 0 ++ padTo 48 (match j with | some r => r.digest | none => []) ++ s.unitidBytes ++ leBytes 4 0 ++ padTo 48 s.platDig

/-- Epochs of a run that policy ended, still on their way to their seals and their journal record (R190). -/
def State.runPending (s : State) : Bool :=
  !s.sealing.closed.isEmpty || !s.sealing.unsigned.isEmpty || s.sealing.signed.any (fun o => !o.covered)

/-- RUN_START (R190, R203, R204): every run condition holds and the RUNSTART record is durable. It follows the journal records
of every epoch of the run before that is sealed as usual. -/
def execRunStart (s : State) : Host.Outcome State Fault Refusal :=
  .next (if s.powered = false ∨ s.sealing.running = true ∨ s.policyApplied = false ∨ bit (s.cfg 0x2400) 31 = false ∨ s.sealKeyOk = false ∨
      s.sealMode = false ∨ s.plat.fwRuns = false ∨ s.vaultUp = false ∨ s.runPending = true then s
  else
    let run := wrap32 (s.sealing.lastRun + 1)
    let gap := s.powerGap run
    let first := match s.sealing.jEpoch with | some r => r.epoch + 1 | none => 1
    let x := s.sealing.jWrite { kind := 2, mac := true, seq := 0, run := run, epoch := first, time := s.rtc, unc := s.unc, digest := Config.sha384 gap }
    let s : State := { s with
      sealing := { x with
        running := true, run := run, lastRun := run, firstRun := false, streams := [], rr := 0, log := none, nextLog := none, oldLogs := []
        open_ := none, prevSeal := Config.sha384 gap, gapFirst := true
        gap := some gap, anchors := [], stalled := false, keyWait := false, told750 := !s.keeper.rtcValid, boundaryAt := none }
      crypt := { s.crypt with keysChanged := false } }
    s.raiseIf (!s.keeper.rtcValid) 750 (sealArg 0 s.epochNo))

/-- The two keys of the sealing key pair, as numbers. -/
def State.sealKeys (s : State) : Nat × Nat := ((s.cask 15).key, (s.cask 16).key)

/-- A new epoch opens (R197). -/
def State.openEpoch (s : State) (no : Nat) (anchor : Option (List Byte)) : State :=
  { s with sealing := { s.sealing with
    open_ := some { no := no, run := s.sealing.run, tstart := s.rtc, tend := 0#64, openTick := keepTicks s.time, closeTick := 0, unc := 0,
                    extended := false, anchor := anchor, platdig := [], entries := [], straddlers := [], listStart := 0 }
    boundaryAt := some s.time, signGen := if s.sealing.signGen = 0 then (s.cask 15).gen else s.sealing.signGen
    signKeys := s.sealing.signKeys.or (some s.sealKeys) } }

/-- The number of the next epoch to open. -/
def State.nextEpoch (s : State) : Nat :=
  match s.sealing.open_, s.sealing.jRun with
  | some e, _ => e.no + 1
  | none, some r => r.epoch
  | none, none => 1

/-- An accepted anchor takes effect at a boundary (R212): the RTC, UNC, the ANCHOR record and its journal record; answers the
digest of the record. -/
def State.applyAnchor (s : State) (epoch : Nat) : State × Option (List Byte) :=
  match s.sealing.accepted with
  | none => (s, none)
  | some a =>
    let b := s.rtcTicks
    let q := a.req.q
    let old := s.rtc
    let oldUnc := s.unc
    let ticks := a.gen + (b - q) - (a.s - q) / 2
    let unc := min uncMax ((ticksUs (a.s - q) + 1) / 2 + a.acc + drift (b - q))
    let step : Int := ((ticks : Int) - (b : Int)) * 1000000 / 32768
    let beyond := decide (oldUnc + a.acc < step.natAbs)
    let wasInvalid := !s.keeper.rtcValid
    let s : State := { s with keeper := { s.keeper with rtcValid := true, rtcBase := ticks, rtcAt := s.time } }
    let rec_ := leBytes 2 0x12 ++ leBytes 2 1 ++ leBytes 4 s.sealing.run ++ leBytes 8 epoch ++ leBytes 8 (timeWord true a.gen).toNat ++ leBytes 8 a.acc ++
      leBytes 8 (timeWord (!wasInvalid) q).toNat ++ leBytes 8 (timeWord (!wasInvalid) a.s).toNat ++ leBytes 8 old.toNat ++ leBytes 8 s.rtc.toNat ++
      leBytes 8 (step % 2 ^ 64).toNat ++ leBytes 8 unc ++ leBytes 1 a.slot ++ leBytes 1 (b2n beyond + 2 * b2n a.accAbsent + 4 * b2n wasInvalid) ++
      leBytes 6 0 ++ padTo 8 a.req.nonce ++ padTo 48 a.req.imprint ++ padTo 48 a.tokenDig
    let dig := Config.sha384 rec_
    let x := s.sealing.jWrite { kind := 3, mac := true, seq := 0, run := s.sealing.run, epoch := epoch, time := s.rtc, unc := unc, digest := dig }
    let s : State := { s with sealing := { x with
      accepted := none, anchors := s.sealing.anchors ++ [(epoch, rec_)], lastGen := some a.gen, bnew := s.rtc, base := some (ticks, unc)
      uncWarned := false } }
    (((s.cntQ 208 1).raiseSeal 747 0).raiseIf beyond 749 (sealArg 0 s.epochNo), some dig)

/-- EPOCH_CLOSE (R197, R205, R207, R212): the last tick of the open epoch arrives: it closes and the next opens, or with 16 seals
waiting or no seal log it is extended. A seal log given meanwhile takes effect: the epochs before keep theirs. -/
def execEpochClose (s : State) : Host.Outcome State Fault Refusal :=
  .next (match s.powered && s.sealing.running, s.sealing.open_ with
    | true, some e =>
      if 16 ≤ s.sealing.signed.length ∨ s.sealing.log = none ∨ s.busOk = false then
        if e.extended then s else ((s.updOpen (fun e => { e with extended := true })).cntQ 200 1).raiseSeal 742 0
      else
        let e := { e with tend := s.rtc, closeTick := keepTicks s.time, unc := s.unc, platdig := s.platDig }
        let r := s.applyAnchor (e.no + 1)
        let s := r.1
        let s : State := { s with
          sealing := { s.sealing with
            closed := s.sealing.closed ++ [e], log := s.sealing.nextLog.or s.sealing.log, nextLog := none
            oldLogs := match s.sealing.log, s.sealing.nextLog with
              | some l, some _ => s.sealing.oldLogs ++ [(e.no, l)] | _, _ => s.sealing.oldLogs } }
        let s := s.openEpoch (e.no + 1) r.2
        let told := s.sealing.told750
        ({ s with sealing := { s.sealing with told750 := told || !s.keeper.rtcValid } } : State).raiseIf (!told && !s.keeper.rtcValid) 750 (sealArg 0 s.epochNo)
    | _, _ => s)

/-- A closed epoch may be finalised (R198): every segment that began in it has completed, or SEALWAIT has passed since its end. -/
def State.mayFinalise (s : State) (e : Epoch) : Bool :=
  s.sealing.streams.all (fun x => match x.run with | some r => decide (r.begin_ ≠ e.no) | none => true) || decide (s.sealWait ≤ s.waitTicks e)

/-- EPOCH_FINALISE (R198, R199): the oldest closed epoch is finalised, not before every segment begun in it has completed or SEALWAIT has
passed. -/
def execEpochFinalise (s : State) : Host.Outcome State Fault Refusal :=
  .next (match s.powered, s.sealing.closed with
    | true, e :: _ => if s.mayFinalise e then s.finalise else s
    | _, _ => s)

/-- The largest power of two below n (RFC 9162). -/
def splitPoint : Nat → Nat → Nat → Nat
  | 0, k, _ => k
  | f + 1, k, n => if 2 * k < n then splitPoint f (2 * k) n else k

/-- The Merkle Tree Hash of RFC 9162, section 2.1.1, with SHA-384 (R199); the first argument bounds the depth. -/
def merkle : Nat → List (List Byte) → List Byte
  | _, [] => Config.sha384 []
  | _, [d] => Config.sha384 (0#8 :: d)
  | 0, _ => []
  | f + 1, ds =>
    let k := splitPoint 32 1 ds.length
    Config.sha384 (1#8 :: merkle f (ds.take k) ++ merkle f (ds.drop k))

/-- The to-be-signed part of an Epoch Seal (R200). -/
def State.sealTbs (s : State) (e : Epoch) (newKey : Bool) : List Byte :=
  let list := e.entries ++ e.straddlers
  leBytes 2 0x10 ++ leBytes 2 1 ++ leBytes 4 e.run ++ leBytes 8 e.no ++ leBytes 8 e.tstart.toNat ++ leBytes 8 e.tend.toNat ++ leBytes 8 e.unc ++
    leBytes 8 e.listStart ++ leBytes 4 list.length ++ leBytes 4 e.straddlers.length ++
    leBytes 4 (b2n (e.tend.getLsbD 63) + 2 * b2n e.anchor.isSome + 4 * b2n s.sealing.gapFirst + 8 * b2n newKey + 16 * b2n e.extended) ++
    leBytes 4 ((e.closeTick - e.openTick) * 1000 / 32768) ++ leBytes 8 ((e.entries.map (fun x => x.len)).sum) ++ leBytes 4 (s.cask 15).gen ++
    leBytes 4 0 ++ padTo 48 s.sealing.prevSeal ++ padTo 48 (merkle 32 (list.map (fun x => x.digest))) ++ padTo 48 (e.anchor.getD []) ++
    padTo 48 e.platdig ++ s.unitidBytes ++ leBytes 4 0 ++ padTo 16 (Config.sha384 (Config.publicBytes (s.cask 15).key)) ++
    padTo 16 (Config.sha384 (Config.publicBytes (s.cask 16).key))

/-- SEAL_SIGN (R201, R202): both signatures over the oldest finalised epoch's TBS; without a valid key the epoch waits, EV744;
the first seal under another key carries NEWKEY, EV745. The queue of signed seals holds 16. After a second fault of the PKU the seal is
still due (R318). -/
def execSealSign (s : State) : Host.Outcome State Fault Refusal :=
  .next (match s.powered, s.sealing.unsigned with
    | true, e :: rest =>
      if s.sealKeyOk = false then
        if s.sealing.keyWait then s else ({ s with sealing := { s.sealing with keyWait := true } } : State).raise 744 (sealArg 0 e.no)
      else if 16 ≤ s.sealing.signed.length then s
      else
        let gen := (s.cask 15).gen
        let newKey := decide (s.sealing.signGen ≠ gen ∨ s.sealing.signKeys ≠ some s.sealKeys)
        let tbs := s.sealTbs e newKey
        let sg := s.signedTwice (s.cask 15).key (s.cask 16).key tbs
        match sg.2 with
        | none => sg.1
        | some (ec, ml) =>
        let bytes := tbs ++ padTo 96 ec ++ padTo 3309 ml
        let o : SealOut :=
          { epoch := e.no, run := e.run, bytes := bytes, digest := Config.sha384 tbs, tend := e.tend, unc := e.unc, entries := e.entries ++ e.straddlers
            before := s.sealing.gap.toList ++ (s.sealing.anchors.filter (fun a => decide (a.1 ≤ e.no))).map (fun a => a.2), covered := false }
        let s : State := { sg.1 with sealing := { s.sealing with
          unsigned := rest, signed := s.sealing.signed ++ [o], prevSeal := o.digest, gapFirst := false, gap := none
          anchors := s.sealing.anchors.filter (fun a => decide (e.no < a.1)), keyWait := false, signGen := gen, signKeys := some s.sealKeys } }
        s.raiseIf newKey 745 (sealArg 0 e.no)
    | _, _ => s)

/-- An EPOCH record is due: the one before was written at least 0.9 × max(EPOCHMS, 1,000 ms) ago (R204). -/
def State.recordDue (s : State) : Bool :=
  match s.sealing.jAt with
  | some t => decide (9 * max (fld (s.cfg 0x2400) 15 0) 1000 * 600000 ≤ 10 * (s.time - t))
  | none => true

/-- SEAL_JOURNAL_WRITE (R204): an EPOCH record that names the newest signed seal is written and read back, and covers it and
every earlier one. A write whose read-back fails leaves a record whose MAC fails. -/
def execSealJournalWrite (ok : Bool) (s : State) : Host.Outcome State Fault Refusal :=
  .next (match s.vaultUp, s.sealing.signed.getLast? with
    | true, some o =>
      if o.covered ∨ s.recordDue = false then s
      else
        let s := s.vaultDone
        let x := s.sealing.jWrite { kind := 1, mac := ok, seq := 0, run := o.run, epoch := o.epoch, time := o.tend, unc := o.unc, digest := o.digest }
        if ok then { s with sealing := { x with signed := s.sealing.signed.map (fun x => { x with covered := true }), jAt := some s.time } }
        else ({ s with sealing := x } : State).raise 752 (sealArg 0 o.epoch)
    | _, _ => s)

/-! ## The seal log (R205 to R207) -/

/-- A power of two in a range. -/
def pow2In (n lo hi : Nat) : Bool := decide (lo ≤ n ∧ n ≤ hi) && (List.range 32).any (fun i => decide (n = 2 ^ i))

/-- The first parameter of SEAL_LOG outside its range (R205): its offset in the entry. -/
def logBad (l : SealLog) : Option Nat :=
  if l.recBase % 4096 ≠ 0 then some 8
  else if l.listBase % 64 ≠ 0 then some 16
  else if l.ctl % 64 ≠ 0 then some 24
  else if pow2In l.recSlots 16 65536 = false then some 32
  else if pow2In l.listEnt 1024 16777216 = false then some 36
  else none

/-- SEAL_LOG (R190, R205, R239): the first log of a run opens its first epoch; a log set already is replaced at the next epoch
boundary; after PERST_N it is set at once. Before a run there is no epoch to log. -/
def execSealLog (cid recBase listBase ctl recSlots listEnt : Nat) (s : State) : Host.Outcome State Fault Refusal :=
  .next (s.admin cid 0x32 (fun s =>
    let l : SealLog := { recBase := recBase, recSlots := recSlots, listBase := listBase, listEnt := listEnt, ctl := ctl }
    if s.sealMode = false then (s, reply .notPermitted)
    else if recSlots = 0 ∧ listEnt = 0 then (s, reply .noop)
    else match logBad l with
      | some at_ => (s, badField at_)
      | none =>
        if s.sealing.running = false then (s, reply .notPermitted)
        else if s.sealing.log.isSome then
          ({ s with sealing := { s.sealing with nextLog := some l } }, okWith (leBytes 8 s.nextEpoch))
        else
          let first := s.sealing.open_.isNone
          let no := if first then s.nextEpoch else s.epochNo
          let s : State := { s with sealing := { s.sealing with log := some l } }
          (if first then s.openEpoch no none else s, okWith (leBytes 8 no))))

/-- A list entry's 64 bytes (R199). -/
def entBytes (x : ListEnt) : List Byte := leBytes 2 x.stream ++ leBytes 2 x.gen ++ leBytes 4 x.run ++ leBytes 8 x.seq ++ padTo 48 x.digest

/-- The log that an epoch's records go to: a change of log leaves the epochs before its boundary theirs (R205). -/
def State.logOf (s : State) (epoch : Nat) : Option SealLog :=
  match s.sealing.oldLogs.find? (fun p => decide (epoch ≤ p.1)) with | some p => some p.2 | none => s.sealing.log

/-- The oldest signed seal may leave: journalled, a log set, the bus usable, and space for its records and entries (R204,
R206). -/
def State.sealGoes (s : State) : Option (SealLog × SealOut) :=
  match s.sealing.signed with
  | [] => none
  | o :: _ =>
    match s.logOf o.epoch with
    | none => none
    | some l =>
    if o.covered ∧ s.busOk ∧ o.before.length + 1 ≤ ringSpace l.recSlots s.sealing.recProd s.sealing.recCons ∧
        o.entries.length ≤ ringSpace l.listEnt s.sealing.listProd s.sealing.listCons then some (l, o) else none

/-- A record is written to the record ring. -/
def State.writeRecord (s : State) (l : SealLog) (r : List Byte) : State :=
  let s := (s.hostWrite (l.recBase + 4096 * (s.sealing.recProd % l.recSlots)) (padTo 4096 r)).cntQ 199 1
  { s with sealing := { s.sealing with recProd := s.sealing.recProd + 1 } }

/-- A list entry is written to the list ring. -/
def State.writeEntry (s : State) (l : SealLog) (x : ListEnt) : State :=
  let s := (s.hostWrite (l.listBase + 64 * (s.sealing.listProd % l.listEnt)) (entBytes x)).cntQ 201 1
  { s with sealing := { s.sealing with listProd := s.sealing.listProd + 1 } }

/-- SEAL_OUTPUT (R203, R206): list entries, POWER_GAP, ANCHOR, the seal, the producer counts, EV740. -/
def execSealOutput (s : State) : Host.Outcome State Fault Refusal :=
  .next (match s.powered, s.sealGoes with
    | true, some (l, o) =>
      let s := o.entries.foldl (fun s x => s.writeEntry l x) s
      let s := o.before.foldl (fun s r => s.writeRecord l r) s
      let s := s.raiseIf (o.before.any (fun r => decide (bytesAt r 0 2 = leBytes 2 0x11))) 741 (sealArg 0 o.epoch)
      let s := s.writeRecord l o.bytes
      let s := s.hostWrite l.ctl (leBytes 8 s.sealing.recProd ++ leBytes 8 s.sealing.listProd)
      let s : State := { s with
        sealing := { s.sealing with
          signed := s.sealing.signed.tail, released := some o.digest, oldLogs := s.sealing.oldLogs.filter (fun p => decide (o.epoch < p.1)) }
        tlm := { s.tlm with epochs := s.tlm.epochs + 1 } }
      (s.cntQ 198 1).raise 740 (sealArg 0 o.epoch)
    | _, _ => s)

/-- SEAL_LOG_POLL (R206, R247): the consumer counts are read; a failed read counts as no space for that poll. -/
def execSealLogPoll (counts : Option (Nat × Nat)) (s : State) : Host.Outcome State Fault Refusal :=
  .next (match s.powered && s.busOk && s.sealing.log.isSome, counts with
    | true, some (r, l) => ({ s with sealing := { s.sealing with recCons := r, listCons := l } } : State).countRead 16
    | _, _ => s)

/-- UNC_WARN (R209): UNC first exceeds UNCWARN seconds since the last anchor. -/
def execUncWarn (s : State) : Host.Outcome State Fault Refusal :=
  .next (
    let w := fld (s.cfg 0x2404) 15 0
    if s.powered ∧ s.keeper.rtcValid ∧ w ≠ 0 ∧ s.sealing.uncWarned = false ∧ s.sealing.base.isSome ∧ w * 1000000 < s.unc then
      ({ s with sealing := { s.sealing with uncWarned := true } } : State).raiseSeal 751 0
    else s)

/-! ## Time anchors (R210 to R212) -/

/-- ANCHOR_REQUEST (R210, R239): NONCE, IMPRINT and q; before any seal has been released the digest is 48 zero bytes. -/
def execAnchorRequest (cid len addr : Nat) (s : State) : Host.Outcome State Fault Refusal :=
  .next (s.admin cid 0x33 (fun s =>
    if s.sealMode = false then (s, reply .notPermitted)
    else if len = 0 then (s, reply .noop)
    else if len < 64 then (s, badField 24)
    else if s.crypt.rngSt ≠ 1 then (s, reply .deviceFault)
    else
      let nonce := padTo 8 (s.rand 8)
      let imprint := padTo 48 (Config.sha384 (padTo 48 (s.sealing.released.getD []) ++ nonce ++ s.unitidBytes))
      let q := s.rtc
      let s : State := { s.drawn with sealing := { s.sealing with request := some { nonce := nonce, imprint := imprint, q := s.rtcTicks } } }
      ((s.hostWrite addr (nonce ++ imprint ++ leBytes 8 q.toNat)).raiseSeal 746 0, okWith nonce)))

/-- The TSA slot of the applied bundle, enabled in TSAMASK, that a signer's key digest equals (R211). -/
def State.tsaSlot (s : State) (spki : Nat) : Option Nat :=
  let m := fld (s.cfg 0x2404) 31 28
  match s.bundle with
  | some b => (List.range 4).find? (fun j => m.testBit j && decide (b.tsa[j]? = some spki))
  | none => none

/-- The checks of R211 in order: the status and DETAIL. -/
def State.anchorCheck (s : State) (t : AnchorTok) : Status × Nat :=
  match s.sealing.request with
  | none => (.notPermitted, 1)
  | some r =>
    if t.wellFormed = false ∨ 8192 < t.len then (.invalidField, 2)
    else if s.tsaSlot t.spki = none then (.verifyFail, 3)
    else if t.sigOk = false then (.verifyFail, 4)
    else if t.imprint ≠ r.imprint ∨ t.nonce ≠ r.nonce then (.verifyFail, 5)
    else if fld (s.cfg 0x2404) 27 16 * 32768 < s.rtcTicks - r.q then (.verifyFail, 6)
    else if (match s.sealing.lastGen with | some g => decide (t.genTime < g) | none => false) = true then (.verifyFail, 7)
    else (.ok, 0)

/-- ANCHOR_SUBMIT (R211, R212): an accepted token takes effect at the next epoch boundary; a failure consumes the request,
EV748. -/
def execAnchorSubmit (cid : Nat) (t : AnchorTok) (s : State) : Host.Outcome State Fault Refusal :=
  .next (s.admin cid 0x34 (fun s =>
    if s.sealMode = false then (s, reply .notPermitted)
    else if t.len = 0 then (s, reply .noop)
    else
      let c := s.anchorCheck t
      let v := s.withPku (decide (c.1 = .ok ∨ 4 ≤ c.2)) (fun u => (u, c.1))
      let req := s.sealing.request
      let now := s.rtcTicks
      let slot := (s.tsaSlot t.spki).getD 0
      let s : State := { v.1.countRead t.len with sealing := { (v.1.countRead t.len).sealing with request := none } }
      match v.2, req with
      | .ok, some q =>
        let a : AnchorAcc :=
          { req := q, s := now, gen := t.genTime, acc := t.accuracy.getD 1000000, accAbsent := t.accuracy.isNone, slot := slot
            tokenDig := t.digest }
        ({ s with sealing := { s.sealing with accepted := some a } }, okWith (leBytes 8 s.nextEpoch))
      | st, _ => (s.raiseSeal 748 0, { st := st, detail := if st = .deviceFault then 0 else c.2, result := [] })))

end Sys2Proof.Machine
end

