-- ==== Sys2Proof/Machine/Ledger.lean ====
section
/-! DEFINITION. Machine/Ledger.lean: the ledger and the Cellar banks (R27 to R29, R37, R38, R145, R152). -/

namespace Sys2Proof.Machine

/-! ## Cellar banks (R29, R145) -/

/-- The logical bank that a physical bank serves. -/
def State.logicalOf (s : State) (p : Nat) : Option Nat := (List.range 16).find? (fun b => decide (s.cellar.map.getD b 31 = p))

/-- The reservations that no longer fit (R29, R141, R282): agents in channel order keep theirs while they fit, the others are
QUARANTINED. -/
def State.refit (s : State) : State :=
  (allCh.foldl (fun (a : State × Nat) n =>
    let r := (a.1.chan n).resv
    if r = 0 then a
    else if a.2 + r + a.1.nodeRes + a.1.graftMax ≤ a.1.inService then (a.1, a.2 + r)
    else (a.1.noFit n, a.2)) (s, 0)).1

/-- A pinned set that has lost frames is not resident any more (R143). -/
def State.recheckSets (s : State) : State :=
  forCh (fun s n => s.updChan n (fun c => { c with setRes := c.setRes && s.setResident n })) s

/-- A bank lost beyond the spare (R29, R145): its frames Free, EV1020 at severity 7; RECOVER where the pinned pages and 256
node frames do not fit. -/
def State.bankLost (s : State) (b : Nat) : State :=
  let s : State := { s with cellar := { s.cellar with
    lost := s.cellar.lost ++ [b], out := s.cellar.map.getD b 31 :: s.cellar.out } }
  let s := ((s.freeFrames (fun f => decide (f.no / 1024 = b))).recheckSets).raiseAt 1020 7 0
  if s.inService < pinnedTotal s.cfg + 256 ∧ (s.plat.mode = .verify ∨ s.plat.mode = .guard) then (s.enterRecover 0xA).refit else s

/-- An in-service bank fails (R145): a copy to the idle bank begins, the memory test on it ending at once; with none idle, the
bank is lost. -/
def State.bankFails (s : State) (b : Nat) : State :=
  if s.cellar.lost.contains b ∨ s.cellar.copying = some b then s
  else if s.cellar.idle.isSome ∧ s.cellar.copying = none then
    { s with cellar := { s.cellar with copying := some b, testing := false } }
  else s.bankLost b

/-- BANK_UNCORRECTABLE (R145): an uncorrectable error in logical bank b; `bad` are the frames whose data it has made
uncorrectable. -/
def execBankUncorrectable (b : Fin 16) (bad : List Nat) (s : State) : Host.Outcome State Fault Refusal :=
  .next (if s.powered then
    let s : State := { s with cellar := { s.cellar with uncorr := sat 0xFFFF (s.cellar.uncorr + 1) } }
    ((s.freeFrames (fun f => decide (f.no / 1024 = b.val) && bad.contains f.no)).recheckSets).bankFails b.val
  else s)

/-- BANK_COPY_COMPLETE (R145): the bank map switches in one cycle; frames with uncorrectable data are Free, the failing bank is
OUT, EV1020 at severity 5. -/
def execBankCopyComplete (bad : List Nat) (s : State) : Host.Outcome State Fault Refusal :=
  .next (match s.powered, s.cellar.copying, s.cellar.idle with
    | true, some b, some p =>
      let s : State := { s with cellar := { s.cellar with
        out := s.cellar.map.getD b 31 :: s.cellar.out, map := s.cellar.map.set b p, idle := none, copying := none } }
      ((s.freeFrames (fun f => decide (f.no / 1024 = b) && bad.contains f.no)).recheckSets).raiseAt 1020 5 0
    | _, _, _ => s)

/-- CELLAR_SCRUB_PASS (R37): a scrubbing pass corrects what ECC corrects and changes no tag; an error it cannot correct is
BANK_UNCORRECTABLE. -/
def execCellarScrubPass (s : State) : Host.Outcome State Fault Refusal := .next s

/-- A fatal ledger fault (R53): any violation in RECOVER enters LOCKDOWN with CAUSE 0x14, EV1022. -/
def State.fatalLedger (s : State) : State := (s.raise 1022 0).enterLockdown 0x14

/-- RECOVER by the ledger (R28, R282): every agent that runs is held, and the memory test of every in-service bank runs anew. -/
def State.ledgerRecover (s : State) : State :=
  let t := s.enterRecover 9
  if s.plat.mode ≠ .recover ∧ t.plat.mode = .recover then
    forCh State.holdAgent { t with cellar := { t.cellar with testing := false, toTest := [], testDone := false } }
  else t

/-- MEMTEST_BANK (R37, R38, R282): the test of the idle bank ends. A bank that passes takes the contents of the next in-service
bank, which is tested next; one that fails is mapped out. DESIGN CHOICE: with severity 5, as where the spare takes a bank's place: no in-service
bank is lost (log entry 64). It runs after HOLD and not in LOCKDOWN; in RECOVER by the ledger a
failure is fatal. -/
def execMemtestBank (ok : Bool) (s : State) : Host.Outcome State Fault Refusal :=
  .next (match s.cellar.idle with
    | none => s
    | some p =>
      if (s.plat.mode ≠ .verify ∧ s.plat.mode ≠ .guard ∧ s.plat.mode ≠ .recover) ∨ s.cellar.copying ≠ none ∨ s.cellar.testDone = true then s
      else if ok then
        let left := if s.cellar.testing then s.cellar.toTest else (List.range 16).filter (fun b => !s.cellar.lost.contains b)
        match left with
        | b :: rest =>
          { s with cellar := { s.cellar with
              testing := true, toTest := rest, idle := some (s.cellar.map.getD b 31), map := s.cellar.map.set b p } }
        | [] => { s with cellar := { s.cellar with testing := false, toTest := [], testDone := true } }
      else if s.plat.mode = .recover ∧ s.plat.cause = 9 then s.fatalLedger
      else
        ({ s with cellar := { s.cellar with testing := false, toTest := [], idle := none, out := p :: s.cellar.out } } : State).raiseAt 1020 5 0)

/-! ## Engines and lanes out of service (R27, R152, R316) -/

/-- The jobs of an engine wait again, from their first byte, ahead of the others (R152). -/
def State.restartJobs (s : State) (e : Nat) : State :=
  let mine := s.press.held.filter (fun j => decide (j.engine = e))
  { s with press := { s.press with held := s.press.held.filter (fun j => decide (j.engine ≠ e)), waiting := mine ++ s.press.waiting } }

/-- An engine changes its state; leaving service, its jobs restart on other engines (R152, R316). -/
def State.setEngine (s : State) (e : Nat) (st : EngineSt) : State :=
  let s : State := { s with press := { s.press with engines := s.press.engines.set e st } }
  if st = .out ∨ st = .selfTest then s.restartJobs e else s

/-- An AES lane changes its state (R316, R317): its job restarts on another from its first byte, and keeps its ATTEMPT. -/
def State.setLane (s : State) (l : Nat) (st : EngineSt) : State := { s with crypt := { s.crypt with lanes := s.crypt.lanes.set l st } }

/-! ## Queues and streams (R27, R28, R191) -/

/-- Every entry of a submission queue in progress completes with DEVICE_FAULT, its segments among SEGFAIL (R27, R218); a STREAM_CLOSE that
waited for one of them completes (R191). -/
def State.faultEntries (s : State) (q : Nat) : State :=
  let hit := s.sealing.streams.filter (fun x => match x.run with | some r => decide (r.seg.f.q = q) | none => false)
  let segs := hit.filterMap (fun x => x.run.map (fun r => r.seg)) ++
    s.sealing.streams.flatMap (fun x => x.queue.filter (fun g => decide (g.f.q = q)))
  let s := hit.foldl (fun s x => s.segCredit x.no) s
  let s : State := { s with sealing := { s.sealing with streams := s.sealing.streams.map (fun x =>
    { x with queue := x.queue.filter (fun g => decide (g.f.q ≠ q)), run := if hit.contains x then none else x.run }) } }
  let s := segs.foldl (fun s g => s.failSeg g .deviceFault) s
  let s := hit.foldl (fun s x => s.closeWaiting { x with run := none, queue := x.queue.filter (fun g => decide (g.f.q ≠ q)) }) s
  (s.host.fetched.filter (fun f => decide (f.q = q))).foldl (fun s f => s.completeCmd f (reply .deviceFault)) s

/-- A queue is taken out of service by the ledger (R28, R253): FAULT with CAUSE 7. -/
def State.queueFault (s : State) (q : Nat) : State :=
  if (s.queue q).st = .disabled then s
  else (if qSub q then s.faultEntries q else s).qFail q .fault 7

/-- A stream's chain unit fails (R27, R191): FAULT, EV755, its queue pair stops with DEVICE_FAULT. -/
def State.streamFault (s : State) (k : Nat) : State :=
  match s.stream k with
  | some x =>
    if x.st ≠ .open_ then s
    else
      let s := match x.run with | some r => (s.segCredit k).failSeg r.seg .deviceFault | none => s
      let s := s.dropQueue x .deviceFault
      let y := { x with st := .fault, queue := [], run := none, deficit := 0 }
      let s := (s.setStream y).raiseSeal 755 k
      (s.closeWaiting y).queueFault (8 + 2 * x.qpair)
  | none => s

/-- LEDGER_VIOLATION (R27, R28, R53): the named unit leaves service with EV1019 and its work goes elsewhere; the Cellar tags
and the ledger itself enter RECOVER; any violation in RECOVER is fatal. In HOLD, before a policy bundle is applied, the ledger checks the
KP9600's own units only (R30). -/
def execLedgerViolation (l : Law) (s : State) : Host.Outcome State Fault Refusal :=
  .next (if s.powered = false then s
  else if s.plat.mode = .recover then s.fatalLedger
  else
    match l with
    | .selfCheck => (s.raise 1021 0).ledgerRecover
    | .tags => (s.raise 1019 0).ledgerRecover
    | .bank p =>
      let s := s.raise 1019 0
      (match s.logicalOf p.val with
       | some b => s.bankFails b
       | none => if s.cellar.idle = some p.val then
           ({ s with cellar := { s.cellar with idle := none, copying := none, testing := false, out := p.val :: s.cellar.out } } : State).raiseAt 1020 5 0
         else s)
    | .engine e => (s.raise 1019 0).setEngine e.val .out
    | .queue q => (s.raise 1019 0).queueFault q
    | .events => (s.raise 1019 0).degrade true
    | .sealEngine _ e => (s.raise 1019 0).setEngine e.val .out
    | .sealLane _ l => (s.raise 1019 0).setLane l.val .out
    | .sealSeq k => (s.raise 1019 0).streamFault k
    | .agent n =>
      if s.plat.mode = .hold ∧ s.policyApplied = false then s
      else if s.plat.mode = .lockdown then s.raise 1019 0 else (s.raise 1019 0).quarantine n 3)

end Sys2Proof.Machine
end

