-- ==== Sys2Proof/Machine/StartUp.lean ====
section
/-! DEFINITION. Machine/StartUp.lean: power, start-up and mode requests (R39 to R57, R119, R126, R136, R289 to R299, R304 to R311,
R316, R389). -/

namespace Sys2Proof.Machine

/-! ## Main power (R41, R45, R56) -/

/-- MAIN_POWER_GOOD_RISE (R41, R45, R403): HOLD at the beginning of R45; the straps are sampled and the pins have the levels
given. -/
def execMainPowerGoodRise (addrSel strap : Nat) (perst halt : Bool) (s : State) : Host.Outcome State Fault Refusal :=
  .next (if s.plat.mode ≠ .shelf then s
  else
    let s : State := { s with
      keeper := { s.keeper with vbat := true }
      plat := { s.plat with perstN := perst, haltN := halt }
      side := { s.side with addrSel := addrSel % 4, strap := strap % 4 } }
    s.start 0 1#32 startHost)

/-- MAIN_POWER_GOOD_FALL (R41, R55, R343): the Keeper latches SHELFTIME, the debug latch clears, and SHELF is entered; every
other domain loses power, so nothing else is recorded. -/
def execMainPowerGoodFall (s : State) : Host.Outcome State Fault Refusal :=
  .next (if s.powered then
    { s with
      keeper := { s.keeper with shelfTime := s.rtc, dbgLatch := false }
      plat := { s.plat with mode := .shelf, fwRuns := false, romsvc := false } }
  else s)

/-- KEEPER_POWER_LOSS (R56, R346): the Keeper domain loses its state while main power is off; group 30 returns to its reset
values. -/
def execKeeperPowerLoss (s : State) : Host.Outcome State Fault Refusal :=
  .next (if s.powered then s
  else
    { s with
      keeper := { freshKeeper with lost := true, vbat := false, rtcAt := s.time, wdInv := 0 }
      life := { s.life with tampLvl := 0 }
      regs := { s.regs with active := s.regs.active.filter (fun e => !inGroup30 e.1) } })

/-- TAP_RESET (R50): TRST_N resets the TAP controller, of which nothing is state here, and nothing else. -/
def execTapReset (s : State) : Host.Outcome State Fault Refusal := .next s

/-! ## The first milliseconds (R45, R327, R336, R343, R349, R350, R389) -/

/-- The machine starts: HOLD, or the LOCKDOWN that a start can enter before its firmware runs. -/
def State.starting (s : State) : Bool := decide (s.plat.mode = .hold ∨ s.plat.mode = .lockdown)

/-- The retained watchdog count at a start (R389): a count that disagrees with its inverse reads 0 with EV868; at the start that
a watchdog or monitor reset made, the event LASTCAUSE names. -/
def State.reportWd (s : State) : State :=
  let k := s.keeper
  if k.wdCount + k.wdInv ≠ 255 then
    let s1 : State := { s with keeper := { k with wdCount := 0, wdInv := 255, lastCause := 0 } }
    s1.raiseIf (!s.plat.keepLost) 868 (k.wdCount % 256 + 256 * (k.wdInv % 256))
  else if s.plat.cause ≠ 1 then s
  else if 1 ≤ k.lastCause ∧ k.lastCause ≤ 3 then s.raise 833 0
  else if k.lastCause = 4 then s.raise k.fatalEv 0
  else if k.lastCause = 5 then s.raise 965 0
  else s

/-- An ENTER_EOL that has programmed W_EOL and not all fuses is finished before the decode (R332). -/
def State.finishEol (s : State) : State :=
  if s.life.otp.wEol = patEol ∧ s.life.otp.fuses ≠ 0xFF#8 then s.burnFuses else s

/-- The identity block's CRC matches (R336). -/
def State.identOk (s : State) : Bool := decide (crc32 s.life.otp.ident.bytes = s.life.otp.ident.crc)

/-- A class 3 record of the latch enters the history only (R349, R350). -/
def State.dropClass3 (s : State) : State :=
  if s.keeper.tlHolding = true ∧ s.keeper.tlClass = 3 then
    { s with keeper := { s.keeper with tlHolding := false, tlClass := 0, tlSource := 0, tlTrips := 0, tlTime := 0#64 } }
  else s

/-- A LOCKDOWN of CAUSE 0x10 or 0x14 that the last-mode record shows is left only by a main power cycle or by authorised
recovery, whose restart has CAUSE 0x0D: any other restart enters it again (R54, R57; log entry 56). -/
def State.lockdownStays (s : State) : Bool :=
  !s.plat.porStart && decide (s.plat.cause ≠ 0x0D) &&
    (match s.plat.lastRec with | some r => decide (r.mode = 5 ∧ (r.cause = 0x10 ∨ r.cause = 0x14)) | none => false)

/-- The latch and the lifecycle decide whether HOLD passes to LOCKDOWN (R41, R327, R350): a class 5 record burns the fuses
first. -/
def State.startChecks (s : State) : State :=
  let k := s.keeper
  let s := if k.tlHolding = true ∧ k.tlClass = 5 then (if s.life.otp.fuses = 0xFF#8 then s else s.burnFuses).enterLockdown 0x12
    else if k.tlHolding = true ∧ k.tlClass = 4 then s.enterLockdown 0x11 else s
  if s.lifeCode = 7 then (s.raise 1017 0).enterLockdown 0x13
  else if s.lifeCode = 3 then s.enterLockdown 0x15
  else if s.lockdownStays then s.enterLockdown ((s.plat.lastRec.map (fun r => r.cause)).getD 0)
  else s

/-- PLL_LOCK (R45, R391): the PLLs lock, OTP is sensed and the lifecycle decoded, the tamper latch, the watchdog count and the
last-mode record are read; in BLANK debug is open (R341). -/
def execPllLock (s : State) : Host.Outcome State Fault Refusal :=
  .next (if s.plat.mode ≠ .hold ∨ s.plat.boot.pll = true then s
  else
    let s : State := { s with plat := { s.plat with boot := { s.plat.boot with pll := true }, lastValid := s.plat.lastRec.isSome } }
    let s := s.reportWd.finishEol
    let s := s.raiseIf (!s.identOk) 1018 0
    let s := ({ s with life := { s.life with moved := false } } : State).raiseIf s.life.moved 1016 0
    let s := s.dropClass3.startChecks
    if s.lifeCode = 0 ∧ s.plat.mode = .hold then { s with life := { s.life with debugOpen := true, scope := 3 } } else s)

/-! ## The vault port (R119, R120, R126, R128) -/

/-- A vault part found and trained (R119, R120, R122, R126): the part on VP_CS0_N holds 64 MiB or more and reports SFDP. -/
def State.vaultFound (s : State) (k : PartId) (f : PartFound) : State :=
  match f.sfdp, trainedSclk f.train s.vaultSteps with
  | some d, some hz =>
    if f.stuck = true ∨ (k = 0 ∧ d.sizeLog < 26) then s.vaultPartFailed k
    else
      let s := s.updVaultPart k (fun p => { p.train f.train hz with
        present := true, unit := d.erases.headD 0, erases := d.erases, canSuspend := d.canSuspend
        progInErase := d.progInErase, times := d.times, sizeLog := d.sizeLog })
      let s : State := { s with vault := if k = 0 then { s.vault with size0 := d.sizeLog } else { s.vault with size1 := d.sizeLog } }
      s.raiseDrops f.train 512
  | _, _ => s.vaultPartFailed k

/-- The header copy in force: of the copies that verify, the one with the higher sequence number (R126). -/
def headerOf (a b : Option VaultHeader) : Option VaultHeader :=
  match a, b with
  | some x, some y => if x.seq < y.seq then b else a
  | some _, none => a
  | none, _ => b

/-- VAULT_IDENTIFY (R45, R119, R126, R289): the vault parts are identified and trained, and the two header copies are read, none where a
copy does not verify: the directory of up to 16 golden agent images is that of the one in force. With none FWESC is 3, no copy is
confirmed and no golden image known. -/
def execVaultIdentify (cs0 cs1 : Option PartFound) (busMode : Nat) (hdrA : Option VaultHeader) (s : State)
    (hdrB : Option VaultHeader := none) :
    Host.Outcome State Fault Refusal :=
  .next (if s.starting = false ∨ s.plat.boot.pll = false ∨ s.plat.boot.vault = true then s
  else
    let s : State := { s with
      plat := { s.plat with boot := { s.plat.boot with vault := true } }
      vault := { s.vault with busMode := busMode % 3 } }
    let s := match cs0 with | some f => s.vaultFound 0 f | none => s.vaultPartFailed 0
    let s := match cs1 with | some f => s.vaultFound 1 f | none => s
    match headerOf hdrA hdrB, s.vault.parts[0].failed with
    | some h, false =>
      { s with vault := { s.vault with
        golden := (h.golden.take 16).map (fun g => { g with valid := g.valid && !(s.vault.parts[1].failed && decide (g.part = 1)) })
        hdrA := hdrA.map (fun x => x.seq), hdrB := hdrB.map (fun x => x.seq) } }
    | _, _ =>
      { s with
        vault := { s.vault with golden := [], acts := [], hdrA := none, hdrB := none }
        ident := { s.ident with fwesc := 3, fwA := { s.ident.fwA with confirmed := false }, fwB := { s.ident.fwB with confirmed := false } } })

/-! ## The Rootstock (R293 to R300) -/

/-- The secret bits of a helper record, m_S and m_D′, 66 bytes: the draw it was built from (R294; log entry 3). -/
def Helper.secretBits (h : Helper) : List Byte := Config.drbgBytes h.secret 66

/-- The OTP helper slots written. -/
def State.otpUsed (s : State) : Nat := (s.life.otp.helpers.filter (fun h => h.isSome)).length

/-- The Rootstock is withheld at this start (R293); in LOCKDOWN no key exists (R313). -/
def State.rootWithheld (s : State) : Bool :=
  s.fusesBlown || decide (s.lifeCode = 0 ∨ s.lifeCode = 7 ∨ s.lifeCode = 3) ||
    (s.keeper.tlHolding && decide (s.keeper.tlClass = 4 ∨ s.keeper.tlClass = 5)) || s.keeper.dbgLatch ||
    decide (s.plat.mode = .lockdown)

/-- The Rootstock step of this start ends. -/
def State.rootEnd (s : State) : State := { s with plat := { s.plat with boot := { s.plat.boot with root := true } } }

/-- A start without the Rootstock under R293: EV585; where the debug latch is set, debug opens with EV823 (R342, R343). -/
def State.withholdRoot (s : State) : State :=
  let s : State := { s with crypt := { s.crypt with rootSt := if s.fusesBlown then 4 else 3 } }
  let s := (((s.raise 585 0).withoutRoot 0 []).withoutRoot 1 []).rootEnd
  if s.keeper.dbgLatch = true ∧ s.plat.mode = .hold then ({ s with life := { s.life with debugOpen := true } } : State).raise 823 0 else s

/-- Enrolment, at the first start in TEST with OTP helper slot 0 blank (R293). -/
def State.enrol (s : State) : State :=
  let h : Helper := { seq := 1, region := 0, origin := 0, secret := s.crypt.draws }
  let t := (s.drawn).updOtp (fun o => { o with helpers := o.helpers.set 0 (some h) })
  { t with crypt := { t.crypt with helpers := t.crypt.helpers ++ [h] } }

/-- e_S and e_D of the newest written OTP helper record, where it decodes (R300). -/
def State.newestOtp (s : State) (d : PufDecode) : Option (Nat × Nat) :=
  match s.otpUsed with | 1 => d.otp0 | 2 => d.otp1 | 3 => d.otp2 | _ => none

/-- The first helper record that wins (R296): the newest of the vault, then the OTP slots from the highest down: its SOURCE, the
record, e_S and e_D. -/
def State.rootWinner (s : State) (d : PufDecode) : Option (Nat × Helper × Nat × Nat) :=
  let slot := fun (k : Nat) (x : Option (Nat × Nat)) =>
    match (s.life.otp.helpers.getD k none), x with | some h, some e => some (k + 1, h, e.1, e.2) | _, _ => none
  let v := match s.crypt.helpers.getLast?, d.vault with
    | some h, some e => if s.vault.parts[0].failed then none else some (0, h, e.1, e.2)
    | _, _ => none
  (v.orElse (fun _ => slot 2 d.otp2)).orElse (fun _ => (slot 1 d.otp1).orElse (fun _ => slot 0 d.otp0))

/-- The Rootstock regenerated from a winning record (R294, R296, R298, R304). -/
def State.rootWins (s : State) (src : Nat) (h : Helper) (eS eD : Nat) (d : PufDecode) : State :=
  let ki := leNat (padTo 48 (Config.sha384 h.secretBits))
  let newer := match s.crypt.helpers.getLast? with | some v => decide (src ≠ 0 ∧ h.seq < v.seq) | none => false
  let o := (s.newestOtp d).getD (0, 0)
  let s : State := { s with crypt := { s.crypt with
    rootSt := 1, attempts := s.crypt.attempts + 1, source := src, region := h.region, sramErr := eS, dlErr := eD
    root := some (leNat (kdf ki (ascii "KP9600 Rootstock") s.unitidBytes 256)), buffers := some h.secret
    due := s.crypt.due || newer || decide (5 ≤ eS), dueNow := newer, otpErrS := o.1, otpErrD := o.2 } }
  let s := (s.raise 569 0).raiseIf (decide (5 ≤ eS)) 572 0
  ((s.deriveFixed 0 s.unitidBytes none).deriveFixed 1 s.unitidBytes none).rootEnd

/-- One attempt (R296): the third that fails ends the step without the Rootstock. -/
def State.rootAttempt (s : State) (d : PufDecode) : State :=
  match s.rootWinner d with
  | some (src, h, eS, eD) => s.rootWins src h eS eD d
  | none =>
    let s : State := { s with crypt := { s.crypt with attempts := s.crypt.attempts + 1 } }
    if s.crypt.attempts < 3 then s.raise 570 0
    else (((({ s with crypt := { s.crypt with rootSt := 2 } } : State).raise 571 0).withoutRoot 0 []).withoutRoot 1 []).rootEnd

/-- The Rootstock step is under way. -/
def State.rootStep (s : State) : Bool := s.starting && s.plat.boot.pll && s.plat.boot.vault && !s.plat.boot.root

/-- ROOTSTOCK_REGENERATE (R293, R296): the first attempt, or the withholding of R293; at the first start in TEST, enrolment goes
before it. -/
def execRootstockRegenerate (d : PufDecode) (s : State) : Host.Outcome State Fault Refusal :=
  .next (if s.rootStep = false ∨ s.crypt.attempts ≠ 0 then s
  else if s.rootWithheld then s.withholdRoot
  else if s.lifeCode = 1 ∧ s.life.otp.helpers.getD 0 none = none then s.enrol.rootAttempt d
  else s.rootAttempt d)

/-- ROOTSTOCK_RETRY (R296): the supply has been off for 1.0 ms and decoding is tried again. -/
def execRootstockRetry (d : PufDecode) (s : State) : Host.Outcome State Fault Refusal :=
  .next (if s.rootStep = false ∨ s.crypt.attempts = 0 ∨ 3 ≤ s.crypt.attempts then s else s.rootAttempt d)

/-! ## Start-up self-tests (R45, R316, R318, R319) -/

/-- SELF_TEST_STARTUP (R45, R316): the known-answer tests: engines and lanes that fail are OUT; the PKU, the DRBG's
instantiation, the key store and the ledger's self-check. A start whose DRBG, key store or ledger fails stays in HOLD. -/
def execSelfTestStartup (badEngines badLanes : List Nat) (pku rng store ledger : Bool) (s : State) : Host.Outcome State Fault Refusal :=
  .next (if s.starting = false ∨ s.plat.boot.pll = false ∨ s.plat.boot.selfTest = true then s
  else
    let s := (badEngines.filter (fun e => decide (e < 8))).foldl (fun s e => (s.setEngine e .out).raise (544 + e) e) s
    let s := (badLanes.filter (fun l => decide (l < 4))).foldl (fun s l => (s.setLane l .out).raise (560 + l) l) s
    let s := ({ s with crypt := { s.crypt with pkuFault := s.crypt.pkuFault || !pku } } : State).raiseIf (!pku) 564 0
    let s := if rng then { s with crypt := { s.crypt with rngSt := 1, draws := s.crypt.draws + 1 } }
      else ({ s with crypt := { s.crypt with hfail := sat 255 (s.crypt.hfail + 1) } } : State).raise 566 0
    let s := s.raiseIf (!ledger) 1021 0
    { s with plat := { s.plat with boot := { s.plat.boot with selfTest := rng && store && ledger, rngHeld := !rng && store && ledger } } })

/-! ## The firmware (R45, R254, R289, R290, R304, R305, R311, R367) -/

/-- A firmware copy verifies at a start (R289, R316): its bytes as streamed, its signatures, its Vintage against OTP; not with
every engine OUT or the PKU at fault, and not from a vault part that failed. -/
def State.fwVerifies (s : State) (k : Nat) (read : Bool) : Bool :=
  read && decide (0 < s.enginesIn) && !s.crypt.pkuFault && !s.vault.parts[0].failed &&
    (match (s.ident.fw k).pkg with
     | some p => (s.ident.fw k).bootable && s.packageOk p && decide (s.vintage 15 ≤ p.vintage)
     | none => false)

/-- The key journal read at a start whose journal key is not the one it was written under: every record is skipped (R305,
R311); intent and sealing journal records are ignored, and the event journal's blocks fail their MAC (R127, R367). -/
def State.journalsLost (s : State) : State :=
  let n := s.crypt.kjFill
  let s := (List.replicate n ()).foldl (fun s _ => s.raise 581 0) s
  let s := s.evt.journal.foldl (fun s b => s.raiseIf (!b.bad) 876 0) s
  { s with
    crypt := { s.crypt with keys := [], sealGen := 1, kjMacFail := sat 255 n, keysChanged := true }
    vault := { s.vault with intents := s.vault.intents.map (fun i => { i with macOk := false }) }
    sealing := { s.sealing with jLog := s.sealing.jLog.map (fun r => { r with mac := false }), base := none, bnew := 0#64 }
    evt := { s.evt with journal := s.evt.journal.map (fun b => { b with bad := true }), prevBad := true } }

/-- An owner key of the journal loaded into its Cask (R304, R311). -/
def State.loadKey (s : State) (k : KeyRec) : State :=
  s.fill k.cask
    { st := .valid, type := k.type, parent := 11, label := k.label, gen := k.gen, pgen := (s.cask 11).gen, rights := k.rights
      origin := 1, flags := 1, share0 := 0#512, share1 := 0#512 } k.material

/-- TIME of the newest record of the event journal whose block verifies. -/
def State.lastTime (s : State) : Option DWord :=
  ((s.evt.journal.filter (fun b => !b.bad && !b.carried)).getLast?.bind (fun b => b.recs.getLast?)).map (fun r => r.time)

/-- The RTC is compared with the vault journal's last TIME: a step backwards sets it invalid (R395; log entry 57). -/
def State.checkRtc (s : State) : State :=
  match s.lastTime with
  | some t => if t.getLsbD 63 = true ∧ s.rtcTicks < t.toNat % 2 ^ 63 then { s with keeper := { s.keeper with rtcValid := false } } else s
  | none => s

/-- The firmware keys and what lies beneath them (R304), then the journals under the journal key (R305, R311, R367). Without the
Rootstock the scramble key comes from the DRBG alone, and the journal is a failed one (R297). -/
def State.deriveStart (s : State) (p : Package) : State :=
  let s := s.deriveL0 p p
  let ctx := digBytes (s.authDigest p.sigs) ++ leBytes 1 s.lifeCode
  let s := (((s.deriveFixed 8 ctx none).deriveFixed 9 ctx none).deriveFixed 10 [] none).deriveFixed 11 [] none
  let r := s.rand 32
  let s := ((s.drawn.deriveFixed 12 r none).deriveFixed 13 [] none).deriveFixed 14 [] none
  match s.journalKey with
  | none => ((s.withoutRoot 15 []).withoutRoot 16 []).degrade false
  | some k =>
    let s := match s.crypt.lastKey with | some old => if old = k then s else s.journalsLost | none => s
    let s : State := ({ s with crypt := { s.crypt with lastKey := some k } } : State).checkRtc
    let s := s.crypt.keys.foldl State.loadKey s
    let g := s.crypt.sealGen
    let s := (s.deriveFixed 15 (leBytes 4 g) (some g)).deriveFixed 16 (leBytes 4 g) (some g)
    s.issueSeal (s.authDigest p.sigs)

/-- Own-firmware work that a power failure or restart found open (R57, R290): a handover or its confirmation ends with EV526 and
its record rolled back, a partial download's record is rolled back. -/
def State.firmwareFound (s : State) : State :=
  match (liveIntents s.vault.intents).find? (fun i => decide (i.kind = 6 ∧ i.chan = 8)) with
  | some i => if s.journalKey = none then s else ((s.intent 6 8 0 2 i.step i.nsteps 0 (fwPlace s.ident.dlCopy) 0).raiseIf (decide (i.state = 3)) 526 (fwArg s.ident.dlCopy))
  | none => s

/-- The Warden and Steward firmware start (R45): keys, journals, checks of what was found, exceptions held until now. -/
def State.startFirmware (s : State) (k : Nat) : State :=
  let p := (s.ident.fw k).pkg
  let v := match p with | some p => p.version | none => 0
  let s : State := { s with
    ident := { s.ident with runCopy := k, wver := v, sver := v }
    plat := { s.plat with fwRuns := true, boot := { s.plat.boot with firmware := true } } }
  let s := match p with | some p => s.deriveStart p | none => s
  s.firmwareFound.drainExceptions

/-- No firmware copy runs (R52, R289): RECOVER under the mask ROM service. -/
def State.romService (s : State) : State :=
  let s := s.enterRecover 6
  if s.plat.mode = .recover then { s with plat := { s.plat with romsvc := true, fwRuns := false } } else s

/-- Firmware copies to be rewritten after a choice at start (R289). -/
def State.rewriteCopies (s : State) (l : List (Nat × Nat)) : State :=
  { s with ident := { s.ident with fwCopies := s.ident.fwCopies ++ l.filter (fun x => !s.ident.fwCopies.contains x) } }

/-- FIRMWARE_VERIFY (R45, R289): the mask ROM chooses the firmware from the vault header and the retained count, the first row of
R289 that applies; `a`, `b` and `g` say that the copy's bytes match their digests, `dev` that a copy of the DeviceID certificate passes its
check: EV517 where neither does (R256). -/
def execFirmwareVerify (a b g : Bool) (s : State) (dev : Bool := true) : Host.Outcome State Fault Refusal :=
  .next (
    let t := s.plat.boot
    if s.starting = false ∨ t.vault = false ∨ t.root = false ∨ t.selfTest = false ∨ t.firmware = true then s
    else
      let s := ({ s with ident := { s.ident with devCert := dev } } : State).raiseIf (!dev) 517 (vaultArg 0xB0000 0)
      let k := s.keeper.wdCount
      let e := s.ident.fwesc
      let reads := fun (c : Nat) => if c = 0 then a else if c = 1 then b else g
      let open_ := (liveIntents s.vault.intents).any (fun i => decide (i.kind = 7 ∧ i.chan = 8)) && s.ident.fwCopies.any (fun x => decide (x.2 = 2))
      let gold := s.fwVerifies 2 g && !open_
      let pref := s.ident.preferred
      let good := fun (c : Nat) => (s.ident.fw c).confirmed && s.fwVerifies c (reads c)
      if e ≠ 0 ∧ 2 * e ≤ k then s.romService
      else if e ≠ 0 ∧ e ≤ k then
        if gold then ((s.enterRecover 8).raise 528 (fwArg 2)).startFirmware 2 else s.romService
      else if good pref then s.startFirmware pref
      else if good (1 - pref) then (s.startFirmware (1 - pref)).rewriteCopies [(1 - pref, pref)]
      else if gold then (s.startFirmware 2).rewriteCopies [(2, 0), (2, 1)]
      else s.romService)

/-! ## Channel bring-up (R45, R119, R120, R136) -/

/-- The place of a part's pattern page: the last page of its highest erase unit that no extent maps (R120). -/
def State.patternPage (s : State) (n : Ch) (k : PartId) : Option Nat :=
  let p := (s.chan n).prt k
  let u := max 1 (p.unit / 4096)
  (topFreeUnit (s.extents n) k.val u (2 ^ p.sizeLog / 4096)).map (fun i => (i + 1) * u - 1)

/-- The pattern page is programmed where it reads erased (R120). -/
def State.writePattern (s : State) (n : Ch) (k : PartId) (erased : Bool) : State :=
  match erased, s.patternPage n k with
  | true, some pg => s.flash n k .program (beBytes 4 (4096 * pg)) 256 Config.eyePattern
  | _, _ => s

/-- A part of a channel identified and trained (R119, R120, R122). The Bool says that it is usable: of the size DPARTk.SIZE names, and
not FAILED. -/
def State.bringPart (s : State) (n : Ch) (k : PartId) (f : Option PartFound) : State × Bool :=
  let size := fld (s.cfg (fch n (0xC8 + 4 * k.val))) 5 0
  if size = 0 then (s, true)
  else
    match f.bind (fun x => x.sfdp.map (fun d => (x, d))) with
    | none => ((s.updPart n k (fun p => { p with mismatch := true })).raiseCh n 27 0, false)
    | some (x, d) =>
      if d.sizeLog ≠ size then ((s.updPart n k (fun p => { p with mismatch := true, sizeLog := d.sizeLog })).raiseCh n 27 0, false)
      else
        match trainedSclk x.train (s.stepsOf n k) with
        | none => (s.partFailed n k, false)
        | some hz =>
          if x.stuck then (((s.raiseCh n 26 0).exception true (64 * n.val + 26)).partFailed n k, false)
          else
            let s := s.updPart n k (fun p => { p.train x.train hz with
              present := true, unit := d.erases.headD 0, erases := d.erases, canSuspend := d.canSuspend
              progInErase := d.progInErase, times := d.times, sizeLog := d.sizeLog })
            (((s.cnt n 44 1).writePattern n k x.erased).raiseDrops x.train (64 * n.val + 28), true)

/-- The active copy of an enabled slot verified and its anchors loaded (R135, R136). -/
def State.bringSlot (s : State) (n : Ch) (k : SlotId) (f : SlotFound) : State × Bool :=
  if s.slotEnabled n k = false then (s, true)
  else
    let copy := s.actCopy n k
    let c := match f.man with | some m => s.manCheck n k copy m | none => 1
    let c := if c = 0 ∧ (f.rootOk = false ∨ f.anchors = false) then 7 else c
    match c, f.man with
    | 0, some m => (((s.updSlot n k (fun z => z.setMan copy (some m))).loadAnchors n k copy m.npages), true)
    | c, _ => (s.raiseCh n (manEvent c) (chArg 0 0 copy k.val), false)

/-- The bring-up of a channel has ended. -/
def State.broughtEnd (s : State) (n : Ch) (good : Bool) : State :=
  let s : State := { s with plat := { s.plat with boot := { s.plat.boot with brought := n.val :: s.plat.boot.brought } } }
  s.updChan n (fun c => { c with brought := good })

/-- CHANNEL_BRINGUP (R45, R46, R119, R120, R136): the parts on CS0 and CS1 and the four slots as found. A part that does not
identify, match or train ends the bring-up with the agent HELD; slots that fail send the agent through DECANTING into
REIMAGING. After a second fault of the PKU the channel waits for its bring-up still (R318). -/
def execChannelBringup (n : Ch) (p0 p1 : Option PartFound) (s0 s1 s2 s3 : SlotFound) (s : State) : Host.Outcome State Fault Refusal :=
  .next (if s.powered = false ∨ s.plat.mode = .lockdown ∨ s.plat.fwRuns = false ∨ s.policyApplied = false ∨ s.enabled n = false ∨
      s.plat.boot.brought.contains n.val = true then s
  else
    let a := s.bringPart n 0 p0
    let b := if a.2 then a.1.bringPart n 1 p1 else a
    if b.2 = false then b.1.broughtEnd n false
    else
      let v := (b.1.afterTraining n).pkuRun
      let s := v.1
      if v.2 = false then s else
      let r := ([((0 : SlotId), s0), (1, s1), (2, s2), (3, s3)]).foldl (fun (x : State × List Nat) f =>
        let y := x.1.bringSlot n f.1 f.2
        (y.1, if y.2 then x.2 else x.2 ++ [f.1.val])) (s, [])
      let s := (r.1.broughtEnd n true).raiseIf (decide (r.2 = [])) (64 * n.val + 32) 0
      let s := s.tryDecant n
      if r.2 ≠ [] ∧ (s.chan n).st = .decanting then s.enterReimaging n r.2 0 false else s)

/-! ## Exit checks and mode requests (R41, R45, R172, R282) -/

/-- Bring-up of every enabled channel has ended. -/
def State.allBrought (s : State) : Bool := allCh.all (fun n => !s.enabled n || s.plat.boot.brought.contains n.val)

/-- What HOLD waits for before VERIFY (R41, R45). -/
def State.exitReady (s : State) : Bool :=
  decide (s.plat.mode = .hold) && s.policyApplied && s.plat.fwRuns && s.regs.cur.isNone && s.allBrought

/-- VERIFY is entered from HOLD: the sequencer's main program starts (R45, R172). -/
def State.enterVerify (s : State) : State :=
  (s.setMode .verify 4).seqStart

/-- The agents of a RECOVER_PLATFORM are Decanted or QUARANTINED (R282). -/
def State.recoveredAgents (s : State) : Bool :=
  allCh.all (fun n => !s.ident.recAgents.contains n.val || decide ((s.chan n).st = .quarantined ∨ (s.chan n).st = .disabled ∨ (s.chan n).st = .released) ||
    (decide ((s.chan n).st = .decanting ∨ (s.chan n).st = .held) && (s.chan n).setRes))

/-- What the state shows of R282's restoration, by the cause of RECOVER. -/
def State.restoreReady (s : State) : Bool :=
  decide (s.plat.mode = .recover) &&
    (match s.plat.cause with
     | 9 => s.cellar.testDone
     | 0xA => s.policyApplied && s.totalFits
     | 0xB => s.recoveredAgents
     | 0x16 => !s.vault.parts[0].failed && (liveIntents s.vault.intents).isEmpty
     | _ => false)

/-- EXIT_CHECKS (R41, R45, R282): in HOLD, the exit checks end; `ok` where they pass. In RECOVER, the checks of its restoration; a
ledger self-check that fails there is fatal (R53). -/
def execExitChecks (ok : Bool) (s : State) : Host.Outcome State Fault Refusal :=
  .next (if s.exitReady then (if ok then s.enterVerify else s)
  else if s.restoreReady ∧ (s.plat.cause = 9 ∨ s.plat.cause = 0xB) then
    if ok then s.platformRestored else if s.plat.cause = 9 then s.fatalLedger else s
  else s)

/-- A mode request by internal firmware (R41): a transition of the table whose event holds is made; LOCKDOWN and SHELF are the
hardware's alone; any other request is ignored with EV768 at severity 4. -/
def State.modeWrite (s : State) (m cause : Nat) : State :=
  if s.plat.fwRuns = false ∧ s.plat.romsvc = false then s
  else
    match s.plat.mode, m with
    | .hold, 2 => if s.exitReady ∧ cause = 4 then s.enterVerify else s.raiseAt 768 4 (m + 256 * cause)
    | .hold, 4 => if cause = 6 then s.romService else if cause = 7 ∨ cause = 8 then s.enterRecover cause else s.raiseAt 768 4 (m + 256 * cause)
    | .verify, 3 =>
      if cause = 5 ∧ allCh.all (fun n => !s.enabled n || decide ((s.chan n).st = .released)) = true then s.setMode .guard 5
      else s.raiseAt 768 4 (m + 256 * cause)
    | .verify, 4 => if cause = 9 then s.ledgerRecover else if [0xA, 0xB, 0xE, 0x16].contains cause then s.enterRecover cause else s.raiseAt 768 4 (m + 256 * cause)
    | .guard, 4 => if cause = 9 then s.ledgerRecover else if [0xA, 0xB, 0xE, 0x16].contains cause then s.enterRecover cause else s.raiseAt 768 4 (m + 256 * cause)
    | .recover, 2 => if cause = 0xC ∧ s.restoreReady = true then s.platformRestored else s.raiseAt 768 4 (m + 256 * cause)
    | .recover, 1 => if cause = 0xC then s.deviceRestart 0xC 0x20#32 true else s.raiseAt 768 4 (m + 256 * cause)
    | _, _ => s.raiseAt 768 4 (m + 256 * cause)

/-- The cause a write of PLAT.MODE.MODE alone stands for: the register has no field to name it (R41, R43). -/
def State.modeCause (s : State) (m : Nat) : Nat :=
  match s.plat.mode, m with
  | .hold, 2 => 4
  | .hold, 4 => 7
  | .verify, 3 => 5
  | .verify, 4 => 0xB
  | .guard, 4 => 0xB
  | _, _ => 0xC

/-- MODE_WRITE (R41): a request with the cause firmware gives. -/
def execModeWrite (m cause : Nat) (s : State) : Host.Outcome State Fault Refusal :=
  .next (if s.powered then s.modeWrite (m % 8) (cause % 256) else s)

/-- OWN_FIRMWARE_FAULT (R41, R289): no live fallback: RECOVER with CAUSE 0x0E, and the vault golden firmware runs. -/
def execOwnFirmwareFault (s : State) : Host.Outcome State Fault Refusal :=
  .next (if (s.plat.mode ≠ .verify ∧ s.plat.mode ≠ .guard) ∨ s.plat.fwRuns = false ∨ s.ident.hand.isSome = true then s
  else
    let s := s.enterRecover 0xE
    let p := s.ident.fwGold.pkg
    let v := match p with | some p => p.version | none => 0
    let s := match p with | some p => s.deriveL0 p p | none => s
    ({ s with ident := { s.ident with runCopy := 2, wver := v, sver := v } } : State).platChange)

/-! ## Intent records found at start (R57, R118, R290) -/

/-- The record of an update found at start (R118). `ok` is the second verification of staging; `m` the manifest of the copy that the
record names. A flip that was pending takes effect; an image being confirmed is rolled back; a rollback commits the old ACT; a burn goes
on to the Vintage in ARG. -/
def State.resumeUpdate (s : State) (n : Ch) (k : SlotId) (i : Intent) (m : Manifest) (ok : Bool) : State :=
  let up : Update := { man := m, flipNow := false, step := i.step, nsteps := i.nsteps, fails := 0, oldAct := decide (s.actCopy n k = 2), hb := 0, windowOpen := false }
  let set := fun (u : Upd) (up : Update) => s.updSlot n k (fun z => { z with upd := u, up := some up })
  match i.kind, i.state with
  | 1, _ =>
    if ok = false then (s.updSlot n k (fun z => { z with upd := .idle, inactValid := false, up := none, locked := false })).intent 1 n.val k.val 2 i.step i.nsteps i.src i.dst i.arg
    else if i.nsteps ≤ i.step then
      (((s.intent 1 n.val k.val 1 i.step i.nsteps i.src i.dst i.arg).updSlot n k (fun z =>
        { z with upd := .flipPending, up := some up, actWait := true }))).applyActs n
    else (set .copying up).updSlot n k (fun z => { z with locked := true })
  | 2, 3 => (((set .confirming { up with oldAct := !up.oldAct }).resetSlot n k).applyActs n)
  | 2, _ =>
    if i.nsteps = 2 then
      ((set .rollingBack up).updSlot n k (fun z => { z with inactValid := false, actWait := decide (s.actCopy n k - 1 ≠ i.arg) })).applyActs n
    else if s.actCopy n k - 1 = i.arg then
      (set .confirming { up with oldAct := !up.oldAct }).intent 2 n.val k.val 3 1 1 i.src i.dst i.arg
    else ((set .flipPending up).updSlot n k (fun z => { z with actWait := true })).applyActs n
  | _, _ => set .burning { up with man := { m with vintage := i.arg } }

/-- A slot's record resumed once; a changed active copy is Decanted anew (R44, R118). -/
def State.resumeSlot (s : State) (n : Ch) (k : SlotId) (i : Intent) (m : Manifest) (ok : Bool) : State :=
  if ((s.chan n).slot k).upd ≠ .idle then s
  else
    let u := s.resumeUpdate n k i m ok
    if (u.chan n).st = .decanting ∧ u.actCopy n k ≠ s.actCopy n k then u.startDecant n else u

/-- A sector refresh found open goes on from its last completed step, from the vault refresh buffer (R123). -/
def State.resumeRefresh (s : State) (n : Ch) (k : SlotId) (i : Intent) : State :=
  let part : PartId := ⟨i.dst % 2, Nat.mod_lt _ (by decide)⟩
  let unit := i.dst / 4096 * 4096 / max 4096 ((s.chan n).prt part).unit
  s.updPart n part (fun p => { p with refresh := some (k, unit, i.step) })

/-- RECOVER entered again after a power failure in RECOVER (R57). -/
def State.recoverAgain (s : State) : State :=
  match s.plat.lastRec with
  | some r => if r.mode = 4 ∧ (s.plat.mode = .hold ∨ s.plat.mode = .verify ∨ s.plat.mode = .guard) then s.setMode .recover r.cause else s
  | none => s

/-- A recovery found open (R57): RECOVER is entered again where the power failed in it, and the recovery goes on from its last completed
step, from the golden copy or the vault's image as the record's source says; of a streamed image the source is asked again. -/
def State.resumeRecovery (s : State) (n : Ch) (k : SlotId) (i : Intent) (m : Manifest) : State :=
  let s := s.recoverAgain
  if (s.chan n).st ≠ .decanting then s
  else
    let job := s.newRec n [k.val] 0 false
    let src := if i.src = 0 then 0 else if 2 ≤ i.src % 16 then 3 else 2
    s.reimage n (if src = 0 then { job with source := 3 } else { job with source := src, st := .writing, step := i.step, man := some m })

/-- INTENT_RESUME (R57, R118, R123, R290): an open record found at start is resumed, or rolled back, once its part is no longer busy,
EV515. A repair's record is closed as rolled back, since Decanting or Racking finds its pages again (R160). With no Rootstock every
record is left untouched (R297). -/
def execIntentResume (kind : Nat) (chan slot : Nat) (m : Manifest) (ok : Bool) (s : State) : Host.Outcome State Fault Refusal :=
  .next (match (liveIntents s.vault.intents).find? (fun i => decide (i.kind = kind ∧ i.chan = chan ∧ i.slot = slot)) with
    | none => s
    | some i =>
      if s.powered = false ∨ s.plat.mode = .lockdown ∨ s.plat.fwRuns = false ∨ s.journalKey = none then s
      else
        let back := fun (s : State) => s.intent i.kind chan slot 2 i.step i.nsteps i.src i.dst i.arg
        let t :=
          if h : chan < 8 then
            let n : Ch := ⟨chan, h⟩
            let k : SlotId := ⟨slot % 4, Nat.mod_lt _ (by decide)⟩
            match kind with
            | 7 => if (s.chan n).st = .reimaging ∨ (s.recOf n).isSome then s else (s.raise 515 (vaultArg 0x20000 0)).resumeRecovery n k i m
            | 5 => if allParts.any (fun q => ((s.chan n).prt q).refresh.isSome) then s else (s.raise 515 (vaultArg 0x20000 0)).resumeRefresh n k i
            | 1 => (s.raise 515 (vaultArg 0x20000 0)).resumeSlot n k i m ok
            | 2 => (s.raise 515 (vaultArg 0x20000 0)).resumeSlot n k i m ok
            | 3 => (s.raise 515 (vaultArg 0x20000 0)).resumeSlot n k i m ok
            | _ => back (s.raise 515 (vaultArg 0x20000 0))
          else if kind = 3 ∨ kind = 7 then s.raise 515 (vaultArg 0x20000 0)
          else back (s.raise 515 (vaultArg 0x20000 0))
        t.vaultRestored)

/-! ## Device restart (R49, R50) -/

/-- DEVICE_RESTART (R49, R50): with a cause a restart has; by a watchdog or monitor the journal is not flushed. -/
def execDeviceRestart (cause : Nat) (s : State) : Host.Outcome State Fault Refusal :=
  .next (match cause with
    | 1 => s.deviceRestart 1 0x4#32 false
    | 2 => s.deviceRestart 2 0x8#32 true
    | 3 => s.deviceRestart 3 0x10#32 true
    | 0xC => s.deviceRestart 0xC 0x20#32 true
    | 0xD => s.deviceRestart 0xD 0x40#32 true
    | _ => s)

end Sys2Proof.Machine
end

