-- ==== Sys2Proof/Machine/HostLink.lean ====
section
/-! DEFINITION. Machine/HostLink.lean: the PCIe function, doorbells and entry fetch (R47, R219 to R252). -/

namespace Sys2Proof.Machine

/-! ## Pended messages (R238) -/

/-- The pended message of one vector is sent where nothing masks it. -/
def State.flushVec (s : State) (v : Nat) : State :=
  if h : v < 64 then
    let e := s.host.vecs[v]
    if e.pending = false ∨ e.masked = true ∨ s.host.funcMask = true ∨ s.host.msixEn = false ∨ s.busOk = false then s
    else ({ s with host := { s.host with vecs := s.host.vecs.set v { e with pending := false } } } : State).msi v
  else s

/-- Every pended message that can go is sent. -/
def State.flushMsi (s : State) : State := (List.range 64).foldl State.flushVec s

/-- What waited for the bus goes: completions, then messages (R238, R250). -/
def State.busBack (s : State) : State := s.flushCpl.flushMsi

/-! ## Resets of the PCIe block (R47, R51, R219, R224, R248) -/

/-- PLAT.RSTCAUSE.PERST set for every requester (R43, R248). -/
def State.notePerst (s : State) : State :=
  let f := fun (v : ReqView) => { v with rstcause := v.rstcause ||| 0x2#32 }
  { s with regs := { s.regs with host := f s.regs.host, side := f s.regs.side, int := f s.regs.int } }

/-- PERST_N_ASSERT (R21, R51, R224, R248): EV677. -/
def execPerstNAssert (s : State) : Host.Outcome State Fault Refusal :=
  .next (if s.powered = false ∨ s.plat.perstN = false then s
  else
    let s := s.hostGone.dropVdm.notePerst
    let s : State := { s with
      host := { startHost with retained := s.host.retained }
      plat := { s.plat with perstN := false }
      ctl := { s.ctl with urgHost := 0 } }
    s.raise 677 0)

/-- PERST_N_RELEASE (R47, R248): EV678. -/
def execPerstNRelease (s : State) : Host.Outcome State Fault Refusal :=
  .next (if s.powered = false ∨ s.plat.perstN = true then s
  else ({ s with plat := { s.plat with perstN := true } } : State).raise 678 0)

/-- FUNCTION_LEVEL_RESET (R21, R224, R248): at its start the link and its controls are kept, the rest of the function is as
PERST_N leaves it, EV684; `done` is its end, within 10 ms. -/
def execFunctionLevelReset (done : Bool) (s : State) : Host.Outcome State Fault Refusal :=
  .next (if s.powered = false ∨ s.host.linkUp = false then s
  else if done then { s with host := { s.host with flr := false } }
  else
    let s := s.hostGone.dropVdm
    let s : State := { s with
      host := { startHost with retained := s.host.retained, linkUp := true, speed := s.host.speed, width := s.host.width, flr := true }
      ctl := { s.ctl with urgHost := 0 } }
    s.raise 684 0)

/-- LINK_DOWN (R248): EV680. -/
def execLinkDown (s : State) : Host.Outcome State Fault Refusal :=
  .next (if s.powered ∧ s.host.linkUp then s.linkDown else s)

/-- LINK_TRAINED (R47, R219, R251): the link trains, or changes rate or width, where PERST_N is high and REFCLK runs: EV676. Speed
is 1 to 4, width 1, 2 or 4. -/
def execLinkTrained (speed width : Nat) (s : State) : Host.Outcome State Fault Refusal :=
  .next (if s.powered = false ∨ s.plat.perstN = false ∨ s.clk.refclkLost = true ∨ ¬(1 ≤ speed ∧ speed ≤ 4) ∨ ¬(width = 1 ∨ width = 2 ∨ width = 4) then s
  else
    let s := ({ s with host := { s.host with linkUp := true, speed := speed, width := width } } : State).raise 676 0
    s.busBack)

/-! ## Configuration space (R47, R220, R246, R247, R250) -/

/-- Work that Bus Master Enable pauses is pending (R250): commands fetched and not completed, completions not written. -/
def State.busWork (s : State) : Bool := !s.host.fetched.isEmpty || s.host.retained.any (fun r => !r.sent)

/-- Bus Master Enable cleared (R250): EV686 while work is pending. -/
def State.busOff (s : State) : State :=
  if s.host.bme = false then s
  else ({ s with host := { s.host with bme := false } } : State).raiseIf s.busWork 686 0

/-- The low half of BAR k, 64-bit and non-prefetchable: 64 KiB, 4 KiB, 64 KiB (R221). -/
def HostIf.barLow (h : HostIf) (k : Fin 3) : Nat :=
  let b := h.bars[k.val] % 2 ^ 32
  (if k = 1 then b / 0x1000 * 0x1000 else b / 0x10000 * 0x10000) + 4

/-- The code of a size of 128 × 2ᵏ bytes. -/
def sizeCode (bytes : Nat) : Nat := Nat.log2 (bytes / 128)

/-- A configuration register (R220, R221): its value, and the bits of it that the spec leaves open; 0 outside the listed structures.
PRESUMED: the places of the fields are those of the PCI Express Base Specification (log entry 67). -/
def State.configWord (s : State) (off : Nat) : Word × Word :=
  let id := leNat (s.unitidBytes.take 8)
  let h := s.host
  match off with
  | 0x00 => (0x96001F3D#32, 0#32)
  | 0x04 => (0x100000#32 ||| word (bitAt h.mse 1 + bitAt h.bme 2), 0xF9000540#32)
  | 0x08 => (0x108000B0#32, 0#32)
  | 0x0C => (0#32, 0xFF#32)
  | 0x10 => (word (h.barLow 0), 0#32)
  | 0x14 => (word (h.bars[0] / 2 ^ 32), 0#32)
  | 0x18 => (word (h.barLow 1), 0#32)
  | 0x1C => (word (h.bars[1] / 2 ^ 32), 0#32)
  | 0x20 => (word (h.barLow 2), 0#32)
  | 0x24 => (word (h.bars[2] / 2 ^ 32), 0#32)
  | 0x2C => (word s.life.ssShown, 0#32)
  | 0x34 => (0x40#32, 0#32)
  | 0x3C => (0#32, 0xFF#32)
  | 0x40 => (0x5001#32, 0x370000#32)
  | 0x44 => (0x8#32 ||| (if h.d3hot then 3#32 else 0#32), 0#32)
  | 0x50 => (0x3F6011#32 ||| word (bitAt h.funcMask 30 + bitAt h.msixEn 31), 0#32)
  | 0x54 => (0xC02#32, 0#32)
  | 0x58 => (0xA02#32, 0#32)
  | 0x60 => (0x20010#32, 0x3E000000#32)
  | 0x64 => (0x10000022#32, 0xFFC8FC0#32)
  | 0x68 => (word (2 ^ 5 * sizeCode h.mps + bitAt h.extTag 8 + 2 ^ 12 * sizeCode h.mrrs), 0x3F0E1F#32)
  | 0x6C => (0x844#32, 0xFFFFF000#32)
  | 0x70 => (word (2 ^ 16 * h.speed + 2 ^ 20 * h.width), 0xFC00FFFF#32)
  | 0x84 => (0x3000F#32, 0xFFFCFFF0#32)
  | 0x88 => (word (h.cto % 16 + bitAt h.tag10 12), 0xFFFFEFF0#32)
  | 0x8C => (0x1E#32, 0xFFFFFF01#32)
  | 0x90 => (0#32, 0xFFFFFFFF#32)
  | 0x14C => (word id, 0#32)
  | 0x150 => (word (id / 2 ^ 32), 0#32)
  | 0x17C => (0x1#32, 0xFFFFFFFE#32)
  | _ => (0#32, if (0x100 ≤ off ∧ off < 0x1CC) then 0xFFFFFFFF#32 else 0#32)

/-- CONFIG_REQUEST (R47, R220, R246, R247, R250): answered with Configuration Request Retry Status until the Steward firmware
runs and during an FLR; otherwise a read, or a write of a field. -/
def execConfigRequest (r : CfgReq) (s : State) : Host.Outcome State Fault Refusal :=
  .next (if s.powered = false ∨ s.plat.perstN = false ∨ s.host.linkUp = false then s
  else if (s.plat.fwRuns = false ∧ s.plat.romsvc = false) ∨ s.host.flr = true then s.emit .crs
  else
    match r with
    | .read off =>
      let w := s.configWord (off / 4 * 4)
      if w.2 = 0#32 then s.emit (.configValue off w.1) else s.bumpFree.emit (.configValue off (w.1 ||| (loHalf s.free &&& w.2)))
    | .bar k base => { s with host := { s.host with bars := s.host.bars.set k.val base } }
    | .mse on => { s with host := { s.host with mse := on } }
    | .bme on => if on then ({ s with host := { s.host with bme := true } } : State).busBack else s.busOff
    | .extTag on => { s with host := { s.host with extTag := on } }
    | .tag10 on => { s with host := { s.host with tag10 := on } }
    | .mps b => if [128, 256, 512].contains b then { s with host := { s.host with mps := b } } else s
    | .mrrs b => if [128, 256, 512, 1024, 2048, 4096].contains b then { s with host := { s.host with mrrs := b } } else s
    | .cto v => { s with host := { s.host with cto := v % 16 } }
    | .msixEn on => ({ s with host := { s.host with msixEn := on } } : State).flushMsi
    | .funcMask on => ({ s with host := { s.host with funcMask := on } } : State).flushMsi)

/-- BUS_MASTER_DISABLE (R250). -/
def execBusMasterDisable (s : State) : Host.Outcome State Fault Refusal :=
  .next (if s.powered ∧ s.host.linkUp then s.busOff else s)

/-- POWER_STATE_CHANGE (R250): D3hot entered or left; the return resets nothing. -/
def execPowerStateChange (d3 : Bool) (s : State) : Host.Outcome State Fault Refusal :=
  .next (if s.powered ∧ s.host.linkUp then
    (let s : State := { s with host := { s.host with d3hot := d3 } }
     if d3 then s else s.busBack)
  else s)

/-! ## MSI-X (R238, R252) -/

/-- MSIX_VECTOR_UNMASK (R238, R252): an MSI-X table entry is written; unmasked, its pending message is sent. -/
def execMsixVectorUnmask (v : Fin 64) (addr data : Nat) (masked : Bool) (s : State) : Host.Outcome State Fault Refusal :=
  .next (if s.reaches_ .host = false then s
  else
    let e := s.host.vecs[v.val]
    let s : State := { s with host := { s.host with vecs := s.host.vecs.set v.val { addr := addr, data := data, masked := masked, pending := e.pending && masked } } }
    if e.pending ∧ masked = false then s.msi v.val else s)

/-- MSIX_AGGREGATION_TIMEOUT (R238): AGGTIME after the first entry since the last message. -/
def execMsixAggregationTimeout (q : Nat) (s : State) : Host.Outcome State Fault Refusal :=
  .next (
    let c := s.qCfg q
    if s.powered = false ∨ qWritten q = false ∨ (s.queue q).st ≠ .running ∨ bit c 15 = false ∨ (s.queue q).unsig = 0 ∨ fld c 7 0 = 0 then s
    else (s.updQueue q (fun z => { z with unsig := 0 })).msi (fld c 21 16))

/-- RETENTION_ACK (R249): the data link layer has acknowledged the TLPs of the oldest completion of a queue that was written. -/
def execRetentionAck (q : Nat) (s : State) : Host.Outcome State Fault Refusal :=
  .next (match s.powered, s.host.retained.find? (fun r => decide (r.cq = q) && r.sent) with
    | true, some r => { s with host := { s.host with retained := s.host.retained.erase r } }
    | _, _ => s)

/-! ## Doorbells and entries (R228, R229, R233 to R235) -/

/-- A doorbell that is ignored: EV675 (R235). -/
def State.noBell (s : State) (q : Nat) : State := s.raise 675 (qArg q 0 0)

/-- A submission queue's doorbell (R235): a new tail. An INDEX at or above the ring size puts the queue in ERROR with CAUSE 5. -/
def State.sqBell (s : State) (q index : Nat) : State :=
  let i := index % 4096
  let z := s.queue q
  if qExists q = false ∨ z.st = .disabled then s.noBell q
  else if z.st ≠ .running ∨ i = z.bell then s
  else if s.qSize q ≤ i then s.qFail q .error 5
  else (s.updQueue q (fun z => { z with bell := i })).cntQ 210 1

/-- A device-written queue's doorbell (R235): a new head, between the old one, exclusive, and the write position, inclusive. -/
def State.cqBell (s : State) (q index : Nat) : State :=
  let i := index % 4096
  let z := s.queue q
  let n := s.qSize q
  if qExists q = false ∨ z.st = .disabled then s.noBell q
  else if z.st ≠ .running ∨ i = z.bell then s
  else if n ≤ i then s.qFail q .error 5
  else if (z.pos + n - z.bell) % n < (i + n - z.bell) % n then s.qFail q .error 6
  else (s.updQueue q (fun z => { z with bell := i })).cntQ 210 1

/-- SQ_DOORBELL (R235). -/
def execSqDoorbell (q index : Nat) (s : State) : Host.Outcome State Fault Refusal :=
  .next (if s.reaches_ .host = false ∨ qWritten q = true then s else s.sqBell q index)

/-- CQ_DOORBELL (R235). -/
def execCqDoorbell (q index : Nat) (s : State) : Host.Outcome State Fault Refusal :=
  .next (if s.reaches_ .host = false ∨ qSub q = true then s else s.cqBell q index)

/-- The opcodes of the admin queue (R239). -/
def adminOpcodes : List Nat :=
  [1, 2, 3, 4, 5, 6, 0x10, 0x11, 0x12, 0x13, 0x14, 0x15, 0x16, 0x17, 0x20, 0x21, 0x22, 0x23, 0x28, 0x29, 0x2A, 0x2B, 0x30, 0x31, 0x32, 0x33, 0x34]

/-- An opcode is known on its queue (R233, R243). -/
def opcodeOk (q opcode : Nat) : Bool := if q = 0 then adminOpcodes.contains opcode else decide (opcode = 0x80 ∨ opcode = 0x81)

/-- Fetched and uncompleted entries of a queue. -/
def State.unfinished (s : State) (q : Nat) : Nat := (s.host.fetched.filter (fun f => decide (f.q = q))).length

/-- The next entry of a submission queue may be fetched (R207, R226, R234, R250): it lies before the tail, and its completion queue
has room for it and every entry not completed; a seal queue stops with its list buffer full, at 64 unfinished entries, and with a
TAGCAP of 0. -/
def State.fetchable (s : State) (q : Nat) : Bool :=
  let z := s.queue q
  qSub q && s.busOk && decide (z.st = .running) && decide (z.pos ≠ z.bell) &&
    decide (s.unfinished q + (s.host.retained.filter (fun r => decide (r.cq = q + 1) && !r.sent)).length + 1 ≤ s.qFree (q + 1)) &&
    (decide (q = 0) || (decide (s.unfinished q < 64) && !(s.sealing.running && s.listFull) && decide (s.tagCap q ≠ 0)))

/-- The next queue in rotation whose entry may be fetched, over the 64 seal submission queues after the one last visited (R215). -/
def State.nextSq (s : State) : Option Nat :=
  ((List.range 64).map (fun i => 8 + (s.host.lastSq - 6 + 2 * i) % 128)).find? s.fetchable

/-- A queue's turn to be fetched: a seal submission queue's in round robin, one entry a visit (R215). -/
def State.fetchTurn (s : State) (q : Nat) : Bool := s.fetchable q && (decide (q = 0) || decide (s.nextSq = some q))

/-- ENTRY_FETCH (R215, R229, R233, R234): an entry is consumed where it is its queue's turn; an unknown opcode, FLAGS and the reserved
bytes are checked first. `reserved` is the offset of the first reserved byte that is not zero. -/
def execEntryFetch (q cid opcode flags : Nat) (reserved : Option Nat) (s : State) : Host.Outcome State Fault Refusal :=
  .next (if s.fetchTurn q = false then s
  else
    let s : State := if q = 0 then s else { s with host := { s.host with lastSq := q } }
    let f : Fetched := { q := q, cid := cid % 65536, opcode := opcode % 256, noint := flags.testBit 0, head := ((s.queue q).pos + 1) % s.qSize q, taken := false }
    let s := s.countRead 64
    let s := s.updQueue q (fun z => { z with pos := (z.pos + 1) % s.qSize q })
    let s : State := { s with host := { s.host with fetched := s.host.fetched ++ [f] } }
    if opcodeOk q (opcode % 256) = false then s.completeCmd f (reply .invalidOpcode)
    else if 1 < flags then s.completeCmd f (badField 1)
    else
      match reserved with
      | some b => s.completeCmd f (badField b)
      | none => s)

/-- MEMORY_READ_ERROR (R194, R206, R247): a memory read ends with UR, CA, poisoned data or a timeout: `kind` 1 to 4. -/
def execMemoryReadError (w : ReadFor) (kind : Nat) (s : State) : Host.Outcome State Fault Refusal :=
  .next (if s.powered = false ∨ s.host.linkUp = false ∨ ¬(1 ≤ kind ∧ kind ≤ 4) then s
  else
    let note := fun (s : State) (q cid : Nat) => (s.cntQ 215 1).raise (if kind = 4 then 682 else 681) (qArg q kind cid)
    match w with
    | .entry q => if s.fetchable q then (note s q 0).qFail q .error kind else s
    | .segment k =>
      (match s.stream k with
       | some x =>
         (match x.run with
          | some r =>
            let s := (note s r.seg.f.q r.seg.f.cid).raiseSeal 738 k
            let s := (s.segCredit k).failSeg r.seg .dmaError
            let y := { x with run := none }
            (s.setStream y).closeWaiting y
          | none => s)
       | none => s)
    | .verify q cid =>
      (match s.sealHead q cid 0x81 with
       | some f => ((note s q cid).raiseSeal 738 0).completeCmd f (reply .dmaError)
       | none => s)
    | .buffer cid op =>
      (match s.adminHead cid op with
       | some f => if s.serving ∧ s.adminAllowed op then (note s 0 cid).completeCmd f (reply .dmaError) else s
       | none => s)
    | .logCtl => if s.sealing.log.isSome then note s 0 0 else s)

end Sys2Proof.Machine
end

