-- ==== Sys2Proof/Machine/RegRead.lean ====
section
/-! DEFINITION. Machine/RegRead.lean: what every register reads as (Register Index, R424 to R428, and the field tables of the
home chapters). -/

namespace Sys2Proof.Machine

/-! ## Identity, lifecycle, firmware, policy, recovery, tamper (R292, R353, R354) -/

/-- A byte of the identity block (R336). -/
def State.idByte (s : State) (i : Nat) : Nat := (s.life.otp.ident.bytes.getD i 0#8).toNat

/-- The bits of the programmed slots of a digest list. -/
def progBits : List Nat → Nat
  | [] => 0
  | d :: r => b2n (decide (d ≠ 0)) + 2 * progBits r

/-- IDENT.LC1 (R353). A program operation is one command, so XFER reads 0 (log entry 8). -/
def State.lc1 (s : State) : Word :=
  let o := s.life.otp
  word (o.wEol.toNat + 2 ^ 16 * s.lifeCode + bitAt (partialWord o.wTest patTest) 21 + bitAt (partialWord o.wProd patProd) 22 +
    bitAt (partialWord o.wEol patEol) 23)

/-- IDENT.FWSTAT (R292). -/
def FwSt.code : FwSt → Nat
  | .idle => 0 | .downloading => 1 | .downloaded => 2 | .handover => 3 | .confirming => 4 | .burning => 5 | .goldcopy => 6

def State.fwstat (s : State) : Word :=
  let r := s.ident.runCopy
  let v := match s.runningPkg with | some p => p.vintage % 256 | none => 0
  word (2 ^ 24 * v + 2 ^ 16 * s.ident.fallbacks + 2 ^ 8 * s.ident.fwState.code + bitAt (decide (r = 2)) 2 +
    bitAt (decide (r < 3) && (s.ident.fw r).confirmed) 1 + b2n (decide (r = 1)))

/-- IDENT.POLSTAT (R292). -/
def State.polstat (s : State) : Word :=
  let v := match s.bundle with | some b => b.vintage % 256 | none => 0
  let k := match s.ident.applied with | some a => a.1 % 2 | none => 0
  word (2 ^ 24 * v + 2 ^ 16 * s.ident.polResult + 2 ^ 8 * s.ident.polReason + 4 * k + s.ident.polState % 4)

/-- The recovery IDENT.RECSTAT and RECREQ show: the first agent's whose source has been chosen. -/
def State.recShown (s : State) : Option RecJob := s.ident.recs.head?

/-- IDENT.RECSTAT (R292). -/
def State.recstat (s : State) : Word :=
  match s.recShown with
  | some j => word (2 ^ 28 * j.ch + 2 ^ 26 * j.slot.val + 2 ^ 23 * j.source + j.stream.held / 4 % 2 ^ 23)
  | none => 0xF0000000#32

/-- IDENT.RECREQ (R292): an open request of source 4 or 5. -/
def State.recreq (s : State) : Word :=
  match s.ident.recs.find? (fun j => decide (j.source = 4 ∨ j.source = 5) && decide (j.st = .streaming)) with
  | some j => word (2 ^ 31 + bitAt (decide (j.source = 5)) 30 + 2 ^ 27 * j.ch + 2 ^ 25 * j.slot.val +
      s.recSize ⟨j.ch % 8, Nat.mod_lt _ (by decide)⟩ j.slot / 4096 % 2 ^ 21)
  | none => 0#32

/-- IDENT.ATTEST (R292): MINVINT is the counter value an image of RECREQ's slot must meet. -/
def State.attest (s : State) : Word :=
  let m := match s.recShown with
    | some j => s.vintage (fld (s.cfg (0x1000 + 0x200 * j.ch + 0xB8 + 4 * j.slot.val)) 27 24)
    | none => 0
  word (2 ^ 16 * (s.ident.platGen % 65536) + 2 ^ 8 * (m % 256) + 16 * s.sessions + s.ident.conns.length % 16)

/-- IDENT, offsets 0x000 to 0x0FF; the 64-bit values are in `wide`. -/
def State.identWord (s : State) (q : Req) (off : Nat) : Word :=
  let o := s.life.otp
  let k := s.keeper
  let b := fun i => s.idByte i
  match off with
  | 0x00 => 0x96001F3D#32
  | 0x04 => word (0xB0 + 2 ^ 16 * (b 12 % 2))
  | 0x08 => word (o.wTest.toNat + 2 ^ 16 * o.wProd.toNat)
  | 0x0C => s.lc1
  | 0x10 => wordAt s.unitidBytes 0
  | 0x14 => wordAt s.unitidBytes 4
  | 0x18 => wordAt s.unitidBytes 8
  | 0x1C => wordAt o.ident.bytes 0
  | 0x20 => word (b 4 + 2 ^ 8 * b 5 + 2 ^ 16 * b 7 + 2 ^ 24 * b 8)
  | 0x24 => word (b 9 + 2 ^ 8 * b 10 + 2 ^ 16 * b 11 + 2 ^ 24 * b 6)
  | 0x28 => word (o.ssvid % 65536 + 2 ^ 16 * (o.ssid % 65536))
  | 0x2C => word (progBits o.owners + 2 ^ 8 * o.orev.toNat + 2 ^ 20 * progBits o.vendors + 2 ^ 24 * o.vrev.toNat)
  | 0x34 =>
    let v := s.vctr (fld (s.ownReg q 0x30) 3 0)
    word (vctrValue v + bitAt (vctrGap v) 31)
  | 0x38 => word (bitAt (s.life.debugOpen || decide (s.lifeCode = 0)) 31 + (if s.life.debugOpen then 2 ^ 29 * (s.life.scope % 4) + 2 ^ 26 * (s.life.role % 8) else 0) +
      bitAt (decide (s.lifeCode = 0) || (decide (s.lifeCode = 1) && s.life.debugOpen)) 25 + 2 ^ 8 * s.life.rejects + s.life.lastRej)
  | 0x3C => word (bitAt s.identOk 31 + bitAt (decide (o.written = 0xA5)) 30 + bitAt s.fusesBlown 29 + 2 ^ 16 * s.life.progFail)
  | 0x80 => s.fwstat
  | 0x84 => word s.ident.dl.held
  | 0xA0 => s.polstat
  | 0xA4 => s.ident.polFail
  | 0xA8 => s.recstat
  | 0xAC => s.recreq
  | 0xB0 => s.attest
  | 0xD0 => word (2 ^ 24 * (s.life.tampLvl % 256)) ||| (k.trip &&& 0xFFFFF#32)
  | 0xD4 => word (bitAt k.tlHolding 31 + 2 ^ 28 * (k.tlClass % 8) + 2 ^ 16 * (k.tlSource % 32) + k.tlTrips % 65536)
  | _ => 0#32

/-! ## COMMIT, PLAT, EVT, REC, WDT and CNT (R23, R43, R55, R187, R188, R378 to R380, R401) -/

/-- COMMIT (R23). -/
def State.commitWord (s : State) (q : Req) (off : Nat) : Word :=
  let v := s.view q
  match off with
  | 0x104 => s.regs.gen
  | 0x108 => s.ownReg q 0x108
  | 0x10C => s.stagedMask q
  | 0x114 => word (2 ^ 8 * v.result.code + bitAt (s.commitWaiting q) 2 + bitAt v.refused 1 + bitAt (s.commitBusy q) 0)
  | 0x118 => v.lastMask
  | 0x11C => v.failGrp
  | _ => 0#32

/-- The 32 bytes of a last-mode record (R55). -/
def LastRec.bytes (r : LastRec) : List Byte :=
  let b := leBytes 4 r.seq ++ leBytes 1 r.mode ++ leBytes 1 r.cause ++ leBytes 1 r.lifecycle ++ leBytes 1 r.flags ++
    leBytes 8 r.rtc.toNat ++ leBytes 4 (r.agents % 2 ^ 24) ++ leBytes 4 r.commitGen ++ leBytes 4 r.policyId
  b ++ wordBytes (crc32 b)

/-- PLAT.MODE (R43). -/
def State.modeReg (s : State) : Word :=
  let p := s.plat
  word (bitAt p.lastValid 28 + bitAt (!p.haltN) 27 + bitAt (s.life.debugOpen || decide (s.lifeCode = 0)) 26 + bitAt p.romsvc 25 +
    bitAt p.awaitPolicy 24 + 2 ^ 16 * p.prev.code + 2 ^ 8 * p.cause + p.mode.code)

/-- The ball level of a PC_OUT pin: what it drives, where it drives without a mismatch; otherwise the board's, which is free
(R169, R187; log entry 2). -/
def State.pcOutLevel (s : State) (k : Nat) : Bool :=
  match s.pinDrive k with
  | some l => if (s.sticky (mismatchBit k).1 &&& (mismatchBit k).2) = 0#32 then l else s.free.getLsbD k
  | none => s.free.getLsbD k

/-- PLAT.SEQSTAT (R187). -/
def State.seqstat (s : State) : Word :=
  let c := s.ctl
  let sub := match c.prog with | some p => p.sub.getD 15 | none => 15
  let pc := match c.prog with | some p => p.pc % 256 | none => 0
  word (bitAt c.prog.isSome 31 + bitAt c.done 30 + bitAt c.failed 29 + 2 ^ 26 * (c.stage % 8) + 2 ^ 16 * pc + 2 ^ 12 * (sub % 16) +
    c.failpc % 256)

/-- PLAT.AGTSTATn (R187). -/
def State.agtstat (s : State) (n : Ch) : Word :=
  let a := s.agt n
  word (2 ^ 20 * (a.qcause % 16) + bitAt a.halt 19 + bitAt a.stop 18 + bitAt (s.ctl.requests.contains n.val) 17 +
    2 ^ 8 * (a.qcount % 256) + a.wdrst % 256)

/-- The channel an offset of a table of eight registers, `stride` apart, belongs to. -/
def chAt (base stride off : Nat) : Ch := ⟨(off - base) / stride % 8, Nat.mod_lt _ (by decide)⟩

/-- PLAT, offsets 0x200 to 0x3FF, live registers only; none where the register is a stored one. -/
def State.platWord (s : State) (q : Req) (off : Nat) : Option Word :=
  match off with
  | 0x200 => some s.modeReg
  | 0x204 => some (word s.agentWord)
  | 0x208 => some ((s.view q).rstcause &&& 0xFF#32)
  | 0x20C => some s.plat.holdTime
  | 0x210 => some s.plat.guardTime
  | 0x2E0 => some (word (((List.range 24).map (fun k => bitAt (s.pcOutLevel k) k)).sum) ||| s.sticky 0x2E0)
  | 0x2E4 => some (word (s.ctl.pcIn.toNat % 65536 + bitAt s.plat.haltN 16))
  | 0x2EC => some s.seqstat
  | 0x2FC => some (s.cfg (seqKey (fld (s.ownReg q 0x2F8) 7 0)))
  | 0x340 => some 0#32
  | 0x348 => some (word (2 ^ 16 * (s.ctl.urgSide % 65536) + s.ctl.urgHost % 65536))
  | _ =>
    if 0x220 ≤ off ∧ off < 0x240 then
      some (match s.plat.lastValid, s.plat.lastRec with | true, some r => wordAt r.bytes (off - 0x220) | _, _ => 0#32)
    else if 0x320 ≤ off ∧ off < 0x340 then some (s.agtstat (chAt 0x320 4 off))
    else none

/-- REC.STAT (R379). -/
def State.recStat (s : State) : Word :=
  let e := s.evt
  word (bitAt (e.ringFail || e.jFail) 31 + bitAt e.ringFail 30 + bitAt e.jFail 29 + bitAt s.keeper.lwValid 28 + e.ring.length % 8192)

/-- The pending count of a source (R357). -/
def State.pendOf (s : State) (src : Nat) : Nat :=
  match s.evt.pend.find? (fun p => p.src = src) with | some p => p.count | none => 0

/-- WDT.ASTATm (R188). -/
def State.astat (s : State) (n : Ch) : Word :=
  word (bitAt (s.wdRunning n) 31 + bitAt (s.agt n).warn 30 + bitAt (s.wdInWin n) 29 + s.wdElapsed n % 2 ^ 24)

/-- EVT, REC, WDT and CNT, offsets 0x400 to 0x7FF, live registers only; the 64-bit values are in `wide`. -/
def State.evtWord (s : State) (q : Req) (off : Nat) : Option Word :=
  let w := s.wd0
  match off with
  | 0x404 => some (s.cfg (routeKey (fld (s.ownReg q 0x400) 9 0)))
  | 0x500 => some 0#32
  | 0x508 => some s.recStat
  | 0x584 => some (word s.evt.jhead)
  | 0x600 => some ((w.cfg &&& 0x67FFFFFF#32) ||| word (bitAt w.locked 31))
  | 0x604 => some w.open_
  | 0x608 => some 0#32
  | 0x60C => some (word (bitAt w.locked 31 + bitAt w.warn 30 + bitAt s.wd0InWin 29 + bitAt w.served 28 + bitAt w.paused 27 +
      s.wd0Elapsed % 2 ^ 24))
  | 0x610 => some (word (2 ^ 8 * (s.keeper.lastCause % 8) + s.keeper.wdCount % 256))
  | 0x614 => some (word (2 ^ 16 * w.early + w.wrongKey))
  | 0x714 => some (word (((List.range 8).map (fun n => bitAt (s.cntr.ovf.any (fun i => decide (i < 0x80 ∧ i / 16 = n))) n)).sum))
  | 0x718 => some (word (((List.range 32).map (fun g => bitAt (s.cntr.ovf.any (fun i => decide (0x100 ≤ i ∧ (i - 0x100) / 8 = g))) g)).sum))
  | _ =>
    if 0x524 ≤ off ∧ off < 0x544 then some (storeGet zeroDefault (s.view q).sample off)
    else if 0x544 ≤ off ∧ off < 0x564 then some (word (s.evt.suppr.getD ((off - 0x544) / 4) 0))
    else if 0x564 ≤ off ∧ off < 0x584 then some (s.keeper.lw.getD ((off - 0x564) / 4) 0#32)
    else if 0x680 ≤ off ∧ off < 0x700 ∧ off % 16 = 8 then some (s.astat (chAt 0x688 16 off))
    else if 0x680 ≤ off ∧ off < 0x700 ∧ off % 16 = 12 then some 0#32
    else none

/-! ## HOSTQ and the channels (R97, R125, R165, R253) -/

def QState.code : QState → Nat
  | .disabled => 0 | .running => 1 | .error => 2 | .fault => 3

/-- HOSTQ.STAT[q] (R253). -/
def State.qStat (s : State) (q : Nat) : Word :=
  let z := s.queue q
  word (2 ^ 30 * z.st.code + 2 ^ 16 * (z.cause % 256) + bitAt (qWritten q && z.phase) 12 + z.pos % 4096)

/-- FCHn.SLOTk (R125); VINT is the Vintage of the active copy. -/
def State.slotWord (s : State) (n : Ch) (k : SlotId) : Word :=
  let z := (s.chan n).slot k
  let vint := match z.man (s.actCopy n k) with | some m => m.vintage | none => 0
  word (2 ^ 24 * (vint % 256) + 2 ^ 16 * (z.progress % 256) + 2 ^ 12 * z.upd.code + bitAt z.goldValid 7 + bitAt z.inactValid 6 +
    bitAt (decide (z.upd = .flipPending)) 5) ||| (s.cfg (slotReg n k) &&& 0x10#32)

/-- FCHn.DPARTk (R125). -/
def State.dpartWord (s : State) (n : Ch) (k : PartId) : Word :=
  let p := (s.chan n).prt k
  s.cfg (fch n (0xC8 + 4 * k.val)) |||
    word (bitAt p.present 31 + bitAt p.failed 30 + bitAt (s.exposed n k) 29 + bitAt p.mismatch 28)

/-- FCHn.DTRAINk (R125). -/
def Part.trainWord (p : Part) : Word :=
  word (2 ^ 24 * (p.window % 256) + 2 ^ 16 * (p.tap % 256) + 2 ^ 8 * (p.temp % 256) + p.sclk % 256)

/-- A DLAT register: the command latencies of CS1 and CS0. -/
def dlatWord (a b : Part) : Word := word (a.dlat % 4096 + 2 ^ 16 * (b.dlat % 4096))

/-- FCHn.TSTAT (R165). DESIGN CHOICE: SETRES and SETPCT keep their reset value 0 while the agent is DISABLED; from then on an empty
pinned set reads as complete (log entry 64). -/
def State.tstat (s : State) (n : Ch) : Word :=
  let c := s.chan n
  let set := s.pinnedSet n
  let on := decide (c.st ≠ .disabled)
  let pct := if on = false then 0 else if set = 0 then 100 else min 100 (s.pinnedHeld n * 100 / set)
  word (bitAt c.vslow 31 + bitAt c.nofit 30 + bitAt (on && s.setResident n) 29 + 2 ^ 16 * pct + c.vworst % 65536)

/-- FCHn.RACKPOS (R165). -/
def Cursor.word (c : Cursor) : Word :=
  Sys2Proof.Machine.word (2 ^ 29 * (c.copy % 8) + 2 ^ 27 * (c.slot % 4) + bitAt c.metaPages 26 + 2 ^ 16 * (c.share % 256) + c.span % 2 ^ 14)

/-- FCHn.BADDATA (R165): entry i of the known-bad list. -/
def Chan.badWord (c : Chan) (i : Nat) : Word :=
  match c.bad[i]? with
  | some p => word (2 ^ 31 + 2 ^ 27 * p.slot.val + p.page % 2 ^ 20)
  | none => 0#32

/-- The FCHn block at block offset `o`, live registers only; the 64-bit values are in `wide`. -/
def State.fchWord (s : State) (q : Req) (n : Ch) (o : Nat) : Option Word :=
  let c := s.chan n
  let p := c.port
  let ti := fun (r : Nat) => s.ownReg q (fch n r)
  match o with
  | 0x00 => some (s.aport n)
  | 0x3C => some (s.opWord n (fld (ti 0x38) 7 0))
  | 0x44 => some (s.sfdpWord n (fld (ti 0x40) 7 0))
  | 0x48 => some (s.estat n)
  | 0x4C => some (s.missLatReg n)
  | 0x60 => some (word p.synth)
  | 0x64 => some (word p.underruns)
  | 0x68 => some (word p.refusals)
  | 0x6C => some (word p.blocks)
  | 0x70 => some (word p.hbok)
  | 0x74 => some (word p.hbbad)
  | 0x84 => some (s.cfg (stKey n.val (fld (ti 0x80) 5 0) 0))
  | 0x88 => some (s.cfg (stKey n.val (fld (ti 0x80) 5 0) 1))
  | 0x8C => some (s.cfg (stKey n.val (fld (ti 0x80) 5 0) 2))
  | 0x94 => some (s.cfg (rgKey n.val (fld (ti 0x90) 6 0) 0))
  | 0x98 => some (s.cfg (rgKey n.val (fld (ti 0x90) 6 0) 1))
  | 0x9C => some (s.cfg (rgKey n.val (fld (ti 0x90) 6 0) 2))
  | 0xA4 => some (s.cfg (fch n 0xA4) ||| word c.phase.code)
  | 0xA8 => some (s.slotWord n 0)
  | 0xAC => some (s.slotWord n 1)
  | 0xB0 => some (s.slotWord n 2)
  | 0xB4 => some (s.slotWord n 3)
  | 0xC8 => some (s.dpartWord n 0)
  | 0xCC => some (s.dpartWord n 1)
  | 0xD0 => some (c.prt 0).trainWord
  | 0xD4 => some (c.prt 1).trainWord
  | 0xD8 => some (dlatWord (c.prt 0) (c.prt 1))
  | 0xE0 => some (word ((c.prt 0).used % 65536 + 2 ^ 16 * ((c.prt 1).used % 65536)))
  | 0x104 => some (s.cfg (fch n 0x104) ||| word (2 ^ 16 * (c.resv % 65536)))
  | 0x108 => some (s.cfg (fch n 0x108) ||| word (2 ^ 16 * (s.channelHeld n.val % 32)))
  | 0x10C => some (s.tstat n)
  | 0x110 => some (word c.vpass)
  | 0x114 => some (word c.vfail)
  | 0x118 => some (word c.vlate)
  | 0x11C => some (word c.rackErr)
  | 0x120 => some c.cur.word
  | 0x124 => some (word c.cur.cycles)
  | 0x128 => some (word (2 ^ 24 * (s.graftHeldOf n % 256) + 2 ^ 16 * c.bad.length + min 0xFFFF c.repairsDone))
  | 0x12C => some c.failpg
  | 0x134 => some (c.badWord (fld (ti 0x130) 5 0))
  | 0x138 => some (word ((s.view q).vmax.getD n.val 0))
  | _ => none

/-! ## VAULT, CELLAR, SEAL, CRYPTO, AUX, SIDE, TLM and CLKPWR (R128, R166, R218, R325, R381, R402, R422, R423) -/

/-- SEAL.STAT.STATE (R207, R218). DEDUCED: KEY_WAIT goes before STALLED, and STALLED before OUTPUT_WAIT. -/
def State.sealState (s : State) : Nat :=
  if s.sealing.running = false then 0
  else if s.sealing.keyWait then 4
  else if 16 ≤ s.sealing.signed.length ∨ s.sealing.log = none ∨ s.listFull = true then 3
  else if s.sealing.signed.any (fun o => o.covered) ∧ s.sealGoes = none then 2
  else 1

/-- SEAL.STAT (R218). -/
def State.sealStat (s : State) : Word :=
  word (2 ^ 29 * s.sealState + bitAt s.keeper.rtcValid 28 + bitAt s.sealing.request.isSome 27 + bitAt s.sealing.accepted.isSome 26 +
    bitAt s.sealing.log.isSome 25 + s.openStreams % 2 ^ 13)

/-- ms since the last EPOCH record of the sealing journal (R218). -/
def State.lastMs (s : State) : Nat := match s.sealing.jAt with | some t => min 0xFFFF ((s.time - t) / 600000) | none => 0xFFFF

/-- CRYPTO.KEYS (R325). -/
def State.keysWord (s : State) : Word :=
  let n := fun (p : Nat → Bool) => ((List.range 128).filter p).length
  word (2 ^ 24 * n (fun i => decide ((s.cask i).st = .valid)) + 2 ^ 16 * n (fun i => decide (32 ≤ i) && (s.cask i).live) +
    2 ^ 8 * n (fun i => decide (32 ≤ i) && decide ((s.cask i).st = .empty)) + s.crypt.inval)

def EngineSt.code : EngineSt → Nat
  | .inService => 0 | .derated => 1 | .selfTest => 2 | .out => 3

/-- Two bits a unit, unit 0 lowest. -/
def unitBits : List EngineSt → Nat
  | [] => 0
  | e :: r => e.code + 4 * unitBits r

/-- Days since the last re-enrolment (R325). -/
def State.enrolDays (s : State) : Nat :=
  match s.crypt.enrolAt with | some t => min 255 ((s.rtcTicks - t) / (32768 * 86400)) | none => 255

/-- The OR of one bit for each number of a list. -/
def bitsFor (l : List Nat) : Word := l.foldl (fun a i => a ||| word (2 ^ i)) 0#32

/-- Offsets 0x2000 to 0x27FF, live registers only; the 64-bit values are in `wide`. -/
def State.midWord (s : State) (q : Req) (off : Nat) : Option Word :=
  let v := s.vault
  let p := fun (k : PartId) => v.parts[k.val]
  let c := s.cellar
  let r := s.crypt
  match off with
  | 0x2000 => some (word (2 ^ 24 * ((p 0).sclk % 256) + 2 ^ 18 * (v.size1 % 64) + 2 ^ 12 * (v.size0 % 64) +
      16 * (min 255 (liveIntents v.intents).length) + bitAt (p 1).failed 3 + bitAt (p 0).failed 2 + v.busMode % 4))
  | 0x2004 => some (word (2 ^ 8 * min 100 s.intentFill + min 100 (s.evt.journal.length * 100 / 32768)))
  | 0x2008 => some (dlatWord (p 0) (p 1))
  | 0x2200 => some (word (2 ^ 16 * s.frameCount .inflight + s.freeCount))
  | 0x2204 => some (word (2 ^ 16 * s.frameCount .pinned + s.frameCount .resident))
  | 0x2208 => some (word (2 ^ 22 * (c.idle.getD 31) + bitAt c.testing 21) ||| bitsFor c.out)
  | 0x220C => some (word (bitAt c.nofit 31 + bitAt c.testDone 30 + min 0xFFFF c.uncorr))
  | 0x2214 => some (s.cfg 0x2214 &&& 0xFFFF00#32 ||| word (s.creditsFree % 256))
  | 0x2218 => some (word c.harvests)
  | 0x2408 => some s.sealStat
  | 0x2414 => some (word s.sealing.run)
  | 0x2438 => some (word s.sealing.recProd)
  | 0x243C => some (word (2 ^ 16 * s.lastMs + s.sealing.signed.length % 256))
  | 0x2448 => some (word s.sealing.segFail)
  | 0x2600 => some (word (2 ^ 29 * (r.rootSt % 8) + 2 ^ 27 * (r.attempts % 4) + 2 ^ 24 * (r.source % 8) + 2 ^ 20 * (r.region % 16) +
      2 ^ 8 * (r.dlErr % 256) + r.sramErr % 256))
  | 0x2604 => some (word (2 ^ 24 * min 255 (r.helpers.filter (fun h => h.origin = 1)).length + 2 ^ 22 * (s.otpUsed % 4) + 2 ^ 8 * s.enrolDays + r.dlTrip % 16))
  | 0x2608 => some (word (2 ^ 16 * unitBits s.press.engines + 2 ^ 8 * unitBits r.lanes + bitAt r.pkuFault 1))
  | 0x260C => some (word (2 ^ 30 * (r.rngSt % 4) + 2 ^ 8 * (r.hfail % 256) + r.reseeds % 256))
  | 0x2614 => some s.keysWord
  | 0x2618 => some (word (if (s.cask 15).live then (s.cask 15).gen else 0))
  | 0x261C => some (word (2 ^ 24 * (min 100 (r.kjFill * 100 / 1636)) + 2 ^ 16 * min 255 r.kjMacFail + min 0xFFFF r.kjWrFail))
  | 0x2450 => some (storeGet zeroDefault (s.view q).sample off)
  | 0x2454 => some (storeGet zeroDefault (s.view q).sample off)
  | 0x2460 => some (storeGet zeroDefault (s.view q).sample off)
  | _ => if 0x2624 ≤ off ∧ off < 0x2644 then some (storeGet zeroDefault (s.view q).sample off) else none

/-- SIDE.STATp (R422). -/
def State.sideStat (s : State) (p : Nat) : Word :=
  let z := s.side.ports.toList.getD p startSbPort
  s.sticky (0x2A04 + 4 * p) ||| word (2 ^ 16 * (z.eid % 256) + bitAt z.dyn.isSome 15 + 2 ^ 8 * (z.dyn.getD 0 % 128) + 0x5C + s.side.addrSel % 4)

/-- The word of the latest telemetry record that a requester's TLM.IDX selects (R381). -/
def tlmKey (i : Nat) : Nat := 0x60000 + i

/-- Port ASa, live registers only, at an offset of its block (R423). -/
def State.asWord (s : State) (q : Req) (a o : Nat) : Option Word :=
  let p := s.auxPort a
  let i := fld (s.ownReg q (asReg a 0x10)) 8 0
  match o with
  | 0x08 => some 0#32
  | 0x0C => some (s.asStat a)
  | 0x14 => some (storeGet zeroDefault p.tx i)
  | 0x18 => some (s.rxWord a i)
  | 0x1C => some 0#32
  | 0x20 => some p.frx
  | _ => none

/-- CLKPWR.RING (R402): its reset value until the first measurement, 1 ms after the start; what it measures is free (log entry
2). -/
def State.ringWord (s : State) : Word := word (if s.cycles < 600000 then 10000 else s.free.toNat % 65536)

/-- Offsets 0x2800 to 0x2FFF, live registers only. -/
def State.lowWord (s : State) (q : Req) (off : Nat) : Option Word :=
  match off with
  | 0x288C => some (s.aux.gpioIn &&& 0xFFFF#32)
  | 0x28A4 => some (s.sticky 0x28A4 ||| word (2 * b2n s.haltScope + b2n s.observeScope))
  | 0x2A04 => some (s.sideStat 0)
  | 0x2A08 => some (s.sideStat 1)
  | 0x2C04 => some (word (leNat (bytesAt s.tlm.record 8 4)))
  | 0x2C0C =>
    let i := fld (s.ownReg q 0x2C08) 6 0
    some (if 119 < i then 0#32 else storeGet zeroDefault (s.view q).sample (tlmKey i))
  | 0x2E00 => some (s.sticky 0x2E00 ||| word (2 ^ 8 * (s.clk.lock.toNat % 32) + bitAt s.clk.keepSub 16))
  | 0x2E04 => some s.ringWord
  | 0x2E08 => some (word (2 ^ 16 * (s.clk.tempMax.toNat % 65536) + s.clk.tempNow.toNat % 65536))
  | _ => if 0x2800 ≤ off ∧ off < 0x2880 then s.asWord q ((off - 0x2800) / 0x40) (off % 0x40) else none

/-! ## 64-bit values (R25) -/

/-- A counter's 64 bits: the count in 47:0, OVF in bit 63 (R374, R380). -/
def State.counterWord (s : State) (i : Nat) : DWord :=
  if counterOk i then BitVec.ofNat 64 (natGet s.cntr.vals i % 2 ^ 48 + bitAt (s.cntr.ovf.contains i) 63) else 0#64

/-- The 64-bit value whose low half lies at an offset. -/
def State.wide (s : State) (q : Req) (off : Nat) : Option DWord :=
  let num := fun (n : Nat) => some (BitVec.ofNat 64 n)
  match off with
  | 0x88 => num s.ident.wver
  | 0x90 => num s.ident.sver
  | 0x98 => num (match s.bundle with | some b => b.version | none => 0)
  | 0xD8 => some s.keeper.tlTime
  | 0x214 => some s.keeper.shelfTime
  | 0x408 => num (s.pendOf (fld (s.ownReg q 0x400) 9 0) % 2 ^ 48)
  | 0x50C => num s.evt.nextNo
  | 0x514 => num s.evt.clearNo
  | 0x51C => num (s.view q).rdno
  | 0x70C => some (s.counterWord (fld (s.ownReg q 0x708) 8 0))
  | 0x221C => some s.cellar.harvTime
  | 0x240C => num s.epochNo
  | 0x2418 => some s.rtc
  | 0x2420 => num s.unc
  | 0x2428 => some s.sealing.bnew
  | 0x2430 => num s.sealing.listProd
  | 0x2440 => num s.sealing.bytes
  | 0x2458 => some (joinHalves (storeGet zeroDefault (s.view q).sample 0x245C) (storeGet zeroDefault (s.view q).sample 0x2458))
  | _ =>
    if 0x1000 ≤ off ∧ off < 0x2000 then
      let p := (s.chan (chAt 0x1000 0x200 off)).port
      if off % 0x200 = 0x50 then num p.srvCellar else if off % 0x200 = 0x58 then num p.srvRt else none
    else none

/-! ## Reads (R16, R24, R25, R425) -/

/-- A register that shows live state; none where it shows stored bits. -/
def State.liveWord (s : State) (q : Req) (off : Nat) : Option Word :=
  if off = 0x30 ∨ off = 0xC0 ∨ off = 0xC4 ∨ off = 0xC8 ∨ off = 0xCC ∨ off = 0xE0 then none
  else if 0xE4 ≤ off ∧ off < 0xF4 then some (storeGet zeroDefault (s.view q).sample off)
  else if off < 0x100 then some (s.identWord q off)
  else if off < 0x120 then some (s.commitWord q off)
  else if 0x200 ≤ off ∧ off < 0x400 then s.platWord q off
  else if 0x400 ≤ off ∧ off < 0x800 then s.evtWord q off
  else if 0x1CC ≤ off ∧ off < 0x200 ∧ off % 16 = 12 then some (s.qStat ((off - 0x1C0) / 16))
  else if 0x800 ≤ off ∧ off < 0x1000 ∧ off % 16 = 12 then some (s.qStat (8 + (off - 0x800) / 16))
  else if 0x1000 ≤ off ∧ off < 0x2000 then s.fchWord q (chAt 0x1000 0x200 off) (off % 0x200)
  else if 0x2000 ≤ off ∧ off < 0x2800 then s.midWord q off
  else if 0x2800 ≤ off ∧ off < 0x3000 then s.lowWord q off
  else none

/-- A stored register: the requester's own where it has one, else the active copy with its sticky bits; 0 where no register is
(R16, R425). -/
def State.storedWord (s : State) (q : Req) (off : Nat) : Word :=
  match regRow? off with
  | some r => if r.perReq then s.ownReg q off else if r.w1c ≠ 0#32 then s.cfg off ||| s.sticky off else s.cfg off
  | none => 0#32

/-- What a read of a register by a requester returns (R16, R25, R425). -/
def State.readWord (s : State) (q : Req) (off : Nat) : Word :=
  match s.wide q off with
  | some d => loHalf d
  | none =>
    match (if 4 ≤ off then s.wide q (off - 4) else none) with
    | some d => (stagedGet? (s.view q).latch (off - 4)).getD (hiHalf d)
    | none =>
      match s.liveWord q off with
      | some w => w
      | none => s.storedWord q off

/-! ## What a read does besides (R25, R364, R381 and the index registers) -/

/-- Words sampled for a requester, from a key on, `stride` apart. -/
def sampleWords (st : Store) (key stride : Nat) (ws : List Word) : Store :=
  (List.range ws.length).foldl (fun a i => storePut zeroDefault a (key + stride * i) (ws.getD i 0#32)) st

/-- `n` words of a structure. -/
def wordsOf (n : Nat) (bs : List Byte) : List Word := (List.range n).map (fun i => wordAt bs (4 * i))

def State.addSample (s : State) (q : Req) (key stride : Nat) (ws : List Word) : State :=
  s.setView q { s.view q with sample := sampleWords (s.view q).sample key stride ws }

/-- The record REC.RDATA shows: the stored one with the lowest RECNO ≥ RDNO (R364). The high half of its RECNO is kept beside it,
under the key 0x544. -/
def State.sampleRec (s : State) (q : Req) : State :=
  match s.ringFrom (s.view q).rdno with
  | r :: _ => s.addSample q 0x524 4 (wordsOf 8 (recBytes r) ++ [word (r.recno / 2 ^ 32)])
  | [] => s.addSample q 0x524 4 (List.replicate 9 0#32)

/-- The stream fields SEAL.STRDATA0 samples (R218). -/
def State.sampleStream (s : State) (q : Req) : State :=
  match s.stream (fld (s.ownReg q 0x244C) 11 0) with
  | some x =>
    let st := match x.st with | .closed => 0 | .open_ => 1 | .keylost => 2 | .fault => 3
    s.addSample q 0x2450 4
      [word (2 ^ 29 * st + bitAt x.enc 28 + 2 ^ 22 * (x.qpair % 64) + 2 ^ 17 * (x.weight % 32) + x.overlap % 2 ^ 17),
       word (2 ^ 16 * (x.gen % 65536) + min 0xFFFF x.queue.length), word x.seq, word (x.seq / 2 ^ 32), word x.attempt]
  | none => s.addSample q 0x2450 4 (List.replicate 5 0#32)

/-- The 32 bytes of a Cask entry (R301). -/
def Cask.entry (c : Cask) (i : Nat) : List Byte :=
  padTo 32 (leBytes 1 i ++ leBytes 1 c.st.code ++ leBytes 1 c.type ++ leBytes 1 c.parent ++ leBytes 4 c.label ++ leBytes 4 c.gen ++
    leBytes 4 c.pgen ++ leBytes 2 c.rights ++ leBytes 1 c.origin ++ leBytes 1 c.flags)

/-- What a read samples first: a record, a stream, a Cask entry, a tamper history record, a telemetry record (R218, R325, R354,
R364, R381). -/
def State.sampleFor (s : State) (q : Req) (off : Nat) : State :=
  if off = 0x524 then s.sampleRec q
  else if off = 0x2450 then s.sampleStream q
  else if off = 0x2624 then
    let i := fld (s.ownReg q 0x2620) 6 0
    s.addSample q 0x2624 4 (wordsOf 8 ((s.cask i).entry i))
  else if off = 0xE4 then s.addSample q 0xE4 4 (wordsOf 4 ((s.keeper.thist.getD (fld (s.ownReg q 0xE0) 2 0) []).flatMap wordBytes))
  else if off = 0x2C0C ∧ fld (s.ownReg q 0x2C08) 6 0 = 0 then s.addSample q (tlmKey 0) 1 (wordsOf 120 s.tlm.record)
  else s

/-- The index register that goes on after an access to a data register: its offset, AUTOINC bit and entries. -/
def indexAfter (off : Nat) : Option (Nat × Nat × Nat) :=
  if off = 0x40C then some (0x400, 16, 1024)
  else if off = 0x710 then some (0x708, 16, 512)
  else if off = 0x2FC then some (0x2F8, 8, 256)
  else if off = 0x2460 then some (0x244C, 12, 4096)
  else if off = 0x2640 then some (0x2620, 7, 128)
  else if off = 0xF0 then some (0xE0, 3, 8)
  else if off = 0x34 then some (0x30, 4, 16)
  else if off = 0x2C0C then some (0x2C08, 7, 120)
  else if off = 0x2814 ∨ off = 0x2818 then some (0x2810, 9, 512)
  else if off = 0x2854 ∨ off = 0x2858 then some (0x2850, 9, 512)
  else if 0x1000 ≤ off ∧ off < 0x2000 then
    let b := off / 0x200 * 0x200
    match off % 0x200 with
    | 0x3C => some (b + 0x38, 8, 256)
    | 0x44 => some (b + 0x40, 8, 256)
    | 0x8C => some (b + 0x80, 7, 64)
    | 0x9C => some (b + 0x90, 7, 128)
    | 0x134 => some (b + 0x130, 6, 64)
    | _ => none
  else none

/-- An access to a data register moves its index on. -/
def State.moveIndex (s : State) (q : Req) (off : Nat) : State :=
  match indexAfter off with
  | some (r, bit, n) => s.autoInc q r bit n
  | none => s

/-- What a read leaves (R25, R165, R364): the high half latched, RDNO and the index moved on, VMAX cleared, a free value used. -/
def State.afterRead (s : State) (q : Req) (off : Nat) : State :=
  let s := match s.wide q off with
    | some d => s.setView q { s.view q with latch := stagedPut (s.view q).latch off (hiHalf d) }
    | none => s
  let s := if off = 0x540 then
      let v := s.view q
      let no := (storeGet zeroDefault v.sample 0x524).toNat + 2 ^ 32 * (storeGet zeroDefault v.sample 0x544).toNat
      if no = 0 then s else s.setView q { v with rdno := no + 1 }
    else s
  let s := if 0x1000 ≤ off ∧ off < 0x2000 ∧ off % 0x200 = 0x138 then
      s.setView q { s.view q with vmax := (s.view q).vmax.set ((off - 0x1000) / 0x200) 0 }
    else s
  let s := if [0x2E0, 0x280C, 0x284C, 0x2818, 0x2858, 0x2E04].contains off then s.bumpFree else s
  s.moveIndex q off

/-- A register read by a requester: the value leaves toward it, with what the read does besides. -/
def State.busRead (s : State) (q : Req) (off : Nat) : State :=
  let s := s.sampleFor q off
  (s.emit (.regValue q off (s.readWord q off))).afterRead q off

end Sys2Proof.Machine
end

