-- ==== Sys2Proof/Machine/Registers.lean ====
section
/-! DEFINITION. Machine/Registers.lean: register writes, and the commands that read and write registers (R7, R25, R222, R241). -/

namespace Sys2Proof.Machine

/-! ## Writes (R7, R16, R25) -/

/-- A write to ASa.CTL (R415, R418): GO, then ABORT of a transfer that was running; what it had done by then is free (log entry
2). -/
def State.auxCtl (s : State) (a : Nat) (v : Word) : State :=
  let busy := (s.auxPort a).busy
  let s := if bit v 31 then s.auxGo a (fld v 29 28) (fld v 13 0) else s
  if bit v 30 ∧ busy then
    let n := s.free.toNat % ((s.auxPort a).len + 1)
    s.bumpFree.auxAbort a n (leBytes ((n + 7) / 8) (s.free.toNat / 2 ^ 14))
  else s

/-- A write to ASa.TXDATA (R418): the word stored, or BUFERR while BUSY; BIDX goes on. -/
def State.txWrite (s : State) (q : Req) (a : Nat) (v : Word) : State :=
  let i := fld (s.ownReg q (asReg a 0x10)) 8 0
  let s := if (s.auxPort a).busy then s.setSticky (asReg a 0xC) 0x4000000#32
    else s.updAux a (fun p => { p with tx := storePut zeroDefault p.tx i v })
  s.moveIndex q (asReg a 0x14)

/-- A write to a register of port ASa (R423); none where the offset is a stored register's. -/
def State.asWrite (s : State) (q : Req) (a o : Nat) (v : Word) : Option State :=
  match o with
  | 0x08 => some (s.auxCtl a v)
  | 0x14 => some (s.txWrite q a v)
  | 0x1C => some (s.frameSend a v)
  | _ => none

/-- A write to REC.CTL (R364, R379). -/
def State.recCtl (s : State) (v : Word) : State :=
  let s := if bit v 0 ∧ s.plat.mode ≠ .lockdown then s.clearLog else s
  if bit v 1 then { s with keeper := { s.keeper with lwValid := false } } else s

/-- A write to WDT.SBSVCm (R182, R188): the sideband's and firmware's; the host's is ignored. -/
def State.sbsvcWrite (s : State) (q : Req) (off : Nat) (v : Word) : State :=
  if q = .host then s else s.sbsvc (chAt 0x68C 16 off) v

/-- A register that acts at once on what is written (R7, R16, R23, R25); none for every other. -/
def State.commandWrite (s : State) (q : Req) (off : Nat) (v : Word) : Option State :=
  match off with
  | 0xD0 => some { s with keeper := { s.keeper with trip := s.keeper.trip &&& ~~~(v &&& 0xFFFFF#32) } }
  | 0x100 => some (s.commitGo q v)
  | 0x110 => some (s.discard q v)
  | 0x114 => some (if bit v 1 then s.setView q { s.view q with refused := false } else s)
  | 0x200 => some (if q = .int then s.modeWrite (fld v 2 0) (s.modeCause (fld v 2 0)) else s)
  | 0x208 => some (s.setView q { s.view q with rstcause := (s.view q).rstcause &&& ~~~(v &&& 0xFF#32) })
  | 0x340 => some (if q = .side then s.urgentWrite true v else s)
  | 0x500 => some (s.recCtl v)
  | 0x51C => some (s.setView q { s.view q with wlatch := some (0x51C, v) })
  | 0x520 =>
    let lo := match (s.view q).wlatch with | some (0x51C, w) => w.toNat | _ => 0
    some (s.setView q { s.view q with wlatch := none, rdno := lo + 2 ^ 32 * v.toNat })
  | 0x600 => some (s.wd0CfgWrite q v)
  | 0x604 => some (s.wd0WindowWrite q v)
  | 0x608 => some (s.wd0Serve q v)
  | _ =>
    if 0x680 ≤ off ∧ off < 0x700 ∧ off % 16 = 12 then some (s.sbsvcWrite q off v)
    else if 0x2800 ≤ off ∧ off < 0x2880 then s.asWrite q ((off - 0x2800) / 0x40) (off % 0x40) v
    else none

/-- The W1C bits of a register. -/
def w1cOf (off : Nat) : Word := match regRow? off with | some r => r.w1c | none => 0#32

/-- A register write by a requester (R7): it acts at once, clears W1C bits, is staged or stored, or is ignored. -/
def State.busWrite (s : State) (q : Req) (off : Nat) (v : Word) : State :=
  match s.commandWrite q off v with
  | some t => t
  | none => if w1cOf off = 0#32 then s.stageWrite q off v else s.clearSticky off (v &&& w1cOf off)

/-! ## Which accesses arrive (R40, R219, R222, R250) -/

/-- An access to the word at a BAR0 offset. The host's to no word of BAR0 is an Unsupported Request (R222); no other requester
has such an offset. -/
def State.access (s : State) (q : Req) (off : Nat) (k : State → State) : Host.Outcome State Fault Refusal :=
  if s.reaches_ q = false then .next s
  else if off % 4 = 0 ∧ off < 0x10000 then .next (k s)
  else if q = .host then .next ((s.raise 683 0).emit .ur)
  else .fault (.noRegister off)

/-- A read of the word that holds the byte at an offset (R222). -/
def State.accessRead (s : State) (q : Req) (off : Nat) : Host.Outcome State Fault Refusal :=
  s.access q (off / 4 * 4) (fun s => s.busRead q (off / 4 * 4))

/-- LOW_HALF_READ (R16, R24, R25): a read of a register; the low half of a 64-bit value latches its high half, which `hi` reads
after it. -/
def execLowHalfRead (q : Req) (off : Nat) (hi : Bool) (s : State) : Host.Outcome State Fault Refusal :=
  s.access q (off / 4 * 4) (fun s => if hi then (s.busRead q (off / 4 * 4)).busRead q (off / 4 * 4 + 4) else s.busRead q (off / 4 * 4))

/-- HIGH_HALF_WRITE (R25): a write of the high half of a 64-bit value takes effect with the low half written before it. -/
def execHighHalfWrite (q : Req) (off : Nat) (v : Word) (s : State) : Host.Outcome State Fault Refusal :=
  s.access q off (fun s => s.busWrite q off v)

/-- REGISTER_WRITE (R7). -/
def execRegisterWrite (q : Req) (off : Nat) (v : Word) (s : State) : Host.Outcome State Fault Refusal :=
  s.access q off (fun s => s.busWrite q off v)

/-- A read or a write of a data register. -/
def State.dataAccess (s : State) (q : Req) (off : Nat) (w : Option Word) : Host.Outcome State Fault Refusal :=
  s.access q off (fun s => match w with | some v => s.busWrite q off v | none => s.busRead q off)

/-- RC_READ (R7, R165): FCHn.VMAX. -/
def execRcRead (q : Req) (n : Ch) (s : State) : Host.Outcome State Fault Refusal := s.accessRead q (fch n 0x138)

/-- RDATA_READ (R364): REC.RDATAk. -/
def execRdataRead (q : Req) (k : Fin 8) (s : State) : Host.Outcome State Fault Refusal := s.accessRead q (0x524 + 4 * k.val)

/-- ROUTE_WRITE (R359, R378). -/
def execRouteWrite (q : Req) (v : Word) (s : State) : Host.Outcome State Fault Refusal := s.dataAccess q 0x404 (some v)

/-- PEND_HI_READ (R357, R378). -/
def execPendHiRead (q : Req) (s : State) : Host.Outcome State Fault Refusal := s.accessRead q 0x40C

/-- COUNTER_DATA_READ (R372, R380): CNT.DATA_LO, or CNT.DATA_HI. -/
def execCounterDataRead (q : Req) (hi : Bool) (s : State) : Host.Outcome State Fault Refusal :=
  s.accessRead q (if hi then 0x710 else 0x70C)

/-- COUNTER_WRITE (R372, R373, R380): CNT.DATA_HI, which applies the 64 bits. -/
def execCounterWrite (q : Req) (v : Word) (s : State) : Host.Outcome State Fault Refusal := s.dataAccess q 0x710 (some v)

/-- The key of a counter's BAR4 latch (R374). -/
def bar4Key (i : Nat) : Nat := 0x70000 + i

/-- A BAR4 read of counter location i (R222, R374): 8 bytes, or one half under the location's own latch. -/
def State.bar4Read (s : State) (i : Nat) (h : Half) : State :=
  let d := s.counterWord i
  let v := s.view .host
  match h with
  | .both => (s.setView .host { v with latch := stagedPut v.latch (bar4Key i) (hiHalf d) }).emit (.regValue64 (8 * i) d)
  | .lo => (s.setView .host { v with latch := stagedPut v.latch (bar4Key i) (hiHalf d) }).emit (.regValue64 (8 * i) ((loHalf d).setWidth 64))
  | .hi => s.emit (.regValue64 (8 * i + 4) (((stagedGet? v.latch (bar4Key i)).getD (hiHalf d)).setWidth 64))

/-- A read of a BAR4 location (R374, R428): while EXPORT is 0 it returns 0 and sets DENIED, with EV880 where it was 0. -/
def State.bar4Served (s : State) (k : Nat) (h : Half) : State :=
  if bit (s.cfg 0x700) 31 then s.bar4Read k h
  else
    ((s.setSticky 0x704 0x1#32).raiseIf (!bit (s.sticky 0x704) 0) 880 0).emit
      (.regValue64 (8 * k + (if h = .hi then 4 else 0)) 0#64)

/-- BAR4_READ (R374, R428). -/
def execBar4Read (k : Fin 8192) (h : Half) (s : State) : Host.Outcome State Fault Refusal :=
  .next (if s.reaches_ .host = false then s else s.bar4Served k.val h)

/-! ## BAR accesses of every form (R221, R222, R235, R236, R252) -/

/-- A word of BAR2 as it reads (R222, R252): the Pending Bit Array, the MSI-X table, 0 elsewhere. -/
def State.bar2Word (s : State) (off : Nat) : Word :=
  let o := off / 4 * 4
  if o = 0xA00 ∨ o = 0xA04 then
    word ((List.range 32).foldl (fun a i => a + bitAt ((s.host.vecs.toList.getD (8 * (o - 0xA00) + i) startVec).pending) i) 0)
  else if 0xC00 ≤ o ∧ o < 0x1000 then
    let v := s.host.vecs.toList.getD ((o - 0xC00) / 16) startVec
    match o / 4 % 4 with
    | 0 => word (v.addr % 2 ^ 32)
    | 1 => word (v.addr / 2 ^ 32)
    | 2 => word v.data
    | _ => word (bitAt v.masked 0)
  else 0#32

/-- A word of an MSI-X table entry written (R252); unmasked, the entry sends its pended message (R238). -/
def State.vecWrite (s : State) (off : Nat) (w : Word) : State :=
  let i := (off - 0xC00) / 16
  if h : i < 64 then
    let v := s.host.vecs[i]
    let v := match off / 4 % 4 with
      | 0 => { v with addr := v.addr / 2 ^ 32 * 2 ^ 32 + w.toNat / 4 * 4 }
      | 1 => { v with addr := v.addr % 2 ^ 32 + 2 ^ 32 * w.toNat }
      | 2 => { v with data := w.toNat }
      | _ => { v with masked := bit w 0 }
    ({ s with host := { s.host with vecs := s.host.vecs.set i v } } : State).flushVec i
  else s

/-- The doorbell of queue q, an INDEX (R235). -/
def State.bell (s : State) (q index : Nat) : State := if qWritten q then s.cqBell q index else s.sqBell q index

/-- An aligned write of 4 or 8 bytes to BAR2 (R235, R236, R252): doorbells act on their low half; the urgent doorbell takes 8 bytes
whose halves are each other's inverse, and any other write to it is refused; the MSI-X table is stored; reserved offsets ignore it. -/
def State.bar2Write (s : State) (off len : Nat) (v : DWord) : State :=
  if off < 0x440 then (if off % 8 = 0 then s.bell (off / 8) (fld (loHalf v) 11 0) else s)
  else if off < 0x800 then s.noBell (off / 8)
  else if off = 0x800 ∨ off = 0x804 then
    if len = 8 ∧ hiHalf v = ~~~(loHalf v) then s.urgentWrite false (loHalf v) else s.raise 776 0
  else if 0xC00 ≤ off then (if len = 8 then (s.vecWrite off (loHalf v)).vecWrite (off + 4) (hiHalf v) else s.vecWrite off (loHalf v))
  else s

/-- A request that no served form covers (R222, R251). -/
def State.unsupported (s : State) : State := (s.emit .ur).raise 683 0

/-- A read of 1 to 8 bytes within one aligned block of 8: the words it touches, low half first (R222). -/
def barWords (off len : Nat) : List Nat := if off % 8 + len ≤ 4 ∨ 4 ≤ off % 8 then [off / 4 * 4] else [off / 8 * 8, off / 8 * 8 + 4]

/-- A host access to a BAR (R221, R222). DESIGN CHOICE: reads of BAR2 are served in the forms of BAR0 and BAR4 (log entry 67). -/
def State.barAccess (s : State) (a : BarAcc) : State :=
  match a with
  | .read bar off len =>
    if len = 0 ∨ 8 < off % 8 + len then s.unsupported
    else if bar = 0 ∧ off < 0x10000 then (barWords off len).foldl (fun s o => s.busRead .host o) s
    else if bar = 4 ∧ off < 0x10000 then
      s.bar4Served (off / 8) (match barWords off len with | [o] => if o % 8 = 0 then .lo else .hi | _ => .both)
    else if bar = 2 ∧ off < 0x1000 then (barWords off len).foldl (fun s o => s.emit (.bar2Value o (s.bar2Word o))) s
    else s.unsupported
  | .write bar off len v enabled =>
    if ¬(len = 4 ∨ len = 8) ∨ off % len ≠ 0 ∨ enabled = false then s.unsupported
    else if bar = 0 ∧ off < 0x10000 then
      if len = 8 then (s.busWrite .host off (loHalf v)).busWrite .host (off + 4) (hiHalf v) else s.busWrite .host off (loHalf v)
    else if bar = 2 ∧ off < 0x1000 then s.bar2Write off len v
    else s.unsupported

/-- UNSUPPORTED_REQUEST (R222, R251): a BAR access: one outside the served forms is answered Unsupported Request, EV683; so is any
while the function takes no memory request. -/
def execUnsupportedRequest (s : State) (a : BarAcc := .read 0 0 0) : Host.Outcome State Fault Refusal :=
  .next (if s.powered = false ∨ s.plat.perstN = false ∨ s.host.linkUp = false then s
  else if s.reaches_ .host then s.barAccess a else s.unsupported)

/-- OPDATA_ACCESS (R70): a read, or a write, of FCHn.OPDATA. -/
def execOpdataAccess (q : Req) (n : Ch) (w : Option Word) (s : State) : Host.Outcome State Fault Refusal := s.dataAccess q (fch n 0x3C) w

/-- SFDPDATA_READ (R79). -/
def execSfdpdataRead (q : Req) (n : Ch) (s : State) : Host.Outcome State Fault Refusal := s.accessRead q (fch n 0x44)

/-- STDATA_ACCESS (R99, R125): word k of the selected extent. -/
def execStdataAccess (q : Req) (n : Ch) (k : Fin 3) (w : Option Word) (s : State) : Host.Outcome State Fault Refusal :=
  s.dataAccess q (fch n (0x84 + 4 * k.val)) w

/-- RGDATA_ACCESS (R103, R125): word k of the selected region. -/
def execRgdataAccess (q : Req) (n : Ch) (k : Fin 3) (w : Option Word) (s : State) : Host.Outcome State Fault Refusal :=
  s.dataAccess q (fch n (0x94 + 4 * k.val)) w

/-- SEQDATA_ACCESS (R172, R187). -/
def execSeqdataAccess (q : Req) (w : Option Word) (s : State) : Host.Outcome State Fault Refusal := s.dataAccess q 0x2FC w

/-- BADDATA_READ (R165). -/
def execBaddataRead (q : Req) (n : Ch) (s : State) : Host.Outcome State Fault Refusal := s.accessRead q (fch n 0x134)

/-- STRDATA_READ (R218): SEAL.STRDATA0, which samples the stream's fields, or STRDATA1. -/
def execStrdataRead (q : Req) (k : Fin 2) (s : State) : Host.Outcome State Fault Refusal := s.accessRead q (0x2450 + 4 * k.val)

/-- STRATT_READ (R218). -/
def execStrattRead (q : Req) (s : State) : Host.Outcome State Fault Refusal := s.accessRead q 0x2460

/-- CASKDATA_READ (R301, R325): CRYPTO.CASKDATAk. -/
def execCaskdataRead (q : Req) (k : Fin 8) (s : State) : Host.Outcome State Fault Refusal := s.accessRead q (0x2624 + 4 * k.val)

/-- THDATA_READ (R349, R354): IDENT.THDATAk. -/
def execThdataRead (q : Req) (k : Fin 4) (s : State) : Host.Outcome State Fault Refusal := s.accessRead q (0xE4 + 4 * k.val)

/-- VCTR_READ (R335, R353). -/
def execVctrRead (q : Req) (s : State) : Host.Outcome State Fault Refusal := s.accessRead q 0x34

/-- TLM_DATA_READ (R381). -/
def execTlmDataRead (q : Req) (s : State) : Host.Outcome State Fault Refusal := s.accessRead q 0x2C0C

/-- TXDATA_WRITE (R415, R418). -/
def execTxdataWrite (q : Req) (a : Fin 2) (v : Word) (s : State) : Host.Outcome State Fault Refusal := s.dataAccess q (asReg a.val 0x14) (some v)

/-- RXDATA_READ (R415, R418). -/
def execRxdataRead (q : Req) (a : Fin 2) (s : State) : Host.Outcome State Fault Refusal := s.accessRead q (asReg a.val 0x18)

/-! ## SNAPSHOT (R26, R241) -/

/-- What SNAPSHOT samples: the Host view, every sampled record and entry fresh, no latch in the way. -/
def State.imageState (s : State) : State :=
  let i := fld (s.ownReg .host 0x2620) 6 0
  let s := (((s.sampleRec .host).sampleStream .host).addSample .host 0x2624 4 (wordsOf 8 ((s.cask i).entry i))).sampleFor .host 0xE4
  let s := s.addSample .host (tlmKey 0) 1 (wordsOf 120 s.tlm.record)
  s.setView .host { s.view .host with latch := [] }

/-- The 256 bytes of window w. -/
def State.windowBytes (s : State) (w : Nat) : List Byte := (List.range 64).flatMap (fun k => wordBytes (s.readWord .host (256 * w + 4 * k)))

/-- The header and the selected windows (R241). -/
def State.snapshotBytes (s : State) (mask : Nat) : List Byte :=
  let ws := (List.range 48).filter (fun w => mask.testBit w)
  leBytes 8 s.cycles ++ leBytes 8 mask ++ wordBytes s.regs.gen ++ leBytes 4 (64 + 256 * ws.length) ++ leBytes 8 s.rtc.toNat ++
    List.replicate 32 0#8 ++ ws.flatMap (fun w => s.imageState.windowBytes w)

/-- SNAPSHOT (R26, R239, R241). -/
def execSnapshot (cid len mask addr : Nat) (s : State) : Host.Outcome State Fault Refusal :=
  .next (s.admin cid 2 (fun s =>
    let bs := s.snapshotBytes mask
    if len = 0 ∨ mask = 0 then (s, reply .noop)
    else if 2 ^ 48 ≤ mask then (s, badField 32)
    else if len < bs.length then (s, badField 24)
    else ((s.hostWrite addr bs).bumpFree, okWith (leBytes 4 bs.length ++ leBytes 4 0 ++ leBytes 8 s.cycles))))

end Sys2Proof.Machine
end

