-- ==== Sys2Proof/Machine/Admin.lean ====
section
/-! DEFINITION. Machine/Admin.lean: the remaining commands of the admin queue (R50, R106, R111, R115, R182, R240, R258, R338). -/

namespace Sys2Proof.Machine

/-! ## IDENTIFY (R240) -/

/-- A 0-padded field of IDENTIFY and of bitmaps: bit o of byte o / 8. -/
def bitmapBytes (n : Nat) (has : Nat → Bool) : List Byte :=
  (List.range n).map (fun i => BitVec.ofNat 8 ((List.range 8).foldl (fun a k => a + (if has (8 * i + k) then 2 ^ k else 0)) 0))

/-- An opcode is accepted on some queue in the current mode (R40, R240). -/
def State.opcodeNow (s : State) (o : Nat) : Bool :=
  (adminOpcodes.contains o && s.adminAllowed o) || (decide (o = 0x80 ∨ o = 0x81) && s.sealMode && !s.plat.romsvc)

/-- READTAGS: outstanding reads now allowed (R240, R246). -/
def State.readTags (s : State) : Nat := if s.host.extTag || s.host.tag10 then 256 else 32

/-- The fields of the identify page that are not zero: bytes 0 to 159 (R240). -/
def State.identifyHead (s : State) : List Byte :=
  let o := s.life.otp
  let ver := fun (v : Nat) => leBytes 8 (if s.plat.romsvc then 0 else v)
  leBytes 2 0x1F3D ++ leBytes 2 0x9600 ++ leBytes 2 o.ssvid ++ leBytes 2 o.ssid ++
    leBytes 1 0xB0 ++ leBytes 1 (s.idByte 12) ++ leBytes 1 s.lifeCode ++ leBytes 1 s.plat.mode.code ++
    s.unitidBytes ++ bytesAt o.ident.bytes 0 12 ++ leBytes 4 0 ++
    ver s.ident.wver ++ ver s.ident.sver ++
    (match s.bundle with | some b => digBytes b.digest | none => leBytes 48 0) ++
    leBytes 2 64 ++ leBytes 2 4096 ++ leBytes 2 4096 ++ leBytes 2 64 ++ leBytes 2 s.readTags ++ leBytes 2 32 ++
    leBytes 1 s.host.speed ++ leBytes 1 s.host.width ++ leBytes 2 s.host.mps ++ leBytes 2 s.host.mrrs ++ leBytes 6 0 ++
    bitmapBytes 32 s.opcodeNow

/-- The identify page of 4,096 bytes (R240). -/
def State.identifyPage (s : State) : List Byte := padTo 4096 s.identifyHead

/-- IDENTIFY (R239, R240). -/
def execIdentify (cid len addr : Nat) (s : State) : Host.Outcome State Fault Refusal :=
  .next (s.admin cid 0x01 (fun s =>
    if len = 0 then (s, reply .noop)
    else if len < 4096 then (s, badField 24)
    else (s.hostWrite addr s.identifyPage, reply .ok)))

/-! ## CERT_READ and GET_NONCE (R258, R338) -/

/-- The chain image that CERT_READ serves: the attestation chain, then the sealing chain (R258). -/
def State.certImage (s : State) (mldsa : Bool) : List Byte := s.attChain mldsa ++ s.sealChain mldsa

/-- CERT_READ (R239, R258). -/
def execCertRead (cid chain off len addr : Nat) (s : State) : Host.Outcome State Fault Refusal :=
  .next (s.admin cid 0x05 (fun s =>
    if len = 0 then (s, reply .noop)
    else if 1 < chain then (s, badField 8)
    else
      let image := s.certImage (decide (chain = 1))
      if image.length ≤ off then (s, badField 12)
      else
        let part := (image.drop off).take len
        (s.hostWrite addr part, okWith (leBytes 4 image.length ++ leBytes 4 part.length))))

/-- GET_NONCE's work (R338): 32 bytes of the DRBG become the current nonce. -/
def State.newNonce (s : State) : State × List Byte :=
  let bs := s.rand 32
  let t := s.drawn
  ({ t with ident := { t.ident with nonce := some (leNat bs) } }, bs)

/-- GET_NONCE on any path (R239, R338): to BUF for the host, in the response on the sideband and the TAP. -/
def execGetNonce (src : Src) (len addr : Nat) (s : State) : Host.Outcome State Fault Refusal :=
  .next (s.command src 0x06 (fun s =>
    match src with
    | .host _ =>
      if len = 0 then (s, reply .noop)
      else if len < 32 then (s, badField 24)
      else if s.crypt.rngSt ≠ 1 then (s, reply .deviceFault)
      else (s.newNonce.1.hostWrite addr s.newNonce.2, reply .ok)
    | _ =>
      if s.crypt.rngSt ≠ 1 then (s, reply .deviceFault)
      else (s.newNonce.1, okWith s.newNonce.2))).1

/-! ## SET_PHASE, ACTIVATE, CONFIRM, AGENT_HEARTBEAT, RESTART -/

/-- The phase now in force on a channel. -/
def State.phaseCode (s : State) (channel : Nat) : Nat := if h : channel < 8 then (s.chan ⟨channel, h⟩).phase.code else 0

/-- SET_PHASE on either path (R106, R239). -/
def State.setPhaseReply (s : State) (side : Bool) (channel phase : Nat) : State × Reply :=
  let r := s.setPhaseCmd side channel phase
  (r.1, match r.2 with
    | .ok => okWith (leBytes 1 (r.1.phaseCode channel))
    | .invalidField => badField (if channel < 8 then 9 else 8)
    | x => reply x)

/-- SET_PHASE (R106, R239). -/
def execSetPhase (cid channel phase : Nat) (s : State) : Host.Outcome State Fault Refusal :=
  .next (s.admin cid 0x10 (fun s => s.setPhaseReply false channel phase))

/-- ACTIVATE on either path (R111, R239): `hostBuf` where the manifest came in a host buffer of `len` bytes. -/
def State.activateReply (s : State) (channel slot flipNow : Nat) (m : Manifest) : State × Reply :=
  let r := s.activateCmd channel slot flipNow m
  (r.1, match r.2 with
    | .invalidField => badField (if 8 ≤ channel then 8 else if 4 ≤ slot then 9 else if 1 < flipNow then 11 else 16)
    | x => reply x)

/-- ACTIVATE (R111, R239). `m`: the manifest of the staging metadata area (MLOC 0) or of the buffer (MLOC 1). -/
def execActivate (cid channel slot mloc flipNow len : Nat) (m : Manifest) (s : State) : Host.Outcome State Fault Refusal :=
  .next (s.admin cid 0x11 (fun s =>
    if mloc = 1 ∧ len = 0 then (s, reply .noop)
    else if channel < 8 ∧ slot < 4 ∧ 1 < mloc then
      ((if h : channel < 8 then s.raiseCh ⟨channel, h⟩ 20 (chArg 0 0 4 slot) else s), badField 10)
    else
      let s := if mloc = 1 then s.countRead len else s
      s.activateReply channel slot flipNow m))

/-- CONFIRM (R115, R239). -/
def execConfirm (cid channel slot : Nat) (s : State) : Host.Outcome State Fault Refusal :=
  .next (s.admin cid 0x12 (fun s =>
    let r := s.confirmCmd channel slot
    (r.1, match r.2 with | .invalidField => badField (if channel < 8 then 9 else 8) | x => reply x)))

/-- AGENT_HEARTBEAT (R182, R239). A service discarded in an expiry cycle completes like an ignored one (log entry 20). -/
def execAgentHeartbeat (cid agent : Nat) (key : Word) (s : State) : Host.Outcome State Fault Refusal :=
  .next (s.admin cid 0x13 (fun s =>
    if h : agent < 8 then
      let r := s.wdService ⟨agent, h⟩ 29 (decide (key = 0x5EEDC0DE#32))
      (r.1, match r.2 with
        | .accepted => okWith (leBytes 1 0)
        | .failure => okWith (leBytes 1 1)
        | _ => reply .notPermitted)
    else (s, badField 8)))

/-- RESTART (R50, R239): where the bundle permits it, OK is written and the device restarts with CAUSE 0x02. -/
def execRestart (cid : Nat) (s : State) : Host.Outcome State Fault Refusal :=
  .next (
    let go := (s.adminHead cid 0x23).isSome && s.serving && s.busOk && s.adminAllowed 0x23 && !s.firmwareAway 0x23 && s.perm 0
    let u := s.admin cid 0x23 (fun s => (s, reply (if s.perm 0 then .ok else .notPermitted)))
    if go then u.deviceRestart 2 0x8#32 true else u)

end Sys2Proof.Machine
end

