-- ==== Sys2Proof/Machine/Keys.lean ====
section
/-! DEFINITION. Machine/Keys.lean: KEY_CMD and the key journal (R301, R310, R320 to R323). -/

namespace Sys2Proof.Machine

/-! ## Commands that wait for the vault -/

/-- An admin command whose completion may come later (R234): `k` answers none to keep it in hand, marked as taken. -/
def State.adminHold (s : State) (cid opcode : Nat) (k : State → Fetched → State × Option Reply) : State :=
  match s.adminHead cid opcode with
  | none => s
  | some f =>
    if s.serving = false ∨ s.busOk = false then s
    else if s.adminAllowed opcode = false then s.completeCmd f (reply .notPermitted)
    else if s.firmwareAway opcode then s.completeCmd f (reply .busyRetry)
    else
      let f' : Fetched := { f with taken := true }
      let r := k s f'
      match r.2 with
      | some x => r.1.completeCmd f x
      | none => { r.1 with host := { r.1.host with fetched := r.1.host.fetched.map (fun g => if g = f then f' else g) } }

/-! ## Queries (R301, R320, R321) -/

/-- The Cask a label names (R301, R320): a fixed Cask by its index, an owner Cask by its LABEL. -/
def State.caskNamed (s : State) (label : Nat) : Option Nat :=
  if 0x80000000 ≤ label ∧ label ≤ 0x80000000 + 20 then some (label - 0x80000000) else s.caskByLabel label

/-- INDEX in byte 0 and GEN in bytes 4 to 7 of a RESULT (R320). -/
def keyResult (i gen : Nat) : List Byte := leBytes 4 i ++ leBytes 4 gen

/-- KEY_CMD INFO (R320). -/
def execInfo (cid label len addr : Nat) (s : State) : Host.Outcome State Fault Refusal :=
  .next (s.admin cid 0x2B (fun s =>
    if len = 0 then (s, reply .noop)
    else
      match s.caskNamed label with
      | none => (s, badField 12)
      | some i =>
        if len < 32 then (s, badField 24)
        else (s.hostWrite addr ((s.cask i).entry i), okWith (keyResult i (s.cask i).gen))))

/-- Casks in STATE VALID. -/
def State.validCasks (s : State) : Nat := ((List.range 128).filter (fun i => decide ((s.cask i).st = .valid))).length

/-- KEY_CMD LIST (R320). -/
def execList (cid len addr : Nat) (s : State) : Host.Outcome State Fault Refusal :=
  .next (s.admin cid 0x2B (fun s =>
    if len = 0 then (s, reply .noop)
    else if len < 4096 then (s, badField 24)
    else (s.hostWrite addr ((List.range 128).flatMap (fun i => (s.cask i).entry i)), okWith (leBytes 1 s.validCasks))))

/-- A key as the cryptography names it: the material of a Cask. -/
def State.keyName (s : State) (i : Nat) : Nat := (s.cask i).key

/-- What IMPORT_PUB signs: both import public keys and UNITID (R321). -/
def State.importBody (s : State) : List Byte :=
  padTo 97 (Config.publicBytes (s.keyName 13)) ++ padTo 1568 (Config.publicBytes (s.keyName 14)) ++ s.unitidBytes ++ leBytes 3 0

/-- The block of IMPORT_PUB: both import public keys under both Alias keys (R321). -/
def State.importPub (s : State) (ec ml : List Byte) : List Byte := s.importBody ++ padTo 96 ec ++ padTo 3309 ml ++ leBytes 35 0

/-- KEY_CMD IMPORT_PUB (R321). -/
def execImportPub (cid len addr : Nat) (s : State) : Host.Outcome State Fault Refusal :=
  .next (s.admin cid 0x2B (fun s =>
    if len = 0 then (s, reply .noop)
    else if s.rooted = false then (s, reply .notPermitted)
    else if len < 5120 then (s, badField 24)
    else
      let r := s.signedTwice (s.keyName 3) (s.keyName 4) s.importBody
      match r.2 with
      | some (ec, ml) => (r.1.hostWrite addr (s.importPub ec ml), reply .ok)
      | none => (r.1, reply .deviceFault)))

/-! ## Changes (R310, R322, R323) -/

/-- Check 1 of R323: the mode, and the Rootstock. -/
def State.keyMode (s : State) : Bool := s.sealMode && s.rooted

/-- Check 2 of R323: the token, its ACTION, and the KEYREQ it carries (R320). -/
def State.keyToken (s : State) (t : Token) (kr : Option KeyReq) (want : KeyReq → Bool) : State × Status :=
  let r := s.checkToken t
  if r.2 ≠ .ok then r
  else if t.action ≠ 5 ∨ t.agents ≠ 0 ∨ (match kr with | some k => want k | none => false) = false then (r.1.raise 520 0, .verifyFail)
  else r

/-- SHA-384 of the empty string, as a number (R320). -/
def emptyDigest : Nat := beNat (padTo 48 (Config.sha384 []))

/-- A change begins (R310): its Cask, where it holds a key, is PENDING until the commit. -/
def State.beginChange (s : State) (c : KeyChange) : State :=
  let s := if c.kind ≠ 3 ∧ (s.cask c.cask).st = .valid then s.setCask c.cask { s.cask c.cask with st := .pending } else s
  { s with crypt := { s.crypt with change := some c } }

/-- The lowest free owner Cask (R304, R323). -/
def State.freeCask (s : State) : Option Nat := (List.range 128).find? (fun i => decide (32 ≤ i ∧ (s.cask i).st = .empty))

/-- The Cask an owner label names. -/
def State.ownerCask (s : State) (label : Nat) : Option Nat := if 1 ≤ label ∧ label ≤ 0x7FFFFFFF then s.caskByLabel label else none

/-- Check 3 of R323: LABEL, LEN, and the blob's TYPE, RIGHTS and LABEL as R322. -/
def importField (label len tlen : Nat) (b : ImportBlob) : Option Nat :=
  if label = 0 ∨ 0x7FFFFFFF < label then some 12
  else if len ≠ 4 + tlen + 1753 ∨ b.len ≠ 1753 then some 24
  else if ¬((b.type = 2 ∧ b.rights = 0x100) ∨ (b.type = 3 ∧ b.rights = 0x200)) ∨ b.label ≠ label then some 16
  else none

/-- KEY_CMD IMPORT (R318, R322, R323): the decapsulation is the PKU's. `tlen` is T, `kr` the token's KEYREQ. -/
def execImportKey (cid label len tlen : Nat) (t : Token) (kr : Option KeyReq) (b : ImportBlob) (s : State) : Host.Outcome State Fault Refusal :=
  .next (s.adminHold cid 0x2B (fun s f =>
    if len = 0 then (s, some (reply .noop))
    else if s.keyMode = false then (s, some (reply .notPermitted))
    else if s.crypt.change.isSome then (s, some (reply .busyRetry))
    else
      let r := (s.countRead len).keyToken t kr (fun k => decide (k.subop = 4 ∧ k.label = label ∧ k.digest = b.digest))
      let s := r.1
      if r.2 ≠ .ok then (s, some (reply r.2))
      else
        match importField label len tlen b, b.material with
        | some d, _ => (s, some (badField d))
        | none, m =>
          let r := s.pkuRun
          let s := r.1
          if r.2 = false then (s, some (reply .deviceFault)) else
          match m with
          | none => (s, some (reply .verifyFail))
          | some m =>
          match s.ownerCask label with
          | some i =>
            if (s.cask i).type ≠ b.type then (s, some (badField 16))
            else (s.beginChange ⟨1, i, label, b.type, b.rights, wrap32 ((s.cask i).gen + 1), m, f, 0⟩, none)
          | none =>
            match s.freeCask with
            | none => (s.raise 583 (256 * Status.resourceExhausted.code), some (reply .resourceExhausted))
            | some i => (s.beginChange ⟨1, i, label, b.type, b.rights, 1, m, f, 0⟩, none)))

/-- KEY_CMD DESTROY (R320, R323). A LABEL that names no owner Cask is an INVALID_FIELD (log entry 21). -/
def execDestroy (cid label len tlen : Nat) (t : Token) (kr : Option KeyReq) (s : State) : Host.Outcome State Fault Refusal :=
  .next (s.adminHold cid 0x2B (fun s f =>
    if len = 0 then (s, some (reply .noop))
    else if s.keyMode = false then (s, some (reply .notPermitted))
    else if s.crypt.change.isSome then (s, some (reply .busyRetry))
    else
      let r := (s.countRead len).keyToken t kr (fun k => decide (k.subop = 5 ∧ k.label = label ∧ k.digest = emptyDigest))
      let s := r.1
      if r.2 ≠ .ok then (s, some (reply r.2))
      else if len ≠ 4 + tlen then (s, some (badField 24))
      else
        match s.ownerCask label with
        | none => (s, some (badField 12))
        | some i => (s.beginChange ⟨2, i, label, (s.cask i).type, (s.cask i).rights, (s.cask i).gen, 0, f, 0⟩, none)))

/-- KEY_CMD SEAL_ROTATE (R323). -/
def execSealRotate (cid len tlen : Nat) (t : Token) (kr : Option KeyReq) (s : State) : Host.Outcome State Fault Refusal :=
  .next (s.adminHold cid 0x2B (fun s f =>
    if len = 0 then (s, some (reply .noop))
    else if s.keyMode = false then (s, some (reply .notPermitted))
    else if s.crypt.change.isSome then (s, some (reply .busyRetry))
    else
      let r := (s.countRead len).keyToken t kr (fun k => decide (k.subop = 6 ∧ k.digest = emptyDigest))
      let s := r.1
      if r.2 ≠ .ok then (s, some (reply r.2))
      else if len ≠ 4 + tlen then (s, some (badField 24))
      else if s.crypt.sealGen = 0xFFFFFFFF then (s, some (reply .resourceExhausted))
      else (s.beginChange ⟨3, 0, 0, 0, 0, s.crypt.sealGen + 1, 0, f, 0⟩, none)))

/-- Records written to the key journal; the log is circular (R310, R312). -/
def State.journalRecords (s : State) (k : Nat) : State := { s with crypt := { s.crypt with kjFill := min 1636 (s.crypt.kjFill + k) } }

/-- A committed change takes effect in the key store (R308, R310, R323), and what its command answers. -/
def State.applyChange (s : State) (c : KeyChange) : State × Reply :=
  let others := s.crypt.keys.filter (fun k => k.cask ≠ c.cask)
  match c.kind with
  | 1 =>
    let rec_ : KeyRec := { cask := c.cask, label := c.label, type := c.type, rights := c.rights, gen := c.gen, material := c.material }
    let s := if (s.cask c.cask).live then s.invalidate c.cask else s
    let s := s.loadKey rec_
    (({ s with crypt := { s.crypt with keys := others ++ [rec_] } } : State).raise 575 c.cask, okWith (keyResult c.cask c.gen))
  | 2 =>
    let s := (s.invalidate c.cask).setCask c.cask emptyCask
    (({ s with crypt := { s.crypt with keys := others } } : State).raise 576 c.cask, reply .ok)
  | _ => (({ s with crypt := { s.crypt with sealGen := c.gen } } : State).raise 575 0, okWith (leBytes 4 c.gen))

/-- A change gives up after its fourth failed read-back: the old material stays in force, EV582 (R310). -/
def State.dropChange (s : State) (c : KeyChange) : State :=
  let s := if (s.cask c.cask).st = .pending then s.setCask c.cask { s.cask c.cask with st := .valid } else s
  (({ s with crypt := { s.crypt with change := none } } : State).raise 582 (c.cask + 256 * Status.deviceFault.code)).completeCmd c.f (reply .deviceFault)

/-- KEY_JOURNAL_COMMIT (R310): a read-back of the change's records: `ok` where COMMIT COPY 0 reads back good, and the change takes
effect; else the record is rewritten at the next positions, up to three times. -/
def execKeyJournalCommit (ok : Bool) (s : State) : Host.Outcome State Fault Refusal :=
  .next (match s.vaultUp, s.crypt.change with
    | true, some c =>
      let s := s.vaultDone
      if ok then
        let s : State := { s with crypt := { s.crypt with change := none, kjSeq := wrap32 (s.crypt.kjSeq + 2) } }
        let r := (s.journalRecords 4).applyChange c
        r.1.completeCmd c.f r.2
      else
        let s : State := { s with crypt := { s.crypt with kjWrFail := sat 0xFFFF (s.crypt.kjWrFail + 1) } }
        if c.fails < 3 then
          ({ s with crypt := { s.crypt with change := some { c with fails := c.fails + 1 } } } : State).journalRecords 1
        else s.dropChange c
    | _, _ => s)

end Sys2Proof.Machine
end

