-- ==== Sys2Proof/Machine/Units.lean ====
section
/-! DEFINITION. Machine/Units.lean: health of the PUF, the key store's re-masking, self-tests, the DRBG (R296, R298 to R300, R309,
R316, R319). -/

namespace Sys2Proof.Machine

/-! ## The PUF (R296, R298 to R300) -/

/-- PUF_DL_MEASURE (R37, R40, R298): the hourly evaluation of the delay-line PUF; `e` is e_D. Above its threshold EV572, and the third in a
row makes a re-enrolment due. -/
def execPufDlMeasure (e : Nat) (s : State) : Host.Outcome State Fault Refusal :=
  .next (if s.background = false ∨ s.crypt.root = none then s
  else if e < 8 then { s with crypt := { s.crypt with dlErr := e, dlTrip := 0 } }
  else
    let trip := sat 15 (s.crypt.dlTrip + 1)
    ({ s with crypt := { s.crypt with dlErr := e, dlTrip := trip, due := s.crypt.due || decide (3 ≤ trip) } } : State).raise 572 0)

/-- 30 days on the RTC, KEEP ticks. -/
def thirtyDays : Nat := 30 * 86400 * 32768

/-- A re-enrolment may run now (R296, R299): it is due, the secret bits are still held, and 30 days have passed since the last. -/
def State.reenrolReady (s : State) : Bool :=
  s.powered && !s.vault.parts[0].failed && (s.crypt.due || s.crypt.dueNow) && !s.crypt.reFailed && s.crypt.root.isSome &&
    (s.crypt.dueNow || (match s.crypt.enrolAt with | some t => decide (thirtyDays ≤ s.rtcTicks - t) | none => true))

/-- OTP_HELPER_BURN (R300): the next free OTP helper slot takes the new record where the newest OTP record is worn; `ok` false where
a bit fails (R326). -/
def State.burnHelper (s : State) (h : Helper) (ok : Bool) : State :=
  if ¬(7 ≤ s.crypt.otpErrS ∨ 13 ≤ s.crypt.otpErrD) ∨ 3 ≤ s.otpUsed then s
  else if ok then (s.updOtp (fun o => { o with helpers := o.helpers.set s.otpUsed (some h) })).raise 574 0
  else s.otpFail

/-- REENROL (R299, R300): `ok` where the new record decodes against the capture and a fresh evaluation; `otp` where the bits of a
helper slot are programmed. -/
def execReenrol (ok otp : Bool) (s : State) : Host.Outcome State Fault Refusal :=
  .next (match s.reenrolReady, s.crypt.buffers with
    | true, some m =>
      if ok = false then { s with crypt := { s.crypt with reFailed := true } }
      else
        let last := match s.crypt.helpers.getLast? with | some h => h.seq | none => 0
        let h : Helper := { seq := wrap32 (last + 1), region := (s.crypt.region + 1) % 12, origin := 1, secret := m }
        let s : State := { s with crypt := { s.crypt with
          helpers := s.crypt.helpers ++ [h], enrolAt := some s.rtcTicks, due := false, dueNow := false } }
        (s.raise 573 0).burnHelper h otp
    | _, _ => s)

/-- PUF_BUFFER_CLEAR (R296): 60 s after GUARD entry the decoded secret bits are cleared. -/
def execPufBufferClear (s : State) : Host.Outcome State Fault Refusal :=
  .next (if s.powered then { s with crypt := { s.crypt with buffers := none } } else s)

/-! ## Re-masking (R309) -/

/-- Both shares XORed with one value: the key stays (R309). -/
def Cask.remask (c : Cask) (m : BitVec 512) : Cask := { c with share0 := c.share0 ^^^ m, share1 := c.share1 ^^^ m }

/-- CASK_REMASK (R37, R40, R309): every Cask under a fresh value of its own; the masking generator is reseeded from the DRBG. Not in
LOCKDOWN, which has scrubbing only. -/
def execCaskRemask (s : State) : Host.Outcome State Fault Refusal :=
  .next (if s.powered = false ∨ s.plat.mode = .lockdown then s
  else
    let r := s.rand 8192
    let mask := fun (i : Nat) => BitVec.ofNat 512 (leNat (bytesAt r (64 * i) 64))
    let t := s.drawn
    { t with crypt := { t.crypt with casks := t.crypt.casks.mapIdx (fun i c => c.remask (mask i)) } })

/-! ## Engines and lanes (R316) -/

/-- The next unit in rotation from `k` of `n` that is in service. -/
def nextUnit (l : List EngineSt) (n k : Nat) : Option Nat :=
  ((List.range n).map (fun i => (k + i) % n)).find? (fun i => decide (l.getD i .out = .inService ∨ l.getD i .out = .derated))

/-- PERIODIC_SELF_TEST (R40, R316): the next Press engine, or AES lane, in rotation takes no new job. Units 8 to 11 are the lanes. -/
def execPeriodicSelfTest (lane : Bool) (s : State) : Host.Outcome State Fault Refusal :=
  .next (if s.background = false ∨ s.crypt.draining.isSome = true then s
  else if lane then
    match nextUnit s.crypt.lanes 4 s.crypt.nextLane with
    | some l => { s with crypt := { s.crypt with draining := some (8 + l), nextLane := (l + 1) % 4 } }
    | none => s
  else
    match nextUnit s.press.engines 8 s.crypt.nextEngine with
    | some e => { s with crypt := { s.crypt with draining := some e, nextEngine := (e + 1) % 8 } }
    | none => s)

/-- SELF_TEST_DRAIN_END (R316): jobs still open restart on other engines, and the known-answer tests run; `pass` where they, or
their repetition, pass: EV586. A second failure makes the unit OUT. -/
def execSelfTestDrainEnd (pass : Bool) (s : State) : Host.Outcome State Fault Refusal :=
  .next (match s.powered, s.crypt.draining with
    | true, some u =>
      let s : State := { s with crypt := { s.crypt with draining := none } }
      if u < 8 then
        let was := s.press.engines.getD u .out
        let s := s.setEngine u .selfTest
        if pass then (s.setEngine u was).raise 586 u else (s.setEngine u .out).raise (544 + u) u
      else
        let l := u - 8
        if pass then s.raise 586 l else (s.setLane l .out).raise (560 + l) l
    | _, _ => s)

/-- ENGINE_DERATE (R316): the critical-path monitor of an engine reports low margin: half rate with EV(552 + e), or OUT with
EV(544 + e) where CRYPTO.CFG.DERATEEN is 0. -/
def execEngineDerate (e : Fin 8) (s : State) : Host.Outcome State Fault Refusal :=
  .next (if s.powered = false ∨ s.press.engines.getD e.val .out ≠ .inService then s
  else if bit (s.cfg 0x2610) 23 then (s.setEngine e.val .derated).raise (552 + e.val) e.val
  else (s.setEngine e.val .out).raise (544 + e.val) e.val)

/-- ENGINE_RESTORE (R316): 600 s of good margin. -/
def execEngineRestore (e : Fin 8) (s : State) : Host.Outcome State Fault Refusal :=
  .next (if s.powered ∧ s.press.engines.getD e.val .out = .derated then s.setEngine e.val .inService else s)

/-! ## The DRBG (R319) -/

/-- Fresh entropy enters the DRBG: its requests are counted anew. -/
def State.seedDrbg (s : State) : State := { s with crypt := { s.crypt with draws := s.crypt.draws + 1, requests := 0 } }

/-- DRBG_RESEED (R319). -/
def execDrbgReseed (s : State) : Host.Outcome State Fault Refusal :=
  .next (if s.powered = false ∨ s.crypt.rngSt ≠ 1 then s
  else
    let s := s.seedDrbg
    ({ s with crypt := { s.crypt with reseeds := (s.crypt.reseeds + 1) % 256 } } : State).raise 568 0)

/-- FAB cycles in one second. -/
def secondCycles : Nat := 600000000

/-- ENTROPY_TEST_FAIL (R319): a continuous test fails, EV566; the third within 1 s stops the DRBG, EV567. -/
def execEntropyTestFail (s : State) : Host.Outcome State Fault Refusal :=
  .next (if s.powered = false ∨ s.crypt.rngSt ≠ 1 then s
  else
    let recent := s.crypt.failTimes.filter (fun t => decide (s.time - t ≤ secondCycles)) ++ [s.time]
    let s := ({ s with crypt := { s.crypt with hfail := sat 255 (s.crypt.hfail + 1), failTimes := recent } } : State).raise 566 0
    if 3 ≤ recent.length then ({ s with crypt := { s.crypt with rngSt := 2, failTimes := [] } } : State).raise 567 0 else s)

/-- DRBG_REINSTANTIATE (R319): a stopped DRBG, or one a start could not instantiate, is instantiated again; `ok` where its start-up
test passes. -/
def execDrbgReinstantiate (ok : Bool) (s : State) : Host.Outcome State Fault Refusal :=
  .next (if s.powered = false ∨ (s.crypt.rngSt ≠ 2 ∧ s.plat.boot.rngHeld = false) then s
  else if ok = false then ({ s with crypt := { s.crypt with hfail := sat 255 (s.crypt.hfail + 1) } } : State).raise 566 0
  else
    let s := s.seedDrbg
    { s with
      crypt := { s.crypt with rngSt := 1 }
      plat := { s.plat with boot := { s.plat.boot with selfTest := s.plat.boot.selfTest || s.plat.boot.rngHeld, rngHeld := false } } })

end Sys2Proof.Machine
end

