-- ==== Sys2Proof/Machine/Lifecycle.lean ====
section
/-! DEFINITION. Machine/Lifecycle.lean: lifecycle transitions, owner and vendor slots, debug authorisation (R326 to R344). -/

namespace Sys2Proof.Machine

/-! ## Programming OTP (R326, R332) -/

/-- The lowest `k` one bits of a byte, and how many of the `k` are left. -/
def lowBits (b : Byte) (k : Nat) : Byte × Nat :=
  (List.range 8).foldl (fun (a : Byte × Nat) i => if b.getLsbD i ∧ 0 < a.2 then (a.1 ||| BitVec.ofNat 8 (2 ^ i), a.2 - 1) else a) (0#8, k)

/-- The bytes with their first `k` one bits alone. -/
def firstBits : List Byte → Nat → List Byte
  | [], _ => []
  | b :: r, k => (lowBits b k).1 :: firstBits r (lowBits b k).2

/-- One bits of bytes. -/
def bitCount (bs : List Byte) : Nat := (bs.map (fun b => ((List.range 8).filter (fun i => b.getLsbD i)).length)).sum

/-- Bits programmed in order, lowest first (R326, R332): what is programmed, and whether all of it is. `stop`: the number of bits
that verify before one does not. -/
def burn (bs : List Byte) (stop : Option Nat) : List Byte × Bool :=
  match stop with
  | none => (bs, true)
  | some k => if bitCount bs ≤ k then (bs, true) else (firstBits bs k, false)

/-- A vendor or owner digest slot takes bytes. -/
def orSlot (slots : List Nat) (k : Nat) (bs : List Byte) : List Nat := slots.set k ((slots.getD k 0) ||| beNat bs)

/-- W_TEST programmed. -/
def State.burnTest (s : State) (stop : Option Nat) : State × Bool :=
  let r := burn (leBytes 2 (patTest &&& ~~~s.life.otp.wTest).toNat) stop
  (s.updOtp (fun o => { o with wTest := o.wTest ||| BitVec.ofNat 16 (leNat r.1) }), r.2)

/-- W_PROD programmed. -/
def State.burnProd (s : State) (stop : Option Nat) : State × Bool :=
  let r := burn (leBytes 2 (patProd &&& ~~~s.life.otp.wProd).toNat) stop
  (s.updOtp (fun o => { o with wProd := o.wProd ||| BitVec.ofNat 16 (leNat r.1) }), r.2)

/-- W_EOL programmed, then every PUF-invalidate fuse; EV821 once the fuses are burned. -/
def State.burnEol (s : State) (stop : Option Nat) : State × Bool :=
  let r := burn (leBytes 2 (patEol &&& ~~~s.life.otp.wEol).toNat ++ leBytes 1 (~~~s.life.otp.fuses).toNat) stop
  let s := s.updOtp (fun o => { o with wEol := o.wEol ||| BitVec.ofNat 16 (leNat (r.1.take 2)), fuses := o.fuses ||| BitVec.ofNat 8 (leNat (r.1.drop 2)) })
  (s.raiseIf r.2 821 0, r.2)

/-! ## Authorities (R329 to R331, R334) -/

/-- Two signatures by the keys SIGNPUB lists, from the digests of vendor slots: one ECDSA P-384, one ML-DSA-87 (R283, R329). -/
def State.vendorSigned (s : State) (signers : List OwnerPub) (sigs : List Sig) : Bool :=
  let by_ := fun (g : Sig) => g.valid && signers.any (fun o => decide (keyIdOf o.digest = g.keyId))
  signers.all (fun o => decide (s.vendorDigest o.slot = some o.digest)) &&
    sigs.any (fun g => by_ g && decide (g.alg = -35)) && sigs.any (fun g => by_ g && decide (g.alg = -65603))

/-- Two signatures under R271 by owner keys of OTP (R329). -/
def State.ownerSigned (s : State) (signers : List OwnerPub) (sigs : List Sig) : Bool := s.ownersInOtp signers && ownerSigs signers sigs

/-- A listed vendor slot is revoked. -/
def State.vendorsRevoked (s : State) (signers : List OwnerPub) : Bool := signers.any (fun o => s.vendorRevoked o.slot)

/-- Who must sign, and whether a slot of a signer is revoked (R330). -/
inductive Authority where
  | vendor | owner | claim | none
deriving DecidableEq, Repr

/-- A signing slot is revoked (R331). -/
def State.signerRevoked (s : State) (a : Authority) (t : LcToken) : Bool :=
  match a with
  | .vendor => s.vendorsRevoked t.signers
  | .owner => s.ownersRevoked t.signers
  | _ => false

/-- The signatures are valid under an authority (R330, R331). The two keys of KEYS sign an OWNER_CLAIM themselves. -/
def State.signedBy (s : State) (a : Authority) (t : LcToken) : Bool :=
  match a with
  | .vendor => s.vendorSigned t.signers t.sigs
  | .owner => s.ownerSigned t.signers t.sigs
  | .claim => decide (t.keys.length = 2) && ownerSigs (t.keys.map (fun k => ⟨k.slot, k.digest⟩)) t.sigs
  | .none => true

/-- A lifecycle or OTP write is in progress (R331): a Vintage burn of several steps. -/
def State.otpBusy (s : State) : Bool :=
  decide (s.ident.fwState = .burning) || allCh.any (fun n => allSlots.any (fun k => decide (((s.chan n).slot k).upd = .burning)))

/-- Modes of LIFECYCLE (R331). -/
def State.lcMode (s : State) : Bool := s.sealMode || decide (s.plat.mode = .hold)

/-- A token's checks in the order of R331, then the programming; a bit that fails, or a PKU that faults twice, completes with DEVICE_FAULT
(R318, R326). -/
def State.lcReply (s : State) (len : Nat) (t : LcToken) (modeOk : Bool) (a : Authority) (accepted : Bool)
    (program : State → State × Bool) : State × Reply :=
  if modeOk = false then (s, reply .notPermitted)
  else if len = 0 then (s, reply .noop)
  else if s.otpBusy then (s, reply .busyRetry)
  else if 65536 < len then (s, badField 24)
  else if t.wellFormed = false ∨ t.ctype ≠ 7 ∨ t.format ≠ 1 then (s, badField 16)
  else
    let fresh := decide (t.unitid = some s.unitid) && decide (s.ident.nonce = some t.nonce)
    let s := s.useNonce
    if fresh = false then (s, reply .verifyFail)
    else if s.signerRevoked a t then (s, reply .keyRevoked)
    else
    let v := s.pkuRun
    let s := v.1
    if v.2 = false then (s, reply .deviceFault)
    else if s.signedBy a t = false then (s, reply .verifyFail)
    else if accepted = false then (s, reply .notPermitted)
    else
      let r := program s
      if r.2 then (r.1, reply .ok) else (r.1.otpFail, reply .deviceFault)

/-- The restart a transition ends with (R332): CAUSE 0x02 for the host and the TAP, 0x03 for the sideband. -/
def State.pathRestart (s : State) (src : Src) : State :=
  match src with
  | .side _ => s.deviceRestart 3 0x10#32 true
  | _ => s.deviceRestart 2 0x8#32 true

/-- Programming was begun from a state: the PKU did not end the checks, and it is complete, or stopped (R318, R332). -/
def State.programBegan (s : State) (r : Option Reply) : Bool :=
  decide (s.crypt.pkuNext < 2) && (match r with | some x => decide (x.st = .ok ∨ x.st = .deviceFault) | none => false)

/-- A transition has been verified to its last bit: the next start raises EV1016. -/
def markMoved (r : State × Bool) : State × Bool := (if r.2 then { r.1 with life := { r.1.life with moved := true } } else r.1, r.2)

/-- A lifecycle transition: LIFECYCLE, then the restart (R330 to R332). -/
def State.transition (s : State) (src : Src) (len : Nat) (t : LcToken) (a : Authority) (accepted : Bool) (program : State → State × Bool) : State :=
  let u := s.command src 0x29 (fun s => s.lcReply len t s.lcMode a accepted (fun s => markMoved (program s)))
  if s.programBegan u.2 then u.1.pathRestart src else u.1

/-! ## Lifecycle transitions (R330) -/

/-- ENTER_TEST (R330), through the TAP only. A LIFECYCLE token whose ACTION is none of R330's comes here too and is refused by check
6; one with another row's ACTION is that row's command. -/
def execEnterTest (src : Src) (len : Nat) (t : LcToken) (stop : Option Nat) (s : State) : Host.Outcome State Fault Refusal :=
  .next (if 2 ≤ t.action ∧ t.action ≤ 8 then s
  else s.transition src len t .vendor (decide (t.action = 1 ∧ src = .tap ∧ s.lifeCode = 0)) (fun s => s.burnTest stop))

/-- ENTER_PRODUCTION (R330). -/
def execEnterProduction (src : Src) (len : Nat) (t : LcToken) (stop : Option Nat) (s : State) : Host.Outcome State Fault Refusal :=
  .next (if t.action = 2 then s.transition src len t .vendor (decide (s.lifeCode = 1)) (fun s => s.burnProd stop) else s)

/-- ENTER_EOL (R330): vendor-signed in TEST, owner-signed in PRODUCTION. -/
def execEnterEol (src : Src) (len : Nat) (t : LcToken) (stop : Option Nat) (s : State) : Host.Outcome State Fault Refusal :=
  .next (if t.action = 3 then
    s.transition src len t (if s.lifeCode = 1 then .vendor else .owner) (decide (s.lifeCode = 1 ∨ s.lifeCode = 2)) (fun s => s.burnEol stop)
  else s)

/-! ## Owner and vendor slots, subsystem IDs (R330) -/

/-- An action without a restart (R332). -/
def State.slotAction (s : State) (src : Src) (len : Nat) (t : LcToken) (a : Authority) (accepted : Bool) (program : State → State × Bool) : State :=
  (s.command src 0x29 (fun s => s.lcReply len t s.lcMode a accepted program)).1

/-- An owner slot exists and is unprogrammed. -/
def State.ownerBlank (s : State) (k : Nat) : Bool := decide (k < 8) && decide (s.ownerDigest k = none)

/-- Digests programmed into owner slots, in the order of their places (R326, R332); EV825 for each slot. -/
def State.burnOwners (s : State) (ks : List KeyEnt) (stop : Option Nat) : State × Bool :=
  let r := burn (ks.flatMap (fun k => digBytes k.digest)) stop
  let owners := (List.range ks.length).foldl (fun o i =>
    orSlot o ((ks.map (fun k => k.slot)).getD i 0) (bytesAt r.1 (48 * i) 48)) s.life.otp.owners
  let s := s.updOtp (fun o => { o with owners := owners })
  (if r.2 then ks.foldl (fun s _ => s.raise 825 0) s else s, r.2)

/-- KEYS in the order of their slots. -/
def sortKeys (ks : List KeyEnt) : List KeyEnt :=
  match ks with
  | [a, b] => if b.slot < a.slot then [b, a] else [a, b]
  | l => l

/-- The two keys of KEYS: one classical, one post-quantum (R330). -/
def claimAlgs (ks : List KeyEnt) : Bool :=
  ks.any (fun k => decide (k.alg = -35)) && ks.any (fun k => decide (k.alg = -65602 ∨ k.alg = -65603 ∨ k.alg = -46))

/-- OWNER_CLAIM (R330). -/
def execOwnerClaim (src : Src) (len : Nat) (t : LcToken) (stop : Option Nat) (s : State) : Host.Outcome State Fault Refusal :=
  .next (if t.action = 4 then
    let ks := sortKeys t.keys
    let accepted := decide (s.lifeCode = 2) && (List.range 8).all s.ownerBlank && claimAlgs ks &&
      (match ks with | [a, b] => decide (a.slot ≠ b.slot ∧ a.slot < 8 ∧ b.slot < 8) | _ => false)
    s.slotAction src len t .claim accepted (fun s => s.burnOwners ks stop)
  else s)

/-- OWNER_ADD (R330). -/
def execOwnerAdd (src : Src) (len : Nat) (t : LcToken) (stop : Option Nat) (s : State) : Host.Outcome State Fault Refusal :=
  .next (if t.action = 5 then
    let accepted := decide (s.lifeCode = 2) && (match t.keys with | [a] => s.ownerBlank a.slot | _ => false)
    s.slotAction src len t .owner accepted (fun s => s.burnOwners t.keys stop)
  else s)

/-- Every signer's slot lies outside TARGET, which leaves the signers' two kinds of key in force (R330), and TARGET names slots that
exist. -/
def targetOk (slots : Nat) (t : LcToken) : Bool := decide (t.target < 2 ^ slots) && t.signers.all (fun o => !t.target.testBit o.slot)

/-- Revoke bits programmed; EV826 for each slot. -/
def State.burnRevoke (s : State) (vendor : Bool) (target : Nat) (stop : Option Nat) : State × Bool :=
  let old := if vendor then s.life.otp.vrev.toNat else s.life.otp.orev.toNat
  let new := (BitVec.ofNat 8 target) &&& ~~~(BitVec.ofNat 8 old)
  let r := burn [new] stop
  let s := s.updOtp (fun o =>
    if vendor then { o with vrev := o.vrev ||| BitVec.ofNat 4 (leNat r.1) } else { o with orev := o.orev ||| BitVec.ofNat 8 (leNat r.1) })
  (if r.2 then ((List.range 8).filter (fun k => new.getLsbD k)).foldl (fun s _ => s.raise 826 0) s else s, r.2)

/-- OWNER_REVOKE (R330). -/
def execOwnerRevoke (src : Src) (len : Nat) (t : LcToken) (stop : Option Nat) (s : State) : Host.Outcome State Fault Refusal :=
  .next (if t.action = 6 then
    s.slotAction src len t .owner (decide (s.lifeCode = 2) && targetOk 8 t) (fun s => s.burnRevoke false t.target stop)
  else s)

/-- SSVID, SSID, then WRITTEN programmed; EV825. -/
def State.burnSubsys (s : State) (ssvid ssid : Nat) (stop : Option Nat) : State × Bool :=
  let r := burn (leBytes 2 ssvid ++ leBytes 2 ssid ++ leBytes 1 0xA5) stop
  let s := s.updOtp (fun o => { o with
    ssvid := o.ssvid ||| leNat (bytesAt r.1 0 2), ssid := o.ssid ||| leNat (bytesAt r.1 2 2), written := o.written ||| leNat (bytesAt r.1 4 1) })
  (s.raiseIf r.2 825 0, r.2)

/-- SET_SUBSYS (R330). -/
def execSetSubsys (src : Src) (len : Nat) (t : LcToken) (stop : Option Nat) (s : State) : Host.Outcome State Fault Refusal :=
  .next (if t.action = 7 then
    s.slotAction src len t .owner (decide (s.lifeCode = 2 ∧ s.life.otp.written ≠ 0xA5)) (fun s => s.burnSubsys t.ssvid t.ssid stop)
  else s)

/-- VENDOR_REVOKE (R330). -/
def execVendorRevoke (src : Src) (len : Nat) (t : LcToken) (stop : Option Nat) (s : State) : Host.Outcome State Fault Refusal :=
  .next (if t.action = 8 then
    s.slotAction src len t .vendor (decide (s.lifeCode = 1 ∨ s.lifeCode = 2) && targetOk 4 t) (fun s => s.burnRevoke true t.target stop)
  else s)

/-! ## COMPLETE_TRANSITION (R333) -/

/-- The partial word that a COMPLETE_TRANSITION may complete, and the authority it needs (R333): 1 W_TEST, 2 W_PROD, 3 W_EOL. -/
def Otp.completable (o : Otp) : Option (Nat × Authority) :=
  if partialWord o.wTest patTest ∧ o.wProd = 0#16 ∧ o.wEol = 0#16 then some (1, .vendor)
  else if partialWord o.wProd patProd ∧ o.wTest = patTest ∧ o.wEol = 0#16 then some (2, .vendor)
  else if partialWord o.wEol patEol then
    match lcCode o.wTest o.wProd 0#16 with
    | 1 => some (3, .vendor)
    | 2 => some (3, .owner)
    | _ => none
  else none

/-- The missing bits of a word programmed. -/
def State.burnWord (s : State) (w : Nat) (stop : Option Nat) : State × Bool :=
  if w = 1 then s.burnTest stop else if w = 2 then s.burnProd stop else s.burnEol stop

/-- COMPLETE_TRANSITION (R333): in LOCKDOWN with CAUSE 0x13; the device restarts with CAUSE 0x0D. -/
def execCompleteTransition (src : Src) (len : Nat) (t : LcToken) (stop : Option Nat) (s : State) : Host.Outcome State Fault Refusal :=
  .next (
    let w := s.life.otp.completable
    let u := s.command src 0x2A (fun s =>
      s.lcReply len t (decide (s.plat.mode = .lockdown ∧ s.plat.cause = 0x13)) (match w with | some (_, a) => a | none => .none)
        (decide (t.action = 9) && w.isSome)
        (fun s => markMoved (s.burnWord (match w with | some (k, _) => k | none => 0) stop)))
    if s.programBegan u.2 then u.1.deviceRestart 0xD 0x40#32 true else u.1)

/-! ## DEBUG_OPEN (R339 to R344) -/

/-- A rejection: EV824, LASTREJ and REJECTS (R342, R353). -/
def State.rejectDebug (s : State) (check : Nat) : State :=
  ({ s with life := { s.life with rejects := sat 255 (s.life.rejects + 1), lastRej := check } } : State).raise 824 0

/-- Check 5's first half: a signing slot of a token is revoked, by its role (R339, R342). -/
def State.dbgRevoked (s : State) (t : DbgToken) : Bool :=
  if t.role = 1 ∨ t.role = 4 then s.ownersRevoked t.signers else s.vendorsRevoked t.signers

/-- Check 5's second half: a token's signatures are valid for its role (R339). -/
def State.dbgSigned (s : State) (t : DbgToken) : Bool :=
  if t.role = 1 ∨ t.role = 4 then s.ownerSigned t.signers t.sigs
  else if t.role = 2 ∨ t.role = 3 then s.vendorSigned t.signers t.sigs
  else false

/-- The RMA token and its consent, whichever comes first (R339, R340). -/
def rmaPair (a b : DbgToken) : Bool :=
  let pair := fun (r c : DbgToken) => decide (r.role = 3 ∧ c.role = 4 ∧ r.scope = 3 ∧ c.scope = 3 ∧ r.consentDig = c.digest)
  pair a b || pair b a

/-- The scope and role that tokens open in a lifecycle state (R340). -/
def debugGrant (lc : Nat) (ts : List DbgToken) : Option (Nat × Nat) :=
  match lc, ts with
  | 1, [t] => if t.role = 2 ∧ t.scope = 3 then some (3, 2) else none
  | 2, [t] => if t.role = 1 ∧ (t.scope = 1 ∨ t.scope = 2) then some (t.scope, 1) else none
  | 2, [a, b] => if rmaPair a b then some (3, 3) else none
  | _, _ => none

/-- The widest scope that tokens ask for. -/
def askedScope (ts : List DbgToken) : Nat := ts.foldl (fun a t => max a t.scope) 0

/-- The checks of R342 in order: the check that fails and its status, or the grant. -/
def State.debugCheck (s : State) (lenOk : Bool) (ts : List DbgToken) : (Nat × Status) × Option (Nat × Nat) :=
  if s.lifeCode = 0 then ((0, .noop), none)
  else if ¬(s.lifeCode = 1 ∨ s.lifeCode = 2) ∨ s.plat.mode = .lockdown then ((1, .notPermitted), none)
  else if s.life.debugOpen = true ∧ askedScope ts ≤ s.life.scope then ((0, .noop), none)
  else if lenOk = false ∨ ts.all (fun t => t.wellFormed && decide (t.ctype = 6 ∧ t.format = 1)) = false then ((3, .invalidField), none)
  else if ts.all (fun t => decide (t.unitid = some s.unitid) && decide (s.ident.nonce = some t.nonce)) = false then ((4, .verifyFail), none)
  else if ts.any s.dbgRevoked then ((5, .keyRevoked), none)
  else if ts.all s.dbgSigned = false then ((5, .verifyFail), none)
  else
    match debugGrant s.lifeCode ts with
    | none => ((6, .notPermitted), none)
    | some g => ((0, .ok), some g)

/-- DEBUG_OPEN's work (R318, R342): a second fault of the PKU rejects it at check 5 with DEVICE_FAULT; the nonce is consumed from check 4 on; in TEST debug opens at once, in PRODUCTION the latch is set. -/
def State.debugReply (s : State) (len : Nat) (lenOk : Bool) (ts : List DbgToken) : State × Reply :=
  if len = 0 then (s, reply .noop)
  else
    let c := s.debugCheck lenOk ts
    let t := if 4 ≤ c.1.1 ∨ c.2.isSome then s.useNonce else s
    let v := t.withPku (c.2.isSome || decide (c.1 = (5, .verifyFail)) || decide (c.1.1 = 6)) (fun u => (u, .ok))
    let t := v.1
    if v.2 ≠ .ok then (t.rejectDebug 5, reply v.2) else
    match c.2 with
    | some g =>
      if s.lifeCode = 1 then
        (({ t with life := { t.life with debugOpen := true, scope := g.1, role := g.2 } } : State).raise 823 0, reply .ok)
      else
        ({ t with
           keeper := { t.keeper with dbgLatch := true }
           life := { t.life with scope := g.1, role := g.2 } }, reply .ok)
    | none =>
      (if c.1.1 = 0 then t else t.rejectDebug c.1.1, if c.1.2 = .invalidField then badField 16 else reply c.1.2)

/-- A command that comes by a path reaches its checks. -/
def State.arrives (s : State) (src : Src) (opcode : Nat) : Bool :=
  match src with
  | .host cid => (s.adminHead cid opcode).isSome && s.serving && s.busOk
  | .side _ => s.serving
  | .tap => s.powered

/-- DEBUG_OPEN (R339 to R344): the first token with its length T1, the second with T2 where there is one. In PRODUCTION the device
restarts and the start opens debug. In LOCKDOWN check 1 fails. -/
def execDebugOpen (src : Src) (len t1 : Nat) (a : DbgToken) (second : Option (Nat × DbgToken)) (s : State) : Host.Outcome State Fault Refusal :=
  .next (
    let lenOk := match second with | none => decide (len = 4 + t1) | some (t2, _) => decide (len = 8 + t1 + t2)
    let ts := match second with | none => [a] | some (_, b) => [a, b]
    let v := if s.plat.mode = .lockdown ∧ s.arrives src 0x28 = true then s.rejectDebug 1 else s
    let u := v.command src 0x28 (fun s => s.debugReply len lenOk ts)
    if replyOk u.2 = true ∧ s.lifeCode = 2 then u.1.pathRestart src else u.1)

end Sys2Proof.Machine
end

