-- ==== Sys2Proof/Machine/Sideband.lean ====
section
/-! DEFINITION. Machine/Sideband.lean: the sideband ports: the register window, MCTP packets, I3C common command codes (R403 to
R411). -/

namespace Sys2Proof.Machine

/-! ## The ports (R403, R404, R405) -/

/-- A port answers its address (R403): power, firmware or the mask ROM service, and a mode. -/
def State.portOn (s : State) (p : Nat) : Bool :=
  s.powered && (s.plat.fwRuns || s.plat.romsvc) && decide (s.sbMode p = 1 ∨ s.sbMode p = 2)

/-- The static address (R403). -/
def State.sbStatic (s : State) : Nat := 0x5C + s.side.addrSel % 4

/-- The address a port answers to (R405): on I3C the dynamic one it holds. -/
def State.sbAddr (s : State) (p : Nat) : Nat := if s.sbMode p = 2 then ((s.sb p).dyn.getD s.sbStatic) else s.sbStatic

/-- A bit of SIDE.STATp set. -/
def State.sideBit (s : State) (p k : Nat) : State := s.setSticky (0x2A04 + 4 * p) (word (2 ^ k))

/-- Bits of SIDE.STATp that a window transaction sets, and its one window event (R409); a PEC error has its own event as well. -/
def State.windowEnd (s : State) (p : Nat) (bits : List Nat) : State :=
  if bits = [] then s
  else
    let s := bits.foldl (fun (s : State) k => s.sideBit p k) s
    (s.raiseIf (bits.contains 28) (992 + p) 0).raise (994 + p) 0

/-! ## The register window (R406 to R410) -/

/-- The CRC-8 of SMBus over bytes. -/
def crc8 (bs : List Byte) : Byte :=
  bs.foldl (fun c b => (List.range 8).foldl (fun (c : Byte) _ => if c.getLsbD 7 then (c <<< 1) ^^^ 0x07#8 else c <<< 1) (c ^^^ b)) 0#8

/-- SIDE.CFG bits of a port (R422). -/
def State.sbCfg (s : State) (p k : Nat) : Bool := bit (s.cfg 0x2A00) (8 * p + k)

/-- A window command is refused or badly formed before it names data (R404, R406, R409): the bit it sets. -/
def State.windowBad (s : State) (p n : Nat) : Option Nat :=
  if s.sbCfg p 3 = false then some 26 else if 32 < n then some 27 else none

/-- In SMBus mode a bad command is not acknowledged (R404, R406). -/
def State.nack (s : State) (p : Nat) : State := if s.sbMode p = 1 then s.emit (.sideNack p) else s

/-- The words of window BANK that bytes OFFSET to OFFSET + n − 1 touch, below 0x100. -/
def touched (off n : Nat) : List Nat := (List.range 64).filter (fun w => decide (off < 4 * w + 4 ∧ 4 * w < off + n))

/-- A register read through the window: sampled once, with the read's side effects (R407). Windows 0x30 and above read 0. -/
def State.windowWord (s : State) (bank w : Nat) : State × List Byte :=
  if 0x30 ≤ bank then (s, wordBytes 0#32)
  else
    let off := 256 * bank + 4 * w
    let u := s.sampleFor .side off
    (u.afterRead .side off, wordBytes (u.readWord .side off))

/-- The words of a window read in order. -/
def State.windowWords (s : State) (bank : Nat) : List Nat → State × List Byte
  | [] => (s, [])
  | w :: r =>
    let a := s.windowWord bank w
    let b := a.1.windowWords bank r
    (b.1, a.2 ++ b.2)

/-- WINDOW_READ (R406, R407): N bytes of window BANK from OFFSET, 0xFF past its end, then the PEC where it is enabled. -/
def execWindowRead (p : Fin 2) (bank off n : Nat) (s : State) : Host.Outcome State Fault Refusal :=
  .next (
    let off := off % 256
    if s.portOn p.val = false then s
    else
      match s.windowBad p.val n with
      | some k => (s.nack p.val).windowEnd p.val [k]
      | none =>
        if n = 0 then s
        else
          let r := s.windowWords bank (touched off n)
          let body := (r.2.drop (off % 4)).take (min n (256 - off))
          let bytes := body ++ List.replicate (n - body.length) 0xFF#8
          let a := s.sbAddr p.val
          let pec := crc8 (leBytes 1 (2 * a) ++ [0xA0#8] ++ leBytes 1 bank ++ leBytes 1 off ++ leBytes 1 n ++ leBytes 1 (2 * a + 1) ++ bytes)
          (r.1.emit (.side p.val (bytes ++ (if s.sbCfg p.val 2 then [pec] else [])))).windowEnd p.val (if 256 < off + n then [31] else []))

/-- Window writes are limited to the stop registers and W1C of SIDE.STATp (R409). -/
def State.windowRo (s : State) (p : Nat) : Bool := s.sbCfg p 4 || decide (s.plat.mode = .lockdown) || s.plat.romsvc

/-- A register that a limited window may write: PLAT.URGENT, WDT.SBSVCm, SIDE.STATp (R409). -/
def windowFree (off : Nat) : Bool :=
  decide (off = 0x340) || decide (0x680 ≤ off ∧ off < 0x700 ∧ off % 16 = 12) || decide (off = 0x2A04 ∨ off = 0x2A08)

/-- WINDOW_WRITE (R406, R408, R409): the data bytes are applied at the final acknowledgement, whole registers in ascending order;
`pecOk` where the PEC matches. -/
def execWindowWrite (p : Fin 2) (bank off n : Nat) (data : List Byte) (pecOk : Bool) (s : State) : Host.Outcome State Fault Refusal :=
  .next (
    let off := off % 256
    if s.portOn p.val = false then s
    else
      match s.windowBad p.val n with
      | some k => (s.nack p.val).windowEnd p.val [k]
      | none =>
        if n = 0 then s
        else if data.length < n then s.windowEnd p.val [27]
        else if s.sbCfg p.val 2 = true ∧ pecOk = false then (s.nack p.val).windowEnd p.val [28]
        else
          let ws := touched off n
          let whole := ws.filter (fun w => decide (off ≤ 4 * w ∧ 4 * w + 4 ≤ off + n))
          let at_ := fun (w : Nat) => 256 * bank + 4 * w
          let open_ := whole.filter (fun w => !s.windowRo p.val || windowFree (at_ w))
          let t := (if 0x30 ≤ bank then [] else open_).foldl
            (fun (s : State) w => s.busWrite .side (at_ w) (wordAt data (4 * w - off))) s
          t.windowEnd p.val ((if whole.length < ws.length then [29] else []) ++ (if 256 < off + n then [30] else []) ++
            (if open_.length < whole.length then [26] else [])))

/-- SMBUS_TIMEOUT (R404): SCL low for 25 ms in SMBus mode: TIMEOUT, EV(996 + p). -/
def execSmbusTimeout (p : Fin 2) (s : State) : Host.Outcome State Fault Refusal :=
  .next (if s.portOn p.val ∧ s.sbMode p.val = 1 then (s.sideBit p.val 25).raise (996 + p.val) 0 else s)

/-! ## MCTP packets and messages (R224, R404, R405, R411, R413) -/

/-- A packet is dropped (R404, R411): MCTPDROP, EV(998 + p). -/
def State.mctpDrop (s : State) (p : Nat) : State := (s.sideBit p 24).raise (998 + p) 0

/-- MCTP_PACKET (R411): a packet of a message from an EID: `som` and `eom` mark its first and last, `type` is the first packet's
message type, `len` its payload of at most 64 bytes. The complete message joins the port's buffer of eight. -/
def execMctpPacket (p : Fin 2) (eid type len : Nat) (som eom : Bool) (s : State) : Host.Outcome State Fault Refusal :=
  .next (if s.portOn p.val = false then s
  else if s.sbCfg p.val 5 = false ∨ 8 ≤ (s.sb p.val).msgs.length then (s.nack p.val).mctpDrop p.val
  else if 64 < len then s
  else
    let held := if som then some (eid, type, len) else
      match (s.sb p.val).part with
      | some (e, t, k) => if e = eid ∧ k + len ≤ 4096 then some (e, t, k + len) else none
      | none => none
    match held, eom with
    | some (e, t, _), true => s.updSb p.val (fun z => { z with part := none, msgs := z.msgs ++ [(e, t)] })
    | h, _ => s.updSb p.val (fun z => { z with part := h }))

/-- A message type the transport accepts: control, SPDM, secured messages; on the sideband vendor messages as well (R224, R411). -/
def typeAccepted (tr type : Nat) : Bool := decide (type = 0 ∨ type = 5 ∨ type = 6) || (decide (tr ≠ 0) && decide (type = 0x7E))

/-- The packets of a message over VDM: each but the last carries the transmission unit of 64 bytes, and the message at most 4,096
(R224). -/
def vdmWhole (lens : List Nat) : Bool :=
  lens.dropLast.all (fun n => decide (n = 64)) && decide (1 ≤ lens.getLastD 0 ∧ lens.getLastD 0 ≤ 64 ∧ lens.sum ≤ 4096)

/-- MCTP_MESSAGE (R224, R411, R413): the Steward takes the oldest message of a sideband port (transport 1 or 2), or one reassembled
from the VDM packets given (transport 0), and dispatches it by type; any other type is discarded. -/
def execMctpMessage (tr type : Nat) (lens : List Nat) (s : State) : Host.Outcome State Fault Refusal :=
  .next (if s.serving = false then s
  else if tr = 0 then (if s.host.linkUp ∧ vdmWhole lens = true ∧ typeAccepted 0 type = true then s.emit (.dispatch type) else s)
  else
    match (s.sb (tr - 1)).msgs with
    | [] => s
    | (e, t) :: rest =>
      let s := s.updSb (tr - 1) (fun z => { z with msgs := rest })
      if typeAccepted tr t then
        ({ s with side := { s.side with now := some (tr - 1, e) } } : State).emit (.dispatch t)
      else s)

/-- SET_ENDPOINT_ID (R224, R411): the bus owner of a transport assigns the endpoint ID; 0 and 0xFF are no endpoint IDs (log entry
22). -/
def execSetEndpointId (tr eid : Nat) (s : State) : Host.Outcome State Fault Refusal :=
  .next (if s.serving = false ∨ eid = 0 ∨ 255 ≤ eid then s
  else if tr = 0 then (if s.host.linkUp then { s with host := { s.host with eid := eid } } else s)
  else s.updSb (tr - 1) (fun z => { z with eid := eid }))

/-- MCTP_RESPONSE_RETRY (R404): in SMBus mode an attempt to send the waiting response packet: `lost` where arbitration is lost. The
loss of the third retry drops it: MCTPDROP and the drop event, with the bus event for three lost retries. -/
def execMctpResponseRetry (p : Fin 2) (lost : Bool) (s : State) : Host.Outcome State Fault Refusal :=
  .next (match s.portOn p.val && decide (s.sbMode p.val = 1), (s.sb p.val).resp with
    | true, b :: rest =>
      if lost = false then (s.updSb p.val (fun z => { z with resp := rest, tries := 0 })).emit (.packet p.val b)
      else if (s.sb p.val).tries < 3 then s.updSb p.val (fun z => { z with tries := z.tries + 1 })
      else ((s.updSb p.val (fun z => { z with resp := rest, tries := 0 })).raise (996 + p.val) 0).mctpDrop p.val
    | _, _ => s)

/-- MCTP_PACKET_READ (R405): an I3C private read that starts with START returns the waiting packet, or one byte 0xFF. -/
def execMctpPacketRead (p : Fin 2) (s : State) : Host.Outcome State Fault Refusal :=
  .next (match s.portOn p.val && decide (s.sbMode p.val = 2), (s.sb p.val).resp with
    | true, b :: rest => (s.updSb p.val (fun z => { z with resp := rest, tries := 0 })).emit (.packet p.val b)
    | true, [] => s.emit (.side p.val [0xFF#8])
    | false, _ => s)

/-! ## I3C common command codes (R405) -/

/-- A port in I3C mode hears the bus. -/
def State.i3cOn (s : State) (p : Nat) : Bool := s.portOn p && decide (s.sbMode p = 2)

/-- A broadcast or a directed code that reaches a port: `addr` is none for a broadcast. -/
def State.i3c (s : State) (p : Nat) (addr : Option Nat) (k : State → State) : State :=
  if s.i3cOn p && (match addr with | some a => decide (a = s.sbAddr p) | none => true) then k s else s

/-- Bytes returned to a directed read. -/
def State.cccRead (s : State) (p addr : Nat) (bs : List Byte) : State := s.i3c p (some addr) (fun s => s.emit (.side p bs))

/-- ENTDAA: a port without a dynamic address takes the one assigned. -/
def execEntdaa (p : Fin 2) (addr : Nat) (s : State) : Host.Outcome State Fault Refusal :=
  .next (s.i3c p.val none (fun s => if (s.sb p.val).dyn.isSome then s else s.updSb p.val (fun z => { z with dyn := some (addr % 128) })))

/-- SETDASA: the static address names the port, which holds no dynamic address yet. -/
def execSetdasa (p : Fin 2) (addr new : Nat) (s : State) : Host.Outcome State Fault Refusal :=
  .next (s.i3c p.val (some addr) (fun s => if (s.sb p.val).dyn.isSome then s else s.updSb p.val (fun z => { z with dyn := some (new % 128) })))

/-- SETNEWDA: a new dynamic address for the one held. -/
def execSetnewda (p : Fin 2) (addr new : Nat) (s : State) : Host.Outcome State Fault Refusal :=
  .next (s.i3c p.val (some addr) (fun s => if (s.sb p.val).dyn.isSome then s.updSb p.val (fun z => { z with dyn := some (new % 128) }) else s))

/-- RSTDAA: the dynamic address and the endpoint ID are cleared (R405, R411). -/
def execRstdaa (p : Fin 2) (s : State) : Host.Outcome State Fault Refusal :=
  .next (s.i3c p.val none (fun s => s.updSb p.val (fun z => { z with dyn := none, eid := 0 })))

/-- ENEC: events enabled; `int` where the code names the in-band interrupt. -/
def execEnec (p : Fin 2) (addr : Option Nat) (int : Bool) (s : State) : Host.Outcome State Fault Refusal :=
  .next (s.i3c p.val addr (fun s => if int then s.updSb p.val (fun z => { z with ibi := true }) else s))

/-- DISEC: events disabled. -/
def execDisec (p : Fin 2) (addr : Option Nat) (int : Bool) (s : State) : Host.Outcome State Fault Refusal :=
  .next (s.i3c p.val addr (fun s => if int then s.updSb p.val (fun z => { z with ibi := false }) else s))

/-- The Provisional ID, most significant byte first: manufacturer, part, instance (R405; log entry 22). -/
def State.provisionalId (s : State) (p : Nat) : List Byte :=
  beBytes 6 (0x0A3D * 2 ^ 33 + 0x9600 * 2 ^ 16 + (2 * (s.side.addrSel % 4) + p) * 2 ^ 12)

/-- GETPID. -/
def execGetpid (p : Fin 2) (addr : Nat) (s : State) : Host.Outcome State Fault Refusal := .next (s.cccRead p.val addr (s.provisionalId p.val))

/-- GETBCR. -/
def execGetbcr (p : Fin 2) (addr : Nat) (s : State) : Host.Outcome State Fault Refusal := .next (s.cccRead p.val addr [0x06#8])

/-- GETDCR. -/
def execGetdcr (p : Fin 2) (addr : Nat) (s : State) : Host.Outcome State Fault Refusal := .next (s.cccRead p.val addr [0xCC#8])

/-- Two bytes that the spec leaves open, with the free value used up (log entry 2). -/
def State.freeRead (s : State) (p addr : Nat) : State :=
  if s.i3cOn p && decide (addr = s.sbAddr p) then (s.emit (.side p (leBytes 2 s.free.toNat))).bumpFree else s

/-- GETSTATUS: the spec gives the status no value (log entry 2). -/
def execGetstatus (p : Fin 2) (addr : Nat) (s : State) : Host.Outcome State Fault Refusal := .next (s.freeRead p.val addr)

/-- GETMXDS: the spec gives the data speed no value (log entry 2). -/
def execGetmxds (p : Fin 2) (addr : Nat) (s : State) : Host.Outcome State Fault Refusal := .next (s.freeRead p.val addr)

/-- GETMWL: the maximum write length, most significant byte first (log entry 22). -/
def execGetmwl (p : Fin 2) (addr : Nat) (s : State) : Host.Outcome State Fault Refusal := .next (s.cccRead p.val addr (beBytes 2 (s.sb p.val).mwl))

/-- SETMWL. -/
def execSetmwl (p : Fin 2) (addr : Option Nat) (v : Nat) (s : State) : Host.Outcome State Fault Refusal :=
  .next (s.i3c p.val addr (fun s => s.updSb p.val (fun z => { z with mwl := v % 65536 })))

/-- GETMRL: the maximum read length, then the size of the interrupt's payload, 1 byte (log entry 22). -/
def execGetmrl (p : Fin 2) (addr : Nat) (s : State) : Host.Outcome State Fault Refusal :=
  .next (s.cccRead p.val addr (beBytes 2 (s.sb p.val).mrl ++ [0x01#8]))

/-- SETMRL. -/
def execSetmrl (p : Fin 2) (addr : Option Nat) (v : Nat) (s : State) : Host.Outcome State Fault Refusal :=
  .next (s.i3c p.val addr (fun s => s.updSb p.val (fun z => { z with mrl := v % 65536 })))

end Sys2Proof.Machine
end

