-- ==== Sys2Proof/Machine/SideCmds.lean ====
section
/-! DEFINITION. Machine/SideCmds.lean: the vendor commands of MCTP type 0x7E (R412, R413). -/

namespace Sys2Proof.Machine

/-- A sideband vendor command (R412, R413): where the Steward serves, one from an EID the table admits and in a mode that accepts its
admin opcode is done by `k`; every other completes with NOT_PERMITTED. DEDUCED: the download that the mask ROM service gives the sideband
(R52) is open to any EID, since no bundle names a BMCEID then (log entry 64). -/
def State.sideCmd (s : State) (eid opcode : Nat) (bmc : Bool) (k : State → State × Reply) : State :=
  if s.serving = false then s
  else
    let admitted := !bmc || (s.plat.romsvc && decide (opcode = 0x21)) ||
      (match s.bundle with | some b => decide (b.bmcEid ≠ 0 ∧ b.bmcEid = eid) | none => false)
    if admitted = false ∨ s.adminAllowed opcode = false then s.mctpSend eid (reply .notPermitted).bytes
    else if s.firmwareAway opcode then s.mctpSend eid (reply .busyRetry).bytes
    else
      let r := k s
      r.1.mctpSend eid r.2.bytes

/-- MCTP_IDENTIFY (R240, R412): bytes 0 to 159 of the page. -/
def execMctpIdentify (eid : Nat) (s : State) : Host.Outcome State Fault Refusal :=
  .next (s.sideCmd eid 0x01 false (fun s => (s, okWith s.identifyHead)))

/-- MCTP_LOG_READ (R364, R412). -/
def execMctpLogRead (eid src from_ max : Nat) (s : State) : Host.Outcome State Fault Refusal :=
  .next (s.sideCmd eid 0x03 false (fun s =>
    if max = 0 then (s, reply .noop)
    else if 1 < src ∨ 120 < max then (s, badField 0)
    else
      let a := logAnswer (if src = 0 then s.ringFrom from_ else s.journalFrom from_) from_ (32 * max)
      (s, okWith (leBytes 8 a.2.1 ++ leBytes 1 a.2.2 ++ a.1))))

/-- MCTP_CERT_READ (R258, R412). -/
def execMctpCertRead (eid chain off len : Nat) (s : State) : Host.Outcome State Fault Refusal :=
  .next (s.sideCmd eid 0x05 false (fun s =>
    let image := s.certImage (decide (chain = 1))
    if len = 0 then (s, reply .noop)
    else if 1 < chain ∨ 4000 < len ∨ image.length ≤ off then (s, badField 0)
    else (s, okWith (leBytes 4 image.length ++ (image.drop off).take len))))

/-- MCTP_LOG_CLEAR (R364, R412). -/
def execMctpLogClear (eid : Nat) (s : State) : Host.Outcome State Fault Refusal :=
  .next (s.sideCmd eid 0x04 false (fun s => (s.clearLog, okWith (leBytes 8 s.evt.nextNo))))

/-- MCTP_SET_PHASE (R106, R412), with UPDSRC bit 5. -/
def execMctpSetPhase (eid channel phase : Nat) (s : State) : Host.Outcome State Fault Refusal :=
  .next (s.sideCmd eid 0x10 true (fun s => s.setPhaseReply true channel phase))

/-- MCTP_ACTIVATE (R111, R412): with the staging metadata area's manifest, and PERMS bit 1; a refusal for want of it is a rejection too. -/
def execMctpActivate (eid channel slot flipNow : Nat) (m : Manifest) (s : State) : Host.Outcome State Fault Refusal :=
  .next (s.sideCmd eid 0x11 true (fun s => if s.perm 1 = false then (s.activateRefused channel slot, reply .notPermitted) else s.activateReply channel slot flipNow m))

/-- MCTP_REIMAGE (R278, R412), with PERMS bit 3. -/
def execMctpReimage (eid agent source : Nat) (s : State) : Host.Outcome State Fault Refusal :=
  .next (s.sideCmd eid 0x14 true (fun s =>
    let r := s.reimageCmd true agent source
    (r.1, reply r.2)))

/-- The checks of a POLICY_LOAD chunk (R279, R412): the bundle's size is known at its last chunk alone. -/
def State.polChunkOk (s : State) (off len : Nat) : Bool :=
  decide (off = s.ident.polHeld ∧ 1 ≤ len ∧ len ≤ 4000 ∧ off + len ≤ 262140)

/-- MCTP_POLICY_LOAD (R272, R412): a chunk joins the staging buffer; the last one runs R272 on the bundle it completes. -/
def execMctpPolicyLoad (eid off : Nat) (last : Bool) (len : Nat) (b : Bundle) (s : State) : Host.Outcome State Fault Refusal :=
  .next (s.sideCmd eid 0x20 true (fun s =>
    if s.perm 5 = false then (s, reply .notPermitted)
    else if len = 0 then (s, reply .noop)
    else if s.polChunkOk off len = false then (s, badField 0)
    else if last = false then ({ s with ident := { s.ident with polHeld := off + len } }, okWith (leBytes 4 (off + len)))
    else
      let r := ({ s with ident := { s.ident with polHeld := 0 } } : State).policyLoad true b
      (r.1, if r.2 = .ok then okWith (leBytes 4 (off + len)) else reply r.2)))

/-- MCTP_FW_DOWNLOAD (R284, R412), with PERMS bit 4; under the mask ROM service no bundle is asked (R52). -/
def execMctpFwDownload (eid off : Nat) (last : Bool) (len : Nat) (pkg : Option Package) (s : State) : Host.Outcome State Fault Refusal :=
  .next (s.sideCmd eid 0x21 true (fun s =>
    if s.perm 4 = false ∧ s.plat.romsvc = false then (s, reply .notPermitted)
    else if len = 0 then (s, reply .noop)
    else if 4000 < len then (s, badField 0)
    else s.fwDownload true last off len pkg))

/-- MCTP_FW_ACTIVATE (R285, R412), with PERMS bit 4; in RECOVER a device restart follows. -/
def execMctpFwActivate (eid target : Nat) (s : State) : Host.Outcome State Fault Refusal :=
  .next (
    let go := s.serving && s.adminAllowed 0x22 && !s.firmwareAway 0x22 && (match s.bundle with | some b => decide (b.bmcEid ≠ 0 ∧ b.bmcEid = eid) | none => false) &&
      decide (s.fwActivateStatus true target = .ok) && decide (s.plat.mode = .recover)
    let u := s.sideCmd eid 0x22 true (fun s =>
      let r := s.fwActivate true target
      (r.1, reply r.2))
    if go then u.deviceRestart 0xC 0x20#32 true else u)

end Sys2Proof.Machine
end

