-- ==== Sys2Proof/Machine/Dispatch.lean ====
section
/-! DEFINITION. Machine/Dispatch.lean: one arm for each command. -/

namespace Sys2Proof.Machine

def exec (i : Instr) (s : State) : Host.Outcome State Fault Refusal :=
  match i with
  | .commitGo q mask => Sys2Proof.Machine.execCommitGo q mask s
  | .commitApply => Sys2Proof.Machine.execCommitApply s
  | .commitTimeout => Sys2Proof.Machine.execCommitTimeout s
  | .commitDiscard q mask => Sys2Proof.Machine.execCommitDiscard q mask s
  | .lowHalfRead q off hi => Sys2Proof.Machine.execLowHalfRead q off hi s
  | .highHalfWrite q off v => Sys2Proof.Machine.execHighHalfWrite q off v s
  | .registerWrite q off v => Sys2Proof.Machine.execRegisterWrite q off v s
  | .rcRead q n => Sys2Proof.Machine.execRcRead q n s
  | .snapshot cid len mask addr => Sys2Proof.Machine.execSnapshot cid len mask addr s
  | .ledgerViolation l => Sys2Proof.Machine.execLedgerViolation l s
  | .bankUncorrectable b bad => Sys2Proof.Machine.execBankUncorrectable b bad s
  | .bankCopyComplete bad => Sys2Proof.Machine.execBankCopyComplete bad s
  | .cellarScrubPass => Sys2Proof.Machine.execCellarScrubPass s
  | .memtestBank ok => Sys2Proof.Machine.execMemtestBank ok s
  | .mainPowerGoodRise addrSel strap perst halt => Sys2Proof.Machine.execMainPowerGoodRise addrSel strap perst halt s
  | .mainPowerGoodFall => Sys2Proof.Machine.execMainPowerGoodFall s
  | .pllLock => Sys2Proof.Machine.execPllLock s
  | .vaultIdentify cs0 cs1 busMode hdrA hdrB => Sys2Proof.Machine.execVaultIdentify cs0 cs1 busMode hdrA s hdrB
  | .rootstockRegenerate d => Sys2Proof.Machine.execRootstockRegenerate d s
  | .rootstockRetry d => Sys2Proof.Machine.execRootstockRetry d s
  | .selfTestStartup badEngines badLanes pku rng store ledger => Sys2Proof.Machine.execSelfTestStartup badEngines badLanes pku rng store ledger s
  | .firmwareVerify a b g dev => Sys2Proof.Machine.execFirmwareVerify a b g s dev
  | .policyApply => Sys2Proof.Machine.execPolicyApply s
  | .channelBringup n p0 p1 s0 s1 s2 s3 => Sys2Proof.Machine.execChannelBringup n p0 p1 s0 s1 s2 s3 s
  | .exitChecks ok => Sys2Proof.Machine.execExitChecks ok s
  | .intentResume kind chan slot m ok => Sys2Proof.Machine.execIntentResume kind chan slot m ok s
  | .modeWrite m cause => Sys2Proof.Machine.execModeWrite m cause s
  | .deviceRestart cause => Sys2Proof.Machine.execDeviceRestart cause s
  | .perstNAssert => Sys2Proof.Machine.execPerstNAssert s
  | .perstNRelease => Sys2Proof.Machine.execPerstNRelease s
  | .functionLevelReset done => Sys2Proof.Machine.execFunctionLevelReset done s
  | .linkDown => Sys2Proof.Machine.execLinkDown s
  | .linkTrained speed width => Sys2Proof.Machine.execLinkTrained speed width s
  | .agentRead t => Sys2Proof.Machine.execAgentRead t s
  | .continuousRead t => Sys2Proof.Machine.execContinuousRead t s
  | .readSfdp t => Sys2Proof.Machine.execReadSfdp t s
  | .readId t => Sys2Proof.Machine.execReadId t s
  | .readReg t => Sys2Proof.Machine.execReadReg t s
  | .writeEnable t => Sys2Proof.Machine.execWriteEnable t s
  | .writeDisable t => Sys2Proof.Machine.execWriteDisable t s
  | .program t => Sys2Proof.Machine.execProgram t s
  | .erase t => Sys2Proof.Machine.execErase t s
  | .eraseChip t => Sys2Proof.Machine.execEraseChip t s
  | .suspend t early => Sys2Proof.Machine.execSuspend t early s
  | .suspendForward n => Sys2Proof.Machine.execSuspendForward n s
  | .resume t => Sys2Proof.Machine.execResume t s
  | .writeReg t => Sys2Proof.Machine.execWriteReg t s
  | .modeset t => Sys2Proof.Machine.execModeset t s
  | .resetEnable t => Sys2Proof.Machine.execResetEnable t s
  | .reset t => Sys2Proof.Machine.execReset t s
  | .clearFail t => Sys2Proof.Machine.execClearFail t s
  | .addrMode t => Sys2Proof.Machine.execAddrMode t s
  | .accept t => Sys2Proof.Machine.execAccept t s
  | .unlistedOpcode t => Sys2Proof.Machine.execUnlistedOpcode t s
  | .heartbeatService t => Sys2Proof.Machine.execHeartbeatService t s
  | .sclkMeasure n khz => Sys2Proof.Machine.execSclkMeasure n khz s
  | .agentOperationEnd n ok => Sys2Proof.Machine.execAgentOperationEnd n ok s
  | .blockbusyEnd n => Sys2Proof.Machine.execBlockbusyEnd n s
  | .setPhase cid channel phase => Sys2Proof.Machine.execSetPhase cid channel phase s
  | .boottimeElapsed n => Sys2Proof.Machine.execBoottimeElapsed n s
  | .updateTimeout n => Sys2Proof.Machine.execUpdateTimeout n s
  | .deviceOpIssue n => Sys2Proof.Machine.execDeviceOpIssue n s
  | .statusPoll n k => Sys2Proof.Machine.execStatusPoll n k s
  | .exposedWaitEnd n k => Sys2Proof.Machine.execExposedWaitEnd n k s
  | .activate cid channel slot mloc flipNow len m => Sys2Proof.Machine.execActivate cid channel slot mloc flipNow len m s
  | .stagingVerify n k ok => Sys2Proof.Machine.execStagingVerify n k ok s
  | .copyUnit n k units ok => Sys2Proof.Machine.execCopyUnit n k units ok s
  | .confirm cid channel slot => Sys2Proof.Machine.execConfirm cid channel slot s
  | .confirmWindowEnd n k => Sys2Proof.Machine.execConfirmWindowEnd n k s
  | .vintageBurnStep n k ok => Sys2Proof.Machine.execVintageBurnStep n k ok s
  | .eyeTraining port k t => Sys2Proof.Machine.execEyeTraining port k t s
  | .retrainDue port => Sys2Proof.Machine.execRetrainDue port s
  | .partBusyTimeout port k => Sys2Proof.Machine.execPartBusyTimeout port k s
  | .partSoftwareResetEnd port k busy => Sys2Proof.Machine.execPartSoftwareResetEnd port k busy s
  | .partResetPulseEnd port k bad => Sys2Proof.Machine.execPartResetPulseEnd port k bad s
  | .sectorRefreshStep n k slot unit active verified resident => Sys2Proof.Machine.execSectorRefreshStep n k slot unit active verified resident s
  | .refreshPeriodRollover => Sys2Proof.Machine.execRefreshPeriodRollover s
  | .journalCompactionStep key => Sys2Proof.Machine.execJournalCompactionStep key s
  | .vaultRetrain t header => Sys2Proof.Machine.execVaultRetrain t header s
  | .decantPage n p node ok keyOk => Sys2Proof.Machine.execDecantPage n p node ok keyOk s
  | .deferredVerdict n p found => Sys2Proof.Machine.execDeferredVerdict n p found s
  | .verdictLate n p => Sys2Proof.Machine.execVerdictLate n p s
  | .lateResult n p found => Sys2Proof.Machine.execLateResult n p found s
  | .pressCreditGrant => Sys2Proof.Machine.execPressCreditGrant s
  | .rackingShareWindow port u pressBusy => Sys2Proof.Machine.execRackingShareWindow port u pressBusy s
  | .rackSpan port f m => Sys2Proof.Machine.execRackSpan port f m s
  | .graftCandidate n k page copy node qualifies => Sys2Proof.Machine.execGraftCandidate n k page copy node qualifies s
  | .graftRepairStep n k copy part unit bad ok => Sys2Proof.Machine.execGraftRepairStep n k copy part s unit bad ok
  | .autorelRelease n => Sys2Proof.Machine.execAutorelRelease n s
  | .pcOutMismatch k => Sys2Proof.Machine.execPcOutMismatch k s
  | .pcInChange k level => Sys2Proof.Machine.execPcInChange k level s
  | .haltNFall => Sys2Proof.Machine.execHaltNFall s
  | .haltNRise => Sys2Proof.Machine.execHaltNRise s
  | .seqEnd => Sys2Proof.Machine.execSeqEnd s
  | .seqSet => Sys2Proof.Machine.execSeqSet s
  | .seqWaitIn => Sys2Proof.Machine.execSeqWaitIn s
  | .seqDelay => Sys2Proof.Machine.execSeqDelay s
  | .seqRelease => Sys2Proof.Machine.execSeqRelease s
  | .seqWaitHb => Sys2Proof.Machine.execSeqWaitHb s
  | .seqWaitSatisfied => Sys2Proof.Machine.execSeqWaitSatisfied s
  | .seqTimeout => Sys2Proof.Machine.execSeqTimeout s
  | .delayExpiry => Sys2Proof.Machine.execDelayExpiry s
  | .subprogramStart => Sys2Proof.Machine.execSubprogramStart s
  | .rerelease n => Sys2Proof.Machine.execRerelease n s
  | .urgentStop side mask seq => Sys2Proof.Machine.execUrgentStop side mask seq s
  | .urgentRelease side mask seq => Sys2Proof.Machine.execUrgentRelease side mask seq s
  | .urgentRestart side mask seq => Sys2Proof.Machine.execUrgentRestart side mask seq s
  | .qclearElapsed n => Sys2Proof.Machine.execQclearElapsed n s
  | .sbsvcWrite n key => Sys2Proof.Machine.execSbsvcWrite n key s
  | .watchdogFirstExpiry n => Sys2Proof.Machine.execWatchdogFirstExpiry n s
  | .watchdogSecondExpiry n => Sys2Proof.Machine.execWatchdogSecondExpiry n s
  | .streamOpen cid no qpair enc overlap label weight => Sys2Proof.Machine.execStreamOpen cid no qpair enc overlap label weight s
  | .streamClose cid no => Sys2Proof.Machine.execStreamClose cid no s
  | .sealSegment q cid no len src dst rcpt => Sys2Proof.Machine.execSealSegment q cid no len src dst rcpt s
  | .verifySegment q cid form len data rcpt prev => Sys2Proof.Machine.execVerifySegment q cid form len data rcpt prev s
  | .sealLog cid recBase listBase ctl recSlots listEnt => Sys2Proof.Machine.execSealLog cid recBase listBase ctl recSlots listEnt s
  | .anchorRequest cid len addr => Sys2Proof.Machine.execAnchorRequest cid len addr s
  | .anchorSubmit cid t => Sys2Proof.Machine.execAnchorSubmit cid t s
  | .runStart => Sys2Proof.Machine.execRunStart s
  | .segmentBegin attention => Sys2Proof.Machine.execSegmentBegin s attention
  | .segmentComplete no data => Sys2Proof.Machine.execSegmentComplete no data s
  | .epochClose => Sys2Proof.Machine.execEpochClose s
  | .epochFinalise => Sys2Proof.Machine.execEpochFinalise s
  | .sealSign => Sys2Proof.Machine.execSealSign s
  | .sealJournalWrite ok => Sys2Proof.Machine.execSealJournalWrite ok s
  | .sealOutput => Sys2Proof.Machine.execSealOutput s
  | .sealLogPoll counts => Sys2Proof.Machine.execSealLogPoll counts s
  | .uncWarn => Sys2Proof.Machine.execUncWarn s
  | .entryFetch q cid opcode flags reserved => Sys2Proof.Machine.execEntryFetch q cid opcode flags reserved s
  | .sqDoorbell q index => Sys2Proof.Machine.execSqDoorbell q index s
  | .cqDoorbell q index => Sys2Proof.Machine.execCqDoorbell q index s
  | .unsupportedRequest a => Sys2Proof.Machine.execUnsupportedRequest s a
  | .memoryReadError w kind => Sys2Proof.Machine.execMemoryReadError w kind s
  | .identify cid len addr => Sys2Proof.Machine.execIdentify cid len addr s
  | .logRead cid src len from_ addr => Sys2Proof.Machine.execLogRead cid src len from_ addr s
  | .logClear cid => Sys2Proof.Machine.execLogClear cid s
  | .certRead cid chain off len addr => Sys2Proof.Machine.execCertRead cid chain off len addr s
  | .getNonce src len addr => Sys2Proof.Machine.execGetNonce src len addr s
  | .agentHeartbeat cid agent key => Sys2Proof.Machine.execAgentHeartbeat cid agent key s
  | .reimage cid agent source => Sys2Proof.Machine.execReimage cid agent source s
  | .qrelease cid len t => Sys2Proof.Machine.execQrelease cid len t s
  | .imageStream cid channel slot last off len => Sys2Proof.Machine.execImageStream cid channel slot last off len s
  | .imageChunkProgram port ok => Sys2Proof.Machine.execImageChunkProgram port ok s
  | .imageVerify n m trellisOk => Sys2Proof.Machine.execImageVerify n m trellisOk s
  | .recoverPlatform src len t => Sys2Proof.Machine.execRecoverPlatform src len t s
  | .goldenFirmwareRestore src len t => Sys2Proof.Machine.execGoldenFirmwareRestore src len t s
  | .authorisedRecovery src len t => Sys2Proof.Machine.execAuthorisedRecovery src len t s
  | .policyLoad cid len b => Sys2Proof.Machine.execPolicyLoad cid len b s
  | .policyStoreDurable => Sys2Proof.Machine.execPolicyStoreDurable s
  | .policyApplyRetry expired => Sys2Proof.Machine.execPolicyApplyRetry expired s
  | .policyVintageBurn ok => Sys2Proof.Machine.execPolicyVintageBurn ok s
  | .fwDownload cid last off len pkg => Sys2Proof.Machine.execFwDownload cid last off len pkg s
  | .fwPackageVerify => Sys2Proof.Machine.execFwPackageVerify s
  | .fwActivate cid target => Sys2Proof.Machine.execFwActivate cid target s
  | .handoverHalt => Sys2Proof.Machine.execHandoverHalt s
  | .handoverLoad ok => Sys2Proof.Machine.execHandoverLoad ok s
  | .checkIn => Sys2Proof.Machine.execCheckIn s
  | .handoverFallback => Sys2Proof.Machine.execHandoverFallback s
  | .fwConfirm ok => Sys2Proof.Machine.execFwConfirm ok s
  | .goldenCopyStep last => Sys2Proof.Machine.execGoldenCopyStep last s
  | .platformCertIssue => Sys2Proof.Machine.execPlatformCertIssue s
  | .recoverySourceTry n m anchors => Sys2Proof.Machine.execRecoverySourceTry n m anchors s
  | .recoverySourceTimeout n => Sys2Proof.Machine.execRecoverySourceTimeout n s
  | .actCommitRetry n => Sys2Proof.Machine.execActCommitRetry n s
  | .recQuery eid => Sys2Proof.Machine.execRecQuery eid s
  | .recChunk eid off len => Sys2Proof.Machine.execRecChunk eid off len s
  | .recEnd eid => Sys2Proof.Machine.execRecEnd eid s
  | .restart cid => Sys2Proof.Machine.execRestart cid s
  | .debugOpen src len t1 a second => Sys2Proof.Machine.execDebugOpen src len t1 a second s
  | .enterTest src len t stop => Sys2Proof.Machine.execEnterTest src len t stop s
  | .enterProduction src len t stop => Sys2Proof.Machine.execEnterProduction src len t stop s
  | .enterEol src len t stop => Sys2Proof.Machine.execEnterEol src len t stop s
  | .ownerClaim src len t stop => Sys2Proof.Machine.execOwnerClaim src len t stop s
  | .ownerAdd src len t stop => Sys2Proof.Machine.execOwnerAdd src len t stop s
  | .ownerRevoke src len t stop => Sys2Proof.Machine.execOwnerRevoke src len t stop s
  | .setSubsys src len t stop => Sys2Proof.Machine.execSetSubsys src len t stop s
  | .vendorRevoke src len t stop => Sys2Proof.Machine.execVendorRevoke src len t stop s
  | .completeTransition src len t stop => Sys2Proof.Machine.execCompleteTransition src len t stop s
  | .info cid label len addr => Sys2Proof.Machine.execInfo cid label len addr s
  | .list cid len addr => Sys2Proof.Machine.execList cid len addr s
  | .importPub cid len addr => Sys2Proof.Machine.execImportPub cid len addr s
  | .importKey cid label len tlen t kr b => Sys2Proof.Machine.execImportKey cid label len tlen t kr b s
  | .destroy cid label len tlen t kr => Sys2Proof.Machine.execDestroy cid label len tlen t kr s
  | .sealRotate cid len tlen t kr => Sys2Proof.Machine.execSealRotate cid len tlen t kr s
  | .keyJournalCommit ok => Sys2Proof.Machine.execKeyJournalCommit ok s
  | .msixAggregationTimeout q => Sys2Proof.Machine.execMsixAggregationTimeout q s
  | .msixVectorUnmask v addr data masked => Sys2Proof.Machine.execMsixVectorUnmask v addr data masked s
  | .retentionAck q => Sys2Proof.Machine.execRetentionAck q s
  | .busMasterDisable => Sys2Proof.Machine.execBusMasterDisable s
  | .powerStateChange d3 => Sys2Proof.Machine.execPowerStateChange d3 s
  | .mctpMessage tr type lens => Sys2Proof.Machine.execMctpMessage tr type lens s
  | .setEndpointId tr eid => Sys2Proof.Machine.execSetEndpointId tr eid s
  | .getVersion eid tr => Sys2Proof.Machine.execGetVersion eid tr s
  | .getCapabilities eid tr => Sys2Proof.Machine.execGetCapabilities eid tr s
  | .negotiateAlgorithms eid tr offered => Sys2Proof.Machine.execNegotiateAlgorithms eid tr offered s
  | .getDigests eid tr => Sys2Proof.Machine.execGetDigests eid tr s
  | .getCertificate eid tr slot off len => Sys2Proof.Machine.execGetCertificate eid tr slot off len s
  | .challenge eid tr slot hashType nonce => Sys2Proof.Machine.execChallenge eid tr slot hashType nonce s
  | .getMeasurements eid tr op signed nonce => Sys2Proof.Machine.execGetMeasurements eid tr op signed nonce s
  | .keyExchange eid tr slot => Sys2Proof.Machine.execKeyExchange eid tr slot s
  | .finish eid tr ok => Sys2Proof.Machine.execFinish eid tr ok s
  | .heartbeat eid tr => Sys2Proof.Machine.execHeartbeat eid tr s
  | .endSession eid tr => Sys2Proof.Machine.execEndSession eid tr s
  | .spdmUnsupportedRequest eid tr => Sys2Proof.Machine.execSpdmUnsupportedRequest eid tr s
  | .spdmSessionTimeout eid tr => Sys2Proof.Machine.execSpdmSessionTimeout eid tr s
  | .spdmConnectionIdle eid tr => Sys2Proof.Machine.execSpdmConnectionIdle eid tr s
  | .spdmAgentRequest n => Sys2Proof.Machine.execSpdmAgentRequest n s
  | .spdmAgentResponse n sigOk dig => Sys2Proof.Machine.execSpdmAgentResponse n sigOk dig s
  | .spdmAgentRetry n => Sys2Proof.Machine.execSpdmAgentRetry n s
  | .pufDlMeasure e => Sys2Proof.Machine.execPufDlMeasure e s
  | .reenrol ok otp => Sys2Proof.Machine.execReenrol ok otp s
  | .pufBufferClear => Sys2Proof.Machine.execPufBufferClear s
  | .caskRemask => Sys2Proof.Machine.execCaskRemask s
  | .periodicSelfTest lane => Sys2Proof.Machine.execPeriodicSelfTest lane s
  | .selfTestDrainEnd pass => Sys2Proof.Machine.execSelfTestDrainEnd pass s
  | .engineDerate e => Sys2Proof.Machine.execEngineDerate e s
  | .engineRestore e => Sys2Proof.Machine.execEngineRestore e s
  | .drbgReseed => Sys2Proof.Machine.execDrbgReseed s
  | .entropyTestFail => Sys2Proof.Machine.execEntropyTestFail s
  | .drbgReinstantiate ok => Sys2Proof.Machine.execDrbgReinstantiate ok s
  | .tamperTrip src level => Sys2Proof.Machine.execTamperTrip src level s
  | .meshSample k good => Sys2Proof.Machine.execMeshSample k good s
  | .shelfMeshBurst k good => Sys2Proof.Machine.execShelfMeshBurst k good s
  | .shelfTempSample quarter => Sys2Proof.Machine.execShelfTempSample quarter s
  | .vbatLow => Sys2Proof.Machine.execVbatLow s
  | .eventRaise => Sys2Proof.Machine.execEventRaise s
  | .ringWrite => Sys2Proof.Machine.execRingWrite s
  | .journalBlockDue => Sys2Proof.Machine.execJournalBlockDue s
  | .journalBlockDurable passed => Sys2Proof.Machine.execJournalBlockDurable passed s
  | .journalRetry passed => Sys2Proof.Machine.execJournalRetry passed s
  | .lwClear => Sys2Proof.Machine.execLwClear s
  | .rdataRead q k => Sys2Proof.Machine.execRdataRead q k s
  | .msigapExpiry v => Sys2Proof.Machine.execMsigapExpiry v s
  | .routeWrite q v => Sys2Proof.Machine.execRouteWrite q v s
  | .pendHiRead q => Sys2Proof.Machine.execPendHiRead q s
  | .counterDataRead q hi => Sys2Proof.Machine.execCounterDataRead q hi s
  | .counterWrite q v => Sys2Proof.Machine.execCounterWrite q v s
  | .bar4Read k h => Sys2Proof.Machine.execBar4Read k h s
  | .telemetryPeriod m formed => Sys2Proof.Machine.execTelemetryPeriod m formed s
  | .telemetryLate => Sys2Proof.Machine.execTelemetryLate s
  | .opdataAccess q n w => Sys2Proof.Machine.execOpdataAccess q n w s
  | .sfdpdataRead q n => Sys2Proof.Machine.execSfdpdataRead q n s
  | .stdataAccess q n k w => Sys2Proof.Machine.execStdataAccess q n k w s
  | .rgdataAccess q n k w => Sys2Proof.Machine.execRgdataAccess q n k w s
  | .seqdataAccess q w => Sys2Proof.Machine.execSeqdataAccess q w s
  | .baddataRead q n => Sys2Proof.Machine.execBaddataRead q n s
  | .strdataRead q k => Sys2Proof.Machine.execStrdataRead q k s
  | .strattRead q => Sys2Proof.Machine.execStrattRead q s
  | .caskdataRead q k => Sys2Proof.Machine.execCaskdataRead q k s
  | .thdataRead q k => Sys2Proof.Machine.execThdataRead q k s
  | .vctrRead q => Sys2Proof.Machine.execVctrRead q s
  | .tlmDataRead q => Sys2Proof.Machine.execTlmDataRead q s
  | .txdataWrite q a v => Sys2Proof.Machine.execTxdataWrite q a v s
  | .rxdataRead q a => Sys2Proof.Machine.execRxdataRead q a s
  | .wd0CfgWrite q v => Sys2Proof.Machine.execWd0CfgWrite q v s
  | .wd0WindowWrite q v => Sys2Proof.Machine.execWd0WindowWrite q v s
  | .wd0Service q key => Sys2Proof.Machine.execWd0Service q key s
  | .wd0FirstExpiry => Sys2Proof.Machine.execWd0FirstExpiry s
  | .wd0SecondExpiry => Sys2Proof.Machine.execWd0SecondExpiry s
  | .ringMonitorTrip => Sys2Proof.Machine.execRingMonitorTrip s
  | .clockMonitorTrip c byLock => Sys2Proof.Machine.execClockMonitorTrip c byLock s
  | .flashClockLoss => Sys2Proof.Machine.execFlashClockLoss s
  | .flashRelock => Sys2Proof.Machine.execFlashRelock s
  | .flashRelockTimeout => Sys2Proof.Machine.execFlashRelockTimeout s
  | .refclkLoss => Sys2Proof.Machine.execRefclkLoss s
  | .keeperCrystalLoss => Sys2Proof.Machine.execKeeperCrystalLoss s
  | .keeperCrystalReturn => Sys2Proof.Machine.execKeeperCrystalReturn s
  | .ringLoss => Sys2Proof.Machine.execRingLoss s
  | .tempThreshold quarter => Sys2Proof.Machine.execTempThreshold quarter s
  | .railExcursion rail => Sys2Proof.Machine.execRailExcursion rail s
  | .windowRead p bank off n => Sys2Proof.Machine.execWindowRead p bank off n s
  | .windowWrite p bank off n data pecOk => Sys2Proof.Machine.execWindowWrite p bank off n data pecOk s
  | .smbusTimeout p => Sys2Proof.Machine.execSmbusTimeout p s
  | .mctpResponseRetry p lost => Sys2Proof.Machine.execMctpResponseRetry p lost s
  | .mctpPacket p eid type len som eom => Sys2Proof.Machine.execMctpPacket p eid type len som eom s
  | .mctpPacketRead p => Sys2Proof.Machine.execMctpPacketRead p s
  | .entdaa p addr => Sys2Proof.Machine.execEntdaa p addr s
  | .setdasa p addr new => Sys2Proof.Machine.execSetdasa p addr new s
  | .setnewda p addr new => Sys2Proof.Machine.execSetnewda p addr new s
  | .rstdaa p => Sys2Proof.Machine.execRstdaa p s
  | .enec p addr int => Sys2Proof.Machine.execEnec p addr int s
  | .disec p addr int => Sys2Proof.Machine.execDisec p addr int s
  | .getpid p addr => Sys2Proof.Machine.execGetpid p addr s
  | .getbcr p addr => Sys2Proof.Machine.execGetbcr p addr s
  | .getdcr p addr => Sys2Proof.Machine.execGetdcr p addr s
  | .getstatus p addr => Sys2Proof.Machine.execGetstatus p addr s
  | .getmwl p addr => Sys2Proof.Machine.execGetmwl p addr s
  | .setmwl p addr v => Sys2Proof.Machine.execSetmwl p addr v s
  | .getmrl p addr => Sys2Proof.Machine.execGetmrl p addr s
  | .setmrl p addr v => Sys2Proof.Machine.execSetmrl p addr v s
  | .getmxds p addr => Sys2Proof.Machine.execGetmxds p addr s
  | .mctpIdentify eid => Sys2Proof.Machine.execMctpIdentify eid s
  | .mctpLogRead eid src from_ max => Sys2Proof.Machine.execMctpLogRead eid src from_ max s
  | .mctpCertRead eid chain off len => Sys2Proof.Machine.execMctpCertRead eid chain off len s
  | .mctpLogClear eid => Sys2Proof.Machine.execMctpLogClear eid s
  | .mctpSetPhase eid channel phase => Sys2Proof.Machine.execMctpSetPhase eid channel phase s
  | .mctpActivate eid channel slot flipNow m => Sys2Proof.Machine.execMctpActivate eid channel slot flipNow m s
  | .mctpReimage eid agent source => Sys2Proof.Machine.execMctpReimage eid agent source s
  | .mctpPolicyLoad eid off last len b => Sys2Proof.Machine.execMctpPolicyLoad eid off last len b s
  | .mctpFwDownload eid off last len pkg => Sys2Proof.Machine.execMctpFwDownload eid off last len pkg s
  | .mctpFwActivate eid target => Sys2Proof.Machine.execMctpFwActivate eid target s
  | .auxGo q a sel len => Sys2Proof.Machine.execAuxGo q a sel len s
  | .auxAbort q a n rx => Sys2Proof.Machine.execAuxAbort q a n rx s
  | .frameSend q a v => Sys2Proof.Machine.execFrameSend q a v s
  | .auxTransferDone a rx => Sys2Proof.Machine.execAuxTransferDone a rx s
  | .slaveTransferEnd a n rx => Sys2Proof.Machine.execSlaveTransferEnd a n rx s
  | .uartReceive b overrun => Sys2Proof.Machine.execUartReceive b overrun s
  | .gpioEdge k level => Sys2Proof.Machine.execGpioEdge k level s
  | .keeperPowerLoss => Sys2Proof.Machine.execKeeperPowerLoss s
  | .tapReset => Sys2Proof.Machine.execTapReset s
  | .debuggerHalt warden => Sys2Proof.Machine.execDebuggerHalt warden s
  | .debuggerResume warden => Sys2Proof.Machine.execDebuggerResume warden s
  | .ringReturn => Sys2Proof.Machine.execRingReturn s
  | .refclkReturn => Sys2Proof.Machine.execRefclkReturn s
  | .configRequest r => Sys2Proof.Machine.execConfigRequest r s
  | .recorderSramError => Sys2Proof.Machine.execRecorderSramError s
  | .ownFirmwareFault => Sys2Proof.Machine.execOwnFirmwareFault s
  | .recoveryWriteStep n last ok => Sys2Proof.Machine.execRecoveryWriteStep n last ok s

end Sys2Proof.Machine
end

