-- ==== Sys2Proof/Machine/Tick.lean ====
section
/-! DEFINITION. Machine/Tick.lean: what one FAB cycle does where no command waits (log entry 1). -/

namespace Sys2Proof.Machine

/-- A FLASH cycle ends in this FAB cycle: FLASH runs at two thirds of FAB (R369, R391). -/
def flashCycle (time : Nat) : Bool := decide (time % 3 ≠ 0)

/-- The cycles one channel counts in a FAB cycle (R369, R370): its fixed counter, RELEASED, at the credit cap, waiting for a
credit, In-flight frames, and a write that waits on an exposed part. -/
def State.countCycle (s : State) (n : Ch) : State :=
  let st := (s.chan n).st
  let infl := (s.cellar.frames.filter (fun f => decide (f.ch = n.val) && decide (f.st = .inflight))).length
  let s := s.cnt n 42 infl
  if flashCycle s.time then
    let atCap := decide (0 < s.channelHeld n.val ∧ fld (s.cfg (fch n 0x108)) 4 0 ≤ s.channelHeld n.val)
    let waits := s.press.waiting.any (fun j => decide (j.ch = some n.val))
    let write := allSlots.any (fun k => decide (((s.chan n).slot k).upd = .waitPart)) || (s.chan n).repairs.any (fun r => r.waits) ||
      allParts.any (fun k => ((s.chan n).prt k).refreshWaits) || s.ident.rewrites.any (fun r => decide (r.ch = n.val) && r.waits)
    let s := s.addCounter (16 * n.val) (b2n (decide (st ≠ .disabled)))
    (((s.cnt n 47 (b2n (decide (st = .released)))).cnt n 35 (b2n atCap)).cnt n 36 (b2n waits)).cnt n 45 (b2n write)
  else s

/-- One FAB cycle passes (log entry 1). In SHELF no FAB clock runs: time passes and nothing counts (R40). -/
def State.tick (s : State) : State :=
  let s : State := { s with time := s.time + 1 }
  if s.powered then forCh State.countCycle s else s

end Sys2Proof.Machine
end

