-- ==== Sys2Proof/WellFormed.lean ====
section
/-! DEFINITION. WellFormed.lean: the range each operand of a command has on its wires, in its entry or in its register. -/

namespace Sys2Proof

/-- A number that fits in a field of so many bits. -/
def fits (bits n : Nat) : Bool := decide (n < 2 ^ bits)

/-- An agent-side transaction as wires can carry it: an address of at most four bytes (R5, R69). -/
def Txn.wf (t : Txn) : Bool := decide (t.addr.length ≤ 4)

/-- An eye training as the port can end it (R120): a DQS or sampling tap of 128, data delays of 32 taps on at most eight bits. -/
def Training.wf (t : Training) : Bool := fits 7 t.tap && decide (t.bits.length ≤ 8) && t.bits.all (fits 5) && fits 8 t.temp

/-- What bring-up found of a part, its training in range. -/
def PartFound.wf (f : PartFound) : Bool := f.train.wf

/-- A vault header copy as the layout gives it (R126): a sequence number of 32 bits and up to 16 directory entries. -/
def VaultHeader.wf (h : VaultHeader) : Bool := fits 32 h.seq && decide (h.golden.length ≤ 16)

/-- A BAR access as a TLP can carry it (R221, R222). -/
def BarAcc.wf : BarAcc → Bool
  | .read bar off _ => decide (bar = 0 ∨ bar = 2 ∨ bar = 4) && fits 16 off
  | .write bar off _ _ _ => decide (bar = 0 ∨ bar = 2 ∨ bar = 4) && fits 16 off

/-- A well-formed command. No meaning asks for it: a command outside these ranges has the meaning its row gives the number. -/
def Instr.wf : Instr → Bool
  | .commitGo _ _ => true
  | .commitApply => true
  | .commitTimeout => true
  | .commitDiscard _ _ => true
  | .lowHalfRead _ off _ => fits 32 off
  | .highHalfWrite _ off _ => fits 32 off
  | .registerWrite _ off _ => fits 32 off
  | .rcRead _ _ => true
  | .snapshot cid len mask addr => fits 16 cid && fits 32 len && fits 64 mask && fits 64 addr
  | .ledgerViolation _ => true
  | .bankUncorrectable _ _ => true
  | .bankCopyComplete _ => true
  | .cellarScrubPass => true
  | .memtestBank _ => true
  | .mainPowerGoodRise addrSel strap _ _ => fits 2 addrSel && fits 2 strap
  | .mainPowerGoodFall => true
  | .pllLock => true
  | .vaultIdentify cs0 cs1 _ hdrA hdrB => cs0.all PartFound.wf && cs1.all PartFound.wf && hdrA.all VaultHeader.wf && hdrB.all VaultHeader.wf
  | .rootstockRegenerate _ => true
  | .rootstockRetry _ => true
  | .selfTestStartup _ _ _ _ _ _ => true
  | .firmwareVerify _ _ _ _ => true
  | .policyApply => true
  | .channelBringup _ p0 p1 _ _ _ _ => p0.all PartFound.wf && p1.all PartFound.wf
  | .exitChecks _ => true
  | .intentResume _ _ slot _ _ => fits 8 slot
  | .modeWrite m cause => fits 3 m && fits 8 cause
  | .deviceRestart cause => fits 8 cause
  | .perstNAssert => true
  | .perstNRelease => true
  | .functionLevelReset _ => true
  | .linkDown => true
  | .linkTrained speed width => fits 3 speed && fits 5 width
  | .agentRead t => t.wf
  | .continuousRead t => t.wf
  | .readSfdp t => t.wf
  | .readId t => t.wf
  | .readReg t => t.wf
  | .writeEnable t => t.wf
  | .writeDisable t => t.wf
  | .program t => t.wf
  | .erase t => t.wf
  | .eraseChip t => t.wf
  | .suspend t _ => t.wf
  | .suspendForward _ => true
  | .resume t => t.wf
  | .writeReg t => t.wf
  | .modeset t => t.wf
  | .resetEnable t => t.wf
  | .reset t => t.wf
  | .clearFail t => t.wf
  | .addrMode t => t.wf
  | .accept t => t.wf
  | .unlistedOpcode t => t.wf
  | .heartbeatService t => t.wf
  | .sclkMeasure _ _ => true
  | .agentOperationEnd _ _ => true
  | .blockbusyEnd _ => true
  | .setPhase cid channel phase => fits 16 cid && fits 8 channel && fits 8 phase
  | .boottimeElapsed _ => true
  | .updateTimeout _ => true
  | .deviceOpIssue _ => true
  | .statusPoll _ _ => true
  | .exposedWaitEnd _ _ => true
  | .activate cid channel slot mloc flipNow len _ => fits 16 cid && fits 8 channel && fits 8 slot && fits 8 mloc && fits 8 flipNow && fits 32 len
  | .stagingVerify _ _ _ => true
  | .copyUnit _ _ _ _ => true
  | .confirm cid channel slot => fits 16 cid && fits 8 channel && fits 8 slot
  | .confirmWindowEnd _ _ => true
  | .vintageBurnStep _ _ _ => true
  | .eyeTraining _ _ t => t.wf
  | .retrainDue _ => true
  | .partBusyTimeout _ _ => true
  | .partSoftwareResetEnd _ _ _ => true
  | .partResetPulseEnd _ _ _ => true
  | .sectorRefreshStep _ _ _ _ _ _ _ => true
  | .refreshPeriodRollover => true
  | .journalCompactionStep _ => true
  | .vaultRetrain t _ => t.wf
  | .decantPage _ _ _ _ _ => true
  | .deferredVerdict _ _ _ => true
  | .verdictLate _ _ => true
  | .lateResult _ _ _ => true
  | .pressCreditGrant => true
  | .rackingShareWindow _ _ _ => true
  | .rackSpan _ _ _ => true
  | .graftCandidate _ _ _ _ _ _ => true
  | .graftRepairStep _ _ _ _ _ _ _ => true
  | .autorelRelease _ => true
  | .pcOutMismatch _ => true
  | .pcInChange _ _ => true
  | .haltNFall => true
  | .haltNRise => true
  | .seqEnd => true
  | .seqSet => true
  | .seqWaitIn => true
  | .seqDelay => true
  | .seqRelease => true
  | .seqWaitHb => true
  | .seqWaitSatisfied => true
  | .seqTimeout => true
  | .delayExpiry => true
  | .subprogramStart => true
  | .rerelease _ => true
  | .urgentStop _ mask seq => fits 8 mask && fits 16 seq
  | .urgentRelease _ mask seq => fits 8 mask && fits 16 seq
  | .urgentRestart _ mask seq => fits 8 mask && fits 16 seq
  | .qclearElapsed _ => true
  | .sbsvcWrite _ _ => true
  | .watchdogFirstExpiry _ => true
  | .watchdogSecondExpiry _ => true
  | .streamOpen cid no qpair enc overlap label weight => fits 16 cid && fits 16 no && fits 8 qpair && fits 8 enc && fits 32 overlap && fits 32 label && fits 8 weight
  | .streamClose cid no => fits 16 cid && fits 16 no
  | .sealSegment q cid no len src dst rcpt => fits 8 q && fits 16 cid && fits 16 no && fits 64 len && fits 64 src && fits 64 dst && fits 64 rcpt
  | .verifySegment q cid form len _ _ _ => fits 8 q && fits 16 cid && fits 8 form && fits 64 len
  | .sealLog cid recBase listBase ctl recSlots listEnt => fits 16 cid && fits 64 recBase && fits 64 listBase && fits 64 ctl && fits 32 recSlots && fits 32 listEnt
  | .anchorRequest cid len addr => fits 16 cid && fits 32 len && fits 64 addr
  | .anchorSubmit cid _ => fits 16 cid
  | .runStart => true
  | .segmentBegin _ => true
  | .segmentComplete no _ => fits 16 no
  | .epochClose => true
  | .epochFinalise => true
  | .sealSign => true
  | .sealJournalWrite _ => true
  | .sealOutput => true
  | .sealLogPoll _ => true
  | .uncWarn => true
  | .entryFetch q cid opcode flags _ => fits 8 q && fits 16 cid && fits 8 opcode && fits 8 flags
  | .sqDoorbell q index => fits 8 q && fits 16 index
  | .cqDoorbell q index => fits 8 q && fits 16 index
  | .unsupportedRequest a => a.wf
  | .memoryReadError _ _ => true
  | .identify cid len addr => fits 16 cid && fits 32 len && fits 64 addr
  | .logRead cid src len from_ addr => fits 16 cid && fits 8 src && fits 32 len && fits 64 from_ && fits 64 addr
  | .logClear cid => fits 16 cid
  | .certRead cid chain off len addr => fits 16 cid && fits 8 chain && fits 32 off && fits 32 len && fits 64 addr
  | .getNonce _ len addr => fits 32 len && fits 64 addr
  | .agentHeartbeat cid agent _ => fits 16 cid && fits 8 agent
  | .reimage cid agent source => fits 16 cid && fits 8 agent && fits 8 source
  | .qrelease cid len _ => fits 16 cid && fits 32 len
  | .imageStream cid channel slot _ off len => fits 16 cid && fits 8 channel && fits 8 slot && fits 32 off && fits 32 len
  | .imageChunkProgram _ _ => true
  | .imageVerify _ _ _ => true
  | .recoverPlatform _ len _ => fits 32 len
  | .goldenFirmwareRestore _ len _ => fits 32 len
  | .authorisedRecovery _ len _ => fits 32 len
  | .policyLoad cid len _ => fits 16 cid && fits 32 len
  | .policyStoreDurable => true
  | .policyApplyRetry _ => true
  | .policyVintageBurn _ => true
  | .fwDownload cid _ off len _ => fits 16 cid && fits 32 off && fits 32 len
  | .fwPackageVerify => true
  | .fwActivate cid target => fits 16 cid && fits 8 target
  | .handoverHalt => true
  | .handoverLoad _ => true
  | .checkIn => true
  | .handoverFallback => true
  | .fwConfirm _ => true
  | .goldenCopyStep _ => true
  | .platformCertIssue => true
  | .recoverySourceTry _ _ _ => true
  | .recoverySourceTimeout _ => true
  | .actCommitRetry _ => true
  | .recQuery eid => fits 8 eid
  | .recChunk eid off len => fits 8 eid && fits 32 off && fits 32 len
  | .recEnd eid => fits 8 eid
  | .restart cid => fits 16 cid
  | .debugOpen _ len t1 _ _ => fits 32 len && fits 32 t1
  | .enterTest _ len _ _ => fits 32 len
  | .enterProduction _ len _ _ => fits 32 len
  | .enterEol _ len _ _ => fits 32 len
  | .ownerClaim _ len _ _ => fits 32 len
  | .ownerAdd _ len _ _ => fits 32 len
  | .ownerRevoke _ len _ _ => fits 32 len
  | .setSubsys _ len _ _ => fits 32 len
  | .vendorRevoke _ len _ _ => fits 32 len
  | .completeTransition _ len _ _ => fits 32 len
  | .info cid label len addr => fits 16 cid && fits 32 label && fits 32 len && fits 64 addr
  | .list cid len addr => fits 16 cid && fits 32 len && fits 64 addr
  | .importPub cid len addr => fits 16 cid && fits 32 len && fits 64 addr
  | .importKey cid label len tlen _ _ _ => fits 16 cid && fits 32 label && fits 32 len && fits 32 tlen
  | .destroy cid label len tlen _ _ => fits 16 cid && fits 32 label && fits 32 len && fits 32 tlen
  | .sealRotate cid len tlen _ _ => fits 16 cid && fits 32 len && fits 32 tlen
  | .keyJournalCommit _ => true
  | .msixAggregationTimeout q => fits 8 q
  | .msixVectorUnmask _ addr data _ => fits 64 addr && fits 32 data
  | .retentionAck q => fits 8 q
  | .busMasterDisable => true
  | .powerStateChange _ => true
  | .mctpMessage tr type lens => decide (tr < 3) && fits 8 type && lens.all (fits 7)
  | .setEndpointId tr eid => decide (tr < 3) && fits 8 eid
  | .getVersion eid tr => fits 8 eid && decide (tr < 3)
  | .getCapabilities eid tr => fits 8 eid && decide (tr < 3)
  | .negotiateAlgorithms eid tr _ => fits 8 eid && decide (tr < 3)
  | .getDigests eid tr => fits 8 eid && decide (tr < 3)
  | .getCertificate eid tr slot off len => fits 8 eid && decide (tr < 3) && fits 8 slot && fits 32 off && fits 32 len
  | .challenge eid tr slot hashType nonce => fits 8 eid && decide (tr < 3) && fits 8 slot && fits 8 hashType && decide (nonce.length = 32)
  | .getMeasurements eid tr op _ nonce => fits 8 eid && decide (tr < 3) && fits 8 op && decide (nonce.length = 32)
  | .keyExchange eid tr slot => fits 8 eid && decide (tr < 3) && fits 8 slot
  | .finish eid tr _ => fits 8 eid && decide (tr < 3)
  | .heartbeat eid tr => fits 8 eid && decide (tr < 3)
  | .endSession eid tr => fits 8 eid && decide (tr < 3)
  | .spdmUnsupportedRequest eid tr => fits 8 eid && decide (tr < 3)
  | .spdmSessionTimeout eid tr => fits 8 eid && decide (tr < 3)
  | .spdmConnectionIdle eid tr => fits 8 eid && decide (tr < 3)
  | .spdmAgentRequest _ => true
  | .spdmAgentResponse _ _ dig => fits 384 dig
  | .spdmAgentRetry _ => true
  | .pufDlMeasure _ => true
  | .reenrol _ _ => true
  | .pufBufferClear => true
  | .caskRemask => true
  | .periodicSelfTest _ => true
  | .selfTestDrainEnd _ => true
  | .engineDerate _ => true
  | .engineRestore _ => true
  | .drbgReseed => true
  | .entropyTestFail => true
  | .drbgReinstantiate _ => true
  | .tamperTrip _ _ => true
  | .meshSample _ _ => true
  | .shelfMeshBurst _ _ => true
  | .shelfTempSample _ => true
  | .vbatLow => true
  | .eventRaise => true
  | .ringWrite => true
  | .journalBlockDue => true
  | .journalBlockDurable _ => true
  | .journalRetry _ => true
  | .lwClear => true
  | .rdataRead _ _ => true
  | .msigapExpiry v => fits 6 v
  | .routeWrite _ _ => true
  | .pendHiRead _ => true
  | .counterDataRead _ _ => true
  | .counterWrite _ _ => true
  | .bar4Read _ _ => true
  | .telemetryPeriod _ _ => true
  | .telemetryLate => true
  | .opdataAccess _ _ _ => true
  | .sfdpdataRead _ _ => true
  | .stdataAccess _ _ _ _ => true
  | .rgdataAccess _ _ _ _ => true
  | .seqdataAccess _ _ => true
  | .baddataRead _ _ => true
  | .strdataRead _ _ => true
  | .strattRead _ => true
  | .caskdataRead _ _ => true
  | .thdataRead _ _ => true
  | .vctrRead _ => true
  | .tlmDataRead _ => true
  | .txdataWrite _ _ _ => true
  | .rxdataRead _ _ => true
  | .wd0CfgWrite _ _ => true
  | .wd0WindowWrite _ _ => true
  | .wd0Service _ _ => true
  | .wd0FirstExpiry => true
  | .wd0SecondExpiry => true
  | .ringMonitorTrip => true
  | .clockMonitorTrip _ _ => true
  | .flashClockLoss => true
  | .flashRelock => true
  | .flashRelockTimeout => true
  | .refclkLoss => true
  | .keeperCrystalLoss => true
  | .keeperCrystalReturn => true
  | .ringLoss => true
  | .tempThreshold _ => true
  | .railExcursion _ => true
  | .windowRead _ bank off n => fits 8 bank && fits 8 off && fits 8 n
  | .windowWrite _ bank off n _ _ => fits 8 bank && fits 8 off && fits 8 n
  | .smbusTimeout _ => true
  | .mctpResponseRetry _ _ => true
  | .mctpPacket _ eid type len _ _ => fits 8 eid && fits 8 type && fits 7 len
  | .mctpPacketRead _ => true
  | .entdaa _ addr => fits 7 addr
  | .setdasa _ addr new => fits 7 addr && fits 7 new
  | .setnewda _ addr new => fits 7 addr && fits 7 new
  | .rstdaa _ => true
  | .enec _ _ _ => true
  | .disec _ _ _ => true
  | .getpid _ addr => fits 7 addr
  | .getbcr _ addr => fits 7 addr
  | .getdcr _ addr => fits 7 addr
  | .getstatus _ addr => fits 7 addr
  | .getmwl _ addr => fits 7 addr
  | .setmwl _ _ v => fits 16 v
  | .getmrl _ addr => fits 7 addr
  | .setmrl _ _ v => fits 16 v
  | .getmxds _ addr => fits 7 addr
  | .mctpIdentify eid => fits 8 eid
  | .mctpLogRead eid src from_ max => fits 8 eid && fits 8 src && fits 64 from_ && fits 8 max
  | .mctpCertRead eid chain off len => fits 8 eid && fits 8 chain && fits 32 off && fits 32 len
  | .mctpLogClear eid => fits 8 eid
  | .mctpSetPhase eid channel phase => fits 8 eid && fits 8 channel && fits 8 phase
  | .mctpActivate eid channel slot flipNow _ => fits 8 eid && fits 8 channel && fits 8 slot && fits 8 flipNow
  | .mctpReimage eid agent source => fits 8 eid && fits 8 agent && fits 8 source
  | .mctpPolicyLoad eid off _ len _ => fits 8 eid && fits 32 off && fits 32 len
  | .mctpFwDownload eid off _ len _ => fits 8 eid && fits 32 off && fits 32 len
  | .mctpFwActivate eid target => fits 8 eid && fits 8 target
  | .auxGo _ _ sel len => fits 2 sel && fits 14 len
  | .auxAbort _ _ _ _ => true
  | .frameSend _ _ _ => true
  | .auxTransferDone _ _ => true
  | .slaveTransferEnd _ _ _ => true
  | .uartReceive _ _ => true
  | .gpioEdge _ _ => true
  | .keeperPowerLoss => true
  | .tapReset => true
  | .debuggerHalt _ => true
  | .debuggerResume _ => true
  | .ringReturn => true
  | .refclkReturn => true
  | .configRequest _ => true
  | .recorderSramError => true
  | .ownFirmwareFault => true
  | .recoveryWriteStep _ _ _ => true

end Sys2Proof
end

