-- ==== Sys2Proof/Safety.lean ====
section
/-! DEFINITION. Safety.lean: the words claims are stated in: a command that completes, the components of the state, and what
two states have in common. -/

namespace Sys2Proof.Machine

/-- A command answers a next state, and that state has a property. -/
def Does (c : Instr) (s : State) (P : State → Prop) : Prop := ∃ t, exec c s = .next t ∧ P t

/-- The components of the state. -/
inductive Comp where
  | pending | time | freeCtr | outbox | regs | evt | plat | keeper | chs | cellar | press | vault | ctl | cntr | tlm | wd0 | clk
  | host | ident | sealing | crypt | life | side | aux
deriving DecidableEq, Repr

/-- Every component but the queue and the count of time: what a start of the device may set anew. -/
def Comp.device : List Comp :=
  [.freeCtr, .outbox, .regs, .evt, .plat, .keeper, .chs, .cellar, .press, .vault, .ctl, .cntr, .tlm, .wd0, .clk, .host, .ident
   , .sealing, .crypt, .life, .side, .aux]

/-- A component is the same in two states. -/
def Comp.same : Comp → State → State → Prop
  | .pending, s, t => t.pending = s.pending
  | .time, s, t => t.time = s.time
  | .freeCtr, s, t => t.freeCtr = s.freeCtr
  | .outbox, s, t => t.outbox = s.outbox
  | .regs, s, t => t.regs = s.regs
  | .evt, s, t => t.evt = s.evt
  | .plat, s, t => t.plat = s.plat
  | .keeper, s, t => t.keeper = s.keeper
  | .chs, s, t => t.chs = s.chs
  | .cellar, s, t => t.cellar = s.cellar
  | .press, s, t => t.press = s.press
  | .vault, s, t => t.vault = s.vault
  | .ctl, s, t => t.ctl = s.ctl
  | .cntr, s, t => t.cntr = s.cntr
  | .tlm, s, t => t.tlm = s.tlm
  | .wd0, s, t => t.wd0 = s.wd0
  | .clk, s, t => t.clk = s.clk
  | .host, s, t => t.host = s.host
  | .ident, s, t => t.ident = s.ident
  | .sealing, s, t => t.sealing = s.sealing
  | .crypt, s, t => t.crypt = s.crypt
  | .life, s, t => t.life = s.life
  | .side, s, t => t.side = s.side
  | .aux, s, t => t.aux = s.aux

/-- Every component but the named ones is the same in two states. -/
def State.sameBut (s t : State) (cs : List Comp) : Prop := ∀ c, c ∉ cs → c.same s t

/-- A transaction reaches its class's effect (R69, R73, R76): the port is open, continuous read is not armed, and the opcode is
listed with an entry of the class that the phase permits. -/
abbrev State.admits (s : State) (t : Txn) (cls : Nat) (e : Word) : Prop :=
  s.portOpen t.ch = true ∧ (s.chan t.ch).port.xip = none ∧ s.lookOp t.ch t.op t.ext = .listed e ∧ opClass e = cls

/-- Of the channels, only channel n differs, and there it is `c`. -/
def State.chanBecomes (s u : State) (n : Ch) (c : Chan) : Prop := u.chan n = c ∧ ∀ m, m ≠ n → u.chan m = s.chan m

/-- Of the channels, only the agent-side port of channel n differs, and it is `p`. -/
def State.portBecomes (s u : State) (n : Ch) (p : Port) : Prop := s.chanBecomes u n { s.chan n with port := p }

/-- The commands that leave for parts of channel n, in order, with no address and no data (R86 to R88, R122). -/
def partCmds (n : Ch) (ks : List PartId) (c : FlashOp) : List Out :=
  ks.map (fun k => .flashCmd ⟨n.val, Nat.lt_succ_of_lt n.isLt⟩ k c [] 0 [])

/-- Between two states an event source has been raised, at the severity of its home chapter, with an ARG. -/
def State.raises (s u : State) (src arg : Nat) : Prop :=
  ∃ l, u.evt.transit = s.evt.transit ++ l ∧ (⟨src, sevOf src, arg⟩ : Raise) ∈ l

/-- Between two states an event source has been raised at a severity of its own class. -/
def State.raisesAt (s u : State) (src sev arg : Nat) : Prop :=
  ∃ l, u.evt.transit = s.evt.transit ++ l ∧ (⟨src, sev, arg⟩ : Raise) ∈ l

/-- Between two states a message has left toward the outside. -/
def State.sends (s u : State) (o : Out) : Prop := ∃ l, u.outbox = s.outbox ++ l ∧ o ∈ l

/-- The Steward takes an admin command (R40, R233, R234, R240): it is the oldest one fetched and not completed, the firmware serves
the queue, the bus is usable, the mode accepts the opcode, and no firmware pair the opcode needs has halted (R286). -/
abbrev State.takes (s : State) (cid opcode : Nat) (f : Fetched) : Prop :=
  s.adminHead cid opcode = some f ∧ s.serving = true ∧ s.busOk = true ∧ s.adminAllowed opcode = true ∧
    s.firmwareAway opcode = false

/-- The checks 1 to 5 of R331 pass for a lifecycle token under an authority: mode, no OTP write in progress, length, form, unit and
nonce, and a valid signature by keys that are not revoked. -/
abbrev State.lcPasses (s : State) (len : Nat) (t : LcToken) (a : Authority) : Prop :=
  s.lcMode = true ∧ 1 ≤ len ∧ len ≤ 65536 ∧ s.otpBusy = false ∧ t.wellFormed = true ∧ t.ctype = 7 ∧ t.format = 1 ∧
    t.unitid = some s.unitid ∧ s.ident.nonce = some t.nonce ∧ s.signerRevoked a t = false ∧ s.signedBy a t = true

/-- What one OTP array shows that was shown before (R326, R330, R335): no programmed bit of a state word, a fuse, a revoke bit, a digest
slot, the subsystem IDs or a Vintage counter has cleared, and what Afdon wrote is as it was. -/
structure Otp.kept (o p : Otp) : Prop where
  wTest : p.wTest &&& o.wTest = o.wTest
  wProd : p.wProd &&& o.wProd = o.wProd
  wEol : p.wEol &&& o.wEol = o.wEol
  fuses : p.fuses &&& o.fuses = o.fuses
  orev : p.orev &&& o.orev = o.orev
  vrev : p.vrev &&& o.vrev = o.vrev
  owners : ∀ k : Fin 8, p.owners.getD k.val 0 ||| o.owners.getD k.val 0 = p.owners.getD k.val 0
  ssvid : p.ssvid ||| o.ssvid = p.ssvid
  ssid : p.ssid ||| o.ssid = p.ssid
  written : p.written ||| o.written = p.written
  vctr : ∀ k : Fin 16, p.vctr[k] &&& o.vctr[k] = o.vctr[k]
  ident : p.ident = o.ident
  vendors : p.vendors = o.vendors
  trim : p.trim = o.trim

/-- Every sparse store of the state is in its canonical form: the active copy of the configuration, the sticky bits, each requester's
own registers and the buffers of the auxiliary ports. -/
def State.storesOk (s : State) : Bool :=
  storeWf regReset s.regs.active && storeWf zeroDefault s.regs.sticky && storeWf regReset s.regs.host.own &&
    storeWf regReset s.regs.side.own && storeWf regReset s.regs.int.own &&
    s.aux.ports.toList.all (fun p => storeWf zeroDefault p.tx && storeWf zeroDefault p.rx)

/-- A completion entry with this answer to a fetched command is held until it is acknowledged (R230, R249). -/
def State.answered (u : State) (f : Fetched) (r : Reply) : Prop :=
  ∃ x ∈ u.host.retained, x.cq = f.q + 1 ∧ x.cpl.cid = f.cid ∧ x.cpl.sqid = f.q ∧ x.cpl.status = r.st ∧ x.cpl.detail = r.detail ∧
    x.cpl.result = r.result

end Sys2Proof.Machine
end

