-- ==== Sys2Proof/Certificates/Slice0/Obligations.lean ====
section
/-! DEFINITION. Certificates/Slice0/Obligations.lean: the statements about the KP9600, for the provers. A statement with several
clauses holds of each command it names. The phrase "log entry" names a file of notes/assumptions. -/

open Sys2Proof Sys2Proof.Machine

/-- A transaction that reaches its class's effect changes its channel's port as its row says, disarms RESET_ENABLE (R75), and
changes no other channel and no part of the device but the event router and the counters (R71, R74, R75, R81, R82, R84). Where a
clause rests on a reading of the model, log entries 14 name it. -/
def Obligations.AgentFlagCommands : Prop :=
  (∀ (s : State) (t : Txn) (e : Word), s.admits t 5 e → Does (.writeEnable t) s (fun u =>
    s.portBecomes u t.ch { (s.chan t.ch).port with rstEn := false, wel := true } ∧ s.sameBut u [.evt, .chs, .cntr])) ∧
  (∀ (s : State) (t : Txn) (e : Word), s.admits t 6 e → Does (.writeDisable t) s (fun u =>
    s.portBecomes u t.ch { (s.chan t.ch).port with rstEn := false, wel := false } ∧ s.sameBut u [.evt, .chs, .cntr])) ∧
  (∀ (s : State) (t : Txn) (e : Word), s.admits t 14 e → Does (.resetEnable t) s (fun u =>
    s.portBecomes u t.ch { (s.chan t.ch).port with rstEn := true } ∧ s.sameBut u [.evt, .chs, .cntr])) ∧
  (∀ (s : State) (t : Txn) (e : Word), s.admits t 16 e → Does (.clearFail t) s (fun u =>
    s.portBecomes u t.ch { (s.chan t.ch).port with rstEn := false, pfail := false, efail := false, prot := false } ∧
    s.sameBut u [.evt, .chs, .cntr])) ∧
  (∀ (s : State) (t : Txn) (e : Word), s.admits t 17 e → Does (.addrMode t) s (fun u =>
    s.portBecomes u t.ch { (s.chan t.ch).port with rstEn := false, addr4 := decide (opArg e = 0) } ∧
    s.raises u (64 * t.ch.val + 6) (chArg 0 t.op.toNat 0 0) ∧ s.sameBut u [.evt, .chs, .cntr])) ∧
  (∀ (s : State) (t : Txn) (e : Word), s.admits t 18 e → Does (.accept t) s (fun u =>
    s.portBecomes u t.ch { (s.chan t.ch).port with rstEn := false } ∧ s.sameBut u [.evt, .chs, .cntr])) ∧
  (∀ (s : State) (t : Txn) (e : Word), s.admits t 15 e → (s.chan t.ch).port.rstEn = true → Does (.reset t) s (fun u =>
    (u.chan t.ch).port = { (s.chan t.ch).port with
      mode := fld (s.cfg (fch t.ch 4)) 3 0, addr4 := bit (s.cfg (fch t.ch 4)) 4, xip := none, rstEn := false
      srHigh := BitVec.ofNat 8 (fld (s.cfg (fch t.ch 8)) 7 0) &&& 0xFC#8, cr := BitVec.ofNat 8 (fld (s.cfg (fch t.ch 8)) 15 8)
      ops := resumeAllFrom (s.chan t.ch).port.opRuns (s.chan t.ch).port.ops
      wip := !(resumeAllFrom (s.chan t.ch).port.opRuns (s.chan t.ch).port.ops).isEmpty
      wel := false, blockBusy := false, pfail := false, efail := false, prot := false } ∧
    (∀ m : Ch, m ≠ t.ch → u.chan m = s.chan m) ∧
    s.raises u (64 * t.ch.val + 7) (chArg 0 t.op.toNat 0 0) ∧ s.sameBut u [.outbox, .evt, .chs, .cntr])) ∧
  (∀ (s : State) (t : Txn), s.portOpen t.ch = true → (s.chan t.ch).port.xip = none → s.lookOp t.ch t.op t.ext = .unlisted →
    Does (.unlistedOpcode t) s (fun u =>
      s.portBecomes u t.ch { (s.chan t.ch).port with rstEn := false, refusals := wrap32 ((s.chan t.ch).port.refusals + 1) } ∧
      s.raises u (64 * t.ch.val) (chArg 0 t.op.toNat 0 0) ∧ s.sameBut u [.outbox, .evt, .plat, .chs, .cntr])) ∧
  (∀ (s : State) (t : Txn) (e : Word) (b : Byte) (r : List Byte), s.admits t 12 e → (s.chan t.ch).port.wel = true →
    t.onByte = true → t.data = b :: r → Does (.writeReg t) s (fun u =>
      s.portBecomes u t.ch (if opArg e = 0 then { (s.chan t.ch).port with rstEn := false, srHigh := b &&& 0xFC#8 }
        else { (s.chan t.ch).port with rstEn := false, cr := b }) ∧ s.sameBut u [.evt, .chs, .cntr])) ∧
  (∀ (s : State) (t : Txn) (e m : Word) (b : Byte) (r : List Byte), s.admits t 13 e → (s.chan t.ch).port.wel = true →
    t.onByte = true → t.data = b :: r → s.modeSwitch t b = some m → Does (.modeset t) s (fun u =>
      s.portBecomes u t.ch
        { (s.chan t.ch).port with rstEn := false, cr := b, mode := fld m 19 16, addr4 := bit m 20, wel := false } ∧
      s.raises u (64 * t.ch.val + 6) (chArg 0 t.op.toNat 0 0) ∧ s.sameBut u [.evt, .chs, .cntr]))

/-- Array reads and synthesised reads of a port (R62, R76, R77, R79, R81, R96). A read of bytes of one page that the Cellar
holds is served whole, counted as served from the Cellar, and marks its frame referenced; a continuous read whose mode bits
differ from those of the configuration disarms continuous read. Where a clause rests on a reading of the model, log entries 2
and 4 name it. -/
def Obligations.AgentReads : Prop :=
  (∀ (s : State) (t : Txn) (e : Word) (r : Region) (p : PageId) (a : Nat),
    s.admits t 1 e → a = s.txnAddr t e → 0 < t.n → a % 4096 + t.n ≤ 4096 → t.lateAt = none →
    s.hbPage t.ch (s.vwrap t.ch (a / 4096)) = false → s.regionAt t.ch (s.vwrap t.ch (a / 4096)) = some r →
    r.policy ≠ 3 → s.permNow t.ch r 0 = true →
    (s.chan t.ch).port.inSuspended (4096 * s.vwrap t.ch (a / 4096) + a % 4096) t.n = false →
    p = ⟨r.slot, imageIndex (s.regions t.ch) r.slot (s.vwrap t.ch (a / 4096))⟩ → (s.chan t.ch).bad.contains p = false →
    (s.frameOf t.ch p).isSome = true →
    Does (.agentRead t) s (fun u =>
      u.outbox = s.outbox ++ [Out.arrayRead t.ch a t.n true (s.dqs t.ch)] ∧
      (u.chan t.ch).port.srvCellar = ((s.chan t.ch).port.srvCellar + t.n) % 2 ^ 64 ∧
      u.cellar.frames = s.cellar.frames.map (fun f => if f.holds t.ch p then { f with ref := true } else f) ∧
      (∀ m, m ≠ t.ch → u.chan m = s.chan m))) ∧
  (∀ (s : State) (t : Txn) (op : Byte) (r : Region) (p : PageId) (a : Nat), s.portOpen t.ch = true →
    (s.chan t.ch).port.xip = some op → a = s.txnAddr { t with op := op } (s.cfg (opKey t.ch.val op.toNat)) →
    0 < t.n → a % 4096 + t.n ≤ 4096 → t.lateAt = none →
    s.hbPage t.ch (s.vwrap t.ch (a / 4096)) = false → s.regionAt t.ch (s.vwrap t.ch (a / 4096)) = some r →
    r.policy ≠ 3 → s.permNow t.ch r 0 = true →
    (s.chan t.ch).port.inSuspended (4096 * s.vwrap t.ch (a / 4096) + a % 4096) t.n = false →
    p = ⟨r.slot, imageIndex (s.regions t.ch) r.slot (s.vwrap t.ch (a / 4096))⟩ → (s.chan t.ch).bad.contains p = false →
    (s.frameOf t.ch p).isSome = true →
    Does (.continuousRead t) s (fun u =>
      u.outbox = s.outbox ++ [Out.arrayRead t.ch a t.n true (s.dqs t.ch)] ∧
      (u.chan t.ch).port.srvCellar = ((s.chan t.ch).port.srvCellar + t.n) % 2 ^ 64 ∧
      (fld (s.cfg (fch t.ch 4)) 31 24 ≠ t.modeBits.toNat → (u.chan t.ch).port.xip = none) ∧
      (fld (s.cfg (fch t.ch 4)) 31 24 = t.modeBits.toNat → (u.chan t.ch).port.xip = some op) ∧
      (∀ m, m ≠ t.ch → u.chan m = s.chan m))) ∧
  (∀ (s : State) (t : Txn) (op : Byte), s.portOpen t.ch = true → (s.chan t.ch).port.xip = some op →
    fld (s.cfg (fch t.ch 4)) 31 24 ≠ t.modeBits.toNat →
    Does (.continuousRead t) s (fun u => (u.chan t.ch).port.xip = none ∧
      ∃ (ws : List Out) (done strobe : Bool), u.outbox = s.outbox ++ ws ++
        [Out.arrayRead t.ch (s.txnAddr { t with op := op } (s.cfg (opKey t.ch.val op.toNat))) t.n done strobe])) ∧
  (∀ (s : State) (t : Txn) (e : Word), s.admits t 2 e → Does (.readSfdp t) s (fun u =>
    u.outbox = s.outbox ++ [Out.wire t.ch (s.dqs t.ch) (s.sfdpBytes t.ch (s.txnAddr t e) t.n)] ∧
    s.portBecomes u t.ch { (s.chan t.ch).port with rstEn := false, synth := wrap32 ((s.chan t.ch).port.synth + t.n) } ∧
    s.sameBut u [.outbox, .evt, .chs, .cntr])) ∧
  (∀ (s : State) (t : Txn) (e : Word), s.admits t 3 e → Does (.readId t) s (fun u =>
    u.outbox = s.outbox ++ [Out.wire t.ch (s.dqs t.ch) (s.idBytes t.ch t.n)] ∧
    s.portBecomes u t.ch { (s.chan t.ch).port with rstEn := false, synth := wrap32 ((s.chan t.ch).port.synth + t.n) } ∧
    s.sameBut u [.outbox, .evt, .chs, .cntr])) ∧
  (∀ (s : State) (t : Txn) (e : Word), s.admits t 4 e → t.endsAt = none → Does (.readReg t) s (fun u =>
    u.outbox = s.outbox ++ [Out.wire t.ch (s.dqs t.ch) (List.replicate t.n (s.emulReg t.ch (opArg e)))] ∧
    s.portBecomes u t.ch { (s.chan t.ch).port with rstEn := false, synth := wrap32 ((s.chan t.ch).port.synth + t.n) } ∧
    s.sameBut u [.outbox, .evt, .chs, .cntr])) ∧
  (∀ (s : State) (t : Txn) (e : Word) (k : Nat) (ok : Bool), s.admits t 4 e → t.endsAt = some (k, ok) → k ≤ t.n →
    (s.chan t.ch).port.blockBusy = true → Does (.readReg t) s (fun u =>
      u.outbox = s.outbox ++ [Out.wire t.ch (s.dqs t.ch) (List.replicate k (s.emulReg t.ch (opArg e)) ++
        List.replicate (t.n - k) (u.emulReg t.ch (opArg e)))] ∧
      s.portBecomes u t.ch { (s.chan t.ch).port with
        rstEn := false, synth := wrap32 ((s.chan t.ch).port.synth + t.n)
        blockBusy := false, wip := (s.chan t.ch).port.wipOp, wel := false } ∧
      s.sameBut u [.outbox, .evt, .chs, .cntr]))

/-- Programs, erases, their suspension and their ends (R59, R82 to R87, R93, R94). With WEL set, no write in progress, nothing
suspended and the range permitted, an erase or a program of a mapped page is accepted: it waits for its part, WIP is 1. A
program to the heartbeat page in time is a service: WEL falls, WIP stays, HBOK counts it and the watchdog starts anew. Where a
clause rests on a reading of the model, log entries 14 and 18 name it. -/
def Obligations.AgentWrites : Prop :=
  (∀ (s : State) (t : Txn) (e : Word) (sz a : Nat), s.admits t 7 e → (s.chan t.ch).port.wel = true → t.onByte = true →
    (s.chan t.ch).port.wip = false → (s.chan t.ch).port.ops = [] → sz = s.pgsz t.ch → a = s.txnAddr t e →
    s.hbPage t.ch (s.vwrap t.ch (a / 4096)) = false → t.data ≠ [] → s.rangeOk t.ch ⟨a / sz * sz, sz⟩ 1 = true →
    s.partsOf t.ch ⟨a / sz * sz, sz⟩ ≠ [] →
    Does (.program t) s (fun u =>
      s.portBecomes u t.ch { (s.chan t.ch).port with rstEn := false, wip := true, ops :=
        [{ kind := .program, st := .waiting, base := a / sz * sz, len := sz, parts := s.partsOf t.ch ⟨a / sz * sz, sz⟩
           payload := wrapPayload sz (a % sz) t.data, suspendHeld := false, late := false }] } ∧
      s.sameBut u [.evt, .chs, .cntr])) ∧
  (∀ (s : State) (t : Txn) (e : Word) (sz a : Nat), s.admits t 8 e → (s.chan t.ch).port.wel = true → t.onByte = true →
    (s.chan t.ch).port.wip = false → (s.chan t.ch).port.ops = [] → sz = eraseSize (opArg e) → a = s.txnAddr t e / sz * sz →
    s.rangeOk t.ch ⟨a, sz⟩ 2 = true → s.partsOf t.ch ⟨a, sz⟩ ≠ [] →
    Does (.erase t) s (fun u =>
      s.portBecomes u t.ch { (s.chan t.ch).port with rstEn := false, wip := true, ops :=
        [{ kind := .erase, st := .waiting, base := a, len := sz, parts := s.partsOf t.ch ⟨a, sz⟩, payload := []
           suspendHeld := false, late := false }] } ∧
      s.sameBut u [.evt, .chs, .cntr])) ∧
  (∀ (s : State) (t : Txn) (e : Word), s.admits t 9 e → (s.chan t.ch).port.wel = true → t.onByte = true →
    (s.chan t.ch).port.wip = false → (s.chan t.ch).port.ops = [] → 0 < s.vpages t.ch →
    s.rangeOk t.ch ⟨0, 4096 * s.vpages t.ch⟩ 2 = true → s.partsOf t.ch ⟨0, 4096 * s.vpages t.ch⟩ ≠ [] →
    Does (.eraseChip t) s (fun u =>
      s.portBecomes u t.ch { (s.chan t.ch).port with rstEn := false, wip := true, ops :=
        [{ kind := .erase, st := .waiting, base := 0, len := 4096 * s.vpages t.ch
           parts := s.partsOf t.ch ⟨0, 4096 * s.vpages t.ch⟩, payload := [], suspendHeld := false, late := false }] } ∧
      s.sameBut u [.evt, .chs, .cntr])) ∧
  (∀ (s : State) (t : Txn) (e : Word), s.admits t 7 e → s.hbPage t.ch (s.vwrap t.ch (s.txnAddr t e / 4096)) = true →
    s.txnAddr t e % 4096 = 0 → t.data.take 4 = [0x5E#8, 0xED#8, 0xC0#8, 0xDE#8] → (s.chan t.ch).port.wel = true →
    t.onByte = true → s.wdInWin t.ch = true → bit (s.awin t.ch) 28 = true → (∀ k, ((s.chan t.ch).slot k).upd ≠ .confirming) →
    Does (.heartbeatService t) s (fun u =>
      (u.chan t.ch).port =
        { (s.chan t.ch).port with rstEn := false, wel := false, hbok := wrap32 ((s.chan t.ch).port.hbok + 1) } ∧
      (u.agt t.ch).wdAt = s.time ∧ (u.agt t.ch).warn = false ∧ (u.agt t.ch).served = true ∧ (u.agt t.ch).hbSeen = true ∧
      (∀ m, m ≠ t.ch → u.chan m = s.chan m))) ∧
  (∀ (s : State) (t : Txn) (e : Word) (o : AgentOp), s.admits t 10 e → (s.chan t.ch).port.ops = [o] → o.st = .running →
    (s.chan t.ch).port.blockBusy = false → Does (.suspend t false) s (fun u =>
      (u.chan t.ch).port = { (s.chan t.ch).port with
        rstEn := false, wip := false, ops := [{ o with st := .suspended, suspendHeld := false }] } ∧
      (∀ k, k ∈ o.parts → ((u.chan t.ch).prt k).busy = none) ∧ (∀ m, m ≠ t.ch → u.chan m = s.chan m) ∧
      s.raises u (64 * t.ch.val + 10) 0 ∧ u.outbox = s.outbox ++ partCmds t.ch o.parts .suspend ∧
      s.sameBut u [.outbox, .evt, .chs, .cntr])) ∧
  (∀ (s : State) (n : Ch) (o : AgentOp), (s.chan n).port.ops = [o] → o.st = .running → o.suspendHeld = true →
    s.powered = true → Does (.suspendForward n) s (fun u =>
      (u.chan n).port = { (s.chan n).port with wip := false, ops := [{ o with st := .suspended, suspendHeld := false }] } ∧
      (∀ k, k ∈ o.parts → ((u.chan n).prt k).busy = none) ∧ (∀ m, m ≠ n → u.chan m = s.chan m) ∧
      s.raises u (64 * n.val + 10) 0 ∧ u.outbox = s.outbox ++ partCmds n o.parts .suspend ∧
      s.sameBut u [.outbox, .evt, .chs, .cntr])) ∧
  (∀ (s : State) (t : Txn) (e : Word) (o : AgentOp), s.admits t 11 e → (s.chan t.ch).port.ops = [o] → o.st = .suspended →
    Does (.resume t) s (fun u =>
      (u.chan t.ch).port = { (s.chan t.ch).port with rstEn := false, wip := true, ops := [{ o with st := .running }] } ∧
      (∀ k, k ∈ o.parts → ((u.chan t.ch).prt k).busy = some .agent) ∧ (∀ m, m ≠ t.ch → u.chan m = s.chan m) ∧
      s.raises u (64 * t.ch.val + 11) 0 ∧ u.outbox = s.outbox ++ partCmds t.ch o.parts .resume ∧
      s.sameBut u [.outbox, .evt, .chs, .cntr])) ∧
  (∀ (s : State) (n : Ch) (khz : Nat), s.portOpen n = true →
    1020 * modeLimit (fld (s.cfg (fch n 4)) 23 16) (s.chan n).port.mode < khz → Does (.sclkMeasure n khz) s (fun u =>
      s.portBecomes u n { (s.chan n).port with sclkMhz := khz / 1000 } ∧ bit (u.sticky (fch n 0)) 24 = true ∧
      s.raises u (64 * n.val + 5) 0 ∧ s.sameBut u [.regs, .evt, .chs])) ∧
  (∀ (s : State) (n : Ch) (o : AgentOp) (ok : Bool), s.powered = true → (s.chan n).port.ops = [o] → o.st = .running →
    Does (.agentOperationEnd n ok) s (fun u =>
      (u.chan n).port = { (s.chan n).port with
        ops := [], wip := false, wel := false
        pfail := (s.chan n).port.pfail || (!ok && decide (o.kind = .program))
        efail := (s.chan n).port.efail || (!ok && decide (o.kind = .erase)) } ∧
      (∀ k, k ∈ o.parts → ((u.chan n).prt k).busy = none) ∧ (∀ m, m ≠ n → u.chan m = s.chan m) ∧ s.sameBut u [.chs])) ∧
  (∀ (s : State) (n : Ch), s.powered = true → (s.chan n).port.blockBusy = true → Does (.blockbusyEnd n) s (fun u =>
    s.portBecomes u n { (s.chan n).port with blockBusy := false, wip := (s.chan n).port.wipOp, wel := false } ∧
    s.sameBut u [.chs]))

/-- The image update flow of a slot (R106, R107, R112, R113, R115, R116): each step of it that is due changes its slot's state
as the spec says. Where a clause rests on a reading of the model, log entries 10 name it. -/
def Obligations.UpdateFlow : Prop :=
  (∀ (s : State) (n : Ch), s.powered = true → (s.chan n).st = .released → (s.chan n).phase = .boot →
    fld (s.cfg (fch n 0xA4)) 3 2 = 1 → Does (.boottimeElapsed n) s (fun u =>
      s.chanBecomes u n { s.chan n with phase := .run } ∧ s.raises u (64 * n.val + 17) 0 ∧ s.sameBut u [.evt, .chs])) ∧
  (∀ (s : State) (n : Ch), s.powered = true → (s.chan n).phase = .update → s.updating n = false →
    Does (.updateTimeout n) s (fun u =>
      s.chanBecomes u n { s.chan n with phase := .run } ∧ s.raises u (64 * n.val + 18) 0 ∧ s.sameBut u [.evt, .chs])) ∧
  (∀ (s : State) (n : Ch) (k : SlotId), s.powered = true → ((s.chan n).slot k).upd = .waitPart →
    s.exposed n (s.nextPart n k) = false → Does (.exposedWaitEnd n k) s (fun u =>
      (u.chan n).slot k = { (s.chan n).slot k with upd := .copying } ∧ (∀ m, m ≠ n → u.chan m = s.chan m) ∧
      s.sameBut u [.chs])) ∧
  (∀ (s : State) (n : Ch) (k : SlotId) (p : Update), s.powered = true → ((s.chan n).slot k).upd = .verifying →
    ((s.chan n).slot k).up = some p → s.portHeld n = false →
    (s.pressRun { cls := 2, ch := none, tag := 4 * n.val + k.val, engine := 8 }).2 = true → Does (.stagingVerify n k true) s (fun u =>
      (u.chan n).slot k = { (s.chan n).slot k with upd := .copying, progress := 0 } ∧
      (s.crypt.root ≠ none → u.vault.intents = s.vault.intents ++ [(⟨s.vault.nextSeq, 1, n.val, k.val, 0, 0, p.nsteps,
        placeWord (s.stagingPlace n k false 0), s.copyPlace n k (s.inactCopy n k), 0, true⟩ : Intent)]) ∧
      (∀ m, m ≠ n → u.chan m = s.chan m))) ∧
  (∀ (s : State) (n : Ch) (k : SlotId) (p : Update), s.powered = true → ((s.chan n).slot k).upd = .verifying →
    ((s.chan n).slot k).up = some p → s.portHeld n = false →
    (s.pressRun { cls := 2, ch := none, tag := 4 * n.val + k.val, engine := 8 }).2 = true → Does (.stagingVerify n k false) s (fun u =>
      (u.chan n).slot k = { (s.chan n).slot k with upd := .idle, locked := false, up := none, progress := 0 } ∧
      (u.chan n).phase ≠ .update ∧ s.raises u (64 * n.val + 20) (chArg 0 0 4 k.val) ∧ (∀ m, m ≠ n → u.chan m = s.chan m))) ∧
  (∀ (s : State) (n : Ch) (k : SlotId) (p : Update) (units : Nat) (x : CopyUnit) (r : List CopyUnit), s.powered = true →
    ((s.chan n).slot k).upd = .copying → ((s.chan n).slot k).up = some p →
    ((s.copyUnitList n k (s.inactCopy n k)).drop p.step).take units = x :: r →
    unitsJoin ((s.chan n).prt x.part).erases (x :: r) = true → s.exposed n x.part = false → s.canWrite n x.part = true →
    p.step + (r.length + 1) < p.nsteps → Does (.copyUnit n k units true) s (fun u =>
      (u.chan n).slot k = { (s.chan n).slot k with
        up := some { p with step := p.step + (r.length + 1), fails := 0 }
        progress := 100 * (p.step + (r.length + 1)) / p.nsteps } ∧
      (s.crypt.root ≠ none → u.vault.intents = s.vault.intents ++ [(⟨s.vault.nextSeq, 1, n.val, k.val, 0, p.step + (r.length + 1),
        p.nsteps, placeWord (s.stagingPlace n k x.metaPg x.page), placeWord (some (x.part, x.addr / 4096)), 0, true⟩ : Intent)]) ∧
      (∀ m, m ≠ n → u.chan m = s.chan m))) ∧
  (∀ (s : State) (n : Ch) (k : SlotId) (p : Update) (units : Nat) (x : CopyUnit) (r : List CopyUnit), s.powered = true →
    ((s.chan n).slot k).upd = .copying → ((s.chan n).slot k).up = some p →
    ((s.copyUnitList n k (s.inactCopy n k)).drop p.step).take units = x :: r →
    unitsJoin ((s.chan n).prt x.part).erases (x :: r) = true → s.exposed n x.part = false → s.canWrite n x.part = true →
    p.nsteps ≤ p.step + (r.length + 1) → p.flipNow = false → Does (.copyUnit n k units true) s (fun u =>
      ((u.chan n).slot k).upd = .flipPending ∧ ((u.chan n).slot k).locked = false ∧ (u.chan n).phase ≠ .update ∧
      s.raises u (64 * n.val + 21) (chArg 0 0 4 k.val) ∧ (∀ m, m ≠ n → u.chan m = s.chan m))) ∧
  (∀ (s : State) (n : Ch) (k : SlotId) (p : Update), s.powered = true → ((s.chan n).slot k).upd = .confirming →
    ((s.chan n).slot k).up = some p → p.windowOpen = true → (s.chan n).st ≠ .released →
    Does (.confirmWindowEnd n k) s (fun u =>
      ((u.chan n).slot k).upd = .rollingBack ∧ ((u.chan n).slot k).inactValid = false ∧
      s.raises u (64 * n.val + 24) (chArg 0 0 (s.actCopy n k) k.val))) ∧
  (∀ (s : State) (n : Ch) (k : SlotId) (p : Update) (c : Fin 16), s.powered = true → ((s.chan n).slot k).upd = .burning →
    ((s.chan n).slot k).up = some p → fld (s.cfg (fch n (0xB8 + 4 * k.val))) 27 24 = c.val →
    s.plat.mode ≠ .lockdown → (s.burnVintage c.val).vintage c.val < p.man.vintage → Does (.vintageBurnStep n k true) s (fun u =>
      u.life.otp.vctr[c] = s.life.otp.vctr[c] ||| BitVec.ofNat 64 (2 ^ s.vintage c.val) ∧
      (∀ d : Fin 16, d ≠ c → u.life.otp.vctr[d] = s.life.otp.vctr[d]) ∧
      s.raises u (64 * n.val + 25) (chArg 0 0 (s.actCopy n k) k.val)))

/-- The device-side port and the vault's parts (R108, R110, R120 to R123, R127, R282): operations are issued and polled, delays
are trained, a part that hangs is reset in stages and at the last fails, erase units are refreshed within their budget, and the
journals are compacted past 75 %. Where a clause rests on a reading of the model, log entries 10 and 11 name it. -/
def Obligations.PartsAndJournals : Prop :=
  (∀ (s : State) (n : Ch) (o : AgentOp) (x : Extent), s.powered = true → (s.chan n).port.ops = [o] → o.st = .waiting →
    o.kind = .program → (∀ k, k ∈ o.parts → ((s.chan n).prt k).failed = false ∧ ((s.chan n).prt k).busy = none) →
    s.clk.flashLost = false → s.servingExtent n (s.vwrap n (o.base / 4096)) = some x →
    Does (.deviceOpIssue n) s (fun u =>
      (u.chan n).port.ops = [{ o with st := .running }] ∧ (∀ k, k ∈ o.parts → ((u.chan n).prt k).busy = some .agent) ∧
      u.outbox = s.outbox ++ [Out.flashCmd ⟨n.val, Nat.lt_succ_of_lt n.isLt⟩ x.part .program
        (beBytes 4 (4096 * x.phys (s.vwrap n (o.base / 4096)) + o.base % 4096)) o.len o.payload] ∧
      (∀ m, m ≠ n → u.chan m = s.chan m))) ∧
  (∀ (s : State) (n : Ch) (k : PartId) (b : Busy), s.powered = true → ((s.chan n).prt k).busy = some b →
    ((s.chan n).prt k).failed = false → Does (.statusPoll n k) s (fun u =>
      u.outbox = s.outbox ++ partCmds n [k] .poll)) ∧
  (∀ (s : State) (port : PortId) (n : Ch) (k : PartId) (t : Training) (f : Nat), s.powered = true →
    port.val = n.val → ((s.chan n).prt k).present = true → ((s.chan n).prt k).failed = false →
    trainedSclk t (s.stepsOf n k) = some f → Does (.eyeTraining port k t) s (fun u =>
      (u.chan n).prt k = ((s.chan n).prt k).train t f ∧ u.plat.training ≠ some n.val ∧
      (0 < t.drops.getD 0 → s.raises u (64 * n.val + 28) 0) ∧ (∀ m, m ≠ n → u.chan m = s.chan m))) ∧
  (∀ (s : State) (port : PortId) (n : Ch) (k : PartId) (t : Training), s.powered = true → port.val = n.val →
    ((s.chan n).prt k).present = true → ((s.chan n).prt k).failed = false → trainedSclk t (s.stepsOf n k) = none → (s.chan n).st = .held →
    Does (.eyeTraining port k t) s (fun u =>
      ((u.chan n).prt k).failed = true ∧ s.raises u (64 * n.val + 27) 0 ∧ (∀ m, m ≠ n → u.chan m = s.chan m))) ∧
  (∀ (s : State) (port : PortId), s.background = true → s.plat.training = none → Does (.retrainDue port) s (fun u =>
    u.plat.training = some port.val)) ∧
  (∀ (s : State) (port : PortId) (n : Ch) (k : PartId) (b : Busy), s.powered = true → port.val = n.val →
    ((s.chan n).prt k).busy = some b → ((s.chan n).prt k).failed = false → ((s.chan n).prt k).stage = 0 →
    (s.chan n).port.ops = [] → Does (.partBusyTimeout port k) s (fun u =>
      (u.chan n).prt k = { (s.chan n).prt k with stage := 1 } ∧ s.raises u (64 * n.val + 26) 0)) ∧
  (∀ (s : State) (port : PortId) (n : Ch) (k : PartId), s.powered = true → port.val = n.val → ((s.chan n).prt k).stage = 2 →
    ((s.chan n).prt (1 - k)).busy = none → Does (.partSoftwareResetEnd port k true) s (fun u =>
      (u.chan n).prt k = { (s.chan n).prt k with stage := 3 } ∧ u.outbox = s.outbox ++ partCmds n [k] .rstPulse)) ∧
  (∀ (s : State) (port : PortId) (n : Ch) (k : PartId), s.powered = true → port.val = n.val → ((s.chan n).prt k).stage = 3 →
    (s.chan n).st = .held → Does (.partResetPulseEnd port k true) s (fun u =>
      ((u.chan n).prt k).failed = true ∧ s.raises u (64 * n.val + 27) 0 ∧ (∀ m, m ≠ n → u.chan m = s.chan m))) ∧
  (∀ (s : State) (port : PortId) (n : Ch) (k : PartId), s.powered = true → port.val = n.val → ((s.chan n).prt k).stage = 3 →
    Does (.partResetPulseEnd port k false) s (fun u =>
      (u.chan n).prt k = { (s.chan n).prt k with busy := none, stage := 0 } ∧ (∀ m, m ≠ n → u.chan m = s.chan m))) ∧
  (∀ (s : State) (n : Ch) (k : PartId) (slot : SlotId) (unit : Nat) (active : Bool), s.refreshOpen n k = true →
    s.exposed n k = false → ((s.chan n).prt k).refresh = none → ((s.chan n).prt k).used < fld (s.cfg (fch n 0xDC)) 31 16 →
    (∀ x ∈ ((s.chan n).prt k).refreshed, x.1 = unit → x.2 + dayCycles * fld (s.cfg (fch n 0xDC)) 15 0 ≤ s.time) →
    Does (.sectorRefreshStep n k slot unit active true true) s (fun u =>
      (u.chan n).prt k = { (s.chan n).prt k with refreshWaits := false, refresh := some (slot, unit, 1) } ∧
      u.vault.intents.length = s.vault.intents.length + (if s.crypt.root = none then 0 else 1) ∧
      (∀ m, m ≠ n → u.chan m = s.chan m))) ∧
  (∀ (s : State) (n : Ch) (k : PartId) (slot z : SlotId) (unit v : Nat) (active : Bool), s.refreshOpen n k = true →
    s.exposed n k = false → ((s.chan n).prt k).refresh = some (z, v, 1) →
    Does (.sectorRefreshStep n k slot unit active true true) s (fun u =>
      (u.chan n).prt k = { (s.chan n).prt k with
        refreshWaits := false, refresh := some (z, v, 2), used := ((s.chan n).prt k).used + 1
        refreshed := (v, s.time) :: ((s.chan n).prt k).refreshed.filter (fun x => x.1 ≠ v) } ∧
      u.outbox = s.outbox ++ [Out.flashCmd ⟨n.val, Nat.lt_succ_of_lt n.isLt⟩ k .erase (beBytes 4 (v * ((s.chan n).prt k).unit))
        ((s.chan n).prt k).unit []] ∧ (∀ m, m ≠ n → u.chan m = s.chan m))) ∧
  (∀ (s : State) (n : Ch) (k : PartId) (slot z : SlotId) (unit v : Nat) (active resident : Bool), s.refreshOpen n k = true →
    s.exposed n k = false → ((s.chan n).prt k).refresh = some (z, v, 2) →
    Does (.sectorRefreshStep n k slot unit active true resident) s (fun u =>
      (u.chan n).prt k = { (s.chan n).prt k with refreshWaits := false, refresh := none } ∧
      s.raises u (64 * n.val + 30) 0 ∧ (∀ m, m ≠ n → u.chan m = s.chan m))) ∧
  (∀ (s : State) (n : Ch) (k : PartId), s.powered = true → Does .refreshPeriodRollover s (fun u =>
    (u.chan n).prt k = { (s.chan n).prt k with used := 0 })) ∧
  (∀ (s : State), s.vaultUp = true → s.crypt.root ≠ none → s.vault.compact = none → 75 < s.intentFill →
    Does (.journalCompactionStep false) s (fun u =>
      u.vault.compact = some (false, 0, (liveIntents s.vault.intents).length + 1) ∧
      u.vault.intents = s.vault.intents ++ [(⟨s.vault.nextSeq, 8, 8, 0, 0, 0, (liveIntents s.vault.intents).length + 1,
        0x20002, 0x20002, 0, true⟩ : Intent)])) ∧
  (∀ (s : State) (key : Bool) (i total : Nat), s.vaultUp = true → s.crypt.root ≠ none →
    s.vault.compact = some (key, i, total) → i + 1 < total → Does (.journalCompactionStep key) s (fun u =>
      u.vault = { s.vault with compact := some (key, i + 1, total) } ∧ s.sameBut u [.vault])) ∧
  (∀ (s : State) (i total : Nat), s.vaultUp = true → s.crypt.root ≠ none →
    s.vault.compact = some (false, i, total) → total ≤ i + 1 → Does (.journalCompactionStep false) s (fun u =>
      u.vault.compact = none ∧ (∀ r ∈ liveIntents s.vault.intents, r ∈ u.vault.intents) ∧
      u.vault.nextSeq = wrap32 (s.vault.nextSeq + 1) ∧
      u.vault.intents.length = (liveIntents s.vault.intents).length + 1)) ∧
  (∀ (s : State) (i total : Nat), s.vaultUp = true → s.crypt.root ≠ none → s.crypt.sealGen = 1 →
    s.vault.compact = some (true, i, total) → total ≤ i + 1 → Does (.journalCompactionStep true) s (fun u =>
      u.vault.compact = none ∧ u.crypt.kjFill = 4 * s.crypt.keys.length ∧ u.crypt.keys = s.crypt.keys)) ∧
  (∀ (s : State) (t : Training) (f : Nat) (i : Intent), s.plat.mode = .recover → s.plat.cause = 0x16 →
    trainedSclk t s.vaultSteps = some f → liveIntents s.vault.intents = [i] → Does (.vaultRetrain t true) s (fun u =>
      u.vault.parts[0] = { s.vault.parts[0].train t f with failed := false, present := true, busy := none, stage := 0 }))

/-- Reads of registers (R7, R16, R24, R25, R70, R79, R99, R103, R165, R172, R218, R325, R335, R354, R357, R364, R372, R374,
R381, R418). A requester whose accesses arrive is answered with the value; the high half of a 64-bit value is latched with the
low half; VMAX clears for its reader; BAR4 reads 0 while EXPORT is 0. Where a clause rests on a reading of the model, log
entries 4 and 17 name it. -/
def Obligations.RegisterReads : Prop :=
  (∀ (s : State) (q : Req), s.reaches_ q = true → Does (.lowHalfRead q 0x514 true) s (fun u =>
    u.outbox = s.outbox ++ [Out.regValue q 0x514 (loHalf (BitVec.ofNat 64 s.evt.clearNo))
      , Out.regValue q 0x518 (hiHalf (BitVec.ofNat 64 s.evt.clearNo))])) ∧
  (∀ (s : State) (q : Req), s.reaches_ q = true → Does (.lowHalfRead q 0 false) s (fun u =>
    u.outbox = s.outbox ++ [Out.regValue q 0 0x96001F3D#32])) ∧
  (∀ (s : State) (q : Req) (n : Ch), s.reaches_ q = true → Does (.rcRead q n) s (fun u =>
    u.outbox = s.outbox ++ [Out.regValue q (0x1000 + 0x200 * n.val + 0x138) (word ((s.view q).vmax.getD n.val 0))] ∧
    (u.view q).vmax.getD n.val 0 = 0 ∧ (∀ p, p ≠ q → u.view p = s.view p))) ∧
  (∀ (s : State) (q : Req) (k : Fin 8), s.reaches_ q = true → Does (.rdataRead q k) s (fun u =>
    u.outbox = s.outbox ++ [Out.regValue q (0x524 + 4 * k.val)
      (storeGet zeroDefault ((s.sampleFor q (0x524 + 4 * k.val)).view q).sample (0x524 + 4 * k.val))])) ∧
  (∀ (s : State) (q : Req), s.reaches_ q = true → (s.view q).latch = [] → Does (.pendHiRead q) s (fun u =>
    u.outbox = s.outbox ++ [Out.regValue q 0x40C (hiHalf (BitVec.ofNat 64 (s.pendOf (fld (s.ownReg q 0x400) 9 0) % 2 ^ 48)))] ∧
    u.view q = (s.autoInc q 0x400 16 1024).view q)) ∧
  (∀ (s : State) (q : Req), s.reaches_ q = true → Does (.counterDataRead q false) s (fun u =>
    u.outbox = s.outbox ++ [Out.regValue q 0x70C (loHalf (s.counterWord (fld (s.ownReg q 0x708) 8 0)))] ∧
    stagedGet? (u.view q).latch 0x70C = some (hiHalf (s.counterWord (fld (s.ownReg q 0x708) 8 0))))) ∧
  (∀ (s : State) (q : Req) (w : Word), s.reaches_ q = true → stagedGet? (s.view q).latch 0x70C = some w →
    Does (.counterDataRead q true) s (fun u =>
      u.outbox = s.outbox ++ [Out.regValue q 0x710 w] ∧ u.view q = (s.autoInc q 0x708 16 512).view q)) ∧
  (∀ (s : State) (k : Fin 8192), s.reaches_ .host = true → bit (s.cfg 0x700) 31 = true → Does (.bar4Read k .both) s (fun u =>
    u.outbox = s.outbox ++ [Out.regValue64 (8 * k.val) (s.counterWord k.val)])) ∧
  (∀ (s : State) (k : Fin 8192), s.reaches_ .host = true → bit (s.cfg 0x700) 31 = false → bit (s.sticky 0x704) 0 = false →
    Does (.bar4Read k .both) s (fun u =>
      u.outbox = s.outbox ++ [Out.regValue64 (8 * k.val) 0#64] ∧ s.raises u 880 0)) ∧
  (∀ (s : State) (q : Req) (n : Ch), s.reaches_ q = true → Does (.opdataAccess q n none) s (fun u =>
    u.outbox = s.outbox ++ [Out.regValue q (0x1000 + 0x200 * n.val + 0x3C) (s.opWord n (fld (s.ownReg q (fch n 0x38)) 7 0))] ∧
    u.view q = (s.autoInc q (fch n 0x38) 8 256).view q)) ∧
  (∀ (s : State) (q : Req) (n : Ch), s.reaches_ q = true → Does (.sfdpdataRead q n) s (fun u =>
    u.outbox = s.outbox ++ [Out.regValue q (0x1000 + 0x200 * n.val + 0x44)
      (s.sfdpWord n (fld (s.ownReg q (fch n 0x40)) 7 0))] ∧
    u.view q = (s.autoInc q (fch n 0x40) 8 256).view q)) ∧
  (∀ (s : State) (q : Req) (n : Ch) (k : Fin 3), s.reaches_ q = true → Does (.stdataAccess q n k none) s (fun u =>
    u.outbox = s.outbox ++ [Out.regValue q (0x1000 + 0x200 * n.val + (0x84 + 4 * k.val))
      (s.cfg (stKey n.val (fld (s.ownReg q (fch n 0x80)) 5 0) k.val))])) ∧
  (∀ (s : State) (q : Req) (n : Ch) (k : Fin 3), s.reaches_ q = true → Does (.rgdataAccess q n k none) s (fun u =>
    u.outbox = s.outbox ++ [Out.regValue q (0x1000 + 0x200 * n.val + (0x94 + 4 * k.val))
      (s.cfg (rgKey n.val (fld (s.ownReg q (fch n 0x90)) 6 0) k.val))])) ∧
  (∀ (s : State) (q : Req), s.reaches_ q = true → Does (.seqdataAccess q none) s (fun u =>
    u.outbox = s.outbox ++ [Out.regValue q 0x2FC (s.cfg (seqKey (fld (s.ownReg q 0x2F8) 7 0)))] ∧
    u.view q = (s.autoInc q 0x2F8 8 256).view q)) ∧
  (∀ (s : State) (q : Req) (n : Ch), s.reaches_ q = true → Does (.baddataRead q n) s (fun u =>
    u.outbox = s.outbox ++ [Out.regValue q (0x1000 + 0x200 * n.val + 0x134)
      ((s.chan n).badWord (fld (s.ownReg q (fch n 0x130)) 5 0))] ∧
    u.view q = (s.autoInc q (fch n 0x130) 6 64).view q)) ∧
  (∀ (s : State) (q : Req) (k : Fin 2), s.reaches_ q = true → Does (.strdataRead q k) s (fun u =>
    u.outbox = s.outbox ++ [Out.regValue q (0x2450 + 4 * k.val)
      (storeGet zeroDefault ((s.sampleFor q (0x2450 + 4 * k.val)).view q).sample (0x2450 + 4 * k.val))])) ∧
  (∀ (s : State) (q : Req), s.reaches_ q = true → Does (.strattRead q) s (fun u =>
    u.outbox = s.outbox ++ [Out.regValue q 0x2460 (storeGet zeroDefault (s.view q).sample 0x2460)] ∧
    u.view q = (s.autoInc q 0x244C 12 4096).view q)) ∧
  (∀ (s : State) (q : Req) (k : Fin 8), s.reaches_ q = true → Does (.caskdataRead q k) s (fun u =>
    u.outbox = s.outbox ++ [Out.regValue q (0x2624 + 4 * k.val)
      (storeGet zeroDefault ((s.sampleFor q (0x2624 + 4 * k.val)).view q).sample (0x2624 + 4 * k.val))])) ∧
  (∀ (s : State) (q : Req) (k : Fin 4), s.reaches_ q = true → Does (.thdataRead q k) s (fun u =>
    u.outbox = s.outbox ++ [Out.regValue q (0xE4 + 4 * k.val)
      (storeGet zeroDefault ((s.sampleFor q (0xE4 + 4 * k.val)).view q).sample (0xE4 + 4 * k.val))])) ∧
  (∀ (s : State) (q : Req) (v : BitVec 64), s.reaches_ q = true → v = s.vctr (fld (s.ownReg q 0x30) 3 0) →
    Does (.vctrRead q) s (fun u =>
      u.outbox = s.outbox ++ [Out.regValue q 0x34 (word (vctrValue v + bitAt (vctrGap v) 31))] ∧
      u.view q = (s.autoInc q 0x30 4 16).view q)) ∧
  (∀ (s : State) (q : Req), s.reaches_ q = true → 119 < fld (s.ownReg q 0x2C08) 6 0 → Does (.tlmDataRead q) s (fun u =>
    u.outbox = s.outbox ++ [Out.regValue q 0x2C0C 0#32])) ∧
  (∀ (s : State) (q : Req), s.reaches_ q = true → fld (s.ownReg q 0x2C08) 6 0 ≤ 119 → Does (.tlmDataRead q) s (fun u =>
    u.outbox = s.outbox ++ [Out.regValue q 0x2C0C
      (storeGet zeroDefault ((s.sampleFor q 0x2C0C).view q).sample (tlmKey (fld (s.ownReg q 0x2C08) 6 0)))])) ∧
  (∀ (s : State) (q : Req) (a : Fin 2), s.reaches_ q = true → Does (.rxdataRead q a) s (fun u =>
    u.outbox = s.outbox ++ [Out.regValue q (asReg a.val 0x18) (s.rxWord a.val (fld (s.ownReg q (asReg a.val 0x10)) 8 0))] ∧
    u.view q = (s.autoInc q (asReg a.val 0x10) 9 512).view q)) ∧
  (∀ (s : State) (q : Req) (off : Nat), s.reaches_ q = true → q ≠ .host → (off % 4 ≠ 0 ∨ 0x10000 ≤ off) → ∀ (v : Word),
    exec (.registerWrite q off v) s = .fault (.noRegister off)) ∧
  (∀ (s : State) (off : Nat) (v : Word), s.reaches_ .host = true → (off % 4 ≠ 0 ∨ 0x10000 ≤ off) →
    Does (.registerWrite .host off v) s (fun u => u.outbox = s.outbox ++ [Out.ur] ∧ s.raises u 683 0))

/-- Writes of registers (R7, R16, R25, R359, R373, R415, R425): a field of a commit group is staged and leaves the active copy
as it is; W1C bits clear; what is read-only ignores writes; the high half of a 64-bit value acts with the low half written
before it. Where a clause rests on a reading of the model, log entries 15 and 17 name it. -/
def Obligations.RegisterWrites : Prop :=
  (∀ (s : State) (q : Req) (v : Word), s.reaches_ q = true → Does (.registerWrite q 0x2C00 v) s (fun u =>
    stagedGet? (u.view q).staged 0x2C00 = some (merge (rwMask q 0x2C00) (s.stagedView q 0x2C00) v) ∧
    (∀ k, u.cfg k = s.cfg k) ∧ (∀ p, p ≠ q → u.view p = s.view p))) ∧
  (∀ (s : State) (q : Req) (v : Word), s.reaches_ q = true → storeWf zeroDefault s.regs.sticky = true →
    Does (.registerWrite q 0x704 v) s (fun u => u.sticky 0x704 = s.sticky 0x704 &&& ~~~(v &&& 1#32) ∧
      (∀ k, k ≠ 0x704 → u.sticky k = s.sticky k))) ∧
  (∀ (s : State) (q : Req) (v : Word), s.reaches_ q = true → Does (.registerWrite q 0 v) s (fun u => u = s)) ∧
  (∀ (s : State) (q : Req) (lo hi : Word), s.reaches_ q = true → (s.view q).wlatch = some (0x51C, lo) →
    Does (.highHalfWrite q 0x520 hi) s (fun u => (u.view q).rdno = lo.toNat + 2 ^ 32 * hi.toNat ∧ (u.view q).wlatch = none)) ∧
  (∀ (s : State) (q : Req) (v : Word), s.reaches_ q = true → q ≠ .int →
    bit (s.cfg (routeKey (fld (s.ownReg q 0x400) 9 0))) 31 = true → Does (.routeWrite q v) s (fun u =>
      (u.view q).staged = (s.view q).staged ∧ u.view q = (s.autoInc q 0x400 16 1024).view q)) ∧
  (∀ (s : State) (v : Word), s.reaches_ .int = true → Does (.routeWrite .int v) s (fun u =>
    stagedGet? (u.view .int).staged (routeKey (fld (s.ownReg .int 0x400) 9 0)) =
      some (merge 0xF83F8F00#32 (s.stagedView .int (routeKey (fld (s.ownReg .int 0x400) 9 0))) v))) ∧
  (∀ (s : State) (q : Req) (lo hi : Word) (c : Nat), s.reaches_ q = true → (s.view q).wlatch = some (0x70C, lo) →
    c = fld (s.ownReg q 0x708) 8 0 → counterOk c = true → Does (.counterWrite q hi) s (fun u =>
      u.cntr.vals = natPut s.cntr.vals c (lo.toNat + 2 ^ 32 * fld hi 15 0) ∧ (u.view q).wlatch = none ∧
      (bit hi 31 = false → u.cntr.ovf = s.cntr.ovf) ∧ (bit hi 31 = true → c ∉ u.cntr.ovf ∧ ∀ d, d ≠ c → (d ∈ u.cntr.ovf ↔ d ∈ s.cntr.ovf)))) ∧
  (∀ (s : State) (n : Ch) (v : Word) (k : Nat), s.reaches_ .int = true → k = opKey n.val (fld (s.ownReg .int (fch n 0x38)) 7 0) →
    Does (.opdataAccess .int n (some v)) s (fun u =>
      stagedGet? (u.view .int).staged k = some (merge (tableBits k) (s.stagedView .int k) v) ∧ (∀ j, u.cfg j = s.cfg j))) ∧
  (∀ (s : State) (n : Ch) (j : Fin 3) (v : Word) (k : Nat), s.reaches_ .int = true →
    k = stKey n.val (fld (s.ownReg .int (fch n 0x80)) 5 0) j.val → Does (.stdataAccess .int n j (some v)) s (fun u =>
      stagedGet? (u.view .int).staged k = some (merge (tableBits k) (s.stagedView .int k) v) ∧ (∀ j, u.cfg j = s.cfg j))) ∧
  (∀ (s : State) (n : Ch) (j : Fin 3) (v : Word) (k : Nat), s.reaches_ .int = true →
    k = rgKey n.val (fld (s.ownReg .int (fch n 0x90)) 6 0) j.val → Does (.rgdataAccess .int n j (some v)) s (fun u =>
      stagedGet? (u.view .int).staged k = some (merge (tableBits k) (s.stagedView .int k) v) ∧ (∀ j, u.cfg j = s.cfg j))) ∧
  (∀ (s : State) (v : Word) (k : Nat), s.reaches_ .int = true → k = seqKey (fld (s.ownReg .int 0x2F8) 7 0) →
    Does (.seqdataAccess .int (some v)) s (fun u =>
      stagedGet? (u.view .int).staged k = some v ∧ (∀ j, u.cfg j = s.cfg j))) ∧
  (∀ (s : State) (q : Req) (n : Ch) (v : Word), s.reaches_ q = true → q ≠ .int → Does (.opdataAccess q n (some v)) s (fun u =>
    (u.view q).staged = (s.view q).staged ∧ (∀ j, u.cfg j = s.cfg j))) ∧
  (∀ (s : State) (q : Req) (a : Fin 2) (v : Word), s.reaches_ q = true → s.aux.ports[a].busy = false → v ≠ 0#32 →
    Does (.txdataWrite q a v) s (fun u =>
      storeGet zeroDefault u.aux.ports[a].tx (fld (s.ownReg q (asReg a.val 0x10)) 8 0) = v ∧
      u.view q = (s.autoInc q (asReg a.val 0x10) 9 512).view q)) ∧
  (∀ (s : State) (q : Req) (a : Fin 2) (v : Word), s.reaches_ q = true → s.aux.ports[a].busy = true →
    Does (.txdataWrite q a v) s (fun u => u.aux = s.aux ∧ bit (u.sticky (asReg a.val 0xC)) 26 = true))

/-- Commits (R17, R19, R20, R22, R23): GO checks the staged fields, then waits for the safe points; in the commit cycle the
masked fields become active together, GEN rises by one and the result is OK; a timeout ends with BUSY_RETRY and keeps what is
staged. -/
def Obligations.Commits : Prop :=
  (∀ (s : State) (q : Req) (mask : Word), s.reaches_ q = true → s.commitBusy q = false → s.commitWaiting q = false →
    s.regs.cur = none → mask ≠ 0#32 → fld (s.ownReg q 0x108) 15 0 ≠ 0 → s.badGroups q mask = 0#32 →
    Does (.commitGo q mask) s (fun u => u.regs = { s.regs with cur := some (q, mask) } ∧ s.sameBut u [.regs])) ∧
  (∀ (s : State) (q : Req) (mask : Word), s.reaches_ q = true → s.commitBusy q = false → s.commitWaiting q = false →
    s.regs.cur = none → mask ≠ 0#32 → fld (s.ownReg q 0x108) 15 0 ≠ 0 → s.badGroups q mask ≠ 0#32 →
    Does (.commitGo q mask) s (fun u =>
      u.view q = { s.view q with result := .invalidField, lastMask := mask, failGrp := s.badGroups q mask } ∧
      u.regs.cur = none ∧ u.regs.gen = s.regs.gen ∧ (∀ k, u.cfg k = s.cfg k))) ∧
  (∀ (s : State) (q : Req) (mask : Word), s.reaches_ q = true → (s.commitBusy q = true ∨ s.commitWaiting q = true) →
    Does (.commitGo q mask) s (fun u => u.view q = { s.view q with refused := true } ∧ u.regs.cur = s.regs.cur ∧
      u.regs.waiting = s.regs.waiting ∧ (∀ k, u.cfg k = s.cfg k))) ∧
  (∀ (s : State) (q : Req), s.reaches_ q = true → s.commitBusy q = false → s.commitWaiting q = false →
    Does (.commitGo q 0#32) s (fun u =>
      u.view q = { s.view q with result := .noop, lastMask := 0#32, failGrp := 0#32 } ∧ u.regs.cur = s.regs.cur ∧
      u.regs.gen = s.regs.gen)) ∧
  (∀ (s : State) (q : Req) (mask : Word), s.reaches_ q = true → s.commitBusy q = false → s.commitWaiting q = false →
    s.regs.cur ≠ none → mask ≠ 0#32 → fld (s.ownReg q 0x108) 15 0 ≠ 0 →
    Does (.commitGo q mask) s (fun u => u.regs = { s.regs with waiting := s.regs.waiting ++ [(q, mask)] })) ∧
  (∀ (s : State) (q : Req) (mask : Word) (k g : Nat) (v : Word), s.powered = true → s.regs.cur = some (q, mask) →
    s.regs.waiting = [] → s.waitingGroups q mask = 0#32 → q ≠ .int → (s.view q).staged = [(k, v)] → groupOf k = some g → 21 < g → k < 0x60000 →
    mask.getLsbD g = true → (∀ n : Ch, s.actPending n = false) → storeWf regReset s.regs.active = true → Does .commitApply s (fun u =>
      u.cfg k = v ∧ (∀ j, j ≠ k → u.cfg j = s.cfg j) ∧ u.regs.gen = s.regs.gen + 1 ∧ u.regs.cur = none ∧
      (u.view q).result = .ok ∧ (u.view q).lastMask = mask ∧ (u.view q).staged = [])) ∧
  (∀ (s : State) (q : Req) (mask : Word), s.powered = true → s.regs.cur = some (q, mask) → s.regs.waiting = [] → q ≠ .int →
    s.waitingGroups q mask ≠ 0#32 → (∀ n : Ch, s.actPending n = false) → Does .commitTimeout s (fun u =>
      u.view q = { s.view q with result := .busyRetry, lastMask := mask, failGrp := s.waitingGroups q mask } ∧
      u.regs.cur = none ∧ u.regs.gen = s.regs.gen ∧ (∀ k, u.cfg k = s.cfg k))) ∧
  (∀ (s : State) (q : Req) (mask : Word), s.reaches_ q = true → s.regs.cur = none → s.regs.waiting = [] →
    Does (.commitDiscard q mask) s (fun u =>
      (u.view q).staged = (s.view q).staged.filter (fun e => match groupOf e.1 with | some g => !mask.getLsbD g | none => true) ∧
      (∀ p, p ≠ q → u.view p = s.view p) ∧ (∀ k, u.cfg k = s.cfg k)))

/-- The ledger and the Cellar banks (R27, R28, R29, R37, R53, R145, R282): a violation takes the named unit out of service with
EV1019; one in RECOVER is fatal; a failing bank is copied to the idle bank, whose contents then serve. Where a clause rests on a
reading of the model, log entries 10 and 54 name it. -/
def Obligations.LedgerAndBanks : Prop :=
  (∀ (s : State) (e : Fin 8), s.powered = true → s.plat.mode ≠ .recover → Does (.ledgerViolation (.engine e)) s (fun u =>
    u.press.engines = s.press.engines.set e.val .out ∧ (∀ j ∈ u.press.held, j.engine ≠ e.val) ∧ s.raises u 1019 0)) ∧
  (∀ (s : State) (l : Law), s.plat.mode = .recover → Does (.ledgerViolation l) s (fun u =>
    u.plat.mode = .lockdown ∧ u.plat.cause = 0x14 ∧ s.raises u 1022 0)) ∧
  (∀ (s : State), (s.plat.mode = .verify ∨ s.plat.mode = .guard) → Does (.ledgerViolation .selfCheck) s (fun u =>
    u.plat.mode = .recover ∧ u.plat.cause = 9 ∧ u.cellar.testDone = false ∧ s.raises u 1021 0)) ∧
  (∀ (s : State) (b : Fin 16) (p : Nat), s.powered = true → s.cellar.lost = [] → s.cellar.copying = none →
    s.cellar.idle = some p → Does (.bankUncorrectable b []) s (fun u =>
      u.cellar = { s.cellar with uncorr := sat 0xFFFF (s.cellar.uncorr + 1), copying := some b.val, testing := false })) ∧
  (∀ (s : State) (b p : Nat), s.powered = true → s.cellar.copying = some b → s.cellar.idle = some p →
    Does (.bankCopyComplete []) s (fun u =>
      u.cellar = { s.cellar with out := s.cellar.map.getD b 31 :: s.cellar.out, map := s.cellar.map.set b p, idle := none, copying := none } ∧
      s.sameBut u [.evt, .chs, .cellar])) ∧
  (∀ (s : State), Does .cellarScrubPass s (fun u => u = s)) ∧
  (∀ (s : State) (p b : Nat) (r : List Nat), s.cellar.idle = some p → s.plat.mode = .verify → s.cellar.copying = none →
    s.cellar.testDone = false → s.cellar.testing = true → s.cellar.toTest = b :: r → Does (.memtestBank true) s (fun u =>
      u.cellar = { s.cellar with toTest := r, idle := some (s.cellar.map.getD b 31), map := s.cellar.map.set b p })) ∧
  (∀ (s : State) (p : Nat), s.cellar.idle = some p → s.plat.mode = .guard → s.cellar.copying = none → s.cellar.testDone = false →
    Does (.memtestBank false) s (fun u =>
      u.cellar = { s.cellar with testing := false, toTest := [], idle := none, out := p :: s.cellar.out }))

/-- The start of the machine (R41, R45, R50, R56, R57, R119, R126, R289, R293, R296, R316, R343): each step, in its turn and
with what it finds, leaves what the spec says; power's fall keeps the Keeper domain alone. Where a clause rests on a reading of
the model, log entries 11, 26, 56 and 57 name it. -/
def Obligations.StartUp : Prop :=
  (∀ (s : State) (a t : Nat) (p h : Bool), s.plat.mode = .shelf → Does (.mainPowerGoodRise a t p h) s (fun u =>
    u.plat.mode = .hold ∧ u.plat.prev = .shelf ∧ u.plat.cause = 0 ∧ u.plat.perstN = p ∧ u.plat.haltN = h ∧
    u.side.addrSel = a % 4 ∧ u.side.strap = t % 4 ∧ u.plat.fwRuns = false ∧ u.regs.gen = 0#32 ∧ u.life.otp = s.life.otp ∧
    bit u.regs.host.rstcause 0 = true)) ∧
  (∀ (s : State), s.powered = true → Does .mainPowerGoodFall s (fun u =>
    u.plat.mode = .shelf ∧ u.keeper = { s.keeper with shelfTime := s.rtc, dbgLatch := false } ∧
    s.sameBut u [.plat, .keeper])) ∧
  (∀ (s : State), s.plat.mode = .shelf → Does .keeperPowerLoss s (fun u =>
    u.keeper.lost = true ∧ u.keeper.rtcValid = false ∧ u.keeper.last = none ∧ u.life.otp = s.life.otp ∧
    u.life.tampLvl = 0 ∧ s.sameBut u [.keeper, .regs, .life])) ∧
  (∀ (s : State), Does .tapReset s (fun u => u = s)) ∧
  (∀ (s : State), s.plat.mode = .hold → s.plat.boot.pll = false → s.keeper.wdCount + s.keeper.wdInv = 255 → s.plat.cause ≠ 1 →
    s.keeper.tlHolding = false → s.lifeCode = 2 → s.life.moved = false → s.identOk = true → s.lockdownStays = false → Does .pllLock s (fun u =>
      u.plat.boot.pll = true ∧ u.plat.mode = .hold ∧ u.plat.lastValid = s.plat.lastRec.isSome ∧ u.evt = s.evt)) ∧
  (∀ (s : State), s.plat.mode = .hold → s.plat.boot.pll = false → s.keeper.wdCount + s.keeper.wdInv = 255 → s.plat.cause ≠ 1 →
    s.keeper.tlHolding = false → s.lifeCode = 7 → s.life.otp.wEol ≠ patEol → Does .pllLock s (fun u =>
      u.plat.mode = .lockdown ∧ u.plat.cause = 0x13 ∧ s.raises u 1017 0)) ∧
  (∀ (s : State), s.starting = true → s.plat.boot.pll = true → s.plat.boot.vault = false →
    Does (.vaultIdentify none none 1 none none) s (fun u =>
      u.plat.boot.vault = true ∧ u.vault.parts[0].failed = true ∧ s.raises u 514 (vaultArg 0 0))) ∧
  (∀ (s : State) (f : PartFound) (d : Sfdp) (busMode hz : Nat) (hdrA hdrB : Option VaultHeader) (h : VaultHeader),
    s.starting = true → s.plat.boot.pll = true → s.plat.boot.vault = false → s.vault.parts[0].failed = false → f.sfdp = some d →
    trainedSclk f.train (sclkSteps (if busMode % 3 = 2 then 9 else 0) 200) = some hz → f.stuck = false → 26 ≤ d.sizeLog →
    headerOf hdrA hdrB = some h → Does (.vaultIdentify (some f) none busMode hdrA hdrB) s (fun u =>
      u.plat.boot.vault = true ∧ u.vault.parts[0].present = true ∧ u.vault.parts[0].failed = false ∧ u.vault.parts[0].sclk = hz ∧
      u.vault.busMode = busMode % 3 ∧ u.vault.size0 = d.sizeLog ∧ u.vault.hdrA = hdrA.map (fun x => x.seq) ∧
      u.vault.hdrB = hdrB.map (fun x => x.seq) ∧ u.vault.golden = (h.golden.take 16).map (fun g =>
        { g with valid := g.valid && !(s.vault.parts[1].failed && decide (g.part = 1)) }) ∧ u.ident = s.ident)) ∧
  (∀ (s : State) (d : PufDecode), s.rootStep = true → s.crypt.attempts = 0 → s.rootWithheld = true → s.keeper.dbgLatch = false →
    Does (.rootstockRegenerate d) s (fun u =>
      u.plat.boot.root = true ∧ u.crypt.root = s.crypt.root ∧ u.crypt.rootSt = (if s.fusesBlown then 4 else 3) ∧ s.raises u 585 0)) ∧
  (∀ (s : State) (d : PufDecode) (src eS eD : Nat) (h : Helper), s.rootStep = true → s.crypt.attempts = 0 →
    s.rootWithheld = false → s.lifeCode ≠ 1 → s.rootWinner d = some (src, h, eS, eD) → Does (.rootstockRegenerate d) s (fun u =>
      u.plat.boot.root = true ∧ u.crypt.root.isSome = true ∧ u.crypt.rootSt = 1 ∧ u.crypt.source = src ∧ u.crypt.sramErr = eS ∧
      u.crypt.dlErr = eD ∧ s.raises u 569 0)) ∧
  (∀ (s : State) (d : PufDecode), s.rootStep = true → s.crypt.attempts = 1 → s.rootWinner d = none →
    Does (.rootstockRetry d) s (fun u => u.crypt.attempts = 2 ∧ u.plat.boot.root = false ∧ s.raises u 570 0)) ∧
  (∀ (s : State) (d : PufDecode), s.rootStep = true → s.crypt.attempts = 2 → s.rootWinner d = none →
    Does (.rootstockRetry d) s (fun u =>
      u.crypt.attempts = 3 ∧ u.plat.boot.root = true ∧ u.crypt.rootSt = 2 ∧ u.crypt.root = s.crypt.root ∧ s.raises u 571 0)) ∧
  (∀ (s : State) (e : Fin 8), s.starting = true → s.plat.boot.pll = true → s.plat.boot.selfTest = false →
    Does (.selfTestStartup [e.val] [] true true true true) s (fun u =>
      u.plat.boot.selfTest = true ∧ u.press.engines = s.press.engines.set e.val .out ∧ u.crypt.rngSt = 1 ∧
      s.raises u (544 + e.val) e.val)) ∧
  (∀ (s : State) (p : Package), s.starting = true → s.plat.boot.vault = true → s.plat.boot.root = true →
    s.plat.boot.selfTest = true → s.plat.boot.firmware = false → s.keeper.wdCount = 0 → s.ident.fwesc = 3 → s.ident.preferred = 0 →
    (s.ident.fw 0).pkg = some p → (s.ident.fw 0).confirmed = true → s.fwVerifies 0 true = true →
    Does (.firmwareVerify true true true true) s (fun u =>
      u.plat.fwRuns = true ∧ u.plat.boot.firmware = true ∧ u.ident.runCopy = 0 ∧ u.ident.wver = p.version ∧ u.ident.sver = p.version ∧
      u.plat.mode = s.plat.mode)) ∧
  (∀ (s : State), s.plat.mode = .hold → s.plat.boot.vault = true → s.plat.boot.root = true → s.plat.boot.selfTest = true →
    s.plat.boot.firmware = false → s.ident.fwesc = 3 → 6 ≤ s.keeper.wdCount → Does (.firmwareVerify true true true true) s (fun u =>
      u.plat.mode = .recover ∧ u.plat.cause = 6 ∧ u.plat.romsvc = true ∧ u.plat.fwRuns = false)) ∧
  (∀ (s : State) (n : Ch) (f : SlotFound), s.powered = true → s.plat.mode = .hold → s.plat.fwRuns = true → s.policyApplied = true →
    s.enabled n = true → s.plat.boot.brought = [] → fld (s.cfg (fch n 0xC8)) 5 0 ≠ 0 →
    Does (.channelBringup n none none f f f f) s (fun u =>
      u.plat.boot.brought = [n.val] ∧ (u.chan n).brought = false ∧ s.raises u (64 * n.val + 27) 0)) ∧
  (∀ (s : State) (n : Ch) (p0 p1 : Option PartFound) (s0 s1 s2 s3 : SlotFound), s.powered = true → s.plat.mode ≠ .lockdown →
    s.plat.fwRuns = true → s.policyApplied = true → s.enabled n = true → s.plat.boot.brought.contains n.val = false →
    (s.bringPart n 0 p0).2 = true → ((s.bringPart n 0 p0).1.bringPart n 1 p1).2 = true → s.crypt.pkuNext < 2 →
    (∀ k, s.slotEnabled n k = false) → Does (.channelBringup n p0 p1 s0 s1 s2 s3) s (fun u =>
      u.plat.boot.brought = n.val :: s.plat.boot.brought ∧ (u.chan n).brought = true ∧ s.raises u (64 * n.val + 32) 0)) ∧
  (∀ (s : State) (n : Ch) (p0 p1 : Option PartFound) (s0 s1 s2 s3 : SlotFound), s.powered = true → s.plat.mode ≠ .lockdown →
    s.plat.fwRuns = true → s.policyApplied = true → s.enabled n = true → s.plat.boot.brought.contains n.val = false →
    (s.bringPart n 0 p0).2 = true → ((s.bringPart n 0 p0).1.bringPart n 1 p1).2 = true → s.crypt.pkuNext < 2 →
    Does (.channelBringup n p0 p1 s0 s1 s2 s3) s (fun u =>
      u.plat.boot.brought = n.val :: s.plat.boot.brought ∧ (u.chan n).brought = true)) ∧
  (∀ (s : State) (i : Intent), s.powered = true → s.plat.mode = .hold → s.plat.fwRuns = true → s.journalKey ≠ none →
    s.crypt.root ≠ none → s.vault.intents = [i] → i.kind = 4 → i.chan < 8 → i.state = 0 → i.macOk = true → ∀ (m : Manifest),
    Does (.intentResume 4 i.chan i.slot m true) s (fun u =>
      liveIntents u.vault.intents = [] ∧ s.raises u 515 (vaultArg 0x20000 0) ∧ s.sameBut u [.evt, .vault]))

/-- Modes (R41, R43, R45, R49, R50, R55, R289): HOLD passes to VERIFY once its exit checks pass and the sequencer's main program
starts; a request outside the table is ignored with EV768; a restart answers HOLD with its cause and the shadows gone. Where a
clause rests on a reading of the model, log entries 19, 54 and 56 name it. -/
def Obligations.Modes : Prop :=
  (∀ (s : State), s.exitReady = true → Does (.exitChecks true) s (fun u =>
    u.plat.mode = .verify ∧ u.plat.prev = .hold ∧ u.plat.cause = 4 ∧
    u.ctl.prog = some { pc := fld (s.cfg 0x2E8) 23 16, sub := none, wait := .ready })) ∧
  (∀ (s : State), s.plat.mode = .verify → s.plat.fwRuns = true →
    (∀ n, s.enabled n = true → (s.chan n).st = .released) → Does (.modeWrite 3 5) s (fun u =>
      u.plat.mode = .guard ∧ u.plat.prev = .verify ∧ u.plat.cause = 5 ∧ u.keeper.wdCount = 0 ∧ u.keeper.wdInv = 255)) ∧
  (∀ (s : State) (cause : Nat), s.plat.mode = .guard → s.plat.fwRuns = true → Does (.modeWrite 5 cause) s (fun u =>
    u.plat = s.plat ∧ u.evt.transit = s.evt.transit ++ [(⟨768, 4, 5 + 256 * (cause % 256)⟩ : Raise)] ∧ s.sameBut u [.evt])) ∧
  (∀ (s : State), s.plat.mode = .recover → s.plat.fwRuns = true → s.plat.cause = 0x16 → s.restoreReady = true →
    Does (.modeWrite 2 0xC) s (fun u => u.plat.mode = .verify ∧ u.plat.prev = .recover ∧ u.plat.cause = 0xC)) ∧
  (∀ (s : State), (s.plat.mode = .verify ∨ s.plat.mode = .guard) → s.plat.fwRuns = true → s.ident.hand = none →
    Does .ownFirmwareFault s (fun u => u.plat.mode = .recover ∧ u.plat.cause = 0xE ∧ u.ident.runCopy = 2 ∧
      u.ident.platGen = (s.ident.platGen + 1) % 65536)) ∧
  (∀ (s : State), s.powered = true → Does (.deviceRestart 3) s (fun u =>
    u.plat.mode = .hold ∧ u.plat.prev = s.plat.mode ∧ u.plat.cause = 3 ∧ u.regs.cur = none ∧ u.regs.gen = 0#32 ∧
    u.regs.host.staged = [] ∧ u.regs.side.staged = [] ∧ u.regs.int.staged = [] ∧ bit u.regs.int.rstcause 4 = true ∧
    u.host.linkUp = s.host.linkUp ∧ u.host.retained = [] ∧ u.life.otp = s.life.otp)) ∧
  (∀ (s : State), s.powered = true → Does (.deviceRestart 1) s (fun u =>
    u.plat.mode = .hold ∧ u.plat.cause = 1 ∧ u.evt.journal = s.evt.journal ∧ bit u.regs.int.rstcause 2 = true ∧
    (∀ n, (u.chan n).st = .disabled ∧ (u.chan n).brought = false)))

/-- The sequencer, the pins and HALT_N (R167 to R176): each word does its step or waits, a satisfied wait goes on, a timeout
ends as ONFAIL says, and a changed input or a mismatch raises its event. Where a clause rests on a reading of the model, log
entries 2, 10, 24 and 58 name it. -/
def Obligations.SequencerAndPins : Prop :=
  (∀ (s : State) (k : Nat) (b : Bool), k < 24 → s.pinDrive k = some b → Does (.pcOutMismatch k) s (fun u =>
    bit (u.sticky (mismatchBit k).1) (if k < 8 then 24 + k else k - 8) = true ∧ s.raises u 778 0 ∧ s.sameBut u [.regs, .evt])) ∧
  (∀ (s : State) (k : Nat) (b : Bool), s.powered = true → k < 16 → bit s.ctl.pcIn k ≠ b → Does (.pcInChange k b) s (fun u =>
    bit u.ctl.pcIn k = b ∧ (∀ j, j < 16 → j ≠ k → bit u.ctl.pcIn j = bit s.ctl.pcIn j) ∧
    (bit (s.cfg (0x2A0 + 4 * k)) 6 = true → s.raises u (784 + k) 0))) ∧
  (∀ (s : State), s.powered = true → s.plat.haltN = true → (∀ n, (s.chan n).st ≠ .released) →
    (∀ n k, ((s.chan n).slot k).upd ≠ .confirming) → Does .haltNFall s (fun u =>
    u.plat = { s.plat with haltN := false } ∧ s.raises u 772 0 ∧ s.sameBut u [.plat, .evt])) ∧
  (∀ (s : State), s.powered = true → s.plat.haltN = false → bit (s.cfg 0x2E8) 3 = false → Does .haltNRise s (fun u =>
    u.plat = { s.plat with haltN := true } ∧ (∀ n, (u.agt n).halt = false) ∧ s.raises u 773 0)) ∧
  (∀ (s : State), s.powered = true → s.plat.haltN = false → bit (s.cfg 0x2E8) 3 = true → Does .haltNRise s (fun u =>
    u.plat = { s.plat with haltN := true } ∧
      (∀ n, u.agt n = { s.agt n with halt := (s.agt n).halt && !(s.agt n).haltFreed }) ∧ s.raises u 773 0)) ∧
  (∀ (s : State) (p : Prog) (w : Word), s.seqOp = some (p, w) → fld w 31 28 = 0 → p.sub = none → Does .seqEnd s (fun u =>
    u.ctl.prog = none ∧ u.ctl.done = true ∧ u.ctl.mainOver = true ∧ s.raises u 770 0)) ∧
  (∀ (s : State) (p : Prog) (w : Word), s.seqOp = some (p, w) → fld w 31 28 = 1 → fld w 27 23 < 24 →
    (∀ n : Ch, ¬((s.agt n).pwrOff = true ∧ bit (s.agtCfg n) 7 = true ∧ s.pwrenOf n = some (fld w 27 23))) → Does .seqSet s (fun u =>
    bit u.ctl.pinSet (fld w 27 23) = bit w 22 ∧ u.ctl.prog = some { p with pc := p.pc + 1, wait := .ready } ∧ s.sameBut u [.ctl])) ∧
  (∀ (s : State) (p : Prog) (w : Word) (n : Ch), s.seqOp = some (p, w) → fld w 31 28 = 1 → bit w 22 = true →
    allCh.find? (fun m => (s.agt m).pwrOff && bit (s.agtCfg m) 7 && decide (s.pwrenOf m = some (fld w 27 23))) = some n →
    p.sub ≠ some n.val → Does .seqSet s (fun u =>
      u.ctl = { s.ctl with prog := some { p with pc := p.pc + 1, wait := .ready } } ∧ s.sameBut u [.ctl])) ∧
  (∀ (s : State) (p : Prog) (w : Word), s.seqOp = some (p, w) → fld w 31 28 = 2 → fld w 15 0 ≠ 0 →
    s.inAsserted (fld w 27 24) ≠ bit w 23 → Does .seqWaitIn s (fun u =>
      u.ctl.prog = some { p with wait := .input } ∧ s.sameBut u [.ctl])) ∧
  (∀ (s : State) (p : Prog) (w : Word), s.seqOp = some (p, w) → fld w 31 28 = 2 → s.inAsserted (fld w 27 24) = bit w 23 →
    Does .seqWaitIn s (fun u => u.ctl.prog = some { p with pc := p.pc + 1, wait := .ready } ∧ s.sameBut u [.ctl])) ∧
  (∀ (s : State) (p : Prog) (w : Word), s.seqOp = some (p, w) → fld w 31 28 = 3 → fld w 19 0 ≠ 0 → Does .seqDelay s (fun u =>
    u.ctl.prog = some { p with wait := .delay } ∧ s.sameBut u [.ctl])) ∧
  (∀ (s : State) (p : Prog), s.powered = true → s.ctl.prog = some p → p.wait = .delay → Does .delayExpiry s (fun u =>
    u.ctl.prog = some { p with pc := p.pc + 1, wait := .ready } ∧ s.sameBut u [.ctl])) ∧
  (∀ (s : State) (p : Prog) (w : Word) (n : Ch), s.seqOp = some (p, w) → fld w 31 28 = 4 → fld w 7 0 = 2 ^ n.val →
    fld w 19 8 ≠ 0 → (s.chan n).st = .held → s.eligible n = false → Does .seqRelease s (fun u =>
      u.ctl.prog = some { p with wait := .release } ∧ (u.agt n).stepReached = true ∧ u.chs = s.chs)) ∧
  (∀ (s : State) (p : Prog) (w : Word), s.seqOp = some (p, w) → fld w 31 28 = 4 → fld w 7 0 = 0 → Does .seqRelease s (fun u =>
    u.ctl.prog = some { p with pc := p.pc + 1, wait := .ready } ∧ s.sameBut u [.ctl])) ∧
  (∀ (s : State) (p : Prog) (w : Word) (n : Ch), s.seqOp = some (p, w) → fld w 31 28 = 5 → fld w 2 0 = n.val → fld w 19 8 ≠ 0 →
    (s.agt n).hbSeen = false → Does .seqWaitHb s (fun u => u.ctl.prog = some { p with wait := .hb } ∧ s.sameBut u [.ctl])) ∧
  (∀ (s : State) (p : Prog) (w : Word) (n : Ch), s.seqOp = some (p, w) → fld w 31 28 = 5 → fld w 2 0 = n.val →
    (s.agt n).hbSeen = true → Does .seqWaitHb s (fun u =>
      u.ctl.prog = some { p with pc := p.pc + 1, wait := .ready } ∧ s.sameBut u [.ctl])) ∧
  (∀ (s : State) (p : Prog), s.powered = true → s.ctl.prog = some p → p.wait = .input →
    s.inAsserted (fld (s.seqWord p.pc) 27 24) = bit (s.seqWord p.pc) 23 → Does .seqWaitSatisfied s (fun u =>
      u.ctl.prog = some { p with pc := p.pc + 1, wait := .ready } ∧ s.sameBut u [.ctl])) ∧
  (∀ (s : State) (p : Prog), s.powered = true → s.ctl.prog = some p → p.wait = .input → p.sub = none →
    fld (s.seqWord p.pc) 31 28 = 2 → fld (s.seqWord p.pc) 22 21 = 1 → Does .seqTimeout s (fun u =>
      u.ctl.prog = none ∧ u.ctl.failed = true ∧ u.ctl.failpc = p.pc ∧
      u.evt.transit = s.evt.transit ++ [(⟨771, 6, 0⟩ : Raise)])) ∧
  (∀ (s : State) (p : Prog), s.powered = true → s.ctl.prog = some p → p.wait = .input →
    fld (s.seqWord p.pc) 31 28 = 2 → fld (s.seqWord p.pc) 22 21 = 0 → Does .seqTimeout s (fun u =>
      u.ctl.prog = some { p with pc := p.pc + 1, wait := .ready } ∧ u.evt.transit = s.evt.transit ++ [(⟨771, 5, 0⟩ : Raise)])) ∧
  (∀ (s : State) (n : Ch) (r : List Nat), s.powered = true → s.plat.mode ≠ .lockdown → s.ctl.mainOver = true → s.ctl.prog = none →
    s.ctl.requests = n.val :: r → (s.chan n).st = .held → Does .subprogramStart s (fun u =>
      u.ctl.prog = some { pc := s.subEntry n, sub := some n.val, wait := .ready } ∧ u.ctl.requests = r ∧ s.raises u 779 0)) ∧
  (∀ (s : State) (n : Ch), s.powered = true → (s.agt n).stepReached = true → s.subEntry n = 0xFF → s.inRelease n = false →
    s.eligible n = true →
    Does (.rerelease n) s (fun u => (u.chan n).st = .released ∧ (∀ m, m ≠ n → u.chan m = s.chan m)))

/-- Urgent commands and the agents' watchdogs (R177, R180 to R183): an accepted command consumes its SEQ, one that is refused
leaves it and raises EV776; a service in time restarts the count; a second expiry resets the agent. Where a clause rests on a
reading of the model, log entries 10 and 58 name it. -/
def Obligations.UrgentAndWatchdogs : Prop :=
  (∀ (s : State) (side : Bool) (n : Ch) (seq : Nat), s.powered = true → s.urgentOk side 1 (2 ^ n.val) seq = true →
    (s.chan n).st ≠ .released → (∀ k, ((s.chan n).slot k).upd ≠ .confirming) → Does (.urgentStop side (2 ^ n.val) seq) s (fun u =>
      (u.agt n).stop = true ∧ (∀ m, m ≠ n → u.agt m = s.agt m) ∧ (if side then u.ctl.urgSide = seq else u.ctl.urgHost = seq) ∧
      s.raises u 774 0 ∧ u.chs = s.chs)) ∧
  (∀ (s : State) (side : Bool) (n : Ch) (seq : Nat), s.powered = true → s.urgentOk side 1 (2 ^ n.val) seq = true →
    (s.chan n).st = .released → Does (.urgentStop side (2 ^ n.val) seq) s (fun u =>
      (u.agt n).stop = true ∧ (u.chan n).st ≠ .released ∧ s.raises u 774 0 ∧ s.raises u (64 * n.val + 14) 0)) ∧
  (∀ (s : State) (side : Bool) (n : Ch) (seq : Nat), s.powered = true → s.urgentOk side 2 (2 ^ n.val) seq = true →
    s.stopWins side n = false → s.plat.haltN = true → Does (.urgentRelease side (2 ^ n.val) seq) s (fun u =>
      (u.agt n).stop = false ∧ (u.agt n).halt = false ∧ (if side then u.ctl.urgSide = seq else u.ctl.urgHost = seq) ∧
      s.raises u 775 0)) ∧
  (∀ (s : State) (seq : Nat), s.powered = true → s.urgentOk true 3 0 seq = true → Does (.urgentRestart true 0 seq) s (fun u =>
    u.plat.mode = .hold ∧ u.plat.prev = s.plat.mode ∧ u.plat.cause = 3 ∧ u.regs.cur = none)) ∧
  (∀ (s : State) (side : Bool) (mask seq : Nat), s.powered = true → s.urgentOk side 1 (mask % 256) seq = false →
    Does (.urgentStop side mask seq) s (fun u => s.raises u 776 0 ∧ s.sameBut u [.evt])) ∧
  (∀ (s : State) (mask seq : Nat), s.powered = true → Does (.urgentRestart false mask seq) s (fun u =>
    s.raises u 776 0 ∧ s.sameBut u [.evt])) ∧
  (∀ (s : State) (n : Ch), s.powered = true → fld (s.cfg (0x300 + 4 * n.val)) 15 8 ≠ 0 → Does (.qclearElapsed n) s (fun u =>
    u.agt n = { s.agt n with qcount := 0, relSum := 0 } ∧ (∀ m, m ≠ n → u.agt m = s.agt m) ∧ s.sameBut u [.ctl])) ∧
  (∀ (s : State) (n : Ch), s.powered = true → s.wdInWin n = true → bit (s.awin n) 30 = true → Does (.sbsvcWrite n 0x5EEDC0DE#32) s (fun u =>
      (u.agt n).wdAt = s.time ∧ (u.agt n).warn = false ∧ (u.agt n).served = true ∧ u.chs = s.chs)) ∧
  (∀ (s : State) (n : Ch), s.powered = true → s.wdRunning n = true → (s.agt n).warn = false → Does (.watchdogFirstExpiry n) s (fun u =>
    (u.agt n).warn = true ∧ (u.agt n).wdAt = s.time ∧ s.raises u (836 + 4 * n.val) (fld (s.cfg (0x680 + 16 * n.val)) 23 0) ∧
    s.sameBut u [.evt, .ctl])) ∧
  (∀ (s : State) (n : Ch), s.powered = true → s.wdRunning n = true → (s.agt n).warn = true → (s.agt n).wdrst < 255 →
    fld (s.cfg (0x300 + 4 * n.val)) 27 24 = 0 → Does (.watchdogSecondExpiry n) s (fun u =>
      (u.chan n).st ≠ .released ∧ (u.agt n).wdrst = (s.agt n).wdrst + 1 ∧ s.raises u (837 + 4 * n.val) (s.wdElapsed n)))

/-- Decanting, verdicts, Racking, Graft and the Press credits (R137, R143, R147, R151, R153, R155, R158, R160, R162): each found
page, verdict, credit and candidate has the effect the spec gives it, once its job has its Press credit. Where a clause rests on
a reading of the model, log entries 10, 11 and 60 name it. -/
def Obligations.TrellisWork : Prop :=
  (∀ (s : State) (n : Ch) (p : PageId), s.powered = true → s.portHeld n = false → (s.chan n).st = .decanting →
    s.slotEnabled n p.slot = true → s.policyOfPage n p = 0 → s.decantTurn n p = true →
    s.pathClear n p (s.actCopy n p.slot) = true → (s.pressRun (s.decantJob n p false false)).2 = true →
    s.frameOf n p = none → s.graftFor n p (s.actCopy n p.slot) = none → s.dataFree = true →
    Does (.decantPage n p false true true) s (fun u =>
      u.cellar.frames = (s.placeData (dataFrame .pinned n (s.actCopy n p.slot) p false)).cellar.frames ∧
      (u.chan n).decAt = (if s.pinRank n p = (s.chan n).decAt then (s.chan n).decAt + 1 else (s.chan n).decAt) ∧
      (∀ m, m ≠ n → u.chan m = s.chan m))) ∧
  (∀ (s : State) (n : Ch) (p : PageId), s.powered = true → s.portHeld n = false → (s.chan n).st = .released →
    s.slotEnabled n p.slot = true → s.policyOfPage n p = 1 → s.decantTurn n p = true →
    s.pathClear n p (s.actCopy n p.slot) = true → (s.pressRun (s.decantJob n p false true)).2 = true →
    s.qmin n.val + 1024 ≤ s.evictableCount n.val →
    Does (.decantPage n p false true true) s (fun u =>
      s.chanBecomes u n { s.chan n with prefEnd := true } ∧ u.cellar = s.cellar)) ∧
  (∀ (s : State) (n : Ch) (p : PageId) (d : Pend), s.powered = true → s.liveVerdict n p = some d →
    (s.pressRun (verdictJob n p)).2 = true → Does (.deferredVerdict n p .pass) s (fun u =>
      (u.chan n).vpass = wrap32 ((s.chan n).vpass + 1) ∧ (∀ e ∈ (u.chan n).verdicts, e.pg ≠ p) ∧
      (∀ f ∈ u.cellar.frames, f.inflightOf n p = false) ∧ (∀ m, m ≠ n → u.chan m = s.chan m))) ∧
  (∀ (s : State) (n : Ch) (p : PageId) (d : Pend) (found : Found), s.powered = true → s.liveVerdict n p = some d →
    (s.pressRun (verdictJob n p)).2 = true → (s.chan n).st = .released → found ≠ .pass →
    Does (.deferredVerdict n p found) s (fun u =>
      (u.chan n).vfail = wrap32 ((s.chan n).vfail + 1) ∧ (u.chan n).st ≠ .released ∧
      s.raises u (64 * n.val + 40) (chArg p.page 0 d.copy p.slot.val) ∧ s.raises u (64 * n.val + 14) 0)) ∧
  (∀ (s : State) (n : Ch) (p : PageId) (d : Pend), s.powered = true → s.liveVerdict n p = some d → (s.chan n).st = .released →
    Does (.verdictLate n p) s (fun u =>
      (u.chan n).vlate = wrap32 ((s.chan n).vlate + 1) ∧ (u.chan n).st ≠ .released ∧
      s.raises u (64 * n.val + 41) (chArg p.page 0 d.copy p.slot.val))) ∧
  (∀ (s : State) (n : Ch) (p : PageId) (d : Pend), s.powered = true → (s.chan n).verdicts = [d] → d.pg = p → d.late = true →
    (s.pressRun (verdictJob n p)).2 = true → Does (.lateResult n p .pass) s (fun u =>
      (u.chan n).verdicts = [] ∧ u.cellar = s.cellar ∧ (∀ m, m ≠ n → u.chan m = s.chan m) ∧
      s.sameBut u [.evt, .chs, .press, .cntr])) ∧
  (∀ (s : State) (j : Job) (e : Nat), s.powered = true → s.nextJob = some j → s.pickEngine = some e → j.ch = none →
    Does .pressCreditGrant s (fun u =>
      u.press = { s.press with waiting := s.press.waiting.erase j, held := s.press.held ++ [{ j with engine := e }] } ∧
      s.sameBut u [.press])) ∧
  (∀ (s : State) (port : PortId) (n : Ch) (v : Nat) (busy : Bool), s.powered = true → port.val = n.val →
    Does (.rackingShareWindow port v busy) s (fun u =>
      (u.chan n).cur.share = (if 60 < v ∨ busy = true ∨ s.hot = true then fld (s.cfg (fch n 0x100)) 15 8
        else if v < 10 then fld (s.cfg (fch n 0x100)) 31 24 else fld (s.cfg (fch n 0x100)) 23 16) ∧
      (∀ m, m ≠ n → u.chan m = s.chan m) ∧ s.sameBut u [.chs])) ∧
  (∀ (s : State) (port : PortId) (n : Ch) (k : SlotId) (f : RackFind), port.val = n.val → s.portHeld n = false →
    s.rackAllowed n = true → (s.pressRun { cls := 6, ch := some n.val, tag := (s.chan n).cur.span, engine := 8 }).2 = true →
    s.rackAhead n = none → (s.chan n).cur.slot = k.val → (s.rackOrder n).contains (k.val, (s.chan n).cur.copy) = true →
    f = ⟨[], [], [], []⟩ → (s.chan n).cur.metaPages = false → 0 < (s.chan n).cur.span →
    64 * ((s.chan n).cur.span + 1) < imagePages (s.regions n) k → Does (.rackSpan port f none) s (fun u =>
      (u.chan n).cur = { (s.chan n).cur with span := (s.chan n).cur.span + 1 } ∧ (∀ m, m ≠ n → u.chan m = s.chan m))) ∧
  (∀ (s : State) (n : Ch) (p : PageId) (copy c : Nat) (g h : Graft), s.powered = true → s.graftOf n p copy false = some g →
    (s.chan n).grafts = [g] → s.graftCand n g = some c → s.copyHeld n c = false →
    (s.pressRun { cls := 4, ch := some n.val, tag := nodeTag p false, engine := 8 }).2 = true →
    h = { g with left := g.left.filter (fun x => x ≠ c) } → s.candLeft n h ≠ [] →
    Does (.graftCandidate n p.slot p.page copy false false) s (fun u =>
      (u.chan n).grafts = [h] ∧ (∀ m, m ≠ n → u.chan m = s.chan m))) ∧
  (∀ (s : State) (n : Ch) (p : PageId) (copy c : Nat) (g : Graft) (x : PartId × Nat), s.powered = true →
    s.graftOf n p copy false = some g → (s.chan n).grafts = [g] → s.graftCand n g = some c → s.copyHeld n c = false →
    (s.pressRun { cls := 4, ch := some n.val, tag := nodeTag p false, engine := 8 }).2 = true → g.served = false →
    (s.chan n).repairs = [] → s.pagePlace n copy p.slot false p.page = some x →
    Does (.graftCandidate n p.slot p.page copy false true) s (fun u =>
      (u.chan n).grafts = [] ∧
      (u.chan n).repairs = [{ slot := p.slot, copy := copy, part := x.1, unit := s.unitBase n copy x, pages := [p.page], nodes := []
                              manifest := false, step := 0, fails := 0, waits := false }])) ∧
  (∀ (s : State) (n : Ch) (p : PageId) (c : Nat) (g : Graft), s.powered = true →
    s.graftOf n p (s.actCopy n p.slot) false = some g → s.graftCand n g = some c → s.copyHeld n c = false →
    (s.pressRun { cls := 4, ch := some n.val, tag := nodeTag p false, engine := 8 }).2 = true → g.served = true →
    s.policyOfPage n p ≠ 2 → s.graftHeld < s.graftMax → Does (.graftCandidate n p.slot p.page (s.actCopy n p.slot) false true) s (fun u =>
      g ∉ (u.chan n).grafts ∧ s.raises u (64 * n.val + 46) (chArg p.page 0 (s.actCopy n p.slot) p.slot.val) ∧
      (∀ m, m ≠ n → u.chan m = s.chan m))) ∧
  (∀ (s : State) (n : Ch) (r : Repair) (bad : RackFind), s.background = true → s.copyHeld n r.copy = false →
    (s.chan n).repairs = [r] → r.step = 3 → s.repairAllowed n r = true → s.crypt.root ≠ none →
    Does (.graftRepairStep n r.slot r.copy r.part r.unit bad true) s (fun u =>
      (u.chan n).repairs = [{ r with step := 4, waits := false }] ∧
      u.vault.intents = s.vault.intents ++
        [(⟨s.vault.nextSeq, 4, n.val, r.slot.val, 0, 4, 5, r.place, r.place, 0, true⟩ : Intent)])) ∧
  (∀ (s : State) (n : Ch) (p : PageId) (r : Repair) (bad : RackFind), s.background = true → s.copyHeld n r.copy = false →
    (s.chan n).repairs = [r] → r.step = 4 → r.slot = p.slot → r.pages = [p.page] → r.copy = s.actCopy n p.slot →
    Does (.graftRepairStep n r.slot r.copy r.part r.unit bad true) s (fun u =>
      (u.chan n).repairs = [] ∧ s.raises u (64 * n.val + 47) (chArg p.page 0 r.copy p.slot.val) ∧
      p ∉ (u.chan n).bad ∧ (u.chan n).repairsDone = sat 0xFFFF ((s.chan n).repairsDone + 1))) ∧
  (∀ (s : State) (n : Ch) (p : PageId), s.powered = true → (s.chan n).st = .quarantined → (s.chan n).autorel = some (p, true, true) →
    bit (s.cfg (fch n 0x100)) 4 = true → s.spanClean n p = true → s.mayDecant n = false → Does (.autorelRelease n) s (fun u =>
      (u.chan n).st = .held ∧ (u.chan n).autorel = none ∧ (∀ m, m ≠ n → u.chan m = s.chan m)))

/-- The PCIe function (R47, R219, R220, R222, R246, R248 to R251): link, resets, configuration space, bus mastering and power
states; a register access of the host outside BAR0's words is an Unsupported Request. Where a clause rests on a reading of the
model, log entries 2, 4 and 53 name it. -/
def Obligations.HostLink : Prop :=
  (∀ (s : State), s.powered = true → s.plat.perstN = true → Does .perstNAssert s (fun u =>
    u.plat.perstN = false ∧ u.host = { startHost with retained := u.host.retained } ∧ u.ctl.urgHost = 0 ∧
    u.regs.host.staged = [] ∧ bit u.regs.side.rstcause 1 = true ∧ s.raises u 677 0 ∧
    ((∀ w ∈ s.regs.waiting, w.1 = .host) → u.host.retained = s.host.retained ∧ u.sealing.log = none))) ∧
  (∀ (s : State), s.powered = true → s.plat.perstN = false → Does .perstNRelease s (fun u =>
    u.plat = { s.plat with perstN := true } ∧ s.raises u 678 0 ∧ s.sameBut u [.plat, .evt])) ∧
  (∀ (s : State), s.powered = true → s.host.linkUp = true → Does (.functionLevelReset false) s (fun u =>
    u.host.flr = true ∧ u.host.linkUp = true ∧ u.host.mse = false ∧ u.host.bme = false ∧ u.host.fetched = [] ∧
    u.regs.host.staged = [] ∧ s.raises u 684 0 ∧ ((∀ w ∈ s.regs.waiting, w.1 = .host) → u.host.retained = s.host.retained))) ∧
  (∀ (s : State), s.powered = true → s.host.linkUp = true → Does (.functionLevelReset true) s (fun u =>
    u.host = { s.host with flr := false } ∧ s.sameBut u [.host])) ∧
  (∀ (s : State), s.powered = true → s.host.linkUp = true → Does .linkDown s (fun u =>
    u.host.linkUp = false ∧ u.regs.host.staged = [] ∧ s.raises u 680 0 ∧
    ((∀ w ∈ s.regs.waiting, w.1 = .host) → u.host.fetched = [] ∧ u.host.retained = s.host.retained ∧
      ((∀ n, s.actPending n = false) → u.regs.side = s.regs.side)))) ∧
  (∀ (s : State) (x : Stream), s.powered = true → s.host.linkUp = true → x ∈ s.sealing.streams → x.closing.isSome = true →
    Does .linkDown s (fun u => s.raises u 737 (sealArg x.no s.epochNo))) ∧
  (∀ (s : State) (sp w : Nat), s.powered = true → s.plat.perstN = true → s.clk.refclkLost = false → 1 ≤ sp → sp ≤ 4 →
    (w = 1 ∨ w = 2 ∨ w = 4) → Does (.linkTrained sp w) s (fun u =>
      u.host.linkUp = true ∧ u.host.speed = sp ∧ u.host.width = w ∧ s.raises u 676 0)) ∧
  (∀ (s : State) (b : Bool), s.powered = true → s.plat.perstN = true → s.host.linkUp = true → s.plat.fwRuns = true →
    s.host.flr = false → Does (.configRequest (.mse b)) s (fun u => u.host = { s.host with mse := b } ∧ s.sameBut u [.host])) ∧
  (∀ (s : State), s.powered = true → s.plat.perstN = true → s.host.linkUp = true → s.plat.fwRuns = true →
    s.host.flr = false → Does (.configRequest (.read 0)) s (fun u =>
      u.outbox = s.outbox ++ [Out.configValue 0 0x96001F3D#32] ∧ s.sameBut u [.outbox])) ∧
  (∀ (s : State) (r : CfgReq), s.powered = true → s.plat.perstN = true → s.host.linkUp = true → s.plat.fwRuns = false →
    s.plat.romsvc = false → Does (.configRequest r) s (fun u => u.outbox = s.outbox ++ [Out.crs] ∧ s.sameBut u [.outbox])) ∧
  (∀ (s : State), s.powered = true → s.host.linkUp = true → s.host.bme = true → Does .busMasterDisable s (fun u =>
    u.host = { s.host with bme := false } ∧ (s.busWork = true → s.raises u 686 0) ∧ s.sameBut u [.evt, .host])) ∧
  (∀ (s : State), s.powered = true → s.host.linkUp = true → Does (.powerStateChange true) s (fun u =>
    u.host = { s.host with d3hot := true } ∧ s.sameBut u [.host])) ∧
  (∀ (s : State) (k : Fin 3) (base : Nat), s.powered = true → s.plat.perstN = true → s.host.linkUp = true → s.plat.fwRuns = true →
    s.host.flr = false → Does (.configRequest (.bar k base)) s (fun u =>
      u.host = { s.host with bars := s.host.bars.set k.val base } ∧ s.sameBut u [.host])) ∧
  (∀ (s : State) (bar off len : Nat), s.powered = true → s.plat.perstN = true → s.host.linkUp = true → (len = 0 ∨ 8 < off % 8 + len) →
    Does (.unsupportedRequest (.read bar off len)) s (fun u =>
      u.outbox = s.outbox ++ [Out.ur] ∧ s.raises u 683 0 ∧ s.sameBut u [.outbox, .evt])) ∧
  (∀ (s : State) (bar off len : Nat) (v : DWord) (e : Bool), s.powered = true → s.plat.perstN = true → s.host.linkUp = true →
    (bar = 4 ∨ (len ≠ 4 ∧ len ≠ 8) ∨ off % len ≠ 0 ∨ e = false) → Does (.unsupportedRequest (.write bar off len v e)) s (fun u =>
      u.outbox = s.outbox ++ [Out.ur] ∧ s.raises u 683 0 ∧ s.sameBut u [.outbox, .evt])) ∧
  (∀ (s : State) (off : Nat), s.reaches_ .host = true → off < 0x440 → off % 4 = 0 → Does (.unsupportedRequest (.read 2 off 4)) s (fun u =>
    u.outbox = s.outbox ++ [Out.bar2Value off 0#32] ∧ s.sameBut u [.outbox])) ∧
  (∀ (s : State) (q : Nat) (v : DWord), s.reaches_ .host = true → q < 136 → qWritten q = false →
    exec (.unsupportedRequest (.write 2 (8 * q) 4 v true)) s = exec (.sqDoorbell q (fld (loHalf v) 11 0)) s) ∧
  (∀ (s : State) (v : Fin 64) (a d : Nat), s.reaches_ .host = true → s.host.vecs[v].pending = true → s.host.funcMask = false →
    s.host.msixEn = true → s.busOk = true → Does (.msixVectorUnmask v a d false) s (fun u =>
      u.host.vecs[v] = { addr := a, data := d, masked := false, pending := false } ∧ u.outbox = s.outbox ++ [Out.msi v.val])) ∧
  (∀ (s : State) (v : Fin 64) (a d : Nat), s.reaches_ .host = true → Does (.msixVectorUnmask v a d true) s (fun u =>
      u.host.vecs[v] = { addr := a, data := d, masked := true, pending := s.host.vecs[v].pending } ∧ s.sameBut u [.host]))

/-- The host's queues (R215, R228, R229, R233 to R235, R238, R247, R249): doorbells move tails and heads within their bounds,
entries are fetched in order and refused by name, messages are aggregated, completions are held until acknowledged. Where a
clause rests on a reading of the model, log entries 4 and 12 name it. -/
def Obligations.HostQueues : Prop :=
  (∀ (s : State) (q i : Nat), s.reaches_ .host = true → qSub q = true → (s.queue q).st = .running → i < 4096 → i < s.qSize q →
    i ≠ (s.queue q).bell → Does (.sqDoorbell q i) s (fun u => u.queue q = { s.queue q with bell := i } ∧
      (∀ j, j ≠ q → u.queue j = s.queue j))) ∧
  (∀ (s : State) (q i : Nat), s.reaches_ .host = true → qSub q = true → (s.queue q).st = .running → i < 4096 → s.qSize q ≤ i →
    i ≠ (s.queue q).bell → Does (.sqDoorbell q i) s (fun u =>
      u.queue q = { s.queue q with st := .error, cause := 5 } ∧ s.raises u (qEvent q) (q % 256 + 1280))) ∧
  (∀ (s : State) (q i : Nat), s.reaches_ .host = true → qWritten q = true → (s.queue q).st = .running → i < 4096 → i < s.qSize q →
    i ≠ (s.queue q).bell →
    (i + s.qSize q - (s.queue q).bell) % s.qSize q ≤ ((s.queue q).pos + s.qSize q - (s.queue q).bell) % s.qSize q →
    Does (.cqDoorbell q i) s (fun u => u.queue q = { s.queue q with bell := i } ∧ (∀ j, j ≠ q → u.queue j = s.queue j))) ∧
  (∀ (s : State) (q i : Nat), s.reaches_ .host = true → qWritten q = true → (s.queue q).st = .running → i < 4096 → i < s.qSize q →
    i ≠ (s.queue q).bell →
    ((s.queue q).pos + s.qSize q - (s.queue q).bell) % s.qSize q < (i + s.qSize q - (s.queue q).bell) % s.qSize q →
    Does (.cqDoorbell q i) s (fun u => u.queue q = { s.queue q with st := .error, cause := 6 } ∧
      s.raises u (qEvent q) (q % 256 + 1536))) ∧
  (∀ (s : State) (cid op : Nat), s.fetchable 0 = true → cid < 65536 → adminOpcodes.contains op = true → op < 256 →
    Does (.entryFetch 0 cid op 0 none) s (fun u =>
      u.host.fetched = s.host.fetched ++ [{ q := 0, cid := cid, opcode := op, noint := false, head := ((s.queue 0).pos + 1) % s.qSize 0, taken := false }] ∧
      (u.queue 0).pos = ((s.queue 0).pos + 1) % s.qSize 0)) ∧
  (∀ (s : State) (q cid : Nat), q ≠ 0 → s.nextSq = some q → cid < 65536 → Does (.entryFetch q cid 0x80 1 none) s (fun u =>
      u.host.fetched = s.host.fetched ++ [{ q := q, cid := cid, opcode := 0x80, noint := true, head := ((s.queue q).pos + 1) % s.qSize q, taken := false }] ∧
      (u.queue q).pos = ((s.queue q).pos + 1) % s.qSize q ∧ u.host.lastSq = q)) ∧
  (∀ (s : State) (q cid op fl : Nat) (b : Option Nat), q ≠ 0 → s.nextSq ≠ some q → Does (.entryFetch q cid op fl b) s (fun u => u = s)) ∧
  (∀ (s : State) (cid : Nat), s.fetchable 0 = true → cid < 65536 → Does (.entryFetch 0 cid 0x7F 0 none) s (fun u =>
    u.answered { q := 0, cid := cid, opcode := 0x7F, noint := false, head := ((s.queue 0).pos + 1) % s.qSize 0, taken := false } (reply .invalidOpcode))) ∧
  (∀ (s : State) (kind : Nat), s.powered = true → s.host.linkUp = true → 1 ≤ kind → kind ≤ 4 → s.fetchable 0 = true →
    Does (.memoryReadError (.entry 0) kind) s (fun u =>
      (u.queue 0).st = .error ∧ (u.queue 0).cause = kind ∧ s.raises u (if kind = 4 then 682 else 681) (256 * kind))) ∧
  (∀ (s : State) (cid op kind : Nat) (f : Fetched), s.takes cid op f → s.host.linkUp = true → 1 ≤ kind → kind ≤ 4 →
    Does (.memoryReadError (.buffer cid op) kind) s (fun u =>
      u.answered f (reply .dmaError) ∧ s.raises u (if kind = 4 then 682 else 681) (256 * kind + 65536 * cid))) ∧
  (∀ (s : State) (q : Nat), s.powered = true → qWritten q = true → (s.queue q).st = .running → bit (s.qCfg q) 15 = true →
    (s.queue q).unsig ≠ 0 → fld (s.qCfg q) 7 0 ≠ 0 → s.host.vecs[fld (s.qCfg q) 21 16]?.map (fun v => v.masked) = some false →
    s.host.funcMask = false → s.host.msixEn = true → s.busOk = true → Does (.msixAggregationTimeout q) s (fun u =>
      (u.queue q).unsig = 0 ∧ u.outbox = s.outbox ++ [Out.msi (fld (s.qCfg q) 21 16)])) ∧
  (∀ (s : State) (q : Nat) (r : Retained), s.powered = true → s.host.retained = [r] → r.cq = q → r.sent = true →
    Does (.retentionAck q) s (fun u => u.host = { s.host with retained := [] } ∧ s.sameBut u [.host]))

/-- The admin commands that read (R239 to R241, R258, R338, R364): each that the Steward takes is worked and answered: what it
reads leaves to the buffer, and the completion says how many bytes; a length of 0 is a no operation, one that is too small or a
reserved selector is refused with the offset of the field. Where a clause rests on a reading of the model, log entries 3 and 12
name it. -/
def Obligations.AdminReads : Prop :=
  (∀ (s : State) (cid len addr : Nat) (f : Fetched), s.takes cid 0x01 f → 4096 ≤ len → Does (.identify cid len addr) s (fun u =>
    u.answered f (reply .ok) ∧ s.sends u (.hostWrite addr s.identifyPage))) ∧
  (∀ (s : State) (cid len addr : Nat) (f : Fetched), s.takes cid 0x01 f → 1 ≤ len → len < 4096 →
    Does (.identify cid len addr) s (fun u => u.answered f (badField 24))) ∧
  (∀ (s : State) (cid len mask addr : Nat) (f : Fetched), s.takes cid 0x02 f → 1 ≤ mask → mask < 2 ^ 48 → (s.snapshotBytes mask).length ≤ len →
    Does (.snapshot cid len mask addr) s (fun u =>
      u.answered f (okWith (leBytes 4 (s.snapshotBytes mask).length ++ leBytes 4 0 ++ leBytes 8 s.cycles)) ∧
      s.sends u (.hostWrite addr (s.snapshotBytes mask)))) ∧
  (∀ (s : State) (cid len mask addr : Nat) (f : Fetched), s.takes cid 0x02 f → 1 ≤ len → 2 ^ 48 ≤ mask →
    Does (.snapshot cid len mask addr) s (fun u => u.answered f (badField 32))) ∧
  (∀ (s : State) (cid len no addr : Nat) (f : Fetched), s.takes cid 0x03 f → 32 ≤ len → Does (.logRead cid 0 len no addr) s (fun u =>
    u.answered f (okWith (leBytes 8 (logAnswer (s.ringFrom no) no len).2.1 ++ leBytes 4 (logAnswer (s.ringFrom no) no len).2.2)) ∧
    s.sends u (.hostWrite addr (logAnswer (s.ringFrom no) no len).1))) ∧
  (∀ (s : State) (cid len no addr : Nat) (f : Fetched), s.takes cid 0x03 f → 32 ≤ len → Does (.logRead cid 1 len no addr) s (fun u =>
    u.answered f (okWith (leBytes 8 (logAnswer (s.journalFrom no) no len).2.1 ++ leBytes 4 (logAnswer (s.journalFrom no) no len).2.2)) ∧
    s.sends u (.hostWrite addr (logAnswer (s.journalFrom no) no len).1))) ∧
  (∀ (s : State) (cid : Nat) (f : Fetched), s.takes cid 0x04 f → Does (.logClear cid) s (fun u =>
    u.answered f (okWith (leBytes 8 s.evt.nextNo)) ∧ u.evt.clearNo = s.evt.nextNo ∧
    u.evt.ring = s.evt.ring.map (fun x => (x.1, true)))) ∧
  (∀ (s : State) (cid chain off len addr : Nat) (f : Fetched), s.takes cid 0x05 f → chain ≤ 1 → 1 ≤ len →
    off < (s.certImage (decide (chain = 1))).length → Does (.certRead cid chain off len addr) s (fun u =>
      u.answered f (okWith (leBytes 4 (s.certImage (decide (chain = 1))).length ++
        leBytes 4 (((s.certImage (decide (chain = 1))).drop off).take len).length)) ∧
      s.sends u (.hostWrite addr (((s.certImage (decide (chain = 1))).drop off).take len)))) ∧
  (∀ (s : State) (cid len addr : Nat) (f : Fetched), s.takes cid 0x06 f → 32 ≤ len → s.crypt.rngSt = 1 →
    Does (.getNonce (.host cid) len addr) s (fun u =>
      u.answered f (reply .ok) ∧ s.sends u (.hostWrite addr (s.rand 32)) ∧ u.ident.nonce = some (leNat (s.rand 32)))) ∧
  (∀ (s : State) (len addr : Nat), s.powered = true → s.plat.mode ≠ .lockdown → s.crypt.rngSt = 1 →
    Does (.getNonce .tap len addr) s (fun u =>
      s.sends u (.tap (okWith (s.rand 32)).bytes) ∧ u.ident.nonce = some (leNat (s.rand 32))))

/-- The admin commands that act on agents and on the device (R44, R50, R106, R111, R115, R182, R239, R278, R279, R318): each
that the Steward takes has its effect and is answered. Where a clause rests on a reading of the model, log entries 12 and 20
name it. -/
def Obligations.AdminActions : Prop :=
  (∀ (s : State) (cid : Nat) (n : Ch) (f : Fetched), s.takes cid 0x10 f → (s.chan n).st ≠ .disabled → (s.chan n).phase = .boot →
    Does (.setPhase cid n.val 1) s (fun u =>
      u.answered f (okWith (leBytes 1 1)) ∧ (u.chan n).phase = .run ∧ s.raises u (64 * n.val + 17) 0)) ∧
  (∀ (s : State) (cid p : Nat) (n : Ch) (f : Fetched), s.takes cid 0x10 f → 2 < p → Does (.setPhase cid n.val p) s (fun u =>
    u.answered f (badField 9))) ∧
  (∀ (s : State) (cid len : Nat) (n : Ch) (k : SlotId) (m : Manifest) (f : Fetched), s.takes cid 0x11 f →
    s.activateStatus n k 0 m = .ok → s.crypt.pkuNext < 2 → Does (.activate cid n.val k.val 0 0 len m) s (fun u =>
      u.answered f (reply .ok) ∧ ((u.chan n).slot k).upd = .verifying ∧ ((u.chan n).slot k).locked = true ∧
      s.raises u (64 * n.val + 19) (chArg 0 0 4 k.val))) ∧
  (∀ (s : State) (cid len : Nat) (n : Ch) (k : SlotId) (m : Manifest) (f : Fetched), s.takes cid 0x11 f →
    s.activateStatus n k 0 m = .ok → 2 ≤ s.crypt.pkuNext → Does (.activate cid n.val k.val 0 0 len m) s (fun u =>
      u.answered f (reply .deviceFault) ∧ (u.chan n).slots = (s.chan n).slots ∧ s.raises u 565 (256 * Status.deviceFault.code) ∧
      s.raises u (64 * n.val + 20) (chArg 0 0 4 k.val))) ∧
  (∀ (s : State) (cid len : Nat) (n : Ch) (k : SlotId) (m : Manifest) (f : Fetched), s.takes cid 0x11 f →
    s.activateStatus n k 0 m = .notPermitted → Does (.activate cid n.val k.val 0 0 len m) s (fun u =>
      u.answered f (reply .notPermitted) ∧ (u.chan n).slots = (s.chan n).slots ∧ s.raises u (64 * n.val + 20) (chArg 0 0 4 k.val))) ∧
  (∀ (s : State) (cid : Nat) (n : Ch) (k : SlotId) (w : Update) (f : Fetched), s.takes cid 0x12 f → ((s.chan n).slot k).upd = .confirming →
    bit (s.cfg (fch n (0xB8 + 4 * k.val))) 30 = true → ((s.chan n).slot k).up = some w → w.windowOpen = true →
    Does (.confirm cid n.val k.val) s (fun u => u.answered f (reply .ok))) ∧
  (∀ (s : State) (cid : Nat) (n : Ch) (k : SlotId) (f : Fetched), s.takes cid 0x12 f → ((s.chan n).slot k).upd ≠ .confirming →
    Does (.confirm cid n.val k.val) s (fun u => u.answered f (reply .notPermitted) ∧ u.chs = s.chs)) ∧
  (∀ (s : State) (cid : Nat) (n : Ch) (f : Fetched), s.takes cid 0x13 f → s.wdRunning n = true → bit (s.awin n) 29 = true →
    s.wdInWin n = true → Does (.agentHeartbeat cid n.val 0x5EEDC0DE#32) s (fun u => u.answered f (okWith (leBytes 1 0)))) ∧
  (∀ (s : State) (cid : Nat) (n : Ch) (f : Fetched), s.takes cid 0x13 f → s.wdRunning n = true → bit (s.awin n) 29 = false →
    Does (.agentHeartbeat cid n.val 0x5EEDC0DE#32) s (fun u =>
      u.answered f (reply .notPermitted) ∧ u.ctl = s.ctl ∧ s.raises u (wdEv n 2) (s.wdElapsed n))) ∧
  (∀ (s : State) (cid : Nat) (n : Ch) (f : Fetched), s.takes cid 0x14 f → (s.chan n).st = .quarantined → s.perm 2 = true →
    s.intentsOk = true → Does (.reimage cid n.val 0) s (fun u =>
      u.answered f (reply .ok) ∧ (u.chan n).st = .reimaging ∧ s.raises u 529 0 ∧
      ∃ j, u.recOf n = some j ∧ j.st = .trying ∧ j.single = false ∧ j.source = 0)) ∧
  (∀ (s : State) (cid src : Nat) (n : Ch) (f : Fetched), s.takes cid 0x14 f → src ≤ 5 → (s.chan n).st ≠ .quarantined →
    Does (.reimage cid n.val src) s (fun u => u.answered f (reply .notPermitted) ∧ u.chs = s.chs)) ∧
  (∀ (s : State) (cid len : Nat) (n : Ch) (t : Token) (f : Fetched), s.takes cid 0x15 f → 1 ≤ len → (s.checkToken t).2 = .ok →
    t.action = 1 → agentsOf t.agents = [n] → (s.chan n).st = .quarantined → (s.chan n).brought = false →
    Does (.qrelease cid len t) s (fun u => u.answered f (reply .ok) ∧ (u.chan n).st = .held ∧ u.ident.nonce = none)) ∧
  (∀ (s : State) (cid len off : Nat) (last : Bool) (n : Ch) (j : RecJob) (f : Fetched), s.takes cid 0x16 f → 1 ≤ len →
    s.recOf n = some j → j.st = .streaming → j.source = 4 → chunkStatus j.stream (s.recSize n j.slot) off len last = reply .ok →
    Does (.imageStream cid n.val j.slot.val last off len) s (fun u =>
      u.answered f (okWith (leBytes 4 (j.stream.held + len))) ∧
      (∃ x, u.recOf n = some x ∧ x.stream = j.stream.push len last))) ∧
  (∀ (s : State) (cid : Nat) (f : Fetched), s.takes cid 0x23 f → s.perm 0 = false → Does (.restart cid) s (fun u =>
    u.answered f (reply .notPermitted) ∧ u.plat = s.plat)) ∧
  (∀ (s : State) (cid : Nat) (f : Fetched), s.takes cid 0x23 f → s.perm 0 = true → Does (.restart cid) s (fun u =>
    u.plat.cause = 2 ∧ u.host.fetched = [] ∧ u.host.retained = []))

/-- The recovery of agents and of the platform (R44, R54, R276, R277, R279 to R282, R350): the sources in their order, the
chunks of a streamed image, the write of a copy, the BMC's messages, the owner's token. Where a clause rests on a reading of the
model, log entries 12, 43 and 54 name it. -/
def Obligations.Recovery : Prop :=
  (∀ (s : State) (n : Ch) (j : RecJob) (m : Option Manifest) (a : Bool), s.powered = true → (s.chan n).st = .reimaging →
    s.recOf n = some j → j.st = .trying → s.plat.mode ≠ .lockdown → s.intentsOk = true → s.wardenAway = false → s.crypt.pkuNext < 2 → j.single = false →
    s.nextSource n j.slot m a j.source = some 2 → Does (.recoverySourceTry n m a) s (fun u =>
      (∃ x, u.recOf n = some x ∧ x.source = 2 ∧ x.st = .writing ∧ x.step = 0 ∧ x.slots = j.slots) ∧
      u.vault.intents = s.vault.intents ++ [(⟨s.vault.nextSeq, 7, n.val, j.slot.val, 0, 0,
        (s.copyUnitList n j.slot (s.actCopy n j.slot)).length, s.copyPlace n j.slot 3, s.copyPlace n j.slot (s.actCopy n j.slot), 0, true⟩ : Intent)] ∧
      u.chs = s.chs)) ∧
  (∀ (s : State) (n : Ch) (j : RecJob) (m : Option Manifest) (a : Bool), s.powered = true → (s.chan n).st = .reimaging →
    s.recOf n = some j → j.st = .trying → s.plat.mode ≠ .lockdown → s.intentsOk = true → s.wardenAway = false → s.crypt.pkuNext < 2 → j.single = false →
    s.nextSource n j.slot m a j.source = some 4 → Does (.recoverySourceTry n m a) s (fun u =>
      (∃ x, u.recOf n = some x ∧ x.source = 4 ∧ x.st = .streaming ∧ x.stream = noStream ∧ x.slots = j.slots) ∧ s.raises u 533 0 ∧
      u.chs = s.chs)) ∧
  (∀ (s : State) (n : Ch) (j : RecJob) (m : Option Manifest) (a : Bool), s.powered = true → (s.chan n).st = .reimaging →
    s.recOf n = some j → j.st = .trying → s.plat.mode ≠ .lockdown → s.intentsOk = true → s.wardenAway = false → s.crypt.pkuNext < 2 → j.single = false →
    s.nextSource n j.slot m a j.source = none → Does (.recoverySourceTry n m a) s (fun u =>
      (u.chan n).st = .quarantined ∧ (u.agt n).qcause = 8 ∧ u.recOf n = none ∧ s.raises u 532 0)) ∧
  (∀ (s : State) (n : Ch) (j : RecJob), s.powered = true → s.recOf n = some j → j.st = .streaming → j.single = false →
    Does (.recoverySourceTimeout n) s (fun u =>
      (∃ x, u.recOf n = some x ∧ x.source = j.source ∧ x.st = .trying ∧ x.slots = j.slots) ∧ s.raises u 530 0 ∧
      (j.step = 0 → u.vault = s.vault) ∧ (1 ≤ j.step → s.crypt.root.isSome = true → ∃ r, u.vault.intents = s.vault.intents ++ [r] ∧
        r.kind = 7 ∧ r.chan = n.val ∧ r.slot = j.slot.val ∧ r.state = 2 ∧ r.step = j.step) ∧
      s.sameBut u [.evt, .ident, .vault])) ∧
  (∀ (s : State) (n : Ch) (j : RecJob) (c : Req × Word), s.powered = true → s.recOf n = some j → j.st = .actCommit →
    s.regs.cur = some c → Does (.actCommitRetry n) s (fun u => u.recOf n = some j ∧ s.sameBut u [.ident])) ∧
  (∀ (s : State) (n : Ch) (j : RecJob), s.powered = true → s.recOf n = some j → j.st = .actCommit → s.regs.cur = none →
    (s.commitAct n j.slot).groupOk (8 + n.val) (s.commitAct n j.slot).cfg = true → j.slots.length = 1 → (s.chan n).st = .reimaging →
    Does (.actCommitRetry n) s (fun u => (u.recOf n = none ∨ (u.agt n).qcause = 7) ∧ s.raises u 531 0 ∧ ∃ r ∈ u.ident.rewrites, r.ch = n.val ∧
      r.slot = j.slot.val ∧ r.copy = s.actCopy n j.slot)) ∧
  (∀ (s : State) (n : Ch) (j : RecJob) (w : CopyUnit) (rest : List CopyUnit), s.powered = true → s.intentsOk = true → s.portHeld n = false →
    s.wardenAway = false → s.recOf n = some j → j.st = .writing → (s.copyUnitList n j.slot (s.actCopy n j.slot)).drop j.step = w :: rest →
    s.canWrite n w.part = true → Does (.recoveryWriteStep n false true) s (fun u =>
      u.recOf n = some { j with step := j.step + 1, fails := 0 } ∧ u.vault.intents = s.vault.intents ++
        [(⟨s.vault.nextSeq, 7, n.val, j.slot.val, 0, j.step + 1, s.recSteps n j, s.recSrc n j.slot j.source,
          s.copyPlace n j.slot (s.actCopy n j.slot), 0, true⟩ : Intent)] ∧
      s.sameBut u [.ident, .vault, .chs])) ∧
  (∀ (s : State) (n : Ch) (j : RecJob) (w : CopyUnit) (rest : List CopyUnit), s.powered = true → s.intentsOk = true → s.portHeld n = false →
    s.wardenAway = false → s.recOf n = some j → j.st = .writing → (s.copyUnitList n j.slot (s.actCopy n j.slot)).drop j.step = w :: rest →
    s.canWrite n w.part = true → j.fails < 3 → Does (.recoveryWriteStep n false false) s (fun u =>
      u.recOf n = some { j with fails := j.fails + 1 } ∧ s.sameBut u [.ident, .chs])) ∧
  (∀ (s : State) (n : Ch) (j : RecJob), s.powered = true → s.intentsOk = true → s.portHeld n = false → s.wardenAway = false →
    s.recOf n = some j → j.st = .writing → j.slots.length = 1 → (s.chan n).st = .reimaging →
    (s.copyUnitList n j.slot (s.actCopy n j.slot)).length ≤ j.step → Does (.recoveryWriteStep n true true) s (fun u =>
      (u.recOf n = none ∨ (u.agt n).qcause = 7) ∧ s.raises u 531 0)) ∧
  (∀ (s : State) (n : Ch) (j : RecJob) (w : CopyUnit), s.powered = true → s.intentsOk = true → s.portHeld n = false → s.wardenAway = false →
    s.recOf n = some j → j.st = .writing → j.slots.length = 1 → (s.chan n).st = .reimaging →
    (s.copyUnitList n j.slot (s.actCopy n j.slot)).drop j.step = [w] → s.canWrite n w.part = true →
    Does (.recoveryWriteStep n true true) s (fun u => (u.recOf n = none ∨ (u.agt n).qcause = 7) ∧ s.raises u 531 0)) ∧
  (∀ (s : State) (n : Ch) (p : PortId) (j : RecJob) (x : Nat) (rest : List Nat), p.val = n.val → s.powered = true →
    s.recOf n = some j → j.stream.bufs = x :: rest → j.st = .streaming → (rest ≠ [] ∨ j.stream.last = false) →
    s.wardenAway = false → s.crypt.root.isSome = true → Does (.imageChunkProgram p true) s (fun u =>
      u.recOf n = some { j with step := (j.stream.held - rest.sum) / 4096, stream := { j.stream with bufs := rest } } ∧
      (∃ r, u.vault.intents = s.vault.intents ++ [r] ∧ r.kind = 7 ∧ r.chan = n.val ∧ r.slot = j.slot.val ∧ r.state = 0 ∧
        r.step = (j.stream.held - rest.sum) / 4096) ∧ s.sameBut u [.ident, .vault])) ∧
  (∀ (s : State) (n : Ch) (p : PortId) (j : RecJob) (x : Nat), p.val = n.val → s.powered = true →
    s.recOf n = some j → j.stream.bufs = [x] → j.st = .streaming → j.stream.last = true →
    s.wardenAway = false →
    Does (.imageChunkProgram p true) s (fun u =>
      u.recOf n = some { j with st := .verifying, step := j.stream.held / 4096, stream := { j.stream with bufs := [] } } ∧ s.sameBut u [.ident, .vault])) ∧
  (∀ (s : State) (n : Ch) (j : RecJob) (m : Manifest), s.powered = true → s.recOf n = some j → j.st = .verifying → s.wardenAway = false →
    s.crypt.pkuNext < 2 → j.slots.length = 1 → (s.chan n).st = .reimaging → s.manCheck n j.slot (s.actCopy n j.slot) m = 0 → Does (.imageVerify n m true) s (fun u =>
      (u.recOf n = none ∨ (u.agt n).qcause = 7) ∧ s.raises u 531 0)) ∧
  (∀ (s : State) (n : Ch) (j : RecJob) (m : Manifest), s.powered = true → s.recOf n = some j → j.st = .verifying → s.wardenAway = false →
    s.crypt.pkuNext < 2 → j.single = false → Does (.imageVerify n m false) s (fun u =>
      (∃ x, u.recOf n = some x ∧ x.st = .trying) ∧ (j.source = 5 → u.ident.recEnd = some false) ∧ s.raises u 530 0 ∧
      s.sameBut u [.evt, .ident, .vault, .crypt])) ∧
  (∀ (s : State) (b : Bundle) (n : Ch) (j : RecJob), s.bundle = some b → s.powered = true → s.plat.fwRuns = true →
    s.bmcJob = some (n, j) → Does (.recQuery b.bmcEid) s (fun u =>
      s.sends u (.mctp b.bmcEid (leBytes 1 0 ++ leBytes 1 n.val ++ leBytes 1 j.slot.val ++
        leBytes 1 (s.vintage (fld (s.cfg (fch n (0xB8 + 4 * j.slot.val))) 27 24)) ++ leBytes 4 (s.recSize n j.slot) ++
        leBytes 4 j.stream.held)))) ∧
  (∀ (s : State) (b : Bundle) (n : Ch) (j : RecJob) (off len : Nat), s.bundle = some b → s.powered = true → s.plat.fwRuns = true →
    s.bmcJob = some (n, j) → j.st = .streaming → len ≤ 4000 →
    chunkStatus j.stream (s.recSize n j.slot) off len (decide (off + len = s.recSize n j.slot)) = reply .ok →
    Does (.recChunk b.bmcEid off len) s (fun u =>
      s.sends u (.mctp b.bmcEid (leBytes 1 0 ++ leBytes 4 (j.stream.held + len))) ∧
      (∃ x, u.recOf n = some x ∧ x.stream = j.stream.push len (decide (off + len = s.recSize n j.slot))))) ∧
  (∀ (s : State) (b : Bundle), s.bundle = some b → s.powered = true → s.plat.fwRuns = true → s.bmcJob = none →
    s.ident.recEnd = some true → Does (.recEnd b.bmcEid) s (fun u => s.sends u (.mctp b.bmcEid (leBytes 1 Status.ok.code)))) ∧
  (∀ (s : State) (b : Bundle), s.bundle = some b → s.powered = true → s.plat.fwRuns = true → s.bmcJob = none →
    s.ident.recEnd = some false → Does (.recEnd b.bmcEid) s (fun u => s.sends u (.mctp b.bmcEid (leBytes 1 Status.verifyFail.code)))) ∧
  (∀ (s : State) (n : Ch) (len : Nat) (t : Token), (s.plat.mode = .verify ∨ s.plat.mode = .guard) → 1 ≤ len → t.action = 2 →
    (s.checkToken t).2 = .ok → agentsOf t.agents = [n] → (s.chan n).st = .held → Does (.recoverPlatform .tap len t) s (fun u =>
      u.plat.mode = .recover ∧ u.plat.cause = 0x0B ∧ (u.chan n).st = .reimaging ∧ u.ident.recAgents = [n.val] ∧
      u.ident.nonce = none ∧ s.sends u (.tap (reply .ok).bytes))) ∧
  (∀ (s : State) (len : Nat) (t : Token), (s.plat.mode = .verify ∨ s.plat.mode = .guard ∨ s.plat.mode = .recover) → s.intentsOk = true →
    1 ≤ len → t.action = 3 → (s.checkToken t).2 = .ok → Does (.goldenFirmwareRestore .tap len t) s (fun u =>
      u.ident.fwCopies = [(2, 0), (2, 1), (3, 3)] ∧ u.ident.fwState = .goldcopy ∧ u.ident.nonce = none ∧
      s.sends u (.tap (reply .ok).bytes))) ∧
  (∀ (s : State) (len : Nat) (t : Token), s.plat.mode = .lockdown → (s.plat.cause = 0x10 ∨ s.plat.cause = 0x11 ∨ s.plat.cause = 0x14) →
    1 ≤ len → t.action = 4 → (s.checkToken t).2 = .ok → s.keeper.tlClass ≠ 5 → Does (.authorisedRecovery .tap len t) s (fun u =>
      u.plat.mode = .hold ∧ u.plat.cause = 0x0D ∧ u.keeper.tlHolding = false)) ∧
  (∀ (s : State) (len : Nat) (t : Token), s.plat.mode = .lockdown → s.plat.cause = 0x12 → 1 ≤ len → t.action = 4 →
    (s.checkToken t).2 = .ok → Does (.authorisedRecovery .tap len t) s (fun u =>
      u.plat = s.plat ∧ s.sends u (.tap (reply .notPermitted).bytes)))

/-- Policy bundles (R48, R270 to R274, R318): the checks in order, the store, the application through one GO, the burn of
counter 14. Where a clause rests on a reading of the model, log entries 3, 44 and 63 name it. -/
def Obligations.PolicyBundles : Prop :=
  (∀ (s : State) (cid len : Nat) (b : Bundle) (f : Fetched), s.takes cid 0x20 f → 1 ≤ len → len ≤ 262140 →
    (s.policyCheck false b).2 = .ok → s.crypt.pkuNext < 2 → Does (.policyLoad cid len b) s (fun u =>
      u.answered f (reply .ok) ∧ u.ident.polState = 1 ∧ u.ident.applied = s.ident.applied ∧
      ∃ k, u.ident.storing = some (k, b) ∧ (∀ a, s.ident.applied = some a → k = 1 - a.1))) ∧
  (∀ (s : State) (cid len : Nat) (b : Bundle) (f : Fetched), s.takes cid 0x20 f → 1 ≤ len → len ≤ 262140 →
    (s.policyCheck false b).2 = .ok → 2 ≤ s.crypt.pkuNext → Does (.policyLoad cid len b) s (fun u =>
      u.answered f (reply .deviceFault) ∧ u.ident = s.ident ∧ s.raises u 565 (256 * Status.deviceFault.code))) ∧
  (∀ (s : State) (cid len : Nat) (b : Bundle) (f : Fetched), s.takes cid 0x20 f → 1 ≤ len → len ≤ 262140 →
    (s.policyCheck false b).2 = .verifyFail → s.crypt.pkuNext < 2 → Does (.policyLoad cid len b) s (fun u =>
      u.answered f (reply .verifyFail) ∧ u.ident.polResult = Status.verifyFail.code ∧
      u.ident.polReason = (s.policyCheck false b).1 ∧ u.ident.storing = s.ident.storing ∧ s.raises u 520 0)) ∧
  (∀ (s : State) (k : Nat) (b : Bundle), s.vaultUp = true → s.ident.polState = 1 → s.ident.storing = some (k, b) →
    Does .policyStoreDurable s (fun u =>
      u.ident = { s.ident with
        polState := 2
        slot0 := if k = 0 then some { bundle := b, valid := true } else s.ident.slot0
        slot1 := if k = 0 then s.ident.slot1 else some { bundle := b, valid := true } } ∧
      s.raises u 518 (polArg k) ∧ s.sameBut u [.evt, .ident, .vault])) ∧
  (∀ (s : State), s.plat.mode = .hold → s.regs.cur = none → s.ident.polState = 0 → s.ident.storing = none →
    s.plat.boot.firmware = true → s.plat.boot.policy = false → s.ident.applied = none → s.ident.slot0 = none → s.ident.slot1 = none →
    Does .policyApply s (fun u => u.plat = { s.plat with awaitPolicy := true } ∧ s.sameBut u [.plat])) ∧
  (∀ (s : State) (p : PolSlot), s.plat.mode = .hold → s.regs.cur = none → s.ident.polState = 0 → s.ident.storing = none →
    s.plat.boot.firmware = true → s.plat.boot.policy = false → s.ident.applied = none → s.ident.slot0 = some p → p.valid = false →
    s.ident.slot1 = none → Does .policyApply s (fun u =>
      u.plat.mode = .recover ∧ u.plat.cause = 7 ∧ u.ident.polResult = 7)) ∧
  (∀ (s : State) (k : Nat) (b : Bundle), s.powered = true → s.regs.cur = none → s.commitWaiting .int = false →
    s.ident.polState = 2 → s.ident.storing = some (k, b) → Does .policyApply s (fun u =>
      u.commitBusy .int = true ∨ u.commitWaiting .int = true ∨ u.ident.applied = some (k, b) ∨ u.regs.int.result ≠ .ok)) ∧
  (∀ (s : State) (k : Nat) (b : Bundle), s.powered = true → s.regs.cur = none → s.regs.waiting = [] → s.ident.polState = 2 →
    s.ident.storing = some (k, b) → Does (.policyApplyRetry true) s (fun u =>
      u.ident.storing = none ∧ u.ident.polState = (if s.ident.applied.isSome then 3 else 0) ∧ u.ident.polResult = 5 ∧
      u.ident.polReason = 14 ∧ s.raises u 520 (polArg k) ∧ s.sameBut u [.evt, .ident])) ∧
  (∀ (s : State) (k : Nat) (b : Bundle), s.powered = true → s.regs.cur = none → s.regs.waiting = [] → s.ident.polState = 2 →
    s.ident.storing = some (k, b) → Does (.policyApplyRetry false) s (fun u =>
      u.commitBusy .int = true ∨ u.commitWaiting .int = true ∨ u.ident.applied = some (k, b) ∨ u.regs.int.result ≠ .ok)) ∧
  (∀ (s : State) (b : Bundle), s.bundle = some b → (s.plat.mode = .verify ∨ s.plat.mode = .guard) → s.ident.polBurn = true →
    s.vintage 14 < b.vintage → Does (.policyVintageBurn true) s (fun u =>
      u.life.otp.vctr = s.life.otp.vctr.set 14 (s.life.otp.vctr[14] ||| BitVec.ofNat 64 (2 ^ s.vintage 14)) ∧
      u.ident.polBurn = decide (u.vintage 14 < b.vintage) ∧ s.raises u 521 0 ∧ s.sameBut u [.evt, .vault, .ident, .life])) ∧
  (∀ (s : State) (b : Bundle), s.bundle = some b → (s.plat.mode = .verify ∨ s.plat.mode = .guard) → s.ident.polBurn = true →
    s.vintage 14 < b.vintage → Does (.policyVintageBurn false) s (fun u =>
      u.life.otp = s.life.otp ∧ u.life.progFail = min 255 (s.life.progFail + 1) ∧ s.raises u 1018 0 ∧ s.sameBut u [.evt, .life]))

/-- Device firmware (R31, R264, R283 to R290, R318, R413): download, verification, activation, the live handover in its steps,
its fallback, confirmation, the rewriting of copies, the Platform certificate. Where a clause rests on a reading of the model,
log entries 3, 10 and 63 name it. -/
def Obligations.FirmwareSteps : Prop :=
  (∀ (s : State) (cid len : Nat) (last : Bool) (p : Package) (f : Fetched), s.takes cid 0x21 f → s.intentsOk = true →
    s.ident.fwState = .idle → s.ident.dl = noStream → packageFormOk p = true → 4 + p.len ≤ len →
    chunkStatus noStream p.size 0 len last = reply .ok → Does (.fwDownload cid last 0 len (some p)) s (fun u =>
      u.answered f (okWith (leBytes 4 len)) ∧ u.ident.fwState = .downloading ∧ u.ident.dlPkg = some p ∧
      u.ident.dlCopy = s.ident.inactive ∧ u.ident.dl = noStream.push len last)) ∧
  (∀ (s : State) (cid off len : Nat) (last : Bool) (g : Option Package) (p : Package) (f : Fetched), s.takes cid 0x21 f →
    s.intentsOk = true → s.ident.fwState = .downloading → s.ident.dlSide = false → 1 ≤ s.ident.dl.held → s.ident.dl.last = false → s.ident.dlPkg = some p →
    1 ≤ len → chunkStatus s.ident.dl p.size off len last = reply .ok → Does (.fwDownload cid last off len g) s (fun u =>
      u.answered f (okWith (leBytes 4 (s.ident.dl.held + len))) ∧ u.ident = { s.ident with dl := s.ident.dl.push len last })) ∧
  (∀ (s : State) (cid off len : Nat) (last : Bool) (g : Option Package) (f : Fetched), s.takes cid 0x21 f →
    s.intentsOk = true → s.ident.fwState = .downloading → s.ident.dlSide = true → 1 ≤ len → Does (.fwDownload cid last off len g) s (fun u =>
      u.answered f (reply .busyRetry) ∧ u.ident = s.ident)) ∧
  (∀ (s : State) (p : Package), s.powered = true → s.ident.fwState = .downloading → s.ident.dlPkg = some p →
    s.ident.dl.last = true → s.ident.dl.bufs = [] → (s.pressRun { cls := 2, ch := none, tag := 64, engine := 8 }).2 = false →
    Does .fwPackageVerify s (fun u => s.sameBut u [.press])) ∧
  (∀ (s : State) (p : Package), s.powered = true → s.ident.fwState = .downloading → s.ident.dlPkg = some p →
    s.ident.dl.last = true → s.ident.dl.bufs = [] → (s.pressRun { cls := 2, ch := none, tag := 64, engine := 8 }).2 = true →
    s.crypt.pkuNext < 2 → s.packageOk p = true → s.plat.romsvc = false →
    Does .fwPackageVerify s (fun u =>
      u.ident.fwState = .downloaded ∧ (u.ident.fw s.ident.dlCopy).pkg = some p ∧ (u.ident.fw s.ident.dlCopy).confirmed = false ∧
      s.raises u 522 (fwArg s.ident.dlCopy) ∧ s.sameBut u [.evt, .vault, .ident, .press, .crypt])) ∧
  (∀ (s : State) (p : Package), s.powered = true → s.ident.fwState = .downloading → s.ident.dlPkg = some p →
    s.ident.dl.last = true → s.ident.dl.bufs = [] → (s.pressRun { cls := 2, ch := none, tag := 64, engine := 8 }).2 = true →
    s.crypt.pkuNext < 2 → s.packageOk p = false → Does .fwPackageVerify s (fun u =>
      u.ident.fwState = .idle ∧ u.ident.dl = noStream ∧ (u.ident.fw s.ident.dlCopy).pkg = none ∧ s.raises u 523 (fwArg s.ident.dlCopy) ∧
      s.sameBut u [.evt, .vault, .ident, .press, .crypt])) ∧
  (∀ (s : State) (cid target : Nat) (f : Fetched), s.takes cid 0x22 f → s.plat.mode = .guard →
    s.fwActivateStatus false target = .ok → Does (.fwActivate cid target) s (fun u =>
      u.answered f (reply .ok) ∧ u.ident.fwState = .handover ∧
      u.ident.hand = some { warden := decide (target ≠ 1), rest := if target = 2 then [false] else [], st := .waiting })) ∧
  (∀ (s : State) (cid target : Nat) (f : Fetched), s.takes cid 0x22 f → s.fwActivateStatus false target = .notPermitted →
    Does (.fwActivate cid target) s (fun u => u.answered f (reply .notPermitted) ∧ u.ident = s.ident)) ∧
  (∀ (s : State) (h : Hand), s.powered = true → s.ident.hand = some h → h.st = .waiting → s.crypt.root ≠ none →
    Does .handoverHalt s (fun u =>
      u.ident = { s.ident with hand := some { h with st := .halted } } ∧
      u.vault.intents = s.vault.intents ++ [(⟨s.vault.nextSeq, 6, 8, 0, 3, 0, 1, 0, fwPlace s.ident.dlCopy, 0, true⟩ : Intent)] ∧
      s.raises u 524 (fwArg s.ident.dlCopy) ∧
      s.sameBut u [.evt, .vault, .ident])) ∧
  (∀ (s : State) (h : Hand), s.powered = true → s.ident.hand = some h → h.st = .halted → Does (.handoverLoad true) s (fun u =>
      u.ident.hand = some { h with st := .loaded } ∧ u.plat.mode = s.plat.mode)) ∧
  (∀ (s : State) (h : Hand), s.powered = true → s.ident.hand = some h → h.st = .halted → Does (.handoverLoad false) s (fun u =>
      u.ident.hand = none ∧ u.ident.fwState = .downloaded ∧ u.ident.runCopy = s.ident.runCopy ∧
      u.ident.fallbacks = min 255 (s.ident.fallbacks + 1) ∧ s.raises u 526 (fwArg s.ident.dlCopy))) ∧
  (∀ (s : State) (h : Hand), s.powered = true → s.ident.hand = some h → h.st = .loaded → h.rest = [] → Does .checkIn s (fun u =>
      u.ident.hand = none ∧ u.ident.runCopy = s.ident.dlCopy ∧ u.ident.fwState = .confirming ∧ s.raises u 525 (fwArg s.ident.dlCopy))) ∧
  (∀ (s : State) (h : Hand), s.powered = true → s.ident.hand = some h → h.st = .loaded → h.warden = true → h.rest = [false] →
    Does .checkIn s (fun u =>
      u.ident.hand = some { warden := false, rest := [], st := .waiting } ∧ u.ident.runCopy = s.ident.runCopy ∧
      u.ident.sver = s.ident.sver ∧ s.raises u 525 (fwArg s.ident.dlCopy))) ∧
  (∀ (s : State) (h : Hand), s.powered = true → s.ident.hand = some h → h.st ≠ .waiting → Does .handoverFallback s (fun u =>
      u.ident.hand = none ∧ u.ident.fwState = .downloaded ∧ u.ident.runCopy = s.ident.runCopy ∧
      u.ident.fallbacks = min 255 (s.ident.fallbacks + 1) ∧ s.raises u 526 (fwArg s.ident.dlCopy))) ∧
  (∀ (s : State) (p : Package), s.powered = true → s.ident.fwState = .confirming → s.plat.mode = .guard → s.wd0.warn = false →
    s.runningPkg = some p → s.vintage 15 < p.vintage → Does (.fwConfirm true) s (fun u =>
      u.ident.fwState = .burning ∧ u.ident.preferred = s.ident.runCopy ∧ (u.ident.fw s.ident.runCopy).confirmed = true ∧
      s.raises u 527 (fwArg s.ident.runCopy) ∧ s.sameBut u [.evt, .vault, .ident])) ∧
  (∀ (s : State) (p : Package), s.powered = true → s.ident.fwState = .burning → s.runningPkg = some p →
    s.vintage 15 < p.vintage → Does (.fwConfirm true) s (fun u =>
      u.life.otp.vctr = s.life.otp.vctr.set 15 (s.life.otp.vctr[15] ||| BitVec.ofNat 64 (2 ^ s.vintage 15)) ∧ s.raises u 521 0 ∧
      s.sameBut u [.evt, .vault, .ident, .life])) ∧
  (∀ (s : State) (a b : Nat) (rest : List (Nat × Nat)), s.powered = true → s.intentsOk = true → s.ident.fwCopies = (a, b) :: rest →
    2 ≤ a → (liveIntents s.vault.intents).any (fun i => decide (i.kind = 7 ∧ i.chan = 8)) = false → ∀ last, Does (.goldenCopyStep last) s (fun u =>
      u.vault.intents = s.vault.intents ++ [(⟨s.vault.nextSeq, 7, 8, 0, 0, 0, 2, fwPlace a, fwPlace b, 0, true⟩ : Intent)] ∧
      u.ident = s.ident.setFw b { s.ident.fw b with bootable := false } ∧ s.sameBut u [.vault, .ident])) ∧
  (∀ (s : State) (a b : Nat) (rest : List (Nat × Nat)), s.powered = true → s.intentsOk = true → s.ident.fwCopies = (a, b) :: rest →
    2 ≤ a → (liveIntents s.vault.intents).any (fun i => decide (i.kind = 7 ∧ i.chan = 8)) = true → Does (.goldenCopyStep false) s (fun u =>
      u.vault.intents = s.vault.intents ++ [(⟨s.vault.nextSeq, 7, 8, 0, 0, 1, 2, fwPlace a, fwPlace b, 0, true⟩ : Intent)] ∧ s.sameBut u [.vault])) ∧
  (∀ (s : State) (a b : Nat), s.powered = true → s.intentsOk = true → s.ident.fwCopies = [(a, b)] → 2 ≤ a →
    (liveIntents s.vault.intents).any (fun i => decide (i.kind = 7 ∧ i.chan = 8)) = true →
    Does (.goldenCopyStep true) s (fun u =>
      u.ident.fwCopies = [] ∧ u.ident.fwState = .idle ∧
      u.ident.fw b = { pkg := (s.ident.fw a).pkg, bootable := true, confirmed := true } ∧ s.sameBut u [.vault, .ident])) ∧
  (∀ (s : State), s.powered = true → s.ident.certDue = true → s.crypt.pkuNext < 2 → Does .platformCertIssue s (fun u =>
      u.ident.certDue = false ∧ s.raises u 534 0 ∧ u.plat.mode = s.plat.mode)) ∧
  (∀ (s : State), s.powered = true → s.ident.certDue = false → Does .platformCertIssue s (fun u => u = s))

/-- Lifecycle and debug (R318, R326, R327, R330 to R333, R339, R340, R342, R388): each action, its checks passed, programs its
OTP words; a transition restarts the device; debug opens by its tokens alone; a halted Warden holds WD0. Where a clause rests on
a reading of the model, log entries 12 and 37 to 40 name it. -/
def Obligations.Lifecycle : Prop :=
  (∀ (s : State) (len : Nat) (t : LcToken), s.lcPasses len t .vendor → s.crypt.pkuNext < 2 → t.action = 1 → s.lifeCode = 0 →
    Does (.enterTest .tap len t none) s (fun u =>
      u.life.otp = { s.life.otp with wTest := patTest } ∧ u.lifeCode = 1 ∧ u.life.moved = true ∧ u.plat.mode = .hold ∧
      u.plat.cause = 2)) ∧
  (∀ (s : State) (len : Nat) (t : LcToken), s.lcPasses len t .vendor → 2 ≤ s.crypt.pkuNext → t.action = 1 →
    Does (.enterTest .tap len t none) s (fun u =>
      u.life = s.life ∧ u.plat = s.plat ∧ s.raises u 565 (256 * Status.deviceFault.code) ∧ s.sends u (.tap (reply .deviceFault).bytes))) ∧
  (∀ (s : State) (len : Nat) (t : LcToken), s.lcPasses len t .vendor → s.crypt.pkuNext < 2 → t.action = 2 → s.lifeCode = 1 →
    Does (.enterProduction .tap len t none) s (fun u =>
      u.life.otp = { s.life.otp with wProd := patProd } ∧ u.lifeCode = 2 ∧ u.life.moved = true ∧ u.plat.mode = .hold ∧
      u.plat.cause = 2)) ∧
  (∀ (s : State) (len : Nat) (t : LcToken), s.lcPasses len t .vendor → s.crypt.pkuNext < 2 → t.action = 2 → s.lifeCode ≠ 1 →
    Does (.enterProduction .tap len t none) s (fun u =>
      u.life.otp = s.life.otp ∧ u.ident.nonce = none ∧ u.plat = s.plat ∧ s.sends u (.tap (reply .notPermitted).bytes))) ∧
  (∀ (s : State) (len : Nat) (t : LcToken), s.lcPasses len t .owner → s.crypt.pkuNext < 2 → t.action = 3 → s.lifeCode = 2 →
    Does (.enterEol .tap len t none) s (fun u =>
      u.life.otp = { s.life.otp with wEol := patEol, fuses := 0xFF#8 } ∧ u.lifeCode = 3 ∧ u.life.moved = true ∧
      u.plat.mode = .hold ∧ u.plat.cause = 2)) ∧
  (∀ (s : State) (len : Nat) (t : LcToken) (a b : KeyEnt), s.lcPasses len t .claim → s.crypt.pkuNext < 2 → t.action = 4 → s.lifeCode = 2 →
    (List.range 8).all s.ownerBlank = true → t.keys = [a, b] → a.slot < b.slot → b.slot < 8 → claimAlgs [a, b] = true →
    Does (.ownerClaim .tap len t none) s (fun u =>
      u.life.otp.owners = orSlot (orSlot s.life.otp.owners a.slot (digBytes a.digest)) b.slot (digBytes b.digest) ∧
      s.raises u 825 0 ∧ s.sends u (.tap (reply .ok).bytes) ∧ u.plat = s.plat)) ∧
  (∀ (s : State) (len : Nat) (t : LcToken) (a : KeyEnt), s.lcPasses len t .owner → s.crypt.pkuNext < 2 → t.action = 5 → s.lifeCode = 2 →
    t.keys = [a] → s.ownerBlank a.slot = true → Does (.ownerAdd .tap len t none) s (fun u =>
      u.life.otp = { s.life.otp with owners := orSlot s.life.otp.owners a.slot (digBytes a.digest) } ∧
      s.raises u 825 0 ∧ s.sends u (.tap (reply .ok).bytes) ∧ u.plat = s.plat)) ∧
  (∀ (s : State) (len : Nat) (t : LcToken), s.lcPasses len t .owner → s.crypt.pkuNext < 2 → t.action = 6 → s.lifeCode = 2 → targetOk 8 t = true →
    Does (.ownerRevoke .tap len t none) s (fun u =>
      u.life.otp = { s.life.otp with orev := s.life.otp.orev ||| BitVec.ofNat 8 t.target } ∧
      s.sends u (.tap (reply .ok).bytes) ∧ u.plat = s.plat)) ∧
  (∀ (s : State) (len : Nat) (t : LcToken), s.lcPasses len t .owner → s.crypt.pkuNext < 2 → t.action = 7 → s.lifeCode = 2 → s.life.otp.written = 0 →
    s.life.otp.ssvid = 0 → s.life.otp.ssid = 0 → Does (.setSubsys .tap len t none) s (fun u =>
      u.life.otp = { s.life.otp with ssvid := t.ssvid % 65536, ssid := t.ssid % 65536, written := 0xA5 } ∧
      s.raises u 825 0 ∧ s.sends u (.tap (reply .ok).bytes))) ∧
  (∀ (s : State) (len : Nat) (t : LcToken), s.lcPasses len t .vendor → s.crypt.pkuNext < 2 → t.action = 8 → (s.lifeCode = 1 ∨ s.lifeCode = 2) →
    targetOk 4 t = true → Does (.vendorRevoke .tap len t none) s (fun u =>
      u.life.otp = { s.life.otp with vrev := s.life.otp.vrev ||| BitVec.ofNat 4 t.target } ∧
      s.sends u (.tap (reply .ok).bytes) ∧ u.plat = s.plat)) ∧
  (∀ (s : State) (len : Nat) (t : LcToken), s.plat.mode = .lockdown → s.plat.cause = 0x13 → 1 ≤ len → len ≤ 65536 →
    s.otpBusy = false → t.wellFormed = true → t.ctype = 7 → t.format = 1 → t.unitid = some s.unitid →
    s.ident.nonce = some t.nonce → s.vendorsRevoked t.signers = false → s.vendorSigned t.signers t.sigs = true → t.action = 9 → s.crypt.pkuNext < 2 →
    s.life.otp.completable = some (2, .vendor) → Does (.completeTransition .tap len t none) s (fun u =>
      u.life.otp = { s.life.otp with wProd := patProd } ∧ u.life.moved = true ∧ u.plat.mode = .hold ∧ u.plat.cause = 0x0D)) ∧
  (∀ (s : State) (len t1 : Nat) (a : DbgToken), s.powered = true → 1 ≤ len → s.lifeCode = 1 →
    s.debugCheck (decide (len = 4 + t1)) [a] = ((0, .ok), some (3, 2)) → s.crypt.pkuNext < 2 → Does (.debugOpen .tap len t1 a none) s (fun u =>
      u.life = { s.life with debugOpen := true, scope := 3, role := 2 } ∧ u.ident.nonce = none ∧ s.raises u 823 0 ∧
      s.sends u (.tap (reply .ok).bytes))) ∧
  (∀ (s : State) (len t1 g : Nat) (a : DbgToken), s.powered = true → 1 ≤ len → s.lifeCode = 2 →
    s.debugCheck (decide (len = 4 + t1)) [a] = ((0, .ok), some (g, 1)) → s.crypt.pkuNext < 2 → Does (.debugOpen .tap len t1 a none) s (fun u =>
      u.keeper.dbgLatch = true ∧ u.life.scope = g ∧ u.life.role = 1 ∧ u.life.debugOpen = false ∧ u.plat.mode = .hold ∧
      u.plat.cause = 2)) ∧
  (∀ (s : State) (len t1 : Nat) (a : DbgToken), s.plat.mode = .lockdown → Does (.debugOpen .tap len t1 a none) s (fun u =>
      u.life = { s.life with rejects := min 255 (s.life.rejects + 1), lastRej := 1 } ∧ s.raises u 824 0 ∧
      s.sends u (.tap (reply .notPermitted).bytes))) ∧
  (∀ (s : State), s.powered = true → s.haltScope = true → s.wd0.paused = false → Does (.debuggerHalt true) s (fun u =>
    u.life = { s.life with haltedW := true } ∧ u.wd0.paused = true ∧ u.wd0.cfg = s.wd0.cfg ∧ s.sameBut u [.wd0, .life])) ∧
  (∀ (s : State) (w : Bool), s.haltScope = false → Does (.debuggerHalt w) s (fun u => u = s)) ∧
  (∀ (s : State), s.powered = true → s.wd0.paused = true → Does (.debuggerResume true) s (fun u =>
    u.life = { s.life with haltedW := false } ∧ u.wd0.paused = false ∧ s.sameBut u [.wd0, .life]))

/-- KEY_CMD and the key journal (R301, R308, R310, R318 to R323): what the queries answer, what begins a change, what its commit
and its failure do. Where a clause rests on a reading of the model, log entries 3, 21, 36, 48 and 49 name it. -/
def Obligations.KeyCommands : Prop :=
  (∀ (s : State) (cid label len addr k : Nat) (f : Fetched), s.takes cid 0x2B f → s.caskNamed label = some k → 32 ≤ len →
    Does (.info cid label len addr) s (fun u =>
      u.answered f (okWith (keyResult k (s.cask k).gen)) ∧ s.sends u (.hostWrite addr ((s.cask k).entry k)))) ∧
  (∀ (s : State) (cid label len addr : Nat) (f : Fetched), s.takes cid 0x2B f → s.caskNamed label = none → 1 ≤ len →
    Does (.info cid label len addr) s (fun u => u.answered f (badField 12))) ∧
  (∀ (s : State) (cid len addr : Nat) (f : Fetched), s.takes cid 0x2B f → 4096 ≤ len → Does (.list cid len addr) s (fun u =>
    u.answered f (okWith (leBytes 1 s.validCasks)) ∧
    s.sends u (.hostWrite addr ((List.range 128).flatMap (fun k => (s.cask k).entry k))))) ∧
  (∀ (s : State) (cid len addr : Nat) (f : Fetched), s.takes cid 0x2B f → s.rooted = true → 5120 ≤ len →
    s.crypt.rngSt = 1 → s.crypt.pkuNext < 2 → s.pkuRun.1.crypt.pkuNext < 2 → Does (.importPub cid len addr) s (fun u =>
      u.answered f (reply .ok) ∧ ∃ ec ml, (s.signedTwice (s.keyName 3) (s.keyName 4) s.importBody).2 = some (ec, ml) ∧
        s.sends u (.hostWrite addr (s.importPub ec ml)))) ∧
  (∀ (s : State) (cid len addr : Nat) (f : Fetched), s.takes cid 0x2B f → s.rooted = true → 5120 ≤ len → s.crypt.rngSt ≠ 1 →
    Does (.importPub cid len addr) s (fun u => u.answered f (reply .deviceFault))) ∧
  (∀ (s : State) (cid len addr : Nat) (f : Fetched), s.takes cid 0x2B f → s.rooted = true → 5120 ≤ len → s.crypt.rngSt = 1 →
    2 ≤ s.crypt.pkuNext → Does (.importPub cid len addr) s (fun u =>
      u.answered f (reply .deviceFault) ∧ s.raises u 565 (256 * Status.deviceFault.code))) ∧
  (∀ (s : State) (cid len addr : Nat) (f : Fetched), s.takes cid 0x2B f → s.rooted = false → 1 ≤ len →
    Does (.importPub cid len addr) s (fun u => u.answered f (reply .notPermitted))) ∧
  (∀ (s : State) (cid label len tlen k m : Nat) (t : Token) (r : Option KeyReq) (b : ImportBlob) (f : Fetched),
    s.takes cid 0x2B f → 1 ≤ len → s.keyMode = true → s.crypt.change = none →
    (s.keyToken t r (fun x => decide (x.subop = 4 ∧ x.label = label ∧ x.digest = b.digest))).2 = .ok →
    ((s.keyToken t r (fun x => decide (x.subop = 4 ∧ x.label = label ∧ x.digest = b.digest))).1.pkuRun).2 = true →
    importField label len tlen b = none → b.material = some m → s.ownerCask label = some k → (s.cask k).type = b.type →
    Does (.importKey cid label len tlen t r b) s (fun u =>
      u.crypt.change = some ⟨1, k, label, b.type, b.rights, wrap32 ((s.cask k).gen + 1), m, { f with taken := true }, 0⟩ ∧
      ({ f with taken := true } : Fetched) ∈ u.host.fetched ∧ u.ident.nonce = none)) ∧
  (∀ (s : State) (cid label len tlen : Nat) (t : Token) (r : Option KeyReq) (b : ImportBlob) (f : Fetched),
    s.takes cid 0x2B f → 1 ≤ len → s.keyMode = false → Does (.importKey cid label len tlen t r b) s (fun u =>
      u.answered f (reply .notPermitted) ∧ u.crypt = s.crypt)) ∧
  (∀ (s : State) (cid label len tlen : Nat) (t : Token) (r : Option KeyReq) (c : KeyChange) (f : Fetched),
    s.takes cid 0x2B f → 1 ≤ len → s.keyMode = true → s.crypt.change = some c →
    Does (.destroy cid label len tlen t r) s (fun u => u.answered f (reply .busyRetry) ∧ u.crypt = s.crypt)) ∧
  (∀ (s : State) (cid label tlen k : Nat) (t : Token) (r : Option KeyReq) (f : Fetched), s.takes cid 0x2B f →
    s.keyMode = true → s.crypt.change = none →
    (s.keyToken t r (fun x => decide (x.subop = 5 ∧ x.label = label ∧ x.digest = emptyDigest))).2 = .ok →
    s.ownerCask label = some k → (s.cask k).st = .valid → Does (.destroy cid label (4 + tlen) tlen t r) s (fun u =>
      (u.cask k).st = .pending ∧ (u.cask k).key = (s.cask k).key ∧ ({ f with taken := true } : Fetched) ∈ u.host.fetched ∧
      (∃ c, u.crypt.change = some c ∧ c.kind = 2 ∧ c.cask = k ∧ c.fails = 0))) ∧
  (∀ (s : State) (cid label tlen : Nat) (t : Token) (r : Option KeyReq) (f : Fetched), s.takes cid 0x2B f →
    s.keyMode = true → s.crypt.change = none →
    (s.keyToken t r (fun x => decide (x.subop = 5 ∧ x.label = label ∧ x.digest = emptyDigest))).2 = .verifyFail →
    Does (.destroy cid label (4 + tlen) tlen t r) s (fun u =>
      u.answered f (reply .verifyFail) ∧ u.ident.nonce = none ∧ u.crypt.casks = s.crypt.casks ∧ u.crypt.change = none ∧ s.raises u 520 0)) ∧
  (∀ (s : State) (cid tlen : Nat) (t : Token) (r : Option KeyReq) (f : Fetched), s.takes cid 0x2B f →
    s.keyMode = true → s.crypt.change = none → (s.keyToken t r (fun x => decide (x.subop = 6 ∧ x.digest = emptyDigest))).2 = .ok →
    s.crypt.sealGen ≠ 0xFFFFFFFF → Does (.sealRotate cid (4 + tlen) tlen t r) s (fun u =>
      u.crypt.change = some ⟨3, 0, 0, 0, 0, s.crypt.sealGen + 1, 0, { f with taken := true }, 0⟩ ∧ u.crypt.casks = s.crypt.casks ∧
      ({ f with taken := true } : Fetched) ∈ u.host.fetched)) ∧
  (∀ (s : State) (c : KeyChange), s.vaultUp = true → s.crypt.change = some c → c.kind = 1 → Does (.keyJournalCommit true) s (fun u =>
    u.crypt.change = none ∧ u.crypt.kjSeq = wrap32 (s.crypt.kjSeq + 2) ∧ s.raises u 575 c.cask ∧
    (⟨c.cask, c.label, c.type, c.rights, c.gen, c.material⟩ : KeyRec) ∈ u.crypt.keys)) ∧
  (∀ (s : State) (c : KeyChange), s.vaultUp = true → s.crypt.change = some c → c.kind = 2 → c.cask < 128 →
    Does (.keyJournalCommit true) s (fun u =>
      u.crypt.change = none ∧ u.cask c.cask = emptyCask ∧ s.raises u 576 c.cask ∧ (∀ k ∈ u.crypt.keys, k.cask ≠ c.cask))) ∧
  (∀ (s : State) (c : KeyChange), s.vaultUp = true → s.crypt.change = some c → c.kind = 3 → c.f ∈ s.host.fetched →
    Does (.keyJournalCommit true) s (fun u =>
      u.crypt.change = none ∧ u.crypt.sealGen = c.gen ∧ s.raises u 575 0 ∧ u.answered c.f (okWith (leBytes 4 c.gen)))) ∧
  (∀ (s : State) (c : KeyChange), s.vaultUp = true → s.crypt.change = some c → c.fails < 3 → Does (.keyJournalCommit false) s (fun u =>
    u.crypt.change = some { c with fails := c.fails + 1 } ∧ u.crypt.casks = s.crypt.casks ∧ s.sameBut u [.crypt, .vault])) ∧
  (∀ (s : State) (c : KeyChange), s.vaultUp = true → s.crypt.change = some c → 3 ≤ c.fails → c.f ∈ s.host.fetched →
    Does (.keyJournalCommit false) s (fun u =>
      u.crypt.change = none ∧ u.crypt.keys = s.crypt.keys ∧ (u.cask c.cask).key = (s.cask c.cask).key ∧
      s.raises u 582 (c.cask + 256 * Status.deviceFault.code) ∧ u.answered c.f (reply .deviceFault)))

/-- The sealing engine (R10, R190, R194 to R201, R203, R204, R206, R207, R209, R215): a run starts, segments begin and complete,
epochs close, are finalised and signed, seals are journalled and leave. Where a clause rests on a reading of the model, log
entries 3, 10, 28 to 30 and 33 name it. -/
def Obligations.SealingEngine : Prop :=
  (∀ (s : State), s.sealing.running = false → s.policyApplied = true → bit (s.cfg 0x2400) 31 = true → s.sealKeyOk = true →
    s.sealMode = true → s.plat.fwRuns = true → s.vaultUp = true → s.runPending = false → s.keeper.rtcValid = true → Does .runStart s (fun u =>
      u.sealing.running = true ∧ u.sealing.run = wrap32 (s.sealing.lastRun + 1) ∧ u.sealing.lastRun = wrap32 (s.sealing.lastRun + 1) ∧
      u.sealing.streams = [] ∧ u.sealing.open_ = none ∧ u.sealing.prevSeal = Config.sha384 (s.powerGap (wrap32 (s.sealing.lastRun + 1))) ∧
      (s.sealing.jPos % 512 ≠ 0 → ∃ r, u.sealing.jLog = r :: s.sealing.jLog ∧ u.sealing.jSeq = wrap32 (s.sealing.jSeq + 1) ∧ r.kind = 2 ∧
        r.mac = true ∧ r.seq = s.sealing.jSeq ∧ r.run = wrap32 (s.sealing.lastRun + 1) ∧
        r.digest = Config.sha384 (s.powerGap (wrap32 (s.sealing.lastRun + 1)))) ∧ s.sameBut u [.sealing, .crypt])) ∧
  (∀ (s : State), s.sealing.running = true → Does .runStart s (fun u => u = s)) ∧
  (∀ (s : State) (x : Stream) (g : Seg) (rest : List Seg) (e : Nat), s.powered = true → s.sealing.running = true → s.busOk = true →
    s.listFull = false → leastVisits s.waitingStreams = some x → s.stream x.no = some x → x.queue = g :: rest →
    s.pickEngine = some e → x.enc = false →
    s.grantable { cls := if s.sealHeld < s.sealRes then 3 else 5, ch := none, tag := segTag x.no, engine := e } = true →
    Does (.segmentBegin false) s (fun u =>
      (∃ y, u.stream x.no = some y ∧ y.queue = rest ∧ y.run = some { seg := g, begin_ := s.epochNo, attempt := 0 } ∧
        y.seq = x.seq) ∧
      u.press.held = s.press.held ++
        [{ cls := if s.sealHeld < s.sealRes then 3 else 5, ch := none, tag := segTag x.no, engine := e }] ∧
      s.sameBut u [.press, .sealing])) ∧
  (∀ (s : State) (x : Stream) (g : Seg) (rest : List Seg) (e : Nat), s.powered = true → s.sealing.running = true → s.busOk = true →
    s.listFull = false → leastVisits s.waitingStreams = some x → s.stream x.no = some x → x.queue = g :: rest →
    s.pickEngine = some e → x.enc = false → g.f ∈ s.host.fetched →
    s.grantable { cls := if s.sealHeld < s.sealRes then 3 else 5, ch := none, tag := segTag x.no, engine := e } = true →
    Does (.segmentBegin true) s (fun u =>
      u.answered g.f (reply .busyRetry) ∧ (∃ y, u.stream x.no = some y ∧ y.queue = rest ∧ y.run = x.run) ∧
      (s.pairRuns false = true → s.sends u (.exception false 738)))) ∧
  (∀ (s : State) (a : Bool), s.powered = true → s.sealing.running = true → s.busOk = true → s.listFull = true → s.sealing.stalled = false →
    Does (.segmentBegin a) s (fun u =>
      u.sealing = { s.sealing with stalled := true } ∧ s.raises u 743 (sealArg 0 s.epochNo) ∧ s.sameBut u [.evt, .sealing])) ∧
  (∀ (s : State) (no : Nat) (data : List Byte) (x : Stream) (r : SegRun), s.powered = true → s.busOk = true →
    s.host.retained.length < 256 → s.stream no = some x → x.run = some r → x.enc = false → x.closing = none →
    (s.segRun x).2 = true → Does (.segmentComplete no data) s (fun u =>
      u.answered r.seg.f (okWith (leBytes 8 x.seq ++ leBytes 8 s.epochNo)) ∧
      (∃ y rcpt, u.stream no = some y ∧ y.seq = x.seq + 1 ∧ y.run = none ∧ y.gen = x.gen ∧ y.queue = x.queue ∧
        y.prevRcpt = Config.sha384 rcpt ∧ s.sends u (.hostWrite r.seg.rcpt rcpt)) ∧
      (∀ j ∈ u.press.held ++ u.press.waiting, j.sealing = true → j.tag ≠ segTag no ∧ j.tag ≠ tailTag no))) ∧
  (∀ (s : State) (no : Nat) (data : List Byte) (x : Stream) (r : SegRun), s.powered = true → s.busOk = true →
    s.host.retained.length < 256 → s.stream no = some x → x.run = some r → (s.segRun x).2 = false →
    Does (.segmentComplete no data) s (fun u => u.press = (s.segRun x).1.press ∧ s.sameBut u [.press])) ∧
  (∀ (s : State) (e : Epoch), s.powered = true → s.sealing.running = true → s.sealing.open_ = some e → s.sealing.signed.length < 16 →
    s.sealing.log.isSome = true → s.busOk = true → Does .epochClose s (fun u =>
      (∃ x : Epoch, u.sealing.closed = s.sealing.closed ++ [x] ∧ x.no = e.no ∧ x.entries = e.entries ∧ x.tend = s.rtc ∧ x.unc = s.unc) ∧
      (∃ y, u.sealing.open_ = some y ∧ y.no = e.no + 1 ∧ y.entries = [] ∧ y.run = s.sealing.run))) ∧
  (∀ (s : State) (e : Epoch), s.powered = true → s.sealing.running = true → s.sealing.open_ = some e → 16 ≤ s.sealing.signed.length →
    e.extended = false → Does .epochClose s (fun u =>
      u.sealing = { s.sealing with open_ := some { e with extended := true } } ∧ s.raises u 742 (sealArg 0 e.no) ∧
      s.sameBut u [.evt, .cntr, .sealing])) ∧
  (∀ (s : State) (e : Epoch) (rest : List Epoch), s.powered = true → s.sealing.closed = e :: rest → s.mayFinalise e = true → Does .epochFinalise s (fun u =>
    u.sealing = { s.sealing with
      closed := rest, unsigned := s.sealing.unsigned ++ [{ e with listStart := s.sealing.listNext }]
      listNext := s.sealing.listNext + (e.entries.length + e.straddlers.length) } ∧ s.sameBut u [.sealing])) ∧
  (∀ (s : State) (e : Epoch) (rest : List Epoch), s.powered = true → s.sealing.closed = e :: rest → s.mayFinalise e = false →
    Does .epochFinalise s (fun u => u = s)) ∧
  (∀ (s : State) (e : Epoch) (rest : List Epoch), s.powered = true → s.sealing.unsigned = e :: rest → s.sealKeyOk = true →
    s.sealing.signed.length < 16 → s.crypt.rngSt = 1 → 2 ≤ s.crypt.pkuNext → Does .sealSign s (fun u =>
      u.sealing = s.sealing ∧ s.raises u 565 (256 * Status.deviceFault.code) ∧ s.sameBut u [.evt, .crypt])) ∧
  (∀ (s : State) (e : Epoch) (rest : List Epoch), s.powered = true → s.sealing.unsigned = e :: rest → s.sealKeyOk = true →
    s.sealing.signed.length < 16 → s.crypt.rngSt = 1 → s.crypt.pkuNext < 2 → s.pkuRun.1.crypt.pkuNext < 2 → Does .sealSign s (fun u =>
      u.sealing.unsigned = rest ∧ u.sealing.gap = none ∧ u.sealing.signGen = (s.cask 15).gen ∧ u.sealing.signKeys = some s.sealKeys ∧
      (∃ o : SealOut, u.sealing.signed = s.sealing.signed ++ [o] ∧ o.epoch = e.no ∧ o.entries = e.entries ++ e.straddlers ∧
        o.covered = false ∧ u.sealing.prevSeal = o.digest) ∧
      ((s.sealing.signGen ≠ (s.cask 15).gen ∨ s.sealing.signKeys ≠ some s.sealKeys) → s.raises u 745 (sealArg 0 e.no)) ∧
      s.sameBut u [.evt, .sealing, .crypt])) ∧
  (∀ (s : State) (e : Epoch) (rest : List Epoch), s.powered = true → s.sealing.unsigned = e :: rest → s.sealKeyOk = false →
    s.sealing.keyWait = false → Does .sealSign s (fun u =>
      u.sealing = { s.sealing with keyWait := true } ∧ s.raises u 744 (sealArg 0 e.no) ∧ s.sameBut u [.evt, .sealing])) ∧
  (∀ (s : State) (o : SealOut), s.vaultUp = true → s.sealing.signed.getLast? = some o → o.covered = false → s.recordDue = true →
    Does (.sealJournalWrite true) s (fun u =>
      (∀ x ∈ u.sealing.signed, x.covered = true) ∧ u.sealing.signed.length = s.sealing.signed.length ∧
      (∃ r, u.sealing.jEpoch = some r ∧ r.seq = s.sealing.jSeq ∧ r.run = o.run ∧ r.epoch = o.epoch ∧ r.digest = o.digest) ∧
      (s.sealing.jPos % 512 ≠ 0 → u.sealing.jSeq = wrap32 (s.sealing.jSeq + 1)) ∧ u.sealing.jAt = some s.time ∧
      s.sameBut u [.sealing, .vault])) ∧
  (∀ (s : State) (o : SealOut), s.vaultUp = true → s.sealing.signed.getLast? = some o → o.covered = false → s.recordDue = true →
    Does (.sealJournalWrite false) s (fun u => s.raises u 752 (sealArg 0 o.epoch) ∧ u.sealing.signed = s.sealing.signed ∧
      (s.sealing.jPos % 512 ≠ 0 → u.sealing.jEpoch = s.sealing.jEpoch) ∧ s.sameBut u [.evt, .sealing, .vault])) ∧
  (∀ (s : State) (b : Bool), s.recordDue = false → Does (.sealJournalWrite b) s (fun u => u = s)) ∧
  (∀ (s : State) (l : SealLog) (o : SealOut), s.powered = true → s.sealGoes = some (l, o) → Does .sealOutput s (fun u =>
      u.sealing.signed = s.sealing.signed.tail ∧ u.sealing.released = some o.digest ∧
      u.sealing.recProd = s.sealing.recProd + o.before.length + 1 ∧ u.sealing.listProd = s.sealing.listProd + o.entries.length ∧
      s.sends u (.hostWrite l.ctl (leBytes 8 (s.sealing.recProd + o.before.length + 1) ++
        leBytes 8 (s.sealing.listProd + o.entries.length))) ∧ s.raises u 740 (sealArg 0 o.epoch))) ∧
  (∀ (s : State) (r l : Nat), s.powered = true → s.busOk = true → s.sealing.log.isSome = true →
    Does (.sealLogPoll (some (r, l))) s (fun u =>
      u.sealing = { s.sealing with recCons := r, listCons := l } ∧ s.sameBut u [.cntr, .tlm, .sealing])) ∧
  (∀ (s : State), s.powered = true → s.keeper.rtcValid = true → fld (s.cfg 0x2404) 15 0 ≠ 0 → s.sealing.uncWarned = false →
    s.sealing.base.isSome = true → fld (s.cfg 0x2404) 15 0 * 1000000 < s.unc → Does .uncWarn s (fun u =>
      u.sealing = { s.sealing with uncWarned := true } ∧ s.raises u 751 (sealArg 0 s.epochNo) ∧ s.sameBut u [.evt, .sealing]))

/-- The commands of sealing (R191 to R193, R205, R210 to R212, R214, R215, R226, R318): streams open and close, segments are
queued or refused, a segment is verified, a seal log is set, anchors are requested and submitted. Where a clause rests on a
reading of the model, log entries 31, 32 and 34 name it. -/
def Obligations.SealingCommands : Prop :=
  (∀ (s : State) (cid no qpair enc overlap label weight k : Nat) (f : Fetched), s.takes cid 0x30 f → s.stream no = none →
    s.streamOpenCheck no qpair enc overlap label weight = (reply .ok, k) →
    Does (.streamOpen cid no qpair enc overlap label weight) s (fun u =>
      u.answered f (okWith (leBytes 2 0)) ∧ s.raises u 736 (sealArg no s.epochNo) ∧
      (∃ x, u.stream no = some x ∧ x.st = .open_ ∧ x.seq = 0 ∧ x.qpair = qpair ∧ x.weight = weight ∧ x.cask = k ∧ x.queue = []))) ∧
  (∀ (s : State) (cid no qpair enc overlap label weight : Nat) (f : Fetched), s.takes cid 0x30 f →
    (s.streamOpenCheck no qpair enc overlap label weight).1.st ≠ .ok →
    Does (.streamOpen cid no qpair enc overlap label weight) s (fun u =>
      u.answered f (s.streamOpenCheck no qpair enc overlap label weight).1 ∧ u.sealing = s.sealing)) ∧
  (∀ (s : State) (cid no : Nat) (x : Stream) (f : Fetched), s.takes cid 0x31 f → s.sealMode = true → s.stream no = some x →
    x.st ≠ .closed → x.run = none → x.queue = [] → Does (.streamClose cid no) s (fun u =>
      u.answered f (okWith x.closeResult) ∧ (∃ y, u.stream no = some y ∧ y.st = .closed ∧ y.gen = x.gen) ∧
      s.raises u 737 (sealArg no s.epochNo))) ∧
  (∀ (s : State) (cid no : Nat) (x : Stream) (r : SegRun) (f : Fetched), s.takes cid 0x31 f → s.sealMode = true →
    s.stream no = some x → x.st ≠ .closed → x.run = some r → x.queue = [] → Does (.streamClose cid no) s (fun u =>
      u.stream no = some { x with closing := some { f with taken := true } } ∧
      ({ f with taken := true } : Fetched) ∈ u.host.fetched)) ∧
  (∀ (s : State) (cid no : Nat) (f : Fetched), s.takes cid 0x31 f → s.sealMode = true → s.stream no = none →
    Does (.streamClose cid no) s (fun u => u.answered f (badField 8))) ∧
  (∀ (s : State) (q cid no len src dst rcpt d : Nat) (x : Stream) (f : Fetched), s.powered = true → s.sealHead q cid 0x80 = some f →
    s.segCheck q no len dst rcpt = (.ok, d) → s.stream no = some x → x.closing = none →
    Does (.sealSegment q cid no len src dst rcpt) s (fun u =>
      u.stream no = some { x with queue := x.queue ++
        [{ f := { f with taken := true }, len := len, src := src, dst := dst, rcpt := rcpt }] } ∧
      ({ f with taken := true } : Fetched) ∈ u.host.fetched ∧ s.sameBut u [.host, .sealing])) ∧
  (∀ (s : State) (q cid no len src dst rcpt d : Nat) (st : Status) (f : Fetched), s.powered = true →
    s.sealHead q cid 0x80 = some f → s.segCheck q no len dst rcpt = (st, d) → st ≠ .ok →
    Does (.sealSegment q cid no len src dst rcpt) s (fun u =>
      u.answered f { st := st, detail := d, result := [] } ∧ u.sealing = s.sealing)) ∧
  (∀ (s : State) (q cid form len : Nat) (data rcpt : List Byte) (prev : Option (List Byte)) (f : Fetched), s.powered = true →
    s.sealHead q cid 0x81 = some f → s.busOk = true → (s.plat.mode = .verify ∨ s.plat.mode = .guard) → 1 ≤ len → form ≤ 1 →
    len = leNat (bytesAt rcpt 24 8) → s.tagCap q ≠ 0 → (s.sealRun (1048576 + 65536 * q + cid)).2 = true →
    Does (.verifySegment q cid form len data rcpt prev) s (fun u =>
      u.answered f { st := (s.verifyCheck form (padTo len data) rcpt prev).1
                     detail := (s.verifyCheck form (padTo len data) rcpt prev).2, result := [] } ∧
      ((s.verifyCheck form (padTo len data) rcpt prev).1 ≠ .ok → s.raises u 754 (sealArg 0 s.epochNo)) ∧
      u.sealing = s.sealing)) ∧
  (∀ (s : State) (q cid form len : Nat) (data rcpt : List Byte) (prev : Option (List Byte)) (f : Fetched), s.powered = true →
    s.sealHead q cid 0x81 = some f → s.busOk = true → (s.plat.mode = .verify ∨ s.plat.mode = .guard) → 1 ≤ len → form ≤ 1 →
    len = leNat (bytesAt rcpt 24 8) → s.tagCap q ≠ 0 → (s.sealRun (1048576 + 65536 * q + cid)).2 = false →
    Does (.verifySegment q cid form len data rcpt prev) s (fun u =>
      u.press = (s.sealRun (1048576 + 65536 * q + cid)).1.press ∧ s.sameBut u [.press])) ∧
  (∀ (s : State) (q cid form len : Nat) (data rcpt : List Byte) (prev : Option (List Byte)) (f : Fetched), s.powered = true →
    s.sealHead q cid 0x81 = some f → s.busOk = true → (s.plat.mode = .verify ∨ s.plat.mode = .guard) → 1 ≤ len → form ≤ 1 →
    len = leNat (bytesAt rcpt 24 8) → leNat (bytesAt rcpt 0 2) ≠ 1 → s.tagCap q ≠ 0 → (s.sealRun (1048576 + 65536 * q + cid)).2 = true →
    Does (.verifySegment q cid form len data rcpt prev) s (fun u =>
      u.answered f { st := .verifyFail, detail := 0x11, result := [] })) ∧
  (∀ (s : State) (cid recBase listBase ctl recSlots listEnt : Nat) (f : Fetched), s.takes cid 0x32 f → s.sealMode = true →
    logBad { recBase := recBase, recSlots := recSlots, listBase := listBase, listEnt := listEnt, ctl := ctl } = none →
    s.sealing.running = true → s.sealing.log = none → s.sealing.open_ = none →
    Does (.sealLog cid recBase listBase ctl recSlots listEnt) s (fun u =>
      u.answered f (okWith (leBytes 8 s.nextEpoch)) ∧
      u.sealing.log = some { recBase := recBase, recSlots := recSlots, listBase := listBase, listEnt := listEnt, ctl := ctl } ∧
      (∃ e, u.sealing.open_ = some e ∧ e.no = s.nextEpoch ∧ e.run = s.sealing.run ∧ e.entries = []))) ∧
  (∀ (s : State) (cid recBase listBase ctl recSlots listEnt : Nat) (f : Fetched), s.takes cid 0x32 f → s.sealMode = true →
    logBad { recBase := recBase, recSlots := recSlots, listBase := listBase, listEnt := listEnt, ctl := ctl } = none →
    s.sealing.running = true → s.sealing.log.isSome = true →
    Does (.sealLog cid recBase listBase ctl recSlots listEnt) s (fun u =>
      u.answered f (okWith (leBytes 8 s.nextEpoch)) ∧ u.sealing.log = s.sealing.log ∧
      u.sealing.nextLog = some { recBase := recBase, recSlots := recSlots, listBase := listBase, listEnt := listEnt, ctl := ctl })) ∧
  (∀ (s : State) (cid len addr : Nat) (f : Fetched), s.takes cid 0x33 f → s.sealMode = true → 64 ≤ len → s.crypt.rngSt = 1 →
    Does (.anchorRequest cid len addr) s (fun u =>
      u.answered f (okWith (padTo 8 (s.rand 8))) ∧ s.raises u 746 (sealArg 0 s.epochNo) ∧
      (∃ r, u.sealing.request = some r ∧ r.nonce = padTo 8 (s.rand 8) ∧ r.q = s.rtcTicks ∧
        r.imprint = padTo 48 (Config.sha384 (padTo 48 (s.sealing.released.getD []) ++ padTo 8 (s.rand 8) ++ s.unitidBytes)) ∧
        s.sends u (.hostWrite addr (r.nonce ++ r.imprint ++ leBytes 8 s.rtc.toNat))))) ∧
  (∀ (s : State) (cid d : Nat) (t : AnchorTok) (q : AnchorReq) (f : Fetched), s.takes cid 0x34 f → s.sealMode = true → 1 ≤ t.len →
    s.sealing.request = some q → s.anchorCheck t = (.ok, d) → 2 ≤ s.crypt.pkuNext → Does (.anchorSubmit cid t) s (fun u =>
      u.answered f (reply .deviceFault) ∧ u.sealing = { s.sealing with request := none } ∧ s.raises u 748 (sealArg 0 s.epochNo) ∧
      s.raises u 565 (256 * Status.deviceFault.code))) ∧
  (∀ (s : State) (cid d : Nat) (t : AnchorTok) (q : AnchorReq) (f : Fetched), s.takes cid 0x34 f → s.sealMode = true → 1 ≤ t.len →
    s.sealing.request = some q → s.anchorCheck t = (.ok, d) → s.crypt.pkuNext < 2 → Does (.anchorSubmit cid t) s (fun u =>
      u.answered f (okWith (leBytes 8 s.nextEpoch)) ∧ u.sealing.request = none ∧
      (∃ a, u.sealing.accepted = some a ∧ a.req = q ∧ a.gen = t.genTime ∧ a.s = s.rtcTicks ∧ a.acc = t.accuracy.getD 1000000))) ∧
  (∀ (s : State) (cid d : Nat) (t : AnchorTok) (st : Status) (f : Fetched), s.takes cid 0x34 f → s.sealMode = true → 1 ≤ t.len →
    s.anchorCheck t = (st, d) → st ≠ .ok → s.crypt.pkuNext < 2 → Does (.anchorSubmit cid t) s (fun u =>
      u.answered f { st := st, detail := d, result := [] } ∧ u.sealing = { s.sealing with request := none } ∧
      s.raises u 748 (sealArg 0 s.epochNo)))

/-- SPDM (R259, R262, R265 to R269, R318): the responder's answers by connection and stage, sessions and their ends, the
requests to agents. Where a clause rests on a reading of the model, log entries 3, 51 and 59 name it. -/
def Obligations.Spdm : Prop :=
  (∀ (s : State) (eid tr : Nat), s.spdmOn = true → s.conn eid tr = none → s.ident.conns.length < 4 → Does (.getVersion eid tr) s (fun u =>
    s.sends u (.spdm eid tr 0x04 [0x12#8, 0x13#8]) ∧ (∃ c, u.conn eid tr = some c ∧ c.stage = 1 ∧ c.session = false))) ∧
  (∀ (s : State) (eid tr : Nat), s.spdmOn = true → s.conn eid tr = none → 4 ≤ s.ident.conns.length → Does (.getVersion eid tr) s (fun u =>
    s.sends u (.spdm eid tr 0x7F [3#8]) ∧ u.ident = s.ident)) ∧
  (∀ (s : State) (eid tr : Nat) (c : Conn), s.spdmOn = true → s.conn eid tr = some c → 1 ≤ c.stage →
    Does (.getCapabilities eid tr) s (fun u =>
      s.sends u (.spdm eid tr 0x61 (leBytes 1 17 ++ leBytes 4 spdmCaps ++ leBytes 4 4096 ++ leBytes 4 4096)) ∧
      u.conn eid tr = some { c with stage := 2, ended := false })) ∧
  (∀ (s : State) (eid tr : Nat) (c : Conn), s.spdmOn = true → s.conn eid tr = some c → 2 ≤ c.stage →
    Does (.negotiateAlgorithms eid tr true) s (fun u =>
      s.sends u (.spdm eid tr 0x63 spdmAlgs) ∧ u.conn eid tr = some { c with stage := 3, ended := false })) ∧
  (∀ (s : State) (eid tr : Nat) (c : Conn), s.spdmOn = true → s.conn eid tr = some c → 2 ≤ c.stage →
    Does (.negotiateAlgorithms eid tr false) s (fun u =>
      s.sends u (.spdm eid tr 0x7F [1#8]) ∧ u.conn eid tr = some { c with ended := false })) ∧
  (∀ (s : State) (eid tr : Nat) (c : Conn), s.spdmOn = true → s.conn eid tr = some c → c.stage < 3 → Does (.getDigests eid tr) s (fun u =>
    s.sends u (.spdm eid tr 0x7F [4#8]) ∧ u.ident = s.ident)) ∧
  (∀ (s : State) (eid tr : Nat) (c : Conn), s.spdmOn = true → s.conn eid tr = some c → 3 ≤ c.stage → Does (.getDigests eid tr) s (fun u =>
    s.sends u (.spdm eid tr 0x01 (leBytes 1 1 ++ Config.sha384 (s.attChain false))))) ∧
  (∀ (s : State) (eid tr off len : Nat) (c : Conn), s.spdmOn = true → s.conn eid tr = some c → 3 ≤ c.stage →
    Does (.getCertificate eid tr 0 off len) s (fun u =>
      s.sends u (.spdm eid tr 0x02 (((s.attChain false).drop off).take len)))) ∧
  (∀ (s : State) (eid tr : Nat) (nonce : List Byte) (c : Conn), s.spdmOn = true → s.conn eid tr = some c → 3 ≤ c.stage →
    s.spdmRestricted = false → s.crypt.rngSt = 1 → s.crypt.pkuNext < 2 → Does (.challenge eid tr 0 0 nonce) s (fun u =>
      s.sends u (.spdm eid tr 0x03 (Config.sha384 (s.attChain false) ++ Config.sign s.spdmKey (s.rand 32) nonce)))) ∧
  (∀ (s : State) (eid tr : Nat) (nonce : List Byte) (c : Conn), s.spdmOn = true → s.conn eid tr = some c → 3 ≤ c.stage →
    s.spdmRestricted = false → s.crypt.rngSt = 1 → 2 ≤ s.crypt.pkuNext → Does (.challenge eid tr 0 0 nonce) s (fun u =>
      s.sends u (.spdm eid tr 0x7F [5#8]) ∧ s.raises u 565 (256 * Status.deviceFault.code))) ∧
  (∀ (s : State) (eid tr slot hash : Nat) (nonce : List Byte) (c : Conn), s.spdmOn = true → s.conn eid tr = some c → 3 ≤ c.stage →
    s.spdmRestricted = true → Does (.challenge eid tr slot hash nonce) s (fun u => s.sends u (.spdm eid tr 0x7F [5#8]))) ∧
  (∀ (s : State) (eid tr : Nat) (nonce : List Byte) (c : Conn), s.spdmOn = true → s.conn eid tr = some c → 3 ≤ c.stage →
    Does (.getMeasurements eid tr 0 false nonce) s (fun u =>
      s.sends u (.spdm eid tr 0x60 (leBytes 1 s.measurements.length)))) ∧
  (∀ (s : State) (eid tr op : Nat) (nonce : List Byte) (c : Conn), s.spdmOn = true → s.conn eid tr = some c → 3 ≤ c.stage →
    s.spdmRestricted = true → Does (.getMeasurements eid tr op true nonce) s (fun u => s.sends u (.spdm eid tr 0x7F [5#8]))) ∧
  (∀ (s : State) (eid tr : Nat) (c : Conn) (b : Bundle), s.spdmOn = true → s.conn eid tr = some c → 3 ≤ c.stage →
    s.spdmRestricted = false → c.session = false → s.sessions < 4 → s.bundle = some b → s.crypt.rngSt = 1 → s.crypt.pkuNext < 2 →
    s.pkuRun.1.crypt.pkuNext < 2 → Does (.keyExchange eid tr 0) s (fun u =>
      s.sends u (.spdm eid tr 0x64 (leBytes 1 b.hbPeriod ++ Config.sign s.spdmKey (s.rand 32) [])) ∧
      u.conn eid tr = some { c with session := true, sess := s.freeSession, finished := false, ended := false } ∧
      (u.cask s.freeSession).st = .valid)) ∧
  (∀ (s : State) (eid tr : Nat) (c : Conn), s.spdmOn = true → s.conn eid tr = some c → 3 ≤ c.stage → c.session = true →
    c.finished = false → Does (.finish eid tr true) s (fun u =>
      s.sends u (.spdm eid tr 0x65 []) ∧ u.conn eid tr = some { c with finished := true, ended := false })) ∧
  (∀ (s : State) (eid tr : Nat) (c : Conn), s.spdmOn = true → s.conn eid tr = some c → 3 ≤ c.stage → c.session = true →
    c.finished = false → Does (.finish eid tr false) s (fun u =>
      s.sends u (.spdm eid tr 0x7F [1#8]) ∧ u.conn eid tr = some { c with session := false, ended := false } ∧ s.raises u 535 0)) ∧
  (∀ (s : State) (eid tr : Nat) (c : Conn), s.spdmOn = true → s.conn eid tr = some c → 3 ≤ c.stage → c.session = true →
    c.finished = true → Does (.heartbeat eid tr) s (fun u => s.sends u (.spdm eid tr 0x68 []))) ∧
  (∀ (s : State) (eid tr : Nat) (c : Conn), s.spdmOn = true → s.conn eid tr = some c → 3 ≤ c.stage → c.session = false →
    Does (.heartbeat eid tr) s (fun u => s.sends u (.spdm eid tr 0x7F [4#8]))) ∧
  (∀ (s : State) (eid tr : Nat) (c : Conn), s.spdmOn = true → s.conn eid tr = some c → 3 ≤ c.stage → c.session = true →
    c.finished = true → Does (.endSession eid tr) s (fun u =>
      s.sends u (.spdm eid tr 0x6C []) ∧ u.conn eid tr = some { c with session := false, finished := false, ended := true })) ∧
  (∀ (s : State) (eid tr : Nat) (c : Conn), s.spdmOn = true → s.conn eid tr = some c → Does (.spdmUnsupportedRequest eid tr) s (fun u =>
    s.sends u (.spdm eid tr 0x7F [7#8]) ∧ u.ident = s.ident)) ∧
  (∀ (s : State) (eid tr : Nat) (c : Conn), s.powered = true → s.conn eid tr = some c → c.session = true →
    Does (.spdmSessionTimeout eid tr) s (fun u =>
      u.conn eid tr = some { c with session := false, finished := false } ∧ s.raises u 535 0)) ∧
  (∀ (s : State) (eid tr : Nat) (c : Conn), s.powered = true → s.conn eid tr = some c → c.ended = true →
    Does (.spdmConnectionIdle eid tr) s (fun u => u.conn eid tr = none ∧ s.sameBut u [.crypt, .ident])) ∧
  (∀ (s : State) (n : Ch) (r : SpdmReq), s.spdmOn = true → s.spdmEntry n = some r → (s.chan n).st = .released →
    Does (.spdmAgentRequest n) s (fun u =>
      s.sends u (.spdm r.eid 0 0x84 []) ∧ u.ident.spdm[n.val].open_ = true ∧ u.ident.spdm[n.val].tries = 1 ∧
        u.ident.spdm[n.val].step = 0)) ∧
  (∀ (s : State) (n : Ch) (ok : Bool) (d : Nat) (r : SpdmReq), s.spdmOn = true → s.spdmEntry n = some r → s.ident.spdm[n.val].open_ = true →
    s.ident.spdm[n.val].step < 5 → Does (.spdmAgentResponse n ok d) s (fun u =>
      u.ident.spdm[n.val].open_ = true ∧ u.ident.spdm[n.val].tries = 1 ∧ u.ident.spdm[n.val].step = s.ident.spdm[n.val].step + 1 ∧
      (∃ b, s.sends u (.spdm r.eid 0 (spdmSteps.getD (s.ident.spdm[n.val].step + 1) 0) b)))) ∧
  (∀ (s : State) (n : Ch) (d : Nat) (r : SpdmReq), s.spdmOn = true → s.spdmEntry n = some r → s.ident.spdm[n.val].open_ = true →
    s.ident.spdm[n.val].step = 5 → Does (.spdmAgentResponse n false d) s (fun u =>
      u.ident.spdm[n.val].open_ = false ∧ u.ident.spdm[n.val].res = 2 ∧ s.raises u 536 0 ∧ s.sameBut u [.evt, .ident])) ∧
  (∀ (s : State) (n : Ch) (r : SpdmReq), s.spdmOn = true → s.spdmEntry n = some r → s.ident.spdm[n.val].open_ = true →
    s.ident.spdm[n.val].step = 5 → Does (.spdmAgentResponse n true r.refdig) s (fun u =>
      u.ident.spdm[n.val].open_ = false ∧ u.ident.spdm[n.val].res = 1 ∧ s.sameBut u [.ident])) ∧
  (∀ (s : State) (n : Ch) (d : Nat) (r : SpdmReq), s.spdmOn = true → s.spdmEntry n = some r → s.ident.spdm[n.val].open_ = true →
    s.ident.spdm[n.val].step = 5 → d ≠ r.refdig → Does (.spdmAgentResponse n true d) s (fun u =>
      u.ident.spdm[n.val].open_ = false ∧ u.ident.spdm[n.val].res = 2 ∧ s.raises u 536 0 ∧ s.sameBut u [.evt, .ident])) ∧
  (∀ (s : State) (n : Ch) (r : SpdmReq), s.spdmOn = true → s.spdmEntry n = some r → s.ident.spdm[n.val].open_ = true →
    s.ident.spdm[n.val].tries < 3 → Does (.spdmAgentRetry n) s (fun u =>
      (∃ b, s.sends u (.spdm r.eid 0 (spdmSteps.getD s.ident.spdm[n.val].step 0) b)) ∧
      u.ident.spdm[n.val].tries = s.ident.spdm[n.val].tries + 1)) ∧
  (∀ (s : State) (n : Ch) (r : SpdmReq), s.spdmOn = true → s.spdmEntry n = some r → s.ident.spdm[n.val].open_ = true →
    3 ≤ s.ident.spdm[n.val].tries → Does (.spdmAgentRetry n) s (fun u =>
      u.ident.spdm[n.val].open_ = false ∧ u.ident.spdm[n.val].res = 3 ∧ s.raises u 536 0))

/-- The sideband ports (R224, R404 to R411): the register window, MCTP packets and responses, I3C common command codes. Where a
clause rests on a reading of the model, log entries 22 and 42 name it. -/
def Obligations.SidebandPorts : Prop :=
  (∀ (s : State) (p : Fin 2) (bank off : Nat), s.portOn p.val = true → s.sbCfg p.val 3 = true → s.sbCfg p.val 2 = false →
    bank < 0x30 → off < 256 → off % 4 = 0 → Does (.windowRead p bank off 4) s (fun u =>
      s.sends u (.side p.val (wordBytes ((s.sampleFor .side (256 * bank + off)).readWord .side (256 * bank + off)))))) ∧
  (∀ (s : State) (p : Fin 2) (bank : Nat), s.portOn p.val = true → s.sbCfg p.val 3 = true → s.sbCfg p.val 2 = false →
    0x30 ≤ bank → Does (.windowRead p bank 252 8) s (fun u =>
      s.sends u (.side p.val [0#8, 0#8, 0#8, 0#8, 0xFF#8, 0xFF#8, 0xFF#8, 0xFF#8]) ∧ s.raises u (994 + p.val) 0 ∧
      bit (u.sticky (0x2A04 + 4 * p.val)) 31 = true)) ∧
  (∀ (s : State) (p : Fin 2) (bank off n : Nat), s.portOn p.val = true → s.sbCfg p.val 3 = false → s.sbMode p.val = 1 →
    Does (.windowRead p bank off n) s (fun u =>
      u.outbox = s.outbox ++ [Out.sideNack p.val] ∧ s.raises u (994 + p.val) 0 ∧ bit (u.sticky (0x2A04 + 4 * p.val)) 26 = true)) ∧
  (∀ (s : State) (p : Fin 2) (bank off : Nat) (data : List Byte) (ok : Bool), s.portOn p.val = true → s.sbCfg p.val 3 = true →
    s.sbCfg p.val 2 = false → s.windowRo p.val = false → bank < 0x30 → off < 256 → off % 4 = 0 → 4 ≤ data.length →
    Does (.windowWrite p bank off 4 data ok) s (fun u => u = s.busWrite .side (256 * bank + off) (wordAt data 0))) ∧
  (∀ (s : State) (p : Fin 2) (bank off : Nat) (data : List Byte) (ok : Bool), s.portOn p.val = true → s.sbCfg p.val 3 = true →
    s.sbCfg p.val 2 = false → s.windowRo p.val = true → windowFree (256 * bank + off) = false → off < 256 → off % 4 = 0 →
    4 ≤ data.length → Does (.windowWrite p bank off 4 data ok) s (fun u =>
      s.raises u (994 + p.val) 0 ∧ u.regs.side = s.regs.side ∧ u.regs.active = s.regs.active ∧ s.sameBut u [.regs, .evt])) ∧
  (∀ (s : State) (p : Fin 2) (bank off n : Nat) (data : List Byte), s.portOn p.val = true → s.sbCfg p.val 3 = true →
    s.sbCfg p.val 2 = true → s.sbMode p.val = 2 → 1 ≤ n → n ≤ 32 → n ≤ data.length →
    Does (.windowWrite p bank off n data false) s (fun u =>
      s.raises u (992 + p.val) 0 ∧ s.raises u (994 + p.val) 0 ∧ u.regs.side = s.regs.side ∧ s.sameBut u [.regs, .evt])) ∧
  (∀ (s : State) (p : Fin 2), s.portOn p.val = true → s.sbMode p.val = 1 → Does (.smbusTimeout p) s (fun u =>
    s.raises u (996 + p.val) 0 ∧ bit (u.sticky (0x2A04 + 4 * p.val)) 25 = true ∧ s.sameBut u [.regs, .evt])) ∧
  (∀ (s : State) (p : Fin 2) (eid type len : Nat), s.portOn p.val = true → s.sbCfg p.val 5 = true → (s.sb p.val).msgs.length < 8 →
    len ≤ 64 → Does (.mctpPacket p eid type len true true) s (fun u =>
      (u.sb p.val).msgs = (s.sb p.val).msgs ++ [(eid, type)] ∧ (u.sb p.val).part = none ∧ s.sameBut u [.side])) ∧
  (∀ (s : State) (p : Fin 2) (eid type len : Nat), s.portOn p.val = true → s.sbCfg p.val 5 = true → (s.sb p.val).msgs.length < 8 →
    len ≤ 64 → Does (.mctpPacket p eid type len true false) s (fun u =>
      (u.sb p.val).msgs = (s.sb p.val).msgs ∧ (u.sb p.val).part = some (eid, type, len) ∧ s.sameBut u [.side])) ∧
  (∀ (s : State) (p : Fin 2) (eid type len : Nat) (a b : Bool), s.portOn p.val = true → 8 ≤ (s.sb p.val).msgs.length →
    Does (.mctpPacket p eid type len a b) s (fun u => s.raises u (998 + p.val) 0 ∧ u.side = s.side)) ∧
  (∀ (s : State) (tr type : Nat) (lens : List Nat) (e t : Nat) (rest : List (Nat × Nat)), s.serving = true → 1 ≤ tr → tr ≤ 2 →
    (s.sb (tr - 1)).msgs = (e, t) :: rest → typeAccepted tr t = true → Does (.mctpMessage tr type lens) s (fun u =>
      (u.sb (tr - 1)).msgs = rest ∧ u.side.now = some (tr - 1, e) ∧ u.outbox = s.outbox ++ [Out.dispatch t] ∧
      s.sameBut u [.outbox, .side])) ∧
  (∀ (s : State) (type : Nat) (lens : List Nat), s.serving = true → s.host.linkUp = true → vdmWhole lens = true →
    typeAccepted 0 type = true → Does (.mctpMessage 0 type lens) s (fun u =>
      u.outbox = s.outbox ++ [Out.dispatch type] ∧ s.sameBut u [.outbox])) ∧
  (∀ (s : State) (type : Nat) (lens : List Nat), s.serving = true → vdmWhole lens = false →
    Does (.mctpMessage 0 type lens) s (fun u => u = s)) ∧
  (∀ (s : State) (eid : Nat), s.serving = true → s.host.linkUp = true → 1 ≤ eid → eid < 255 → Does (.setEndpointId 0 eid) s (fun u =>
    u.host = { s.host with eid := eid } ∧ s.sameBut u [.host])) ∧
  (∀ (s : State) (tr eid : Nat), s.serving = true → 1 ≤ tr → tr ≤ 2 → 1 ≤ eid → eid < 255 → Does (.setEndpointId tr eid) s (fun u =>
    u.sb (tr - 1) = { s.sb (tr - 1) with eid := eid } ∧ s.sameBut u [.side])) ∧
  (∀ (s : State) (p : Fin 2) (b : List Byte) (rest : List (List Byte)), s.portOn p.val = true → s.sbMode p.val = 1 →
    (s.sb p.val).resp = b :: rest → Does (.mctpResponseRetry p false) s (fun u =>
      (u.sb p.val).resp = rest ∧ u.outbox = s.outbox ++ [Out.packet p.val b] ∧ s.sameBut u [.outbox, .side])) ∧
  (∀ (s : State) (p : Fin 2) (b : List Byte) (rest : List (List Byte)), s.portOn p.val = true → s.sbMode p.val = 1 →
    (s.sb p.val).resp = b :: rest → 3 ≤ (s.sb p.val).tries → Does (.mctpResponseRetry p true) s (fun u =>
      (u.sb p.val).resp = rest ∧ s.raises u (996 + p.val) 0 ∧ s.raises u (998 + p.val) 0 ∧ u.outbox = s.outbox)) ∧
  (∀ (s : State) (p : Fin 2) (b : List Byte) (rest : List (List Byte)), s.portOn p.val = true → s.sbMode p.val = 2 →
    (s.sb p.val).resp = b :: rest → Does (.mctpPacketRead p) s (fun u =>
      (u.sb p.val).resp = rest ∧ u.outbox = s.outbox ++ [Out.packet p.val b] ∧ s.sameBut u [.outbox, .side])) ∧
  (∀ (s : State) (p : Fin 2), s.portOn p.val = true → s.sbMode p.val = 2 → (s.sb p.val).resp = [] →
    Does (.mctpPacketRead p) s (fun u =>
      u.outbox = s.outbox ++ [Out.side p.val [0xFF#8]] ∧ s.sameBut u [.outbox]))

/-- I3C common command codes (R405): addresses, event enables and lengths are set, identity and lengths are read; a code for
another address does nothing. Where a clause rests on a reading of the model, log entries 2, 7 and 22 name it. -/
def Obligations.I3cCodes : Prop :=
  (∀ (s : State) (p : Fin 2) (a : Nat), s.i3cOn p.val = true → (s.sb p.val).dyn = none → Does (.entdaa p a) s (fun u =>
    u.sb p.val = { s.sb p.val with dyn := some (a % 128) } ∧ s.sameBut u [.side])) ∧
  (∀ (s : State) (p : Fin 2) (n : Nat), s.i3cOn p.val = true → (s.sb p.val).dyn = none → Does (.setdasa p s.sbStatic n) s (fun u =>
    u.sb p.val = { s.sb p.val with dyn := some (n % 128) } ∧ s.sameBut u [.side])) ∧
  (∀ (s : State) (p : Fin 2) (a n : Nat), s.i3cOn p.val = true → (s.sb p.val).dyn = some a → Does (.setnewda p a n) s (fun u =>
    u.sb p.val = { s.sb p.val with dyn := some (n % 128) } ∧ s.sameBut u [.side])) ∧
  (∀ (s : State) (p : Fin 2), s.i3cOn p.val = true → Does (.rstdaa p) s (fun u =>
    u.sb p.val = { s.sb p.val with dyn := none, eid := 0 } ∧ s.sameBut u [.side])) ∧
  (∀ (s : State) (p : Fin 2), s.i3cOn p.val = true → Does (.enec p none true) s (fun u =>
    u.sb p.val = { s.sb p.val with ibi := true } ∧ s.sameBut u [.side])) ∧
  (∀ (s : State) (p : Fin 2), s.i3cOn p.val = true → Does (.disec p none true) s (fun u =>
    u.sb p.val = { s.sb p.val with ibi := false } ∧ s.sameBut u [.side])) ∧
  (∀ (s : State) (p : Fin 2) (a : Nat), s.i3cOn p.val = true → a ≠ s.sbAddr p.val → Does (.disec p (some a) true) s (fun u => u = s)) ∧
  (∀ (s : State) (p : Fin 2), s.i3cOn p.val = true → Does (.getpid p (s.sbAddr p.val)) s (fun u =>
    u.outbox = s.outbox ++ [Out.side p.val (s.provisionalId p.val)] ∧ s.sameBut u [.outbox])) ∧
  (∀ (s : State) (p : Fin 2), s.i3cOn p.val = true → Does (.getbcr p (s.sbAddr p.val)) s (fun u =>
    u.outbox = s.outbox ++ [Out.side p.val [0x06#8]] ∧ s.sameBut u [.outbox])) ∧
  (∀ (s : State) (p : Fin 2), s.i3cOn p.val = true → Does (.getdcr p (s.sbAddr p.val)) s (fun u =>
    u.outbox = s.outbox ++ [Out.side p.val [0xCC#8]] ∧ s.sameBut u [.outbox])) ∧
  (∀ (s : State) (p : Fin 2), s.i3cOn p.val = true → Does (.getstatus p (s.sbAddr p.val)) s (fun u =>
    (∃ bs, bs.length = 2 ∧ u.outbox = s.outbox ++ [Out.side p.val bs]) ∧ s.sameBut u [.outbox, .freeCtr])) ∧
  (∀ (s : State) (p : Fin 2), s.i3cOn p.val = true → Does (.getmxds p (s.sbAddr p.val)) s (fun u =>
    (∃ bs, bs.length = 2 ∧ u.outbox = s.outbox ++ [Out.side p.val bs]) ∧ s.sameBut u [.outbox, .freeCtr])) ∧
  (∀ (s : State) (p : Fin 2), s.i3cOn p.val = true → Does (.getmwl p (s.sbAddr p.val)) s (fun u =>
    u.outbox = s.outbox ++ [Out.side p.val (beBytes 2 (s.sb p.val).mwl)] ∧ s.sameBut u [.outbox])) ∧
  (∀ (s : State) (p : Fin 2) (v : Nat), s.i3cOn p.val = true → Does (.setmwl p none v) s (fun u =>
    u.sb p.val = { s.sb p.val with mwl := v % 65536 } ∧ s.sameBut u [.side])) ∧
  (∀ (s : State) (p : Fin 2), s.i3cOn p.val = true → Does (.getmrl p (s.sbAddr p.val)) s (fun u =>
    u.outbox = s.outbox ++ [Out.side p.val (beBytes 2 (s.sb p.val).mrl ++ [0x01#8])] ∧ s.sameBut u [.outbox])) ∧
  (∀ (s : State) (p : Fin 2) (v : Nat), s.i3cOn p.val = true → Does (.setmrl p none v) s (fun u =>
    u.sb p.val = { s.sb p.val with mrl := v % 65536 } ∧ s.sameBut u [.side]))

/-- The vendor commands of the sideband (R240, R258, R278, R284, R285, R364, R412, R413, R318): each that is admitted is done
and answered to its requester; one that only the BMC may send is refused to every other, one that needs a firmware that is away
is answered BUSY_RETRY, and the mask ROM service's download asks no bundle (R52). Where a clause rests on a reading of the
model, log entries 12 and 43 to 45 name it. -/
def Obligations.SidebandCommands : Prop :=
  (∀ (s : State) (eid : Nat), s.serving = true → s.adminAllowed 0x01 = true → s.firmwareAway 0x01 = false →
    Does (.mctpIdentify eid) s (fun u =>
    s.sends u (.mctp eid (okWith s.identifyHead).bytes))) ∧
  (∀ (s : State) (eid no max : Nat), s.serving = true → s.adminAllowed 0x03 = true → s.firmwareAway 0x03 = false → 1 ≤ max →
    max ≤ 120 →
    Does (.mctpLogRead eid 0 no max) s (fun u =>
      s.sends u (.mctp eid (okWith (leBytes 8 (logAnswer (s.ringFrom no) no (32 * max)).2.1 ++
        leBytes 1 (logAnswer (s.ringFrom no) no (32 * max)).2.2 ++ (logAnswer (s.ringFrom no) no (32 * max)).1)).bytes))) ∧
  (∀ (s : State) (eid chain off len : Nat), s.serving = true → s.adminAllowed 0x05 = true → s.firmwareAway 0x05 = false →
    chain ≤ 1 → 1 ≤ len → len ≤ 4000 →
    off < (s.certImage (decide (chain = 1))).length → Does (.mctpCertRead eid chain off len) s (fun u =>
      s.sends u (.mctp eid (okWith (leBytes 4 (s.certImage (decide (chain = 1))).length ++
        ((s.certImage (decide (chain = 1))).drop off).take len)).bytes))) ∧
  (∀ (s : State) (eid : Nat), s.serving = true → s.adminAllowed 0x04 = true → s.firmwareAway 0x04 = false →
    Does (.mctpLogClear eid) s (fun u =>
    s.sends u (.mctp eid (okWith (leBytes 8 s.evt.nextNo)).bytes) ∧ u.evt.clearNo = s.evt.nextNo ∧
    u.evt.ring = s.evt.ring.map (fun x => (x.1, true)))) ∧
  (∀ (s : State) (n : Ch) (b : Bundle), s.serving = true → s.adminAllowed 0x10 = true → s.firmwareAway 0x10 = false →
    s.bundle = some b → b.bmcEid ≠ 0 →
    (s.chan n).st ≠ .disabled → (s.chan n).phase = .boot → Does (.mctpSetPhase b.bmcEid n.val 1) s (fun u =>
      s.sends u (.mctp b.bmcEid (okWith (leBytes 1 1)).bytes) ∧ (u.chan n).phase = .run ∧ s.raises u (64 * n.val + 17) 0)) ∧
  (∀ (s : State) (eid ch p : Nat) (b : Bundle), s.serving = true → s.bundle = some b → eid ≠ b.bmcEid →
    Does (.mctpSetPhase eid ch p) s (fun u => s.sends u (.mctp eid (reply .notPermitted).bytes) ∧ u.chs = s.chs)) ∧
  (∀ (s : State) (n : Ch) (k : SlotId) (m : Manifest) (b : Bundle), s.serving = true → s.adminAllowed 0x11 = true →
    s.firmwareAway 0x11 = false → s.bundle = some b →
    b.bmcEid ≠ 0 → s.perm 1 = true → s.activateStatus n k 0 m = .ok → s.crypt.pkuNext < 2 →
    Does (.mctpActivate b.bmcEid n.val k.val 0 m) s (fun u =>
      s.sends u (.mctp b.bmcEid (reply .ok).bytes) ∧ ((u.chan n).slot k).upd = .verifying ∧
      s.raises u (64 * n.val + 19) (chArg 0 0 4 k.val))) ∧
  (∀ (s : State) (ch k : Nat) (m : Manifest) (b : Bundle), s.serving = true → s.adminAllowed 0x11 = true →
    s.firmwareAway 0x11 = false → s.bundle = some b →
    b.bmcEid ≠ 0 → s.perm 1 = false → Does (.mctpActivate b.bmcEid ch k 0 m) s (fun u =>
      s.sends u (.mctp b.bmcEid (reply .notPermitted).bytes) ∧ u.chs = s.chs ∧
      (ch < 8 → s.raises u (64 * ch + 20) (chArg 0 0 4 k)))) ∧
  (∀ (s : State) (n : Ch) (b : Bundle), s.serving = true → s.adminAllowed 0x14 = true → s.firmwareAway 0x14 = false →
    s.bundle = some b → b.bmcEid ≠ 0 →
    (s.chan n).st = .quarantined → s.perm 3 = true → s.intentsOk = true → Does (.mctpReimage b.bmcEid n.val 0) s (fun u =>
      s.sends u (.mctp b.bmcEid (reply .ok).bytes) ∧ (u.chan n).st = .reimaging ∧ s.raises u 529 0)) ∧
  (∀ (s : State) (off len : Nat) (b c : Bundle), s.serving = true → s.adminAllowed 0x20 = true → s.firmwareAway 0x20 = false →
    s.bundle = some b → b.bmcEid ≠ 0 →
    s.perm 5 = true → s.polChunkOk off len = true → Does (.mctpPolicyLoad b.bmcEid off false len c) s (fun u =>
      s.sends u (.mctp b.bmcEid (okWith (leBytes 4 (off + len))).bytes) ∧ u.ident = { s.ident with polHeld := off + len })) ∧
  (∀ (s : State) (off len : Nat) (b c : Bundle), s.serving = true → s.adminAllowed 0x20 = true → s.firmwareAway 0x20 = false →
    s.bundle = some b → b.bmcEid ≠ 0 →
    s.perm 5 = true → s.polChunkOk off len = true → (s.policyCheck true c).2 = .ok → s.crypt.pkuNext < 2 →
    Does (.mctpPolicyLoad b.bmcEid off true len c) s (fun u =>
      s.sends u (.mctp b.bmcEid (okWith (leBytes 4 (off + len))).bytes) ∧ u.ident.polHeld = 0 ∧ u.ident.polState = 1 ∧
      ∃ k, u.ident.storing = some (k, c))) ∧
  (∀ (s : State) (len : Nat) (last : Bool) (b : Bundle) (p : Package), s.serving = true → s.adminAllowed 0x21 = true →
    s.firmwareAway 0x21 = false →
    s.bundle = some b → b.bmcEid ≠ 0 → s.perm 4 = true → s.intentsOk = true → s.ident.fwState = .idle → s.ident.dl = noStream →
    packageFormOk p = true → 4 + p.len ≤ len → len ≤ 4000 → chunkStatus noStream p.size 0 len last = reply .ok →
    Does (.mctpFwDownload b.bmcEid 0 last len (some p)) s (fun u =>
      s.sends u (.mctp b.bmcEid (okWith (leBytes 4 len)).bytes) ∧ u.ident.fwState = .downloading ∧ u.ident.dlPkg = some p ∧
      u.ident.dlSide = true)) ∧
  (∀ (s : State) (eid len : Nat) (last : Bool) (p : Package), s.serving = true → s.adminAllowed 0x21 = true →
    s.firmwareAway 0x21 = false → s.plat.romsvc = true → s.intentsOk = true → s.ident.fwState = .idle → s.ident.dl = noStream →
    packageFormOk p = true → 4 + p.len ≤ len → len ≤ 4000 → chunkStatus noStream p.size 0 len last = reply .ok →
    Does (.mctpFwDownload eid 0 last len (some p)) s (fun u =>
      s.sends u (.mctp eid (okWith (leBytes 4 len)).bytes) ∧ u.ident.fwState = .downloading ∧ u.ident.dlPkg = some p ∧
      u.ident.dlSide = true)) ∧
  (∀ (s : State) (target : Nat) (b : Bundle), s.serving = true → s.adminAllowed 0x22 = true → s.firmwareAway 0x22 = false →
    s.bundle = some b → b.bmcEid ≠ 0 →
    s.plat.mode = .guard → s.fwActivateStatus true target = .ok → Does (.mctpFwActivate b.bmcEid target) s (fun u =>
      s.sends u (.mctp b.bmcEid (reply .ok).bytes) ∧ u.ident.fwState = .handover ∧ u.ident.hand.isSome = true)) ∧
  (∀ (s : State) (ch p : Nat) (b : Bundle), s.serving = true → s.adminAllowed 0x10 = true → s.firmwareAway 0x10 = true →
    s.bundle = some b → b.bmcEid ≠ 0 → Does (.mctpSetPhase b.bmcEid ch p) s (fun u =>
      s.sends u (.mctp b.bmcEid (reply .busyRetry).bytes) ∧ u.chs = s.chs)) ∧
  (∀ (s : State) (eid chain off len : Nat), s.serving = true → s.adminAllowed 0x05 = false →
    Does (.mctpCertRead eid chain off len) s (fun u => s.sends u (.mctp eid (reply .notPermitted).bytes) ∧ u.regs = s.regs))

/-- Auxiliary serial ports, the console and GPIO (R414 to R420): transfers begin, end, are aborted or rejected; console bytes;
edges. Where a clause rests on a reading of the model, log entries 2 and 16 name it. -/
def Obligations.AuxiliaryPorts : Prop :=
  (∀ (s : State) (q : Req) (a : Fin 2) (sel len : Nat), s.reaches_ q = true → sel < 4 → 1 ≤ len → len < 16384 →
    (s.auxPort a.val).busy = false → s.asFrame a.val = false → s.selOk a.val sel = true → s.asMaster a.val = true →
    Does (.auxGo q a sel len) s (fun u =>
      u.auxPort a.val = { s.auxPort a.val with busy := true, len := len, bits := 0, frame := false } ∧
      u.outbox = s.outbox ++ [Out.aux a.val sel len ((s.auxPort a.val).txBytes len)] ∧ s.sameBut u [.outbox, .aux])) ∧
  (∀ (s : State) (q : Req) (a : Fin 2) (sel len : Nat), s.reaches_ q = true → sel < 4 → 1 ≤ len → len < 16384 →
    (s.auxPort a.val).busy = false → s.asFrame a.val = false → s.selOk a.val sel = true → s.asMaster a.val = false →
    Does (.auxGo q a sel len) s (fun u =>
      u.auxPort a.val = { s.auxPort a.val with busy := true, len := len, bits := 0, frame := false } ∧ s.sameBut u [.aux])) ∧
  (∀ (s : State) (q : Req) (a : Fin 2) (sel len : Nat), s.reaches_ q = true → 1 ≤ len → len < 16384 →
    (s.auxPort a.val).busy = true → Does (.auxGo q a sel len) s (fun u =>
      s.raises u (1002 + a.val) 0 ∧ bit (u.sticky (asReg a.val 0xC)) 29 = true ∧ s.sameBut u [.regs, .evt])) ∧
  (∀ (s : State) (q : Req) (a : Fin 2) (sel : Nat), s.reaches_ q = true → Does (.auxGo q a sel 0) s (fun u => u = s)) ∧
  (∀ (s : State) (q : Req) (a : Fin 2) (n : Nat) (rx : List Byte), s.reaches_ q = true → (s.auxPort a.val).busy = true →
    Does (.auxAbort q a n rx) s (fun u =>
      (u.auxPort a.val).busy = false ∧ (u.auxPort a.val).bits = min n (s.auxPort a.val).len ∧ s.raises u (1002 + a.val) 0 ∧
      bit (u.sticky (asReg a.val 0xC)) 28 = true ∧ s.sameBut u [.regs, .evt, .aux])) ∧
  (∀ (s : State) (q : Req) (a : Fin 2) (v : Word), s.reaches_ q = true → s.asFrame a.val = true → (s.auxPort a.val).busy = false →
    4 ≤ s.asWidth a.val → s.asWidth a.val ≤ 32 → s.selOk a.val (s.asFsel a.val) = true → s.asMaster a.val = true →
    Does (.frameSend q a v) s (fun u =>
      u.auxPort a.val = { s.auxPort a.val with busy := true, len := s.asWidth a.val, bits := 0, frame := true } ∧
      u.outbox = s.outbox ++ [Out.frame a.val (s.asFsel a.val) (s.asWidth a.val) v] ∧ s.sameBut u [.outbox, .aux])) ∧
  (∀ (s : State) (q : Req) (a : Fin 2) (v : Word), s.reaches_ q = true → s.asFrame a.val = true → s.asWidth a.val < 4 →
    Does (.frameSend q a v) s (fun u => s.raises u (1002 + a.val) 0 ∧ s.sameBut u [.regs, .evt])) ∧
  (∀ (s : State) (a : Fin 2) (rx : List Byte), s.powered = true → (s.auxPort a.val).busy = true → s.asMaster a.val = true →
    (s.auxPort a.val).frame = true → Does (.auxTransferDone a rx) s (fun u =>
      u.auxPort a.val = { s.auxPort a.val with
        busy := false, bits := (s.auxPort a.val).len, frx := word (leNat rx % 2 ^ (s.auxPort a.val).len) } ∧
      s.raises u (1000 + a.val) 0 ∧ bit (u.sticky (asReg a.val 0xC)) 30 = true ∧ s.sameBut u [.regs, .evt, .aux])) ∧
  (∀ (s : State) (a : Fin 2) (rx : List Byte), s.powered = true → (s.auxPort a.val).busy = true → s.asMaster a.val = true →
    (s.auxPort a.val).frame = false → Does (.auxTransferDone a rx) s (fun u =>
      (u.auxPort a.val).busy = false ∧ (u.auxPort a.val).bits = (s.auxPort a.val).len ∧
      (u.auxPort a.val).rx = bufStore (s.auxPort a.val).rx (rxBytes (s.asLsb a.val) (s.auxPort a.val).len rx) ∧
      s.raises u (1000 + a.val) 0 ∧ s.sameBut u [.regs, .evt, .aux])) ∧
  (∀ (s : State) (a : Fin 2) (n : Nat) (rx : List Byte), s.powered = true → s.asMaster a.val = false →
    (s.auxPort a.val).busy = true → n ≤ (s.auxPort a.val).len → Does (.slaveTransferEnd a n rx) s (fun u =>
      (u.auxPort a.val).busy = false ∧ (u.auxPort a.val).bits = n ∧ s.raises u (1000 + a.val) 0 ∧
      u.outbox = s.outbox ++ [Out.aux a.val 0 n ((s.auxPort a.val).txBytes n)])) ∧
  (∀ (s : State) (a : Fin 2) (n : Nat) (rx : List Byte), s.powered = true → s.asMaster a.val = false →
    (s.auxPort a.val).busy = false → Does (.slaveTransferEnd a n rx) s (fun u =>
      s.raises u (1004 + a.val) 0 ∧ bit (u.sticky (asReg a.val 0xC)) 27 = true ∧ s.sameBut u [.regs, .evt])) ∧
  (∀ (s : State) (b : Byte), s.powered = true → s.haltScope = true → Does (.uartReceive b false) s (fun u =>
    u.aux = { s.aux with console := s.aux.console ++ [b] } ∧ s.sameBut u [.aux])) ∧
  (∀ (s : State) (b : Byte), s.powered = true → s.haltScope = true → Does (.uartReceive b true) s (fun u =>
    s.raises u 1006 0 ∧ bit (u.sticky 0x28A4) 2 = true ∧ s.sameBut u [.regs, .evt])) ∧
  (∀ (s : State) (b : Byte) (o : Bool), s.haltScope = false → Does (.uartReceive b o) s (fun u => u = s)) ∧
  (∀ (s : State) (k : Fin 16), s.powered = true → bit s.aux.gpioIn k.val = false → s.gpioInput k.val = true →
    bit (s.cfg 0x2890) k.val = true → Does (.gpioEdge k true) s (fun u =>
      u.aux = { s.aux with gpioIn := s.aux.gpioIn ||| word (2 ^ k.val) } ∧ s.raises u (1008 + k.val / 4) 0 ∧
      s.sameBut u [.evt, .aux])) ∧
  (∀ (s : State) (k : Fin 16), s.powered = true → bit s.aux.gpioIn k.val = true → s.gpioInput k.val = false →
    Does (.gpioEdge k false) s (fun u =>
      u.aux = { s.aux with gpioIn := s.aux.gpioIn &&& ~~~(word (2 ^ k.val)) } ∧ s.sameBut u [.aux]))

/-- The cryptographic units (R37, R40, R296, R298, R299, R309, R316, R319): PUF health and re-enrolment, re-masking, self-tests,
derating, the DRBG. Where a clause rests on a reading of the model, log entries 10, 11, 41 and 50 name it. -/
def Obligations.CryptoUnits : Prop :=
  (∀ (s : State) (e : Nat), s.background = true → s.crypt.root ≠ none → e < 8 → Does (.pufDlMeasure e) s (fun u =>
    u.crypt = { s.crypt with dlErr := e, dlTrip := 0 } ∧ s.sameBut u [.crypt])) ∧
  (∀ (s : State) (e : Nat), s.background = true → s.crypt.root ≠ none → 8 ≤ e → Does (.pufDlMeasure e) s (fun u =>
    u.crypt = { s.crypt with
      dlErr := e, dlTrip := min 15 (s.crypt.dlTrip + 1), due := s.crypt.due || decide (3 ≤ min 15 (s.crypt.dlTrip + 1)) } ∧
    s.raises u 572 0 ∧ s.sameBut u [.evt, .crypt])) ∧
  (∀ (s : State) (m : Nat) (otp : Bool), s.reenrolReady = true → s.crypt.buffers = some m → Does (.reenrol true otp) s (fun u =>
    u.crypt.due = false ∧ u.crypt.dueNow = false ∧ u.crypt.enrolAt = some s.rtcTicks ∧ s.raises u 573 0 ∧
    (∃ h : Helper, u.crypt.helpers = s.crypt.helpers ++ [h] ∧ h.region = (s.crypt.region + 1) % 12 ∧ h.secret = m))) ∧
  (∀ (s : State) (m : Nat) (otp : Bool), s.reenrolReady = true → s.crypt.buffers = some m → Does (.reenrol false otp) s (fun u =>
    u.crypt = { s.crypt with reFailed := true } ∧ s.sameBut u [.crypt])) ∧
  (∀ (s : State), s.powered = true → Does .pufBufferClear s (fun u =>
    u.crypt = { s.crypt with buffers := none } ∧ s.sameBut u [.crypt])) ∧
  (∀ (s : State), s.powered = true → s.plat.mode ≠ .lockdown → Does .caskRemask s (fun u =>
    (∀ k, (u.cask k).key = (s.cask k).key ∧ (u.cask k).st = (s.cask k).st ∧ (u.cask k).gen = (s.cask k).gen) ∧
    s.sameBut u [.crypt])) ∧
  (∀ (s : State), s.plat.mode = .lockdown → Does .caskRemask s (fun u => u = s)) ∧
  (∀ (s : State) (e : Nat), s.background = false → Does (.pufDlMeasure e) s (fun u => u = s)) ∧
  (∀ (s : State) (l : Bool), s.background = false → Does (.periodicSelfTest l) s (fun u => u = s)) ∧
  (∀ (s : State) (e : Nat), s.background = true → s.crypt.draining = none → nextUnit s.press.engines 8 s.crypt.nextEngine = some e →
    Does (.periodicSelfTest false) s (fun u =>
      u.crypt = { s.crypt with draining := some e, nextEngine := (e + 1) % 8 } ∧ s.sameBut u [.crypt])) ∧
  (∀ (s : State) (l : Nat), s.background = true → s.crypt.draining = none → nextUnit s.crypt.lanes 4 s.crypt.nextLane = some l →
    Does (.periodicSelfTest true) s (fun u =>
      u.crypt = { s.crypt with draining := some (8 + l), nextLane := (l + 1) % 4 } ∧ s.sameBut u [.crypt])) ∧
  (∀ (s : State) (e : Nat), s.powered = true → s.crypt.draining = some e → e < 8 → Does (.selfTestDrainEnd true) s (fun u =>
    u.crypt.draining = none ∧ u.press.engines = s.press.engines.set e (s.press.engines.getD e .out) ∧ s.raises u 586 e)) ∧
  (∀ (s : State) (e : Nat), s.powered = true → s.crypt.draining = some e → e < 8 → Does (.selfTestDrainEnd false) s (fun u =>
    u.crypt.draining = none ∧ u.press.engines = s.press.engines.set e .out ∧ s.raises u (544 + e) e)) ∧
  (∀ (s : State) (e : Nat), s.powered = true → s.crypt.draining = some e → 8 ≤ e → Does (.selfTestDrainEnd false) s (fun u =>
    u.crypt = { s.crypt with draining := none, lanes := s.crypt.lanes.set (e - 8) .out } ∧ s.raises u (560 + (e - 8)) (e - 8) ∧
    s.sameBut u [.evt, .crypt])) ∧
  (∀ (s : State) (e : Fin 8), s.powered = true → s.press.engines.getD e.val .out = .inService → bit (s.cfg 0x2610) 23 = true →
    Does (.engineDerate e) s (fun u =>
      u.press.engines = s.press.engines.set e.val .derated ∧ s.raises u (552 + e.val) e.val)) ∧
  (∀ (s : State) (e : Fin 8), s.powered = true → s.press.engines.getD e.val .out = .inService → bit (s.cfg 0x2610) 23 = false →
    Does (.engineDerate e) s (fun u =>
      u.press.engines = s.press.engines.set e.val .out ∧ s.raises u (544 + e.val) e.val)) ∧
  (∀ (s : State) (e : Fin 8), s.powered = true → s.press.engines.getD e.val .out = .derated → Does (.engineRestore e) s (fun u =>
      u.press.engines = s.press.engines.set e.val .inService ∧ s.sameBut u [.press])) ∧
  (∀ (s : State), s.powered = true → s.crypt.rngSt = 1 → Does .drbgReseed s (fun u =>
    u.crypt = { s.crypt with draws := s.crypt.draws + 1, requests := 0, reseeds := (s.crypt.reseeds + 1) % 256 } ∧
    s.raises u 568 0 ∧ s.sameBut u [.evt, .crypt])) ∧
  (∀ (s : State), s.powered = true → s.crypt.rngSt = 1 → s.crypt.failTimes = [] → Does .entropyTestFail s (fun u =>
    u.crypt = { s.crypt with hfail := min 255 (s.crypt.hfail + 1), failTimes := [s.time] } ∧ s.raises u 566 0 ∧
    s.sameBut u [.evt, .crypt])) ∧
  (∀ (s : State), s.powered = true → s.crypt.rngSt = 1 →
    2 ≤ (s.crypt.failTimes.filter (fun t => decide (s.time - t ≤ secondCycles))).length → Does .entropyTestFail s (fun u =>
      u.crypt.rngSt = 2 ∧ u.crypt.hfail = min 255 (s.crypt.hfail + 1) ∧ s.raises u 566 0 ∧ s.raises u 567 0 ∧
      s.sameBut u [.evt, .crypt])) ∧
  (∀ (s : State), s.powered = true → s.crypt.rngSt = 2 → Does (.drbgReinstantiate true) s (fun u =>
    u.crypt = { s.crypt with draws := s.crypt.draws + 1, requests := 0, rngSt := 1 } ∧ s.sameBut u [.plat, .crypt])) ∧
  (∀ (s : State), s.powered = true → s.crypt.rngSt = 2 → Does (.drbgReinstantiate false) s (fun u =>
    u.crypt = { s.crypt with hfail := min 255 (s.crypt.hfail + 1) } ∧ s.raises u 566 0 ∧ s.sameBut u [.evt, .crypt]))

/-- Tamper response (R345 to R350, R352): a trip is recorded, and its class responds: class 1 warns, class 3 clears the key
stores, stops the ports and enters LOCKDOWN; in SHELF the Keeper alone records. Where a clause rests on a reading of the model,
log entries 25 and 61 name it. -/
def Obligations.TamperResponse : Prop :=
  (∀ (s : State) (x : Fin 20) (l : Bool), s.powered = true → 8 ≤ x.val → s.sourceLive x.val = true → s.tamperClass x.val = 1 →
    Does (.tamperTrip x l) s (fun u =>
      u.keeper.trip = s.keeper.trip ||| word (2 ^ x.val) ∧ s.raisesAt u (800 + x.val) 3 (x.val + 32) ∧
      u.keeper.tlHolding = s.keeper.tlHolding ∧ s.sameBut u [.evt, .keeper])) ∧
  (∀ (s : State) (x : Fin 20) (l : Bool), s.powered = true → 8 ≤ x.val → s.sourceLive x.val = true → s.tamperClass x.val = 2 →
    Does (.tamperTrip x l) s (fun u =>
      u.keeper.trip = s.keeper.trip ||| word (2 ^ x.val) ∧ s.raisesAt u (800 + x.val) 6 (x.val + 64) ∧
      s.sameBut u [.evt, .keeper])) ∧
  (∀ (s : State) (x : Fin 20) (l : Bool), s.powered = true → 8 ≤ x.val → s.sourceLive x.val = true →
    s.tamperClass x.val = 3 → Does (.tamperTrip x l) s (fun u =>
      u.plat.mode = .lockdown ∧ u.plat.cause = 0x10 ∧ u.crypt.root = none ∧ u.crypt.casks = Vector.replicate 128 emptyCask ∧
      u.cellar.frames = [] ∧ (∀ n, (u.chan n).port.stopped = true) ∧ u.keeper.tlHolding = true ∧
      s.raisesAt u (800 + x.val) 7 (x.val + 96) ∧ s.raises u 584 0)) ∧
  (∀ (s : State) (x : Fin 20) (l : Bool), s.powered = true → 8 ≤ x.val → s.sourceLive x.val = true → s.tamperClass x.val = 5 →
    Does (.tamperTrip x l) s (fun u =>
      u.plat.mode = .lockdown ∧ u.life.otp = { s.life.otp with fuses := 0xFF#8 } ∧ u.keeper.tlHolding = true ∧
      5 ≤ u.keeper.tlClass ∧ s.raises u 821 0)) ∧
  (∀ (s : State) (x : Fin 20) (l : Bool), s.powered = true → x.val < 8 → l ≠ bit (s.cfg 0xC8) (24 + x.val) →
    Does (.tamperTrip x l) s (fun u => s.sameBut u [.life])) ∧
  (∀ (s : State) (k : Fin 2), s.powered = true → bit (s.cfg 0xCC) (30 + k.val) = true → Does (.meshSample k true) s (fun u =>
    u.life = (if k.val = 0 then { s.life with mesh0 := 0 } else { s.life with mesh1 := 0 }) ∧ s.sameBut u [.life])) ∧
  (∀ (s : State), s.powered = true → bit (s.cfg 0xCC) 30 = true → s.life.mesh0 + 1 < fld (s.cfg 0xCC) 3 0 →
    Does (.meshSample 0 false) s (fun u => u.life = { s.life with mesh0 := s.life.mesh0 + 1 } ∧ s.sameBut u [.life])) ∧
  (∀ (s : State), s.powered = true → bit (s.cfg 0xCC) 30 = true → fld (s.cfg 0xCC) 3 0 ≤ s.life.mesh0 + 1 → s.tamperClass 8 = 1 →
    Does (.meshSample 0 false) s (fun u =>
      u.life = { s.life with mesh0 := 0 } ∧ u.keeper.trip = s.keeper.trip ||| word (2 ^ 8) ∧ s.raisesAt u 808 3 40)) ∧
  (∀ (s : State) (k : Nat), s.plat.mode = .shelf → s.keeper.vbat = true → bit (s.cfg 0xCC) 30 = true → 1 ≤ k →
    Does (.shelfMeshBurst 0 (List.replicate k true)) s (fun u => u.life = { s.life with mesh0 := 0 } ∧ s.sameBut u [.life])) ∧
  (∀ (s : State) (q : Int), s.plat.mode = .shelf → s.keeper.vbat = true → q < -200 → s.tamperClass 12 = 3 →
    Does (.shelfTempSample q) s (fun u =>
      u.keeper.trip = s.keeper.trip ||| word (2 ^ 12) ∧ u.keeper.tlHolding = true ∧ s.sameBut u [.keeper])) ∧
  (∀ (s : State) (q : Int), s.plat.mode = .shelf → s.keeper.vbat = true → -200 ≤ q → q ≤ 520 →
    Does (.shelfTempSample q) s (fun u => u = s)) ∧
  (∀ (s : State), s.powered = true → s.tamperClass 19 = 0 → Does .vbatLow s (fun u =>
    u.life = { s.life with vbatLow := true } ∧ s.raises u 822 0 ∧ s.sameBut u [.evt, .life]))

/-- The event router, recorder and telemetry (R356, R357, R359, R360, R363, R365, R367, R368, R375): a raise becomes a record, a
count or a suppressed count; records go to the ring and the journal; failures degrade the recorder; periods are snapshotted.
Where a clause rests on a reading of the model, log entries 10 and 63 name it. -/
def Obligations.Recorder : Prop :=
  (∀ (s : State) (r : Raise) (rest : List Raise), s.powered = true → s.evt.transit = r :: rest → bit (s.route r.src) 30 = true →
    s.evt.inflight.any (fun x => x.src = r.src) = false → Does .eventRaise s (fun u =>
      (∃ l : List Raise, u.evt.transit = rest ++ l) ∧ u.evt.nextNo = s.evt.nextNo + 1 ∧
      (∃ x : Rec, u.evt.inflight = s.evt.inflight ++ [x] ∧ x.src = r.src ∧ x.sev = r.sev ∧ x.count = 1 ∧ x.recno = s.evt.nextNo ∧
        x.time = s.rtc ∧ x.arg = r.arg % 2 ^ 48))) ∧
  (∀ (s : State) (r : Raise) (rest : List Raise), s.powered = true → s.evt.transit = r :: rest → bit (s.route r.src) 30 = true →
    s.evt.inflight.any (fun x => x.src = r.src) = true → Does .eventRaise s (fun u =>
      (∃ l : List Raise, u.evt.transit = rest ++ l) ∧ u.evt.inflight = s.evt.inflight ∧ u.evt.nextNo = s.evt.nextNo ∧
      (∃ p ∈ u.evt.pend, p.src = r.src ∧ r.sev ≤ p.sev ∧ p.arg = r.arg))) ∧
  (∀ (s : State) (r : Raise) (rest : List Raise), s.powered = true → s.evt.transit = r :: rest → bit (s.route r.src) 30 = false →
    r.src ≠ 872 → Does .eventRaise s (fun u =>
      u.evt.inflight = s.evt.inflight ∧ u.evt.nextNo = s.evt.nextNo ∧
      u.evt.suppr = s.evt.suppr.set r.sev (wrap32 (s.evt.suppr.getD r.sev 0 + 1)))) ∧
  (∀ (s : State), s.evt.transit = [] → Does .eventRaise s (fun u => u = s)) ∧
  (∀ (s : State) (r : Rec) (rest : List Rec), s.powered = true → s.evt.inflight = r :: rest → s.evt.ringFail = false →
    s.evt.ring.length < 4096 → s.evt.pend = [] → Does .ringWrite s (fun u =>
      u.evt.inflight = rest ∧ u.evt.ring = s.evt.ring ++ [(r, false)])) ∧
  (∀ (s : State) (r : Rec) (rest : List Rec) (p : PendCnt), s.powered = true → s.evt.inflight = r :: rest → s.evt.ringFail = false →
    s.evt.ring.length < 4096 → s.evt.pend = [p] → p.src = r.src → Does .ringWrite s (fun u =>
      u.evt.ring = s.evt.ring ++ [(r, false)] ∧ u.evt.pend = [] ∧
      (∃ x : Rec, u.evt.inflight = rest ++ [x] ∧ x.src = r.src ∧ x.count = p.count ∧ x.recno = s.evt.nextNo))) ∧
  (∀ (s : State), s.powered = true → s.evt.ringFail = false → Does .recorderSramError s (fun u =>
    u.evt.ringFail = true ∧ s.raises u 872 1 ∧ s.sameBut u [.evt])) ∧
  (∀ (s : State), s.powered = true → s.journalKey ≠ none → s.evt.staging ≠ [] → Does .journalBlockDue s (fun u =>
    u.evt.staging = s.evt.staging.drop 6 ∧ u.evt.nextBseq = wrap32 (s.evt.nextBseq + 1) ∧
    (∃ b, u.evt.jwait = s.evt.jwait ++ [b] ∧ b.bseq = s.evt.nextBseq ∧ b.recs = s.evt.staging.take 6) ∧ s.sameBut u [.evt])) ∧
  (∀ (s : State), s.journalKey = none → Does .journalBlockDue s (fun u => u = s)) ∧
  (∀ (s : State) (b : JBlock) (rest : List JBlock), s.vaultUp = true → s.evt.jwait = b :: rest → s.evt.jFail = false →
    s.evt.journal.length < 127 * 256 → Does (.journalBlockDurable true) s (fun u =>
      u.evt = { s.evt with jwait := rest, journal := s.evt.journal ++ [b], jhead := b.bseq } ∧ s.sameBut u [.evt, .vault])) ∧
  (∀ (s : State) (b : JBlock) (rest : List JBlock), s.powered = true → s.clk.flashLost = false → s.evt.jwait = b :: rest →
    s.evt.jFail = false →
    Does (.journalBlockDurable false) s (fun u =>
      u.evt.jFail = true ∧ u.evt.jwait = s.evt.jwait ∧ s.raises u 872 2 ∧ s.sameBut u [.evt, .vault])) ∧
  (∀ (s : State), s.vaultUp = false → Does (.journalBlockDurable true) s (fun u => u = s)) ∧
  (∀ (s : State), s.vaultUp = true → s.journalKey ≠ none → s.evt.jFail = true → Does (.journalRetry true) s (fun u =>
    u.evt.jFail = false ∧ s.raises u 873 0 ∧ s.sameBut u [.evt, .vault])) ∧
  (∀ (s : State), Does (.journalRetry false) s (fun u => u = s)) ∧
  (∀ (s : State), s.powered = true → Does .lwClear s (fun u =>
    u.keeper = { s.keeper with lwValid := false } ∧ s.sameBut u [.keeper])) ∧
  (∀ (s : State) (v : Nat), s.powered = true → s.evt.msiGap = [(v, false)] → Does (.msigapExpiry v) s (fun u =>
    u.evt = { s.evt with msiGap := [] } ∧ s.sameBut u [.evt])) ∧
  (∀ (s : State) (v : Fin 64), s.powered = true → s.evt.msiGap = [(v.val, true)] → s.host.vecs[v].masked = false →
    s.host.funcMask = false → s.host.msixEn = true → s.busOk = true → Does (.msigapExpiry v.val) s (fun u =>
      u.evt.msiGap = [(v.val, false)] ∧ u.outbox = s.outbox ++ [Out.msi v.val])) ∧
  (∀ (s : State) (m : TlmMeas), s.powered = true → s.tlm.period ≠ 0 → s.tlm.snaps ≠ [] → Does (.telemetryPeriod m false) s (fun u =>
    u.tlm = { s.tlm with
      snaps := (s.snapshotNow :: s.tlm.snaps).take 3, num := s.tlm.num + 1, period := fld (s.cfg 0x2C00) 15 0
      due := some (({ s with tlm := { s.tlm with
        snaps := (s.snapshotNow :: s.tlm.snaps).take 3, num := s.tlm.num + 1 } } : State).boundaryRecord m) } ∧
    s.sameBut u [.tlm])) ∧
  (∀ (s : State) (m : TlmMeas), s.powered = true → s.tlm.period ≠ 0 → Does (.telemetryPeriod m true) s (fun u =>
    u.tlm.num = s.tlm.num + 1 ∧ u.tlm.due = none ∧ u.tlm.period = fld (s.cfg 0x2C00) 15 0 ∧ s.raises u 881 0)) ∧
  (∀ (s : State) (r : List Byte), s.powered = true → s.tlm.due = some r → Does .telemetryLate s (fun u =>
    u.tlm.due = none ∧ u.tlm.record = r ∧ s.raises u 882 0 ∧ s.raises u 881 0))

/-- Watchdog WD0, clocks, temperature and rails (R382 to R396): the configuration locks, services and expiries act, a fatal trip
restarts the device, a clock's loss and return are noted. Where a clause rests on a reading of the model, log entries 10 name
it. -/
def Obligations.WatchdogAndClocks : Prop :=
  (∀ (s : State) (v : Word), s.powered = true → s.wd0.locked = false → s.wd0CfgOk v = true → Does (.wd0CfgWrite .int v) s (fun u =>
    u.wd0.cfg = v &&& 0x67FFFFFF#32 ∧ u.wd0.locked = true ∧ u.wd0.captured = fld s.wd0.open_ 23 0 ∧ u.wd0.warn = false ∧
    u.wd0.at_ = s.time ∧ s.sameBut u [.wd0])) ∧
  (∀ (s : State) (v : Word), s.powered = true → s.wd0.locked = true → Does (.wd0CfgWrite .int v) s (fun u =>
    u.wd0 = s.wd0 ∧ s.raises u 835 s.wd0Elapsed ∧ s.sameBut u [.evt])) ∧
  (∀ (s : State) (q : Req) (v : Word), q ≠ .int → Does (.wd0CfgWrite q v) s (fun u => u = s)) ∧
  (∀ (s : State) (v : Word), s.powered = true → s.wd0.locked = false → Does (.wd0WindowWrite .int v) s (fun u =>
    u.wd0 = { s.wd0 with open_ := v &&& 0xFFFFFF#32 } ∧ s.sameBut u [.wd0])) ∧
  (∀ (s : State) (v : Word), s.powered = true → s.wd0.locked = true → Does (.wd0WindowWrite .int v) s (fun u =>
    s.raises u 835 s.wd0Elapsed ∧ s.sameBut u [.evt])) ∧
  (∀ (s : State), s.powered = true → s.wd0InWin = true → Does (.wd0Service .int 0x5EEDC0DE#32) s (fun u =>
    u.wd0 = { s.wd0 with served := true, warn := false, at_ := s.time, held := 0 } ∧ s.sameBut u [.wd0])) ∧
  (∀ (s : State) (k : Word), s.powered = true → s.wd0.locked = true → k ≠ 0x5EEDC0DE#32 → bit s.wd0.cfg 29 = true →
    Does (.wd0Service .int k) s (fun u =>
      u.wd0 = { s.wd0 with wrongKey := min 0xFFFF (s.wd0.wrongKey + 1) } ∧ s.sameBut u [.evt, .wd0] ∧
      ∃ a, s.raises u 834 a)) ∧
  (∀ (s : State) (k : Word), s.powered = true → s.wd0.locked = true → k ≠ 0x5EEDC0DE#32 → bit s.wd0.cfg 29 = false →
    Does (.wd0Service .int k) s (fun u =>
      u.plat.mode = .hold ∧ u.plat.cause = 1 ∧ u.keeper.lastCause = 2 ∧ u.keeper.wdCount = min 255 (s.keeper.wdCount + 1) ∧
      u.keeper.wdInv = 255 - min 255 (s.keeper.wdCount + 1))) ∧
  (∀ (s : State), s.powered = true → s.wd0.locked = true → s.wd0.paused = false → s.wd0.warn = false → Does .wd0FirstExpiry s (fun u =>
    u.wd0 = { s.wd0 with warn := true, at_ := s.time } ∧ s.raises u 832 (fld s.wd0.cfg 23 0) ∧ s.sameBut u [.evt, .wd0])) ∧
  (∀ (s : State), s.powered = true → s.wd0.locked = true → s.wd0.paused = false → s.wd0.warn = true → Does .wd0SecondExpiry s (fun u =>
    u.plat.mode = .hold ∧ u.plat.cause = 1 ∧ u.keeper.lastCause = 1 ∧ u.keeper.wdCount = min 255 (s.keeper.wdCount + 1) ∧
    u.keeper.wdInv = 255 - min 255 (s.keeper.wdCount + 1) ∧ u.evt.journal = s.evt.journal)) ∧
  (∀ (s : State), s.powered = true → s.wd0.locked = true → bit s.wd0.cfg 30 = true → Does .ringMonitorTrip s (fun u =>
    u.plat.mode = .hold ∧ u.plat.cause = 1 ∧ u.keeper.lastCause = 5)) ∧
  (∀ (s : State), s.powered = true → bit s.wd0.cfg 30 = false → Does .ringMonitorTrip s (fun u => u = s)) ∧
  (∀ (s : State) (b : Bool), s.powered = true → s.clk.ringLost = false → Does (.clockMonitorTrip .core b) s (fun u =>
    u.plat.mode = .hold ∧ u.plat.cause = 1 ∧ u.keeper.lastCause = 4 ∧ u.keeper.fatalEv = 960)) ∧
  (∀ (s : State) (c : MonClk), s.clk.ringLost = true → Does (.clockMonitorTrip c false) s (fun u => u = s)) ∧
  (∀ (s : State), s.powered = true → s.clk.flashLost = false → Does .flashClockLoss s (fun u =>
    u.clk = { s.clk with flashLost := true, lock := s.clk.lock &&& ~~~0x8#32 } ∧ bit (u.sticky 0x2E00) 0 = true ∧
    s.raises u 963 0 ∧ s.sameBut u [.regs, .evt, .clk])) ∧
  (∀ (s : State), s.powered = true → s.clk.flashLost = true → Does .flashRelock s (fun u =>
    u.clk = { s.clk with flashLost := false, lock := s.clk.lock ||| 0x8#32 } ∧ u.plat.training = some 0 ∧ s.raises u 964 0 ∧
    s.sameBut u [.evt, .plat, .clk])) ∧
  (∀ (s : State), s.powered = true → s.clk.flashLost = true → Does .flashRelockTimeout s (fun u =>
    u.plat.mode = .hold ∧ u.plat.cause = 1 ∧ u.keeper.lastCause = 4 ∧ u.keeper.fatalEv = 963)) ∧
  (∀ (s : State), s.powered = true → s.clk.refclkLost = false → s.host.linkUp = true → Does .refclkLoss s (fun u =>
    u.clk = { s.clk with refclkLost := true, lock := s.clk.lock &&& ~~~0x10#32 } ∧ u.host.linkUp = false ∧
    s.raises u 680 0 ∧ s.raises u 969 0)) ∧
  (∀ (s : State), s.powered = true → s.clk.refclkLost = true → Does .refclkReturn s (fun u =>
    u.clk = { s.clk with refclkLost := false, lock := s.clk.lock ||| 0x10#32 } ∧ s.sameBut u [.clk])) ∧
  (∀ (s : State), s.powered = true → s.clk.keepSub = false → s.clk.ringLost = false → Does .keeperCrystalLoss s (fun u =>
    u.clk = { s.clk with keepSub := true } ∧ u.keeper = { s.keeper with rtcValid := false } ∧ s.raises u 967 0 ∧
    bit (u.sticky 0x2E00) 2 = true ∧ s.sameBut u [.regs, .evt, .keeper, .clk])) ∧
  (∀ (s : State), s.powered = true → s.clk.keepSub = true → Does .keeperCrystalReturn s (fun u =>
    u.clk = { s.clk with keepSub := false } ∧ s.raises u 968 0 ∧ s.sameBut u [.evt, .clk])) ∧
  (∀ (s : State), s.powered = true → s.clk.ringLost = false → Does .ringLoss s (fun u =>
    u.clk = { s.clk with ringLost := true } ∧ s.raises u 965 0 ∧ bit (u.sticky 0x2E00) 1 = true ∧
    s.sameBut u [.regs, .evt, .clk])) ∧
  (∀ (s : State), s.powered = true → Does .ringReturn s (fun u => u.clk = { s.clk with ringLost := false } ∧ s.sameBut u [.clk])) ∧
  (∀ (s : State) (t : Int), s.powered = true → s.clk.warnArmed = true → s.clk.critArmed = true →
    (4 * (fld (s.cfg 0x2E0C) 7 0 : Int)) < t → t ≤ (4 * (fld (s.cfg 0x2E0C) 15 8 : Int)) → Does (.tempThreshold t) s (fun u =>
      u.clk.tempNow = word (t % 65536).toNat ∧ u.clk.warnArmed = false ∧ s.raises u 970 0 ∧ s.sameBut u [.evt, .clk])) ∧
  (∀ (s : State) (r : Nat), s.powered = true → Does (.railExcursion r) s (fun u => s.raises u 972 r ∧ s.sameBut u [.evt]))

/-- What the agent-side port commands and the parts behind them leave unchanged: where one answers a next state, every component
it does not name is as before. -/
def Obligations.FrameAgentPort : Prop :=
  (∀ (t : Txn) (s z : State), exec (.agentRead t) s = .next z →
    s.sameBut z [.freeCtr, .outbox, .regs, .evt, .plat, .keeper, .chs, .cellar, .press, .vault, .ctl, .cntr, .ident]) ∧
  (∀ (t : Txn) (s z : State), exec (.continuousRead t) s = .next z →
    s.sameBut z [.freeCtr, .outbox, .regs, .evt, .plat, .keeper, .chs, .cellar, .press, .vault, .ctl, .cntr, .ident]) ∧
  (∀ (t : Txn) (s z : State), exec (.readSfdp t) s = .next z → s.sameBut z [.outbox, .evt, .plat, .chs, .cntr]) ∧
  (∀ (t : Txn) (s z : State), exec (.readId t) s = .next z → s.sameBut z [.outbox, .evt, .plat, .chs, .cntr]) ∧
  (∀ (t : Txn) (s z : State), exec (.readReg t) s = .next z → s.sameBut z [.outbox, .evt, .plat, .chs, .cntr]) ∧
  (∀ (t : Txn) (s z : State), exec (.writeEnable t) s = .next z → s.sameBut z [.outbox, .evt, .plat, .chs, .cntr]) ∧
  (∀ (t : Txn) (s z : State), exec (.writeDisable t) s = .next z → s.sameBut z [.outbox, .evt, .plat, .chs, .cntr]) ∧
  (∀ (t : Txn) (s z : State), exec (.program t) s = .next z →
    s.sameBut z [.freeCtr, .outbox, .regs, .evt, .plat, .keeper, .chs, .cellar, .press, .vault, .ctl, .cntr, .ident]) ∧
  (∀ (t : Txn) (s z : State), exec (.erase t) s = .next z → s.sameBut z [.outbox, .evt, .plat, .chs, .cntr]) ∧
  (∀ (t : Txn) (s z : State), exec (.eraseChip t) s = .next z → s.sameBut z [.outbox, .evt, .plat, .chs, .cntr]) ∧
  (∀ (t : Txn) (early : Bool) (s z : State), exec (.suspend t early) s = .next z →
    s.sameBut z [.outbox, .evt, .plat, .chs, .cntr]) ∧
  (∀ (n : Ch) (s z : State), exec (.suspendForward n) s = .next z → s.sameBut z [.outbox, .evt, .chs, .cntr]) ∧
  (∀ (t : Txn) (s z : State), exec (.resume t) s = .next z → s.sameBut z [.outbox, .evt, .plat, .chs, .cntr]) ∧
  (∀ (t : Txn) (s z : State), exec (.writeReg t) s = .next z → s.sameBut z [.outbox, .evt, .plat, .chs, .cntr]) ∧
  (∀ (t : Txn) (s z : State), exec (.modeset t) s = .next z → s.sameBut z [.outbox, .evt, .plat, .chs, .cntr]) ∧
  (∀ (t : Txn) (s z : State), exec (.resetEnable t) s = .next z → s.sameBut z [.outbox, .evt, .plat, .chs, .cntr]) ∧
  (∀ (t : Txn) (s z : State), exec (.reset t) s = .next z → s.sameBut z [.outbox, .evt, .plat, .chs, .cntr]) ∧
  (∀ (t : Txn) (s z : State), exec (.clearFail t) s = .next z → s.sameBut z [.outbox, .evt, .plat, .chs, .cntr]) ∧
  (∀ (t : Txn) (s z : State), exec (.addrMode t) s = .next z → s.sameBut z [.outbox, .evt, .plat, .chs, .cntr]) ∧
  (∀ (t : Txn) (s z : State), exec (.accept t) s = .next z → s.sameBut z [.outbox, .evt, .plat, .chs, .cntr]) ∧
  (∀ (t : Txn) (s z : State), exec (.unlistedOpcode t) s = .next z → s.sameBut z [.outbox, .evt, .plat, .chs, .cntr]) ∧
  (∀ (t : Txn) (s z : State), exec (.heartbeatService t) s = .next z →
    s.sameBut z [.freeCtr, .outbox, .regs, .evt, .plat, .keeper, .chs, .cellar, .press, .vault, .ctl, .cntr, .ident]) ∧
  (∀ (n : Ch) (khz : Nat) (s z : State), exec (.sclkMeasure n khz) s = .next z → s.sameBut z [.regs, .evt, .chs]) ∧
  (∀ (n : Ch) (ok : Bool) (s z : State), exec (.agentOperationEnd n ok) s = .next z → s.sameBut z [.chs]) ∧
  (∀ (n : Ch) (s z : State), exec (.blockbusyEnd n) s = .next z → s.sameBut z [.chs]) ∧
  (∀ (n : Ch) (s z : State), exec (.boottimeElapsed n) s = .next z → s.sameBut z [.evt, .chs]) ∧
  (∀ (n : Ch) (s z : State), exec (.updateTimeout n) s = .next z → s.sameBut z [.evt, .chs]) ∧
  (∀ (n : Ch) (s z : State), exec (.deviceOpIssue n) s = .next z → s.sameBut z [.outbox, .evt, .chs, .cntr]) ∧
  (∀ (n : Ch) (k : PartId) (s z : State), exec (.statusPoll n k) s = .next z → s.sameBut z [.outbox, .evt, .cntr]) ∧
  (∀ (n : Ch) (k : SlotId) (s z : State), exec (.exposedWaitEnd n k) s = .next z → s.sameBut z [.chs]) ∧
  (∀ (n : Ch) (k : SlotId) (ok : Bool) (s z : State), exec (.stagingVerify n k ok) s = .next z →
    s.sameBut z [.evt, .chs, .press, .vault, .cntr]) ∧
  (∀ (n : Ch) (k : SlotId) (units : Nat) (ok : Bool) (s z : State), exec (.copyUnit n k units ok) s = .next z →
    s.sameBut z [.freeCtr, .outbox, .regs, .evt, .keeper, .chs, .cellar, .vault, .ctl, .ident]) ∧
  (∀ (n : Ch) (k : SlotId) (s z : State), exec (.confirmWindowEnd n k) s = .next z →
    s.sameBut z [.freeCtr, .outbox, .regs, .evt, .keeper, .chs, .cellar, .vault, .ctl, .ident]) ∧
  (∀ (n : Ch) (k : SlotId) (ok : Bool) (s z : State), exec (.vintageBurnStep n k ok) s = .next z →
    s.sameBut z [.evt, .chs, .vault, .life]) ∧
  (∀ (port : PortId) (k : PartId) (t : Training) (s z : State), exec (.eyeTraining port k t) s = .next z →
    s.sameBut z [.freeCtr, .outbox, .regs, .evt, .plat, .keeper, .chs, .cellar, .press, .vault, .ctl, .cntr, .ident]) ∧
  (∀ (port : PortId) (s z : State), exec (.retrainDue port) s = .next z → s.sameBut z [.plat]) ∧
  (∀ (port : PortId) (k : PartId) (s z : State), exec (.partBusyTimeout port k) s = .next z →
    s.sameBut z [.outbox, .evt, .plat, .chs, .vault]) ∧
  (∀ (port : PortId) (k : PartId) (busy : Bool) (s z : State), exec (.partSoftwareResetEnd port k busy) s = .next z →
    s.sameBut z [.outbox, .chs, .vault]) ∧
  (∀ (port : PortId) (k : PartId) (bad : Bool) (s z : State), exec (.partResetPulseEnd port k bad) s = .next z →
    s.sameBut z [.freeCtr, .outbox, .regs, .evt, .plat, .keeper, .chs, .cellar, .press, .vault, .ctl, .ident]) ∧
  (∀ (n : Ch) (k : PartId) (slot : SlotId) (unit : Nat) (active verified resident : Bool)
    (s z : State), exec (.sectorRefreshStep n k slot unit active verified resident) s = .next z →
    s.sameBut z [.outbox, .evt, .chs, .vault]) ∧
  (∀ (s z : State), exec .refreshPeriodRollover s = .next z → s.sameBut z [.chs]) ∧
  (∀ (key : Bool) (s z : State), exec (.journalCompactionStep key) s = .next z → s.sameBut z [.evt, .vault, .crypt]) ∧
  (∀ (t : Training) (header : Bool) (s z : State), exec (.vaultRetrain t header) s = .next z →
    s.sameBut z [.freeCtr, .outbox, .regs, .evt, .plat, .keeper, .chs, .cellar, .press, .vault, .ctl, .ident])

/-- What the register and commit commands leave unchanged: where one answers a next state, every component it does not name is
as before. -/
def Obligations.FrameRegisters : Prop :=
  (∀ (q : Req) (mask : Word) (s z : State), exec (.commitGo q mask) s = .next z → s.sameBut z [.regs, .evt]) ∧
  (∀ (s z : State), exec .commitApply s = .next z →
    s.sameBut z [.freeCtr, .outbox, .regs, .evt, .plat, .keeper, .chs, .cellar, .press, .vault, .ctl, .cntr, .tlm, .host,
      .ident, .sealing, .crypt, .life]) ∧
  (∀ (s z : State), exec .commitTimeout s = .next z →
    s.sameBut z [.freeCtr, .outbox, .regs, .evt, .plat, .keeper, .chs, .cellar, .press, .vault, .ctl, .cntr, .tlm, .host,
      .ident, .sealing, .crypt, .life]) ∧
  (∀ (q : Req) (mask : Word) (s z : State), exec (.commitDiscard q mask) s = .next z → s.sameBut z [.regs]) ∧
  (∀ (q : Req) (off : Nat) (hi : Bool) (s z : State), exec (.lowHalfRead q off hi) s = .next z →
    s.sameBut z [.freeCtr, .outbox, .regs, .evt]) ∧
  (∀ (q : Req) (off : Nat) (v : Word) (s z : State), exec (.highHalfWrite q off v) s = .next z → s.sameBut z Comp.device) ∧
  (∀ (q : Req) (off : Nat) (v : Word) (s z : State), exec (.registerWrite q off v) s = .next z → s.sameBut z Comp.device) ∧
  (∀ (q : Req) (n : Ch) (s z : State), exec (.rcRead q n) s = .next z → s.sameBut z [.freeCtr, .outbox, .regs, .evt]) ∧
  (∀ (cid len mask addr : Nat) (s z : State), exec (.snapshot cid len mask addr) s = .next z →
    s.sameBut z [.freeCtr, .outbox, .regs, .evt, .cntr, .tlm, .host]) ∧
  (∀ (a : BarAcc) (s z : State), exec (.unsupportedRequest a) s = .next z → s.sameBut z Comp.device) ∧
  (∀ (q : Req) (k : Fin 8) (s z : State), exec (.rdataRead q k) s = .next z → s.sameBut z [.freeCtr, .outbox, .regs, .evt]) ∧
  (∀ (q : Req) (v : Word) (s z : State), exec (.routeWrite q v) s = .next z → s.sameBut z Comp.device) ∧
  (∀ (q : Req) (s z : State), exec (.pendHiRead q) s = .next z → s.sameBut z [.freeCtr, .outbox, .regs, .evt]) ∧
  (∀ (q : Req) (hi : Bool) (s z : State), exec (.counterDataRead q hi) s = .next z → s.sameBut z [.freeCtr, .outbox, .regs, .evt]) ∧
  (∀ (q : Req) (v : Word) (s z : State), exec (.counterWrite q v) s = .next z → s.sameBut z Comp.device) ∧
  (∀ (k : Fin 8192) (h : Half) (s z : State), exec (.bar4Read k h) s = .next z → s.sameBut z [.outbox, .regs, .evt]) ∧
  (∀ (q : Req) (n : Ch) (w : Option Word) (s z : State), exec (.opdataAccess q n w) s = .next z → s.sameBut z Comp.device) ∧
  (∀ (q : Req) (n : Ch) (s z : State), exec (.sfdpdataRead q n) s = .next z → s.sameBut z [.freeCtr, .outbox, .regs, .evt]) ∧
  (∀ (q : Req) (n : Ch) (k : Fin 3) (w : Option Word) (s z : State), exec (.stdataAccess q n k w) s = .next z →
    s.sameBut z Comp.device) ∧
  (∀ (q : Req) (n : Ch) (k : Fin 3) (w : Option Word) (s z : State), exec (.rgdataAccess q n k w) s = .next z →
    s.sameBut z Comp.device) ∧
  (∀ (q : Req) (w : Option Word) (s z : State), exec (.seqdataAccess q w) s = .next z → s.sameBut z Comp.device) ∧
  (∀ (q : Req) (n : Ch) (s z : State), exec (.baddataRead q n) s = .next z → s.sameBut z [.freeCtr, .outbox, .regs, .evt]) ∧
  (∀ (q : Req) (k : Fin 2) (s z : State), exec (.strdataRead q k) s = .next z → s.sameBut z [.freeCtr, .outbox, .regs, .evt]) ∧
  (∀ (q : Req) (s z : State), exec (.strattRead q) s = .next z → s.sameBut z [.freeCtr, .outbox, .regs, .evt]) ∧
  (∀ (q : Req) (k : Fin 8) (s z : State), exec (.caskdataRead q k) s = .next z → s.sameBut z [.freeCtr, .outbox, .regs, .evt]) ∧
  (∀ (q : Req) (k : Fin 4) (s z : State), exec (.thdataRead q k) s = .next z → s.sameBut z [.freeCtr, .outbox, .regs, .evt]) ∧
  (∀ (q : Req) (s z : State), exec (.vctrRead q) s = .next z → s.sameBut z [.freeCtr, .outbox, .regs, .evt]) ∧
  (∀ (q : Req) (s z : State), exec (.tlmDataRead q) s = .next z → s.sameBut z [.freeCtr, .outbox, .regs, .evt]) ∧
  (∀ (q : Req) (a : Fin 2) (v : Word) (s z : State), exec (.txdataWrite q a v) s = .next z → s.sameBut z Comp.device) ∧
  (∀ (q : Req) (a : Fin 2) (s z : State), exec (.rxdataRead q a) s = .next z → s.sameBut z [.freeCtr, .outbox, .regs, .evt]) ∧
  (∀ (q : Req) (a : Fin 2) (sel len : Nat) (s z : State), exec (.auxGo q a sel len) s = .next z →
    s.sameBut z [.outbox, .regs, .evt, .aux]) ∧
  (∀ (q : Req) (a : Fin 2) (n : Nat) (rx : List Byte) (s z : State), exec (.auxAbort q a n rx) s = .next z →
    s.sameBut z [.regs, .evt, .aux]) ∧
  (∀ (q : Req) (a : Fin 2) (v : Word) (s z : State), exec (.frameSend q a v) s = .next z →
    s.sameBut z [.outbox, .regs, .evt, .aux]) ∧
  (∀ (a : Fin 2) (rx : List Byte) (s z : State), exec (.auxTransferDone a rx) s = .next z → s.sameBut z [.regs, .evt, .aux]) ∧
  (∀ (a : Fin 2) (n : Nat) (rx : List Byte) (s z : State), exec (.slaveTransferEnd a n rx) s = .next z →
    s.sameBut z [.outbox, .regs, .evt, .aux]) ∧
  (∀ (b : Byte) (overrun : Bool) (s z : State), exec (.uartReceive b overrun) s = .next z → s.sameBut z [.regs, .evt, .aux]) ∧
  (∀ (k : Fin 16) (level : Bool) (s z : State), exec (.gpioEdge k level) s = .next z → s.sameBut z [.evt, .aux])

/-- What the start-up, bring-up and modes leave unchanged: where one answers a next state, every component it does not name is
as before. -/
def Obligations.FrameStartUp : Prop :=
  (∀ (addrSel strap : Nat) (perst halt : Bool) (s z : State), exec (.mainPowerGoodRise addrSel strap perst halt) s = .next z →
    s.sameBut z [.freeCtr, .regs, .evt, .plat, .keeper, .chs, .cellar, .press, .vault, .ctl, .cntr, .tlm, .wd0, .clk, .host,
      .ident, .sealing, .crypt, .life, .side, .aux]) ∧
  (∀ (s z : State), exec .mainPowerGoodFall s = .next z → s.sameBut z [.plat, .keeper]) ∧
  (∀ (s z : State), exec .pllLock s = .next z →
    s.sameBut z [.freeCtr, .outbox, .regs, .evt, .plat, .keeper, .chs, .cellar, .press, .vault, .ctl, .cntr, .tlm, .host,
      .ident, .sealing, .crypt, .life]) ∧
  (∀ (cs0 cs1 : Option PartFound) (busMode : Nat) (hdrA : Option VaultHeader) (hdrB : Option VaultHeader)
    (s z : State), exec (.vaultIdentify cs0 cs1 busMode hdrA hdrB) s = .next z →
    s.sameBut z [.freeCtr, .evt, .plat, .keeper, .vault, .ident]) ∧
  (∀ (d : PufDecode) (s z : State), exec (.rootstockRegenerate d) s = .next z → s.sameBut z [.evt, .plat, .crypt, .life]) ∧
  (∀ (d : PufDecode) (s z : State), exec (.rootstockRetry d) s = .next z → s.sameBut z [.evt, .plat, .crypt]) ∧
  (∀ (badEngines badLanes : List Nat) (pku rng store ledger : Bool)
    (s z : State), exec (.selfTestStartup badEngines badLanes pku rng store ledger) s = .next z →
    s.sameBut z [.evt, .plat, .press, .crypt]) ∧
  (∀ (a b g : Bool) (dev : Bool) (s z : State), exec (.firmwareVerify a b g dev) s = .next z →
    s.sameBut z [.freeCtr, .outbox, .evt, .plat, .keeper, .press, .vault, .cntr, .tlm, .host, .ident, .sealing, .crypt]) ∧
  (∀ (n : Ch) (p0 p1 : Option PartFound) (s0 s1 s2 s3 : SlotFound) (s z : State), exec (.channelBringup n p0 p1 s0 s1 s2 s3)
    s = .next z →
    s.sameBut z [.freeCtr, .outbox, .regs, .evt, .plat, .keeper, .chs, .cellar, .press, .vault, .ctl, .cntr, .ident, .crypt]) ∧
  (∀ (ok : Bool) (s z : State), exec (.exitChecks ok) s = .next z →
    s.sameBut z [.freeCtr, .outbox, .regs, .evt, .plat, .keeper, .chs, .cellar, .press, .vault, .ctl, .cntr, .tlm, .host,
      .ident, .sealing, .crypt, .life]) ∧
  (∀ (kind : Nat) (chan slot : Nat) (m : Manifest) (ok : Bool) (s z : State), exec (.intentResume kind chan slot m ok) s = .next z →
    s.sameBut z [.freeCtr, .outbox, .regs, .evt, .plat, .keeper, .chs, .cellar, .press, .vault, .ctl, .ident]) ∧
  (∀ (m cause : Nat) (s z : State), exec (.modeWrite m cause) s = .next z → s.sameBut z Comp.device) ∧
  (∀ (cause : Nat) (s z : State), exec (.deviceRestart cause) s = .next z → s.sameBut z Comp.device) ∧
  (∀ (s z : State), exec .keeperPowerLoss s = .next z → s.sameBut z [.regs, .keeper, .life]) ∧
  (∀ (s z : State), exec .tapReset s = .next z → s.sameBut z []) ∧
  (∀ (s z : State), exec .ownFirmwareFault s = .next z →
    s.sameBut z [.freeCtr, .outbox, .evt, .plat, .keeper, .press, .cntr, .tlm, .host, .ident, .sealing, .crypt])

/-- What the sequencer, pins, agents and their watchdogs leave unchanged: where one answers a next state, every component it
does not name is as before. -/
def Obligations.FramePlatform : Prop :=
  (∀ (k : Nat) (s z : State), exec (.pcOutMismatch k) s = .next z → s.sameBut z [.regs, .evt]) ∧
  (∀ (k : Nat) (level : Bool) (s z : State), exec (.pcInChange k level) s = .next z → s.sameBut z [.evt, .ctl]) ∧
  (∀ (s z : State), exec .haltNFall s = .next z →
    s.sameBut z [.freeCtr, .outbox, .regs, .evt, .plat, .keeper, .chs, .cellar, .vault, .ctl, .cntr, .ident]) ∧
  (∀ (s z : State), exec .haltNRise s = .next z → s.sameBut z [.evt, .plat, .ctl]) ∧
  (∀ (s z : State), exec .seqEnd s = .next z → s.sameBut z [.evt, .ctl]) ∧
  (∀ (s z : State), exec .seqSet s = .next z → s.sameBut z [.ctl]) ∧
  (∀ (s z : State), exec .seqWaitIn s = .next z → s.sameBut z [.ctl]) ∧
  (∀ (s z : State), exec .seqDelay s = .next z → s.sameBut z [.ctl]) ∧
  (∀ (s z : State), exec .seqRelease s = .next z → s.sameBut z [.freeCtr, .evt, .plat, .keeper, .chs, .vault, .ctl]) ∧
  (∀ (s z : State), exec .seqWaitHb s = .next z → s.sameBut z [.ctl]) ∧
  (∀ (s z : State), exec .seqWaitSatisfied s = .next z → s.sameBut z [.freeCtr, .evt, .plat, .keeper, .chs, .vault, .ctl]) ∧
  (∀ (s z : State), exec .seqTimeout s = .next z → s.sameBut z [.freeCtr, .evt, .plat, .keeper, .chs, .vault, .ctl]) ∧
  (∀ (s z : State), exec .delayExpiry s = .next z → s.sameBut z [.ctl]) ∧
  (∀ (s z : State), exec .subprogramStart s = .next z → s.sameBut z [.evt, .ctl]) ∧
  (∀ (n : Ch) (s z : State), exec (.rerelease n) s = .next z → s.sameBut z [.freeCtr, .evt, .plat, .keeper, .chs, .vault, .ctl]) ∧
  (∀ (side : Bool) (mask seq : Nat) (s z : State), exec (.urgentStop side mask seq) s = .next z →
    s.sameBut z [.freeCtr, .outbox, .regs, .evt, .keeper, .chs, .cellar, .vault, .ctl, .cntr, .ident]) ∧
  (∀ (side : Bool) (mask seq : Nat) (s z : State), exec (.urgentRelease side mask seq) s = .next z →
    s.sameBut z [.evt, .ctl, .cntr]) ∧
  (∀ (side : Bool) (mask seq : Nat) (s z : State), exec (.urgentRestart side mask seq) s = .next z → s.sameBut z Comp.device) ∧
  (∀ (n : Ch) (s z : State), exec (.qclearElapsed n) s = .next z → s.sameBut z [.ctl]) ∧
  (∀ (n : Ch) (key : Word) (s z : State), exec (.sbsvcWrite n key) s = .next z →
    s.sameBut z [.freeCtr, .outbox, .regs, .evt, .keeper, .chs, .cellar, .press, .vault, .ctl, .cntr, .ident]) ∧
  (∀ (n : Ch) (s z : State), exec (.watchdogFirstExpiry n) s = .next z → s.sameBut z [.evt, .ctl]) ∧
  (∀ (n : Ch) (s z : State), exec (.watchdogSecondExpiry n) s = .next z →
    s.sameBut z [.freeCtr, .outbox, .regs, .evt, .keeper, .chs, .cellar, .press, .vault, .ctl, .cntr, .ident])

/-- What the Trellis, Cellar, ledger and bank commands leave unchanged: where one answers a next state, every component it does
not name is as before. -/
def Obligations.FrameTrellis : Prop :=
  (∀ (l : Law) (s z : State), exec (.ledgerViolation l) s = .next z →
    s.sameBut z [.freeCtr, .outbox, .regs, .evt, .plat, .keeper, .chs, .cellar, .press, .vault, .ctl, .cntr, .tlm, .host,
      .ident, .sealing, .crypt, .life]) ∧
  (∀ (b : Fin 16) (bad : List Nat) (s z : State), exec (.bankUncorrectable b bad) s = .next z →
    s.sameBut z [.freeCtr, .outbox, .regs, .evt, .plat, .keeper, .chs, .cellar, .press, .vault, .ctl, .ident]) ∧
  (∀ (bad : List Nat) (s z : State), exec (.bankCopyComplete bad) s = .next z → s.sameBut z [.evt, .chs, .cellar]) ∧
  (∀ (s z : State), exec .cellarScrubPass s = .next z → s.sameBut z []) ∧
  (∀ (ok : Bool) (s z : State), exec (.memtestBank ok) s = .next z →
    s.sameBut z [.freeCtr, .outbox, .regs, .evt, .plat, .keeper, .chs, .cellar, .press, .vault, .ctl, .cntr, .tlm, .host,
      .ident, .sealing, .crypt, .life]) ∧
  (∀ (n : Ch) (p : PageId) (node ok keyOk : Bool) (s z : State), exec (.decantPage n p node ok keyOk) s = .next z →
    s.sameBut z [.freeCtr, .outbox, .regs, .evt, .keeper, .chs, .cellar, .press, .vault, .ctl, .cntr, .ident]) ∧
  (∀ (n : Ch) (p : PageId) (found : Found) (s z : State), exec (.deferredVerdict n p found) s = .next z →
    s.sameBut z [.freeCtr, .outbox, .regs, .evt, .plat, .keeper, .chs, .cellar, .press, .vault, .ctl, .cntr, .ident]) ∧
  (∀ (n : Ch) (p : PageId) (s z : State), exec (.verdictLate n p) s = .next z →
    s.sameBut z [.freeCtr, .outbox, .regs, .evt, .plat, .keeper, .chs, .cellar, .press, .vault, .ctl, .cntr, .ident]) ∧
  (∀ (n : Ch) (p : PageId) (found : Found) (s z : State), exec (.lateResult n p found) s = .next z →
    s.sameBut z [.freeCtr, .outbox, .regs, .evt, .keeper, .chs, .cellar, .press, .vault, .ctl, .cntr, .ident]) ∧
  (∀ (s z : State), exec .pressCreditGrant s = .next z → s.sameBut z [.evt, .press, .cntr]) ∧
  (∀ (port : PortId) (u : Nat) (pressBusy : Bool) (s z : State), exec (.rackingShareWindow port u pressBusy) s = .next z →
    s.sameBut z [.chs, .vault]) ∧
  (∀ (port : PortId) (f : RackFind) (m : Option Manifest) (s z : State), exec (.rackSpan port f m) s = .next z →
    s.sameBut z [.freeCtr, .outbox, .regs, .evt, .keeper, .chs, .cellar, .press, .vault, .ctl, .cntr, .tlm, .ident, .crypt]) ∧
  (∀ (n : Ch) (k : SlotId) (page copy : Nat) (node qualifies : Bool)
    (s z : State), exec (.graftCandidate n k page copy node qualifies) s = .next z →
    s.sameBut z [.freeCtr, .outbox, .regs, .evt, .keeper, .chs, .cellar, .press, .vault, .ctl, .cntr, .ident]) ∧
  (∀ (n : Ch) (k : SlotId) (copy : Nat) (part : PartId) (unit : Nat) (bad : RackFind) (ok : Bool)
    (s z : State), exec (.graftRepairStep n k copy part unit bad ok) s = .next z →
    s.sameBut z [.freeCtr, .outbox, .regs, .evt, .keeper, .chs, .cellar, .press, .vault, .ctl, .ident]) ∧
  (∀ (n : Ch) (s z : State), exec (.autorelRelease n) s = .next z →
    s.sameBut z [.freeCtr, .outbox, .regs, .evt, .keeper, .chs, .cellar, .press, .vault, .ctl, .ident])

/-- What the host link, queue and admin commands leave unchanged: where one answers a next state, every component it does not
name is as before. -/
def Obligations.FrameHost : Prop :=
  (∀ (s z : State), exec .perstNAssert s = .next z →
    s.sameBut z [.freeCtr, .outbox, .regs, .evt, .plat, .keeper, .chs, .cellar, .press, .vault, .ctl, .cntr, .tlm, .host,
      .ident, .sealing, .crypt, .life]) ∧
  (∀ (s z : State), exec .perstNRelease s = .next z → s.sameBut z [.evt, .plat]) ∧
  (∀ (done : Bool) (s z : State), exec (.functionLevelReset done) s = .next z →
    s.sameBut z [.freeCtr, .outbox, .regs, .evt, .plat, .keeper, .chs, .cellar, .press, .vault, .ctl, .cntr, .tlm, .host,
      .ident, .sealing, .crypt, .life]) ∧
  (∀ (s z : State), exec .linkDown s = .next z →
    s.sameBut z [.freeCtr, .outbox, .regs, .evt, .plat, .keeper, .chs, .cellar, .press, .vault, .ctl, .cntr, .tlm, .host,
      .ident, .sealing, .crypt, .life]) ∧
  (∀ (speed width : Nat) (s z : State), exec (.linkTrained speed width) s = .next z →
    s.sameBut z [.outbox, .evt, .cntr, .tlm, .host]) ∧
  (∀ (cid channel phase : Nat) (s z : State), exec (.setPhase cid channel phase) s = .next z →
    s.sameBut z [.outbox, .evt, .chs, .cntr, .tlm, .host]) ∧
  (∀ (cid channel slot mloc flipNow len : Nat) (m : Manifest)
    (s z : State), exec (.activate cid channel slot mloc flipNow len m) s = .next z →
    s.sameBut z [.outbox, .evt, .chs, .cntr, .tlm, .host, .crypt]) ∧
  (∀ (cid channel slot : Nat) (s z : State), exec (.confirm cid channel slot) s = .next z →
    s.sameBut z [.outbox, .evt, .chs, .vault, .cntr, .tlm, .host]) ∧
  (∀ (q cid opcode flags : Nat) (reserved : Option Nat) (s z : State), exec (.entryFetch q cid opcode flags reserved) s = .next z →
    s.sameBut z [.outbox, .evt, .cntr, .tlm, .host]) ∧
  (∀ (q index : Nat) (s z : State), exec (.sqDoorbell q index) s = .next z → s.sameBut z [.evt, .cntr, .host]) ∧
  (∀ (q index : Nat) (s z : State), exec (.cqDoorbell q index) s = .next z → s.sameBut z [.evt, .cntr, .host]) ∧
  (∀ (w : ReadFor) (kind : Nat) (s z : State), exec (.memoryReadError w kind) s = .next z →
    s.sameBut z [.outbox, .evt, .press, .cntr, .tlm, .host, .sealing]) ∧
  (∀ (cid len addr : Nat) (s z : State), exec (.identify cid len addr) s = .next z →
    s.sameBut z [.outbox, .evt, .cntr, .tlm, .host]) ∧
  (∀ (cid chain off len addr : Nat) (s z : State), exec (.certRead cid chain off len addr) s = .next z →
    s.sameBut z [.outbox, .evt, .cntr, .tlm, .host]) ∧
  (∀ (src : Src) (len addr : Nat) (s z : State), exec (.getNonce src len addr) s = .next z →
    s.sameBut z [.outbox, .evt, .cntr, .tlm, .host, .ident, .crypt, .side]) ∧
  (∀ (cid agent : Nat) (key : Word) (s z : State), exec (.agentHeartbeat cid agent key) s = .next z →
    s.sameBut z [.freeCtr, .outbox, .regs, .evt, .keeper, .chs, .cellar, .press, .vault, .ctl, .cntr, .tlm, .host, .ident]) ∧
  (∀ (cid : Nat) (s z : State), exec (.restart cid) s = .next z → s.sameBut z Comp.device) ∧
  (∀ (q : Nat) (s z : State), exec (.msixAggregationTimeout q) s = .next z → s.sameBut z [.outbox, .evt, .cntr, .host]) ∧
  (∀ (v : Fin 64) (addr data : Nat) (masked : Bool) (s z : State), exec (.msixVectorUnmask v addr data masked) s = .next z →
    s.sameBut z [.outbox, .evt, .cntr, .host]) ∧
  (∀ (q : Nat) (s z : State), exec (.retentionAck q) s = .next z → s.sameBut z [.host]) ∧
  (∀ (s z : State), exec .busMasterDisable s = .next z → s.sameBut z [.evt, .host]) ∧
  (∀ (d3 : Bool) (s z : State), exec (.powerStateChange d3) s = .next z → s.sameBut z [.outbox, .evt, .cntr, .tlm, .host]) ∧
  (∀ (r : CfgReq) (s z : State), exec (.configRequest r) s = .next z → s.sameBut z [.freeCtr, .outbox, .evt, .cntr, .tlm, .host])

/-- What the recovery, policy and firmware commands leave unchanged: where one answers a next state, every component it does not
name is as before. -/
def Obligations.FrameRecovery : Prop :=
  (∀ (s z : State), exec .policyApply s = .next z →
    s.sameBut z [.freeCtr, .outbox, .regs, .evt, .plat, .keeper, .chs, .cellar, .press, .vault, .ctl, .cntr, .tlm, .host,
      .ident, .sealing, .crypt, .life]) ∧
  (∀ (cid agent source : Nat) (s z : State), exec (.reimage cid agent source) s = .next z →
    s.sameBut z [.freeCtr, .outbox, .evt, .keeper, .chs, .cellar, .press, .ctl, .cntr, .tlm, .host, .ident]) ∧
  (∀ (cid len : Nat) (t : Token) (s z : State), exec (.qrelease cid len t) s = .next z →
    s.sameBut z [.freeCtr, .outbox, .regs, .evt, .keeper, .chs, .cellar, .press, .vault, .ctl, .cntr, .tlm, .host, .ident,
      .crypt]) ∧
  (∀ (cid channel slot : Nat) (last : Bool) (off len : Nat) (s z : State), exec (.imageStream cid channel slot last off len)
    s = .next z →
    s.sameBut z [.outbox, .evt, .cntr, .tlm, .host, .ident]) ∧
  (∀ (port : PortId) (ok : Bool) (s z : State), exec (.imageChunkProgram port ok) s = .next z →
    s.sameBut z [.freeCtr, .outbox, .regs, .evt, .keeper, .chs, .cellar, .press, .vault, .ctl, .ident]) ∧
  (∀ (n : Ch) (m : Manifest) (trellisOk : Bool) (s z : State), exec (.imageVerify n m trellisOk) s = .next z →
    s.sameBut z [.freeCtr, .outbox, .regs, .evt, .keeper, .chs, .cellar, .press, .vault, .ctl, .ident, .crypt]) ∧
  (∀ (src : Src) (len : Nat) (t : Token) (s z : State), exec (.recoverPlatform src len t) s = .next z →
    s.sameBut z [.freeCtr, .outbox, .regs, .evt, .plat, .keeper, .chs, .cellar, .press, .vault, .ctl, .cntr, .tlm, .host,
      .ident, .crypt, .side]) ∧
  (∀ (src : Src) (len : Nat) (t : Token) (s z : State), exec (.goldenFirmwareRestore src len t) s = .next z →
    s.sameBut z [.outbox, .evt, .cntr, .tlm, .host, .ident, .crypt, .side]) ∧
  (∀ (src : Src) (len : Nat) (t : Token) (s z : State), exec (.authorisedRecovery src len t) s = .next z →
    s.sameBut z Comp.device) ∧
  (∀ (cid len : Nat) (b : Bundle) (s z : State), exec (.policyLoad cid len b) s = .next z →
    s.sameBut z [.outbox, .regs, .evt, .cntr, .tlm, .host, .ident, .crypt]) ∧
  (∀ (s z : State), exec .policyStoreDurable s = .next z → s.sameBut z [.evt, .vault, .ident]) ∧
  (∀ (expired : Bool) (s z : State), exec (.policyApplyRetry expired) s = .next z →
    s.sameBut z [.freeCtr, .outbox, .regs, .evt, .plat, .keeper, .chs, .cellar, .press, .vault, .ctl, .cntr, .tlm, .host,
      .ident, .sealing, .crypt, .life]) ∧
  (∀ (ok : Bool) (s z : State), exec (.policyVintageBurn ok) s = .next z → s.sameBut z [.evt, .vault, .ident, .life]) ∧
  (∀ (cid : Nat) (last : Bool) (off len : Nat) (pkg : Option Package) (s z : State), exec (.fwDownload cid last off len pkg)
    s = .next z →
    s.sameBut z [.outbox, .evt, .vault, .cntr, .tlm, .host, .ident]) ∧
  (∀ (s z : State), exec .fwPackageVerify s = .next z → s.sameBut z Comp.device) ∧
  (∀ (cid target : Nat) (s z : State), exec (.fwActivate cid target) s = .next z → s.sameBut z Comp.device) ∧
  (∀ (s z : State), exec .handoverHalt s = .next z → s.sameBut z [.evt, .vault, .ident]) ∧
  (∀ (ok : Bool) (s z : State), exec (.handoverLoad ok) s = .next z →
    s.sameBut z [.outbox, .evt, .plat, .press, .vault, .cntr, .tlm, .host, .ident, .sealing, .crypt]) ∧
  (∀ (s z : State), exec .checkIn s = .next z → s.sameBut z [.outbox, .evt, .plat, .ident]) ∧
  (∀ (s z : State), exec .handoverFallback s = .next z →
    s.sameBut z [.outbox, .evt, .plat, .press, .vault, .cntr, .tlm, .host, .ident, .sealing, .crypt]) ∧
  (∀ (ok : Bool) (s z : State), exec (.fwConfirm ok) s = .next z → s.sameBut z [.evt, .vault, .ident, .life]) ∧
  (∀ (last : Bool) (s z : State), exec (.goldenCopyStep last) s = .next z → s.sameBut z Comp.device) ∧
  (∀ (n : Ch) (m : Option Manifest) (anchors : Bool) (s z : State), exec (.recoverySourceTry n m anchors) s = .next z →
    s.sameBut z [.freeCtr, .outbox, .regs, .evt, .keeper, .chs, .cellar, .press, .vault, .ctl, .ident, .crypt]) ∧
  (∀ (n : Ch) (s z : State), exec (.recoverySourceTimeout n) s = .next z →
    s.sameBut z [.freeCtr, .outbox, .regs, .evt, .keeper, .chs, .cellar, .press, .vault, .ctl, .ident]) ∧
  (∀ (n : Ch) (s z : State), exec (.actCommitRetry n) s = .next z →
    s.sameBut z [.freeCtr, .outbox, .regs, .evt, .keeper, .chs, .cellar, .press, .vault, .ctl, .ident]) ∧
  (∀ (eid : Nat) (s z : State), exec (.recQuery eid) s = .next z → s.sameBut z [.outbox, .side]) ∧
  (∀ (eid off len : Nat) (s z : State), exec (.recChunk eid off len) s = .next z → s.sameBut z [.outbox, .ident, .side]) ∧
  (∀ (eid : Nat) (s z : State), exec (.recEnd eid) s = .next z → s.sameBut z [.outbox, .side]) ∧
  (∀ (n : Ch) (last ok : Bool) (s z : State), exec (.recoveryWriteStep n last ok) s = .next z →
    s.sameBut z [.freeCtr, .outbox, .regs, .evt, .keeper, .chs, .cellar, .press, .vault, .ctl, .ident])

/-- What the key, lifecycle, tamper and cryptographic-unit commands leave unchanged: where one answers a next state, every
component it does not name is as before. -/
def Obligations.FrameSecurity : Prop :=
  (∀ (src : Src) (len t1 : Nat) (a : DbgToken) (second : Option (Nat × DbgToken))
    (s z : State), exec (.debugOpen src len t1 a second) s = .next z →
    s.sameBut z Comp.device) ∧
  (∀ (src : Src) (len : Nat) (t : LcToken) (stop : Option Nat) (s z : State), exec (.enterTest src len t stop) s = .next z →
    s.sameBut z Comp.device) ∧
  (∀ (src : Src) (len : Nat) (t : LcToken) (stop : Option Nat) (s z : State), exec (.enterProduction src len t stop) s = .next z →
    s.sameBut z Comp.device) ∧
  (∀ (src : Src) (len : Nat) (t : LcToken) (stop : Option Nat) (s z : State), exec (.enterEol src len t stop) s = .next z →
    s.sameBut z Comp.device) ∧
  (∀ (src : Src) (len : Nat) (t : LcToken) (stop : Option Nat) (s z : State), exec (.ownerClaim src len t stop) s = .next z →
    s.sameBut z [.outbox, .evt, .cntr, .tlm, .host, .ident, .crypt, .life, .side]) ∧
  (∀ (src : Src) (len : Nat) (t : LcToken) (stop : Option Nat) (s z : State), exec (.ownerAdd src len t stop) s = .next z →
    s.sameBut z [.outbox, .evt, .cntr, .tlm, .host, .ident, .crypt, .life, .side]) ∧
  (∀ (src : Src) (len : Nat) (t : LcToken) (stop : Option Nat) (s z : State), exec (.ownerRevoke src len t stop) s = .next z →
    s.sameBut z [.outbox, .evt, .cntr, .tlm, .host, .ident, .crypt, .life, .side]) ∧
  (∀ (src : Src) (len : Nat) (t : LcToken) (stop : Option Nat) (s z : State), exec (.setSubsys src len t stop) s = .next z →
    s.sameBut z [.outbox, .evt, .cntr, .tlm, .host, .ident, .crypt, .life, .side]) ∧
  (∀ (src : Src) (len : Nat) (t : LcToken) (stop : Option Nat) (s z : State), exec (.vendorRevoke src len t stop) s = .next z →
    s.sameBut z [.outbox, .evt, .cntr, .tlm, .host, .ident, .crypt, .life, .side]) ∧
  (∀ (src : Src) (len : Nat) (t : LcToken) (stop : Option Nat) (s z : State), exec (.completeTransition src len t stop)
    s = .next z →
    s.sameBut z Comp.device) ∧
  (∀ (cid label len addr : Nat) (s z : State), exec (.info cid label len addr) s = .next z →
    s.sameBut z [.outbox, .evt, .cntr, .tlm, .host]) ∧
  (∀ (cid len addr : Nat) (s z : State), exec (.list cid len addr) s = .next z → s.sameBut z [.outbox, .evt, .cntr, .tlm, .host]) ∧
  (∀ (cid len addr : Nat) (s z : State), exec (.importPub cid len addr) s = .next z →
    s.sameBut z [.outbox, .evt, .cntr, .tlm, .host, .crypt]) ∧
  (∀ (cid label len tlen : Nat) (t : Token) (kr : Option KeyReq) (b : ImportBlob)
    (s z : State), exec (.importKey cid label len tlen t kr b) s = .next z →
    s.sameBut z [.outbox, .evt, .cntr, .tlm, .host, .ident, .crypt]) ∧
  (∀ (cid label len tlen : Nat) (t : Token) (kr : Option KeyReq) (s z : State), exec (.destroy cid label len tlen t kr)
    s = .next z →
    s.sameBut z [.outbox, .evt, .cntr, .tlm, .host, .ident, .crypt]) ∧
  (∀ (cid len tlen : Nat) (t : Token) (kr : Option KeyReq) (s z : State), exec (.sealRotate cid len tlen t kr) s = .next z →
    s.sameBut z [.outbox, .evt, .cntr, .tlm, .host, .ident, .crypt]) ∧
  (∀ (ok : Bool) (s z : State), exec (.keyJournalCommit ok) s = .next z →
    s.sameBut z [.outbox, .evt, .press, .vault, .cntr, .tlm, .host, .sealing, .crypt]) ∧
  (∀ (e : Nat) (s z : State), exec (.pufDlMeasure e) s = .next z → s.sameBut z [.evt, .crypt]) ∧
  (∀ (ok otp : Bool) (s z : State), exec (.reenrol ok otp) s = .next z → s.sameBut z [.evt, .crypt, .life]) ∧
  (∀ (s z : State), exec .pufBufferClear s = .next z → s.sameBut z [.crypt]) ∧
  (∀ (s z : State), exec .caskRemask s = .next z → s.sameBut z [.crypt]) ∧
  (∀ (lane : Bool) (s z : State), exec (.periodicSelfTest lane) s = .next z → s.sameBut z [.crypt]) ∧
  (∀ (pass : Bool) (s z : State), exec (.selfTestDrainEnd pass) s = .next z → s.sameBut z [.evt, .press, .crypt]) ∧
  (∀ (e : Fin 8) (s z : State), exec (.engineDerate e) s = .next z → s.sameBut z [.evt, .press]) ∧
  (∀ (e : Fin 8) (s z : State), exec (.engineRestore e) s = .next z → s.sameBut z [.press]) ∧
  (∀ (s z : State), exec .drbgReseed s = .next z → s.sameBut z [.evt, .crypt]) ∧
  (∀ (s z : State), exec .entropyTestFail s = .next z → s.sameBut z [.evt, .crypt]) ∧
  (∀ (ok : Bool) (s z : State), exec (.drbgReinstantiate ok) s = .next z → s.sameBut z [.evt, .plat, .crypt]) ∧
  (∀ (src : Fin 20) (level : Bool) (s z : State), exec (.tamperTrip src level) s = .next z →
    s.sameBut z [.freeCtr, .outbox, .regs, .evt, .plat, .keeper, .chs, .cellar, .press, .vault, .ctl, .cntr, .tlm, .host,
      .ident, .sealing, .crypt, .life]) ∧
  (∀ (k : Fin 2) (good : Bool) (s z : State), exec (.meshSample k good) s = .next z →
    s.sameBut z [.freeCtr, .outbox, .regs, .evt, .plat, .keeper, .chs, .cellar, .press, .vault, .ctl, .cntr, .tlm, .host,
      .ident, .sealing, .crypt, .life]) ∧
  (∀ (k : Fin 2) (good : List Bool) (s z : State), exec (.shelfMeshBurst k good) s = .next z →
    s.sameBut z [.freeCtr, .outbox, .regs, .evt, .plat, .keeper, .chs, .cellar, .press, .vault, .ctl, .cntr, .tlm, .host,
      .ident, .sealing, .crypt, .life]) ∧
  (∀ (quarter : Int) (s z : State), exec (.shelfTempSample quarter) s = .next z →
    s.sameBut z [.freeCtr, .outbox, .regs, .evt, .plat, .keeper, .chs, .cellar, .press, .vault, .ctl, .cntr, .tlm, .host,
      .ident, .sealing, .crypt, .life]) ∧
  (∀ (s z : State), exec .vbatLow s = .next z →
    s.sameBut z [.freeCtr, .outbox, .regs, .evt, .plat, .keeper, .chs, .cellar, .press, .vault, .ctl, .cntr, .tlm, .host,
      .ident, .sealing, .crypt, .life])

/-- What the sealing commands leave unchanged: where one answers a next state, every component it does not name is as before. -/
def Obligations.FrameSealing : Prop :=
  (∀ (cid no qpair enc overlap label weight : Nat) (s z : State), exec (.streamOpen cid no qpair enc overlap label weight)
    s = .next z →
    s.sameBut z [.outbox, .evt, .cntr, .tlm, .host, .sealing]) ∧
  (∀ (cid no : Nat) (s z : State), exec (.streamClose cid no) s = .next z →
    s.sameBut z [.outbox, .evt, .cntr, .tlm, .host, .sealing]) ∧
  (∀ (q cid no len src dst rcpt : Nat) (s z : State), exec (.sealSegment q cid no len src dst rcpt) s = .next z →
    s.sameBut z [.outbox, .evt, .cntr, .tlm, .host, .sealing]) ∧
  (∀ (q cid form len : Nat) (data rcpt : List Byte) (prev : Option (List Byte))
    (s z : State), exec (.verifySegment q cid form len data rcpt prev) s = .next z →
    s.sameBut z [.outbox, .evt, .press, .cntr, .tlm, .host]) ∧
  (∀ (cid recBase listBase ctl recSlots listEnt : Nat)
    (s z : State), exec (.sealLog cid recBase listBase ctl recSlots listEnt) s = .next z →
    s.sameBut z [.outbox, .evt, .cntr, .tlm, .host, .sealing]) ∧
  (∀ (cid len addr : Nat) (s z : State), exec (.anchorRequest cid len addr) s = .next z →
    s.sameBut z [.outbox, .evt, .cntr, .tlm, .host, .sealing, .crypt]) ∧
  (∀ (cid : Nat) (t : AnchorTok) (s z : State), exec (.anchorSubmit cid t) s = .next z →
    s.sameBut z [.outbox, .evt, .cntr, .tlm, .host, .sealing, .crypt]) ∧
  (∀ (s z : State), exec .runStart s = .next z → s.sameBut z [.evt, .sealing, .crypt]) ∧
  (∀ (attention : Bool) (s z : State), exec (.segmentBegin attention) s = .next z →
    s.sameBut z [.outbox, .evt, .plat, .press, .cntr, .tlm, .host, .sealing]) ∧
  (∀ (no : Nat) (data : List Byte) (s z : State), exec (.segmentComplete no data) s = .next z →
    s.sameBut z [.outbox, .evt, .press, .cntr, .tlm, .host, .sealing]) ∧
  (∀ (s z : State), exec .epochClose s = .next z → s.sameBut z [.evt, .keeper, .cntr, .sealing]) ∧
  (∀ (s z : State), exec .epochFinalise s = .next z → s.sameBut z [.sealing]) ∧
  (∀ (s z : State), exec .sealSign s = .next z → s.sameBut z [.evt, .sealing, .crypt]) ∧
  (∀ (ok : Bool) (s z : State), exec (.sealJournalWrite ok) s = .next z → s.sameBut z [.evt, .vault, .sealing]) ∧
  (∀ (s z : State), exec .sealOutput s = .next z → s.sameBut z [.outbox, .evt, .cntr, .tlm, .sealing]) ∧
  (∀ (counts : Option (Nat × Nat)) (s z : State), exec (.sealLogPoll counts) s = .next z →
    s.sameBut z [.evt, .cntr, .tlm, .sealing]) ∧
  (∀ (s z : State), exec .uncWarn s = .next z → s.sameBut z [.evt, .sealing])

/-- What the SPDM and sideband commands leave unchanged: where one answers a next state, every component it does not name is as
before. -/
def Obligations.FrameSpdmSideband : Prop :=
  (∀ (s z : State), exec .platformCertIssue s = .next z →
    s.sameBut z [.outbox, .evt, .press, .cntr, .tlm, .host, .ident, .sealing, .crypt]) ∧
  (∀ (tr type : Nat) (lens : List Nat) (s z : State), exec (.mctpMessage tr type lens) s = .next z → s.sameBut z [.outbox, .side]) ∧
  (∀ (tr eid : Nat) (s z : State), exec (.setEndpointId tr eid) s = .next z → s.sameBut z [.host, .side]) ∧
  (∀ (eid tr : Nat) (s z : State), exec (.getVersion eid tr) s = .next z → s.sameBut z [.outbox, .ident, .crypt, .side]) ∧
  (∀ (eid tr : Nat) (s z : State), exec (.getCapabilities eid tr) s = .next z → s.sameBut z [.outbox, .ident, .side]) ∧
  (∀ (eid tr : Nat) (offered : Bool) (s z : State), exec (.negotiateAlgorithms eid tr offered) s = .next z →
    s.sameBut z [.outbox, .ident, .side]) ∧
  (∀ (eid tr : Nat) (s z : State), exec (.getDigests eid tr) s = .next z → s.sameBut z [.outbox, .ident, .side]) ∧
  (∀ (eid tr slot off len : Nat) (s z : State), exec (.getCertificate eid tr slot off len) s = .next z →
    s.sameBut z [.outbox, .ident, .side]) ∧
  (∀ (eid tr slot hashType : Nat) (nonce : List Byte) (s z : State), exec (.challenge eid tr slot hashType nonce) s = .next z →
    s.sameBut z [.outbox, .evt, .ident, .crypt, .side]) ∧
  (∀ (eid tr op : Nat) (signed : Bool) (nonce : List Byte) (s z : State), exec (.getMeasurements eid tr op signed nonce)
    s = .next z →
    s.sameBut z [.outbox, .evt, .ident, .crypt, .side]) ∧
  (∀ (eid tr slot : Nat) (s z : State), exec (.keyExchange eid tr slot) s = .next z →
    s.sameBut z [.outbox, .evt, .ident, .crypt, .side]) ∧
  (∀ (eid tr : Nat) (ok : Bool) (s z : State), exec (.finish eid tr ok) s = .next z →
    s.sameBut z [.outbox, .evt, .ident, .crypt, .side]) ∧
  (∀ (eid tr : Nat) (s z : State), exec (.heartbeat eid tr) s = .next z → s.sameBut z [.outbox, .ident, .side]) ∧
  (∀ (eid tr : Nat) (s z : State), exec (.endSession eid tr) s = .next z → s.sameBut z [.outbox, .ident, .crypt, .side]) ∧
  (∀ (eid tr : Nat) (s z : State), exec (.spdmUnsupportedRequest eid tr) s = .next z → s.sameBut z [.outbox, .side]) ∧
  (∀ (eid tr : Nat) (s z : State), exec (.spdmSessionTimeout eid tr) s = .next z → s.sameBut z [.evt, .ident, .crypt]) ∧
  (∀ (eid tr : Nat) (s z : State), exec (.spdmConnectionIdle eid tr) s = .next z → s.sameBut z [.ident, .crypt]) ∧
  (∀ (n : Ch) (s z : State), exec (.spdmAgentRequest n) s = .next z → s.sameBut z [.outbox, .ident, .crypt, .side]) ∧
  (∀ (n : Ch) (sigOk : Bool) (dig : Nat) (s z : State), exec (.spdmAgentResponse n sigOk dig) s = .next z →
    s.sameBut z [.outbox, .evt, .ident, .crypt, .side]) ∧
  (∀ (n : Ch) (s z : State), exec (.spdmAgentRetry n) s = .next z → s.sameBut z [.outbox, .evt, .ident, .crypt, .side]) ∧
  (∀ (p : Fin 2) (bank off n : Nat) (s z : State), exec (.windowRead p bank off n) s = .next z →
    s.sameBut z [.freeCtr, .outbox, .regs, .evt]) ∧
  (∀ (p : Fin 2) (bank off n : Nat) (data : List Byte) (pecOk : Bool)
    (s z : State), exec (.windowWrite p bank off n data pecOk) s = .next z →
    s.sameBut z Comp.device) ∧
  (∀ (p : Fin 2) (s z : State), exec (.smbusTimeout p) s = .next z → s.sameBut z [.regs, .evt]) ∧
  (∀ (p : Fin 2) (lost : Bool) (s z : State), exec (.mctpResponseRetry p lost) s = .next z →
    s.sameBut z [.outbox, .regs, .evt, .side]) ∧
  (∀ (p : Fin 2) (eid type len : Nat) (som eom : Bool) (s z : State), exec (.mctpPacket p eid type len som eom) s = .next z →
    s.sameBut z [.outbox, .regs, .evt, .side]) ∧
  (∀ (p : Fin 2) (s z : State), exec (.mctpPacketRead p) s = .next z → s.sameBut z [.outbox, .side]) ∧
  (∀ (p : Fin 2) (addr : Nat) (s z : State), exec (.entdaa p addr) s = .next z → s.sameBut z [.side]) ∧
  (∀ (p : Fin 2) (addr new : Nat) (s z : State), exec (.setdasa p addr new) s = .next z → s.sameBut z [.side]) ∧
  (∀ (p : Fin 2) (addr new : Nat) (s z : State), exec (.setnewda p addr new) s = .next z → s.sameBut z [.side]) ∧
  (∀ (p : Fin 2) (s z : State), exec (.rstdaa p) s = .next z → s.sameBut z [.side]) ∧
  (∀ (p : Fin 2) (addr : Option Nat) (int : Bool) (s z : State), exec (.enec p addr int) s = .next z → s.sameBut z [.side]) ∧
  (∀ (p : Fin 2) (addr : Option Nat) (int : Bool) (s z : State), exec (.disec p addr int) s = .next z → s.sameBut z [.side]) ∧
  (∀ (p : Fin 2) (addr : Nat) (s z : State), exec (.getpid p addr) s = .next z → s.sameBut z [.outbox]) ∧
  (∀ (p : Fin 2) (addr : Nat) (s z : State), exec (.getbcr p addr) s = .next z → s.sameBut z [.outbox]) ∧
  (∀ (p : Fin 2) (addr : Nat) (s z : State), exec (.getdcr p addr) s = .next z → s.sameBut z [.outbox]) ∧
  (∀ (p : Fin 2) (addr : Nat) (s z : State), exec (.getstatus p addr) s = .next z → s.sameBut z [.freeCtr, .outbox]) ∧
  (∀ (p : Fin 2) (addr : Nat) (s z : State), exec (.getmwl p addr) s = .next z → s.sameBut z [.outbox]) ∧
  (∀ (p : Fin 2) (addr : Option Nat) (v : Nat) (s z : State), exec (.setmwl p addr v) s = .next z → s.sameBut z [.side]) ∧
  (∀ (p : Fin 2) (addr : Nat) (s z : State), exec (.getmrl p addr) s = .next z → s.sameBut z [.outbox]) ∧
  (∀ (p : Fin 2) (addr : Option Nat) (v : Nat) (s z : State), exec (.setmrl p addr v) s = .next z → s.sameBut z [.side]) ∧
  (∀ (p : Fin 2) (addr : Nat) (s z : State), exec (.getmxds p addr) s = .next z → s.sameBut z [.freeCtr, .outbox]) ∧
  (∀ (eid : Nat) (s z : State), exec (.mctpIdentify eid) s = .next z → s.sameBut z [.outbox, .side]) ∧
  (∀ (eid src from_ max : Nat) (s z : State), exec (.mctpLogRead eid src from_ max) s = .next z → s.sameBut z [.outbox, .side]) ∧
  (∀ (eid chain off len : Nat) (s z : State), exec (.mctpCertRead eid chain off len) s = .next z → s.sameBut z [.outbox, .side]) ∧
  (∀ (eid : Nat) (s z : State), exec (.mctpLogClear eid) s = .next z →
    s.sameBut z [.outbox, .regs, .evt, .plat, .cntr, .host, .side]) ∧
  (∀ (eid channel phase : Nat) (s z : State), exec (.mctpSetPhase eid channel phase) s = .next z →
    s.sameBut z [.outbox, .evt, .chs, .side]) ∧
  (∀ (eid channel slot flipNow : Nat) (m : Manifest) (s z : State), exec (.mctpActivate eid channel slot flipNow m) s = .next z →
    s.sameBut z [.outbox, .evt, .chs, .crypt, .side]) ∧
  (∀ (eid agent source : Nat) (s z : State), exec (.mctpReimage eid agent source) s = .next z →
    s.sameBut z [.freeCtr, .outbox, .evt, .keeper, .chs, .cellar, .press, .ctl, .ident, .side]) ∧
  (∀ (eid off : Nat) (last : Bool) (len : Nat) (b : Bundle) (s z : State), exec (.mctpPolicyLoad eid off last len b) s = .next z →
    s.sameBut z [.outbox, .regs, .evt, .cntr, .ident, .crypt, .side]) ∧
  (∀ (eid off : Nat) (last : Bool) (len : Nat) (pkg : Option Package)
    (s z : State), exec (.mctpFwDownload eid off last len pkg) s = .next z →
    s.sameBut z [.outbox, .vault, .ident, .side]) ∧
  (∀ (eid target : Nat) (s z : State), exec (.mctpFwActivate eid target) s = .next z → s.sameBut z Comp.device)

/-- What the event, telemetry, watchdog and clock commands leave unchanged: where one answers a next state, every component it
does not name is as before. -/
def Obligations.FrameRecorder : Prop :=
  (∀ (cid src len from_ addr : Nat) (s z : State), exec (.logRead cid src len from_ addr) s = .next z →
    s.sameBut z [.outbox, .evt, .cntr, .tlm, .host]) ∧
  (∀ (cid : Nat) (s z : State), exec (.logClear cid) s = .next z → s.sameBut z [.outbox, .regs, .evt, .plat, .cntr, .tlm, .host]) ∧
  (∀ (s z : State), exec .eventRaise s = .next z → s.sameBut z [.outbox, .regs, .evt, .plat, .cntr, .host]) ∧
  (∀ (s z : State), exec .ringWrite s = .next z → s.sameBut z [.outbox, .evt, .keeper, .cntr, .tlm, .host]) ∧
  (∀ (s z : State), exec .journalBlockDue s = .next z → s.sameBut z [.evt]) ∧
  (∀ (passed : Bool) (s z : State), exec (.journalBlockDurable passed) s = .next z → s.sameBut z [.evt, .vault]) ∧
  (∀ (passed : Bool) (s z : State), exec (.journalRetry passed) s = .next z → s.sameBut z [.evt, .vault]) ∧
  (∀ (s z : State), exec .lwClear s = .next z → s.sameBut z [.keeper]) ∧
  (∀ (v : Nat) (s z : State), exec (.msigapExpiry v) s = .next z → s.sameBut z [.outbox, .evt, .cntr, .host]) ∧
  (∀ (m : TlmMeas) (formed : Bool) (s z : State), exec (.telemetryPeriod m formed) s = .next z →
    s.sameBut z [.outbox, .evt, .cntr, .tlm, .host]) ∧
  (∀ (s z : State), exec .telemetryLate s = .next z → s.sameBut z [.outbox, .evt, .cntr, .tlm, .host]) ∧
  (∀ (q : Req) (v : Word) (s z : State), exec (.wd0CfgWrite q v) s = .next z → s.sameBut z [.evt, .wd0]) ∧
  (∀ (q : Req) (v : Word) (s z : State), exec (.wd0WindowWrite q v) s = .next z → s.sameBut z [.evt, .wd0]) ∧
  (∀ (q : Req) (key : Word) (s z : State), exec (.wd0Service q key) s = .next z → s.sameBut z Comp.device) ∧
  (∀ (s z : State), exec .wd0FirstExpiry s = .next z → s.sameBut z [.evt, .wd0]) ∧
  (∀ (s z : State), exec .wd0SecondExpiry s = .next z → s.sameBut z Comp.device) ∧
  (∀ (s z : State), exec .ringMonitorTrip s = .next z → s.sameBut z Comp.device) ∧
  (∀ (c : MonClk) (byLock : Bool) (s z : State), exec (.clockMonitorTrip c byLock) s = .next z → s.sameBut z Comp.device) ∧
  (∀ (s z : State), exec .flashClockLoss s = .next z → s.sameBut z [.regs, .evt, .clk]) ∧
  (∀ (s z : State), exec .flashRelock s = .next z → s.sameBut z [.evt, .plat, .clk]) ∧
  (∀ (s z : State), exec .flashRelockTimeout s = .next z → s.sameBut z Comp.device) ∧
  (∀ (s z : State), exec .refclkLoss s = .next z →
    s.sameBut z [.freeCtr, .outbox, .regs, .evt, .plat, .keeper, .chs, .cellar, .press, .vault, .ctl, .cntr, .tlm, .clk, .host,
      .ident, .sealing, .crypt, .life]) ∧
  (∀ (s z : State), exec .keeperCrystalLoss s = .next z → s.sameBut z [.regs, .evt, .keeper, .clk]) ∧
  (∀ (s z : State), exec .keeperCrystalReturn s = .next z → s.sameBut z [.evt, .clk]) ∧
  (∀ (s z : State), exec .ringLoss s = .next z → s.sameBut z [.regs, .evt, .clk]) ∧
  (∀ (quarter : Int) (s z : State), exec (.tempThreshold quarter) s = .next z → s.sameBut z [.evt, .clk]) ∧
  (∀ (rail : Nat) (s z : State), exec (.railExcursion rail) s = .next z → s.sameBut z [.evt]) ∧
  (∀ (warden : Bool) (s z : State), exec (.debuggerHalt warden) s = .next z → s.sameBut z [.wd0, .life]) ∧
  (∀ (warden : Bool) (s z : State), exec (.debuggerResume warden) s = .next z → s.sameBut z [.wd0, .life]) ∧
  (∀ (s z : State), exec .ringReturn s = .next z → s.sameBut z [.clk]) ∧
  (∀ (s z : State), exec .refclkReturn s = .next z → s.sameBut z [.clk]) ∧
  (∀ (s z : State), exec .recorderSramError s = .next z → s.sameBut z [.evt])

/-- A step takes the command at the front of the queue and is that command's effect with the queue's rest; on an empty queue one
FAB cycle passes (the model's choice, log entry 1). -/
def Obligations.StepRunsFront : Prop :=
  (∀ (c : Instr) (s : State) (rest : List Instr), s.pending = c :: rest → step s = exec c { s with pending := rest }) ∧
  (∀ (s : State), s.pending = [] → step s = .next s.tick ∧ s.tick.time = s.time + 1)

/-- The machine after reset (R41, R45, R56, R60, R72, R183, R219, R326, R386, R424): HOLD at the beginning of the start-up, no
agent released, WD0 off, every queue disabled, every register of the active copy at its reset value, no key, nothing waiting.
What the spec gives no reset value for is the model's choice (log entries 5 to 7) and is not stated here. -/
def Obligations.ResetState : Prop :=
  (∀ (k : Nat), State.reset.cfg k = regReset k ∧ State.reset.sticky k = 0#32) ∧
  (∀ (n : Ch), (State.reset.chan n).st = .disabled ∧ (State.reset.chan n).port.wel = false ∧ (State.reset.chan n).port.wip = false) ∧
  (∀ (q : Nat), (State.reset.queue q).st = .disabled) ∧
  (State.reset.plat.mode = .hold ∧ State.reset.plat.cause = 0 ∧ State.reset.plat.fwRuns = false ∧ State.reset.regs.gen = 0#32 ∧
    State.reset.regs.cur = none ∧ State.reset.wd0.locked = false ∧ State.reset.host.linkUp = false ∧ State.reset.crypt.root = none ∧
    State.reset.crypt.keys = [] ∧ State.reset.pending = []) ∧
  (regReset 0x2C00 = 1000#32 ∧ regReset 0x28A0 = 0x146#32 ∧ regReset (routeKey 0) = 0x40000000#32) ∧
  State.reset.storesOk = true

/-- OTP never clears (R326, R330, R335): whatever a step does, every programmed bit of OTP still reads 1, and what Afdon wrote
is as it was. -/
def Obligations.OtpNeverClears : Prop :=
  ∀ (s t : State), step s = .next t → s.life.otp.kept t.life.otp

/-- Every step keeps the canonical form of the stores of registers and buffers. -/
def Obligations.StoresStayCanonical : Prop :=
  ∀ (s t : State), s.storesOk = true → step s = .next t → t.storesOk = true

/-- LOCKDOWN and SHELF (R41, R54, R55, R56): a step leaves LOCKDOWN only for HOLD or SHELF; only the fall of main power enters
SHELF, and only main power-good leaves it, for HOLD. -/
def Obligations.ModeExits : Prop :=
  (∀ (s t : State), s.plat.mode = .lockdown → step s = .next t →
    t.plat.mode = .lockdown ∨ t.plat.mode = .hold ∨ t.plat.mode = .shelf) ∧
  (∀ (c : Instr) (s t : State), s.plat.mode ≠ .shelf → exec c s = .next t → t.plat.mode = .shelf → c = .mainPowerGoodFall) ∧
  (∀ (c : Instr) (s t : State), s.plat.mode = .shelf → exec c s = .next t → t.plat.mode ≠ .shelf →
    t.plat.mode = .hold ∧ ∃ a k p h, c = .mainPowerGoodRise a k p h)

/-- Commits that apply nothing (R20): a GO with a zero mask, or while TIMEOUT is zero, ends with NOOP; a group in which the
requester has staged nothing is at its safe point and nothing is applied to it. -/
def Obligations.EmptyCommits : Prop :=
  (∀ (s : State) (q : Req) (mask : Word), s.reaches_ q = true → s.commitBusy q = false → s.commitWaiting q = false →
    (mask = 0#32 ∨ fld (s.ownReg q 0x108) 15 0 = 0) → Does (.commitGo q mask) s (fun u =>
      (u.view q).result = .noop ∧ u.regs.gen = s.regs.gen ∧ u.regs.active = s.regs.active ∧ (u.view q).staged = (s.view q).staged ∧
      u.regs.cur = s.regs.cur ∧ u.regs.waiting = s.regs.waiting)) ∧
  (∀ (s : State) (q : Req) (mask : Word) (g : Nat), (s.stagedMask q).getLsbD g = false →
    s.atSafePoint q mask g = true ∧ (s.waitingGroups q mask).getLsbD g = false) ∧
  (∀ (s : State) (q : Req) (mask : Word) (g k : Nat), (∀ e ∈ (s.view q).staged, groupOf e.1 ≠ some g) → groupOf k = some g →
    (s.mergeStaged q mask).cfg k = s.cfg k)

/-- A fatal ledger fault (R53): any ledger violation in RECOVER enters LOCKDOWN with CAUSE 0x14 and EV1022, every agent held. -/
def Obligations.FatalLedgerFault : Prop :=
  (∀ (s : State) (l : Law), s.plat.mode = .recover → Does (.ledgerViolation l) s (fun u =>
    u.plat.mode = .lockdown ∧ u.plat.prev = .recover ∧ u.plat.cause = 0x14 ∧ s.raises u 1022 0 ∧
    (∀ n, (u.chan n).st = .held ∨ (u.chan n).st = .disabled))) ∧
  (∀ (s : State), s.plat.mode = .recover → s.plat.cause = 9 → s.cellar.testDone = true → Does (.exitChecks false) s (fun u =>
    u.plat.mode = .lockdown ∧ u.plat.cause = 0x14 ∧ s.raises u 1022 0))

/-- EV1020 reports a Cellar bank mapped out (R164): severity 5 where an idle bank took its place, 7 where it was lost beyond the
spare; then its frames are free. -/
def Obligations.BankMappedOut : Prop :=
  (∀ (s : State) (b p : Nat) (bad : List Nat), s.powered = true → s.cellar.copying = some b → s.cellar.idle = some p →
    Does (.bankCopyComplete bad) s (fun u => s.raisesAt u 1020 5 0 ∧ u.cellar.map = s.cellar.map.set b p ∧ u.cellar.idle = none ∧
      u.cellar.out = s.cellar.map.getD b 31 :: s.cellar.out ∧ u.cellar.lost = s.cellar.lost)) ∧
  (∀ (s : State) (b : Fin 16) (bad : List Nat), s.powered = true → s.cellar.lost.contains b.val = false →
    s.cellar.copying ≠ some b.val → s.cellar.idle = none → Does (.bankUncorrectable b bad) s (fun u =>
      s.raisesAt u 1020 7 0 ∧ u.cellar.lost = s.cellar.lost ++ [b.val] ∧ u.cellar.out = s.cellar.map.getD b.val 31 :: s.cellar.out ∧
      (∀ f ∈ u.cellar.frames, f.no / 1024 ≠ b.val)))

/-- Vintage counters (R335): a counter's value is the position of its highest bit plus one, or 0; it never falls; GAP reports a
bit below it that reads 0; a burn programs the next position of its counter alone. -/
def Obligations.VintageCounters : Prop :=
  (∀ (v : BitVec 64), vctrValue v ≤ 64 ∧ (vctrValue v = 0 ↔ v = 0#64)) ∧
  (∀ (v : BitVec 64), v ≠ 0#64 → v.getLsbD (vctrValue v - 1) = true ∧ (∀ j, vctrValue v ≤ j → v.getLsbD j = false)) ∧
  (∀ (v w : BitVec 64), vctrValue v ≤ vctrValue (v ||| w)) ∧
  (∀ (v : BitVec 64), vctrGap v = true ↔ ∃ j, j < vctrValue v ∧ v.getLsbD j = false) ∧
  (∀ (s : State) (k : Nat), k < 16 → s.vintage k < 64 →
    (s.burnVintage k).vctr k = s.vctr k ||| BitVec.ofNat 64 (2 ^ s.vintage k) ∧ (s.burnVintage k).vintage k = s.vintage k + 1 ∧
    (∀ j, j ≠ k → (s.burnVintage k).vctr j = s.vctr j) ∧ s.sameBut (s.burnVintage k) [.life])

/-- The open periods of a watchdog (R384): from its start to its first accepted service, and after a first expiry, a right key
is accepted whatever WINDOW_OPEN says; it clears WARN and restarts the count; then a service before WINDOW_OPEN is a failure. -/
def Obligations.OpenPeriods : Prop :=
  (∀ (s : State), s.powered = true → s.wd0.locked = true → (s.wd0.served = false ∨ s.wd0.warn = true) →
    s.wd0Elapsed < s.wd0.period → Does (.wd0Service .int 0x5EEDC0DE#32) s (fun u =>
      u.wd0.warn = false ∧ u.wd0.served = true ∧ u.wd0.at_ = s.time ∧ u.evt = s.evt)) ∧
  (∀ (s : State), s.powered = true → s.wd0.locked = true → s.wd0.served = true → s.wd0.warn = false → bit s.wd0.cfg 29 = true →
    s.wd0Elapsed < s.wd0.captured → s.wd0Elapsed < s.wd0.period → Does (.wd0Service .int 0x5EEDC0DE#32) s (fun u =>
      u.wd0 = { s.wd0 with early := min 0xFFFF (s.wd0.early + 1) } ∧ s.raises u 834 s.wd0Elapsed)) ∧
  (∀ (s : State) (n : Ch), s.powered = true → s.wdRunning n = true → bit (s.awin n) 30 = true →
    ((s.agt n).served = false ∨ (s.agt n).warn = true) → s.wdElapsed n < fld (s.aper n) 23 0 →
    Does (.sbsvcWrite n 0x5EEDC0DE#32) s (fun u =>
      (u.agt n).warn = false ∧ (u.agt n).served = true ∧ (u.agt n).wdAt = s.time)) ∧
  (∀ (s : State) (n : Ch), s.powered = true → s.wdRunning n = true → bit (s.awin n) 30 = true → (s.agt n).served = true →
    (s.agt n).warn = false → bit (s.awin n) 31 = true → s.wdElapsed n < fld (s.awin n) 23 0 → s.wdElapsed n < fld (s.aper n) 23 0 →
    Does (.sbsvcWrite n 0x5EEDC0DE#32) s (fun u =>
      s.raises u (838 + 4 * n.val) (s.wdElapsed n) ∧ s.sameBut u [.evt, .ctl]))

/-- Channels are apart (R58, R80, R138): a transaction on one channel's wires leaves every other channel, and every other
agent's platform control, as it was. -/
def Obligations.OtherChannels : Prop :=
  (∀ (t : Txn) (b : Bool) (c : Instr) (s u : State) (m : Ch),
    c ∈ [.agentRead t, .continuousRead t, .readSfdp t, .readId t, .readReg t, .writeEnable t, .writeDisable t, .program t, .erase t
      , .eraseChip t, .suspend t b, .resume t, .writeReg t, .modeset t, .resetEnable t, .reset t, .clearFail t, .addrMode t
      , .accept t, .unlistedOpcode t, .heartbeatService t] → m ≠ t.ch → exec c s = .next u →
    u.chan m = s.chan m ∧ u.agt m = s.agt m)

/-- Shadow copies (R7, R16): a write to a register of a commit group changes the writer's shadow copy alone: the bits its class
lets it store are staged; no active copy, no other requester's copy and nothing else changes; without such a bit nothing
changes. -/
def Obligations.ShadowWrites : Prop :=
  (∀ (s : State) (q : Req) (off g : Nat) (v : Word), s.reaches_ q = true → off % 4 = 0 → off < 0x10000 → groupOf off = some g →
    rwMask q off ≠ 0#32 → Does (.registerWrite q off v) s (fun u =>
      stagedGet? (u.view q).staged off = some (merge (rwMask q off) (s.stagedView q off) v) ∧
      (∀ k, k ≠ off → stagedGet? (u.view q).staged k = stagedGet? (s.view q).staged k) ∧
      u.view q = { s.view q with staged := (u.view q).staged } ∧ (∀ p, p ≠ q → u.view p = s.view p) ∧ (∀ k, u.cfg k = s.cfg k) ∧
      u.regs.gen = s.regs.gen ∧ s.sameBut u [.regs])) ∧
  (∀ (s : State) (q : Req) (off g : Nat) (v : Word), s.reaches_ q = true → off % 4 = 0 → off < 0x10000 → groupOf off = some g →
    rwMask q off = 0#32 → Does (.registerWrite q off v) s (fun u => u = s))

/-- The offsets from 0x3000 to 0xFFFF (R425) read 0 for every requester, and a write there is ignored. -/
def Obligations.UnlistedOffsets : Prop :=
  (∀ (s : State) (q : Req) (off : Nat), s.reaches_ q = true → off % 4 = 0 → 0x3000 ≤ off → off < 0x10000 →
    Does (.lowHalfRead q off false) s (fun u => u.outbox = s.outbox ++ [Out.regValue q off 0#32] ∧ u.evt = s.evt)) ∧
  (∀ (s : State) (q : Req) (off : Nat) (v : Word), s.reaches_ q = true → off % 4 = 0 → 0x3000 ≤ off → off < 0x10000 →
    Does (.registerWrite q off v) s (fun u => u = s))

/-- Every transaction of the agent-side port that asks for no device operation completes with its own effect (R70, R71, R75,
R77, R81, R82, R84, R96): on an open port in which continuous read is not armed, an opcode whose entry is of the command's
class, in every mode and phase that the entry permits. An opcode that is not listed is refused and counted. Where a clause rests
on a reading of the model, log entries 14 name it. -/
def Obligations.PortCommandsComplete : Prop :=
  (∀ (s : State) (t : Txn) (e : Word), s.portOpen t.ch = true → (s.chan t.ch).port.xip = none →
    s.lookOp t.ch t.op t.ext = .listed e → opClass e = 2 →
    ∃ u, exec (.readSfdp t) s = .next u ∧ u.outbox = s.outbox ++ [Out.wire t.ch (s.dqs t.ch) (s.sfdpBytes t.ch (s.txnAddr t e) t.n)]) ∧
  (∀ (s : State) (t : Txn) (e : Word), s.portOpen t.ch = true → (s.chan t.ch).port.xip = none →
    s.lookOp t.ch t.op t.ext = .listed e → opClass e = 3 →
    ∃ u, exec (.readId t) s = .next u ∧ u.outbox = s.outbox ++ [Out.wire t.ch (s.dqs t.ch) (s.idBytes t.ch t.n)]) ∧
  (∀ (s : State) (t : Txn) (e : Word), s.portOpen t.ch = true → (s.chan t.ch).port.xip = none →
    s.lookOp t.ch t.op t.ext = .listed e → opClass e = 4 → t.endsAt = none →
    ∃ u, exec (.readReg t) s = .next u ∧ u.outbox = s.outbox ++ [Out.wire t.ch (s.dqs t.ch) (List.replicate t.n (s.emulReg t.ch (opArg e)))]) ∧
  (∀ (s : State) (t : Txn) (e : Word), s.portOpen t.ch = true → (s.chan t.ch).port.xip = none →
    s.lookOp t.ch t.op t.ext = .listed e → opClass e = 5 →
    ∃ u, exec (.writeEnable t) s = .next u ∧ (u.chan t.ch).port.wel = true ∧ u.outbox = s.outbox) ∧
  (∀ (s : State) (t : Txn) (e : Word), s.portOpen t.ch = true → (s.chan t.ch).port.xip = none →
    s.lookOp t.ch t.op t.ext = .listed e → opClass e = 6 →
    ∃ u, exec (.writeDisable t) s = .next u ∧ (u.chan t.ch).port.wel = false ∧ u.outbox = s.outbox) ∧
  (∀ (s : State) (t : Txn) (e : Word) (b : Byte) (r : List Byte), s.portOpen t.ch = true → (s.chan t.ch).port.xip = none →
    s.lookOp t.ch t.op t.ext = .listed e → opClass e = 12 → (s.chan t.ch).port.wel = true → t.onByte = true →
    t.data = b :: r → opArg e = 0 →
    ∃ u, exec (.writeReg t) s = .next u ∧ (u.chan t.ch).port.srHigh = b &&& 0xFC#8) ∧
  (∀ (s : State) (t : Txn) (e : Word) (b : Byte) (r : List Byte), s.portOpen t.ch = true → (s.chan t.ch).port.xip = none →
    s.lookOp t.ch t.op t.ext = .listed e → opClass e = 12 → (s.chan t.ch).port.wel = true → t.onByte = true →
    t.data = b :: r → opArg e ≠ 0 →
    ∃ u, exec (.writeReg t) s = .next u ∧ (u.chan t.ch).port.cr = b) ∧
  (∀ (s : State) (t : Txn) (e : Word) (m : Word) (b : Byte) (r : List Byte), s.portOpen t.ch = true → (s.chan t.ch).port.xip = none →
    s.lookOp t.ch t.op t.ext = .listed e → opClass e = 13 → (s.chan t.ch).port.wel = true → t.onByte = true →
    t.data = b :: r → s.modeSwitch t b = some m →
    ∃ u, exec (.modeset t) s = .next u ∧ (u.chan t.ch).port.cr = b ∧ (u.chan t.ch).port.mode = fld m 19 16 ∧
      (u.chan t.ch).port.addr4 = bit m 20 ∧ (u.chan t.ch).port.wel = false) ∧
  (∀ (s : State) (t : Txn) (e : Word), s.portOpen t.ch = true → (s.chan t.ch).port.xip = none →
    s.lookOp t.ch t.op t.ext = .listed e → opClass e = 14 →
    ∃ u, exec (.resetEnable t) s = .next u ∧ (u.chan t.ch).port.rstEn = true ∧ u.outbox = s.outbox) ∧
  (∀ (s : State) (t : Txn) (e : Word), s.portOpen t.ch = true → (s.chan t.ch).port.xip = none →
    s.lookOp t.ch t.op t.ext = .listed e → opClass e = 15 → (s.chan t.ch).port.rstEn = true →
    ∃ u, exec (.reset t) s = .next u ∧ (u.chan t.ch).port.mode = fld (s.cfg (fch t.ch 4)) 3 0 ∧
      (u.chan t.ch).port.addr4 = bit (s.cfg (fch t.ch 4)) 4 ∧ (u.chan t.ch).port.wel = false ∧ (u.chan t.ch).port.rstEn = false ∧
      (u.chan t.ch).port.pfail = false ∧ (u.chan t.ch).port.efail = false ∧ (u.chan t.ch).port.prot = false) ∧
  (∀ (s : State) (t : Txn) (e : Word), s.portOpen t.ch = true → (s.chan t.ch).port.xip = none →
    s.lookOp t.ch t.op t.ext = .listed e → opClass e = 16 →
    ∃ u, exec (.clearFail t) s = .next u ∧ (u.chan t.ch).port.pfail = false ∧ (u.chan t.ch).port.efail = false ∧
      (u.chan t.ch).port.prot = false ∧ (u.chan t.ch).port.wel = (s.chan t.ch).port.wel) ∧
  (∀ (s : State) (t : Txn) (e : Word), s.portOpen t.ch = true → (s.chan t.ch).port.xip = none →
    s.lookOp t.ch t.op t.ext = .listed e → opClass e = 17 →
    ∃ u, exec (.addrMode t) s = .next u ∧ (u.chan t.ch).port.addr4 = decide (opArg e = 0) ∧ (u.chan t.ch).port.mode = (s.chan t.ch).port.mode) ∧
  (∀ (s : State) (t : Txn) (e : Word), s.portOpen t.ch = true → (s.chan t.ch).port.xip = none →
    s.lookOp t.ch t.op t.ext = .listed e → opClass e = 18 →
    ∃ u, exec (.accept t) s = .next u ∧ (u.chan t.ch).port = { (s.chan t.ch).port with rstEn := false } ∧ u.outbox = s.outbox) ∧
  (∀ (s : State) (t : Txn), s.portOpen t.ch = true → (s.chan t.ch).port.xip = none → s.lookOp t.ch t.op t.ext = .unlisted →
    ∃ u, exec (.unlistedOpcode t) s = .next u ∧ (u.chan t.ch).port.refusals = wrap32 ((s.chan t.ch).port.refusals + 1) ∧
      s.raises u (64 * t.ch.val) (chArg 0 t.op.toNat 0 0))

/-- Commands of the registers, of the start and of I3C that complete with their own effect (R25, R37, R45, R50, R119, R126,
R136, R273, R359, R373, R405, R415), on conditions of the state and the operands alone. Where a clause rests on a reading of the
model, log entries 3, 7 and 22 name it. -/
def Obligations.CommandsComplete : Prop :=
  (∀ (s : State) (q : Req) (off : Nat) (v : Word), s.reaches_ q = true → off % 4 = 0 → off < 0x10000 →
    ∃ u, exec (.highHalfWrite q off v) s = .next u ∧ u = s.busWrite q off v) ∧
  (∀ (s : State) (q : Req) (lo hi : Word), s.reaches_ q = true → (s.view q).wlatch = some (0x51C, lo) →
    ∃ u, exec (.highHalfWrite q 0x520 hi) s = .next u ∧ (u.view q).rdno = lo.toNat + 2 ^ 32 * hi.toNat) ∧
  (∀ (s : State) (q : Req) (lo hi : Word) (c : Nat), s.reaches_ q = true → (s.view q).wlatch = some (0x70C, lo) →
    c = fld (s.ownReg q 0x708) 8 0 → counterOk c = true → ∃ u, exec (.highHalfWrite q 0x710 hi) s = .next u ∧
      u.cntr.vals = natPut s.cntr.vals c (lo.toNat + 2 ^ 32 * fld hi 15 0)) ∧
  (∀ (s : State) (q : Req) (lo hi : Word) (c : Nat), s.reaches_ q = true → (s.view q).wlatch = some (0x70C, lo) →
    c = fld (s.ownReg q 0x708) 8 0 → counterOk c = true → ∃ u, exec (.counterWrite q hi) s = .next u ∧
      u.cntr.vals = natPut s.cntr.vals c (lo.toNat + 2 ^ 32 * fld hi 15 0)) ∧
  (∀ (s : State) (v : Word) (k : Nat), s.reaches_ .int = true → k = routeKey (fld (s.ownReg .int 0x400) 9 0) →
    ∃ u, exec (.routeWrite .int v) s = .next u ∧
    stagedGet? (u.view .int).staged k = some (merge 0xF83F8F00#32 (s.stagedView .int k) v)) ∧
  (∀ (s : State) (q : Req) (a : Fin 2) (v : Word), s.reaches_ q = true → s.aux.ports[a].busy = false → v ≠ 0#32 →
    ∃ u, exec (.txdataWrite q a v) s = .next u ∧
      storeGet zeroDefault u.aux.ports[a].tx (fld (s.ownReg q (asReg a.val 0x10)) 8 0) = v) ∧
  (∀ (s : State), ∃ u, exec .cellarScrubPass s = .next u ∧ u = s) ∧
  (∀ (s : State), ∃ u, exec .tapReset s = .next u ∧ u = s) ∧
  (∀ (s : State) (f : PartFound) (d : Sfdp) (busMode hz : Nat) (hdrA hdrB : Option VaultHeader), s.starting = true →
    s.plat.boot.pll = true → s.plat.boot.vault = false → f.sfdp = some d →
    trainedSclk f.train (sclkSteps (if busMode % 3 = 2 then 9 else 0) 200) = some hz → f.stuck = false → 26 ≤ d.sizeLog →
    ∃ u, exec (.vaultIdentify (some f) none busMode hdrA hdrB) s = .next u ∧ u.plat.boot.vault = true ∧
      u.vault.parts[0].present = true ∧ u.vault.parts[0].sclk = hz ∧ u.vault.size0 = d.sizeLog) ∧
  (∀ (s : State) (n : Ch) (p0 p1 : Option PartFound) (s0 s1 s2 s3 : SlotFound), s.powered = true → s.plat.mode ≠ .lockdown →
    s.plat.fwRuns = true → s.policyApplied = true → s.enabled n = true → s.plat.boot.brought.contains n.val = false →
    (s.bringPart n 0 p0).2 = true → ((s.bringPart n 0 p0).1.bringPart n 1 p1).2 = true → s.crypt.pkuNext < 2 →
    ∃ u, exec (.channelBringup n p0 p1 s0 s1 s2 s3) s = .next u ∧ u.plat.boot.brought = n.val :: s.plat.boot.brought ∧
      (u.chan n).brought = true) ∧
  (∀ (s : State) (k : Nat) (b : Bundle) (mask : Word), s.powered = true → s.regs.cur = none → s.regs.waiting = [] →
    s.ident.polState = 2 → s.ident.storing = some (k, b) → mask = (s.stageBundle b).stagedMask .int ||| 0x80000000#32 →
    ((s.stageBundle b).setOwn .int 0x108 0xFFFF#32).badGroups .int mask = 0#32 →
    ∃ u, exec .policyApply s = .next u ∧ u.regs.cur = some (.int, mask) ∧ fld (u.ownReg .int 0x108) 15 0 = 0xFFFF ∧
      (u.view .int).staged = ((s.stageBundle b).view .int).staged ∧ u.ident = s.ident) ∧
  (∀ (s : State), s.exitReady = true → ∃ u, exec (.exitChecks true) s = .next u ∧ u.plat.mode = .verify ∧ u.plat.cause = 4) ∧
  (∀ (s : State) (p : Fin 2) (a : Nat), s.i3cOn p.val = true → (s.sb p.val).dyn = none → ∃ u, exec (.entdaa p a) s = .next u ∧
    (u.sb p.val).dyn = some (a % 128)) ∧
  (∀ (s : State) (p : Fin 2) (n : Nat), s.i3cOn p.val = true → (s.sb p.val).dyn = none →
    ∃ u, exec (.setdasa p s.sbStatic n) s = .next u ∧ (u.sb p.val).dyn = some (n % 128)) ∧
  (∀ (s : State) (p : Fin 2) (a n : Nat), s.i3cOn p.val = true → (s.sb p.val).dyn = some a →
    ∃ u, exec (.setnewda p a n) s = .next u ∧ (u.sb p.val).dyn = some (n % 128)) ∧
  (∀ (s : State) (p : Fin 2), s.i3cOn p.val = true → ∃ u, exec (.rstdaa p) s = .next u ∧ (u.sb p.val).dyn = none ∧
    (u.sb p.val).eid = 0) ∧
  (∀ (s : State) (p : Fin 2) (dst : Option Nat), s.i3cOn p.val = true → (dst = none ∨ dst = some (s.sbAddr p.val)) →
    ∃ u, exec (.enec p dst true) s = .next u ∧ (u.sb p.val).ibi = true) ∧
  (∀ (s : State) (p : Fin 2) (dst : Option Nat), s.i3cOn p.val = true → (dst = none ∨ dst = some (s.sbAddr p.val)) →
    ∃ u, exec (.disec p dst true) s = .next u ∧ (u.sb p.val).ibi = false) ∧
  (∀ (s : State) (p : Fin 2) (dst : Option Nat) (v : Nat), s.i3cOn p.val = true → (dst = none ∨ dst = some (s.sbAddr p.val)) →
    ∃ u, exec (.setmwl p dst v) s = .next u ∧ (u.sb p.val).mwl = v % 65536) ∧
  (∀ (s : State) (p : Fin 2) (dst : Option Nat) (v : Nat), s.i3cOn p.val = true → (dst = none ∨ dst = some (s.sbAddr p.val)) →
    ∃ u, exec (.setmrl p dst v) s = .next u ∧ (u.sb p.val).mrl = v % 65536) ∧
  (∀ (s : State) (p : Fin 2), s.i3cOn p.val = true → ∃ u, exec (.getpid p (s.sbAddr p.val)) s = .next u ∧
    u.outbox = s.outbox ++ [Out.side p.val (s.provisionalId p.val)]) ∧
  (∀ (s : State) (p : Fin 2), s.i3cOn p.val = true → ∃ u, exec (.getbcr p (s.sbAddr p.val)) s = .next u ∧
    u.outbox = s.outbox ++ [Out.side p.val ([0x06#8])]) ∧
  (∀ (s : State) (p : Fin 2), s.i3cOn p.val = true → ∃ u, exec (.getdcr p (s.sbAddr p.val)) s = .next u ∧
    u.outbox = s.outbox ++ [Out.side p.val ([0xCC#8])]) ∧
  (∀ (s : State) (p : Fin 2), s.i3cOn p.val = true → ∃ u, exec (.getmwl p (s.sbAddr p.val)) s = .next u ∧
    u.outbox = s.outbox ++ [Out.side p.val (beBytes 2 (s.sb p.val).mwl)]) ∧
  (∀ (s : State) (p : Fin 2), s.i3cOn p.val = true → ∃ u, exec (.getmrl p (s.sbAddr p.val)) s = .next u ∧
    u.outbox = s.outbox ++ [Out.side p.val (beBytes 2 (s.sb p.val).mrl ++ [0x01#8])]) ∧
  (∀ (s : State) (p : Fin 2), s.i3cOn p.val = true → ∃ u bs, exec (.getstatus p (s.sbAddr p.val)) s = .next u ∧ bs.length = 2 ∧
    u.outbox = s.outbox ++ [Out.side p.val bs]) ∧
  (∀ (s : State) (p : Fin 2), s.i3cOn p.val = true → ∃ u bs, exec (.getmxds p (s.sbAddr p.val)) s = .next u ∧ bs.length = 2 ∧
    u.outbox = s.outbox ++ [Out.side p.val bs])
end

