-- ==== Sys2Proof/Laws/Same.lean ====
section
/-! SUPPORT. Laws/Same.lean: how the claim that two states differ in named components alone is put together. -/

namespace Sys2Proof.Machine

/-- The place of a component in a mask. -/
def Comp.idx : Comp → Nat
  | .pending => 0
  | .time => 1
  | .freeCtr => 2
  | .outbox => 3
  | .regs => 4
  | .evt => 5
  | .plat => 6
  | .keeper => 7
  | .chs => 8
  | .cellar => 9
  | .press => 10
  | .vault => 11
  | .ctl => 12
  | .cntr => 13
  | .tlm => 14
  | .wd0 => 15
  | .clk => 16
  | .host => 17
  | .ident => 18
  | .sealing => 19
  | .crypt => 20
  | .life => 21
  | .side => 22
  | .aux => 23

/-- The mask of a list of components. -/
def mask : List Comp → Nat
  | [] => 0
  | c :: r => 2 ^ c.idx ||| mask r

/-- A list names every component that another names. -/
def covers (qs ps : List Comp) : Bool := mask qs ||| mask ps == mask ps

theorem Comp.idx_inj {c d : Comp} (h : c.idx = d.idx) : c = d := by
  cases c <;> cases d <;> first | rfl | exact absurd h (by decide)

theorem mem_iff_testBit (c : Comp) (ps : List Comp) : (mask ps).testBit c.idx = true ↔ c ∈ ps := by
  induction ps with
  | nil => simp [mask]
  | cons d r ih =>
    simp only [mask, Nat.testBit_or, Nat.testBit_two_pow, Bool.or_eq_true, decide_eq_true_eq, ih, List.mem_cons]
    constructor
    · rintro (h | h)
      · exact .inl (Comp.idx_inj h).symm
      · exact .inr h
    · rintro (h | h)
      · exact .inl (by rw [h])
      · exact .inr h

theorem covers_mem {qs ps : List Comp} (h : covers qs ps = true) {c : Comp} (hc : c ∈ qs) : c ∈ ps := by
  have h : mask qs ||| mask ps = mask ps := by simpa [covers] using h
  rw [← mem_iff_testBit] at hc ⊢
  rw [← h, Nat.testBit_or, hc, Bool.true_or]

theorem State.sameBut.refl {ps : List Comp} {s : State} : s.sameBut s ps := fun c _ => by cases c <;> rfl

theorem Comp.same_trans {c : Comp} {s t u : State} (h : c.same s t) (k : c.same t u) : c.same s u := by
  cases c <;> exact Eq.trans k h

theorem State.sameBut.step {ps qs : List Comp} {s t u : State} (h : s.sameBut t ps) (k : t.sameBut u qs)
    (c : covers qs ps = true) : s.sameBut u ps :=
  fun x hx => Comp.same_trans (h x hx) (k x (fun hm => hx (covers_mem c hm)))

theorem State.sameBut.mono {ps qs : List Comp} {s t : State} (k : s.sameBut t qs) (c : covers qs ps = true) : s.sameBut t ps :=
  State.sameBut.refl.step k c

theorem State.sameBut.ite {ps : List Comp} {s a b : State} {c : Prop} [Decidable c] (h : s.sameBut a ps) (k : s.sameBut b ps) :
    s.sameBut (if c then a else b) ps := by split <;> assumption

theorem State.sameBut.dite {ps : List Comp} {s : State} {c : Prop} [Decidable c] {a : c → State} {b : ¬c → State}
    (h : ∀ x, s.sameBut (a x) ps) (k : ∀ x, s.sameBut (b x) ps) : s.sameBut (if x : c then a x else b x) ps := by
  split <;> simp_all

theorem State.sameBut.ite_fst {α : Type} {ps : List Comp} {s : State} {a b : State × α} {c : Prop} [Decidable c]
    (h : s.sameBut a.1 ps) (k : s.sameBut b.1 ps) : s.sameBut (if c then a else b).1 ps := by split <;> assumption

theorem State.sameBut.foldl {α : Type} {ps : List Comp} {s a : State} {f : State → α → State} {l : List α}
    (k : ∀ t x, s.sameBut t ps → s.sameBut (f t x) ps) (h : s.sameBut a ps) : s.sameBut (l.foldl f a) ps := by
  induction l generalizing a with
  | nil => exact h
  | cons x r ih => exact ih (k a x h)

theorem State.sameBut.of_next {φ ρ : Type} {ps : List Comp} {s t u : State} (h : s.sameBut u ps)
    (e : (Host.Outcome.next u : Host.Outcome State φ ρ) = .next t) : s.sameBut t ps := by
  cases e; exact h

theorem covers_trans {a b c : List Comp} (h : covers a b = true) (k : covers b c = true) : covers a c = true := by
  simp only [covers, beq_iff_eq] at *
  rw [← k, ← Nat.or_assoc, h]

theorem State.sameBut.letS {ps : List Comp} {s e : State} (x : State) (h : s.sameBut x ps)
    (k : s.sameBut x ps → s.sameBut e ps) : s.sameBut e ps := k h

theorem State.sameBut.letP {α : Type} {ps : List Comp} {s e : State} (x : State × α) (h : s.sameBut x.1 ps)
    (k : s.sameBut x.1 ps → s.sameBut e ps) : s.sameBut e ps := k h

theorem State.sameBut.fst_mk {α : Type} {ps : List Comp} {s a : State} {b : α} (h : s.sameBut a ps) :
    s.sameBut (a, b).1 ps := h

theorem State.sameBut.dite_fst {α : Type} {ps : List Comp} {s : State} {c : Prop} [Decidable c] {a : c → State × α}
    {b : ¬c → State × α} (h : ∀ x, s.sameBut (a x).1 ps) (k : ∀ x, s.sameBut (b x).1 ps) :
    s.sameBut (if x : c then a x else b x).1 ps := by
  split <;> simp_all

theorem State.sameBut.foldl_fst {α β : Type} {ps : List Comp} {s : State} {a : State × β} {f : State × β → α → State × β}
    {l : List α} (k : ∀ t x, s.sameBut t.1 ps → s.sameBut (f t x).1 ps) (h : s.sameBut a.1 ps) :
    s.sameBut (l.foldl f a).1 ps := by
  induction l generalizing a with
  | nil => exact h
  | cons x r ih => exact ih (k a x h)

/-! ## One component replaced -/

theorem State.sameBut.pending {s : State} (x) : s.sameBut { s with pending := x } [.pending] := fun c h => by
  cases c <;> first | rfl | exact absurd List.mem_cons_self h

theorem State.sameBut.time {s : State} (x) : s.sameBut { s with time := x } [.time] := fun c h => by
  cases c <;> first | rfl | exact absurd List.mem_cons_self h

theorem State.sameBut.freeCtr {s : State} (x) : s.sameBut { s with freeCtr := x } [.freeCtr] := fun c h => by
  cases c <;> first | rfl | exact absurd List.mem_cons_self h

theorem State.sameBut.outbox {s : State} (x) : s.sameBut { s with outbox := x } [.outbox] := fun c h => by
  cases c <;> first | rfl | exact absurd List.mem_cons_self h

theorem State.sameBut.regs {s : State} (x) : s.sameBut { s with regs := x } [.regs] := fun c h => by
  cases c <;> first | rfl | exact absurd List.mem_cons_self h

theorem State.sameBut.evt {s : State} (x) : s.sameBut { s with evt := x } [.evt] := fun c h => by
  cases c <;> first | rfl | exact absurd List.mem_cons_self h

theorem State.sameBut.plat {s : State} (x) : s.sameBut { s with plat := x } [.plat] := fun c h => by
  cases c <;> first | rfl | exact absurd List.mem_cons_self h

theorem State.sameBut.keeper {s : State} (x) : s.sameBut { s with keeper := x } [.keeper] := fun c h => by
  cases c <;> first | rfl | exact absurd List.mem_cons_self h

theorem State.sameBut.chs {s : State} (x) : s.sameBut { s with chs := x } [.chs] := fun c h => by
  cases c <;> first | rfl | exact absurd List.mem_cons_self h

theorem State.sameBut.cellar {s : State} (x) : s.sameBut { s with cellar := x } [.cellar] := fun c h => by
  cases c <;> first | rfl | exact absurd List.mem_cons_self h

theorem State.sameBut.press {s : State} (x) : s.sameBut { s with press := x } [.press] := fun c h => by
  cases c <;> first | rfl | exact absurd List.mem_cons_self h

theorem State.sameBut.vault {s : State} (x) : s.sameBut { s with vault := x } [.vault] := fun c h => by
  cases c <;> first | rfl | exact absurd List.mem_cons_self h

theorem State.sameBut.ctl {s : State} (x) : s.sameBut { s with ctl := x } [.ctl] := fun c h => by
  cases c <;> first | rfl | exact absurd List.mem_cons_self h

theorem State.sameBut.cntr {s : State} (x) : s.sameBut { s with cntr := x } [.cntr] := fun c h => by
  cases c <;> first | rfl | exact absurd List.mem_cons_self h

theorem State.sameBut.tlm {s : State} (x) : s.sameBut { s with tlm := x } [.tlm] := fun c h => by
  cases c <;> first | rfl | exact absurd List.mem_cons_self h

theorem State.sameBut.wd0 {s : State} (x) : s.sameBut { s with wd0 := x } [.wd0] := fun c h => by
  cases c <;> first | rfl | exact absurd List.mem_cons_self h

theorem State.sameBut.clk {s : State} (x) : s.sameBut { s with clk := x } [.clk] := fun c h => by
  cases c <;> first | rfl | exact absurd List.mem_cons_self h

theorem State.sameBut.host {s : State} (x) : s.sameBut { s with host := x } [.host] := fun c h => by
  cases c <;> first | rfl | exact absurd List.mem_cons_self h

theorem State.sameBut.ident {s : State} (x) : s.sameBut { s with ident := x } [.ident] := fun c h => by
  cases c <;> first | rfl | exact absurd List.mem_cons_self h

theorem State.sameBut.sealing {s : State} (x) : s.sameBut { s with sealing := x } [.sealing] := fun c h => by
  cases c <;> first | rfl | exact absurd List.mem_cons_self h

theorem State.sameBut.crypt {s : State} (x) : s.sameBut { s with crypt := x } [.crypt] := fun c h => by
  cases c <;> first | rfl | exact absurd List.mem_cons_self h

theorem State.sameBut.life {s : State} (x) : s.sameBut { s with life := x } [.life] := fun c h => by
  cases c <;> first | rfl | exact absurd List.mem_cons_self h

theorem State.sameBut.side {s : State} (x) : s.sameBut { s with side := x } [.side] := fun c h => by
  cases c <;> first | rfl | exact absurd List.mem_cons_self h

theorem State.sameBut.aux {s : State} (x) : s.sameBut { s with aux := x } [.aux] := fun c h => by
  cases c <;> first | rfl | exact absurd List.mem_cons_self h

/-! ## Several components replaced -/

theorem State.sameBut.cellar_crypt {s : State} (x0 x1) :
    s.sameBut { s with cellar := x0, crypt := x1 } [.cellar, .crypt] := fun c h => by
  cases c <;> first | rfl | exact absurd h (by simp)

theorem State.sameBut.cellar_vault {s : State} (x0 x1) :
    s.sameBut { s with cellar := x0, vault := x1 } [.cellar, .vault] := fun c h => by
  cases c <;> first | rfl | exact absurd h (by simp)

theorem State.sameBut.ctl_ident {s : State} (x0 x1) :
    s.sameBut { s with ctl := x0, ident := x1 } [.ctl, .ident] := fun c h => by
  cases c <;> first | rfl | exact absurd h (by simp)

theorem State.sameBut.evt_vault_sealing_crypt {s : State} (x0 x1 x2 x3) :
    s.sameBut { s with evt := x0, vault := x1, sealing := x2, crypt := x3 } [.evt, .vault, .sealing, .crypt] := fun c h => by
  cases c <;> first | rfl | exact absurd h (by simp)

theorem State.sameBut.host_ident {s : State} (x0 x1) :
    s.sameBut { s with host := x0, ident := x1 } [.host, .ident] := fun c h => by
  cases c <;> first | rfl | exact absurd h (by simp)

theorem State.sameBut.keeper_life {s : State} (x0 x1) :
    s.sameBut { s with keeper := x0, life := x1 } [.keeper, .life] := fun c h => by
  cases c <;> first | rfl | exact absurd h (by simp)

theorem State.sameBut.plat_ctl_ident {s : State} (x0 x1 x2) :
    s.sameBut { s with plat := x0, ctl := x1, ident := x2 } [.plat, .ctl, .ident] := fun c h => by
  cases c <;> first | rfl | exact absurd h (by simp)

theorem State.sameBut.plat_ident {s : State} (x0 x1) :
    s.sameBut { s with plat := x0, ident := x1 } [.plat, .ident] := fun c h => by
  cases c <;> first | rfl | exact absurd h (by simp)

theorem State.sameBut.plat_keeper {s : State} (x0 x1) :
    s.sameBut { s with plat := x0, keeper := x1 } [.plat, .keeper] := fun c h => by
  cases c <;> first | rfl | exact absurd h (by simp)

theorem State.sameBut.regs_press_host_sealing {s : State} (x0 x1 x2 x3) :
    s.sameBut { s with regs := x0, press := x1, host := x2, sealing := x3 } [.regs, .press, .host, .sealing] := fun c h => by
  cases c <;> first | rfl | exact absurd h (by simp)

theorem State.sameBut.tlm_sealing {s : State} (x0 x1) :
    s.sameBut { s with tlm := x0, sealing := x1 } [.tlm, .sealing] := fun c h => by
  cases c <;> first | rfl | exact absurd h (by simp)

theorem State.sameBut.ctl_ident_life {s : State} (x0 x1 x2) :
    s.sameBut { s with ctl := x0, ident := x1, life := x2 } [.ctl, .ident, .life] := fun c h => by
  cases c <;> first | rfl | exact absurd h (by simp)

theorem State.sameBut.regs_evt_plat_keeper_chs_cellar_press_vault_ctl_cntr_tlm_wd0_clk_host_ident_sealing_crypt_life_side_aux
    {s : State} (x0 x1 x2 x3 x4 x5 x6 x7 x8 x9 x10 x11 x12 x13 x14 x15 x16 x17 x18 x19) :
    s.sameBut { s with regs := x0, evt := x1, plat := x2, keeper := x3, chs := x4, cellar := x5, press := x6, vault := x7, ctl := x8, cntr := x9, tlm := x10, wd0 := x11
                       clk := x12, host := x13, ident := x14, sealing := x15, crypt := x16, life := x17, side := x18, aux := x19 }
      [.regs, .evt, .plat, .keeper, .chs, .cellar, .press, .vault, .ctl, .cntr, .tlm, .wd0, .clk, .host,
       .ident, .sealing, .crypt, .life, .side, .aux] := fun c h => by
  cases c <;> first | rfl | exact absurd h (by simp)

theorem State.sameBut.ctl_host {s : State} (x0 x1) :
    s.sameBut { s with ctl := x0, host := x1 } [.ctl, .host] := fun c h => by
  cases c <;> first | rfl | exact absurd h (by simp)

theorem State.sameBut.plat_ctl_host {s : State} (x0 x1 x2) :
    s.sameBut { s with plat := x0, ctl := x1, host := x2 } [.plat, .ctl, .host] := fun c h => by
  cases c <;> first | rfl | exact absurd h (by simp)

theorem State.sameBut.plat_keeper_side {s : State} (x0 x1 x2) :
    s.sameBut { s with plat := x0, keeper := x1, side := x2 } [.plat, .keeper, .side] := fun c h => by
  cases c <;> first | rfl | exact absurd h (by simp)

theorem State.sameBut.plat_vault {s : State} (x0 x1) :
    s.sameBut { s with plat := x0, vault := x1 } [.plat, .vault] := fun c h => by
  cases c <;> first | rfl | exact absurd h (by simp)

theorem State.sameBut.plat_crypt {s : State} (x0 x1) :
    s.sameBut { s with plat := x0, crypt := x1 } [.plat, .crypt] := fun c h => by
  cases c <;> first | rfl | exact absurd h (by simp)

theorem State.sameBut.plat_clk {s : State} (x0 x1) :
    s.sameBut { s with plat := x0, clk := x1 } [.plat, .clk] := fun c h => by
  cases c <;> first | rfl | exact absurd h (by simp)

theorem State.sameBut.sealing_crypt {s : State} (x0 x1) :
    s.sameBut { s with sealing := x0, crypt := x1 } [.sealing, .crypt] := fun c h => by
  cases c <;> first | rfl | exact absurd h (by simp)

theorem State.sameBut.regs_keeper_life {s : State} (x0 x1 x2) :
    s.sameBut { s with regs := x0, keeper := x1, life := x2 } [.regs, .keeper, .life] := fun c h => by
  cases c <;> first | rfl | exact absurd h (by simp)

theorem State.sameBut.regs_keeper {s : State} (x0 x1) :
    s.sameBut { s with regs := x0, keeper := x1 } [.regs, .keeper] := fun c h => by
  cases c <;> first | rfl | exact absurd h (by simp)

theorem State.sameBut.plat_vault_ident {s : State} (x0 x1 x2) :
    s.sameBut { s with plat := x0, vault := x1, ident := x2 } [.plat, .vault, .ident] := fun c h => by
  cases c <;> first | rfl | exact absurd h (by simp)

theorem State.sameBut.vault_ident {s : State} (x0 x1) :
    s.sameBut { s with vault := x0, ident := x1 } [.vault, .ident] := fun c h => by
  cases c <;> first | rfl | exact absurd h (by simp)

theorem State.sameBut.ident_crypt {s : State} (x0 x1) :
    s.sameBut { s with ident := x0, crypt := x1 } [.ident, .crypt] := fun c h => by
  cases c <;> first | rfl | exact absurd h (by simp)

end Sys2Proof.Machine
end

