-- ==== Sys2Proof/Laws/FrameOps.lean ====
section
/-! SUPPORT. Laws/FrameOps.lean: for each shared operation, the components of the state it may change. -/

namespace Sys2Proof.Machine

theorem State.raiseAt_keeps (s : State) (src : Nat) (sev : Nat) (arg : Nat) : s.sameBut (State.raiseAt s src sev arg) [.evt] := by
  unfold State.raiseAt
  refine .step ?_ (State.sameBut.evt _) rfl
  exact .refl

theorem State.raise_keeps (s : State) (src : Nat) (arg : Nat) : s.sameBut (State.raise s src arg) [.evt] := by
  unfold State.raise
  refine .step ?_ (State.raiseAt_keeps _ _ _ _) rfl
  exact .refl

theorem State.raiseCh_keeps (s : State) (n : Ch) (k : Nat) (arg : Nat) : s.sameBut (State.raiseCh s n k arg) [.evt] := by
  unfold State.raiseCh
  refine .step ?_ (State.raise_keeps _ _ _) rfl
  exact .refl

theorem State.setChan_keeps (s : State) (n : Ch) (c : Chan) : s.sameBut (State.setChan s n c) [.chs] := by
  unfold State.setChan
  refine .step ?_ (State.sameBut.chs _) rfl
  exact .refl

theorem State.updChan_keeps (s : State) (n : Ch) (f : Chan → Chan) : s.sameBut (State.updChan s n f) [.chs] := by
  unfold State.updChan
  refine .step ?_ (State.setChan_keeps _ _ _) rfl
  exact .refl

theorem State.setPhase_keeps (s : State) (n : Ch) (p : Phase) : s.sameBut (State.setPhase s n p) [.evt, .chs] := by
  unfold State.setPhase
  refine .ite ?_ ?_
  · exact .refl
  · refine .step ?_ (State.raiseCh_keeps _ _ _ _) rfl
    refine .step ?_ (State.updChan_keeps _ _ _) rfl
    exact .refl

theorem State.runAfterCopy_keeps (s : State) (n : Ch) : s.sameBut (State.runAfterCopy s n) [.evt, .chs] := by
  unfold State.runAfterCopy
  refine .ite ?_ ?_
  · refine .step ?_ (State.setPhase_keeps _ _ _) rfl
    exact .refl
  · exact .refl

theorem State.updSlot_keeps (s : State) (n : Ch) (k : SlotId) (f : Slot → Slot) : s.sameBut (State.updSlot s n k f) [.chs] := by
  unfold State.updSlot
  refine .step ?_ (State.updChan_keeps _ _ _) rfl
  exact .refl

theorem State.abandonUpdate_keeps (s : State) (n : Ch) (k : SlotId) : s.sameBut (State.abandonUpdate s n k) [.evt, .chs] := by
  unfold State.abandonUpdate
  refine .step ?_ (State.raiseCh_keeps _ _ _ _) rfl
  refine .step ?_ (State.runAfterCopy_keeps _ _) rfl
  refine .step ?_ (State.updSlot_keeps _ _ _ _) rfl
  exact .refl

theorem State.raiseIf_keeps (s : State) (c : Bool) (src : Nat) (arg : Nat) : s.sameBut (State.raiseIf s c src arg) [.evt] := by
  unfold State.raiseIf
  refine .ite ?_ ?_
  · refine .step ?_ (State.raise_keeps _ _ _) rfl
    exact .refl
  · exact .refl

theorem State.storeCounter_keeps (s : State) (i : Nat) (sum : Nat) : s.sameBut (State.storeCounter s i sum) [.evt, .cntr] := by
  unfold State.storeCounter
  refine .ite ?_ ?_
  · exact .refl
  · extract_lets +onlyGivenNames x1
    clear_value x1
    extract_lets +onlyGivenNames x2
    refine .letS x2 ?_ (fun hx2 => ?_)
    · unfold x2
      refine .step ?_ (State.sameBut.cntr _) rfl
      exact .refl
    clear_value x2
    refine .step ?_ (State.raiseIf_keeps _ _ _ _) rfl
    assumption

theorem State.addCounter_keeps (s : State) (i : Nat) (k : Nat) : s.sameBut (State.addCounter s i k) [.evt, .cntr] := by
  unfold State.addCounter
  refine .ite ?_ ?_
  · exact .refl
  · refine .step ?_ (State.storeCounter_keeps _ _ _) rfl
    exact .refl

theorem State.cntQ_keeps (s : State) (i : Nat) (k : Nat) : s.sameBut (State.cntQ s i k) [.evt, .cntr] := by
  unfold State.cntQ
  refine .step ?_ (State.addCounter_keeps _ _ _) rfl
  exact .refl

theorem State.dropFetched_keeps (s : State) (f : Fetched) : s.sameBut (State.dropFetched s f) [.host] := by
  unfold State.dropFetched
  refine .step ?_ (State.sameBut.host _) rfl
  exact .refl

theorem State.emit_keeps (s : State) (o : Out) : s.sameBut (State.emit s o) [.outbox] := by
  unfold State.emit
  refine .step ?_ (State.sameBut.outbox _) rfl
  exact .refl

theorem State.hostWrite_keeps (s : State) (addr : Nat) (bs : List Byte) : s.sameBut (State.hostWrite s addr bs) [.outbox, .evt, .cntr, .tlm] := by
  unfold State.hostWrite
  extract_lets +onlyGivenNames x1
  refine .letS x1 ?_ (fun hx1 => ?_)
  · unfold x1
    refine .step ?_ (State.emit_keeps _ _) rfl
    refine .step ?_ (State.cntQ_keeps _ _ _) rfl
    exact .refl
  clear_value x1
  refine .step ?_ (State.sameBut.tlm _) rfl
  assumption

theorem State.updQueue_keeps (s : State) (q : Nat) (f : HQueue → HQueue) : s.sameBut (State.updQueue s q f) [.host] := by
  unfold State.updQueue
  refine .dite (fun _ => ?_) (fun _ => ?_)
  · refine .step ?_ (State.sameBut.host _) rfl
    exact .refl
  · exact .refl

theorem State.msi_keeps (s : State) (v : Nat) : s.sameBut (State.msi s v) [.outbox, .evt, .cntr, .host] := by
  unfold State.msi
  refine .dite (fun _ => ?_) (fun _ => ?_)
  · extract_lets +onlyGivenNames x1
    clear_value x1
    refine .ite ?_ ?_
    · refine .step ?_ (State.sameBut.host _) rfl
      exact .refl
    · refine .step ?_ (State.emit_keeps _ _) rfl
      refine .step ?_ (State.cntQ_keeps _ _ _) rfl
      exact .refl
  · exact .refl

theorem State.qWrite_keeps (s : State) (q : Nat) (bytes : Nat) (noint : Bool) (entry : Bool → List Byte) : s.sameBut (State.qWrite s q bytes noint entry) [.outbox, .evt, .cntr, .tlm, .host] := by
  unfold State.qWrite
  extract_lets +onlyGivenNames x1
  clear_value x1
  extract_lets +onlyGivenNames x2
  refine .letS x2 ?_ (fun hx2 => ?_)
  · unfold x2
    refine .step ?_ (State.hostWrite_keeps _ _ _) rfl
    exact .refl
  clear_value x2
  extract_lets +onlyGivenNames x3
  clear_value x3
  extract_lets +onlyGivenNames x4
  clear_value x4
  extract_lets +onlyGivenNames x5
  clear_value x5
  extract_lets +onlyGivenNames x6
  refine .letS x6 ?_ (fun hx6 => ?_)
  · unfold x6
    refine .step ?_ (State.updQueue_keeps _ _ _) rfl
    assumption
  clear_value x6
  refine .ite ?_ ?_
  · refine .step ?_ (State.msi_keeps _ _) rfl
    assumption
  · assumption

theorem State.sendCpl_keeps (s : State) (r : Retained) : s.sameBut (State.sendCpl s r).1 [.outbox, .evt, .cntr, .tlm, .host] := by
  unfold State.sendCpl
  refine .ite_fst ?_ ?_
  · refine .fst_mk ?_
    refine .step ?_ (State.qWrite_keeps _ _ _ _ _) rfl
    exact .refl
  · refine .fst_mk ?_
    exact .refl

theorem State.postCpl_keeps (s : State) (sq : Nat) (c : Cpl) (noint : Bool) (receipt : Option (Nat × List Byte)) : s.sameBut (State.postCpl s sq c noint receipt) [.outbox, .evt, .cntr, .tlm, .host] := by
  unfold State.postCpl
  extract_lets +onlyGivenNames x1
  refine .letP x1 ?_ (fun hx1 => ?_)
  · unfold x1
    refine .step ?_ (State.sendCpl_keeps _ _) rfl
    exact .refl
  clear_value x1
  extract_lets +onlyGivenNames x2
  refine .letS x2 ?_ (fun hx2 => ?_)
  · unfold x2
    assumption
  clear_value x2
  refine .step ?_ (State.sameBut.host _) rfl
  assumption

theorem State.completeCmd_keeps (s : State) (f : Fetched) (r : Reply) : s.sameBut (State.completeCmd s f r) [.outbox, .evt, .cntr, .tlm, .host] := by
  unfold State.completeCmd
  refine .ite ?_ ?_
  · exact .refl
  · extract_lets +onlyGivenNames x1
    refine .letS x1 ?_ (fun hx1 => ?_)
    · unfold x1
      refine .step ?_ (State.dropFetched_keeps _ _) rfl
      exact .refl
    clear_value x1
    extract_lets +onlyGivenNames x2
    refine .letS x2 ?_ (fun hx2 => ?_)
    · unfold x2
      refine .ite ?_ ?_
      · refine .step ?_ (State.cntQ_keeps _ _ _) rfl
        refine .step ?_ (State.cntQ_keeps _ _ _) rfl
        assumption
      · assumption
    clear_value x2
    refine .step ?_ (State.postCpl_keeps _ _ _ _ _) rfl
    assumption

theorem State.failSeg_keeps (s : State) (g : Seg) (st : Status) : s.sameBut (State.failSeg s g st) [.outbox, .evt, .cntr, .tlm, .host, .sealing] := by
  unfold State.failSeg
  extract_lets +onlyGivenNames x1
  clear_value x1
  extract_lets +onlyGivenNames x2
  clear_value x2
  extract_lets +onlyGivenNames x3
  refine .letS x3 ?_ (fun hx3 => ?_)
  · unfold x3
    refine .ite ?_ ?_
    · refine .step ?_ (State.sameBut.tlm_sealing _ _) rfl
      exact .refl
    · exact .refl
  clear_value x3
  extract_lets +onlyGivenNames x4
  refine .letS x4 ?_ (fun hx4 => ?_)
  · unfold x4
    refine .ite ?_ ?_
    · refine .step ?_ (State.cntQ_keeps _ _ _) rfl
      assumption
    · refine .ite ?_ ?_
      · refine .step ?_ (State.cntQ_keeps _ _ _) rfl
        assumption
      · assumption
  clear_value x4
  refine .step ?_ (State.completeCmd_keeps _ _ _) rfl
  assumption

theorem State.abortQueue_keeps (s : State) (q : Nat) : s.sameBut (State.abortQueue s q) [.outbox, .evt, .cntr, .tlm, .host, .sealing] := by
  unfold State.abortQueue
  extract_lets +onlyGivenNames x1
  clear_value x1
  extract_lets +onlyGivenNames x2
  clear_value x2
  extract_lets +onlyGivenNames x3
  refine .letS x3 ?_ (fun hx3 => ?_)
  · unfold x3
    refine .step ?_ (State.sameBut.sealing _) rfl
    exact .refl
  clear_value x3
  extract_lets +onlyGivenNames x4
  refine .letS x4 ?_ (fun hx4 => ?_)
  · unfold x4
    refine .foldl (fun _ _ _ => ?_) ?_
    · refine .step ?_ (State.failSeg_keeps _ _ _) rfl
      assumption
    · assumption
  clear_value x4
  refine .foldl (fun _ _ _ => ?_) ?_
  · refine .step ?_ (State.completeCmd_keeps _ _ _) rfl
    assumption
  · assumption

theorem State.updPort_keeps (s : State) (n : Ch) (f : Port → Port) : s.sameBut (State.updPort s n f) [.chs] := by
  unfold State.updPort
  refine .step ?_ (State.updChan_keeps _ _ _) rfl
  exact .refl

theorem State.cntNat_keeps (s : State) (n : Nat) (code : Nat) (k : Nat) : s.sameBut (State.cntNat s n code k) [.evt, .cntr] := by
  unfold State.cntNat
  refine .foldl (fun _ _ _ => ?_) ?_
  · refine .ite ?_ ?_
    · refine .step ?_ (State.addCounter_keeps _ _ _) rfl
      assumption
    · assumption
  · exact .refl

theorem State.cnt_keeps (s : State) (n : Ch) (code : Nat) (k : Nat) : s.sameBut (State.cnt s n code k) [.evt, .cntr] := by
  unfold State.cnt
  refine .step ?_ (State.cntNat_keeps _ _ _ _) rfl
  exact .refl

theorem State.acceptOp_keeps (s : State) (t : Txn) (kind : OpKind) (r : Range) (payload : List Byte) : s.sameBut (State.acceptOp s t kind r payload) [.evt, .chs, .cntr] := by
  unfold State.acceptOp
  split
  · refine .step ?_ (State.updPort_keeps _ _ _) rfl
    exact .refl
  · refine .step ?_ (State.cnt_keeps _ _ _ _) rfl
    refine .step ?_ (State.updPort_keeps _ _ _) rfl
    exact .refl

theorem State.setCfg_keeps (s : State) (key : Nat) (v : Word) : s.sameBut (State.setCfg s key v) [.regs] := by
  unfold State.setCfg
  refine .step ?_ (State.sameBut.regs _) rfl
  exact .refl

theorem State.commitField_keeps (s : State) (key : Nat) (v : Word) : s.sameBut (State.commitField s key v) [.regs] := by
  unfold State.commitField
  extract_lets +onlyGivenNames x1
  refine .letS x1 ?_ (fun hx1 => ?_)
  · unfold x1
    refine .step ?_ (State.setCfg_keeps _ _ _) rfl
    exact .refl
  clear_value x1
  extract_lets +onlyGivenNames x2
  clear_value x2
  refine .step ?_ (State.sameBut.regs _) rfl
  assumption

theorem State.platChange_keeps (s : State) : s.sameBut (State.platChange s) [.ident] := by
  unfold State.platChange
  refine .step ?_ (State.sameBut.ident _) rfl
  exact .refl

theorem State.writeHeader_keeps (s : State) : s.sameBut (State.writeHeader s) [.vault] := by
  unfold State.writeHeader
  extract_lets +onlyGivenNames x1
  clear_value x1
  extract_lets +onlyGivenNames x2
  clear_value x2
  extract_lets +onlyGivenNames x3
  clear_value x3
  refine .ite ?_ ?_
  · refine .step ?_ (State.sameBut.vault _) rfl
    exact .refl
  · refine .step ?_ (State.sameBut.vault _) rfl
    exact .refl

theorem State.freeFrames_keeps (s : State) (p : Frame → Bool) : s.sameBut (State.freeFrames s p) [.cellar] := by
  unfold State.freeFrames
  refine .step ?_ (State.sameBut.cellar _) rfl
  exact .refl

theorem State.freeChan_keeps (s : State) (n : Ch) : s.sameBut (State.freeChan s n) [.cellar] := by
  unfold State.freeChan
  refine .step ?_ (State.freeFrames_keeps _ _) rfl
  exact .refl

theorem State.commitAct_keeps (s : State) (n : Ch) (k : SlotId) : s.sameBut (State.commitAct s n k) [.regs, .chs, .cellar, .vault, .ident] := by
  unfold State.commitAct
  extract_lets +onlyGivenNames x1
  refine .letS x1 ?_ (fun hx1 => ?_)
  · unfold x1
    refine .step ?_ (State.commitField_keeps _ _ _) rfl
    exact .refl
  clear_value x1
  extract_lets +onlyGivenNames x2
  clear_value x2
  extract_lets +onlyGivenNames x3
  clear_value x3
  extract_lets +onlyGivenNames x4
  refine .letS x4 ?_ (fun hx4 => ?_)
  · unfold x4
    refine .step ?_ (State.sameBut.vault _) rfl
    assumption
  clear_value x4
  extract_lets +onlyGivenNames x5
  refine .letS x5 ?_ (fun hx5 => ?_)
  · unfold x5
    refine .step ?_ (State.updChan_keeps _ _ _) rfl
    assumption
  clear_value x5
  refine .step ?_ (State.platChange_keeps _) rfl
  refine .step ?_ (State.writeHeader_keeps _) rfl
  refine .step ?_ (State.freeChan_keeps _ _) rfl
  assumption

theorem State.intent_keeps (s : State) (kind : Nat) (chan : Nat) (slot : Nat) (state : Nat) (step : Nat) (nsteps : Nat) (src : Nat) (dst : Nat) (arg : Nat) : s.sameBut (State.intent s kind chan slot state step nsteps src dst arg) [.vault] := by
  unfold State.intent
  refine .ite ?_ ?_
  · exact .refl
  · refine .step ?_ (State.sameBut.vault _) rfl
    exact .refl

theorem State.flip_keeps (s : State) (n : Ch) (k : SlotId) : s.sameBut (State.flip s n k) [.regs, .evt, .chs, .cellar, .vault, .ident] := by
  unfold State.flip
  extract_lets +onlyGivenNames x1
  refine .letS x1 ?_ (fun hx1 => ?_)
  · unfold x1
    refine .step ?_ (State.commitAct_keeps _ _ _) rfl
    exact .refl
  clear_value x1
  extract_lets +onlyGivenNames x2
  refine .letS x2 ?_ (fun hx2 => ?_)
  · unfold x2
    refine .step ?_ (State.updSlot_keeps _ _ _ _) rfl
    assumption
  clear_value x2
  extract_lets +onlyGivenNames x3
  clear_value x3
  refine .step ?_ (State.raiseCh_keeps _ _ _ _) rfl
  refine .step ?_ (State.intent_keeps _ _ _ _ _ _ _ _ _ _) rfl
  assumption

theorem State.actNow_keeps (s : State) (n : Ch) (k : SlotId) : s.sameBut (State.actNow s n k) [.regs, .evt, .chs, .cellar, .vault, .ident] := by
  unfold State.actNow
  extract_lets +onlyGivenNames x1
  refine .letS x1 ?_ (fun hx1 => ?_)
  · unfold x1
    refine .step ?_ (State.updSlot_keeps _ _ _ _) rfl
    exact .refl
  clear_value x1
  split
  · refine .step ?_ (State.flip_keeps _ _ _) rfl
    assumption
  · refine .step ?_ (State.commitAct_keeps _ _ _) rfl
    assumption
  · assumption

theorem State.pkuRun_keeps (s : State) : s.sameBut (State.pkuRun s).1 [.evt, .crypt] := by
  unfold State.pkuRun
  extract_lets +onlyGivenNames x1
  clear_value x1
  extract_lets +onlyGivenNames x2
  clear_value x2
  extract_lets +onlyGivenNames x3
  clear_value x3
  extract_lets +onlyGivenNames x4
  refine .letS x4 ?_ (fun hx4 => ?_)
  · unfold x4
    refine .step ?_ (State.sameBut.crypt _) rfl
    exact .refl
  clear_value x4
  refine .fst_mk ?_
  refine .step ?_ (State.raiseIf_keeps _ _ _ _) rfl
  assumption

theorem State.withPku_keeps {ps : List Comp} {s0 : State} (s : State) (asks : Bool) (k : State → State × Status) (hk : ∀ (y0 : State), s0.sameBut y0 ps → s0.sameBut (k y0).1 ps) (hs : s0.sameBut s ps) (hc : covers [.evt, .crypt] ps = true) : s0.sameBut (State.withPku s asks k).1 ps := by
  unfold State.withPku
  refine .ite_fst ?_ ?_
  · extract_lets +onlyGivenNames x1
    refine .letP x1 ?_ (fun hx1 => ?_)
    · unfold x1
      refine .step ?_ (State.pkuRun_keeps _) (covers_trans rfl hc)
      assumption
    clear_value x1
    refine .ite_fst ?_ ?_
    · apply hk
      assumption
    · refine .fst_mk ?_
      assumption
  · apply hk
    assumption

theorem State.activateRefused_keeps (s : State) (channel : Nat) (slot : Nat) : s.sameBut (State.activateRefused s channel slot) [.evt] := by
  unfold State.activateRefused
  refine .dite (fun _ => ?_) (fun _ => ?_)
  · refine .step ?_ (State.raiseCh_keeps _ _ _ _) rfl
    exact .refl
  · exact .refl

theorem State.activateCmd_keeps (s : State) (channel : Nat) (slot : Nat) (flipNow : Nat) (m : Manifest) : s.sameBut (State.activateCmd s channel slot flipNow m).1 [.evt, .chs, .crypt] := by
  unfold State.activateCmd
  refine .dite_fst (fun _ => ?_) (fun _ => ?_)
  · extract_lets +onlyGivenNames x1
    clear_value x1
    extract_lets +onlyGivenNames x2
    clear_value x2
    extract_lets +onlyGivenNames x3
    clear_value x3
    extract_lets +onlyGivenNames x4
    refine .letP x4 ?_ (fun hx4 => ?_)
    · unfold x4
      refine State.withPku_keeps _ _ _ (fun _ _ => ?_) ?_ rfl
      · refine .fst_mk ?_
        assumption
      · exact .refl
    clear_value x4
    extract_lets +onlyGivenNames x5
    refine .letS x5 ?_ (fun hx5 => ?_)
    · unfold x5
      assumption
    clear_value x5
    extract_lets +onlyGivenNames x6
    clear_value x6
    extract_lets +onlyGivenNames x7
    clear_value x7
    refine .ite_fst ?_ ?_
    · refine .fst_mk ?_
      refine .step ?_ (State.raiseCh_keeps _ _ _ _) rfl
      refine .step ?_ (State.updSlot_keeps _ _ _ _) rfl
      assumption
    · refine .fst_mk ?_
      refine .step ?_ (State.raiseCh_keeps _ _ _ _) rfl
      assumption
  · refine .fst_mk ?_
    refine .step ?_ (State.activateRefused_keeps _ _ _) rfl
    exact .refl

theorem State.activateReply_keeps (s : State) (channel : Nat) (slot : Nat) (flipNow : Nat) (m : Manifest) : s.sameBut (State.activateReply s channel slot flipNow m).1 [.evt, .chs, .crypt] := by
  unfold State.activateReply
  extract_lets +onlyGivenNames x1
  refine .letP x1 ?_ (fun hx1 => ?_)
  · unfold x1
    refine .step ?_ (State.activateCmd_keeps _ _ _ _ _) rfl
    exact .refl
  clear_value x1
  refine .fst_mk ?_
  assumption

theorem forCh_keeps {ps : List Comp} {s0 : State} (f : State → Ch → State) (s : State) (hf : ∀ (y0 : State) (y1 : Ch), s0.sameBut y0 ps → s0.sameBut (f y0 y1) ps) (hs : s0.sameBut s ps) (hc : covers [] ps = true) : s0.sameBut (forCh f s) ps := by
  unfold forCh
  refine .foldl (fun _ _ _ => ?_) ?_
  · apply hf
    assumption
  · assumption

theorem State.applyActs_keeps (s : State) (n : Ch) : s.sameBut (State.applyActs s n) [.regs, .evt, .chs, .cellar, .vault, .ident] := by
  unfold State.applyActs
  refine .ite ?_ ?_
  · exact .refl
  · refine .foldl (fun _ _ _ => ?_) ?_
    · refine .ite ?_ ?_
      · refine .step ?_ (State.actNow_keeps _ _ _) rfl
        assumption
      · assumption
    · exact .refl

theorem State.updAgt_keeps (s : State) (n : Ch) (f : AgentCtl → AgentCtl) : s.sameBut (State.updAgt s n f) [.ctl] := by
  unfold State.updAgt
  refine .step ?_ (State.sameBut.ctl _) rfl
  exact .refl

theorem State.noteSet_keeps (s : State) (n : Ch) : s.sameBut (State.noteSet s n) [.evt, .chs] := by
  unfold State.noteSet
  refine .ite ?_ ?_
  · refine .step ?_ (State.raiseCh_keeps _ _ _ _) rfl
    refine .step ?_ (State.updChan_keeps _ _ _) rfl
    exact .refl
  · exact .refl

theorem State.writeLast_keeps (s : State) : s.sameBut (State.writeLast s) [.freeCtr, .keeper] := by
  unfold State.writeLast
  extract_lets +onlyGivenNames x1
  clear_value x1
  extract_lets +onlyGivenNames x2
  refine .letS x2 ?_ (fun hx2 => ?_)
  · unfold x2
    refine .step ?_ (State.sameBut.freeCtr _) rfl
    exact .refl
  clear_value x2
  refine .ite ?_ ?_
  · refine .step ?_ (State.sameBut.keeper _) rfl
    assumption
  · refine .step ?_ (State.sameBut.keeper _) rfl
    assumption

theorem State.setAgent_keeps (s : State) (n : Ch) (a : AgentSt) : s.sameBut (State.setAgent s n a) [.freeCtr, .evt, .keeper, .chs] := by
  unfold State.setAgent
  refine .ite ?_ ?_
  · exact .refl
  · refine .step ?_ (State.raiseAt_keeps _ _ _ _) rfl
    refine .step ?_ (State.writeLast_keeps _) rfl
    refine .step ?_ (State.updChan_keeps _ _ _) rfl
    exact .refl

theorem State.startDecant_keeps (s : State) (n : Ch) : s.sameBut (State.startDecant s n) [.freeCtr, .evt, .keeper, .chs, .ctl] := by
  unfold State.startDecant
  extract_lets +onlyGivenNames x1
  refine .letS x1 ?_ (fun hx1 => ?_)
  · unfold x1
    refine .step ?_ (State.updAgt_keeps _ _ _) rfl
    refine .step ?_ (State.updChan_keeps _ _ _) rfl
    exact .refl
  clear_value x1
  refine .step ?_ (State.noteSet_keeps _ _) rfl
  refine .step ?_ (State.setAgent_keeps _ _ _) rfl
  assumption

theorem State.decantNew_keeps (s : State) (n : Ch) : s.sameBut (State.decantNew s n) [.freeCtr, .evt, .keeper, .chs, .ctl] := by
  unfold State.decantNew
  refine .ite ?_ ?_
  · exact .refl
  · refine .ite ?_ ?_
    · refine .step ?_ (State.startDecant_keeps _ _) rfl
      exact .refl
    · refine .step ?_ (State.updAgt_keeps _ _ _) rfl
      exact .refl

theorem State.actsDue_keeps (s : State) : s.sameBut (State.actsDue s) [.freeCtr, .regs, .evt, .keeper, .chs, .cellar, .vault, .ctl, .ident] := by
  unfold State.actsDue
  refine forCh_keeps _ _ (fun _ _ _ => ?_) ?_ rfl
  · refine .ite ?_ ?_
    · extract_lets +onlyGivenNames x1
      refine .letS x1 ?_ (fun hx1 => ?_)
      · unfold x1
        refine .step ?_ (State.applyActs_keeps _ _) rfl
        assumption
      clear_value x1
      refine .ite ?_ ?_
      · refine .step ?_ (State.decantNew_keeps _ _) rfl
        assumption
      · assumption
    · assumption
  · exact .refl

theorem State.addRepair_keeps (s : State) (n : Ch) (k : SlotId) (copy : Nat) (metaPg : Bool) (i : Nat) (f : Repair → Repair) : s.sameBut (State.addRepair s n k copy metaPg i f) [.chs] := by
  unfold State.addRepair
  split
  · exact .refl
  · extract_lets +onlyGivenNames x1
    clear_value x1
    extract_lets +onlyGivenNames x2
    clear_value x2
    extract_lets +onlyGivenNames x3
    clear_value x3
    extract_lets +onlyGivenNames x4
    clear_value x4
    extract_lets +onlyGivenNames x5
    clear_value x5
    refine .step ?_ (State.updChan_keeps _ _ _) rfl
    exact .refl

theorem State.setView_keeps (s : State) (q : Req) (v : ReqView) : s.sameBut (State.setView s q v) [.regs] := by
  unfold State.setView
  split
  · refine .step ?_ (State.sameBut.regs _) rfl
    exact .refl
  · refine .step ?_ (State.sameBut.regs _) rfl
    exact .refl
  · refine .step ?_ (State.sameBut.regs _) rfl
    exact .refl

theorem State.addSample_keeps (s : State) (q : Req) (key : Nat) (stride : Nat) (ws : List Word) : s.sameBut (State.addSample s q key stride ws) [.regs] := by
  unfold State.addSample
  refine .step ?_ (State.setView_keeps _ _ _) rfl
  exact .refl

theorem State.admin_keeps {ps : List Comp} {s0 : State} (s : State) (cid : Nat) (opcode : Nat) (k : State → State × Reply) (hk : ∀ (y0 : State), s0.sameBut y0 ps → s0.sameBut (k y0).1 ps) (hs : s0.sameBut s ps) (hc : covers [.outbox, .evt, .cntr, .tlm, .host] ps = true) : s0.sameBut (State.admin s cid opcode k) ps := by
  unfold State.admin
  split
  · assumption
  · refine .ite ?_ ?_
    · assumption
    · refine .ite ?_ ?_
      · refine .step ?_ (State.completeCmd_keeps _ _ _) (covers_trans rfl hc)
        assumption
      · refine .ite ?_ ?_
        · refine .step ?_ (State.completeCmd_keeps _ _ _) (covers_trans rfl hc)
          assumption
        · extract_lets +onlyGivenNames x1
          refine .letP x1 ?_ (fun hx1 => ?_)
          · unfold x1
            apply hk
            assumption
          clear_value x1
          refine .step ?_ (State.completeCmd_keeps _ _ _) (covers_trans rfl hc)
          assumption

theorem State.adminHold_keeps {ps : List Comp} {s0 : State} (s : State) (cid : Nat) (opcode : Nat) (k : State → Fetched → State × Option Reply) (hk : ∀ (y0 : State) (y1 : Fetched), s0.sameBut y0 ps → s0.sameBut (k y0 y1).1 ps) (hs : s0.sameBut s ps) (hc : covers [.outbox, .evt, .cntr, .tlm, .host] ps = true) : s0.sameBut (State.adminHold s cid opcode k) ps := by
  unfold State.adminHold
  split
  · assumption
  · refine .ite ?_ ?_
    · assumption
    · refine .ite ?_ ?_
      · refine .step ?_ (State.completeCmd_keeps _ _ _) (covers_trans rfl hc)
        assumption
      · refine .ite ?_ ?_
        · refine .step ?_ (State.completeCmd_keeps _ _ _) (covers_trans rfl hc)
          assumption
        · extract_lets +onlyGivenNames x1
          clear_value x1
          extract_lets +onlyGivenNames x2
          refine .letP x2 ?_ (fun hx2 => ?_)
          · unfold x2
            apply hk
            assumption
          clear_value x2
          split
          · refine .step ?_ (State.completeCmd_keeps _ _ _) (covers_trans rfl hc)
            assumption
          · extract_lets +onlyGivenNames x3
            refine .letS x3 ?_ (fun hx3 => ?_)
            · unfold x3
              assumption
            clear_value x3
            refine .step ?_ (State.sameBut.host _) (covers_trans rfl hc)
            assumption

theorem State.placeData_keeps (s : State) (f : Frame) : s.sameBut (State.placeData s f) [.cellar] := by
  unfold State.placeData
  extract_lets +onlyGivenNames x1
  clear_value x1
  split
  · exact .refl
  · refine .step ?_ (State.sameBut.cellar _) rfl
    exact .refl

theorem State.clearRefs_keeps (s : State) (passed : List Nat) : s.sameBut (State.clearRefs s passed) [.cellar] := by
  unfold State.clearRefs
  refine .step ?_ (State.sameBut.cellar _) rfl
  exact .refl

theorem State.evict_keeps (s : State) (ch : Nat) : s.sameBut (State.evict s ch) [.evt, .cellar, .cntr] := by
  unfold State.evict
  split
  · exact .refl
  · extract_lets +onlyGivenNames x1
    refine .letS x1 ?_ (fun hx1 => ?_)
    · unfold x1
      refine .step ?_ (State.clearRefs_keeps _ _) rfl
      refine .step ?_ (State.cntNat_keeps _ _ _ _) rfl
      refine .step ?_ (State.freeFrames_keeps _ _) rfl
      exact .refl
    clear_value x1
    refine .step ?_ (State.sameBut.cellar _) rfl
    assumption

theorem State.admitData_keeps (s : State) (n : Ch) (anyway : Bool) (f : Frame) : s.sameBut (State.admitData s n anyway f).1 [.evt, .cellar, .cntr] := by
  unfold State.admitData
  refine .ite_fst ?_ ?_
  · refine .fst_mk ?_
    refine .step ?_ (State.cnt_keeps _ _ _ _) rfl
    refine .step ?_ (State.placeData_keeps _ _) rfl
    exact .refl
  · split
    · refine .fst_mk ?_
      exact .refl
    · refine .fst_mk ?_
      refine .step ?_ (State.cnt_keeps _ _ _ _) rfl
      refine .step ?_ (State.placeData_keeps _ _) rfl
      refine .step ?_ (State.evict_keeps _ _) rfl
      exact .refl

theorem State.evictNode_keeps (s : State) : s.sameBut (State.evictNode s) [.cellar] := by
  unfold State.evictNode
  split
  · exact .refl
  · extract_lets +onlyGivenNames x1
    refine .letS x1 ?_ (fun hx1 => ?_)
    · unfold x1
      refine .step ?_ (State.clearRefs_keeps _ _) rfl
      refine .step ?_ (State.freeFrames_keeps _ _) rfl
      exact .refl
    clear_value x1
    refine .step ?_ (State.sameBut.cellar _) rfl
    assumption

theorem State.admitNode_keeps (s : State) (f : Frame) : s.sameBut (State.admitNode s f) [.evt, .cellar, .cntr] := by
  unfold State.admitNode
  extract_lets +onlyGivenNames x1
  refine .letS x1 ?_ (fun hx1 => ?_)
  · unfold x1
    refine .ite ?_ ?_
    · exact .refl
    · refine .step ?_ (State.evictNode_keeps _) rfl
      exact .refl
  clear_value x1
  refine .ite ?_ ?_
  · assumption
  · extract_lets +onlyGivenNames x2
    refine .letS x2 ?_ (fun hx2 => ?_)
    · unfold x2
      refine .ite ?_ ?_
      · split
        · refine .step ?_ (State.evict_keeps _ _) rfl
          assumption
        · assumption
      · assumption
    clear_value x2
    split
    · assumption
    · refine .step ?_ (State.sameBut.cellar _) rfl
      assumption

theorem State.bumpFree_keeps (s : State) : s.sameBut (State.bumpFree s) [.freeCtr] := by
  unfold State.bumpFree
  refine .step ?_ (State.sameBut.freeCtr _) rfl
  exact .refl

theorem State.setOwn_keeps (s : State) (q : Req) (off : Nat) (v : Word) : s.sameBut (State.setOwn s q off v) [.regs] := by
  unfold State.setOwn
  refine .step ?_ (State.setView_keeps _ _ _) rfl
  exact .refl

theorem State.autoInc_keeps (s : State) (q : Req) (off : Nat) (autoBit : Nat) (wrap : Nat) : s.sameBut (State.autoInc s q off autoBit wrap) [.regs] := by
  unfold State.autoInc
  refine .step ?_ (State.setOwn_keeps _ _ _ _) rfl
  exact .refl

theorem State.moveIndex_keeps (s : State) (q : Req) (off : Nat) : s.sameBut (State.moveIndex s q off) [.regs] := by
  unfold State.moveIndex
  split
  · refine .step ?_ (State.autoInc_keeps _ _ _ _ _) rfl
    exact .refl
  · exact .refl

theorem State.afterRead_keeps (s : State) (q : Req) (off : Nat) : s.sameBut (State.afterRead s q off) [.freeCtr, .regs] := by
  unfold State.afterRead
  extract_lets +onlyGivenNames x1
  extract_lets +onlyGivenNames x2
  refine .letS x2 ?_ (fun hx2 => ?_)
  · unfold x2
    split
    · refine .step ?_ (State.setView_keeps _ _ _) rfl
      exact .refl
    · exact .refl
  extract_lets +onlyGivenNames x3
  extract_lets +onlyGivenNames x4
  extract_lets +onlyGivenNames x5
  refine .letS x5 ?_ (fun hx5 => ?_)
  · unfold x5
    refine .ite ?_ ?_
    · refine .ite ?_ ?_
      · assumption
      · refine .step ?_ (State.setView_keeps _ _ _) rfl
        assumption
    · assumption
  clear_value x5
  extract_lets +onlyGivenNames x6
  clear_value x6
  extract_lets +onlyGivenNames x7
  refine .letS x7 ?_ (fun hx7 => ?_)
  · unfold x7
    refine .ite ?_ ?_
    · refine .step ?_ (State.setView_keeps _ _ _) rfl
      assumption
    · assumption
  clear_value x7
  extract_lets +onlyGivenNames x8
  refine .letS x8 ?_ (fun hx8 => ?_)
  · unfold x8
    refine .ite ?_ ?_
    · refine .step ?_ (State.bumpFree_keeps _) rfl
      assumption
    · assumption
  clear_value x8
  refine .step ?_ (State.moveIndex_keeps _ _ _) rfl
  assumption

theorem State.recomputeHitOnly_keeps (s : State) (n : Ch) : s.sameBut (State.recomputeHitOnly s n) [.evt, .chs] := by
  unfold State.recomputeHitOnly
  extract_lets +onlyGivenNames x1
  clear_value x1
  refine .step ?_ (State.raiseIf_keeps _ _ _ _) rfl
  refine .step ?_ (State.updPort_keeps _ _ _) rfl
  exact .refl

theorem State.buildSfdp_keeps (s : State) (n : Ch) (words : Store) : s.sameBut (State.buildSfdp s n words) [.chs] := by
  unfold State.buildSfdp
  extract_lets +onlyGivenNames x1
  clear_value x1
  refine .step ?_ (State.updPort_keeps _ _ _) rfl
  exact .refl

theorem State.recomputeVworst_keeps (s : State) (n : Ch) : s.sameBut (State.recomputeVworst s n) [.evt, .chs] := by
  unfold State.recomputeVworst
  extract_lets +onlyGivenNames x1
  clear_value x1
  extract_lets +onlyGivenNames x2
  clear_value x2
  refine .step ?_ (State.raiseIf_keeps _ _ _ _) rfl
  refine .step ?_ (State.updChan_keeps _ _ _) rfl
  exact .refl

theorem State.afterTraining_keeps (s : State) (n : Ch) : s.sameBut (State.afterTraining s n) [.evt, .chs] := by
  unfold State.afterTraining
  extract_lets +onlyGivenNames x1
  clear_value x1
  extract_lets +onlyGivenNames x2
  refine .letS x2 ?_ (fun hx2 => ?_)
  · unfold x2
    refine .step ?_ (State.recomputeHitOnly_keeps _ _) rfl
    exact .refl
  clear_value x2
  extract_lets +onlyGivenNames x3
  refine .letS x3 ?_ (fun hx3 => ?_)
  · unfold x3
    refine .ite ?_ ?_
    · assumption
    · refine .step ?_ (State.buildSfdp_keeps _ _ _) rfl
      assumption
  clear_value x3
  refine .step ?_ (State.recomputeVworst_keeps _ _) rfl
  assumption

theorem State.raiseSeal_keeps (s : State) (src : Nat) (stream : Nat) : s.sameBut (State.raiseSeal s src stream) [.evt] := by
  unfold State.raiseSeal
  refine .step ?_ (State.raise_keeps _ _ _) rfl
  exact .refl

theorem State.applyAnchor_keeps (s : State) (epoch : Nat) : s.sameBut (State.applyAnchor s epoch).1 [.evt, .keeper, .cntr, .sealing] := by
  unfold State.applyAnchor
  split
  · refine .fst_mk ?_
    exact .refl
  · extract_lets +onlyGivenNames x1
    clear_value x1
    extract_lets +onlyGivenNames x2
    clear_value x2
    extract_lets +onlyGivenNames x3
    clear_value x3
    extract_lets +onlyGivenNames x4
    clear_value x4
    extract_lets +onlyGivenNames x5
    clear_value x5
    extract_lets +onlyGivenNames x6
    clear_value x6
    extract_lets +onlyGivenNames x7
    clear_value x7
    extract_lets +onlyGivenNames x8
    clear_value x8
    extract_lets +onlyGivenNames x9
    clear_value x9
    extract_lets +onlyGivenNames x10
    clear_value x10
    extract_lets +onlyGivenNames x11
    refine .letS x11 ?_ (fun hx11 => ?_)
    · unfold x11
      refine .step ?_ (State.sameBut.keeper _) rfl
      exact .refl
    clear_value x11
    extract_lets +onlyGivenNames x12
    clear_value x12
    extract_lets +onlyGivenNames x13
    clear_value x13
    extract_lets +onlyGivenNames x14
    clear_value x14
    extract_lets +onlyGivenNames x15
    refine .letS x15 ?_ (fun hx15 => ?_)
    · unfold x15
      refine .step ?_ (State.sameBut.sealing _) rfl
      assumption
    clear_value x15
    refine .fst_mk ?_
    refine .step ?_ (State.raiseIf_keeps _ _ _ _) rfl
    refine .step ?_ (State.raiseSeal_keeps _ _ _) rfl
    refine .step ?_ (State.cntQ_keeps _ _ _) rfl
    assumption

theorem State.setCask_keeps (s : State) (i : Nat) (c : Cask) : s.sameBut (State.setCask s i c) [.crypt] := by
  unfold State.setCask
  refine .dite (fun _ => ?_) (fun _ => ?_)
  · refine .step ?_ (State.sameBut.crypt _) rfl
    exact .refl
  · exact .refl

theorem State.segCredit_keeps (s : State) (stream : Nat) : s.sameBut (State.segCredit s stream) [.press] := by
  unfold State.segCredit
  extract_lets +onlyGivenNames x1
  clear_value x1
  refine .step ?_ (State.sameBut.press _) rfl
  exact .refl

theorem State.dropQueue_keeps (s : State) (a1 : Stream) (st : Status) : s.sameBut (State.dropQueue s a1 st) [.outbox, .evt, .cntr, .tlm, .host, .sealing] := by
  unfold State.dropQueue
  refine .foldl (fun _ _ _ => ?_) ?_
  · refine .step ?_ (State.failSeg_keeps _ _ _) rfl
    assumption
  · exact .refl

theorem State.setStream_keeps (s : State) (a1 : Stream) : s.sameBut (State.setStream s a1) [.sealing] := by
  unfold State.setStream
  refine .step ?_ (State.sameBut.sealing _) rfl
  exact .refl

theorem State.closeStream_keeps (s : State) (a1 : Stream) : s.sameBut (State.closeStream s a1) [.outbox, .evt, .cntr, .tlm, .host, .sealing] := by
  unfold State.closeStream
  extract_lets +onlyGivenNames x1
  refine .letS x1 ?_ (fun hx1 => ?_)
  · unfold x1
    refine .step ?_ (State.dropQueue_keeps _ _ _) rfl
    exact .refl
  clear_value x1
  refine .step ?_ (State.raiseSeal_keeps _ _ _) rfl
  refine .step ?_ (State.setStream_keeps _ _) rfl
  assumption

theorem State.closeWaiting_keeps (s : State) (a1 : Stream) : s.sameBut (State.closeWaiting s a1) [.outbox, .evt, .cntr, .tlm, .host, .sealing] := by
  unfold State.closeWaiting
  split
  · refine .step ?_ (State.completeCmd_keeps _ _ _) rfl
    refine .step ?_ (State.closeStream_keeps _ _) rfl
    exact .refl
  · exact .refl

theorem State.loseKey_keeps (s : State) (a1 : Stream) : s.sameBut (State.loseKey s a1) [.outbox, .evt, .press, .cntr, .tlm, .host, .sealing] := by
  unfold State.loseKey
  extract_lets +onlyGivenNames x1
  refine .letS x1 ?_ (fun hx1 => ?_)
  · unfold x1
    split
    · refine .step ?_ (State.raise_keeps _ _ _) rfl
      refine .step ?_ (State.failSeg_keeps _ _ _) rfl
      refine .step ?_ (State.segCredit_keeps _ _) rfl
      exact .refl
    · exact .refl
  clear_value x1
  extract_lets +onlyGivenNames x2
  refine .letS x2 ?_ (fun hx2 => ?_)
  · unfold x2
    refine .step ?_ (State.dropQueue_keeps _ _ _) rfl
    assumption
  clear_value x2
  extract_lets +onlyGivenNames x3
  clear_value x3
  extract_lets +onlyGivenNames x4
  refine .letS x4 ?_ (fun hx4 => ?_)
  · unfold x4
    refine .step ?_ (State.raiseSeal_keeps _ _ _) rfl
    refine .step ?_ (State.setStream_keeps _ _) rfl
    assumption
  clear_value x4
  refine .step ?_ (State.closeWaiting_keeps _ _) rfl
  assumption

theorem State.loseKeys_keeps (s : State) (casks : List Nat) : s.sameBut (State.loseKeys s casks) [.outbox, .evt, .press, .cntr, .tlm, .host, .sealing] := by
  unfold State.loseKeys
  refine .foldl (fun _ _ _ => ?_) ?_
  · refine .step ?_ (State.loseKey_keeps _ _) rfl
    assumption
  · exact .refl

theorem State.invalidate_keeps (s : State) (i : Nat) : s.sameBut (State.invalidate s i) [.outbox, .evt, .press, .cntr, .tlm, .host, .sealing, .crypt] := by
  unfold State.invalidate
  extract_lets +onlyGivenNames x1
  clear_value x1
  extract_lets +onlyGivenNames x2
  refine .letS x2 ?_ (fun hx2 => ?_)
  · unfold x2
    refine .foldl (fun _ _ _ => ?_) ?_
    · refine .step ?_ (State.setCask_keeps _ _ _) rfl
      assumption
    · exact .refl
  clear_value x2
  extract_lets +onlyGivenNames x3
  clear_value x3
  extract_lets +onlyGivenNames x4
  refine .letS x4 ?_ (fun hx4 => ?_)
  · unfold x4
    refine .step ?_ (State.sameBut.crypt _) rfl
    assumption
  clear_value x4
  refine .step ?_ (State.raise_keeps _ _ _) rfl
  refine .step ?_ (State.loseKeys_keeps _ _) rfl
  assumption

theorem State.drawn_keeps (s : State) : s.sameBut (State.drawn s) [.crypt] := by
  unfold State.drawn
  refine .step ?_ (State.sameBut.crypt _) rfl
  exact .refl

theorem State.fill_keeps (s : State) (i : Nat) (c : Cask) (material : Nat) : s.sameBut (State.fill s i c material) [.crypt] := by
  unfold State.fill
  extract_lets +onlyGivenNames x1
  clear_value x1
  refine .step ?_ (State.setCask_keeps _ _ _) rfl
  refine .step ?_ (State.drawn_keeps _) rfl
  exact .refl

theorem State.loadKey_keeps (s : State) (k : KeyRec) : s.sameBut (State.loadKey s k) [.crypt] := by
  unfold State.loadKey
  refine .step ?_ (State.fill_keeps _ _ _ _) rfl
  exact .refl

theorem State.applyChange_keeps (s : State) (c : KeyChange) : s.sameBut (State.applyChange s c).1 [.outbox, .evt, .press, .cntr, .tlm, .host, .sealing, .crypt] := by
  unfold State.applyChange
  extract_lets +onlyGivenNames x1
  clear_value x1
  split
  · extract_lets +onlyGivenNames x2
    clear_value x2
    extract_lets +onlyGivenNames x3
    refine .letS x3 ?_ (fun hx3 => ?_)
    · unfold x3
      refine .ite ?_ ?_
      · refine .step ?_ (State.invalidate_keeps _ _) rfl
        exact .refl
      · exact .refl
    clear_value x3
    extract_lets +onlyGivenNames x4
    refine .letS x4 ?_ (fun hx4 => ?_)
    · unfold x4
      refine .step ?_ (State.loadKey_keeps _ _) rfl
      assumption
    clear_value x4
    refine .fst_mk ?_
    refine .step ?_ (State.raise_keeps _ _ _) rfl
    refine .step ?_ (State.sameBut.crypt _) rfl
    assumption
  · extract_lets +onlyGivenNames x5
    refine .letS x5 ?_ (fun hx5 => ?_)
    · unfold x5
      refine .step ?_ (State.setCask_keeps _ _ _) rfl
      refine .step ?_ (State.invalidate_keeps _ _) rfl
      exact .refl
    clear_value x5
    refine .fst_mk ?_
    refine .step ?_ (State.raise_keeps _ _ _) rfl
    refine .step ?_ (State.sameBut.crypt _) rfl
    assumption
  · refine .fst_mk ?_
    refine .step ?_ (State.raise_keeps _ _ _) rfl
    refine .step ?_ (State.sameBut.crypt _) rfl
    exact .refl

theorem State.restoreActs_keeps (s : State) (n : Ch) : s.sameBut (State.restoreActs s n) [.regs] := by
  unfold State.restoreActs
  refine .foldl (fun _ _ _ => ?_) ?_
  · refine .ite ?_ ?_
    · refine .step ?_ (State.setCfg_keeps _ _ _) rfl
      assumption
    · assumption
  · exact .refl

theorem State.disableAgent_keeps (s : State) (n : Ch) : s.sameBut (State.disableAgent s n) [.freeCtr, .regs, .evt, .keeper, .chs, .ctl, .ident] := by
  unfold State.disableAgent
  extract_lets +onlyGivenNames x1
  clear_value x1
  extract_lets +onlyGivenNames x2
  clear_value x2
  extract_lets +onlyGivenNames x3
  refine .letS x3 ?_ (fun hx3 => ?_)
  · unfold x3
    refine .step ?_ (State.sameBut.regs _) rfl
    exact .refl
  clear_value x3
  extract_lets +onlyGivenNames x4
  refine .letS x4 ?_ (fun hx4 => ?_)
  · unfold x4
    refine .step ?_ (State.setAgent_keeps _ _ _) rfl
    refine .step ?_ (State.updChan_keeps _ _ _) rfl
    assumption
  clear_value x4
  refine .step ?_ (State.sameBut.ctl_ident _ _) rfl
  assumption

theorem State.requestSub_keeps (s : State) (n : Ch) : s.sameBut (State.requestSub s n) [.ctl] := by
  unfold State.requestSub
  refine .ite ?_ ?_
  · refine .step ?_ (State.sameBut.ctl _) rfl
    exact .refl
  · exact .refl

theorem State.bootPort_keeps (s : State) (n : Ch) : s.sameBut (State.bootPort s n) [.chs] := by
  unfold State.bootPort
  extract_lets +onlyGivenNames x1
  clear_value x1
  extract_lets +onlyGivenNames x2
  clear_value x2
  refine .step ?_ (State.updPort_keeps _ _ _) rfl
  exact .refl

theorem State.flash_keeps (s : State) (n : Ch) (k : PartId) (op : FlashOp) (addr : List Byte) (len : Nat) (data : List Byte) : s.sameBut (State.flash s n k op addr len data) [.outbox] := by
  unfold State.flash
  refine .step ?_ (State.emit_keeps _ _) rfl
  exact .refl

theorem State.opCmd_keeps (s : State) (n : Ch) (o : AgentOp) (c : FlashOp) : s.sameBut (State.opCmd s n o c) [.outbox] := by
  unfold State.opCmd
  refine .foldl (fun _ _ _ => ?_) ?_
  · refine .step ?_ (State.flash_keeps _ _ _ _ _ _ _) rfl
    assumption
  · exact .refl

theorem State.updPart_keeps (s : State) (n : Ch) (k : PartId) (f : Part → Part) : s.sameBut (State.updPart s n k f) [.chs] := by
  unfold State.updPart
  refine .step ?_ (State.updChan_keeps _ _ _) rfl
  exact .refl

theorem State.setBusy_keeps (s : State) (n : Ch) (ks : List PartId) (b : Option Busy) : s.sameBut (State.setBusy s n ks b) [.chs] := by
  unfold State.setBusy
  refine .foldl (fun _ _ _ => ?_) ?_
  · refine .step ?_ (State.updPart_keeps _ _ _ _) rfl
    assumption
  · exact .refl

theorem State.resumeAll_keeps (s : State) (n : Ch) : s.sameBut (State.resumeAll s n) [.outbox, .chs] := by
  unfold State.resumeAll
  extract_lets +onlyGivenNames x1
  clear_value x1
  extract_lets +onlyGivenNames x2
  refine .letS x2 ?_ (fun hx2 => ?_)
  · unfold x2
    split
    · refine .step ?_ (State.opCmd_keeps _ _ _ _) rfl
      refine .step ?_ (State.setBusy_keeps _ _ _ _) rfl
      exact .refl
    · exact .refl
  clear_value x2
  refine .step ?_ (State.updPort_keeps _ _ _) rfl
  assumption

theorem State.dropReset_keeps (s : State) (n : Ch) : s.sameBut (State.dropReset s n) [.outbox, .evt, .chs, .ctl] := by
  unfold State.dropReset
  extract_lets +onlyGivenNames x1
  refine .letS x1 ?_ (fun hx1 => ?_)
  · unfold x1
    refine .step ?_ (State.bootPort_keeps _ _) rfl
    refine .step ?_ (State.resumeAll_keeps _ _) rfl
    exact .refl
  clear_value x1
  extract_lets +onlyGivenNames x2
  refine .letS x2 ?_ (fun hx2 => ?_)
  · unfold x2
    refine .step ?_ (State.updAgt_keeps _ _ _) rfl
    assumption
  clear_value x2
  refine .step ?_ (State.setPhase_keeps _ _ _) rfl
  assumption

theorem State.pressEnd_keeps (s : State) (p : Job → Bool) : s.sameBut (State.pressEnd s p) [.press] := by
  unfold State.pressEnd
  refine .step ?_ (State.sameBut.press _) rfl
  exact .refl

theorem State.dropFrames_keeps (s : State) (n : Ch) : s.sameBut (State.dropFrames s n) [.chs, .cellar, .press] := by
  unfold State.dropFrames
  refine .step ?_ (State.updChan_keeps _ _ _) rfl
  refine .step ?_ (State.pressEnd_keeps _ _) rfl
  refine .step ?_ (State.freeChan_keeps _ _) rfl
  exact .refl

theorem State.beginRollback_keeps (s : State) (n : Ch) (k : SlotId) : s.sameBut (State.beginRollback s n k) [.evt, .chs, .vault] := by
  unfold State.beginRollback
  extract_lets +onlyGivenNames x1
  clear_value x1
  extract_lets +onlyGivenNames x2
  refine .letS x2 ?_ (fun hx2 => ?_)
  · unfold x2
    refine .step ?_ (State.raiseCh_keeps _ _ _ _) rfl
    refine .step ?_ (State.updSlot_keeps _ _ _ _) rfl
    exact .refl
  clear_value x2
  refine .step ?_ (State.intent_keeps _ _ _ _ _ _ _ _ _ _) rfl
  assumption

theorem State.resetSlot_keeps (s : State) (n : Ch) (k : SlotId) : s.sameBut (State.resetSlot s n k) [.evt, .chs, .vault] := by
  unfold State.resetSlot
  split
  · refine .step ?_ (State.updSlot_keeps _ _ _ _) rfl
    exact .refl
  · refine .step ?_ (State.updSlot_keeps _ _ _ _) rfl
    refine .step ?_ (State.beginRollback_keeps _ _ _) rfl
    exact .refl
  · exact .refl

theorem State.resetSlots_keeps (s : State) (n : Ch) : s.sameBut (State.resetSlots s n).1 [.regs, .evt, .chs, .cellar, .vault, .ident] := by
  unfold State.resetSlots
  extract_lets +onlyGivenNames x1
  refine .letS x1 ?_ (fun hx1 => ?_)
  · unfold x1
    refine .foldl (fun _ _ _ => ?_) ?_
    · refine .step ?_ (State.resetSlot_keeps _ _ _) rfl
      assumption
    · exact .refl
  clear_value x1
  refine .fst_mk ?_
  refine .step ?_ (State.applyActs_keeps _ _) rfl
  assumption

theorem State.setPin_keeps (s : State) (k : Nat) (on : Bool) : s.sameBut (State.setPin s k on) [.ctl] := by
  unfold State.setPin
  extract_lets +onlyGivenNames x1
  clear_value x1
  refine .step ?_ (State.sameBut.ctl _) rfl
  exact .refl

theorem State.powerOffQ_keeps (s : State) (n : Ch) : s.sameBut (State.powerOffQ s n) [.ctl] := by
  unfold State.powerOffQ
  refine .ite ?_ ?_
  · split
    · refine .step ?_ (State.setPin_keeps _ _ _) rfl
      refine .step ?_ (State.updAgt_keeps _ _ _) rfl
      exact .refl
    · exact .refl
  · exact .refl

theorem State.reimage_keeps (s : State) (n : Ch) (job : RecJob) : s.sameBut (State.reimage s n job) [.freeCtr, .evt, .keeper, .chs, .cellar, .press, .ctl, .ident] := by
  unfold State.reimage
  extract_lets +onlyGivenNames x1
  refine .letS x1 ?_ (fun hx1 => ?_)
  · unfold x1
    refine .step ?_ (State.powerOffQ_keeps _ _) rfl
    refine .step ?_ (State.setAgent_keeps _ _ _) rfl
    refine .step ?_ (State.dropFrames_keeps _ _) rfl
    exact .refl
  clear_value x1
  extract_lets +onlyGivenNames x2
  refine .letS x2 ?_ (fun hx2 => ?_)
  · unfold x2
    refine .step ?_ (State.updAgt_keeps _ _ _) rfl
    assumption
  clear_value x2
  refine .step ?_ (State.sameBut.ident _) rfl
  assumption

theorem State.enterReimaging_keeps (s : State) (n : Ch) (slots : List Nat) (source : Nat) (single : Bool) : s.sameBut (State.enterReimaging s n slots source single) [.freeCtr, .evt, .keeper, .chs, .cellar, .press, .ctl, .ident] := by
  unfold State.enterReimaging
  refine .step ?_ (State.raise_keeps _ _ _) rfl
  refine .step ?_ (State.reimage_keeps _ _ _) rfl
  exact .refl

theorem State.quarantine_keeps (s : State) (n : Ch) (cause : Nat) : s.sameBut (State.quarantine s n cause) [.freeCtr, .outbox, .regs, .evt, .keeper, .chs, .cellar, .press, .vault, .ctl, .ident] := by
  unfold State.quarantine
  extract_lets +onlyGivenNames x1
  clear_value x1
  refine .ite ?_ ?_
  · exact .refl
  · extract_lets +onlyGivenNames x2
    refine .letS x2 ?_ (fun hx2 => ?_)
    · unfold x2
      refine .ite ?_ ?_
      · refine .step ?_ (State.dropReset_keeps _ _) rfl
        exact .refl
      · exact .refl
    clear_value x2
    extract_lets +onlyGivenNames x3
    refine .letS x3 ?_ (fun hx3 => ?_)
    · unfold x3
      refine .step ?_ (State.updChan_keeps _ _ _) rfl
      refine .step ?_ (State.updPort_keeps _ _ _) rfl
      assumption
    clear_value x3
    extract_lets +onlyGivenNames x4
    refine .letS x4 ?_ (fun hx4 => ?_)
    · unfold x4
      refine .step ?_ (State.setAgent_keeps _ _ _) rfl
      refine .step ?_ (State.dropFrames_keeps _ _) rfl
      refine .step ?_ (State.resetSlots_keeps _ _) rfl
      assumption
    clear_value x4
    extract_lets +onlyGivenNames x5
    clear_value x5
    extract_lets +onlyGivenNames x6
    refine .letS x6 ?_ (fun hx6 => ?_)
    · unfold x6
      refine .step ?_ (State.updAgt_keeps _ _ _) rfl
      assumption
    clear_value x6
    extract_lets +onlyGivenNames x7
    clear_value x7
    extract_lets +onlyGivenNames x8
    refine .letS x8 ?_ (fun hx8 => ?_)
    · unfold x8
      refine .step ?_ (State.sameBut.ctl _) rfl
      assumption
    clear_value x8
    extract_lets +onlyGivenNames x9
    refine .letS x9 ?_ (fun hx9 => ?_)
    · unfold x9
      refine .step ?_ (State.powerOffQ_keeps _ _) rfl
      assumption
    clear_value x9
    extract_lets +onlyGivenNames x10
    clear_value x10
    refine .ite ?_ ?_
    · refine .step ?_ (State.raise_keeps _ _ _) rfl
      refine .step ?_ (State.enterReimaging_keeps _ _ _ _ _) rfl
      assumption
    · refine .ite ?_ ?_
      · refine .step ?_ (State.enterReimaging_keeps _ _ _ _ _) rfl
        assumption
      · assumption

theorem State.noFit_keeps (s : State) (n : Ch) : s.sameBut (State.noFit s n) [.freeCtr, .outbox, .regs, .evt, .keeper, .chs, .cellar, .press, .vault, .ctl, .ident] := by
  unfold State.noFit
  refine .step ?_ (State.quarantine_keeps _ _ _) rfl
  refine .step ?_ (State.raiseCh_keeps _ _ _ _) rfl
  refine .step ?_ (State.updChan_keeps _ _ _) rfl
  refine .step ?_ (State.sameBut.cellar _) rfl
  exact .refl

theorem State.reserve_keeps (s : State) (n : Ch) : s.sameBut (State.reserve s n) [.freeCtr, .outbox, .regs, .evt, .keeper, .chs, .cellar, .press, .vault, .ctl, .ident] := by
  unfold State.reserve
  refine .ite ?_ ?_
  · refine .step ?_ (State.startDecant_keeps _ _) rfl
    refine .step ?_ (State.updChan_keeps _ _ _) rfl
    exact .refl
  · refine .step ?_ (State.noFit_keeps _ _) rfl
    refine .step ?_ (State.setAgent_keeps _ _ _) rfl
    exact .refl

theorem State.tryDecant_keeps (s : State) (n : Ch) : s.sameBut (State.tryDecant s n) [.freeCtr, .outbox, .regs, .evt, .keeper, .chs, .cellar, .press, .vault, .ctl, .ident] := by
  unfold State.tryDecant
  refine .ite ?_ ?_
  · refine .step ?_ (State.reserve_keeps _ _) rfl
    exact .refl
  · exact .refl

theorem State.enableAgent_keeps (s : State) (n : Ch) : s.sameBut (State.enableAgent s n) [.freeCtr, .outbox, .regs, .evt, .keeper, .chs, .cellar, .press, .vault, .ctl, .ident] := by
  unfold State.enableAgent
  extract_lets +onlyGivenNames x1
  refine .letS x1 ?_ (fun hx1 => ?_)
  · unfold x1
    refine .step ?_ (State.setAgent_keeps _ _ _) rfl
    refine .step ?_ (State.updAgt_keeps _ _ _) rfl
    exact .refl
  clear_value x1
  refine .step ?_ (State.requestSub_keeps _ _) rfl
  refine .step ?_ (State.tryDecant_keeps _ _) rfl
  assumption

theorem State.redecant_keeps (s : State) (n : Ch) : s.sameBut (State.redecant s n) [.freeCtr, .outbox, .regs, .evt, .keeper, .chs, .cellar, .press, .vault, .ctl, .ident] := by
  unfold State.redecant
  refine .ite ?_ ?_
  · refine .step ?_ (State.reserve_keeps _ _) rfl
    exact .refl
  · refine .step ?_ (State.updAgt_keeps _ _ _) rfl
    exact .refl

theorem State.applyLayout_keeps (s : State) (old : Nat → Word) (n : Ch) : s.sameBut (State.applyLayout s old n) [.freeCtr, .outbox, .regs, .evt, .keeper, .chs, .cellar, .press, .vault, .ctl, .ident] := by
  unfold State.applyLayout
  extract_lets +onlyGivenNames x1
  clear_value x1
  extract_lets +onlyGivenNames x2
  clear_value x2
  extract_lets +onlyGivenNames x3
  refine .letS x3 ?_ (fun hx3 => ?_)
  · unfold x3
    refine .ite ?_ ?_
    · exact .refl
    · refine .step ?_ (State.restoreActs_keeps _ _) rfl
      exact .refl
  clear_value x3
  extract_lets +onlyGivenNames x4
  clear_value x4
  extract_lets +onlyGivenNames x5
  refine .letS x5 ?_ (fun hx5 => ?_)
  · unfold x5
    refine .step ?_ (State.updChan_keeps _ _ _) rfl
    refine .step ?_ (State.freeChan_keeps _ _) rfl
    assumption
  clear_value x5
  extract_lets +onlyGivenNames x6
  clear_value x6
  extract_lets +onlyGivenNames x7
  refine .letS x7 ?_ (fun hx7 => ?_)
  · unfold x7
    refine .step ?_ (State.sameBut.vault _) rfl
    assumption
  clear_value x7
  refine .ite ?_ ?_
  · refine .step ?_ (State.disableAgent_keeps _ _) rfl
    assumption
  · refine .ite ?_ ?_
    · refine .step ?_ (State.enableAgent_keeps _ _) rfl
      assumption
    · refine .ite ?_ ?_
      · refine .step ?_ (State.redecant_keeps _ _) rfl
        assumption
      · assumption

theorem State.sendReceipt_keeps (s : State) (r : Retained) : s.sameBut (State.sendReceipt s r) [.outbox, .evt, .cntr, .tlm] := by
  unfold State.sendReceipt
  split
  · refine .step ?_ (State.hostWrite_keeps _ _ _) rfl
    exact .refl
  · exact .refl

theorem State.flushCpl_keeps (s : State) : s.sameBut (State.flushCpl s) [.outbox, .evt, .cntr, .tlm, .host] := by
  unfold State.flushCpl
  extract_lets +onlyGivenNames x1
  refine .letS x1 ?_ (fun hx1 => ?_)
  · unfold x1
    refine .foldl (fun _ _ _ => ?_) ?_
    · refine .step ?_ (State.sendReceipt_keeps _ _) rfl
      assumption
    · exact .refl
  clear_value x1
  extract_lets +onlyGivenNames x2
  refine .letP x2 ?_ (fun hx2 => ?_)
  · unfold x2
    refine .foldl_fst (fun _ _ _ => ?_) ?_
    · extract_lets +onlyGivenNames x3
      refine .letP x3 ?_ (fun hx3 => ?_)
      · unfold x3
        refine .step ?_ (State.sendCpl_keeps _ _) rfl
        assumption
      clear_value x3
      refine .fst_mk ?_
      assumption
    · refine .fst_mk ?_
      assumption
  clear_value x2
  extract_lets +onlyGivenNames x4
  refine .letS x4 ?_ (fun hx4 => ?_)
  · unfold x4
    assumption
  clear_value x4
  refine .step ?_ (State.sameBut.host _) rfl
  assumption

theorem State.replay_keeps (s : State) (q : Nat) : s.sameBut (State.replay s q) [.outbox, .evt, .cntr, .tlm, .host] := by
  unfold State.replay
  refine .ite ?_ ?_
  · extract_lets +onlyGivenNames x1
    clear_value x1
    extract_lets +onlyGivenNames x2
    refine .letS x2 ?_ (fun hx2 => ?_)
    · unfold x2
      refine .step ?_ (State.sameBut.host _) rfl
      exact .refl
    clear_value x2
    refine .step ?_ (State.raise_keeps _ _ _) rfl
    refine .step ?_ (State.flushCpl_keeps _) rfl
    assumption
  · exact .refl

theorem State.applyQueues_keeps (s : State) (old : Nat → Word) : s.sameBut (State.applyQueues s old) [.outbox, .evt, .cntr, .tlm, .host, .sealing] := by
  unfold State.applyQueues
  extract_lets +onlyGivenNames x1
  clear_value x1
  extract_lets +onlyGivenNames x2
  clear_value x2
  extract_lets +onlyGivenNames x3
  clear_value x3
  extract_lets +onlyGivenNames x4
  refine .letS x4 ?_ (fun hx4 => ?_)
  · unfold x4
    refine .foldl (fun _ _ _ => ?_) ?_
    · refine .step ?_ (State.abortQueue_keeps _ _) rfl
      assumption
    · exact .refl
  clear_value x4
  extract_lets +onlyGivenNames x5
  refine .letS x5 ?_ (fun hx5 => ?_)
  · unfold x5
    refine .foldl (fun _ _ _ => ?_) ?_
    · refine .step ?_ (State.updQueue_keeps _ _ _) rfl
      assumption
    · assumption
  clear_value x5
  extract_lets +onlyGivenNames x6
  clear_value x6
  extract_lets +onlyGivenNames x7
  refine .letS x7 ?_ (fun hx7 => ?_)
  · unfold x7
    refine .foldl (fun _ _ _ => ?_) ?_
    · refine .step ?_ (State.updQueue_keeps _ _ _) rfl
      assumption
    · assumption
  clear_value x7
  refine .foldl (fun _ _ _ => ?_) ?_
  · refine .step ?_ (State.replay_keeps _ _) rfl
    assumption
  · assumption

theorem State.sealDisable_keeps (s : State) : s.sameBut (State.sealDisable s) [.outbox, .evt, .press, .cntr, .tlm, .host, .sealing] := by
  unfold State.sealDisable
  refine .ite ?_ ?_
  · exact .refl
  · extract_lets +onlyGivenNames x1
    refine .letS x1 ?_ (fun hx1 => ?_)
    · unfold x1
      refine .foldl (fun _ _ _ => ?_) ?_
      · extract_lets +onlyGivenNames x2
        refine .letS x2 ?_ (fun hx2 => ?_)
        · unfold x2
          split
          · refine .step ?_ (State.failSeg_keeps _ _ _) rfl
            refine .step ?_ (State.segCredit_keeps _ _) rfl
            assumption
          · assumption
        clear_value x2
        extract_lets +onlyGivenNames x3
        refine .letS x3 ?_ (fun hx3 => ?_)
        · unfold x3
          refine .step ?_ (State.dropQueue_keeps _ _ _) rfl
          assumption
        clear_value x3
        split
        · refine .step ?_ (State.completeCmd_keeps _ _ _) rfl
          assumption
        · assumption
      · exact .refl
    clear_value x1
    refine .step ?_ (State.sameBut.sealing _) rfl
    assumption

theorem State.applyEffects_keeps (s : State) (old : Nat → Word) (staged : Store) (groups : List Nat) : s.sameBut (State.applyEffects s old staged groups) [.freeCtr, .outbox, .regs, .evt, .keeper, .chs, .cellar, .press, .vault, .ctl, .cntr, .tlm, .host, .ident, .sealing] := by
  unfold State.applyEffects
  extract_lets +onlyGivenNames x1
  refine .letS x1 ?_ (fun hx1 => ?_)
  · unfold x1
    refine forCh_keeps _ _ (fun _ _ _ => ?_) ?_ rfl
    · refine .ite ?_ ?_
      · refine .step ?_ (State.recomputeHitOnly_keeps _ _) rfl
        assumption
      · assumption
    · exact .refl
  clear_value x1
  extract_lets +onlyGivenNames x2
  refine .letS x2 ?_ (fun hx2 => ?_)
  · unfold x2
    refine forCh_keeps _ _ (fun _ _ _ => ?_) ?_ rfl
    · refine .ite ?_ ?_
      · refine .step ?_ (State.buildSfdp_keeps _ _ _) rfl
        assumption
      · assumption
    · assumption
  clear_value x2
  extract_lets +onlyGivenNames x3
  refine .letS x3 ?_ (fun hx3 => ?_)
  · unfold x3
    refine forCh_keeps _ _ (fun _ _ _ => ?_) ?_ rfl
    · refine .ite ?_ ?_
      · refine .step ?_ (State.applyLayout_keeps _ _ _) rfl
        assumption
      · assumption
    · assumption
  clear_value x3
  extract_lets +onlyGivenNames x4
  refine .letS x4 ?_ (fun hx4 => ?_)
  · unfold x4
    refine .ite ?_ ?_
    · refine .step ?_ (State.applyQueues_keeps _ _) rfl
      assumption
    · assumption
  clear_value x4
  extract_lets +onlyGivenNames x5
  refine .letS x5 ?_ (fun hx5 => ?_)
  · unfold x5
    refine .ite ?_ ?_
    · refine forCh_keeps _ _ (fun _ _ _ => ?_) ?_ rfl
      · refine .ite ?_ ?_
        · refine .step ?_ (State.updAgt_keeps _ _ _) rfl
          assumption
        · assumption
      · assumption
    · assumption
  clear_value x5
  refine .ite ?_ ?_
  · refine .step ?_ (State.sealDisable_keeps _) rfl
    assumption
  · assumption

theorem State.armXip_keeps (s : State) (t : Txn) (acfg : Word) (e : Word) (done : Bool) : s.sameBut (State.armXip s t acfg e done) [.chs] := by
  unfold State.armXip
  extract_lets +onlyGivenNames x1
  clear_value x1
  extract_lets +onlyGivenNames x2
  clear_value x2
  refine .step ?_ (State.updPort_keeps _ _ _) rfl
  exact .refl

theorem State.updSb_keeps (s : State) (p : Nat) (f : SbPort → SbPort) : s.sameBut (State.updSb s p f) [.side] := by
  unfold State.updSb
  refine .dite (fun _ => ?_) (fun _ => ?_)
  · refine .step ?_ (State.sameBut.side _) rfl
    exact .refl
  · exact .refl

theorem State.queueResponse_keeps (s : State) (p : Nat) (bs : List Byte) : s.sameBut (State.queueResponse s p bs) [.outbox, .side] := by
  unfold State.queueResponse
  extract_lets +onlyGivenNames x1
  clear_value x1
  extract_lets +onlyGivenNames x2
  refine .letS x2 ?_ (fun hx2 => ?_)
  · unfold x2
    refine .step ?_ (State.updSb_keeps _ _ _) rfl
    exact .refl
  clear_value x2
  refine .ite ?_ ?_
  · refine .step ?_ (State.emit_keeps _ _) rfl
    assumption
  · assumption

theorem State.spdmSay_keeps (s : State) (eid : Nat) (tr : Nat) (code : Nat) (body : List Byte) : s.sameBut (State.spdmSay s eid tr code body) [.outbox, .side] := by
  unfold State.spdmSay
  extract_lets +onlyGivenNames x1
  refine .letS x1 ?_ (fun hx1 => ?_)
  · unfold x1
    refine .step ?_ (State.emit_keeps _ _) rfl
    exact .refl
  clear_value x1
  refine .ite ?_ ?_
  · refine .step ?_ (State.queueResponse_keeps _ _ _) rfl
    assumption
  · refine .foldl (fun _ _ _ => ?_) ?_
    · refine .step ?_ (State.emit_keeps _ _) rfl
      assumption
    · assumption

theorem State.askAgent_keeps (s : State) (r : SpdmReq) (step : Nat) : s.sameBut (State.askAgent s r step) [.outbox, .crypt, .side] := by
  unfold State.askAgent
  split
  · refine .step ?_ (State.spdmSay_keeps _ _ _ _ _) rfl
    exact .refl
  · refine .step ?_ (State.spdmSay_keeps _ _ _ _ _) rfl
    refine .step ?_ (State.drawn_keeps _) rfl
    exact .refl
  · refine .step ?_ (State.spdmSay_keeps _ _ _ _ _) rfl
    exact .refl

theorem State.setSticky_keeps (s : State) (off : Nat) (bits : Word) : s.sameBut (State.setSticky s off bits) [.regs] := by
  unfold State.setSticky
  refine .step ?_ (State.sameBut.regs _) rfl
  exact .refl

theorem State.updAux_keeps (s : State) (a : Nat) (f : AuxPort → AuxPort) : s.sameBut (State.updAux s a f) [.aux] := by
  unfold State.updAux
  refine .dite (fun _ => ?_) (fun _ => ?_)
  · refine .step ?_ (State.sameBut.aux _) rfl
    exact .refl
  · exact .refl

theorem State.auxEnd_keeps (s : State) (a : Nat) (n : Nat) (rx : List Byte) : s.sameBut (State.auxEnd s a n rx) [.aux] := by
  unfold State.auxEnd
  refine .step ?_ (State.updAux_keeps _ _ _) rfl
  exact .refl

theorem State.auxAbort_keeps (s : State) (a : Nat) (n : Nat) (rx : List Byte) : s.sameBut (State.auxAbort s a n rx) [.regs, .evt, .aux] := by
  unfold State.auxAbort
  refine .ite ?_ ?_
  · refine .step ?_ (State.raise_keeps _ _ _) rfl
    refine .step ?_ (State.setSticky_keeps _ _ _) rfl
    refine .step ?_ (State.auxEnd_keeps _ _ _ _) rfl
    exact .refl
  · exact .refl

theorem State.auxBegin_keeps (s : State) (a : Nat) (sel : Nat) (len : Nat) (frame : Bool) (ftx : Word) : s.sameBut (State.auxBegin s a sel len frame ftx) [.outbox, .aux] := by
  unfold State.auxBegin
  extract_lets +onlyGivenNames x1
  refine .letS x1 ?_ (fun hx1 => ?_)
  · unfold x1
    refine .step ?_ (State.updAux_keeps _ _ _) rfl
    exact .refl
  clear_value x1
  refine .ite ?_ ?_
  · refine .step ?_ (State.emit_keeps _ _) rfl
    assumption
  · assumption

theorem State.auxReject_keeps (s : State) (a : Nat) : s.sameBut (State.auxReject s a) [.regs, .evt] := by
  unfold State.auxReject
  refine .step ?_ (State.raise_keeps _ _ _) rfl
  refine .step ?_ (State.setSticky_keeps _ _ _) rfl
  exact .refl

theorem State.auxGo_keeps (s : State) (a : Nat) (sel : Nat) (len : Nat) : s.sameBut (State.auxGo s a sel len) [.outbox, .regs, .evt, .aux] := by
  unfold State.auxGo
  refine .ite ?_ ?_
  · exact .refl
  · refine .ite ?_ ?_
    · refine .step ?_ (State.auxReject_keeps _ _) rfl
      exact .refl
    · refine .step ?_ (State.auxBegin_keeps _ _ _ _ _ _) rfl
      exact .refl

theorem State.auxCtl_keeps (s : State) (a : Nat) (v : Word) : s.sameBut (State.auxCtl s a v) [.freeCtr, .outbox, .regs, .evt, .aux] := by
  unfold State.auxCtl
  extract_lets +onlyGivenNames x1
  clear_value x1
  extract_lets +onlyGivenNames x2
  refine .letS x2 ?_ (fun hx2 => ?_)
  · unfold x2
    refine .ite ?_ ?_
    · refine .step ?_ (State.auxGo_keeps _ _ _ _) rfl
      exact .refl
    · exact .refl
  clear_value x2
  refine .ite ?_ ?_
  · extract_lets +onlyGivenNames x3
    clear_value x3
    refine .step ?_ (State.auxAbort_keeps _ _ _ _) rfl
    refine .step ?_ (State.bumpFree_keeps _) rfl
    assumption
  · assumption

theorem State.recheckSets_keeps (s : State) : s.sameBut (State.recheckSets s) [.chs] := by
  unfold State.recheckSets
  refine forCh_keeps _ _ (fun _ _ _ => ?_) ?_ rfl
  · refine .step ?_ (State.updChan_keeps _ _ _) rfl
    assumption
  · exact .refl

theorem State.refit_keeps (s : State) : s.sameBut (State.refit s) [.freeCtr, .outbox, .regs, .evt, .keeper, .chs, .cellar, .press, .vault, .ctl, .ident] := by
  unfold State.refit
  refine .foldl_fst (fun _ _ _ => ?_) ?_
  · extract_lets +onlyGivenNames x1
    clear_value x1
    refine .ite_fst ?_ ?_
    · assumption
    · refine .ite_fst ?_ ?_
      · refine .fst_mk ?_
        assumption
      · refine .fst_mk ?_
        refine .step ?_ (State.noFit_keeps _ _) rfl
        assumption
  · refine .fst_mk ?_
    exact .refl

theorem State.setMode_keeps (s : State) (m : Mode) (cause : Nat) : s.sameBut (State.setMode s m cause) [.freeCtr, .evt, .plat, .keeper] := by
  unfold State.setMode
  extract_lets +onlyGivenNames x1
  clear_value x1
  extract_lets +onlyGivenNames x2
  clear_value x2
  extract_lets +onlyGivenNames x3
  clear_value x3
  extract_lets +onlyGivenNames x4
  refine .letS x4 ?_ (fun hx4 => ?_)
  · unfold x4
    refine .step ?_ (State.sameBut.plat_keeper _ _) rfl
    exact .refl
  clear_value x4
  refine .step ?_ (State.raiseAt_keeps _ _ _ _) rfl
  refine .step ?_ (State.writeLast_keeps _) rfl
  assumption

theorem State.enterRecover_keeps (s : State) (cause : Nat) : s.sameBut (State.enterRecover s cause) [.freeCtr, .evt, .plat, .keeper] := by
  unfold State.enterRecover
  extract_lets +onlyGivenNames x1
  clear_value x1
  refine .ite ?_ ?_
  · refine .step ?_ (State.setMode_keeps _ _ _) rfl
    exact .refl
  · exact .refl

theorem State.bankLost_keeps (s : State) (b : Nat) : s.sameBut (State.bankLost s b) [.freeCtr, .outbox, .regs, .evt, .plat, .keeper, .chs, .cellar, .press, .vault, .ctl, .ident] := by
  unfold State.bankLost
  extract_lets +onlyGivenNames x1
  clear_value x1
  extract_lets +onlyGivenNames x2
  refine .letS x2 ?_ (fun hx2 => ?_)
  · unfold x2
    refine .step ?_ (State.sameBut.cellar _) rfl
    exact .refl
  clear_value x2
  extract_lets +onlyGivenNames x3
  refine .letS x3 ?_ (fun hx3 => ?_)
  · unfold x3
    refine .step ?_ (State.raiseAt_keeps _ _ _ _) rfl
    refine .step ?_ (State.recheckSets_keeps _) rfl
    refine .step ?_ (State.freeFrames_keeps _ _) rfl
    assumption
  clear_value x3
  refine .ite ?_ ?_
  · refine .step ?_ (State.refit_keeps _) rfl
    refine .step ?_ (State.enterRecover_keeps _ _) rfl
    assumption
  · assumption

theorem State.bankFails_keeps (s : State) (b : Nat) : s.sameBut (State.bankFails s b) [.freeCtr, .outbox, .regs, .evt, .plat, .keeper, .chs, .cellar, .press, .vault, .ctl, .ident] := by
  unfold State.bankFails
  refine .ite ?_ ?_
  · exact .refl
  · refine .ite ?_ ?_
    · refine .step ?_ (State.sameBut.cellar _) rfl
      exact .refl
    · refine .step ?_ (State.bankLost_keeps _ _) rfl
      exact .refl

theorem State.noBell_keeps (s : State) (q : Nat) : s.sameBut (State.noBell s q) [.evt] := by
  unfold State.noBell
  refine .step ?_ (State.raise_keeps _ _ _) rfl
  exact .refl

theorem State.qFail_keeps (s : State) (q : Nat) (st : QState) (cause : Nat) : s.sameBut (State.qFail s q st cause) [.evt, .host] := by
  unfold State.qFail
  refine .step ?_ (State.raise_keeps _ _ _) rfl
  refine .step ?_ (State.updQueue_keeps _ _ _) rfl
  exact .refl

theorem State.cqBell_keeps (s : State) (q : Nat) (index : Nat) : s.sameBut (State.cqBell s q index) [.evt, .cntr, .host] := by
  unfold State.cqBell
  extract_lets +onlyGivenNames x1
  clear_value x1
  extract_lets +onlyGivenNames x2
  clear_value x2
  extract_lets +onlyGivenNames x3
  clear_value x3
  refine .ite ?_ ?_
  · refine .step ?_ (State.noBell_keeps _ _) rfl
    exact .refl
  · refine .ite ?_ ?_
    · exact .refl
    · refine .ite ?_ ?_
      · refine .step ?_ (State.qFail_keeps _ _ _ _) rfl
        exact .refl
      · refine .ite ?_ ?_
        · refine .step ?_ (State.qFail_keeps _ _ _ _) rfl
          exact .refl
        · refine .step ?_ (State.cntQ_keeps _ _ _) rfl
          refine .step ?_ (State.updQueue_keeps _ _ _) rfl
          exact .refl

theorem State.sqBell_keeps (s : State) (q : Nat) (index : Nat) : s.sameBut (State.sqBell s q index) [.evt, .cntr, .host] := by
  unfold State.sqBell
  extract_lets +onlyGivenNames x1
  clear_value x1
  extract_lets +onlyGivenNames x2
  clear_value x2
  refine .ite ?_ ?_
  · refine .step ?_ (State.noBell_keeps _ _) rfl
    exact .refl
  · refine .ite ?_ ?_
    · exact .refl
    · refine .ite ?_ ?_
      · refine .step ?_ (State.qFail_keeps _ _ _ _) rfl
        exact .refl
      · refine .step ?_ (State.cntQ_keeps _ _ _) rfl
        refine .step ?_ (State.updQueue_keeps _ _ _) rfl
        exact .refl

theorem State.bell_keeps (s : State) (q : Nat) (index : Nat) : s.sameBut (State.bell s q index) [.evt, .cntr, .host] := by
  unfold State.bell
  refine .ite ?_ ?_
  · refine .step ?_ (State.cqBell_keeps _ _ _) rfl
    exact .refl
  · refine .step ?_ (State.sqBell_keeps _ _ _) rfl
    exact .refl

theorem State.takeSeq_keeps (s : State) (side : Bool) (seq : Nat) : s.sameBut (State.takeSeq s side seq) [.ctl] := by
  unfold State.takeSeq
  refine .step ?_ (State.sameBut.ctl _) rfl
  exact .refl

theorem State.urgent_keeps {ps : List Comp} {s0 : State} (s : State) (side : Bool) (code : Nat) (mask : Nat) (seq : Nat) (act : State → State) (hact : ∀ (y0 : State), s0.sameBut y0 ps → s0.sameBut (act y0) ps) (hs : s0.sameBut s ps) (hc : covers [.evt, .ctl, .cntr] ps = true) : s0.sameBut (State.urgent s side code mask seq act) ps := by
  unfold State.urgent
  refine .ite ?_ ?_
  · assumption
  · refine .ite ?_ ?_
    · extract_lets +onlyGivenNames x1
      refine .letS x1 ?_ (fun hx1 => ?_)
      · unfold x1
        refine .step ?_ (State.cntQ_keeps _ _ _) (covers_trans rfl hc)
        refine .step ?_ (State.takeSeq_keeps _ _ _) (covers_trans rfl hc)
        assumption
      clear_value x1
      refine .ite ?_ ?_
      · assumption
      · apply hact
        assumption
    · refine .step ?_ (State.raise_keeps _ _ _) (covers_trans rfl hc)
      assumption

theorem State.holdAgent_keeps (s : State) (n : Ch) : s.sameBut (State.holdAgent s n) [.freeCtr, .outbox, .regs, .evt, .keeper, .chs, .cellar, .vault, .ctl, .ident] := by
  unfold State.holdAgent
  refine .ite ?_ ?_
  · extract_lets +onlyGivenNames x1
    refine .letP x1 ?_ (fun hx1 => ?_)
    · unfold x1
      refine .step ?_ (State.resetSlots_keeps _ _) rfl
      refine .step ?_ (State.dropReset_keeps _ _) rfl
      exact .refl
    clear_value x1
    extract_lets +onlyGivenNames x2
    refine .letS x2 ?_ (fun hx2 => ?_)
    · unfold x2
      refine .ite ?_ ?_
      · refine .step ?_ (State.startDecant_keeps _ _) rfl
        assumption
      · refine .step ?_ (State.setAgent_keeps _ _ _) rfl
        refine .step ?_ (State.updAgt_keeps _ _ _) rfl
        assumption
    clear_value x2
    refine .step ?_ (State.requestSub_keeps _ _) rfl
    assumption
  · exact .refl

theorem State.rollback_keeps (s : State) (n : Ch) (k : SlotId) : s.sameBut (State.rollback s n k) [.freeCtr, .outbox, .regs, .evt, .keeper, .chs, .cellar, .vault, .ctl, .ident] := by
  unfold State.rollback
  refine .ite ?_ ?_
  · refine .step ?_ (State.holdAgent_keeps _ _) rfl
    exact .refl
  · refine .ite ?_ ?_
    · extract_lets +onlyGivenNames x1
      refine .letS x1 ?_ (fun hx1 => ?_)
      · unfold x1
        refine .step ?_ (State.applyActs_keeps _ _) rfl
        refine .step ?_ (State.resetSlot_keeps _ _ _) rfl
        exact .refl
      clear_value x1
      refine .ite ?_ ?_
      · refine .step ?_ (State.decantNew_keeps _ _) rfl
        assumption
      · assumption
    · exact .refl

theorem State.urgentStop_keeps (s : State) (side : Bool) (mask : Nat) (seq : Nat) : s.sameBut (State.urgentStop s side mask seq) [.freeCtr, .outbox, .regs, .evt, .keeper, .chs, .cellar, .vault, .ctl, .cntr, .ident] := by
  unfold State.urgentStop
  refine State.urgent_keeps _ _ _ _ _ _ (fun _ _ => ?_) ?_ rfl
  · refine .step ?_ (State.raise_keeps _ _ _) rfl
    refine .foldl (fun _ _ _ => ?_) ?_
    · extract_lets +onlyGivenNames x1
      refine .letS x1 ?_ (fun hx1 => ?_)
      · unfold x1
        refine .step ?_ (State.updAgt_keeps _ _ _) rfl
        assumption
      refine .ite ?_ ?_
      · refine .step ?_ (State.holdAgent_keeps _ _) rfl
        refine .step ?_ (State.raiseCh_keeps _ _ _ _) rfl
        refine .step ?_ (State.cnt_keeps _ _ _ _) rfl
        assumption
      · refine .foldl (fun _ _ _ => ?_) ?_
        · refine .step ?_ (State.rollback_keeps _ _ _) rfl
          assumption
        · assumption
    · assumption
  · exact .refl

theorem State.requestHeld_keeps (s : State) (n : Ch) : s.sameBut (State.requestHeld s n) [.ctl] := by
  unfold State.requestHeld
  refine .ite ?_ ?_
  · refine .step ?_ (State.requestSub_keeps _ _) rfl
    exact .refl
  · exact .refl

theorem State.urgentRelease_keeps (s : State) (side : Bool) (mask : Nat) (seq : Nat) : s.sameBut (State.urgentRelease s side mask seq) [.evt, .ctl, .cntr] := by
  unfold State.urgentRelease
  refine State.urgent_keeps _ _ _ _ _ _ (fun _ _ => ?_) ?_ rfl
  · refine .step ?_ (State.raise_keeps _ _ _) rfl
    refine .foldl (fun _ _ _ => ?_) ?_
    · refine .step ?_ (State.requestHeld_keeps _ _) rfl
      refine .step ?_ (State.updAgt_keeps _ _ _) rfl
      assumption
    · assumption
  · exact .refl

theorem State.exception_keeps (s : State) (warden : Bool) (src : Nat) : s.sameBut (State.exception s warden src) [.outbox, .evt, .plat] := by
  unfold State.exception
  refine .ite ?_ ?_
  · refine .step ?_ (State.emit_keeps _ _) rfl
    exact .refl
  · extract_lets +onlyGivenNames x1
    clear_value x1
    refine .ite ?_ ?_
    · refine .step ?_ (State.sameBut.plat _) rfl
      exact .refl
    · extract_lets +onlyGivenNames x2
      clear_value x2
      extract_lets +onlyGivenNames x3
      refine .letS x3 ?_ (fun hx3 => ?_)
      · unfold x3
        refine .step ?_ (State.sameBut.evt _) rfl
        exact .refl
      clear_value x3
      refine .step ?_ (State.raiseIf_keeps _ _ _ _) rfl
      assumption

theorem State.vecEvent_keeps (s : State) (v : Nat) : s.sameBut (State.vecEvent s v) [.outbox, .evt, .cntr, .host] := by
  unfold State.vecEvent
  refine .ite ?_ ?_
  · refine .step ?_ (State.msi_keeps _ _) rfl
    exact .refl
  · refine .ite ?_ ?_
    · refine .step ?_ (State.sameBut.evt _) rfl
      exact .refl
    · refine .step ?_ (State.msi_keeps _ _) rfl
      refine .step ?_ (State.sameBut.evt _) rfl
      exact .refl

theorem State.deliver_keeps (s : State) (r : Raise) : s.sameBut (State.deliver s r) [.outbox, .regs, .evt, .plat, .cntr, .host] := by
  unfold State.deliver
  extract_lets +onlyGivenNames x1
  clear_value x1
  extract_lets +onlyGivenNames x2
  clear_value x2
  extract_lets +onlyGivenNames x3
  refine .letS x3 ?_ (fun hx3 => ?_)
  · unfold x3
    refine .ite ?_ ?_
    · refine .step ?_ (State.exception_keeps _ _ _) rfl
      exact .refl
    · exact .refl
  clear_value x3
  extract_lets +onlyGivenNames x4
  refine .letS x4 ?_ (fun hx4 => ?_)
  · unfold x4
    refine .ite ?_ ?_
    · refine .step ?_ (State.exception_keeps _ _ _) rfl
      assumption
    · assumption
  clear_value x4
  extract_lets +onlyGivenNames x5
  refine .letS x5 ?_ (fun hx5 => ?_)
  · unfold x5
    refine .ite ?_ ?_
    · refine .step ?_ (State.vecEvent_keeps _ _) rfl
      assumption
    · assumption
  clear_value x5
  refine .ite ?_ ?_
  · refine .step ?_ (State.emit_keeps _ _) rfl
    refine .step ?_ (State.setSticky_keeps _ _ _) rfl
    assumption
  · assumption

theorem State.formRec_keeps (s : State) (src : Nat) (sev : Nat) (count : Nat) (arg : Nat) : s.sameBut (State.formRec s src sev count arg) [.evt] := by
  unfold State.formRec
  extract_lets +onlyGivenNames x1
  clear_value x1
  refine .step ?_ (State.sameBut.evt _) rfl
  exact .refl

theorem State.takeRaise_keeps (s : State) (r : Raise) : s.sameBut (State.takeRaise s r) [.outbox, .regs, .evt, .plat, .cntr, .host] := by
  unfold State.takeRaise
  extract_lets +onlyGivenNames x1
  refine .letS x1 ?_ (fun hx1 => ?_)
  · unfold x1
    refine .step ?_ (State.deliver_keeps _ _) rfl
    exact .refl
  clear_value x1
  refine .ite ?_ ?_
  · refine .step ?_ (State.sameBut.evt _) rfl
    assumption
  · refine .ite ?_ ?_
    · refine .step ?_ (State.sameBut.evt _) rfl
      assumption
    · refine .step ?_ (State.formRec_keeps _ _ _ _ _) rfl
      assumption

theorem State.toRing_keeps (s : State) (r : Rec) : s.sameBut (State.toRing s r).1 [.evt] := by
  unfold State.toRing
  refine .ite_fst ?_ ?_
  · refine .fst_mk ?_
    refine .step ?_ (State.sameBut.evt _) rfl
    exact .refl
  · split
    · refine .fst_mk ?_
      refine .step ?_ (State.sameBut.evt _) rfl
      exact .refl
    · refine .fst_mk ?_
      refine .step ?_ (State.raiseIf_keeps _ _ _ _) rfl
      refine .step ?_ (State.sameBut.evt _) rfl
      exact .refl

theorem State.stage_keeps (s : State) (r : Rec) : s.sameBut (State.stage s r).1 [.evt] := by
  unfold State.stage
  refine .ite_fst ?_ ?_
  · refine .fst_mk ?_
    exact .refl
  · refine .ite_fst ?_ ?_
    · refine .fst_mk ?_
      refine .step ?_ (State.raise_keeps _ _ _) rfl
      refine .step ?_ (State.sameBut.evt _) rfl
      exact .refl
    · split
      · refine .fst_mk ?_
        refine .step ?_ (State.sameBut.evt _) rfl
        exact .refl
      · refine .ite_fst ?_ ?_
        · refine .fst_mk ?_
          refine .step ?_ (State.sameBut.evt _) rfl
          exact .refl
        · refine .fst_mk ?_
          refine .step ?_ (State.raise_keeps _ _ _) rfl
          exact .refl

theorem State.qReport_keeps (s : State) (q : Nat) (bytes : Nat) (body : List Byte) : s.sameBut (State.qReport s q bytes body) [.outbox, .evt, .cntr, .tlm, .host] := by
  unfold State.qReport
  extract_lets +onlyGivenNames x1
  clear_value x1
  refine .ite ?_ ?_
  · exact .refl
  · extract_lets +onlyGivenNames x2
    refine .letS x2 ?_ (fun hx2 => ?_)
    · unfold x2
      refine .step ?_ (State.updQueue_keeps _ _ _) rfl
      exact .refl
    clear_value x2
    refine .ite ?_ ?_
    · extract_lets +onlyGivenNames x3
      clear_value x3
      extract_lets +onlyGivenNames x4
      refine .letS x4 ?_ (fun hx4 => ?_)
      · unfold x4
        refine .step ?_ (State.cntQ_keeps _ _ _) rfl
        refine .step ?_ (State.updQueue_keeps _ _ _) rfl
        assumption
      clear_value x4
      refine .ite ?_ ?_
      · refine .step ?_ (State.raiseIf_keeps _ _ _ _) rfl
        assumption
      · refine .step ?_ (State.raise_keeps _ _ _) rfl
        assumption
    · extract_lets +onlyGivenNames x5
      clear_value x5
      extract_lets +onlyGivenNames x6
      refine .letS x6 ?_ (fun hx6 => ?_)
      · unfold x6
        refine .step ?_ (State.cntQ_keeps _ _ _) rfl
        refine .step ?_ (State.qWrite_keeps _ _ _ _ _) rfl
        assumption
      clear_value x6
      refine .step ?_ (State.updQueue_keeps _ _ _) rfl
      assumption

theorem State.lastWord_keeps (s : State) (r : Rec) : s.sameBut (State.lastWord s r) [.evt, .keeper] := by
  unfold State.lastWord
  extract_lets +onlyGivenNames x1
  clear_value x1
  refine .step ?_ (State.raise_keeps _ _ _) rfl
  refine .step ?_ (State.sameBut.keeper _) rfl
  exact .refl

theorem State.writeRec_keeps (s : State) (r : Rec) : s.sameBut (State.writeRec s r) [.outbox, .evt, .keeper, .cntr, .tlm, .host] := by
  unfold State.writeRec
  extract_lets +onlyGivenNames x1
  refine .letP x1 ?_ (fun hx1 => ?_)
  · unfold x1
    refine .step ?_ (State.toRing_keeps _ _) rfl
    exact .refl
  clear_value x1
  extract_lets +onlyGivenNames x2
  refine .letP x2 ?_ (fun hx2 => ?_)
  · unfold x2
    refine .step ?_ (State.stage_keeps _ _) rfl
    assumption
  clear_value x2
  extract_lets +onlyGivenNames x3
  refine .letS x3 ?_ (fun hx3 => ?_)
  · unfold x3
    assumption
  clear_value x3
  extract_lets +onlyGivenNames x4
  refine .letS x4 ?_ (fun hx4 => ?_)
  · unfold x4
    refine .ite ?_ ?_
    · refine .step ?_ (State.qReport_keeps _ _ _ _) rfl
      assumption
    · assumption
  clear_value x4
  extract_lets +onlyGivenNames x5
  refine .letS x5 ?_ (fun hx5 => ?_)
  · unfold x5
    refine .ite ?_ ?_
    · refine .step ?_ (State.lastWord_keeps _ _) rfl
      assumption
    · assumption
  clear_value x5
  split
  · refine .step ?_ (State.formRec_keeps _ _ _ _ _) rfl
    refine .step ?_ (State.sameBut.evt _) rfl
    assumption
  · assumption

theorem State.settle_keeps (s : State) : s.sameBut (State.settle s) [.outbox, .regs, .evt, .plat, .keeper, .cntr, .tlm, .host] := by
  unfold State.settle
  extract_lets +onlyGivenNames x1
  clear_value x1
  extract_lets +onlyGivenNames x2
  clear_value x2
  extract_lets +onlyGivenNames x3
  refine .letS x3 ?_ (fun hx3 => ?_)
  · unfold x3
    refine .foldl (fun _ _ _ => ?_) ?_
    · refine .step ?_ (State.takeRaise_keeps _ _) rfl
      assumption
    · refine .step ?_ (State.sameBut.evt _) rfl
      exact .refl
  clear_value x3
  extract_lets +onlyGivenNames x4
  clear_value x4
  refine .foldl (fun _ _ _ => ?_) ?_
  · refine .step ?_ (State.writeRec_keeps _ _) rfl
    assumption
  · refine .step ?_ (State.sameBut.evt _) rfl
    assumption

theorem State.start_keeps (s : State) (cause : Nat) (bits : Word) (host : HostIf) : s.sameBut (State.start s cause bits host) [.freeCtr, .regs, .evt, .plat, .keeper, .chs, .cellar, .press, .vault, .ctl, .cntr, .tlm, .wd0, .clk, .host, .ident, .sealing, .crypt, .life, .side, .aux] := by
  unfold State.start
  extract_lets +onlyGivenNames x1
  clear_value x1
  extract_lets +onlyGivenNames x2
  clear_value x2
  extract_lets +onlyGivenNames x3
  clear_value x3
  extract_lets +onlyGivenNames x4
  clear_value x4
  extract_lets +onlyGivenNames x5
  clear_value x5
  extract_lets +onlyGivenNames x6
  clear_value x6
  extract_lets +onlyGivenNames x7
  clear_value x7
  extract_lets +onlyGivenNames x8
  clear_value x8
  extract_lets +onlyGivenNames x9
  clear_value x9
  extract_lets +onlyGivenNames x10
  clear_value x10
  extract_lets +onlyGivenNames x11
  clear_value x11
  extract_lets +onlyGivenNames x12
  clear_value x12
  extract_lets +onlyGivenNames x13
  clear_value x13
  extract_lets +onlyGivenNames x14
  refine .letS x14 ?_ (fun hx14 => ?_)
  · unfold x14
    refine .step ?_ (State.sameBut.regs_evt_plat_keeper_chs_cellar_press_vault_ctl_cntr_tlm_wd0_clk_host_ident_sealing_crypt_life_side_aux _ _ _ _ _ _ _ _ _ _ _ _ _ _ _ _ _ _ _ _) rfl
    exact .refl
  clear_value x14
  refine .step ?_ (State.setMode_keeps _ _ _) rfl
  refine .step ?_ (State.setCfg_keeps _ _ _) rfl
  assumption

theorem State.flushVec_keeps (s : State) (v : Nat) : s.sameBut (State.flushVec s v) [.outbox, .evt, .cntr, .host] := by
  unfold State.flushVec
  refine .dite (fun _ => ?_) (fun _ => ?_)
  · extract_lets +onlyGivenNames x1
    clear_value x1
    refine .ite ?_ ?_
    · exact .refl
    · refine .step ?_ (State.msi_keeps _ _) rfl
      refine .step ?_ (State.sameBut.host _) rfl
      exact .refl
  · exact .refl

theorem State.vecWrite_keeps (s : State) (off : Nat) (w : Word) : s.sameBut (State.vecWrite s off w) [.outbox, .evt, .cntr, .host] := by
  unfold State.vecWrite
  extract_lets +onlyGivenNames x1
  clear_value x1
  refine .dite (fun _ => ?_) (fun _ => ?_)
  · extract_lets +onlyGivenNames x2
    clear_value x2
    extract_lets +onlyGivenNames x3
    clear_value x3
    refine .step ?_ (State.flushVec_keeps _ _) rfl
    refine .step ?_ (State.sameBut.host _) rfl
    exact .refl
  · exact .refl

theorem State.bar4Read_keeps (s : State) (i : Nat) (h : Half) : s.sameBut (State.bar4Read s i h) [.outbox, .regs] := by
  unfold State.bar4Read
  extract_lets +onlyGivenNames x1
  clear_value x1
  extract_lets +onlyGivenNames x2
  clear_value x2
  split
  · refine .step ?_ (State.emit_keeps _ _) rfl
    refine .step ?_ (State.setView_keeps _ _ _) rfl
    exact .refl
  · refine .step ?_ (State.emit_keeps _ _) rfl
    refine .step ?_ (State.setView_keeps _ _ _) rfl
    exact .refl
  · refine .step ?_ (State.emit_keeps _ _) rfl
    exact .refl

theorem State.bar4Served_keeps (s : State) (k : Nat) (h : Half) : s.sameBut (State.bar4Served s k h) [.outbox, .regs, .evt] := by
  unfold State.bar4Served
  refine .ite ?_ ?_
  · refine .step ?_ (State.bar4Read_keeps _ _ _) rfl
    exact .refl
  · refine .step ?_ (State.emit_keeps _ _) rfl
    refine .step ?_ (State.raiseIf_keeps _ _ _ _) rfl
    refine .step ?_ (State.setSticky_keeps _ _ _) rfl
    exact .refl

theorem State.unsupported_keeps (s : State) : s.sameBut (State.unsupported s) [.outbox, .evt] := by
  unfold State.unsupported
  refine .step ?_ (State.raise_keeps _ _ _) rfl
  refine .step ?_ (State.emit_keeps _ _) rfl
  exact .refl

theorem State.sampleRec_keeps (s : State) (q : Req) : s.sameBut (State.sampleRec s q) [.regs] := by
  unfold State.sampleRec
  split
  · refine .step ?_ (State.addSample_keeps _ _ _ _ _) rfl
    exact .refl
  · refine .step ?_ (State.addSample_keeps _ _ _ _ _) rfl
    exact .refl

theorem State.sampleStream_keeps (s : State) (q : Req) : s.sameBut (State.sampleStream s q) [.regs] := by
  unfold State.sampleStream
  split
  · extract_lets +onlyGivenNames x1
    clear_value x1
    refine .step ?_ (State.addSample_keeps _ _ _ _ _) rfl
    exact .refl
  · refine .step ?_ (State.addSample_keeps _ _ _ _ _) rfl
    exact .refl

theorem State.sampleFor_keeps (s : State) (q : Req) (off : Nat) : s.sameBut (State.sampleFor s q off) [.regs] := by
  unfold State.sampleFor
  refine .ite ?_ ?_
  · refine .step ?_ (State.sampleRec_keeps _ _) rfl
    exact .refl
  · refine .ite ?_ ?_
    · refine .step ?_ (State.sampleStream_keeps _ _) rfl
      exact .refl
    · refine .ite ?_ ?_
      · extract_lets +onlyGivenNames x1
        clear_value x1
        refine .step ?_ (State.addSample_keeps _ _ _ _ _) rfl
        exact .refl
      · refine .ite ?_ ?_
        · refine .step ?_ (State.addSample_keeps _ _ _ _ _) rfl
          exact .refl
        · refine .ite ?_ ?_
          · refine .step ?_ (State.addSample_keeps _ _ _ _ _) rfl
            exact .refl
          · exact .refl

theorem State.busRead_keeps (s : State) (q : Req) (off : Nat) : s.sameBut (State.busRead s q off) [.freeCtr, .outbox, .regs] := by
  unfold State.busRead
  extract_lets +onlyGivenNames x1
  refine .letS x1 ?_ (fun hx1 => ?_)
  · unfold x1
    refine .step ?_ (State.sampleFor_keeps _ _ _) rfl
    exact .refl
  clear_value x1
  refine .step ?_ (State.afterRead_keeps _ _ _) rfl
  refine .step ?_ (State.emit_keeps _ _) rfl
  assumption

theorem State.stageKey_keeps (s : State) (q : Req) (key : Nat) (v : Word) : s.sameBut (State.stageKey s q key v) [.regs] := by
  unfold State.stageKey
  extract_lets +onlyGivenNames x1
  clear_value x1
  refine .ite ?_ ?_
  · exact .refl
  · refine .step ?_ (State.setView_keeps _ _ _) rfl
    exact .refl

theorem State.writeRoute_keeps (s : State) (q : Req) (v : Word) : s.sameBut (State.writeRoute s q v) [.regs] := by
  unfold State.writeRoute
  extract_lets +onlyGivenNames x1
  clear_value x1
  extract_lets +onlyGivenNames x2
  refine .letS x2 ?_ (fun hx2 => ?_)
  · unfold x2
    refine .ite ?_ ?_
    · exact .refl
    · refine .step ?_ (State.stageKey_keeps _ _ _ _) rfl
      exact .refl
  clear_value x2
  refine .step ?_ (State.autoInc_keeps _ _ _ _ _) rfl
  assumption

theorem State.writeCounter_keeps (s : State) (q : Req) (hi : Word) : s.sameBut (State.writeCounter s q hi) [.regs, .cntr] := by
  unfold State.writeCounter
  extract_lets +onlyGivenNames x1
  clear_value x1
  extract_lets +onlyGivenNames x2
  clear_value x2
  extract_lets +onlyGivenNames x3
  clear_value x3
  extract_lets +onlyGivenNames x4
  clear_value x4
  extract_lets +onlyGivenNames x5
  refine .letS x5 ?_ (fun hx5 => ?_)
  · unfold x5
    refine .step ?_ (State.setView_keeps _ _ _) rfl
    exact .refl
  clear_value x5
  extract_lets +onlyGivenNames x6
  clear_value x6
  extract_lets +onlyGivenNames x7
  refine .letS x7 ?_ (fun hx7 => ?_)
  · unfold x7
    refine .ite ?_ ?_
    · assumption
    · refine .step ?_ (State.sameBut.cntr _) rfl
      assumption
  clear_value x7
  refine .step ?_ (State.autoInc_keeps _ _ _ _ _) rfl
  assumption

theorem State.writeTable_keeps {s t : State} {q : Req} {off : Nat} {v : Word} (h : State.writeTable s q off v = some t) :
    s.sameBut t [.regs] := by
  unfold State.writeTable at h
  have st : ∀ k, s.sameBut (s.stageKey q k v) [.regs] := fun k => State.stageKey_keeps _ _ _ _
  have ai : ∀ k o b w, s.sameBut ((s.stageKey q k v).autoInc q o b w) [.regs] :=
    fun k o b w => .step (st k) (State.autoInc_keeps _ _ _ _ _) rfl
  dsimp only at h
  split at h
  · cases h; exact ai _ _ _ _
  split at h
  · (repeat' split at h) <;> cases h <;> first | exact st _ | exact ai _ _ _ _
  · cases h

theorem State.stageWrite_keeps (s : State) (q : Req) (off : Nat) (v : Word) :
    s.sameBut (State.stageWrite s q off v) [.regs, .cntr] := by
  unfold State.stageWrite
  split
  · exact .mono (State.writeTable_keeps (by assumption)) rfl
  · refine .ite (.mono (State.writeRoute_keeps _ _ _) rfl) (.ite (.mono (State.setView_keeps _ _ _) rfl)
      (.ite (.mono (State.writeCounter_keeps _ _ _) rfl) (.ite .refl ?_)))
    split
    · exact .refl
    · exact .ite (.mono (State.setOwn_keeps _ _ _ _) rfl) (.ite (.mono (State.setCfg_keeps _ _ _) rfl)
        (.mono (State.stageKey_keeps _ _ _ _) rfl))

theorem State.clearSticky_keeps (s : State) (off : Nat) (bits : Word) : s.sameBut (State.clearSticky s off bits) [.regs] := by
  unfold State.clearSticky
  refine .step ?_ (State.sameBut.regs _) rfl
  exact .refl

theorem State.beginChange_keeps (s : State) (c : KeyChange) : s.sameBut (State.beginChange s c) [.crypt] := by
  unfold State.beginChange
  extract_lets +onlyGivenNames x1
  clear_value x1
  extract_lets +onlyGivenNames x2
  refine .letS x2 ?_ (fun hx2 => ?_)
  · unfold x2
    refine .ite ?_ ?_
    · refine .step ?_ (State.setCask_keeps _ _ _) rfl
      exact .refl
    · exact .refl
  clear_value x2
  refine .step ?_ (State.sameBut.crypt _) rfl
  assumption

theorem State.wdZeroPeriod_keeps (s : State) (rd : Nat → Word) : s.sameBut (State.wdZeroPeriod s rd) [.evt] := by
  unfold State.wdZeroPeriod
  refine forCh_keeps _ _ (fun _ _ _ => ?_) ?_ rfl
  · refine .step ?_ (State.raiseIf_keeps _ _ _ _) rfl
    assumption
  · exact .refl

theorem State.setResult_keeps (s : State) (q : Req) (st : Status) (mask : Word) (failGrp : Word) : s.sameBut (State.setResult s q st mask failGrp) [.regs] := by
  unfold State.setResult
  refine .step ?_ (State.setView_keeps _ _ _) rfl
  exact .refl

theorem State.beginCommit_keeps (s : State) (q : Req) (mask : Word) : s.sameBut (State.beginCommit s q mask) [.regs, .evt] := by
  unfold State.beginCommit
  extract_lets +onlyGivenNames x1
  clear_value x1
  refine .ite ?_ ?_
  · refine .step ?_ (State.sameBut.regs _) rfl
    exact .refl
  · extract_lets +onlyGivenNames x2
    refine .letS x2 ?_ (fun hx2 => ?_)
    · unfold x2
      refine .ite ?_ ?_
      · refine .step ?_ (State.wdZeroPeriod_keeps _ _) rfl
        exact .refl
      · exact .refl
    clear_value x2
    refine .step ?_ (State.setResult_keeps _ _ _ _ _) rfl
    assumption

theorem State.beginSegment_keeps (s : State) (a1 : Stream) (g : Seg) (e : Nat) : s.sameBut (State.beginSegment s a1 g e) [.press, .sealing] := by
  unfold State.beginSegment
  extract_lets +onlyGivenNames x1
  clear_value x1
  extract_lets +onlyGivenNames x2
  clear_value x2
  extract_lets +onlyGivenNames x3
  refine .letS x3 ?_ (fun hx3 => ?_)
  · unfold x3
    refine .step ?_ (State.sameBut.press _) rfl
    exact .refl
  clear_value x3
  refine .step ?_ (State.setStream_keeps _ _) rfl
  assumption

theorem State.keepInact_keeps (s : State) (n : Ch) (k : SlotId) (m : Option Manifest) : s.sameBut (State.keepInact s n k m) [.chs] := by
  unfold State.keepInact
  refine .ite ?_ ?_
  · exact .refl
  · refine .step ?_ (State.updSlot_keeps _ _ _ _) rfl
    exact .refl

theorem State.updRec_keeps (s : State) (n : Ch) (f : RecJob → RecJob) : s.sameBut (State.updRec s n f) [.ident] := by
  unfold State.updRec
  refine .step ?_ (State.sameBut.ident _) rfl
  exact .refl

theorem State.recExhausted_keeps (s : State) (n : Ch) : s.sameBut (State.recExhausted s n) [.freeCtr, .outbox, .regs, .evt, .keeper, .chs, .cellar, .press, .vault, .ctl, .ident] := by
  unfold State.recExhausted
  refine .step ?_ (State.quarantine_keeps _ _ _) rfl
  refine .step ?_ (State.raise_keeps _ _ _) rfl
  refine .step ?_ (State.sameBut.ident _) rfl
  exact .refl

theorem State.sourceFails_keeps (s : State) (n : Ch) (j : RecJob) : s.sameBut (State.sourceFails s n j) [.freeCtr, .outbox, .regs, .evt, .keeper, .chs, .cellar, .press, .vault, .ctl, .ident] := by
  unfold State.sourceFails
  extract_lets +onlyGivenNames x1
  refine .letS x1 ?_ (fun hx1 => ?_)
  · unfold x1
    refine .step ?_ (State.raise_keeps _ _ _) rfl
    exact .refl
  clear_value x1
  refine .ite ?_ ?_
  · refine .step ?_ (State.recExhausted_keeps _ _) rfl
    assumption
  · refine .step ?_ (State.updRec_keeps _ _ _) rfl
    assumption

theorem State.slotRestored_keeps (s : State) (n : Ch) (j : RecJob) : s.sameBut (State.slotRestored s n j) [.freeCtr, .outbox, .regs, .evt, .keeper, .chs, .cellar, .press, .vault, .ctl, .ident] := by
  unfold State.slotRestored
  split
  · refine .step ?_ (State.updRec_keeps _ _ _) rfl
    exact .refl
  · extract_lets +onlyGivenNames x1
    clear_value x1
    extract_lets +onlyGivenNames x2
    refine .letS x2 ?_ (fun hx2 => ?_)
    · unfold x2
      refine .step ?_ (State.raise_keeps _ _ _) rfl
      refine .step ?_ (State.sameBut.ident _) rfl
      exact .refl
    clear_value x2
    extract_lets +onlyGivenNames x3
    refine .letS x3 ?_ (fun hx3 => ?_)
    · unfold x3
      refine .step ?_ (State.platChange_keeps _) rfl
      assumption
    clear_value x3
    refine .ite ?_ ?_
    · refine .step ?_ (State.requestSub_keeps _ _) rfl
      refine .step ?_ (State.reserve_keeps _ _) rfl
      assumption
    · refine .step ?_ (State.reserve_keeps _ _) rfl
      assumption

theorem State.recActCommit_keeps (s : State) (n : Ch) (j : RecJob) : s.sameBut (State.recActCommit s n j) [.freeCtr, .outbox, .regs, .evt, .keeper, .chs, .cellar, .press, .vault, .ctl, .ident] := by
  unfold State.recActCommit
  extract_lets +onlyGivenNames x1
  clear_value x1
  refine .ite ?_ ?_
  · refine .step ?_ (State.updRec_keeps _ _ _) rfl
    exact .refl
  · extract_lets +onlyGivenNames x2
    clear_value x2
    extract_lets +onlyGivenNames x3
    refine .letS x3 ?_ (fun hx3 => ?_)
    · unfold x3
      refine .step ?_ (State.commitAct_keeps _ _ _) rfl
      exact .refl
    clear_value x3
    refine .ite ?_ ?_
    · refine .step ?_ (State.sourceFails_keeps _ _ _) rfl
      refine .step ?_ (State.updSlot_keeps _ _ _ _) rfl
      exact .refl
    · extract_lets +onlyGivenNames x4
      refine .letS x4 ?_ (fun hx4 => ?_)
      · unfold x4
        refine .step ?_ (State.updSlot_keeps _ _ _ _) rfl
        assumption
      clear_value x4
      refine .step ?_ (State.slotRestored_keeps _ _ _) rfl
      refine .step ?_ (State.sameBut.ident _) rfl
      assumption

theorem State.recRecord_keeps (s : State) (n : Ch) (j : RecJob) (state : Nat) (step : Nat) : s.sameBut (State.recRecord s n j state step) [.vault] := by
  unfold State.recRecord
  refine .step ?_ (State.intent_keeps _ _ _ _ _ _ _ _ _ _) rfl
  exact .refl

theorem State.beginSource_keeps (s : State) (n : Ch) (j : RecJob) (src : Nat) (m : Option Manifest) : s.sameBut (State.beginSource s n j src m) [.freeCtr, .outbox, .regs, .evt, .keeper, .chs, .cellar, .press, .vault, .ctl, .ident] := by
  unfold State.beginSource
  extract_lets +onlyGivenNames x1
  refine .letS x1 ?_ (fun hx1 => ?_)
  · unfold x1
    refine .ite ?_ ?_
    · refine .step ?_ (State.keepInact_keeps _ _ _ _) rfl
      exact .refl
    · exact .refl
  clear_value x1
  extract_lets +onlyGivenNames x2
  refine .letS x2 ?_ (fun hx2 => ?_)
  · unfold x2
    refine .step ?_ (State.updRec_keeps _ _ _) rfl
    assumption
  clear_value x2
  extract_lets +onlyGivenNames x3
  clear_value x3
  refine .ite ?_ ?_
  · refine .step ?_ (State.recActCommit_keeps _ _ _) rfl
    assumption
  · refine .ite ?_ ?_
    · refine .step ?_ (State.recRecord_keeps _ _ _ _ _) rfl
      assumption
    · refine .step ?_ (State.raise_keeps _ _ _) rfl
      refine .ite ?_ ?_
      · refine .step ?_ (State.sameBut.ident _) rfl
        assumption
      · assumption

theorem State.wearErase_keeps (s : State) (area : Nat) : s.sameBut (State.wearErase s area) [.evt, .vault] := by
  unfold State.wearErase
  extract_lets +onlyGivenNames x1
  clear_value x1
  refine .step ?_ (State.raiseIf_keeps _ _ _ _) rfl
  refine .step ?_ (State.sameBut.vault _) rfl
  exact .refl

theorem State.carryUnit_keeps (s : State) : s.sameBut (State.carryUnit s) [.evt] := by
  unfold State.carryUnit
  extract_lets +onlyGivenNames x1
  clear_value x1
  extract_lets +onlyGivenNames x2
  clear_value x2
  extract_lets +onlyGivenNames x3
  clear_value x3
  extract_lets +onlyGivenNames x4
  clear_value x4
  extract_lets +onlyGivenNames x5
  clear_value x5
  refine .step ?_ (State.sameBut.evt _) rfl
  exact .refl

theorem State.blockDurable_keeps (s : State) (b : JBlock) (rest : List JBlock) : s.sameBut (State.blockDurable s b rest) [.evt, .vault] := by
  unfold State.blockDurable
  extract_lets +onlyGivenNames x1
  clear_value x1
  extract_lets +onlyGivenNames x2
  refine .letS x2 ?_ (fun hx2 => ?_)
  · unfold x2
    refine .step ?_ (State.sameBut.evt _) rfl
    exact .refl
  clear_value x2
  refine .ite ?_ ?_
  · refine .step ?_ (State.wearErase_keeps _ _) rfl
    refine .step ?_ (State.carryUnit_keeps _) rfl
    assumption
  · assumption

theorem State.blockEnd_keeps (s : State) (n : Ch) : s.sameBut (State.blockEnd s n) [.chs] := by
  unfold State.blockEnd
  refine .ite ?_ ?_
  · refine .step ?_ (State.updPort_keeps _ _ _) rfl
    exact .refl
  · exact .refl

theorem State.blockWrite_keeps (s : State) (t : Txn) (kind : OpKind) (v : Nat) : s.sameBut (State.blockWrite s t kind v) [.outbox, .evt, .plat, .chs, .cntr] := by
  unfold State.blockWrite
  extract_lets +onlyGivenNames x1
  clear_value x1
  extract_lets +onlyGivenNames x2
  clear_value x2
  refine .step ?_ (State.exception_keeps _ _ _) rfl
  refine .step ?_ (State.raiseCh_keeps _ _ _ _) rfl
  refine .step ?_ (State.cnt_keeps _ _ _ _) rfl
  refine .step ?_ (State.updPort_keeps _ _ _) rfl
  exact .refl

theorem State.partFailed_keeps (s : State) (n : Ch) (k : PartId) : s.sameBut (State.partFailed s n k) [.freeCtr, .outbox, .regs, .evt, .keeper, .chs, .cellar, .press, .vault, .ctl, .ident] := by
  unfold State.partFailed
  extract_lets +onlyGivenNames x1
  refine .letS x1 ?_ (fun hx1 => ?_)
  · unfold x1
    refine .step ?_ (State.updPart_keeps _ _ _ _) rfl
    exact .refl
  clear_value x1
  extract_lets +onlyGivenNames x2
  clear_value x2
  extract_lets +onlyGivenNames x3
  refine .letS x3 ?_ (fun hx3 => ?_)
  · unfold x3
    refine .foldl (fun _ _ _ => ?_) ?_
    · refine .ite ?_ ?_
      · refine .step ?_ (State.setBusy_keeps _ _ _ _) rfl
        assumption
      · assumption
    · assumption
  clear_value x3
  extract_lets +onlyGivenNames x4
  refine .letS x4 ?_ (fun hx4 => ?_)
  · unfold x4
    refine .step ?_ (State.updPort_keeps _ _ _) rfl
    assumption
  clear_value x4
  extract_lets +onlyGivenNames x5
  refine .letS x5 ?_ (fun hx5 => ?_)
  · unfold x5
    refine .step ?_ (State.raiseCh_keeps _ _ _ _) rfl
    assumption
  clear_value x5
  refine .ite ?_ ?_
  · refine .step ?_ (State.quarantine_keeps _ _ _) rfl
    assumption
  · assumption

theorem State.raiseDrops_keeps (s : State) (t : Training) (src : Nat) : s.sameBut (State.raiseDrops s t src) [.evt] := by
  unfold State.raiseDrops
  refine .foldl (fun _ _ _ => ?_) ?_
  · refine .step ?_ (State.raise_keeps _ _ _) rfl
    assumption
  · exact .refl

theorem State.writePattern_keeps (s : State) (n : Ch) (k : PartId) (erased : Bool) : s.sameBut (State.writePattern s n k erased) [.outbox] := by
  unfold State.writePattern
  split
  · refine .step ?_ (State.flash_keeps _ _ _ _ _ _ _) rfl
    exact .refl
  · exact .refl

theorem State.bringPart_keeps (s : State) (n : Ch) (k : PartId) (f : Option PartFound) : s.sameBut (State.bringPart s n k f).1 [.freeCtr, .outbox, .regs, .evt, .plat, .keeper, .chs, .cellar, .press, .vault, .ctl, .cntr, .ident] := by
  unfold State.bringPart
  extract_lets +onlyGivenNames x1
  clear_value x1
  refine .ite_fst ?_ ?_
  · refine .fst_mk ?_
    exact .refl
  · split
    · refine .fst_mk ?_
      refine .step ?_ (State.raiseCh_keeps _ _ _ _) rfl
      refine .step ?_ (State.updPart_keeps _ _ _ _) rfl
      exact .refl
    · refine .ite_fst ?_ ?_
      · refine .fst_mk ?_
        refine .step ?_ (State.raiseCh_keeps _ _ _ _) rfl
        refine .step ?_ (State.updPart_keeps _ _ _ _) rfl
        exact .refl
      · split
        · refine .fst_mk ?_
          refine .step ?_ (State.partFailed_keeps _ _ _) rfl
          exact .refl
        · refine .ite_fst ?_ ?_
          · refine .fst_mk ?_
            refine .step ?_ (State.partFailed_keeps _ _ _) rfl
            refine .step ?_ (State.exception_keeps _ _ _) rfl
            refine .step ?_ (State.raiseCh_keeps _ _ _ _) rfl
            exact .refl
          · extract_lets +onlyGivenNames x2
            refine .letS x2 ?_ (fun hx2 => ?_)
            · unfold x2
              refine .step ?_ (State.updPart_keeps _ _ _ _) rfl
              exact .refl
            clear_value x2
            refine .fst_mk ?_
            refine .step ?_ (State.raiseDrops_keeps _ _ _) rfl
            refine .step ?_ (State.writePattern_keeps _ _ _ _) rfl
            refine .step ?_ (State.cnt_keeps _ _ _ _) rfl
            assumption

theorem State.loadAnchors_keeps (s : State) (n : Ch) (k : SlotId) (copy : Nat) (npages : Nat) : s.sameBut (State.loadAnchors s n k copy npages) [.evt, .cellar, .cntr] := by
  unfold State.loadAnchors
  refine .foldl (fun _ _ _ => ?_) ?_
  · refine .step ?_ (State.admitNode_keeps _ _) rfl
    assumption
  · exact .refl

theorem State.bringSlot_keeps (s : State) (n : Ch) (k : SlotId) (f : SlotFound) :
    s.sameBut (State.bringSlot s n k f).1 [.evt, .chs, .cellar, .cntr] := by
  have key : ∀ (c : Nat) (o : Option Manifest), s.sameBut (match c, o with
      | 0, some m => (((s.updSlot n k (fun z => z.setMan (s.actCopy n k) (some m))).loadAnchors n k
          (s.actCopy n k) m.npages), true)
      | c, _ => (s.raiseCh n (manEvent c) (chArg 0 0 (s.actCopy n k) k.val), false) : State × Bool).1 [.evt, .chs, .cellar, .cntr] := by
    intro c o
    split
    · exact .step (.mono (State.updSlot_keeps _ _ _ _) rfl) (State.loadAnchors_keeps _ _ _ _ _) rfl
    · exact .mono (State.raiseCh_keeps _ _ _ _) rfl
  unfold State.bringSlot
  split
  · exact .refl
  · exact key _ _

theorem State.broughtEnd_keeps (s : State) (n : Ch) (good : Bool) : s.sameBut (State.broughtEnd s n good) [.plat, .chs] := by
  unfold State.broughtEnd
  extract_lets +onlyGivenNames x1
  clear_value x1
  extract_lets +onlyGivenNames x2
  clear_value x2
  extract_lets +onlyGivenNames x3
  refine .letS x3 ?_ (fun hx3 => ?_)
  · unfold x3
    refine .step ?_ (State.sameBut.plat _) rfl
    exact .refl
  clear_value x3
  refine .step ?_ (State.updChan_keeps _ _ _) rfl
  assumption

theorem State.burnDone_keeps (s : State) (n : Ch) (k : SlotId) : s.sameBut (State.burnDone s n k) [.chs, .vault] := by
  unfold State.burnDone
  extract_lets +onlyGivenNames x1
  clear_value x1
  extract_lets +onlyGivenNames x2
  clear_value x2
  refine .step ?_ (State.intent_keeps _ _ _ _ _ _ _ _ _ _) rfl
  refine .step ?_ (State.updSlot_keeps _ _ _ _) rfl
  exact .refl

theorem State.updOtp_keeps (s : State) (f : Otp → Otp) : s.sameBut (State.updOtp s f) [.life] := by
  unfold State.updOtp
  refine .step ?_ (State.sameBut.life _) rfl
  exact .refl

theorem State.burnEol_keeps (s : State) (stop : Option Nat) : s.sameBut (State.burnEol s stop).1 [.evt, .life] := by
  unfold State.burnEol
  extract_lets +onlyGivenNames x1
  clear_value x1
  extract_lets +onlyGivenNames x2
  refine .letS x2 ?_ (fun hx2 => ?_)
  · unfold x2
    refine .step ?_ (State.updOtp_keeps _ _) rfl
    exact .refl
  clear_value x2
  refine .fst_mk ?_
  refine .step ?_ (State.raiseIf_keeps _ _ _ _) rfl
  assumption

theorem State.burnFuses_keeps (s : State) : s.sameBut (State.burnFuses s) [.evt, .crypt, .life] := by
  unfold State.burnFuses
  extract_lets +onlyGivenNames x1
  refine .letS x1 ?_ (fun hx1 => ?_)
  · unfold x1
    refine .step ?_ (State.updOtp_keeps _ _) rfl
    exact .refl
  clear_value x1
  refine .step ?_ (State.raise_keeps _ _ _) rfl
  refine .step ?_ (State.sameBut.crypt _) rfl
  assumption

theorem State.otpFail_keeps (s : State) : s.sameBut (State.otpFail s) [.evt, .life] := by
  unfold State.otpFail
  refine .step ?_ (State.raise_keeps _ _ _) rfl
  refine .step ?_ (State.sameBut.life _) rfl
  exact .refl

theorem State.burnHelper_keeps (s : State) (h : Helper) (ok : Bool) : s.sameBut (State.burnHelper s h ok) [.evt, .life] := by
  unfold State.burnHelper
  refine .ite ?_ ?_
  · exact .refl
  · refine .ite ?_ ?_
    · refine .step ?_ (State.raise_keeps _ _ _) rfl
      refine .step ?_ (State.updOtp_keeps _ _) rfl
      exact .refl
    · refine .step ?_ (State.otpFail_keeps _) rfl
      exact .refl

theorem State.burnOwners_keeps (s : State) (ks : List KeyEnt) (stop : Option Nat) : s.sameBut (State.burnOwners s ks stop).1 [.evt, .life] := by
  unfold State.burnOwners
  extract_lets +onlyGivenNames x1
  clear_value x1
  extract_lets +onlyGivenNames x2
  clear_value x2
  extract_lets +onlyGivenNames x3
  refine .letS x3 ?_ (fun hx3 => ?_)
  · unfold x3
    refine .step ?_ (State.updOtp_keeps _ _) rfl
    exact .refl
  clear_value x3
  refine .fst_mk ?_
  refine .ite ?_ ?_
  · refine .foldl (fun _ _ _ => ?_) ?_
    · refine .step ?_ (State.raise_keeps _ _ _) rfl
      assumption
    · assumption
  · assumption

theorem State.burnProd_keeps (s : State) (stop : Option Nat) : s.sameBut (State.burnProd s stop).1 [.life] := by
  unfold State.burnProd
  extract_lets +onlyGivenNames x1
  clear_value x1
  refine .fst_mk ?_
  refine .step ?_ (State.updOtp_keeps _ _) rfl
  exact .refl

theorem State.burnRevoke_keeps (s : State) (vendor : Bool) (target : Nat) (stop : Option Nat) : s.sameBut (State.burnRevoke s vendor target stop).1 [.evt, .life] := by
  unfold State.burnRevoke
  extract_lets +onlyGivenNames x1
  clear_value x1
  extract_lets +onlyGivenNames x2
  clear_value x2
  extract_lets +onlyGivenNames x3
  clear_value x3
  extract_lets +onlyGivenNames x4
  refine .letS x4 ?_ (fun hx4 => ?_)
  · unfold x4
    refine .step ?_ (State.updOtp_keeps _ _) rfl
    exact .refl
  clear_value x4
  refine .fst_mk ?_
  refine .ite ?_ ?_
  · refine .foldl (fun _ _ _ => ?_) ?_
    · refine .step ?_ (State.raise_keeps _ _ _) rfl
      assumption
    · assumption
  · assumption

theorem State.noteBurn_keeps (s : State) (ctr : Nat) (v : Nat) : s.sameBut (State.noteBurn s ctr v) [.vault] := by
  unfold State.noteBurn
  extract_lets +onlyGivenNames x1
  clear_value x1
  extract_lets +onlyGivenNames x2
  clear_value x2
  refine .step ?_ (State.intent_keeps _ _ _ _ _ _ _ _ _ _) rfl
  exact .refl

theorem State.burnVintage_keeps (s : State) (k : Nat) : s.sameBut (State.burnVintage s k) [.life] := by
  unfold State.burnVintage
  refine .step ?_ (State.updOtp_keeps _ _) rfl
  exact .refl

theorem State.burnStep_keeps (s : State) (ctr : Nat) (v : Nat) : s.sameBut (State.burnStep s ctr v) [.evt, .vault, .life] := by
  unfold State.burnStep
  extract_lets +onlyGivenNames x1
  clear_value x1
  extract_lets +onlyGivenNames x2
  refine .letS x2 ?_ (fun hx2 => ?_)
  · unfold x2
    refine .ite ?_ ?_
    · exact .refl
    · refine .step ?_ (State.noteBurn_keeps _ _ _) rfl
      exact .refl
  clear_value x2
  refine .step ?_ (State.raise_keeps _ _ _) rfl
  refine .step ?_ (State.noteBurn_keeps _ _ _) rfl
  refine .step ?_ (State.burnVintage_keeps _ _) rfl
  assumption

theorem State.burnSubsys_keeps (s : State) (ssvid : Nat) (ssid : Nat) (stop : Option Nat) : s.sameBut (State.burnSubsys s ssvid ssid stop).1 [.evt, .life] := by
  unfold State.burnSubsys
  extract_lets +onlyGivenNames x1
  clear_value x1
  extract_lets +onlyGivenNames x2
  refine .letS x2 ?_ (fun hx2 => ?_)
  · unfold x2
    refine .step ?_ (State.updOtp_keeps _ _) rfl
    exact .refl
  clear_value x2
  refine .fst_mk ?_
  refine .step ?_ (State.raiseIf_keeps _ _ _ _) rfl
  assumption

theorem State.burnTest_keeps (s : State) (stop : Option Nat) : s.sameBut (State.burnTest s stop).1 [.life] := by
  unfold State.burnTest
  extract_lets +onlyGivenNames x1
  clear_value x1
  refine .fst_mk ?_
  refine .step ?_ (State.updOtp_keeps _ _) rfl
  exact .refl

theorem State.burnWord_keeps (s : State) (w : Nat) (stop : Option Nat) : s.sameBut (State.burnWord s w stop).1 [.evt, .life] := by
  unfold State.burnWord
  refine .ite_fst ?_ ?_
  · refine .step ?_ (State.burnTest_keeps _ _) rfl
    exact .refl
  · refine .ite_fst ?_ ?_
    · refine .step ?_ (State.burnProd_keeps _ _) rfl
      exact .refl
    · refine .step ?_ (State.burnEol_keeps _ _) rfl
      exact .refl

theorem State.flushMsi_keeps (s : State) : s.sameBut (State.flushMsi s) [.outbox, .evt, .cntr, .host] := by
  unfold State.flushMsi
  refine .foldl (fun _ _ _ => ?_) ?_
  · refine .step ?_ (State.flushVec_keeps _ _) rfl
    assumption
  · exact .refl

theorem State.busBack_keeps (s : State) : s.sameBut (State.busBack s) [.outbox, .evt, .cntr, .tlm, .host] := by
  unfold State.busBack
  refine .step ?_ (State.flushMsi_keeps _) rfl
  refine .step ?_ (State.flushCpl_keeps _) rfl
  exact .refl

theorem State.busOff_keeps (s : State) : s.sameBut (State.busOff s) [.evt, .host] := by
  unfold State.busOff
  refine .ite ?_ ?_
  · exact .refl
  · refine .step ?_ (State.raiseIf_keeps _ _ _ _) rfl
    refine .step ?_ (State.sameBut.host _) rfl
    exact .refl

theorem State.opEnd_keeps (s : State) (n : Ch) (ok : Bool) : s.sameBut (State.opEnd s n ok) [.chs] := by
  unfold State.opEnd
  split
  · refine .step ?_ (State.updPort_keeps _ _ _) rfl
    refine .step ?_ (State.setBusy_keeps _ _ _ _) rfl
    exact .refl
  · exact .refl

theorem State.busyEnds_keeps (s : State) (n : Ch) (ok : Bool) : s.sameBut (State.busyEnds s n ok) [.chs] := by
  unfold State.busyEnds
  refine .ite ?_ ?_
  · refine .step ?_ (State.blockEnd_keeps _ _) rfl
    exact .refl
  · refine .step ?_ (State.opEnd_keeps _ _ _) rfl
    exact .refl

theorem State.goldenInvalid_keeps (s : State) (n : Ch) (k : SlotId) : s.sameBut (State.goldenInvalid s n k) [.evt, .vault] := by
  unfold State.goldenInvalid
  split
  · exact .refl
  · extract_lets +onlyGivenNames x1
    clear_value x1
    refine .step ?_ (State.raise_keeps _ _ _) rfl
    refine .step ?_ (State.writeHeader_keeps _) rfl
    refine .step ?_ (State.sameBut.vault _) rfl
    exact .refl

theorem State.noSource_keeps (s : State) (n : Ch) (k : SlotId) (copy : Nat) : s.sameBut (State.noSource s n k copy) [.evt, .chs, .vault] := by
  unfold State.noSource
  refine .ite ?_ ?_
  · refine .step ?_ (State.goldenInvalid_keeps _ _ _) rfl
    exact .refl
  · refine .step ?_ (State.raiseCh_keeps _ _ _ _) rfl
    refine .step ?_ (State.updSlot_keeps _ _ _ _) rfl
    exact .refl

theorem State.startReimage_keeps (s : State) (n : Ch) (k : SlotId) : s.sameBut (State.startReimage s n k) [.freeCtr, .evt, .keeper, .chs, .cellar, .press, .ctl, .ident] := by
  unfold State.startReimage
  refine .ite ?_ ?_
  · refine .step ?_ (State.enterReimaging_keeps _ _ _ _ _) rfl
    exact .refl
  · exact .refl

theorem State.knowBad_keeps (s : State) (n : Ch) (p : PageId) : s.sameBut (State.knowBad s n p) [.freeCtr, .outbox, .regs, .evt, .keeper, .chs, .cellar, .press, .vault, .ctl, .ident] := by
  unfold State.knowBad
  refine .ite ?_ ?_
  · exact .refl
  · extract_lets +onlyGivenNames x1
    refine .letS x1 ?_ (fun hx1 => ?_)
    · unfold x1
      refine .step ?_ (State.updChan_keeps _ _ _) rfl
      exact .refl
    clear_value x1
    refine .ite ?_ ?_
    · refine .step ?_ (State.quarantine_keeps _ _ _) rfl
      assumption
    · assumption

theorem State.graftExhausted_keeps (s : State) (n : Ch) (g : Graft) : s.sameBut (State.graftExhausted s n g) [.freeCtr, .outbox, .regs, .evt, .keeper, .chs, .cellar, .press, .vault, .ctl, .ident] := by
  unfold State.graftExhausted
  extract_lets +onlyGivenNames x1
  refine .letS x1 ?_ (fun hx1 => ?_)
  · unfold x1
    refine .step ?_ (State.updChan_keeps _ _ _) rfl
    exact .refl
  clear_value x1
  extract_lets +onlyGivenNames x2
  refine .letS x2 ?_ (fun hx2 => ?_)
  · unfold x2
    refine .step ?_ (State.raiseCh_keeps _ _ _ _) rfl
    assumption
  clear_value x2
  refine .ite ?_ ?_
  · refine .step ?_ (State.noSource_keeps _ _ _ _) rfl
    assumption
  · refine .ite ?_ ?_
    · refine .step ?_ (State.startReimage_keeps _ _ _) rfl
      assumption
    · refine .ite ?_ ?_
      · refine .foldl (fun _ _ _ => ?_) ?_
        · refine .step ?_ (State.knowBad_keeps _ _ _) rfl
          assumption
        · assumption
      · assumption

theorem State.candFails_keeps (s : State) (n : Ch) (g : Graft) (c : Nat) : s.sameBut (State.candFails s n g c) [.freeCtr, .outbox, .regs, .evt, .keeper, .chs, .cellar, .press, .vault, .ctl, .ident] := by
  unfold State.candFails
  extract_lets +onlyGivenNames x1
  clear_value x1
  refine .ite ?_ ?_
  · refine .step ?_ (State.graftExhausted_keeps _ _ _) rfl
    exact .refl
  · refine .step ?_ (State.updChan_keeps _ _ _) rfl
    exact .refl

theorem State.i3c_keeps {ps : List Comp} {s0 : State} (s : State) (p : Nat) (addr : Option Nat) (k : State → State) (hk : ∀ (y0 : State), s0.sameBut y0 ps → s0.sameBut (k y0) ps) (hs : s0.sameBut s ps) (hc : covers [] ps = true) : s0.sameBut (State.i3c s p addr k) ps := by
  unfold State.i3c
  refine .ite ?_ ?_
  · apply hk
    assumption
  · assumption

theorem State.cccRead_keeps (s : State) (p : Nat) (addr : Nat) (bs : List Byte) : s.sameBut (State.cccRead s p addr bs) [.outbox] := by
  unfold State.cccRead
  refine State.i3c_keeps _ _ _ _ (fun _ _ => ?_) ?_ rfl
  · refine .step ?_ (State.emit_keeps _ _) rfl
    assumption
  · exact .refl

theorem State.checkGuard_keeps (s : State) : s.sameBut (State.checkGuard s) [.freeCtr, .evt, .plat, .keeper] := by
  unfold State.checkGuard
  refine .ite ?_ ?_
  · refine .step ?_ (State.setMode_keeps _ _ _) rfl
    exact .refl
  · exact .refl

theorem State.checkInact_keeps (s : State) (n : Ch) (j : RecJob) (m : Option Manifest) (anchors : Bool) : s.sameBut (State.checkInact s n j m anchors) [.evt] := by
  unfold State.checkInact
  refine .ite ?_ ?_
  · exact .refl
  · extract_lets +onlyGivenNames x1
    clear_value x1
    extract_lets +onlyGivenNames x2
    clear_value x2
    refine .step ?_ (State.raiseIf_keeps _ _ _ _) rfl
    exact .refl

theorem State.checkRtc_keeps (s : State) : s.sameBut (State.checkRtc s) [.keeper] := by
  unfold State.checkRtc
  split
  · refine .ite ?_ ?_
    · refine .step ?_ (State.sameBut.keeper _) rfl
      exact .refl
    · exact .refl
  · exact .refl

theorem State.useNonce_keeps (s : State) : s.sameBut (State.useNonce s) [.ident] := by
  unfold State.useNonce
  refine .step ?_ (State.sameBut.ident _) rfl
  exact .refl

theorem State.checkToken_keeps (s : State) (t : Token) : s.sameBut (State.checkToken s t).1 [.evt, .ident, .crypt] := by
  unfold State.checkToken
  extract_lets +onlyGivenNames x1
  refine .letP x1 ?_ (fun hx1 => ?_)
  · unfold x1
    refine State.withPku_keeps _ _ _ (fun _ _ => ?_) ?_ rfl
    · refine .fst_mk ?_
      assumption
    · exact .refl
  clear_value x1
  refine .fst_mk ?_
  refine .step ?_ (State.raiseIf_keeps _ _ _ _) rfl
  refine .step ?_ (State.useNonce_keeps _) rfl
  assumption

theorem State.clearLog_keeps (s : State) : s.sameBut (State.clearLog s) [.outbox, .regs, .evt, .plat, .cntr, .host] := by
  unfold State.clearLog
  extract_lets +onlyGivenNames x1
  clear_value x1
  extract_lets +onlyGivenNames x2
  clear_value x2
  extract_lets +onlyGivenNames x3
  clear_value x3
  extract_lets +onlyGivenNames x4
  refine .letS x4 ?_ (fun hx4 => ?_)
  · unfold x4
    refine .step ?_ (State.sameBut.evt _) rfl
    exact .refl
  clear_value x4
  refine .step ?_ (State.deliver_keeps _ _) rfl
  refine .step ?_ (State.formRec_keeps _ _ _ _ _) rfl
  assumption

theorem State.clearStores_keeps (s : State) : s.sameBut (State.clearStores s) [.outbox, .evt, .cellar, .cntr, .tlm, .host, .crypt] := by
  unfold State.clearStores
  extract_lets +onlyGivenNames x1
  refine .letS x1 ?_ (fun hx1 => ?_)
  · unfold x1
    split
    · refine .step ?_ (State.completeCmd_keeps _ _ _) rfl
      exact .refl
    · exact .refl
  clear_value x1
  refine .step ?_ (State.sameBut.cellar_crypt _ _) rfl
  assumption

theorem State.closeRepairs_keeps (s : State) (n : Ch) (k : SlotId) (copy : Nat) : s.sameBut (State.closeRepairs s n k copy) [.chs, .vault] := by
  unfold State.closeRepairs
  extract_lets +onlyGivenNames x1
  clear_value x1
  extract_lets +onlyGivenNames x2
  refine .letS x2 ?_ (fun hx2 => ?_)
  · unfold x2
    refine .foldl (fun _ _ _ => ?_) ?_
    · refine .step ?_ (State.intent_keeps _ _ _ _ _ _ _ _ _ _) rfl
      assumption
    · exact .refl
  clear_value x2
  refine .step ?_ (State.updChan_keeps _ _ _) rfl
  assumption

theorem State.mctpSend_keeps (s : State) (eid : Nat) (bs : List Byte) : s.sameBut (State.mctpSend s eid bs) [.outbox, .side] := by
  unfold State.mctpSend
  extract_lets +onlyGivenNames x1
  refine .letS x1 ?_ (fun hx1 => ?_)
  · unfold x1
    refine .step ?_ (State.emit_keeps _ _) rfl
    exact .refl
  clear_value x1
  split
  · refine .ite ?_ ?_
    · refine .step ?_ (State.queueResponse_keeps _ _ _) rfl
      assumption
    · assumption
  · assumption

theorem State.command_keeps {ps : List Comp} {s0 : State} (s : State) (src : Src) (opcode : Nat) (k : State → State × Reply) (hk : ∀ (y0 : State), s0.sameBut y0 ps → s0.sameBut (k y0).1 ps) (hs : s0.sameBut s ps) (hc : covers [.outbox, .evt, .cntr, .tlm, .host, .side] ps = true) : s0.sameBut (State.command s src opcode k).1 ps := by
  unfold State.command
  split
  · split
    · refine .fst_mk ?_
      assumption
    · refine .ite_fst ?_ ?_
      · refine .fst_mk ?_
        assumption
      · refine .ite_fst ?_ ?_
        · refine .fst_mk ?_
          refine .step ?_ (State.completeCmd_keeps _ _ _) (covers_trans rfl hc)
          assumption
        · refine .ite_fst ?_ ?_
          · refine .fst_mk ?_
            refine .step ?_ (State.completeCmd_keeps _ _ _) (covers_trans rfl hc)
            assumption
          · extract_lets +onlyGivenNames x1
            refine .letP x1 ?_ (fun hx1 => ?_)
            · unfold x1
              apply hk
              assumption
            clear_value x1
            refine .fst_mk ?_
            refine .step ?_ (State.completeCmd_keeps _ _ _) (covers_trans rfl hc)
            assumption
  · refine .ite_fst ?_ ?_
    · refine .fst_mk ?_
      assumption
    · refine .ite_fst ?_ ?_
      · refine .fst_mk ?_
        refine .step ?_ (State.mctpSend_keeps _ _ _) (covers_trans rfl hc)
        assumption
      · refine .ite_fst ?_ ?_
        · refine .fst_mk ?_
          refine .step ?_ (State.mctpSend_keeps _ _ _) (covers_trans rfl hc)
          assumption
        · extract_lets +onlyGivenNames x2
          refine .letP x2 ?_ (fun hx2 => ?_)
          · unfold x2
            apply hk
            assumption
          clear_value x2
          refine .fst_mk ?_
          refine .step ?_ (State.mctpSend_keeps _ _ _) (covers_trans rfl hc)
          assumption
  · refine .ite_fst ?_ ?_
    · refine .fst_mk ?_
      assumption
    · refine .ite_fst ?_ ?_
      · refine .fst_mk ?_
        refine .step ?_ (State.emit_keeps _ _) (covers_trans rfl hc)
        assumption
      · extract_lets +onlyGivenNames x3
        refine .letP x3 ?_ (fun hx3 => ?_)
        · unfold x3
          apply hk
          assumption
        clear_value x3
        refine .fst_mk ?_
        refine .step ?_ (State.emit_keeps _ _) (covers_trans rfl hc)
        assumption

theorem State.commitGo_keeps (s : State) (q : Req) (mask : Word) : s.sameBut (State.commitGo s q mask) [.regs, .evt] := by
  unfold State.commitGo
  refine .ite ?_ ?_
  · refine .step ?_ (State.setView_keeps _ _ _) rfl
    exact .refl
  · refine .ite ?_ ?_
    · refine .step ?_ (State.setResult_keeps _ _ _ _ _) rfl
      exact .refl
    · refine .ite ?_ ?_
      · refine .step ?_ (State.beginCommit_keeps _ _ _) rfl
        exact .refl
      · refine .step ?_ (State.sameBut.regs _) rfl
        exact .refl

theorem State.latchTrip_keeps (s : State) (src : Nat) (cls : Nat) : s.sameBut (State.latchTrip s src cls) [.keeper] := by
  unfold State.latchTrip
  extract_lets +onlyGivenNames x1
  clear_value x1
  refine .ite ?_ ?_
  · exact .refl
  · refine .ite ?_ ?_
    · refine .step ?_ (State.sameBut.keeper _) rfl
      exact .refl
    · refine .ite ?_ ?_
      · refine .step ?_ (State.sameBut.keeper _) rfl
        exact .refl
      · exact .refl

theorem State.history_keeps (s : State) (src : Nat) (cls : Nat) : s.sameBut (State.history s src cls) [.keeper] := by
  unfold State.history
  extract_lets +onlyGivenNames x1
  clear_value x1
  extract_lets +onlyGivenNames x2
  clear_value x2
  refine .ite ?_ ?_
  · extract_lets +onlyGivenNames x3
    clear_value x3
    extract_lets +onlyGivenNames x4
    clear_value x4
    extract_lets +onlyGivenNames x5
    clear_value x5
    refine .step ?_ (State.sameBut.keeper _) rfl
    exact .refl
  · extract_lets +onlyGivenNames x6
    clear_value x6
    extract_lets +onlyGivenNames x7
    clear_value x7
    refine .step ?_ (State.sameBut.keeper _) rfl
    exact .refl

theorem State.noteTrip_keeps (s : State) (src : Nat) (cls : Nat) : s.sameBut (State.noteTrip s src cls) [.keeper] := by
  unfold State.noteTrip
  extract_lets +onlyGivenNames x1
  clear_value x1
  extract_lets +onlyGivenNames x2
  refine .letS x2 ?_ (fun hx2 => ?_)
  · unfold x2
    refine .step ?_ (State.sameBut.keeper _) rfl
    exact .refl
  clear_value x2
  refine .step ?_ (State.latchTrip_keeps _ _ _) rfl
  refine .step ?_ (State.history_keeps _ _ _) rfl
  assumption

theorem State.endRun_keeps (s : State) (cause : Nat) (st : Status) : s.sameBut (State.endRun s cause st) [.outbox, .evt, .press, .cntr, .tlm, .host, .sealing] := by
  unfold State.endRun
  refine .ite ?_ ?_
  · exact .refl
  · extract_lets +onlyGivenNames x1
    refine .letS x1 ?_ (fun hx1 => ?_)
    · unfold x1
      refine .foldl (fun _ _ _ => ?_) ?_
      · extract_lets +onlyGivenNames x2
        refine .letS x2 ?_ (fun hx2 => ?_)
        · unfold x2
          split
          · refine .step ?_ (State.failSeg_keeps _ _ _) rfl
            refine .step ?_ (State.segCredit_keeps _ _) rfl
            assumption
          · assumption
        clear_value x2
        extract_lets +onlyGivenNames x3
        refine .letS x3 ?_ (fun hx3 => ?_)
        · unfold x3
          refine .step ?_ (State.dropQueue_keeps _ _ _) rfl
          assumption
        clear_value x3
        split
        · refine .step ?_ (State.completeCmd_keeps _ _ _) rfl
          assumption
        · assumption
      · exact .refl
    clear_value x1
    refine .step ?_ (State.sameBut.sealing _) rfl
    assumption

theorem State.zeroiseLine_keeps (s : State) (cause : Nat) : s.sameBut (State.zeroiseLine s cause) [.outbox, .evt, .cellar, .press, .cntr, .tlm, .host, .sealing, .crypt] := by
  unfold State.zeroiseLine
  refine .step ?_ (State.raise_keeps _ _ _) rfl
  refine .step ?_ (State.clearStores_keeps _) rfl
  refine .step ?_ (State.endRun_keeps _ _ _) rfl
  exact .refl

theorem State.holdAll_keeps (s : State) : s.sameBut (State.holdAll s) [.freeCtr, .outbox, .regs, .evt, .keeper, .chs, .cellar, .vault, .ctl, .ident] := by
  unfold State.holdAll
  refine forCh_keeps _ _ (fun _ _ _ => ?_) ?_ rfl
  · split
    · assumption
    · extract_lets +onlyGivenNames x1
      refine .letP x1 ?_ (fun hx1 => ?_)
      · unfold x1
        refine .step ?_ (State.resetSlots_keeps _ _) rfl
        refine .step ?_ (State.dropReset_keeps _ _) rfl
        assumption
      clear_value x1
      refine .step ?_ (State.setAgent_keeps _ _ _) rfl
      refine .step ?_ (State.updAgt_keeps _ _ _) rfl
      assumption
    · refine .step ?_ (State.setAgent_keeps _ _ _) rfl
      assumption
  · exact .refl

theorem State.enterLockdown_keeps (s : State) (cause : Nat) : s.sameBut (State.enterLockdown s cause) [.freeCtr, .outbox, .regs, .evt, .plat, .keeper, .chs, .cellar, .press, .vault, .ctl, .cntr, .tlm, .host, .ident, .sealing, .crypt, .life] := by
  unfold State.enterLockdown
  refine .ite ?_ ?_
  · exact .refl
  · extract_lets +onlyGivenNames x1
    refine .letS x1 ?_ (fun hx1 => ?_)
    · unfold x1
      refine .step ?_ (State.clearStores_keeps _) rfl
      refine .step ?_ (State.endRun_keeps _ _ _) rfl
      exact .refl
    clear_value x1
    extract_lets +onlyGivenNames x2
    refine .letS x2 ?_ (fun hx2 => ?_)
    · unfold x2
      refine .step ?_ (State.setMode_keeps _ _ _) rfl
      refine .step ?_ (State.holdAll_keeps _) rfl
      assumption
    clear_value x2
    extract_lets +onlyGivenNames x3
    clear_value x3
    refine .step ?_ (State.sameBut.ctl_ident_life _ _ _) rfl
    assumption

theorem State.trip_keeps (s : State) (src : Nat) : s.sameBut (State.trip s src) [.freeCtr, .outbox, .regs, .evt, .plat, .keeper, .chs, .cellar, .press, .vault, .ctl, .cntr, .tlm, .host, .ident, .sealing, .crypt, .life] := by
  unfold State.trip
  extract_lets +onlyGivenNames x1
  clear_value x1
  extract_lets +onlyGivenNames x2
  clear_value x2
  refine .ite ?_ ?_
  · exact .refl
  · extract_lets +onlyGivenNames x3
    refine .letS x3 ?_ (fun hx3 => ?_)
    · unfold x3
      refine .step ?_ (State.noteTrip_keeps _ _ _) rfl
      exact .refl
    clear_value x3
    refine .ite ?_ ?_
    · assumption
    · refine .ite ?_ ?_
      · refine .step ?_ (State.raiseAt_keeps _ _ _ _) rfl
        assumption
      · refine .ite ?_ ?_
        · refine .step ?_ (State.raiseAt_keeps _ _ _ _) rfl
          assumption
        · extract_lets +onlyGivenNames x4
          clear_value x4
          extract_lets +onlyGivenNames x5
          refine .letS x5 ?_ (fun hx5 => ?_)
          · unfold x5
            refine .step ?_ (State.zeroiseLine_keeps _ _) rfl
            assumption
          clear_value x5
          extract_lets +onlyGivenNames x6
          refine .letS x6 ?_ (fun hx6 => ?_)
          · unfold x6
            refine forCh_keeps _ _ (fun _ _ _ => ?_) ?_ rfl
            · refine .step ?_ (State.updPort_keeps _ _ _) rfl
              assumption
            · assumption
          clear_value x6
          extract_lets +onlyGivenNames x7
          refine .letS x7 ?_ (fun hx7 => ?_)
          · unfold x7
            refine .step ?_ (State.raiseAt_keeps _ _ _ _) rfl
            refine .step ?_ (State.enterLockdown_keeps _ _) rfl
            assumption
          clear_value x7
          refine .ite ?_ ?_
          · refine .step ?_ (State.burnFuses_keeps _) rfl
            assumption
          · assumption

theorem State.judgeLoss_keeps (s : State) : s.sameBut (State.judgeLoss s) [.freeCtr, .outbox, .regs, .evt, .plat, .keeper, .chs, .cellar, .press, .vault, .ctl, .cntr, .tlm, .host, .ident, .sealing, .crypt, .life] := by
  unfold State.judgeLoss
  refine .ite ?_ ?_
  · refine .step ?_ (State.trip_keeps _ _) rfl
    refine .step ?_ (State.sameBut.life _) rfl
    exact .refl
  · exact .refl

theorem State.decantAgain_keeps (s : State) (n : Ch) : s.sameBut (State.decantAgain s n) [.freeCtr, .outbox, .regs, .evt, .keeper, .chs, .cellar, .press, .vault, .ctl, .ident] := by
  unfold State.decantAgain
  refine .ite ?_ ?_
  · extract_lets +onlyGivenNames x1
    refine .letS x1 ?_ (fun hx1 => ?_)
    · unfold x1
      refine .step ?_ (State.updAgt_keeps _ _ _) rfl
      refine .step ?_ (State.updChan_keeps _ _ _) rfl
      refine .step ?_ (State.freeChan_keeps _ _) rfl
      exact .refl
    clear_value x1
    refine .ite ?_ ?_
    · refine .step ?_ (State.startDecant_keeps _ _) rfl
      assumption
    · refine .step ?_ (State.tryDecant_keeps _ _) rfl
      assumption
  · exact .refl

theorem State.seqStart_keeps (s : State) : s.sameBut (State.seqStart s) [.ctl] := by
  unfold State.seqStart
  refine .step ?_ (State.sameBut.ctl _) rfl
  exact .refl

theorem State.platformRestored_keeps (s : State) : s.sameBut (State.platformRestored s) [.freeCtr, .outbox, .regs, .evt, .plat, .keeper, .chs, .cellar, .press, .vault, .ctl, .ident] := by
  unfold State.platformRestored
  refine .ite ?_ ?_
  · extract_lets +onlyGivenNames x1
    clear_value x1
    extract_lets +onlyGivenNames x2
    refine .letS x2 ?_ (fun hx2 => ?_)
    · unfold x2
      refine forCh_keeps _ _ (fun _ _ _ => ?_) ?_ rfl
      · refine .ite ?_ ?_
        · refine .step ?_ (State.decantAgain_keeps _ _) rfl
          assumption
        · refine .step ?_ (State.tryDecant_keeps _ _) rfl
          assumption
      · refine .step ?_ (State.setMode_keeps _ _ _) rfl
        exact .refl
    clear_value x2
    refine .ite ?_ ?_
    · refine .step ?_ (State.seqStart_keeps _) rfl
      assumption
    · assumption
  · exact .refl

theorem State.setPolSlot_keeps (s : State) (k : Nat) (p : Option PolSlot) : s.sameBut (State.setPolSlot s k p) [.ident] := by
  unfold State.setPolSlot
  refine .step ?_ (State.sameBut.ident _) rfl
  exact .refl

theorem State.policyOutcome_keeps (s : State) (st : Status) (failGrp : Word) : s.sameBut (State.policyOutcome s st failGrp) [.freeCtr, .outbox, .regs, .evt, .plat, .keeper, .chs, .cellar, .press, .vault, .ctl, .cntr, .tlm, .host, .ident, .sealing, .crypt, .life] := by
  unfold State.policyOutcome
  split
  · split
    · extract_lets +onlyGivenNames x1
      refine .letS x1 ?_ (fun hx1 => ?_)
      · unfold x1
        refine .ite ?_ ?_
        · exact .refl
        · refine .step ?_ (State.writeHeader_keeps _) rfl
          exact .refl
      clear_value x1
      extract_lets +onlyGivenNames x2
      clear_value x2
      extract_lets +onlyGivenNames x3
      clear_value x3
      extract_lets +onlyGivenNames x4
      clear_value x4
      extract_lets +onlyGivenNames x5
      clear_value x5
      extract_lets +onlyGivenNames x6
      refine .letS x6 ?_ (fun hx6 => ?_)
      · unfold x6
        refine .step ?_ (State.sameBut.plat_ctl_ident _ _ _) rfl
        assumption
      clear_value x6
      extract_lets +onlyGivenNames x7
      refine .letS x7 ?_ (fun hx7 => ?_)
      · unfold x7
        refine .step ?_ (State.platChange_keeps _) rfl
        refine .step ?_ (State.raise_keeps _ _ _) rfl
        assumption
      clear_value x7
      extract_lets +onlyGivenNames x8
      refine .letS x8 ?_ (fun hx8 => ?_)
      · unfold x8
        refine .step ?_ (State.judgeLoss_keeps _) rfl
        refine forCh_keeps _ _ (fun _ _ _ => ?_) ?_ rfl
        · refine .step ?_ (State.tryDecant_keeps _ _) rfl
          assumption
        · assumption
      clear_value x8
      refine .ite ?_ ?_
      · refine .step ?_ (State.platformRestored_keeps _) rfl
        assumption
      · assumption
    · extract_lets +onlyGivenNames x9
      clear_value x9
      extract_lets +onlyGivenNames x10
      refine .letS x10 ?_ (fun hx10 => ?_)
      · unfold x10
        refine .step ?_ (State.setPolSlot_keeps _ _ _) rfl
        exact .refl
      clear_value x10
      refine .step ?_ (State.raise_keeps _ _ _) rfl
      refine .step ?_ (State.sameBut.ident _) rfl
      assumption
    · exact .refl
  · exact .refl

theorem State.commitOutcome_keeps (s : State) (q : Req) (st : Status) (mask : Word) (failGrp : Word) : s.sameBut (State.commitOutcome s q st mask failGrp) [.freeCtr, .outbox, .regs, .evt, .plat, .keeper, .chs, .cellar, .press, .vault, .ctl, .cntr, .tlm, .host, .ident, .sealing, .crypt, .life] := by
  unfold State.commitOutcome
  extract_lets +onlyGivenNames x1
  refine .letS x1 ?_ (fun hx1 => ?_)
  · unfold x1
    refine .step ?_ (State.setResult_keeps _ _ _ _ _) rfl
    exact .refl
  clear_value x1
  refine .ite ?_ ?_
  · refine .step ?_ (State.policyOutcome_keeps _ _ _) rfl
    assumption
  · assumption

theorem State.compactBegin_keeps (s : State) (key : Bool) : s.sameBut (State.compactBegin s key) [.vault] := by
  unfold State.compactBegin
  extract_lets +onlyGivenNames x1
  clear_value x1
  extract_lets +onlyGivenNames x2
  refine .letS x2 ?_ (fun hx2 => ?_)
  · unfold x2
    refine .step ?_ (State.intent_keeps _ _ _ _ _ _ _ _ _ _) rfl
    exact .refl
  clear_value x2
  refine .step ?_ (State.sameBut.vault _) rfl
  assumption

theorem State.updVaultPart_keeps (s : State) (k : PartId) (f : Part → Part) : s.sameBut (State.updVaultPart s k f) [.vault] := by
  unfold State.updVaultPart
  refine .step ?_ (State.sameBut.vault _) rfl
  exact .refl

theorem State.vaultIdle_keeps (s : State) (k : PartId) : s.sameBut (State.vaultIdle s k) [.vault] := by
  unfold State.vaultIdle
  refine .step ?_ (State.updVaultPart_keeps _ _ _) rfl
  exact .refl

theorem State.vaultDone_keeps (s : State) : s.sameBut (State.vaultDone s) [.vault] := by
  unfold State.vaultDone
  refine .ite ?_ ?_
  · refine .step ?_ (State.vaultIdle_keeps _ _) rfl
    exact .refl
  · exact .refl

theorem State.compactEnd_keeps (s : State) (key : Bool) (n : Nat) : s.sameBut (State.compactEnd s key n) [.evt, .vault, .crypt] := by
  unfold State.compactEnd
  extract_lets +onlyGivenNames x1
  refine .letS x1 ?_ (fun hx1 => ?_)
  · unfold x1
    refine .step ?_ (State.vaultDone_keeps _) rfl
    exact .refl
  clear_value x1
  extract_lets +onlyGivenNames x2
  clear_value x2
  extract_lets +onlyGivenNames x3
  refine .letS x3 ?_ (fun hx3 => ?_)
  · unfold x3
    refine .step ?_ (State.sameBut.vault _) rfl
    assumption
  clear_value x3
  extract_lets +onlyGivenNames x4
  clear_value x4
  extract_lets +onlyGivenNames x5
  clear_value x5
  extract_lets +onlyGivenNames x6
  clear_value x6
  extract_lets +onlyGivenNames x7
  refine .letS x7 ?_ (fun hx7 => ?_)
  · unfold x7
    refine .ite ?_ ?_
    · refine .step ?_ (State.wearErase_keeps _ _) rfl
      refine .step ?_ (State.sameBut.crypt _) rfl
      assumption
    · refine .step ?_ (State.wearErase_keeps _ _) rfl
      refine .step ?_ (State.sameBut.vault _) rfl
      assumption
  clear_value x7
  refine .step ?_ (State.intent_keeps _ _ _ _ _ _ _ _ _ _) rfl
  assumption

theorem State.confirmImage_keeps (s : State) (n : Ch) (k : SlotId) : s.sameBut (State.confirmImage s n k) [.evt, .chs, .vault] := by
  unfold State.confirmImage
  split
  · extract_lets +onlyGivenNames x1
    clear_value x1
    extract_lets +onlyGivenNames x2
    clear_value x2
    extract_lets +onlyGivenNames x3
    refine .letS x3 ?_ (fun hx3 => ?_)
    · unfold x3
      refine .step ?_ (State.raiseCh_keeps _ _ _ _) rfl
      refine .step ?_ (State.updSlot_keeps _ _ _ _) rfl
      exact .refl
    clear_value x3
    extract_lets +onlyGivenNames x4
    clear_value x4
    extract_lets +onlyGivenNames x5
    refine .letS x5 ?_ (fun hx5 => ?_)
    · unfold x5
      refine .step ?_ (State.intent_keeps _ _ _ _ _ _ _ _ _ _) rfl
      assumption
    clear_value x5
    refine .ite ?_ ?_
    · refine .step ?_ (State.burnDone_keeps _ _ _) rfl
      assumption
    · refine .step ?_ (State.intent_keeps _ _ _ _ _ _ _ _ _ _) rfl
      assumption
  · exact .refl

theorem State.confirmSlot_keeps (s : State) (n : Ch) (k : SlotId) : s.sameBut (State.confirmSlot s n k).1 [.evt, .chs, .vault] := by
  unfold State.confirmSlot
  refine .ite_fst ?_ ?_
  · refine .fst_mk ?_
    refine .step ?_ (State.confirmImage_keeps _ _ _) rfl
    exact .refl
  · refine .fst_mk ?_
    exact .refl

theorem State.confirmCmd_keeps (s : State) (channel : Nat) (slot : Nat) : s.sameBut (State.confirmCmd s channel slot).1 [.evt, .chs, .vault] := by
  unfold State.confirmCmd
  refine .dite_fst (fun _ => ?_) (fun _ => ?_)
  · exact State.confirmSlot_keeps _ _ _
  · refine .fst_mk ?_
    exact .refl

theorem State.vaultFlash_keeps (s : State) (k : PartId) (op : FlashOp) : s.sameBut (State.vaultFlash s k op) [.outbox] := by
  unfold State.vaultFlash
  refine .step ?_ (State.emit_keeps _ _) rfl
  exact .refl

theorem State.tendRedirects_keeps (s : State) (n : Ch) : s.sameBut (State.tendRedirects s n) [.outbox, .chs, .vault] := by
  unfold State.tendRedirects
  extract_lets +onlyGivenNames x1
  refine .letS x1 ?_ (fun hx1 => ?_)
  · unfold x1
    refine .foldl (fun _ _ _ => ?_) ?_
    · extract_lets +onlyGivenNames x2
      extract_lets +onlyGivenNames x3
      refine .ite ?_ ?_
      · refine .step ?_ (State.flash_keeps _ _ _ _ _ _ _) rfl
        refine .step ?_ (State.updPart_keeps _ _ _ _) rfl
        assumption
      · refine .ite ?_ ?_
        · refine .step ?_ (State.flash_keeps _ _ _ _ _ _ _) rfl
          refine .step ?_ (State.updPart_keeps _ _ _ _) rfl
          assumption
        · assumption
    · exact .refl
  clear_value x1
  extract_lets +onlyGivenNames x4
  extract_lets +onlyGivenNames x5
  clear_value x5
  extract_lets +onlyGivenNames x6
  clear_value x6
  refine .ite ?_ ?_
  · unfold x4
    refine .step ?_ (State.vaultFlash_keeps _ _ _) rfl
    refine .step ?_ (State.sameBut.vault _) rfl
    assumption
  · refine .ite ?_ ?_
    · unfold x4
      refine .step ?_ (State.vaultFlash_keeps _ _ _) rfl
      refine .step ?_ (State.sameBut.vault _) rfl
      assumption
    · assumption

theorem State.confirmedFailure_keeps (s : State) (n : Ch) (p : PageId) (copy : Nat) (cause : Nat) (node : Bool) : s.sameBut (State.confirmedFailure s n p copy cause node) [.freeCtr, .outbox, .regs, .evt, .keeper, .chs, .cellar, .press, .vault, .ctl, .ident] := by
  unfold State.confirmedFailure
  extract_lets +onlyGivenNames x1
  clear_value x1
  extract_lets +onlyGivenNames x2
  clear_value x2
  extract_lets +onlyGivenNames x3
  clear_value x3
  extract_lets +onlyGivenNames x4
  refine .letS x4 ?_ (fun hx4 => ?_)
  · unfold x4
    refine .step ?_ (State.updChan_keeps _ _ _) rfl
    exact .refl
  clear_value x4
  refine .ite ?_ ?_
  · refine .step ?_ (State.graftExhausted_keeps _ _ _) rfl
    assumption
  · refine .ite ?_ ?_
    · assumption
    · refine .step ?_ (State.tendRedirects_keeps _ _) rfl
      refine .step ?_ (State.updChan_keeps _ _ _) rfl
      assumption

theorem State.flipReset_keeps (s : State) (n : Ch) : s.sameBut (State.flipReset s n) [.freeCtr, .outbox, .regs, .evt, .keeper, .chs, .cellar, .vault, .ctl, .ident] := by
  unfold State.flipReset
  refine .ite ?_ ?_
  · refine .step ?_ (State.holdAgent_keeps _ _) rfl
    exact .refl
  · refine .ite ?_ ?_
    · extract_lets +onlyGivenNames x1
      refine .letP x1 ?_ (fun hx1 => ?_)
      · unfold x1
        refine .step ?_ (State.resetSlots_keeps _ _) rfl
        exact .refl
      clear_value x1
      refine .ite ?_ ?_
      · refine .step ?_ (State.decantNew_keeps _ _) rfl
        assumption
      · assumption
    · exact .refl

theorem State.copyDone_keeps (s : State) (n : Ch) (k : SlotId) (u : Update) (src : Nat) (dst : Nat) : s.sameBut (State.copyDone s n k u src dst) [.freeCtr, .outbox, .regs, .evt, .keeper, .chs, .cellar, .vault, .ctl, .ident] := by
  unfold State.copyDone
  extract_lets +onlyGivenNames x1
  clear_value x1
  extract_lets +onlyGivenNames x2
  refine .letS x2 ?_ (fun hx2 => ?_)
  · unfold x2
    refine .step ?_ (State.closeRepairs_keeps _ _ _ _) rfl
    exact .refl
  clear_value x2
  extract_lets +onlyGivenNames x3
  refine .letS x3 ?_ (fun hx3 => ?_)
  · unfold x3
    refine .step ?_ (State.intent_keeps _ _ _ _ _ _ _ _ _ _) rfl
    refine .step ?_ (State.updSlot_keeps _ _ _ _) rfl
    assumption
  clear_value x3
  extract_lets +onlyGivenNames x4
  refine .letS x4 ?_ (fun hx4 => ?_)
  · unfold x4
    refine .step ?_ (State.intent_keeps _ _ _ _ _ _ _ _ _ _) rfl
    assumption
  clear_value x4
  extract_lets +onlyGivenNames x5
  refine .letS x5 ?_ (fun hx5 => ?_)
  · unfold x5
    refine .step ?_ (State.runAfterCopy_keeps _ _) rfl
    refine .step ?_ (State.raiseCh_keeps _ _ _ _) rfl
    assumption
  clear_value x5
  refine .ite ?_ ?_
  · refine .step ?_ (State.flipReset_keeps _ _) rfl
    assumption
  · assumption

theorem State.countCellar_keeps (s : State) (n : Ch) (k : Nat) : s.sameBut (State.countCellar s n k) [.evt, .chs, .cntr] := by
  unfold State.countCellar
  refine .step ?_ (State.cnt_keeps _ _ _ _) rfl
  refine .step ?_ (State.updPort_keeps _ _ _) rfl
  exact .refl

theorem State.countCycle_keeps (s : State) (n : Ch) : s.sameBut (State.countCycle s n) [.evt, .cntr] := by
  unfold State.countCycle
  extract_lets +onlyGivenNames x1
  clear_value x1
  extract_lets +onlyGivenNames x2
  clear_value x2
  extract_lets +onlyGivenNames x3
  refine .letS x3 ?_ (fun hx3 => ?_)
  · unfold x3
    refine .step ?_ (State.cnt_keeps _ _ _ _) rfl
    exact .refl
  clear_value x3
  refine .ite ?_ ?_
  · extract_lets +onlyGivenNames x4
    clear_value x4
    extract_lets +onlyGivenNames x5
    clear_value x5
    extract_lets +onlyGivenNames x6
    clear_value x6
    extract_lets +onlyGivenNames x7
    refine .letS x7 ?_ (fun hx7 => ?_)
    · unfold x7
      refine .step ?_ (State.addCounter_keeps _ _ _) rfl
      assumption
    clear_value x7
    refine .step ?_ (State.cnt_keeps _ _ _ _) rfl
    refine .step ?_ (State.cnt_keeps _ _ _ _) rfl
    refine .step ?_ (State.cnt_keeps _ _ _ _) rfl
    refine .step ?_ (State.cnt_keeps _ _ _ _) rfl
    assumption
  · assumption

theorem State.countHeartbeat_keeps (s : State) (n : Ch) : s.sameBut (State.countHeartbeat s n) [.evt, .chs, .vault] := by
  unfold State.countHeartbeat
  extract_lets +onlyGivenNames x1
  refine .letS x1 ?_ (fun hx1 => ?_)
  · unfold x1
    refine .ite ?_ ?_
    · refine .step ?_ (State.setPhase_keeps _ _ _) rfl
      exact .refl
    · exact .refl
  clear_value x1
  refine .foldl (fun _ _ _ => ?_) ?_
  · split
    · refine .ite ?_ ?_
      · extract_lets +onlyGivenNames x2
        refine .letS x2 ?_ (fun hx2 => ?_)
        · unfold x2
          refine .step ?_ (State.updSlot_keeps _ _ _ _) rfl
          assumption
        clear_value x2
        extract_lets +onlyGivenNames x3
        clear_value x3
        refine .ite ?_ ?_
        · refine .step ?_ (State.confirmImage_keeps _ _ _) rfl
          assumption
        · assumption
      · assumption
    · assumption
  · assumption

theorem State.countRead_keeps (s : State) (k : Nat) (addr : optParam Nat 0) : s.sameBut (State.countRead s k addr) [.evt, .cntr, .tlm] := by
  unfold State.countRead
  extract_lets +onlyGivenNames x1
  refine .letS x1 ?_ (fun hx1 => ?_)
  · unfold x1
    refine .step ?_ (State.cntQ_keeps _ _ _) rfl
    refine .step ?_ (State.cntQ_keeps _ _ _) rfl
    exact .refl
  clear_value x1
  refine .step ?_ (State.sameBut.tlm _) rfl
  assumption

theorem State.countRt_keeps (s : State) (n : Ch) (k : Nat) : s.sameBut (State.countRt s n k) [.evt, .chs, .cntr] := by
  unfold State.countRt
  refine .step ?_ (State.cnt_keeps _ _ _ _) rfl
  refine .step ?_ (State.updPort_keeps _ _ _) rfl
  exact .refl

theorem State.countSegment_keeps (s : State) (p : Nat) (len : Nat) (src : Nat) (overlap : Nat) (enc : Bool) : s.sameBut (State.countSegment s p len src overlap enc) [.evt, .cntr, .tlm, .sealing] := by
  unfold State.countSegment
  extract_lets +onlyGivenNames x1
  refine .letS x1 ?_ (fun hx1 => ?_)
  · unfold x1
    refine .step ?_ (State.countRead_keeps _ _ _) rfl
    refine .step ?_ (State.cntQ_keeps _ _ _) rfl
    refine .step ?_ (State.cntQ_keeps _ _ _) rfl
    refine .step ?_ (State.cntQ_keeps _ _ _) rfl
    refine .step ?_ (State.cntQ_keeps _ _ _) rfl
    exact .refl
  clear_value x1
  refine .step ?_ (State.sameBut.tlm_sealing _ _) rfl
  assumption

theorem State.countSpan_keeps (s : State) (n : Ch) : s.sameBut (State.countSpan s n) [.tlm] := by
  unfold State.countSpan
  refine .step ?_ (State.sameBut.tlm _) rfl
  exact .refl

theorem State.countSynth_keeps (s : State) (n : Ch) (k : Nat) : s.sameBut (State.countSynth s n k) [.evt, .chs, .cntr] := by
  unfold State.countSynth
  refine .step ?_ (State.cnt_keeps _ _ _ _) rfl
  refine .step ?_ (State.updPort_keeps _ _ _) rfl
  exact .refl

theorem State.rejectDebug_keeps (s : State) (check : Nat) : s.sameBut (State.rejectDebug s check) [.evt, .life] := by
  unfold State.rejectDebug
  refine .step ?_ (State.raise_keeps _ _ _) rfl
  refine .step ?_ (State.sameBut.life _) rfl
  exact .refl

theorem State.debugReply_keeps (s : State) (len : Nat) (lenOk : Bool) (ts : List DbgToken) : s.sameBut (State.debugReply s len lenOk ts).1 [.evt, .keeper, .ident, .crypt, .life] := by
  unfold State.debugReply
  refine .ite_fst ?_ ?_
  · refine .fst_mk ?_
    exact .refl
  · extract_lets +onlyGivenNames x1
    clear_value x1
    extract_lets +onlyGivenNames x2
    refine .letS x2 ?_ (fun hx2 => ?_)
    · unfold x2
      refine .ite ?_ ?_
      · refine .step ?_ (State.useNonce_keeps _) rfl
        exact .refl
      · exact .refl
    clear_value x2
    extract_lets +onlyGivenNames x3
    refine .letP x3 ?_ (fun hx3 => ?_)
    · unfold x3
      refine State.withPku_keeps _ _ _ (fun _ _ => ?_) ?_ rfl
      · refine .fst_mk ?_
        assumption
      · assumption
    clear_value x3
    extract_lets +onlyGivenNames x4
    refine .letS x4 ?_ (fun hx4 => ?_)
    · unfold x4
      assumption
    clear_value x4
    refine .ite_fst ?_ ?_
    · refine .fst_mk ?_
      refine .step ?_ (State.rejectDebug_keeps _ _) rfl
      assumption
    · split
      · refine .ite_fst ?_ ?_
        · refine .fst_mk ?_
          refine .step ?_ (State.raise_keeps _ _ _) rfl
          refine .step ?_ (State.sameBut.life _) rfl
          assumption
        · refine .fst_mk ?_
          refine .step ?_ (State.sameBut.keeper_life _ _) rfl
          assumption
      · refine .fst_mk ?_
        refine .ite ?_ ?_
        · assumption
        · refine .step ?_ (State.rejectDebug_keeps _ _) rfl
          assumption

theorem State.keepNode_keeps (s : State) (n : Ch) (p : PageId) (copy : Nat) : s.sameBut (State.keepNode s n p copy) [.evt, .cellar, .cntr] := by
  unfold State.keepNode
  extract_lets +onlyGivenNames x1
  clear_value x1
  refine .ite ?_ ?_
  · refine .step ?_ (State.sameBut.cellar _) rfl
    exact .refl
  · refine .step ?_ (State.admitNode_keeps _ _) rfl
    exact .refl

theorem State.decantNode_keeps (s : State) (n : Ch) (p : PageId) (ok : Bool) : s.sameBut (State.decantNode s n p ok) [.freeCtr, .outbox, .regs, .evt, .keeper, .chs, .cellar, .press, .vault, .ctl, .cntr, .ident] := by
  unfold State.decantNode
  extract_lets +onlyGivenNames x1
  clear_value x1
  refine .ite ?_ ?_
  · exact .refl
  · refine .ite ?_ ?_
    · refine .step ?_ (State.keepNode_keeps _ _ _ _) rfl
      exact .refl
    · refine .step ?_ (State.confirmedFailure_keeps _ _ _ _ _ _) rfl
      refine .step ?_ (State.raiseCh_keeps _ _ _ _) rfl
      exact .refl

theorem State.xtsRefused_keeps (s : State) (n : Ch) (k : SlotId) (copy : Nat) : s.sameBut (State.xtsRefused s n k copy) [.evt] := by
  unfold State.xtsRefused
  split
  · refine .step ?_ (State.raiseIf_keeps _ _ _ _) rfl
    exact .refl
  · exact .refl

theorem State.xtsPage_keeps (s : State) (n : Ch) (p : PageId) (copy : Nat) (decrypt : Bool) : s.sameBut (State.xtsPage s n p copy decrypt) [.outbox] := by
  unfold State.xtsPage
  split
  · refine .step ?_ (State.emit_keeps _ _) rfl
    exact .refl
  · exact .refl

theorem State.decantPinned_keeps (s : State) (n : Ch) (p : PageId) (ok : Bool) (keyOk : Bool) : s.sameBut (State.decantPinned s n p ok keyOk) [.freeCtr, .outbox, .regs, .evt, .keeper, .chs, .cellar, .press, .vault, .ctl, .cntr, .ident] := by
  unfold State.decantPinned
  extract_lets +onlyGivenNames x1
  clear_value x1
  extract_lets +onlyGivenNames x2
  refine .letS x2 ?_ (fun hx2 => ?_)
  · unfold x2
    refine .step ?_ (State.updChan_keeps _ _ _) rfl
    exact .refl
  clear_value x2
  refine .ite ?_ ?_
  · assumption
  · refine .ite ?_ ?_
    · refine .step ?_ (State.confirmedFailure_keeps _ _ _ _ _ _) rfl
      refine .step ?_ (State.raiseCh_keeps _ _ _ _) rfl
      assumption
    · refine .ite ?_ ?_
      · refine .step ?_ (State.xtsRefused_keeps _ _ _ _) rfl
        assumption
      · refine .step ?_ (State.noteSet_keeps _ _) rfl
        refine .step ?_ (State.cnt_keeps _ _ _ _) rfl
        refine .step ?_ (State.xtsPage_keeps _ _ _ _ _) rfl
        refine .step ?_ (State.admitData_keeps _ _ _ _) rfl
        assumption

theorem State.decantPrefetch_keeps (s : State) (n : Ch) (p : PageId) (ok : Bool) : s.sameBut (State.decantPrefetch s n p ok) [.freeCtr, .outbox, .regs, .evt, .keeper, .chs, .cellar, .press, .vault, .ctl, .cntr, .ident] := by
  unfold State.decantPrefetch
  extract_lets +onlyGivenNames x1
  clear_value x1
  extract_lets +onlyGivenNames x2
  refine .ite ?_ ?_
  · unfold x2
    refine .step ?_ (State.updChan_keeps _ _ _) rfl
    exact .refl
  · extract_lets +onlyGivenNames x3
    refine .letS x3 ?_ (fun hx3 => ?_)
    · unfold x3
      refine .step ?_ (State.updChan_keeps _ _ _) rfl
      exact .refl
    clear_value x3
    refine .ite ?_ ?_
    · assumption
    · refine .ite ?_ ?_
      · refine .step ?_ (State.confirmedFailure_keeps _ _ _ _ _ _) rfl
        assumption
      · extract_lets +onlyGivenNames x4
        refine .letP x4 ?_ (fun hx4 => ?_)
        · unfold x4
          refine .step ?_ (State.admitData_keeps _ _ _ _) rfl
          assumption
        clear_value x4
        refine .ite ?_ ?_
        · refine .step ?_ (State.cnt_keeps _ _ _ _) rfl
          assumption
        · unfold x2
          refine .step ?_ (State.updChan_keeps _ _ _) rfl
          assumption

theorem State.degrade_keeps (s : State) (ring : Bool) : s.sameBut (State.degrade s ring) [.evt] := by
  unfold State.degrade
  refine .step ?_ (State.raise_keeps _ _ _) rfl
  refine .step ?_ (State.sameBut.evt _) rfl
  exact .refl

theorem State.withoutRoot_keeps (s : State) (i : Nat) (drbg : List Byte) : s.sameBut (State.withoutRoot s i drbg) [.crypt] := by
  unfold State.withoutRoot
  extract_lets +onlyGivenNames x1
  clear_value x1
  extract_lets +onlyGivenNames x2
  clear_value x2
  extract_lets +onlyGivenNames x3
  clear_value x3
  refine .ite ?_ ?_
  · exact .refl
  · refine .ite ?_ ?_
    · refine .step ?_ (State.fill_keeps _ _ _ _) rfl
      exact .refl
    · refine .step ?_ (State.setCask_keeps _ _ _) rfl
      exact .refl

theorem State.deriveFixed_keeps (s : State) (i : Nat) (ctx : List Byte) (gen : Option Nat) : s.sameBut (State.deriveFixed s i ctx gen) [.crypt] := by
  unfold State.deriveFixed
  extract_lets +onlyGivenNames x1
  clear_value x1
  extract_lets +onlyGivenNames x2
  clear_value x2
  split
  · refine .step ?_ (State.withoutRoot_keeps _ _ _) rfl
    exact .refl
  · refine .step ?_ (State.fill_keeps _ _ _ _) rfl
    exact .refl

theorem State.invalidateLive_keeps (s : State) (i : Nat) : s.sameBut (State.invalidateLive s i) [.outbox, .evt, .press, .cntr, .tlm, .host, .sealing, .crypt] := by
  unfold State.invalidateLive
  refine .ite ?_ ?_
  · refine .step ?_ (State.invalidate_keeps _ _) rfl
    exact .refl
  · exact .refl

theorem State.deriveL0_keeps (s : State) (w : Package) (st : Package) : s.sameBut (State.deriveL0 s w st) [.outbox, .evt, .press, .cntr, .tlm, .host, .ident, .sealing, .crypt] := by
  unfold State.deriveL0
  extract_lets +onlyGivenNames x1
  refine .letS x1 ?_ (fun hx1 => ?_)
  · unfold x1
    refine .step ?_ (State.invalidateLive_keeps _ _) rfl
    exact .refl
  clear_value x1
  extract_lets +onlyGivenNames x2
  clear_value x2
  extract_lets +onlyGivenNames x3
  refine .letS x3 ?_ (fun hx3 => ?_)
  · unfold x3
    refine .step ?_ (State.deriveFixed_keeps _ _ _ _) rfl
    refine .step ?_ (State.deriveFixed_keeps _ _ _ _) rfl
    refine .step ?_ (State.deriveFixed_keeps _ _ _ _) rfl
    assumption
  clear_value x3
  extract_lets +onlyGivenNames x4
  clear_value x4
  refine .step ?_ (State.sameBut.ident _) rfl
  assumption

theorem State.deriveL2_keeps (s : State) (platDig : List Byte) : s.sameBut (State.deriveL2 s platDig) [.outbox, .evt, .press, .cntr, .tlm, .host, .ident, .sealing, .crypt] := by
  unfold State.deriveL2
  extract_lets +onlyGivenNames x1
  refine .letS x1 ?_ (fun hx1 => ?_)
  · unfold x1
    refine .step ?_ (State.deriveFixed_keeps _ _ _ _) rfl
    refine .step ?_ (State.deriveFixed_keeps _ _ _ _) rfl
    refine .step ?_ (State.deriveFixed_keeps _ _ _ _) rfl
    refine .step ?_ (State.invalidateLive_keeps _ _) rfl
    exact .refl
  clear_value x1
  extract_lets +onlyGivenNames x2
  clear_value x2
  refine .step ?_ (State.sameBut.ident _) rfl
  assumption

theorem State.journalsLost_keeps (s : State) : s.sameBut (State.journalsLost s) [.evt, .vault, .sealing, .crypt] := by
  unfold State.journalsLost
  extract_lets +onlyGivenNames x1
  clear_value x1
  extract_lets +onlyGivenNames x2
  refine .letS x2 ?_ (fun hx2 => ?_)
  · unfold x2
    refine .foldl (fun _ _ _ => ?_) ?_
    · refine .step ?_ (State.raise_keeps _ _ _) rfl
      assumption
    · exact .refl
  clear_value x2
  extract_lets +onlyGivenNames x3
  refine .letS x3 ?_ (fun hx3 => ?_)
  · unfold x3
    refine .foldl (fun _ _ _ => ?_) ?_
    · refine .step ?_ (State.raiseIf_keeps _ _ _ _) rfl
      assumption
    · assumption
  clear_value x3
  refine .step ?_ (State.sameBut.evt_vault_sealing_crypt _ _ _ _) rfl
  assumption

theorem State.issueSeal_keeps (s : State) (auth : Nat) : s.sameBut (State.issueSeal s auth) [.ident, .crypt] := by
  unfold State.issueSeal
  extract_lets +onlyGivenNames x1
  clear_value x1
  refine .ite ?_ ?_
  · exact .refl
  · extract_lets +onlyGivenNames x2
    clear_value x2
    refine .step ?_ (State.sameBut.ident_crypt _ _) rfl
    exact .refl

theorem State.deriveStart_keeps (s : State) (p : Package) : s.sameBut (State.deriveStart s p) [.outbox, .evt, .keeper, .press, .vault, .cntr, .tlm, .host, .ident, .sealing, .crypt] := by
  unfold State.deriveStart
  extract_lets +onlyGivenNames x1
  refine .letS x1 ?_ (fun hx1 => ?_)
  · unfold x1
    refine .step ?_ (State.deriveL0_keeps _ _ _) rfl
    exact .refl
  clear_value x1
  extract_lets +onlyGivenNames x2
  clear_value x2
  extract_lets +onlyGivenNames x3
  refine .letS x3 ?_ (fun hx3 => ?_)
  · unfold x3
    refine .step ?_ (State.deriveFixed_keeps _ _ _ _) rfl
    refine .step ?_ (State.deriveFixed_keeps _ _ _ _) rfl
    refine .step ?_ (State.deriveFixed_keeps _ _ _ _) rfl
    refine .step ?_ (State.deriveFixed_keeps _ _ _ _) rfl
    assumption
  clear_value x3
  extract_lets +onlyGivenNames x4
  clear_value x4
  extract_lets +onlyGivenNames x5
  refine .letS x5 ?_ (fun hx5 => ?_)
  · unfold x5
    refine .step ?_ (State.deriveFixed_keeps _ _ _ _) rfl
    refine .step ?_ (State.deriveFixed_keeps _ _ _ _) rfl
    refine .step ?_ (State.deriveFixed_keeps _ _ _ _) rfl
    refine .step ?_ (State.drawn_keeps _) rfl
    assumption
  clear_value x5
  split
  · refine .step ?_ (State.degrade_keeps _ _) rfl
    refine .step ?_ (State.withoutRoot_keeps _ _ _) rfl
    refine .step ?_ (State.withoutRoot_keeps _ _ _) rfl
    assumption
  · extract_lets +onlyGivenNames x6
    refine .letS x6 ?_ (fun hx6 => ?_)
    · unfold x6
      split
      · refine .ite ?_ ?_
        · assumption
        · refine .step ?_ (State.journalsLost_keeps _) rfl
          assumption
      · assumption
    clear_value x6
    extract_lets +onlyGivenNames x7
    clear_value x7
    extract_lets +onlyGivenNames x8
    refine .letS x8 ?_ (fun hx8 => ?_)
    · unfold x8
      refine .step ?_ (State.checkRtc_keeps _) rfl
      refine .step ?_ (State.sameBut.crypt _) rfl
      assumption
    clear_value x8
    extract_lets +onlyGivenNames x9
    refine .letS x9 ?_ (fun hx9 => ?_)
    · unfold x9
      refine .foldl (fun _ _ _ => ?_) ?_
      · refine .step ?_ (State.loadKey_keeps _ _) rfl
        assumption
      · assumption
    clear_value x9
    extract_lets +onlyGivenNames x10
    clear_value x10
    extract_lets +onlyGivenNames x11
    refine .letS x11 ?_ (fun hx11 => ?_)
    · unfold x11
      refine .step ?_ (State.deriveFixed_keeps _ _ _ _) rfl
      refine .step ?_ (State.deriveFixed_keeps _ _ _ _) rfl
      assumption
    clear_value x11
    refine .step ?_ (State.issueSeal_keeps _ _) rfl
    assumption

theorem State.discard_keeps (s : State) (q : Req) (mask : Word) : s.sameBut (State.discard s q mask) [.regs] := by
  unfold State.discard
  extract_lets +onlyGivenNames x1
  clear_value x1
  extract_lets +onlyGivenNames x2
  clear_value x2
  refine .step ?_ (State.setView_keeps _ _ _) rfl
  exact .refl

theorem State.drainExceptions_keeps (s : State) : s.sameBut (State.drainExceptions s) [.outbox, .plat] := by
  unfold State.drainExceptions
  extract_lets +onlyGivenNames x1
  clear_value x1
  extract_lets +onlyGivenNames x2
  clear_value x2
  extract_lets +onlyGivenNames x3
  refine .letS x3 ?_ (fun hx3 => ?_)
  · unfold x3
    refine .foldl (fun _ _ _ => ?_) ?_
    · refine .step ?_ (State.emit_keeps _ _) rfl
      assumption
    · refine .foldl (fun _ _ _ => ?_) ?_
      · refine .step ?_ (State.emit_keeps _ _) rfl
        assumption
      · exact .refl
  clear_value x3
  refine .step ?_ (State.sameBut.plat _) rfl
  assumption

theorem State.dropAnchors_keeps (s : State) (n : Ch) (k : SlotId) (copy : Nat) : s.sameBut (State.dropAnchors s n k copy) [.cellar] := by
  unfold State.dropAnchors
  refine .ite ?_ ?_
  · exact .refl
  · refine .step ?_ (State.freeFrames_keeps _ _) rfl
    exact .refl

theorem State.dropChange_keeps (s : State) (c : KeyChange) : s.sameBut (State.dropChange s c) [.outbox, .evt, .cntr, .tlm, .host, .crypt] := by
  unfold State.dropChange
  extract_lets +onlyGivenNames x1
  clear_value x1
  extract_lets +onlyGivenNames x2
  refine .letS x2 ?_ (fun hx2 => ?_)
  · unfold x2
    refine .ite ?_ ?_
    · refine .step ?_ (State.setCask_keeps _ _ _) rfl
      exact .refl
    · exact .refl
  clear_value x2
  refine .step ?_ (State.completeCmd_keeps _ _ _) rfl
  refine .step ?_ (State.raise_keeps _ _ _) rfl
  refine .step ?_ (State.sameBut.crypt _) rfl
  assumption

theorem State.dropClass3_keeps (s : State) : s.sameBut (State.dropClass3 s) [.keeper] := by
  unfold State.dropClass3
  refine .ite ?_ ?_
  · refine .step ?_ (State.sameBut.keeper _) rfl
    exact .refl
  · exact .refl

theorem State.dropConn_keeps (s : State) (eid : Nat) (tr : Nat) : s.sameBut (State.dropConn s eid tr) [.ident] := by
  unfold State.dropConn
  refine .step ?_ (State.sameBut.ident _) rfl
  exact .refl

theorem State.dropRepair_keeps (s : State) (n : Ch) (r : Repair) : s.sameBut (State.dropRepair s n r) [.chs] := by
  unfold State.dropRepair
  refine .step ?_ (State.updChan_keeps _ _ _) rfl
  exact .refl

theorem State.endSession_keeps (s : State) (c : Conn) : s.sameBut (State.endSession s c) [.crypt] := by
  unfold State.endSession
  refine .ite ?_ ?_
  · refine .step ?_ (State.setCask_keeps _ _ _) rfl
    exact .refl
  · exact .refl

theorem State.dropVdm_keeps (s : State) : s.sameBut (State.dropVdm s) [.host, .ident, .crypt] := by
  unfold State.dropVdm
  extract_lets +onlyGivenNames x1
  refine .letS x1 ?_ (fun hx1 => ?_)
  · unfold x1
    refine .foldl (fun _ _ _ => ?_) ?_
    · refine .step ?_ (State.endSession_keeps _ _) rfl
      assumption
    · exact .refl
  clear_value x1
  refine .step ?_ (State.sameBut.host_ident _ _) rfl
  assumption

theorem State.dropVerdict_keeps (s : State) (n : Ch) (p : PageId) : s.sameBut (State.dropVerdict s n p) [.chs, .press] := by
  unfold State.dropVerdict
  refine .step ?_ (State.pressEnd_keeps _ _) rfl
  refine .step ?_ (State.updChan_keeps _ _ _) rfl
  exact .refl

theorem State.startWaiting_keeps (k : Nat) (s : State) : s.sameBut (State.startWaiting k s) [.freeCtr, .outbox, .regs, .evt, .plat, .keeper, .chs, .cellar, .press, .vault, .ctl, .cntr, .tlm, .host, .ident, .sealing, .crypt, .life] := by
  induction k generalizing s with
  | zero => exact .refl
  | succ k ih =>
    unfold State.startWaiting
    split
    · extract_lets rg t
      have ht : s.sameBut t [.freeCtr, .outbox, .regs, .evt, .plat, .keeper, .chs, .cellar, .press, .vault, .ctl, .cntr, .tlm, .host, .ident, .sealing, .crypt, .life] := by
        unfold t
        exact .step (.mono (State.sameBut.regs _) rfl) (State.beginCommit_keeps _ _ _) rfl
      exact .step (.ite (.step ht (State.policyOutcome_keeps _ _ _) rfl) ht) (ih _) rfl
    · exact .refl

theorem State.enrol_keeps (s : State) : s.sameBut (State.enrol s) [.crypt, .life] := by
  unfold State.enrol
  extract_lets +onlyGivenNames x1
  clear_value x1
  extract_lets +onlyGivenNames x2
  refine .letS x2 ?_ (fun hx2 => ?_)
  · unfold x2
    refine .step ?_ (State.updOtp_keeps _ _) rfl
    refine .step ?_ (State.drawn_keeps _) rfl
    exact .refl
  clear_value x2
  refine .step ?_ (State.sameBut.crypt _) rfl
  assumption

theorem State.enterVerify_keeps (s : State) : s.sameBut (State.enterVerify s) [.freeCtr, .evt, .plat, .keeper, .ctl] := by
  unfold State.enterVerify
  refine .step ?_ (State.seqStart_keeps _) rfl
  refine .step ?_ (State.setMode_keeps _ _ _) rfl
  exact .refl

theorem State.noteVmax_keeps (s : State) (n : Ch) (ns : Nat) : s.sameBut (State.noteVmax s n ns) [.regs] := by
  unfold State.noteVmax
  refine .step ?_ (State.sameBut.regs _) rfl
  exact .refl

theorem State.verdictFailure_keeps (s : State) (n : Ch) (d : Pend) (found : Found) : s.sameBut (State.verdictFailure s n d found) [.freeCtr, .outbox, .regs, .evt, .keeper, .chs, .cellar, .press, .vault, .ctl, .ident] := by
  unfold State.verdictFailure
  split
  · refine .step ?_ (State.tendRedirects_keeps _ _) rfl
    refine .step ?_ (State.candFails_keeps _ _ _ _) rfl
    exact .refl
  · refine .step ?_ (State.confirmedFailure_keeps _ _ _ _ _ _) rfl
    refine .step ?_ (State.raiseCh_keeps _ _ _ _) rfl
    exact .refl
  · refine .step ?_ (State.confirmedFailure_keeps _ _ _ _ _ _) rfl
    exact .refl

theorem State.failedVerdict_keeps (s : State) (n : Ch) (cause : Nat) : s.sameBut (State.failedVerdict s n cause) [.freeCtr, .outbox, .regs, .evt, .plat, .keeper, .chs, .cellar, .press, .vault, .ctl, .ident] := by
  unfold State.failedVerdict
  refine .step ?_ (State.quarantine_keeps _ _ _) rfl
  refine .step ?_ (State.exception_keeps _ _ _) rfl
  refine .step ?_ (State.raiseCh_keeps _ _ _ _) rfl
  exact .refl

theorem State.failVerdict_keeps (s : State) (n : Ch) (d : Pend) (found : Found) : s.sameBut (State.failVerdict s n d found) [.freeCtr, .outbox, .regs, .evt, .plat, .keeper, .chs, .cellar, .press, .vault, .ctl, .cntr, .ident] := by
  unfold State.failVerdict
  extract_lets +onlyGivenNames x1
  refine .letS x1 ?_ (fun hx1 => ?_)
  · unfold x1
    refine .step ?_ (State.freeFrames_keeps _ _) rfl
    refine .step ?_ (State.noteVmax_keeps _ _ _) rfl
    refine .step ?_ (State.dropVerdict_keeps _ _ _) rfl
    exact .refl
  clear_value x1
  extract_lets +onlyGivenNames x2
  refine .letS x2 ?_ (fun hx2 => ?_)
  · unfold x2
    refine .step ?_ (State.updChan_keeps _ _ _) rfl
    assumption
  clear_value x2
  refine .step ?_ (State.verdictFailure_keeps _ _ _ _) rfl
  refine .step ?_ (State.failedVerdict_keeps _ _ _) rfl
  refine .step ?_ (State.raiseCh_keeps _ _ _ _) rfl
  refine .step ?_ (State.cnt_keeps _ _ _ _) rfl
  refine .step ?_ (State.cnt_keeps _ _ _ _) rfl
  assumption

theorem State.fallback_keeps (s : State) : s.sameBut (State.fallback s) [.outbox, .evt, .plat, .press, .vault, .cntr, .tlm, .host, .ident, .sealing, .crypt] := by
  unfold State.fallback
  extract_lets +onlyGivenNames x1
  clear_value x1
  extract_lets +onlyGivenNames x2
  refine .letS x2 ?_ (fun hx2 => ?_)
  · unfold x2
    split
    · refine .step ?_ (State.deriveL0_keeps _ _ _) rfl
      exact .refl
    · exact .refl
  clear_value x2
  extract_lets +onlyGivenNames x3
  clear_value x3
  extract_lets +onlyGivenNames x4
  refine .letS x4 ?_ (fun hx4 => ?_)
  · unfold x4
    refine .step ?_ (State.sameBut.ident _) rfl
    assumption
  clear_value x4
  refine .step ?_ (State.drainExceptions_keeps _) rfl
  refine .step ?_ (State.raise_keeps _ _ _) rfl
  refine .step ?_ (State.intent_keeps _ _ _ _ _ _ _ _ _ _) rfl
  assumption

theorem State.fatalLedger_keeps (s : State) : s.sameBut (State.fatalLedger s) [.freeCtr, .outbox, .regs, .evt, .plat, .keeper, .chs, .cellar, .press, .vault, .ctl, .cntr, .tlm, .host, .ident, .sealing, .crypt, .life] := by
  unfold State.fatalLedger
  refine .step ?_ (State.enterLockdown_keeps _ _) rfl
  refine .step ?_ (State.raise_keeps _ _ _) rfl
  exact .refl

theorem State.faultEntries_keeps (s : State) (q : Nat) : s.sameBut (State.faultEntries s q) [.outbox, .evt, .press, .cntr, .tlm, .host, .sealing] := by
  unfold State.faultEntries
  extract_lets +onlyGivenNames x1
  clear_value x1
  extract_lets +onlyGivenNames x2
  clear_value x2
  extract_lets +onlyGivenNames x3
  refine .letS x3 ?_ (fun hx3 => ?_)
  · unfold x3
    refine .foldl (fun _ _ _ => ?_) ?_
    · refine .step ?_ (State.segCredit_keeps _ _) rfl
      assumption
    · exact .refl
  clear_value x3
  extract_lets +onlyGivenNames x4
  clear_value x4
  extract_lets +onlyGivenNames x5
  refine .letS x5 ?_ (fun hx5 => ?_)
  · unfold x5
    refine .step ?_ (State.sameBut.sealing _) rfl
    assumption
  clear_value x5
  extract_lets +onlyGivenNames x6
  refine .letS x6 ?_ (fun hx6 => ?_)
  · unfold x6
    refine .foldl (fun _ _ _ => ?_) ?_
    · refine .step ?_ (State.failSeg_keeps _ _ _) rfl
      assumption
    · assumption
  clear_value x6
  extract_lets +onlyGivenNames x7
  refine .letS x7 ?_ (fun hx7 => ?_)
  · unfold x7
    refine .foldl (fun _ _ _ => ?_) ?_
    · refine .step ?_ (State.closeWaiting_keeps _ _) rfl
      assumption
    · assumption
  clear_value x7
  refine .foldl (fun _ _ _ => ?_) ?_
  · refine .step ?_ (State.completeCmd_keeps _ _ _) rfl
    assumption
  · assumption

theorem State.finalise_keeps (s : State) : s.sameBut (State.finalise s) [.sealing] := by
  unfold State.finalise
  split
  · extract_lets +onlyGivenNames x1
    clear_value x1
    refine .step ?_ (State.sameBut.sealing _) rfl
    exact .refl
  · exact .refl

theorem State.finishEol_keeps (s : State) : s.sameBut (State.finishEol s) [.evt, .crypt, .life] := by
  unfold State.finishEol
  refine .ite ?_ ?_
  · refine .step ?_ (State.burnFuses_keeps _) rfl
    exact .refl
  · exact .refl

theorem State.firmwareFound_keeps (s : State) : s.sameBut (State.firmwareFound s) [.evt, .vault] := by
  unfold State.firmwareFound
  split
  · refine .ite ?_ ?_
    · exact .refl
    · refine .step ?_ (State.raiseIf_keeps _ _ _ _) rfl
      refine .step ?_ (State.intent_keeps _ _ _ _ _ _ _ _ _ _) rfl
      exact .refl
  · exact .refl

theorem State.flashLoss_keeps (s : State) : s.sameBut (State.flashLoss s) [.regs, .evt, .clk] := by
  unfold State.flashLoss
  refine .ite ?_ ?_
  · exact .refl
  · refine .step ?_ (State.raise_keeps _ _ _) rfl
    refine .step ?_ (State.setSticky_keeps _ _ _) rfl
    refine .step ?_ (State.sameBut.clk _) rfl
    exact .refl

theorem State.formTlm_keeps (s : State) (r : List Byte) : s.sameBut (State.formTlm s r) [.outbox, .evt, .cntr, .tlm, .host] := by
  unfold State.formTlm
  refine .step ?_ (State.raise_keeps _ _ _) rfl
  refine .step ?_ (State.qReport_keeps _ _ _ _) rfl
  refine .step ?_ (State.sameBut.tlm _) rfl
  exact .refl

theorem State.frameSend_keeps (s : State) (a : Nat) (v : Word) : s.sameBut (State.frameSend s a v) [.outbox, .regs, .evt, .aux] := by
  unfold State.frameSend
  refine .ite ?_ ?_
  · exact .refl
  · refine .ite ?_ ?_
    · refine .step ?_ (State.auxReject_keeps _ _) rfl
      exact .refl
    · refine .step ?_ (State.auxBegin_keeps _ _ _ _ _ _) rfl
      exact .refl

theorem State.freeRead_keeps (s : State) (p : Nat) (addr : Nat) : s.sameBut (State.freeRead s p addr) [.freeCtr, .outbox] := by
  unfold State.freeRead
  refine .ite ?_ ?_
  · refine .step ?_ (State.bumpFree_keeps _) rfl
    refine .step ?_ (State.emit_keeps _ _) rfl
    exact .refl
  · exact .refl

theorem State.fromBmc_keeps {ps : List Comp} {s0 : State} (s : State) (eid : Nat) (k : State → State × List Byte) (hk : ∀ (y0 : State), s0.sameBut y0 ps → s0.sameBut (k y0).1 ps) (hs : s0.sameBut s ps) (hc : covers [.outbox, .side] ps = true) : s0.sameBut (State.fromBmc s eid k) ps := by
  unfold State.fromBmc
  split
  · refine .ite ?_ ?_
    · refine .step ?_ (State.mctpSend_keeps _ _ _) (covers_trans rfl hc)
      apply hk
      assumption
    · assumption
  · assumption

theorem State.fwActivate_keeps (s : State) (side : Bool) (target : Nat) : s.sameBut (State.fwActivate s side target).1 [.vault, .ident] := by
  unfold State.fwActivate
  extract_lets +onlyGivenNames x1
  clear_value x1
  refine .ite_fst ?_ ?_
  · refine .fst_mk ?_
    exact .refl
  · refine .ite_fst ?_ ?_
    · extract_lets +onlyGivenNames x2
      clear_value x2
      refine .fst_mk ?_
      refine .step ?_ (State.sameBut.ident _) rfl
      exact .refl
    · extract_lets +onlyGivenNames x3
      clear_value x3
      refine .fst_mk ?_
      refine .step ?_ (State.writeHeader_keeps _) rfl
      refine .step ?_ (State.sameBut.ident _) rfl
      exact .refl

theorem State.fwDownload_keeps (s : State) (side : Bool) (last : Bool) (off : Nat) (len : Nat) (pkg : Option Package) : s.sameBut (State.fwDownload s side last off len pkg).1 [.vault, .ident] := by
  unfold State.fwDownload
  extract_lets +onlyGivenNames x1
  clear_value x1
  refine .ite_fst ?_ ?_
  · refine .fst_mk ?_
    exact .refl
  · refine .ite_fst ?_ ?_
    · refine .fst_mk ?_
      exact .refl
    · refine .ite_fst ?_ ?_
      · split
        · refine .fst_mk ?_
          exact .refl
        · refine .ite_fst ?_ ?_
          · refine .fst_mk ?_
            exact .refl
          · extract_lets +onlyGivenNames x2
            clear_value x2
            refine .ite_fst ?_ ?_
            · refine .fst_mk ?_
              exact .refl
            · extract_lets +onlyGivenNames x3
              clear_value x3
              extract_lets +onlyGivenNames x4
              refine .letS x4 ?_ (fun hx4 => ?_)
              · unfold x4
                refine .step ?_ (State.intent_keeps _ _ _ _ _ _ _ _ _ _) rfl
                exact .refl
              clear_value x4
              extract_lets +onlyGivenNames x5
              clear_value x5
              refine .fst_mk ?_
              refine .step ?_ (State.writeHeader_keeps _) rfl
              refine .step ?_ (State.sameBut.ident _) rfl
              assumption
      · split
        · refine .fst_mk ?_
          exact .refl
        · extract_lets +onlyGivenNames x6
          clear_value x6
          refine .ite_fst ?_ ?_
          · refine .fst_mk ?_
            exact .refl
          · refine .fst_mk ?_
            refine .step ?_ (State.sameBut.ident _) rfl
            exact .refl

theorem State.fwInvalid_keeps (s : State) (i : Nat) : s.sameBut (State.fwInvalid s i) [.evt, .vault, .ident] := by
  unfold State.fwInvalid
  extract_lets +onlyGivenNames x1
  clear_value x1
  extract_lets +onlyGivenNames x2
  clear_value x2
  refine .step ?_ (State.raise_keeps _ _ _) rfl
  refine .step ?_ (State.writeHeader_keeps _) rfl
  refine .step ?_ (State.sameBut.ident _) rfl
  exact .refl

theorem State.refuseOp_keeps (s : State) (n : Ch) (k : Nat) (op : Byte) : s.sameBut (State.refuseOp s n k op) [.outbox, .evt, .plat, .chs, .cntr] := by
  unfold State.refuseOp
  extract_lets +onlyGivenNames x1
  refine .letS x1 ?_ (fun hx1 => ?_)
  · unfold x1
    refine .step ?_ (State.raiseCh_keeps _ _ _ _) rfl
    refine .step ?_ (State.cnt_keeps _ _ _ _) rfl
    refine .step ?_ (State.updPort_keeps _ _ _) rfl
    exact .refl
  clear_value x1
  refine .ite ?_ ?_
  · refine .step ?_ (State.exception_keeps _ _ _) rfl
    assumption
  · assumption

theorem State.gate_keeps {ps : List Comp} {s0 : State} (s : State) (t : Txn) (cls : Nat) (k : Word → Bool → State → State) (hk : ∀ (y0 : Word) (y1 : Bool) (y2 : State), s0.sameBut y2 ps → s0.sameBut (k y0 y1 y2) ps) (hs : s0.sameBut s ps) (hc : covers [.outbox, .evt, .plat, .chs, .cntr] ps = true) : s0.sameBut (State.gate s t cls k) ps := by
  unfold State.gate
  refine .ite ?_ ?_
  · assumption
  · extract_lets +onlyGivenNames x1
    refine .letS x1 ?_ (fun hx1 => ?_)
    · unfold x1
      refine .step ?_ (State.cnt_keeps _ _ _ _) (covers_trans rfl hc)
      refine .step ?_ (State.updPort_keeps _ _ _) (covers_trans rfl hc)
      assumption
    clear_value x1
    split
    · refine .step ?_ (State.refuseOp_keeps _ _ _ _) (covers_trans rfl hc)
      assumption
    · refine .ite ?_ ?_
      · apply hk
        assumption
      · refine .ite ?_ ?_
        · assumption
        · refine .step ?_ (State.refuseOp_keeps _ _ _ _) (covers_trans rfl hc)
          assumption
    · refine .ite ?_ ?_
      · apply hk
        assumption
      · assumption

theorem State.graftHold_keeps (s : State) (n : Ch) (p : PageId) (copy : Nat) : s.sameBut (State.graftHold s n p copy) [.outbox, .evt, .cellar, .cntr] := by
  unfold State.graftHold
  extract_lets +onlyGivenNames x1
  clear_value x1
  extract_lets +onlyGivenNames x2
  refine .letS x2 ?_ (fun hx2 => ?_)
  · unfold x2
    refine .ite ?_ ?_
    · refine .step ?_ (State.sameBut.cellar _) rfl
      exact .refl
    · refine .step ?_ (State.admitData_keeps _ _ _ _) rfl
      exact .refl
  clear_value x2
  refine .step ?_ (State.xtsPage_keeps _ _ _ _ _) rfl
  assumption

theorem State.graftQualifies_keeps (s : State) (n : Ch) (g : Graft) : s.sameBut (State.graftQualifies s n g) [.freeCtr, .outbox, .regs, .evt, .keeper, .chs, .cellar, .press, .vault, .ctl, .cntr, .ident] := by
  unfold State.graftQualifies
  extract_lets +onlyGivenNames x1
  clear_value x1
  extract_lets +onlyGivenNames x2
  clear_value x2
  extract_lets +onlyGivenNames x3
  refine .letS x3 ?_ (fun hx3 => ?_)
  · unfold x3
    refine .step ?_ (State.updChan_keeps _ _ _) rfl
    exact .refl
  clear_value x3
  extract_lets +onlyGivenNames x4
  refine .letS x4 ?_ (fun hx4 => ?_)
  · unfold x4
    refine .ite ?_ ?_
    · refine .step ?_ (State.addRepair_keeps _ _ _ _ _ _ _) rfl
      assumption
    · refine .step ?_ (State.addRepair_keeps _ _ _ _ _ _ _) rfl
      assumption
  clear_value x4
  refine .ite ?_ ?_
  · assumption
  · refine .ite ?_ ?_
    · refine .step ?_ (State.raiseCh_keeps _ _ _ _) rfl
      refine .step ?_ (State.keepNode_keeps _ _ _ _) rfl
      assumption
    · refine .ite ?_ ?_
      · refine .step ?_ (State.knowBad_keeps _ _ _) rfl
        refine .step ?_ (State.raiseCh_keeps _ _ _ _) rfl
        assumption
      · refine .step ?_ (State.noteSet_keeps _ _) rfl
        refine .step ?_ (State.raiseCh_keeps _ _ _ _) rfl
        refine .step ?_ (State.cnt_keeps _ _ _ _) rfl
        refine .step ?_ (State.graftHold_keeps _ _ _ _) rfl
        assumption

theorem State.grantJob_keeps (s : State) (j : Job) (e : Nat) : s.sameBut (State.grantJob s j e) [.evt, .press, .cntr] := by
  unfold State.grantJob
  extract_lets +onlyGivenNames x1
  clear_value x1
  extract_lets +onlyGivenNames x2
  refine .letS x2 ?_ (fun hx2 => ?_)
  · unfold x2
    refine .step ?_ (State.sameBut.press _) rfl
    exact .refl
  clear_value x2
  split
  · refine .dite (fun _ => ?_) (fun _ => ?_)
    · refine .step ?_ (State.raiseIf_keeps _ _ _ _) rfl
      refine .step ?_ (State.cnt_keeps _ _ _ _) rfl
      assumption
    · assumption
  · assumption

theorem State.handoverDone_keeps (s : State) : s.sameBut (State.handoverDone s) [.ident] := by
  unfold State.handoverDone
  extract_lets +onlyGivenNames x1
  clear_value x1
  extract_lets +onlyGivenNames x2
  refine .letS x2 ?_ (fun hx2 => ?_)
  · unfold x2
    refine .step ?_ (State.sameBut.ident _) rfl
    exact .refl
  clear_value x2
  refine .step ?_ (State.platChange_keeps _) rfl
  assumption

theorem State.harvest_keeps (s : State) : s.sameBut (State.harvest s) [.chs, .cellar, .vault] := by
  unfold State.harvest
  refine .ite ?_ ?_
  · extract_lets +onlyGivenNames x1
    refine .letS x1 ?_ (fun hx1 => ?_)
    · unfold x1
      refine forCh_keeps _ _ (fun _ _ _ => ?_) ?_ rfl
      · refine .step ?_ (State.updChan_keeps _ _ _) rfl
        assumption
      · exact .refl
    clear_value x1
    refine .step ?_ (State.sameBut.cellar_vault _ _) rfl
    assumption
  · exact .refl

theorem State.wdAccept_keeps (s : State) (n : Ch) (page : Bool) : s.sameBut (State.wdAccept s n page) [.ctl] := by
  unfold State.wdAccept
  extract_lets +onlyGivenNames x1
  refine .letS x1 ?_ (fun hx1 => ?_)
  · unfold x1
    refine .step ?_ (State.updAgt_keeps _ _ _) rfl
    exact .refl
  clear_value x1
  assumption

theorem State.wdReset_keeps (s : State) (n : Ch) : s.sameBut (State.wdReset s n) [.freeCtr, .outbox, .regs, .evt, .keeper, .chs, .cellar, .press, .vault, .ctl, .cntr, .ident] := by
  unfold State.wdReset
  extract_lets +onlyGivenNames x1
  clear_value x1
  extract_lets +onlyGivenNames x2
  refine .letS x2 ?_ (fun hx2 => ?_)
  · unfold x2
    refine .step ?_ (State.cnt_keeps _ _ _ _) rfl
    refine .step ?_ (State.updAgt_keeps _ _ _) rfl
    exact .refl
  clear_value x2
  extract_lets +onlyGivenNames x3
  clear_value x3
  refine .ite ?_ ?_
  · refine .step ?_ (State.quarantine_keeps _ _ _) rfl
    refine .step ?_ (State.raise_keeps _ _ _) rfl
    refine .step ?_ (State.raise_keeps _ _ _) rfl
    assumption
  · refine .step ?_ (State.holdAgent_keeps _ _) rfl
    refine .step ?_ (State.raise_keeps _ _ _) rfl
    assumption

theorem State.wdService_keeps (s : State) (n : Ch) (src : Nat) (key : Bool) : s.sameBut (State.wdService s n src key).1 [.freeCtr, .outbox, .regs, .evt, .keeper, .chs, .cellar, .press, .vault, .ctl, .cntr, .ident] := by
  unfold State.wdService
  split
  · refine .fst_mk ?_
    exact .refl
  · refine .fst_mk ?_
    refine .step ?_ (State.raise_keeps _ _ _) rfl
    exact .refl
  · refine .fst_mk ?_
    refine .step ?_ (State.wdAccept_keeps _ _ _) rfl
    exact .refl
  · refine .fst_mk ?_
    exact .refl
  · extract_lets +onlyGivenNames x1
    refine .letS x1 ?_ (fun hx1 => ?_)
    · unfold x1
      refine .step ?_ (State.updAgt_keeps _ _ _) rfl
      refine .step ?_ (State.raise_keeps _ _ _) rfl
      exact .refl
    clear_value x1
    refine .fst_mk ?_
    refine .ite ?_ ?_
    · assumption
    · refine .step ?_ (State.wdReset_keeps _ _) rfl
      assumption

theorem State.heartbeat_keeps (s : State) (n : Ch) (good : Bool) (op : Nat) : s.sameBut (State.heartbeat s n good op) [.freeCtr, .outbox, .regs, .evt, .keeper, .chs, .cellar, .press, .vault, .ctl, .cntr, .ident] := by
  unfold State.heartbeat
  extract_lets +onlyGivenNames x1
  refine .letP x1 ?_ (fun hx1 => ?_)
  · unfold x1
    refine .step ?_ (State.wdService_keeps _ _ _ _) rfl
    exact .refl
  clear_value x1
  split
  · refine .step ?_ (State.countHeartbeat_keeps _ _) rfl
    refine .step ?_ (State.raiseCh_keeps _ _ _ _) rfl
    refine .step ?_ (State.cnt_keeps _ _ _ _) rfl
    refine .step ?_ (State.updPort_keeps _ _ _) rfl
    assumption
  · refine .ite ?_ ?_
    · assumption
    · refine .step ?_ (State.raiseCh_keeps _ _ _ _) rfl
      refine .step ?_ (State.updPort_keeps _ _ _) rfl
      assumption
  · assumption
  · assumption
  · refine .step ?_ (State.raiseCh_keeps _ _ _ _) rfl
    refine .step ?_ (State.updPort_keeps _ _ _) rfl
    assumption

theorem State.heartbeatProgram_keeps (s : State) (t : Txn) (addr : Nat) (phaseOk : Bool) : s.sameBut (State.heartbeatProgram s t addr phaseOk) [.freeCtr, .outbox, .regs, .evt, .keeper, .chs, .cellar, .press, .vault, .ctl, .cntr, .ident] := by
  unfold State.heartbeatProgram
  extract_lets +onlyGivenNames x1
  clear_value x1
  refine .step ?_ (State.heartbeat_keeps _ _ _ _) rfl
  refine .step ?_ (State.updPort_keeps _ _ _) rfl
  exact .refl

theorem State.hostReset_keeps (s : State) : s.sameBut (State.hostReset s) [.regs, .evt, .press, .host, .sealing] := by
  unfold State.hostReset
  extract_lets +onlyGivenNames x1
  clear_value x1
  extract_lets +onlyGivenNames x2
  clear_value x2
  extract_lets +onlyGivenNames x3
  clear_value x3
  extract_lets +onlyGivenNames x4
  clear_value x4
  extract_lets +onlyGivenNames x5
  clear_value x5
  extract_lets +onlyGivenNames x6
  refine .letS x6 ?_ (fun hx6 => ?_)
  · unfold x6
    refine .step ?_ (State.sameBut.regs_press_host_sealing _ _ _ _) rfl
    exact .refl
  clear_value x6
  refine .foldl (fun _ _ _ => ?_) ?_
  · refine .step ?_ (State.raiseSeal_keeps _ _ _) rfl
    assumption
  · assumption

theorem State.imageState_keeps (s : State) : s.sameBut (State.imageState s) [.regs] := by
  unfold State.imageState
  extract_lets +onlyGivenNames x1
  clear_value x1
  extract_lets +onlyGivenNames x2
  refine .letS x2 ?_ (fun hx2 => ?_)
  · unfold x2
    refine .step ?_ (State.sampleFor_keeps _ _ _) rfl
    refine .step ?_ (State.addSample_keeps _ _ _ _ _) rfl
    refine .step ?_ (State.sampleStream_keeps _ _) rfl
    refine .step ?_ (State.sampleRec_keeps _ _) rfl
    exact .refl
  clear_value x2
  extract_lets +onlyGivenNames x3
  refine .letS x3 ?_ (fun hx3 => ?_)
  · unfold x3
    refine .step ?_ (State.addSample_keeps _ _ _ _ _) rfl
    assumption
  clear_value x3
  refine .step ?_ (State.setView_keeps _ _ _) rfl
  assumption

theorem State.issueNew_keeps (s : State) (n : Ch) (o : AgentOp) : s.sameBut (State.issueNew s n o) [.outbox, .evt, .cntr] := by
  unfold State.issueNew
  split
  · extract_lets +onlyGivenNames x1
    clear_value x1
    split
    · refine .step ?_ (State.flash_keeps _ _ _ _ _ _ _) rfl
      refine .step ?_ (State.cnt_keeps _ _ _ _) rfl
      exact .refl
    · exact .refl
  · refine .foldl (fun _ _ _ => ?_) ?_
    · refine .step ?_ (State.flash_keeps _ _ _ _ _ _ _) rfl
      refine .step ?_ (State.cnt_keeps _ _ _ _) rfl
      assumption
    · exact .refl

theorem State.journalRecords_keeps (s : State) (k : Nat) : s.sameBut (State.journalRecords s k) [.crypt] := by
  unfold State.journalRecords
  refine .step ?_ (State.sameBut.crypt _) rfl
  exact .refl

theorem State.withAnchors_keeps (s : State) (n : Ch) (k : SlotId) (copy : Nat) : s.sameBut (State.withAnchors s n k copy) [.evt, .cellar, .cntr] := by
  unfold State.withAnchors
  refine .ite ?_ ?_
  · exact .refl
  · refine .step ?_ (State.loadAnchors_keeps _ _ _ _ _) rfl
    exact .refl

theorem State.keepPath_keeps (s : State) (n : Ch) (d : Pend) : s.sameBut (State.keepPath s n d) [.evt, .cellar, .cntr] := by
  unfold State.keepPath
  refine .ite ?_ ?_
  · refine .foldl (fun _ _ _ => ?_) ?_
    · refine .step ?_ (State.keepNode_keeps _ _ _ _) rfl
      assumption
    · refine .step ?_ (State.withAnchors_keeps _ _ _ _) rfl
      exact .refl
  · exact .refl

theorem State.keyToken_keeps (s : State) (t : Token) (kr : Option KeyReq) (want : KeyReq → Bool) : s.sameBut (State.keyToken s t kr want).1 [.evt, .ident, .crypt] := by
  unfold State.keyToken
  extract_lets +onlyGivenNames x1
  refine .letP x1 ?_ (fun hx1 => ?_)
  · unfold x1
    refine .step ?_ (State.checkToken_keeps _ _) rfl
    exact .refl
  clear_value x1
  refine .ite_fst ?_ ?_
  · assumption
  · refine .ite_fst ?_ ?_
    · refine .fst_mk ?_
      refine .step ?_ (State.raise_keeps _ _ _) rfl
      assumption
    · assumption

theorem State.lateVerdict_keeps (s : State) (n : Ch) (d : Pend) : s.sameBut (State.lateVerdict s n d) [.freeCtr, .outbox, .regs, .evt, .plat, .keeper, .chs, .cellar, .press, .vault, .ctl, .cntr, .ident] := by
  unfold State.lateVerdict
  extract_lets +onlyGivenNames x1
  refine .letS x1 ?_ (fun hx1 => ?_)
  · unfold x1
    refine .step ?_ (State.updChan_keeps _ _ _) rfl
    exact .refl
  clear_value x1
  extract_lets +onlyGivenNames x2
  refine .letS x2 ?_ (fun hx2 => ?_)
  · unfold x2
    refine .step ?_ (State.freeFrames_keeps _ _) rfl
    refine .step ?_ (State.noteVmax_keeps _ _ _) rfl
    assumption
  clear_value x2
  refine .step ?_ (State.failedVerdict_keeps _ _ _) rfl
  refine .step ?_ (State.raiseCh_keeps _ _ _ _) rfl
  refine .step ?_ (State.cnt_keeps _ _ _ _) rfl
  refine .step ?_ (State.cnt_keeps _ _ _ _) rfl
  assumption

theorem State.lcReply_keeps {ps : List Comp} {s0 : State} (s : State) (len : Nat) (t : LcToken) (modeOk : Bool) (a : Authority) (accepted : Bool) (program : State → State × Bool) (hprogram : ∀ (y0 : State), s0.sameBut y0 ps → s0.sameBut (program y0).1 ps) (hs : s0.sameBut s ps) (hc : covers [.evt, .ident, .crypt, .life] ps = true) : s0.sameBut (State.lcReply s len t modeOk a accepted program).1 ps := by
  unfold State.lcReply
  refine .ite_fst ?_ ?_
  · refine .fst_mk ?_
    assumption
  · refine .ite_fst ?_ ?_
    · refine .fst_mk ?_
      assumption
    · refine .ite_fst ?_ ?_
      · refine .fst_mk ?_
        assumption
      · refine .ite_fst ?_ ?_
        · refine .fst_mk ?_
          assumption
        · refine .ite_fst ?_ ?_
          · refine .fst_mk ?_
            assumption
          · extract_lets +onlyGivenNames x1
            clear_value x1
            extract_lets +onlyGivenNames x2
            refine .letS x2 ?_ (fun hx2 => ?_)
            · unfold x2
              refine .step ?_ (State.useNonce_keeps _) (covers_trans rfl hc)
              assumption
            clear_value x2
            refine .ite_fst ?_ ?_
            · refine .fst_mk ?_
              assumption
            · refine .ite_fst ?_ ?_
              · refine .fst_mk ?_
                assumption
              · extract_lets +onlyGivenNames x3
                refine .letP x3 ?_ (fun hx3 => ?_)
                · unfold x3
                  refine .step ?_ (State.pkuRun_keeps _) (covers_trans rfl hc)
                  assumption
                clear_value x3
                extract_lets +onlyGivenNames x4
                refine .letS x4 ?_ (fun hx4 => ?_)
                · unfold x4
                  assumption
                clear_value x4
                refine .ite_fst ?_ ?_
                · refine .fst_mk ?_
                  assumption
                · refine .ite_fst ?_ ?_
                  · refine .fst_mk ?_
                    assumption
                  · refine .ite_fst ?_ ?_
                    · refine .fst_mk ?_
                      assumption
                    · extract_lets +onlyGivenNames x5
                      refine .letP x5 ?_ (fun hx5 => ?_)
                      · unfold x5
                        apply hprogram
                        assumption
                      clear_value x5
                      refine .ite_fst ?_ ?_
                      · refine .fst_mk ?_
                        assumption
                      · refine .fst_mk ?_
                        refine .step ?_ (State.otpFail_keeps _) (covers_trans rfl hc)
                        assumption

theorem State.ledgerRecover_keeps (s : State) : s.sameBut (State.ledgerRecover s) [.freeCtr, .outbox, .regs, .evt, .plat, .keeper, .chs, .cellar, .vault, .ctl, .ident] := by
  unfold State.ledgerRecover
  extract_lets +onlyGivenNames x1
  refine .letS x1 ?_ (fun hx1 => ?_)
  · unfold x1
    refine .step ?_ (State.enterRecover_keeps _ _) rfl
    exact .refl
  clear_value x1
  refine .ite ?_ ?_
  · refine forCh_keeps _ _ (fun _ _ _ => ?_) ?_ rfl
    · refine .step ?_ (State.holdAgent_keeps _ _) rfl
      assumption
    · refine .step ?_ (State.sameBut.cellar _) rfl
      assumption
  · assumption

theorem State.makeBlock_keeps (s : State) : s.sameBut (State.makeBlock s) [.evt] := by
  unfold State.makeBlock
  split
  · exact .refl
  · extract_lets +onlyGivenNames x1
    clear_value x1
    refine .step ?_ (State.sameBut.evt _) rfl
    exact .refl

theorem State.sideBit_keeps (s : State) (p : Nat) (k : Nat) : s.sameBut (State.sideBit s p k) [.regs] := by
  unfold State.sideBit
  refine .step ?_ (State.setSticky_keeps _ _ _) rfl
  exact .refl

theorem State.mctpDrop_keeps (s : State) (p : Nat) : s.sameBut (State.mctpDrop s p) [.regs, .evt] := by
  unfold State.mctpDrop
  refine .step ?_ (State.raise_keeps _ _ _) rfl
  refine .step ?_ (State.sideBit_keeps _ _ _) rfl
  exact .refl

theorem State.mergeStaged_keeps (s : State) (q : Req) (mask : Word) : s.sameBut (State.mergeStaged s q mask) [.regs] := by
  unfold State.mergeStaged
  extract_lets +onlyGivenNames x1
  clear_value x1
  extract_lets +onlyGivenNames x2
  clear_value x2
  extract_lets +onlyGivenNames x3
  clear_value x3
  extract_lets +onlyGivenNames x4
  refine .letS x4 ?_ (fun hx4 => ?_)
  · unfold x4
    refine .step ?_ (State.sameBut.regs _) rfl
    exact .refl
  clear_value x4
  refine .step ?_ (State.setView_keeps _ _ _) rfl
  assumption

theorem State.meshSample_keeps (s : State) (k : Fin 2) (good : Bool) : s.sameBut (State.meshSample s k good) [.freeCtr, .outbox, .regs, .evt, .plat, .keeper, .chs, .cellar, .press, .vault, .ctl, .cntr, .tlm, .host, .ident, .sealing, .crypt, .life] := by
  unfold State.meshSample
  extract_lets +onlyGivenNames x1
  clear_value x1
  extract_lets +onlyGivenNames x2
  clear_value x2
  extract_lets +onlyGivenNames x3
  clear_value x3
  extract_lets +onlyGivenNames x4
  clear_value x4
  extract_lets +onlyGivenNames x5
  clear_value x5
  extract_lets +onlyGivenNames x6
  clear_value x6
  extract_lets +onlyGivenNames x7
  clear_value x7
  extract_lets +onlyGivenNames x8
  refine .letS x8 ?_ (fun hx8 => ?_)
  · unfold x8
    refine .step ?_ (State.sameBut.life _) rfl
    exact .refl
  clear_value x8
  refine .ite ?_ ?_
  · refine .step ?_ (State.trip_keeps _ _) rfl
    assumption
  · assumption

theorem State.romService_keeps (s : State) : s.sameBut (State.romService s) [.freeCtr, .evt, .plat, .keeper] := by
  unfold State.romService
  extract_lets +onlyGivenNames x1
  refine .letS x1 ?_ (fun hx1 => ?_)
  · unfold x1
    refine .step ?_ (State.enterRecover_keeps _ _) rfl
    exact .refl
  clear_value x1
  refine .ite ?_ ?_
  · refine .step ?_ (State.sameBut.plat _) rfl
    assumption
  · assumption

theorem State.nack_keeps (s : State) (p : Nat) : s.sameBut (State.nack s p) [.outbox] := by
  unfold State.nack
  refine .ite ?_ ?_
  · refine .step ?_ (State.emit_keeps _ _) rfl
    exact .refl
  · exact .refl

theorem State.newNonce_keeps (s : State) : s.sameBut (State.newNonce s).1 [.ident, .crypt] := by
  unfold State.newNonce
  extract_lets +onlyGivenNames x1
  clear_value x1
  extract_lets +onlyGivenNames x2
  refine .letS x2 ?_ (fun hx2 => ?_)
  · unfold x2
    refine .step ?_ (State.drawn_keeps _) rfl
    exact .refl
  clear_value x2
  refine .fst_mk ?_
  refine .step ?_ (State.sameBut.ident _) rfl
  assumption

theorem State.notServed_keeps (s : State) (n : Ch) (v : Nat) (op : Nat) : s.sameBut (State.notServed s n v op) [.evt] := by
  unfold State.notServed
  refine .step ?_ (State.raiseCh_keeps _ _ _ _) rfl
  exact .refl

theorem State.notePerst_keeps (s : State) : s.sameBut (State.notePerst s) [.regs] := by
  unfold State.notePerst
  extract_lets +onlyGivenNames x1
  clear_value x1
  refine .step ?_ (State.sameBut.regs _) rfl
  exact .refl

theorem State.opLate_keeps (s : State) (n : Ch) (k : PartId) : s.sameBut (State.opLate s n k) [.evt, .chs] := by
  unfold State.opLate
  split
  · refine .step ?_ (State.raiseAt_keeps _ _ _ _) rfl
    refine .step ?_ (State.updPort_keeps _ _ _) rfl
    exact .refl
  · exact .refl

theorem State.openEpoch_keeps (s : State) (no : Nat) (anchor : Option (List Byte)) : s.sameBut (State.openEpoch s no anchor) [.sealing] := by
  unfold State.openEpoch
  refine .step ?_ (State.sameBut.sealing _) rfl
  exact .refl

theorem State.openSession_keeps (s : State) (i : Nat) : s.sameBut (State.openSession s i) [.crypt] := by
  unfold State.openSession
  refine .step ?_ (State.fill_keeps _ _ _ _) rfl
  exact .refl

theorem State.pressWait_keeps (s : State) (j : Job) : s.sameBut (State.pressWait s j) [.press] := by
  unfold State.pressWait
  refine .step ?_ (State.sameBut.press _) rfl
  exact .refl

theorem State.openVerdict_keeps (s : State) (n : Ch) (p : PageId) (copy : Nat) : s.sameBut (State.openVerdict s n p copy) [.freeCtr, .outbox, .regs, .evt, .plat, .keeper, .chs, .cellar, .press, .vault, .ctl, .cntr, .ident] := by
  unfold State.openVerdict
  extract_lets +onlyGivenNames x1
  clear_value x1
  extract_lets +onlyGivenNames x2
  refine .letS x2 ?_ (fun hx2 => ?_)
  · unfold x2
    refine .ite ?_ ?_
    · split
      · refine .step ?_ (State.lateVerdict_keeps _ _ _) rfl
        exact .refl
      · exact .refl
    · exact .refl
  clear_value x2
  refine .ite ?_ ?_
  · extract_lets +onlyGivenNames x3
    refine .letP x3 ?_ (fun hx3 => ?_)
    · unfold x3
      refine .step ?_ (State.admitData_keeps _ _ _ _) rfl
      assumption
    clear_value x3
    refine .step ?_ (State.pressWait_keeps _ _) rfl
    refine .step ?_ (State.updChan_keeps _ _ _) rfl
    assumption
  · assumption

theorem State.partRecovered_keeps (s : State) (n : Ch) (k : PartId) : s.sameBut (State.partRecovered s n k) [.chs] := by
  unfold State.partRecovered
  extract_lets +onlyGivenNames x1
  clear_value x1
  extract_lets +onlyGivenNames x2
  refine .letS x2 ?_ (fun hx2 => ?_)
  · unfold x2
    refine .foldl (fun _ _ _ => ?_) ?_
    · refine .step ?_ (State.setBusy_keeps _ _ _ _) rfl
      assumption
    · refine .step ?_ (State.setBusy_keeps _ _ _ _) rfl
      exact .refl
  clear_value x2
  refine .step ?_ (State.updPort_keeps _ _ _) rfl
  assumption

theorem State.passVerdict_keeps (s : State) (n : Ch) (d : Pend) : s.sameBut (State.passVerdict s n d) [.regs, .evt, .chs, .cellar, .press, .cntr] := by
  unfold State.passVerdict
  extract_lets +onlyGivenNames x1
  refine .letS x1 ?_ (fun hx1 => ?_)
  · unfold x1
    refine .step ?_ (State.noteVmax_keeps _ _ _) rfl
    refine .step ?_ (State.dropVerdict_keeps _ _ _) rfl
    exact .refl
  clear_value x1
  extract_lets +onlyGivenNames x2
  clear_value x2
  extract_lets +onlyGivenNames x3
  refine .letS x3 ?_ (fun hx3 => ?_)
  · unfold x3
    refine .step ?_ (State.sameBut.cellar _) rfl
    assumption
  clear_value x3
  refine .step ?_ (State.cnt_keeps _ _ _ _) rfl
  refine .step ?_ (State.cnt_keeps _ _ _ _) rfl
  refine .step ?_ (State.updChan_keeps _ _ _) rfl
  assumption

theorem State.stageBundle_keeps (s : State) (b : Bundle) : s.sameBut (State.stageBundle s b) [.regs, .cntr] := by
  unfold State.stageBundle
  refine .foldl (fun _ _ _ => ?_) ?_
  · refine .step ?_ (State.stageWrite_keeps _ _ _ _) rfl
    assumption
  · refine .step ?_ (State.sameBut.regs _) rfl
    exact .refl

theorem State.policyGo_keeps (s : State) (b : Bundle) : s.sameBut (State.policyGo s b) [.freeCtr, .outbox, .regs, .evt, .plat, .keeper, .chs, .cellar, .press, .vault, .ctl, .cntr, .tlm, .host, .ident, .sealing, .crypt, .life] := by
  unfold State.policyGo
  refine .ite ?_ ?_
  · exact .refl
  · extract_lets +onlyGivenNames x1
    refine .letS x1 ?_ (fun hx1 => ?_)
    · unfold x1
      refine .step ?_ (State.setOwn_keeps _ _ _ _) rfl
      refine .step ?_ (State.stageBundle_keeps _ _) rfl
      exact .refl
    clear_value x1
    extract_lets +onlyGivenNames x2
    refine .letS x2 ?_ (fun hx2 => ?_)
    · unfold x2
      refine .step ?_ (State.commitGo_keeps _ _ _) rfl
      assumption
    clear_value x2
    refine .ite ?_ ?_
    · assumption
    · refine .step ?_ (State.policyOutcome_keeps _ _ _) rfl
      assumption

theorem State.policyLoad_keeps (s : State) (side : Bool) (b : Bundle) : s.sameBut (State.policyLoad s side b).1 [.regs, .evt, .cntr, .ident, .crypt] := by
  unfold State.policyLoad
  extract_lets +onlyGivenNames x1
  clear_value x1
  extract_lets +onlyGivenNames x2
  refine .letP x2 ?_ (fun hx2 => ?_)
  · unfold x2
    refine State.withPku_keeps _ _ _ (fun _ _ => ?_) ?_ rfl
    · refine .fst_mk ?_
      assumption
    · exact .refl
  clear_value x2
  refine .ite_fst ?_ ?_
  · assumption
  · extract_lets +onlyGivenNames x3
    refine .letS x3 ?_ (fun hx3 => ?_)
    · unfold x3
      assumption
    clear_value x3
    refine .ite_fst ?_ ?_
    · extract_lets +onlyGivenNames x4
      clear_value x4
      refine .fst_mk ?_
      refine .step ?_ (State.sameBut.ident _) rfl
      assumption
    · refine .fst_mk ?_
      refine .step ?_ (State.raise_keeps _ _ _) rfl
      refine .step ?_ (State.sameBut.ident _) rfl
      assumption

theorem State.pressRun_keeps (s : State) (j : Job) : s.sameBut (State.pressRun s j).1 [.evt, .press, .cntr] := by
  unfold State.pressRun
  refine .ite_fst ?_ ?_
  · refine .fst_mk ?_
    refine .step ?_ (State.pressEnd_keeps _ _) rfl
    exact .refl
  · extract_lets +onlyGivenNames x1
    refine .letS x1 ?_ (fun hx1 => ?_)
    · unfold x1
      refine .ite ?_ ?_
      · exact .refl
      · refine .step ?_ (State.pressWait_keeps _ _) rfl
        exact .refl
    clear_value x1
    split
    · refine .ite_fst ?_ ?_
      · refine .fst_mk ?_
        refine .step ?_ (State.pressEnd_keeps _ _) rfl
        refine .step ?_ (State.grantJob_keeps _ _ _) rfl
        assumption
      · refine .fst_mk ?_
        assumption
    · refine .fst_mk ?_
      assumption

theorem State.queueFault_keeps (s : State) (q : Nat) : s.sameBut (State.queueFault s q) [.outbox, .evt, .press, .cntr, .tlm, .host, .sealing] := by
  unfold State.queueFault
  refine .ite ?_ ?_
  · exact .refl
  · refine .step ?_ (State.qFail_keeps _ _ _ _) rfl
    refine .ite ?_ ?_
    · refine .step ?_ (State.faultEntries_keeps _ _) rfl
      exact .refl
    · exact .refl

theorem State.rackAnchors_keeps (s : State) (n : Ch) (k : SlotId) (copy : Nat) (f : RackFind) : s.sameBut (State.rackAnchors s n k copy f) [.evt, .cellar, .cntr] := by
  unfold State.rackAnchors
  extract_lets +onlyGivenNames x1
  clear_value x1
  refine .ite ?_ ?_
  · exact .refl
  · refine .step ?_ (State.withAnchors_keeps _ _ _ _) rfl
    exact .refl

theorem State.replaceManifest_keeps (s : State) (n : Ch) (k : SlotId) (copy : Nat) : s.sameBut (State.replaceManifest s n k copy) [.chs] := by
  unfold State.replaceManifest
  split
  · exact .refl
  · refine .ite ?_ ?_
    · refine .step ?_ (State.addRepair_keeps _ _ _ _ _ _ _) rfl
      exact .refl
    · exact .refl

theorem State.rackManifest_keeps (s : State) (n : Ch) (k : SlotId) (copy : Nat) (m : Option Manifest) : s.sameBut (State.rackManifest s n k copy m).1 [.evt, .chs, .crypt] := by
  unfold State.rackManifest
  extract_lets +onlyGivenNames x1
  refine .letP x1 ?_ (fun hx1 => ?_)
  · unfold x1
    refine .step ?_ (State.pkuRun_keeps _) rfl
    exact .refl
  clear_value x1
  extract_lets +onlyGivenNames x2
  refine .letS x2 ?_ (fun hx2 => ?_)
  · unfold x2
    assumption
  clear_value x2
  refine .ite_fst ?_ ?_
  · refine .fst_mk ?_
    assumption
  · extract_lets +onlyGivenNames x3
    clear_value x3
    extract_lets +onlyGivenNames x4
    clear_value x4
    extract_lets +onlyGivenNames x5
    refine .letS x5 ?_ (fun hx5 => ?_)
    · unfold x5
      refine .ite ?_ ?_
      · assumption
      · refine .step ?_ (State.updSlot_keeps _ _ _ _) rfl
        assumption
    clear_value x5
    extract_lets +onlyGivenNames x6
    refine .letS x6 ?_ (fun hx6 => ?_)
    · unfold x6
      refine .step ?_ (State.raiseIf_keeps _ _ _ _) rfl
      assumption
    clear_value x6
    refine .fst_mk ?_
    refine .ite ?_ ?_
    · refine .step ?_ (State.updSlot_keeps _ _ _ _) rfl
      assumption
    · refine .step ?_ (State.replaceManifest_keeps _ _ _ _) rfl
      assumption

theorem State.rackOnward_keeps (s : State) (n : Ch) (c : Cursor) (a : Cursor × Bool) : s.sameBut (State.rackOnward s n c a) [.evt, .chs, .cellar, .vault] := by
  unfold State.rackOnward
  extract_lets +onlyGivenNames x1
  refine .letS x1 ?_ (fun hx1 => ?_)
  · unfold x1
    refine .ite ?_ ?_
    · exact .refl
    · refine .step ?_ (State.dropAnchors_keeps _ _ _ _) rfl
      exact .refl
  clear_value x1
  extract_lets +onlyGivenNames x2
  refine .letS x2 ?_ (fun hx2 => ?_)
  · unfold x2
    refine .step ?_ (State.updChan_keeps _ _ _) rfl
    assumption
  clear_value x2
  refine .ite ?_ ?_
  · refine .step ?_ (State.harvest_keeps _) rfl
    refine .step ?_ (State.raiseCh_keeps _ _ _ _) rfl
    assumption
  · assumption

theorem State.rackFindings_keeps (s : State) (n : Ch) (k : SlotId) (copy : Nat) (f : RackFind) : s.sameBut (State.rackFindings s n k copy f) [.freeCtr, .outbox, .regs, .evt, .keeper, .chs, .cellar, .press, .vault, .ctl, .cntr, .ident] := by
  unfold State.rackFindings
  extract_lets +onlyGivenNames x1
  clear_value x1
  extract_lets +onlyGivenNames x2
  refine .letS x2 ?_ (fun hx2 => ?_)
  · unfold x2
    exact .refl
  clear_value x2
  extract_lets +onlyGivenNames x3
  refine .letS x3 ?_ (fun hx3 => ?_)
  · unfold x3
    refine .foldl (fun _ _ _ => ?_) ?_
    · refine .step ?_ (State.raiseCh_keeps _ _ _ _) rfl
      refine .step ?_ (State.updChan_keeps _ _ _) rfl
      assumption
    · exact .refl
  clear_value x3
  extract_lets +onlyGivenNames x4
  refine .letS x4 ?_ (fun hx4 => ?_)
  · unfold x4
    refine .foldl (fun _ _ _ => ?_) ?_
    · refine .step ?_ (State.confirmedFailure_keeps _ _ _ _ _ _) rfl
      refine .step ?_ (State.raiseCh_keeps _ _ _ _) rfl
      refine .step ?_ (State.cnt_keeps _ _ _ _) rfl
      assumption
    · assumption
  clear_value x4
  extract_lets +onlyGivenNames x5
  refine .letS x5 ?_ (fun hx5 => ?_)
  · unfold x5
    refine .foldl (fun _ _ _ => ?_) ?_
    · refine .step ?_ (State.confirmedFailure_keeps _ _ _ _ _ _) rfl
      refine .step ?_ (State.raiseCh_keeps _ _ _ _) rfl
      refine .step ?_ (State.cnt_keeps _ _ _ _) rfl
      assumption
    · assumption
  clear_value x5
  refine .foldl (fun _ _ _ => ?_) ?_
  · refine .ite ?_ ?_
    · extract_lets +onlyGivenNames x6
      refine .letS x6 ?_ (fun hx6 => ?_)
      · unfold x6
        refine .step ?_ (State.freeFrames_keeps _ _) rfl
        refine .step ?_ (State.raiseCh_keeps _ _ _ _) rfl
        refine .step ?_ (State.xtsPage_keeps _ _ _ _ _) rfl
        assumption
      clear_value x6
      refine .ite ?_ ?_
      · refine .step ?_ (State.confirmedFailure_keeps _ _ _ _ _ _) rfl
        assumption
      · assumption
    · assumption
  · assumption

theorem State.rackHere_keeps (s : State) (n : Ch) (k : SlotId) (c : Cursor) (f : RackFind) : s.sameBut (State.rackHere s n k c f) [.freeCtr, .outbox, .regs, .evt, .keeper, .chs, .cellar, .press, .vault, .ctl, .cntr, .tlm, .ident] := by
  unfold State.rackHere
  extract_lets +onlyGivenNames x1
  clear_value x1
  refine .ite ?_ ?_
  · exact .refl
  · extract_lets +onlyGivenNames x2
    refine .letS x2 ?_ (fun hx2 => ?_)
    · unfold x2
      refine .step ?_ (State.cnt_keeps _ _ _ _) rfl
      refine .step ?_ (State.rackFindings_keeps _ _ _ _ _) rfl
      exact .refl
    clear_value x2
    refine .ite ?_ ?_
    · assumption
    · refine .step ?_ (State.countSpan_keeps _ _) rfl
      assumption

theorem State.rackAt_keeps (s : State) (n : Ch) (c : Cursor) (f : RackFind) (m : Option Manifest) : s.sameBut (State.rackAt s n c f m) [.freeCtr, .outbox, .regs, .evt, .keeper, .chs, .cellar, .press, .vault, .ctl, .cntr, .tlm, .ident, .crypt] := by
  unfold State.rackAt
  extract_lets +onlyGivenNames x1
  clear_value x1
  extract_lets +onlyGivenNames x2
  clear_value x2
  extract_lets +onlyGivenNames x3
  clear_value x3
  refine .ite ?_ ?_
  · extract_lets +onlyGivenNames x4
    refine .letP x4 ?_ (fun hx4 => ?_)
    · unfold x4
      refine .step ?_ (State.rackManifest_keeps _ _ _ _ _) rfl
      exact .refl
    clear_value x4
    refine .ite ?_ ?_
    · refine .step ?_ (State.rackOnward_keeps _ _ _ _) rfl
      assumption
    · refine .step ?_ (State.rackOnward_keeps _ _ _ _) rfl
      refine .step ?_ (State.rackHere_keeps _ _ _ _ _) rfl
      refine .step ?_ (State.rackAnchors_keeps _ _ _ _ _) rfl
      assumption
  · refine .step ?_ (State.rackOnward_keeps _ _ _ _) rfl
    refine .step ?_ (State.rackHere_keeps _ _ _ _ _) rfl
    exact .refl

theorem State.rackCursor_keeps (s : State) (n : Ch) (f : RackFind) (m : Option Manifest) : s.sameBut (State.rackCursor s n f m) [.freeCtr, .outbox, .regs, .evt, .keeper, .chs, .cellar, .press, .vault, .ctl, .cntr, .tlm, .ident, .crypt] := by
  unfold State.rackCursor
  refine .ite ?_ ?_
  · exact .refl
  · refine .step ?_ (State.rackAt_keeps _ _ _ _ _) rfl
    exact .refl

theorem State.rackForRelease_keeps (s : State) (n : Ch) (p : PageId) (f : RackFind) : s.sameBut (State.rackForRelease s n p f) [.freeCtr, .outbox, .regs, .evt, .keeper, .chs, .cellar, .press, .vault, .ctl, .cntr, .tlm, .ident] := by
  unfold State.rackForRelease
  extract_lets +onlyGivenNames x1
  clear_value x1
  extract_lets +onlyGivenNames x2
  clear_value x2
  extract_lets +onlyGivenNames x3
  clear_value x3
  extract_lets +onlyGivenNames x4
  refine .letS x4 ?_ (fun hx4 => ?_)
  · unfold x4
    refine .step ?_ (State.countSpan_keeps _ _) rfl
    refine .step ?_ (State.cnt_keeps _ _ _ _) rfl
    refine .step ?_ (State.rackFindings_keeps _ _ _ _ _) rfl
    exact .refl
  clear_value x4
  refine .step ?_ (State.updChan_keeps _ _ _) rfl
  assumption

theorem State.vaultOnward_keeps (s : State) (a : Cursor × Bool) : s.sameBut (State.vaultOnward s a) [.chs, .cellar, .vault] := by
  unfold State.vaultOnward
  extract_lets +onlyGivenNames x1
  clear_value x1
  extract_lets +onlyGivenNames x2
  refine .letS x2 ?_ (fun hx2 => ?_)
  · unfold x2
    refine .step ?_ (State.sameBut.vault _) rfl
    exact .refl
  clear_value x2
  refine .ite ?_ ?_
  · refine .step ?_ (State.harvest_keeps _) rfl
    assumption
  · assumption

theorem State.rackVault_keeps (s : State) (f : RackFind) (m : Option Manifest) : s.sameBut (State.rackVault s f m) [.freeCtr, .outbox, .regs, .evt, .keeper, .chs, .cellar, .press, .vault, .ctl, .cntr, .ident] := by
  unfold State.rackVault
  extract_lets +onlyGivenNames x1
  clear_value x1
  extract_lets +onlyGivenNames x2
  clear_value x2
  refine .ite ?_ ?_
  · exact .refl
  · refine .ite ?_ ?_
    · refine .step ?_ (State.vaultOnward_keeps _ _) rfl
      refine .ite ?_ ?_
      · exact .refl
      · refine .step ?_ (State.fwInvalid_keeps _ _) rfl
        exact .refl
    · split
      · refine .step ?_ (State.vaultOnward_keeps _ _) rfl
        exact .refl
      · refine .dite (fun _ => ?_) (fun _ => ?_)
        · extract_lets +onlyGivenNames x3
          clear_value x3
          extract_lets +onlyGivenNames x4
          clear_value x4
          extract_lets +onlyGivenNames x5
          clear_value x5
          refine .ite ?_ ?_
          · refine .step ?_ (State.vaultOnward_keeps _ _) rfl
            refine .step ?_ (State.goldenInvalid_keeps _ _ _) rfl
            refine .step ?_ (State.raiseCh_keeps _ _ _ _) rfl
            exact .refl
          · extract_lets +onlyGivenNames x6
            clear_value x6
            extract_lets +onlyGivenNames x7
            refine .letS x7 ?_ (fun hx7 => ?_)
            · unfold x7
              refine .ite ?_ ?_
              · refine .step ?_ (State.sameBut.vault _) rfl
                exact .refl
              · exact .refl
            clear_value x7
            refine .step ?_ (State.vaultOnward_keeps _ _) rfl
            refine .step ?_ (State.rackFindings_keeps _ _ _ _ _) rfl
            assumption
        · refine .step ?_ (State.vaultOnward_keeps _ _) rfl
          exact .refl

theorem State.underrun_keeps (s : State) (n : Ch) (vpage : Nat) (op : Nat) : s.sameBut (State.underrun s n vpage op) [.freeCtr, .outbox, .regs, .evt, .keeper, .chs, .cellar, .vault, .ctl, .cntr, .ident] := by
  unfold State.underrun
  extract_lets +onlyGivenNames x1
  refine .letS x1 ?_ (fun hx1 => ?_)
  · unfold x1
    refine .step ?_ (State.raiseCh_keeps _ _ _ _) rfl
    refine .step ?_ (State.cnt_keeps _ _ _ _) rfl
    refine .step ?_ (State.updPort_keeps _ _ _) rfl
    exact .refl
  clear_value x1
  refine .ite ?_ ?_
  · refine .step ?_ (State.holdAgent_keeps _ _) rfl
    assumption
  · assumption

theorem State.readThrough_keeps (s : State) (t : Txn) (v : Nat) (len : Nat) (prev : Option Served) (part : PartId) (copy : Nat) (phys : Nat) : s.sameBut (State.readThrough s t v len prev part copy phys).1 [.freeCtr, .outbox, .regs, .evt, .keeper, .chs, .cellar, .vault, .ctl, .cntr, .ident] := by
  unfold State.readThrough
  extract_lets +onlyGivenNames x1
  clear_value x1
  extract_lets +onlyGivenNames x2
  clear_value x2
  refine .ite_fst ?_ ?_
  · refine .fst_mk ?_
    refine .step ?_ (State.notServed_keeps _ _ _ _) rfl
    exact .refl
  · refine .ite_fst ?_ ?_
    · refine .fst_mk ?_
      refine .step ?_ (State.underrun_keeps _ _ _ _) rfl
      exact .refl
    · split
      · refine .ite_fst ?_ ?_
        · refine .fst_mk ?_
          refine .step ?_ (State.countRt_keeps _ _ _) rfl
          exact .refl
        · refine .fst_mk ?_
          refine .step ?_ (State.underrun_keeps _ _ _ _) rfl
          exact .refl
      · refine .fst_mk ?_
        refine .step ?_ (State.countRt_keeps _ _ _) rfl
        refine .step ?_ (State.cnt_keeps _ _ _ _) rfl
        exact .refl

theorem State.recCtl_keeps (s : State) (v : Word) : s.sameBut (State.recCtl s v) [.outbox, .regs, .evt, .plat, .keeper, .cntr, .host] := by
  unfold State.recCtl
  extract_lets +onlyGivenNames x1
  refine .letS x1 ?_ (fun hx1 => ?_)
  · unfold x1
    refine .ite ?_ ?_
    · refine .step ?_ (State.clearLog_keeps _) rfl
      exact .refl
    · exact .refl
  clear_value x1
  refine .ite ?_ ?_
  · refine .step ?_ (State.sameBut.keeper _) rfl
    assumption
  · assumption

theorem State.writeFails_keeps (s : State) (n : Ch) (j : RecJob) : s.sameBut (State.writeFails s n j) [.freeCtr, .outbox, .regs, .evt, .keeper, .chs, .cellar, .press, .vault, .ctl, .ident] := by
  unfold State.writeFails
  refine .step ?_ (State.sourceFails_keeps _ _ _) rfl
  refine .ite ?_ ?_
  · refine .step ?_ (State.recRecord_keeps _ _ _ _ _) rfl
    exact .refl
  · exact .refl

theorem State.recWritten_keeps (s : State) (n : Ch) (j : RecJob) : s.sameBut (State.recWritten s n j) [.freeCtr, .outbox, .regs, .evt, .keeper, .chs, .cellar, .press, .vault, .ctl, .ident] := by
  unfold State.recWritten
  extract_lets +onlyGivenNames x1
  refine .letS x1 ?_ (fun hx1 => ?_)
  · unfold x1
    refine .ite ?_ ?_
    · refine .step ?_ (State.updSlot_keeps _ _ _ _) rfl
      exact .refl
    · exact .refl
  clear_value x1
  refine .step ?_ (State.slotRestored_keeps _ _ _) rfl
  refine .step ?_ (State.closeRepairs_keeps _ _ _ _) rfl
  refine .step ?_ (State.recRecord_keeps _ _ _ _ _) rfl
  assumption

theorem State.recWrite_keeps (s : State) (n : Ch) (j : RecJob) (last : Bool) (ok : Bool) : s.sameBut (State.recWrite s n j last ok) [.freeCtr, .outbox, .regs, .evt, .keeper, .chs, .cellar, .press, .vault, .ctl, .ident] := by
  unfold State.recWrite
  extract_lets +onlyGivenNames x1
  clear_value x1
  split
  · refine .ite ?_ ?_
    · refine .step ?_ (State.writeFails_keeps _ _ _) rfl
      exact .refl
    · refine .ite ?_ ?_
      · refine .step ?_ (State.recWritten_keeps _ _ _) rfl
        exact .refl
      · exact .refl
  · refine .ite ?_ ?_
    · exact .refl
    · extract_lets +onlyGivenNames x2
      refine .letS x2 ?_ (fun hx2 => ?_)
      · unfold x2
        refine .step ?_ (State.setBusy_keeps _ _ _ _) rfl
        exact .refl
      clear_value x2
      refine .ite ?_ ?_
      · refine .ite ?_ ?_
        · refine .step ?_ (State.updRec_keeps _ _ _) rfl
          assumption
        · refine .step ?_ (State.sourceFails_keeps _ _ _) rfl
          refine .step ?_ (State.recRecord_keeps _ _ _ _ _) rfl
          assumption
      · refine .ite ?_ ?_
        · refine .step ?_ (State.recWritten_keeps _ _ _) rfl
          assumption
        · refine .step ?_ (State.recRecord_keeps _ _ _ _ _) rfl
          refine .step ?_ (State.updRec_keeps _ _ _) rfl
          assumption

theorem State.recoverAgain_keeps (s : State) : s.sameBut (State.recoverAgain s) [.freeCtr, .evt, .plat, .keeper] := by
  unfold State.recoverAgain
  split
  · refine .ite ?_ ?_
    · refine .step ?_ (State.setMode_keeps _ _ _) rfl
      exact .refl
    · exact .refl
  · exact .refl

theorem State.recoverCmd_keeps {ps : List Comp} {s0 : State} (s : State) (len : Nat) (t : Token) (mine : Bool) (modeOk : Bool) (act : State → State) (hact : ∀ (y0 : State), s0.sameBut y0 ps → s0.sameBut (act y0) ps) (hs : s0.sameBut s ps) (hc : covers [.evt, .ident, .crypt] ps = true) : s0.sameBut (State.recoverCmd s len t mine modeOk act).1 ps := by
  unfold State.recoverCmd
  refine .ite_fst ?_ ?_
  · refine .fst_mk ?_
    assumption
  · extract_lets +onlyGivenNames x1
    refine .letP x1 ?_ (fun hx1 => ?_)
    · unfold x1
      refine .step ?_ (State.checkToken_keeps _ _) (covers_trans rfl hc)
      assumption
    clear_value x1
    refine .ite_fst ?_ ?_
    · refine .fst_mk ?_
      assumption
    · refine .ite_fst ?_ ?_
      · refine .fst_mk ?_
        assumption
      · refine .fst_mk ?_
        apply hact
        assumption

theorem State.refreshRec_keeps (s : State) (n : Ch) (k : PartId) (slot : SlotId) (unit : Nat) (state : Nat) (st : Nat) : s.sameBut (State.refreshRec s n k slot unit state st) [.vault] := by
  unfold State.refreshRec
  refine .step ?_ (State.intent_keeps _ _ _ _ _ _ _ _ _ _) rfl
  exact .refl

theorem State.reimageCmd_keeps (s : State) (side : Bool) (agent : Nat) (source : Nat) : s.sameBut (State.reimageCmd s side agent source).1 [.freeCtr, .evt, .keeper, .chs, .cellar, .press, .ctl, .ident] := by
  unfold State.reimageCmd
  refine .dite_fst (fun _ => ?_) (fun _ => ?_)
  · extract_lets +onlyGivenNames x1
    clear_value x1
    refine .ite_fst ?_ ?_
    · refine .fst_mk ?_
      exact .refl
    · refine .ite_fst ?_ ?_
      · refine .fst_mk ?_
        exact .refl
      · refine .ite_fst ?_ ?_
        · refine .fst_mk ?_
          exact .refl
        · refine .fst_mk ?_
          refine .step ?_ (State.enterReimaging_keeps _ _ _ _ _) rfl
          exact .refl
  · refine .fst_mk ?_
    exact .refl

theorem State.releaseSlot_keeps (s : State) (n : Ch) (k : SlotId) : s.sameBut (State.releaseSlot s n k) [.evt, .chs, .vault] := by
  unfold State.releaseSlot
  split
  · extract_lets +onlyGivenNames x1
    refine .letS x1 ?_ (fun hx1 => ?_)
    · unfold x1
      refine .step ?_ (State.updSlot_keeps _ _ _ _) rfl
      exact .refl
    clear_value x1
    extract_lets +onlyGivenNames x2
    clear_value x2
    refine .ite ?_ ?_
    · refine .step ?_ (State.confirmImage_keeps _ _ _) rfl
      assumption
    · assumption
  · refine .step ?_ (State.intent_keeps _ _ _ _ _ _ _ _ _ _) rfl
    refine .step ?_ (State.updSlot_keeps _ _ _ _) rfl
    exact .refl
  · exact .refl

theorem State.releaseAgent_keeps (s : State) (n : Ch) : s.sameBut (State.releaseAgent s n) [.freeCtr, .evt, .keeper, .chs, .vault, .ctl] := by
  unfold State.releaseAgent
  extract_lets +onlyGivenNames x1
  refine .letS x1 ?_ (fun hx1 => ?_)
  · unfold x1
    refine .step ?_ (State.updPort_keeps _ _ _) rfl
    refine .step ?_ (State.bootPort_keeps _ _) rfl
    exact .refl
  clear_value x1
  extract_lets +onlyGivenNames x2
  refine .letS x2 ?_ (fun hx2 => ?_)
  · unfold x2
    refine .step ?_ (State.updChan_keeps _ _ _) rfl
    assumption
  clear_value x2
  extract_lets +onlyGivenNames x3
  refine .letS x3 ?_ (fun hx3 => ?_)
  · unfold x3
    refine .step ?_ (State.updAgt_keeps _ _ _) rfl
    assumption
  clear_value x3
  extract_lets +onlyGivenNames x4
  refine .letS x4 ?_ (fun hx4 => ?_)
  · unfold x4
    refine .step ?_ (State.setAgent_keeps _ _ _) rfl
    assumption
  clear_value x4
  refine .foldl (fun _ _ _ => ?_) ?_
  · refine .step ?_ (State.releaseSlot_keeps _ _ _) rfl
    assumption
  · assumption

theorem State.releaseMany_keeps (s : State) (ns : List Ch) : s.sameBut (State.releaseMany s ns) [.freeCtr, .evt, .plat, .keeper, .chs, .vault, .ctl] := by
  unfold State.releaseMany
  refine .step ?_ (State.checkGuard_keeps _) rfl
  refine .foldl (fun _ _ _ => ?_) ?_
  · refine .step ?_ (State.releaseAgent_keeps _ _) rfl
    assumption
  · exact .refl

theorem State.releaseQuarantine_keeps (s : State) (n : Ch) : s.sameBut (State.releaseQuarantine s n) [.freeCtr, .outbox, .regs, .evt, .keeper, .chs, .cellar, .press, .vault, .ctl, .ident] := by
  unfold State.releaseQuarantine
  refine .ite ?_ ?_
  · refine .step ?_ (State.tryDecant_keeps _ _) rfl
    refine .step ?_ (State.requestSub_keeps _ _) rfl
    refine .step ?_ (State.setAgent_keeps _ _ _) rfl
    exact .refl
  · exact .refl

theorem State.repairRec_keeps (s : State) (n : Ch) (r : Repair) (state : Nat) (step : Nat) : s.sameBut (State.repairRec s n r state step) [.vault] := by
  unfold State.repairRec
  refine .step ?_ (State.intent_keeps _ _ _ _ _ _ _ _ _ _) rfl
  exact .refl

theorem State.repairDone_keeps (s : State) (n : Ch) (r : Repair) : s.sameBut (State.repairDone s n r) [.evt, .chs, .cellar, .vault] := by
  unfold State.repairDone
  extract_lets +onlyGivenNames x1
  refine .letS x1 ?_ (fun hx1 => ?_)
  · unfold x1
    refine .step ?_ (State.repairRec_keeps _ _ _ _ _) rfl
    refine .step ?_ (State.dropRepair_keeps _ _ _) rfl
    exact .refl
  clear_value x1
  extract_lets +onlyGivenNames x2
  clear_value x2
  extract_lets +onlyGivenNames x3
  clear_value x3
  extract_lets +onlyGivenNames x4
  refine .letS x4 ?_ (fun hx4 => ?_)
  · unfold x4
    refine .step ?_ (State.sameBut.cellar _) rfl
    assumption
  clear_value x4
  refine .step ?_ (State.raiseCh_keeps _ _ _ _) rfl
  refine .step ?_ (State.updChan_keeps _ _ _) rfl
  assumption

theorem State.repairFlash_keeps (s : State) (n : Ch) (r : Repair) (op : FlashOp) : s.sameBut (State.repairFlash s n r op) [.outbox] := by
  unfold State.repairFlash
  extract_lets +onlyGivenNames x1
  clear_value x1
  refine .ite ?_ ?_
  · refine .step ?_ (State.emit_keeps _ _) rfl
    exact .refl
  · refine .step ?_ (State.flash_keeps _ _ _ _ _ _ _) rfl
    exact .refl

theorem State.setRepair_keeps (s : State) (n : Ch) (r : Repair) : s.sameBut (State.setRepair s n r) [.chs] := by
  unfold State.setRepair
  refine .step ?_ (State.updChan_keeps _ _ _) rfl
  exact .refl

theorem State.repairRead_keeps (s : State) (n : Ch) (r : Repair) (bad : RackFind) : s.sameBut (State.repairRead s n r bad) [.freeCtr, .outbox, .regs, .evt, .keeper, .chs, .cellar, .press, .vault, .ctl, .ident] := by
  unfold State.repairRead
  extract_lets +onlyGivenNames x1
  refine .letS x1 ?_ (fun hx1 => ?_)
  · unfold x1
    refine .ite ?_ ?_
    · exact .refl
    · refine .step ?_ (State.repairRec_keeps _ _ _ _ _) rfl
      exact .refl
  clear_value x1
  extract_lets +onlyGivenNames x2
  refine .letS x2 ?_ (fun hx2 => ?_)
  · unfold x2
    refine .foldl (fun _ _ _ => ?_) ?_
    · refine .step ?_ (State.confirmedFailure_keeps _ _ _ _ _ _) rfl
      assumption
    · assumption
  clear_value x2
  extract_lets +onlyGivenNames x3
  refine .letS x3 ?_ (fun hx3 => ?_)
  · unfold x3
    refine .foldl (fun _ _ _ => ?_) ?_
    · refine .step ?_ (State.confirmedFailure_keeps _ _ _ _ _ _) rfl
      assumption
    · assumption
  clear_value x3
  refine .ite ?_ ?_
  · assumption
  · split
    · refine .step ?_ (State.repairRec_keeps _ _ _ _ _) rfl
      refine .step ?_ (State.setRepair_keeps _ _ _) rfl
      assumption
    · assumption

theorem State.repairReadBack_keeps (s : State) (n : Ch) (r : Repair) (ok : Bool) : s.sameBut (State.repairReadBack s n r ok) [.evt, .chs, .vault] := by
  unfold State.repairReadBack
  refine .ite ?_ ?_
  · refine .step ?_ (State.repairRec_keeps _ _ _ _ _) rfl
    refine .step ?_ (State.setRepair_keeps _ _ _) rfl
    exact .refl
  · refine .ite ?_ ?_
    · refine .step ?_ (State.setRepair_keeps _ _ _) rfl
      exact .refl
    · extract_lets +onlyGivenNames x1
      refine .letS x1 ?_ (fun hx1 => ?_)
      · unfold x1
        refine .step ?_ (State.repairRec_keeps _ _ _ _ _) rfl
        refine .step ?_ (State.dropRepair_keeps _ _ _) rfl
        exact .refl
      clear_value x1
      refine .ite ?_ ?_
      · assumption
      · refine .step ?_ (State.noSource_keeps _ _ _ _) rfl
        assumption

theorem State.reportWd_keeps (s : State) : s.sameBut (State.reportWd s) [.evt, .keeper] := by
  unfold State.reportWd
  extract_lets +onlyGivenNames x1
  clear_value x1
  refine .ite ?_ ?_
  · extract_lets +onlyGivenNames x2
    refine .letS x2 ?_ (fun hx2 => ?_)
    · unfold x2
      refine .step ?_ (State.sameBut.keeper _) rfl
      exact .refl
    clear_value x2
    refine .step ?_ (State.raiseIf_keeps _ _ _ _) rfl
    assumption
  · refine .ite ?_ ?_
    · exact .refl
    · refine .ite ?_ ?_
      · refine .step ?_ (State.raise_keeps _ _ _) rfl
        exact .refl
      · refine .ite ?_ ?_
        · refine .step ?_ (State.raise_keeps _ _ _) rfl
          exact .refl
        · refine .ite ?_ ?_
          · refine .step ?_ (State.raise_keeps _ _ _) rfl
            exact .refl
          · exact .refl

theorem State.requestHeldAgain_keeps (s : State) (n : Ch) : s.sameBut (State.requestHeldAgain s n) [.ctl] := by
  unfold State.requestHeldAgain
  refine .ite ?_ ?_
  · refine .step ?_ (State.sameBut.ctl _) rfl
    exact .refl
  · exact .refl

theorem State.restartJobs_keeps (s : State) (e : Nat) : s.sameBut (State.restartJobs s e) [.press] := by
  unfold State.restartJobs
  extract_lets +onlyGivenNames x1
  clear_value x1
  refine .step ?_ (State.sameBut.press _) rfl
  exact .refl

theorem State.resumeRecovery_keeps (s : State) (n : Ch) (k : SlotId) (i : Intent) (m : Manifest) : s.sameBut (State.resumeRecovery s n k i m) [.freeCtr, .evt, .plat, .keeper, .chs, .cellar, .press, .ctl, .ident] := by
  unfold State.resumeRecovery
  extract_lets +onlyGivenNames x1
  refine .letS x1 ?_ (fun hx1 => ?_)
  · unfold x1
    refine .step ?_ (State.recoverAgain_keeps _) rfl
    exact .refl
  clear_value x1
  refine .ite ?_ ?_
  · assumption
  · extract_lets +onlyGivenNames x2
    clear_value x2
    extract_lets +onlyGivenNames x3
    clear_value x3
    refine .step ?_ (State.reimage_keeps _ _ _) rfl
    assumption

theorem State.resumeRefresh_keeps (s : State) (n : Ch) (k : SlotId) (i : Intent) : s.sameBut (State.resumeRefresh s n k i) [.chs] := by
  unfold State.resumeRefresh
  extract_lets +onlyGivenNames x1
  clear_value x1
  extract_lets +onlyGivenNames x2
  clear_value x2
  refine .step ?_ (State.updPart_keeps _ _ _ _) rfl
  exact .refl

theorem State.resumeUpdate_keeps (s : State) (n : Ch) (k : SlotId) (i : Intent) (m : Manifest) (ok : Bool) : s.sameBut (State.resumeUpdate s n k i m ok) [.regs, .evt, .chs, .cellar, .vault, .ident] := by
  unfold State.resumeUpdate
  extract_lets +onlyGivenNames x1
  clear_value x1
  extract_lets +onlyGivenNames x2
  split
  · refine .ite ?_ ?_
    · refine .step ?_ (State.intent_keeps _ _ _ _ _ _ _ _ _ _) rfl
      refine .step ?_ (State.updSlot_keeps _ _ _ _) rfl
      exact .refl
    · refine .ite ?_ ?_
      · refine .step ?_ (State.applyActs_keeps _ _) rfl
        refine .step ?_ (State.updSlot_keeps _ _ _ _) rfl
        refine .step ?_ (State.intent_keeps _ _ _ _ _ _ _ _ _ _) rfl
        exact .refl
      · refine .step ?_ (State.updSlot_keeps _ _ _ _) rfl
        unfold x2
        refine .step ?_ (State.updSlot_keeps _ _ _ _) rfl
        exact .refl
  · refine .step ?_ (State.applyActs_keeps _ _) rfl
    refine .step ?_ (State.resetSlot_keeps _ _ _) rfl
    unfold x2
    refine .step ?_ (State.updSlot_keeps _ _ _ _) rfl
    exact .refl
  · refine .ite ?_ ?_
    · refine .step ?_ (State.applyActs_keeps _ _) rfl
      refine .step ?_ (State.updSlot_keeps _ _ _ _) rfl
      unfold x2
      refine .step ?_ (State.updSlot_keeps _ _ _ _) rfl
      exact .refl
    · refine .ite ?_ ?_
      · refine .step ?_ (State.intent_keeps _ _ _ _ _ _ _ _ _ _) rfl
        unfold x2
        refine .step ?_ (State.updSlot_keeps _ _ _ _) rfl
        exact .refl
      · refine .step ?_ (State.applyActs_keeps _ _) rfl
        refine .step ?_ (State.updSlot_keeps _ _ _ _) rfl
        unfold x2
        refine .step ?_ (State.updSlot_keeps _ _ _ _) rfl
        exact .refl
  · unfold x2
    refine .step ?_ (State.updSlot_keeps _ _ _ _) rfl
    exact .refl

theorem State.resumeSlot_keeps (s : State) (n : Ch) (k : SlotId) (i : Intent) (m : Manifest) (ok : Bool) : s.sameBut (State.resumeSlot s n k i m ok) [.freeCtr, .regs, .evt, .keeper, .chs, .cellar, .vault, .ctl, .ident] := by
  unfold State.resumeSlot
  refine .ite ?_ ?_
  · exact .refl
  · extract_lets +onlyGivenNames x1
    refine .letS x1 ?_ (fun hx1 => ?_)
    · unfold x1
      refine .step ?_ (State.resumeUpdate_keeps _ _ _ _ _ _) rfl
      exact .refl
    clear_value x1
    refine .ite ?_ ?_
    · refine .step ?_ (State.startDecant_keeps _ _) rfl
      assumption
    · assumption

theorem State.rewriteCopies_keeps (s : State) (l : List (Nat × Nat)) : s.sameBut (State.rewriteCopies s l) [.ident] := by
  unfold State.rewriteCopies
  refine .step ?_ (State.sameBut.ident _) rfl
  exact .refl

theorem State.rewriteRecord_keeps (s : State) (n : Ch) (r : Rewrite) (k : SlotId) (state : Nat) (step : Nat) : s.sameBut (State.rewriteRecord s n r k state step) [.vault] := by
  unfold State.rewriteRecord
  refine .step ?_ (State.intent_keeps _ _ _ _ _ _ _ _ _ _) rfl
  exact .refl

theorem State.updRewrite_keeps (s : State) (r : Rewrite) (g : Rewrite → Rewrite) : s.sameBut (State.updRewrite s r g) [.ident] := by
  unfold State.updRewrite
  refine .step ?_ (State.sameBut.ident _) rfl
  exact .refl

theorem State.rewriteStep_keeps (s : State) (n : Ch) (r : Rewrite) (last : Bool) (ok : Bool) : s.sameBut (State.rewriteStep s n r last ok) [.evt, .chs, .vault, .ident] := by
  unfold State.rewriteStep
  extract_lets +onlyGivenNames x1
  clear_value x1
  extract_lets +onlyGivenNames x2
  clear_value x2
  split
  · refine .step ?_ (State.sameBut.ident _) rfl
    exact .refl
  · refine .ite ?_ ?_
    · refine .ite ?_ ?_
      · exact .refl
      · refine .step ?_ (State.raiseCh_keeps _ _ _ _) rfl
        refine .step ?_ (State.updRewrite_keeps _ _ _) rfl
        exact .refl
    · refine .ite ?_ ?_
      · exact .refl
      · extract_lets +onlyGivenNames x3
        refine .letS x3 ?_ (fun hx3 => ?_)
        · unfold x3
          refine .step ?_ (State.setBusy_keeps _ _ _ _) rfl
          exact .refl
        clear_value x3
        refine .ite ?_ ?_
        · refine .ite ?_ ?_
          · refine .step ?_ (State.updRewrite_keeps _ _ _) rfl
            assumption
          · refine .step ?_ (State.rewriteRecord_keeps _ _ _ _ _ _) rfl
            refine .step ?_ (State.sameBut.ident _) rfl
            assumption
        · refine .ite ?_ ?_
          · refine .step ?_ (State.rewriteRecord_keeps _ _ _ _ _ _) rfl
            refine .step ?_ (State.updRewrite_keeps _ _ _) rfl
            assumption
          · refine .ite ?_ ?_
            · extract_lets +onlyGivenNames x4
              clear_value x4
              extract_lets +onlyGivenNames x5
              refine .letS x5 ?_ (fun hx5 => ?_)
              · unfold x5
                refine .step ?_ (State.rewriteRecord_keeps _ _ _ _ _ _) rfl
                refine .step ?_ (State.sameBut.ident _) rfl
                assumption
              clear_value x5
              refine .ite ?_ ?_
              · refine .step ?_ (State.updSlot_keeps _ _ _ _) rfl
                refine .step ?_ (State.closeRepairs_keeps _ _ _ _) rfl
                assumption
              · assumption
            · assumption

theorem State.rootEnd_keeps (s : State) : s.sameBut (State.rootEnd s) [.plat] := by
  unfold State.rootEnd
  refine .step ?_ (State.sameBut.plat _) rfl
  exact .refl

theorem State.rootWins_keeps (s : State) (src : Nat) (h : Helper) (eS : Nat) (eD : Nat) (d : PufDecode) : s.sameBut (State.rootWins s src h eS eD d) [.evt, .plat, .crypt] := by
  unfold State.rootWins
  extract_lets +onlyGivenNames x1
  clear_value x1
  extract_lets +onlyGivenNames x2
  clear_value x2
  extract_lets +onlyGivenNames x3
  clear_value x3
  extract_lets +onlyGivenNames x4
  clear_value x4
  extract_lets +onlyGivenNames x5
  refine .letS x5 ?_ (fun hx5 => ?_)
  · unfold x5
    refine .step ?_ (State.sameBut.crypt _) rfl
    exact .refl
  clear_value x5
  extract_lets +onlyGivenNames x6
  refine .letS x6 ?_ (fun hx6 => ?_)
  · unfold x6
    refine .step ?_ (State.raiseIf_keeps _ _ _ _) rfl
    refine .step ?_ (State.raise_keeps _ _ _) rfl
    assumption
  clear_value x6
  refine .step ?_ (State.rootEnd_keeps _) rfl
  refine .step ?_ (State.deriveFixed_keeps _ _ _ _) rfl
  refine .step ?_ (State.deriveFixed_keeps _ _ _ _) rfl
  assumption

theorem State.rootAttempt_keeps (s : State) (d : PufDecode) : s.sameBut (State.rootAttempt s d) [.evt, .plat, .crypt] := by
  unfold State.rootAttempt
  split
  · refine .step ?_ (State.rootWins_keeps _ _ _ _ _ _) rfl
    exact .refl
  · extract_lets +onlyGivenNames x1
    clear_value x1
    extract_lets +onlyGivenNames x2
    refine .letS x2 ?_ (fun hx2 => ?_)
    · unfold x2
      refine .step ?_ (State.sameBut.crypt _) rfl
      exact .refl
    clear_value x2
    refine .ite ?_ ?_
    · refine .step ?_ (State.raise_keeps _ _ _) rfl
      assumption
    · refine .step ?_ (State.rootEnd_keeps _) rfl
      refine .step ?_ (State.withoutRoot_keeps _ _ _) rfl
      refine .step ?_ (State.withoutRoot_keeps _ _ _) rfl
      refine .step ?_ (State.raise_keeps _ _ _) rfl
      refine .step ?_ (State.sameBut.crypt _) rfl
      assumption

theorem State.rtcInvalid_keeps (s : State) : s.sameBut (State.rtcInvalid s) [.keeper] := by
  unfold State.rtcInvalid
  refine .step ?_ (State.sameBut.keeper _) rfl
  exact .refl

theorem State.sbsvc_keeps (s : State) (n : Ch) (key : Word) : s.sameBut (State.sbsvc s n key) [.freeCtr, .outbox, .regs, .evt, .keeper, .chs, .cellar, .press, .vault, .ctl, .cntr, .ident] := by
  unfold State.sbsvc
  refine .step ?_ (State.wdService_keeps _ _ _ _) rfl
  exact .refl

theorem State.sbsvcWrite_keeps (s : State) (q : Req) (off : Nat) (v : Word) : s.sameBut (State.sbsvcWrite s q off v) [.freeCtr, .outbox, .regs, .evt, .keeper, .chs, .cellar, .press, .vault, .ctl, .cntr, .ident] := by
  unfold State.sbsvcWrite
  refine .ite ?_ ?_
  · exact .refl
  · refine .step ?_ (State.sbsvc_keeps _ _ _) rfl
    exact .refl

theorem State.sealRun_keeps (s : State) (tag : Nat) : s.sameBut (State.sealRun s tag).1 [.evt, .press, .cntr] := by
  unfold State.sealRun
  refine .step ?_ (State.pressRun_keeps _ _) rfl
  exact .refl

theorem State.seedDrbg_keeps (s : State) : s.sameBut (State.seedDrbg s) [.crypt] := by
  unfold State.seedDrbg
  refine .step ?_ (State.sameBut.crypt _) rfl
  exact .refl

theorem State.segRun_keeps (s : State) (a1 : Stream) : s.sameBut (State.segRun s a1).1 [.evt, .press, .cntr] := by
  unfold State.segRun
  extract_lets +onlyGivenNames x1
  refine .letP x1 ?_ (fun hx1 => ?_)
  · unfold x1
    refine .ite_fst ?_ ?_
    · refine .step ?_ (State.sealRun_keeps _ _) rfl
      exact .refl
    · refine .fst_mk ?_
      exact .refl
  clear_value x1
  refine .ite_fst ?_ ?_
  · assumption
  · refine .step ?_ (State.sealRun_keeps _ _) rfl
    assumption

theorem State.setProg_keeps (s : State) (p : Option Prog) : s.sameBut (State.setProg s p) [.ctl] := by
  unfold State.setProg
  refine .step ?_ (State.sameBut.ctl _) rfl
  exact .refl

theorem State.seqNext_keeps (s : State) (p : Prog) : s.sameBut (State.seqNext s p) [.ctl] := by
  unfold State.seqNext
  refine .step ?_ (State.setProg_keeps _ _) rfl
  exact .refl

theorem State.seqPin_keeps (s : State) (p : Prog) (k : Nat) (on : Bool) : s.sameBut (State.seqPin s p k on) [.ctl] := by
  unfold State.seqPin
  split
  · refine .ite ?_ ?_
    · refine .step ?_ (State.setPin_keeps _ _ _) rfl
      exact .refl
    · refine .ite ?_ ?_
      · refine .step ?_ (State.setPin_keeps _ _ _) rfl
        refine .step ?_ (State.updAgt_keeps _ _ _) rfl
        exact .refl
      · exact .refl
  · refine .step ?_ (State.setPin_keeps _ _ _) rfl
    exact .refl

theorem State.seqRelease_keeps (s : State) (p : Prog) (w : Word) (ns : List Ch) : s.sameBut (State.seqRelease s p w ns) [.freeCtr, .evt, .plat, .keeper, .chs, .vault, .ctl] := by
  unfold State.seqRelease
  extract_lets +onlyGivenNames x1
  refine .letS x1 ?_ (fun hx1 => ?_)
  · unfold x1
    refine .step ?_ (State.seqNext_keeps _ _) rfl
    exact .refl
  clear_value x1
  extract_lets +onlyGivenNames x2
  clear_value x2
  extract_lets +onlyGivenNames x3
  refine .letS x3 ?_ (fun hx3 => ?_)
  · unfold x3
    refine .ite ?_ ?_
    · refine .step ?_ (State.sameBut.ctl _) rfl
      assumption
    · assumption
  clear_value x3
  refine .step ?_ (State.releaseMany_keeps _ _) rfl
  assumption

theorem State.seqStop_keeps (s : State) (p : Prog) : s.sameBut (State.seqStop s p) [.evt, .ctl] := by
  unfold State.seqStop
  extract_lets +onlyGivenNames x1
  refine .letS x1 ?_ (fun hx1 => ?_)
  · unfold x1
    refine .step ?_ (State.setProg_keeps _ _) rfl
    exact .refl
  clear_value x1
  refine .step ?_ (State.raiseAt_keeps _ _ _ _) rfl
  refine .step ?_ (State.sameBut.ctl _) rfl
  assumption

theorem State.seqWaitAt_keeps (s : State) (p : Prog) (w : SeqWait) : s.sameBut (State.seqWaitAt s p w) [.ctl] := by
  unfold State.seqWaitAt
  refine .step ?_ (State.setProg_keeps _ _) rfl
  exact .refl

theorem State.touch_keeps (s : State) (n : Ch) (p : PageId) : s.sameBut (State.touch s n p) [.cellar] := by
  unfold State.touch
  refine .step ?_ (State.sameBut.cellar _) rfl
  exact .refl

theorem State.servePending_keeps (s : State) (t : Txn) (v : Nat) (i : Nat) (len : Nat) (prev : Option Served) (d : Pend) : s.sameBut (State.servePending s t v i len prev d).1 [.freeCtr, .outbox, .regs, .evt, .keeper, .chs, .cellar, .vault, .ctl, .cntr, .ident] := by
  unfold State.servePending
  extract_lets +onlyGivenNames x1
  clear_value x1
  extract_lets +onlyGivenNames x2
  clear_value x2
  refine .ite_fst ?_ ?_
  · refine .fst_mk ?_
    refine .step ?_ (State.countCellar_keeps _ _ _) rfl
    exact .refl
  · split
    · refine .fst_mk ?_
      refine .step ?_ (State.notServed_keeps _ _ _ _) rfl
      exact .refl
    · extract_lets +onlyGivenNames x3
      refine .letP x3 ?_ (fun hx3 => ?_)
      · unfold x3
        refine .step ?_ (State.readThrough_keeps _ _ _ _ _ _ _ _) rfl
        exact .refl
      clear_value x3
      split
      · refine .fst_mk ?_
        refine .step ?_ (State.countCellar_keeps _ _ _) rfl
        assumption
      · refine .fst_mk ?_
        refine .step ?_ (State.countCellar_keeps _ _ _) rfl
        assumption

theorem State.withVerdict_keeps (r : State × Served) (n : Ch) (p : PageId) (copy : Nat) :
    r.1.sameBut (State.withVerdict r n p copy).1 [.freeCtr, .outbox, .regs, .evt, .plat, .keeper, .chs, .cellar, .press, .vault, .ctl, .cntr, .ident] := by
  unfold State.withVerdict
  split
  · refine .ite_fst .refl ?_
    exact .mono (State.openVerdict_keeps _ _ _ _) rfl
  · exact .refl

theorem State.serveImage_keeps (s : State) (t : Txn) (v : Nat) (i : Nat) (len : Nat) (prev : Option Served) (r : Region) (p : PageId) : s.sameBut (State.serveImage s t v i len prev r p).1 [.freeCtr, .outbox, .regs, .evt, .plat, .keeper, .chs, .cellar, .press, .vault, .ctl, .cntr, .ident] := by
  unfold State.serveImage
  extract_lets +onlyGivenNames x1
  clear_value x1
  extract_lets +onlyGivenNames x2
  clear_value x2
  refine .ite_fst ?_ ?_
  · extract_lets +onlyGivenNames x3
    refine .letS x3 ?_ (fun hx3 => ?_)
    · unfold x3
      refine .step ?_ (State.updChan_keeps _ _ _) rfl
      exact .refl
    clear_value x3
    refine .fst_mk ?_
    refine .step ?_ (State.failedVerdict_keeps _ _ _) rfl
    refine .step ?_ (State.raiseCh_keeps _ _ _ _) rfl
    assumption
  · refine .ite_fst ?_ ?_
    · refine .fst_mk ?_
      refine .step ?_ (State.countCellar_keeps _ _ _) rfl
      refine .step ?_ (State.cnt_keeps _ _ _ _) rfl
      refine .step ?_ (State.touch_keeps _ _ _) rfl
      exact .refl
    · refine .ite_fst ?_ ?_
      · refine .fst_mk ?_
        refine .step ?_ (State.underrun_keeps _ _ _ _) rfl
        exact .refl
      · split
        · refine .step ?_ (State.servePending_keeps _ _ _ _ _ _ _) rfl
          exact .refl
        · split
          · refine .step ?_ (State.withVerdict_keeps _ _ _ _) rfl
            refine .step ?_ (State.readThrough_keeps _ _ _ _ _ _ _ _) rfl
            exact .refl
          · refine .fst_mk ?_
            refine .step ?_ (State.notServed_keeps _ _ _ _) rfl
            exact .refl
        · split
          · refine .step ?_ (State.withVerdict_keeps _ _ _ _) rfl
            refine .step ?_ (State.readThrough_keeps _ _ _ _ _ _ _ _) rfl
            exact .refl
          · refine .fst_mk ?_
            refine .step ?_ (State.underrun_keeps _ _ _ _) rfl
            exact .refl

theorem State.servePage_keeps (s : State) (t : Txn) (v : Nat) (off : Nat) (i : Nat) (len : Nat) (prev : Option Served) : s.sameBut (State.servePage s t v off i len prev).1 [.freeCtr, .outbox, .regs, .evt, .plat, .keeper, .chs, .cellar, .press, .vault, .ctl, .cntr, .ident] := by
  unfold State.servePage
  extract_lets +onlyGivenNames x1
  clear_value x1
  refine .ite_fst ?_ ?_
  · refine .fst_mk ?_
    refine .step ?_ (State.emit_keeps _ _) rfl
    refine .step ?_ (State.countSynth_keeps _ _ _) rfl
    exact .refl
  · split
    · refine .fst_mk ?_
      refine .step ?_ (State.raiseCh_keeps _ _ _ _) rfl
      exact .refl
    · refine .ite_fst ?_ ?_
      · refine .fst_mk ?_
        refine .step ?_ (State.raiseCh_keeps _ _ _ _) rfl
        exact .refl
      · refine .ite_fst ?_ ?_
        · refine .fst_mk ?_
          refine .step ?_ (State.notServed_keeps _ _ _ _) rfl
          exact .refl
        · refine .ite_fst ?_ ?_
          · split
            · refine .step ?_ (State.readThrough_keeps _ _ _ _ _ _ _ _) rfl
              exact .refl
            · refine .fst_mk ?_
              refine .step ?_ (State.underrun_keeps _ _ _ _) rfl
              exact .refl
          · refine .step ?_ (State.serveImage_keeps _ _ _ _ _ _ _ _) rfl
            exact .refl

theorem State.setConn_keeps (s : State) (c : Conn) : s.sameBut (State.setConn s c) [.ident] := by
  unfold State.setConn
  refine .step ?_ (State.sameBut.ident _) rfl
  exact .refl

theorem State.setEngine_keeps (s : State) (e : Nat) (st : EngineSt) : s.sameBut (State.setEngine s e st) [.press] := by
  unfold State.setEngine
  extract_lets +onlyGivenNames x1
  clear_value x1
  extract_lets +onlyGivenNames x2
  refine .letS x2 ?_ (fun hx2 => ?_)
  · unfold x2
    refine .step ?_ (State.sameBut.press _) rfl
    exact .refl
  clear_value x2
  refine .ite ?_ ?_
  · refine .step ?_ (State.restartJobs_keeps _ _) rfl
    assumption
  · assumption

theorem State.setLane_keeps (s : State) (l : Nat) (st : EngineSt) : s.sameBut (State.setLane s l st) [.crypt] := by
  unfold State.setLane
  refine .step ?_ (State.sameBut.crypt _) rfl
  exact .refl

theorem State.setPhaseCmd_keeps (s : State) (side : Bool) (channel : Nat) (phase : Nat) : s.sameBut (State.setPhaseCmd s side channel phase).1 [.evt, .chs] := by
  unfold State.setPhaseCmd
  refine .dite_fst (fun _ => ?_) (fun _ => ?_)
  · extract_lets +onlyGivenNames x1
    clear_value x1
    extract_lets +onlyGivenNames x2
    clear_value x2
    extract_lets +onlyGivenNames x3
    clear_value x3
    refine .ite_fst ?_ ?_
    · refine .fst_mk ?_
      exact .refl
    · refine .ite_fst ?_ ?_
      · refine .fst_mk ?_
        exact .refl
      · refine .ite_fst ?_ ?_
        · refine .fst_mk ?_
          exact .refl
        · split
          · refine .fst_mk ?_
            refine .step ?_ (State.setPhase_keeps _ _ _) rfl
            exact .refl
          · refine .ite_fst ?_ ?_
            · refine .fst_mk ?_
              exact .refl
            · refine .ite_fst ?_ ?_
              · refine .fst_mk ?_
                exact .refl
              · refine .fst_mk ?_
                refine .step ?_ (State.setPhase_keeps _ _ _) rfl
                exact .refl
          · refine .ite_fst ?_ ?_
            · refine .fst_mk ?_
              exact .refl
            · refine .fst_mk ?_
              refine .step ?_ (State.setPhase_keeps _ _ _) rfl
              exact .refl
          · refine .fst_mk ?_
            exact .refl
  · refine .fst_mk ?_
    exact .refl

theorem State.setPhaseReply_keeps (s : State) (side : Bool) (channel : Nat) (phase : Nat) : s.sameBut (State.setPhaseReply s side channel phase).1 [.evt, .chs] := by
  unfold State.setPhaseReply
  extract_lets +onlyGivenNames x1
  refine .letP x1 ?_ (fun hx1 => ?_)
  · unfold x1
    refine .step ?_ (State.setPhaseCmd_keeps _ _ _ _) rfl
    exact .refl
  clear_value x1
  refine .fst_mk ?_
  assumption

theorem State.setSpdm_keeps (s : State) (n : Ch) (f : SpdmRes → SpdmRes) : s.sameBut (State.setSpdm s n f) [.ident] := by
  unfold State.setSpdm
  refine .step ?_ (State.sameBut.ident _) rfl
  exact .refl

theorem State.sideCmd_keeps {ps : List Comp} {s0 : State} (s : State) (eid : Nat) (opcode : Nat) (bmc : Bool) (k : State → State × Reply) (hk : ∀ (y0 : State), s0.sameBut y0 ps → s0.sameBut (k y0).1 ps) (hs : s0.sameBut s ps) (hc : covers [.outbox, .side] ps = true) : s0.sameBut (State.sideCmd s eid opcode bmc k) ps := by
  unfold State.sideCmd
  refine .ite ?_ ?_
  · assumption
  · extract_lets +onlyGivenNames x1
    clear_value x1
    refine .ite ?_ ?_
    · refine .step ?_ (State.mctpSend_keeps _ _ _) (covers_trans rfl hc)
      assumption
    · refine .ite ?_ ?_
      · refine .step ?_ (State.mctpSend_keeps _ _ _) (covers_trans rfl hc)
        assumption
      · extract_lets +onlyGivenNames x2
        refine .letP x2 ?_ (fun hx2 => ?_)
        · unfold x2
          apply hk
          assumption
        clear_value x2
        refine .step ?_ (State.mctpSend_keeps _ _ _) (covers_trans rfl hc)
        assumption

theorem State.signed_keeps (s : State) (key : Nat) (msg : List Byte) : s.sameBut (State.signed s key msg).1 [.evt, .crypt] := by
  unfold State.signed
  refine .ite_fst ?_ ?_
  · refine .fst_mk ?_
    exact .refl
  · extract_lets +onlyGivenNames x1
    refine .letP x1 ?_ (fun hx1 => ?_)
    · unfold x1
      refine .step ?_ (State.pkuRun_keeps _) rfl
      exact .refl
    clear_value x1
    refine .ite_fst ?_ ?_
    · refine .fst_mk ?_
      refine .step ?_ (State.drawn_keeps _) rfl
      assumption
    · refine .fst_mk ?_
      assumption

theorem State.signedTwice_keeps (s : State) (k1 : Nat) (k2 : Nat) (msg : List Byte) : s.sameBut (State.signedTwice s k1 k2 msg).1 [.evt, .crypt] := by
  unfold State.signedTwice
  extract_lets +onlyGivenNames x1
  refine .letP x1 ?_ (fun hx1 => ?_)
  · unfold x1
    refine .step ?_ (State.signed_keeps _ _ _) rfl
    exact .refl
  clear_value x1
  split
  · refine .fst_mk ?_
    assumption
  · extract_lets +onlyGivenNames x2
    refine .letP x2 ?_ (fun hx2 => ?_)
    · unfold x2
      refine .step ?_ (State.signed_keeps _ _ _) rfl
      assumption
    clear_value x2
    refine .fst_mk ?_
    assumption

theorem State.slotAction_keeps {ps : List Comp} {s0 : State} (s : State) (src : Src) (len : Nat) (t : LcToken) (a : Authority) (accepted : Bool) (program : State → State × Bool) (hprogram : ∀ (y0 : State), s0.sameBut y0 ps → s0.sameBut (program y0).1 ps) (hs : s0.sameBut s ps) (hc : covers [.outbox, .evt, .cntr, .tlm, .host, .ident, .crypt, .life, .side] ps = true) : s0.sameBut (State.slotAction s src len t a accepted program) ps := by
  unfold State.slotAction
  refine State.command_keeps _ _ _ _ (fun _ _ => ?_) ?_ (covers_trans rfl hc)
  · refine State.lcReply_keeps _ _ _ _ _ _ _ (fun _ _ => ?_) ?_ (covers_trans rfl hc)
    · apply hprogram
      assumption
    · assumption
  · assumption

theorem State.spdmErr_keeps (s : State) (eid : Nat) (tr : Nat) (e : SpdmErr) : s.sameBut (State.spdmErr s eid tr e) [.outbox, .side] := by
  unfold State.spdmErr
  refine .step ?_ (State.spdmSay_keeps _ _ _ _ _) rfl
  exact .refl

theorem State.spdmReq_keeps {ps : List Comp} {s0 : State} (s : State) (eid : Nat) (tr : Nat) (stage : Nat) (k : Conn → State → State) (hk : ∀ (y0 : Conn) (y1 : State), s0.sameBut y1 ps → s0.sameBut (k y0 y1) ps) (hs : s0.sameBut s ps) (hc : covers [.outbox, .side] ps = true) : s0.sameBut (State.spdmReq s eid tr stage k) ps := by
  unfold State.spdmReq
  refine .ite ?_ ?_
  · assumption
  · split
    · refine .ite ?_ ?_
      · refine .step ?_ (State.spdmErr_keeps _ _ _ _) (covers_trans rfl hc)
        assumption
      · apply hk
        assumption
    · refine .ite ?_ ?_
      · refine .step ?_ (State.spdmErr_keeps _ _ _ _) (covers_trans rfl hc)
        assumption
      · refine .ite ?_ ?_
        · refine .step ?_ (State.spdmErr_keeps _ _ _ _) (covers_trans rfl hc)
          assumption
        · apply hk
          assumption

theorem State.spdmSigned_keeps (s : State) (eid : Nat) (tr : Nat) (code : Nat) (body : List Byte) (msg : List Byte) : s.sameBut (State.spdmSigned s eid tr code body msg) [.outbox, .evt, .crypt, .side] := by
  unfold State.spdmSigned
  extract_lets +onlyGivenNames x1
  refine .letP x1 ?_ (fun hx1 => ?_)
  · unfold x1
    refine .step ?_ (State.signed_keeps _ _ _) rfl
    exact .refl
  clear_value x1
  split
  · refine .step ?_ (State.spdmSay_keeps _ _ _ _ _) rfl
    assumption
  · refine .step ?_ (State.spdmErr_keeps _ _ _ _) rfl
    assumption

theorem State.startChecks_keeps (s : State) : s.sameBut (State.startChecks s) [.freeCtr, .outbox, .regs, .evt, .plat, .keeper, .chs, .cellar, .press, .vault, .ctl, .cntr, .tlm, .host, .ident, .sealing, .crypt, .life] := by
  unfold State.startChecks
  extract_lets +onlyGivenNames x1
  clear_value x1
  extract_lets +onlyGivenNames x2
  refine .letS x2 ?_ (fun hx2 => ?_)
  · unfold x2
    refine .ite ?_ ?_
    · refine .step ?_ (State.enterLockdown_keeps _ _) rfl
      refine .ite ?_ ?_
      · exact .refl
      · refine .step ?_ (State.burnFuses_keeps _) rfl
        exact .refl
    · refine .ite ?_ ?_
      · refine .step ?_ (State.enterLockdown_keeps _ _) rfl
        exact .refl
      · exact .refl
  clear_value x2
  refine .ite ?_ ?_
  · refine .step ?_ (State.enterLockdown_keeps _ _) rfl
    refine .step ?_ (State.raise_keeps _ _ _) rfl
    assumption
  · refine .ite ?_ ?_
    · refine .step ?_ (State.enterLockdown_keeps _ _) rfl
      assumption
    · refine .ite ?_ ?_
      · refine .step ?_ (State.enterLockdown_keeps _ _) rfl
        assumption
      · assumption

theorem State.startFirmware_keeps (s : State) (k : Nat) : s.sameBut (State.startFirmware s k) [.outbox, .evt, .plat, .keeper, .press, .vault, .cntr, .tlm, .host, .ident, .sealing, .crypt] := by
  unfold State.startFirmware
  extract_lets +onlyGivenNames x1
  clear_value x1
  extract_lets +onlyGivenNames x2
  clear_value x2
  extract_lets +onlyGivenNames x3
  clear_value x3
  extract_lets +onlyGivenNames x4
  clear_value x4
  extract_lets +onlyGivenNames x5
  clear_value x5
  extract_lets +onlyGivenNames x6
  refine .letS x6 ?_ (fun hx6 => ?_)
  · unfold x6
    refine .step ?_ (State.sameBut.plat_ident _ _) rfl
    exact .refl
  clear_value x6
  extract_lets +onlyGivenNames x7
  refine .letS x7 ?_ (fun hx7 => ?_)
  · unfold x7
    split
    · refine .step ?_ (State.deriveStart_keeps _ _) rfl
      assumption
    · assumption
  clear_value x7
  refine .step ?_ (State.drainExceptions_keeps _) rfl
  refine .step ?_ (State.firmwareFound_keeps _) rfl
  assumption

theorem State.streamFault_keeps (s : State) (k : Nat) : s.sameBut (State.streamFault s k) [.outbox, .evt, .press, .cntr, .tlm, .host, .sealing] := by
  unfold State.streamFault
  split
  · refine .ite ?_ ?_
    · exact .refl
    · extract_lets +onlyGivenNames x1
      refine .letS x1 ?_ (fun hx1 => ?_)
      · unfold x1
        split
        · refine .step ?_ (State.failSeg_keeps _ _ _) rfl
          refine .step ?_ (State.segCredit_keeps _ _) rfl
          exact .refl
        · exact .refl
      clear_value x1
      extract_lets +onlyGivenNames x2
      refine .letS x2 ?_ (fun hx2 => ?_)
      · unfold x2
        refine .step ?_ (State.dropQueue_keeps _ _ _) rfl
        assumption
      clear_value x2
      extract_lets +onlyGivenNames x3
      clear_value x3
      extract_lets +onlyGivenNames x4
      refine .letS x4 ?_ (fun hx4 => ?_)
      · unfold x4
        refine .step ?_ (State.raiseSeal_keeps _ _ _) rfl
        refine .step ?_ (State.setStream_keeps _ _) rfl
        assumption
      clear_value x4
      refine .step ?_ (State.queueFault_keeps _ _) rfl
      refine .step ?_ (State.closeWaiting_keeps _ _) rfl
      assumption
  · exact .refl

theorem State.suspendInner_keeps (s : State) (n : Ch) : s.sameBut (State.suspendInner s n) [.outbox, .evt, .chs, .cntr] := by
  unfold State.suspendInner
  split
  · exact .refl
  · split
    · refine .step ?_ (State.raiseCh_keeps _ _ _ _) rfl
      refine .step ?_ (State.updPort_keeps _ _ _) rfl
      exact .refl
    · refine .step ?_ (State.opCmd_keeps _ _ _ _) rfl
      refine .step ?_ (State.raiseCh_keeps _ _ _ _) rfl
      refine .step ?_ (State.cnt_keeps _ _ _ _) rfl
      refine .step ?_ (State.updPort_keeps _ _ _) rfl
      refine .step ?_ (State.setBusy_keeps _ _ _ _) rfl
      exact .refl
    · refine .step ?_ (State.raiseCh_keeps _ _ _ _) rfl
      refine .step ?_ (State.updPort_keeps _ _ _) rfl
      exact .refl
    · exact .refl

theorem State.tick_keeps (s : State) : s.sameBut (State.tick s) [.time, .evt, .cntr] := by
  unfold State.tick
  extract_lets +onlyGivenNames x1
  refine .letS x1 ?_ (fun hx1 => ?_)
  · unfold x1
    refine .step ?_ (State.sameBut.time _) rfl
    exact .refl
  clear_value x1
  refine .ite ?_ ?_
  · refine forCh_keeps _ _ (fun _ _ _ => ?_) ?_ rfl
    · refine .step ?_ (State.countCycle_keeps _ _) rfl
      assumption
    · assumption
  · assumption

theorem markMoved_keeps (r : State × Bool) : r.1.sameBut (markMoved r).1 [.life] := by
  unfold markMoved
  exact .ite (State.sameBut.life _) .refl

theorem State.txWrite_keeps (s : State) (q : Req) (a : Nat) (v : Word) : s.sameBut (State.txWrite s q a v) [.regs, .aux] := by
  unfold State.txWrite
  extract_lets +onlyGivenNames x1
  clear_value x1
  extract_lets +onlyGivenNames x2
  refine .letS x2 ?_ (fun hx2 => ?_)
  · unfold x2
    refine .ite ?_ ?_
    · refine .step ?_ (State.setSticky_keeps _ _ _) rfl
      exact .refl
    · refine .step ?_ (State.updAux_keeps _ _ _) rfl
      exact .refl
  clear_value x2
  refine .step ?_ (State.moveIndex_keeps _ _ _) rfl
  assumption

theorem State.updOpen_keeps (s : State) (f : Epoch → Epoch) : s.sameBut (State.updOpen s f) [.sealing] := by
  unfold State.updOpen
  refine .step ?_ (State.sameBut.sealing _) rfl
  exact .refl

theorem State.vaultPartFailed_keeps (s : State) (k : PartId) : s.sameBut (State.vaultPartFailed s k) [.freeCtr, .evt, .plat, .keeper, .vault] := by
  unfold State.vaultPartFailed
  extract_lets +onlyGivenNames x1
  clear_value x1
  extract_lets +onlyGivenNames x2
  clear_value x2
  extract_lets +onlyGivenNames x3
  refine .letS x3 ?_ (fun hx3 => ?_)
  · unfold x3
    refine .step ?_ (State.sameBut.vault _) rfl
    exact .refl
  clear_value x3
  extract_lets +onlyGivenNames x4
  refine .letS x4 ?_ (fun hx4 => ?_)
  · unfold x4
    refine .step ?_ (State.raise_keeps _ _ _) rfl
    assumption
  clear_value x4
  refine .ite ?_ ?_
  · refine .step ?_ (State.enterRecover_keeps _ _) rfl
    assumption
  · extract_lets +onlyGivenNames x5
    clear_value x5
    extract_lets +onlyGivenNames x6
    refine .letS x6 ?_ (fun hx6 => ?_)
    · unfold x6
      refine .foldl (fun _ _ _ => ?_) ?_
      · refine .step ?_ (State.raise_keeps _ _ _) rfl
        assumption
      · assumption
    clear_value x6
    refine .step ?_ (State.sameBut.vault _) rfl
    assumption

theorem State.vaultFound_keeps (s : State) (k : PartId) (f : PartFound) : s.sameBut (State.vaultFound s k f) [.freeCtr, .evt, .plat, .keeper, .vault] := by
  unfold State.vaultFound
  split
  · refine .ite ?_ ?_
    · refine .step ?_ (State.vaultPartFailed_keeps _ _) rfl
      exact .refl
    · extract_lets +onlyGivenNames x1
      refine .letS x1 ?_ (fun hx1 => ?_)
      · unfold x1
        refine .step ?_ (State.updVaultPart_keeps _ _ _) rfl
        exact .refl
      clear_value x1
      extract_lets +onlyGivenNames x2
      clear_value x2
      extract_lets +onlyGivenNames x3
      refine .letS x3 ?_ (fun hx3 => ?_)
      · unfold x3
        refine .step ?_ (State.sameBut.vault _) rfl
        assumption
      clear_value x3
      refine .step ?_ (State.raiseDrops_keeps _ _ _) rfl
      assumption
  · refine .step ?_ (State.vaultPartFailed_keeps _ _) rfl
    exact .refl

theorem State.vaultRestored_keeps (s : State) : s.sameBut (State.vaultRestored s) [.freeCtr, .outbox, .regs, .evt, .plat, .keeper, .chs, .cellar, .press, .vault, .ctl, .ident] := by
  unfold State.vaultRestored
  refine .ite ?_ ?_
  · refine .step ?_ (State.platformRestored_keeps _) rfl
    exact .refl
  · exact .refl

theorem State.wd0CfgWrite_keeps (s : State) (q : Req) (v : Word) : s.sameBut (State.wd0CfgWrite s q v) [.evt, .wd0] := by
  unfold State.wd0CfgWrite
  refine .ite ?_ ?_
  · exact .refl
  · refine .ite ?_ ?_
    · refine .step ?_ (State.raise_keeps _ _ _) rfl
      exact .refl
    · refine .step ?_ (State.sameBut.wd0 _) rfl
      exact .refl

theorem State.wd0WindowWrite_keeps (s : State) (q : Req) (v : Word) : s.sameBut (State.wd0WindowWrite s q v) [.evt, .wd0] := by
  unfold State.wd0WindowWrite
  refine .ite ?_ ?_
  · exact .refl
  · refine .ite ?_ ?_
    · refine .step ?_ (State.raise_keeps _ _ _) rfl
      exact .refl
    · refine .step ?_ (State.sameBut.wd0 _) rfl
      exact .refl

theorem State.windowEnd_keeps (s : State) (p : Nat) (bits : List Nat) : s.sameBut (State.windowEnd s p bits) [.regs, .evt] := by
  unfold State.windowEnd
  refine .ite ?_ ?_
  · exact .refl
  · extract_lets +onlyGivenNames x1
    refine .letS x1 ?_ (fun hx1 => ?_)
    · unfold x1
      refine .foldl (fun _ _ _ => ?_) ?_
      · refine .step ?_ (State.sideBit_keeps _ _ _) rfl
        assumption
      · exact .refl
    clear_value x1
    refine .step ?_ (State.raise_keeps _ _ _) rfl
    refine .step ?_ (State.raiseIf_keeps _ _ _ _) rfl
    assumption

theorem State.windowWord_keeps (s : State) (bank : Nat) (w : Nat) : s.sameBut (State.windowWord s bank w).1 [.freeCtr, .regs] := by
  unfold State.windowWord
  refine .ite_fst ?_ ?_
  · refine .fst_mk ?_
    exact .refl
  · extract_lets +onlyGivenNames x1
    clear_value x1
    extract_lets +onlyGivenNames x2
    refine .letS x2 ?_ (fun hx2 => ?_)
    · unfold x2
      refine .step ?_ (State.sampleFor_keeps _ _ _) rfl
      exact .refl
    clear_value x2
    refine .fst_mk ?_
    refine .step ?_ (State.afterRead_keeps _ _ _) rfl
    assumption

theorem State.windowWords_keeps (s : State) (bank : Nat) (l : List Nat) :
    s.sameBut (State.windowWords s bank l).1 [.freeCtr, .outbox, .regs, .evt] := by
  induction l generalizing s with
  | nil => exact .refl
  | cons w r ih => exact .step (.mono (State.windowWord_keeps s bank w) rfl) (ih _) rfl

theorem State.withFetchWord_keeps (s : State) (nbits : Nat) (w : Nat) : s.sameBut (State.withFetchWord s nbits w) [.pending] := by
  unfold State.withFetchWord
  split
  · refine .step ?_ (State.sameBut.pending _) rfl
    exact .refl
  · exact .refl

theorem State.withholdRoot_keeps (s : State) : s.sameBut (State.withholdRoot s) [.evt, .plat, .crypt, .life] := by
  unfold State.withholdRoot
  extract_lets +onlyGivenNames x1
  clear_value x1
  extract_lets +onlyGivenNames x2
  refine .letS x2 ?_ (fun hx2 => ?_)
  · unfold x2
    refine .step ?_ (State.sameBut.crypt _) rfl
    exact .refl
  clear_value x2
  extract_lets +onlyGivenNames x3
  refine .letS x3 ?_ (fun hx3 => ?_)
  · unfold x3
    refine .step ?_ (State.rootEnd_keeps _) rfl
    refine .step ?_ (State.withoutRoot_keeps _ _ _) rfl
    refine .step ?_ (State.withoutRoot_keeps _ _ _) rfl
    refine .step ?_ (State.raise_keeps _ _ _) rfl
    assumption
  clear_value x3
  refine .ite ?_ ?_
  · refine .step ?_ (State.raise_keeps _ _ _) rfl
    refine .step ?_ (State.sameBut.life _) rfl
    assumption
  · assumption

theorem State.writeIgnored_keeps (s : State) (t : Txn) (v : Nat) : s.sameBut (State.writeIgnored s t v) [.evt, .chs] := by
  unfold State.writeIgnored
  refine .step ?_ (State.raiseCh_keeps _ _ _ _) rfl
  refine .step ?_ (State.updPort_keeps _ _ _) rfl
  exact .refl

theorem State.writeArray_keeps (s : State) (t : Txn) (kind : OpKind) (r : Range) (phaseOk : Bool) (payload : List Byte) : s.sameBut (State.writeArray s t kind r phaseOk payload) [.outbox, .evt, .plat, .chs, .cntr] := by
  unfold State.writeArray
  extract_lets +onlyGivenNames x1
  clear_value x1
  extract_lets +onlyGivenNames x2
  clear_value x2
  refine .ite ?_ ?_
  · refine .step ?_ (State.writeIgnored_keeps _ _ _) rfl
    exact .refl
  · refine .ite ?_ ?_
    · refine .step ?_ (State.raiseCh_keeps _ _ _ _) rfl
      exact .refl
    · refine .ite ?_ ?_
      · refine .step ?_ (State.raiseCh_keeps _ _ _ _) rfl
        exact .refl
      · refine .ite ?_ ?_
        · refine .step ?_ (State.blockWrite_keeps _ _ _ _) rfl
          exact .refl
        · refine .ite ?_ ?_
          · refine .step ?_ (State.updPort_keeps _ _ _) rfl
            exact .refl
          · refine .step ?_ (State.acceptOp_keeps _ _ _ _ _) rfl
            exact .refl

theorem State.writeEntry_keeps (s : State) (l : SealLog) (a2 : ListEnt) : s.sameBut (State.writeEntry s l a2) [.outbox, .evt, .cntr, .tlm, .sealing] := by
  unfold State.writeEntry
  extract_lets +onlyGivenNames x1
  refine .letS x1 ?_ (fun hx1 => ?_)
  · unfold x1
    refine .step ?_ (State.cntQ_keeps _ _ _) rfl
    refine .step ?_ (State.hostWrite_keeps _ _ _) rfl
    exact .refl
  clear_value x1
  refine .step ?_ (State.sameBut.sealing _) rfl
  assumption

theorem State.writeRecord_keeps (s : State) (l : SealLog) (r : List Byte) : s.sameBut (State.writeRecord s l r) [.outbox, .evt, .cntr, .tlm, .sealing] := by
  unfold State.writeRecord
  extract_lets +onlyGivenNames x1
  refine .letS x1 ?_ (fun hx1 => ?_)
  · unfold x1
    refine .step ?_ (State.cntQ_keeps _ _ _) rfl
    refine .step ?_ (State.hostWrite_keeps _ _ _) rfl
    exact .refl
  clear_value x1
  refine .step ?_ (State.sameBut.sealing _) rfl
  assumption

theorem State.asWrite_keeps {s t : State} {q : Req} {a o : Nat} {v : Word} (h : State.asWrite s q a o v = some t) :
    s.sameBut t [.freeCtr, .outbox, .regs, .evt, .aux] := by
  unfold State.asWrite at h
  split at h <;> cases h
  · exact .mono (State.auxCtl_keeps _ _ _) rfl
  · exact .mono (State.txWrite_keeps _ _ _ _) rfl
  · exact .mono (State.frameSend_keeps _ _ _) rfl

theorem State.access_keeps {s t : State} {q : Req} {off : Nat} {k : State → State} {ps : List Comp} (hk : s.sameBut (k s) ps)
    (hc : covers [.outbox, .evt] ps = true) (h : State.access s q off k = .next t) : s.sameBut t ps := by
  unfold State.access at h
  split at h
  · cases h; exact .refl
  split at h
  · cases h; exact hk
  split at h
  · cases h; exact .mono (.step (.mono (State.raise_keeps _ _ _) rfl) (State.emit_keeps _ _) rfl) hc
  · cases h

theorem State.accessRead_keeps {s t : State} {q : Req} {off : Nat} (h : State.accessRead s q off = .next t) : s.sameBut t [.freeCtr, .outbox, .regs, .evt] :=
  State.access_keeps (State.busRead_keeps _ _ _ |>.mono rfl) rfl h

theorem State.makeBlocks_keeps (k : Nat) (s : State) : s.sameBut (State.makeBlocks k s) [.evt] := by
  induction k generalizing s with
  | zero => exact .refl
  | succ k ih => exact .step (.mono (State.makeBlock_keeps s) rfl) (ih _) rfl

theorem State.flushJournal_keeps (s : State) : s.sameBut (State.flushJournal s) [.outbox, .regs, .evt, .plat, .keeper, .cntr, .tlm, .host] := by
  unfold State.flushJournal
  extract_lets +onlyGivenNames x1
  refine .letS x1 ?_ (fun hx1 => ?_)
  · unfold x1
    refine .step ?_ (State.settle_keeps _) rfl
    exact .refl
  clear_value x1
  refine .ite ?_ ?_
  · assumption
  · extract_lets +onlyGivenNames x2
    refine .letS x2 ?_ (fun hx2 => ?_)
    · unfold x2
      refine .step ?_ (State.makeBlocks_keeps _ _) rfl
      assumption
    clear_value x2
    extract_lets +onlyGivenNames x3
    clear_value x3
    refine .step ?_ (State.sameBut.evt _) rfl
    assumption

theorem State.deviceRestart_keeps (s : State) (cause : Nat) (bits : Word) (flush : Bool) : s.sameBut (State.deviceRestart s cause bits flush) Comp.device := by
  unfold State.deviceRestart
  refine .ite ?_ ?_
  · exact .refl
  · extract_lets +onlyGivenNames x1
    refine .letS x1 ?_ (fun hx1 => ?_)
    · unfold x1
      refine .ite ?_ ?_
      · refine .step ?_ (State.flushJournal_keeps _) rfl
        exact .refl
      · exact .refl
    clear_value x1
    refine .step ?_ (State.start_keeps _ _ _ _) rfl
    assumption

theorem State.urgentRestart_keeps (s : State) (side : Bool) (mask : Nat) (seq : Nat) : s.sameBut (State.urgentRestart s side mask seq) Comp.device := by
  unfold State.urgentRestart
  refine State.urgent_keeps _ _ _ _ _ _ (fun _ _ => ?_) ?_ rfl
  · refine .step ?_ (State.deviceRestart_keeps _ _ _ _) rfl
    assumption
  · exact .refl

theorem State.urgentWrite_keeps (s : State) (side : Bool) (v : Word) : s.sameBut (State.urgentWrite s side v) Comp.device := by
  unfold State.urgentWrite
  split
  · refine .step ?_ (State.urgentStop_keeps _ _ _ _) rfl
    exact .refl
  · refine .step ?_ (State.urgentRelease_keeps _ _ _ _) rfl
    exact .refl
  · refine .step ?_ (State.urgentRestart_keeps _ _ _ _) rfl
    exact .refl
  · refine State.urgent_keeps _ _ _ _ _ _ (fun _ _ => ?_) ?_ rfl
    · assumption
    · exact .refl

theorem State.bar2Write_keeps (s : State) (off : Nat) (len : Nat) (v : DWord) : s.sameBut (State.bar2Write s off len v) Comp.device := by
  unfold State.bar2Write
  refine .ite ?_ ?_
  · refine .ite ?_ ?_
    · refine .step ?_ (State.bell_keeps _ _ _) rfl
      exact .refl
    · exact .refl
  · refine .ite ?_ ?_
    · refine .step ?_ (State.noBell_keeps _ _) rfl
      exact .refl
    · refine .ite ?_ ?_
      · refine .ite ?_ ?_
        · refine .step ?_ (State.urgentWrite_keeps _ _ _) rfl
          exact .refl
        · refine .step ?_ (State.raise_keeps _ _ _) rfl
          exact .refl
      · refine .ite ?_ ?_
        · refine .ite ?_ ?_
          · refine .step ?_ (State.vecWrite_keeps _ _ _) rfl
            refine .step ?_ (State.vecWrite_keeps _ _ _) rfl
            exact .refl
          · refine .step ?_ (State.vecWrite_keeps _ _ _) rfl
            exact .refl
        · exact .refl

theorem State.commitFree_keeps (s : State) : s.sameBut (State.commitFree s) [.freeCtr, .outbox, .regs, .evt, .plat, .keeper, .chs, .cellar, .press, .vault, .ctl, .cntr, .tlm, .host, .ident, .sealing, .crypt, .life] := by
  unfold State.commitFree
  refine .step ?_ (State.startWaiting_keeps _ _) rfl
  refine .step ?_ (State.actsDue_keeps _) rfl
  exact .refl

theorem State.endCommit_keeps (s : State) (q : Req) (st : Status) (mask : Word) (failGrp : Word) : s.sameBut (State.endCommit s q st mask failGrp) [.freeCtr, .outbox, .regs, .evt, .plat, .keeper, .chs, .cellar, .press, .vault, .ctl, .cntr, .tlm, .host, .ident, .sealing, .crypt, .life] := by
  unfold State.endCommit
  refine .step ?_ (State.commitFree_keeps _) rfl
  refine .step ?_ (State.commitOutcome_keeps _ _ _ _ _) rfl
  refine .step ?_ (State.sameBut.regs _) rfl
  exact .refl

theorem State.fatalTrip_keeps (s : State) (c : MonClk) : s.sameBut (State.fatalTrip s c) Comp.device := by
  unfold State.fatalTrip
  extract_lets +onlyGivenNames x1
  clear_value x1
  extract_lets +onlyGivenNames x2
  clear_value x2
  extract_lets +onlyGivenNames x3
  refine .letS x3 ?_ (fun hx3 => ?_)
  · unfold x3
    refine .step ?_ (State.sameBut.keeper _) rfl
    exact .refl
  clear_value x3
  refine .step ?_ (State.deviceRestart_keeps _ _ _ _) rfl
  assumption

theorem State.hostGone_keeps (s : State) : s.sameBut (State.hostGone s) [.freeCtr, .outbox, .regs, .evt, .plat, .keeper, .chs, .cellar, .press, .vault, .ctl, .cntr, .tlm, .host, .ident, .sealing, .crypt, .life] := by
  unfold State.hostGone
  refine .step ?_ (State.commitFree_keeps _) rfl
  refine .step ?_ (State.hostReset_keeps _) rfl
  exact .refl

theorem State.linkDown_keeps (s : State) : s.sameBut (State.linkDown s) [.freeCtr, .outbox, .regs, .evt, .plat, .keeper, .chs, .cellar, .press, .vault, .ctl, .cntr, .tlm, .host, .ident, .sealing, .crypt, .life] := by
  unfold State.linkDown
  extract_lets +onlyGivenNames x1
  refine .letS x1 ?_ (fun hx1 => ?_)
  · unfold x1
    refine .step ?_ (State.hostGone_keeps _) rfl
    exact .refl
  clear_value x1
  refine .step ?_ (State.raise_keeps _ _ _) rfl
  refine .step ?_ (State.sameBut.host _) rfl
  assumption

theorem State.modeWrite_keeps (s : State) (m : Nat) (cause : Nat) : s.sameBut (State.modeWrite s m cause) Comp.device := by
  unfold State.modeWrite
  refine .ite ?_ ?_
  · exact .refl
  · split
    · refine .ite ?_ ?_
      · refine .step ?_ (State.enterVerify_keeps _) rfl
        exact .refl
      · refine .step ?_ (State.raiseAt_keeps _ _ _ _) rfl
        exact .refl
    · refine .ite ?_ ?_
      · refine .step ?_ (State.romService_keeps _) rfl
        exact .refl
      · refine .ite ?_ ?_
        · refine .step ?_ (State.enterRecover_keeps _ _) rfl
          exact .refl
        · refine .step ?_ (State.raiseAt_keeps _ _ _ _) rfl
          exact .refl
    · refine .ite ?_ ?_
      · refine .step ?_ (State.setMode_keeps _ _ _) rfl
        exact .refl
      · refine .step ?_ (State.raiseAt_keeps _ _ _ _) rfl
        exact .refl
    · refine .ite ?_ ?_
      · refine .step ?_ (State.ledgerRecover_keeps _) rfl
        exact .refl
      · refine .ite ?_ ?_
        · refine .step ?_ (State.enterRecover_keeps _ _) rfl
          exact .refl
        · refine .step ?_ (State.raiseAt_keeps _ _ _ _) rfl
          exact .refl
    · refine .ite ?_ ?_
      · refine .step ?_ (State.ledgerRecover_keeps _) rfl
        exact .refl
      · refine .ite ?_ ?_
        · refine .step ?_ (State.enterRecover_keeps _ _) rfl
          exact .refl
        · refine .step ?_ (State.raiseAt_keeps _ _ _ _) rfl
          exact .refl
    · refine .ite ?_ ?_
      · refine .step ?_ (State.platformRestored_keeps _) rfl
        exact .refl
      · refine .step ?_ (State.raiseAt_keeps _ _ _ _) rfl
        exact .refl
    · refine .ite ?_ ?_
      · refine .step ?_ (State.deviceRestart_keeps _ _ _ _) rfl
        exact .refl
      · refine .step ?_ (State.raiseAt_keeps _ _ _ _) rfl
        exact .refl
    · refine .step ?_ (State.raiseAt_keeps _ _ _ _) rfl
      exact .refl

theorem State.pathRestart_keeps (s : State) (src : Src) : s.sameBut (State.pathRestart s src) Comp.device := by
  unfold State.pathRestart
  split
  · refine .step ?_ (State.deviceRestart_keeps _ _ _ _) rfl
    exact .refl
  · refine .step ?_ (State.deviceRestart_keeps _ _ _ _) rfl
    exact .refl

theorem State.servePages_keeps (t : Txn) (f : Nat) (s : State) (i a : Nat) (prev : Option Served) :
    s.sameBut (State.servePages t f s i a prev).1 [.freeCtr, .outbox, .regs, .evt, .plat, .keeper, .chs, .cellar, .press, .vault, .ctl, .cntr, .ident] := by
  induction f generalizing s i a prev with
  | zero => exact .refl
  | succ f ih =>
    unfold State.servePages
    refine .ite_fst .refl ?_
    extract_lets v off want len s1 r
    have h1 : s.sameBut s1 [.freeCtr, .outbox, .regs, .evt, .plat, .keeper, .chs, .cellar, .press, .vault, .ctl, .cntr, .ident] := by
      unfold s1; exact .ite (.mono (State.cnt_keeps _ _ _ _) rfl) .refl
    have hr : s.sameBut r.1 [.freeCtr, .outbox, .regs, .evt, .plat, .keeper, .chs, .cellar, .press, .vault, .ctl, .cntr, .ident] := by
      unfold r; exact .ite_fst h1 (.step h1 (State.servePage_keeps _ _ _ _ _ _ _) rfl)
    clear_value r
    split
    · exact hr
    · exact .ite_fst (.step hr (State.underrun_keeps _ _ _ _) rfl) (.step hr (ih _ _ _ _) rfl)

theorem State.readArray_keeps (s : State) (t : Txn) (addr : Nat) : s.sameBut (State.readArray s t addr).1 [.freeCtr, .outbox, .regs, .evt, .plat, .keeper, .chs, .cellar, .press, .vault, .ctl, .cntr, .ident] := by
  unfold State.readArray
  extract_lets +onlyGivenNames x1
  refine .letP x1 ?_ (fun hx1 => ?_)
  · unfold x1
    refine .step ?_ (State.servePages_keeps _ _ _ _ _ _) rfl
    refine .step ?_ (State.cnt_keeps _ _ _ _) rfl
    exact .refl
  clear_value x1
  refine .fst_mk ?_
  refine .step ?_ (State.emit_keeps _ _) rfl
  assumption

theorem State.transition_keeps {ps : List Comp} {s0 : State} (s : State) (src : Src) (len : Nat) (t : LcToken) (a : Authority) (accepted : Bool) (program : State → State × Bool) (hprogram : ∀ (y0 : State), s0.sameBut y0 ps → s0.sameBut (program y0).1 ps) (hs : s0.sameBut s ps) (hc : covers Comp.device ps = true) : s0.sameBut (State.transition s src len t a accepted program) ps := by
  unfold State.transition
  extract_lets +onlyGivenNames x1
  refine .letP x1 ?_ (fun hx1 => ?_)
  · unfold x1
    refine State.command_keeps _ _ _ _ (fun _ _ => ?_) ?_ (covers_trans rfl hc)
    · refine State.lcReply_keeps _ _ _ _ _ _ _ (fun _ _ => ?_) ?_ (covers_trans rfl hc)
      · refine .step ?_ (markMoved_keeps _) (covers_trans rfl hc)
        apply hprogram
        assumption
      · assumption
    · assumption
  clear_value x1
  refine .ite ?_ ?_
  · refine .step ?_ (State.pathRestart_keeps _ _) (covers_trans rfl hc)
    assumption
  · assumption

theorem State.wd0Reset_keeps (s : State) (last : Nat) : s.sameBut (State.wd0Reset s last) Comp.device := by
  unfold State.wd0Reset
  extract_lets +onlyGivenNames x1
  clear_value x1
  refine .step ?_ (State.deviceRestart_keeps _ _ _ _) rfl
  refine .step ?_ (State.sameBut.keeper _) rfl
  exact .refl

theorem State.wd0Serve_keeps (s : State) (q : Req) (key : Word) : s.sameBut (State.wd0Serve s q key) Comp.device := by
  unfold State.wd0Serve
  refine .ite ?_ ?_
  · exact .refl
  · refine .ite ?_ ?_
    · extract_lets +onlyGivenNames x1
      clear_value x1
      extract_lets +onlyGivenNames x2
      refine .letS x2 ?_ (fun hx2 => ?_)
      · unfold x2
        refine .step ?_ (State.raise_keeps _ _ _) rfl
        refine .step ?_ (State.sameBut.wd0 _) rfl
        exact .refl
      clear_value x2
      refine .ite ?_ ?_
      · assumption
      · refine .step ?_ (State.wd0Reset_keeps _ _) rfl
        assumption
    · refine .ite ?_ ?_
      · refine .step ?_ (State.sameBut.wd0 _) rfl
        exact .refl
      · refine .ite ?_ ?_
        · exact .refl
        · extract_lets +onlyGivenNames x3
          clear_value x3
          extract_lets +onlyGivenNames x4
          refine .letS x4 ?_ (fun hx4 => ?_)
          · unfold x4
            refine .step ?_ (State.raise_keeps _ _ _) rfl
            refine .step ?_ (State.sameBut.wd0 _) rfl
            exact .refl
          clear_value x4
          refine .ite ?_ ?_
          · assumption
          · refine .step ?_ (State.wd0Reset_keeps _ _) rfl
            assumption

theorem State.commandWrite_keeps {s t : State} {q : Req} {off : Nat} {v : Word} (h : State.commandWrite s q off v = some t) :
    s.sameBut t Comp.device := by
  unfold State.commandWrite at h
  split at h
  · cases h; exact .mono (State.sameBut.keeper _) rfl
  · cases h; exact .mono (State.commitGo_keeps _ _ _) rfl
  · cases h; exact .mono (State.discard_keeps _ _ _) rfl
  · cases h; exact .ite (.mono (State.setView_keeps _ _ _) rfl) .refl
  · cases h; exact .ite (.mono (State.modeWrite_keeps _ _ _) rfl) .refl
  · cases h; exact .mono (State.setView_keeps _ _ _) rfl
  · cases h; exact .ite (.mono (State.urgentWrite_keeps _ _ _) rfl) .refl
  · cases h; exact .mono (State.recCtl_keeps _ _) rfl
  · cases h; exact .mono (State.setView_keeps _ _ _) rfl
  · cases h; exact .mono (State.setView_keeps _ _ _) rfl
  · cases h; exact .mono (State.wd0CfgWrite_keeps _ _ _) rfl
  · cases h; exact .mono (State.wd0WindowWrite_keeps _ _ _) rfl
  · cases h; exact .mono (State.wd0Serve_keeps _ _ _) rfl
  · split at h
    · cases h; exact .mono (State.sbsvcWrite_keeps _ _ _ _) rfl
    · split at h
      · exact .mono (State.asWrite_keeps h) rfl
      · cases h

theorem State.busWrite_keeps (s : State) (q : Req) (off : Nat) (v : Word) : s.sameBut (State.busWrite s q off v) Comp.device := by
  unfold State.busWrite
  split
  · exact .mono (State.commandWrite_keeps (by assumption)) rfl
  · exact .ite (.mono (State.stageWrite_keeps _ _ _ _) rfl) (.mono (State.clearSticky_keeps _ _ _) rfl)

theorem State.dataAccess_keeps {s t : State} {q : Req} {off : Nat} {w : Option Word} (h : State.dataAccess s q off w = .next t) :
    s.sameBut t Comp.device := by
  refine State.access_keeps ?_ rfl h
  split
  · exact .mono (State.busWrite_keeps _ _ _ _) rfl
  · exact .mono (State.busRead_keeps _ _ _) rfl

theorem State.barAccess_keeps (s : State) (a : BarAcc) : s.sameBut (State.barAccess s a) Comp.device := by
  unfold State.barAccess
  split
  · refine .ite ?_ ?_
    · refine .step ?_ (State.unsupported_keeps _) rfl
      exact .refl
    · refine .ite ?_ ?_
      · refine .foldl (fun _ _ _ => ?_) ?_
        · refine .step ?_ (State.busRead_keeps _ _ _) rfl
          assumption
        · exact .refl
      · refine .ite ?_ ?_
        · refine .step ?_ (State.bar4Served_keeps _ _ _) rfl
          exact .refl
        · refine .ite ?_ ?_
          · refine .foldl (fun _ _ _ => ?_) ?_
            · refine .step ?_ (State.emit_keeps _ _) rfl
              assumption
            · exact .refl
          · refine .step ?_ (State.unsupported_keeps _) rfl
            exact .refl
  · refine .ite ?_ ?_
    · refine .step ?_ (State.unsupported_keeps _) rfl
      exact .refl
    · refine .ite ?_ ?_
      · refine .ite ?_ ?_
        · refine .step ?_ (State.busWrite_keeps _ _ _ _) rfl
          refine .step ?_ (State.busWrite_keeps _ _ _ _) rfl
          exact .refl
        · refine .step ?_ (State.busWrite_keeps _ _ _ _) rfl
          exact .refl
      · refine .ite ?_ ?_
        · refine .step ?_ (State.bar2Write_keeps _ _ _ _) rfl
          exact .refl
        · refine .step ?_ (State.unsupported_keeps _) rfl
          exact .refl

end Sys2Proof.Machine
end

