-- ==== Sys2Proof/Laws/State.lean ====
section
/-! SUPPORT. Laws/State.lean: what each shared operation leaves of the state, one equation a component, for simp. -/

namespace Sys2Proof.Machine

/-! ## What reads one component alone -/

theorem State.chan_of {s t : State} (h : t.chs = s.chs) : t.chan = s.chan := by funext n; simp [State.chan, h]
theorem State.cfg_of {s t : State} (h : t.regs = s.regs) : t.cfg = s.cfg := by funext k; simp [State.cfg, h]
theorem State.sticky_of {s t : State} (h : t.regs = s.regs) : t.sticky = s.sticky := by funext k; simp [State.sticky, h]
theorem State.view_of {s t : State} (h : t.regs = s.regs) : t.view = s.view := by funext q; cases q <;> simp [State.view, h]
theorem State.powered_of {s t : State} (h : t.plat = s.plat) : t.powered = s.powered := by simp [State.powered, h]
theorem State.agt_of {s t : State} (h : t.ctl = s.ctl) : t.agt = s.agt := by funext n; simp [State.agt, h]
theorem State.cask_of {s t : State} (h : t.crypt = s.crypt) : t.cask = s.cask := by funext k; simp [State.cask, h]

/-! ## The shared operations -/

@[simp] theorem State.raiseAt_rest (s : State) (src : Nat) (sev : Nat) (arg : Nat) :
    (State.raiseAt s src sev arg).pending = s.pending ∧
    (State.raiseAt s src sev arg).time = s.time ∧
    (State.raiseAt s src sev arg).freeCtr = s.freeCtr ∧
    (State.raiseAt s src sev arg).outbox = s.outbox ∧
    (State.raiseAt s src sev arg).regs = s.regs ∧
    (State.raiseAt s src sev arg).plat = s.plat ∧
    (State.raiseAt s src sev arg).keeper = s.keeper ∧
    (State.raiseAt s src sev arg).chs = s.chs ∧
    (State.raiseAt s src sev arg).cellar = s.cellar ∧
    (State.raiseAt s src sev arg).press = s.press ∧
    (State.raiseAt s src sev arg).vault = s.vault ∧
    (State.raiseAt s src sev arg).ctl = s.ctl ∧
    (State.raiseAt s src sev arg).cntr = s.cntr ∧
    (State.raiseAt s src sev arg).tlm = s.tlm ∧
    (State.raiseAt s src sev arg).wd0 = s.wd0 ∧
    (State.raiseAt s src sev arg).clk = s.clk ∧
    (State.raiseAt s src sev arg).host = s.host ∧
    (State.raiseAt s src sev arg).ident = s.ident ∧
    (State.raiseAt s src sev arg).sealing = s.sealing ∧
    (State.raiseAt s src sev arg).crypt = s.crypt ∧
    (State.raiseAt s src sev arg).life = s.life ∧
    (State.raiseAt s src sev arg).side = s.side ∧
    (State.raiseAt s src sev arg).aux = s.aux ∧
    (State.raiseAt s src sev arg).chan = s.chan ∧
    (State.raiseAt s src sev arg).cfg = s.cfg ∧
    (State.raiseAt s src sev arg).sticky = s.sticky ∧
    (State.raiseAt s src sev arg).view = s.view ∧
    (State.raiseAt s src sev arg).powered = s.powered ∧
    (State.raiseAt s src sev arg).agt = s.agt ∧
    (State.raiseAt s src sev arg).cask = s.cask := by
  have h := State.raiseAt_keeps s src sev arg
  exact ⟨h .pending (by decide), h .time (by decide), h .freeCtr (by decide), h .outbox (by decide), h .regs (by decide), h .plat (by decide), h .keeper (by decide), h .chs (by decide), h .cellar (by decide), h .press (by decide), h .vault (by decide), h .ctl (by decide), h .cntr (by decide), h .tlm (by decide), h .wd0 (by decide), h .clk (by decide), h .host (by decide), h .ident (by decide), h .sealing (by decide), h .crypt (by decide), h .life (by decide), h .side (by decide), h .aux (by decide), State.chan_of (h .chs (by decide)), State.cfg_of (h .regs (by decide)), State.sticky_of (h .regs (by decide)), State.view_of (h .regs (by decide)), State.powered_of (h .plat (by decide)), State.agt_of (h .ctl (by decide)), State.cask_of (h .crypt (by decide))⟩

@[simp] theorem State.raise_rest (s : State) (src : Nat) (arg : Nat) :
    (State.raise s src arg).pending = s.pending ∧
    (State.raise s src arg).time = s.time ∧
    (State.raise s src arg).freeCtr = s.freeCtr ∧
    (State.raise s src arg).outbox = s.outbox ∧
    (State.raise s src arg).regs = s.regs ∧
    (State.raise s src arg).plat = s.plat ∧
    (State.raise s src arg).keeper = s.keeper ∧
    (State.raise s src arg).chs = s.chs ∧
    (State.raise s src arg).cellar = s.cellar ∧
    (State.raise s src arg).press = s.press ∧
    (State.raise s src arg).vault = s.vault ∧
    (State.raise s src arg).ctl = s.ctl ∧
    (State.raise s src arg).cntr = s.cntr ∧
    (State.raise s src arg).tlm = s.tlm ∧
    (State.raise s src arg).wd0 = s.wd0 ∧
    (State.raise s src arg).clk = s.clk ∧
    (State.raise s src arg).host = s.host ∧
    (State.raise s src arg).ident = s.ident ∧
    (State.raise s src arg).sealing = s.sealing ∧
    (State.raise s src arg).crypt = s.crypt ∧
    (State.raise s src arg).life = s.life ∧
    (State.raise s src arg).side = s.side ∧
    (State.raise s src arg).aux = s.aux ∧
    (State.raise s src arg).chan = s.chan ∧
    (State.raise s src arg).cfg = s.cfg ∧
    (State.raise s src arg).sticky = s.sticky ∧
    (State.raise s src arg).view = s.view ∧
    (State.raise s src arg).powered = s.powered ∧
    (State.raise s src arg).agt = s.agt ∧
    (State.raise s src arg).cask = s.cask := by
  have h := State.raise_keeps s src arg
  exact ⟨h .pending (by decide), h .time (by decide), h .freeCtr (by decide), h .outbox (by decide), h .regs (by decide), h .plat (by decide), h .keeper (by decide), h .chs (by decide), h .cellar (by decide), h .press (by decide), h .vault (by decide), h .ctl (by decide), h .cntr (by decide), h .tlm (by decide), h .wd0 (by decide), h .clk (by decide), h .host (by decide), h .ident (by decide), h .sealing (by decide), h .crypt (by decide), h .life (by decide), h .side (by decide), h .aux (by decide), State.chan_of (h .chs (by decide)), State.cfg_of (h .regs (by decide)), State.sticky_of (h .regs (by decide)), State.view_of (h .regs (by decide)), State.powered_of (h .plat (by decide)), State.agt_of (h .ctl (by decide)), State.cask_of (h .crypt (by decide))⟩

@[simp] theorem State.raiseCh_rest (s : State) (n : Ch) (k : Nat) (arg : Nat) :
    (State.raiseCh s n k arg).pending = s.pending ∧
    (State.raiseCh s n k arg).time = s.time ∧
    (State.raiseCh s n k arg).freeCtr = s.freeCtr ∧
    (State.raiseCh s n k arg).outbox = s.outbox ∧
    (State.raiseCh s n k arg).regs = s.regs ∧
    (State.raiseCh s n k arg).plat = s.plat ∧
    (State.raiseCh s n k arg).keeper = s.keeper ∧
    (State.raiseCh s n k arg).chs = s.chs ∧
    (State.raiseCh s n k arg).cellar = s.cellar ∧
    (State.raiseCh s n k arg).press = s.press ∧
    (State.raiseCh s n k arg).vault = s.vault ∧
    (State.raiseCh s n k arg).ctl = s.ctl ∧
    (State.raiseCh s n k arg).cntr = s.cntr ∧
    (State.raiseCh s n k arg).tlm = s.tlm ∧
    (State.raiseCh s n k arg).wd0 = s.wd0 ∧
    (State.raiseCh s n k arg).clk = s.clk ∧
    (State.raiseCh s n k arg).host = s.host ∧
    (State.raiseCh s n k arg).ident = s.ident ∧
    (State.raiseCh s n k arg).sealing = s.sealing ∧
    (State.raiseCh s n k arg).crypt = s.crypt ∧
    (State.raiseCh s n k arg).life = s.life ∧
    (State.raiseCh s n k arg).side = s.side ∧
    (State.raiseCh s n k arg).aux = s.aux ∧
    (State.raiseCh s n k arg).chan = s.chan ∧
    (State.raiseCh s n k arg).cfg = s.cfg ∧
    (State.raiseCh s n k arg).sticky = s.sticky ∧
    (State.raiseCh s n k arg).view = s.view ∧
    (State.raiseCh s n k arg).powered = s.powered ∧
    (State.raiseCh s n k arg).agt = s.agt ∧
    (State.raiseCh s n k arg).cask = s.cask := by
  have h := State.raiseCh_keeps s n k arg
  exact ⟨h .pending (by decide), h .time (by decide), h .freeCtr (by decide), h .outbox (by decide), h .regs (by decide), h .plat (by decide), h .keeper (by decide), h .chs (by decide), h .cellar (by decide), h .press (by decide), h .vault (by decide), h .ctl (by decide), h .cntr (by decide), h .tlm (by decide), h .wd0 (by decide), h .clk (by decide), h .host (by decide), h .ident (by decide), h .sealing (by decide), h .crypt (by decide), h .life (by decide), h .side (by decide), h .aux (by decide), State.chan_of (h .chs (by decide)), State.cfg_of (h .regs (by decide)), State.sticky_of (h .regs (by decide)), State.view_of (h .regs (by decide)), State.powered_of (h .plat (by decide)), State.agt_of (h .ctl (by decide)), State.cask_of (h .crypt (by decide))⟩

@[simp] theorem State.updChan_rest (s : State) (n : Ch) (f : Chan → Chan) :
    (State.updChan s n f).pending = s.pending ∧
    (State.updChan s n f).time = s.time ∧
    (State.updChan s n f).freeCtr = s.freeCtr ∧
    (State.updChan s n f).outbox = s.outbox ∧
    (State.updChan s n f).regs = s.regs ∧
    (State.updChan s n f).evt = s.evt ∧
    (State.updChan s n f).plat = s.plat ∧
    (State.updChan s n f).keeper = s.keeper ∧
    (State.updChan s n f).cellar = s.cellar ∧
    (State.updChan s n f).press = s.press ∧
    (State.updChan s n f).vault = s.vault ∧
    (State.updChan s n f).ctl = s.ctl ∧
    (State.updChan s n f).cntr = s.cntr ∧
    (State.updChan s n f).tlm = s.tlm ∧
    (State.updChan s n f).wd0 = s.wd0 ∧
    (State.updChan s n f).clk = s.clk ∧
    (State.updChan s n f).host = s.host ∧
    (State.updChan s n f).ident = s.ident ∧
    (State.updChan s n f).sealing = s.sealing ∧
    (State.updChan s n f).crypt = s.crypt ∧
    (State.updChan s n f).life = s.life ∧
    (State.updChan s n f).side = s.side ∧
    (State.updChan s n f).aux = s.aux ∧
    (State.updChan s n f).cfg = s.cfg ∧
    (State.updChan s n f).sticky = s.sticky ∧
    (State.updChan s n f).view = s.view ∧
    (State.updChan s n f).powered = s.powered ∧
    (State.updChan s n f).agt = s.agt ∧
    (State.updChan s n f).cask = s.cask := by
  have h := State.updChan_keeps s n f
  exact ⟨h .pending (by decide), h .time (by decide), h .freeCtr (by decide), h .outbox (by decide), h .regs (by decide), h .evt (by decide), h .plat (by decide), h .keeper (by decide), h .cellar (by decide), h .press (by decide), h .vault (by decide), h .ctl (by decide), h .cntr (by decide), h .tlm (by decide), h .wd0 (by decide), h .clk (by decide), h .host (by decide), h .ident (by decide), h .sealing (by decide), h .crypt (by decide), h .life (by decide), h .side (by decide), h .aux (by decide), State.cfg_of (h .regs (by decide)), State.sticky_of (h .regs (by decide)), State.view_of (h .regs (by decide)), State.powered_of (h .plat (by decide)), State.agt_of (h .ctl (by decide)), State.cask_of (h .crypt (by decide))⟩

@[simp] theorem State.setPhase_rest (s : State) (n : Ch) (p : Phase) :
    (State.setPhase s n p).pending = s.pending ∧
    (State.setPhase s n p).time = s.time ∧
    (State.setPhase s n p).freeCtr = s.freeCtr ∧
    (State.setPhase s n p).outbox = s.outbox ∧
    (State.setPhase s n p).regs = s.regs ∧
    (State.setPhase s n p).plat = s.plat ∧
    (State.setPhase s n p).keeper = s.keeper ∧
    (State.setPhase s n p).cellar = s.cellar ∧
    (State.setPhase s n p).press = s.press ∧
    (State.setPhase s n p).vault = s.vault ∧
    (State.setPhase s n p).ctl = s.ctl ∧
    (State.setPhase s n p).cntr = s.cntr ∧
    (State.setPhase s n p).tlm = s.tlm ∧
    (State.setPhase s n p).wd0 = s.wd0 ∧
    (State.setPhase s n p).clk = s.clk ∧
    (State.setPhase s n p).host = s.host ∧
    (State.setPhase s n p).ident = s.ident ∧
    (State.setPhase s n p).sealing = s.sealing ∧
    (State.setPhase s n p).crypt = s.crypt ∧
    (State.setPhase s n p).life = s.life ∧
    (State.setPhase s n p).side = s.side ∧
    (State.setPhase s n p).aux = s.aux ∧
    (State.setPhase s n p).cfg = s.cfg ∧
    (State.setPhase s n p).sticky = s.sticky ∧
    (State.setPhase s n p).view = s.view ∧
    (State.setPhase s n p).powered = s.powered ∧
    (State.setPhase s n p).agt = s.agt ∧
    (State.setPhase s n p).cask = s.cask := by
  have h := State.setPhase_keeps s n p
  exact ⟨h .pending (by decide), h .time (by decide), h .freeCtr (by decide), h .outbox (by decide), h .regs (by decide), h .plat (by decide), h .keeper (by decide), h .cellar (by decide), h .press (by decide), h .vault (by decide), h .ctl (by decide), h .cntr (by decide), h .tlm (by decide), h .wd0 (by decide), h .clk (by decide), h .host (by decide), h .ident (by decide), h .sealing (by decide), h .crypt (by decide), h .life (by decide), h .side (by decide), h .aux (by decide), State.cfg_of (h .regs (by decide)), State.sticky_of (h .regs (by decide)), State.view_of (h .regs (by decide)), State.powered_of (h .plat (by decide)), State.agt_of (h .ctl (by decide)), State.cask_of (h .crypt (by decide))⟩

@[simp] theorem State.runAfterCopy_rest (s : State) (n : Ch) :
    (State.runAfterCopy s n).pending = s.pending ∧
    (State.runAfterCopy s n).time = s.time ∧
    (State.runAfterCopy s n).freeCtr = s.freeCtr ∧
    (State.runAfterCopy s n).outbox = s.outbox ∧
    (State.runAfterCopy s n).regs = s.regs ∧
    (State.runAfterCopy s n).plat = s.plat ∧
    (State.runAfterCopy s n).keeper = s.keeper ∧
    (State.runAfterCopy s n).cellar = s.cellar ∧
    (State.runAfterCopy s n).press = s.press ∧
    (State.runAfterCopy s n).vault = s.vault ∧
    (State.runAfterCopy s n).ctl = s.ctl ∧
    (State.runAfterCopy s n).cntr = s.cntr ∧
    (State.runAfterCopy s n).tlm = s.tlm ∧
    (State.runAfterCopy s n).wd0 = s.wd0 ∧
    (State.runAfterCopy s n).clk = s.clk ∧
    (State.runAfterCopy s n).host = s.host ∧
    (State.runAfterCopy s n).ident = s.ident ∧
    (State.runAfterCopy s n).sealing = s.sealing ∧
    (State.runAfterCopy s n).crypt = s.crypt ∧
    (State.runAfterCopy s n).life = s.life ∧
    (State.runAfterCopy s n).side = s.side ∧
    (State.runAfterCopy s n).aux = s.aux ∧
    (State.runAfterCopy s n).cfg = s.cfg ∧
    (State.runAfterCopy s n).sticky = s.sticky ∧
    (State.runAfterCopy s n).view = s.view ∧
    (State.runAfterCopy s n).powered = s.powered ∧
    (State.runAfterCopy s n).agt = s.agt ∧
    (State.runAfterCopy s n).cask = s.cask := by
  have h := State.runAfterCopy_keeps s n
  exact ⟨h .pending (by decide), h .time (by decide), h .freeCtr (by decide), h .outbox (by decide), h .regs (by decide), h .plat (by decide), h .keeper (by decide), h .cellar (by decide), h .press (by decide), h .vault (by decide), h .ctl (by decide), h .cntr (by decide), h .tlm (by decide), h .wd0 (by decide), h .clk (by decide), h .host (by decide), h .ident (by decide), h .sealing (by decide), h .crypt (by decide), h .life (by decide), h .side (by decide), h .aux (by decide), State.cfg_of (h .regs (by decide)), State.sticky_of (h .regs (by decide)), State.view_of (h .regs (by decide)), State.powered_of (h .plat (by decide)), State.agt_of (h .ctl (by decide)), State.cask_of (h .crypt (by decide))⟩

@[simp] theorem State.updSlot_rest (s : State) (n : Ch) (k : SlotId) (f : Slot → Slot) :
    (State.updSlot s n k f).pending = s.pending ∧
    (State.updSlot s n k f).time = s.time ∧
    (State.updSlot s n k f).freeCtr = s.freeCtr ∧
    (State.updSlot s n k f).outbox = s.outbox ∧
    (State.updSlot s n k f).regs = s.regs ∧
    (State.updSlot s n k f).evt = s.evt ∧
    (State.updSlot s n k f).plat = s.plat ∧
    (State.updSlot s n k f).keeper = s.keeper ∧
    (State.updSlot s n k f).cellar = s.cellar ∧
    (State.updSlot s n k f).press = s.press ∧
    (State.updSlot s n k f).vault = s.vault ∧
    (State.updSlot s n k f).ctl = s.ctl ∧
    (State.updSlot s n k f).cntr = s.cntr ∧
    (State.updSlot s n k f).tlm = s.tlm ∧
    (State.updSlot s n k f).wd0 = s.wd0 ∧
    (State.updSlot s n k f).clk = s.clk ∧
    (State.updSlot s n k f).host = s.host ∧
    (State.updSlot s n k f).ident = s.ident ∧
    (State.updSlot s n k f).sealing = s.sealing ∧
    (State.updSlot s n k f).crypt = s.crypt ∧
    (State.updSlot s n k f).life = s.life ∧
    (State.updSlot s n k f).side = s.side ∧
    (State.updSlot s n k f).aux = s.aux ∧
    (State.updSlot s n k f).cfg = s.cfg ∧
    (State.updSlot s n k f).sticky = s.sticky ∧
    (State.updSlot s n k f).view = s.view ∧
    (State.updSlot s n k f).powered = s.powered ∧
    (State.updSlot s n k f).agt = s.agt ∧
    (State.updSlot s n k f).cask = s.cask := by
  have h := State.updSlot_keeps s n k f
  exact ⟨h .pending (by decide), h .time (by decide), h .freeCtr (by decide), h .outbox (by decide), h .regs (by decide), h .evt (by decide), h .plat (by decide), h .keeper (by decide), h .cellar (by decide), h .press (by decide), h .vault (by decide), h .ctl (by decide), h .cntr (by decide), h .tlm (by decide), h .wd0 (by decide), h .clk (by decide), h .host (by decide), h .ident (by decide), h .sealing (by decide), h .crypt (by decide), h .life (by decide), h .side (by decide), h .aux (by decide), State.cfg_of (h .regs (by decide)), State.sticky_of (h .regs (by decide)), State.view_of (h .regs (by decide)), State.powered_of (h .plat (by decide)), State.agt_of (h .ctl (by decide)), State.cask_of (h .crypt (by decide))⟩

@[simp] theorem State.abandonUpdate_rest (s : State) (n : Ch) (k : SlotId) :
    (State.abandonUpdate s n k).pending = s.pending ∧
    (State.abandonUpdate s n k).time = s.time ∧
    (State.abandonUpdate s n k).freeCtr = s.freeCtr ∧
    (State.abandonUpdate s n k).outbox = s.outbox ∧
    (State.abandonUpdate s n k).regs = s.regs ∧
    (State.abandonUpdate s n k).plat = s.plat ∧
    (State.abandonUpdate s n k).keeper = s.keeper ∧
    (State.abandonUpdate s n k).cellar = s.cellar ∧
    (State.abandonUpdate s n k).press = s.press ∧
    (State.abandonUpdate s n k).vault = s.vault ∧
    (State.abandonUpdate s n k).ctl = s.ctl ∧
    (State.abandonUpdate s n k).cntr = s.cntr ∧
    (State.abandonUpdate s n k).tlm = s.tlm ∧
    (State.abandonUpdate s n k).wd0 = s.wd0 ∧
    (State.abandonUpdate s n k).clk = s.clk ∧
    (State.abandonUpdate s n k).host = s.host ∧
    (State.abandonUpdate s n k).ident = s.ident ∧
    (State.abandonUpdate s n k).sealing = s.sealing ∧
    (State.abandonUpdate s n k).crypt = s.crypt ∧
    (State.abandonUpdate s n k).life = s.life ∧
    (State.abandonUpdate s n k).side = s.side ∧
    (State.abandonUpdate s n k).aux = s.aux ∧
    (State.abandonUpdate s n k).cfg = s.cfg ∧
    (State.abandonUpdate s n k).sticky = s.sticky ∧
    (State.abandonUpdate s n k).view = s.view ∧
    (State.abandonUpdate s n k).powered = s.powered ∧
    (State.abandonUpdate s n k).agt = s.agt ∧
    (State.abandonUpdate s n k).cask = s.cask := by
  have h := State.abandonUpdate_keeps s n k
  exact ⟨h .pending (by decide), h .time (by decide), h .freeCtr (by decide), h .outbox (by decide), h .regs (by decide), h .plat (by decide), h .keeper (by decide), h .cellar (by decide), h .press (by decide), h .vault (by decide), h .ctl (by decide), h .cntr (by decide), h .tlm (by decide), h .wd0 (by decide), h .clk (by decide), h .host (by decide), h .ident (by decide), h .sealing (by decide), h .crypt (by decide), h .life (by decide), h .side (by decide), h .aux (by decide), State.cfg_of (h .regs (by decide)), State.sticky_of (h .regs (by decide)), State.view_of (h .regs (by decide)), State.powered_of (h .plat (by decide)), State.agt_of (h .ctl (by decide)), State.cask_of (h .crypt (by decide))⟩

@[simp] theorem State.raiseIf_rest (s : State) (c : Bool) (src : Nat) (arg : Nat) :
    (State.raiseIf s c src arg).pending = s.pending ∧
    (State.raiseIf s c src arg).time = s.time ∧
    (State.raiseIf s c src arg).freeCtr = s.freeCtr ∧
    (State.raiseIf s c src arg).outbox = s.outbox ∧
    (State.raiseIf s c src arg).regs = s.regs ∧
    (State.raiseIf s c src arg).plat = s.plat ∧
    (State.raiseIf s c src arg).keeper = s.keeper ∧
    (State.raiseIf s c src arg).chs = s.chs ∧
    (State.raiseIf s c src arg).cellar = s.cellar ∧
    (State.raiseIf s c src arg).press = s.press ∧
    (State.raiseIf s c src arg).vault = s.vault ∧
    (State.raiseIf s c src arg).ctl = s.ctl ∧
    (State.raiseIf s c src arg).cntr = s.cntr ∧
    (State.raiseIf s c src arg).tlm = s.tlm ∧
    (State.raiseIf s c src arg).wd0 = s.wd0 ∧
    (State.raiseIf s c src arg).clk = s.clk ∧
    (State.raiseIf s c src arg).host = s.host ∧
    (State.raiseIf s c src arg).ident = s.ident ∧
    (State.raiseIf s c src arg).sealing = s.sealing ∧
    (State.raiseIf s c src arg).crypt = s.crypt ∧
    (State.raiseIf s c src arg).life = s.life ∧
    (State.raiseIf s c src arg).side = s.side ∧
    (State.raiseIf s c src arg).aux = s.aux ∧
    (State.raiseIf s c src arg).chan = s.chan ∧
    (State.raiseIf s c src arg).cfg = s.cfg ∧
    (State.raiseIf s c src arg).sticky = s.sticky ∧
    (State.raiseIf s c src arg).view = s.view ∧
    (State.raiseIf s c src arg).powered = s.powered ∧
    (State.raiseIf s c src arg).agt = s.agt ∧
    (State.raiseIf s c src arg).cask = s.cask := by
  have h := State.raiseIf_keeps s c src arg
  exact ⟨h .pending (by decide), h .time (by decide), h .freeCtr (by decide), h .outbox (by decide), h .regs (by decide), h .plat (by decide), h .keeper (by decide), h .chs (by decide), h .cellar (by decide), h .press (by decide), h .vault (by decide), h .ctl (by decide), h .cntr (by decide), h .tlm (by decide), h .wd0 (by decide), h .clk (by decide), h .host (by decide), h .ident (by decide), h .sealing (by decide), h .crypt (by decide), h .life (by decide), h .side (by decide), h .aux (by decide), State.chan_of (h .chs (by decide)), State.cfg_of (h .regs (by decide)), State.sticky_of (h .regs (by decide)), State.view_of (h .regs (by decide)), State.powered_of (h .plat (by decide)), State.agt_of (h .ctl (by decide)), State.cask_of (h .crypt (by decide))⟩

@[simp] theorem State.addCounter_rest (s : State) (i : Nat) (k : Nat) :
    (State.addCounter s i k).pending = s.pending ∧
    (State.addCounter s i k).time = s.time ∧
    (State.addCounter s i k).freeCtr = s.freeCtr ∧
    (State.addCounter s i k).outbox = s.outbox ∧
    (State.addCounter s i k).regs = s.regs ∧
    (State.addCounter s i k).plat = s.plat ∧
    (State.addCounter s i k).keeper = s.keeper ∧
    (State.addCounter s i k).chs = s.chs ∧
    (State.addCounter s i k).cellar = s.cellar ∧
    (State.addCounter s i k).press = s.press ∧
    (State.addCounter s i k).vault = s.vault ∧
    (State.addCounter s i k).ctl = s.ctl ∧
    (State.addCounter s i k).tlm = s.tlm ∧
    (State.addCounter s i k).wd0 = s.wd0 ∧
    (State.addCounter s i k).clk = s.clk ∧
    (State.addCounter s i k).host = s.host ∧
    (State.addCounter s i k).ident = s.ident ∧
    (State.addCounter s i k).sealing = s.sealing ∧
    (State.addCounter s i k).crypt = s.crypt ∧
    (State.addCounter s i k).life = s.life ∧
    (State.addCounter s i k).side = s.side ∧
    (State.addCounter s i k).aux = s.aux ∧
    (State.addCounter s i k).chan = s.chan ∧
    (State.addCounter s i k).cfg = s.cfg ∧
    (State.addCounter s i k).sticky = s.sticky ∧
    (State.addCounter s i k).view = s.view ∧
    (State.addCounter s i k).powered = s.powered ∧
    (State.addCounter s i k).agt = s.agt ∧
    (State.addCounter s i k).cask = s.cask := by
  have h := State.addCounter_keeps s i k
  exact ⟨h .pending (by decide), h .time (by decide), h .freeCtr (by decide), h .outbox (by decide), h .regs (by decide), h .plat (by decide), h .keeper (by decide), h .chs (by decide), h .cellar (by decide), h .press (by decide), h .vault (by decide), h .ctl (by decide), h .tlm (by decide), h .wd0 (by decide), h .clk (by decide), h .host (by decide), h .ident (by decide), h .sealing (by decide), h .crypt (by decide), h .life (by decide), h .side (by decide), h .aux (by decide), State.chan_of (h .chs (by decide)), State.cfg_of (h .regs (by decide)), State.sticky_of (h .regs (by decide)), State.view_of (h .regs (by decide)), State.powered_of (h .plat (by decide)), State.agt_of (h .ctl (by decide)), State.cask_of (h .crypt (by decide))⟩

@[simp] theorem State.cntQ_rest (s : State) (i : Nat) (k : Nat) :
    (State.cntQ s i k).pending = s.pending ∧
    (State.cntQ s i k).time = s.time ∧
    (State.cntQ s i k).freeCtr = s.freeCtr ∧
    (State.cntQ s i k).outbox = s.outbox ∧
    (State.cntQ s i k).regs = s.regs ∧
    (State.cntQ s i k).plat = s.plat ∧
    (State.cntQ s i k).keeper = s.keeper ∧
    (State.cntQ s i k).chs = s.chs ∧
    (State.cntQ s i k).cellar = s.cellar ∧
    (State.cntQ s i k).press = s.press ∧
    (State.cntQ s i k).vault = s.vault ∧
    (State.cntQ s i k).ctl = s.ctl ∧
    (State.cntQ s i k).tlm = s.tlm ∧
    (State.cntQ s i k).wd0 = s.wd0 ∧
    (State.cntQ s i k).clk = s.clk ∧
    (State.cntQ s i k).host = s.host ∧
    (State.cntQ s i k).ident = s.ident ∧
    (State.cntQ s i k).sealing = s.sealing ∧
    (State.cntQ s i k).crypt = s.crypt ∧
    (State.cntQ s i k).life = s.life ∧
    (State.cntQ s i k).side = s.side ∧
    (State.cntQ s i k).aux = s.aux ∧
    (State.cntQ s i k).chan = s.chan ∧
    (State.cntQ s i k).cfg = s.cfg ∧
    (State.cntQ s i k).sticky = s.sticky ∧
    (State.cntQ s i k).view = s.view ∧
    (State.cntQ s i k).powered = s.powered ∧
    (State.cntQ s i k).agt = s.agt ∧
    (State.cntQ s i k).cask = s.cask := by
  have h := State.cntQ_keeps s i k
  exact ⟨h .pending (by decide), h .time (by decide), h .freeCtr (by decide), h .outbox (by decide), h .regs (by decide), h .plat (by decide), h .keeper (by decide), h .chs (by decide), h .cellar (by decide), h .press (by decide), h .vault (by decide), h .ctl (by decide), h .tlm (by decide), h .wd0 (by decide), h .clk (by decide), h .host (by decide), h .ident (by decide), h .sealing (by decide), h .crypt (by decide), h .life (by decide), h .side (by decide), h .aux (by decide), State.chan_of (h .chs (by decide)), State.cfg_of (h .regs (by decide)), State.sticky_of (h .regs (by decide)), State.view_of (h .regs (by decide)), State.powered_of (h .plat (by decide)), State.agt_of (h .ctl (by decide)), State.cask_of (h .crypt (by decide))⟩

@[simp] theorem State.dropFetched_rest (s : State) (f : Fetched) :
    (State.dropFetched s f).pending = s.pending ∧
    (State.dropFetched s f).time = s.time ∧
    (State.dropFetched s f).freeCtr = s.freeCtr ∧
    (State.dropFetched s f).outbox = s.outbox ∧
    (State.dropFetched s f).regs = s.regs ∧
    (State.dropFetched s f).evt = s.evt ∧
    (State.dropFetched s f).plat = s.plat ∧
    (State.dropFetched s f).keeper = s.keeper ∧
    (State.dropFetched s f).chs = s.chs ∧
    (State.dropFetched s f).cellar = s.cellar ∧
    (State.dropFetched s f).press = s.press ∧
    (State.dropFetched s f).vault = s.vault ∧
    (State.dropFetched s f).ctl = s.ctl ∧
    (State.dropFetched s f).cntr = s.cntr ∧
    (State.dropFetched s f).tlm = s.tlm ∧
    (State.dropFetched s f).wd0 = s.wd0 ∧
    (State.dropFetched s f).clk = s.clk ∧
    (State.dropFetched s f).ident = s.ident ∧
    (State.dropFetched s f).sealing = s.sealing ∧
    (State.dropFetched s f).crypt = s.crypt ∧
    (State.dropFetched s f).life = s.life ∧
    (State.dropFetched s f).side = s.side ∧
    (State.dropFetched s f).aux = s.aux ∧
    (State.dropFetched s f).chan = s.chan ∧
    (State.dropFetched s f).cfg = s.cfg ∧
    (State.dropFetched s f).sticky = s.sticky ∧
    (State.dropFetched s f).view = s.view ∧
    (State.dropFetched s f).powered = s.powered ∧
    (State.dropFetched s f).agt = s.agt ∧
    (State.dropFetched s f).cask = s.cask := by
  have h := State.dropFetched_keeps s f
  exact ⟨h .pending (by decide), h .time (by decide), h .freeCtr (by decide), h .outbox (by decide), h .regs (by decide), h .evt (by decide), h .plat (by decide), h .keeper (by decide), h .chs (by decide), h .cellar (by decide), h .press (by decide), h .vault (by decide), h .ctl (by decide), h .cntr (by decide), h .tlm (by decide), h .wd0 (by decide), h .clk (by decide), h .ident (by decide), h .sealing (by decide), h .crypt (by decide), h .life (by decide), h .side (by decide), h .aux (by decide), State.chan_of (h .chs (by decide)), State.cfg_of (h .regs (by decide)), State.sticky_of (h .regs (by decide)), State.view_of (h .regs (by decide)), State.powered_of (h .plat (by decide)), State.agt_of (h .ctl (by decide)), State.cask_of (h .crypt (by decide))⟩

@[simp] theorem State.emit_rest (s : State) (o : Out) :
    (State.emit s o).pending = s.pending ∧
    (State.emit s o).time = s.time ∧
    (State.emit s o).freeCtr = s.freeCtr ∧
    (State.emit s o).regs = s.regs ∧
    (State.emit s o).evt = s.evt ∧
    (State.emit s o).plat = s.plat ∧
    (State.emit s o).keeper = s.keeper ∧
    (State.emit s o).chs = s.chs ∧
    (State.emit s o).cellar = s.cellar ∧
    (State.emit s o).press = s.press ∧
    (State.emit s o).vault = s.vault ∧
    (State.emit s o).ctl = s.ctl ∧
    (State.emit s o).cntr = s.cntr ∧
    (State.emit s o).tlm = s.tlm ∧
    (State.emit s o).wd0 = s.wd0 ∧
    (State.emit s o).clk = s.clk ∧
    (State.emit s o).host = s.host ∧
    (State.emit s o).ident = s.ident ∧
    (State.emit s o).sealing = s.sealing ∧
    (State.emit s o).crypt = s.crypt ∧
    (State.emit s o).life = s.life ∧
    (State.emit s o).side = s.side ∧
    (State.emit s o).aux = s.aux ∧
    (State.emit s o).chan = s.chan ∧
    (State.emit s o).cfg = s.cfg ∧
    (State.emit s o).sticky = s.sticky ∧
    (State.emit s o).view = s.view ∧
    (State.emit s o).powered = s.powered ∧
    (State.emit s o).agt = s.agt ∧
    (State.emit s o).cask = s.cask := by
  have h := State.emit_keeps s o
  exact ⟨h .pending (by decide), h .time (by decide), h .freeCtr (by decide), h .regs (by decide), h .evt (by decide), h .plat (by decide), h .keeper (by decide), h .chs (by decide), h .cellar (by decide), h .press (by decide), h .vault (by decide), h .ctl (by decide), h .cntr (by decide), h .tlm (by decide), h .wd0 (by decide), h .clk (by decide), h .host (by decide), h .ident (by decide), h .sealing (by decide), h .crypt (by decide), h .life (by decide), h .side (by decide), h .aux (by decide), State.chan_of (h .chs (by decide)), State.cfg_of (h .regs (by decide)), State.sticky_of (h .regs (by decide)), State.view_of (h .regs (by decide)), State.powered_of (h .plat (by decide)), State.agt_of (h .ctl (by decide)), State.cask_of (h .crypt (by decide))⟩

@[simp] theorem State.hostWrite_rest (s : State) (addr : Nat) (bs : List Byte) :
    (State.hostWrite s addr bs).pending = s.pending ∧
    (State.hostWrite s addr bs).time = s.time ∧
    (State.hostWrite s addr bs).freeCtr = s.freeCtr ∧
    (State.hostWrite s addr bs).regs = s.regs ∧
    (State.hostWrite s addr bs).plat = s.plat ∧
    (State.hostWrite s addr bs).keeper = s.keeper ∧
    (State.hostWrite s addr bs).chs = s.chs ∧
    (State.hostWrite s addr bs).cellar = s.cellar ∧
    (State.hostWrite s addr bs).press = s.press ∧
    (State.hostWrite s addr bs).vault = s.vault ∧
    (State.hostWrite s addr bs).ctl = s.ctl ∧
    (State.hostWrite s addr bs).wd0 = s.wd0 ∧
    (State.hostWrite s addr bs).clk = s.clk ∧
    (State.hostWrite s addr bs).host = s.host ∧
    (State.hostWrite s addr bs).ident = s.ident ∧
    (State.hostWrite s addr bs).sealing = s.sealing ∧
    (State.hostWrite s addr bs).crypt = s.crypt ∧
    (State.hostWrite s addr bs).life = s.life ∧
    (State.hostWrite s addr bs).side = s.side ∧
    (State.hostWrite s addr bs).aux = s.aux ∧
    (State.hostWrite s addr bs).chan = s.chan ∧
    (State.hostWrite s addr bs).cfg = s.cfg ∧
    (State.hostWrite s addr bs).sticky = s.sticky ∧
    (State.hostWrite s addr bs).view = s.view ∧
    (State.hostWrite s addr bs).powered = s.powered ∧
    (State.hostWrite s addr bs).agt = s.agt ∧
    (State.hostWrite s addr bs).cask = s.cask := by
  have h := State.hostWrite_keeps s addr bs
  exact ⟨h .pending (by decide), h .time (by decide), h .freeCtr (by decide), h .regs (by decide), h .plat (by decide), h .keeper (by decide), h .chs (by decide), h .cellar (by decide), h .press (by decide), h .vault (by decide), h .ctl (by decide), h .wd0 (by decide), h .clk (by decide), h .host (by decide), h .ident (by decide), h .sealing (by decide), h .crypt (by decide), h .life (by decide), h .side (by decide), h .aux (by decide), State.chan_of (h .chs (by decide)), State.cfg_of (h .regs (by decide)), State.sticky_of (h .regs (by decide)), State.view_of (h .regs (by decide)), State.powered_of (h .plat (by decide)), State.agt_of (h .ctl (by decide)), State.cask_of (h .crypt (by decide))⟩

@[simp] theorem State.updQueue_rest (s : State) (q : Nat) (f : HQueue → HQueue) :
    (State.updQueue s q f).pending = s.pending ∧
    (State.updQueue s q f).time = s.time ∧
    (State.updQueue s q f).freeCtr = s.freeCtr ∧
    (State.updQueue s q f).outbox = s.outbox ∧
    (State.updQueue s q f).regs = s.regs ∧
    (State.updQueue s q f).evt = s.evt ∧
    (State.updQueue s q f).plat = s.plat ∧
    (State.updQueue s q f).keeper = s.keeper ∧
    (State.updQueue s q f).chs = s.chs ∧
    (State.updQueue s q f).cellar = s.cellar ∧
    (State.updQueue s q f).press = s.press ∧
    (State.updQueue s q f).vault = s.vault ∧
    (State.updQueue s q f).ctl = s.ctl ∧
    (State.updQueue s q f).cntr = s.cntr ∧
    (State.updQueue s q f).tlm = s.tlm ∧
    (State.updQueue s q f).wd0 = s.wd0 ∧
    (State.updQueue s q f).clk = s.clk ∧
    (State.updQueue s q f).ident = s.ident ∧
    (State.updQueue s q f).sealing = s.sealing ∧
    (State.updQueue s q f).crypt = s.crypt ∧
    (State.updQueue s q f).life = s.life ∧
    (State.updQueue s q f).side = s.side ∧
    (State.updQueue s q f).aux = s.aux ∧
    (State.updQueue s q f).chan = s.chan ∧
    (State.updQueue s q f).cfg = s.cfg ∧
    (State.updQueue s q f).sticky = s.sticky ∧
    (State.updQueue s q f).view = s.view ∧
    (State.updQueue s q f).powered = s.powered ∧
    (State.updQueue s q f).agt = s.agt ∧
    (State.updQueue s q f).cask = s.cask := by
  have h := State.updQueue_keeps s q f
  exact ⟨h .pending (by decide), h .time (by decide), h .freeCtr (by decide), h .outbox (by decide), h .regs (by decide), h .evt (by decide), h .plat (by decide), h .keeper (by decide), h .chs (by decide), h .cellar (by decide), h .press (by decide), h .vault (by decide), h .ctl (by decide), h .cntr (by decide), h .tlm (by decide), h .wd0 (by decide), h .clk (by decide), h .ident (by decide), h .sealing (by decide), h .crypt (by decide), h .life (by decide), h .side (by decide), h .aux (by decide), State.chan_of (h .chs (by decide)), State.cfg_of (h .regs (by decide)), State.sticky_of (h .regs (by decide)), State.view_of (h .regs (by decide)), State.powered_of (h .plat (by decide)), State.agt_of (h .ctl (by decide)), State.cask_of (h .crypt (by decide))⟩

@[simp] theorem State.msi_rest (s : State) (v : Nat) :
    (State.msi s v).pending = s.pending ∧
    (State.msi s v).time = s.time ∧
    (State.msi s v).freeCtr = s.freeCtr ∧
    (State.msi s v).regs = s.regs ∧
    (State.msi s v).plat = s.plat ∧
    (State.msi s v).keeper = s.keeper ∧
    (State.msi s v).chs = s.chs ∧
    (State.msi s v).cellar = s.cellar ∧
    (State.msi s v).press = s.press ∧
    (State.msi s v).vault = s.vault ∧
    (State.msi s v).ctl = s.ctl ∧
    (State.msi s v).tlm = s.tlm ∧
    (State.msi s v).wd0 = s.wd0 ∧
    (State.msi s v).clk = s.clk ∧
    (State.msi s v).ident = s.ident ∧
    (State.msi s v).sealing = s.sealing ∧
    (State.msi s v).crypt = s.crypt ∧
    (State.msi s v).life = s.life ∧
    (State.msi s v).side = s.side ∧
    (State.msi s v).aux = s.aux ∧
    (State.msi s v).chan = s.chan ∧
    (State.msi s v).cfg = s.cfg ∧
    (State.msi s v).sticky = s.sticky ∧
    (State.msi s v).view = s.view ∧
    (State.msi s v).powered = s.powered ∧
    (State.msi s v).agt = s.agt ∧
    (State.msi s v).cask = s.cask := by
  have h := State.msi_keeps s v
  exact ⟨h .pending (by decide), h .time (by decide), h .freeCtr (by decide), h .regs (by decide), h .plat (by decide), h .keeper (by decide), h .chs (by decide), h .cellar (by decide), h .press (by decide), h .vault (by decide), h .ctl (by decide), h .tlm (by decide), h .wd0 (by decide), h .clk (by decide), h .ident (by decide), h .sealing (by decide), h .crypt (by decide), h .life (by decide), h .side (by decide), h .aux (by decide), State.chan_of (h .chs (by decide)), State.cfg_of (h .regs (by decide)), State.sticky_of (h .regs (by decide)), State.view_of (h .regs (by decide)), State.powered_of (h .plat (by decide)), State.agt_of (h .ctl (by decide)), State.cask_of (h .crypt (by decide))⟩

@[simp] theorem State.qWrite_rest (s : State) (q : Nat) (bytes : Nat) (noint : Bool) (entry : Bool → List Byte) :
    (State.qWrite s q bytes noint entry).pending = s.pending ∧
    (State.qWrite s q bytes noint entry).time = s.time ∧
    (State.qWrite s q bytes noint entry).freeCtr = s.freeCtr ∧
    (State.qWrite s q bytes noint entry).regs = s.regs ∧
    (State.qWrite s q bytes noint entry).plat = s.plat ∧
    (State.qWrite s q bytes noint entry).keeper = s.keeper ∧
    (State.qWrite s q bytes noint entry).chs = s.chs ∧
    (State.qWrite s q bytes noint entry).cellar = s.cellar ∧
    (State.qWrite s q bytes noint entry).press = s.press ∧
    (State.qWrite s q bytes noint entry).vault = s.vault ∧
    (State.qWrite s q bytes noint entry).ctl = s.ctl ∧
    (State.qWrite s q bytes noint entry).wd0 = s.wd0 ∧
    (State.qWrite s q bytes noint entry).clk = s.clk ∧
    (State.qWrite s q bytes noint entry).ident = s.ident ∧
    (State.qWrite s q bytes noint entry).sealing = s.sealing ∧
    (State.qWrite s q bytes noint entry).crypt = s.crypt ∧
    (State.qWrite s q bytes noint entry).life = s.life ∧
    (State.qWrite s q bytes noint entry).side = s.side ∧
    (State.qWrite s q bytes noint entry).aux = s.aux ∧
    (State.qWrite s q bytes noint entry).chan = s.chan ∧
    (State.qWrite s q bytes noint entry).cfg = s.cfg ∧
    (State.qWrite s q bytes noint entry).sticky = s.sticky ∧
    (State.qWrite s q bytes noint entry).view = s.view ∧
    (State.qWrite s q bytes noint entry).powered = s.powered ∧
    (State.qWrite s q bytes noint entry).agt = s.agt ∧
    (State.qWrite s q bytes noint entry).cask = s.cask := by
  have h := State.qWrite_keeps s q bytes noint entry
  exact ⟨h .pending (by decide), h .time (by decide), h .freeCtr (by decide), h .regs (by decide), h .plat (by decide), h .keeper (by decide), h .chs (by decide), h .cellar (by decide), h .press (by decide), h .vault (by decide), h .ctl (by decide), h .wd0 (by decide), h .clk (by decide), h .ident (by decide), h .sealing (by decide), h .crypt (by decide), h .life (by decide), h .side (by decide), h .aux (by decide), State.chan_of (h .chs (by decide)), State.cfg_of (h .regs (by decide)), State.sticky_of (h .regs (by decide)), State.view_of (h .regs (by decide)), State.powered_of (h .plat (by decide)), State.agt_of (h .ctl (by decide)), State.cask_of (h .crypt (by decide))⟩

@[simp] theorem State.sendCpl_rest (s : State) (r : Retained) :
    (State.sendCpl s r).1.pending = s.pending ∧
    (State.sendCpl s r).1.time = s.time ∧
    (State.sendCpl s r).1.freeCtr = s.freeCtr ∧
    (State.sendCpl s r).1.regs = s.regs ∧
    (State.sendCpl s r).1.plat = s.plat ∧
    (State.sendCpl s r).1.keeper = s.keeper ∧
    (State.sendCpl s r).1.chs = s.chs ∧
    (State.sendCpl s r).1.cellar = s.cellar ∧
    (State.sendCpl s r).1.press = s.press ∧
    (State.sendCpl s r).1.vault = s.vault ∧
    (State.sendCpl s r).1.ctl = s.ctl ∧
    (State.sendCpl s r).1.wd0 = s.wd0 ∧
    (State.sendCpl s r).1.clk = s.clk ∧
    (State.sendCpl s r).1.ident = s.ident ∧
    (State.sendCpl s r).1.sealing = s.sealing ∧
    (State.sendCpl s r).1.crypt = s.crypt ∧
    (State.sendCpl s r).1.life = s.life ∧
    (State.sendCpl s r).1.side = s.side ∧
    (State.sendCpl s r).1.aux = s.aux ∧
    (State.sendCpl s r).1.chan = s.chan ∧
    (State.sendCpl s r).1.cfg = s.cfg ∧
    (State.sendCpl s r).1.sticky = s.sticky ∧
    (State.sendCpl s r).1.view = s.view ∧
    (State.sendCpl s r).1.powered = s.powered ∧
    (State.sendCpl s r).1.agt = s.agt ∧
    (State.sendCpl s r).1.cask = s.cask := by
  have h := State.sendCpl_keeps s r
  exact ⟨h .pending (by decide), h .time (by decide), h .freeCtr (by decide), h .regs (by decide), h .plat (by decide), h .keeper (by decide), h .chs (by decide), h .cellar (by decide), h .press (by decide), h .vault (by decide), h .ctl (by decide), h .wd0 (by decide), h .clk (by decide), h .ident (by decide), h .sealing (by decide), h .crypt (by decide), h .life (by decide), h .side (by decide), h .aux (by decide), State.chan_of (h .chs (by decide)), State.cfg_of (h .regs (by decide)), State.sticky_of (h .regs (by decide)), State.view_of (h .regs (by decide)), State.powered_of (h .plat (by decide)), State.agt_of (h .ctl (by decide)), State.cask_of (h .crypt (by decide))⟩

@[simp] theorem State.postCpl_rest (s : State) (sq : Nat) (c : Cpl) (noint : Bool) (receipt : Option (Nat × List Byte)) :
    (State.postCpl s sq c noint receipt).pending = s.pending ∧
    (State.postCpl s sq c noint receipt).time = s.time ∧
    (State.postCpl s sq c noint receipt).freeCtr = s.freeCtr ∧
    (State.postCpl s sq c noint receipt).regs = s.regs ∧
    (State.postCpl s sq c noint receipt).plat = s.plat ∧
    (State.postCpl s sq c noint receipt).keeper = s.keeper ∧
    (State.postCpl s sq c noint receipt).chs = s.chs ∧
    (State.postCpl s sq c noint receipt).cellar = s.cellar ∧
    (State.postCpl s sq c noint receipt).press = s.press ∧
    (State.postCpl s sq c noint receipt).vault = s.vault ∧
    (State.postCpl s sq c noint receipt).ctl = s.ctl ∧
    (State.postCpl s sq c noint receipt).wd0 = s.wd0 ∧
    (State.postCpl s sq c noint receipt).clk = s.clk ∧
    (State.postCpl s sq c noint receipt).ident = s.ident ∧
    (State.postCpl s sq c noint receipt).sealing = s.sealing ∧
    (State.postCpl s sq c noint receipt).crypt = s.crypt ∧
    (State.postCpl s sq c noint receipt).life = s.life ∧
    (State.postCpl s sq c noint receipt).side = s.side ∧
    (State.postCpl s sq c noint receipt).aux = s.aux ∧
    (State.postCpl s sq c noint receipt).chan = s.chan ∧
    (State.postCpl s sq c noint receipt).cfg = s.cfg ∧
    (State.postCpl s sq c noint receipt).sticky = s.sticky ∧
    (State.postCpl s sq c noint receipt).view = s.view ∧
    (State.postCpl s sq c noint receipt).powered = s.powered ∧
    (State.postCpl s sq c noint receipt).agt = s.agt ∧
    (State.postCpl s sq c noint receipt).cask = s.cask := by
  have h := State.postCpl_keeps s sq c noint receipt
  exact ⟨h .pending (by decide), h .time (by decide), h .freeCtr (by decide), h .regs (by decide), h .plat (by decide), h .keeper (by decide), h .chs (by decide), h .cellar (by decide), h .press (by decide), h .vault (by decide), h .ctl (by decide), h .wd0 (by decide), h .clk (by decide), h .ident (by decide), h .sealing (by decide), h .crypt (by decide), h .life (by decide), h .side (by decide), h .aux (by decide), State.chan_of (h .chs (by decide)), State.cfg_of (h .regs (by decide)), State.sticky_of (h .regs (by decide)), State.view_of (h .regs (by decide)), State.powered_of (h .plat (by decide)), State.agt_of (h .ctl (by decide)), State.cask_of (h .crypt (by decide))⟩

@[simp] theorem State.completeCmd_rest (s : State) (f : Fetched) (r : Reply) :
    (State.completeCmd s f r).pending = s.pending ∧
    (State.completeCmd s f r).time = s.time ∧
    (State.completeCmd s f r).freeCtr = s.freeCtr ∧
    (State.completeCmd s f r).regs = s.regs ∧
    (State.completeCmd s f r).plat = s.plat ∧
    (State.completeCmd s f r).keeper = s.keeper ∧
    (State.completeCmd s f r).chs = s.chs ∧
    (State.completeCmd s f r).cellar = s.cellar ∧
    (State.completeCmd s f r).press = s.press ∧
    (State.completeCmd s f r).vault = s.vault ∧
    (State.completeCmd s f r).ctl = s.ctl ∧
    (State.completeCmd s f r).wd0 = s.wd0 ∧
    (State.completeCmd s f r).clk = s.clk ∧
    (State.completeCmd s f r).ident = s.ident ∧
    (State.completeCmd s f r).sealing = s.sealing ∧
    (State.completeCmd s f r).crypt = s.crypt ∧
    (State.completeCmd s f r).life = s.life ∧
    (State.completeCmd s f r).side = s.side ∧
    (State.completeCmd s f r).aux = s.aux ∧
    (State.completeCmd s f r).chan = s.chan ∧
    (State.completeCmd s f r).cfg = s.cfg ∧
    (State.completeCmd s f r).sticky = s.sticky ∧
    (State.completeCmd s f r).view = s.view ∧
    (State.completeCmd s f r).powered = s.powered ∧
    (State.completeCmd s f r).agt = s.agt ∧
    (State.completeCmd s f r).cask = s.cask := by
  have h := State.completeCmd_keeps s f r
  exact ⟨h .pending (by decide), h .time (by decide), h .freeCtr (by decide), h .regs (by decide), h .plat (by decide), h .keeper (by decide), h .chs (by decide), h .cellar (by decide), h .press (by decide), h .vault (by decide), h .ctl (by decide), h .wd0 (by decide), h .clk (by decide), h .ident (by decide), h .sealing (by decide), h .crypt (by decide), h .life (by decide), h .side (by decide), h .aux (by decide), State.chan_of (h .chs (by decide)), State.cfg_of (h .regs (by decide)), State.sticky_of (h .regs (by decide)), State.view_of (h .regs (by decide)), State.powered_of (h .plat (by decide)), State.agt_of (h .ctl (by decide)), State.cask_of (h .crypt (by decide))⟩

@[simp] theorem State.failSeg_rest (s : State) (g : Seg) (st : Status) :
    (State.failSeg s g st).pending = s.pending ∧
    (State.failSeg s g st).time = s.time ∧
    (State.failSeg s g st).freeCtr = s.freeCtr ∧
    (State.failSeg s g st).regs = s.regs ∧
    (State.failSeg s g st).plat = s.plat ∧
    (State.failSeg s g st).keeper = s.keeper ∧
    (State.failSeg s g st).chs = s.chs ∧
    (State.failSeg s g st).cellar = s.cellar ∧
    (State.failSeg s g st).press = s.press ∧
    (State.failSeg s g st).vault = s.vault ∧
    (State.failSeg s g st).ctl = s.ctl ∧
    (State.failSeg s g st).wd0 = s.wd0 ∧
    (State.failSeg s g st).clk = s.clk ∧
    (State.failSeg s g st).ident = s.ident ∧
    (State.failSeg s g st).crypt = s.crypt ∧
    (State.failSeg s g st).life = s.life ∧
    (State.failSeg s g st).side = s.side ∧
    (State.failSeg s g st).aux = s.aux ∧
    (State.failSeg s g st).chan = s.chan ∧
    (State.failSeg s g st).cfg = s.cfg ∧
    (State.failSeg s g st).sticky = s.sticky ∧
    (State.failSeg s g st).view = s.view ∧
    (State.failSeg s g st).powered = s.powered ∧
    (State.failSeg s g st).agt = s.agt ∧
    (State.failSeg s g st).cask = s.cask := by
  have h := State.failSeg_keeps s g st
  exact ⟨h .pending (by decide), h .time (by decide), h .freeCtr (by decide), h .regs (by decide), h .plat (by decide), h .keeper (by decide), h .chs (by decide), h .cellar (by decide), h .press (by decide), h .vault (by decide), h .ctl (by decide), h .wd0 (by decide), h .clk (by decide), h .ident (by decide), h .crypt (by decide), h .life (by decide), h .side (by decide), h .aux (by decide), State.chan_of (h .chs (by decide)), State.cfg_of (h .regs (by decide)), State.sticky_of (h .regs (by decide)), State.view_of (h .regs (by decide)), State.powered_of (h .plat (by decide)), State.agt_of (h .ctl (by decide)), State.cask_of (h .crypt (by decide))⟩

@[simp] theorem State.updPort_rest (s : State) (n : Ch) (f : Port → Port) :
    (State.updPort s n f).pending = s.pending ∧
    (State.updPort s n f).time = s.time ∧
    (State.updPort s n f).freeCtr = s.freeCtr ∧
    (State.updPort s n f).outbox = s.outbox ∧
    (State.updPort s n f).regs = s.regs ∧
    (State.updPort s n f).evt = s.evt ∧
    (State.updPort s n f).plat = s.plat ∧
    (State.updPort s n f).keeper = s.keeper ∧
    (State.updPort s n f).cellar = s.cellar ∧
    (State.updPort s n f).press = s.press ∧
    (State.updPort s n f).vault = s.vault ∧
    (State.updPort s n f).ctl = s.ctl ∧
    (State.updPort s n f).cntr = s.cntr ∧
    (State.updPort s n f).tlm = s.tlm ∧
    (State.updPort s n f).wd0 = s.wd0 ∧
    (State.updPort s n f).clk = s.clk ∧
    (State.updPort s n f).host = s.host ∧
    (State.updPort s n f).ident = s.ident ∧
    (State.updPort s n f).sealing = s.sealing ∧
    (State.updPort s n f).crypt = s.crypt ∧
    (State.updPort s n f).life = s.life ∧
    (State.updPort s n f).side = s.side ∧
    (State.updPort s n f).aux = s.aux ∧
    (State.updPort s n f).cfg = s.cfg ∧
    (State.updPort s n f).sticky = s.sticky ∧
    (State.updPort s n f).view = s.view ∧
    (State.updPort s n f).powered = s.powered ∧
    (State.updPort s n f).agt = s.agt ∧
    (State.updPort s n f).cask = s.cask := by
  have h := State.updPort_keeps s n f
  exact ⟨h .pending (by decide), h .time (by decide), h .freeCtr (by decide), h .outbox (by decide), h .regs (by decide), h .evt (by decide), h .plat (by decide), h .keeper (by decide), h .cellar (by decide), h .press (by decide), h .vault (by decide), h .ctl (by decide), h .cntr (by decide), h .tlm (by decide), h .wd0 (by decide), h .clk (by decide), h .host (by decide), h .ident (by decide), h .sealing (by decide), h .crypt (by decide), h .life (by decide), h .side (by decide), h .aux (by decide), State.cfg_of (h .regs (by decide)), State.sticky_of (h .regs (by decide)), State.view_of (h .regs (by decide)), State.powered_of (h .plat (by decide)), State.agt_of (h .ctl (by decide)), State.cask_of (h .crypt (by decide))⟩

@[simp] theorem State.cntNat_rest (s : State) (n : Nat) (code : Nat) (k : Nat) :
    (State.cntNat s n code k).pending = s.pending ∧
    (State.cntNat s n code k).time = s.time ∧
    (State.cntNat s n code k).freeCtr = s.freeCtr ∧
    (State.cntNat s n code k).outbox = s.outbox ∧
    (State.cntNat s n code k).regs = s.regs ∧
    (State.cntNat s n code k).plat = s.plat ∧
    (State.cntNat s n code k).keeper = s.keeper ∧
    (State.cntNat s n code k).chs = s.chs ∧
    (State.cntNat s n code k).cellar = s.cellar ∧
    (State.cntNat s n code k).press = s.press ∧
    (State.cntNat s n code k).vault = s.vault ∧
    (State.cntNat s n code k).ctl = s.ctl ∧
    (State.cntNat s n code k).tlm = s.tlm ∧
    (State.cntNat s n code k).wd0 = s.wd0 ∧
    (State.cntNat s n code k).clk = s.clk ∧
    (State.cntNat s n code k).host = s.host ∧
    (State.cntNat s n code k).ident = s.ident ∧
    (State.cntNat s n code k).sealing = s.sealing ∧
    (State.cntNat s n code k).crypt = s.crypt ∧
    (State.cntNat s n code k).life = s.life ∧
    (State.cntNat s n code k).side = s.side ∧
    (State.cntNat s n code k).aux = s.aux ∧
    (State.cntNat s n code k).chan = s.chan ∧
    (State.cntNat s n code k).cfg = s.cfg ∧
    (State.cntNat s n code k).sticky = s.sticky ∧
    (State.cntNat s n code k).view = s.view ∧
    (State.cntNat s n code k).powered = s.powered ∧
    (State.cntNat s n code k).agt = s.agt ∧
    (State.cntNat s n code k).cask = s.cask := by
  have h := State.cntNat_keeps s n code k
  exact ⟨h .pending (by decide), h .time (by decide), h .freeCtr (by decide), h .outbox (by decide), h .regs (by decide), h .plat (by decide), h .keeper (by decide), h .chs (by decide), h .cellar (by decide), h .press (by decide), h .vault (by decide), h .ctl (by decide), h .tlm (by decide), h .wd0 (by decide), h .clk (by decide), h .host (by decide), h .ident (by decide), h .sealing (by decide), h .crypt (by decide), h .life (by decide), h .side (by decide), h .aux (by decide), State.chan_of (h .chs (by decide)), State.cfg_of (h .regs (by decide)), State.sticky_of (h .regs (by decide)), State.view_of (h .regs (by decide)), State.powered_of (h .plat (by decide)), State.agt_of (h .ctl (by decide)), State.cask_of (h .crypt (by decide))⟩

@[simp] theorem State.cnt_rest (s : State) (n : Ch) (code : Nat) (k : Nat) :
    (State.cnt s n code k).pending = s.pending ∧
    (State.cnt s n code k).time = s.time ∧
    (State.cnt s n code k).freeCtr = s.freeCtr ∧
    (State.cnt s n code k).outbox = s.outbox ∧
    (State.cnt s n code k).regs = s.regs ∧
    (State.cnt s n code k).plat = s.plat ∧
    (State.cnt s n code k).keeper = s.keeper ∧
    (State.cnt s n code k).chs = s.chs ∧
    (State.cnt s n code k).cellar = s.cellar ∧
    (State.cnt s n code k).press = s.press ∧
    (State.cnt s n code k).vault = s.vault ∧
    (State.cnt s n code k).ctl = s.ctl ∧
    (State.cnt s n code k).tlm = s.tlm ∧
    (State.cnt s n code k).wd0 = s.wd0 ∧
    (State.cnt s n code k).clk = s.clk ∧
    (State.cnt s n code k).host = s.host ∧
    (State.cnt s n code k).ident = s.ident ∧
    (State.cnt s n code k).sealing = s.sealing ∧
    (State.cnt s n code k).crypt = s.crypt ∧
    (State.cnt s n code k).life = s.life ∧
    (State.cnt s n code k).side = s.side ∧
    (State.cnt s n code k).aux = s.aux ∧
    (State.cnt s n code k).chan = s.chan ∧
    (State.cnt s n code k).cfg = s.cfg ∧
    (State.cnt s n code k).sticky = s.sticky ∧
    (State.cnt s n code k).view = s.view ∧
    (State.cnt s n code k).powered = s.powered ∧
    (State.cnt s n code k).agt = s.agt ∧
    (State.cnt s n code k).cask = s.cask := by
  have h := State.cnt_keeps s n code k
  exact ⟨h .pending (by decide), h .time (by decide), h .freeCtr (by decide), h .outbox (by decide), h .regs (by decide), h .plat (by decide), h .keeper (by decide), h .chs (by decide), h .cellar (by decide), h .press (by decide), h .vault (by decide), h .ctl (by decide), h .tlm (by decide), h .wd0 (by decide), h .clk (by decide), h .host (by decide), h .ident (by decide), h .sealing (by decide), h .crypt (by decide), h .life (by decide), h .side (by decide), h .aux (by decide), State.chan_of (h .chs (by decide)), State.cfg_of (h .regs (by decide)), State.sticky_of (h .regs (by decide)), State.view_of (h .regs (by decide)), State.powered_of (h .plat (by decide)), State.agt_of (h .ctl (by decide)), State.cask_of (h .crypt (by decide))⟩

@[simp] theorem State.setCfg_rest (s : State) (key : Nat) (v : Word) :
    (State.setCfg s key v).pending = s.pending ∧
    (State.setCfg s key v).time = s.time ∧
    (State.setCfg s key v).freeCtr = s.freeCtr ∧
    (State.setCfg s key v).outbox = s.outbox ∧
    (State.setCfg s key v).evt = s.evt ∧
    (State.setCfg s key v).plat = s.plat ∧
    (State.setCfg s key v).keeper = s.keeper ∧
    (State.setCfg s key v).chs = s.chs ∧
    (State.setCfg s key v).cellar = s.cellar ∧
    (State.setCfg s key v).press = s.press ∧
    (State.setCfg s key v).vault = s.vault ∧
    (State.setCfg s key v).ctl = s.ctl ∧
    (State.setCfg s key v).cntr = s.cntr ∧
    (State.setCfg s key v).tlm = s.tlm ∧
    (State.setCfg s key v).wd0 = s.wd0 ∧
    (State.setCfg s key v).clk = s.clk ∧
    (State.setCfg s key v).host = s.host ∧
    (State.setCfg s key v).ident = s.ident ∧
    (State.setCfg s key v).sealing = s.sealing ∧
    (State.setCfg s key v).crypt = s.crypt ∧
    (State.setCfg s key v).life = s.life ∧
    (State.setCfg s key v).side = s.side ∧
    (State.setCfg s key v).aux = s.aux ∧
    (State.setCfg s key v).chan = s.chan ∧
    (State.setCfg s key v).powered = s.powered ∧
    (State.setCfg s key v).agt = s.agt ∧
    (State.setCfg s key v).cask = s.cask := by
  have h := State.setCfg_keeps s key v
  exact ⟨h .pending (by decide), h .time (by decide), h .freeCtr (by decide), h .outbox (by decide), h .evt (by decide), h .plat (by decide), h .keeper (by decide), h .chs (by decide), h .cellar (by decide), h .press (by decide), h .vault (by decide), h .ctl (by decide), h .cntr (by decide), h .tlm (by decide), h .wd0 (by decide), h .clk (by decide), h .host (by decide), h .ident (by decide), h .sealing (by decide), h .crypt (by decide), h .life (by decide), h .side (by decide), h .aux (by decide), State.chan_of (h .chs (by decide)), State.powered_of (h .plat (by decide)), State.agt_of (h .ctl (by decide)), State.cask_of (h .crypt (by decide))⟩

@[simp] theorem State.platChange_rest (s : State) :
    (State.platChange s).pending = s.pending ∧
    (State.platChange s).time = s.time ∧
    (State.platChange s).freeCtr = s.freeCtr ∧
    (State.platChange s).outbox = s.outbox ∧
    (State.platChange s).regs = s.regs ∧
    (State.platChange s).evt = s.evt ∧
    (State.platChange s).plat = s.plat ∧
    (State.platChange s).keeper = s.keeper ∧
    (State.platChange s).chs = s.chs ∧
    (State.platChange s).cellar = s.cellar ∧
    (State.platChange s).press = s.press ∧
    (State.platChange s).vault = s.vault ∧
    (State.platChange s).ctl = s.ctl ∧
    (State.platChange s).cntr = s.cntr ∧
    (State.platChange s).tlm = s.tlm ∧
    (State.platChange s).wd0 = s.wd0 ∧
    (State.platChange s).clk = s.clk ∧
    (State.platChange s).host = s.host ∧
    (State.platChange s).sealing = s.sealing ∧
    (State.platChange s).crypt = s.crypt ∧
    (State.platChange s).life = s.life ∧
    (State.platChange s).side = s.side ∧
    (State.platChange s).aux = s.aux ∧
    (State.platChange s).chan = s.chan ∧
    (State.platChange s).cfg = s.cfg ∧
    (State.platChange s).sticky = s.sticky ∧
    (State.platChange s).view = s.view ∧
    (State.platChange s).powered = s.powered ∧
    (State.platChange s).agt = s.agt ∧
    (State.platChange s).cask = s.cask := by
  have h := State.platChange_keeps s
  exact ⟨h .pending (by decide), h .time (by decide), h .freeCtr (by decide), h .outbox (by decide), h .regs (by decide), h .evt (by decide), h .plat (by decide), h .keeper (by decide), h .chs (by decide), h .cellar (by decide), h .press (by decide), h .vault (by decide), h .ctl (by decide), h .cntr (by decide), h .tlm (by decide), h .wd0 (by decide), h .clk (by decide), h .host (by decide), h .sealing (by decide), h .crypt (by decide), h .life (by decide), h .side (by decide), h .aux (by decide), State.chan_of (h .chs (by decide)), State.cfg_of (h .regs (by decide)), State.sticky_of (h .regs (by decide)), State.view_of (h .regs (by decide)), State.powered_of (h .plat (by decide)), State.agt_of (h .ctl (by decide)), State.cask_of (h .crypt (by decide))⟩

@[simp] theorem State.writeHeader_rest (s : State) :
    (State.writeHeader s).pending = s.pending ∧
    (State.writeHeader s).time = s.time ∧
    (State.writeHeader s).freeCtr = s.freeCtr ∧
    (State.writeHeader s).outbox = s.outbox ∧
    (State.writeHeader s).regs = s.regs ∧
    (State.writeHeader s).evt = s.evt ∧
    (State.writeHeader s).plat = s.plat ∧
    (State.writeHeader s).keeper = s.keeper ∧
    (State.writeHeader s).chs = s.chs ∧
    (State.writeHeader s).cellar = s.cellar ∧
    (State.writeHeader s).press = s.press ∧
    (State.writeHeader s).ctl = s.ctl ∧
    (State.writeHeader s).cntr = s.cntr ∧
    (State.writeHeader s).tlm = s.tlm ∧
    (State.writeHeader s).wd0 = s.wd0 ∧
    (State.writeHeader s).clk = s.clk ∧
    (State.writeHeader s).host = s.host ∧
    (State.writeHeader s).ident = s.ident ∧
    (State.writeHeader s).sealing = s.sealing ∧
    (State.writeHeader s).crypt = s.crypt ∧
    (State.writeHeader s).life = s.life ∧
    (State.writeHeader s).side = s.side ∧
    (State.writeHeader s).aux = s.aux ∧
    (State.writeHeader s).chan = s.chan ∧
    (State.writeHeader s).cfg = s.cfg ∧
    (State.writeHeader s).sticky = s.sticky ∧
    (State.writeHeader s).view = s.view ∧
    (State.writeHeader s).powered = s.powered ∧
    (State.writeHeader s).agt = s.agt ∧
    (State.writeHeader s).cask = s.cask := by
  have h := State.writeHeader_keeps s
  exact ⟨h .pending (by decide), h .time (by decide), h .freeCtr (by decide), h .outbox (by decide), h .regs (by decide), h .evt (by decide), h .plat (by decide), h .keeper (by decide), h .chs (by decide), h .cellar (by decide), h .press (by decide), h .ctl (by decide), h .cntr (by decide), h .tlm (by decide), h .wd0 (by decide), h .clk (by decide), h .host (by decide), h .ident (by decide), h .sealing (by decide), h .crypt (by decide), h .life (by decide), h .side (by decide), h .aux (by decide), State.chan_of (h .chs (by decide)), State.cfg_of (h .regs (by decide)), State.sticky_of (h .regs (by decide)), State.view_of (h .regs (by decide)), State.powered_of (h .plat (by decide)), State.agt_of (h .ctl (by decide)), State.cask_of (h .crypt (by decide))⟩

@[simp] theorem State.freeFrames_rest (s : State) (p : Frame → Bool) :
    (State.freeFrames s p).pending = s.pending ∧
    (State.freeFrames s p).time = s.time ∧
    (State.freeFrames s p).freeCtr = s.freeCtr ∧
    (State.freeFrames s p).outbox = s.outbox ∧
    (State.freeFrames s p).regs = s.regs ∧
    (State.freeFrames s p).evt = s.evt ∧
    (State.freeFrames s p).plat = s.plat ∧
    (State.freeFrames s p).keeper = s.keeper ∧
    (State.freeFrames s p).chs = s.chs ∧
    (State.freeFrames s p).press = s.press ∧
    (State.freeFrames s p).vault = s.vault ∧
    (State.freeFrames s p).ctl = s.ctl ∧
    (State.freeFrames s p).cntr = s.cntr ∧
    (State.freeFrames s p).tlm = s.tlm ∧
    (State.freeFrames s p).wd0 = s.wd0 ∧
    (State.freeFrames s p).clk = s.clk ∧
    (State.freeFrames s p).host = s.host ∧
    (State.freeFrames s p).ident = s.ident ∧
    (State.freeFrames s p).sealing = s.sealing ∧
    (State.freeFrames s p).crypt = s.crypt ∧
    (State.freeFrames s p).life = s.life ∧
    (State.freeFrames s p).side = s.side ∧
    (State.freeFrames s p).aux = s.aux ∧
    (State.freeFrames s p).chan = s.chan ∧
    (State.freeFrames s p).cfg = s.cfg ∧
    (State.freeFrames s p).sticky = s.sticky ∧
    (State.freeFrames s p).view = s.view ∧
    (State.freeFrames s p).powered = s.powered ∧
    (State.freeFrames s p).agt = s.agt ∧
    (State.freeFrames s p).cask = s.cask := by
  have h := State.freeFrames_keeps s p
  exact ⟨h .pending (by decide), h .time (by decide), h .freeCtr (by decide), h .outbox (by decide), h .regs (by decide), h .evt (by decide), h .plat (by decide), h .keeper (by decide), h .chs (by decide), h .press (by decide), h .vault (by decide), h .ctl (by decide), h .cntr (by decide), h .tlm (by decide), h .wd0 (by decide), h .clk (by decide), h .host (by decide), h .ident (by decide), h .sealing (by decide), h .crypt (by decide), h .life (by decide), h .side (by decide), h .aux (by decide), State.chan_of (h .chs (by decide)), State.cfg_of (h .regs (by decide)), State.sticky_of (h .regs (by decide)), State.view_of (h .regs (by decide)), State.powered_of (h .plat (by decide)), State.agt_of (h .ctl (by decide)), State.cask_of (h .crypt (by decide))⟩

@[simp] theorem State.freeChan_rest (s : State) (n : Ch) :
    (State.freeChan s n).pending = s.pending ∧
    (State.freeChan s n).time = s.time ∧
    (State.freeChan s n).freeCtr = s.freeCtr ∧
    (State.freeChan s n).outbox = s.outbox ∧
    (State.freeChan s n).regs = s.regs ∧
    (State.freeChan s n).evt = s.evt ∧
    (State.freeChan s n).plat = s.plat ∧
    (State.freeChan s n).keeper = s.keeper ∧
    (State.freeChan s n).chs = s.chs ∧
    (State.freeChan s n).press = s.press ∧
    (State.freeChan s n).vault = s.vault ∧
    (State.freeChan s n).ctl = s.ctl ∧
    (State.freeChan s n).cntr = s.cntr ∧
    (State.freeChan s n).tlm = s.tlm ∧
    (State.freeChan s n).wd0 = s.wd0 ∧
    (State.freeChan s n).clk = s.clk ∧
    (State.freeChan s n).host = s.host ∧
    (State.freeChan s n).ident = s.ident ∧
    (State.freeChan s n).sealing = s.sealing ∧
    (State.freeChan s n).crypt = s.crypt ∧
    (State.freeChan s n).life = s.life ∧
    (State.freeChan s n).side = s.side ∧
    (State.freeChan s n).aux = s.aux ∧
    (State.freeChan s n).chan = s.chan ∧
    (State.freeChan s n).cfg = s.cfg ∧
    (State.freeChan s n).sticky = s.sticky ∧
    (State.freeChan s n).view = s.view ∧
    (State.freeChan s n).powered = s.powered ∧
    (State.freeChan s n).agt = s.agt ∧
    (State.freeChan s n).cask = s.cask := by
  have h := State.freeChan_keeps s n
  exact ⟨h .pending (by decide), h .time (by decide), h .freeCtr (by decide), h .outbox (by decide), h .regs (by decide), h .evt (by decide), h .plat (by decide), h .keeper (by decide), h .chs (by decide), h .press (by decide), h .vault (by decide), h .ctl (by decide), h .cntr (by decide), h .tlm (by decide), h .wd0 (by decide), h .clk (by decide), h .host (by decide), h .ident (by decide), h .sealing (by decide), h .crypt (by decide), h .life (by decide), h .side (by decide), h .aux (by decide), State.chan_of (h .chs (by decide)), State.cfg_of (h .regs (by decide)), State.sticky_of (h .regs (by decide)), State.view_of (h .regs (by decide)), State.powered_of (h .plat (by decide)), State.agt_of (h .ctl (by decide)), State.cask_of (h .crypt (by decide))⟩

@[simp] theorem State.commitAct_rest (s : State) (n : Ch) (k : SlotId) :
    (State.commitAct s n k).pending = s.pending ∧
    (State.commitAct s n k).time = s.time ∧
    (State.commitAct s n k).freeCtr = s.freeCtr ∧
    (State.commitAct s n k).outbox = s.outbox ∧
    (State.commitAct s n k).evt = s.evt ∧
    (State.commitAct s n k).plat = s.plat ∧
    (State.commitAct s n k).keeper = s.keeper ∧
    (State.commitAct s n k).press = s.press ∧
    (State.commitAct s n k).ctl = s.ctl ∧
    (State.commitAct s n k).cntr = s.cntr ∧
    (State.commitAct s n k).tlm = s.tlm ∧
    (State.commitAct s n k).wd0 = s.wd0 ∧
    (State.commitAct s n k).clk = s.clk ∧
    (State.commitAct s n k).host = s.host ∧
    (State.commitAct s n k).sealing = s.sealing ∧
    (State.commitAct s n k).crypt = s.crypt ∧
    (State.commitAct s n k).life = s.life ∧
    (State.commitAct s n k).side = s.side ∧
    (State.commitAct s n k).aux = s.aux ∧
    (State.commitAct s n k).powered = s.powered ∧
    (State.commitAct s n k).agt = s.agt ∧
    (State.commitAct s n k).cask = s.cask := by
  have h := State.commitAct_keeps s n k
  exact ⟨h .pending (by decide), h .time (by decide), h .freeCtr (by decide), h .outbox (by decide), h .evt (by decide), h .plat (by decide), h .keeper (by decide), h .press (by decide), h .ctl (by decide), h .cntr (by decide), h .tlm (by decide), h .wd0 (by decide), h .clk (by decide), h .host (by decide), h .sealing (by decide), h .crypt (by decide), h .life (by decide), h .side (by decide), h .aux (by decide), State.powered_of (h .plat (by decide)), State.agt_of (h .ctl (by decide)), State.cask_of (h .crypt (by decide))⟩

@[simp] theorem State.intent_rest (s : State) (kind : Nat) (chan : Nat) (slot : Nat) (state : Nat) (step : Nat) (nsteps : Nat) (src : Nat) (dst : Nat) (arg : Nat) :
    (State.intent s kind chan slot state step nsteps src dst arg).pending = s.pending ∧
    (State.intent s kind chan slot state step nsteps src dst arg).time = s.time ∧
    (State.intent s kind chan slot state step nsteps src dst arg).freeCtr = s.freeCtr ∧
    (State.intent s kind chan slot state step nsteps src dst arg).outbox = s.outbox ∧
    (State.intent s kind chan slot state step nsteps src dst arg).regs = s.regs ∧
    (State.intent s kind chan slot state step nsteps src dst arg).evt = s.evt ∧
    (State.intent s kind chan slot state step nsteps src dst arg).plat = s.plat ∧
    (State.intent s kind chan slot state step nsteps src dst arg).keeper = s.keeper ∧
    (State.intent s kind chan slot state step nsteps src dst arg).chs = s.chs ∧
    (State.intent s kind chan slot state step nsteps src dst arg).cellar = s.cellar ∧
    (State.intent s kind chan slot state step nsteps src dst arg).press = s.press ∧
    (State.intent s kind chan slot state step nsteps src dst arg).ctl = s.ctl ∧
    (State.intent s kind chan slot state step nsteps src dst arg).cntr = s.cntr ∧
    (State.intent s kind chan slot state step nsteps src dst arg).tlm = s.tlm ∧
    (State.intent s kind chan slot state step nsteps src dst arg).wd0 = s.wd0 ∧
    (State.intent s kind chan slot state step nsteps src dst arg).clk = s.clk ∧
    (State.intent s kind chan slot state step nsteps src dst arg).host = s.host ∧
    (State.intent s kind chan slot state step nsteps src dst arg).ident = s.ident ∧
    (State.intent s kind chan slot state step nsteps src dst arg).sealing = s.sealing ∧
    (State.intent s kind chan slot state step nsteps src dst arg).crypt = s.crypt ∧
    (State.intent s kind chan slot state step nsteps src dst arg).life = s.life ∧
    (State.intent s kind chan slot state step nsteps src dst arg).side = s.side ∧
    (State.intent s kind chan slot state step nsteps src dst arg).aux = s.aux ∧
    (State.intent s kind chan slot state step nsteps src dst arg).chan = s.chan ∧
    (State.intent s kind chan slot state step nsteps src dst arg).cfg = s.cfg ∧
    (State.intent s kind chan slot state step nsteps src dst arg).sticky = s.sticky ∧
    (State.intent s kind chan slot state step nsteps src dst arg).view = s.view ∧
    (State.intent s kind chan slot state step nsteps src dst arg).powered = s.powered ∧
    (State.intent s kind chan slot state step nsteps src dst arg).agt = s.agt ∧
    (State.intent s kind chan slot state step nsteps src dst arg).cask = s.cask := by
  have h := State.intent_keeps s kind chan slot state step nsteps src dst arg
  exact ⟨h .pending (by decide), h .time (by decide), h .freeCtr (by decide), h .outbox (by decide), h .regs (by decide), h .evt (by decide), h .plat (by decide), h .keeper (by decide), h .chs (by decide), h .cellar (by decide), h .press (by decide), h .ctl (by decide), h .cntr (by decide), h .tlm (by decide), h .wd0 (by decide), h .clk (by decide), h .host (by decide), h .ident (by decide), h .sealing (by decide), h .crypt (by decide), h .life (by decide), h .side (by decide), h .aux (by decide), State.chan_of (h .chs (by decide)), State.cfg_of (h .regs (by decide)), State.sticky_of (h .regs (by decide)), State.view_of (h .regs (by decide)), State.powered_of (h .plat (by decide)), State.agt_of (h .ctl (by decide)), State.cask_of (h .crypt (by decide))⟩

@[simp] theorem State.pkuRun_rest (s : State) :
    (State.pkuRun s).1.pending = s.pending ∧
    (State.pkuRun s).1.time = s.time ∧
    (State.pkuRun s).1.freeCtr = s.freeCtr ∧
    (State.pkuRun s).1.outbox = s.outbox ∧
    (State.pkuRun s).1.regs = s.regs ∧
    (State.pkuRun s).1.plat = s.plat ∧
    (State.pkuRun s).1.keeper = s.keeper ∧
    (State.pkuRun s).1.chs = s.chs ∧
    (State.pkuRun s).1.cellar = s.cellar ∧
    (State.pkuRun s).1.press = s.press ∧
    (State.pkuRun s).1.vault = s.vault ∧
    (State.pkuRun s).1.ctl = s.ctl ∧
    (State.pkuRun s).1.cntr = s.cntr ∧
    (State.pkuRun s).1.tlm = s.tlm ∧
    (State.pkuRun s).1.wd0 = s.wd0 ∧
    (State.pkuRun s).1.clk = s.clk ∧
    (State.pkuRun s).1.host = s.host ∧
    (State.pkuRun s).1.ident = s.ident ∧
    (State.pkuRun s).1.sealing = s.sealing ∧
    (State.pkuRun s).1.life = s.life ∧
    (State.pkuRun s).1.side = s.side ∧
    (State.pkuRun s).1.aux = s.aux ∧
    (State.pkuRun s).1.chan = s.chan ∧
    (State.pkuRun s).1.cfg = s.cfg ∧
    (State.pkuRun s).1.sticky = s.sticky ∧
    (State.pkuRun s).1.view = s.view ∧
    (State.pkuRun s).1.powered = s.powered ∧
    (State.pkuRun s).1.agt = s.agt := by
  have h := State.pkuRun_keeps s
  exact ⟨h .pending (by decide), h .time (by decide), h .freeCtr (by decide), h .outbox (by decide), h .regs (by decide), h .plat (by decide), h .keeper (by decide), h .chs (by decide), h .cellar (by decide), h .press (by decide), h .vault (by decide), h .ctl (by decide), h .cntr (by decide), h .tlm (by decide), h .wd0 (by decide), h .clk (by decide), h .host (by decide), h .ident (by decide), h .sealing (by decide), h .life (by decide), h .side (by decide), h .aux (by decide), State.chan_of (h .chs (by decide)), State.cfg_of (h .regs (by decide)), State.sticky_of (h .regs (by decide)), State.view_of (h .regs (by decide)), State.powered_of (h .plat (by decide)), State.agt_of (h .ctl (by decide))⟩

@[simp] theorem State.activateRefused_rest (s : State) (channel : Nat) (slot : Nat) :
    (State.activateRefused s channel slot).pending = s.pending ∧
    (State.activateRefused s channel slot).time = s.time ∧
    (State.activateRefused s channel slot).freeCtr = s.freeCtr ∧
    (State.activateRefused s channel slot).outbox = s.outbox ∧
    (State.activateRefused s channel slot).regs = s.regs ∧
    (State.activateRefused s channel slot).plat = s.plat ∧
    (State.activateRefused s channel slot).keeper = s.keeper ∧
    (State.activateRefused s channel slot).chs = s.chs ∧
    (State.activateRefused s channel slot).cellar = s.cellar ∧
    (State.activateRefused s channel slot).press = s.press ∧
    (State.activateRefused s channel slot).vault = s.vault ∧
    (State.activateRefused s channel slot).ctl = s.ctl ∧
    (State.activateRefused s channel slot).cntr = s.cntr ∧
    (State.activateRefused s channel slot).tlm = s.tlm ∧
    (State.activateRefused s channel slot).wd0 = s.wd0 ∧
    (State.activateRefused s channel slot).clk = s.clk ∧
    (State.activateRefused s channel slot).host = s.host ∧
    (State.activateRefused s channel slot).ident = s.ident ∧
    (State.activateRefused s channel slot).sealing = s.sealing ∧
    (State.activateRefused s channel slot).crypt = s.crypt ∧
    (State.activateRefused s channel slot).life = s.life ∧
    (State.activateRefused s channel slot).side = s.side ∧
    (State.activateRefused s channel slot).aux = s.aux ∧
    (State.activateRefused s channel slot).chan = s.chan ∧
    (State.activateRefused s channel slot).cfg = s.cfg ∧
    (State.activateRefused s channel slot).sticky = s.sticky ∧
    (State.activateRefused s channel slot).view = s.view ∧
    (State.activateRefused s channel slot).powered = s.powered ∧
    (State.activateRefused s channel slot).agt = s.agt ∧
    (State.activateRefused s channel slot).cask = s.cask := by
  have h := State.activateRefused_keeps s channel slot
  exact ⟨h .pending (by decide), h .time (by decide), h .freeCtr (by decide), h .outbox (by decide), h .regs (by decide), h .plat (by decide), h .keeper (by decide), h .chs (by decide), h .cellar (by decide), h .press (by decide), h .vault (by decide), h .ctl (by decide), h .cntr (by decide), h .tlm (by decide), h .wd0 (by decide), h .clk (by decide), h .host (by decide), h .ident (by decide), h .sealing (by decide), h .crypt (by decide), h .life (by decide), h .side (by decide), h .aux (by decide), State.chan_of (h .chs (by decide)), State.cfg_of (h .regs (by decide)), State.sticky_of (h .regs (by decide)), State.view_of (h .regs (by decide)), State.powered_of (h .plat (by decide)), State.agt_of (h .ctl (by decide)), State.cask_of (h .crypt (by decide))⟩

@[simp] theorem State.activateReply_rest (s : State) (channel : Nat) (slot : Nat) (flipNow : Nat) (m : Manifest) :
    (State.activateReply s channel slot flipNow m).1.pending = s.pending ∧
    (State.activateReply s channel slot flipNow m).1.time = s.time ∧
    (State.activateReply s channel slot flipNow m).1.freeCtr = s.freeCtr ∧
    (State.activateReply s channel slot flipNow m).1.outbox = s.outbox ∧
    (State.activateReply s channel slot flipNow m).1.regs = s.regs ∧
    (State.activateReply s channel slot flipNow m).1.plat = s.plat ∧
    (State.activateReply s channel slot flipNow m).1.keeper = s.keeper ∧
    (State.activateReply s channel slot flipNow m).1.cellar = s.cellar ∧
    (State.activateReply s channel slot flipNow m).1.press = s.press ∧
    (State.activateReply s channel slot flipNow m).1.vault = s.vault ∧
    (State.activateReply s channel slot flipNow m).1.ctl = s.ctl ∧
    (State.activateReply s channel slot flipNow m).1.cntr = s.cntr ∧
    (State.activateReply s channel slot flipNow m).1.tlm = s.tlm ∧
    (State.activateReply s channel slot flipNow m).1.wd0 = s.wd0 ∧
    (State.activateReply s channel slot flipNow m).1.clk = s.clk ∧
    (State.activateReply s channel slot flipNow m).1.host = s.host ∧
    (State.activateReply s channel slot flipNow m).1.ident = s.ident ∧
    (State.activateReply s channel slot flipNow m).1.sealing = s.sealing ∧
    (State.activateReply s channel slot flipNow m).1.life = s.life ∧
    (State.activateReply s channel slot flipNow m).1.side = s.side ∧
    (State.activateReply s channel slot flipNow m).1.aux = s.aux ∧
    (State.activateReply s channel slot flipNow m).1.cfg = s.cfg ∧
    (State.activateReply s channel slot flipNow m).1.sticky = s.sticky ∧
    (State.activateReply s channel slot flipNow m).1.view = s.view ∧
    (State.activateReply s channel slot flipNow m).1.powered = s.powered ∧
    (State.activateReply s channel slot flipNow m).1.agt = s.agt := by
  have h := State.activateReply_keeps s channel slot flipNow m
  exact ⟨h .pending (by decide), h .time (by decide), h .freeCtr (by decide), h .outbox (by decide), h .regs (by decide), h .plat (by decide), h .keeper (by decide), h .cellar (by decide), h .press (by decide), h .vault (by decide), h .ctl (by decide), h .cntr (by decide), h .tlm (by decide), h .wd0 (by decide), h .clk (by decide), h .host (by decide), h .ident (by decide), h .sealing (by decide), h .life (by decide), h .side (by decide), h .aux (by decide), State.cfg_of (h .regs (by decide)), State.sticky_of (h .regs (by decide)), State.view_of (h .regs (by decide)), State.powered_of (h .plat (by decide)), State.agt_of (h .ctl (by decide))⟩

@[simp] theorem State.applyActs_rest (s : State) (n : Ch) :
    (State.applyActs s n).pending = s.pending ∧
    (State.applyActs s n).time = s.time ∧
    (State.applyActs s n).freeCtr = s.freeCtr ∧
    (State.applyActs s n).outbox = s.outbox ∧
    (State.applyActs s n).plat = s.plat ∧
    (State.applyActs s n).keeper = s.keeper ∧
    (State.applyActs s n).press = s.press ∧
    (State.applyActs s n).ctl = s.ctl ∧
    (State.applyActs s n).cntr = s.cntr ∧
    (State.applyActs s n).tlm = s.tlm ∧
    (State.applyActs s n).wd0 = s.wd0 ∧
    (State.applyActs s n).clk = s.clk ∧
    (State.applyActs s n).host = s.host ∧
    (State.applyActs s n).sealing = s.sealing ∧
    (State.applyActs s n).crypt = s.crypt ∧
    (State.applyActs s n).life = s.life ∧
    (State.applyActs s n).side = s.side ∧
    (State.applyActs s n).aux = s.aux ∧
    (State.applyActs s n).powered = s.powered ∧
    (State.applyActs s n).agt = s.agt ∧
    (State.applyActs s n).cask = s.cask := by
  have h := State.applyActs_keeps s n
  exact ⟨h .pending (by decide), h .time (by decide), h .freeCtr (by decide), h .outbox (by decide), h .plat (by decide), h .keeper (by decide), h .press (by decide), h .ctl (by decide), h .cntr (by decide), h .tlm (by decide), h .wd0 (by decide), h .clk (by decide), h .host (by decide), h .sealing (by decide), h .crypt (by decide), h .life (by decide), h .side (by decide), h .aux (by decide), State.powered_of (h .plat (by decide)), State.agt_of (h .ctl (by decide)), State.cask_of (h .crypt (by decide))⟩

@[simp] theorem State.updAgt_rest (s : State) (n : Ch) (f : AgentCtl → AgentCtl) :
    (State.updAgt s n f).pending = s.pending ∧
    (State.updAgt s n f).time = s.time ∧
    (State.updAgt s n f).freeCtr = s.freeCtr ∧
    (State.updAgt s n f).outbox = s.outbox ∧
    (State.updAgt s n f).regs = s.regs ∧
    (State.updAgt s n f).evt = s.evt ∧
    (State.updAgt s n f).plat = s.plat ∧
    (State.updAgt s n f).keeper = s.keeper ∧
    (State.updAgt s n f).chs = s.chs ∧
    (State.updAgt s n f).cellar = s.cellar ∧
    (State.updAgt s n f).press = s.press ∧
    (State.updAgt s n f).vault = s.vault ∧
    (State.updAgt s n f).cntr = s.cntr ∧
    (State.updAgt s n f).tlm = s.tlm ∧
    (State.updAgt s n f).wd0 = s.wd0 ∧
    (State.updAgt s n f).clk = s.clk ∧
    (State.updAgt s n f).host = s.host ∧
    (State.updAgt s n f).ident = s.ident ∧
    (State.updAgt s n f).sealing = s.sealing ∧
    (State.updAgt s n f).crypt = s.crypt ∧
    (State.updAgt s n f).life = s.life ∧
    (State.updAgt s n f).side = s.side ∧
    (State.updAgt s n f).aux = s.aux ∧
    (State.updAgt s n f).chan = s.chan ∧
    (State.updAgt s n f).cfg = s.cfg ∧
    (State.updAgt s n f).sticky = s.sticky ∧
    (State.updAgt s n f).view = s.view ∧
    (State.updAgt s n f).powered = s.powered ∧
    (State.updAgt s n f).cask = s.cask := by
  have h := State.updAgt_keeps s n f
  exact ⟨h .pending (by decide), h .time (by decide), h .freeCtr (by decide), h .outbox (by decide), h .regs (by decide), h .evt (by decide), h .plat (by decide), h .keeper (by decide), h .chs (by decide), h .cellar (by decide), h .press (by decide), h .vault (by decide), h .cntr (by decide), h .tlm (by decide), h .wd0 (by decide), h .clk (by decide), h .host (by decide), h .ident (by decide), h .sealing (by decide), h .crypt (by decide), h .life (by decide), h .side (by decide), h .aux (by decide), State.chan_of (h .chs (by decide)), State.cfg_of (h .regs (by decide)), State.sticky_of (h .regs (by decide)), State.view_of (h .regs (by decide)), State.powered_of (h .plat (by decide)), State.cask_of (h .crypt (by decide))⟩

@[simp] theorem State.noteSet_rest (s : State) (n : Ch) :
    (State.noteSet s n).pending = s.pending ∧
    (State.noteSet s n).time = s.time ∧
    (State.noteSet s n).freeCtr = s.freeCtr ∧
    (State.noteSet s n).outbox = s.outbox ∧
    (State.noteSet s n).regs = s.regs ∧
    (State.noteSet s n).plat = s.plat ∧
    (State.noteSet s n).keeper = s.keeper ∧
    (State.noteSet s n).cellar = s.cellar ∧
    (State.noteSet s n).press = s.press ∧
    (State.noteSet s n).vault = s.vault ∧
    (State.noteSet s n).ctl = s.ctl ∧
    (State.noteSet s n).cntr = s.cntr ∧
    (State.noteSet s n).tlm = s.tlm ∧
    (State.noteSet s n).wd0 = s.wd0 ∧
    (State.noteSet s n).clk = s.clk ∧
    (State.noteSet s n).host = s.host ∧
    (State.noteSet s n).ident = s.ident ∧
    (State.noteSet s n).sealing = s.sealing ∧
    (State.noteSet s n).crypt = s.crypt ∧
    (State.noteSet s n).life = s.life ∧
    (State.noteSet s n).side = s.side ∧
    (State.noteSet s n).aux = s.aux ∧
    (State.noteSet s n).cfg = s.cfg ∧
    (State.noteSet s n).sticky = s.sticky ∧
    (State.noteSet s n).view = s.view ∧
    (State.noteSet s n).powered = s.powered ∧
    (State.noteSet s n).agt = s.agt ∧
    (State.noteSet s n).cask = s.cask := by
  have h := State.noteSet_keeps s n
  exact ⟨h .pending (by decide), h .time (by decide), h .freeCtr (by decide), h .outbox (by decide), h .regs (by decide), h .plat (by decide), h .keeper (by decide), h .cellar (by decide), h .press (by decide), h .vault (by decide), h .ctl (by decide), h .cntr (by decide), h .tlm (by decide), h .wd0 (by decide), h .clk (by decide), h .host (by decide), h .ident (by decide), h .sealing (by decide), h .crypt (by decide), h .life (by decide), h .side (by decide), h .aux (by decide), State.cfg_of (h .regs (by decide)), State.sticky_of (h .regs (by decide)), State.view_of (h .regs (by decide)), State.powered_of (h .plat (by decide)), State.agt_of (h .ctl (by decide)), State.cask_of (h .crypt (by decide))⟩

@[simp] theorem State.writeLast_rest (s : State) :
    (State.writeLast s).pending = s.pending ∧
    (State.writeLast s).time = s.time ∧
    (State.writeLast s).outbox = s.outbox ∧
    (State.writeLast s).regs = s.regs ∧
    (State.writeLast s).evt = s.evt ∧
    (State.writeLast s).plat = s.plat ∧
    (State.writeLast s).chs = s.chs ∧
    (State.writeLast s).cellar = s.cellar ∧
    (State.writeLast s).press = s.press ∧
    (State.writeLast s).vault = s.vault ∧
    (State.writeLast s).ctl = s.ctl ∧
    (State.writeLast s).cntr = s.cntr ∧
    (State.writeLast s).tlm = s.tlm ∧
    (State.writeLast s).wd0 = s.wd0 ∧
    (State.writeLast s).clk = s.clk ∧
    (State.writeLast s).host = s.host ∧
    (State.writeLast s).ident = s.ident ∧
    (State.writeLast s).sealing = s.sealing ∧
    (State.writeLast s).crypt = s.crypt ∧
    (State.writeLast s).life = s.life ∧
    (State.writeLast s).side = s.side ∧
    (State.writeLast s).aux = s.aux ∧
    (State.writeLast s).chan = s.chan ∧
    (State.writeLast s).cfg = s.cfg ∧
    (State.writeLast s).sticky = s.sticky ∧
    (State.writeLast s).view = s.view ∧
    (State.writeLast s).powered = s.powered ∧
    (State.writeLast s).agt = s.agt ∧
    (State.writeLast s).cask = s.cask := by
  have h := State.writeLast_keeps s
  exact ⟨h .pending (by decide), h .time (by decide), h .outbox (by decide), h .regs (by decide), h .evt (by decide), h .plat (by decide), h .chs (by decide), h .cellar (by decide), h .press (by decide), h .vault (by decide), h .ctl (by decide), h .cntr (by decide), h .tlm (by decide), h .wd0 (by decide), h .clk (by decide), h .host (by decide), h .ident (by decide), h .sealing (by decide), h .crypt (by decide), h .life (by decide), h .side (by decide), h .aux (by decide), State.chan_of (h .chs (by decide)), State.cfg_of (h .regs (by decide)), State.sticky_of (h .regs (by decide)), State.view_of (h .regs (by decide)), State.powered_of (h .plat (by decide)), State.agt_of (h .ctl (by decide)), State.cask_of (h .crypt (by decide))⟩

@[simp] theorem State.setAgent_rest (s : State) (n : Ch) (a : AgentSt) :
    (State.setAgent s n a).pending = s.pending ∧
    (State.setAgent s n a).time = s.time ∧
    (State.setAgent s n a).outbox = s.outbox ∧
    (State.setAgent s n a).regs = s.regs ∧
    (State.setAgent s n a).plat = s.plat ∧
    (State.setAgent s n a).cellar = s.cellar ∧
    (State.setAgent s n a).press = s.press ∧
    (State.setAgent s n a).vault = s.vault ∧
    (State.setAgent s n a).ctl = s.ctl ∧
    (State.setAgent s n a).cntr = s.cntr ∧
    (State.setAgent s n a).tlm = s.tlm ∧
    (State.setAgent s n a).wd0 = s.wd0 ∧
    (State.setAgent s n a).clk = s.clk ∧
    (State.setAgent s n a).host = s.host ∧
    (State.setAgent s n a).ident = s.ident ∧
    (State.setAgent s n a).sealing = s.sealing ∧
    (State.setAgent s n a).crypt = s.crypt ∧
    (State.setAgent s n a).life = s.life ∧
    (State.setAgent s n a).side = s.side ∧
    (State.setAgent s n a).aux = s.aux ∧
    (State.setAgent s n a).cfg = s.cfg ∧
    (State.setAgent s n a).sticky = s.sticky ∧
    (State.setAgent s n a).view = s.view ∧
    (State.setAgent s n a).powered = s.powered ∧
    (State.setAgent s n a).agt = s.agt ∧
    (State.setAgent s n a).cask = s.cask := by
  have h := State.setAgent_keeps s n a
  exact ⟨h .pending (by decide), h .time (by decide), h .outbox (by decide), h .regs (by decide), h .plat (by decide), h .cellar (by decide), h .press (by decide), h .vault (by decide), h .ctl (by decide), h .cntr (by decide), h .tlm (by decide), h .wd0 (by decide), h .clk (by decide), h .host (by decide), h .ident (by decide), h .sealing (by decide), h .crypt (by decide), h .life (by decide), h .side (by decide), h .aux (by decide), State.cfg_of (h .regs (by decide)), State.sticky_of (h .regs (by decide)), State.view_of (h .regs (by decide)), State.powered_of (h .plat (by decide)), State.agt_of (h .ctl (by decide)), State.cask_of (h .crypt (by decide))⟩

@[simp] theorem State.startDecant_rest (s : State) (n : Ch) :
    (State.startDecant s n).pending = s.pending ∧
    (State.startDecant s n).time = s.time ∧
    (State.startDecant s n).outbox = s.outbox ∧
    (State.startDecant s n).regs = s.regs ∧
    (State.startDecant s n).plat = s.plat ∧
    (State.startDecant s n).cellar = s.cellar ∧
    (State.startDecant s n).press = s.press ∧
    (State.startDecant s n).vault = s.vault ∧
    (State.startDecant s n).cntr = s.cntr ∧
    (State.startDecant s n).tlm = s.tlm ∧
    (State.startDecant s n).wd0 = s.wd0 ∧
    (State.startDecant s n).clk = s.clk ∧
    (State.startDecant s n).host = s.host ∧
    (State.startDecant s n).ident = s.ident ∧
    (State.startDecant s n).sealing = s.sealing ∧
    (State.startDecant s n).crypt = s.crypt ∧
    (State.startDecant s n).life = s.life ∧
    (State.startDecant s n).side = s.side ∧
    (State.startDecant s n).aux = s.aux ∧
    (State.startDecant s n).cfg = s.cfg ∧
    (State.startDecant s n).sticky = s.sticky ∧
    (State.startDecant s n).view = s.view ∧
    (State.startDecant s n).powered = s.powered ∧
    (State.startDecant s n).cask = s.cask := by
  have h := State.startDecant_keeps s n
  exact ⟨h .pending (by decide), h .time (by decide), h .outbox (by decide), h .regs (by decide), h .plat (by decide), h .cellar (by decide), h .press (by decide), h .vault (by decide), h .cntr (by decide), h .tlm (by decide), h .wd0 (by decide), h .clk (by decide), h .host (by decide), h .ident (by decide), h .sealing (by decide), h .crypt (by decide), h .life (by decide), h .side (by decide), h .aux (by decide), State.cfg_of (h .regs (by decide)), State.sticky_of (h .regs (by decide)), State.view_of (h .regs (by decide)), State.powered_of (h .plat (by decide)), State.cask_of (h .crypt (by decide))⟩

@[simp] theorem State.decantNew_rest (s : State) (n : Ch) :
    (State.decantNew s n).pending = s.pending ∧
    (State.decantNew s n).time = s.time ∧
    (State.decantNew s n).outbox = s.outbox ∧
    (State.decantNew s n).regs = s.regs ∧
    (State.decantNew s n).plat = s.plat ∧
    (State.decantNew s n).cellar = s.cellar ∧
    (State.decantNew s n).press = s.press ∧
    (State.decantNew s n).vault = s.vault ∧
    (State.decantNew s n).cntr = s.cntr ∧
    (State.decantNew s n).tlm = s.tlm ∧
    (State.decantNew s n).wd0 = s.wd0 ∧
    (State.decantNew s n).clk = s.clk ∧
    (State.decantNew s n).host = s.host ∧
    (State.decantNew s n).ident = s.ident ∧
    (State.decantNew s n).sealing = s.sealing ∧
    (State.decantNew s n).crypt = s.crypt ∧
    (State.decantNew s n).life = s.life ∧
    (State.decantNew s n).side = s.side ∧
    (State.decantNew s n).aux = s.aux ∧
    (State.decantNew s n).cfg = s.cfg ∧
    (State.decantNew s n).sticky = s.sticky ∧
    (State.decantNew s n).view = s.view ∧
    (State.decantNew s n).powered = s.powered ∧
    (State.decantNew s n).cask = s.cask := by
  have h := State.decantNew_keeps s n
  exact ⟨h .pending (by decide), h .time (by decide), h .outbox (by decide), h .regs (by decide), h .plat (by decide), h .cellar (by decide), h .press (by decide), h .vault (by decide), h .cntr (by decide), h .tlm (by decide), h .wd0 (by decide), h .clk (by decide), h .host (by decide), h .ident (by decide), h .sealing (by decide), h .crypt (by decide), h .life (by decide), h .side (by decide), h .aux (by decide), State.cfg_of (h .regs (by decide)), State.sticky_of (h .regs (by decide)), State.view_of (h .regs (by decide)), State.powered_of (h .plat (by decide)), State.cask_of (h .crypt (by decide))⟩

@[simp] theorem State.addRepair_rest (s : State) (n : Ch) (k : SlotId) (copy : Nat) (metaPg : Bool) (i : Nat) (f : Repair → Repair) :
    (State.addRepair s n k copy metaPg i f).pending = s.pending ∧
    (State.addRepair s n k copy metaPg i f).time = s.time ∧
    (State.addRepair s n k copy metaPg i f).freeCtr = s.freeCtr ∧
    (State.addRepair s n k copy metaPg i f).outbox = s.outbox ∧
    (State.addRepair s n k copy metaPg i f).regs = s.regs ∧
    (State.addRepair s n k copy metaPg i f).evt = s.evt ∧
    (State.addRepair s n k copy metaPg i f).plat = s.plat ∧
    (State.addRepair s n k copy metaPg i f).keeper = s.keeper ∧
    (State.addRepair s n k copy metaPg i f).cellar = s.cellar ∧
    (State.addRepair s n k copy metaPg i f).press = s.press ∧
    (State.addRepair s n k copy metaPg i f).vault = s.vault ∧
    (State.addRepair s n k copy metaPg i f).ctl = s.ctl ∧
    (State.addRepair s n k copy metaPg i f).cntr = s.cntr ∧
    (State.addRepair s n k copy metaPg i f).tlm = s.tlm ∧
    (State.addRepair s n k copy metaPg i f).wd0 = s.wd0 ∧
    (State.addRepair s n k copy metaPg i f).clk = s.clk ∧
    (State.addRepair s n k copy metaPg i f).host = s.host ∧
    (State.addRepair s n k copy metaPg i f).ident = s.ident ∧
    (State.addRepair s n k copy metaPg i f).sealing = s.sealing ∧
    (State.addRepair s n k copy metaPg i f).crypt = s.crypt ∧
    (State.addRepair s n k copy metaPg i f).life = s.life ∧
    (State.addRepair s n k copy metaPg i f).side = s.side ∧
    (State.addRepair s n k copy metaPg i f).aux = s.aux ∧
    (State.addRepair s n k copy metaPg i f).cfg = s.cfg ∧
    (State.addRepair s n k copy metaPg i f).sticky = s.sticky ∧
    (State.addRepair s n k copy metaPg i f).view = s.view ∧
    (State.addRepair s n k copy metaPg i f).powered = s.powered ∧
    (State.addRepair s n k copy metaPg i f).agt = s.agt ∧
    (State.addRepair s n k copy metaPg i f).cask = s.cask := by
  have h := State.addRepair_keeps s n k copy metaPg i f
  exact ⟨h .pending (by decide), h .time (by decide), h .freeCtr (by decide), h .outbox (by decide), h .regs (by decide), h .evt (by decide), h .plat (by decide), h .keeper (by decide), h .cellar (by decide), h .press (by decide), h .vault (by decide), h .ctl (by decide), h .cntr (by decide), h .tlm (by decide), h .wd0 (by decide), h .clk (by decide), h .host (by decide), h .ident (by decide), h .sealing (by decide), h .crypt (by decide), h .life (by decide), h .side (by decide), h .aux (by decide), State.cfg_of (h .regs (by decide)), State.sticky_of (h .regs (by decide)), State.view_of (h .regs (by decide)), State.powered_of (h .plat (by decide)), State.agt_of (h .ctl (by decide)), State.cask_of (h .crypt (by decide))⟩

@[simp] theorem State.setView_rest (s : State) (q : Req) (v : ReqView) :
    (State.setView s q v).pending = s.pending ∧
    (State.setView s q v).time = s.time ∧
    (State.setView s q v).freeCtr = s.freeCtr ∧
    (State.setView s q v).outbox = s.outbox ∧
    (State.setView s q v).evt = s.evt ∧
    (State.setView s q v).plat = s.plat ∧
    (State.setView s q v).keeper = s.keeper ∧
    (State.setView s q v).chs = s.chs ∧
    (State.setView s q v).cellar = s.cellar ∧
    (State.setView s q v).press = s.press ∧
    (State.setView s q v).vault = s.vault ∧
    (State.setView s q v).ctl = s.ctl ∧
    (State.setView s q v).cntr = s.cntr ∧
    (State.setView s q v).tlm = s.tlm ∧
    (State.setView s q v).wd0 = s.wd0 ∧
    (State.setView s q v).clk = s.clk ∧
    (State.setView s q v).host = s.host ∧
    (State.setView s q v).ident = s.ident ∧
    (State.setView s q v).sealing = s.sealing ∧
    (State.setView s q v).crypt = s.crypt ∧
    (State.setView s q v).life = s.life ∧
    (State.setView s q v).side = s.side ∧
    (State.setView s q v).aux = s.aux ∧
    (State.setView s q v).chan = s.chan ∧
    (State.setView s q v).powered = s.powered ∧
    (State.setView s q v).agt = s.agt ∧
    (State.setView s q v).cask = s.cask := by
  have h := State.setView_keeps s q v
  exact ⟨h .pending (by decide), h .time (by decide), h .freeCtr (by decide), h .outbox (by decide), h .evt (by decide), h .plat (by decide), h .keeper (by decide), h .chs (by decide), h .cellar (by decide), h .press (by decide), h .vault (by decide), h .ctl (by decide), h .cntr (by decide), h .tlm (by decide), h .wd0 (by decide), h .clk (by decide), h .host (by decide), h .ident (by decide), h .sealing (by decide), h .crypt (by decide), h .life (by decide), h .side (by decide), h .aux (by decide), State.chan_of (h .chs (by decide)), State.powered_of (h .plat (by decide)), State.agt_of (h .ctl (by decide)), State.cask_of (h .crypt (by decide))⟩

@[simp] theorem State.addSample_rest (s : State) (q : Req) (key : Nat) (stride : Nat) (ws : List Word) :
    (State.addSample s q key stride ws).pending = s.pending ∧
    (State.addSample s q key stride ws).time = s.time ∧
    (State.addSample s q key stride ws).freeCtr = s.freeCtr ∧
    (State.addSample s q key stride ws).outbox = s.outbox ∧
    (State.addSample s q key stride ws).evt = s.evt ∧
    (State.addSample s q key stride ws).plat = s.plat ∧
    (State.addSample s q key stride ws).keeper = s.keeper ∧
    (State.addSample s q key stride ws).chs = s.chs ∧
    (State.addSample s q key stride ws).cellar = s.cellar ∧
    (State.addSample s q key stride ws).press = s.press ∧
    (State.addSample s q key stride ws).vault = s.vault ∧
    (State.addSample s q key stride ws).ctl = s.ctl ∧
    (State.addSample s q key stride ws).cntr = s.cntr ∧
    (State.addSample s q key stride ws).tlm = s.tlm ∧
    (State.addSample s q key stride ws).wd0 = s.wd0 ∧
    (State.addSample s q key stride ws).clk = s.clk ∧
    (State.addSample s q key stride ws).host = s.host ∧
    (State.addSample s q key stride ws).ident = s.ident ∧
    (State.addSample s q key stride ws).sealing = s.sealing ∧
    (State.addSample s q key stride ws).crypt = s.crypt ∧
    (State.addSample s q key stride ws).life = s.life ∧
    (State.addSample s q key stride ws).side = s.side ∧
    (State.addSample s q key stride ws).aux = s.aux ∧
    (State.addSample s q key stride ws).chan = s.chan ∧
    (State.addSample s q key stride ws).powered = s.powered ∧
    (State.addSample s q key stride ws).agt = s.agt ∧
    (State.addSample s q key stride ws).cask = s.cask := by
  have h := State.addSample_keeps s q key stride ws
  exact ⟨h .pending (by decide), h .time (by decide), h .freeCtr (by decide), h .outbox (by decide), h .evt (by decide), h .plat (by decide), h .keeper (by decide), h .chs (by decide), h .cellar (by decide), h .press (by decide), h .vault (by decide), h .ctl (by decide), h .cntr (by decide), h .tlm (by decide), h .wd0 (by decide), h .clk (by decide), h .host (by decide), h .ident (by decide), h .sealing (by decide), h .crypt (by decide), h .life (by decide), h .side (by decide), h .aux (by decide), State.chan_of (h .chs (by decide)), State.powered_of (h .plat (by decide)), State.agt_of (h .ctl (by decide)), State.cask_of (h .crypt (by decide))⟩

@[simp] theorem State.clearRefs_rest (s : State) (passed : List Nat) :
    (State.clearRefs s passed).pending = s.pending ∧
    (State.clearRefs s passed).time = s.time ∧
    (State.clearRefs s passed).freeCtr = s.freeCtr ∧
    (State.clearRefs s passed).outbox = s.outbox ∧
    (State.clearRefs s passed).regs = s.regs ∧
    (State.clearRefs s passed).evt = s.evt ∧
    (State.clearRefs s passed).plat = s.plat ∧
    (State.clearRefs s passed).keeper = s.keeper ∧
    (State.clearRefs s passed).chs = s.chs ∧
    (State.clearRefs s passed).press = s.press ∧
    (State.clearRefs s passed).vault = s.vault ∧
    (State.clearRefs s passed).ctl = s.ctl ∧
    (State.clearRefs s passed).cntr = s.cntr ∧
    (State.clearRefs s passed).tlm = s.tlm ∧
    (State.clearRefs s passed).wd0 = s.wd0 ∧
    (State.clearRefs s passed).clk = s.clk ∧
    (State.clearRefs s passed).host = s.host ∧
    (State.clearRefs s passed).ident = s.ident ∧
    (State.clearRefs s passed).sealing = s.sealing ∧
    (State.clearRefs s passed).crypt = s.crypt ∧
    (State.clearRefs s passed).life = s.life ∧
    (State.clearRefs s passed).side = s.side ∧
    (State.clearRefs s passed).aux = s.aux ∧
    (State.clearRefs s passed).chan = s.chan ∧
    (State.clearRefs s passed).cfg = s.cfg ∧
    (State.clearRefs s passed).sticky = s.sticky ∧
    (State.clearRefs s passed).view = s.view ∧
    (State.clearRefs s passed).powered = s.powered ∧
    (State.clearRefs s passed).agt = s.agt ∧
    (State.clearRefs s passed).cask = s.cask := by
  have h := State.clearRefs_keeps s passed
  exact ⟨h .pending (by decide), h .time (by decide), h .freeCtr (by decide), h .outbox (by decide), h .regs (by decide), h .evt (by decide), h .plat (by decide), h .keeper (by decide), h .chs (by decide), h .press (by decide), h .vault (by decide), h .ctl (by decide), h .cntr (by decide), h .tlm (by decide), h .wd0 (by decide), h .clk (by decide), h .host (by decide), h .ident (by decide), h .sealing (by decide), h .crypt (by decide), h .life (by decide), h .side (by decide), h .aux (by decide), State.chan_of (h .chs (by decide)), State.cfg_of (h .regs (by decide)), State.sticky_of (h .regs (by decide)), State.view_of (h .regs (by decide)), State.powered_of (h .plat (by decide)), State.agt_of (h .ctl (by decide)), State.cask_of (h .crypt (by decide))⟩

@[simp] theorem State.evict_rest (s : State) (ch : Nat) :
    (State.evict s ch).pending = s.pending ∧
    (State.evict s ch).time = s.time ∧
    (State.evict s ch).freeCtr = s.freeCtr ∧
    (State.evict s ch).outbox = s.outbox ∧
    (State.evict s ch).regs = s.regs ∧
    (State.evict s ch).plat = s.plat ∧
    (State.evict s ch).keeper = s.keeper ∧
    (State.evict s ch).chs = s.chs ∧
    (State.evict s ch).press = s.press ∧
    (State.evict s ch).vault = s.vault ∧
    (State.evict s ch).ctl = s.ctl ∧
    (State.evict s ch).tlm = s.tlm ∧
    (State.evict s ch).wd0 = s.wd0 ∧
    (State.evict s ch).clk = s.clk ∧
    (State.evict s ch).host = s.host ∧
    (State.evict s ch).ident = s.ident ∧
    (State.evict s ch).sealing = s.sealing ∧
    (State.evict s ch).crypt = s.crypt ∧
    (State.evict s ch).life = s.life ∧
    (State.evict s ch).side = s.side ∧
    (State.evict s ch).aux = s.aux ∧
    (State.evict s ch).chan = s.chan ∧
    (State.evict s ch).cfg = s.cfg ∧
    (State.evict s ch).sticky = s.sticky ∧
    (State.evict s ch).view = s.view ∧
    (State.evict s ch).powered = s.powered ∧
    (State.evict s ch).agt = s.agt ∧
    (State.evict s ch).cask = s.cask := by
  have h := State.evict_keeps s ch
  exact ⟨h .pending (by decide), h .time (by decide), h .freeCtr (by decide), h .outbox (by decide), h .regs (by decide), h .plat (by decide), h .keeper (by decide), h .chs (by decide), h .press (by decide), h .vault (by decide), h .ctl (by decide), h .tlm (by decide), h .wd0 (by decide), h .clk (by decide), h .host (by decide), h .ident (by decide), h .sealing (by decide), h .crypt (by decide), h .life (by decide), h .side (by decide), h .aux (by decide), State.chan_of (h .chs (by decide)), State.cfg_of (h .regs (by decide)), State.sticky_of (h .regs (by decide)), State.view_of (h .regs (by decide)), State.powered_of (h .plat (by decide)), State.agt_of (h .ctl (by decide)), State.cask_of (h .crypt (by decide))⟩

@[simp] theorem State.admitData_rest (s : State) (n : Ch) (anyway : Bool) (f : Frame) :
    (State.admitData s n anyway f).1.pending = s.pending ∧
    (State.admitData s n anyway f).1.time = s.time ∧
    (State.admitData s n anyway f).1.freeCtr = s.freeCtr ∧
    (State.admitData s n anyway f).1.outbox = s.outbox ∧
    (State.admitData s n anyway f).1.regs = s.regs ∧
    (State.admitData s n anyway f).1.plat = s.plat ∧
    (State.admitData s n anyway f).1.keeper = s.keeper ∧
    (State.admitData s n anyway f).1.chs = s.chs ∧
    (State.admitData s n anyway f).1.press = s.press ∧
    (State.admitData s n anyway f).1.vault = s.vault ∧
    (State.admitData s n anyway f).1.ctl = s.ctl ∧
    (State.admitData s n anyway f).1.tlm = s.tlm ∧
    (State.admitData s n anyway f).1.wd0 = s.wd0 ∧
    (State.admitData s n anyway f).1.clk = s.clk ∧
    (State.admitData s n anyway f).1.host = s.host ∧
    (State.admitData s n anyway f).1.ident = s.ident ∧
    (State.admitData s n anyway f).1.sealing = s.sealing ∧
    (State.admitData s n anyway f).1.crypt = s.crypt ∧
    (State.admitData s n anyway f).1.life = s.life ∧
    (State.admitData s n anyway f).1.side = s.side ∧
    (State.admitData s n anyway f).1.aux = s.aux ∧
    (State.admitData s n anyway f).1.chan = s.chan ∧
    (State.admitData s n anyway f).1.cfg = s.cfg ∧
    (State.admitData s n anyway f).1.sticky = s.sticky ∧
    (State.admitData s n anyway f).1.view = s.view ∧
    (State.admitData s n anyway f).1.powered = s.powered ∧
    (State.admitData s n anyway f).1.agt = s.agt ∧
    (State.admitData s n anyway f).1.cask = s.cask := by
  have h := State.admitData_keeps s n anyway f
  exact ⟨h .pending (by decide), h .time (by decide), h .freeCtr (by decide), h .outbox (by decide), h .regs (by decide), h .plat (by decide), h .keeper (by decide), h .chs (by decide), h .press (by decide), h .vault (by decide), h .ctl (by decide), h .tlm (by decide), h .wd0 (by decide), h .clk (by decide), h .host (by decide), h .ident (by decide), h .sealing (by decide), h .crypt (by decide), h .life (by decide), h .side (by decide), h .aux (by decide), State.chan_of (h .chs (by decide)), State.cfg_of (h .regs (by decide)), State.sticky_of (h .regs (by decide)), State.view_of (h .regs (by decide)), State.powered_of (h .plat (by decide)), State.agt_of (h .ctl (by decide)), State.cask_of (h .crypt (by decide))⟩

@[simp] theorem State.admitNode_rest (s : State) (f : Frame) :
    (State.admitNode s f).pending = s.pending ∧
    (State.admitNode s f).time = s.time ∧
    (State.admitNode s f).freeCtr = s.freeCtr ∧
    (State.admitNode s f).outbox = s.outbox ∧
    (State.admitNode s f).regs = s.regs ∧
    (State.admitNode s f).plat = s.plat ∧
    (State.admitNode s f).keeper = s.keeper ∧
    (State.admitNode s f).chs = s.chs ∧
    (State.admitNode s f).press = s.press ∧
    (State.admitNode s f).vault = s.vault ∧
    (State.admitNode s f).ctl = s.ctl ∧
    (State.admitNode s f).tlm = s.tlm ∧
    (State.admitNode s f).wd0 = s.wd0 ∧
    (State.admitNode s f).clk = s.clk ∧
    (State.admitNode s f).host = s.host ∧
    (State.admitNode s f).ident = s.ident ∧
    (State.admitNode s f).sealing = s.sealing ∧
    (State.admitNode s f).crypt = s.crypt ∧
    (State.admitNode s f).life = s.life ∧
    (State.admitNode s f).side = s.side ∧
    (State.admitNode s f).aux = s.aux ∧
    (State.admitNode s f).chan = s.chan ∧
    (State.admitNode s f).cfg = s.cfg ∧
    (State.admitNode s f).sticky = s.sticky ∧
    (State.admitNode s f).view = s.view ∧
    (State.admitNode s f).powered = s.powered ∧
    (State.admitNode s f).agt = s.agt ∧
    (State.admitNode s f).cask = s.cask := by
  have h := State.admitNode_keeps s f
  exact ⟨h .pending (by decide), h .time (by decide), h .freeCtr (by decide), h .outbox (by decide), h .regs (by decide), h .plat (by decide), h .keeper (by decide), h .chs (by decide), h .press (by decide), h .vault (by decide), h .ctl (by decide), h .tlm (by decide), h .wd0 (by decide), h .clk (by decide), h .host (by decide), h .ident (by decide), h .sealing (by decide), h .crypt (by decide), h .life (by decide), h .side (by decide), h .aux (by decide), State.chan_of (h .chs (by decide)), State.cfg_of (h .regs (by decide)), State.sticky_of (h .regs (by decide)), State.view_of (h .regs (by decide)), State.powered_of (h .plat (by decide)), State.agt_of (h .ctl (by decide)), State.cask_of (h .crypt (by decide))⟩

@[simp] theorem State.bumpFree_rest (s : State) :
    (State.bumpFree s).pending = s.pending ∧
    (State.bumpFree s).time = s.time ∧
    (State.bumpFree s).outbox = s.outbox ∧
    (State.bumpFree s).regs = s.regs ∧
    (State.bumpFree s).evt = s.evt ∧
    (State.bumpFree s).plat = s.plat ∧
    (State.bumpFree s).keeper = s.keeper ∧
    (State.bumpFree s).chs = s.chs ∧
    (State.bumpFree s).cellar = s.cellar ∧
    (State.bumpFree s).press = s.press ∧
    (State.bumpFree s).vault = s.vault ∧
    (State.bumpFree s).ctl = s.ctl ∧
    (State.bumpFree s).cntr = s.cntr ∧
    (State.bumpFree s).tlm = s.tlm ∧
    (State.bumpFree s).wd0 = s.wd0 ∧
    (State.bumpFree s).clk = s.clk ∧
    (State.bumpFree s).host = s.host ∧
    (State.bumpFree s).ident = s.ident ∧
    (State.bumpFree s).sealing = s.sealing ∧
    (State.bumpFree s).crypt = s.crypt ∧
    (State.bumpFree s).life = s.life ∧
    (State.bumpFree s).side = s.side ∧
    (State.bumpFree s).aux = s.aux ∧
    (State.bumpFree s).chan = s.chan ∧
    (State.bumpFree s).cfg = s.cfg ∧
    (State.bumpFree s).sticky = s.sticky ∧
    (State.bumpFree s).view = s.view ∧
    (State.bumpFree s).powered = s.powered ∧
    (State.bumpFree s).agt = s.agt ∧
    (State.bumpFree s).cask = s.cask := by
  have h := State.bumpFree_keeps s
  exact ⟨h .pending (by decide), h .time (by decide), h .outbox (by decide), h .regs (by decide), h .evt (by decide), h .plat (by decide), h .keeper (by decide), h .chs (by decide), h .cellar (by decide), h .press (by decide), h .vault (by decide), h .ctl (by decide), h .cntr (by decide), h .tlm (by decide), h .wd0 (by decide), h .clk (by decide), h .host (by decide), h .ident (by decide), h .sealing (by decide), h .crypt (by decide), h .life (by decide), h .side (by decide), h .aux (by decide), State.chan_of (h .chs (by decide)), State.cfg_of (h .regs (by decide)), State.sticky_of (h .regs (by decide)), State.view_of (h .regs (by decide)), State.powered_of (h .plat (by decide)), State.agt_of (h .ctl (by decide)), State.cask_of (h .crypt (by decide))⟩

@[simp] theorem State.setOwn_rest (s : State) (q : Req) (off : Nat) (v : Word) :
    (State.setOwn s q off v).pending = s.pending ∧
    (State.setOwn s q off v).time = s.time ∧
    (State.setOwn s q off v).freeCtr = s.freeCtr ∧
    (State.setOwn s q off v).outbox = s.outbox ∧
    (State.setOwn s q off v).evt = s.evt ∧
    (State.setOwn s q off v).plat = s.plat ∧
    (State.setOwn s q off v).keeper = s.keeper ∧
    (State.setOwn s q off v).chs = s.chs ∧
    (State.setOwn s q off v).cellar = s.cellar ∧
    (State.setOwn s q off v).press = s.press ∧
    (State.setOwn s q off v).vault = s.vault ∧
    (State.setOwn s q off v).ctl = s.ctl ∧
    (State.setOwn s q off v).cntr = s.cntr ∧
    (State.setOwn s q off v).tlm = s.tlm ∧
    (State.setOwn s q off v).wd0 = s.wd0 ∧
    (State.setOwn s q off v).clk = s.clk ∧
    (State.setOwn s q off v).host = s.host ∧
    (State.setOwn s q off v).ident = s.ident ∧
    (State.setOwn s q off v).sealing = s.sealing ∧
    (State.setOwn s q off v).crypt = s.crypt ∧
    (State.setOwn s q off v).life = s.life ∧
    (State.setOwn s q off v).side = s.side ∧
    (State.setOwn s q off v).aux = s.aux ∧
    (State.setOwn s q off v).chan = s.chan ∧
    (State.setOwn s q off v).powered = s.powered ∧
    (State.setOwn s q off v).agt = s.agt ∧
    (State.setOwn s q off v).cask = s.cask := by
  have h := State.setOwn_keeps s q off v
  exact ⟨h .pending (by decide), h .time (by decide), h .freeCtr (by decide), h .outbox (by decide), h .evt (by decide), h .plat (by decide), h .keeper (by decide), h .chs (by decide), h .cellar (by decide), h .press (by decide), h .vault (by decide), h .ctl (by decide), h .cntr (by decide), h .tlm (by decide), h .wd0 (by decide), h .clk (by decide), h .host (by decide), h .ident (by decide), h .sealing (by decide), h .crypt (by decide), h .life (by decide), h .side (by decide), h .aux (by decide), State.chan_of (h .chs (by decide)), State.powered_of (h .plat (by decide)), State.agt_of (h .ctl (by decide)), State.cask_of (h .crypt (by decide))⟩

@[simp] theorem State.autoInc_rest (s : State) (q : Req) (off : Nat) (autoBit : Nat) (wrap : Nat) :
    (State.autoInc s q off autoBit wrap).pending = s.pending ∧
    (State.autoInc s q off autoBit wrap).time = s.time ∧
    (State.autoInc s q off autoBit wrap).freeCtr = s.freeCtr ∧
    (State.autoInc s q off autoBit wrap).outbox = s.outbox ∧
    (State.autoInc s q off autoBit wrap).evt = s.evt ∧
    (State.autoInc s q off autoBit wrap).plat = s.plat ∧
    (State.autoInc s q off autoBit wrap).keeper = s.keeper ∧
    (State.autoInc s q off autoBit wrap).chs = s.chs ∧
    (State.autoInc s q off autoBit wrap).cellar = s.cellar ∧
    (State.autoInc s q off autoBit wrap).press = s.press ∧
    (State.autoInc s q off autoBit wrap).vault = s.vault ∧
    (State.autoInc s q off autoBit wrap).ctl = s.ctl ∧
    (State.autoInc s q off autoBit wrap).cntr = s.cntr ∧
    (State.autoInc s q off autoBit wrap).tlm = s.tlm ∧
    (State.autoInc s q off autoBit wrap).wd0 = s.wd0 ∧
    (State.autoInc s q off autoBit wrap).clk = s.clk ∧
    (State.autoInc s q off autoBit wrap).host = s.host ∧
    (State.autoInc s q off autoBit wrap).ident = s.ident ∧
    (State.autoInc s q off autoBit wrap).sealing = s.sealing ∧
    (State.autoInc s q off autoBit wrap).crypt = s.crypt ∧
    (State.autoInc s q off autoBit wrap).life = s.life ∧
    (State.autoInc s q off autoBit wrap).side = s.side ∧
    (State.autoInc s q off autoBit wrap).aux = s.aux ∧
    (State.autoInc s q off autoBit wrap).chan = s.chan ∧
    (State.autoInc s q off autoBit wrap).powered = s.powered ∧
    (State.autoInc s q off autoBit wrap).agt = s.agt ∧
    (State.autoInc s q off autoBit wrap).cask = s.cask := by
  have h := State.autoInc_keeps s q off autoBit wrap
  exact ⟨h .pending (by decide), h .time (by decide), h .freeCtr (by decide), h .outbox (by decide), h .evt (by decide), h .plat (by decide), h .keeper (by decide), h .chs (by decide), h .cellar (by decide), h .press (by decide), h .vault (by decide), h .ctl (by decide), h .cntr (by decide), h .tlm (by decide), h .wd0 (by decide), h .clk (by decide), h .host (by decide), h .ident (by decide), h .sealing (by decide), h .crypt (by decide), h .life (by decide), h .side (by decide), h .aux (by decide), State.chan_of (h .chs (by decide)), State.powered_of (h .plat (by decide)), State.agt_of (h .ctl (by decide)), State.cask_of (h .crypt (by decide))⟩

@[simp] theorem State.moveIndex_rest (s : State) (q : Req) (off : Nat) :
    (State.moveIndex s q off).pending = s.pending ∧
    (State.moveIndex s q off).time = s.time ∧
    (State.moveIndex s q off).freeCtr = s.freeCtr ∧
    (State.moveIndex s q off).outbox = s.outbox ∧
    (State.moveIndex s q off).evt = s.evt ∧
    (State.moveIndex s q off).plat = s.plat ∧
    (State.moveIndex s q off).keeper = s.keeper ∧
    (State.moveIndex s q off).chs = s.chs ∧
    (State.moveIndex s q off).cellar = s.cellar ∧
    (State.moveIndex s q off).press = s.press ∧
    (State.moveIndex s q off).vault = s.vault ∧
    (State.moveIndex s q off).ctl = s.ctl ∧
    (State.moveIndex s q off).cntr = s.cntr ∧
    (State.moveIndex s q off).tlm = s.tlm ∧
    (State.moveIndex s q off).wd0 = s.wd0 ∧
    (State.moveIndex s q off).clk = s.clk ∧
    (State.moveIndex s q off).host = s.host ∧
    (State.moveIndex s q off).ident = s.ident ∧
    (State.moveIndex s q off).sealing = s.sealing ∧
    (State.moveIndex s q off).crypt = s.crypt ∧
    (State.moveIndex s q off).life = s.life ∧
    (State.moveIndex s q off).side = s.side ∧
    (State.moveIndex s q off).aux = s.aux ∧
    (State.moveIndex s q off).chan = s.chan ∧
    (State.moveIndex s q off).powered = s.powered ∧
    (State.moveIndex s q off).agt = s.agt ∧
    (State.moveIndex s q off).cask = s.cask := by
  have h := State.moveIndex_keeps s q off
  exact ⟨h .pending (by decide), h .time (by decide), h .freeCtr (by decide), h .outbox (by decide), h .evt (by decide), h .plat (by decide), h .keeper (by decide), h .chs (by decide), h .cellar (by decide), h .press (by decide), h .vault (by decide), h .ctl (by decide), h .cntr (by decide), h .tlm (by decide), h .wd0 (by decide), h .clk (by decide), h .host (by decide), h .ident (by decide), h .sealing (by decide), h .crypt (by decide), h .life (by decide), h .side (by decide), h .aux (by decide), State.chan_of (h .chs (by decide)), State.powered_of (h .plat (by decide)), State.agt_of (h .ctl (by decide)), State.cask_of (h .crypt (by decide))⟩

@[simp] theorem State.afterRead_rest (s : State) (q : Req) (off : Nat) :
    (State.afterRead s q off).pending = s.pending ∧
    (State.afterRead s q off).time = s.time ∧
    (State.afterRead s q off).outbox = s.outbox ∧
    (State.afterRead s q off).evt = s.evt ∧
    (State.afterRead s q off).plat = s.plat ∧
    (State.afterRead s q off).keeper = s.keeper ∧
    (State.afterRead s q off).chs = s.chs ∧
    (State.afterRead s q off).cellar = s.cellar ∧
    (State.afterRead s q off).press = s.press ∧
    (State.afterRead s q off).vault = s.vault ∧
    (State.afterRead s q off).ctl = s.ctl ∧
    (State.afterRead s q off).cntr = s.cntr ∧
    (State.afterRead s q off).tlm = s.tlm ∧
    (State.afterRead s q off).wd0 = s.wd0 ∧
    (State.afterRead s q off).clk = s.clk ∧
    (State.afterRead s q off).host = s.host ∧
    (State.afterRead s q off).ident = s.ident ∧
    (State.afterRead s q off).sealing = s.sealing ∧
    (State.afterRead s q off).crypt = s.crypt ∧
    (State.afterRead s q off).life = s.life ∧
    (State.afterRead s q off).side = s.side ∧
    (State.afterRead s q off).aux = s.aux ∧
    (State.afterRead s q off).chan = s.chan ∧
    (State.afterRead s q off).powered = s.powered ∧
    (State.afterRead s q off).agt = s.agt ∧
    (State.afterRead s q off).cask = s.cask := by
  have h := State.afterRead_keeps s q off
  exact ⟨h .pending (by decide), h .time (by decide), h .outbox (by decide), h .evt (by decide), h .plat (by decide), h .keeper (by decide), h .chs (by decide), h .cellar (by decide), h .press (by decide), h .vault (by decide), h .ctl (by decide), h .cntr (by decide), h .tlm (by decide), h .wd0 (by decide), h .clk (by decide), h .host (by decide), h .ident (by decide), h .sealing (by decide), h .crypt (by decide), h .life (by decide), h .side (by decide), h .aux (by decide), State.chan_of (h .chs (by decide)), State.powered_of (h .plat (by decide)), State.agt_of (h .ctl (by decide)), State.cask_of (h .crypt (by decide))⟩

@[simp] theorem State.recomputeHitOnly_rest (s : State) (n : Ch) :
    (State.recomputeHitOnly s n).pending = s.pending ∧
    (State.recomputeHitOnly s n).time = s.time ∧
    (State.recomputeHitOnly s n).freeCtr = s.freeCtr ∧
    (State.recomputeHitOnly s n).outbox = s.outbox ∧
    (State.recomputeHitOnly s n).regs = s.regs ∧
    (State.recomputeHitOnly s n).plat = s.plat ∧
    (State.recomputeHitOnly s n).keeper = s.keeper ∧
    (State.recomputeHitOnly s n).cellar = s.cellar ∧
    (State.recomputeHitOnly s n).press = s.press ∧
    (State.recomputeHitOnly s n).vault = s.vault ∧
    (State.recomputeHitOnly s n).ctl = s.ctl ∧
    (State.recomputeHitOnly s n).cntr = s.cntr ∧
    (State.recomputeHitOnly s n).tlm = s.tlm ∧
    (State.recomputeHitOnly s n).wd0 = s.wd0 ∧
    (State.recomputeHitOnly s n).clk = s.clk ∧
    (State.recomputeHitOnly s n).host = s.host ∧
    (State.recomputeHitOnly s n).ident = s.ident ∧
    (State.recomputeHitOnly s n).sealing = s.sealing ∧
    (State.recomputeHitOnly s n).crypt = s.crypt ∧
    (State.recomputeHitOnly s n).life = s.life ∧
    (State.recomputeHitOnly s n).side = s.side ∧
    (State.recomputeHitOnly s n).aux = s.aux ∧
    (State.recomputeHitOnly s n).cfg = s.cfg ∧
    (State.recomputeHitOnly s n).sticky = s.sticky ∧
    (State.recomputeHitOnly s n).view = s.view ∧
    (State.recomputeHitOnly s n).powered = s.powered ∧
    (State.recomputeHitOnly s n).agt = s.agt ∧
    (State.recomputeHitOnly s n).cask = s.cask := by
  have h := State.recomputeHitOnly_keeps s n
  exact ⟨h .pending (by decide), h .time (by decide), h .freeCtr (by decide), h .outbox (by decide), h .regs (by decide), h .plat (by decide), h .keeper (by decide), h .cellar (by decide), h .press (by decide), h .vault (by decide), h .ctl (by decide), h .cntr (by decide), h .tlm (by decide), h .wd0 (by decide), h .clk (by decide), h .host (by decide), h .ident (by decide), h .sealing (by decide), h .crypt (by decide), h .life (by decide), h .side (by decide), h .aux (by decide), State.cfg_of (h .regs (by decide)), State.sticky_of (h .regs (by decide)), State.view_of (h .regs (by decide)), State.powered_of (h .plat (by decide)), State.agt_of (h .ctl (by decide)), State.cask_of (h .crypt (by decide))⟩

@[simp] theorem State.buildSfdp_rest (s : State) (n : Ch) (words : Store) :
    (State.buildSfdp s n words).pending = s.pending ∧
    (State.buildSfdp s n words).time = s.time ∧
    (State.buildSfdp s n words).freeCtr = s.freeCtr ∧
    (State.buildSfdp s n words).outbox = s.outbox ∧
    (State.buildSfdp s n words).regs = s.regs ∧
    (State.buildSfdp s n words).evt = s.evt ∧
    (State.buildSfdp s n words).plat = s.plat ∧
    (State.buildSfdp s n words).keeper = s.keeper ∧
    (State.buildSfdp s n words).cellar = s.cellar ∧
    (State.buildSfdp s n words).press = s.press ∧
    (State.buildSfdp s n words).vault = s.vault ∧
    (State.buildSfdp s n words).ctl = s.ctl ∧
    (State.buildSfdp s n words).cntr = s.cntr ∧
    (State.buildSfdp s n words).tlm = s.tlm ∧
    (State.buildSfdp s n words).wd0 = s.wd0 ∧
    (State.buildSfdp s n words).clk = s.clk ∧
    (State.buildSfdp s n words).host = s.host ∧
    (State.buildSfdp s n words).ident = s.ident ∧
    (State.buildSfdp s n words).sealing = s.sealing ∧
    (State.buildSfdp s n words).crypt = s.crypt ∧
    (State.buildSfdp s n words).life = s.life ∧
    (State.buildSfdp s n words).side = s.side ∧
    (State.buildSfdp s n words).aux = s.aux ∧
    (State.buildSfdp s n words).cfg = s.cfg ∧
    (State.buildSfdp s n words).sticky = s.sticky ∧
    (State.buildSfdp s n words).view = s.view ∧
    (State.buildSfdp s n words).powered = s.powered ∧
    (State.buildSfdp s n words).agt = s.agt ∧
    (State.buildSfdp s n words).cask = s.cask := by
  have h := State.buildSfdp_keeps s n words
  exact ⟨h .pending (by decide), h .time (by decide), h .freeCtr (by decide), h .outbox (by decide), h .regs (by decide), h .evt (by decide), h .plat (by decide), h .keeper (by decide), h .cellar (by decide), h .press (by decide), h .vault (by decide), h .ctl (by decide), h .cntr (by decide), h .tlm (by decide), h .wd0 (by decide), h .clk (by decide), h .host (by decide), h .ident (by decide), h .sealing (by decide), h .crypt (by decide), h .life (by decide), h .side (by decide), h .aux (by decide), State.cfg_of (h .regs (by decide)), State.sticky_of (h .regs (by decide)), State.view_of (h .regs (by decide)), State.powered_of (h .plat (by decide)), State.agt_of (h .ctl (by decide)), State.cask_of (h .crypt (by decide))⟩

@[simp] theorem State.afterTraining_rest (s : State) (n : Ch) :
    (State.afterTraining s n).pending = s.pending ∧
    (State.afterTraining s n).time = s.time ∧
    (State.afterTraining s n).freeCtr = s.freeCtr ∧
    (State.afterTraining s n).outbox = s.outbox ∧
    (State.afterTraining s n).regs = s.regs ∧
    (State.afterTraining s n).plat = s.plat ∧
    (State.afterTraining s n).keeper = s.keeper ∧
    (State.afterTraining s n).cellar = s.cellar ∧
    (State.afterTraining s n).press = s.press ∧
    (State.afterTraining s n).vault = s.vault ∧
    (State.afterTraining s n).ctl = s.ctl ∧
    (State.afterTraining s n).cntr = s.cntr ∧
    (State.afterTraining s n).tlm = s.tlm ∧
    (State.afterTraining s n).wd0 = s.wd0 ∧
    (State.afterTraining s n).clk = s.clk ∧
    (State.afterTraining s n).host = s.host ∧
    (State.afterTraining s n).ident = s.ident ∧
    (State.afterTraining s n).sealing = s.sealing ∧
    (State.afterTraining s n).crypt = s.crypt ∧
    (State.afterTraining s n).life = s.life ∧
    (State.afterTraining s n).side = s.side ∧
    (State.afterTraining s n).aux = s.aux ∧
    (State.afterTraining s n).cfg = s.cfg ∧
    (State.afterTraining s n).sticky = s.sticky ∧
    (State.afterTraining s n).view = s.view ∧
    (State.afterTraining s n).powered = s.powered ∧
    (State.afterTraining s n).agt = s.agt ∧
    (State.afterTraining s n).cask = s.cask := by
  have h := State.afterTraining_keeps s n
  exact ⟨h .pending (by decide), h .time (by decide), h .freeCtr (by decide), h .outbox (by decide), h .regs (by decide), h .plat (by decide), h .keeper (by decide), h .cellar (by decide), h .press (by decide), h .vault (by decide), h .ctl (by decide), h .cntr (by decide), h .tlm (by decide), h .wd0 (by decide), h .clk (by decide), h .host (by decide), h .ident (by decide), h .sealing (by decide), h .crypt (by decide), h .life (by decide), h .side (by decide), h .aux (by decide), State.cfg_of (h .regs (by decide)), State.sticky_of (h .regs (by decide)), State.view_of (h .regs (by decide)), State.powered_of (h .plat (by decide)), State.agt_of (h .ctl (by decide)), State.cask_of (h .crypt (by decide))⟩

@[simp] theorem State.raiseSeal_rest (s : State) (src : Nat) (stream : Nat) :
    (State.raiseSeal s src stream).pending = s.pending ∧
    (State.raiseSeal s src stream).time = s.time ∧
    (State.raiseSeal s src stream).freeCtr = s.freeCtr ∧
    (State.raiseSeal s src stream).outbox = s.outbox ∧
    (State.raiseSeal s src stream).regs = s.regs ∧
    (State.raiseSeal s src stream).plat = s.plat ∧
    (State.raiseSeal s src stream).keeper = s.keeper ∧
    (State.raiseSeal s src stream).chs = s.chs ∧
    (State.raiseSeal s src stream).cellar = s.cellar ∧
    (State.raiseSeal s src stream).press = s.press ∧
    (State.raiseSeal s src stream).vault = s.vault ∧
    (State.raiseSeal s src stream).ctl = s.ctl ∧
    (State.raiseSeal s src stream).cntr = s.cntr ∧
    (State.raiseSeal s src stream).tlm = s.tlm ∧
    (State.raiseSeal s src stream).wd0 = s.wd0 ∧
    (State.raiseSeal s src stream).clk = s.clk ∧
    (State.raiseSeal s src stream).host = s.host ∧
    (State.raiseSeal s src stream).ident = s.ident ∧
    (State.raiseSeal s src stream).sealing = s.sealing ∧
    (State.raiseSeal s src stream).crypt = s.crypt ∧
    (State.raiseSeal s src stream).life = s.life ∧
    (State.raiseSeal s src stream).side = s.side ∧
    (State.raiseSeal s src stream).aux = s.aux ∧
    (State.raiseSeal s src stream).chan = s.chan ∧
    (State.raiseSeal s src stream).cfg = s.cfg ∧
    (State.raiseSeal s src stream).sticky = s.sticky ∧
    (State.raiseSeal s src stream).view = s.view ∧
    (State.raiseSeal s src stream).powered = s.powered ∧
    (State.raiseSeal s src stream).agt = s.agt ∧
    (State.raiseSeal s src stream).cask = s.cask := by
  have h := State.raiseSeal_keeps s src stream
  exact ⟨h .pending (by decide), h .time (by decide), h .freeCtr (by decide), h .outbox (by decide), h .regs (by decide), h .plat (by decide), h .keeper (by decide), h .chs (by decide), h .cellar (by decide), h .press (by decide), h .vault (by decide), h .ctl (by decide), h .cntr (by decide), h .tlm (by decide), h .wd0 (by decide), h .clk (by decide), h .host (by decide), h .ident (by decide), h .sealing (by decide), h .crypt (by decide), h .life (by decide), h .side (by decide), h .aux (by decide), State.chan_of (h .chs (by decide)), State.cfg_of (h .regs (by decide)), State.sticky_of (h .regs (by decide)), State.view_of (h .regs (by decide)), State.powered_of (h .plat (by decide)), State.agt_of (h .ctl (by decide)), State.cask_of (h .crypt (by decide))⟩

@[simp] theorem State.setCask_rest (s : State) (i : Nat) (c : Cask) :
    (State.setCask s i c).pending = s.pending ∧
    (State.setCask s i c).time = s.time ∧
    (State.setCask s i c).freeCtr = s.freeCtr ∧
    (State.setCask s i c).outbox = s.outbox ∧
    (State.setCask s i c).regs = s.regs ∧
    (State.setCask s i c).evt = s.evt ∧
    (State.setCask s i c).plat = s.plat ∧
    (State.setCask s i c).keeper = s.keeper ∧
    (State.setCask s i c).chs = s.chs ∧
    (State.setCask s i c).cellar = s.cellar ∧
    (State.setCask s i c).press = s.press ∧
    (State.setCask s i c).vault = s.vault ∧
    (State.setCask s i c).ctl = s.ctl ∧
    (State.setCask s i c).cntr = s.cntr ∧
    (State.setCask s i c).tlm = s.tlm ∧
    (State.setCask s i c).wd0 = s.wd0 ∧
    (State.setCask s i c).clk = s.clk ∧
    (State.setCask s i c).host = s.host ∧
    (State.setCask s i c).ident = s.ident ∧
    (State.setCask s i c).sealing = s.sealing ∧
    (State.setCask s i c).life = s.life ∧
    (State.setCask s i c).side = s.side ∧
    (State.setCask s i c).aux = s.aux ∧
    (State.setCask s i c).chan = s.chan ∧
    (State.setCask s i c).cfg = s.cfg ∧
    (State.setCask s i c).sticky = s.sticky ∧
    (State.setCask s i c).view = s.view ∧
    (State.setCask s i c).powered = s.powered ∧
    (State.setCask s i c).agt = s.agt := by
  have h := State.setCask_keeps s i c
  exact ⟨h .pending (by decide), h .time (by decide), h .freeCtr (by decide), h .outbox (by decide), h .regs (by decide), h .evt (by decide), h .plat (by decide), h .keeper (by decide), h .chs (by decide), h .cellar (by decide), h .press (by decide), h .vault (by decide), h .ctl (by decide), h .cntr (by decide), h .tlm (by decide), h .wd0 (by decide), h .clk (by decide), h .host (by decide), h .ident (by decide), h .sealing (by decide), h .life (by decide), h .side (by decide), h .aux (by decide), State.chan_of (h .chs (by decide)), State.cfg_of (h .regs (by decide)), State.sticky_of (h .regs (by decide)), State.view_of (h .regs (by decide)), State.powered_of (h .plat (by decide)), State.agt_of (h .ctl (by decide))⟩

@[simp] theorem State.segCredit_rest (s : State) (stream : Nat) :
    (State.segCredit s stream).pending = s.pending ∧
    (State.segCredit s stream).time = s.time ∧
    (State.segCredit s stream).freeCtr = s.freeCtr ∧
    (State.segCredit s stream).outbox = s.outbox ∧
    (State.segCredit s stream).regs = s.regs ∧
    (State.segCredit s stream).evt = s.evt ∧
    (State.segCredit s stream).plat = s.plat ∧
    (State.segCredit s stream).keeper = s.keeper ∧
    (State.segCredit s stream).chs = s.chs ∧
    (State.segCredit s stream).cellar = s.cellar ∧
    (State.segCredit s stream).vault = s.vault ∧
    (State.segCredit s stream).ctl = s.ctl ∧
    (State.segCredit s stream).cntr = s.cntr ∧
    (State.segCredit s stream).tlm = s.tlm ∧
    (State.segCredit s stream).wd0 = s.wd0 ∧
    (State.segCredit s stream).clk = s.clk ∧
    (State.segCredit s stream).host = s.host ∧
    (State.segCredit s stream).ident = s.ident ∧
    (State.segCredit s stream).sealing = s.sealing ∧
    (State.segCredit s stream).crypt = s.crypt ∧
    (State.segCredit s stream).life = s.life ∧
    (State.segCredit s stream).side = s.side ∧
    (State.segCredit s stream).aux = s.aux ∧
    (State.segCredit s stream).chan = s.chan ∧
    (State.segCredit s stream).cfg = s.cfg ∧
    (State.segCredit s stream).sticky = s.sticky ∧
    (State.segCredit s stream).view = s.view ∧
    (State.segCredit s stream).powered = s.powered ∧
    (State.segCredit s stream).agt = s.agt ∧
    (State.segCredit s stream).cask = s.cask := by
  have h := State.segCredit_keeps s stream
  exact ⟨h .pending (by decide), h .time (by decide), h .freeCtr (by decide), h .outbox (by decide), h .regs (by decide), h .evt (by decide), h .plat (by decide), h .keeper (by decide), h .chs (by decide), h .cellar (by decide), h .vault (by decide), h .ctl (by decide), h .cntr (by decide), h .tlm (by decide), h .wd0 (by decide), h .clk (by decide), h .host (by decide), h .ident (by decide), h .sealing (by decide), h .crypt (by decide), h .life (by decide), h .side (by decide), h .aux (by decide), State.chan_of (h .chs (by decide)), State.cfg_of (h .regs (by decide)), State.sticky_of (h .regs (by decide)), State.view_of (h .regs (by decide)), State.powered_of (h .plat (by decide)), State.agt_of (h .ctl (by decide)), State.cask_of (h .crypt (by decide))⟩

@[simp] theorem State.dropQueue_rest (s : State) (a1 : Stream) (st : Status) :
    (State.dropQueue s a1 st).pending = s.pending ∧
    (State.dropQueue s a1 st).time = s.time ∧
    (State.dropQueue s a1 st).freeCtr = s.freeCtr ∧
    (State.dropQueue s a1 st).regs = s.regs ∧
    (State.dropQueue s a1 st).plat = s.plat ∧
    (State.dropQueue s a1 st).keeper = s.keeper ∧
    (State.dropQueue s a1 st).chs = s.chs ∧
    (State.dropQueue s a1 st).cellar = s.cellar ∧
    (State.dropQueue s a1 st).press = s.press ∧
    (State.dropQueue s a1 st).vault = s.vault ∧
    (State.dropQueue s a1 st).ctl = s.ctl ∧
    (State.dropQueue s a1 st).wd0 = s.wd0 ∧
    (State.dropQueue s a1 st).clk = s.clk ∧
    (State.dropQueue s a1 st).ident = s.ident ∧
    (State.dropQueue s a1 st).crypt = s.crypt ∧
    (State.dropQueue s a1 st).life = s.life ∧
    (State.dropQueue s a1 st).side = s.side ∧
    (State.dropQueue s a1 st).aux = s.aux ∧
    (State.dropQueue s a1 st).chan = s.chan ∧
    (State.dropQueue s a1 st).cfg = s.cfg ∧
    (State.dropQueue s a1 st).sticky = s.sticky ∧
    (State.dropQueue s a1 st).view = s.view ∧
    (State.dropQueue s a1 st).powered = s.powered ∧
    (State.dropQueue s a1 st).agt = s.agt ∧
    (State.dropQueue s a1 st).cask = s.cask := by
  have h := State.dropQueue_keeps s a1 st
  exact ⟨h .pending (by decide), h .time (by decide), h .freeCtr (by decide), h .regs (by decide), h .plat (by decide), h .keeper (by decide), h .chs (by decide), h .cellar (by decide), h .press (by decide), h .vault (by decide), h .ctl (by decide), h .wd0 (by decide), h .clk (by decide), h .ident (by decide), h .crypt (by decide), h .life (by decide), h .side (by decide), h .aux (by decide), State.chan_of (h .chs (by decide)), State.cfg_of (h .regs (by decide)), State.sticky_of (h .regs (by decide)), State.view_of (h .regs (by decide)), State.powered_of (h .plat (by decide)), State.agt_of (h .ctl (by decide)), State.cask_of (h .crypt (by decide))⟩

@[simp] theorem State.setStream_rest (s : State) (a1 : Stream) :
    (State.setStream s a1).pending = s.pending ∧
    (State.setStream s a1).time = s.time ∧
    (State.setStream s a1).freeCtr = s.freeCtr ∧
    (State.setStream s a1).outbox = s.outbox ∧
    (State.setStream s a1).regs = s.regs ∧
    (State.setStream s a1).evt = s.evt ∧
    (State.setStream s a1).plat = s.plat ∧
    (State.setStream s a1).keeper = s.keeper ∧
    (State.setStream s a1).chs = s.chs ∧
    (State.setStream s a1).cellar = s.cellar ∧
    (State.setStream s a1).press = s.press ∧
    (State.setStream s a1).vault = s.vault ∧
    (State.setStream s a1).ctl = s.ctl ∧
    (State.setStream s a1).cntr = s.cntr ∧
    (State.setStream s a1).tlm = s.tlm ∧
    (State.setStream s a1).wd0 = s.wd0 ∧
    (State.setStream s a1).clk = s.clk ∧
    (State.setStream s a1).host = s.host ∧
    (State.setStream s a1).ident = s.ident ∧
    (State.setStream s a1).crypt = s.crypt ∧
    (State.setStream s a1).life = s.life ∧
    (State.setStream s a1).side = s.side ∧
    (State.setStream s a1).aux = s.aux ∧
    (State.setStream s a1).chan = s.chan ∧
    (State.setStream s a1).cfg = s.cfg ∧
    (State.setStream s a1).sticky = s.sticky ∧
    (State.setStream s a1).view = s.view ∧
    (State.setStream s a1).powered = s.powered ∧
    (State.setStream s a1).agt = s.agt ∧
    (State.setStream s a1).cask = s.cask := by
  have h := State.setStream_keeps s a1
  exact ⟨h .pending (by decide), h .time (by decide), h .freeCtr (by decide), h .outbox (by decide), h .regs (by decide), h .evt (by decide), h .plat (by decide), h .keeper (by decide), h .chs (by decide), h .cellar (by decide), h .press (by decide), h .vault (by decide), h .ctl (by decide), h .cntr (by decide), h .tlm (by decide), h .wd0 (by decide), h .clk (by decide), h .host (by decide), h .ident (by decide), h .crypt (by decide), h .life (by decide), h .side (by decide), h .aux (by decide), State.chan_of (h .chs (by decide)), State.cfg_of (h .regs (by decide)), State.sticky_of (h .regs (by decide)), State.view_of (h .regs (by decide)), State.powered_of (h .plat (by decide)), State.agt_of (h .ctl (by decide)), State.cask_of (h .crypt (by decide))⟩

@[simp] theorem State.closeStream_rest (s : State) (a1 : Stream) :
    (State.closeStream s a1).pending = s.pending ∧
    (State.closeStream s a1).time = s.time ∧
    (State.closeStream s a1).freeCtr = s.freeCtr ∧
    (State.closeStream s a1).regs = s.regs ∧
    (State.closeStream s a1).plat = s.plat ∧
    (State.closeStream s a1).keeper = s.keeper ∧
    (State.closeStream s a1).chs = s.chs ∧
    (State.closeStream s a1).cellar = s.cellar ∧
    (State.closeStream s a1).press = s.press ∧
    (State.closeStream s a1).vault = s.vault ∧
    (State.closeStream s a1).ctl = s.ctl ∧
    (State.closeStream s a1).wd0 = s.wd0 ∧
    (State.closeStream s a1).clk = s.clk ∧
    (State.closeStream s a1).ident = s.ident ∧
    (State.closeStream s a1).crypt = s.crypt ∧
    (State.closeStream s a1).life = s.life ∧
    (State.closeStream s a1).side = s.side ∧
    (State.closeStream s a1).aux = s.aux ∧
    (State.closeStream s a1).chan = s.chan ∧
    (State.closeStream s a1).cfg = s.cfg ∧
    (State.closeStream s a1).sticky = s.sticky ∧
    (State.closeStream s a1).view = s.view ∧
    (State.closeStream s a1).powered = s.powered ∧
    (State.closeStream s a1).agt = s.agt ∧
    (State.closeStream s a1).cask = s.cask := by
  have h := State.closeStream_keeps s a1
  exact ⟨h .pending (by decide), h .time (by decide), h .freeCtr (by decide), h .regs (by decide), h .plat (by decide), h .keeper (by decide), h .chs (by decide), h .cellar (by decide), h .press (by decide), h .vault (by decide), h .ctl (by decide), h .wd0 (by decide), h .clk (by decide), h .ident (by decide), h .crypt (by decide), h .life (by decide), h .side (by decide), h .aux (by decide), State.chan_of (h .chs (by decide)), State.cfg_of (h .regs (by decide)), State.sticky_of (h .regs (by decide)), State.view_of (h .regs (by decide)), State.powered_of (h .plat (by decide)), State.agt_of (h .ctl (by decide)), State.cask_of (h .crypt (by decide))⟩

@[simp] theorem State.closeWaiting_rest (s : State) (a1 : Stream) :
    (State.closeWaiting s a1).pending = s.pending ∧
    (State.closeWaiting s a1).time = s.time ∧
    (State.closeWaiting s a1).freeCtr = s.freeCtr ∧
    (State.closeWaiting s a1).regs = s.regs ∧
    (State.closeWaiting s a1).plat = s.plat ∧
    (State.closeWaiting s a1).keeper = s.keeper ∧
    (State.closeWaiting s a1).chs = s.chs ∧
    (State.closeWaiting s a1).cellar = s.cellar ∧
    (State.closeWaiting s a1).press = s.press ∧
    (State.closeWaiting s a1).vault = s.vault ∧
    (State.closeWaiting s a1).ctl = s.ctl ∧
    (State.closeWaiting s a1).wd0 = s.wd0 ∧
    (State.closeWaiting s a1).clk = s.clk ∧
    (State.closeWaiting s a1).ident = s.ident ∧
    (State.closeWaiting s a1).crypt = s.crypt ∧
    (State.closeWaiting s a1).life = s.life ∧
    (State.closeWaiting s a1).side = s.side ∧
    (State.closeWaiting s a1).aux = s.aux ∧
    (State.closeWaiting s a1).chan = s.chan ∧
    (State.closeWaiting s a1).cfg = s.cfg ∧
    (State.closeWaiting s a1).sticky = s.sticky ∧
    (State.closeWaiting s a1).view = s.view ∧
    (State.closeWaiting s a1).powered = s.powered ∧
    (State.closeWaiting s a1).agt = s.agt ∧
    (State.closeWaiting s a1).cask = s.cask := by
  have h := State.closeWaiting_keeps s a1
  exact ⟨h .pending (by decide), h .time (by decide), h .freeCtr (by decide), h .regs (by decide), h .plat (by decide), h .keeper (by decide), h .chs (by decide), h .cellar (by decide), h .press (by decide), h .vault (by decide), h .ctl (by decide), h .wd0 (by decide), h .clk (by decide), h .ident (by decide), h .crypt (by decide), h .life (by decide), h .side (by decide), h .aux (by decide), State.chan_of (h .chs (by decide)), State.cfg_of (h .regs (by decide)), State.sticky_of (h .regs (by decide)), State.view_of (h .regs (by decide)), State.powered_of (h .plat (by decide)), State.agt_of (h .ctl (by decide)), State.cask_of (h .crypt (by decide))⟩

@[simp] theorem State.loseKey_rest (s : State) (a1 : Stream) :
    (State.loseKey s a1).pending = s.pending ∧
    (State.loseKey s a1).time = s.time ∧
    (State.loseKey s a1).freeCtr = s.freeCtr ∧
    (State.loseKey s a1).regs = s.regs ∧
    (State.loseKey s a1).plat = s.plat ∧
    (State.loseKey s a1).keeper = s.keeper ∧
    (State.loseKey s a1).chs = s.chs ∧
    (State.loseKey s a1).cellar = s.cellar ∧
    (State.loseKey s a1).vault = s.vault ∧
    (State.loseKey s a1).ctl = s.ctl ∧
    (State.loseKey s a1).wd0 = s.wd0 ∧
    (State.loseKey s a1).clk = s.clk ∧
    (State.loseKey s a1).ident = s.ident ∧
    (State.loseKey s a1).crypt = s.crypt ∧
    (State.loseKey s a1).life = s.life ∧
    (State.loseKey s a1).side = s.side ∧
    (State.loseKey s a1).aux = s.aux ∧
    (State.loseKey s a1).chan = s.chan ∧
    (State.loseKey s a1).cfg = s.cfg ∧
    (State.loseKey s a1).sticky = s.sticky ∧
    (State.loseKey s a1).view = s.view ∧
    (State.loseKey s a1).powered = s.powered ∧
    (State.loseKey s a1).agt = s.agt ∧
    (State.loseKey s a1).cask = s.cask := by
  have h := State.loseKey_keeps s a1
  exact ⟨h .pending (by decide), h .time (by decide), h .freeCtr (by decide), h .regs (by decide), h .plat (by decide), h .keeper (by decide), h .chs (by decide), h .cellar (by decide), h .vault (by decide), h .ctl (by decide), h .wd0 (by decide), h .clk (by decide), h .ident (by decide), h .crypt (by decide), h .life (by decide), h .side (by decide), h .aux (by decide), State.chan_of (h .chs (by decide)), State.cfg_of (h .regs (by decide)), State.sticky_of (h .regs (by decide)), State.view_of (h .regs (by decide)), State.powered_of (h .plat (by decide)), State.agt_of (h .ctl (by decide)), State.cask_of (h .crypt (by decide))⟩

@[simp] theorem State.invalidate_rest (s : State) (i : Nat) :
    (State.invalidate s i).pending = s.pending ∧
    (State.invalidate s i).time = s.time ∧
    (State.invalidate s i).freeCtr = s.freeCtr ∧
    (State.invalidate s i).regs = s.regs ∧
    (State.invalidate s i).plat = s.plat ∧
    (State.invalidate s i).keeper = s.keeper ∧
    (State.invalidate s i).chs = s.chs ∧
    (State.invalidate s i).cellar = s.cellar ∧
    (State.invalidate s i).vault = s.vault ∧
    (State.invalidate s i).ctl = s.ctl ∧
    (State.invalidate s i).wd0 = s.wd0 ∧
    (State.invalidate s i).clk = s.clk ∧
    (State.invalidate s i).ident = s.ident ∧
    (State.invalidate s i).life = s.life ∧
    (State.invalidate s i).side = s.side ∧
    (State.invalidate s i).aux = s.aux ∧
    (State.invalidate s i).chan = s.chan ∧
    (State.invalidate s i).cfg = s.cfg ∧
    (State.invalidate s i).sticky = s.sticky ∧
    (State.invalidate s i).view = s.view ∧
    (State.invalidate s i).powered = s.powered ∧
    (State.invalidate s i).agt = s.agt := by
  have h := State.invalidate_keeps s i
  exact ⟨h .pending (by decide), h .time (by decide), h .freeCtr (by decide), h .regs (by decide), h .plat (by decide), h .keeper (by decide), h .chs (by decide), h .cellar (by decide), h .vault (by decide), h .ctl (by decide), h .wd0 (by decide), h .clk (by decide), h .ident (by decide), h .life (by decide), h .side (by decide), h .aux (by decide), State.chan_of (h .chs (by decide)), State.cfg_of (h .regs (by decide)), State.sticky_of (h .regs (by decide)), State.view_of (h .regs (by decide)), State.powered_of (h .plat (by decide)), State.agt_of (h .ctl (by decide))⟩

@[simp] theorem State.drawn_rest (s : State) :
    (State.drawn s).pending = s.pending ∧
    (State.drawn s).time = s.time ∧
    (State.drawn s).freeCtr = s.freeCtr ∧
    (State.drawn s).outbox = s.outbox ∧
    (State.drawn s).regs = s.regs ∧
    (State.drawn s).evt = s.evt ∧
    (State.drawn s).plat = s.plat ∧
    (State.drawn s).keeper = s.keeper ∧
    (State.drawn s).chs = s.chs ∧
    (State.drawn s).cellar = s.cellar ∧
    (State.drawn s).press = s.press ∧
    (State.drawn s).vault = s.vault ∧
    (State.drawn s).ctl = s.ctl ∧
    (State.drawn s).cntr = s.cntr ∧
    (State.drawn s).tlm = s.tlm ∧
    (State.drawn s).wd0 = s.wd0 ∧
    (State.drawn s).clk = s.clk ∧
    (State.drawn s).host = s.host ∧
    (State.drawn s).ident = s.ident ∧
    (State.drawn s).sealing = s.sealing ∧
    (State.drawn s).life = s.life ∧
    (State.drawn s).side = s.side ∧
    (State.drawn s).aux = s.aux ∧
    (State.drawn s).chan = s.chan ∧
    (State.drawn s).cfg = s.cfg ∧
    (State.drawn s).sticky = s.sticky ∧
    (State.drawn s).view = s.view ∧
    (State.drawn s).powered = s.powered ∧
    (State.drawn s).agt = s.agt := by
  have h := State.drawn_keeps s
  exact ⟨h .pending (by decide), h .time (by decide), h .freeCtr (by decide), h .outbox (by decide), h .regs (by decide), h .evt (by decide), h .plat (by decide), h .keeper (by decide), h .chs (by decide), h .cellar (by decide), h .press (by decide), h .vault (by decide), h .ctl (by decide), h .cntr (by decide), h .tlm (by decide), h .wd0 (by decide), h .clk (by decide), h .host (by decide), h .ident (by decide), h .sealing (by decide), h .life (by decide), h .side (by decide), h .aux (by decide), State.chan_of (h .chs (by decide)), State.cfg_of (h .regs (by decide)), State.sticky_of (h .regs (by decide)), State.view_of (h .regs (by decide)), State.powered_of (h .plat (by decide)), State.agt_of (h .ctl (by decide))⟩

@[simp] theorem State.fill_rest (s : State) (i : Nat) (c : Cask) (material : Nat) :
    (State.fill s i c material).pending = s.pending ∧
    (State.fill s i c material).time = s.time ∧
    (State.fill s i c material).freeCtr = s.freeCtr ∧
    (State.fill s i c material).outbox = s.outbox ∧
    (State.fill s i c material).regs = s.regs ∧
    (State.fill s i c material).evt = s.evt ∧
    (State.fill s i c material).plat = s.plat ∧
    (State.fill s i c material).keeper = s.keeper ∧
    (State.fill s i c material).chs = s.chs ∧
    (State.fill s i c material).cellar = s.cellar ∧
    (State.fill s i c material).press = s.press ∧
    (State.fill s i c material).vault = s.vault ∧
    (State.fill s i c material).ctl = s.ctl ∧
    (State.fill s i c material).cntr = s.cntr ∧
    (State.fill s i c material).tlm = s.tlm ∧
    (State.fill s i c material).wd0 = s.wd0 ∧
    (State.fill s i c material).clk = s.clk ∧
    (State.fill s i c material).host = s.host ∧
    (State.fill s i c material).ident = s.ident ∧
    (State.fill s i c material).sealing = s.sealing ∧
    (State.fill s i c material).life = s.life ∧
    (State.fill s i c material).side = s.side ∧
    (State.fill s i c material).aux = s.aux ∧
    (State.fill s i c material).chan = s.chan ∧
    (State.fill s i c material).cfg = s.cfg ∧
    (State.fill s i c material).sticky = s.sticky ∧
    (State.fill s i c material).view = s.view ∧
    (State.fill s i c material).powered = s.powered ∧
    (State.fill s i c material).agt = s.agt := by
  have h := State.fill_keeps s i c material
  exact ⟨h .pending (by decide), h .time (by decide), h .freeCtr (by decide), h .outbox (by decide), h .regs (by decide), h .evt (by decide), h .plat (by decide), h .keeper (by decide), h .chs (by decide), h .cellar (by decide), h .press (by decide), h .vault (by decide), h .ctl (by decide), h .cntr (by decide), h .tlm (by decide), h .wd0 (by decide), h .clk (by decide), h .host (by decide), h .ident (by decide), h .sealing (by decide), h .life (by decide), h .side (by decide), h .aux (by decide), State.chan_of (h .chs (by decide)), State.cfg_of (h .regs (by decide)), State.sticky_of (h .regs (by decide)), State.view_of (h .regs (by decide)), State.powered_of (h .plat (by decide)), State.agt_of (h .ctl (by decide))⟩

@[simp] theorem State.loadKey_rest (s : State) (k : KeyRec) :
    (State.loadKey s k).pending = s.pending ∧
    (State.loadKey s k).time = s.time ∧
    (State.loadKey s k).freeCtr = s.freeCtr ∧
    (State.loadKey s k).outbox = s.outbox ∧
    (State.loadKey s k).regs = s.regs ∧
    (State.loadKey s k).evt = s.evt ∧
    (State.loadKey s k).plat = s.plat ∧
    (State.loadKey s k).keeper = s.keeper ∧
    (State.loadKey s k).chs = s.chs ∧
    (State.loadKey s k).cellar = s.cellar ∧
    (State.loadKey s k).press = s.press ∧
    (State.loadKey s k).vault = s.vault ∧
    (State.loadKey s k).ctl = s.ctl ∧
    (State.loadKey s k).cntr = s.cntr ∧
    (State.loadKey s k).tlm = s.tlm ∧
    (State.loadKey s k).wd0 = s.wd0 ∧
    (State.loadKey s k).clk = s.clk ∧
    (State.loadKey s k).host = s.host ∧
    (State.loadKey s k).ident = s.ident ∧
    (State.loadKey s k).sealing = s.sealing ∧
    (State.loadKey s k).life = s.life ∧
    (State.loadKey s k).side = s.side ∧
    (State.loadKey s k).aux = s.aux ∧
    (State.loadKey s k).chan = s.chan ∧
    (State.loadKey s k).cfg = s.cfg ∧
    (State.loadKey s k).sticky = s.sticky ∧
    (State.loadKey s k).view = s.view ∧
    (State.loadKey s k).powered = s.powered ∧
    (State.loadKey s k).agt = s.agt := by
  have h := State.loadKey_keeps s k
  exact ⟨h .pending (by decide), h .time (by decide), h .freeCtr (by decide), h .outbox (by decide), h .regs (by decide), h .evt (by decide), h .plat (by decide), h .keeper (by decide), h .chs (by decide), h .cellar (by decide), h .press (by decide), h .vault (by decide), h .ctl (by decide), h .cntr (by decide), h .tlm (by decide), h .wd0 (by decide), h .clk (by decide), h .host (by decide), h .ident (by decide), h .sealing (by decide), h .life (by decide), h .side (by decide), h .aux (by decide), State.chan_of (h .chs (by decide)), State.cfg_of (h .regs (by decide)), State.sticky_of (h .regs (by decide)), State.view_of (h .regs (by decide)), State.powered_of (h .plat (by decide)), State.agt_of (h .ctl (by decide))⟩

@[simp] theorem State.requestSub_rest (s : State) (n : Ch) :
    (State.requestSub s n).pending = s.pending ∧
    (State.requestSub s n).time = s.time ∧
    (State.requestSub s n).freeCtr = s.freeCtr ∧
    (State.requestSub s n).outbox = s.outbox ∧
    (State.requestSub s n).regs = s.regs ∧
    (State.requestSub s n).evt = s.evt ∧
    (State.requestSub s n).plat = s.plat ∧
    (State.requestSub s n).keeper = s.keeper ∧
    (State.requestSub s n).chs = s.chs ∧
    (State.requestSub s n).cellar = s.cellar ∧
    (State.requestSub s n).press = s.press ∧
    (State.requestSub s n).vault = s.vault ∧
    (State.requestSub s n).cntr = s.cntr ∧
    (State.requestSub s n).tlm = s.tlm ∧
    (State.requestSub s n).wd0 = s.wd0 ∧
    (State.requestSub s n).clk = s.clk ∧
    (State.requestSub s n).host = s.host ∧
    (State.requestSub s n).ident = s.ident ∧
    (State.requestSub s n).sealing = s.sealing ∧
    (State.requestSub s n).crypt = s.crypt ∧
    (State.requestSub s n).life = s.life ∧
    (State.requestSub s n).side = s.side ∧
    (State.requestSub s n).aux = s.aux ∧
    (State.requestSub s n).chan = s.chan ∧
    (State.requestSub s n).cfg = s.cfg ∧
    (State.requestSub s n).sticky = s.sticky ∧
    (State.requestSub s n).view = s.view ∧
    (State.requestSub s n).powered = s.powered ∧
    (State.requestSub s n).cask = s.cask := by
  have h := State.requestSub_keeps s n
  exact ⟨h .pending (by decide), h .time (by decide), h .freeCtr (by decide), h .outbox (by decide), h .regs (by decide), h .evt (by decide), h .plat (by decide), h .keeper (by decide), h .chs (by decide), h .cellar (by decide), h .press (by decide), h .vault (by decide), h .cntr (by decide), h .tlm (by decide), h .wd0 (by decide), h .clk (by decide), h .host (by decide), h .ident (by decide), h .sealing (by decide), h .crypt (by decide), h .life (by decide), h .side (by decide), h .aux (by decide), State.chan_of (h .chs (by decide)), State.cfg_of (h .regs (by decide)), State.sticky_of (h .regs (by decide)), State.view_of (h .regs (by decide)), State.powered_of (h .plat (by decide)), State.cask_of (h .crypt (by decide))⟩

@[simp] theorem State.bootPort_rest (s : State) (n : Ch) :
    (State.bootPort s n).pending = s.pending ∧
    (State.bootPort s n).time = s.time ∧
    (State.bootPort s n).freeCtr = s.freeCtr ∧
    (State.bootPort s n).outbox = s.outbox ∧
    (State.bootPort s n).regs = s.regs ∧
    (State.bootPort s n).evt = s.evt ∧
    (State.bootPort s n).plat = s.plat ∧
    (State.bootPort s n).keeper = s.keeper ∧
    (State.bootPort s n).cellar = s.cellar ∧
    (State.bootPort s n).press = s.press ∧
    (State.bootPort s n).vault = s.vault ∧
    (State.bootPort s n).ctl = s.ctl ∧
    (State.bootPort s n).cntr = s.cntr ∧
    (State.bootPort s n).tlm = s.tlm ∧
    (State.bootPort s n).wd0 = s.wd0 ∧
    (State.bootPort s n).clk = s.clk ∧
    (State.bootPort s n).host = s.host ∧
    (State.bootPort s n).ident = s.ident ∧
    (State.bootPort s n).sealing = s.sealing ∧
    (State.bootPort s n).crypt = s.crypt ∧
    (State.bootPort s n).life = s.life ∧
    (State.bootPort s n).side = s.side ∧
    (State.bootPort s n).aux = s.aux ∧
    (State.bootPort s n).cfg = s.cfg ∧
    (State.bootPort s n).sticky = s.sticky ∧
    (State.bootPort s n).view = s.view ∧
    (State.bootPort s n).powered = s.powered ∧
    (State.bootPort s n).agt = s.agt ∧
    (State.bootPort s n).cask = s.cask := by
  have h := State.bootPort_keeps s n
  exact ⟨h .pending (by decide), h .time (by decide), h .freeCtr (by decide), h .outbox (by decide), h .regs (by decide), h .evt (by decide), h .plat (by decide), h .keeper (by decide), h .cellar (by decide), h .press (by decide), h .vault (by decide), h .ctl (by decide), h .cntr (by decide), h .tlm (by decide), h .wd0 (by decide), h .clk (by decide), h .host (by decide), h .ident (by decide), h .sealing (by decide), h .crypt (by decide), h .life (by decide), h .side (by decide), h .aux (by decide), State.cfg_of (h .regs (by decide)), State.sticky_of (h .regs (by decide)), State.view_of (h .regs (by decide)), State.powered_of (h .plat (by decide)), State.agt_of (h .ctl (by decide)), State.cask_of (h .crypt (by decide))⟩

@[simp] theorem State.flash_rest (s : State) (n : Ch) (k : PartId) (op : FlashOp) (addr : List Byte) (len : Nat) (data : List Byte) :
    (State.flash s n k op addr len data).pending = s.pending ∧
    (State.flash s n k op addr len data).time = s.time ∧
    (State.flash s n k op addr len data).freeCtr = s.freeCtr ∧
    (State.flash s n k op addr len data).regs = s.regs ∧
    (State.flash s n k op addr len data).evt = s.evt ∧
    (State.flash s n k op addr len data).plat = s.plat ∧
    (State.flash s n k op addr len data).keeper = s.keeper ∧
    (State.flash s n k op addr len data).chs = s.chs ∧
    (State.flash s n k op addr len data).cellar = s.cellar ∧
    (State.flash s n k op addr len data).press = s.press ∧
    (State.flash s n k op addr len data).vault = s.vault ∧
    (State.flash s n k op addr len data).ctl = s.ctl ∧
    (State.flash s n k op addr len data).cntr = s.cntr ∧
    (State.flash s n k op addr len data).tlm = s.tlm ∧
    (State.flash s n k op addr len data).wd0 = s.wd0 ∧
    (State.flash s n k op addr len data).clk = s.clk ∧
    (State.flash s n k op addr len data).host = s.host ∧
    (State.flash s n k op addr len data).ident = s.ident ∧
    (State.flash s n k op addr len data).sealing = s.sealing ∧
    (State.flash s n k op addr len data).crypt = s.crypt ∧
    (State.flash s n k op addr len data).life = s.life ∧
    (State.flash s n k op addr len data).side = s.side ∧
    (State.flash s n k op addr len data).aux = s.aux ∧
    (State.flash s n k op addr len data).chan = s.chan ∧
    (State.flash s n k op addr len data).cfg = s.cfg ∧
    (State.flash s n k op addr len data).sticky = s.sticky ∧
    (State.flash s n k op addr len data).view = s.view ∧
    (State.flash s n k op addr len data).powered = s.powered ∧
    (State.flash s n k op addr len data).agt = s.agt ∧
    (State.flash s n k op addr len data).cask = s.cask := by
  have h := State.flash_keeps s n k op addr len data
  exact ⟨h .pending (by decide), h .time (by decide), h .freeCtr (by decide), h .regs (by decide), h .evt (by decide), h .plat (by decide), h .keeper (by decide), h .chs (by decide), h .cellar (by decide), h .press (by decide), h .vault (by decide), h .ctl (by decide), h .cntr (by decide), h .tlm (by decide), h .wd0 (by decide), h .clk (by decide), h .host (by decide), h .ident (by decide), h .sealing (by decide), h .crypt (by decide), h .life (by decide), h .side (by decide), h .aux (by decide), State.chan_of (h .chs (by decide)), State.cfg_of (h .regs (by decide)), State.sticky_of (h .regs (by decide)), State.view_of (h .regs (by decide)), State.powered_of (h .plat (by decide)), State.agt_of (h .ctl (by decide)), State.cask_of (h .crypt (by decide))⟩

@[simp] theorem State.opCmd_rest (s : State) (n : Ch) (o : AgentOp) (c : FlashOp) :
    (State.opCmd s n o c).pending = s.pending ∧
    (State.opCmd s n o c).time = s.time ∧
    (State.opCmd s n o c).freeCtr = s.freeCtr ∧
    (State.opCmd s n o c).regs = s.regs ∧
    (State.opCmd s n o c).evt = s.evt ∧
    (State.opCmd s n o c).plat = s.plat ∧
    (State.opCmd s n o c).keeper = s.keeper ∧
    (State.opCmd s n o c).chs = s.chs ∧
    (State.opCmd s n o c).cellar = s.cellar ∧
    (State.opCmd s n o c).press = s.press ∧
    (State.opCmd s n o c).vault = s.vault ∧
    (State.opCmd s n o c).ctl = s.ctl ∧
    (State.opCmd s n o c).cntr = s.cntr ∧
    (State.opCmd s n o c).tlm = s.tlm ∧
    (State.opCmd s n o c).wd0 = s.wd0 ∧
    (State.opCmd s n o c).clk = s.clk ∧
    (State.opCmd s n o c).host = s.host ∧
    (State.opCmd s n o c).ident = s.ident ∧
    (State.opCmd s n o c).sealing = s.sealing ∧
    (State.opCmd s n o c).crypt = s.crypt ∧
    (State.opCmd s n o c).life = s.life ∧
    (State.opCmd s n o c).side = s.side ∧
    (State.opCmd s n o c).aux = s.aux ∧
    (State.opCmd s n o c).chan = s.chan ∧
    (State.opCmd s n o c).cfg = s.cfg ∧
    (State.opCmd s n o c).sticky = s.sticky ∧
    (State.opCmd s n o c).view = s.view ∧
    (State.opCmd s n o c).powered = s.powered ∧
    (State.opCmd s n o c).agt = s.agt ∧
    (State.opCmd s n o c).cask = s.cask := by
  have h := State.opCmd_keeps s n o c
  exact ⟨h .pending (by decide), h .time (by decide), h .freeCtr (by decide), h .regs (by decide), h .evt (by decide), h .plat (by decide), h .keeper (by decide), h .chs (by decide), h .cellar (by decide), h .press (by decide), h .vault (by decide), h .ctl (by decide), h .cntr (by decide), h .tlm (by decide), h .wd0 (by decide), h .clk (by decide), h .host (by decide), h .ident (by decide), h .sealing (by decide), h .crypt (by decide), h .life (by decide), h .side (by decide), h .aux (by decide), State.chan_of (h .chs (by decide)), State.cfg_of (h .regs (by decide)), State.sticky_of (h .regs (by decide)), State.view_of (h .regs (by decide)), State.powered_of (h .plat (by decide)), State.agt_of (h .ctl (by decide)), State.cask_of (h .crypt (by decide))⟩

@[simp] theorem State.updPart_rest (s : State) (n : Ch) (k : PartId) (f : Part → Part) :
    (State.updPart s n k f).pending = s.pending ∧
    (State.updPart s n k f).time = s.time ∧
    (State.updPart s n k f).freeCtr = s.freeCtr ∧
    (State.updPart s n k f).outbox = s.outbox ∧
    (State.updPart s n k f).regs = s.regs ∧
    (State.updPart s n k f).evt = s.evt ∧
    (State.updPart s n k f).plat = s.plat ∧
    (State.updPart s n k f).keeper = s.keeper ∧
    (State.updPart s n k f).cellar = s.cellar ∧
    (State.updPart s n k f).press = s.press ∧
    (State.updPart s n k f).vault = s.vault ∧
    (State.updPart s n k f).ctl = s.ctl ∧
    (State.updPart s n k f).cntr = s.cntr ∧
    (State.updPart s n k f).tlm = s.tlm ∧
    (State.updPart s n k f).wd0 = s.wd0 ∧
    (State.updPart s n k f).clk = s.clk ∧
    (State.updPart s n k f).host = s.host ∧
    (State.updPart s n k f).ident = s.ident ∧
    (State.updPart s n k f).sealing = s.sealing ∧
    (State.updPart s n k f).crypt = s.crypt ∧
    (State.updPart s n k f).life = s.life ∧
    (State.updPart s n k f).side = s.side ∧
    (State.updPart s n k f).aux = s.aux ∧
    (State.updPart s n k f).cfg = s.cfg ∧
    (State.updPart s n k f).sticky = s.sticky ∧
    (State.updPart s n k f).view = s.view ∧
    (State.updPart s n k f).powered = s.powered ∧
    (State.updPart s n k f).agt = s.agt ∧
    (State.updPart s n k f).cask = s.cask := by
  have h := State.updPart_keeps s n k f
  exact ⟨h .pending (by decide), h .time (by decide), h .freeCtr (by decide), h .outbox (by decide), h .regs (by decide), h .evt (by decide), h .plat (by decide), h .keeper (by decide), h .cellar (by decide), h .press (by decide), h .vault (by decide), h .ctl (by decide), h .cntr (by decide), h .tlm (by decide), h .wd0 (by decide), h .clk (by decide), h .host (by decide), h .ident (by decide), h .sealing (by decide), h .crypt (by decide), h .life (by decide), h .side (by decide), h .aux (by decide), State.cfg_of (h .regs (by decide)), State.sticky_of (h .regs (by decide)), State.view_of (h .regs (by decide)), State.powered_of (h .plat (by decide)), State.agt_of (h .ctl (by decide)), State.cask_of (h .crypt (by decide))⟩

@[simp] theorem State.setBusy_rest (s : State) (n : Ch) (ks : List PartId) (b : Option Busy) :
    (State.setBusy s n ks b).pending = s.pending ∧
    (State.setBusy s n ks b).time = s.time ∧
    (State.setBusy s n ks b).freeCtr = s.freeCtr ∧
    (State.setBusy s n ks b).outbox = s.outbox ∧
    (State.setBusy s n ks b).regs = s.regs ∧
    (State.setBusy s n ks b).evt = s.evt ∧
    (State.setBusy s n ks b).plat = s.plat ∧
    (State.setBusy s n ks b).keeper = s.keeper ∧
    (State.setBusy s n ks b).cellar = s.cellar ∧
    (State.setBusy s n ks b).press = s.press ∧
    (State.setBusy s n ks b).vault = s.vault ∧
    (State.setBusy s n ks b).ctl = s.ctl ∧
    (State.setBusy s n ks b).cntr = s.cntr ∧
    (State.setBusy s n ks b).tlm = s.tlm ∧
    (State.setBusy s n ks b).wd0 = s.wd0 ∧
    (State.setBusy s n ks b).clk = s.clk ∧
    (State.setBusy s n ks b).host = s.host ∧
    (State.setBusy s n ks b).ident = s.ident ∧
    (State.setBusy s n ks b).sealing = s.sealing ∧
    (State.setBusy s n ks b).crypt = s.crypt ∧
    (State.setBusy s n ks b).life = s.life ∧
    (State.setBusy s n ks b).side = s.side ∧
    (State.setBusy s n ks b).aux = s.aux ∧
    (State.setBusy s n ks b).cfg = s.cfg ∧
    (State.setBusy s n ks b).sticky = s.sticky ∧
    (State.setBusy s n ks b).view = s.view ∧
    (State.setBusy s n ks b).powered = s.powered ∧
    (State.setBusy s n ks b).agt = s.agt ∧
    (State.setBusy s n ks b).cask = s.cask := by
  have h := State.setBusy_keeps s n ks b
  exact ⟨h .pending (by decide), h .time (by decide), h .freeCtr (by decide), h .outbox (by decide), h .regs (by decide), h .evt (by decide), h .plat (by decide), h .keeper (by decide), h .cellar (by decide), h .press (by decide), h .vault (by decide), h .ctl (by decide), h .cntr (by decide), h .tlm (by decide), h .wd0 (by decide), h .clk (by decide), h .host (by decide), h .ident (by decide), h .sealing (by decide), h .crypt (by decide), h .life (by decide), h .side (by decide), h .aux (by decide), State.cfg_of (h .regs (by decide)), State.sticky_of (h .regs (by decide)), State.view_of (h .regs (by decide)), State.powered_of (h .plat (by decide)), State.agt_of (h .ctl (by decide)), State.cask_of (h .crypt (by decide))⟩

@[simp] theorem State.resumeAll_rest (s : State) (n : Ch) :
    (State.resumeAll s n).pending = s.pending ∧
    (State.resumeAll s n).time = s.time ∧
    (State.resumeAll s n).freeCtr = s.freeCtr ∧
    (State.resumeAll s n).regs = s.regs ∧
    (State.resumeAll s n).evt = s.evt ∧
    (State.resumeAll s n).plat = s.plat ∧
    (State.resumeAll s n).keeper = s.keeper ∧
    (State.resumeAll s n).cellar = s.cellar ∧
    (State.resumeAll s n).press = s.press ∧
    (State.resumeAll s n).vault = s.vault ∧
    (State.resumeAll s n).ctl = s.ctl ∧
    (State.resumeAll s n).cntr = s.cntr ∧
    (State.resumeAll s n).tlm = s.tlm ∧
    (State.resumeAll s n).wd0 = s.wd0 ∧
    (State.resumeAll s n).clk = s.clk ∧
    (State.resumeAll s n).host = s.host ∧
    (State.resumeAll s n).ident = s.ident ∧
    (State.resumeAll s n).sealing = s.sealing ∧
    (State.resumeAll s n).crypt = s.crypt ∧
    (State.resumeAll s n).life = s.life ∧
    (State.resumeAll s n).side = s.side ∧
    (State.resumeAll s n).aux = s.aux ∧
    (State.resumeAll s n).cfg = s.cfg ∧
    (State.resumeAll s n).sticky = s.sticky ∧
    (State.resumeAll s n).view = s.view ∧
    (State.resumeAll s n).powered = s.powered ∧
    (State.resumeAll s n).agt = s.agt ∧
    (State.resumeAll s n).cask = s.cask := by
  have h := State.resumeAll_keeps s n
  exact ⟨h .pending (by decide), h .time (by decide), h .freeCtr (by decide), h .regs (by decide), h .evt (by decide), h .plat (by decide), h .keeper (by decide), h .cellar (by decide), h .press (by decide), h .vault (by decide), h .ctl (by decide), h .cntr (by decide), h .tlm (by decide), h .wd0 (by decide), h .clk (by decide), h .host (by decide), h .ident (by decide), h .sealing (by decide), h .crypt (by decide), h .life (by decide), h .side (by decide), h .aux (by decide), State.cfg_of (h .regs (by decide)), State.sticky_of (h .regs (by decide)), State.view_of (h .regs (by decide)), State.powered_of (h .plat (by decide)), State.agt_of (h .ctl (by decide)), State.cask_of (h .crypt (by decide))⟩

@[simp] theorem State.dropReset_rest (s : State) (n : Ch) :
    (State.dropReset s n).pending = s.pending ∧
    (State.dropReset s n).time = s.time ∧
    (State.dropReset s n).freeCtr = s.freeCtr ∧
    (State.dropReset s n).regs = s.regs ∧
    (State.dropReset s n).plat = s.plat ∧
    (State.dropReset s n).keeper = s.keeper ∧
    (State.dropReset s n).cellar = s.cellar ∧
    (State.dropReset s n).press = s.press ∧
    (State.dropReset s n).vault = s.vault ∧
    (State.dropReset s n).cntr = s.cntr ∧
    (State.dropReset s n).tlm = s.tlm ∧
    (State.dropReset s n).wd0 = s.wd0 ∧
    (State.dropReset s n).clk = s.clk ∧
    (State.dropReset s n).host = s.host ∧
    (State.dropReset s n).ident = s.ident ∧
    (State.dropReset s n).sealing = s.sealing ∧
    (State.dropReset s n).crypt = s.crypt ∧
    (State.dropReset s n).life = s.life ∧
    (State.dropReset s n).side = s.side ∧
    (State.dropReset s n).aux = s.aux ∧
    (State.dropReset s n).cfg = s.cfg ∧
    (State.dropReset s n).sticky = s.sticky ∧
    (State.dropReset s n).view = s.view ∧
    (State.dropReset s n).powered = s.powered ∧
    (State.dropReset s n).cask = s.cask := by
  have h := State.dropReset_keeps s n
  exact ⟨h .pending (by decide), h .time (by decide), h .freeCtr (by decide), h .regs (by decide), h .plat (by decide), h .keeper (by decide), h .cellar (by decide), h .press (by decide), h .vault (by decide), h .cntr (by decide), h .tlm (by decide), h .wd0 (by decide), h .clk (by decide), h .host (by decide), h .ident (by decide), h .sealing (by decide), h .crypt (by decide), h .life (by decide), h .side (by decide), h .aux (by decide), State.cfg_of (h .regs (by decide)), State.sticky_of (h .regs (by decide)), State.view_of (h .regs (by decide)), State.powered_of (h .plat (by decide)), State.cask_of (h .crypt (by decide))⟩

@[simp] theorem State.pressEnd_rest (s : State) (p : Job → Bool) :
    (State.pressEnd s p).pending = s.pending ∧
    (State.pressEnd s p).time = s.time ∧
    (State.pressEnd s p).freeCtr = s.freeCtr ∧
    (State.pressEnd s p).outbox = s.outbox ∧
    (State.pressEnd s p).regs = s.regs ∧
    (State.pressEnd s p).evt = s.evt ∧
    (State.pressEnd s p).plat = s.plat ∧
    (State.pressEnd s p).keeper = s.keeper ∧
    (State.pressEnd s p).chs = s.chs ∧
    (State.pressEnd s p).cellar = s.cellar ∧
    (State.pressEnd s p).vault = s.vault ∧
    (State.pressEnd s p).ctl = s.ctl ∧
    (State.pressEnd s p).cntr = s.cntr ∧
    (State.pressEnd s p).tlm = s.tlm ∧
    (State.pressEnd s p).wd0 = s.wd0 ∧
    (State.pressEnd s p).clk = s.clk ∧
    (State.pressEnd s p).host = s.host ∧
    (State.pressEnd s p).ident = s.ident ∧
    (State.pressEnd s p).sealing = s.sealing ∧
    (State.pressEnd s p).crypt = s.crypt ∧
    (State.pressEnd s p).life = s.life ∧
    (State.pressEnd s p).side = s.side ∧
    (State.pressEnd s p).aux = s.aux ∧
    (State.pressEnd s p).chan = s.chan ∧
    (State.pressEnd s p).cfg = s.cfg ∧
    (State.pressEnd s p).sticky = s.sticky ∧
    (State.pressEnd s p).view = s.view ∧
    (State.pressEnd s p).powered = s.powered ∧
    (State.pressEnd s p).agt = s.agt ∧
    (State.pressEnd s p).cask = s.cask := by
  have h := State.pressEnd_keeps s p
  exact ⟨h .pending (by decide), h .time (by decide), h .freeCtr (by decide), h .outbox (by decide), h .regs (by decide), h .evt (by decide), h .plat (by decide), h .keeper (by decide), h .chs (by decide), h .cellar (by decide), h .vault (by decide), h .ctl (by decide), h .cntr (by decide), h .tlm (by decide), h .wd0 (by decide), h .clk (by decide), h .host (by decide), h .ident (by decide), h .sealing (by decide), h .crypt (by decide), h .life (by decide), h .side (by decide), h .aux (by decide), State.chan_of (h .chs (by decide)), State.cfg_of (h .regs (by decide)), State.sticky_of (h .regs (by decide)), State.view_of (h .regs (by decide)), State.powered_of (h .plat (by decide)), State.agt_of (h .ctl (by decide)), State.cask_of (h .crypt (by decide))⟩

@[simp] theorem State.dropFrames_rest (s : State) (n : Ch) :
    (State.dropFrames s n).pending = s.pending ∧
    (State.dropFrames s n).time = s.time ∧
    (State.dropFrames s n).freeCtr = s.freeCtr ∧
    (State.dropFrames s n).outbox = s.outbox ∧
    (State.dropFrames s n).regs = s.regs ∧
    (State.dropFrames s n).evt = s.evt ∧
    (State.dropFrames s n).plat = s.plat ∧
    (State.dropFrames s n).keeper = s.keeper ∧
    (State.dropFrames s n).vault = s.vault ∧
    (State.dropFrames s n).ctl = s.ctl ∧
    (State.dropFrames s n).cntr = s.cntr ∧
    (State.dropFrames s n).tlm = s.tlm ∧
    (State.dropFrames s n).wd0 = s.wd0 ∧
    (State.dropFrames s n).clk = s.clk ∧
    (State.dropFrames s n).host = s.host ∧
    (State.dropFrames s n).ident = s.ident ∧
    (State.dropFrames s n).sealing = s.sealing ∧
    (State.dropFrames s n).crypt = s.crypt ∧
    (State.dropFrames s n).life = s.life ∧
    (State.dropFrames s n).side = s.side ∧
    (State.dropFrames s n).aux = s.aux ∧
    (State.dropFrames s n).cfg = s.cfg ∧
    (State.dropFrames s n).sticky = s.sticky ∧
    (State.dropFrames s n).view = s.view ∧
    (State.dropFrames s n).powered = s.powered ∧
    (State.dropFrames s n).agt = s.agt ∧
    (State.dropFrames s n).cask = s.cask := by
  have h := State.dropFrames_keeps s n
  exact ⟨h .pending (by decide), h .time (by decide), h .freeCtr (by decide), h .outbox (by decide), h .regs (by decide), h .evt (by decide), h .plat (by decide), h .keeper (by decide), h .vault (by decide), h .ctl (by decide), h .cntr (by decide), h .tlm (by decide), h .wd0 (by decide), h .clk (by decide), h .host (by decide), h .ident (by decide), h .sealing (by decide), h .crypt (by decide), h .life (by decide), h .side (by decide), h .aux (by decide), State.cfg_of (h .regs (by decide)), State.sticky_of (h .regs (by decide)), State.view_of (h .regs (by decide)), State.powered_of (h .plat (by decide)), State.agt_of (h .ctl (by decide)), State.cask_of (h .crypt (by decide))⟩

@[simp] theorem State.resetSlot_rest (s : State) (n : Ch) (k : SlotId) :
    (State.resetSlot s n k).pending = s.pending ∧
    (State.resetSlot s n k).time = s.time ∧
    (State.resetSlot s n k).freeCtr = s.freeCtr ∧
    (State.resetSlot s n k).outbox = s.outbox ∧
    (State.resetSlot s n k).regs = s.regs ∧
    (State.resetSlot s n k).plat = s.plat ∧
    (State.resetSlot s n k).keeper = s.keeper ∧
    (State.resetSlot s n k).cellar = s.cellar ∧
    (State.resetSlot s n k).press = s.press ∧
    (State.resetSlot s n k).ctl = s.ctl ∧
    (State.resetSlot s n k).cntr = s.cntr ∧
    (State.resetSlot s n k).tlm = s.tlm ∧
    (State.resetSlot s n k).wd0 = s.wd0 ∧
    (State.resetSlot s n k).clk = s.clk ∧
    (State.resetSlot s n k).host = s.host ∧
    (State.resetSlot s n k).ident = s.ident ∧
    (State.resetSlot s n k).sealing = s.sealing ∧
    (State.resetSlot s n k).crypt = s.crypt ∧
    (State.resetSlot s n k).life = s.life ∧
    (State.resetSlot s n k).side = s.side ∧
    (State.resetSlot s n k).aux = s.aux ∧
    (State.resetSlot s n k).cfg = s.cfg ∧
    (State.resetSlot s n k).sticky = s.sticky ∧
    (State.resetSlot s n k).view = s.view ∧
    (State.resetSlot s n k).powered = s.powered ∧
    (State.resetSlot s n k).agt = s.agt ∧
    (State.resetSlot s n k).cask = s.cask := by
  have h := State.resetSlot_keeps s n k
  exact ⟨h .pending (by decide), h .time (by decide), h .freeCtr (by decide), h .outbox (by decide), h .regs (by decide), h .plat (by decide), h .keeper (by decide), h .cellar (by decide), h .press (by decide), h .ctl (by decide), h .cntr (by decide), h .tlm (by decide), h .wd0 (by decide), h .clk (by decide), h .host (by decide), h .ident (by decide), h .sealing (by decide), h .crypt (by decide), h .life (by decide), h .side (by decide), h .aux (by decide), State.cfg_of (h .regs (by decide)), State.sticky_of (h .regs (by decide)), State.view_of (h .regs (by decide)), State.powered_of (h .plat (by decide)), State.agt_of (h .ctl (by decide)), State.cask_of (h .crypt (by decide))⟩

@[simp] theorem State.resetSlots_rest (s : State) (n : Ch) :
    (State.resetSlots s n).1.pending = s.pending ∧
    (State.resetSlots s n).1.time = s.time ∧
    (State.resetSlots s n).1.freeCtr = s.freeCtr ∧
    (State.resetSlots s n).1.outbox = s.outbox ∧
    (State.resetSlots s n).1.plat = s.plat ∧
    (State.resetSlots s n).1.keeper = s.keeper ∧
    (State.resetSlots s n).1.press = s.press ∧
    (State.resetSlots s n).1.ctl = s.ctl ∧
    (State.resetSlots s n).1.cntr = s.cntr ∧
    (State.resetSlots s n).1.tlm = s.tlm ∧
    (State.resetSlots s n).1.wd0 = s.wd0 ∧
    (State.resetSlots s n).1.clk = s.clk ∧
    (State.resetSlots s n).1.host = s.host ∧
    (State.resetSlots s n).1.sealing = s.sealing ∧
    (State.resetSlots s n).1.crypt = s.crypt ∧
    (State.resetSlots s n).1.life = s.life ∧
    (State.resetSlots s n).1.side = s.side ∧
    (State.resetSlots s n).1.aux = s.aux ∧
    (State.resetSlots s n).1.powered = s.powered ∧
    (State.resetSlots s n).1.agt = s.agt ∧
    (State.resetSlots s n).1.cask = s.cask := by
  have h := State.resetSlots_keeps s n
  exact ⟨h .pending (by decide), h .time (by decide), h .freeCtr (by decide), h .outbox (by decide), h .plat (by decide), h .keeper (by decide), h .press (by decide), h .ctl (by decide), h .cntr (by decide), h .tlm (by decide), h .wd0 (by decide), h .clk (by decide), h .host (by decide), h .sealing (by decide), h .crypt (by decide), h .life (by decide), h .side (by decide), h .aux (by decide), State.powered_of (h .plat (by decide)), State.agt_of (h .ctl (by decide)), State.cask_of (h .crypt (by decide))⟩

@[simp] theorem State.setPin_rest (s : State) (k : Nat) (on : Bool) :
    (State.setPin s k on).pending = s.pending ∧
    (State.setPin s k on).time = s.time ∧
    (State.setPin s k on).freeCtr = s.freeCtr ∧
    (State.setPin s k on).outbox = s.outbox ∧
    (State.setPin s k on).regs = s.regs ∧
    (State.setPin s k on).evt = s.evt ∧
    (State.setPin s k on).plat = s.plat ∧
    (State.setPin s k on).keeper = s.keeper ∧
    (State.setPin s k on).chs = s.chs ∧
    (State.setPin s k on).cellar = s.cellar ∧
    (State.setPin s k on).press = s.press ∧
    (State.setPin s k on).vault = s.vault ∧
    (State.setPin s k on).cntr = s.cntr ∧
    (State.setPin s k on).tlm = s.tlm ∧
    (State.setPin s k on).wd0 = s.wd0 ∧
    (State.setPin s k on).clk = s.clk ∧
    (State.setPin s k on).host = s.host ∧
    (State.setPin s k on).ident = s.ident ∧
    (State.setPin s k on).sealing = s.sealing ∧
    (State.setPin s k on).crypt = s.crypt ∧
    (State.setPin s k on).life = s.life ∧
    (State.setPin s k on).side = s.side ∧
    (State.setPin s k on).aux = s.aux ∧
    (State.setPin s k on).chan = s.chan ∧
    (State.setPin s k on).cfg = s.cfg ∧
    (State.setPin s k on).sticky = s.sticky ∧
    (State.setPin s k on).view = s.view ∧
    (State.setPin s k on).powered = s.powered ∧
    (State.setPin s k on).cask = s.cask := by
  have h := State.setPin_keeps s k on
  exact ⟨h .pending (by decide), h .time (by decide), h .freeCtr (by decide), h .outbox (by decide), h .regs (by decide), h .evt (by decide), h .plat (by decide), h .keeper (by decide), h .chs (by decide), h .cellar (by decide), h .press (by decide), h .vault (by decide), h .cntr (by decide), h .tlm (by decide), h .wd0 (by decide), h .clk (by decide), h .host (by decide), h .ident (by decide), h .sealing (by decide), h .crypt (by decide), h .life (by decide), h .side (by decide), h .aux (by decide), State.chan_of (h .chs (by decide)), State.cfg_of (h .regs (by decide)), State.sticky_of (h .regs (by decide)), State.view_of (h .regs (by decide)), State.powered_of (h .plat (by decide)), State.cask_of (h .crypt (by decide))⟩

@[simp] theorem State.powerOffQ_rest (s : State) (n : Ch) :
    (State.powerOffQ s n).pending = s.pending ∧
    (State.powerOffQ s n).time = s.time ∧
    (State.powerOffQ s n).freeCtr = s.freeCtr ∧
    (State.powerOffQ s n).outbox = s.outbox ∧
    (State.powerOffQ s n).regs = s.regs ∧
    (State.powerOffQ s n).evt = s.evt ∧
    (State.powerOffQ s n).plat = s.plat ∧
    (State.powerOffQ s n).keeper = s.keeper ∧
    (State.powerOffQ s n).chs = s.chs ∧
    (State.powerOffQ s n).cellar = s.cellar ∧
    (State.powerOffQ s n).press = s.press ∧
    (State.powerOffQ s n).vault = s.vault ∧
    (State.powerOffQ s n).cntr = s.cntr ∧
    (State.powerOffQ s n).tlm = s.tlm ∧
    (State.powerOffQ s n).wd0 = s.wd0 ∧
    (State.powerOffQ s n).clk = s.clk ∧
    (State.powerOffQ s n).host = s.host ∧
    (State.powerOffQ s n).ident = s.ident ∧
    (State.powerOffQ s n).sealing = s.sealing ∧
    (State.powerOffQ s n).crypt = s.crypt ∧
    (State.powerOffQ s n).life = s.life ∧
    (State.powerOffQ s n).side = s.side ∧
    (State.powerOffQ s n).aux = s.aux ∧
    (State.powerOffQ s n).chan = s.chan ∧
    (State.powerOffQ s n).cfg = s.cfg ∧
    (State.powerOffQ s n).sticky = s.sticky ∧
    (State.powerOffQ s n).view = s.view ∧
    (State.powerOffQ s n).powered = s.powered ∧
    (State.powerOffQ s n).cask = s.cask := by
  have h := State.powerOffQ_keeps s n
  exact ⟨h .pending (by decide), h .time (by decide), h .freeCtr (by decide), h .outbox (by decide), h .regs (by decide), h .evt (by decide), h .plat (by decide), h .keeper (by decide), h .chs (by decide), h .cellar (by decide), h .press (by decide), h .vault (by decide), h .cntr (by decide), h .tlm (by decide), h .wd0 (by decide), h .clk (by decide), h .host (by decide), h .ident (by decide), h .sealing (by decide), h .crypt (by decide), h .life (by decide), h .side (by decide), h .aux (by decide), State.chan_of (h .chs (by decide)), State.cfg_of (h .regs (by decide)), State.sticky_of (h .regs (by decide)), State.view_of (h .regs (by decide)), State.powered_of (h .plat (by decide)), State.cask_of (h .crypt (by decide))⟩

@[simp] theorem State.reimage_rest (s : State) (n : Ch) (job : RecJob) :
    (State.reimage s n job).pending = s.pending ∧
    (State.reimage s n job).time = s.time ∧
    (State.reimage s n job).outbox = s.outbox ∧
    (State.reimage s n job).regs = s.regs ∧
    (State.reimage s n job).plat = s.plat ∧
    (State.reimage s n job).vault = s.vault ∧
    (State.reimage s n job).cntr = s.cntr ∧
    (State.reimage s n job).tlm = s.tlm ∧
    (State.reimage s n job).wd0 = s.wd0 ∧
    (State.reimage s n job).clk = s.clk ∧
    (State.reimage s n job).host = s.host ∧
    (State.reimage s n job).sealing = s.sealing ∧
    (State.reimage s n job).crypt = s.crypt ∧
    (State.reimage s n job).life = s.life ∧
    (State.reimage s n job).side = s.side ∧
    (State.reimage s n job).aux = s.aux ∧
    (State.reimage s n job).cfg = s.cfg ∧
    (State.reimage s n job).sticky = s.sticky ∧
    (State.reimage s n job).view = s.view ∧
    (State.reimage s n job).powered = s.powered ∧
    (State.reimage s n job).cask = s.cask := by
  have h := State.reimage_keeps s n job
  exact ⟨h .pending (by decide), h .time (by decide), h .outbox (by decide), h .regs (by decide), h .plat (by decide), h .vault (by decide), h .cntr (by decide), h .tlm (by decide), h .wd0 (by decide), h .clk (by decide), h .host (by decide), h .sealing (by decide), h .crypt (by decide), h .life (by decide), h .side (by decide), h .aux (by decide), State.cfg_of (h .regs (by decide)), State.sticky_of (h .regs (by decide)), State.view_of (h .regs (by decide)), State.powered_of (h .plat (by decide)), State.cask_of (h .crypt (by decide))⟩

@[simp] theorem State.enterReimaging_rest (s : State) (n : Ch) (slots : List Nat) (source : Nat) (single : Bool) :
    (State.enterReimaging s n slots source single).pending = s.pending ∧
    (State.enterReimaging s n slots source single).time = s.time ∧
    (State.enterReimaging s n slots source single).outbox = s.outbox ∧
    (State.enterReimaging s n slots source single).regs = s.regs ∧
    (State.enterReimaging s n slots source single).plat = s.plat ∧
    (State.enterReimaging s n slots source single).vault = s.vault ∧
    (State.enterReimaging s n slots source single).cntr = s.cntr ∧
    (State.enterReimaging s n slots source single).tlm = s.tlm ∧
    (State.enterReimaging s n slots source single).wd0 = s.wd0 ∧
    (State.enterReimaging s n slots source single).clk = s.clk ∧
    (State.enterReimaging s n slots source single).host = s.host ∧
    (State.enterReimaging s n slots source single).sealing = s.sealing ∧
    (State.enterReimaging s n slots source single).crypt = s.crypt ∧
    (State.enterReimaging s n slots source single).life = s.life ∧
    (State.enterReimaging s n slots source single).side = s.side ∧
    (State.enterReimaging s n slots source single).aux = s.aux ∧
    (State.enterReimaging s n slots source single).cfg = s.cfg ∧
    (State.enterReimaging s n slots source single).sticky = s.sticky ∧
    (State.enterReimaging s n slots source single).view = s.view ∧
    (State.enterReimaging s n slots source single).powered = s.powered ∧
    (State.enterReimaging s n slots source single).cask = s.cask := by
  have h := State.enterReimaging_keeps s n slots source single
  exact ⟨h .pending (by decide), h .time (by decide), h .outbox (by decide), h .regs (by decide), h .plat (by decide), h .vault (by decide), h .cntr (by decide), h .tlm (by decide), h .wd0 (by decide), h .clk (by decide), h .host (by decide), h .sealing (by decide), h .crypt (by decide), h .life (by decide), h .side (by decide), h .aux (by decide), State.cfg_of (h .regs (by decide)), State.sticky_of (h .regs (by decide)), State.view_of (h .regs (by decide)), State.powered_of (h .plat (by decide)), State.cask_of (h .crypt (by decide))⟩

@[simp] theorem State.quarantine_rest (s : State) (n : Ch) (cause : Nat) :
    (State.quarantine s n cause).pending = s.pending ∧
    (State.quarantine s n cause).time = s.time ∧
    (State.quarantine s n cause).plat = s.plat ∧
    (State.quarantine s n cause).cntr = s.cntr ∧
    (State.quarantine s n cause).tlm = s.tlm ∧
    (State.quarantine s n cause).wd0 = s.wd0 ∧
    (State.quarantine s n cause).clk = s.clk ∧
    (State.quarantine s n cause).host = s.host ∧
    (State.quarantine s n cause).sealing = s.sealing ∧
    (State.quarantine s n cause).crypt = s.crypt ∧
    (State.quarantine s n cause).life = s.life ∧
    (State.quarantine s n cause).side = s.side ∧
    (State.quarantine s n cause).aux = s.aux ∧
    (State.quarantine s n cause).powered = s.powered ∧
    (State.quarantine s n cause).cask = s.cask := by
  have h := State.quarantine_keeps s n cause
  exact ⟨h .pending (by decide), h .time (by decide), h .plat (by decide), h .cntr (by decide), h .tlm (by decide), h .wd0 (by decide), h .clk (by decide), h .host (by decide), h .sealing (by decide), h .crypt (by decide), h .life (by decide), h .side (by decide), h .aux (by decide), State.powered_of (h .plat (by decide)), State.cask_of (h .crypt (by decide))⟩

@[simp] theorem State.noFit_rest (s : State) (n : Ch) :
    (State.noFit s n).pending = s.pending ∧
    (State.noFit s n).time = s.time ∧
    (State.noFit s n).plat = s.plat ∧
    (State.noFit s n).cntr = s.cntr ∧
    (State.noFit s n).tlm = s.tlm ∧
    (State.noFit s n).wd0 = s.wd0 ∧
    (State.noFit s n).clk = s.clk ∧
    (State.noFit s n).host = s.host ∧
    (State.noFit s n).sealing = s.sealing ∧
    (State.noFit s n).crypt = s.crypt ∧
    (State.noFit s n).life = s.life ∧
    (State.noFit s n).side = s.side ∧
    (State.noFit s n).aux = s.aux ∧
    (State.noFit s n).powered = s.powered ∧
    (State.noFit s n).cask = s.cask := by
  have h := State.noFit_keeps s n
  exact ⟨h .pending (by decide), h .time (by decide), h .plat (by decide), h .cntr (by decide), h .tlm (by decide), h .wd0 (by decide), h .clk (by decide), h .host (by decide), h .sealing (by decide), h .crypt (by decide), h .life (by decide), h .side (by decide), h .aux (by decide), State.powered_of (h .plat (by decide)), State.cask_of (h .crypt (by decide))⟩

@[simp] theorem State.reserve_rest (s : State) (n : Ch) :
    (State.reserve s n).pending = s.pending ∧
    (State.reserve s n).time = s.time ∧
    (State.reserve s n).plat = s.plat ∧
    (State.reserve s n).cntr = s.cntr ∧
    (State.reserve s n).tlm = s.tlm ∧
    (State.reserve s n).wd0 = s.wd0 ∧
    (State.reserve s n).clk = s.clk ∧
    (State.reserve s n).host = s.host ∧
    (State.reserve s n).sealing = s.sealing ∧
    (State.reserve s n).crypt = s.crypt ∧
    (State.reserve s n).life = s.life ∧
    (State.reserve s n).side = s.side ∧
    (State.reserve s n).aux = s.aux ∧
    (State.reserve s n).powered = s.powered ∧
    (State.reserve s n).cask = s.cask := by
  have h := State.reserve_keeps s n
  exact ⟨h .pending (by decide), h .time (by decide), h .plat (by decide), h .cntr (by decide), h .tlm (by decide), h .wd0 (by decide), h .clk (by decide), h .host (by decide), h .sealing (by decide), h .crypt (by decide), h .life (by decide), h .side (by decide), h .aux (by decide), State.powered_of (h .plat (by decide)), State.cask_of (h .crypt (by decide))⟩

@[simp] theorem State.tryDecant_rest (s : State) (n : Ch) :
    (State.tryDecant s n).pending = s.pending ∧
    (State.tryDecant s n).time = s.time ∧
    (State.tryDecant s n).plat = s.plat ∧
    (State.tryDecant s n).cntr = s.cntr ∧
    (State.tryDecant s n).tlm = s.tlm ∧
    (State.tryDecant s n).wd0 = s.wd0 ∧
    (State.tryDecant s n).clk = s.clk ∧
    (State.tryDecant s n).host = s.host ∧
    (State.tryDecant s n).sealing = s.sealing ∧
    (State.tryDecant s n).crypt = s.crypt ∧
    (State.tryDecant s n).life = s.life ∧
    (State.tryDecant s n).side = s.side ∧
    (State.tryDecant s n).aux = s.aux ∧
    (State.tryDecant s n).powered = s.powered ∧
    (State.tryDecant s n).cask = s.cask := by
  have h := State.tryDecant_keeps s n
  exact ⟨h .pending (by decide), h .time (by decide), h .plat (by decide), h .cntr (by decide), h .tlm (by decide), h .wd0 (by decide), h .clk (by decide), h .host (by decide), h .sealing (by decide), h .crypt (by decide), h .life (by decide), h .side (by decide), h .aux (by decide), State.powered_of (h .plat (by decide)), State.cask_of (h .crypt (by decide))⟩

@[simp] theorem State.flushCpl_rest (s : State) :
    (State.flushCpl s).pending = s.pending ∧
    (State.flushCpl s).time = s.time ∧
    (State.flushCpl s).freeCtr = s.freeCtr ∧
    (State.flushCpl s).regs = s.regs ∧
    (State.flushCpl s).plat = s.plat ∧
    (State.flushCpl s).keeper = s.keeper ∧
    (State.flushCpl s).chs = s.chs ∧
    (State.flushCpl s).cellar = s.cellar ∧
    (State.flushCpl s).press = s.press ∧
    (State.flushCpl s).vault = s.vault ∧
    (State.flushCpl s).ctl = s.ctl ∧
    (State.flushCpl s).wd0 = s.wd0 ∧
    (State.flushCpl s).clk = s.clk ∧
    (State.flushCpl s).ident = s.ident ∧
    (State.flushCpl s).sealing = s.sealing ∧
    (State.flushCpl s).crypt = s.crypt ∧
    (State.flushCpl s).life = s.life ∧
    (State.flushCpl s).side = s.side ∧
    (State.flushCpl s).aux = s.aux ∧
    (State.flushCpl s).chan = s.chan ∧
    (State.flushCpl s).cfg = s.cfg ∧
    (State.flushCpl s).sticky = s.sticky ∧
    (State.flushCpl s).view = s.view ∧
    (State.flushCpl s).powered = s.powered ∧
    (State.flushCpl s).agt = s.agt ∧
    (State.flushCpl s).cask = s.cask := by
  have h := State.flushCpl_keeps s
  exact ⟨h .pending (by decide), h .time (by decide), h .freeCtr (by decide), h .regs (by decide), h .plat (by decide), h .keeper (by decide), h .chs (by decide), h .cellar (by decide), h .press (by decide), h .vault (by decide), h .ctl (by decide), h .wd0 (by decide), h .clk (by decide), h .ident (by decide), h .sealing (by decide), h .crypt (by decide), h .life (by decide), h .side (by decide), h .aux (by decide), State.chan_of (h .chs (by decide)), State.cfg_of (h .regs (by decide)), State.sticky_of (h .regs (by decide)), State.view_of (h .regs (by decide)), State.powered_of (h .plat (by decide)), State.agt_of (h .ctl (by decide)), State.cask_of (h .crypt (by decide))⟩

@[simp] theorem State.armXip_rest (s : State) (t : Txn) (acfg : Word) (e : Word) (done : Bool) :
    (State.armXip s t acfg e done).pending = s.pending ∧
    (State.armXip s t acfg e done).time = s.time ∧
    (State.armXip s t acfg e done).freeCtr = s.freeCtr ∧
    (State.armXip s t acfg e done).outbox = s.outbox ∧
    (State.armXip s t acfg e done).regs = s.regs ∧
    (State.armXip s t acfg e done).evt = s.evt ∧
    (State.armXip s t acfg e done).plat = s.plat ∧
    (State.armXip s t acfg e done).keeper = s.keeper ∧
    (State.armXip s t acfg e done).cellar = s.cellar ∧
    (State.armXip s t acfg e done).press = s.press ∧
    (State.armXip s t acfg e done).vault = s.vault ∧
    (State.armXip s t acfg e done).ctl = s.ctl ∧
    (State.armXip s t acfg e done).cntr = s.cntr ∧
    (State.armXip s t acfg e done).tlm = s.tlm ∧
    (State.armXip s t acfg e done).wd0 = s.wd0 ∧
    (State.armXip s t acfg e done).clk = s.clk ∧
    (State.armXip s t acfg e done).host = s.host ∧
    (State.armXip s t acfg e done).ident = s.ident ∧
    (State.armXip s t acfg e done).sealing = s.sealing ∧
    (State.armXip s t acfg e done).crypt = s.crypt ∧
    (State.armXip s t acfg e done).life = s.life ∧
    (State.armXip s t acfg e done).side = s.side ∧
    (State.armXip s t acfg e done).aux = s.aux ∧
    (State.armXip s t acfg e done).cfg = s.cfg ∧
    (State.armXip s t acfg e done).sticky = s.sticky ∧
    (State.armXip s t acfg e done).view = s.view ∧
    (State.armXip s t acfg e done).powered = s.powered ∧
    (State.armXip s t acfg e done).agt = s.agt ∧
    (State.armXip s t acfg e done).cask = s.cask := by
  have h := State.armXip_keeps s t acfg e done
  exact ⟨h .pending (by decide), h .time (by decide), h .freeCtr (by decide), h .outbox (by decide), h .regs (by decide), h .evt (by decide), h .plat (by decide), h .keeper (by decide), h .cellar (by decide), h .press (by decide), h .vault (by decide), h .ctl (by decide), h .cntr (by decide), h .tlm (by decide), h .wd0 (by decide), h .clk (by decide), h .host (by decide), h .ident (by decide), h .sealing (by decide), h .crypt (by decide), h .life (by decide), h .side (by decide), h .aux (by decide), State.cfg_of (h .regs (by decide)), State.sticky_of (h .regs (by decide)), State.view_of (h .regs (by decide)), State.powered_of (h .plat (by decide)), State.agt_of (h .ctl (by decide)), State.cask_of (h .crypt (by decide))⟩

@[simp] theorem State.updSb_rest (s : State) (p : Nat) (f : SbPort → SbPort) :
    (State.updSb s p f).pending = s.pending ∧
    (State.updSb s p f).time = s.time ∧
    (State.updSb s p f).freeCtr = s.freeCtr ∧
    (State.updSb s p f).outbox = s.outbox ∧
    (State.updSb s p f).regs = s.regs ∧
    (State.updSb s p f).evt = s.evt ∧
    (State.updSb s p f).plat = s.plat ∧
    (State.updSb s p f).keeper = s.keeper ∧
    (State.updSb s p f).chs = s.chs ∧
    (State.updSb s p f).cellar = s.cellar ∧
    (State.updSb s p f).press = s.press ∧
    (State.updSb s p f).vault = s.vault ∧
    (State.updSb s p f).ctl = s.ctl ∧
    (State.updSb s p f).cntr = s.cntr ∧
    (State.updSb s p f).tlm = s.tlm ∧
    (State.updSb s p f).wd0 = s.wd0 ∧
    (State.updSb s p f).clk = s.clk ∧
    (State.updSb s p f).host = s.host ∧
    (State.updSb s p f).ident = s.ident ∧
    (State.updSb s p f).sealing = s.sealing ∧
    (State.updSb s p f).crypt = s.crypt ∧
    (State.updSb s p f).life = s.life ∧
    (State.updSb s p f).aux = s.aux ∧
    (State.updSb s p f).chan = s.chan ∧
    (State.updSb s p f).cfg = s.cfg ∧
    (State.updSb s p f).sticky = s.sticky ∧
    (State.updSb s p f).view = s.view ∧
    (State.updSb s p f).powered = s.powered ∧
    (State.updSb s p f).agt = s.agt ∧
    (State.updSb s p f).cask = s.cask := by
  have h := State.updSb_keeps s p f
  exact ⟨h .pending (by decide), h .time (by decide), h .freeCtr (by decide), h .outbox (by decide), h .regs (by decide), h .evt (by decide), h .plat (by decide), h .keeper (by decide), h .chs (by decide), h .cellar (by decide), h .press (by decide), h .vault (by decide), h .ctl (by decide), h .cntr (by decide), h .tlm (by decide), h .wd0 (by decide), h .clk (by decide), h .host (by decide), h .ident (by decide), h .sealing (by decide), h .crypt (by decide), h .life (by decide), h .aux (by decide), State.chan_of (h .chs (by decide)), State.cfg_of (h .regs (by decide)), State.sticky_of (h .regs (by decide)), State.view_of (h .regs (by decide)), State.powered_of (h .plat (by decide)), State.agt_of (h .ctl (by decide)), State.cask_of (h .crypt (by decide))⟩

@[simp] theorem State.queueResponse_rest (s : State) (p : Nat) (bs : List Byte) :
    (State.queueResponse s p bs).pending = s.pending ∧
    (State.queueResponse s p bs).time = s.time ∧
    (State.queueResponse s p bs).freeCtr = s.freeCtr ∧
    (State.queueResponse s p bs).regs = s.regs ∧
    (State.queueResponse s p bs).evt = s.evt ∧
    (State.queueResponse s p bs).plat = s.plat ∧
    (State.queueResponse s p bs).keeper = s.keeper ∧
    (State.queueResponse s p bs).chs = s.chs ∧
    (State.queueResponse s p bs).cellar = s.cellar ∧
    (State.queueResponse s p bs).press = s.press ∧
    (State.queueResponse s p bs).vault = s.vault ∧
    (State.queueResponse s p bs).ctl = s.ctl ∧
    (State.queueResponse s p bs).cntr = s.cntr ∧
    (State.queueResponse s p bs).tlm = s.tlm ∧
    (State.queueResponse s p bs).wd0 = s.wd0 ∧
    (State.queueResponse s p bs).clk = s.clk ∧
    (State.queueResponse s p bs).host = s.host ∧
    (State.queueResponse s p bs).ident = s.ident ∧
    (State.queueResponse s p bs).sealing = s.sealing ∧
    (State.queueResponse s p bs).crypt = s.crypt ∧
    (State.queueResponse s p bs).life = s.life ∧
    (State.queueResponse s p bs).aux = s.aux ∧
    (State.queueResponse s p bs).chan = s.chan ∧
    (State.queueResponse s p bs).cfg = s.cfg ∧
    (State.queueResponse s p bs).sticky = s.sticky ∧
    (State.queueResponse s p bs).view = s.view ∧
    (State.queueResponse s p bs).powered = s.powered ∧
    (State.queueResponse s p bs).agt = s.agt ∧
    (State.queueResponse s p bs).cask = s.cask := by
  have h := State.queueResponse_keeps s p bs
  exact ⟨h .pending (by decide), h .time (by decide), h .freeCtr (by decide), h .regs (by decide), h .evt (by decide), h .plat (by decide), h .keeper (by decide), h .chs (by decide), h .cellar (by decide), h .press (by decide), h .vault (by decide), h .ctl (by decide), h .cntr (by decide), h .tlm (by decide), h .wd0 (by decide), h .clk (by decide), h .host (by decide), h .ident (by decide), h .sealing (by decide), h .crypt (by decide), h .life (by decide), h .aux (by decide), State.chan_of (h .chs (by decide)), State.cfg_of (h .regs (by decide)), State.sticky_of (h .regs (by decide)), State.view_of (h .regs (by decide)), State.powered_of (h .plat (by decide)), State.agt_of (h .ctl (by decide)), State.cask_of (h .crypt (by decide))⟩

@[simp] theorem State.spdmSay_rest (s : State) (eid : Nat) (tr : Nat) (code : Nat) (body : List Byte) :
    (State.spdmSay s eid tr code body).pending = s.pending ∧
    (State.spdmSay s eid tr code body).time = s.time ∧
    (State.spdmSay s eid tr code body).freeCtr = s.freeCtr ∧
    (State.spdmSay s eid tr code body).regs = s.regs ∧
    (State.spdmSay s eid tr code body).evt = s.evt ∧
    (State.spdmSay s eid tr code body).plat = s.plat ∧
    (State.spdmSay s eid tr code body).keeper = s.keeper ∧
    (State.spdmSay s eid tr code body).chs = s.chs ∧
    (State.spdmSay s eid tr code body).cellar = s.cellar ∧
    (State.spdmSay s eid tr code body).press = s.press ∧
    (State.spdmSay s eid tr code body).vault = s.vault ∧
    (State.spdmSay s eid tr code body).ctl = s.ctl ∧
    (State.spdmSay s eid tr code body).cntr = s.cntr ∧
    (State.spdmSay s eid tr code body).tlm = s.tlm ∧
    (State.spdmSay s eid tr code body).wd0 = s.wd0 ∧
    (State.spdmSay s eid tr code body).clk = s.clk ∧
    (State.spdmSay s eid tr code body).host = s.host ∧
    (State.spdmSay s eid tr code body).ident = s.ident ∧
    (State.spdmSay s eid tr code body).sealing = s.sealing ∧
    (State.spdmSay s eid tr code body).crypt = s.crypt ∧
    (State.spdmSay s eid tr code body).life = s.life ∧
    (State.spdmSay s eid tr code body).aux = s.aux ∧
    (State.spdmSay s eid tr code body).chan = s.chan ∧
    (State.spdmSay s eid tr code body).cfg = s.cfg ∧
    (State.spdmSay s eid tr code body).sticky = s.sticky ∧
    (State.spdmSay s eid tr code body).view = s.view ∧
    (State.spdmSay s eid tr code body).powered = s.powered ∧
    (State.spdmSay s eid tr code body).agt = s.agt ∧
    (State.spdmSay s eid tr code body).cask = s.cask := by
  have h := State.spdmSay_keeps s eid tr code body
  exact ⟨h .pending (by decide), h .time (by decide), h .freeCtr (by decide), h .regs (by decide), h .evt (by decide), h .plat (by decide), h .keeper (by decide), h .chs (by decide), h .cellar (by decide), h .press (by decide), h .vault (by decide), h .ctl (by decide), h .cntr (by decide), h .tlm (by decide), h .wd0 (by decide), h .clk (by decide), h .host (by decide), h .ident (by decide), h .sealing (by decide), h .crypt (by decide), h .life (by decide), h .aux (by decide), State.chan_of (h .chs (by decide)), State.cfg_of (h .regs (by decide)), State.sticky_of (h .regs (by decide)), State.view_of (h .regs (by decide)), State.powered_of (h .plat (by decide)), State.agt_of (h .ctl (by decide)), State.cask_of (h .crypt (by decide))⟩

@[simp] theorem State.askAgent_rest (s : State) (r : SpdmReq) (step : Nat) :
    (State.askAgent s r step).pending = s.pending ∧
    (State.askAgent s r step).time = s.time ∧
    (State.askAgent s r step).freeCtr = s.freeCtr ∧
    (State.askAgent s r step).regs = s.regs ∧
    (State.askAgent s r step).evt = s.evt ∧
    (State.askAgent s r step).plat = s.plat ∧
    (State.askAgent s r step).keeper = s.keeper ∧
    (State.askAgent s r step).chs = s.chs ∧
    (State.askAgent s r step).cellar = s.cellar ∧
    (State.askAgent s r step).press = s.press ∧
    (State.askAgent s r step).vault = s.vault ∧
    (State.askAgent s r step).ctl = s.ctl ∧
    (State.askAgent s r step).cntr = s.cntr ∧
    (State.askAgent s r step).tlm = s.tlm ∧
    (State.askAgent s r step).wd0 = s.wd0 ∧
    (State.askAgent s r step).clk = s.clk ∧
    (State.askAgent s r step).host = s.host ∧
    (State.askAgent s r step).ident = s.ident ∧
    (State.askAgent s r step).sealing = s.sealing ∧
    (State.askAgent s r step).life = s.life ∧
    (State.askAgent s r step).aux = s.aux ∧
    (State.askAgent s r step).chan = s.chan ∧
    (State.askAgent s r step).cfg = s.cfg ∧
    (State.askAgent s r step).sticky = s.sticky ∧
    (State.askAgent s r step).view = s.view ∧
    (State.askAgent s r step).powered = s.powered ∧
    (State.askAgent s r step).agt = s.agt := by
  have h := State.askAgent_keeps s r step
  exact ⟨h .pending (by decide), h .time (by decide), h .freeCtr (by decide), h .regs (by decide), h .evt (by decide), h .plat (by decide), h .keeper (by decide), h .chs (by decide), h .cellar (by decide), h .press (by decide), h .vault (by decide), h .ctl (by decide), h .cntr (by decide), h .tlm (by decide), h .wd0 (by decide), h .clk (by decide), h .host (by decide), h .ident (by decide), h .sealing (by decide), h .life (by decide), h .aux (by decide), State.chan_of (h .chs (by decide)), State.cfg_of (h .regs (by decide)), State.sticky_of (h .regs (by decide)), State.view_of (h .regs (by decide)), State.powered_of (h .plat (by decide)), State.agt_of (h .ctl (by decide))⟩

@[simp] theorem State.setSticky_rest (s : State) (off : Nat) (bits : Word) :
    (State.setSticky s off bits).pending = s.pending ∧
    (State.setSticky s off bits).time = s.time ∧
    (State.setSticky s off bits).freeCtr = s.freeCtr ∧
    (State.setSticky s off bits).outbox = s.outbox ∧
    (State.setSticky s off bits).evt = s.evt ∧
    (State.setSticky s off bits).plat = s.plat ∧
    (State.setSticky s off bits).keeper = s.keeper ∧
    (State.setSticky s off bits).chs = s.chs ∧
    (State.setSticky s off bits).cellar = s.cellar ∧
    (State.setSticky s off bits).press = s.press ∧
    (State.setSticky s off bits).vault = s.vault ∧
    (State.setSticky s off bits).ctl = s.ctl ∧
    (State.setSticky s off bits).cntr = s.cntr ∧
    (State.setSticky s off bits).tlm = s.tlm ∧
    (State.setSticky s off bits).wd0 = s.wd0 ∧
    (State.setSticky s off bits).clk = s.clk ∧
    (State.setSticky s off bits).host = s.host ∧
    (State.setSticky s off bits).ident = s.ident ∧
    (State.setSticky s off bits).sealing = s.sealing ∧
    (State.setSticky s off bits).crypt = s.crypt ∧
    (State.setSticky s off bits).life = s.life ∧
    (State.setSticky s off bits).side = s.side ∧
    (State.setSticky s off bits).aux = s.aux ∧
    (State.setSticky s off bits).chan = s.chan ∧
    (State.setSticky s off bits).powered = s.powered ∧
    (State.setSticky s off bits).agt = s.agt ∧
    (State.setSticky s off bits).cask = s.cask := by
  have h := State.setSticky_keeps s off bits
  exact ⟨h .pending (by decide), h .time (by decide), h .freeCtr (by decide), h .outbox (by decide), h .evt (by decide), h .plat (by decide), h .keeper (by decide), h .chs (by decide), h .cellar (by decide), h .press (by decide), h .vault (by decide), h .ctl (by decide), h .cntr (by decide), h .tlm (by decide), h .wd0 (by decide), h .clk (by decide), h .host (by decide), h .ident (by decide), h .sealing (by decide), h .crypt (by decide), h .life (by decide), h .side (by decide), h .aux (by decide), State.chan_of (h .chs (by decide)), State.powered_of (h .plat (by decide)), State.agt_of (h .ctl (by decide)), State.cask_of (h .crypt (by decide))⟩

@[simp] theorem State.updAux_rest (s : State) (a : Nat) (f : AuxPort → AuxPort) :
    (State.updAux s a f).pending = s.pending ∧
    (State.updAux s a f).time = s.time ∧
    (State.updAux s a f).freeCtr = s.freeCtr ∧
    (State.updAux s a f).outbox = s.outbox ∧
    (State.updAux s a f).regs = s.regs ∧
    (State.updAux s a f).evt = s.evt ∧
    (State.updAux s a f).plat = s.plat ∧
    (State.updAux s a f).keeper = s.keeper ∧
    (State.updAux s a f).chs = s.chs ∧
    (State.updAux s a f).cellar = s.cellar ∧
    (State.updAux s a f).press = s.press ∧
    (State.updAux s a f).vault = s.vault ∧
    (State.updAux s a f).ctl = s.ctl ∧
    (State.updAux s a f).cntr = s.cntr ∧
    (State.updAux s a f).tlm = s.tlm ∧
    (State.updAux s a f).wd0 = s.wd0 ∧
    (State.updAux s a f).clk = s.clk ∧
    (State.updAux s a f).host = s.host ∧
    (State.updAux s a f).ident = s.ident ∧
    (State.updAux s a f).sealing = s.sealing ∧
    (State.updAux s a f).crypt = s.crypt ∧
    (State.updAux s a f).life = s.life ∧
    (State.updAux s a f).side = s.side ∧
    (State.updAux s a f).chan = s.chan ∧
    (State.updAux s a f).cfg = s.cfg ∧
    (State.updAux s a f).sticky = s.sticky ∧
    (State.updAux s a f).view = s.view ∧
    (State.updAux s a f).powered = s.powered ∧
    (State.updAux s a f).agt = s.agt ∧
    (State.updAux s a f).cask = s.cask := by
  have h := State.updAux_keeps s a f
  exact ⟨h .pending (by decide), h .time (by decide), h .freeCtr (by decide), h .outbox (by decide), h .regs (by decide), h .evt (by decide), h .plat (by decide), h .keeper (by decide), h .chs (by decide), h .cellar (by decide), h .press (by decide), h .vault (by decide), h .ctl (by decide), h .cntr (by decide), h .tlm (by decide), h .wd0 (by decide), h .clk (by decide), h .host (by decide), h .ident (by decide), h .sealing (by decide), h .crypt (by decide), h .life (by decide), h .side (by decide), State.chan_of (h .chs (by decide)), State.cfg_of (h .regs (by decide)), State.sticky_of (h .regs (by decide)), State.view_of (h .regs (by decide)), State.powered_of (h .plat (by decide)), State.agt_of (h .ctl (by decide)), State.cask_of (h .crypt (by decide))⟩

@[simp] theorem State.auxEnd_rest (s : State) (a : Nat) (n : Nat) (rx : List Byte) :
    (State.auxEnd s a n rx).pending = s.pending ∧
    (State.auxEnd s a n rx).time = s.time ∧
    (State.auxEnd s a n rx).freeCtr = s.freeCtr ∧
    (State.auxEnd s a n rx).outbox = s.outbox ∧
    (State.auxEnd s a n rx).regs = s.regs ∧
    (State.auxEnd s a n rx).evt = s.evt ∧
    (State.auxEnd s a n rx).plat = s.plat ∧
    (State.auxEnd s a n rx).keeper = s.keeper ∧
    (State.auxEnd s a n rx).chs = s.chs ∧
    (State.auxEnd s a n rx).cellar = s.cellar ∧
    (State.auxEnd s a n rx).press = s.press ∧
    (State.auxEnd s a n rx).vault = s.vault ∧
    (State.auxEnd s a n rx).ctl = s.ctl ∧
    (State.auxEnd s a n rx).cntr = s.cntr ∧
    (State.auxEnd s a n rx).tlm = s.tlm ∧
    (State.auxEnd s a n rx).wd0 = s.wd0 ∧
    (State.auxEnd s a n rx).clk = s.clk ∧
    (State.auxEnd s a n rx).host = s.host ∧
    (State.auxEnd s a n rx).ident = s.ident ∧
    (State.auxEnd s a n rx).sealing = s.sealing ∧
    (State.auxEnd s a n rx).crypt = s.crypt ∧
    (State.auxEnd s a n rx).life = s.life ∧
    (State.auxEnd s a n rx).side = s.side ∧
    (State.auxEnd s a n rx).chan = s.chan ∧
    (State.auxEnd s a n rx).cfg = s.cfg ∧
    (State.auxEnd s a n rx).sticky = s.sticky ∧
    (State.auxEnd s a n rx).view = s.view ∧
    (State.auxEnd s a n rx).powered = s.powered ∧
    (State.auxEnd s a n rx).agt = s.agt ∧
    (State.auxEnd s a n rx).cask = s.cask := by
  have h := State.auxEnd_keeps s a n rx
  exact ⟨h .pending (by decide), h .time (by decide), h .freeCtr (by decide), h .outbox (by decide), h .regs (by decide), h .evt (by decide), h .plat (by decide), h .keeper (by decide), h .chs (by decide), h .cellar (by decide), h .press (by decide), h .vault (by decide), h .ctl (by decide), h .cntr (by decide), h .tlm (by decide), h .wd0 (by decide), h .clk (by decide), h .host (by decide), h .ident (by decide), h .sealing (by decide), h .crypt (by decide), h .life (by decide), h .side (by decide), State.chan_of (h .chs (by decide)), State.cfg_of (h .regs (by decide)), State.sticky_of (h .regs (by decide)), State.view_of (h .regs (by decide)), State.powered_of (h .plat (by decide)), State.agt_of (h .ctl (by decide)), State.cask_of (h .crypt (by decide))⟩

@[simp] theorem State.auxAbort_rest (s : State) (a : Nat) (n : Nat) (rx : List Byte) :
    (State.auxAbort s a n rx).pending = s.pending ∧
    (State.auxAbort s a n rx).time = s.time ∧
    (State.auxAbort s a n rx).freeCtr = s.freeCtr ∧
    (State.auxAbort s a n rx).outbox = s.outbox ∧
    (State.auxAbort s a n rx).plat = s.plat ∧
    (State.auxAbort s a n rx).keeper = s.keeper ∧
    (State.auxAbort s a n rx).chs = s.chs ∧
    (State.auxAbort s a n rx).cellar = s.cellar ∧
    (State.auxAbort s a n rx).press = s.press ∧
    (State.auxAbort s a n rx).vault = s.vault ∧
    (State.auxAbort s a n rx).ctl = s.ctl ∧
    (State.auxAbort s a n rx).cntr = s.cntr ∧
    (State.auxAbort s a n rx).tlm = s.tlm ∧
    (State.auxAbort s a n rx).wd0 = s.wd0 ∧
    (State.auxAbort s a n rx).clk = s.clk ∧
    (State.auxAbort s a n rx).host = s.host ∧
    (State.auxAbort s a n rx).ident = s.ident ∧
    (State.auxAbort s a n rx).sealing = s.sealing ∧
    (State.auxAbort s a n rx).crypt = s.crypt ∧
    (State.auxAbort s a n rx).life = s.life ∧
    (State.auxAbort s a n rx).side = s.side ∧
    (State.auxAbort s a n rx).chan = s.chan ∧
    (State.auxAbort s a n rx).powered = s.powered ∧
    (State.auxAbort s a n rx).agt = s.agt ∧
    (State.auxAbort s a n rx).cask = s.cask := by
  have h := State.auxAbort_keeps s a n rx
  exact ⟨h .pending (by decide), h .time (by decide), h .freeCtr (by decide), h .outbox (by decide), h .plat (by decide), h .keeper (by decide), h .chs (by decide), h .cellar (by decide), h .press (by decide), h .vault (by decide), h .ctl (by decide), h .cntr (by decide), h .tlm (by decide), h .wd0 (by decide), h .clk (by decide), h .host (by decide), h .ident (by decide), h .sealing (by decide), h .crypt (by decide), h .life (by decide), h .side (by decide), State.chan_of (h .chs (by decide)), State.powered_of (h .plat (by decide)), State.agt_of (h .ctl (by decide)), State.cask_of (h .crypt (by decide))⟩

@[simp] theorem State.auxBegin_rest (s : State) (a : Nat) (sel : Nat) (len : Nat) (frame : Bool) (ftx : Word) :
    (State.auxBegin s a sel len frame ftx).pending = s.pending ∧
    (State.auxBegin s a sel len frame ftx).time = s.time ∧
    (State.auxBegin s a sel len frame ftx).freeCtr = s.freeCtr ∧
    (State.auxBegin s a sel len frame ftx).regs = s.regs ∧
    (State.auxBegin s a sel len frame ftx).evt = s.evt ∧
    (State.auxBegin s a sel len frame ftx).plat = s.plat ∧
    (State.auxBegin s a sel len frame ftx).keeper = s.keeper ∧
    (State.auxBegin s a sel len frame ftx).chs = s.chs ∧
    (State.auxBegin s a sel len frame ftx).cellar = s.cellar ∧
    (State.auxBegin s a sel len frame ftx).press = s.press ∧
    (State.auxBegin s a sel len frame ftx).vault = s.vault ∧
    (State.auxBegin s a sel len frame ftx).ctl = s.ctl ∧
    (State.auxBegin s a sel len frame ftx).cntr = s.cntr ∧
    (State.auxBegin s a sel len frame ftx).tlm = s.tlm ∧
    (State.auxBegin s a sel len frame ftx).wd0 = s.wd0 ∧
    (State.auxBegin s a sel len frame ftx).clk = s.clk ∧
    (State.auxBegin s a sel len frame ftx).host = s.host ∧
    (State.auxBegin s a sel len frame ftx).ident = s.ident ∧
    (State.auxBegin s a sel len frame ftx).sealing = s.sealing ∧
    (State.auxBegin s a sel len frame ftx).crypt = s.crypt ∧
    (State.auxBegin s a sel len frame ftx).life = s.life ∧
    (State.auxBegin s a sel len frame ftx).side = s.side ∧
    (State.auxBegin s a sel len frame ftx).chan = s.chan ∧
    (State.auxBegin s a sel len frame ftx).cfg = s.cfg ∧
    (State.auxBegin s a sel len frame ftx).sticky = s.sticky ∧
    (State.auxBegin s a sel len frame ftx).view = s.view ∧
    (State.auxBegin s a sel len frame ftx).powered = s.powered ∧
    (State.auxBegin s a sel len frame ftx).agt = s.agt ∧
    (State.auxBegin s a sel len frame ftx).cask = s.cask := by
  have h := State.auxBegin_keeps s a sel len frame ftx
  exact ⟨h .pending (by decide), h .time (by decide), h .freeCtr (by decide), h .regs (by decide), h .evt (by decide), h .plat (by decide), h .keeper (by decide), h .chs (by decide), h .cellar (by decide), h .press (by decide), h .vault (by decide), h .ctl (by decide), h .cntr (by decide), h .tlm (by decide), h .wd0 (by decide), h .clk (by decide), h .host (by decide), h .ident (by decide), h .sealing (by decide), h .crypt (by decide), h .life (by decide), h .side (by decide), State.chan_of (h .chs (by decide)), State.cfg_of (h .regs (by decide)), State.sticky_of (h .regs (by decide)), State.view_of (h .regs (by decide)), State.powered_of (h .plat (by decide)), State.agt_of (h .ctl (by decide)), State.cask_of (h .crypt (by decide))⟩

@[simp] theorem State.auxReject_rest (s : State) (a : Nat) :
    (State.auxReject s a).pending = s.pending ∧
    (State.auxReject s a).time = s.time ∧
    (State.auxReject s a).freeCtr = s.freeCtr ∧
    (State.auxReject s a).outbox = s.outbox ∧
    (State.auxReject s a).plat = s.plat ∧
    (State.auxReject s a).keeper = s.keeper ∧
    (State.auxReject s a).chs = s.chs ∧
    (State.auxReject s a).cellar = s.cellar ∧
    (State.auxReject s a).press = s.press ∧
    (State.auxReject s a).vault = s.vault ∧
    (State.auxReject s a).ctl = s.ctl ∧
    (State.auxReject s a).cntr = s.cntr ∧
    (State.auxReject s a).tlm = s.tlm ∧
    (State.auxReject s a).wd0 = s.wd0 ∧
    (State.auxReject s a).clk = s.clk ∧
    (State.auxReject s a).host = s.host ∧
    (State.auxReject s a).ident = s.ident ∧
    (State.auxReject s a).sealing = s.sealing ∧
    (State.auxReject s a).crypt = s.crypt ∧
    (State.auxReject s a).life = s.life ∧
    (State.auxReject s a).side = s.side ∧
    (State.auxReject s a).aux = s.aux ∧
    (State.auxReject s a).chan = s.chan ∧
    (State.auxReject s a).powered = s.powered ∧
    (State.auxReject s a).agt = s.agt ∧
    (State.auxReject s a).cask = s.cask := by
  have h := State.auxReject_keeps s a
  exact ⟨h .pending (by decide), h .time (by decide), h .freeCtr (by decide), h .outbox (by decide), h .plat (by decide), h .keeper (by decide), h .chs (by decide), h .cellar (by decide), h .press (by decide), h .vault (by decide), h .ctl (by decide), h .cntr (by decide), h .tlm (by decide), h .wd0 (by decide), h .clk (by decide), h .host (by decide), h .ident (by decide), h .sealing (by decide), h .crypt (by decide), h .life (by decide), h .side (by decide), h .aux (by decide), State.chan_of (h .chs (by decide)), State.powered_of (h .plat (by decide)), State.agt_of (h .ctl (by decide)), State.cask_of (h .crypt (by decide))⟩

@[simp] theorem State.auxGo_rest (s : State) (a : Nat) (sel : Nat) (len : Nat) :
    (State.auxGo s a sel len).pending = s.pending ∧
    (State.auxGo s a sel len).time = s.time ∧
    (State.auxGo s a sel len).freeCtr = s.freeCtr ∧
    (State.auxGo s a sel len).plat = s.plat ∧
    (State.auxGo s a sel len).keeper = s.keeper ∧
    (State.auxGo s a sel len).chs = s.chs ∧
    (State.auxGo s a sel len).cellar = s.cellar ∧
    (State.auxGo s a sel len).press = s.press ∧
    (State.auxGo s a sel len).vault = s.vault ∧
    (State.auxGo s a sel len).ctl = s.ctl ∧
    (State.auxGo s a sel len).cntr = s.cntr ∧
    (State.auxGo s a sel len).tlm = s.tlm ∧
    (State.auxGo s a sel len).wd0 = s.wd0 ∧
    (State.auxGo s a sel len).clk = s.clk ∧
    (State.auxGo s a sel len).host = s.host ∧
    (State.auxGo s a sel len).ident = s.ident ∧
    (State.auxGo s a sel len).sealing = s.sealing ∧
    (State.auxGo s a sel len).crypt = s.crypt ∧
    (State.auxGo s a sel len).life = s.life ∧
    (State.auxGo s a sel len).side = s.side ∧
    (State.auxGo s a sel len).chan = s.chan ∧
    (State.auxGo s a sel len).powered = s.powered ∧
    (State.auxGo s a sel len).agt = s.agt ∧
    (State.auxGo s a sel len).cask = s.cask := by
  have h := State.auxGo_keeps s a sel len
  exact ⟨h .pending (by decide), h .time (by decide), h .freeCtr (by decide), h .plat (by decide), h .keeper (by decide), h .chs (by decide), h .cellar (by decide), h .press (by decide), h .vault (by decide), h .ctl (by decide), h .cntr (by decide), h .tlm (by decide), h .wd0 (by decide), h .clk (by decide), h .host (by decide), h .ident (by decide), h .sealing (by decide), h .crypt (by decide), h .life (by decide), h .side (by decide), State.chan_of (h .chs (by decide)), State.powered_of (h .plat (by decide)), State.agt_of (h .ctl (by decide)), State.cask_of (h .crypt (by decide))⟩

@[simp] theorem State.recheckSets_rest (s : State) :
    (State.recheckSets s).pending = s.pending ∧
    (State.recheckSets s).time = s.time ∧
    (State.recheckSets s).freeCtr = s.freeCtr ∧
    (State.recheckSets s).outbox = s.outbox ∧
    (State.recheckSets s).regs = s.regs ∧
    (State.recheckSets s).evt = s.evt ∧
    (State.recheckSets s).plat = s.plat ∧
    (State.recheckSets s).keeper = s.keeper ∧
    (State.recheckSets s).cellar = s.cellar ∧
    (State.recheckSets s).press = s.press ∧
    (State.recheckSets s).vault = s.vault ∧
    (State.recheckSets s).ctl = s.ctl ∧
    (State.recheckSets s).cntr = s.cntr ∧
    (State.recheckSets s).tlm = s.tlm ∧
    (State.recheckSets s).wd0 = s.wd0 ∧
    (State.recheckSets s).clk = s.clk ∧
    (State.recheckSets s).host = s.host ∧
    (State.recheckSets s).ident = s.ident ∧
    (State.recheckSets s).sealing = s.sealing ∧
    (State.recheckSets s).crypt = s.crypt ∧
    (State.recheckSets s).life = s.life ∧
    (State.recheckSets s).side = s.side ∧
    (State.recheckSets s).aux = s.aux ∧
    (State.recheckSets s).cfg = s.cfg ∧
    (State.recheckSets s).sticky = s.sticky ∧
    (State.recheckSets s).view = s.view ∧
    (State.recheckSets s).powered = s.powered ∧
    (State.recheckSets s).agt = s.agt ∧
    (State.recheckSets s).cask = s.cask := by
  have h := State.recheckSets_keeps s
  exact ⟨h .pending (by decide), h .time (by decide), h .freeCtr (by decide), h .outbox (by decide), h .regs (by decide), h .evt (by decide), h .plat (by decide), h .keeper (by decide), h .cellar (by decide), h .press (by decide), h .vault (by decide), h .ctl (by decide), h .cntr (by decide), h .tlm (by decide), h .wd0 (by decide), h .clk (by decide), h .host (by decide), h .ident (by decide), h .sealing (by decide), h .crypt (by decide), h .life (by decide), h .side (by decide), h .aux (by decide), State.cfg_of (h .regs (by decide)), State.sticky_of (h .regs (by decide)), State.view_of (h .regs (by decide)), State.powered_of (h .plat (by decide)), State.agt_of (h .ctl (by decide)), State.cask_of (h .crypt (by decide))⟩

@[simp] theorem State.setMode_rest (s : State) (m : Mode) (cause : Nat) :
    (State.setMode s m cause).pending = s.pending ∧
    (State.setMode s m cause).time = s.time ∧
    (State.setMode s m cause).outbox = s.outbox ∧
    (State.setMode s m cause).regs = s.regs ∧
    (State.setMode s m cause).chs = s.chs ∧
    (State.setMode s m cause).cellar = s.cellar ∧
    (State.setMode s m cause).press = s.press ∧
    (State.setMode s m cause).vault = s.vault ∧
    (State.setMode s m cause).ctl = s.ctl ∧
    (State.setMode s m cause).cntr = s.cntr ∧
    (State.setMode s m cause).tlm = s.tlm ∧
    (State.setMode s m cause).wd0 = s.wd0 ∧
    (State.setMode s m cause).clk = s.clk ∧
    (State.setMode s m cause).host = s.host ∧
    (State.setMode s m cause).ident = s.ident ∧
    (State.setMode s m cause).sealing = s.sealing ∧
    (State.setMode s m cause).crypt = s.crypt ∧
    (State.setMode s m cause).life = s.life ∧
    (State.setMode s m cause).side = s.side ∧
    (State.setMode s m cause).aux = s.aux ∧
    (State.setMode s m cause).chan = s.chan ∧
    (State.setMode s m cause).cfg = s.cfg ∧
    (State.setMode s m cause).sticky = s.sticky ∧
    (State.setMode s m cause).view = s.view ∧
    (State.setMode s m cause).agt = s.agt ∧
    (State.setMode s m cause).cask = s.cask := by
  have h := State.setMode_keeps s m cause
  exact ⟨h .pending (by decide), h .time (by decide), h .outbox (by decide), h .regs (by decide), h .chs (by decide), h .cellar (by decide), h .press (by decide), h .vault (by decide), h .ctl (by decide), h .cntr (by decide), h .tlm (by decide), h .wd0 (by decide), h .clk (by decide), h .host (by decide), h .ident (by decide), h .sealing (by decide), h .crypt (by decide), h .life (by decide), h .side (by decide), h .aux (by decide), State.chan_of (h .chs (by decide)), State.cfg_of (h .regs (by decide)), State.sticky_of (h .regs (by decide)), State.view_of (h .regs (by decide)), State.agt_of (h .ctl (by decide)), State.cask_of (h .crypt (by decide))⟩

@[simp] theorem State.enterRecover_rest (s : State) (cause : Nat) :
    (State.enterRecover s cause).pending = s.pending ∧
    (State.enterRecover s cause).time = s.time ∧
    (State.enterRecover s cause).outbox = s.outbox ∧
    (State.enterRecover s cause).regs = s.regs ∧
    (State.enterRecover s cause).chs = s.chs ∧
    (State.enterRecover s cause).cellar = s.cellar ∧
    (State.enterRecover s cause).press = s.press ∧
    (State.enterRecover s cause).vault = s.vault ∧
    (State.enterRecover s cause).ctl = s.ctl ∧
    (State.enterRecover s cause).cntr = s.cntr ∧
    (State.enterRecover s cause).tlm = s.tlm ∧
    (State.enterRecover s cause).wd0 = s.wd0 ∧
    (State.enterRecover s cause).clk = s.clk ∧
    (State.enterRecover s cause).host = s.host ∧
    (State.enterRecover s cause).ident = s.ident ∧
    (State.enterRecover s cause).sealing = s.sealing ∧
    (State.enterRecover s cause).crypt = s.crypt ∧
    (State.enterRecover s cause).life = s.life ∧
    (State.enterRecover s cause).side = s.side ∧
    (State.enterRecover s cause).aux = s.aux ∧
    (State.enterRecover s cause).chan = s.chan ∧
    (State.enterRecover s cause).cfg = s.cfg ∧
    (State.enterRecover s cause).sticky = s.sticky ∧
    (State.enterRecover s cause).view = s.view ∧
    (State.enterRecover s cause).agt = s.agt ∧
    (State.enterRecover s cause).cask = s.cask := by
  have h := State.enterRecover_keeps s cause
  exact ⟨h .pending (by decide), h .time (by decide), h .outbox (by decide), h .regs (by decide), h .chs (by decide), h .cellar (by decide), h .press (by decide), h .vault (by decide), h .ctl (by decide), h .cntr (by decide), h .tlm (by decide), h .wd0 (by decide), h .clk (by decide), h .host (by decide), h .ident (by decide), h .sealing (by decide), h .crypt (by decide), h .life (by decide), h .side (by decide), h .aux (by decide), State.chan_of (h .chs (by decide)), State.cfg_of (h .regs (by decide)), State.sticky_of (h .regs (by decide)), State.view_of (h .regs (by decide)), State.agt_of (h .ctl (by decide)), State.cask_of (h .crypt (by decide))⟩

@[simp] theorem State.noBell_rest (s : State) (q : Nat) :
    (State.noBell s q).pending = s.pending ∧
    (State.noBell s q).time = s.time ∧
    (State.noBell s q).freeCtr = s.freeCtr ∧
    (State.noBell s q).outbox = s.outbox ∧
    (State.noBell s q).regs = s.regs ∧
    (State.noBell s q).plat = s.plat ∧
    (State.noBell s q).keeper = s.keeper ∧
    (State.noBell s q).chs = s.chs ∧
    (State.noBell s q).cellar = s.cellar ∧
    (State.noBell s q).press = s.press ∧
    (State.noBell s q).vault = s.vault ∧
    (State.noBell s q).ctl = s.ctl ∧
    (State.noBell s q).cntr = s.cntr ∧
    (State.noBell s q).tlm = s.tlm ∧
    (State.noBell s q).wd0 = s.wd0 ∧
    (State.noBell s q).clk = s.clk ∧
    (State.noBell s q).host = s.host ∧
    (State.noBell s q).ident = s.ident ∧
    (State.noBell s q).sealing = s.sealing ∧
    (State.noBell s q).crypt = s.crypt ∧
    (State.noBell s q).life = s.life ∧
    (State.noBell s q).side = s.side ∧
    (State.noBell s q).aux = s.aux ∧
    (State.noBell s q).chan = s.chan ∧
    (State.noBell s q).cfg = s.cfg ∧
    (State.noBell s q).sticky = s.sticky ∧
    (State.noBell s q).view = s.view ∧
    (State.noBell s q).powered = s.powered ∧
    (State.noBell s q).agt = s.agt ∧
    (State.noBell s q).cask = s.cask := by
  have h := State.noBell_keeps s q
  exact ⟨h .pending (by decide), h .time (by decide), h .freeCtr (by decide), h .outbox (by decide), h .regs (by decide), h .plat (by decide), h .keeper (by decide), h .chs (by decide), h .cellar (by decide), h .press (by decide), h .vault (by decide), h .ctl (by decide), h .cntr (by decide), h .tlm (by decide), h .wd0 (by decide), h .clk (by decide), h .host (by decide), h .ident (by decide), h .sealing (by decide), h .crypt (by decide), h .life (by decide), h .side (by decide), h .aux (by decide), State.chan_of (h .chs (by decide)), State.cfg_of (h .regs (by decide)), State.sticky_of (h .regs (by decide)), State.view_of (h .regs (by decide)), State.powered_of (h .plat (by decide)), State.agt_of (h .ctl (by decide)), State.cask_of (h .crypt (by decide))⟩

@[simp] theorem State.qFail_rest (s : State) (q : Nat) (st : QState) (cause : Nat) :
    (State.qFail s q st cause).pending = s.pending ∧
    (State.qFail s q st cause).time = s.time ∧
    (State.qFail s q st cause).freeCtr = s.freeCtr ∧
    (State.qFail s q st cause).outbox = s.outbox ∧
    (State.qFail s q st cause).regs = s.regs ∧
    (State.qFail s q st cause).plat = s.plat ∧
    (State.qFail s q st cause).keeper = s.keeper ∧
    (State.qFail s q st cause).chs = s.chs ∧
    (State.qFail s q st cause).cellar = s.cellar ∧
    (State.qFail s q st cause).press = s.press ∧
    (State.qFail s q st cause).vault = s.vault ∧
    (State.qFail s q st cause).ctl = s.ctl ∧
    (State.qFail s q st cause).cntr = s.cntr ∧
    (State.qFail s q st cause).tlm = s.tlm ∧
    (State.qFail s q st cause).wd0 = s.wd0 ∧
    (State.qFail s q st cause).clk = s.clk ∧
    (State.qFail s q st cause).ident = s.ident ∧
    (State.qFail s q st cause).sealing = s.sealing ∧
    (State.qFail s q st cause).crypt = s.crypt ∧
    (State.qFail s q st cause).life = s.life ∧
    (State.qFail s q st cause).side = s.side ∧
    (State.qFail s q st cause).aux = s.aux ∧
    (State.qFail s q st cause).chan = s.chan ∧
    (State.qFail s q st cause).cfg = s.cfg ∧
    (State.qFail s q st cause).sticky = s.sticky ∧
    (State.qFail s q st cause).view = s.view ∧
    (State.qFail s q st cause).powered = s.powered ∧
    (State.qFail s q st cause).agt = s.agt ∧
    (State.qFail s q st cause).cask = s.cask := by
  have h := State.qFail_keeps s q st cause
  exact ⟨h .pending (by decide), h .time (by decide), h .freeCtr (by decide), h .outbox (by decide), h .regs (by decide), h .plat (by decide), h .keeper (by decide), h .chs (by decide), h .cellar (by decide), h .press (by decide), h .vault (by decide), h .ctl (by decide), h .cntr (by decide), h .tlm (by decide), h .wd0 (by decide), h .clk (by decide), h .ident (by decide), h .sealing (by decide), h .crypt (by decide), h .life (by decide), h .side (by decide), h .aux (by decide), State.chan_of (h .chs (by decide)), State.cfg_of (h .regs (by decide)), State.sticky_of (h .regs (by decide)), State.view_of (h .regs (by decide)), State.powered_of (h .plat (by decide)), State.agt_of (h .ctl (by decide)), State.cask_of (h .crypt (by decide))⟩

@[simp] theorem State.cqBell_rest (s : State) (q : Nat) (index : Nat) :
    (State.cqBell s q index).pending = s.pending ∧
    (State.cqBell s q index).time = s.time ∧
    (State.cqBell s q index).freeCtr = s.freeCtr ∧
    (State.cqBell s q index).outbox = s.outbox ∧
    (State.cqBell s q index).regs = s.regs ∧
    (State.cqBell s q index).plat = s.plat ∧
    (State.cqBell s q index).keeper = s.keeper ∧
    (State.cqBell s q index).chs = s.chs ∧
    (State.cqBell s q index).cellar = s.cellar ∧
    (State.cqBell s q index).press = s.press ∧
    (State.cqBell s q index).vault = s.vault ∧
    (State.cqBell s q index).ctl = s.ctl ∧
    (State.cqBell s q index).tlm = s.tlm ∧
    (State.cqBell s q index).wd0 = s.wd0 ∧
    (State.cqBell s q index).clk = s.clk ∧
    (State.cqBell s q index).ident = s.ident ∧
    (State.cqBell s q index).sealing = s.sealing ∧
    (State.cqBell s q index).crypt = s.crypt ∧
    (State.cqBell s q index).life = s.life ∧
    (State.cqBell s q index).side = s.side ∧
    (State.cqBell s q index).aux = s.aux ∧
    (State.cqBell s q index).chan = s.chan ∧
    (State.cqBell s q index).cfg = s.cfg ∧
    (State.cqBell s q index).sticky = s.sticky ∧
    (State.cqBell s q index).view = s.view ∧
    (State.cqBell s q index).powered = s.powered ∧
    (State.cqBell s q index).agt = s.agt ∧
    (State.cqBell s q index).cask = s.cask := by
  have h := State.cqBell_keeps s q index
  exact ⟨h .pending (by decide), h .time (by decide), h .freeCtr (by decide), h .outbox (by decide), h .regs (by decide), h .plat (by decide), h .keeper (by decide), h .chs (by decide), h .cellar (by decide), h .press (by decide), h .vault (by decide), h .ctl (by decide), h .tlm (by decide), h .wd0 (by decide), h .clk (by decide), h .ident (by decide), h .sealing (by decide), h .crypt (by decide), h .life (by decide), h .side (by decide), h .aux (by decide), State.chan_of (h .chs (by decide)), State.cfg_of (h .regs (by decide)), State.sticky_of (h .regs (by decide)), State.view_of (h .regs (by decide)), State.powered_of (h .plat (by decide)), State.agt_of (h .ctl (by decide)), State.cask_of (h .crypt (by decide))⟩

@[simp] theorem State.sqBell_rest (s : State) (q : Nat) (index : Nat) :
    (State.sqBell s q index).pending = s.pending ∧
    (State.sqBell s q index).time = s.time ∧
    (State.sqBell s q index).freeCtr = s.freeCtr ∧
    (State.sqBell s q index).outbox = s.outbox ∧
    (State.sqBell s q index).regs = s.regs ∧
    (State.sqBell s q index).plat = s.plat ∧
    (State.sqBell s q index).keeper = s.keeper ∧
    (State.sqBell s q index).chs = s.chs ∧
    (State.sqBell s q index).cellar = s.cellar ∧
    (State.sqBell s q index).press = s.press ∧
    (State.sqBell s q index).vault = s.vault ∧
    (State.sqBell s q index).ctl = s.ctl ∧
    (State.sqBell s q index).tlm = s.tlm ∧
    (State.sqBell s q index).wd0 = s.wd0 ∧
    (State.sqBell s q index).clk = s.clk ∧
    (State.sqBell s q index).ident = s.ident ∧
    (State.sqBell s q index).sealing = s.sealing ∧
    (State.sqBell s q index).crypt = s.crypt ∧
    (State.sqBell s q index).life = s.life ∧
    (State.sqBell s q index).side = s.side ∧
    (State.sqBell s q index).aux = s.aux ∧
    (State.sqBell s q index).chan = s.chan ∧
    (State.sqBell s q index).cfg = s.cfg ∧
    (State.sqBell s q index).sticky = s.sticky ∧
    (State.sqBell s q index).view = s.view ∧
    (State.sqBell s q index).powered = s.powered ∧
    (State.sqBell s q index).agt = s.agt ∧
    (State.sqBell s q index).cask = s.cask := by
  have h := State.sqBell_keeps s q index
  exact ⟨h .pending (by decide), h .time (by decide), h .freeCtr (by decide), h .outbox (by decide), h .regs (by decide), h .plat (by decide), h .keeper (by decide), h .chs (by decide), h .cellar (by decide), h .press (by decide), h .vault (by decide), h .ctl (by decide), h .tlm (by decide), h .wd0 (by decide), h .clk (by decide), h .ident (by decide), h .sealing (by decide), h .crypt (by decide), h .life (by decide), h .side (by decide), h .aux (by decide), State.chan_of (h .chs (by decide)), State.cfg_of (h .regs (by decide)), State.sticky_of (h .regs (by decide)), State.view_of (h .regs (by decide)), State.powered_of (h .plat (by decide)), State.agt_of (h .ctl (by decide)), State.cask_of (h .crypt (by decide))⟩

@[simp] theorem State.holdAgent_rest (s : State) (n : Ch) :
    (State.holdAgent s n).pending = s.pending ∧
    (State.holdAgent s n).time = s.time ∧
    (State.holdAgent s n).plat = s.plat ∧
    (State.holdAgent s n).press = s.press ∧
    (State.holdAgent s n).cntr = s.cntr ∧
    (State.holdAgent s n).tlm = s.tlm ∧
    (State.holdAgent s n).wd0 = s.wd0 ∧
    (State.holdAgent s n).clk = s.clk ∧
    (State.holdAgent s n).host = s.host ∧
    (State.holdAgent s n).sealing = s.sealing ∧
    (State.holdAgent s n).crypt = s.crypt ∧
    (State.holdAgent s n).life = s.life ∧
    (State.holdAgent s n).side = s.side ∧
    (State.holdAgent s n).aux = s.aux ∧
    (State.holdAgent s n).powered = s.powered ∧
    (State.holdAgent s n).cask = s.cask := by
  have h := State.holdAgent_keeps s n
  exact ⟨h .pending (by decide), h .time (by decide), h .plat (by decide), h .press (by decide), h .cntr (by decide), h .tlm (by decide), h .wd0 (by decide), h .clk (by decide), h .host (by decide), h .sealing (by decide), h .crypt (by decide), h .life (by decide), h .side (by decide), h .aux (by decide), State.powered_of (h .plat (by decide)), State.cask_of (h .crypt (by decide))⟩

@[simp] theorem State.rollback_rest (s : State) (n : Ch) (k : SlotId) :
    (State.rollback s n k).pending = s.pending ∧
    (State.rollback s n k).time = s.time ∧
    (State.rollback s n k).plat = s.plat ∧
    (State.rollback s n k).press = s.press ∧
    (State.rollback s n k).cntr = s.cntr ∧
    (State.rollback s n k).tlm = s.tlm ∧
    (State.rollback s n k).wd0 = s.wd0 ∧
    (State.rollback s n k).clk = s.clk ∧
    (State.rollback s n k).host = s.host ∧
    (State.rollback s n k).sealing = s.sealing ∧
    (State.rollback s n k).crypt = s.crypt ∧
    (State.rollback s n k).life = s.life ∧
    (State.rollback s n k).side = s.side ∧
    (State.rollback s n k).aux = s.aux ∧
    (State.rollback s n k).powered = s.powered ∧
    (State.rollback s n k).cask = s.cask := by
  have h := State.rollback_keeps s n k
  exact ⟨h .pending (by decide), h .time (by decide), h .plat (by decide), h .press (by decide), h .cntr (by decide), h .tlm (by decide), h .wd0 (by decide), h .clk (by decide), h .host (by decide), h .sealing (by decide), h .crypt (by decide), h .life (by decide), h .side (by decide), h .aux (by decide), State.powered_of (h .plat (by decide)), State.cask_of (h .crypt (by decide))⟩

@[simp] theorem State.urgentStop_rest (s : State) (side : Bool) (mask : Nat) (seq : Nat) :
    (State.urgentStop s side mask seq).pending = s.pending ∧
    (State.urgentStop s side mask seq).time = s.time ∧
    (State.urgentStop s side mask seq).plat = s.plat ∧
    (State.urgentStop s side mask seq).press = s.press ∧
    (State.urgentStop s side mask seq).tlm = s.tlm ∧
    (State.urgentStop s side mask seq).wd0 = s.wd0 ∧
    (State.urgentStop s side mask seq).clk = s.clk ∧
    (State.urgentStop s side mask seq).host = s.host ∧
    (State.urgentStop s side mask seq).sealing = s.sealing ∧
    (State.urgentStop s side mask seq).crypt = s.crypt ∧
    (State.urgentStop s side mask seq).life = s.life ∧
    (State.urgentStop s side mask seq).side = s.side ∧
    (State.urgentStop s side mask seq).aux = s.aux ∧
    (State.urgentStop s side mask seq).powered = s.powered ∧
    (State.urgentStop s side mask seq).cask = s.cask := by
  have h := State.urgentStop_keeps s side mask seq
  exact ⟨h .pending (by decide), h .time (by decide), h .plat (by decide), h .press (by decide), h .tlm (by decide), h .wd0 (by decide), h .clk (by decide), h .host (by decide), h .sealing (by decide), h .crypt (by decide), h .life (by decide), h .side (by decide), h .aux (by decide), State.powered_of (h .plat (by decide)), State.cask_of (h .crypt (by decide))⟩

@[simp] theorem State.urgentRelease_rest (s : State) (side : Bool) (mask : Nat) (seq : Nat) :
    (State.urgentRelease s side mask seq).pending = s.pending ∧
    (State.urgentRelease s side mask seq).time = s.time ∧
    (State.urgentRelease s side mask seq).freeCtr = s.freeCtr ∧
    (State.urgentRelease s side mask seq).outbox = s.outbox ∧
    (State.urgentRelease s side mask seq).regs = s.regs ∧
    (State.urgentRelease s side mask seq).plat = s.plat ∧
    (State.urgentRelease s side mask seq).keeper = s.keeper ∧
    (State.urgentRelease s side mask seq).chs = s.chs ∧
    (State.urgentRelease s side mask seq).cellar = s.cellar ∧
    (State.urgentRelease s side mask seq).press = s.press ∧
    (State.urgentRelease s side mask seq).vault = s.vault ∧
    (State.urgentRelease s side mask seq).tlm = s.tlm ∧
    (State.urgentRelease s side mask seq).wd0 = s.wd0 ∧
    (State.urgentRelease s side mask seq).clk = s.clk ∧
    (State.urgentRelease s side mask seq).host = s.host ∧
    (State.urgentRelease s side mask seq).ident = s.ident ∧
    (State.urgentRelease s side mask seq).sealing = s.sealing ∧
    (State.urgentRelease s side mask seq).crypt = s.crypt ∧
    (State.urgentRelease s side mask seq).life = s.life ∧
    (State.urgentRelease s side mask seq).side = s.side ∧
    (State.urgentRelease s side mask seq).aux = s.aux ∧
    (State.urgentRelease s side mask seq).chan = s.chan ∧
    (State.urgentRelease s side mask seq).cfg = s.cfg ∧
    (State.urgentRelease s side mask seq).sticky = s.sticky ∧
    (State.urgentRelease s side mask seq).view = s.view ∧
    (State.urgentRelease s side mask seq).powered = s.powered ∧
    (State.urgentRelease s side mask seq).cask = s.cask := by
  have h := State.urgentRelease_keeps s side mask seq
  exact ⟨h .pending (by decide), h .time (by decide), h .freeCtr (by decide), h .outbox (by decide), h .regs (by decide), h .plat (by decide), h .keeper (by decide), h .chs (by decide), h .cellar (by decide), h .press (by decide), h .vault (by decide), h .tlm (by decide), h .wd0 (by decide), h .clk (by decide), h .host (by decide), h .ident (by decide), h .sealing (by decide), h .crypt (by decide), h .life (by decide), h .side (by decide), h .aux (by decide), State.chan_of (h .chs (by decide)), State.cfg_of (h .regs (by decide)), State.sticky_of (h .regs (by decide)), State.view_of (h .regs (by decide)), State.powered_of (h .plat (by decide)), State.cask_of (h .crypt (by decide))⟩

@[simp] theorem State.exception_rest (s : State) (warden : Bool) (src : Nat) :
    (State.exception s warden src).pending = s.pending ∧
    (State.exception s warden src).time = s.time ∧
    (State.exception s warden src).freeCtr = s.freeCtr ∧
    (State.exception s warden src).regs = s.regs ∧
    (State.exception s warden src).keeper = s.keeper ∧
    (State.exception s warden src).chs = s.chs ∧
    (State.exception s warden src).cellar = s.cellar ∧
    (State.exception s warden src).press = s.press ∧
    (State.exception s warden src).vault = s.vault ∧
    (State.exception s warden src).ctl = s.ctl ∧
    (State.exception s warden src).cntr = s.cntr ∧
    (State.exception s warden src).tlm = s.tlm ∧
    (State.exception s warden src).wd0 = s.wd0 ∧
    (State.exception s warden src).clk = s.clk ∧
    (State.exception s warden src).host = s.host ∧
    (State.exception s warden src).ident = s.ident ∧
    (State.exception s warden src).sealing = s.sealing ∧
    (State.exception s warden src).crypt = s.crypt ∧
    (State.exception s warden src).life = s.life ∧
    (State.exception s warden src).side = s.side ∧
    (State.exception s warden src).aux = s.aux ∧
    (State.exception s warden src).chan = s.chan ∧
    (State.exception s warden src).cfg = s.cfg ∧
    (State.exception s warden src).sticky = s.sticky ∧
    (State.exception s warden src).view = s.view ∧
    (State.exception s warden src).agt = s.agt ∧
    (State.exception s warden src).cask = s.cask := by
  have h := State.exception_keeps s warden src
  exact ⟨h .pending (by decide), h .time (by decide), h .freeCtr (by decide), h .regs (by decide), h .keeper (by decide), h .chs (by decide), h .cellar (by decide), h .press (by decide), h .vault (by decide), h .ctl (by decide), h .cntr (by decide), h .tlm (by decide), h .wd0 (by decide), h .clk (by decide), h .host (by decide), h .ident (by decide), h .sealing (by decide), h .crypt (by decide), h .life (by decide), h .side (by decide), h .aux (by decide), State.chan_of (h .chs (by decide)), State.cfg_of (h .regs (by decide)), State.sticky_of (h .regs (by decide)), State.view_of (h .regs (by decide)), State.agt_of (h .ctl (by decide)), State.cask_of (h .crypt (by decide))⟩

@[simp] theorem State.deliver_rest (s : State) (r : Raise) :
    (State.deliver s r).pending = s.pending ∧
    (State.deliver s r).time = s.time ∧
    (State.deliver s r).freeCtr = s.freeCtr ∧
    (State.deliver s r).keeper = s.keeper ∧
    (State.deliver s r).chs = s.chs ∧
    (State.deliver s r).cellar = s.cellar ∧
    (State.deliver s r).press = s.press ∧
    (State.deliver s r).vault = s.vault ∧
    (State.deliver s r).ctl = s.ctl ∧
    (State.deliver s r).tlm = s.tlm ∧
    (State.deliver s r).wd0 = s.wd0 ∧
    (State.deliver s r).clk = s.clk ∧
    (State.deliver s r).ident = s.ident ∧
    (State.deliver s r).sealing = s.sealing ∧
    (State.deliver s r).crypt = s.crypt ∧
    (State.deliver s r).life = s.life ∧
    (State.deliver s r).side = s.side ∧
    (State.deliver s r).aux = s.aux ∧
    (State.deliver s r).chan = s.chan ∧
    (State.deliver s r).agt = s.agt ∧
    (State.deliver s r).cask = s.cask := by
  have h := State.deliver_keeps s r
  exact ⟨h .pending (by decide), h .time (by decide), h .freeCtr (by decide), h .keeper (by decide), h .chs (by decide), h .cellar (by decide), h .press (by decide), h .vault (by decide), h .ctl (by decide), h .tlm (by decide), h .wd0 (by decide), h .clk (by decide), h .ident (by decide), h .sealing (by decide), h .crypt (by decide), h .life (by decide), h .side (by decide), h .aux (by decide), State.chan_of (h .chs (by decide)), State.agt_of (h .ctl (by decide)), State.cask_of (h .crypt (by decide))⟩

@[simp] theorem State.formRec_rest (s : State) (src : Nat) (sev : Nat) (count : Nat) (arg : Nat) :
    (State.formRec s src sev count arg).pending = s.pending ∧
    (State.formRec s src sev count arg).time = s.time ∧
    (State.formRec s src sev count arg).freeCtr = s.freeCtr ∧
    (State.formRec s src sev count arg).outbox = s.outbox ∧
    (State.formRec s src sev count arg).regs = s.regs ∧
    (State.formRec s src sev count arg).plat = s.plat ∧
    (State.formRec s src sev count arg).keeper = s.keeper ∧
    (State.formRec s src sev count arg).chs = s.chs ∧
    (State.formRec s src sev count arg).cellar = s.cellar ∧
    (State.formRec s src sev count arg).press = s.press ∧
    (State.formRec s src sev count arg).vault = s.vault ∧
    (State.formRec s src sev count arg).ctl = s.ctl ∧
    (State.formRec s src sev count arg).cntr = s.cntr ∧
    (State.formRec s src sev count arg).tlm = s.tlm ∧
    (State.formRec s src sev count arg).wd0 = s.wd0 ∧
    (State.formRec s src sev count arg).clk = s.clk ∧
    (State.formRec s src sev count arg).host = s.host ∧
    (State.formRec s src sev count arg).ident = s.ident ∧
    (State.formRec s src sev count arg).sealing = s.sealing ∧
    (State.formRec s src sev count arg).crypt = s.crypt ∧
    (State.formRec s src sev count arg).life = s.life ∧
    (State.formRec s src sev count arg).side = s.side ∧
    (State.formRec s src sev count arg).aux = s.aux ∧
    (State.formRec s src sev count arg).chan = s.chan ∧
    (State.formRec s src sev count arg).cfg = s.cfg ∧
    (State.formRec s src sev count arg).sticky = s.sticky ∧
    (State.formRec s src sev count arg).view = s.view ∧
    (State.formRec s src sev count arg).powered = s.powered ∧
    (State.formRec s src sev count arg).agt = s.agt ∧
    (State.formRec s src sev count arg).cask = s.cask := by
  have h := State.formRec_keeps s src sev count arg
  exact ⟨h .pending (by decide), h .time (by decide), h .freeCtr (by decide), h .outbox (by decide), h .regs (by decide), h .plat (by decide), h .keeper (by decide), h .chs (by decide), h .cellar (by decide), h .press (by decide), h .vault (by decide), h .ctl (by decide), h .cntr (by decide), h .tlm (by decide), h .wd0 (by decide), h .clk (by decide), h .host (by decide), h .ident (by decide), h .sealing (by decide), h .crypt (by decide), h .life (by decide), h .side (by decide), h .aux (by decide), State.chan_of (h .chs (by decide)), State.cfg_of (h .regs (by decide)), State.sticky_of (h .regs (by decide)), State.view_of (h .regs (by decide)), State.powered_of (h .plat (by decide)), State.agt_of (h .ctl (by decide)), State.cask_of (h .crypt (by decide))⟩

@[simp] theorem State.takeRaise_rest (s : State) (r : Raise) :
    (State.takeRaise s r).pending = s.pending ∧
    (State.takeRaise s r).time = s.time ∧
    (State.takeRaise s r).freeCtr = s.freeCtr ∧
    (State.takeRaise s r).keeper = s.keeper ∧
    (State.takeRaise s r).chs = s.chs ∧
    (State.takeRaise s r).cellar = s.cellar ∧
    (State.takeRaise s r).press = s.press ∧
    (State.takeRaise s r).vault = s.vault ∧
    (State.takeRaise s r).ctl = s.ctl ∧
    (State.takeRaise s r).tlm = s.tlm ∧
    (State.takeRaise s r).wd0 = s.wd0 ∧
    (State.takeRaise s r).clk = s.clk ∧
    (State.takeRaise s r).ident = s.ident ∧
    (State.takeRaise s r).sealing = s.sealing ∧
    (State.takeRaise s r).crypt = s.crypt ∧
    (State.takeRaise s r).life = s.life ∧
    (State.takeRaise s r).side = s.side ∧
    (State.takeRaise s r).aux = s.aux ∧
    (State.takeRaise s r).chan = s.chan ∧
    (State.takeRaise s r).agt = s.agt ∧
    (State.takeRaise s r).cask = s.cask := by
  have h := State.takeRaise_keeps s r
  exact ⟨h .pending (by decide), h .time (by decide), h .freeCtr (by decide), h .keeper (by decide), h .chs (by decide), h .cellar (by decide), h .press (by decide), h .vault (by decide), h .ctl (by decide), h .tlm (by decide), h .wd0 (by decide), h .clk (by decide), h .ident (by decide), h .sealing (by decide), h .crypt (by decide), h .life (by decide), h .side (by decide), h .aux (by decide), State.chan_of (h .chs (by decide)), State.agt_of (h .ctl (by decide)), State.cask_of (h .crypt (by decide))⟩

@[simp] theorem State.qReport_rest (s : State) (q : Nat) (bytes : Nat) (body : List Byte) :
    (State.qReport s q bytes body).pending = s.pending ∧
    (State.qReport s q bytes body).time = s.time ∧
    (State.qReport s q bytes body).freeCtr = s.freeCtr ∧
    (State.qReport s q bytes body).regs = s.regs ∧
    (State.qReport s q bytes body).plat = s.plat ∧
    (State.qReport s q bytes body).keeper = s.keeper ∧
    (State.qReport s q bytes body).chs = s.chs ∧
    (State.qReport s q bytes body).cellar = s.cellar ∧
    (State.qReport s q bytes body).press = s.press ∧
    (State.qReport s q bytes body).vault = s.vault ∧
    (State.qReport s q bytes body).ctl = s.ctl ∧
    (State.qReport s q bytes body).wd0 = s.wd0 ∧
    (State.qReport s q bytes body).clk = s.clk ∧
    (State.qReport s q bytes body).ident = s.ident ∧
    (State.qReport s q bytes body).sealing = s.sealing ∧
    (State.qReport s q bytes body).crypt = s.crypt ∧
    (State.qReport s q bytes body).life = s.life ∧
    (State.qReport s q bytes body).side = s.side ∧
    (State.qReport s q bytes body).aux = s.aux ∧
    (State.qReport s q bytes body).chan = s.chan ∧
    (State.qReport s q bytes body).cfg = s.cfg ∧
    (State.qReport s q bytes body).sticky = s.sticky ∧
    (State.qReport s q bytes body).view = s.view ∧
    (State.qReport s q bytes body).powered = s.powered ∧
    (State.qReport s q bytes body).agt = s.agt ∧
    (State.qReport s q bytes body).cask = s.cask := by
  have h := State.qReport_keeps s q bytes body
  exact ⟨h .pending (by decide), h .time (by decide), h .freeCtr (by decide), h .regs (by decide), h .plat (by decide), h .keeper (by decide), h .chs (by decide), h .cellar (by decide), h .press (by decide), h .vault (by decide), h .ctl (by decide), h .wd0 (by decide), h .clk (by decide), h .ident (by decide), h .sealing (by decide), h .crypt (by decide), h .life (by decide), h .side (by decide), h .aux (by decide), State.chan_of (h .chs (by decide)), State.cfg_of (h .regs (by decide)), State.sticky_of (h .regs (by decide)), State.view_of (h .regs (by decide)), State.powered_of (h .plat (by decide)), State.agt_of (h .ctl (by decide)), State.cask_of (h .crypt (by decide))⟩

@[simp] theorem State.writeRec_rest (s : State) (r : Rec) :
    (State.writeRec s r).pending = s.pending ∧
    (State.writeRec s r).time = s.time ∧
    (State.writeRec s r).freeCtr = s.freeCtr ∧
    (State.writeRec s r).regs = s.regs ∧
    (State.writeRec s r).plat = s.plat ∧
    (State.writeRec s r).chs = s.chs ∧
    (State.writeRec s r).cellar = s.cellar ∧
    (State.writeRec s r).press = s.press ∧
    (State.writeRec s r).vault = s.vault ∧
    (State.writeRec s r).ctl = s.ctl ∧
    (State.writeRec s r).wd0 = s.wd0 ∧
    (State.writeRec s r).clk = s.clk ∧
    (State.writeRec s r).ident = s.ident ∧
    (State.writeRec s r).sealing = s.sealing ∧
    (State.writeRec s r).crypt = s.crypt ∧
    (State.writeRec s r).life = s.life ∧
    (State.writeRec s r).side = s.side ∧
    (State.writeRec s r).aux = s.aux ∧
    (State.writeRec s r).chan = s.chan ∧
    (State.writeRec s r).cfg = s.cfg ∧
    (State.writeRec s r).sticky = s.sticky ∧
    (State.writeRec s r).view = s.view ∧
    (State.writeRec s r).powered = s.powered ∧
    (State.writeRec s r).agt = s.agt ∧
    (State.writeRec s r).cask = s.cask := by
  have h := State.writeRec_keeps s r
  exact ⟨h .pending (by decide), h .time (by decide), h .freeCtr (by decide), h .regs (by decide), h .plat (by decide), h .chs (by decide), h .cellar (by decide), h .press (by decide), h .vault (by decide), h .ctl (by decide), h .wd0 (by decide), h .clk (by decide), h .ident (by decide), h .sealing (by decide), h .crypt (by decide), h .life (by decide), h .side (by decide), h .aux (by decide), State.chan_of (h .chs (by decide)), State.cfg_of (h .regs (by decide)), State.sticky_of (h .regs (by decide)), State.view_of (h .regs (by decide)), State.powered_of (h .plat (by decide)), State.agt_of (h .ctl (by decide)), State.cask_of (h .crypt (by decide))⟩

@[simp] theorem State.flushVec_rest (s : State) (v : Nat) :
    (State.flushVec s v).pending = s.pending ∧
    (State.flushVec s v).time = s.time ∧
    (State.flushVec s v).freeCtr = s.freeCtr ∧
    (State.flushVec s v).regs = s.regs ∧
    (State.flushVec s v).plat = s.plat ∧
    (State.flushVec s v).keeper = s.keeper ∧
    (State.flushVec s v).chs = s.chs ∧
    (State.flushVec s v).cellar = s.cellar ∧
    (State.flushVec s v).press = s.press ∧
    (State.flushVec s v).vault = s.vault ∧
    (State.flushVec s v).ctl = s.ctl ∧
    (State.flushVec s v).tlm = s.tlm ∧
    (State.flushVec s v).wd0 = s.wd0 ∧
    (State.flushVec s v).clk = s.clk ∧
    (State.flushVec s v).ident = s.ident ∧
    (State.flushVec s v).sealing = s.sealing ∧
    (State.flushVec s v).crypt = s.crypt ∧
    (State.flushVec s v).life = s.life ∧
    (State.flushVec s v).side = s.side ∧
    (State.flushVec s v).aux = s.aux ∧
    (State.flushVec s v).chan = s.chan ∧
    (State.flushVec s v).cfg = s.cfg ∧
    (State.flushVec s v).sticky = s.sticky ∧
    (State.flushVec s v).view = s.view ∧
    (State.flushVec s v).powered = s.powered ∧
    (State.flushVec s v).agt = s.agt ∧
    (State.flushVec s v).cask = s.cask := by
  have h := State.flushVec_keeps s v
  exact ⟨h .pending (by decide), h .time (by decide), h .freeCtr (by decide), h .regs (by decide), h .plat (by decide), h .keeper (by decide), h .chs (by decide), h .cellar (by decide), h .press (by decide), h .vault (by decide), h .ctl (by decide), h .tlm (by decide), h .wd0 (by decide), h .clk (by decide), h .ident (by decide), h .sealing (by decide), h .crypt (by decide), h .life (by decide), h .side (by decide), h .aux (by decide), State.chan_of (h .chs (by decide)), State.cfg_of (h .regs (by decide)), State.sticky_of (h .regs (by decide)), State.view_of (h .regs (by decide)), State.powered_of (h .plat (by decide)), State.agt_of (h .ctl (by decide)), State.cask_of (h .crypt (by decide))⟩

@[simp] theorem State.bar4Served_rest (s : State) (k : Nat) (h : Half) :
    (State.bar4Served s k h).pending = s.pending ∧
    (State.bar4Served s k h).time = s.time ∧
    (State.bar4Served s k h).freeCtr = s.freeCtr ∧
    (State.bar4Served s k h).plat = s.plat ∧
    (State.bar4Served s k h).keeper = s.keeper ∧
    (State.bar4Served s k h).chs = s.chs ∧
    (State.bar4Served s k h).cellar = s.cellar ∧
    (State.bar4Served s k h).press = s.press ∧
    (State.bar4Served s k h).vault = s.vault ∧
    (State.bar4Served s k h).ctl = s.ctl ∧
    (State.bar4Served s k h).cntr = s.cntr ∧
    (State.bar4Served s k h).tlm = s.tlm ∧
    (State.bar4Served s k h).wd0 = s.wd0 ∧
    (State.bar4Served s k h).clk = s.clk ∧
    (State.bar4Served s k h).host = s.host ∧
    (State.bar4Served s k h).ident = s.ident ∧
    (State.bar4Served s k h).sealing = s.sealing ∧
    (State.bar4Served s k h).crypt = s.crypt ∧
    (State.bar4Served s k h).life = s.life ∧
    (State.bar4Served s k h).side = s.side ∧
    (State.bar4Served s k h).aux = s.aux ∧
    (State.bar4Served s k h).chan = s.chan ∧
    (State.bar4Served s k h).powered = s.powered ∧
    (State.bar4Served s k h).agt = s.agt ∧
    (State.bar4Served s k h).cask = s.cask := by
  have h := State.bar4Served_keeps s k h
  exact ⟨h .pending (by decide), h .time (by decide), h .freeCtr (by decide), h .plat (by decide), h .keeper (by decide), h .chs (by decide), h .cellar (by decide), h .press (by decide), h .vault (by decide), h .ctl (by decide), h .cntr (by decide), h .tlm (by decide), h .wd0 (by decide), h .clk (by decide), h .host (by decide), h .ident (by decide), h .sealing (by decide), h .crypt (by decide), h .life (by decide), h .side (by decide), h .aux (by decide), State.chan_of (h .chs (by decide)), State.powered_of (h .plat (by decide)), State.agt_of (h .ctl (by decide)), State.cask_of (h .crypt (by decide))⟩

@[simp] theorem State.unsupported_rest (s : State) :
    (State.unsupported s).pending = s.pending ∧
    (State.unsupported s).time = s.time ∧
    (State.unsupported s).freeCtr = s.freeCtr ∧
    (State.unsupported s).regs = s.regs ∧
    (State.unsupported s).plat = s.plat ∧
    (State.unsupported s).keeper = s.keeper ∧
    (State.unsupported s).chs = s.chs ∧
    (State.unsupported s).cellar = s.cellar ∧
    (State.unsupported s).press = s.press ∧
    (State.unsupported s).vault = s.vault ∧
    (State.unsupported s).ctl = s.ctl ∧
    (State.unsupported s).cntr = s.cntr ∧
    (State.unsupported s).tlm = s.tlm ∧
    (State.unsupported s).wd0 = s.wd0 ∧
    (State.unsupported s).clk = s.clk ∧
    (State.unsupported s).host = s.host ∧
    (State.unsupported s).ident = s.ident ∧
    (State.unsupported s).sealing = s.sealing ∧
    (State.unsupported s).crypt = s.crypt ∧
    (State.unsupported s).life = s.life ∧
    (State.unsupported s).side = s.side ∧
    (State.unsupported s).aux = s.aux ∧
    (State.unsupported s).chan = s.chan ∧
    (State.unsupported s).cfg = s.cfg ∧
    (State.unsupported s).sticky = s.sticky ∧
    (State.unsupported s).view = s.view ∧
    (State.unsupported s).powered = s.powered ∧
    (State.unsupported s).agt = s.agt ∧
    (State.unsupported s).cask = s.cask := by
  have h := State.unsupported_keeps s
  exact ⟨h .pending (by decide), h .time (by decide), h .freeCtr (by decide), h .regs (by decide), h .plat (by decide), h .keeper (by decide), h .chs (by decide), h .cellar (by decide), h .press (by decide), h .vault (by decide), h .ctl (by decide), h .cntr (by decide), h .tlm (by decide), h .wd0 (by decide), h .clk (by decide), h .host (by decide), h .ident (by decide), h .sealing (by decide), h .crypt (by decide), h .life (by decide), h .side (by decide), h .aux (by decide), State.chan_of (h .chs (by decide)), State.cfg_of (h .regs (by decide)), State.sticky_of (h .regs (by decide)), State.view_of (h .regs (by decide)), State.powered_of (h .plat (by decide)), State.agt_of (h .ctl (by decide)), State.cask_of (h .crypt (by decide))⟩

@[simp] theorem State.sampleRec_rest (s : State) (q : Req) :
    (State.sampleRec s q).pending = s.pending ∧
    (State.sampleRec s q).time = s.time ∧
    (State.sampleRec s q).freeCtr = s.freeCtr ∧
    (State.sampleRec s q).outbox = s.outbox ∧
    (State.sampleRec s q).evt = s.evt ∧
    (State.sampleRec s q).plat = s.plat ∧
    (State.sampleRec s q).keeper = s.keeper ∧
    (State.sampleRec s q).chs = s.chs ∧
    (State.sampleRec s q).cellar = s.cellar ∧
    (State.sampleRec s q).press = s.press ∧
    (State.sampleRec s q).vault = s.vault ∧
    (State.sampleRec s q).ctl = s.ctl ∧
    (State.sampleRec s q).cntr = s.cntr ∧
    (State.sampleRec s q).tlm = s.tlm ∧
    (State.sampleRec s q).wd0 = s.wd0 ∧
    (State.sampleRec s q).clk = s.clk ∧
    (State.sampleRec s q).host = s.host ∧
    (State.sampleRec s q).ident = s.ident ∧
    (State.sampleRec s q).sealing = s.sealing ∧
    (State.sampleRec s q).crypt = s.crypt ∧
    (State.sampleRec s q).life = s.life ∧
    (State.sampleRec s q).side = s.side ∧
    (State.sampleRec s q).aux = s.aux ∧
    (State.sampleRec s q).chan = s.chan ∧
    (State.sampleRec s q).powered = s.powered ∧
    (State.sampleRec s q).agt = s.agt ∧
    (State.sampleRec s q).cask = s.cask := by
  have h := State.sampleRec_keeps s q
  exact ⟨h .pending (by decide), h .time (by decide), h .freeCtr (by decide), h .outbox (by decide), h .evt (by decide), h .plat (by decide), h .keeper (by decide), h .chs (by decide), h .cellar (by decide), h .press (by decide), h .vault (by decide), h .ctl (by decide), h .cntr (by decide), h .tlm (by decide), h .wd0 (by decide), h .clk (by decide), h .host (by decide), h .ident (by decide), h .sealing (by decide), h .crypt (by decide), h .life (by decide), h .side (by decide), h .aux (by decide), State.chan_of (h .chs (by decide)), State.powered_of (h .plat (by decide)), State.agt_of (h .ctl (by decide)), State.cask_of (h .crypt (by decide))⟩

@[simp] theorem State.sampleStream_rest (s : State) (q : Req) :
    (State.sampleStream s q).pending = s.pending ∧
    (State.sampleStream s q).time = s.time ∧
    (State.sampleStream s q).freeCtr = s.freeCtr ∧
    (State.sampleStream s q).outbox = s.outbox ∧
    (State.sampleStream s q).evt = s.evt ∧
    (State.sampleStream s q).plat = s.plat ∧
    (State.sampleStream s q).keeper = s.keeper ∧
    (State.sampleStream s q).chs = s.chs ∧
    (State.sampleStream s q).cellar = s.cellar ∧
    (State.sampleStream s q).press = s.press ∧
    (State.sampleStream s q).vault = s.vault ∧
    (State.sampleStream s q).ctl = s.ctl ∧
    (State.sampleStream s q).cntr = s.cntr ∧
    (State.sampleStream s q).tlm = s.tlm ∧
    (State.sampleStream s q).wd0 = s.wd0 ∧
    (State.sampleStream s q).clk = s.clk ∧
    (State.sampleStream s q).host = s.host ∧
    (State.sampleStream s q).ident = s.ident ∧
    (State.sampleStream s q).sealing = s.sealing ∧
    (State.sampleStream s q).crypt = s.crypt ∧
    (State.sampleStream s q).life = s.life ∧
    (State.sampleStream s q).side = s.side ∧
    (State.sampleStream s q).aux = s.aux ∧
    (State.sampleStream s q).chan = s.chan ∧
    (State.sampleStream s q).powered = s.powered ∧
    (State.sampleStream s q).agt = s.agt ∧
    (State.sampleStream s q).cask = s.cask := by
  have h := State.sampleStream_keeps s q
  exact ⟨h .pending (by decide), h .time (by decide), h .freeCtr (by decide), h .outbox (by decide), h .evt (by decide), h .plat (by decide), h .keeper (by decide), h .chs (by decide), h .cellar (by decide), h .press (by decide), h .vault (by decide), h .ctl (by decide), h .cntr (by decide), h .tlm (by decide), h .wd0 (by decide), h .clk (by decide), h .host (by decide), h .ident (by decide), h .sealing (by decide), h .crypt (by decide), h .life (by decide), h .side (by decide), h .aux (by decide), State.chan_of (h .chs (by decide)), State.powered_of (h .plat (by decide)), State.agt_of (h .ctl (by decide)), State.cask_of (h .crypt (by decide))⟩

@[simp] theorem State.sampleFor_rest (s : State) (q : Req) (off : Nat) :
    (State.sampleFor s q off).pending = s.pending ∧
    (State.sampleFor s q off).time = s.time ∧
    (State.sampleFor s q off).freeCtr = s.freeCtr ∧
    (State.sampleFor s q off).outbox = s.outbox ∧
    (State.sampleFor s q off).evt = s.evt ∧
    (State.sampleFor s q off).plat = s.plat ∧
    (State.sampleFor s q off).keeper = s.keeper ∧
    (State.sampleFor s q off).chs = s.chs ∧
    (State.sampleFor s q off).cellar = s.cellar ∧
    (State.sampleFor s q off).press = s.press ∧
    (State.sampleFor s q off).vault = s.vault ∧
    (State.sampleFor s q off).ctl = s.ctl ∧
    (State.sampleFor s q off).cntr = s.cntr ∧
    (State.sampleFor s q off).tlm = s.tlm ∧
    (State.sampleFor s q off).wd0 = s.wd0 ∧
    (State.sampleFor s q off).clk = s.clk ∧
    (State.sampleFor s q off).host = s.host ∧
    (State.sampleFor s q off).ident = s.ident ∧
    (State.sampleFor s q off).sealing = s.sealing ∧
    (State.sampleFor s q off).crypt = s.crypt ∧
    (State.sampleFor s q off).life = s.life ∧
    (State.sampleFor s q off).side = s.side ∧
    (State.sampleFor s q off).aux = s.aux ∧
    (State.sampleFor s q off).chan = s.chan ∧
    (State.sampleFor s q off).powered = s.powered ∧
    (State.sampleFor s q off).agt = s.agt ∧
    (State.sampleFor s q off).cask = s.cask := by
  have h := State.sampleFor_keeps s q off
  exact ⟨h .pending (by decide), h .time (by decide), h .freeCtr (by decide), h .outbox (by decide), h .evt (by decide), h .plat (by decide), h .keeper (by decide), h .chs (by decide), h .cellar (by decide), h .press (by decide), h .vault (by decide), h .ctl (by decide), h .cntr (by decide), h .tlm (by decide), h .wd0 (by decide), h .clk (by decide), h .host (by decide), h .ident (by decide), h .sealing (by decide), h .crypt (by decide), h .life (by decide), h .side (by decide), h .aux (by decide), State.chan_of (h .chs (by decide)), State.powered_of (h .plat (by decide)), State.agt_of (h .ctl (by decide)), State.cask_of (h .crypt (by decide))⟩

@[simp] theorem State.busRead_rest (s : State) (q : Req) (off : Nat) :
    (State.busRead s q off).pending = s.pending ∧
    (State.busRead s q off).time = s.time ∧
    (State.busRead s q off).evt = s.evt ∧
    (State.busRead s q off).plat = s.plat ∧
    (State.busRead s q off).keeper = s.keeper ∧
    (State.busRead s q off).chs = s.chs ∧
    (State.busRead s q off).cellar = s.cellar ∧
    (State.busRead s q off).press = s.press ∧
    (State.busRead s q off).vault = s.vault ∧
    (State.busRead s q off).ctl = s.ctl ∧
    (State.busRead s q off).cntr = s.cntr ∧
    (State.busRead s q off).tlm = s.tlm ∧
    (State.busRead s q off).wd0 = s.wd0 ∧
    (State.busRead s q off).clk = s.clk ∧
    (State.busRead s q off).host = s.host ∧
    (State.busRead s q off).ident = s.ident ∧
    (State.busRead s q off).sealing = s.sealing ∧
    (State.busRead s q off).crypt = s.crypt ∧
    (State.busRead s q off).life = s.life ∧
    (State.busRead s q off).side = s.side ∧
    (State.busRead s q off).aux = s.aux ∧
    (State.busRead s q off).chan = s.chan ∧
    (State.busRead s q off).powered = s.powered ∧
    (State.busRead s q off).agt = s.agt ∧
    (State.busRead s q off).cask = s.cask := by
  have h := State.busRead_keeps s q off
  exact ⟨h .pending (by decide), h .time (by decide), h .evt (by decide), h .plat (by decide), h .keeper (by decide), h .chs (by decide), h .cellar (by decide), h .press (by decide), h .vault (by decide), h .ctl (by decide), h .cntr (by decide), h .tlm (by decide), h .wd0 (by decide), h .clk (by decide), h .host (by decide), h .ident (by decide), h .sealing (by decide), h .crypt (by decide), h .life (by decide), h .side (by decide), h .aux (by decide), State.chan_of (h .chs (by decide)), State.powered_of (h .plat (by decide)), State.agt_of (h .ctl (by decide)), State.cask_of (h .crypt (by decide))⟩

@[simp] theorem State.stageKey_rest (s : State) (q : Req) (key : Nat) (v : Word) :
    (State.stageKey s q key v).pending = s.pending ∧
    (State.stageKey s q key v).time = s.time ∧
    (State.stageKey s q key v).freeCtr = s.freeCtr ∧
    (State.stageKey s q key v).outbox = s.outbox ∧
    (State.stageKey s q key v).evt = s.evt ∧
    (State.stageKey s q key v).plat = s.plat ∧
    (State.stageKey s q key v).keeper = s.keeper ∧
    (State.stageKey s q key v).chs = s.chs ∧
    (State.stageKey s q key v).cellar = s.cellar ∧
    (State.stageKey s q key v).press = s.press ∧
    (State.stageKey s q key v).vault = s.vault ∧
    (State.stageKey s q key v).ctl = s.ctl ∧
    (State.stageKey s q key v).cntr = s.cntr ∧
    (State.stageKey s q key v).tlm = s.tlm ∧
    (State.stageKey s q key v).wd0 = s.wd0 ∧
    (State.stageKey s q key v).clk = s.clk ∧
    (State.stageKey s q key v).host = s.host ∧
    (State.stageKey s q key v).ident = s.ident ∧
    (State.stageKey s q key v).sealing = s.sealing ∧
    (State.stageKey s q key v).crypt = s.crypt ∧
    (State.stageKey s q key v).life = s.life ∧
    (State.stageKey s q key v).side = s.side ∧
    (State.stageKey s q key v).aux = s.aux ∧
    (State.stageKey s q key v).chan = s.chan ∧
    (State.stageKey s q key v).powered = s.powered ∧
    (State.stageKey s q key v).agt = s.agt ∧
    (State.stageKey s q key v).cask = s.cask := by
  have h := State.stageKey_keeps s q key v
  exact ⟨h .pending (by decide), h .time (by decide), h .freeCtr (by decide), h .outbox (by decide), h .evt (by decide), h .plat (by decide), h .keeper (by decide), h .chs (by decide), h .cellar (by decide), h .press (by decide), h .vault (by decide), h .ctl (by decide), h .cntr (by decide), h .tlm (by decide), h .wd0 (by decide), h .clk (by decide), h .host (by decide), h .ident (by decide), h .sealing (by decide), h .crypt (by decide), h .life (by decide), h .side (by decide), h .aux (by decide), State.chan_of (h .chs (by decide)), State.powered_of (h .plat (by decide)), State.agt_of (h .ctl (by decide)), State.cask_of (h .crypt (by decide))⟩

@[simp] theorem State.stageWrite_rest (s : State) (q : Req) (off : Nat) (v : Word) :
    (State.stageWrite s q off v).pending = s.pending ∧
    (State.stageWrite s q off v).time = s.time ∧
    (State.stageWrite s q off v).freeCtr = s.freeCtr ∧
    (State.stageWrite s q off v).outbox = s.outbox ∧
    (State.stageWrite s q off v).evt = s.evt ∧
    (State.stageWrite s q off v).plat = s.plat ∧
    (State.stageWrite s q off v).keeper = s.keeper ∧
    (State.stageWrite s q off v).chs = s.chs ∧
    (State.stageWrite s q off v).cellar = s.cellar ∧
    (State.stageWrite s q off v).press = s.press ∧
    (State.stageWrite s q off v).vault = s.vault ∧
    (State.stageWrite s q off v).ctl = s.ctl ∧
    (State.stageWrite s q off v).tlm = s.tlm ∧
    (State.stageWrite s q off v).wd0 = s.wd0 ∧
    (State.stageWrite s q off v).clk = s.clk ∧
    (State.stageWrite s q off v).host = s.host ∧
    (State.stageWrite s q off v).ident = s.ident ∧
    (State.stageWrite s q off v).sealing = s.sealing ∧
    (State.stageWrite s q off v).crypt = s.crypt ∧
    (State.stageWrite s q off v).life = s.life ∧
    (State.stageWrite s q off v).side = s.side ∧
    (State.stageWrite s q off v).aux = s.aux ∧
    (State.stageWrite s q off v).chan = s.chan ∧
    (State.stageWrite s q off v).powered = s.powered ∧
    (State.stageWrite s q off v).agt = s.agt ∧
    (State.stageWrite s q off v).cask = s.cask := by
  have h := State.stageWrite_keeps s q off v
  exact ⟨h .pending (by decide), h .time (by decide), h .freeCtr (by decide), h .outbox (by decide), h .evt (by decide), h .plat (by decide), h .keeper (by decide), h .chs (by decide), h .cellar (by decide), h .press (by decide), h .vault (by decide), h .ctl (by decide), h .tlm (by decide), h .wd0 (by decide), h .clk (by decide), h .host (by decide), h .ident (by decide), h .sealing (by decide), h .crypt (by decide), h .life (by decide), h .side (by decide), h .aux (by decide), State.chan_of (h .chs (by decide)), State.powered_of (h .plat (by decide)), State.agt_of (h .ctl (by decide)), State.cask_of (h .crypt (by decide))⟩

@[simp] theorem State.beginChange_rest (s : State) (c : KeyChange) :
    (State.beginChange s c).pending = s.pending ∧
    (State.beginChange s c).time = s.time ∧
    (State.beginChange s c).freeCtr = s.freeCtr ∧
    (State.beginChange s c).outbox = s.outbox ∧
    (State.beginChange s c).regs = s.regs ∧
    (State.beginChange s c).evt = s.evt ∧
    (State.beginChange s c).plat = s.plat ∧
    (State.beginChange s c).keeper = s.keeper ∧
    (State.beginChange s c).chs = s.chs ∧
    (State.beginChange s c).cellar = s.cellar ∧
    (State.beginChange s c).press = s.press ∧
    (State.beginChange s c).vault = s.vault ∧
    (State.beginChange s c).ctl = s.ctl ∧
    (State.beginChange s c).cntr = s.cntr ∧
    (State.beginChange s c).tlm = s.tlm ∧
    (State.beginChange s c).wd0 = s.wd0 ∧
    (State.beginChange s c).clk = s.clk ∧
    (State.beginChange s c).host = s.host ∧
    (State.beginChange s c).ident = s.ident ∧
    (State.beginChange s c).sealing = s.sealing ∧
    (State.beginChange s c).life = s.life ∧
    (State.beginChange s c).side = s.side ∧
    (State.beginChange s c).aux = s.aux ∧
    (State.beginChange s c).chan = s.chan ∧
    (State.beginChange s c).cfg = s.cfg ∧
    (State.beginChange s c).sticky = s.sticky ∧
    (State.beginChange s c).view = s.view ∧
    (State.beginChange s c).powered = s.powered ∧
    (State.beginChange s c).agt = s.agt := by
  have h := State.beginChange_keeps s c
  exact ⟨h .pending (by decide), h .time (by decide), h .freeCtr (by decide), h .outbox (by decide), h .regs (by decide), h .evt (by decide), h .plat (by decide), h .keeper (by decide), h .chs (by decide), h .cellar (by decide), h .press (by decide), h .vault (by decide), h .ctl (by decide), h .cntr (by decide), h .tlm (by decide), h .wd0 (by decide), h .clk (by decide), h .host (by decide), h .ident (by decide), h .sealing (by decide), h .life (by decide), h .side (by decide), h .aux (by decide), State.chan_of (h .chs (by decide)), State.cfg_of (h .regs (by decide)), State.sticky_of (h .regs (by decide)), State.view_of (h .regs (by decide)), State.powered_of (h .plat (by decide)), State.agt_of (h .ctl (by decide))⟩

@[simp] theorem State.setResult_rest (s : State) (q : Req) (st : Status) (mask : Word) (failGrp : Word) :
    (State.setResult s q st mask failGrp).pending = s.pending ∧
    (State.setResult s q st mask failGrp).time = s.time ∧
    (State.setResult s q st mask failGrp).freeCtr = s.freeCtr ∧
    (State.setResult s q st mask failGrp).outbox = s.outbox ∧
    (State.setResult s q st mask failGrp).evt = s.evt ∧
    (State.setResult s q st mask failGrp).plat = s.plat ∧
    (State.setResult s q st mask failGrp).keeper = s.keeper ∧
    (State.setResult s q st mask failGrp).chs = s.chs ∧
    (State.setResult s q st mask failGrp).cellar = s.cellar ∧
    (State.setResult s q st mask failGrp).press = s.press ∧
    (State.setResult s q st mask failGrp).vault = s.vault ∧
    (State.setResult s q st mask failGrp).ctl = s.ctl ∧
    (State.setResult s q st mask failGrp).cntr = s.cntr ∧
    (State.setResult s q st mask failGrp).tlm = s.tlm ∧
    (State.setResult s q st mask failGrp).wd0 = s.wd0 ∧
    (State.setResult s q st mask failGrp).clk = s.clk ∧
    (State.setResult s q st mask failGrp).host = s.host ∧
    (State.setResult s q st mask failGrp).ident = s.ident ∧
    (State.setResult s q st mask failGrp).sealing = s.sealing ∧
    (State.setResult s q st mask failGrp).crypt = s.crypt ∧
    (State.setResult s q st mask failGrp).life = s.life ∧
    (State.setResult s q st mask failGrp).side = s.side ∧
    (State.setResult s q st mask failGrp).aux = s.aux ∧
    (State.setResult s q st mask failGrp).chan = s.chan ∧
    (State.setResult s q st mask failGrp).powered = s.powered ∧
    (State.setResult s q st mask failGrp).agt = s.agt ∧
    (State.setResult s q st mask failGrp).cask = s.cask := by
  have h := State.setResult_keeps s q st mask failGrp
  exact ⟨h .pending (by decide), h .time (by decide), h .freeCtr (by decide), h .outbox (by decide), h .evt (by decide), h .plat (by decide), h .keeper (by decide), h .chs (by decide), h .cellar (by decide), h .press (by decide), h .vault (by decide), h .ctl (by decide), h .cntr (by decide), h .tlm (by decide), h .wd0 (by decide), h .clk (by decide), h .host (by decide), h .ident (by decide), h .sealing (by decide), h .crypt (by decide), h .life (by decide), h .side (by decide), h .aux (by decide), State.chan_of (h .chs (by decide)), State.powered_of (h .plat (by decide)), State.agt_of (h .ctl (by decide)), State.cask_of (h .crypt (by decide))⟩

@[simp] theorem State.updRec_rest (s : State) (n : Ch) (f : RecJob → RecJob) :
    (State.updRec s n f).pending = s.pending ∧
    (State.updRec s n f).time = s.time ∧
    (State.updRec s n f).freeCtr = s.freeCtr ∧
    (State.updRec s n f).outbox = s.outbox ∧
    (State.updRec s n f).regs = s.regs ∧
    (State.updRec s n f).evt = s.evt ∧
    (State.updRec s n f).plat = s.plat ∧
    (State.updRec s n f).keeper = s.keeper ∧
    (State.updRec s n f).chs = s.chs ∧
    (State.updRec s n f).cellar = s.cellar ∧
    (State.updRec s n f).press = s.press ∧
    (State.updRec s n f).vault = s.vault ∧
    (State.updRec s n f).ctl = s.ctl ∧
    (State.updRec s n f).cntr = s.cntr ∧
    (State.updRec s n f).tlm = s.tlm ∧
    (State.updRec s n f).wd0 = s.wd0 ∧
    (State.updRec s n f).clk = s.clk ∧
    (State.updRec s n f).host = s.host ∧
    (State.updRec s n f).sealing = s.sealing ∧
    (State.updRec s n f).crypt = s.crypt ∧
    (State.updRec s n f).life = s.life ∧
    (State.updRec s n f).side = s.side ∧
    (State.updRec s n f).aux = s.aux ∧
    (State.updRec s n f).chan = s.chan ∧
    (State.updRec s n f).cfg = s.cfg ∧
    (State.updRec s n f).sticky = s.sticky ∧
    (State.updRec s n f).view = s.view ∧
    (State.updRec s n f).powered = s.powered ∧
    (State.updRec s n f).agt = s.agt ∧
    (State.updRec s n f).cask = s.cask := by
  have h := State.updRec_keeps s n f
  exact ⟨h .pending (by decide), h .time (by decide), h .freeCtr (by decide), h .outbox (by decide), h .regs (by decide), h .evt (by decide), h .plat (by decide), h .keeper (by decide), h .chs (by decide), h .cellar (by decide), h .press (by decide), h .vault (by decide), h .ctl (by decide), h .cntr (by decide), h .tlm (by decide), h .wd0 (by decide), h .clk (by decide), h .host (by decide), h .sealing (by decide), h .crypt (by decide), h .life (by decide), h .side (by decide), h .aux (by decide), State.chan_of (h .chs (by decide)), State.cfg_of (h .regs (by decide)), State.sticky_of (h .regs (by decide)), State.view_of (h .regs (by decide)), State.powered_of (h .plat (by decide)), State.agt_of (h .ctl (by decide)), State.cask_of (h .crypt (by decide))⟩

@[simp] theorem State.recExhausted_rest (s : State) (n : Ch) :
    (State.recExhausted s n).pending = s.pending ∧
    (State.recExhausted s n).time = s.time ∧
    (State.recExhausted s n).plat = s.plat ∧
    (State.recExhausted s n).cntr = s.cntr ∧
    (State.recExhausted s n).tlm = s.tlm ∧
    (State.recExhausted s n).wd0 = s.wd0 ∧
    (State.recExhausted s n).clk = s.clk ∧
    (State.recExhausted s n).host = s.host ∧
    (State.recExhausted s n).sealing = s.sealing ∧
    (State.recExhausted s n).crypt = s.crypt ∧
    (State.recExhausted s n).life = s.life ∧
    (State.recExhausted s n).side = s.side ∧
    (State.recExhausted s n).aux = s.aux ∧
    (State.recExhausted s n).powered = s.powered ∧
    (State.recExhausted s n).cask = s.cask := by
  have h := State.recExhausted_keeps s n
  exact ⟨h .pending (by decide), h .time (by decide), h .plat (by decide), h .cntr (by decide), h .tlm (by decide), h .wd0 (by decide), h .clk (by decide), h .host (by decide), h .sealing (by decide), h .crypt (by decide), h .life (by decide), h .side (by decide), h .aux (by decide), State.powered_of (h .plat (by decide)), State.cask_of (h .crypt (by decide))⟩

@[simp] theorem State.sourceFails_rest (s : State) (n : Ch) (j : RecJob) :
    (State.sourceFails s n j).pending = s.pending ∧
    (State.sourceFails s n j).time = s.time ∧
    (State.sourceFails s n j).plat = s.plat ∧
    (State.sourceFails s n j).cntr = s.cntr ∧
    (State.sourceFails s n j).tlm = s.tlm ∧
    (State.sourceFails s n j).wd0 = s.wd0 ∧
    (State.sourceFails s n j).clk = s.clk ∧
    (State.sourceFails s n j).host = s.host ∧
    (State.sourceFails s n j).sealing = s.sealing ∧
    (State.sourceFails s n j).crypt = s.crypt ∧
    (State.sourceFails s n j).life = s.life ∧
    (State.sourceFails s n j).side = s.side ∧
    (State.sourceFails s n j).aux = s.aux ∧
    (State.sourceFails s n j).powered = s.powered ∧
    (State.sourceFails s n j).cask = s.cask := by
  have h := State.sourceFails_keeps s n j
  exact ⟨h .pending (by decide), h .time (by decide), h .plat (by decide), h .cntr (by decide), h .tlm (by decide), h .wd0 (by decide), h .clk (by decide), h .host (by decide), h .sealing (by decide), h .crypt (by decide), h .life (by decide), h .side (by decide), h .aux (by decide), State.powered_of (h .plat (by decide)), State.cask_of (h .crypt (by decide))⟩

@[simp] theorem State.slotRestored_rest (s : State) (n : Ch) (j : RecJob) :
    (State.slotRestored s n j).pending = s.pending ∧
    (State.slotRestored s n j).time = s.time ∧
    (State.slotRestored s n j).plat = s.plat ∧
    (State.slotRestored s n j).cntr = s.cntr ∧
    (State.slotRestored s n j).tlm = s.tlm ∧
    (State.slotRestored s n j).wd0 = s.wd0 ∧
    (State.slotRestored s n j).clk = s.clk ∧
    (State.slotRestored s n j).host = s.host ∧
    (State.slotRestored s n j).sealing = s.sealing ∧
    (State.slotRestored s n j).crypt = s.crypt ∧
    (State.slotRestored s n j).life = s.life ∧
    (State.slotRestored s n j).side = s.side ∧
    (State.slotRestored s n j).aux = s.aux ∧
    (State.slotRestored s n j).powered = s.powered ∧
    (State.slotRestored s n j).cask = s.cask := by
  have h := State.slotRestored_keeps s n j
  exact ⟨h .pending (by decide), h .time (by decide), h .plat (by decide), h .cntr (by decide), h .tlm (by decide), h .wd0 (by decide), h .clk (by decide), h .host (by decide), h .sealing (by decide), h .crypt (by decide), h .life (by decide), h .side (by decide), h .aux (by decide), State.powered_of (h .plat (by decide)), State.cask_of (h .crypt (by decide))⟩

@[simp] theorem State.recActCommit_rest (s : State) (n : Ch) (j : RecJob) :
    (State.recActCommit s n j).pending = s.pending ∧
    (State.recActCommit s n j).time = s.time ∧
    (State.recActCommit s n j).plat = s.plat ∧
    (State.recActCommit s n j).cntr = s.cntr ∧
    (State.recActCommit s n j).tlm = s.tlm ∧
    (State.recActCommit s n j).wd0 = s.wd0 ∧
    (State.recActCommit s n j).clk = s.clk ∧
    (State.recActCommit s n j).host = s.host ∧
    (State.recActCommit s n j).sealing = s.sealing ∧
    (State.recActCommit s n j).crypt = s.crypt ∧
    (State.recActCommit s n j).life = s.life ∧
    (State.recActCommit s n j).side = s.side ∧
    (State.recActCommit s n j).aux = s.aux ∧
    (State.recActCommit s n j).powered = s.powered ∧
    (State.recActCommit s n j).cask = s.cask := by
  have h := State.recActCommit_keeps s n j
  exact ⟨h .pending (by decide), h .time (by decide), h .plat (by decide), h .cntr (by decide), h .tlm (by decide), h .wd0 (by decide), h .clk (by decide), h .host (by decide), h .sealing (by decide), h .crypt (by decide), h .life (by decide), h .side (by decide), h .aux (by decide), State.powered_of (h .plat (by decide)), State.cask_of (h .crypt (by decide))⟩

@[simp] theorem State.recRecord_rest (s : State) (n : Ch) (j : RecJob) (state : Nat) (step : Nat) :
    (State.recRecord s n j state step).pending = s.pending ∧
    (State.recRecord s n j state step).time = s.time ∧
    (State.recRecord s n j state step).freeCtr = s.freeCtr ∧
    (State.recRecord s n j state step).outbox = s.outbox ∧
    (State.recRecord s n j state step).regs = s.regs ∧
    (State.recRecord s n j state step).evt = s.evt ∧
    (State.recRecord s n j state step).plat = s.plat ∧
    (State.recRecord s n j state step).keeper = s.keeper ∧
    (State.recRecord s n j state step).chs = s.chs ∧
    (State.recRecord s n j state step).cellar = s.cellar ∧
    (State.recRecord s n j state step).press = s.press ∧
    (State.recRecord s n j state step).ctl = s.ctl ∧
    (State.recRecord s n j state step).cntr = s.cntr ∧
    (State.recRecord s n j state step).tlm = s.tlm ∧
    (State.recRecord s n j state step).wd0 = s.wd0 ∧
    (State.recRecord s n j state step).clk = s.clk ∧
    (State.recRecord s n j state step).host = s.host ∧
    (State.recRecord s n j state step).ident = s.ident ∧
    (State.recRecord s n j state step).sealing = s.sealing ∧
    (State.recRecord s n j state step).crypt = s.crypt ∧
    (State.recRecord s n j state step).life = s.life ∧
    (State.recRecord s n j state step).side = s.side ∧
    (State.recRecord s n j state step).aux = s.aux ∧
    (State.recRecord s n j state step).chan = s.chan ∧
    (State.recRecord s n j state step).cfg = s.cfg ∧
    (State.recRecord s n j state step).sticky = s.sticky ∧
    (State.recRecord s n j state step).view = s.view ∧
    (State.recRecord s n j state step).powered = s.powered ∧
    (State.recRecord s n j state step).agt = s.agt ∧
    (State.recRecord s n j state step).cask = s.cask := by
  have h := State.recRecord_keeps s n j state step
  exact ⟨h .pending (by decide), h .time (by decide), h .freeCtr (by decide), h .outbox (by decide), h .regs (by decide), h .evt (by decide), h .plat (by decide), h .keeper (by decide), h .chs (by decide), h .cellar (by decide), h .press (by decide), h .ctl (by decide), h .cntr (by decide), h .tlm (by decide), h .wd0 (by decide), h .clk (by decide), h .host (by decide), h .ident (by decide), h .sealing (by decide), h .crypt (by decide), h .life (by decide), h .side (by decide), h .aux (by decide), State.chan_of (h .chs (by decide)), State.cfg_of (h .regs (by decide)), State.sticky_of (h .regs (by decide)), State.view_of (h .regs (by decide)), State.powered_of (h .plat (by decide)), State.agt_of (h .ctl (by decide)), State.cask_of (h .crypt (by decide))⟩

@[simp] theorem State.wearErase_rest (s : State) (area : Nat) :
    (State.wearErase s area).pending = s.pending ∧
    (State.wearErase s area).time = s.time ∧
    (State.wearErase s area).freeCtr = s.freeCtr ∧
    (State.wearErase s area).outbox = s.outbox ∧
    (State.wearErase s area).regs = s.regs ∧
    (State.wearErase s area).plat = s.plat ∧
    (State.wearErase s area).keeper = s.keeper ∧
    (State.wearErase s area).chs = s.chs ∧
    (State.wearErase s area).cellar = s.cellar ∧
    (State.wearErase s area).press = s.press ∧
    (State.wearErase s area).ctl = s.ctl ∧
    (State.wearErase s area).cntr = s.cntr ∧
    (State.wearErase s area).tlm = s.tlm ∧
    (State.wearErase s area).wd0 = s.wd0 ∧
    (State.wearErase s area).clk = s.clk ∧
    (State.wearErase s area).host = s.host ∧
    (State.wearErase s area).ident = s.ident ∧
    (State.wearErase s area).sealing = s.sealing ∧
    (State.wearErase s area).crypt = s.crypt ∧
    (State.wearErase s area).life = s.life ∧
    (State.wearErase s area).side = s.side ∧
    (State.wearErase s area).aux = s.aux ∧
    (State.wearErase s area).chan = s.chan ∧
    (State.wearErase s area).cfg = s.cfg ∧
    (State.wearErase s area).sticky = s.sticky ∧
    (State.wearErase s area).view = s.view ∧
    (State.wearErase s area).powered = s.powered ∧
    (State.wearErase s area).agt = s.agt ∧
    (State.wearErase s area).cask = s.cask := by
  have h := State.wearErase_keeps s area
  exact ⟨h .pending (by decide), h .time (by decide), h .freeCtr (by decide), h .outbox (by decide), h .regs (by decide), h .plat (by decide), h .keeper (by decide), h .chs (by decide), h .cellar (by decide), h .press (by decide), h .ctl (by decide), h .cntr (by decide), h .tlm (by decide), h .wd0 (by decide), h .clk (by decide), h .host (by decide), h .ident (by decide), h .sealing (by decide), h .crypt (by decide), h .life (by decide), h .side (by decide), h .aux (by decide), State.chan_of (h .chs (by decide)), State.cfg_of (h .regs (by decide)), State.sticky_of (h .regs (by decide)), State.view_of (h .regs (by decide)), State.powered_of (h .plat (by decide)), State.agt_of (h .ctl (by decide)), State.cask_of (h .crypt (by decide))⟩

@[simp] theorem State.blockDurable_rest (s : State) (b : JBlock) (rest : List JBlock) :
    (State.blockDurable s b rest).pending = s.pending ∧
    (State.blockDurable s b rest).time = s.time ∧
    (State.blockDurable s b rest).freeCtr = s.freeCtr ∧
    (State.blockDurable s b rest).outbox = s.outbox ∧
    (State.blockDurable s b rest).regs = s.regs ∧
    (State.blockDurable s b rest).plat = s.plat ∧
    (State.blockDurable s b rest).keeper = s.keeper ∧
    (State.blockDurable s b rest).chs = s.chs ∧
    (State.blockDurable s b rest).cellar = s.cellar ∧
    (State.blockDurable s b rest).press = s.press ∧
    (State.blockDurable s b rest).ctl = s.ctl ∧
    (State.blockDurable s b rest).cntr = s.cntr ∧
    (State.blockDurable s b rest).tlm = s.tlm ∧
    (State.blockDurable s b rest).wd0 = s.wd0 ∧
    (State.blockDurable s b rest).clk = s.clk ∧
    (State.blockDurable s b rest).host = s.host ∧
    (State.blockDurable s b rest).ident = s.ident ∧
    (State.blockDurable s b rest).sealing = s.sealing ∧
    (State.blockDurable s b rest).crypt = s.crypt ∧
    (State.blockDurable s b rest).life = s.life ∧
    (State.blockDurable s b rest).side = s.side ∧
    (State.blockDurable s b rest).aux = s.aux ∧
    (State.blockDurable s b rest).chan = s.chan ∧
    (State.blockDurable s b rest).cfg = s.cfg ∧
    (State.blockDurable s b rest).sticky = s.sticky ∧
    (State.blockDurable s b rest).view = s.view ∧
    (State.blockDurable s b rest).powered = s.powered ∧
    (State.blockDurable s b rest).agt = s.agt ∧
    (State.blockDurable s b rest).cask = s.cask := by
  have h := State.blockDurable_keeps s b rest
  exact ⟨h .pending (by decide), h .time (by decide), h .freeCtr (by decide), h .outbox (by decide), h .regs (by decide), h .plat (by decide), h .keeper (by decide), h .chs (by decide), h .cellar (by decide), h .press (by decide), h .ctl (by decide), h .cntr (by decide), h .tlm (by decide), h .wd0 (by decide), h .clk (by decide), h .host (by decide), h .ident (by decide), h .sealing (by decide), h .crypt (by decide), h .life (by decide), h .side (by decide), h .aux (by decide), State.chan_of (h .chs (by decide)), State.cfg_of (h .regs (by decide)), State.sticky_of (h .regs (by decide)), State.view_of (h .regs (by decide)), State.powered_of (h .plat (by decide)), State.agt_of (h .ctl (by decide)), State.cask_of (h .crypt (by decide))⟩

@[simp] theorem State.blockEnd_rest (s : State) (n : Ch) :
    (State.blockEnd s n).pending = s.pending ∧
    (State.blockEnd s n).time = s.time ∧
    (State.blockEnd s n).freeCtr = s.freeCtr ∧
    (State.blockEnd s n).outbox = s.outbox ∧
    (State.blockEnd s n).regs = s.regs ∧
    (State.blockEnd s n).evt = s.evt ∧
    (State.blockEnd s n).plat = s.plat ∧
    (State.blockEnd s n).keeper = s.keeper ∧
    (State.blockEnd s n).cellar = s.cellar ∧
    (State.blockEnd s n).press = s.press ∧
    (State.blockEnd s n).vault = s.vault ∧
    (State.blockEnd s n).ctl = s.ctl ∧
    (State.blockEnd s n).cntr = s.cntr ∧
    (State.blockEnd s n).tlm = s.tlm ∧
    (State.blockEnd s n).wd0 = s.wd0 ∧
    (State.blockEnd s n).clk = s.clk ∧
    (State.blockEnd s n).host = s.host ∧
    (State.blockEnd s n).ident = s.ident ∧
    (State.blockEnd s n).sealing = s.sealing ∧
    (State.blockEnd s n).crypt = s.crypt ∧
    (State.blockEnd s n).life = s.life ∧
    (State.blockEnd s n).side = s.side ∧
    (State.blockEnd s n).aux = s.aux ∧
    (State.blockEnd s n).cfg = s.cfg ∧
    (State.blockEnd s n).sticky = s.sticky ∧
    (State.blockEnd s n).view = s.view ∧
    (State.blockEnd s n).powered = s.powered ∧
    (State.blockEnd s n).agt = s.agt ∧
    (State.blockEnd s n).cask = s.cask := by
  have h := State.blockEnd_keeps s n
  exact ⟨h .pending (by decide), h .time (by decide), h .freeCtr (by decide), h .outbox (by decide), h .regs (by decide), h .evt (by decide), h .plat (by decide), h .keeper (by decide), h .cellar (by decide), h .press (by decide), h .vault (by decide), h .ctl (by decide), h .cntr (by decide), h .tlm (by decide), h .wd0 (by decide), h .clk (by decide), h .host (by decide), h .ident (by decide), h .sealing (by decide), h .crypt (by decide), h .life (by decide), h .side (by decide), h .aux (by decide), State.cfg_of (h .regs (by decide)), State.sticky_of (h .regs (by decide)), State.view_of (h .regs (by decide)), State.powered_of (h .plat (by decide)), State.agt_of (h .ctl (by decide)), State.cask_of (h .crypt (by decide))⟩

@[simp] theorem State.partFailed_rest (s : State) (n : Ch) (k : PartId) :
    (State.partFailed s n k).pending = s.pending ∧
    (State.partFailed s n k).time = s.time ∧
    (State.partFailed s n k).plat = s.plat ∧
    (State.partFailed s n k).cntr = s.cntr ∧
    (State.partFailed s n k).tlm = s.tlm ∧
    (State.partFailed s n k).wd0 = s.wd0 ∧
    (State.partFailed s n k).clk = s.clk ∧
    (State.partFailed s n k).host = s.host ∧
    (State.partFailed s n k).sealing = s.sealing ∧
    (State.partFailed s n k).crypt = s.crypt ∧
    (State.partFailed s n k).life = s.life ∧
    (State.partFailed s n k).side = s.side ∧
    (State.partFailed s n k).aux = s.aux ∧
    (State.partFailed s n k).powered = s.powered ∧
    (State.partFailed s n k).cask = s.cask := by
  have h := State.partFailed_keeps s n k
  exact ⟨h .pending (by decide), h .time (by decide), h .plat (by decide), h .cntr (by decide), h .tlm (by decide), h .wd0 (by decide), h .clk (by decide), h .host (by decide), h .sealing (by decide), h .crypt (by decide), h .life (by decide), h .side (by decide), h .aux (by decide), State.powered_of (h .plat (by decide)), State.cask_of (h .crypt (by decide))⟩

@[simp] theorem State.raiseDrops_rest (s : State) (t : Training) (src : Nat) :
    (State.raiseDrops s t src).pending = s.pending ∧
    (State.raiseDrops s t src).time = s.time ∧
    (State.raiseDrops s t src).freeCtr = s.freeCtr ∧
    (State.raiseDrops s t src).outbox = s.outbox ∧
    (State.raiseDrops s t src).regs = s.regs ∧
    (State.raiseDrops s t src).plat = s.plat ∧
    (State.raiseDrops s t src).keeper = s.keeper ∧
    (State.raiseDrops s t src).chs = s.chs ∧
    (State.raiseDrops s t src).cellar = s.cellar ∧
    (State.raiseDrops s t src).press = s.press ∧
    (State.raiseDrops s t src).vault = s.vault ∧
    (State.raiseDrops s t src).ctl = s.ctl ∧
    (State.raiseDrops s t src).cntr = s.cntr ∧
    (State.raiseDrops s t src).tlm = s.tlm ∧
    (State.raiseDrops s t src).wd0 = s.wd0 ∧
    (State.raiseDrops s t src).clk = s.clk ∧
    (State.raiseDrops s t src).host = s.host ∧
    (State.raiseDrops s t src).ident = s.ident ∧
    (State.raiseDrops s t src).sealing = s.sealing ∧
    (State.raiseDrops s t src).crypt = s.crypt ∧
    (State.raiseDrops s t src).life = s.life ∧
    (State.raiseDrops s t src).side = s.side ∧
    (State.raiseDrops s t src).aux = s.aux ∧
    (State.raiseDrops s t src).chan = s.chan ∧
    (State.raiseDrops s t src).cfg = s.cfg ∧
    (State.raiseDrops s t src).sticky = s.sticky ∧
    (State.raiseDrops s t src).view = s.view ∧
    (State.raiseDrops s t src).powered = s.powered ∧
    (State.raiseDrops s t src).agt = s.agt ∧
    (State.raiseDrops s t src).cask = s.cask := by
  have h := State.raiseDrops_keeps s t src
  exact ⟨h .pending (by decide), h .time (by decide), h .freeCtr (by decide), h .outbox (by decide), h .regs (by decide), h .plat (by decide), h .keeper (by decide), h .chs (by decide), h .cellar (by decide), h .press (by decide), h .vault (by decide), h .ctl (by decide), h .cntr (by decide), h .tlm (by decide), h .wd0 (by decide), h .clk (by decide), h .host (by decide), h .ident (by decide), h .sealing (by decide), h .crypt (by decide), h .life (by decide), h .side (by decide), h .aux (by decide), State.chan_of (h .chs (by decide)), State.cfg_of (h .regs (by decide)), State.sticky_of (h .regs (by decide)), State.view_of (h .regs (by decide)), State.powered_of (h .plat (by decide)), State.agt_of (h .ctl (by decide)), State.cask_of (h .crypt (by decide))⟩

@[simp] theorem State.loadAnchors_rest (s : State) (n : Ch) (k : SlotId) (copy : Nat) (npages : Nat) :
    (State.loadAnchors s n k copy npages).pending = s.pending ∧
    (State.loadAnchors s n k copy npages).time = s.time ∧
    (State.loadAnchors s n k copy npages).freeCtr = s.freeCtr ∧
    (State.loadAnchors s n k copy npages).outbox = s.outbox ∧
    (State.loadAnchors s n k copy npages).regs = s.regs ∧
    (State.loadAnchors s n k copy npages).plat = s.plat ∧
    (State.loadAnchors s n k copy npages).keeper = s.keeper ∧
    (State.loadAnchors s n k copy npages).chs = s.chs ∧
    (State.loadAnchors s n k copy npages).press = s.press ∧
    (State.loadAnchors s n k copy npages).vault = s.vault ∧
    (State.loadAnchors s n k copy npages).ctl = s.ctl ∧
    (State.loadAnchors s n k copy npages).tlm = s.tlm ∧
    (State.loadAnchors s n k copy npages).wd0 = s.wd0 ∧
    (State.loadAnchors s n k copy npages).clk = s.clk ∧
    (State.loadAnchors s n k copy npages).host = s.host ∧
    (State.loadAnchors s n k copy npages).ident = s.ident ∧
    (State.loadAnchors s n k copy npages).sealing = s.sealing ∧
    (State.loadAnchors s n k copy npages).crypt = s.crypt ∧
    (State.loadAnchors s n k copy npages).life = s.life ∧
    (State.loadAnchors s n k copy npages).side = s.side ∧
    (State.loadAnchors s n k copy npages).aux = s.aux ∧
    (State.loadAnchors s n k copy npages).chan = s.chan ∧
    (State.loadAnchors s n k copy npages).cfg = s.cfg ∧
    (State.loadAnchors s n k copy npages).sticky = s.sticky ∧
    (State.loadAnchors s n k copy npages).view = s.view ∧
    (State.loadAnchors s n k copy npages).powered = s.powered ∧
    (State.loadAnchors s n k copy npages).agt = s.agt ∧
    (State.loadAnchors s n k copy npages).cask = s.cask := by
  have h := State.loadAnchors_keeps s n k copy npages
  exact ⟨h .pending (by decide), h .time (by decide), h .freeCtr (by decide), h .outbox (by decide), h .regs (by decide), h .plat (by decide), h .keeper (by decide), h .chs (by decide), h .press (by decide), h .vault (by decide), h .ctl (by decide), h .tlm (by decide), h .wd0 (by decide), h .clk (by decide), h .host (by decide), h .ident (by decide), h .sealing (by decide), h .crypt (by decide), h .life (by decide), h .side (by decide), h .aux (by decide), State.chan_of (h .chs (by decide)), State.cfg_of (h .regs (by decide)), State.sticky_of (h .regs (by decide)), State.view_of (h .regs (by decide)), State.powered_of (h .plat (by decide)), State.agt_of (h .ctl (by decide)), State.cask_of (h .crypt (by decide))⟩

@[simp] theorem State.burnDone_rest (s : State) (n : Ch) (k : SlotId) :
    (State.burnDone s n k).pending = s.pending ∧
    (State.burnDone s n k).time = s.time ∧
    (State.burnDone s n k).freeCtr = s.freeCtr ∧
    (State.burnDone s n k).outbox = s.outbox ∧
    (State.burnDone s n k).regs = s.regs ∧
    (State.burnDone s n k).evt = s.evt ∧
    (State.burnDone s n k).plat = s.plat ∧
    (State.burnDone s n k).keeper = s.keeper ∧
    (State.burnDone s n k).cellar = s.cellar ∧
    (State.burnDone s n k).press = s.press ∧
    (State.burnDone s n k).ctl = s.ctl ∧
    (State.burnDone s n k).cntr = s.cntr ∧
    (State.burnDone s n k).tlm = s.tlm ∧
    (State.burnDone s n k).wd0 = s.wd0 ∧
    (State.burnDone s n k).clk = s.clk ∧
    (State.burnDone s n k).host = s.host ∧
    (State.burnDone s n k).ident = s.ident ∧
    (State.burnDone s n k).sealing = s.sealing ∧
    (State.burnDone s n k).crypt = s.crypt ∧
    (State.burnDone s n k).life = s.life ∧
    (State.burnDone s n k).side = s.side ∧
    (State.burnDone s n k).aux = s.aux ∧
    (State.burnDone s n k).cfg = s.cfg ∧
    (State.burnDone s n k).sticky = s.sticky ∧
    (State.burnDone s n k).view = s.view ∧
    (State.burnDone s n k).powered = s.powered ∧
    (State.burnDone s n k).agt = s.agt ∧
    (State.burnDone s n k).cask = s.cask := by
  have h := State.burnDone_keeps s n k
  exact ⟨h .pending (by decide), h .time (by decide), h .freeCtr (by decide), h .outbox (by decide), h .regs (by decide), h .evt (by decide), h .plat (by decide), h .keeper (by decide), h .cellar (by decide), h .press (by decide), h .ctl (by decide), h .cntr (by decide), h .tlm (by decide), h .wd0 (by decide), h .clk (by decide), h .host (by decide), h .ident (by decide), h .sealing (by decide), h .crypt (by decide), h .life (by decide), h .side (by decide), h .aux (by decide), State.cfg_of (h .regs (by decide)), State.sticky_of (h .regs (by decide)), State.view_of (h .regs (by decide)), State.powered_of (h .plat (by decide)), State.agt_of (h .ctl (by decide)), State.cask_of (h .crypt (by decide))⟩

@[simp] theorem State.updOtp_rest (s : State) (f : Otp → Otp) :
    (State.updOtp s f).pending = s.pending ∧
    (State.updOtp s f).time = s.time ∧
    (State.updOtp s f).freeCtr = s.freeCtr ∧
    (State.updOtp s f).outbox = s.outbox ∧
    (State.updOtp s f).regs = s.regs ∧
    (State.updOtp s f).evt = s.evt ∧
    (State.updOtp s f).plat = s.plat ∧
    (State.updOtp s f).keeper = s.keeper ∧
    (State.updOtp s f).chs = s.chs ∧
    (State.updOtp s f).cellar = s.cellar ∧
    (State.updOtp s f).press = s.press ∧
    (State.updOtp s f).vault = s.vault ∧
    (State.updOtp s f).ctl = s.ctl ∧
    (State.updOtp s f).cntr = s.cntr ∧
    (State.updOtp s f).tlm = s.tlm ∧
    (State.updOtp s f).wd0 = s.wd0 ∧
    (State.updOtp s f).clk = s.clk ∧
    (State.updOtp s f).host = s.host ∧
    (State.updOtp s f).ident = s.ident ∧
    (State.updOtp s f).sealing = s.sealing ∧
    (State.updOtp s f).crypt = s.crypt ∧
    (State.updOtp s f).side = s.side ∧
    (State.updOtp s f).aux = s.aux ∧
    (State.updOtp s f).chan = s.chan ∧
    (State.updOtp s f).cfg = s.cfg ∧
    (State.updOtp s f).sticky = s.sticky ∧
    (State.updOtp s f).view = s.view ∧
    (State.updOtp s f).powered = s.powered ∧
    (State.updOtp s f).agt = s.agt ∧
    (State.updOtp s f).cask = s.cask := by
  have h := State.updOtp_keeps s f
  exact ⟨h .pending (by decide), h .time (by decide), h .freeCtr (by decide), h .outbox (by decide), h .regs (by decide), h .evt (by decide), h .plat (by decide), h .keeper (by decide), h .chs (by decide), h .cellar (by decide), h .press (by decide), h .vault (by decide), h .ctl (by decide), h .cntr (by decide), h .tlm (by decide), h .wd0 (by decide), h .clk (by decide), h .host (by decide), h .ident (by decide), h .sealing (by decide), h .crypt (by decide), h .side (by decide), h .aux (by decide), State.chan_of (h .chs (by decide)), State.cfg_of (h .regs (by decide)), State.sticky_of (h .regs (by decide)), State.view_of (h .regs (by decide)), State.powered_of (h .plat (by decide)), State.agt_of (h .ctl (by decide)), State.cask_of (h .crypt (by decide))⟩

@[simp] theorem State.burnEol_rest (s : State) (stop : Option Nat) :
    (State.burnEol s stop).1.pending = s.pending ∧
    (State.burnEol s stop).1.time = s.time ∧
    (State.burnEol s stop).1.freeCtr = s.freeCtr ∧
    (State.burnEol s stop).1.outbox = s.outbox ∧
    (State.burnEol s stop).1.regs = s.regs ∧
    (State.burnEol s stop).1.plat = s.plat ∧
    (State.burnEol s stop).1.keeper = s.keeper ∧
    (State.burnEol s stop).1.chs = s.chs ∧
    (State.burnEol s stop).1.cellar = s.cellar ∧
    (State.burnEol s stop).1.press = s.press ∧
    (State.burnEol s stop).1.vault = s.vault ∧
    (State.burnEol s stop).1.ctl = s.ctl ∧
    (State.burnEol s stop).1.cntr = s.cntr ∧
    (State.burnEol s stop).1.tlm = s.tlm ∧
    (State.burnEol s stop).1.wd0 = s.wd0 ∧
    (State.burnEol s stop).1.clk = s.clk ∧
    (State.burnEol s stop).1.host = s.host ∧
    (State.burnEol s stop).1.ident = s.ident ∧
    (State.burnEol s stop).1.sealing = s.sealing ∧
    (State.burnEol s stop).1.crypt = s.crypt ∧
    (State.burnEol s stop).1.side = s.side ∧
    (State.burnEol s stop).1.aux = s.aux ∧
    (State.burnEol s stop).1.chan = s.chan ∧
    (State.burnEol s stop).1.cfg = s.cfg ∧
    (State.burnEol s stop).1.sticky = s.sticky ∧
    (State.burnEol s stop).1.view = s.view ∧
    (State.burnEol s stop).1.powered = s.powered ∧
    (State.burnEol s stop).1.agt = s.agt ∧
    (State.burnEol s stop).1.cask = s.cask := by
  have h := State.burnEol_keeps s stop
  exact ⟨h .pending (by decide), h .time (by decide), h .freeCtr (by decide), h .outbox (by decide), h .regs (by decide), h .plat (by decide), h .keeper (by decide), h .chs (by decide), h .cellar (by decide), h .press (by decide), h .vault (by decide), h .ctl (by decide), h .cntr (by decide), h .tlm (by decide), h .wd0 (by decide), h .clk (by decide), h .host (by decide), h .ident (by decide), h .sealing (by decide), h .crypt (by decide), h .side (by decide), h .aux (by decide), State.chan_of (h .chs (by decide)), State.cfg_of (h .regs (by decide)), State.sticky_of (h .regs (by decide)), State.view_of (h .regs (by decide)), State.powered_of (h .plat (by decide)), State.agt_of (h .ctl (by decide)), State.cask_of (h .crypt (by decide))⟩

@[simp] theorem State.burnFuses_rest (s : State) :
    (State.burnFuses s).pending = s.pending ∧
    (State.burnFuses s).time = s.time ∧
    (State.burnFuses s).freeCtr = s.freeCtr ∧
    (State.burnFuses s).outbox = s.outbox ∧
    (State.burnFuses s).regs = s.regs ∧
    (State.burnFuses s).plat = s.plat ∧
    (State.burnFuses s).keeper = s.keeper ∧
    (State.burnFuses s).chs = s.chs ∧
    (State.burnFuses s).cellar = s.cellar ∧
    (State.burnFuses s).press = s.press ∧
    (State.burnFuses s).vault = s.vault ∧
    (State.burnFuses s).ctl = s.ctl ∧
    (State.burnFuses s).cntr = s.cntr ∧
    (State.burnFuses s).tlm = s.tlm ∧
    (State.burnFuses s).wd0 = s.wd0 ∧
    (State.burnFuses s).clk = s.clk ∧
    (State.burnFuses s).host = s.host ∧
    (State.burnFuses s).ident = s.ident ∧
    (State.burnFuses s).sealing = s.sealing ∧
    (State.burnFuses s).side = s.side ∧
    (State.burnFuses s).aux = s.aux ∧
    (State.burnFuses s).chan = s.chan ∧
    (State.burnFuses s).cfg = s.cfg ∧
    (State.burnFuses s).sticky = s.sticky ∧
    (State.burnFuses s).view = s.view ∧
    (State.burnFuses s).powered = s.powered ∧
    (State.burnFuses s).agt = s.agt := by
  have h := State.burnFuses_keeps s
  exact ⟨h .pending (by decide), h .time (by decide), h .freeCtr (by decide), h .outbox (by decide), h .regs (by decide), h .plat (by decide), h .keeper (by decide), h .chs (by decide), h .cellar (by decide), h .press (by decide), h .vault (by decide), h .ctl (by decide), h .cntr (by decide), h .tlm (by decide), h .wd0 (by decide), h .clk (by decide), h .host (by decide), h .ident (by decide), h .sealing (by decide), h .side (by decide), h .aux (by decide), State.chan_of (h .chs (by decide)), State.cfg_of (h .regs (by decide)), State.sticky_of (h .regs (by decide)), State.view_of (h .regs (by decide)), State.powered_of (h .plat (by decide)), State.agt_of (h .ctl (by decide))⟩

@[simp] theorem State.otpFail_rest (s : State) :
    (State.otpFail s).pending = s.pending ∧
    (State.otpFail s).time = s.time ∧
    (State.otpFail s).freeCtr = s.freeCtr ∧
    (State.otpFail s).outbox = s.outbox ∧
    (State.otpFail s).regs = s.regs ∧
    (State.otpFail s).plat = s.plat ∧
    (State.otpFail s).keeper = s.keeper ∧
    (State.otpFail s).chs = s.chs ∧
    (State.otpFail s).cellar = s.cellar ∧
    (State.otpFail s).press = s.press ∧
    (State.otpFail s).vault = s.vault ∧
    (State.otpFail s).ctl = s.ctl ∧
    (State.otpFail s).cntr = s.cntr ∧
    (State.otpFail s).tlm = s.tlm ∧
    (State.otpFail s).wd0 = s.wd0 ∧
    (State.otpFail s).clk = s.clk ∧
    (State.otpFail s).host = s.host ∧
    (State.otpFail s).ident = s.ident ∧
    (State.otpFail s).sealing = s.sealing ∧
    (State.otpFail s).crypt = s.crypt ∧
    (State.otpFail s).side = s.side ∧
    (State.otpFail s).aux = s.aux ∧
    (State.otpFail s).chan = s.chan ∧
    (State.otpFail s).cfg = s.cfg ∧
    (State.otpFail s).sticky = s.sticky ∧
    (State.otpFail s).view = s.view ∧
    (State.otpFail s).powered = s.powered ∧
    (State.otpFail s).agt = s.agt ∧
    (State.otpFail s).cask = s.cask := by
  have h := State.otpFail_keeps s
  exact ⟨h .pending (by decide), h .time (by decide), h .freeCtr (by decide), h .outbox (by decide), h .regs (by decide), h .plat (by decide), h .keeper (by decide), h .chs (by decide), h .cellar (by decide), h .press (by decide), h .vault (by decide), h .ctl (by decide), h .cntr (by decide), h .tlm (by decide), h .wd0 (by decide), h .clk (by decide), h .host (by decide), h .ident (by decide), h .sealing (by decide), h .crypt (by decide), h .side (by decide), h .aux (by decide), State.chan_of (h .chs (by decide)), State.cfg_of (h .regs (by decide)), State.sticky_of (h .regs (by decide)), State.view_of (h .regs (by decide)), State.powered_of (h .plat (by decide)), State.agt_of (h .ctl (by decide)), State.cask_of (h .crypt (by decide))⟩

@[simp] theorem State.burnOwners_rest (s : State) (ks : List KeyEnt) (stop : Option Nat) :
    (State.burnOwners s ks stop).1.pending = s.pending ∧
    (State.burnOwners s ks stop).1.time = s.time ∧
    (State.burnOwners s ks stop).1.freeCtr = s.freeCtr ∧
    (State.burnOwners s ks stop).1.outbox = s.outbox ∧
    (State.burnOwners s ks stop).1.regs = s.regs ∧
    (State.burnOwners s ks stop).1.plat = s.plat ∧
    (State.burnOwners s ks stop).1.keeper = s.keeper ∧
    (State.burnOwners s ks stop).1.chs = s.chs ∧
    (State.burnOwners s ks stop).1.cellar = s.cellar ∧
    (State.burnOwners s ks stop).1.press = s.press ∧
    (State.burnOwners s ks stop).1.vault = s.vault ∧
    (State.burnOwners s ks stop).1.ctl = s.ctl ∧
    (State.burnOwners s ks stop).1.cntr = s.cntr ∧
    (State.burnOwners s ks stop).1.tlm = s.tlm ∧
    (State.burnOwners s ks stop).1.wd0 = s.wd0 ∧
    (State.burnOwners s ks stop).1.clk = s.clk ∧
    (State.burnOwners s ks stop).1.host = s.host ∧
    (State.burnOwners s ks stop).1.ident = s.ident ∧
    (State.burnOwners s ks stop).1.sealing = s.sealing ∧
    (State.burnOwners s ks stop).1.crypt = s.crypt ∧
    (State.burnOwners s ks stop).1.side = s.side ∧
    (State.burnOwners s ks stop).1.aux = s.aux ∧
    (State.burnOwners s ks stop).1.chan = s.chan ∧
    (State.burnOwners s ks stop).1.cfg = s.cfg ∧
    (State.burnOwners s ks stop).1.sticky = s.sticky ∧
    (State.burnOwners s ks stop).1.view = s.view ∧
    (State.burnOwners s ks stop).1.powered = s.powered ∧
    (State.burnOwners s ks stop).1.agt = s.agt ∧
    (State.burnOwners s ks stop).1.cask = s.cask := by
  have h := State.burnOwners_keeps s ks stop
  exact ⟨h .pending (by decide), h .time (by decide), h .freeCtr (by decide), h .outbox (by decide), h .regs (by decide), h .plat (by decide), h .keeper (by decide), h .chs (by decide), h .cellar (by decide), h .press (by decide), h .vault (by decide), h .ctl (by decide), h .cntr (by decide), h .tlm (by decide), h .wd0 (by decide), h .clk (by decide), h .host (by decide), h .ident (by decide), h .sealing (by decide), h .crypt (by decide), h .side (by decide), h .aux (by decide), State.chan_of (h .chs (by decide)), State.cfg_of (h .regs (by decide)), State.sticky_of (h .regs (by decide)), State.view_of (h .regs (by decide)), State.powered_of (h .plat (by decide)), State.agt_of (h .ctl (by decide)), State.cask_of (h .crypt (by decide))⟩

@[simp] theorem State.burnProd_rest (s : State) (stop : Option Nat) :
    (State.burnProd s stop).1.pending = s.pending ∧
    (State.burnProd s stop).1.time = s.time ∧
    (State.burnProd s stop).1.freeCtr = s.freeCtr ∧
    (State.burnProd s stop).1.outbox = s.outbox ∧
    (State.burnProd s stop).1.regs = s.regs ∧
    (State.burnProd s stop).1.evt = s.evt ∧
    (State.burnProd s stop).1.plat = s.plat ∧
    (State.burnProd s stop).1.keeper = s.keeper ∧
    (State.burnProd s stop).1.chs = s.chs ∧
    (State.burnProd s stop).1.cellar = s.cellar ∧
    (State.burnProd s stop).1.press = s.press ∧
    (State.burnProd s stop).1.vault = s.vault ∧
    (State.burnProd s stop).1.ctl = s.ctl ∧
    (State.burnProd s stop).1.cntr = s.cntr ∧
    (State.burnProd s stop).1.tlm = s.tlm ∧
    (State.burnProd s stop).1.wd0 = s.wd0 ∧
    (State.burnProd s stop).1.clk = s.clk ∧
    (State.burnProd s stop).1.host = s.host ∧
    (State.burnProd s stop).1.ident = s.ident ∧
    (State.burnProd s stop).1.sealing = s.sealing ∧
    (State.burnProd s stop).1.crypt = s.crypt ∧
    (State.burnProd s stop).1.side = s.side ∧
    (State.burnProd s stop).1.aux = s.aux ∧
    (State.burnProd s stop).1.chan = s.chan ∧
    (State.burnProd s stop).1.cfg = s.cfg ∧
    (State.burnProd s stop).1.sticky = s.sticky ∧
    (State.burnProd s stop).1.view = s.view ∧
    (State.burnProd s stop).1.powered = s.powered ∧
    (State.burnProd s stop).1.agt = s.agt ∧
    (State.burnProd s stop).1.cask = s.cask := by
  have h := State.burnProd_keeps s stop
  exact ⟨h .pending (by decide), h .time (by decide), h .freeCtr (by decide), h .outbox (by decide), h .regs (by decide), h .evt (by decide), h .plat (by decide), h .keeper (by decide), h .chs (by decide), h .cellar (by decide), h .press (by decide), h .vault (by decide), h .ctl (by decide), h .cntr (by decide), h .tlm (by decide), h .wd0 (by decide), h .clk (by decide), h .host (by decide), h .ident (by decide), h .sealing (by decide), h .crypt (by decide), h .side (by decide), h .aux (by decide), State.chan_of (h .chs (by decide)), State.cfg_of (h .regs (by decide)), State.sticky_of (h .regs (by decide)), State.view_of (h .regs (by decide)), State.powered_of (h .plat (by decide)), State.agt_of (h .ctl (by decide)), State.cask_of (h .crypt (by decide))⟩

@[simp] theorem State.burnRevoke_rest (s : State) (vendor : Bool) (target : Nat) (stop : Option Nat) :
    (State.burnRevoke s vendor target stop).1.pending = s.pending ∧
    (State.burnRevoke s vendor target stop).1.time = s.time ∧
    (State.burnRevoke s vendor target stop).1.freeCtr = s.freeCtr ∧
    (State.burnRevoke s vendor target stop).1.outbox = s.outbox ∧
    (State.burnRevoke s vendor target stop).1.regs = s.regs ∧
    (State.burnRevoke s vendor target stop).1.plat = s.plat ∧
    (State.burnRevoke s vendor target stop).1.keeper = s.keeper ∧
    (State.burnRevoke s vendor target stop).1.chs = s.chs ∧
    (State.burnRevoke s vendor target stop).1.cellar = s.cellar ∧
    (State.burnRevoke s vendor target stop).1.press = s.press ∧
    (State.burnRevoke s vendor target stop).1.vault = s.vault ∧
    (State.burnRevoke s vendor target stop).1.ctl = s.ctl ∧
    (State.burnRevoke s vendor target stop).1.cntr = s.cntr ∧
    (State.burnRevoke s vendor target stop).1.tlm = s.tlm ∧
    (State.burnRevoke s vendor target stop).1.wd0 = s.wd0 ∧
    (State.burnRevoke s vendor target stop).1.clk = s.clk ∧
    (State.burnRevoke s vendor target stop).1.host = s.host ∧
    (State.burnRevoke s vendor target stop).1.ident = s.ident ∧
    (State.burnRevoke s vendor target stop).1.sealing = s.sealing ∧
    (State.burnRevoke s vendor target stop).1.crypt = s.crypt ∧
    (State.burnRevoke s vendor target stop).1.side = s.side ∧
    (State.burnRevoke s vendor target stop).1.aux = s.aux ∧
    (State.burnRevoke s vendor target stop).1.chan = s.chan ∧
    (State.burnRevoke s vendor target stop).1.cfg = s.cfg ∧
    (State.burnRevoke s vendor target stop).1.sticky = s.sticky ∧
    (State.burnRevoke s vendor target stop).1.view = s.view ∧
    (State.burnRevoke s vendor target stop).1.powered = s.powered ∧
    (State.burnRevoke s vendor target stop).1.agt = s.agt ∧
    (State.burnRevoke s vendor target stop).1.cask = s.cask := by
  have h := State.burnRevoke_keeps s vendor target stop
  exact ⟨h .pending (by decide), h .time (by decide), h .freeCtr (by decide), h .outbox (by decide), h .regs (by decide), h .plat (by decide), h .keeper (by decide), h .chs (by decide), h .cellar (by decide), h .press (by decide), h .vault (by decide), h .ctl (by decide), h .cntr (by decide), h .tlm (by decide), h .wd0 (by decide), h .clk (by decide), h .host (by decide), h .ident (by decide), h .sealing (by decide), h .crypt (by decide), h .side (by decide), h .aux (by decide), State.chan_of (h .chs (by decide)), State.cfg_of (h .regs (by decide)), State.sticky_of (h .regs (by decide)), State.view_of (h .regs (by decide)), State.powered_of (h .plat (by decide)), State.agt_of (h .ctl (by decide)), State.cask_of (h .crypt (by decide))⟩

@[simp] theorem State.burnVintage_rest (s : State) (k : Nat) :
    (State.burnVintage s k).pending = s.pending ∧
    (State.burnVintage s k).time = s.time ∧
    (State.burnVintage s k).freeCtr = s.freeCtr ∧
    (State.burnVintage s k).outbox = s.outbox ∧
    (State.burnVintage s k).regs = s.regs ∧
    (State.burnVintage s k).evt = s.evt ∧
    (State.burnVintage s k).plat = s.plat ∧
    (State.burnVintage s k).keeper = s.keeper ∧
    (State.burnVintage s k).chs = s.chs ∧
    (State.burnVintage s k).cellar = s.cellar ∧
    (State.burnVintage s k).press = s.press ∧
    (State.burnVintage s k).vault = s.vault ∧
    (State.burnVintage s k).ctl = s.ctl ∧
    (State.burnVintage s k).cntr = s.cntr ∧
    (State.burnVintage s k).tlm = s.tlm ∧
    (State.burnVintage s k).wd0 = s.wd0 ∧
    (State.burnVintage s k).clk = s.clk ∧
    (State.burnVintage s k).host = s.host ∧
    (State.burnVintage s k).ident = s.ident ∧
    (State.burnVintage s k).sealing = s.sealing ∧
    (State.burnVintage s k).crypt = s.crypt ∧
    (State.burnVintage s k).side = s.side ∧
    (State.burnVintage s k).aux = s.aux ∧
    (State.burnVintage s k).chan = s.chan ∧
    (State.burnVintage s k).cfg = s.cfg ∧
    (State.burnVintage s k).sticky = s.sticky ∧
    (State.burnVintage s k).view = s.view ∧
    (State.burnVintage s k).powered = s.powered ∧
    (State.burnVintage s k).agt = s.agt ∧
    (State.burnVintage s k).cask = s.cask := by
  have h := State.burnVintage_keeps s k
  exact ⟨h .pending (by decide), h .time (by decide), h .freeCtr (by decide), h .outbox (by decide), h .regs (by decide), h .evt (by decide), h .plat (by decide), h .keeper (by decide), h .chs (by decide), h .cellar (by decide), h .press (by decide), h .vault (by decide), h .ctl (by decide), h .cntr (by decide), h .tlm (by decide), h .wd0 (by decide), h .clk (by decide), h .host (by decide), h .ident (by decide), h .sealing (by decide), h .crypt (by decide), h .side (by decide), h .aux (by decide), State.chan_of (h .chs (by decide)), State.cfg_of (h .regs (by decide)), State.sticky_of (h .regs (by decide)), State.view_of (h .regs (by decide)), State.powered_of (h .plat (by decide)), State.agt_of (h .ctl (by decide)), State.cask_of (h .crypt (by decide))⟩

@[simp] theorem State.burnStep_rest (s : State) (ctr : Nat) (v : Nat) :
    (State.burnStep s ctr v).pending = s.pending ∧
    (State.burnStep s ctr v).time = s.time ∧
    (State.burnStep s ctr v).freeCtr = s.freeCtr ∧
    (State.burnStep s ctr v).outbox = s.outbox ∧
    (State.burnStep s ctr v).regs = s.regs ∧
    (State.burnStep s ctr v).plat = s.plat ∧
    (State.burnStep s ctr v).keeper = s.keeper ∧
    (State.burnStep s ctr v).chs = s.chs ∧
    (State.burnStep s ctr v).cellar = s.cellar ∧
    (State.burnStep s ctr v).press = s.press ∧
    (State.burnStep s ctr v).ctl = s.ctl ∧
    (State.burnStep s ctr v).cntr = s.cntr ∧
    (State.burnStep s ctr v).tlm = s.tlm ∧
    (State.burnStep s ctr v).wd0 = s.wd0 ∧
    (State.burnStep s ctr v).clk = s.clk ∧
    (State.burnStep s ctr v).host = s.host ∧
    (State.burnStep s ctr v).ident = s.ident ∧
    (State.burnStep s ctr v).sealing = s.sealing ∧
    (State.burnStep s ctr v).crypt = s.crypt ∧
    (State.burnStep s ctr v).side = s.side ∧
    (State.burnStep s ctr v).aux = s.aux ∧
    (State.burnStep s ctr v).chan = s.chan ∧
    (State.burnStep s ctr v).cfg = s.cfg ∧
    (State.burnStep s ctr v).sticky = s.sticky ∧
    (State.burnStep s ctr v).view = s.view ∧
    (State.burnStep s ctr v).powered = s.powered ∧
    (State.burnStep s ctr v).agt = s.agt ∧
    (State.burnStep s ctr v).cask = s.cask := by
  have h := State.burnStep_keeps s ctr v
  exact ⟨h .pending (by decide), h .time (by decide), h .freeCtr (by decide), h .outbox (by decide), h .regs (by decide), h .plat (by decide), h .keeper (by decide), h .chs (by decide), h .cellar (by decide), h .press (by decide), h .ctl (by decide), h .cntr (by decide), h .tlm (by decide), h .wd0 (by decide), h .clk (by decide), h .host (by decide), h .ident (by decide), h .sealing (by decide), h .crypt (by decide), h .side (by decide), h .aux (by decide), State.chan_of (h .chs (by decide)), State.cfg_of (h .regs (by decide)), State.sticky_of (h .regs (by decide)), State.view_of (h .regs (by decide)), State.powered_of (h .plat (by decide)), State.agt_of (h .ctl (by decide)), State.cask_of (h .crypt (by decide))⟩

@[simp] theorem State.burnTest_rest (s : State) (stop : Option Nat) :
    (State.burnTest s stop).1.pending = s.pending ∧
    (State.burnTest s stop).1.time = s.time ∧
    (State.burnTest s stop).1.freeCtr = s.freeCtr ∧
    (State.burnTest s stop).1.outbox = s.outbox ∧
    (State.burnTest s stop).1.regs = s.regs ∧
    (State.burnTest s stop).1.evt = s.evt ∧
    (State.burnTest s stop).1.plat = s.plat ∧
    (State.burnTest s stop).1.keeper = s.keeper ∧
    (State.burnTest s stop).1.chs = s.chs ∧
    (State.burnTest s stop).1.cellar = s.cellar ∧
    (State.burnTest s stop).1.press = s.press ∧
    (State.burnTest s stop).1.vault = s.vault ∧
    (State.burnTest s stop).1.ctl = s.ctl ∧
    (State.burnTest s stop).1.cntr = s.cntr ∧
    (State.burnTest s stop).1.tlm = s.tlm ∧
    (State.burnTest s stop).1.wd0 = s.wd0 ∧
    (State.burnTest s stop).1.clk = s.clk ∧
    (State.burnTest s stop).1.host = s.host ∧
    (State.burnTest s stop).1.ident = s.ident ∧
    (State.burnTest s stop).1.sealing = s.sealing ∧
    (State.burnTest s stop).1.crypt = s.crypt ∧
    (State.burnTest s stop).1.side = s.side ∧
    (State.burnTest s stop).1.aux = s.aux ∧
    (State.burnTest s stop).1.chan = s.chan ∧
    (State.burnTest s stop).1.cfg = s.cfg ∧
    (State.burnTest s stop).1.sticky = s.sticky ∧
    (State.burnTest s stop).1.view = s.view ∧
    (State.burnTest s stop).1.powered = s.powered ∧
    (State.burnTest s stop).1.agt = s.agt ∧
    (State.burnTest s stop).1.cask = s.cask := by
  have h := State.burnTest_keeps s stop
  exact ⟨h .pending (by decide), h .time (by decide), h .freeCtr (by decide), h .outbox (by decide), h .regs (by decide), h .evt (by decide), h .plat (by decide), h .keeper (by decide), h .chs (by decide), h .cellar (by decide), h .press (by decide), h .vault (by decide), h .ctl (by decide), h .cntr (by decide), h .tlm (by decide), h .wd0 (by decide), h .clk (by decide), h .host (by decide), h .ident (by decide), h .sealing (by decide), h .crypt (by decide), h .side (by decide), h .aux (by decide), State.chan_of (h .chs (by decide)), State.cfg_of (h .regs (by decide)), State.sticky_of (h .regs (by decide)), State.view_of (h .regs (by decide)), State.powered_of (h .plat (by decide)), State.agt_of (h .ctl (by decide)), State.cask_of (h .crypt (by decide))⟩

@[simp] theorem State.flushMsi_rest (s : State) :
    (State.flushMsi s).pending = s.pending ∧
    (State.flushMsi s).time = s.time ∧
    (State.flushMsi s).freeCtr = s.freeCtr ∧
    (State.flushMsi s).regs = s.regs ∧
    (State.flushMsi s).plat = s.plat ∧
    (State.flushMsi s).keeper = s.keeper ∧
    (State.flushMsi s).chs = s.chs ∧
    (State.flushMsi s).cellar = s.cellar ∧
    (State.flushMsi s).press = s.press ∧
    (State.flushMsi s).vault = s.vault ∧
    (State.flushMsi s).ctl = s.ctl ∧
    (State.flushMsi s).tlm = s.tlm ∧
    (State.flushMsi s).wd0 = s.wd0 ∧
    (State.flushMsi s).clk = s.clk ∧
    (State.flushMsi s).ident = s.ident ∧
    (State.flushMsi s).sealing = s.sealing ∧
    (State.flushMsi s).crypt = s.crypt ∧
    (State.flushMsi s).life = s.life ∧
    (State.flushMsi s).side = s.side ∧
    (State.flushMsi s).aux = s.aux ∧
    (State.flushMsi s).chan = s.chan ∧
    (State.flushMsi s).cfg = s.cfg ∧
    (State.flushMsi s).sticky = s.sticky ∧
    (State.flushMsi s).view = s.view ∧
    (State.flushMsi s).powered = s.powered ∧
    (State.flushMsi s).agt = s.agt ∧
    (State.flushMsi s).cask = s.cask := by
  have h := State.flushMsi_keeps s
  exact ⟨h .pending (by decide), h .time (by decide), h .freeCtr (by decide), h .regs (by decide), h .plat (by decide), h .keeper (by decide), h .chs (by decide), h .cellar (by decide), h .press (by decide), h .vault (by decide), h .ctl (by decide), h .tlm (by decide), h .wd0 (by decide), h .clk (by decide), h .ident (by decide), h .sealing (by decide), h .crypt (by decide), h .life (by decide), h .side (by decide), h .aux (by decide), State.chan_of (h .chs (by decide)), State.cfg_of (h .regs (by decide)), State.sticky_of (h .regs (by decide)), State.view_of (h .regs (by decide)), State.powered_of (h .plat (by decide)), State.agt_of (h .ctl (by decide)), State.cask_of (h .crypt (by decide))⟩

@[simp] theorem State.busBack_rest (s : State) :
    (State.busBack s).pending = s.pending ∧
    (State.busBack s).time = s.time ∧
    (State.busBack s).freeCtr = s.freeCtr ∧
    (State.busBack s).regs = s.regs ∧
    (State.busBack s).plat = s.plat ∧
    (State.busBack s).keeper = s.keeper ∧
    (State.busBack s).chs = s.chs ∧
    (State.busBack s).cellar = s.cellar ∧
    (State.busBack s).press = s.press ∧
    (State.busBack s).vault = s.vault ∧
    (State.busBack s).ctl = s.ctl ∧
    (State.busBack s).wd0 = s.wd0 ∧
    (State.busBack s).clk = s.clk ∧
    (State.busBack s).ident = s.ident ∧
    (State.busBack s).sealing = s.sealing ∧
    (State.busBack s).crypt = s.crypt ∧
    (State.busBack s).life = s.life ∧
    (State.busBack s).side = s.side ∧
    (State.busBack s).aux = s.aux ∧
    (State.busBack s).chan = s.chan ∧
    (State.busBack s).cfg = s.cfg ∧
    (State.busBack s).sticky = s.sticky ∧
    (State.busBack s).view = s.view ∧
    (State.busBack s).powered = s.powered ∧
    (State.busBack s).agt = s.agt ∧
    (State.busBack s).cask = s.cask := by
  have h := State.busBack_keeps s
  exact ⟨h .pending (by decide), h .time (by decide), h .freeCtr (by decide), h .regs (by decide), h .plat (by decide), h .keeper (by decide), h .chs (by decide), h .cellar (by decide), h .press (by decide), h .vault (by decide), h .ctl (by decide), h .wd0 (by decide), h .clk (by decide), h .ident (by decide), h .sealing (by decide), h .crypt (by decide), h .life (by decide), h .side (by decide), h .aux (by decide), State.chan_of (h .chs (by decide)), State.cfg_of (h .regs (by decide)), State.sticky_of (h .regs (by decide)), State.view_of (h .regs (by decide)), State.powered_of (h .plat (by decide)), State.agt_of (h .ctl (by decide)), State.cask_of (h .crypt (by decide))⟩

@[simp] theorem State.busOff_rest (s : State) :
    (State.busOff s).pending = s.pending ∧
    (State.busOff s).time = s.time ∧
    (State.busOff s).freeCtr = s.freeCtr ∧
    (State.busOff s).outbox = s.outbox ∧
    (State.busOff s).regs = s.regs ∧
    (State.busOff s).plat = s.plat ∧
    (State.busOff s).keeper = s.keeper ∧
    (State.busOff s).chs = s.chs ∧
    (State.busOff s).cellar = s.cellar ∧
    (State.busOff s).press = s.press ∧
    (State.busOff s).vault = s.vault ∧
    (State.busOff s).ctl = s.ctl ∧
    (State.busOff s).cntr = s.cntr ∧
    (State.busOff s).tlm = s.tlm ∧
    (State.busOff s).wd0 = s.wd0 ∧
    (State.busOff s).clk = s.clk ∧
    (State.busOff s).ident = s.ident ∧
    (State.busOff s).sealing = s.sealing ∧
    (State.busOff s).crypt = s.crypt ∧
    (State.busOff s).life = s.life ∧
    (State.busOff s).side = s.side ∧
    (State.busOff s).aux = s.aux ∧
    (State.busOff s).chan = s.chan ∧
    (State.busOff s).cfg = s.cfg ∧
    (State.busOff s).sticky = s.sticky ∧
    (State.busOff s).view = s.view ∧
    (State.busOff s).powered = s.powered ∧
    (State.busOff s).agt = s.agt ∧
    (State.busOff s).cask = s.cask := by
  have h := State.busOff_keeps s
  exact ⟨h .pending (by decide), h .time (by decide), h .freeCtr (by decide), h .outbox (by decide), h .regs (by decide), h .plat (by decide), h .keeper (by decide), h .chs (by decide), h .cellar (by decide), h .press (by decide), h .vault (by decide), h .ctl (by decide), h .cntr (by decide), h .tlm (by decide), h .wd0 (by decide), h .clk (by decide), h .ident (by decide), h .sealing (by decide), h .crypt (by decide), h .life (by decide), h .side (by decide), h .aux (by decide), State.chan_of (h .chs (by decide)), State.cfg_of (h .regs (by decide)), State.sticky_of (h .regs (by decide)), State.view_of (h .regs (by decide)), State.powered_of (h .plat (by decide)), State.agt_of (h .ctl (by decide)), State.cask_of (h .crypt (by decide))⟩

@[simp] theorem State.opEnd_rest (s : State) (n : Ch) (ok : Bool) :
    (State.opEnd s n ok).pending = s.pending ∧
    (State.opEnd s n ok).time = s.time ∧
    (State.opEnd s n ok).freeCtr = s.freeCtr ∧
    (State.opEnd s n ok).outbox = s.outbox ∧
    (State.opEnd s n ok).regs = s.regs ∧
    (State.opEnd s n ok).evt = s.evt ∧
    (State.opEnd s n ok).plat = s.plat ∧
    (State.opEnd s n ok).keeper = s.keeper ∧
    (State.opEnd s n ok).cellar = s.cellar ∧
    (State.opEnd s n ok).press = s.press ∧
    (State.opEnd s n ok).vault = s.vault ∧
    (State.opEnd s n ok).ctl = s.ctl ∧
    (State.opEnd s n ok).cntr = s.cntr ∧
    (State.opEnd s n ok).tlm = s.tlm ∧
    (State.opEnd s n ok).wd0 = s.wd0 ∧
    (State.opEnd s n ok).clk = s.clk ∧
    (State.opEnd s n ok).host = s.host ∧
    (State.opEnd s n ok).ident = s.ident ∧
    (State.opEnd s n ok).sealing = s.sealing ∧
    (State.opEnd s n ok).crypt = s.crypt ∧
    (State.opEnd s n ok).life = s.life ∧
    (State.opEnd s n ok).side = s.side ∧
    (State.opEnd s n ok).aux = s.aux ∧
    (State.opEnd s n ok).cfg = s.cfg ∧
    (State.opEnd s n ok).sticky = s.sticky ∧
    (State.opEnd s n ok).view = s.view ∧
    (State.opEnd s n ok).powered = s.powered ∧
    (State.opEnd s n ok).agt = s.agt ∧
    (State.opEnd s n ok).cask = s.cask := by
  have h := State.opEnd_keeps s n ok
  exact ⟨h .pending (by decide), h .time (by decide), h .freeCtr (by decide), h .outbox (by decide), h .regs (by decide), h .evt (by decide), h .plat (by decide), h .keeper (by decide), h .cellar (by decide), h .press (by decide), h .vault (by decide), h .ctl (by decide), h .cntr (by decide), h .tlm (by decide), h .wd0 (by decide), h .clk (by decide), h .host (by decide), h .ident (by decide), h .sealing (by decide), h .crypt (by decide), h .life (by decide), h .side (by decide), h .aux (by decide), State.cfg_of (h .regs (by decide)), State.sticky_of (h .regs (by decide)), State.view_of (h .regs (by decide)), State.powered_of (h .plat (by decide)), State.agt_of (h .ctl (by decide)), State.cask_of (h .crypt (by decide))⟩

@[simp] theorem State.goldenInvalid_rest (s : State) (n : Ch) (k : SlotId) :
    (State.goldenInvalid s n k).pending = s.pending ∧
    (State.goldenInvalid s n k).time = s.time ∧
    (State.goldenInvalid s n k).freeCtr = s.freeCtr ∧
    (State.goldenInvalid s n k).outbox = s.outbox ∧
    (State.goldenInvalid s n k).regs = s.regs ∧
    (State.goldenInvalid s n k).plat = s.plat ∧
    (State.goldenInvalid s n k).keeper = s.keeper ∧
    (State.goldenInvalid s n k).chs = s.chs ∧
    (State.goldenInvalid s n k).cellar = s.cellar ∧
    (State.goldenInvalid s n k).press = s.press ∧
    (State.goldenInvalid s n k).ctl = s.ctl ∧
    (State.goldenInvalid s n k).cntr = s.cntr ∧
    (State.goldenInvalid s n k).tlm = s.tlm ∧
    (State.goldenInvalid s n k).wd0 = s.wd0 ∧
    (State.goldenInvalid s n k).clk = s.clk ∧
    (State.goldenInvalid s n k).host = s.host ∧
    (State.goldenInvalid s n k).ident = s.ident ∧
    (State.goldenInvalid s n k).sealing = s.sealing ∧
    (State.goldenInvalid s n k).crypt = s.crypt ∧
    (State.goldenInvalid s n k).life = s.life ∧
    (State.goldenInvalid s n k).side = s.side ∧
    (State.goldenInvalid s n k).aux = s.aux ∧
    (State.goldenInvalid s n k).chan = s.chan ∧
    (State.goldenInvalid s n k).cfg = s.cfg ∧
    (State.goldenInvalid s n k).sticky = s.sticky ∧
    (State.goldenInvalid s n k).view = s.view ∧
    (State.goldenInvalid s n k).powered = s.powered ∧
    (State.goldenInvalid s n k).agt = s.agt ∧
    (State.goldenInvalid s n k).cask = s.cask := by
  have h := State.goldenInvalid_keeps s n k
  exact ⟨h .pending (by decide), h .time (by decide), h .freeCtr (by decide), h .outbox (by decide), h .regs (by decide), h .plat (by decide), h .keeper (by decide), h .chs (by decide), h .cellar (by decide), h .press (by decide), h .ctl (by decide), h .cntr (by decide), h .tlm (by decide), h .wd0 (by decide), h .clk (by decide), h .host (by decide), h .ident (by decide), h .sealing (by decide), h .crypt (by decide), h .life (by decide), h .side (by decide), h .aux (by decide), State.chan_of (h .chs (by decide)), State.cfg_of (h .regs (by decide)), State.sticky_of (h .regs (by decide)), State.view_of (h .regs (by decide)), State.powered_of (h .plat (by decide)), State.agt_of (h .ctl (by decide)), State.cask_of (h .crypt (by decide))⟩

@[simp] theorem State.noSource_rest (s : State) (n : Ch) (k : SlotId) (copy : Nat) :
    (State.noSource s n k copy).pending = s.pending ∧
    (State.noSource s n k copy).time = s.time ∧
    (State.noSource s n k copy).freeCtr = s.freeCtr ∧
    (State.noSource s n k copy).outbox = s.outbox ∧
    (State.noSource s n k copy).regs = s.regs ∧
    (State.noSource s n k copy).plat = s.plat ∧
    (State.noSource s n k copy).keeper = s.keeper ∧
    (State.noSource s n k copy).cellar = s.cellar ∧
    (State.noSource s n k copy).press = s.press ∧
    (State.noSource s n k copy).ctl = s.ctl ∧
    (State.noSource s n k copy).cntr = s.cntr ∧
    (State.noSource s n k copy).tlm = s.tlm ∧
    (State.noSource s n k copy).wd0 = s.wd0 ∧
    (State.noSource s n k copy).clk = s.clk ∧
    (State.noSource s n k copy).host = s.host ∧
    (State.noSource s n k copy).ident = s.ident ∧
    (State.noSource s n k copy).sealing = s.sealing ∧
    (State.noSource s n k copy).crypt = s.crypt ∧
    (State.noSource s n k copy).life = s.life ∧
    (State.noSource s n k copy).side = s.side ∧
    (State.noSource s n k copy).aux = s.aux ∧
    (State.noSource s n k copy).cfg = s.cfg ∧
    (State.noSource s n k copy).sticky = s.sticky ∧
    (State.noSource s n k copy).view = s.view ∧
    (State.noSource s n k copy).powered = s.powered ∧
    (State.noSource s n k copy).agt = s.agt ∧
    (State.noSource s n k copy).cask = s.cask := by
  have h := State.noSource_keeps s n k copy
  exact ⟨h .pending (by decide), h .time (by decide), h .freeCtr (by decide), h .outbox (by decide), h .regs (by decide), h .plat (by decide), h .keeper (by decide), h .cellar (by decide), h .press (by decide), h .ctl (by decide), h .cntr (by decide), h .tlm (by decide), h .wd0 (by decide), h .clk (by decide), h .host (by decide), h .ident (by decide), h .sealing (by decide), h .crypt (by decide), h .life (by decide), h .side (by decide), h .aux (by decide), State.cfg_of (h .regs (by decide)), State.sticky_of (h .regs (by decide)), State.view_of (h .regs (by decide)), State.powered_of (h .plat (by decide)), State.agt_of (h .ctl (by decide)), State.cask_of (h .crypt (by decide))⟩

@[simp] theorem State.knowBad_rest (s : State) (n : Ch) (p : PageId) :
    (State.knowBad s n p).pending = s.pending ∧
    (State.knowBad s n p).time = s.time ∧
    (State.knowBad s n p).plat = s.plat ∧
    (State.knowBad s n p).cntr = s.cntr ∧
    (State.knowBad s n p).tlm = s.tlm ∧
    (State.knowBad s n p).wd0 = s.wd0 ∧
    (State.knowBad s n p).clk = s.clk ∧
    (State.knowBad s n p).host = s.host ∧
    (State.knowBad s n p).sealing = s.sealing ∧
    (State.knowBad s n p).crypt = s.crypt ∧
    (State.knowBad s n p).life = s.life ∧
    (State.knowBad s n p).side = s.side ∧
    (State.knowBad s n p).aux = s.aux ∧
    (State.knowBad s n p).powered = s.powered ∧
    (State.knowBad s n p).cask = s.cask := by
  have h := State.knowBad_keeps s n p
  exact ⟨h .pending (by decide), h .time (by decide), h .plat (by decide), h .cntr (by decide), h .tlm (by decide), h .wd0 (by decide), h .clk (by decide), h .host (by decide), h .sealing (by decide), h .crypt (by decide), h .life (by decide), h .side (by decide), h .aux (by decide), State.powered_of (h .plat (by decide)), State.cask_of (h .crypt (by decide))⟩

@[simp] theorem State.graftExhausted_rest (s : State) (n : Ch) (g : Graft) :
    (State.graftExhausted s n g).pending = s.pending ∧
    (State.graftExhausted s n g).time = s.time ∧
    (State.graftExhausted s n g).plat = s.plat ∧
    (State.graftExhausted s n g).cntr = s.cntr ∧
    (State.graftExhausted s n g).tlm = s.tlm ∧
    (State.graftExhausted s n g).wd0 = s.wd0 ∧
    (State.graftExhausted s n g).clk = s.clk ∧
    (State.graftExhausted s n g).host = s.host ∧
    (State.graftExhausted s n g).sealing = s.sealing ∧
    (State.graftExhausted s n g).crypt = s.crypt ∧
    (State.graftExhausted s n g).life = s.life ∧
    (State.graftExhausted s n g).side = s.side ∧
    (State.graftExhausted s n g).aux = s.aux ∧
    (State.graftExhausted s n g).powered = s.powered ∧
    (State.graftExhausted s n g).cask = s.cask := by
  have h := State.graftExhausted_keeps s n g
  exact ⟨h .pending (by decide), h .time (by decide), h .plat (by decide), h .cntr (by decide), h .tlm (by decide), h .wd0 (by decide), h .clk (by decide), h .host (by decide), h .sealing (by decide), h .crypt (by decide), h .life (by decide), h .side (by decide), h .aux (by decide), State.powered_of (h .plat (by decide)), State.cask_of (h .crypt (by decide))⟩

@[simp] theorem State.candFails_rest (s : State) (n : Ch) (g : Graft) (c : Nat) :
    (State.candFails s n g c).pending = s.pending ∧
    (State.candFails s n g c).time = s.time ∧
    (State.candFails s n g c).plat = s.plat ∧
    (State.candFails s n g c).cntr = s.cntr ∧
    (State.candFails s n g c).tlm = s.tlm ∧
    (State.candFails s n g c).wd0 = s.wd0 ∧
    (State.candFails s n g c).clk = s.clk ∧
    (State.candFails s n g c).host = s.host ∧
    (State.candFails s n g c).sealing = s.sealing ∧
    (State.candFails s n g c).crypt = s.crypt ∧
    (State.candFails s n g c).life = s.life ∧
    (State.candFails s n g c).side = s.side ∧
    (State.candFails s n g c).aux = s.aux ∧
    (State.candFails s n g c).powered = s.powered ∧
    (State.candFails s n g c).cask = s.cask := by
  have h := State.candFails_keeps s n g c
  exact ⟨h .pending (by decide), h .time (by decide), h .plat (by decide), h .cntr (by decide), h .tlm (by decide), h .wd0 (by decide), h .clk (by decide), h .host (by decide), h .sealing (by decide), h .crypt (by decide), h .life (by decide), h .side (by decide), h .aux (by decide), State.powered_of (h .plat (by decide)), State.cask_of (h .crypt (by decide))⟩

@[simp] theorem State.cccRead_rest (s : State) (p : Nat) (addr : Nat) (bs : List Byte) :
    (State.cccRead s p addr bs).pending = s.pending ∧
    (State.cccRead s p addr bs).time = s.time ∧
    (State.cccRead s p addr bs).freeCtr = s.freeCtr ∧
    (State.cccRead s p addr bs).regs = s.regs ∧
    (State.cccRead s p addr bs).evt = s.evt ∧
    (State.cccRead s p addr bs).plat = s.plat ∧
    (State.cccRead s p addr bs).keeper = s.keeper ∧
    (State.cccRead s p addr bs).chs = s.chs ∧
    (State.cccRead s p addr bs).cellar = s.cellar ∧
    (State.cccRead s p addr bs).press = s.press ∧
    (State.cccRead s p addr bs).vault = s.vault ∧
    (State.cccRead s p addr bs).ctl = s.ctl ∧
    (State.cccRead s p addr bs).cntr = s.cntr ∧
    (State.cccRead s p addr bs).tlm = s.tlm ∧
    (State.cccRead s p addr bs).wd0 = s.wd0 ∧
    (State.cccRead s p addr bs).clk = s.clk ∧
    (State.cccRead s p addr bs).host = s.host ∧
    (State.cccRead s p addr bs).ident = s.ident ∧
    (State.cccRead s p addr bs).sealing = s.sealing ∧
    (State.cccRead s p addr bs).crypt = s.crypt ∧
    (State.cccRead s p addr bs).life = s.life ∧
    (State.cccRead s p addr bs).side = s.side ∧
    (State.cccRead s p addr bs).aux = s.aux ∧
    (State.cccRead s p addr bs).chan = s.chan ∧
    (State.cccRead s p addr bs).cfg = s.cfg ∧
    (State.cccRead s p addr bs).sticky = s.sticky ∧
    (State.cccRead s p addr bs).view = s.view ∧
    (State.cccRead s p addr bs).powered = s.powered ∧
    (State.cccRead s p addr bs).agt = s.agt ∧
    (State.cccRead s p addr bs).cask = s.cask := by
  have h := State.cccRead_keeps s p addr bs
  exact ⟨h .pending (by decide), h .time (by decide), h .freeCtr (by decide), h .regs (by decide), h .evt (by decide), h .plat (by decide), h .keeper (by decide), h .chs (by decide), h .cellar (by decide), h .press (by decide), h .vault (by decide), h .ctl (by decide), h .cntr (by decide), h .tlm (by decide), h .wd0 (by decide), h .clk (by decide), h .host (by decide), h .ident (by decide), h .sealing (by decide), h .crypt (by decide), h .life (by decide), h .side (by decide), h .aux (by decide), State.chan_of (h .chs (by decide)), State.cfg_of (h .regs (by decide)), State.sticky_of (h .regs (by decide)), State.view_of (h .regs (by decide)), State.powered_of (h .plat (by decide)), State.agt_of (h .ctl (by decide)), State.cask_of (h .crypt (by decide))⟩

@[simp] theorem State.useNonce_rest (s : State) :
    (State.useNonce s).pending = s.pending ∧
    (State.useNonce s).time = s.time ∧
    (State.useNonce s).freeCtr = s.freeCtr ∧
    (State.useNonce s).outbox = s.outbox ∧
    (State.useNonce s).regs = s.regs ∧
    (State.useNonce s).evt = s.evt ∧
    (State.useNonce s).plat = s.plat ∧
    (State.useNonce s).keeper = s.keeper ∧
    (State.useNonce s).chs = s.chs ∧
    (State.useNonce s).cellar = s.cellar ∧
    (State.useNonce s).press = s.press ∧
    (State.useNonce s).vault = s.vault ∧
    (State.useNonce s).ctl = s.ctl ∧
    (State.useNonce s).cntr = s.cntr ∧
    (State.useNonce s).tlm = s.tlm ∧
    (State.useNonce s).wd0 = s.wd0 ∧
    (State.useNonce s).clk = s.clk ∧
    (State.useNonce s).host = s.host ∧
    (State.useNonce s).sealing = s.sealing ∧
    (State.useNonce s).crypt = s.crypt ∧
    (State.useNonce s).life = s.life ∧
    (State.useNonce s).side = s.side ∧
    (State.useNonce s).aux = s.aux ∧
    (State.useNonce s).chan = s.chan ∧
    (State.useNonce s).cfg = s.cfg ∧
    (State.useNonce s).sticky = s.sticky ∧
    (State.useNonce s).view = s.view ∧
    (State.useNonce s).powered = s.powered ∧
    (State.useNonce s).agt = s.agt ∧
    (State.useNonce s).cask = s.cask := by
  have h := State.useNonce_keeps s
  exact ⟨h .pending (by decide), h .time (by decide), h .freeCtr (by decide), h .outbox (by decide), h .regs (by decide), h .evt (by decide), h .plat (by decide), h .keeper (by decide), h .chs (by decide), h .cellar (by decide), h .press (by decide), h .vault (by decide), h .ctl (by decide), h .cntr (by decide), h .tlm (by decide), h .wd0 (by decide), h .clk (by decide), h .host (by decide), h .sealing (by decide), h .crypt (by decide), h .life (by decide), h .side (by decide), h .aux (by decide), State.chan_of (h .chs (by decide)), State.cfg_of (h .regs (by decide)), State.sticky_of (h .regs (by decide)), State.view_of (h .regs (by decide)), State.powered_of (h .plat (by decide)), State.agt_of (h .ctl (by decide)), State.cask_of (h .crypt (by decide))⟩

@[simp] theorem State.checkToken_rest (s : State) (t : Token) :
    (State.checkToken s t).1.pending = s.pending ∧
    (State.checkToken s t).1.time = s.time ∧
    (State.checkToken s t).1.freeCtr = s.freeCtr ∧
    (State.checkToken s t).1.outbox = s.outbox ∧
    (State.checkToken s t).1.regs = s.regs ∧
    (State.checkToken s t).1.plat = s.plat ∧
    (State.checkToken s t).1.keeper = s.keeper ∧
    (State.checkToken s t).1.chs = s.chs ∧
    (State.checkToken s t).1.cellar = s.cellar ∧
    (State.checkToken s t).1.press = s.press ∧
    (State.checkToken s t).1.vault = s.vault ∧
    (State.checkToken s t).1.ctl = s.ctl ∧
    (State.checkToken s t).1.cntr = s.cntr ∧
    (State.checkToken s t).1.tlm = s.tlm ∧
    (State.checkToken s t).1.wd0 = s.wd0 ∧
    (State.checkToken s t).1.clk = s.clk ∧
    (State.checkToken s t).1.host = s.host ∧
    (State.checkToken s t).1.sealing = s.sealing ∧
    (State.checkToken s t).1.life = s.life ∧
    (State.checkToken s t).1.side = s.side ∧
    (State.checkToken s t).1.aux = s.aux ∧
    (State.checkToken s t).1.chan = s.chan ∧
    (State.checkToken s t).1.cfg = s.cfg ∧
    (State.checkToken s t).1.sticky = s.sticky ∧
    (State.checkToken s t).1.view = s.view ∧
    (State.checkToken s t).1.powered = s.powered ∧
    (State.checkToken s t).1.agt = s.agt := by
  have h := State.checkToken_keeps s t
  exact ⟨h .pending (by decide), h .time (by decide), h .freeCtr (by decide), h .outbox (by decide), h .regs (by decide), h .plat (by decide), h .keeper (by decide), h .chs (by decide), h .cellar (by decide), h .press (by decide), h .vault (by decide), h .ctl (by decide), h .cntr (by decide), h .tlm (by decide), h .wd0 (by decide), h .clk (by decide), h .host (by decide), h .sealing (by decide), h .life (by decide), h .side (by decide), h .aux (by decide), State.chan_of (h .chs (by decide)), State.cfg_of (h .regs (by decide)), State.sticky_of (h .regs (by decide)), State.view_of (h .regs (by decide)), State.powered_of (h .plat (by decide)), State.agt_of (h .ctl (by decide))⟩

@[simp] theorem State.clearLog_rest (s : State) :
    (State.clearLog s).pending = s.pending ∧
    (State.clearLog s).time = s.time ∧
    (State.clearLog s).freeCtr = s.freeCtr ∧
    (State.clearLog s).keeper = s.keeper ∧
    (State.clearLog s).chs = s.chs ∧
    (State.clearLog s).cellar = s.cellar ∧
    (State.clearLog s).press = s.press ∧
    (State.clearLog s).vault = s.vault ∧
    (State.clearLog s).ctl = s.ctl ∧
    (State.clearLog s).tlm = s.tlm ∧
    (State.clearLog s).wd0 = s.wd0 ∧
    (State.clearLog s).clk = s.clk ∧
    (State.clearLog s).ident = s.ident ∧
    (State.clearLog s).sealing = s.sealing ∧
    (State.clearLog s).crypt = s.crypt ∧
    (State.clearLog s).life = s.life ∧
    (State.clearLog s).side = s.side ∧
    (State.clearLog s).aux = s.aux ∧
    (State.clearLog s).chan = s.chan ∧
    (State.clearLog s).agt = s.agt ∧
    (State.clearLog s).cask = s.cask := by
  have h := State.clearLog_keeps s
  exact ⟨h .pending (by decide), h .time (by decide), h .freeCtr (by decide), h .keeper (by decide), h .chs (by decide), h .cellar (by decide), h .press (by decide), h .vault (by decide), h .ctl (by decide), h .tlm (by decide), h .wd0 (by decide), h .clk (by decide), h .ident (by decide), h .sealing (by decide), h .crypt (by decide), h .life (by decide), h .side (by decide), h .aux (by decide), State.chan_of (h .chs (by decide)), State.agt_of (h .ctl (by decide)), State.cask_of (h .crypt (by decide))⟩

@[simp] theorem State.clearStores_rest (s : State) :
    (State.clearStores s).pending = s.pending ∧
    (State.clearStores s).time = s.time ∧
    (State.clearStores s).freeCtr = s.freeCtr ∧
    (State.clearStores s).regs = s.regs ∧
    (State.clearStores s).plat = s.plat ∧
    (State.clearStores s).keeper = s.keeper ∧
    (State.clearStores s).chs = s.chs ∧
    (State.clearStores s).press = s.press ∧
    (State.clearStores s).vault = s.vault ∧
    (State.clearStores s).ctl = s.ctl ∧
    (State.clearStores s).wd0 = s.wd0 ∧
    (State.clearStores s).clk = s.clk ∧
    (State.clearStores s).ident = s.ident ∧
    (State.clearStores s).sealing = s.sealing ∧
    (State.clearStores s).life = s.life ∧
    (State.clearStores s).side = s.side ∧
    (State.clearStores s).aux = s.aux ∧
    (State.clearStores s).chan = s.chan ∧
    (State.clearStores s).cfg = s.cfg ∧
    (State.clearStores s).sticky = s.sticky ∧
    (State.clearStores s).view = s.view ∧
    (State.clearStores s).powered = s.powered ∧
    (State.clearStores s).agt = s.agt := by
  have h := State.clearStores_keeps s
  exact ⟨h .pending (by decide), h .time (by decide), h .freeCtr (by decide), h .regs (by decide), h .plat (by decide), h .keeper (by decide), h .chs (by decide), h .press (by decide), h .vault (by decide), h .ctl (by decide), h .wd0 (by decide), h .clk (by decide), h .ident (by decide), h .sealing (by decide), h .life (by decide), h .side (by decide), h .aux (by decide), State.chan_of (h .chs (by decide)), State.cfg_of (h .regs (by decide)), State.sticky_of (h .regs (by decide)), State.view_of (h .regs (by decide)), State.powered_of (h .plat (by decide)), State.agt_of (h .ctl (by decide))⟩

@[simp] theorem State.closeRepairs_rest (s : State) (n : Ch) (k : SlotId) (copy : Nat) :
    (State.closeRepairs s n k copy).pending = s.pending ∧
    (State.closeRepairs s n k copy).time = s.time ∧
    (State.closeRepairs s n k copy).freeCtr = s.freeCtr ∧
    (State.closeRepairs s n k copy).outbox = s.outbox ∧
    (State.closeRepairs s n k copy).regs = s.regs ∧
    (State.closeRepairs s n k copy).evt = s.evt ∧
    (State.closeRepairs s n k copy).plat = s.plat ∧
    (State.closeRepairs s n k copy).keeper = s.keeper ∧
    (State.closeRepairs s n k copy).cellar = s.cellar ∧
    (State.closeRepairs s n k copy).press = s.press ∧
    (State.closeRepairs s n k copy).ctl = s.ctl ∧
    (State.closeRepairs s n k copy).cntr = s.cntr ∧
    (State.closeRepairs s n k copy).tlm = s.tlm ∧
    (State.closeRepairs s n k copy).wd0 = s.wd0 ∧
    (State.closeRepairs s n k copy).clk = s.clk ∧
    (State.closeRepairs s n k copy).host = s.host ∧
    (State.closeRepairs s n k copy).ident = s.ident ∧
    (State.closeRepairs s n k copy).sealing = s.sealing ∧
    (State.closeRepairs s n k copy).crypt = s.crypt ∧
    (State.closeRepairs s n k copy).life = s.life ∧
    (State.closeRepairs s n k copy).side = s.side ∧
    (State.closeRepairs s n k copy).aux = s.aux ∧
    (State.closeRepairs s n k copy).cfg = s.cfg ∧
    (State.closeRepairs s n k copy).sticky = s.sticky ∧
    (State.closeRepairs s n k copy).view = s.view ∧
    (State.closeRepairs s n k copy).powered = s.powered ∧
    (State.closeRepairs s n k copy).agt = s.agt ∧
    (State.closeRepairs s n k copy).cask = s.cask := by
  have h := State.closeRepairs_keeps s n k copy
  exact ⟨h .pending (by decide), h .time (by decide), h .freeCtr (by decide), h .outbox (by decide), h .regs (by decide), h .evt (by decide), h .plat (by decide), h .keeper (by decide), h .cellar (by decide), h .press (by decide), h .ctl (by decide), h .cntr (by decide), h .tlm (by decide), h .wd0 (by decide), h .clk (by decide), h .host (by decide), h .ident (by decide), h .sealing (by decide), h .crypt (by decide), h .life (by decide), h .side (by decide), h .aux (by decide), State.cfg_of (h .regs (by decide)), State.sticky_of (h .regs (by decide)), State.view_of (h .regs (by decide)), State.powered_of (h .plat (by decide)), State.agt_of (h .ctl (by decide)), State.cask_of (h .crypt (by decide))⟩

@[simp] theorem State.mctpSend_rest (s : State) (eid : Nat) (bs : List Byte) :
    (State.mctpSend s eid bs).pending = s.pending ∧
    (State.mctpSend s eid bs).time = s.time ∧
    (State.mctpSend s eid bs).freeCtr = s.freeCtr ∧
    (State.mctpSend s eid bs).regs = s.regs ∧
    (State.mctpSend s eid bs).evt = s.evt ∧
    (State.mctpSend s eid bs).plat = s.plat ∧
    (State.mctpSend s eid bs).keeper = s.keeper ∧
    (State.mctpSend s eid bs).chs = s.chs ∧
    (State.mctpSend s eid bs).cellar = s.cellar ∧
    (State.mctpSend s eid bs).press = s.press ∧
    (State.mctpSend s eid bs).vault = s.vault ∧
    (State.mctpSend s eid bs).ctl = s.ctl ∧
    (State.mctpSend s eid bs).cntr = s.cntr ∧
    (State.mctpSend s eid bs).tlm = s.tlm ∧
    (State.mctpSend s eid bs).wd0 = s.wd0 ∧
    (State.mctpSend s eid bs).clk = s.clk ∧
    (State.mctpSend s eid bs).host = s.host ∧
    (State.mctpSend s eid bs).ident = s.ident ∧
    (State.mctpSend s eid bs).sealing = s.sealing ∧
    (State.mctpSend s eid bs).crypt = s.crypt ∧
    (State.mctpSend s eid bs).life = s.life ∧
    (State.mctpSend s eid bs).aux = s.aux ∧
    (State.mctpSend s eid bs).chan = s.chan ∧
    (State.mctpSend s eid bs).cfg = s.cfg ∧
    (State.mctpSend s eid bs).sticky = s.sticky ∧
    (State.mctpSend s eid bs).view = s.view ∧
    (State.mctpSend s eid bs).powered = s.powered ∧
    (State.mctpSend s eid bs).agt = s.agt ∧
    (State.mctpSend s eid bs).cask = s.cask := by
  have h := State.mctpSend_keeps s eid bs
  exact ⟨h .pending (by decide), h .time (by decide), h .freeCtr (by decide), h .regs (by decide), h .evt (by decide), h .plat (by decide), h .keeper (by decide), h .chs (by decide), h .cellar (by decide), h .press (by decide), h .vault (by decide), h .ctl (by decide), h .cntr (by decide), h .tlm (by decide), h .wd0 (by decide), h .clk (by decide), h .host (by decide), h .ident (by decide), h .sealing (by decide), h .crypt (by decide), h .life (by decide), h .aux (by decide), State.chan_of (h .chs (by decide)), State.cfg_of (h .regs (by decide)), State.sticky_of (h .regs (by decide)), State.view_of (h .regs (by decide)), State.powered_of (h .plat (by decide)), State.agt_of (h .ctl (by decide)), State.cask_of (h .crypt (by decide))⟩

@[simp] theorem State.commitGo_rest (s : State) (q : Req) (mask : Word) :
    (State.commitGo s q mask).pending = s.pending ∧
    (State.commitGo s q mask).time = s.time ∧
    (State.commitGo s q mask).freeCtr = s.freeCtr ∧
    (State.commitGo s q mask).outbox = s.outbox ∧
    (State.commitGo s q mask).plat = s.plat ∧
    (State.commitGo s q mask).keeper = s.keeper ∧
    (State.commitGo s q mask).chs = s.chs ∧
    (State.commitGo s q mask).cellar = s.cellar ∧
    (State.commitGo s q mask).press = s.press ∧
    (State.commitGo s q mask).vault = s.vault ∧
    (State.commitGo s q mask).ctl = s.ctl ∧
    (State.commitGo s q mask).cntr = s.cntr ∧
    (State.commitGo s q mask).tlm = s.tlm ∧
    (State.commitGo s q mask).wd0 = s.wd0 ∧
    (State.commitGo s q mask).clk = s.clk ∧
    (State.commitGo s q mask).host = s.host ∧
    (State.commitGo s q mask).ident = s.ident ∧
    (State.commitGo s q mask).sealing = s.sealing ∧
    (State.commitGo s q mask).crypt = s.crypt ∧
    (State.commitGo s q mask).life = s.life ∧
    (State.commitGo s q mask).side = s.side ∧
    (State.commitGo s q mask).aux = s.aux ∧
    (State.commitGo s q mask).chan = s.chan ∧
    (State.commitGo s q mask).powered = s.powered ∧
    (State.commitGo s q mask).agt = s.agt ∧
    (State.commitGo s q mask).cask = s.cask := by
  have h := State.commitGo_keeps s q mask
  exact ⟨h .pending (by decide), h .time (by decide), h .freeCtr (by decide), h .outbox (by decide), h .plat (by decide), h .keeper (by decide), h .chs (by decide), h .cellar (by decide), h .press (by decide), h .vault (by decide), h .ctl (by decide), h .cntr (by decide), h .tlm (by decide), h .wd0 (by decide), h .clk (by decide), h .host (by decide), h .ident (by decide), h .sealing (by decide), h .crypt (by decide), h .life (by decide), h .side (by decide), h .aux (by decide), State.chan_of (h .chs (by decide)), State.powered_of (h .plat (by decide)), State.agt_of (h .ctl (by decide)), State.cask_of (h .crypt (by decide))⟩

@[simp] theorem State.endRun_rest (s : State) (cause : Nat) (st : Status) :
    (State.endRun s cause st).pending = s.pending ∧
    (State.endRun s cause st).time = s.time ∧
    (State.endRun s cause st).freeCtr = s.freeCtr ∧
    (State.endRun s cause st).regs = s.regs ∧
    (State.endRun s cause st).plat = s.plat ∧
    (State.endRun s cause st).keeper = s.keeper ∧
    (State.endRun s cause st).chs = s.chs ∧
    (State.endRun s cause st).cellar = s.cellar ∧
    (State.endRun s cause st).vault = s.vault ∧
    (State.endRun s cause st).ctl = s.ctl ∧
    (State.endRun s cause st).wd0 = s.wd0 ∧
    (State.endRun s cause st).clk = s.clk ∧
    (State.endRun s cause st).ident = s.ident ∧
    (State.endRun s cause st).crypt = s.crypt ∧
    (State.endRun s cause st).life = s.life ∧
    (State.endRun s cause st).side = s.side ∧
    (State.endRun s cause st).aux = s.aux ∧
    (State.endRun s cause st).chan = s.chan ∧
    (State.endRun s cause st).cfg = s.cfg ∧
    (State.endRun s cause st).sticky = s.sticky ∧
    (State.endRun s cause st).view = s.view ∧
    (State.endRun s cause st).powered = s.powered ∧
    (State.endRun s cause st).agt = s.agt ∧
    (State.endRun s cause st).cask = s.cask := by
  have h := State.endRun_keeps s cause st
  exact ⟨h .pending (by decide), h .time (by decide), h .freeCtr (by decide), h .regs (by decide), h .plat (by decide), h .keeper (by decide), h .chs (by decide), h .cellar (by decide), h .vault (by decide), h .ctl (by decide), h .wd0 (by decide), h .clk (by decide), h .ident (by decide), h .crypt (by decide), h .life (by decide), h .side (by decide), h .aux (by decide), State.chan_of (h .chs (by decide)), State.cfg_of (h .regs (by decide)), State.sticky_of (h .regs (by decide)), State.view_of (h .regs (by decide)), State.powered_of (h .plat (by decide)), State.agt_of (h .ctl (by decide)), State.cask_of (h .crypt (by decide))⟩

@[simp] theorem State.seqStart_rest (s : State) :
    (State.seqStart s).pending = s.pending ∧
    (State.seqStart s).time = s.time ∧
    (State.seqStart s).freeCtr = s.freeCtr ∧
    (State.seqStart s).outbox = s.outbox ∧
    (State.seqStart s).regs = s.regs ∧
    (State.seqStart s).evt = s.evt ∧
    (State.seqStart s).plat = s.plat ∧
    (State.seqStart s).keeper = s.keeper ∧
    (State.seqStart s).chs = s.chs ∧
    (State.seqStart s).cellar = s.cellar ∧
    (State.seqStart s).press = s.press ∧
    (State.seqStart s).vault = s.vault ∧
    (State.seqStart s).cntr = s.cntr ∧
    (State.seqStart s).tlm = s.tlm ∧
    (State.seqStart s).wd0 = s.wd0 ∧
    (State.seqStart s).clk = s.clk ∧
    (State.seqStart s).host = s.host ∧
    (State.seqStart s).ident = s.ident ∧
    (State.seqStart s).sealing = s.sealing ∧
    (State.seqStart s).crypt = s.crypt ∧
    (State.seqStart s).life = s.life ∧
    (State.seqStart s).side = s.side ∧
    (State.seqStart s).aux = s.aux ∧
    (State.seqStart s).chan = s.chan ∧
    (State.seqStart s).cfg = s.cfg ∧
    (State.seqStart s).sticky = s.sticky ∧
    (State.seqStart s).view = s.view ∧
    (State.seqStart s).powered = s.powered ∧
    (State.seqStart s).cask = s.cask := by
  have h := State.seqStart_keeps s
  exact ⟨h .pending (by decide), h .time (by decide), h .freeCtr (by decide), h .outbox (by decide), h .regs (by decide), h .evt (by decide), h .plat (by decide), h .keeper (by decide), h .chs (by decide), h .cellar (by decide), h .press (by decide), h .vault (by decide), h .cntr (by decide), h .tlm (by decide), h .wd0 (by decide), h .clk (by decide), h .host (by decide), h .ident (by decide), h .sealing (by decide), h .crypt (by decide), h .life (by decide), h .side (by decide), h .aux (by decide), State.chan_of (h .chs (by decide)), State.cfg_of (h .regs (by decide)), State.sticky_of (h .regs (by decide)), State.view_of (h .regs (by decide)), State.powered_of (h .plat (by decide)), State.cask_of (h .crypt (by decide))⟩

@[simp] theorem State.setPolSlot_rest (s : State) (k : Nat) (p : Option PolSlot) :
    (State.setPolSlot s k p).pending = s.pending ∧
    (State.setPolSlot s k p).time = s.time ∧
    (State.setPolSlot s k p).freeCtr = s.freeCtr ∧
    (State.setPolSlot s k p).outbox = s.outbox ∧
    (State.setPolSlot s k p).regs = s.regs ∧
    (State.setPolSlot s k p).evt = s.evt ∧
    (State.setPolSlot s k p).plat = s.plat ∧
    (State.setPolSlot s k p).keeper = s.keeper ∧
    (State.setPolSlot s k p).chs = s.chs ∧
    (State.setPolSlot s k p).cellar = s.cellar ∧
    (State.setPolSlot s k p).press = s.press ∧
    (State.setPolSlot s k p).vault = s.vault ∧
    (State.setPolSlot s k p).ctl = s.ctl ∧
    (State.setPolSlot s k p).cntr = s.cntr ∧
    (State.setPolSlot s k p).tlm = s.tlm ∧
    (State.setPolSlot s k p).wd0 = s.wd0 ∧
    (State.setPolSlot s k p).clk = s.clk ∧
    (State.setPolSlot s k p).host = s.host ∧
    (State.setPolSlot s k p).sealing = s.sealing ∧
    (State.setPolSlot s k p).crypt = s.crypt ∧
    (State.setPolSlot s k p).life = s.life ∧
    (State.setPolSlot s k p).side = s.side ∧
    (State.setPolSlot s k p).aux = s.aux ∧
    (State.setPolSlot s k p).chan = s.chan ∧
    (State.setPolSlot s k p).cfg = s.cfg ∧
    (State.setPolSlot s k p).sticky = s.sticky ∧
    (State.setPolSlot s k p).view = s.view ∧
    (State.setPolSlot s k p).powered = s.powered ∧
    (State.setPolSlot s k p).agt = s.agt ∧
    (State.setPolSlot s k p).cask = s.cask := by
  have h := State.setPolSlot_keeps s k p
  exact ⟨h .pending (by decide), h .time (by decide), h .freeCtr (by decide), h .outbox (by decide), h .regs (by decide), h .evt (by decide), h .plat (by decide), h .keeper (by decide), h .chs (by decide), h .cellar (by decide), h .press (by decide), h .vault (by decide), h .ctl (by decide), h .cntr (by decide), h .tlm (by decide), h .wd0 (by decide), h .clk (by decide), h .host (by decide), h .sealing (by decide), h .crypt (by decide), h .life (by decide), h .side (by decide), h .aux (by decide), State.chan_of (h .chs (by decide)), State.cfg_of (h .regs (by decide)), State.sticky_of (h .regs (by decide)), State.view_of (h .regs (by decide)), State.powered_of (h .plat (by decide)), State.agt_of (h .ctl (by decide)), State.cask_of (h .crypt (by decide))⟩

@[simp] theorem State.updVaultPart_rest (s : State) (k : PartId) (f : Part → Part) :
    (State.updVaultPart s k f).pending = s.pending ∧
    (State.updVaultPart s k f).time = s.time ∧
    (State.updVaultPart s k f).freeCtr = s.freeCtr ∧
    (State.updVaultPart s k f).outbox = s.outbox ∧
    (State.updVaultPart s k f).regs = s.regs ∧
    (State.updVaultPart s k f).evt = s.evt ∧
    (State.updVaultPart s k f).plat = s.plat ∧
    (State.updVaultPart s k f).keeper = s.keeper ∧
    (State.updVaultPart s k f).chs = s.chs ∧
    (State.updVaultPart s k f).cellar = s.cellar ∧
    (State.updVaultPart s k f).press = s.press ∧
    (State.updVaultPart s k f).ctl = s.ctl ∧
    (State.updVaultPart s k f).cntr = s.cntr ∧
    (State.updVaultPart s k f).tlm = s.tlm ∧
    (State.updVaultPart s k f).wd0 = s.wd0 ∧
    (State.updVaultPart s k f).clk = s.clk ∧
    (State.updVaultPart s k f).host = s.host ∧
    (State.updVaultPart s k f).ident = s.ident ∧
    (State.updVaultPart s k f).sealing = s.sealing ∧
    (State.updVaultPart s k f).crypt = s.crypt ∧
    (State.updVaultPart s k f).life = s.life ∧
    (State.updVaultPart s k f).side = s.side ∧
    (State.updVaultPart s k f).aux = s.aux ∧
    (State.updVaultPart s k f).chan = s.chan ∧
    (State.updVaultPart s k f).cfg = s.cfg ∧
    (State.updVaultPart s k f).sticky = s.sticky ∧
    (State.updVaultPart s k f).view = s.view ∧
    (State.updVaultPart s k f).powered = s.powered ∧
    (State.updVaultPart s k f).agt = s.agt ∧
    (State.updVaultPart s k f).cask = s.cask := by
  have h := State.updVaultPart_keeps s k f
  exact ⟨h .pending (by decide), h .time (by decide), h .freeCtr (by decide), h .outbox (by decide), h .regs (by decide), h .evt (by decide), h .plat (by decide), h .keeper (by decide), h .chs (by decide), h .cellar (by decide), h .press (by decide), h .ctl (by decide), h .cntr (by decide), h .tlm (by decide), h .wd0 (by decide), h .clk (by decide), h .host (by decide), h .ident (by decide), h .sealing (by decide), h .crypt (by decide), h .life (by decide), h .side (by decide), h .aux (by decide), State.chan_of (h .chs (by decide)), State.cfg_of (h .regs (by decide)), State.sticky_of (h .regs (by decide)), State.view_of (h .regs (by decide)), State.powered_of (h .plat (by decide)), State.agt_of (h .ctl (by decide)), State.cask_of (h .crypt (by decide))⟩

@[simp] theorem State.vaultIdle_rest (s : State) (k : PartId) :
    (State.vaultIdle s k).pending = s.pending ∧
    (State.vaultIdle s k).time = s.time ∧
    (State.vaultIdle s k).freeCtr = s.freeCtr ∧
    (State.vaultIdle s k).outbox = s.outbox ∧
    (State.vaultIdle s k).regs = s.regs ∧
    (State.vaultIdle s k).evt = s.evt ∧
    (State.vaultIdle s k).plat = s.plat ∧
    (State.vaultIdle s k).keeper = s.keeper ∧
    (State.vaultIdle s k).chs = s.chs ∧
    (State.vaultIdle s k).cellar = s.cellar ∧
    (State.vaultIdle s k).press = s.press ∧
    (State.vaultIdle s k).ctl = s.ctl ∧
    (State.vaultIdle s k).cntr = s.cntr ∧
    (State.vaultIdle s k).tlm = s.tlm ∧
    (State.vaultIdle s k).wd0 = s.wd0 ∧
    (State.vaultIdle s k).clk = s.clk ∧
    (State.vaultIdle s k).host = s.host ∧
    (State.vaultIdle s k).ident = s.ident ∧
    (State.vaultIdle s k).sealing = s.sealing ∧
    (State.vaultIdle s k).crypt = s.crypt ∧
    (State.vaultIdle s k).life = s.life ∧
    (State.vaultIdle s k).side = s.side ∧
    (State.vaultIdle s k).aux = s.aux ∧
    (State.vaultIdle s k).chan = s.chan ∧
    (State.vaultIdle s k).cfg = s.cfg ∧
    (State.vaultIdle s k).sticky = s.sticky ∧
    (State.vaultIdle s k).view = s.view ∧
    (State.vaultIdle s k).powered = s.powered ∧
    (State.vaultIdle s k).agt = s.agt ∧
    (State.vaultIdle s k).cask = s.cask := by
  have h := State.vaultIdle_keeps s k
  exact ⟨h .pending (by decide), h .time (by decide), h .freeCtr (by decide), h .outbox (by decide), h .regs (by decide), h .evt (by decide), h .plat (by decide), h .keeper (by decide), h .chs (by decide), h .cellar (by decide), h .press (by decide), h .ctl (by decide), h .cntr (by decide), h .tlm (by decide), h .wd0 (by decide), h .clk (by decide), h .host (by decide), h .ident (by decide), h .sealing (by decide), h .crypt (by decide), h .life (by decide), h .side (by decide), h .aux (by decide), State.chan_of (h .chs (by decide)), State.cfg_of (h .regs (by decide)), State.sticky_of (h .regs (by decide)), State.view_of (h .regs (by decide)), State.powered_of (h .plat (by decide)), State.agt_of (h .ctl (by decide)), State.cask_of (h .crypt (by decide))⟩

@[simp] theorem State.vaultDone_rest (s : State) :
    (State.vaultDone s).pending = s.pending ∧
    (State.vaultDone s).time = s.time ∧
    (State.vaultDone s).freeCtr = s.freeCtr ∧
    (State.vaultDone s).outbox = s.outbox ∧
    (State.vaultDone s).regs = s.regs ∧
    (State.vaultDone s).evt = s.evt ∧
    (State.vaultDone s).plat = s.plat ∧
    (State.vaultDone s).keeper = s.keeper ∧
    (State.vaultDone s).chs = s.chs ∧
    (State.vaultDone s).cellar = s.cellar ∧
    (State.vaultDone s).press = s.press ∧
    (State.vaultDone s).ctl = s.ctl ∧
    (State.vaultDone s).cntr = s.cntr ∧
    (State.vaultDone s).tlm = s.tlm ∧
    (State.vaultDone s).wd0 = s.wd0 ∧
    (State.vaultDone s).clk = s.clk ∧
    (State.vaultDone s).host = s.host ∧
    (State.vaultDone s).ident = s.ident ∧
    (State.vaultDone s).sealing = s.sealing ∧
    (State.vaultDone s).crypt = s.crypt ∧
    (State.vaultDone s).life = s.life ∧
    (State.vaultDone s).side = s.side ∧
    (State.vaultDone s).aux = s.aux ∧
    (State.vaultDone s).chan = s.chan ∧
    (State.vaultDone s).cfg = s.cfg ∧
    (State.vaultDone s).sticky = s.sticky ∧
    (State.vaultDone s).view = s.view ∧
    (State.vaultDone s).powered = s.powered ∧
    (State.vaultDone s).agt = s.agt ∧
    (State.vaultDone s).cask = s.cask := by
  have h := State.vaultDone_keeps s
  exact ⟨h .pending (by decide), h .time (by decide), h .freeCtr (by decide), h .outbox (by decide), h .regs (by decide), h .evt (by decide), h .plat (by decide), h .keeper (by decide), h .chs (by decide), h .cellar (by decide), h .press (by decide), h .ctl (by decide), h .cntr (by decide), h .tlm (by decide), h .wd0 (by decide), h .clk (by decide), h .host (by decide), h .ident (by decide), h .sealing (by decide), h .crypt (by decide), h .life (by decide), h .side (by decide), h .aux (by decide), State.chan_of (h .chs (by decide)), State.cfg_of (h .regs (by decide)), State.sticky_of (h .regs (by decide)), State.view_of (h .regs (by decide)), State.powered_of (h .plat (by decide)), State.agt_of (h .ctl (by decide)), State.cask_of (h .crypt (by decide))⟩

@[simp] theorem State.confirmImage_rest (s : State) (n : Ch) (k : SlotId) :
    (State.confirmImage s n k).pending = s.pending ∧
    (State.confirmImage s n k).time = s.time ∧
    (State.confirmImage s n k).freeCtr = s.freeCtr ∧
    (State.confirmImage s n k).outbox = s.outbox ∧
    (State.confirmImage s n k).regs = s.regs ∧
    (State.confirmImage s n k).plat = s.plat ∧
    (State.confirmImage s n k).keeper = s.keeper ∧
    (State.confirmImage s n k).cellar = s.cellar ∧
    (State.confirmImage s n k).press = s.press ∧
    (State.confirmImage s n k).ctl = s.ctl ∧
    (State.confirmImage s n k).cntr = s.cntr ∧
    (State.confirmImage s n k).tlm = s.tlm ∧
    (State.confirmImage s n k).wd0 = s.wd0 ∧
    (State.confirmImage s n k).clk = s.clk ∧
    (State.confirmImage s n k).host = s.host ∧
    (State.confirmImage s n k).ident = s.ident ∧
    (State.confirmImage s n k).sealing = s.sealing ∧
    (State.confirmImage s n k).crypt = s.crypt ∧
    (State.confirmImage s n k).life = s.life ∧
    (State.confirmImage s n k).side = s.side ∧
    (State.confirmImage s n k).aux = s.aux ∧
    (State.confirmImage s n k).cfg = s.cfg ∧
    (State.confirmImage s n k).sticky = s.sticky ∧
    (State.confirmImage s n k).view = s.view ∧
    (State.confirmImage s n k).powered = s.powered ∧
    (State.confirmImage s n k).agt = s.agt ∧
    (State.confirmImage s n k).cask = s.cask := by
  have h := State.confirmImage_keeps s n k
  exact ⟨h .pending (by decide), h .time (by decide), h .freeCtr (by decide), h .outbox (by decide), h .regs (by decide), h .plat (by decide), h .keeper (by decide), h .cellar (by decide), h .press (by decide), h .ctl (by decide), h .cntr (by decide), h .tlm (by decide), h .wd0 (by decide), h .clk (by decide), h .host (by decide), h .ident (by decide), h .sealing (by decide), h .crypt (by decide), h .life (by decide), h .side (by decide), h .aux (by decide), State.cfg_of (h .regs (by decide)), State.sticky_of (h .regs (by decide)), State.view_of (h .regs (by decide)), State.powered_of (h .plat (by decide)), State.agt_of (h .ctl (by decide)), State.cask_of (h .crypt (by decide))⟩

@[simp] theorem State.vaultFlash_rest (s : State) (k : PartId) (op : FlashOp) :
    (State.vaultFlash s k op).pending = s.pending ∧
    (State.vaultFlash s k op).time = s.time ∧
    (State.vaultFlash s k op).freeCtr = s.freeCtr ∧
    (State.vaultFlash s k op).regs = s.regs ∧
    (State.vaultFlash s k op).evt = s.evt ∧
    (State.vaultFlash s k op).plat = s.plat ∧
    (State.vaultFlash s k op).keeper = s.keeper ∧
    (State.vaultFlash s k op).chs = s.chs ∧
    (State.vaultFlash s k op).cellar = s.cellar ∧
    (State.vaultFlash s k op).press = s.press ∧
    (State.vaultFlash s k op).vault = s.vault ∧
    (State.vaultFlash s k op).ctl = s.ctl ∧
    (State.vaultFlash s k op).cntr = s.cntr ∧
    (State.vaultFlash s k op).tlm = s.tlm ∧
    (State.vaultFlash s k op).wd0 = s.wd0 ∧
    (State.vaultFlash s k op).clk = s.clk ∧
    (State.vaultFlash s k op).host = s.host ∧
    (State.vaultFlash s k op).ident = s.ident ∧
    (State.vaultFlash s k op).sealing = s.sealing ∧
    (State.vaultFlash s k op).crypt = s.crypt ∧
    (State.vaultFlash s k op).life = s.life ∧
    (State.vaultFlash s k op).side = s.side ∧
    (State.vaultFlash s k op).aux = s.aux ∧
    (State.vaultFlash s k op).chan = s.chan ∧
    (State.vaultFlash s k op).cfg = s.cfg ∧
    (State.vaultFlash s k op).sticky = s.sticky ∧
    (State.vaultFlash s k op).view = s.view ∧
    (State.vaultFlash s k op).powered = s.powered ∧
    (State.vaultFlash s k op).agt = s.agt ∧
    (State.vaultFlash s k op).cask = s.cask := by
  have h := State.vaultFlash_keeps s k op
  exact ⟨h .pending (by decide), h .time (by decide), h .freeCtr (by decide), h .regs (by decide), h .evt (by decide), h .plat (by decide), h .keeper (by decide), h .chs (by decide), h .cellar (by decide), h .press (by decide), h .vault (by decide), h .ctl (by decide), h .cntr (by decide), h .tlm (by decide), h .wd0 (by decide), h .clk (by decide), h .host (by decide), h .ident (by decide), h .sealing (by decide), h .crypt (by decide), h .life (by decide), h .side (by decide), h .aux (by decide), State.chan_of (h .chs (by decide)), State.cfg_of (h .regs (by decide)), State.sticky_of (h .regs (by decide)), State.view_of (h .regs (by decide)), State.powered_of (h .plat (by decide)), State.agt_of (h .ctl (by decide)), State.cask_of (h .crypt (by decide))⟩

@[simp] theorem State.tendRedirects_rest (s : State) (n : Ch) :
    (State.tendRedirects s n).pending = s.pending ∧
    (State.tendRedirects s n).time = s.time ∧
    (State.tendRedirects s n).freeCtr = s.freeCtr ∧
    (State.tendRedirects s n).regs = s.regs ∧
    (State.tendRedirects s n).evt = s.evt ∧
    (State.tendRedirects s n).plat = s.plat ∧
    (State.tendRedirects s n).keeper = s.keeper ∧
    (State.tendRedirects s n).cellar = s.cellar ∧
    (State.tendRedirects s n).press = s.press ∧
    (State.tendRedirects s n).ctl = s.ctl ∧
    (State.tendRedirects s n).cntr = s.cntr ∧
    (State.tendRedirects s n).tlm = s.tlm ∧
    (State.tendRedirects s n).wd0 = s.wd0 ∧
    (State.tendRedirects s n).clk = s.clk ∧
    (State.tendRedirects s n).host = s.host ∧
    (State.tendRedirects s n).ident = s.ident ∧
    (State.tendRedirects s n).sealing = s.sealing ∧
    (State.tendRedirects s n).crypt = s.crypt ∧
    (State.tendRedirects s n).life = s.life ∧
    (State.tendRedirects s n).side = s.side ∧
    (State.tendRedirects s n).aux = s.aux ∧
    (State.tendRedirects s n).cfg = s.cfg ∧
    (State.tendRedirects s n).sticky = s.sticky ∧
    (State.tendRedirects s n).view = s.view ∧
    (State.tendRedirects s n).powered = s.powered ∧
    (State.tendRedirects s n).agt = s.agt ∧
    (State.tendRedirects s n).cask = s.cask := by
  have h := State.tendRedirects_keeps s n
  exact ⟨h .pending (by decide), h .time (by decide), h .freeCtr (by decide), h .regs (by decide), h .evt (by decide), h .plat (by decide), h .keeper (by decide), h .cellar (by decide), h .press (by decide), h .ctl (by decide), h .cntr (by decide), h .tlm (by decide), h .wd0 (by decide), h .clk (by decide), h .host (by decide), h .ident (by decide), h .sealing (by decide), h .crypt (by decide), h .life (by decide), h .side (by decide), h .aux (by decide), State.cfg_of (h .regs (by decide)), State.sticky_of (h .regs (by decide)), State.view_of (h .regs (by decide)), State.powered_of (h .plat (by decide)), State.agt_of (h .ctl (by decide)), State.cask_of (h .crypt (by decide))⟩

@[simp] theorem State.confirmedFailure_rest (s : State) (n : Ch) (p : PageId) (copy : Nat) (cause : Nat) (node : Bool) :
    (State.confirmedFailure s n p copy cause node).pending = s.pending ∧
    (State.confirmedFailure s n p copy cause node).time = s.time ∧
    (State.confirmedFailure s n p copy cause node).plat = s.plat ∧
    (State.confirmedFailure s n p copy cause node).cntr = s.cntr ∧
    (State.confirmedFailure s n p copy cause node).tlm = s.tlm ∧
    (State.confirmedFailure s n p copy cause node).wd0 = s.wd0 ∧
    (State.confirmedFailure s n p copy cause node).clk = s.clk ∧
    (State.confirmedFailure s n p copy cause node).host = s.host ∧
    (State.confirmedFailure s n p copy cause node).sealing = s.sealing ∧
    (State.confirmedFailure s n p copy cause node).crypt = s.crypt ∧
    (State.confirmedFailure s n p copy cause node).life = s.life ∧
    (State.confirmedFailure s n p copy cause node).side = s.side ∧
    (State.confirmedFailure s n p copy cause node).aux = s.aux ∧
    (State.confirmedFailure s n p copy cause node).powered = s.powered ∧
    (State.confirmedFailure s n p copy cause node).cask = s.cask := by
  have h := State.confirmedFailure_keeps s n p copy cause node
  exact ⟨h .pending (by decide), h .time (by decide), h .plat (by decide), h .cntr (by decide), h .tlm (by decide), h .wd0 (by decide), h .clk (by decide), h .host (by decide), h .sealing (by decide), h .crypt (by decide), h .life (by decide), h .side (by decide), h .aux (by decide), State.powered_of (h .plat (by decide)), State.cask_of (h .crypt (by decide))⟩

@[simp] theorem State.countCellar_rest (s : State) (n : Ch) (k : Nat) :
    (State.countCellar s n k).pending = s.pending ∧
    (State.countCellar s n k).time = s.time ∧
    (State.countCellar s n k).freeCtr = s.freeCtr ∧
    (State.countCellar s n k).outbox = s.outbox ∧
    (State.countCellar s n k).regs = s.regs ∧
    (State.countCellar s n k).plat = s.plat ∧
    (State.countCellar s n k).keeper = s.keeper ∧
    (State.countCellar s n k).cellar = s.cellar ∧
    (State.countCellar s n k).press = s.press ∧
    (State.countCellar s n k).vault = s.vault ∧
    (State.countCellar s n k).ctl = s.ctl ∧
    (State.countCellar s n k).tlm = s.tlm ∧
    (State.countCellar s n k).wd0 = s.wd0 ∧
    (State.countCellar s n k).clk = s.clk ∧
    (State.countCellar s n k).host = s.host ∧
    (State.countCellar s n k).ident = s.ident ∧
    (State.countCellar s n k).sealing = s.sealing ∧
    (State.countCellar s n k).crypt = s.crypt ∧
    (State.countCellar s n k).life = s.life ∧
    (State.countCellar s n k).side = s.side ∧
    (State.countCellar s n k).aux = s.aux ∧
    (State.countCellar s n k).cfg = s.cfg ∧
    (State.countCellar s n k).sticky = s.sticky ∧
    (State.countCellar s n k).view = s.view ∧
    (State.countCellar s n k).powered = s.powered ∧
    (State.countCellar s n k).agt = s.agt ∧
    (State.countCellar s n k).cask = s.cask := by
  have h := State.countCellar_keeps s n k
  exact ⟨h .pending (by decide), h .time (by decide), h .freeCtr (by decide), h .outbox (by decide), h .regs (by decide), h .plat (by decide), h .keeper (by decide), h .cellar (by decide), h .press (by decide), h .vault (by decide), h .ctl (by decide), h .tlm (by decide), h .wd0 (by decide), h .clk (by decide), h .host (by decide), h .ident (by decide), h .sealing (by decide), h .crypt (by decide), h .life (by decide), h .side (by decide), h .aux (by decide), State.cfg_of (h .regs (by decide)), State.sticky_of (h .regs (by decide)), State.view_of (h .regs (by decide)), State.powered_of (h .plat (by decide)), State.agt_of (h .ctl (by decide)), State.cask_of (h .crypt (by decide))⟩

@[simp] theorem State.countRead_rest (s : State) (k : Nat) (addr : optParam Nat 0) :
    (State.countRead s k addr).pending = s.pending ∧
    (State.countRead s k addr).time = s.time ∧
    (State.countRead s k addr).freeCtr = s.freeCtr ∧
    (State.countRead s k addr).outbox = s.outbox ∧
    (State.countRead s k addr).regs = s.regs ∧
    (State.countRead s k addr).plat = s.plat ∧
    (State.countRead s k addr).keeper = s.keeper ∧
    (State.countRead s k addr).chs = s.chs ∧
    (State.countRead s k addr).cellar = s.cellar ∧
    (State.countRead s k addr).press = s.press ∧
    (State.countRead s k addr).vault = s.vault ∧
    (State.countRead s k addr).ctl = s.ctl ∧
    (State.countRead s k addr).wd0 = s.wd0 ∧
    (State.countRead s k addr).clk = s.clk ∧
    (State.countRead s k addr).host = s.host ∧
    (State.countRead s k addr).ident = s.ident ∧
    (State.countRead s k addr).sealing = s.sealing ∧
    (State.countRead s k addr).crypt = s.crypt ∧
    (State.countRead s k addr).life = s.life ∧
    (State.countRead s k addr).side = s.side ∧
    (State.countRead s k addr).aux = s.aux ∧
    (State.countRead s k addr).chan = s.chan ∧
    (State.countRead s k addr).cfg = s.cfg ∧
    (State.countRead s k addr).sticky = s.sticky ∧
    (State.countRead s k addr).view = s.view ∧
    (State.countRead s k addr).powered = s.powered ∧
    (State.countRead s k addr).agt = s.agt ∧
    (State.countRead s k addr).cask = s.cask := by
  have h := State.countRead_keeps s k addr
  exact ⟨h .pending (by decide), h .time (by decide), h .freeCtr (by decide), h .outbox (by decide), h .regs (by decide), h .plat (by decide), h .keeper (by decide), h .chs (by decide), h .cellar (by decide), h .press (by decide), h .vault (by decide), h .ctl (by decide), h .wd0 (by decide), h .clk (by decide), h .host (by decide), h .ident (by decide), h .sealing (by decide), h .crypt (by decide), h .life (by decide), h .side (by decide), h .aux (by decide), State.chan_of (h .chs (by decide)), State.cfg_of (h .regs (by decide)), State.sticky_of (h .regs (by decide)), State.view_of (h .regs (by decide)), State.powered_of (h .plat (by decide)), State.agt_of (h .ctl (by decide)), State.cask_of (h .crypt (by decide))⟩

@[simp] theorem State.countSpan_rest (s : State) (n : Ch) :
    (State.countSpan s n).pending = s.pending ∧
    (State.countSpan s n).time = s.time ∧
    (State.countSpan s n).freeCtr = s.freeCtr ∧
    (State.countSpan s n).outbox = s.outbox ∧
    (State.countSpan s n).regs = s.regs ∧
    (State.countSpan s n).evt = s.evt ∧
    (State.countSpan s n).plat = s.plat ∧
    (State.countSpan s n).keeper = s.keeper ∧
    (State.countSpan s n).chs = s.chs ∧
    (State.countSpan s n).cellar = s.cellar ∧
    (State.countSpan s n).press = s.press ∧
    (State.countSpan s n).vault = s.vault ∧
    (State.countSpan s n).ctl = s.ctl ∧
    (State.countSpan s n).cntr = s.cntr ∧
    (State.countSpan s n).wd0 = s.wd0 ∧
    (State.countSpan s n).clk = s.clk ∧
    (State.countSpan s n).host = s.host ∧
    (State.countSpan s n).ident = s.ident ∧
    (State.countSpan s n).sealing = s.sealing ∧
    (State.countSpan s n).crypt = s.crypt ∧
    (State.countSpan s n).life = s.life ∧
    (State.countSpan s n).side = s.side ∧
    (State.countSpan s n).aux = s.aux ∧
    (State.countSpan s n).chan = s.chan ∧
    (State.countSpan s n).cfg = s.cfg ∧
    (State.countSpan s n).sticky = s.sticky ∧
    (State.countSpan s n).view = s.view ∧
    (State.countSpan s n).powered = s.powered ∧
    (State.countSpan s n).agt = s.agt ∧
    (State.countSpan s n).cask = s.cask := by
  have h := State.countSpan_keeps s n
  exact ⟨h .pending (by decide), h .time (by decide), h .freeCtr (by decide), h .outbox (by decide), h .regs (by decide), h .evt (by decide), h .plat (by decide), h .keeper (by decide), h .chs (by decide), h .cellar (by decide), h .press (by decide), h .vault (by decide), h .ctl (by decide), h .cntr (by decide), h .wd0 (by decide), h .clk (by decide), h .host (by decide), h .ident (by decide), h .sealing (by decide), h .crypt (by decide), h .life (by decide), h .side (by decide), h .aux (by decide), State.chan_of (h .chs (by decide)), State.cfg_of (h .regs (by decide)), State.sticky_of (h .regs (by decide)), State.view_of (h .regs (by decide)), State.powered_of (h .plat (by decide)), State.agt_of (h .ctl (by decide)), State.cask_of (h .crypt (by decide))⟩

@[simp] theorem State.countSynth_rest (s : State) (n : Ch) (k : Nat) :
    (State.countSynth s n k).pending = s.pending ∧
    (State.countSynth s n k).time = s.time ∧
    (State.countSynth s n k).freeCtr = s.freeCtr ∧
    (State.countSynth s n k).outbox = s.outbox ∧
    (State.countSynth s n k).regs = s.regs ∧
    (State.countSynth s n k).plat = s.plat ∧
    (State.countSynth s n k).keeper = s.keeper ∧
    (State.countSynth s n k).cellar = s.cellar ∧
    (State.countSynth s n k).press = s.press ∧
    (State.countSynth s n k).vault = s.vault ∧
    (State.countSynth s n k).ctl = s.ctl ∧
    (State.countSynth s n k).tlm = s.tlm ∧
    (State.countSynth s n k).wd0 = s.wd0 ∧
    (State.countSynth s n k).clk = s.clk ∧
    (State.countSynth s n k).host = s.host ∧
    (State.countSynth s n k).ident = s.ident ∧
    (State.countSynth s n k).sealing = s.sealing ∧
    (State.countSynth s n k).crypt = s.crypt ∧
    (State.countSynth s n k).life = s.life ∧
    (State.countSynth s n k).side = s.side ∧
    (State.countSynth s n k).aux = s.aux ∧
    (State.countSynth s n k).cfg = s.cfg ∧
    (State.countSynth s n k).sticky = s.sticky ∧
    (State.countSynth s n k).view = s.view ∧
    (State.countSynth s n k).powered = s.powered ∧
    (State.countSynth s n k).agt = s.agt ∧
    (State.countSynth s n k).cask = s.cask := by
  have h := State.countSynth_keeps s n k
  exact ⟨h .pending (by decide), h .time (by decide), h .freeCtr (by decide), h .outbox (by decide), h .regs (by decide), h .plat (by decide), h .keeper (by decide), h .cellar (by decide), h .press (by decide), h .vault (by decide), h .ctl (by decide), h .tlm (by decide), h .wd0 (by decide), h .clk (by decide), h .host (by decide), h .ident (by decide), h .sealing (by decide), h .crypt (by decide), h .life (by decide), h .side (by decide), h .aux (by decide), State.cfg_of (h .regs (by decide)), State.sticky_of (h .regs (by decide)), State.view_of (h .regs (by decide)), State.powered_of (h .plat (by decide)), State.agt_of (h .ctl (by decide)), State.cask_of (h .crypt (by decide))⟩

@[simp] theorem State.rejectDebug_rest (s : State) (check : Nat) :
    (State.rejectDebug s check).pending = s.pending ∧
    (State.rejectDebug s check).time = s.time ∧
    (State.rejectDebug s check).freeCtr = s.freeCtr ∧
    (State.rejectDebug s check).outbox = s.outbox ∧
    (State.rejectDebug s check).regs = s.regs ∧
    (State.rejectDebug s check).plat = s.plat ∧
    (State.rejectDebug s check).keeper = s.keeper ∧
    (State.rejectDebug s check).chs = s.chs ∧
    (State.rejectDebug s check).cellar = s.cellar ∧
    (State.rejectDebug s check).press = s.press ∧
    (State.rejectDebug s check).vault = s.vault ∧
    (State.rejectDebug s check).ctl = s.ctl ∧
    (State.rejectDebug s check).cntr = s.cntr ∧
    (State.rejectDebug s check).tlm = s.tlm ∧
    (State.rejectDebug s check).wd0 = s.wd0 ∧
    (State.rejectDebug s check).clk = s.clk ∧
    (State.rejectDebug s check).host = s.host ∧
    (State.rejectDebug s check).ident = s.ident ∧
    (State.rejectDebug s check).sealing = s.sealing ∧
    (State.rejectDebug s check).crypt = s.crypt ∧
    (State.rejectDebug s check).side = s.side ∧
    (State.rejectDebug s check).aux = s.aux ∧
    (State.rejectDebug s check).chan = s.chan ∧
    (State.rejectDebug s check).cfg = s.cfg ∧
    (State.rejectDebug s check).sticky = s.sticky ∧
    (State.rejectDebug s check).view = s.view ∧
    (State.rejectDebug s check).powered = s.powered ∧
    (State.rejectDebug s check).agt = s.agt ∧
    (State.rejectDebug s check).cask = s.cask := by
  have h := State.rejectDebug_keeps s check
  exact ⟨h .pending (by decide), h .time (by decide), h .freeCtr (by decide), h .outbox (by decide), h .regs (by decide), h .plat (by decide), h .keeper (by decide), h .chs (by decide), h .cellar (by decide), h .press (by decide), h .vault (by decide), h .ctl (by decide), h .cntr (by decide), h .tlm (by decide), h .wd0 (by decide), h .clk (by decide), h .host (by decide), h .ident (by decide), h .sealing (by decide), h .crypt (by decide), h .side (by decide), h .aux (by decide), State.chan_of (h .chs (by decide)), State.cfg_of (h .regs (by decide)), State.sticky_of (h .regs (by decide)), State.view_of (h .regs (by decide)), State.powered_of (h .plat (by decide)), State.agt_of (h .ctl (by decide)), State.cask_of (h .crypt (by decide))⟩

@[simp] theorem State.keepNode_rest (s : State) (n : Ch) (p : PageId) (copy : Nat) :
    (State.keepNode s n p copy).pending = s.pending ∧
    (State.keepNode s n p copy).time = s.time ∧
    (State.keepNode s n p copy).freeCtr = s.freeCtr ∧
    (State.keepNode s n p copy).outbox = s.outbox ∧
    (State.keepNode s n p copy).regs = s.regs ∧
    (State.keepNode s n p copy).plat = s.plat ∧
    (State.keepNode s n p copy).keeper = s.keeper ∧
    (State.keepNode s n p copy).chs = s.chs ∧
    (State.keepNode s n p copy).press = s.press ∧
    (State.keepNode s n p copy).vault = s.vault ∧
    (State.keepNode s n p copy).ctl = s.ctl ∧
    (State.keepNode s n p copy).tlm = s.tlm ∧
    (State.keepNode s n p copy).wd0 = s.wd0 ∧
    (State.keepNode s n p copy).clk = s.clk ∧
    (State.keepNode s n p copy).host = s.host ∧
    (State.keepNode s n p copy).ident = s.ident ∧
    (State.keepNode s n p copy).sealing = s.sealing ∧
    (State.keepNode s n p copy).crypt = s.crypt ∧
    (State.keepNode s n p copy).life = s.life ∧
    (State.keepNode s n p copy).side = s.side ∧
    (State.keepNode s n p copy).aux = s.aux ∧
    (State.keepNode s n p copy).chan = s.chan ∧
    (State.keepNode s n p copy).cfg = s.cfg ∧
    (State.keepNode s n p copy).sticky = s.sticky ∧
    (State.keepNode s n p copy).view = s.view ∧
    (State.keepNode s n p copy).powered = s.powered ∧
    (State.keepNode s n p copy).agt = s.agt ∧
    (State.keepNode s n p copy).cask = s.cask := by
  have h := State.keepNode_keeps s n p copy
  exact ⟨h .pending (by decide), h .time (by decide), h .freeCtr (by decide), h .outbox (by decide), h .regs (by decide), h .plat (by decide), h .keeper (by decide), h .chs (by decide), h .press (by decide), h .vault (by decide), h .ctl (by decide), h .tlm (by decide), h .wd0 (by decide), h .clk (by decide), h .host (by decide), h .ident (by decide), h .sealing (by decide), h .crypt (by decide), h .life (by decide), h .side (by decide), h .aux (by decide), State.chan_of (h .chs (by decide)), State.cfg_of (h .regs (by decide)), State.sticky_of (h .regs (by decide)), State.view_of (h .regs (by decide)), State.powered_of (h .plat (by decide)), State.agt_of (h .ctl (by decide)), State.cask_of (h .crypt (by decide))⟩

@[simp] theorem State.xtsRefused_rest (s : State) (n : Ch) (k : SlotId) (copy : Nat) :
    (State.xtsRefused s n k copy).pending = s.pending ∧
    (State.xtsRefused s n k copy).time = s.time ∧
    (State.xtsRefused s n k copy).freeCtr = s.freeCtr ∧
    (State.xtsRefused s n k copy).outbox = s.outbox ∧
    (State.xtsRefused s n k copy).regs = s.regs ∧
    (State.xtsRefused s n k copy).plat = s.plat ∧
    (State.xtsRefused s n k copy).keeper = s.keeper ∧
    (State.xtsRefused s n k copy).chs = s.chs ∧
    (State.xtsRefused s n k copy).cellar = s.cellar ∧
    (State.xtsRefused s n k copy).press = s.press ∧
    (State.xtsRefused s n k copy).vault = s.vault ∧
    (State.xtsRefused s n k copy).ctl = s.ctl ∧
    (State.xtsRefused s n k copy).cntr = s.cntr ∧
    (State.xtsRefused s n k copy).tlm = s.tlm ∧
    (State.xtsRefused s n k copy).wd0 = s.wd0 ∧
    (State.xtsRefused s n k copy).clk = s.clk ∧
    (State.xtsRefused s n k copy).host = s.host ∧
    (State.xtsRefused s n k copy).ident = s.ident ∧
    (State.xtsRefused s n k copy).sealing = s.sealing ∧
    (State.xtsRefused s n k copy).crypt = s.crypt ∧
    (State.xtsRefused s n k copy).life = s.life ∧
    (State.xtsRefused s n k copy).side = s.side ∧
    (State.xtsRefused s n k copy).aux = s.aux ∧
    (State.xtsRefused s n k copy).chan = s.chan ∧
    (State.xtsRefused s n k copy).cfg = s.cfg ∧
    (State.xtsRefused s n k copy).sticky = s.sticky ∧
    (State.xtsRefused s n k copy).view = s.view ∧
    (State.xtsRefused s n k copy).powered = s.powered ∧
    (State.xtsRefused s n k copy).agt = s.agt ∧
    (State.xtsRefused s n k copy).cask = s.cask := by
  have h := State.xtsRefused_keeps s n k copy
  exact ⟨h .pending (by decide), h .time (by decide), h .freeCtr (by decide), h .outbox (by decide), h .regs (by decide), h .plat (by decide), h .keeper (by decide), h .chs (by decide), h .cellar (by decide), h .press (by decide), h .vault (by decide), h .ctl (by decide), h .cntr (by decide), h .tlm (by decide), h .wd0 (by decide), h .clk (by decide), h .host (by decide), h .ident (by decide), h .sealing (by decide), h .crypt (by decide), h .life (by decide), h .side (by decide), h .aux (by decide), State.chan_of (h .chs (by decide)), State.cfg_of (h .regs (by decide)), State.sticky_of (h .regs (by decide)), State.view_of (h .regs (by decide)), State.powered_of (h .plat (by decide)), State.agt_of (h .ctl (by decide)), State.cask_of (h .crypt (by decide))⟩

@[simp] theorem State.xtsPage_rest (s : State) (n : Ch) (p : PageId) (copy : Nat) (decrypt : Bool) :
    (State.xtsPage s n p copy decrypt).pending = s.pending ∧
    (State.xtsPage s n p copy decrypt).time = s.time ∧
    (State.xtsPage s n p copy decrypt).freeCtr = s.freeCtr ∧
    (State.xtsPage s n p copy decrypt).regs = s.regs ∧
    (State.xtsPage s n p copy decrypt).evt = s.evt ∧
    (State.xtsPage s n p copy decrypt).plat = s.plat ∧
    (State.xtsPage s n p copy decrypt).keeper = s.keeper ∧
    (State.xtsPage s n p copy decrypt).chs = s.chs ∧
    (State.xtsPage s n p copy decrypt).cellar = s.cellar ∧
    (State.xtsPage s n p copy decrypt).press = s.press ∧
    (State.xtsPage s n p copy decrypt).vault = s.vault ∧
    (State.xtsPage s n p copy decrypt).ctl = s.ctl ∧
    (State.xtsPage s n p copy decrypt).cntr = s.cntr ∧
    (State.xtsPage s n p copy decrypt).tlm = s.tlm ∧
    (State.xtsPage s n p copy decrypt).wd0 = s.wd0 ∧
    (State.xtsPage s n p copy decrypt).clk = s.clk ∧
    (State.xtsPage s n p copy decrypt).host = s.host ∧
    (State.xtsPage s n p copy decrypt).ident = s.ident ∧
    (State.xtsPage s n p copy decrypt).sealing = s.sealing ∧
    (State.xtsPage s n p copy decrypt).crypt = s.crypt ∧
    (State.xtsPage s n p copy decrypt).life = s.life ∧
    (State.xtsPage s n p copy decrypt).side = s.side ∧
    (State.xtsPage s n p copy decrypt).aux = s.aux ∧
    (State.xtsPage s n p copy decrypt).chan = s.chan ∧
    (State.xtsPage s n p copy decrypt).cfg = s.cfg ∧
    (State.xtsPage s n p copy decrypt).sticky = s.sticky ∧
    (State.xtsPage s n p copy decrypt).view = s.view ∧
    (State.xtsPage s n p copy decrypt).powered = s.powered ∧
    (State.xtsPage s n p copy decrypt).agt = s.agt ∧
    (State.xtsPage s n p copy decrypt).cask = s.cask := by
  have h := State.xtsPage_keeps s n p copy decrypt
  exact ⟨h .pending (by decide), h .time (by decide), h .freeCtr (by decide), h .regs (by decide), h .evt (by decide), h .plat (by decide), h .keeper (by decide), h .chs (by decide), h .cellar (by decide), h .press (by decide), h .vault (by decide), h .ctl (by decide), h .cntr (by decide), h .tlm (by decide), h .wd0 (by decide), h .clk (by decide), h .host (by decide), h .ident (by decide), h .sealing (by decide), h .crypt (by decide), h .life (by decide), h .side (by decide), h .aux (by decide), State.chan_of (h .chs (by decide)), State.cfg_of (h .regs (by decide)), State.sticky_of (h .regs (by decide)), State.view_of (h .regs (by decide)), State.powered_of (h .plat (by decide)), State.agt_of (h .ctl (by decide)), State.cask_of (h .crypt (by decide))⟩

@[simp] theorem State.degrade_rest (s : State) (ring : Bool) :
    (State.degrade s ring).pending = s.pending ∧
    (State.degrade s ring).time = s.time ∧
    (State.degrade s ring).freeCtr = s.freeCtr ∧
    (State.degrade s ring).outbox = s.outbox ∧
    (State.degrade s ring).regs = s.regs ∧
    (State.degrade s ring).plat = s.plat ∧
    (State.degrade s ring).keeper = s.keeper ∧
    (State.degrade s ring).chs = s.chs ∧
    (State.degrade s ring).cellar = s.cellar ∧
    (State.degrade s ring).press = s.press ∧
    (State.degrade s ring).vault = s.vault ∧
    (State.degrade s ring).ctl = s.ctl ∧
    (State.degrade s ring).cntr = s.cntr ∧
    (State.degrade s ring).tlm = s.tlm ∧
    (State.degrade s ring).wd0 = s.wd0 ∧
    (State.degrade s ring).clk = s.clk ∧
    (State.degrade s ring).host = s.host ∧
    (State.degrade s ring).ident = s.ident ∧
    (State.degrade s ring).sealing = s.sealing ∧
    (State.degrade s ring).crypt = s.crypt ∧
    (State.degrade s ring).life = s.life ∧
    (State.degrade s ring).side = s.side ∧
    (State.degrade s ring).aux = s.aux ∧
    (State.degrade s ring).chan = s.chan ∧
    (State.degrade s ring).cfg = s.cfg ∧
    (State.degrade s ring).sticky = s.sticky ∧
    (State.degrade s ring).view = s.view ∧
    (State.degrade s ring).powered = s.powered ∧
    (State.degrade s ring).agt = s.agt ∧
    (State.degrade s ring).cask = s.cask := by
  have h := State.degrade_keeps s ring
  exact ⟨h .pending (by decide), h .time (by decide), h .freeCtr (by decide), h .outbox (by decide), h .regs (by decide), h .plat (by decide), h .keeper (by decide), h .chs (by decide), h .cellar (by decide), h .press (by decide), h .vault (by decide), h .ctl (by decide), h .cntr (by decide), h .tlm (by decide), h .wd0 (by decide), h .clk (by decide), h .host (by decide), h .ident (by decide), h .sealing (by decide), h .crypt (by decide), h .life (by decide), h .side (by decide), h .aux (by decide), State.chan_of (h .chs (by decide)), State.cfg_of (h .regs (by decide)), State.sticky_of (h .regs (by decide)), State.view_of (h .regs (by decide)), State.powered_of (h .plat (by decide)), State.agt_of (h .ctl (by decide)), State.cask_of (h .crypt (by decide))⟩

@[simp] theorem State.withoutRoot_rest (s : State) (i : Nat) (drbg : List Byte) :
    (State.withoutRoot s i drbg).pending = s.pending ∧
    (State.withoutRoot s i drbg).time = s.time ∧
    (State.withoutRoot s i drbg).freeCtr = s.freeCtr ∧
    (State.withoutRoot s i drbg).outbox = s.outbox ∧
    (State.withoutRoot s i drbg).regs = s.regs ∧
    (State.withoutRoot s i drbg).evt = s.evt ∧
    (State.withoutRoot s i drbg).plat = s.plat ∧
    (State.withoutRoot s i drbg).keeper = s.keeper ∧
    (State.withoutRoot s i drbg).chs = s.chs ∧
    (State.withoutRoot s i drbg).cellar = s.cellar ∧
    (State.withoutRoot s i drbg).press = s.press ∧
    (State.withoutRoot s i drbg).vault = s.vault ∧
    (State.withoutRoot s i drbg).ctl = s.ctl ∧
    (State.withoutRoot s i drbg).cntr = s.cntr ∧
    (State.withoutRoot s i drbg).tlm = s.tlm ∧
    (State.withoutRoot s i drbg).wd0 = s.wd0 ∧
    (State.withoutRoot s i drbg).clk = s.clk ∧
    (State.withoutRoot s i drbg).host = s.host ∧
    (State.withoutRoot s i drbg).ident = s.ident ∧
    (State.withoutRoot s i drbg).sealing = s.sealing ∧
    (State.withoutRoot s i drbg).life = s.life ∧
    (State.withoutRoot s i drbg).side = s.side ∧
    (State.withoutRoot s i drbg).aux = s.aux ∧
    (State.withoutRoot s i drbg).chan = s.chan ∧
    (State.withoutRoot s i drbg).cfg = s.cfg ∧
    (State.withoutRoot s i drbg).sticky = s.sticky ∧
    (State.withoutRoot s i drbg).view = s.view ∧
    (State.withoutRoot s i drbg).powered = s.powered ∧
    (State.withoutRoot s i drbg).agt = s.agt := by
  have h := State.withoutRoot_keeps s i drbg
  exact ⟨h .pending (by decide), h .time (by decide), h .freeCtr (by decide), h .outbox (by decide), h .regs (by decide), h .evt (by decide), h .plat (by decide), h .keeper (by decide), h .chs (by decide), h .cellar (by decide), h .press (by decide), h .vault (by decide), h .ctl (by decide), h .cntr (by decide), h .tlm (by decide), h .wd0 (by decide), h .clk (by decide), h .host (by decide), h .ident (by decide), h .sealing (by decide), h .life (by decide), h .side (by decide), h .aux (by decide), State.chan_of (h .chs (by decide)), State.cfg_of (h .regs (by decide)), State.sticky_of (h .regs (by decide)), State.view_of (h .regs (by decide)), State.powered_of (h .plat (by decide)), State.agt_of (h .ctl (by decide))⟩

@[simp] theorem State.deriveFixed_rest (s : State) (i : Nat) (ctx : List Byte) (gen : Option Nat) :
    (State.deriveFixed s i ctx gen).pending = s.pending ∧
    (State.deriveFixed s i ctx gen).time = s.time ∧
    (State.deriveFixed s i ctx gen).freeCtr = s.freeCtr ∧
    (State.deriveFixed s i ctx gen).outbox = s.outbox ∧
    (State.deriveFixed s i ctx gen).regs = s.regs ∧
    (State.deriveFixed s i ctx gen).evt = s.evt ∧
    (State.deriveFixed s i ctx gen).plat = s.plat ∧
    (State.deriveFixed s i ctx gen).keeper = s.keeper ∧
    (State.deriveFixed s i ctx gen).chs = s.chs ∧
    (State.deriveFixed s i ctx gen).cellar = s.cellar ∧
    (State.deriveFixed s i ctx gen).press = s.press ∧
    (State.deriveFixed s i ctx gen).vault = s.vault ∧
    (State.deriveFixed s i ctx gen).ctl = s.ctl ∧
    (State.deriveFixed s i ctx gen).cntr = s.cntr ∧
    (State.deriveFixed s i ctx gen).tlm = s.tlm ∧
    (State.deriveFixed s i ctx gen).wd0 = s.wd0 ∧
    (State.deriveFixed s i ctx gen).clk = s.clk ∧
    (State.deriveFixed s i ctx gen).host = s.host ∧
    (State.deriveFixed s i ctx gen).ident = s.ident ∧
    (State.deriveFixed s i ctx gen).sealing = s.sealing ∧
    (State.deriveFixed s i ctx gen).life = s.life ∧
    (State.deriveFixed s i ctx gen).side = s.side ∧
    (State.deriveFixed s i ctx gen).aux = s.aux ∧
    (State.deriveFixed s i ctx gen).chan = s.chan ∧
    (State.deriveFixed s i ctx gen).cfg = s.cfg ∧
    (State.deriveFixed s i ctx gen).sticky = s.sticky ∧
    (State.deriveFixed s i ctx gen).view = s.view ∧
    (State.deriveFixed s i ctx gen).powered = s.powered ∧
    (State.deriveFixed s i ctx gen).agt = s.agt := by
  have h := State.deriveFixed_keeps s i ctx gen
  exact ⟨h .pending (by decide), h .time (by decide), h .freeCtr (by decide), h .outbox (by decide), h .regs (by decide), h .evt (by decide), h .plat (by decide), h .keeper (by decide), h .chs (by decide), h .cellar (by decide), h .press (by decide), h .vault (by decide), h .ctl (by decide), h .cntr (by decide), h .tlm (by decide), h .wd0 (by decide), h .clk (by decide), h .host (by decide), h .ident (by decide), h .sealing (by decide), h .life (by decide), h .side (by decide), h .aux (by decide), State.chan_of (h .chs (by decide)), State.cfg_of (h .regs (by decide)), State.sticky_of (h .regs (by decide)), State.view_of (h .regs (by decide)), State.powered_of (h .plat (by decide)), State.agt_of (h .ctl (by decide))⟩

@[simp] theorem State.invalidateLive_rest (s : State) (i : Nat) :
    (State.invalidateLive s i).pending = s.pending ∧
    (State.invalidateLive s i).time = s.time ∧
    (State.invalidateLive s i).freeCtr = s.freeCtr ∧
    (State.invalidateLive s i).regs = s.regs ∧
    (State.invalidateLive s i).plat = s.plat ∧
    (State.invalidateLive s i).keeper = s.keeper ∧
    (State.invalidateLive s i).chs = s.chs ∧
    (State.invalidateLive s i).cellar = s.cellar ∧
    (State.invalidateLive s i).vault = s.vault ∧
    (State.invalidateLive s i).ctl = s.ctl ∧
    (State.invalidateLive s i).wd0 = s.wd0 ∧
    (State.invalidateLive s i).clk = s.clk ∧
    (State.invalidateLive s i).ident = s.ident ∧
    (State.invalidateLive s i).life = s.life ∧
    (State.invalidateLive s i).side = s.side ∧
    (State.invalidateLive s i).aux = s.aux ∧
    (State.invalidateLive s i).chan = s.chan ∧
    (State.invalidateLive s i).cfg = s.cfg ∧
    (State.invalidateLive s i).sticky = s.sticky ∧
    (State.invalidateLive s i).view = s.view ∧
    (State.invalidateLive s i).powered = s.powered ∧
    (State.invalidateLive s i).agt = s.agt := by
  have h := State.invalidateLive_keeps s i
  exact ⟨h .pending (by decide), h .time (by decide), h .freeCtr (by decide), h .regs (by decide), h .plat (by decide), h .keeper (by decide), h .chs (by decide), h .cellar (by decide), h .vault (by decide), h .ctl (by decide), h .wd0 (by decide), h .clk (by decide), h .ident (by decide), h .life (by decide), h .side (by decide), h .aux (by decide), State.chan_of (h .chs (by decide)), State.cfg_of (h .regs (by decide)), State.sticky_of (h .regs (by decide)), State.view_of (h .regs (by decide)), State.powered_of (h .plat (by decide)), State.agt_of (h .ctl (by decide))⟩

@[simp] theorem State.deriveL0_rest (s : State) (w : Package) (st : Package) :
    (State.deriveL0 s w st).pending = s.pending ∧
    (State.deriveL0 s w st).time = s.time ∧
    (State.deriveL0 s w st).freeCtr = s.freeCtr ∧
    (State.deriveL0 s w st).regs = s.regs ∧
    (State.deriveL0 s w st).plat = s.plat ∧
    (State.deriveL0 s w st).keeper = s.keeper ∧
    (State.deriveL0 s w st).chs = s.chs ∧
    (State.deriveL0 s w st).cellar = s.cellar ∧
    (State.deriveL0 s w st).vault = s.vault ∧
    (State.deriveL0 s w st).ctl = s.ctl ∧
    (State.deriveL0 s w st).wd0 = s.wd0 ∧
    (State.deriveL0 s w st).clk = s.clk ∧
    (State.deriveL0 s w st).life = s.life ∧
    (State.deriveL0 s w st).side = s.side ∧
    (State.deriveL0 s w st).aux = s.aux ∧
    (State.deriveL0 s w st).chan = s.chan ∧
    (State.deriveL0 s w st).cfg = s.cfg ∧
    (State.deriveL0 s w st).sticky = s.sticky ∧
    (State.deriveL0 s w st).view = s.view ∧
    (State.deriveL0 s w st).powered = s.powered ∧
    (State.deriveL0 s w st).agt = s.agt := by
  have h := State.deriveL0_keeps s w st
  exact ⟨h .pending (by decide), h .time (by decide), h .freeCtr (by decide), h .regs (by decide), h .plat (by decide), h .keeper (by decide), h .chs (by decide), h .cellar (by decide), h .vault (by decide), h .ctl (by decide), h .wd0 (by decide), h .clk (by decide), h .life (by decide), h .side (by decide), h .aux (by decide), State.chan_of (h .chs (by decide)), State.cfg_of (h .regs (by decide)), State.sticky_of (h .regs (by decide)), State.view_of (h .regs (by decide)), State.powered_of (h .plat (by decide)), State.agt_of (h .ctl (by decide))⟩

@[simp] theorem State.drainExceptions_rest (s : State) :
    (State.drainExceptions s).pending = s.pending ∧
    (State.drainExceptions s).time = s.time ∧
    (State.drainExceptions s).freeCtr = s.freeCtr ∧
    (State.drainExceptions s).regs = s.regs ∧
    (State.drainExceptions s).evt = s.evt ∧
    (State.drainExceptions s).keeper = s.keeper ∧
    (State.drainExceptions s).chs = s.chs ∧
    (State.drainExceptions s).cellar = s.cellar ∧
    (State.drainExceptions s).press = s.press ∧
    (State.drainExceptions s).vault = s.vault ∧
    (State.drainExceptions s).ctl = s.ctl ∧
    (State.drainExceptions s).cntr = s.cntr ∧
    (State.drainExceptions s).tlm = s.tlm ∧
    (State.drainExceptions s).wd0 = s.wd0 ∧
    (State.drainExceptions s).clk = s.clk ∧
    (State.drainExceptions s).host = s.host ∧
    (State.drainExceptions s).ident = s.ident ∧
    (State.drainExceptions s).sealing = s.sealing ∧
    (State.drainExceptions s).crypt = s.crypt ∧
    (State.drainExceptions s).life = s.life ∧
    (State.drainExceptions s).side = s.side ∧
    (State.drainExceptions s).aux = s.aux ∧
    (State.drainExceptions s).chan = s.chan ∧
    (State.drainExceptions s).cfg = s.cfg ∧
    (State.drainExceptions s).sticky = s.sticky ∧
    (State.drainExceptions s).view = s.view ∧
    (State.drainExceptions s).agt = s.agt ∧
    (State.drainExceptions s).cask = s.cask := by
  have h := State.drainExceptions_keeps s
  exact ⟨h .pending (by decide), h .time (by decide), h .freeCtr (by decide), h .regs (by decide), h .evt (by decide), h .keeper (by decide), h .chs (by decide), h .cellar (by decide), h .press (by decide), h .vault (by decide), h .ctl (by decide), h .cntr (by decide), h .tlm (by decide), h .wd0 (by decide), h .clk (by decide), h .host (by decide), h .ident (by decide), h .sealing (by decide), h .crypt (by decide), h .life (by decide), h .side (by decide), h .aux (by decide), State.chan_of (h .chs (by decide)), State.cfg_of (h .regs (by decide)), State.sticky_of (h .regs (by decide)), State.view_of (h .regs (by decide)), State.agt_of (h .ctl (by decide)), State.cask_of (h .crypt (by decide))⟩

@[simp] theorem State.dropRepair_rest (s : State) (n : Ch) (r : Repair) :
    (State.dropRepair s n r).pending = s.pending ∧
    (State.dropRepair s n r).time = s.time ∧
    (State.dropRepair s n r).freeCtr = s.freeCtr ∧
    (State.dropRepair s n r).outbox = s.outbox ∧
    (State.dropRepair s n r).regs = s.regs ∧
    (State.dropRepair s n r).evt = s.evt ∧
    (State.dropRepair s n r).plat = s.plat ∧
    (State.dropRepair s n r).keeper = s.keeper ∧
    (State.dropRepair s n r).cellar = s.cellar ∧
    (State.dropRepair s n r).press = s.press ∧
    (State.dropRepair s n r).vault = s.vault ∧
    (State.dropRepair s n r).ctl = s.ctl ∧
    (State.dropRepair s n r).cntr = s.cntr ∧
    (State.dropRepair s n r).tlm = s.tlm ∧
    (State.dropRepair s n r).wd0 = s.wd0 ∧
    (State.dropRepair s n r).clk = s.clk ∧
    (State.dropRepair s n r).host = s.host ∧
    (State.dropRepair s n r).ident = s.ident ∧
    (State.dropRepair s n r).sealing = s.sealing ∧
    (State.dropRepair s n r).crypt = s.crypt ∧
    (State.dropRepair s n r).life = s.life ∧
    (State.dropRepair s n r).side = s.side ∧
    (State.dropRepair s n r).aux = s.aux ∧
    (State.dropRepair s n r).cfg = s.cfg ∧
    (State.dropRepair s n r).sticky = s.sticky ∧
    (State.dropRepair s n r).view = s.view ∧
    (State.dropRepair s n r).powered = s.powered ∧
    (State.dropRepair s n r).agt = s.agt ∧
    (State.dropRepair s n r).cask = s.cask := by
  have h := State.dropRepair_keeps s n r
  exact ⟨h .pending (by decide), h .time (by decide), h .freeCtr (by decide), h .outbox (by decide), h .regs (by decide), h .evt (by decide), h .plat (by decide), h .keeper (by decide), h .cellar (by decide), h .press (by decide), h .vault (by decide), h .ctl (by decide), h .cntr (by decide), h .tlm (by decide), h .wd0 (by decide), h .clk (by decide), h .host (by decide), h .ident (by decide), h .sealing (by decide), h .crypt (by decide), h .life (by decide), h .side (by decide), h .aux (by decide), State.cfg_of (h .regs (by decide)), State.sticky_of (h .regs (by decide)), State.view_of (h .regs (by decide)), State.powered_of (h .plat (by decide)), State.agt_of (h .ctl (by decide)), State.cask_of (h .crypt (by decide))⟩

@[simp] theorem State.endSession_rest (s : State) (c : Conn) :
    (State.endSession s c).pending = s.pending ∧
    (State.endSession s c).time = s.time ∧
    (State.endSession s c).freeCtr = s.freeCtr ∧
    (State.endSession s c).outbox = s.outbox ∧
    (State.endSession s c).regs = s.regs ∧
    (State.endSession s c).evt = s.evt ∧
    (State.endSession s c).plat = s.plat ∧
    (State.endSession s c).keeper = s.keeper ∧
    (State.endSession s c).chs = s.chs ∧
    (State.endSession s c).cellar = s.cellar ∧
    (State.endSession s c).press = s.press ∧
    (State.endSession s c).vault = s.vault ∧
    (State.endSession s c).ctl = s.ctl ∧
    (State.endSession s c).cntr = s.cntr ∧
    (State.endSession s c).tlm = s.tlm ∧
    (State.endSession s c).wd0 = s.wd0 ∧
    (State.endSession s c).clk = s.clk ∧
    (State.endSession s c).host = s.host ∧
    (State.endSession s c).ident = s.ident ∧
    (State.endSession s c).sealing = s.sealing ∧
    (State.endSession s c).life = s.life ∧
    (State.endSession s c).side = s.side ∧
    (State.endSession s c).aux = s.aux ∧
    (State.endSession s c).chan = s.chan ∧
    (State.endSession s c).cfg = s.cfg ∧
    (State.endSession s c).sticky = s.sticky ∧
    (State.endSession s c).view = s.view ∧
    (State.endSession s c).powered = s.powered ∧
    (State.endSession s c).agt = s.agt := by
  have h := State.endSession_keeps s c
  exact ⟨h .pending (by decide), h .time (by decide), h .freeCtr (by decide), h .outbox (by decide), h .regs (by decide), h .evt (by decide), h .plat (by decide), h .keeper (by decide), h .chs (by decide), h .cellar (by decide), h .press (by decide), h .vault (by decide), h .ctl (by decide), h .cntr (by decide), h .tlm (by decide), h .wd0 (by decide), h .clk (by decide), h .host (by decide), h .ident (by decide), h .sealing (by decide), h .life (by decide), h .side (by decide), h .aux (by decide), State.chan_of (h .chs (by decide)), State.cfg_of (h .regs (by decide)), State.sticky_of (h .regs (by decide)), State.view_of (h .regs (by decide)), State.powered_of (h .plat (by decide)), State.agt_of (h .ctl (by decide))⟩

@[simp] theorem State.dropVdm_rest (s : State) :
    (State.dropVdm s).pending = s.pending ∧
    (State.dropVdm s).time = s.time ∧
    (State.dropVdm s).freeCtr = s.freeCtr ∧
    (State.dropVdm s).outbox = s.outbox ∧
    (State.dropVdm s).regs = s.regs ∧
    (State.dropVdm s).evt = s.evt ∧
    (State.dropVdm s).plat = s.plat ∧
    (State.dropVdm s).keeper = s.keeper ∧
    (State.dropVdm s).chs = s.chs ∧
    (State.dropVdm s).cellar = s.cellar ∧
    (State.dropVdm s).press = s.press ∧
    (State.dropVdm s).vault = s.vault ∧
    (State.dropVdm s).ctl = s.ctl ∧
    (State.dropVdm s).cntr = s.cntr ∧
    (State.dropVdm s).tlm = s.tlm ∧
    (State.dropVdm s).wd0 = s.wd0 ∧
    (State.dropVdm s).clk = s.clk ∧
    (State.dropVdm s).sealing = s.sealing ∧
    (State.dropVdm s).life = s.life ∧
    (State.dropVdm s).side = s.side ∧
    (State.dropVdm s).aux = s.aux ∧
    (State.dropVdm s).chan = s.chan ∧
    (State.dropVdm s).cfg = s.cfg ∧
    (State.dropVdm s).sticky = s.sticky ∧
    (State.dropVdm s).view = s.view ∧
    (State.dropVdm s).powered = s.powered ∧
    (State.dropVdm s).agt = s.agt := by
  have h := State.dropVdm_keeps s
  exact ⟨h .pending (by decide), h .time (by decide), h .freeCtr (by decide), h .outbox (by decide), h .regs (by decide), h .evt (by decide), h .plat (by decide), h .keeper (by decide), h .chs (by decide), h .cellar (by decide), h .press (by decide), h .vault (by decide), h .ctl (by decide), h .cntr (by decide), h .tlm (by decide), h .wd0 (by decide), h .clk (by decide), h .sealing (by decide), h .life (by decide), h .side (by decide), h .aux (by decide), State.chan_of (h .chs (by decide)), State.cfg_of (h .regs (by decide)), State.sticky_of (h .regs (by decide)), State.view_of (h .regs (by decide)), State.powered_of (h .plat (by decide)), State.agt_of (h .ctl (by decide))⟩

@[simp] theorem State.dropVerdict_rest (s : State) (n : Ch) (p : PageId) :
    (State.dropVerdict s n p).pending = s.pending ∧
    (State.dropVerdict s n p).time = s.time ∧
    (State.dropVerdict s n p).freeCtr = s.freeCtr ∧
    (State.dropVerdict s n p).outbox = s.outbox ∧
    (State.dropVerdict s n p).regs = s.regs ∧
    (State.dropVerdict s n p).evt = s.evt ∧
    (State.dropVerdict s n p).plat = s.plat ∧
    (State.dropVerdict s n p).keeper = s.keeper ∧
    (State.dropVerdict s n p).cellar = s.cellar ∧
    (State.dropVerdict s n p).vault = s.vault ∧
    (State.dropVerdict s n p).ctl = s.ctl ∧
    (State.dropVerdict s n p).cntr = s.cntr ∧
    (State.dropVerdict s n p).tlm = s.tlm ∧
    (State.dropVerdict s n p).wd0 = s.wd0 ∧
    (State.dropVerdict s n p).clk = s.clk ∧
    (State.dropVerdict s n p).host = s.host ∧
    (State.dropVerdict s n p).ident = s.ident ∧
    (State.dropVerdict s n p).sealing = s.sealing ∧
    (State.dropVerdict s n p).crypt = s.crypt ∧
    (State.dropVerdict s n p).life = s.life ∧
    (State.dropVerdict s n p).side = s.side ∧
    (State.dropVerdict s n p).aux = s.aux ∧
    (State.dropVerdict s n p).cfg = s.cfg ∧
    (State.dropVerdict s n p).sticky = s.sticky ∧
    (State.dropVerdict s n p).view = s.view ∧
    (State.dropVerdict s n p).powered = s.powered ∧
    (State.dropVerdict s n p).agt = s.agt ∧
    (State.dropVerdict s n p).cask = s.cask := by
  have h := State.dropVerdict_keeps s n p
  exact ⟨h .pending (by decide), h .time (by decide), h .freeCtr (by decide), h .outbox (by decide), h .regs (by decide), h .evt (by decide), h .plat (by decide), h .keeper (by decide), h .cellar (by decide), h .vault (by decide), h .ctl (by decide), h .cntr (by decide), h .tlm (by decide), h .wd0 (by decide), h .clk (by decide), h .host (by decide), h .ident (by decide), h .sealing (by decide), h .crypt (by decide), h .life (by decide), h .side (by decide), h .aux (by decide), State.cfg_of (h .regs (by decide)), State.sticky_of (h .regs (by decide)), State.view_of (h .regs (by decide)), State.powered_of (h .plat (by decide)), State.agt_of (h .ctl (by decide)), State.cask_of (h .crypt (by decide))⟩

@[simp] theorem State.enterVerify_rest (s : State) :
    (State.enterVerify s).pending = s.pending ∧
    (State.enterVerify s).time = s.time ∧
    (State.enterVerify s).outbox = s.outbox ∧
    (State.enterVerify s).regs = s.regs ∧
    (State.enterVerify s).chs = s.chs ∧
    (State.enterVerify s).cellar = s.cellar ∧
    (State.enterVerify s).press = s.press ∧
    (State.enterVerify s).vault = s.vault ∧
    (State.enterVerify s).cntr = s.cntr ∧
    (State.enterVerify s).tlm = s.tlm ∧
    (State.enterVerify s).wd0 = s.wd0 ∧
    (State.enterVerify s).clk = s.clk ∧
    (State.enterVerify s).host = s.host ∧
    (State.enterVerify s).ident = s.ident ∧
    (State.enterVerify s).sealing = s.sealing ∧
    (State.enterVerify s).crypt = s.crypt ∧
    (State.enterVerify s).life = s.life ∧
    (State.enterVerify s).side = s.side ∧
    (State.enterVerify s).aux = s.aux ∧
    (State.enterVerify s).chan = s.chan ∧
    (State.enterVerify s).cfg = s.cfg ∧
    (State.enterVerify s).sticky = s.sticky ∧
    (State.enterVerify s).view = s.view ∧
    (State.enterVerify s).cask = s.cask := by
  have h := State.enterVerify_keeps s
  exact ⟨h .pending (by decide), h .time (by decide), h .outbox (by decide), h .regs (by decide), h .chs (by decide), h .cellar (by decide), h .press (by decide), h .vault (by decide), h .cntr (by decide), h .tlm (by decide), h .wd0 (by decide), h .clk (by decide), h .host (by decide), h .ident (by decide), h .sealing (by decide), h .crypt (by decide), h .life (by decide), h .side (by decide), h .aux (by decide), State.chan_of (h .chs (by decide)), State.cfg_of (h .regs (by decide)), State.sticky_of (h .regs (by decide)), State.view_of (h .regs (by decide)), State.cask_of (h .crypt (by decide))⟩

@[simp] theorem State.noteVmax_rest (s : State) (n : Ch) (ns : Nat) :
    (State.noteVmax s n ns).pending = s.pending ∧
    (State.noteVmax s n ns).time = s.time ∧
    (State.noteVmax s n ns).freeCtr = s.freeCtr ∧
    (State.noteVmax s n ns).outbox = s.outbox ∧
    (State.noteVmax s n ns).evt = s.evt ∧
    (State.noteVmax s n ns).plat = s.plat ∧
    (State.noteVmax s n ns).keeper = s.keeper ∧
    (State.noteVmax s n ns).chs = s.chs ∧
    (State.noteVmax s n ns).cellar = s.cellar ∧
    (State.noteVmax s n ns).press = s.press ∧
    (State.noteVmax s n ns).vault = s.vault ∧
    (State.noteVmax s n ns).ctl = s.ctl ∧
    (State.noteVmax s n ns).cntr = s.cntr ∧
    (State.noteVmax s n ns).tlm = s.tlm ∧
    (State.noteVmax s n ns).wd0 = s.wd0 ∧
    (State.noteVmax s n ns).clk = s.clk ∧
    (State.noteVmax s n ns).host = s.host ∧
    (State.noteVmax s n ns).ident = s.ident ∧
    (State.noteVmax s n ns).sealing = s.sealing ∧
    (State.noteVmax s n ns).crypt = s.crypt ∧
    (State.noteVmax s n ns).life = s.life ∧
    (State.noteVmax s n ns).side = s.side ∧
    (State.noteVmax s n ns).aux = s.aux ∧
    (State.noteVmax s n ns).chan = s.chan ∧
    (State.noteVmax s n ns).powered = s.powered ∧
    (State.noteVmax s n ns).agt = s.agt ∧
    (State.noteVmax s n ns).cask = s.cask := by
  have h := State.noteVmax_keeps s n ns
  exact ⟨h .pending (by decide), h .time (by decide), h .freeCtr (by decide), h .outbox (by decide), h .evt (by decide), h .plat (by decide), h .keeper (by decide), h .chs (by decide), h .cellar (by decide), h .press (by decide), h .vault (by decide), h .ctl (by decide), h .cntr (by decide), h .tlm (by decide), h .wd0 (by decide), h .clk (by decide), h .host (by decide), h .ident (by decide), h .sealing (by decide), h .crypt (by decide), h .life (by decide), h .side (by decide), h .aux (by decide), State.chan_of (h .chs (by decide)), State.powered_of (h .plat (by decide)), State.agt_of (h .ctl (by decide)), State.cask_of (h .crypt (by decide))⟩

@[simp] theorem State.verdictFailure_rest (s : State) (n : Ch) (d : Pend) (found : Found) :
    (State.verdictFailure s n d found).pending = s.pending ∧
    (State.verdictFailure s n d found).time = s.time ∧
    (State.verdictFailure s n d found).plat = s.plat ∧
    (State.verdictFailure s n d found).cntr = s.cntr ∧
    (State.verdictFailure s n d found).tlm = s.tlm ∧
    (State.verdictFailure s n d found).wd0 = s.wd0 ∧
    (State.verdictFailure s n d found).clk = s.clk ∧
    (State.verdictFailure s n d found).host = s.host ∧
    (State.verdictFailure s n d found).sealing = s.sealing ∧
    (State.verdictFailure s n d found).crypt = s.crypt ∧
    (State.verdictFailure s n d found).life = s.life ∧
    (State.verdictFailure s n d found).side = s.side ∧
    (State.verdictFailure s n d found).aux = s.aux ∧
    (State.verdictFailure s n d found).powered = s.powered ∧
    (State.verdictFailure s n d found).cask = s.cask := by
  have h := State.verdictFailure_keeps s n d found
  exact ⟨h .pending (by decide), h .time (by decide), h .plat (by decide), h .cntr (by decide), h .tlm (by decide), h .wd0 (by decide), h .clk (by decide), h .host (by decide), h .sealing (by decide), h .crypt (by decide), h .life (by decide), h .side (by decide), h .aux (by decide), State.powered_of (h .plat (by decide)), State.cask_of (h .crypt (by decide))⟩

@[simp] theorem State.fallback_rest (s : State) :
    (State.fallback s).pending = s.pending ∧
    (State.fallback s).time = s.time ∧
    (State.fallback s).freeCtr = s.freeCtr ∧
    (State.fallback s).regs = s.regs ∧
    (State.fallback s).keeper = s.keeper ∧
    (State.fallback s).chs = s.chs ∧
    (State.fallback s).cellar = s.cellar ∧
    (State.fallback s).ctl = s.ctl ∧
    (State.fallback s).wd0 = s.wd0 ∧
    (State.fallback s).clk = s.clk ∧
    (State.fallback s).life = s.life ∧
    (State.fallback s).side = s.side ∧
    (State.fallback s).aux = s.aux ∧
    (State.fallback s).chan = s.chan ∧
    (State.fallback s).cfg = s.cfg ∧
    (State.fallback s).sticky = s.sticky ∧
    (State.fallback s).view = s.view ∧
    (State.fallback s).agt = s.agt := by
  have h := State.fallback_keeps s
  exact ⟨h .pending (by decide), h .time (by decide), h .freeCtr (by decide), h .regs (by decide), h .keeper (by decide), h .chs (by decide), h .cellar (by decide), h .ctl (by decide), h .wd0 (by decide), h .clk (by decide), h .life (by decide), h .side (by decide), h .aux (by decide), State.chan_of (h .chs (by decide)), State.cfg_of (h .regs (by decide)), State.sticky_of (h .regs (by decide)), State.view_of (h .regs (by decide)), State.agt_of (h .ctl (by decide))⟩

@[simp] theorem State.finalise_rest (s : State) :
    (State.finalise s).pending = s.pending ∧
    (State.finalise s).time = s.time ∧
    (State.finalise s).freeCtr = s.freeCtr ∧
    (State.finalise s).outbox = s.outbox ∧
    (State.finalise s).regs = s.regs ∧
    (State.finalise s).evt = s.evt ∧
    (State.finalise s).plat = s.plat ∧
    (State.finalise s).keeper = s.keeper ∧
    (State.finalise s).chs = s.chs ∧
    (State.finalise s).cellar = s.cellar ∧
    (State.finalise s).press = s.press ∧
    (State.finalise s).vault = s.vault ∧
    (State.finalise s).ctl = s.ctl ∧
    (State.finalise s).cntr = s.cntr ∧
    (State.finalise s).tlm = s.tlm ∧
    (State.finalise s).wd0 = s.wd0 ∧
    (State.finalise s).clk = s.clk ∧
    (State.finalise s).host = s.host ∧
    (State.finalise s).ident = s.ident ∧
    (State.finalise s).crypt = s.crypt ∧
    (State.finalise s).life = s.life ∧
    (State.finalise s).side = s.side ∧
    (State.finalise s).aux = s.aux ∧
    (State.finalise s).chan = s.chan ∧
    (State.finalise s).cfg = s.cfg ∧
    (State.finalise s).sticky = s.sticky ∧
    (State.finalise s).view = s.view ∧
    (State.finalise s).powered = s.powered ∧
    (State.finalise s).agt = s.agt ∧
    (State.finalise s).cask = s.cask := by
  have h := State.finalise_keeps s
  exact ⟨h .pending (by decide), h .time (by decide), h .freeCtr (by decide), h .outbox (by decide), h .regs (by decide), h .evt (by decide), h .plat (by decide), h .keeper (by decide), h .chs (by decide), h .cellar (by decide), h .press (by decide), h .vault (by decide), h .ctl (by decide), h .cntr (by decide), h .tlm (by decide), h .wd0 (by decide), h .clk (by decide), h .host (by decide), h .ident (by decide), h .crypt (by decide), h .life (by decide), h .side (by decide), h .aux (by decide), State.chan_of (h .chs (by decide)), State.cfg_of (h .regs (by decide)), State.sticky_of (h .regs (by decide)), State.view_of (h .regs (by decide)), State.powered_of (h .plat (by decide)), State.agt_of (h .ctl (by decide)), State.cask_of (h .crypt (by decide))⟩

@[simp] theorem State.flashLoss_rest (s : State) :
    (State.flashLoss s).pending = s.pending ∧
    (State.flashLoss s).time = s.time ∧
    (State.flashLoss s).freeCtr = s.freeCtr ∧
    (State.flashLoss s).outbox = s.outbox ∧
    (State.flashLoss s).plat = s.plat ∧
    (State.flashLoss s).keeper = s.keeper ∧
    (State.flashLoss s).chs = s.chs ∧
    (State.flashLoss s).cellar = s.cellar ∧
    (State.flashLoss s).press = s.press ∧
    (State.flashLoss s).vault = s.vault ∧
    (State.flashLoss s).ctl = s.ctl ∧
    (State.flashLoss s).cntr = s.cntr ∧
    (State.flashLoss s).tlm = s.tlm ∧
    (State.flashLoss s).wd0 = s.wd0 ∧
    (State.flashLoss s).host = s.host ∧
    (State.flashLoss s).ident = s.ident ∧
    (State.flashLoss s).sealing = s.sealing ∧
    (State.flashLoss s).crypt = s.crypt ∧
    (State.flashLoss s).life = s.life ∧
    (State.flashLoss s).side = s.side ∧
    (State.flashLoss s).aux = s.aux ∧
    (State.flashLoss s).chan = s.chan ∧
    (State.flashLoss s).powered = s.powered ∧
    (State.flashLoss s).agt = s.agt ∧
    (State.flashLoss s).cask = s.cask := by
  have h := State.flashLoss_keeps s
  exact ⟨h .pending (by decide), h .time (by decide), h .freeCtr (by decide), h .outbox (by decide), h .plat (by decide), h .keeper (by decide), h .chs (by decide), h .cellar (by decide), h .press (by decide), h .vault (by decide), h .ctl (by decide), h .cntr (by decide), h .tlm (by decide), h .wd0 (by decide), h .host (by decide), h .ident (by decide), h .sealing (by decide), h .crypt (by decide), h .life (by decide), h .side (by decide), h .aux (by decide), State.chan_of (h .chs (by decide)), State.powered_of (h .plat (by decide)), State.agt_of (h .ctl (by decide)), State.cask_of (h .crypt (by decide))⟩

@[simp] theorem State.formTlm_rest (s : State) (r : List Byte) :
    (State.formTlm s r).pending = s.pending ∧
    (State.formTlm s r).time = s.time ∧
    (State.formTlm s r).freeCtr = s.freeCtr ∧
    (State.formTlm s r).regs = s.regs ∧
    (State.formTlm s r).plat = s.plat ∧
    (State.formTlm s r).keeper = s.keeper ∧
    (State.formTlm s r).chs = s.chs ∧
    (State.formTlm s r).cellar = s.cellar ∧
    (State.formTlm s r).press = s.press ∧
    (State.formTlm s r).vault = s.vault ∧
    (State.formTlm s r).ctl = s.ctl ∧
    (State.formTlm s r).wd0 = s.wd0 ∧
    (State.formTlm s r).clk = s.clk ∧
    (State.formTlm s r).ident = s.ident ∧
    (State.formTlm s r).sealing = s.sealing ∧
    (State.formTlm s r).crypt = s.crypt ∧
    (State.formTlm s r).life = s.life ∧
    (State.formTlm s r).side = s.side ∧
    (State.formTlm s r).aux = s.aux ∧
    (State.formTlm s r).chan = s.chan ∧
    (State.formTlm s r).cfg = s.cfg ∧
    (State.formTlm s r).sticky = s.sticky ∧
    (State.formTlm s r).view = s.view ∧
    (State.formTlm s r).powered = s.powered ∧
    (State.formTlm s r).agt = s.agt ∧
    (State.formTlm s r).cask = s.cask := by
  have h := State.formTlm_keeps s r
  exact ⟨h .pending (by decide), h .time (by decide), h .freeCtr (by decide), h .regs (by decide), h .plat (by decide), h .keeper (by decide), h .chs (by decide), h .cellar (by decide), h .press (by decide), h .vault (by decide), h .ctl (by decide), h .wd0 (by decide), h .clk (by decide), h .ident (by decide), h .sealing (by decide), h .crypt (by decide), h .life (by decide), h .side (by decide), h .aux (by decide), State.chan_of (h .chs (by decide)), State.cfg_of (h .regs (by decide)), State.sticky_of (h .regs (by decide)), State.view_of (h .regs (by decide)), State.powered_of (h .plat (by decide)), State.agt_of (h .ctl (by decide)), State.cask_of (h .crypt (by decide))⟩

@[simp] theorem State.freeRead_rest (s : State) (p : Nat) (addr : Nat) :
    (State.freeRead s p addr).pending = s.pending ∧
    (State.freeRead s p addr).time = s.time ∧
    (State.freeRead s p addr).regs = s.regs ∧
    (State.freeRead s p addr).evt = s.evt ∧
    (State.freeRead s p addr).plat = s.plat ∧
    (State.freeRead s p addr).keeper = s.keeper ∧
    (State.freeRead s p addr).chs = s.chs ∧
    (State.freeRead s p addr).cellar = s.cellar ∧
    (State.freeRead s p addr).press = s.press ∧
    (State.freeRead s p addr).vault = s.vault ∧
    (State.freeRead s p addr).ctl = s.ctl ∧
    (State.freeRead s p addr).cntr = s.cntr ∧
    (State.freeRead s p addr).tlm = s.tlm ∧
    (State.freeRead s p addr).wd0 = s.wd0 ∧
    (State.freeRead s p addr).clk = s.clk ∧
    (State.freeRead s p addr).host = s.host ∧
    (State.freeRead s p addr).ident = s.ident ∧
    (State.freeRead s p addr).sealing = s.sealing ∧
    (State.freeRead s p addr).crypt = s.crypt ∧
    (State.freeRead s p addr).life = s.life ∧
    (State.freeRead s p addr).side = s.side ∧
    (State.freeRead s p addr).aux = s.aux ∧
    (State.freeRead s p addr).chan = s.chan ∧
    (State.freeRead s p addr).cfg = s.cfg ∧
    (State.freeRead s p addr).sticky = s.sticky ∧
    (State.freeRead s p addr).view = s.view ∧
    (State.freeRead s p addr).powered = s.powered ∧
    (State.freeRead s p addr).agt = s.agt ∧
    (State.freeRead s p addr).cask = s.cask := by
  have h := State.freeRead_keeps s p addr
  exact ⟨h .pending (by decide), h .time (by decide), h .regs (by decide), h .evt (by decide), h .plat (by decide), h .keeper (by decide), h .chs (by decide), h .cellar (by decide), h .press (by decide), h .vault (by decide), h .ctl (by decide), h .cntr (by decide), h .tlm (by decide), h .wd0 (by decide), h .clk (by decide), h .host (by decide), h .ident (by decide), h .sealing (by decide), h .crypt (by decide), h .life (by decide), h .side (by decide), h .aux (by decide), State.chan_of (h .chs (by decide)), State.cfg_of (h .regs (by decide)), State.sticky_of (h .regs (by decide)), State.view_of (h .regs (by decide)), State.powered_of (h .plat (by decide)), State.agt_of (h .ctl (by decide)), State.cask_of (h .crypt (by decide))⟩

@[simp] theorem State.fwActivate_rest (s : State) (side : Bool) (target : Nat) :
    (State.fwActivate s side target).1.pending = s.pending ∧
    (State.fwActivate s side target).1.time = s.time ∧
    (State.fwActivate s side target).1.freeCtr = s.freeCtr ∧
    (State.fwActivate s side target).1.outbox = s.outbox ∧
    (State.fwActivate s side target).1.regs = s.regs ∧
    (State.fwActivate s side target).1.evt = s.evt ∧
    (State.fwActivate s side target).1.plat = s.plat ∧
    (State.fwActivate s side target).1.keeper = s.keeper ∧
    (State.fwActivate s side target).1.chs = s.chs ∧
    (State.fwActivate s side target).1.cellar = s.cellar ∧
    (State.fwActivate s side target).1.press = s.press ∧
    (State.fwActivate s side target).1.ctl = s.ctl ∧
    (State.fwActivate s side target).1.cntr = s.cntr ∧
    (State.fwActivate s side target).1.tlm = s.tlm ∧
    (State.fwActivate s side target).1.wd0 = s.wd0 ∧
    (State.fwActivate s side target).1.clk = s.clk ∧
    (State.fwActivate s side target).1.host = s.host ∧
    (State.fwActivate s side target).1.sealing = s.sealing ∧
    (State.fwActivate s side target).1.crypt = s.crypt ∧
    (State.fwActivate s side target).1.life = s.life ∧
    (State.fwActivate s side target).1.side = s.side ∧
    (State.fwActivate s side target).1.aux = s.aux ∧
    (State.fwActivate s side target).1.chan = s.chan ∧
    (State.fwActivate s side target).1.cfg = s.cfg ∧
    (State.fwActivate s side target).1.sticky = s.sticky ∧
    (State.fwActivate s side target).1.view = s.view ∧
    (State.fwActivate s side target).1.powered = s.powered ∧
    (State.fwActivate s side target).1.agt = s.agt ∧
    (State.fwActivate s side target).1.cask = s.cask := by
  have h := State.fwActivate_keeps s side target
  exact ⟨h .pending (by decide), h .time (by decide), h .freeCtr (by decide), h .outbox (by decide), h .regs (by decide), h .evt (by decide), h .plat (by decide), h .keeper (by decide), h .chs (by decide), h .cellar (by decide), h .press (by decide), h .ctl (by decide), h .cntr (by decide), h .tlm (by decide), h .wd0 (by decide), h .clk (by decide), h .host (by decide), h .sealing (by decide), h .crypt (by decide), h .life (by decide), h .side (by decide), h .aux (by decide), State.chan_of (h .chs (by decide)), State.cfg_of (h .regs (by decide)), State.sticky_of (h .regs (by decide)), State.view_of (h .regs (by decide)), State.powered_of (h .plat (by decide)), State.agt_of (h .ctl (by decide)), State.cask_of (h .crypt (by decide))⟩

@[simp] theorem State.fwDownload_rest (s : State) (side : Bool) (last : Bool) (off : Nat) (len : Nat) (pkg : Option Package) :
    (State.fwDownload s side last off len pkg).1.pending = s.pending ∧
    (State.fwDownload s side last off len pkg).1.time = s.time ∧
    (State.fwDownload s side last off len pkg).1.freeCtr = s.freeCtr ∧
    (State.fwDownload s side last off len pkg).1.outbox = s.outbox ∧
    (State.fwDownload s side last off len pkg).1.regs = s.regs ∧
    (State.fwDownload s side last off len pkg).1.evt = s.evt ∧
    (State.fwDownload s side last off len pkg).1.plat = s.plat ∧
    (State.fwDownload s side last off len pkg).1.keeper = s.keeper ∧
    (State.fwDownload s side last off len pkg).1.chs = s.chs ∧
    (State.fwDownload s side last off len pkg).1.cellar = s.cellar ∧
    (State.fwDownload s side last off len pkg).1.press = s.press ∧
    (State.fwDownload s side last off len pkg).1.ctl = s.ctl ∧
    (State.fwDownload s side last off len pkg).1.cntr = s.cntr ∧
    (State.fwDownload s side last off len pkg).1.tlm = s.tlm ∧
    (State.fwDownload s side last off len pkg).1.wd0 = s.wd0 ∧
    (State.fwDownload s side last off len pkg).1.clk = s.clk ∧
    (State.fwDownload s side last off len pkg).1.host = s.host ∧
    (State.fwDownload s side last off len pkg).1.sealing = s.sealing ∧
    (State.fwDownload s side last off len pkg).1.crypt = s.crypt ∧
    (State.fwDownload s side last off len pkg).1.life = s.life ∧
    (State.fwDownload s side last off len pkg).1.side = s.side ∧
    (State.fwDownload s side last off len pkg).1.aux = s.aux ∧
    (State.fwDownload s side last off len pkg).1.chan = s.chan ∧
    (State.fwDownload s side last off len pkg).1.cfg = s.cfg ∧
    (State.fwDownload s side last off len pkg).1.sticky = s.sticky ∧
    (State.fwDownload s side last off len pkg).1.view = s.view ∧
    (State.fwDownload s side last off len pkg).1.powered = s.powered ∧
    (State.fwDownload s side last off len pkg).1.agt = s.agt ∧
    (State.fwDownload s side last off len pkg).1.cask = s.cask := by
  have h := State.fwDownload_keeps s side last off len pkg
  exact ⟨h .pending (by decide), h .time (by decide), h .freeCtr (by decide), h .outbox (by decide), h .regs (by decide), h .evt (by decide), h .plat (by decide), h .keeper (by decide), h .chs (by decide), h .cellar (by decide), h .press (by decide), h .ctl (by decide), h .cntr (by decide), h .tlm (by decide), h .wd0 (by decide), h .clk (by decide), h .host (by decide), h .sealing (by decide), h .crypt (by decide), h .life (by decide), h .side (by decide), h .aux (by decide), State.chan_of (h .chs (by decide)), State.cfg_of (h .regs (by decide)), State.sticky_of (h .regs (by decide)), State.view_of (h .regs (by decide)), State.powered_of (h .plat (by decide)), State.agt_of (h .ctl (by decide)), State.cask_of (h .crypt (by decide))⟩

@[simp] theorem State.grantJob_rest (s : State) (j : Job) (e : Nat) :
    (State.grantJob s j e).pending = s.pending ∧
    (State.grantJob s j e).time = s.time ∧
    (State.grantJob s j e).freeCtr = s.freeCtr ∧
    (State.grantJob s j e).outbox = s.outbox ∧
    (State.grantJob s j e).regs = s.regs ∧
    (State.grantJob s j e).plat = s.plat ∧
    (State.grantJob s j e).keeper = s.keeper ∧
    (State.grantJob s j e).chs = s.chs ∧
    (State.grantJob s j e).cellar = s.cellar ∧
    (State.grantJob s j e).vault = s.vault ∧
    (State.grantJob s j e).ctl = s.ctl ∧
    (State.grantJob s j e).tlm = s.tlm ∧
    (State.grantJob s j e).wd0 = s.wd0 ∧
    (State.grantJob s j e).clk = s.clk ∧
    (State.grantJob s j e).host = s.host ∧
    (State.grantJob s j e).ident = s.ident ∧
    (State.grantJob s j e).sealing = s.sealing ∧
    (State.grantJob s j e).crypt = s.crypt ∧
    (State.grantJob s j e).life = s.life ∧
    (State.grantJob s j e).side = s.side ∧
    (State.grantJob s j e).aux = s.aux ∧
    (State.grantJob s j e).chan = s.chan ∧
    (State.grantJob s j e).cfg = s.cfg ∧
    (State.grantJob s j e).sticky = s.sticky ∧
    (State.grantJob s j e).view = s.view ∧
    (State.grantJob s j e).powered = s.powered ∧
    (State.grantJob s j e).agt = s.agt ∧
    (State.grantJob s j e).cask = s.cask := by
  have h := State.grantJob_keeps s j e
  exact ⟨h .pending (by decide), h .time (by decide), h .freeCtr (by decide), h .outbox (by decide), h .regs (by decide), h .plat (by decide), h .keeper (by decide), h .chs (by decide), h .cellar (by decide), h .vault (by decide), h .ctl (by decide), h .tlm (by decide), h .wd0 (by decide), h .clk (by decide), h .host (by decide), h .ident (by decide), h .sealing (by decide), h .crypt (by decide), h .life (by decide), h .side (by decide), h .aux (by decide), State.chan_of (h .chs (by decide)), State.cfg_of (h .regs (by decide)), State.sticky_of (h .regs (by decide)), State.view_of (h .regs (by decide)), State.powered_of (h .plat (by decide)), State.agt_of (h .ctl (by decide)), State.cask_of (h .crypt (by decide))⟩

@[simp] theorem State.harvest_rest (s : State) :
    (State.harvest s).pending = s.pending ∧
    (State.harvest s).time = s.time ∧
    (State.harvest s).freeCtr = s.freeCtr ∧
    (State.harvest s).outbox = s.outbox ∧
    (State.harvest s).regs = s.regs ∧
    (State.harvest s).evt = s.evt ∧
    (State.harvest s).plat = s.plat ∧
    (State.harvest s).keeper = s.keeper ∧
    (State.harvest s).press = s.press ∧
    (State.harvest s).ctl = s.ctl ∧
    (State.harvest s).cntr = s.cntr ∧
    (State.harvest s).tlm = s.tlm ∧
    (State.harvest s).wd0 = s.wd0 ∧
    (State.harvest s).clk = s.clk ∧
    (State.harvest s).host = s.host ∧
    (State.harvest s).ident = s.ident ∧
    (State.harvest s).sealing = s.sealing ∧
    (State.harvest s).crypt = s.crypt ∧
    (State.harvest s).life = s.life ∧
    (State.harvest s).side = s.side ∧
    (State.harvest s).aux = s.aux ∧
    (State.harvest s).cfg = s.cfg ∧
    (State.harvest s).sticky = s.sticky ∧
    (State.harvest s).view = s.view ∧
    (State.harvest s).powered = s.powered ∧
    (State.harvest s).agt = s.agt ∧
    (State.harvest s).cask = s.cask := by
  have h := State.harvest_keeps s
  exact ⟨h .pending (by decide), h .time (by decide), h .freeCtr (by decide), h .outbox (by decide), h .regs (by decide), h .evt (by decide), h .plat (by decide), h .keeper (by decide), h .press (by decide), h .ctl (by decide), h .cntr (by decide), h .tlm (by decide), h .wd0 (by decide), h .clk (by decide), h .host (by decide), h .ident (by decide), h .sealing (by decide), h .crypt (by decide), h .life (by decide), h .side (by decide), h .aux (by decide), State.cfg_of (h .regs (by decide)), State.sticky_of (h .regs (by decide)), State.view_of (h .regs (by decide)), State.powered_of (h .plat (by decide)), State.agt_of (h .ctl (by decide)), State.cask_of (h .crypt (by decide))⟩

@[simp] theorem State.withAnchors_rest (s : State) (n : Ch) (k : SlotId) (copy : Nat) :
    (State.withAnchors s n k copy).pending = s.pending ∧
    (State.withAnchors s n k copy).time = s.time ∧
    (State.withAnchors s n k copy).freeCtr = s.freeCtr ∧
    (State.withAnchors s n k copy).outbox = s.outbox ∧
    (State.withAnchors s n k copy).regs = s.regs ∧
    (State.withAnchors s n k copy).plat = s.plat ∧
    (State.withAnchors s n k copy).keeper = s.keeper ∧
    (State.withAnchors s n k copy).chs = s.chs ∧
    (State.withAnchors s n k copy).press = s.press ∧
    (State.withAnchors s n k copy).vault = s.vault ∧
    (State.withAnchors s n k copy).ctl = s.ctl ∧
    (State.withAnchors s n k copy).tlm = s.tlm ∧
    (State.withAnchors s n k copy).wd0 = s.wd0 ∧
    (State.withAnchors s n k copy).clk = s.clk ∧
    (State.withAnchors s n k copy).host = s.host ∧
    (State.withAnchors s n k copy).ident = s.ident ∧
    (State.withAnchors s n k copy).sealing = s.sealing ∧
    (State.withAnchors s n k copy).crypt = s.crypt ∧
    (State.withAnchors s n k copy).life = s.life ∧
    (State.withAnchors s n k copy).side = s.side ∧
    (State.withAnchors s n k copy).aux = s.aux ∧
    (State.withAnchors s n k copy).chan = s.chan ∧
    (State.withAnchors s n k copy).cfg = s.cfg ∧
    (State.withAnchors s n k copy).sticky = s.sticky ∧
    (State.withAnchors s n k copy).view = s.view ∧
    (State.withAnchors s n k copy).powered = s.powered ∧
    (State.withAnchors s n k copy).agt = s.agt ∧
    (State.withAnchors s n k copy).cask = s.cask := by
  have h := State.withAnchors_keeps s n k copy
  exact ⟨h .pending (by decide), h .time (by decide), h .freeCtr (by decide), h .outbox (by decide), h .regs (by decide), h .plat (by decide), h .keeper (by decide), h .chs (by decide), h .press (by decide), h .vault (by decide), h .ctl (by decide), h .tlm (by decide), h .wd0 (by decide), h .clk (by decide), h .host (by decide), h .ident (by decide), h .sealing (by decide), h .crypt (by decide), h .life (by decide), h .side (by decide), h .aux (by decide), State.chan_of (h .chs (by decide)), State.cfg_of (h .regs (by decide)), State.sticky_of (h .regs (by decide)), State.view_of (h .regs (by decide)), State.powered_of (h .plat (by decide)), State.agt_of (h .ctl (by decide)), State.cask_of (h .crypt (by decide))⟩

@[simp] theorem State.keyToken_rest (s : State) (t : Token) (kr : Option KeyReq) (want : KeyReq → Bool) :
    (State.keyToken s t kr want).1.pending = s.pending ∧
    (State.keyToken s t kr want).1.time = s.time ∧
    (State.keyToken s t kr want).1.freeCtr = s.freeCtr ∧
    (State.keyToken s t kr want).1.outbox = s.outbox ∧
    (State.keyToken s t kr want).1.regs = s.regs ∧
    (State.keyToken s t kr want).1.plat = s.plat ∧
    (State.keyToken s t kr want).1.keeper = s.keeper ∧
    (State.keyToken s t kr want).1.chs = s.chs ∧
    (State.keyToken s t kr want).1.cellar = s.cellar ∧
    (State.keyToken s t kr want).1.press = s.press ∧
    (State.keyToken s t kr want).1.vault = s.vault ∧
    (State.keyToken s t kr want).1.ctl = s.ctl ∧
    (State.keyToken s t kr want).1.cntr = s.cntr ∧
    (State.keyToken s t kr want).1.tlm = s.tlm ∧
    (State.keyToken s t kr want).1.wd0 = s.wd0 ∧
    (State.keyToken s t kr want).1.clk = s.clk ∧
    (State.keyToken s t kr want).1.host = s.host ∧
    (State.keyToken s t kr want).1.sealing = s.sealing ∧
    (State.keyToken s t kr want).1.life = s.life ∧
    (State.keyToken s t kr want).1.side = s.side ∧
    (State.keyToken s t kr want).1.aux = s.aux ∧
    (State.keyToken s t kr want).1.chan = s.chan ∧
    (State.keyToken s t kr want).1.cfg = s.cfg ∧
    (State.keyToken s t kr want).1.sticky = s.sticky ∧
    (State.keyToken s t kr want).1.view = s.view ∧
    (State.keyToken s t kr want).1.powered = s.powered ∧
    (State.keyToken s t kr want).1.agt = s.agt := by
  have h := State.keyToken_keeps s t kr want
  exact ⟨h .pending (by decide), h .time (by decide), h .freeCtr (by decide), h .outbox (by decide), h .regs (by decide), h .plat (by decide), h .keeper (by decide), h .chs (by decide), h .cellar (by decide), h .press (by decide), h .vault (by decide), h .ctl (by decide), h .cntr (by decide), h .tlm (by decide), h .wd0 (by decide), h .clk (by decide), h .host (by decide), h .sealing (by decide), h .life (by decide), h .side (by decide), h .aux (by decide), State.chan_of (h .chs (by decide)), State.cfg_of (h .regs (by decide)), State.sticky_of (h .regs (by decide)), State.view_of (h .regs (by decide)), State.powered_of (h .plat (by decide)), State.agt_of (h .ctl (by decide))⟩

@[simp] theorem State.ledgerRecover_rest (s : State) :
    (State.ledgerRecover s).pending = s.pending ∧
    (State.ledgerRecover s).time = s.time ∧
    (State.ledgerRecover s).press = s.press ∧
    (State.ledgerRecover s).cntr = s.cntr ∧
    (State.ledgerRecover s).tlm = s.tlm ∧
    (State.ledgerRecover s).wd0 = s.wd0 ∧
    (State.ledgerRecover s).clk = s.clk ∧
    (State.ledgerRecover s).host = s.host ∧
    (State.ledgerRecover s).sealing = s.sealing ∧
    (State.ledgerRecover s).crypt = s.crypt ∧
    (State.ledgerRecover s).life = s.life ∧
    (State.ledgerRecover s).side = s.side ∧
    (State.ledgerRecover s).aux = s.aux ∧
    (State.ledgerRecover s).cask = s.cask := by
  have h := State.ledgerRecover_keeps s
  exact ⟨h .pending (by decide), h .time (by decide), h .press (by decide), h .cntr (by decide), h .tlm (by decide), h .wd0 (by decide), h .clk (by decide), h .host (by decide), h .sealing (by decide), h .crypt (by decide), h .life (by decide), h .side (by decide), h .aux (by decide), State.cask_of (h .crypt (by decide))⟩

@[simp] theorem State.sideBit_rest (s : State) (p : Nat) (k : Nat) :
    (State.sideBit s p k).pending = s.pending ∧
    (State.sideBit s p k).time = s.time ∧
    (State.sideBit s p k).freeCtr = s.freeCtr ∧
    (State.sideBit s p k).outbox = s.outbox ∧
    (State.sideBit s p k).evt = s.evt ∧
    (State.sideBit s p k).plat = s.plat ∧
    (State.sideBit s p k).keeper = s.keeper ∧
    (State.sideBit s p k).chs = s.chs ∧
    (State.sideBit s p k).cellar = s.cellar ∧
    (State.sideBit s p k).press = s.press ∧
    (State.sideBit s p k).vault = s.vault ∧
    (State.sideBit s p k).ctl = s.ctl ∧
    (State.sideBit s p k).cntr = s.cntr ∧
    (State.sideBit s p k).tlm = s.tlm ∧
    (State.sideBit s p k).wd0 = s.wd0 ∧
    (State.sideBit s p k).clk = s.clk ∧
    (State.sideBit s p k).host = s.host ∧
    (State.sideBit s p k).ident = s.ident ∧
    (State.sideBit s p k).sealing = s.sealing ∧
    (State.sideBit s p k).crypt = s.crypt ∧
    (State.sideBit s p k).life = s.life ∧
    (State.sideBit s p k).side = s.side ∧
    (State.sideBit s p k).aux = s.aux ∧
    (State.sideBit s p k).chan = s.chan ∧
    (State.sideBit s p k).powered = s.powered ∧
    (State.sideBit s p k).agt = s.agt ∧
    (State.sideBit s p k).cask = s.cask := by
  have h := State.sideBit_keeps s p k
  exact ⟨h .pending (by decide), h .time (by decide), h .freeCtr (by decide), h .outbox (by decide), h .evt (by decide), h .plat (by decide), h .keeper (by decide), h .chs (by decide), h .cellar (by decide), h .press (by decide), h .vault (by decide), h .ctl (by decide), h .cntr (by decide), h .tlm (by decide), h .wd0 (by decide), h .clk (by decide), h .host (by decide), h .ident (by decide), h .sealing (by decide), h .crypt (by decide), h .life (by decide), h .side (by decide), h .aux (by decide), State.chan_of (h .chs (by decide)), State.powered_of (h .plat (by decide)), State.agt_of (h .ctl (by decide)), State.cask_of (h .crypt (by decide))⟩

@[simp] theorem State.mctpDrop_rest (s : State) (p : Nat) :
    (State.mctpDrop s p).pending = s.pending ∧
    (State.mctpDrop s p).time = s.time ∧
    (State.mctpDrop s p).freeCtr = s.freeCtr ∧
    (State.mctpDrop s p).outbox = s.outbox ∧
    (State.mctpDrop s p).plat = s.plat ∧
    (State.mctpDrop s p).keeper = s.keeper ∧
    (State.mctpDrop s p).chs = s.chs ∧
    (State.mctpDrop s p).cellar = s.cellar ∧
    (State.mctpDrop s p).press = s.press ∧
    (State.mctpDrop s p).vault = s.vault ∧
    (State.mctpDrop s p).ctl = s.ctl ∧
    (State.mctpDrop s p).cntr = s.cntr ∧
    (State.mctpDrop s p).tlm = s.tlm ∧
    (State.mctpDrop s p).wd0 = s.wd0 ∧
    (State.mctpDrop s p).clk = s.clk ∧
    (State.mctpDrop s p).host = s.host ∧
    (State.mctpDrop s p).ident = s.ident ∧
    (State.mctpDrop s p).sealing = s.sealing ∧
    (State.mctpDrop s p).crypt = s.crypt ∧
    (State.mctpDrop s p).life = s.life ∧
    (State.mctpDrop s p).side = s.side ∧
    (State.mctpDrop s p).aux = s.aux ∧
    (State.mctpDrop s p).chan = s.chan ∧
    (State.mctpDrop s p).powered = s.powered ∧
    (State.mctpDrop s p).agt = s.agt ∧
    (State.mctpDrop s p).cask = s.cask := by
  have h := State.mctpDrop_keeps s p
  exact ⟨h .pending (by decide), h .time (by decide), h .freeCtr (by decide), h .outbox (by decide), h .plat (by decide), h .keeper (by decide), h .chs (by decide), h .cellar (by decide), h .press (by decide), h .vault (by decide), h .ctl (by decide), h .cntr (by decide), h .tlm (by decide), h .wd0 (by decide), h .clk (by decide), h .host (by decide), h .ident (by decide), h .sealing (by decide), h .crypt (by decide), h .life (by decide), h .side (by decide), h .aux (by decide), State.chan_of (h .chs (by decide)), State.powered_of (h .plat (by decide)), State.agt_of (h .ctl (by decide)), State.cask_of (h .crypt (by decide))⟩

@[simp] theorem State.romService_rest (s : State) :
    (State.romService s).pending = s.pending ∧
    (State.romService s).time = s.time ∧
    (State.romService s).outbox = s.outbox ∧
    (State.romService s).regs = s.regs ∧
    (State.romService s).chs = s.chs ∧
    (State.romService s).cellar = s.cellar ∧
    (State.romService s).press = s.press ∧
    (State.romService s).vault = s.vault ∧
    (State.romService s).ctl = s.ctl ∧
    (State.romService s).cntr = s.cntr ∧
    (State.romService s).tlm = s.tlm ∧
    (State.romService s).wd0 = s.wd0 ∧
    (State.romService s).clk = s.clk ∧
    (State.romService s).host = s.host ∧
    (State.romService s).ident = s.ident ∧
    (State.romService s).sealing = s.sealing ∧
    (State.romService s).crypt = s.crypt ∧
    (State.romService s).life = s.life ∧
    (State.romService s).side = s.side ∧
    (State.romService s).aux = s.aux ∧
    (State.romService s).chan = s.chan ∧
    (State.romService s).cfg = s.cfg ∧
    (State.romService s).sticky = s.sticky ∧
    (State.romService s).view = s.view ∧
    (State.romService s).agt = s.agt ∧
    (State.romService s).cask = s.cask := by
  have h := State.romService_keeps s
  exact ⟨h .pending (by decide), h .time (by decide), h .outbox (by decide), h .regs (by decide), h .chs (by decide), h .cellar (by decide), h .press (by decide), h .vault (by decide), h .ctl (by decide), h .cntr (by decide), h .tlm (by decide), h .wd0 (by decide), h .clk (by decide), h .host (by decide), h .ident (by decide), h .sealing (by decide), h .crypt (by decide), h .life (by decide), h .side (by decide), h .aux (by decide), State.chan_of (h .chs (by decide)), State.cfg_of (h .regs (by decide)), State.sticky_of (h .regs (by decide)), State.view_of (h .regs (by decide)), State.agt_of (h .ctl (by decide)), State.cask_of (h .crypt (by decide))⟩

@[simp] theorem State.nack_rest (s : State) (p : Nat) :
    (State.nack s p).pending = s.pending ∧
    (State.nack s p).time = s.time ∧
    (State.nack s p).freeCtr = s.freeCtr ∧
    (State.nack s p).regs = s.regs ∧
    (State.nack s p).evt = s.evt ∧
    (State.nack s p).plat = s.plat ∧
    (State.nack s p).keeper = s.keeper ∧
    (State.nack s p).chs = s.chs ∧
    (State.nack s p).cellar = s.cellar ∧
    (State.nack s p).press = s.press ∧
    (State.nack s p).vault = s.vault ∧
    (State.nack s p).ctl = s.ctl ∧
    (State.nack s p).cntr = s.cntr ∧
    (State.nack s p).tlm = s.tlm ∧
    (State.nack s p).wd0 = s.wd0 ∧
    (State.nack s p).clk = s.clk ∧
    (State.nack s p).host = s.host ∧
    (State.nack s p).ident = s.ident ∧
    (State.nack s p).sealing = s.sealing ∧
    (State.nack s p).crypt = s.crypt ∧
    (State.nack s p).life = s.life ∧
    (State.nack s p).side = s.side ∧
    (State.nack s p).aux = s.aux ∧
    (State.nack s p).chan = s.chan ∧
    (State.nack s p).cfg = s.cfg ∧
    (State.nack s p).sticky = s.sticky ∧
    (State.nack s p).view = s.view ∧
    (State.nack s p).powered = s.powered ∧
    (State.nack s p).agt = s.agt ∧
    (State.nack s p).cask = s.cask := by
  have h := State.nack_keeps s p
  exact ⟨h .pending (by decide), h .time (by decide), h .freeCtr (by decide), h .regs (by decide), h .evt (by decide), h .plat (by decide), h .keeper (by decide), h .chs (by decide), h .cellar (by decide), h .press (by decide), h .vault (by decide), h .ctl (by decide), h .cntr (by decide), h .tlm (by decide), h .wd0 (by decide), h .clk (by decide), h .host (by decide), h .ident (by decide), h .sealing (by decide), h .crypt (by decide), h .life (by decide), h .side (by decide), h .aux (by decide), State.chan_of (h .chs (by decide)), State.cfg_of (h .regs (by decide)), State.sticky_of (h .regs (by decide)), State.view_of (h .regs (by decide)), State.powered_of (h .plat (by decide)), State.agt_of (h .ctl (by decide)), State.cask_of (h .crypt (by decide))⟩

@[simp] theorem State.notServed_rest (s : State) (n : Ch) (v : Nat) (op : Nat) :
    (State.notServed s n v op).pending = s.pending ∧
    (State.notServed s n v op).time = s.time ∧
    (State.notServed s n v op).freeCtr = s.freeCtr ∧
    (State.notServed s n v op).outbox = s.outbox ∧
    (State.notServed s n v op).regs = s.regs ∧
    (State.notServed s n v op).plat = s.plat ∧
    (State.notServed s n v op).keeper = s.keeper ∧
    (State.notServed s n v op).chs = s.chs ∧
    (State.notServed s n v op).cellar = s.cellar ∧
    (State.notServed s n v op).press = s.press ∧
    (State.notServed s n v op).vault = s.vault ∧
    (State.notServed s n v op).ctl = s.ctl ∧
    (State.notServed s n v op).cntr = s.cntr ∧
    (State.notServed s n v op).tlm = s.tlm ∧
    (State.notServed s n v op).wd0 = s.wd0 ∧
    (State.notServed s n v op).clk = s.clk ∧
    (State.notServed s n v op).host = s.host ∧
    (State.notServed s n v op).ident = s.ident ∧
    (State.notServed s n v op).sealing = s.sealing ∧
    (State.notServed s n v op).crypt = s.crypt ∧
    (State.notServed s n v op).life = s.life ∧
    (State.notServed s n v op).side = s.side ∧
    (State.notServed s n v op).aux = s.aux ∧
    (State.notServed s n v op).chan = s.chan ∧
    (State.notServed s n v op).cfg = s.cfg ∧
    (State.notServed s n v op).sticky = s.sticky ∧
    (State.notServed s n v op).view = s.view ∧
    (State.notServed s n v op).powered = s.powered ∧
    (State.notServed s n v op).agt = s.agt ∧
    (State.notServed s n v op).cask = s.cask := by
  have h := State.notServed_keeps s n v op
  exact ⟨h .pending (by decide), h .time (by decide), h .freeCtr (by decide), h .outbox (by decide), h .regs (by decide), h .plat (by decide), h .keeper (by decide), h .chs (by decide), h .cellar (by decide), h .press (by decide), h .vault (by decide), h .ctl (by decide), h .cntr (by decide), h .tlm (by decide), h .wd0 (by decide), h .clk (by decide), h .host (by decide), h .ident (by decide), h .sealing (by decide), h .crypt (by decide), h .life (by decide), h .side (by decide), h .aux (by decide), State.chan_of (h .chs (by decide)), State.cfg_of (h .regs (by decide)), State.sticky_of (h .regs (by decide)), State.view_of (h .regs (by decide)), State.powered_of (h .plat (by decide)), State.agt_of (h .ctl (by decide)), State.cask_of (h .crypt (by decide))⟩

@[simp] theorem State.openEpoch_rest (s : State) (no : Nat) (anchor : Option (List Byte)) :
    (State.openEpoch s no anchor).pending = s.pending ∧
    (State.openEpoch s no anchor).time = s.time ∧
    (State.openEpoch s no anchor).freeCtr = s.freeCtr ∧
    (State.openEpoch s no anchor).outbox = s.outbox ∧
    (State.openEpoch s no anchor).regs = s.regs ∧
    (State.openEpoch s no anchor).evt = s.evt ∧
    (State.openEpoch s no anchor).plat = s.plat ∧
    (State.openEpoch s no anchor).keeper = s.keeper ∧
    (State.openEpoch s no anchor).chs = s.chs ∧
    (State.openEpoch s no anchor).cellar = s.cellar ∧
    (State.openEpoch s no anchor).press = s.press ∧
    (State.openEpoch s no anchor).vault = s.vault ∧
    (State.openEpoch s no anchor).ctl = s.ctl ∧
    (State.openEpoch s no anchor).cntr = s.cntr ∧
    (State.openEpoch s no anchor).tlm = s.tlm ∧
    (State.openEpoch s no anchor).wd0 = s.wd0 ∧
    (State.openEpoch s no anchor).clk = s.clk ∧
    (State.openEpoch s no anchor).host = s.host ∧
    (State.openEpoch s no anchor).ident = s.ident ∧
    (State.openEpoch s no anchor).crypt = s.crypt ∧
    (State.openEpoch s no anchor).life = s.life ∧
    (State.openEpoch s no anchor).side = s.side ∧
    (State.openEpoch s no anchor).aux = s.aux ∧
    (State.openEpoch s no anchor).chan = s.chan ∧
    (State.openEpoch s no anchor).cfg = s.cfg ∧
    (State.openEpoch s no anchor).sticky = s.sticky ∧
    (State.openEpoch s no anchor).view = s.view ∧
    (State.openEpoch s no anchor).powered = s.powered ∧
    (State.openEpoch s no anchor).agt = s.agt ∧
    (State.openEpoch s no anchor).cask = s.cask := by
  have h := State.openEpoch_keeps s no anchor
  exact ⟨h .pending (by decide), h .time (by decide), h .freeCtr (by decide), h .outbox (by decide), h .regs (by decide), h .evt (by decide), h .plat (by decide), h .keeper (by decide), h .chs (by decide), h .cellar (by decide), h .press (by decide), h .vault (by decide), h .ctl (by decide), h .cntr (by decide), h .tlm (by decide), h .wd0 (by decide), h .clk (by decide), h .host (by decide), h .ident (by decide), h .crypt (by decide), h .life (by decide), h .side (by decide), h .aux (by decide), State.chan_of (h .chs (by decide)), State.cfg_of (h .regs (by decide)), State.sticky_of (h .regs (by decide)), State.view_of (h .regs (by decide)), State.powered_of (h .plat (by decide)), State.agt_of (h .ctl (by decide)), State.cask_of (h .crypt (by decide))⟩

@[simp] theorem State.pressWait_rest (s : State) (j : Job) :
    (State.pressWait s j).pending = s.pending ∧
    (State.pressWait s j).time = s.time ∧
    (State.pressWait s j).freeCtr = s.freeCtr ∧
    (State.pressWait s j).outbox = s.outbox ∧
    (State.pressWait s j).regs = s.regs ∧
    (State.pressWait s j).evt = s.evt ∧
    (State.pressWait s j).plat = s.plat ∧
    (State.pressWait s j).keeper = s.keeper ∧
    (State.pressWait s j).chs = s.chs ∧
    (State.pressWait s j).cellar = s.cellar ∧
    (State.pressWait s j).vault = s.vault ∧
    (State.pressWait s j).ctl = s.ctl ∧
    (State.pressWait s j).cntr = s.cntr ∧
    (State.pressWait s j).tlm = s.tlm ∧
    (State.pressWait s j).wd0 = s.wd0 ∧
    (State.pressWait s j).clk = s.clk ∧
    (State.pressWait s j).host = s.host ∧
    (State.pressWait s j).ident = s.ident ∧
    (State.pressWait s j).sealing = s.sealing ∧
    (State.pressWait s j).crypt = s.crypt ∧
    (State.pressWait s j).life = s.life ∧
    (State.pressWait s j).side = s.side ∧
    (State.pressWait s j).aux = s.aux ∧
    (State.pressWait s j).chan = s.chan ∧
    (State.pressWait s j).cfg = s.cfg ∧
    (State.pressWait s j).sticky = s.sticky ∧
    (State.pressWait s j).view = s.view ∧
    (State.pressWait s j).powered = s.powered ∧
    (State.pressWait s j).agt = s.agt ∧
    (State.pressWait s j).cask = s.cask := by
  have h := State.pressWait_keeps s j
  exact ⟨h .pending (by decide), h .time (by decide), h .freeCtr (by decide), h .outbox (by decide), h .regs (by decide), h .evt (by decide), h .plat (by decide), h .keeper (by decide), h .chs (by decide), h .cellar (by decide), h .vault (by decide), h .ctl (by decide), h .cntr (by decide), h .tlm (by decide), h .wd0 (by decide), h .clk (by decide), h .host (by decide), h .ident (by decide), h .sealing (by decide), h .crypt (by decide), h .life (by decide), h .side (by decide), h .aux (by decide), State.chan_of (h .chs (by decide)), State.cfg_of (h .regs (by decide)), State.sticky_of (h .regs (by decide)), State.view_of (h .regs (by decide)), State.powered_of (h .plat (by decide)), State.agt_of (h .ctl (by decide)), State.cask_of (h .crypt (by decide))⟩

@[simp] theorem State.partRecovered_rest (s : State) (n : Ch) (k : PartId) :
    (State.partRecovered s n k).pending = s.pending ∧
    (State.partRecovered s n k).time = s.time ∧
    (State.partRecovered s n k).freeCtr = s.freeCtr ∧
    (State.partRecovered s n k).outbox = s.outbox ∧
    (State.partRecovered s n k).regs = s.regs ∧
    (State.partRecovered s n k).evt = s.evt ∧
    (State.partRecovered s n k).plat = s.plat ∧
    (State.partRecovered s n k).keeper = s.keeper ∧
    (State.partRecovered s n k).cellar = s.cellar ∧
    (State.partRecovered s n k).press = s.press ∧
    (State.partRecovered s n k).vault = s.vault ∧
    (State.partRecovered s n k).ctl = s.ctl ∧
    (State.partRecovered s n k).cntr = s.cntr ∧
    (State.partRecovered s n k).tlm = s.tlm ∧
    (State.partRecovered s n k).wd0 = s.wd0 ∧
    (State.partRecovered s n k).clk = s.clk ∧
    (State.partRecovered s n k).host = s.host ∧
    (State.partRecovered s n k).ident = s.ident ∧
    (State.partRecovered s n k).sealing = s.sealing ∧
    (State.partRecovered s n k).crypt = s.crypt ∧
    (State.partRecovered s n k).life = s.life ∧
    (State.partRecovered s n k).side = s.side ∧
    (State.partRecovered s n k).aux = s.aux ∧
    (State.partRecovered s n k).cfg = s.cfg ∧
    (State.partRecovered s n k).sticky = s.sticky ∧
    (State.partRecovered s n k).view = s.view ∧
    (State.partRecovered s n k).powered = s.powered ∧
    (State.partRecovered s n k).agt = s.agt ∧
    (State.partRecovered s n k).cask = s.cask := by
  have h := State.partRecovered_keeps s n k
  exact ⟨h .pending (by decide), h .time (by decide), h .freeCtr (by decide), h .outbox (by decide), h .regs (by decide), h .evt (by decide), h .plat (by decide), h .keeper (by decide), h .cellar (by decide), h .press (by decide), h .vault (by decide), h .ctl (by decide), h .cntr (by decide), h .tlm (by decide), h .wd0 (by decide), h .clk (by decide), h .host (by decide), h .ident (by decide), h .sealing (by decide), h .crypt (by decide), h .life (by decide), h .side (by decide), h .aux (by decide), State.cfg_of (h .regs (by decide)), State.sticky_of (h .regs (by decide)), State.view_of (h .regs (by decide)), State.powered_of (h .plat (by decide)), State.agt_of (h .ctl (by decide)), State.cask_of (h .crypt (by decide))⟩

@[simp] theorem State.policyLoad_rest (s : State) (side : Bool) (b : Bundle) :
    (State.policyLoad s side b).1.pending = s.pending ∧
    (State.policyLoad s side b).1.time = s.time ∧
    (State.policyLoad s side b).1.freeCtr = s.freeCtr ∧
    (State.policyLoad s side b).1.outbox = s.outbox ∧
    (State.policyLoad s side b).1.plat = s.plat ∧
    (State.policyLoad s side b).1.keeper = s.keeper ∧
    (State.policyLoad s side b).1.chs = s.chs ∧
    (State.policyLoad s side b).1.cellar = s.cellar ∧
    (State.policyLoad s side b).1.press = s.press ∧
    (State.policyLoad s side b).1.vault = s.vault ∧
    (State.policyLoad s side b).1.ctl = s.ctl ∧
    (State.policyLoad s side b).1.tlm = s.tlm ∧
    (State.policyLoad s side b).1.wd0 = s.wd0 ∧
    (State.policyLoad s side b).1.clk = s.clk ∧
    (State.policyLoad s side b).1.host = s.host ∧
    (State.policyLoad s side b).1.sealing = s.sealing ∧
    (State.policyLoad s side b).1.life = s.life ∧
    (State.policyLoad s side b).1.side = s.side ∧
    (State.policyLoad s side b).1.aux = s.aux ∧
    (State.policyLoad s side b).1.chan = s.chan ∧
    (State.policyLoad s side b).1.powered = s.powered ∧
    (State.policyLoad s side b).1.agt = s.agt := by
  have h := State.policyLoad_keeps s side b
  exact ⟨h .pending (by decide), h .time (by decide), h .freeCtr (by decide), h .outbox (by decide), h .plat (by decide), h .keeper (by decide), h .chs (by decide), h .cellar (by decide), h .press (by decide), h .vault (by decide), h .ctl (by decide), h .tlm (by decide), h .wd0 (by decide), h .clk (by decide), h .host (by decide), h .sealing (by decide), h .life (by decide), h .side (by decide), h .aux (by decide), State.chan_of (h .chs (by decide)), State.powered_of (h .plat (by decide)), State.agt_of (h .ctl (by decide))⟩

@[simp] theorem State.pressRun_rest (s : State) (j : Job) :
    (State.pressRun s j).1.pending = s.pending ∧
    (State.pressRun s j).1.time = s.time ∧
    (State.pressRun s j).1.freeCtr = s.freeCtr ∧
    (State.pressRun s j).1.outbox = s.outbox ∧
    (State.pressRun s j).1.regs = s.regs ∧
    (State.pressRun s j).1.plat = s.plat ∧
    (State.pressRun s j).1.keeper = s.keeper ∧
    (State.pressRun s j).1.chs = s.chs ∧
    (State.pressRun s j).1.cellar = s.cellar ∧
    (State.pressRun s j).1.vault = s.vault ∧
    (State.pressRun s j).1.ctl = s.ctl ∧
    (State.pressRun s j).1.tlm = s.tlm ∧
    (State.pressRun s j).1.wd0 = s.wd0 ∧
    (State.pressRun s j).1.clk = s.clk ∧
    (State.pressRun s j).1.host = s.host ∧
    (State.pressRun s j).1.ident = s.ident ∧
    (State.pressRun s j).1.sealing = s.sealing ∧
    (State.pressRun s j).1.crypt = s.crypt ∧
    (State.pressRun s j).1.life = s.life ∧
    (State.pressRun s j).1.side = s.side ∧
    (State.pressRun s j).1.aux = s.aux ∧
    (State.pressRun s j).1.chan = s.chan ∧
    (State.pressRun s j).1.cfg = s.cfg ∧
    (State.pressRun s j).1.sticky = s.sticky ∧
    (State.pressRun s j).1.view = s.view ∧
    (State.pressRun s j).1.powered = s.powered ∧
    (State.pressRun s j).1.agt = s.agt ∧
    (State.pressRun s j).1.cask = s.cask := by
  have h := State.pressRun_keeps s j
  exact ⟨h .pending (by decide), h .time (by decide), h .freeCtr (by decide), h .outbox (by decide), h .regs (by decide), h .plat (by decide), h .keeper (by decide), h .chs (by decide), h .cellar (by decide), h .vault (by decide), h .ctl (by decide), h .tlm (by decide), h .wd0 (by decide), h .clk (by decide), h .host (by decide), h .ident (by decide), h .sealing (by decide), h .crypt (by decide), h .life (by decide), h .side (by decide), h .aux (by decide), State.chan_of (h .chs (by decide)), State.cfg_of (h .regs (by decide)), State.sticky_of (h .regs (by decide)), State.view_of (h .regs (by decide)), State.powered_of (h .plat (by decide)), State.agt_of (h .ctl (by decide)), State.cask_of (h .crypt (by decide))⟩

@[simp] theorem State.queueFault_rest (s : State) (q : Nat) :
    (State.queueFault s q).pending = s.pending ∧
    (State.queueFault s q).time = s.time ∧
    (State.queueFault s q).freeCtr = s.freeCtr ∧
    (State.queueFault s q).regs = s.regs ∧
    (State.queueFault s q).plat = s.plat ∧
    (State.queueFault s q).keeper = s.keeper ∧
    (State.queueFault s q).chs = s.chs ∧
    (State.queueFault s q).cellar = s.cellar ∧
    (State.queueFault s q).vault = s.vault ∧
    (State.queueFault s q).ctl = s.ctl ∧
    (State.queueFault s q).wd0 = s.wd0 ∧
    (State.queueFault s q).clk = s.clk ∧
    (State.queueFault s q).ident = s.ident ∧
    (State.queueFault s q).crypt = s.crypt ∧
    (State.queueFault s q).life = s.life ∧
    (State.queueFault s q).side = s.side ∧
    (State.queueFault s q).aux = s.aux ∧
    (State.queueFault s q).chan = s.chan ∧
    (State.queueFault s q).cfg = s.cfg ∧
    (State.queueFault s q).sticky = s.sticky ∧
    (State.queueFault s q).view = s.view ∧
    (State.queueFault s q).powered = s.powered ∧
    (State.queueFault s q).agt = s.agt ∧
    (State.queueFault s q).cask = s.cask := by
  have h := State.queueFault_keeps s q
  exact ⟨h .pending (by decide), h .time (by decide), h .freeCtr (by decide), h .regs (by decide), h .plat (by decide), h .keeper (by decide), h .chs (by decide), h .cellar (by decide), h .vault (by decide), h .ctl (by decide), h .wd0 (by decide), h .clk (by decide), h .ident (by decide), h .crypt (by decide), h .life (by decide), h .side (by decide), h .aux (by decide), State.chan_of (h .chs (by decide)), State.cfg_of (h .regs (by decide)), State.sticky_of (h .regs (by decide)), State.view_of (h .regs (by decide)), State.powered_of (h .plat (by decide)), State.agt_of (h .ctl (by decide)), State.cask_of (h .crypt (by decide))⟩

@[simp] theorem State.underrun_rest (s : State) (n : Ch) (vpage : Nat) (op : Nat) :
    (State.underrun s n vpage op).pending = s.pending ∧
    (State.underrun s n vpage op).time = s.time ∧
    (State.underrun s n vpage op).plat = s.plat ∧
    (State.underrun s n vpage op).press = s.press ∧
    (State.underrun s n vpage op).tlm = s.tlm ∧
    (State.underrun s n vpage op).wd0 = s.wd0 ∧
    (State.underrun s n vpage op).clk = s.clk ∧
    (State.underrun s n vpage op).host = s.host ∧
    (State.underrun s n vpage op).sealing = s.sealing ∧
    (State.underrun s n vpage op).crypt = s.crypt ∧
    (State.underrun s n vpage op).life = s.life ∧
    (State.underrun s n vpage op).side = s.side ∧
    (State.underrun s n vpage op).aux = s.aux ∧
    (State.underrun s n vpage op).powered = s.powered ∧
    (State.underrun s n vpage op).cask = s.cask := by
  have h := State.underrun_keeps s n vpage op
  exact ⟨h .pending (by decide), h .time (by decide), h .plat (by decide), h .press (by decide), h .tlm (by decide), h .wd0 (by decide), h .clk (by decide), h .host (by decide), h .sealing (by decide), h .crypt (by decide), h .life (by decide), h .side (by decide), h .aux (by decide), State.powered_of (h .plat (by decide)), State.cask_of (h .crypt (by decide))⟩

@[simp] theorem State.readThrough_rest (s : State) (t : Txn) (v : Nat) (len : Nat) (prev : Option Served) (part : PartId) (copy : Nat) (phys : Nat) :
    (State.readThrough s t v len prev part copy phys).1.pending = s.pending ∧
    (State.readThrough s t v len prev part copy phys).1.time = s.time ∧
    (State.readThrough s t v len prev part copy phys).1.plat = s.plat ∧
    (State.readThrough s t v len prev part copy phys).1.press = s.press ∧
    (State.readThrough s t v len prev part copy phys).1.tlm = s.tlm ∧
    (State.readThrough s t v len prev part copy phys).1.wd0 = s.wd0 ∧
    (State.readThrough s t v len prev part copy phys).1.clk = s.clk ∧
    (State.readThrough s t v len prev part copy phys).1.host = s.host ∧
    (State.readThrough s t v len prev part copy phys).1.sealing = s.sealing ∧
    (State.readThrough s t v len prev part copy phys).1.crypt = s.crypt ∧
    (State.readThrough s t v len prev part copy phys).1.life = s.life ∧
    (State.readThrough s t v len prev part copy phys).1.side = s.side ∧
    (State.readThrough s t v len prev part copy phys).1.aux = s.aux ∧
    (State.readThrough s t v len prev part copy phys).1.powered = s.powered ∧
    (State.readThrough s t v len prev part copy phys).1.cask = s.cask := by
  have h := State.readThrough_keeps s t v len prev part copy phys
  exact ⟨h .pending (by decide), h .time (by decide), h .plat (by decide), h .press (by decide), h .tlm (by decide), h .wd0 (by decide), h .clk (by decide), h .host (by decide), h .sealing (by decide), h .crypt (by decide), h .life (by decide), h .side (by decide), h .aux (by decide), State.powered_of (h .plat (by decide)), State.cask_of (h .crypt (by decide))⟩

@[simp] theorem State.writeFails_rest (s : State) (n : Ch) (j : RecJob) :
    (State.writeFails s n j).pending = s.pending ∧
    (State.writeFails s n j).time = s.time ∧
    (State.writeFails s n j).plat = s.plat ∧
    (State.writeFails s n j).cntr = s.cntr ∧
    (State.writeFails s n j).tlm = s.tlm ∧
    (State.writeFails s n j).wd0 = s.wd0 ∧
    (State.writeFails s n j).clk = s.clk ∧
    (State.writeFails s n j).host = s.host ∧
    (State.writeFails s n j).sealing = s.sealing ∧
    (State.writeFails s n j).crypt = s.crypt ∧
    (State.writeFails s n j).life = s.life ∧
    (State.writeFails s n j).side = s.side ∧
    (State.writeFails s n j).aux = s.aux ∧
    (State.writeFails s n j).powered = s.powered ∧
    (State.writeFails s n j).cask = s.cask := by
  have h := State.writeFails_keeps s n j
  exact ⟨h .pending (by decide), h .time (by decide), h .plat (by decide), h .cntr (by decide), h .tlm (by decide), h .wd0 (by decide), h .clk (by decide), h .host (by decide), h .sealing (by decide), h .crypt (by decide), h .life (by decide), h .side (by decide), h .aux (by decide), State.powered_of (h .plat (by decide)), State.cask_of (h .crypt (by decide))⟩

@[simp] theorem State.recWritten_rest (s : State) (n : Ch) (j : RecJob) :
    (State.recWritten s n j).pending = s.pending ∧
    (State.recWritten s n j).time = s.time ∧
    (State.recWritten s n j).plat = s.plat ∧
    (State.recWritten s n j).cntr = s.cntr ∧
    (State.recWritten s n j).tlm = s.tlm ∧
    (State.recWritten s n j).wd0 = s.wd0 ∧
    (State.recWritten s n j).clk = s.clk ∧
    (State.recWritten s n j).host = s.host ∧
    (State.recWritten s n j).sealing = s.sealing ∧
    (State.recWritten s n j).crypt = s.crypt ∧
    (State.recWritten s n j).life = s.life ∧
    (State.recWritten s n j).side = s.side ∧
    (State.recWritten s n j).aux = s.aux ∧
    (State.recWritten s n j).powered = s.powered ∧
    (State.recWritten s n j).cask = s.cask := by
  have h := State.recWritten_keeps s n j
  exact ⟨h .pending (by decide), h .time (by decide), h .plat (by decide), h .cntr (by decide), h .tlm (by decide), h .wd0 (by decide), h .clk (by decide), h .host (by decide), h .sealing (by decide), h .crypt (by decide), h .life (by decide), h .side (by decide), h .aux (by decide), State.powered_of (h .plat (by decide)), State.cask_of (h .crypt (by decide))⟩

@[simp] theorem State.reimageCmd_rest (s : State) (side : Bool) (agent : Nat) (source : Nat) :
    (State.reimageCmd s side agent source).1.pending = s.pending ∧
    (State.reimageCmd s side agent source).1.time = s.time ∧
    (State.reimageCmd s side agent source).1.outbox = s.outbox ∧
    (State.reimageCmd s side agent source).1.regs = s.regs ∧
    (State.reimageCmd s side agent source).1.plat = s.plat ∧
    (State.reimageCmd s side agent source).1.vault = s.vault ∧
    (State.reimageCmd s side agent source).1.cntr = s.cntr ∧
    (State.reimageCmd s side agent source).1.tlm = s.tlm ∧
    (State.reimageCmd s side agent source).1.wd0 = s.wd0 ∧
    (State.reimageCmd s side agent source).1.clk = s.clk ∧
    (State.reimageCmd s side agent source).1.host = s.host ∧
    (State.reimageCmd s side agent source).1.sealing = s.sealing ∧
    (State.reimageCmd s side agent source).1.crypt = s.crypt ∧
    (State.reimageCmd s side agent source).1.life = s.life ∧
    (State.reimageCmd s side agent source).1.side = s.side ∧
    (State.reimageCmd s side agent source).1.aux = s.aux ∧
    (State.reimageCmd s side agent source).1.cfg = s.cfg ∧
    (State.reimageCmd s side agent source).1.sticky = s.sticky ∧
    (State.reimageCmd s side agent source).1.view = s.view ∧
    (State.reimageCmd s side agent source).1.powered = s.powered ∧
    (State.reimageCmd s side agent source).1.cask = s.cask := by
  have h := State.reimageCmd_keeps s side agent source
  exact ⟨h .pending (by decide), h .time (by decide), h .outbox (by decide), h .regs (by decide), h .plat (by decide), h .vault (by decide), h .cntr (by decide), h .tlm (by decide), h .wd0 (by decide), h .clk (by decide), h .host (by decide), h .sealing (by decide), h .crypt (by decide), h .life (by decide), h .side (by decide), h .aux (by decide), State.cfg_of (h .regs (by decide)), State.sticky_of (h .regs (by decide)), State.view_of (h .regs (by decide)), State.powered_of (h .plat (by decide)), State.cask_of (h .crypt (by decide))⟩

@[simp] theorem State.releaseMany_rest (s : State) (ns : List Ch) :
    (State.releaseMany s ns).pending = s.pending ∧
    (State.releaseMany s ns).time = s.time ∧
    (State.releaseMany s ns).outbox = s.outbox ∧
    (State.releaseMany s ns).regs = s.regs ∧
    (State.releaseMany s ns).cellar = s.cellar ∧
    (State.releaseMany s ns).press = s.press ∧
    (State.releaseMany s ns).cntr = s.cntr ∧
    (State.releaseMany s ns).tlm = s.tlm ∧
    (State.releaseMany s ns).wd0 = s.wd0 ∧
    (State.releaseMany s ns).clk = s.clk ∧
    (State.releaseMany s ns).host = s.host ∧
    (State.releaseMany s ns).ident = s.ident ∧
    (State.releaseMany s ns).sealing = s.sealing ∧
    (State.releaseMany s ns).crypt = s.crypt ∧
    (State.releaseMany s ns).life = s.life ∧
    (State.releaseMany s ns).side = s.side ∧
    (State.releaseMany s ns).aux = s.aux ∧
    (State.releaseMany s ns).cfg = s.cfg ∧
    (State.releaseMany s ns).sticky = s.sticky ∧
    (State.releaseMany s ns).view = s.view ∧
    (State.releaseMany s ns).cask = s.cask := by
  have h := State.releaseMany_keeps s ns
  exact ⟨h .pending (by decide), h .time (by decide), h .outbox (by decide), h .regs (by decide), h .cellar (by decide), h .press (by decide), h .cntr (by decide), h .tlm (by decide), h .wd0 (by decide), h .clk (by decide), h .host (by decide), h .ident (by decide), h .sealing (by decide), h .crypt (by decide), h .life (by decide), h .side (by decide), h .aux (by decide), State.cfg_of (h .regs (by decide)), State.sticky_of (h .regs (by decide)), State.view_of (h .regs (by decide)), State.cask_of (h .crypt (by decide))⟩

@[simp] theorem State.releaseQuarantine_rest (s : State) (n : Ch) :
    (State.releaseQuarantine s n).pending = s.pending ∧
    (State.releaseQuarantine s n).time = s.time ∧
    (State.releaseQuarantine s n).plat = s.plat ∧
    (State.releaseQuarantine s n).cntr = s.cntr ∧
    (State.releaseQuarantine s n).tlm = s.tlm ∧
    (State.releaseQuarantine s n).wd0 = s.wd0 ∧
    (State.releaseQuarantine s n).clk = s.clk ∧
    (State.releaseQuarantine s n).host = s.host ∧
    (State.releaseQuarantine s n).sealing = s.sealing ∧
    (State.releaseQuarantine s n).crypt = s.crypt ∧
    (State.releaseQuarantine s n).life = s.life ∧
    (State.releaseQuarantine s n).side = s.side ∧
    (State.releaseQuarantine s n).aux = s.aux ∧
    (State.releaseQuarantine s n).powered = s.powered ∧
    (State.releaseQuarantine s n).cask = s.cask := by
  have h := State.releaseQuarantine_keeps s n
  exact ⟨h .pending (by decide), h .time (by decide), h .plat (by decide), h .cntr (by decide), h .tlm (by decide), h .wd0 (by decide), h .clk (by decide), h .host (by decide), h .sealing (by decide), h .crypt (by decide), h .life (by decide), h .side (by decide), h .aux (by decide), State.powered_of (h .plat (by decide)), State.cask_of (h .crypt (by decide))⟩

@[simp] theorem State.repairRec_rest (s : State) (n : Ch) (r : Repair) (state : Nat) (step : Nat) :
    (State.repairRec s n r state step).pending = s.pending ∧
    (State.repairRec s n r state step).time = s.time ∧
    (State.repairRec s n r state step).freeCtr = s.freeCtr ∧
    (State.repairRec s n r state step).outbox = s.outbox ∧
    (State.repairRec s n r state step).regs = s.regs ∧
    (State.repairRec s n r state step).evt = s.evt ∧
    (State.repairRec s n r state step).plat = s.plat ∧
    (State.repairRec s n r state step).keeper = s.keeper ∧
    (State.repairRec s n r state step).chs = s.chs ∧
    (State.repairRec s n r state step).cellar = s.cellar ∧
    (State.repairRec s n r state step).press = s.press ∧
    (State.repairRec s n r state step).ctl = s.ctl ∧
    (State.repairRec s n r state step).cntr = s.cntr ∧
    (State.repairRec s n r state step).tlm = s.tlm ∧
    (State.repairRec s n r state step).wd0 = s.wd0 ∧
    (State.repairRec s n r state step).clk = s.clk ∧
    (State.repairRec s n r state step).host = s.host ∧
    (State.repairRec s n r state step).ident = s.ident ∧
    (State.repairRec s n r state step).sealing = s.sealing ∧
    (State.repairRec s n r state step).crypt = s.crypt ∧
    (State.repairRec s n r state step).life = s.life ∧
    (State.repairRec s n r state step).side = s.side ∧
    (State.repairRec s n r state step).aux = s.aux ∧
    (State.repairRec s n r state step).chan = s.chan ∧
    (State.repairRec s n r state step).cfg = s.cfg ∧
    (State.repairRec s n r state step).sticky = s.sticky ∧
    (State.repairRec s n r state step).view = s.view ∧
    (State.repairRec s n r state step).powered = s.powered ∧
    (State.repairRec s n r state step).agt = s.agt ∧
    (State.repairRec s n r state step).cask = s.cask := by
  have h := State.repairRec_keeps s n r state step
  exact ⟨h .pending (by decide), h .time (by decide), h .freeCtr (by decide), h .outbox (by decide), h .regs (by decide), h .evt (by decide), h .plat (by decide), h .keeper (by decide), h .chs (by decide), h .cellar (by decide), h .press (by decide), h .ctl (by decide), h .cntr (by decide), h .tlm (by decide), h .wd0 (by decide), h .clk (by decide), h .host (by decide), h .ident (by decide), h .sealing (by decide), h .crypt (by decide), h .life (by decide), h .side (by decide), h .aux (by decide), State.chan_of (h .chs (by decide)), State.cfg_of (h .regs (by decide)), State.sticky_of (h .regs (by decide)), State.view_of (h .regs (by decide)), State.powered_of (h .plat (by decide)), State.agt_of (h .ctl (by decide)), State.cask_of (h .crypt (by decide))⟩

@[simp] theorem State.setRepair_rest (s : State) (n : Ch) (r : Repair) :
    (State.setRepair s n r).pending = s.pending ∧
    (State.setRepair s n r).time = s.time ∧
    (State.setRepair s n r).freeCtr = s.freeCtr ∧
    (State.setRepair s n r).outbox = s.outbox ∧
    (State.setRepair s n r).regs = s.regs ∧
    (State.setRepair s n r).evt = s.evt ∧
    (State.setRepair s n r).plat = s.plat ∧
    (State.setRepair s n r).keeper = s.keeper ∧
    (State.setRepair s n r).cellar = s.cellar ∧
    (State.setRepair s n r).press = s.press ∧
    (State.setRepair s n r).vault = s.vault ∧
    (State.setRepair s n r).ctl = s.ctl ∧
    (State.setRepair s n r).cntr = s.cntr ∧
    (State.setRepair s n r).tlm = s.tlm ∧
    (State.setRepair s n r).wd0 = s.wd0 ∧
    (State.setRepair s n r).clk = s.clk ∧
    (State.setRepair s n r).host = s.host ∧
    (State.setRepair s n r).ident = s.ident ∧
    (State.setRepair s n r).sealing = s.sealing ∧
    (State.setRepair s n r).crypt = s.crypt ∧
    (State.setRepair s n r).life = s.life ∧
    (State.setRepair s n r).side = s.side ∧
    (State.setRepair s n r).aux = s.aux ∧
    (State.setRepair s n r).cfg = s.cfg ∧
    (State.setRepair s n r).sticky = s.sticky ∧
    (State.setRepair s n r).view = s.view ∧
    (State.setRepair s n r).powered = s.powered ∧
    (State.setRepair s n r).agt = s.agt ∧
    (State.setRepair s n r).cask = s.cask := by
  have h := State.setRepair_keeps s n r
  exact ⟨h .pending (by decide), h .time (by decide), h .freeCtr (by decide), h .outbox (by decide), h .regs (by decide), h .evt (by decide), h .plat (by decide), h .keeper (by decide), h .cellar (by decide), h .press (by decide), h .vault (by decide), h .ctl (by decide), h .cntr (by decide), h .tlm (by decide), h .wd0 (by decide), h .clk (by decide), h .host (by decide), h .ident (by decide), h .sealing (by decide), h .crypt (by decide), h .life (by decide), h .side (by decide), h .aux (by decide), State.cfg_of (h .regs (by decide)), State.sticky_of (h .regs (by decide)), State.view_of (h .regs (by decide)), State.powered_of (h .plat (by decide)), State.agt_of (h .ctl (by decide)), State.cask_of (h .crypt (by decide))⟩

@[simp] theorem State.rootEnd_rest (s : State) :
    (State.rootEnd s).pending = s.pending ∧
    (State.rootEnd s).time = s.time ∧
    (State.rootEnd s).freeCtr = s.freeCtr ∧
    (State.rootEnd s).outbox = s.outbox ∧
    (State.rootEnd s).regs = s.regs ∧
    (State.rootEnd s).evt = s.evt ∧
    (State.rootEnd s).keeper = s.keeper ∧
    (State.rootEnd s).chs = s.chs ∧
    (State.rootEnd s).cellar = s.cellar ∧
    (State.rootEnd s).press = s.press ∧
    (State.rootEnd s).vault = s.vault ∧
    (State.rootEnd s).ctl = s.ctl ∧
    (State.rootEnd s).cntr = s.cntr ∧
    (State.rootEnd s).tlm = s.tlm ∧
    (State.rootEnd s).wd0 = s.wd0 ∧
    (State.rootEnd s).clk = s.clk ∧
    (State.rootEnd s).host = s.host ∧
    (State.rootEnd s).ident = s.ident ∧
    (State.rootEnd s).sealing = s.sealing ∧
    (State.rootEnd s).crypt = s.crypt ∧
    (State.rootEnd s).life = s.life ∧
    (State.rootEnd s).side = s.side ∧
    (State.rootEnd s).aux = s.aux ∧
    (State.rootEnd s).chan = s.chan ∧
    (State.rootEnd s).cfg = s.cfg ∧
    (State.rootEnd s).sticky = s.sticky ∧
    (State.rootEnd s).view = s.view ∧
    (State.rootEnd s).agt = s.agt ∧
    (State.rootEnd s).cask = s.cask := by
  have h := State.rootEnd_keeps s
  exact ⟨h .pending (by decide), h .time (by decide), h .freeCtr (by decide), h .outbox (by decide), h .regs (by decide), h .evt (by decide), h .keeper (by decide), h .chs (by decide), h .cellar (by decide), h .press (by decide), h .vault (by decide), h .ctl (by decide), h .cntr (by decide), h .tlm (by decide), h .wd0 (by decide), h .clk (by decide), h .host (by decide), h .ident (by decide), h .sealing (by decide), h .crypt (by decide), h .life (by decide), h .side (by decide), h .aux (by decide), State.chan_of (h .chs (by decide)), State.cfg_of (h .regs (by decide)), State.sticky_of (h .regs (by decide)), State.view_of (h .regs (by decide)), State.agt_of (h .ctl (by decide)), State.cask_of (h .crypt (by decide))⟩

@[simp] theorem State.rootAttempt_rest (s : State) (d : PufDecode) :
    (State.rootAttempt s d).pending = s.pending ∧
    (State.rootAttempt s d).time = s.time ∧
    (State.rootAttempt s d).freeCtr = s.freeCtr ∧
    (State.rootAttempt s d).outbox = s.outbox ∧
    (State.rootAttempt s d).regs = s.regs ∧
    (State.rootAttempt s d).keeper = s.keeper ∧
    (State.rootAttempt s d).chs = s.chs ∧
    (State.rootAttempt s d).cellar = s.cellar ∧
    (State.rootAttempt s d).press = s.press ∧
    (State.rootAttempt s d).vault = s.vault ∧
    (State.rootAttempt s d).ctl = s.ctl ∧
    (State.rootAttempt s d).cntr = s.cntr ∧
    (State.rootAttempt s d).tlm = s.tlm ∧
    (State.rootAttempt s d).wd0 = s.wd0 ∧
    (State.rootAttempt s d).clk = s.clk ∧
    (State.rootAttempt s d).host = s.host ∧
    (State.rootAttempt s d).ident = s.ident ∧
    (State.rootAttempt s d).sealing = s.sealing ∧
    (State.rootAttempt s d).life = s.life ∧
    (State.rootAttempt s d).side = s.side ∧
    (State.rootAttempt s d).aux = s.aux ∧
    (State.rootAttempt s d).chan = s.chan ∧
    (State.rootAttempt s d).cfg = s.cfg ∧
    (State.rootAttempt s d).sticky = s.sticky ∧
    (State.rootAttempt s d).view = s.view ∧
    (State.rootAttempt s d).agt = s.agt := by
  have h := State.rootAttempt_keeps s d
  exact ⟨h .pending (by decide), h .time (by decide), h .freeCtr (by decide), h .outbox (by decide), h .regs (by decide), h .keeper (by decide), h .chs (by decide), h .cellar (by decide), h .press (by decide), h .vault (by decide), h .ctl (by decide), h .cntr (by decide), h .tlm (by decide), h .wd0 (by decide), h .clk (by decide), h .host (by decide), h .ident (by decide), h .sealing (by decide), h .life (by decide), h .side (by decide), h .aux (by decide), State.chan_of (h .chs (by decide)), State.cfg_of (h .regs (by decide)), State.sticky_of (h .regs (by decide)), State.view_of (h .regs (by decide)), State.agt_of (h .ctl (by decide))⟩

@[simp] theorem State.sealRun_rest (s : State) (tag : Nat) :
    (State.sealRun s tag).1.pending = s.pending ∧
    (State.sealRun s tag).1.time = s.time ∧
    (State.sealRun s tag).1.freeCtr = s.freeCtr ∧
    (State.sealRun s tag).1.outbox = s.outbox ∧
    (State.sealRun s tag).1.regs = s.regs ∧
    (State.sealRun s tag).1.plat = s.plat ∧
    (State.sealRun s tag).1.keeper = s.keeper ∧
    (State.sealRun s tag).1.chs = s.chs ∧
    (State.sealRun s tag).1.cellar = s.cellar ∧
    (State.sealRun s tag).1.vault = s.vault ∧
    (State.sealRun s tag).1.ctl = s.ctl ∧
    (State.sealRun s tag).1.tlm = s.tlm ∧
    (State.sealRun s tag).1.wd0 = s.wd0 ∧
    (State.sealRun s tag).1.clk = s.clk ∧
    (State.sealRun s tag).1.host = s.host ∧
    (State.sealRun s tag).1.ident = s.ident ∧
    (State.sealRun s tag).1.sealing = s.sealing ∧
    (State.sealRun s tag).1.crypt = s.crypt ∧
    (State.sealRun s tag).1.life = s.life ∧
    (State.sealRun s tag).1.side = s.side ∧
    (State.sealRun s tag).1.aux = s.aux ∧
    (State.sealRun s tag).1.chan = s.chan ∧
    (State.sealRun s tag).1.cfg = s.cfg ∧
    (State.sealRun s tag).1.sticky = s.sticky ∧
    (State.sealRun s tag).1.view = s.view ∧
    (State.sealRun s tag).1.powered = s.powered ∧
    (State.sealRun s tag).1.agt = s.agt ∧
    (State.sealRun s tag).1.cask = s.cask := by
  have h := State.sealRun_keeps s tag
  exact ⟨h .pending (by decide), h .time (by decide), h .freeCtr (by decide), h .outbox (by decide), h .regs (by decide), h .plat (by decide), h .keeper (by decide), h .chs (by decide), h .cellar (by decide), h .vault (by decide), h .ctl (by decide), h .tlm (by decide), h .wd0 (by decide), h .clk (by decide), h .host (by decide), h .ident (by decide), h .sealing (by decide), h .crypt (by decide), h .life (by decide), h .side (by decide), h .aux (by decide), State.chan_of (h .chs (by decide)), State.cfg_of (h .regs (by decide)), State.sticky_of (h .regs (by decide)), State.view_of (h .regs (by decide)), State.powered_of (h .plat (by decide)), State.agt_of (h .ctl (by decide)), State.cask_of (h .crypt (by decide))⟩

@[simp] theorem State.seedDrbg_rest (s : State) :
    (State.seedDrbg s).pending = s.pending ∧
    (State.seedDrbg s).time = s.time ∧
    (State.seedDrbg s).freeCtr = s.freeCtr ∧
    (State.seedDrbg s).outbox = s.outbox ∧
    (State.seedDrbg s).regs = s.regs ∧
    (State.seedDrbg s).evt = s.evt ∧
    (State.seedDrbg s).plat = s.plat ∧
    (State.seedDrbg s).keeper = s.keeper ∧
    (State.seedDrbg s).chs = s.chs ∧
    (State.seedDrbg s).cellar = s.cellar ∧
    (State.seedDrbg s).press = s.press ∧
    (State.seedDrbg s).vault = s.vault ∧
    (State.seedDrbg s).ctl = s.ctl ∧
    (State.seedDrbg s).cntr = s.cntr ∧
    (State.seedDrbg s).tlm = s.tlm ∧
    (State.seedDrbg s).wd0 = s.wd0 ∧
    (State.seedDrbg s).clk = s.clk ∧
    (State.seedDrbg s).host = s.host ∧
    (State.seedDrbg s).ident = s.ident ∧
    (State.seedDrbg s).sealing = s.sealing ∧
    (State.seedDrbg s).life = s.life ∧
    (State.seedDrbg s).side = s.side ∧
    (State.seedDrbg s).aux = s.aux ∧
    (State.seedDrbg s).chan = s.chan ∧
    (State.seedDrbg s).cfg = s.cfg ∧
    (State.seedDrbg s).sticky = s.sticky ∧
    (State.seedDrbg s).view = s.view ∧
    (State.seedDrbg s).powered = s.powered ∧
    (State.seedDrbg s).agt = s.agt := by
  have h := State.seedDrbg_keeps s
  exact ⟨h .pending (by decide), h .time (by decide), h .freeCtr (by decide), h .outbox (by decide), h .regs (by decide), h .evt (by decide), h .plat (by decide), h .keeper (by decide), h .chs (by decide), h .cellar (by decide), h .press (by decide), h .vault (by decide), h .ctl (by decide), h .cntr (by decide), h .tlm (by decide), h .wd0 (by decide), h .clk (by decide), h .host (by decide), h .ident (by decide), h .sealing (by decide), h .life (by decide), h .side (by decide), h .aux (by decide), State.chan_of (h .chs (by decide)), State.cfg_of (h .regs (by decide)), State.sticky_of (h .regs (by decide)), State.view_of (h .regs (by decide)), State.powered_of (h .plat (by decide)), State.agt_of (h .ctl (by decide))⟩

@[simp] theorem State.setProg_rest (s : State) (p : Option Prog) :
    (State.setProg s p).pending = s.pending ∧
    (State.setProg s p).time = s.time ∧
    (State.setProg s p).freeCtr = s.freeCtr ∧
    (State.setProg s p).outbox = s.outbox ∧
    (State.setProg s p).regs = s.regs ∧
    (State.setProg s p).evt = s.evt ∧
    (State.setProg s p).plat = s.plat ∧
    (State.setProg s p).keeper = s.keeper ∧
    (State.setProg s p).chs = s.chs ∧
    (State.setProg s p).cellar = s.cellar ∧
    (State.setProg s p).press = s.press ∧
    (State.setProg s p).vault = s.vault ∧
    (State.setProg s p).cntr = s.cntr ∧
    (State.setProg s p).tlm = s.tlm ∧
    (State.setProg s p).wd0 = s.wd0 ∧
    (State.setProg s p).clk = s.clk ∧
    (State.setProg s p).host = s.host ∧
    (State.setProg s p).ident = s.ident ∧
    (State.setProg s p).sealing = s.sealing ∧
    (State.setProg s p).crypt = s.crypt ∧
    (State.setProg s p).life = s.life ∧
    (State.setProg s p).side = s.side ∧
    (State.setProg s p).aux = s.aux ∧
    (State.setProg s p).chan = s.chan ∧
    (State.setProg s p).cfg = s.cfg ∧
    (State.setProg s p).sticky = s.sticky ∧
    (State.setProg s p).view = s.view ∧
    (State.setProg s p).powered = s.powered ∧
    (State.setProg s p).cask = s.cask := by
  have h := State.setProg_keeps s p
  exact ⟨h .pending (by decide), h .time (by decide), h .freeCtr (by decide), h .outbox (by decide), h .regs (by decide), h .evt (by decide), h .plat (by decide), h .keeper (by decide), h .chs (by decide), h .cellar (by decide), h .press (by decide), h .vault (by decide), h .cntr (by decide), h .tlm (by decide), h .wd0 (by decide), h .clk (by decide), h .host (by decide), h .ident (by decide), h .sealing (by decide), h .crypt (by decide), h .life (by decide), h .side (by decide), h .aux (by decide), State.chan_of (h .chs (by decide)), State.cfg_of (h .regs (by decide)), State.sticky_of (h .regs (by decide)), State.view_of (h .regs (by decide)), State.powered_of (h .plat (by decide)), State.cask_of (h .crypt (by decide))⟩

@[simp] theorem State.seqNext_rest (s : State) (p : Prog) :
    (State.seqNext s p).pending = s.pending ∧
    (State.seqNext s p).time = s.time ∧
    (State.seqNext s p).freeCtr = s.freeCtr ∧
    (State.seqNext s p).outbox = s.outbox ∧
    (State.seqNext s p).regs = s.regs ∧
    (State.seqNext s p).evt = s.evt ∧
    (State.seqNext s p).plat = s.plat ∧
    (State.seqNext s p).keeper = s.keeper ∧
    (State.seqNext s p).chs = s.chs ∧
    (State.seqNext s p).cellar = s.cellar ∧
    (State.seqNext s p).press = s.press ∧
    (State.seqNext s p).vault = s.vault ∧
    (State.seqNext s p).cntr = s.cntr ∧
    (State.seqNext s p).tlm = s.tlm ∧
    (State.seqNext s p).wd0 = s.wd0 ∧
    (State.seqNext s p).clk = s.clk ∧
    (State.seqNext s p).host = s.host ∧
    (State.seqNext s p).ident = s.ident ∧
    (State.seqNext s p).sealing = s.sealing ∧
    (State.seqNext s p).crypt = s.crypt ∧
    (State.seqNext s p).life = s.life ∧
    (State.seqNext s p).side = s.side ∧
    (State.seqNext s p).aux = s.aux ∧
    (State.seqNext s p).chan = s.chan ∧
    (State.seqNext s p).cfg = s.cfg ∧
    (State.seqNext s p).sticky = s.sticky ∧
    (State.seqNext s p).view = s.view ∧
    (State.seqNext s p).powered = s.powered ∧
    (State.seqNext s p).cask = s.cask := by
  have h := State.seqNext_keeps s p
  exact ⟨h .pending (by decide), h .time (by decide), h .freeCtr (by decide), h .outbox (by decide), h .regs (by decide), h .evt (by decide), h .plat (by decide), h .keeper (by decide), h .chs (by decide), h .cellar (by decide), h .press (by decide), h .vault (by decide), h .cntr (by decide), h .tlm (by decide), h .wd0 (by decide), h .clk (by decide), h .host (by decide), h .ident (by decide), h .sealing (by decide), h .crypt (by decide), h .life (by decide), h .side (by decide), h .aux (by decide), State.chan_of (h .chs (by decide)), State.cfg_of (h .regs (by decide)), State.sticky_of (h .regs (by decide)), State.view_of (h .regs (by decide)), State.powered_of (h .plat (by decide)), State.cask_of (h .crypt (by decide))⟩

@[simp] theorem State.seqRelease_rest (s : State) (p : Prog) (w : Word) (ns : List Ch) :
    (State.seqRelease s p w ns).pending = s.pending ∧
    (State.seqRelease s p w ns).time = s.time ∧
    (State.seqRelease s p w ns).outbox = s.outbox ∧
    (State.seqRelease s p w ns).regs = s.regs ∧
    (State.seqRelease s p w ns).cellar = s.cellar ∧
    (State.seqRelease s p w ns).press = s.press ∧
    (State.seqRelease s p w ns).cntr = s.cntr ∧
    (State.seqRelease s p w ns).tlm = s.tlm ∧
    (State.seqRelease s p w ns).wd0 = s.wd0 ∧
    (State.seqRelease s p w ns).clk = s.clk ∧
    (State.seqRelease s p w ns).host = s.host ∧
    (State.seqRelease s p w ns).ident = s.ident ∧
    (State.seqRelease s p w ns).sealing = s.sealing ∧
    (State.seqRelease s p w ns).crypt = s.crypt ∧
    (State.seqRelease s p w ns).life = s.life ∧
    (State.seqRelease s p w ns).side = s.side ∧
    (State.seqRelease s p w ns).aux = s.aux ∧
    (State.seqRelease s p w ns).cfg = s.cfg ∧
    (State.seqRelease s p w ns).sticky = s.sticky ∧
    (State.seqRelease s p w ns).view = s.view ∧
    (State.seqRelease s p w ns).cask = s.cask := by
  have h := State.seqRelease_keeps s p w ns
  exact ⟨h .pending (by decide), h .time (by decide), h .outbox (by decide), h .regs (by decide), h .cellar (by decide), h .press (by decide), h .cntr (by decide), h .tlm (by decide), h .wd0 (by decide), h .clk (by decide), h .host (by decide), h .ident (by decide), h .sealing (by decide), h .crypt (by decide), h .life (by decide), h .side (by decide), h .aux (by decide), State.cfg_of (h .regs (by decide)), State.sticky_of (h .regs (by decide)), State.view_of (h .regs (by decide)), State.cask_of (h .crypt (by decide))⟩

@[simp] theorem State.seqWaitAt_rest (s : State) (p : Prog) (w : SeqWait) :
    (State.seqWaitAt s p w).pending = s.pending ∧
    (State.seqWaitAt s p w).time = s.time ∧
    (State.seqWaitAt s p w).freeCtr = s.freeCtr ∧
    (State.seqWaitAt s p w).outbox = s.outbox ∧
    (State.seqWaitAt s p w).regs = s.regs ∧
    (State.seqWaitAt s p w).evt = s.evt ∧
    (State.seqWaitAt s p w).plat = s.plat ∧
    (State.seqWaitAt s p w).keeper = s.keeper ∧
    (State.seqWaitAt s p w).chs = s.chs ∧
    (State.seqWaitAt s p w).cellar = s.cellar ∧
    (State.seqWaitAt s p w).press = s.press ∧
    (State.seqWaitAt s p w).vault = s.vault ∧
    (State.seqWaitAt s p w).cntr = s.cntr ∧
    (State.seqWaitAt s p w).tlm = s.tlm ∧
    (State.seqWaitAt s p w).wd0 = s.wd0 ∧
    (State.seqWaitAt s p w).clk = s.clk ∧
    (State.seqWaitAt s p w).host = s.host ∧
    (State.seqWaitAt s p w).ident = s.ident ∧
    (State.seqWaitAt s p w).sealing = s.sealing ∧
    (State.seqWaitAt s p w).crypt = s.crypt ∧
    (State.seqWaitAt s p w).life = s.life ∧
    (State.seqWaitAt s p w).side = s.side ∧
    (State.seqWaitAt s p w).aux = s.aux ∧
    (State.seqWaitAt s p w).chan = s.chan ∧
    (State.seqWaitAt s p w).cfg = s.cfg ∧
    (State.seqWaitAt s p w).sticky = s.sticky ∧
    (State.seqWaitAt s p w).view = s.view ∧
    (State.seqWaitAt s p w).powered = s.powered ∧
    (State.seqWaitAt s p w).cask = s.cask := by
  have h := State.seqWaitAt_keeps s p w
  exact ⟨h .pending (by decide), h .time (by decide), h .freeCtr (by decide), h .outbox (by decide), h .regs (by decide), h .evt (by decide), h .plat (by decide), h .keeper (by decide), h .chs (by decide), h .cellar (by decide), h .press (by decide), h .vault (by decide), h .cntr (by decide), h .tlm (by decide), h .wd0 (by decide), h .clk (by decide), h .host (by decide), h .ident (by decide), h .sealing (by decide), h .crypt (by decide), h .life (by decide), h .side (by decide), h .aux (by decide), State.chan_of (h .chs (by decide)), State.cfg_of (h .regs (by decide)), State.sticky_of (h .regs (by decide)), State.view_of (h .regs (by decide)), State.powered_of (h .plat (by decide)), State.cask_of (h .crypt (by decide))⟩

@[simp] theorem State.setConn_rest (s : State) (c : Conn) :
    (State.setConn s c).pending = s.pending ∧
    (State.setConn s c).time = s.time ∧
    (State.setConn s c).freeCtr = s.freeCtr ∧
    (State.setConn s c).outbox = s.outbox ∧
    (State.setConn s c).regs = s.regs ∧
    (State.setConn s c).evt = s.evt ∧
    (State.setConn s c).plat = s.plat ∧
    (State.setConn s c).keeper = s.keeper ∧
    (State.setConn s c).chs = s.chs ∧
    (State.setConn s c).cellar = s.cellar ∧
    (State.setConn s c).press = s.press ∧
    (State.setConn s c).vault = s.vault ∧
    (State.setConn s c).ctl = s.ctl ∧
    (State.setConn s c).cntr = s.cntr ∧
    (State.setConn s c).tlm = s.tlm ∧
    (State.setConn s c).wd0 = s.wd0 ∧
    (State.setConn s c).clk = s.clk ∧
    (State.setConn s c).host = s.host ∧
    (State.setConn s c).sealing = s.sealing ∧
    (State.setConn s c).crypt = s.crypt ∧
    (State.setConn s c).life = s.life ∧
    (State.setConn s c).side = s.side ∧
    (State.setConn s c).aux = s.aux ∧
    (State.setConn s c).chan = s.chan ∧
    (State.setConn s c).cfg = s.cfg ∧
    (State.setConn s c).sticky = s.sticky ∧
    (State.setConn s c).view = s.view ∧
    (State.setConn s c).powered = s.powered ∧
    (State.setConn s c).agt = s.agt ∧
    (State.setConn s c).cask = s.cask := by
  have h := State.setConn_keeps s c
  exact ⟨h .pending (by decide), h .time (by decide), h .freeCtr (by decide), h .outbox (by decide), h .regs (by decide), h .evt (by decide), h .plat (by decide), h .keeper (by decide), h .chs (by decide), h .cellar (by decide), h .press (by decide), h .vault (by decide), h .ctl (by decide), h .cntr (by decide), h .tlm (by decide), h .wd0 (by decide), h .clk (by decide), h .host (by decide), h .sealing (by decide), h .crypt (by decide), h .life (by decide), h .side (by decide), h .aux (by decide), State.chan_of (h .chs (by decide)), State.cfg_of (h .regs (by decide)), State.sticky_of (h .regs (by decide)), State.view_of (h .regs (by decide)), State.powered_of (h .plat (by decide)), State.agt_of (h .ctl (by decide)), State.cask_of (h .crypt (by decide))⟩

@[simp] theorem State.setEngine_rest (s : State) (e : Nat) (st : EngineSt) :
    (State.setEngine s e st).pending = s.pending ∧
    (State.setEngine s e st).time = s.time ∧
    (State.setEngine s e st).freeCtr = s.freeCtr ∧
    (State.setEngine s e st).outbox = s.outbox ∧
    (State.setEngine s e st).regs = s.regs ∧
    (State.setEngine s e st).evt = s.evt ∧
    (State.setEngine s e st).plat = s.plat ∧
    (State.setEngine s e st).keeper = s.keeper ∧
    (State.setEngine s e st).chs = s.chs ∧
    (State.setEngine s e st).cellar = s.cellar ∧
    (State.setEngine s e st).vault = s.vault ∧
    (State.setEngine s e st).ctl = s.ctl ∧
    (State.setEngine s e st).cntr = s.cntr ∧
    (State.setEngine s e st).tlm = s.tlm ∧
    (State.setEngine s e st).wd0 = s.wd0 ∧
    (State.setEngine s e st).clk = s.clk ∧
    (State.setEngine s e st).host = s.host ∧
    (State.setEngine s e st).ident = s.ident ∧
    (State.setEngine s e st).sealing = s.sealing ∧
    (State.setEngine s e st).crypt = s.crypt ∧
    (State.setEngine s e st).life = s.life ∧
    (State.setEngine s e st).side = s.side ∧
    (State.setEngine s e st).aux = s.aux ∧
    (State.setEngine s e st).chan = s.chan ∧
    (State.setEngine s e st).cfg = s.cfg ∧
    (State.setEngine s e st).sticky = s.sticky ∧
    (State.setEngine s e st).view = s.view ∧
    (State.setEngine s e st).powered = s.powered ∧
    (State.setEngine s e st).agt = s.agt ∧
    (State.setEngine s e st).cask = s.cask := by
  have h := State.setEngine_keeps s e st
  exact ⟨h .pending (by decide), h .time (by decide), h .freeCtr (by decide), h .outbox (by decide), h .regs (by decide), h .evt (by decide), h .plat (by decide), h .keeper (by decide), h .chs (by decide), h .cellar (by decide), h .vault (by decide), h .ctl (by decide), h .cntr (by decide), h .tlm (by decide), h .wd0 (by decide), h .clk (by decide), h .host (by decide), h .ident (by decide), h .sealing (by decide), h .crypt (by decide), h .life (by decide), h .side (by decide), h .aux (by decide), State.chan_of (h .chs (by decide)), State.cfg_of (h .regs (by decide)), State.sticky_of (h .regs (by decide)), State.view_of (h .regs (by decide)), State.powered_of (h .plat (by decide)), State.agt_of (h .ctl (by decide)), State.cask_of (h .crypt (by decide))⟩

@[simp] theorem State.setLane_rest (s : State) (l : Nat) (st : EngineSt) :
    (State.setLane s l st).pending = s.pending ∧
    (State.setLane s l st).time = s.time ∧
    (State.setLane s l st).freeCtr = s.freeCtr ∧
    (State.setLane s l st).outbox = s.outbox ∧
    (State.setLane s l st).regs = s.regs ∧
    (State.setLane s l st).evt = s.evt ∧
    (State.setLane s l st).plat = s.plat ∧
    (State.setLane s l st).keeper = s.keeper ∧
    (State.setLane s l st).chs = s.chs ∧
    (State.setLane s l st).cellar = s.cellar ∧
    (State.setLane s l st).press = s.press ∧
    (State.setLane s l st).vault = s.vault ∧
    (State.setLane s l st).ctl = s.ctl ∧
    (State.setLane s l st).cntr = s.cntr ∧
    (State.setLane s l st).tlm = s.tlm ∧
    (State.setLane s l st).wd0 = s.wd0 ∧
    (State.setLane s l st).clk = s.clk ∧
    (State.setLane s l st).host = s.host ∧
    (State.setLane s l st).ident = s.ident ∧
    (State.setLane s l st).sealing = s.sealing ∧
    (State.setLane s l st).life = s.life ∧
    (State.setLane s l st).side = s.side ∧
    (State.setLane s l st).aux = s.aux ∧
    (State.setLane s l st).chan = s.chan ∧
    (State.setLane s l st).cfg = s.cfg ∧
    (State.setLane s l st).sticky = s.sticky ∧
    (State.setLane s l st).view = s.view ∧
    (State.setLane s l st).powered = s.powered ∧
    (State.setLane s l st).agt = s.agt := by
  have h := State.setLane_keeps s l st
  exact ⟨h .pending (by decide), h .time (by decide), h .freeCtr (by decide), h .outbox (by decide), h .regs (by decide), h .evt (by decide), h .plat (by decide), h .keeper (by decide), h .chs (by decide), h .cellar (by decide), h .press (by decide), h .vault (by decide), h .ctl (by decide), h .cntr (by decide), h .tlm (by decide), h .wd0 (by decide), h .clk (by decide), h .host (by decide), h .ident (by decide), h .sealing (by decide), h .life (by decide), h .side (by decide), h .aux (by decide), State.chan_of (h .chs (by decide)), State.cfg_of (h .regs (by decide)), State.sticky_of (h .regs (by decide)), State.view_of (h .regs (by decide)), State.powered_of (h .plat (by decide)), State.agt_of (h .ctl (by decide))⟩

@[simp] theorem State.setPhaseReply_rest (s : State) (side : Bool) (channel : Nat) (phase : Nat) :
    (State.setPhaseReply s side channel phase).1.pending = s.pending ∧
    (State.setPhaseReply s side channel phase).1.time = s.time ∧
    (State.setPhaseReply s side channel phase).1.freeCtr = s.freeCtr ∧
    (State.setPhaseReply s side channel phase).1.outbox = s.outbox ∧
    (State.setPhaseReply s side channel phase).1.regs = s.regs ∧
    (State.setPhaseReply s side channel phase).1.plat = s.plat ∧
    (State.setPhaseReply s side channel phase).1.keeper = s.keeper ∧
    (State.setPhaseReply s side channel phase).1.cellar = s.cellar ∧
    (State.setPhaseReply s side channel phase).1.press = s.press ∧
    (State.setPhaseReply s side channel phase).1.vault = s.vault ∧
    (State.setPhaseReply s side channel phase).1.ctl = s.ctl ∧
    (State.setPhaseReply s side channel phase).1.cntr = s.cntr ∧
    (State.setPhaseReply s side channel phase).1.tlm = s.tlm ∧
    (State.setPhaseReply s side channel phase).1.wd0 = s.wd0 ∧
    (State.setPhaseReply s side channel phase).1.clk = s.clk ∧
    (State.setPhaseReply s side channel phase).1.host = s.host ∧
    (State.setPhaseReply s side channel phase).1.ident = s.ident ∧
    (State.setPhaseReply s side channel phase).1.sealing = s.sealing ∧
    (State.setPhaseReply s side channel phase).1.crypt = s.crypt ∧
    (State.setPhaseReply s side channel phase).1.life = s.life ∧
    (State.setPhaseReply s side channel phase).1.side = s.side ∧
    (State.setPhaseReply s side channel phase).1.aux = s.aux ∧
    (State.setPhaseReply s side channel phase).1.cfg = s.cfg ∧
    (State.setPhaseReply s side channel phase).1.sticky = s.sticky ∧
    (State.setPhaseReply s side channel phase).1.view = s.view ∧
    (State.setPhaseReply s side channel phase).1.powered = s.powered ∧
    (State.setPhaseReply s side channel phase).1.agt = s.agt ∧
    (State.setPhaseReply s side channel phase).1.cask = s.cask := by
  have h := State.setPhaseReply_keeps s side channel phase
  exact ⟨h .pending (by decide), h .time (by decide), h .freeCtr (by decide), h .outbox (by decide), h .regs (by decide), h .plat (by decide), h .keeper (by decide), h .cellar (by decide), h .press (by decide), h .vault (by decide), h .ctl (by decide), h .cntr (by decide), h .tlm (by decide), h .wd0 (by decide), h .clk (by decide), h .host (by decide), h .ident (by decide), h .sealing (by decide), h .crypt (by decide), h .life (by decide), h .side (by decide), h .aux (by decide), State.cfg_of (h .regs (by decide)), State.sticky_of (h .regs (by decide)), State.view_of (h .regs (by decide)), State.powered_of (h .plat (by decide)), State.agt_of (h .ctl (by decide)), State.cask_of (h .crypt (by decide))⟩

@[simp] theorem State.setSpdm_rest (s : State) (n : Ch) (f : SpdmRes → SpdmRes) :
    (State.setSpdm s n f).pending = s.pending ∧
    (State.setSpdm s n f).time = s.time ∧
    (State.setSpdm s n f).freeCtr = s.freeCtr ∧
    (State.setSpdm s n f).outbox = s.outbox ∧
    (State.setSpdm s n f).regs = s.regs ∧
    (State.setSpdm s n f).evt = s.evt ∧
    (State.setSpdm s n f).plat = s.plat ∧
    (State.setSpdm s n f).keeper = s.keeper ∧
    (State.setSpdm s n f).chs = s.chs ∧
    (State.setSpdm s n f).cellar = s.cellar ∧
    (State.setSpdm s n f).press = s.press ∧
    (State.setSpdm s n f).vault = s.vault ∧
    (State.setSpdm s n f).ctl = s.ctl ∧
    (State.setSpdm s n f).cntr = s.cntr ∧
    (State.setSpdm s n f).tlm = s.tlm ∧
    (State.setSpdm s n f).wd0 = s.wd0 ∧
    (State.setSpdm s n f).clk = s.clk ∧
    (State.setSpdm s n f).host = s.host ∧
    (State.setSpdm s n f).sealing = s.sealing ∧
    (State.setSpdm s n f).crypt = s.crypt ∧
    (State.setSpdm s n f).life = s.life ∧
    (State.setSpdm s n f).side = s.side ∧
    (State.setSpdm s n f).aux = s.aux ∧
    (State.setSpdm s n f).chan = s.chan ∧
    (State.setSpdm s n f).cfg = s.cfg ∧
    (State.setSpdm s n f).sticky = s.sticky ∧
    (State.setSpdm s n f).view = s.view ∧
    (State.setSpdm s n f).powered = s.powered ∧
    (State.setSpdm s n f).agt = s.agt ∧
    (State.setSpdm s n f).cask = s.cask := by
  have h := State.setSpdm_keeps s n f
  exact ⟨h .pending (by decide), h .time (by decide), h .freeCtr (by decide), h .outbox (by decide), h .regs (by decide), h .evt (by decide), h .plat (by decide), h .keeper (by decide), h .chs (by decide), h .cellar (by decide), h .press (by decide), h .vault (by decide), h .ctl (by decide), h .cntr (by decide), h .tlm (by decide), h .wd0 (by decide), h .clk (by decide), h .host (by decide), h .sealing (by decide), h .crypt (by decide), h .life (by decide), h .side (by decide), h .aux (by decide), State.chan_of (h .chs (by decide)), State.cfg_of (h .regs (by decide)), State.sticky_of (h .regs (by decide)), State.view_of (h .regs (by decide)), State.powered_of (h .plat (by decide)), State.agt_of (h .ctl (by decide)), State.cask_of (h .crypt (by decide))⟩

@[simp] theorem State.signed_rest (s : State) (key : Nat) (msg : List Byte) :
    (State.signed s key msg).1.pending = s.pending ∧
    (State.signed s key msg).1.time = s.time ∧
    (State.signed s key msg).1.freeCtr = s.freeCtr ∧
    (State.signed s key msg).1.outbox = s.outbox ∧
    (State.signed s key msg).1.regs = s.regs ∧
    (State.signed s key msg).1.plat = s.plat ∧
    (State.signed s key msg).1.keeper = s.keeper ∧
    (State.signed s key msg).1.chs = s.chs ∧
    (State.signed s key msg).1.cellar = s.cellar ∧
    (State.signed s key msg).1.press = s.press ∧
    (State.signed s key msg).1.vault = s.vault ∧
    (State.signed s key msg).1.ctl = s.ctl ∧
    (State.signed s key msg).1.cntr = s.cntr ∧
    (State.signed s key msg).1.tlm = s.tlm ∧
    (State.signed s key msg).1.wd0 = s.wd0 ∧
    (State.signed s key msg).1.clk = s.clk ∧
    (State.signed s key msg).1.host = s.host ∧
    (State.signed s key msg).1.ident = s.ident ∧
    (State.signed s key msg).1.sealing = s.sealing ∧
    (State.signed s key msg).1.life = s.life ∧
    (State.signed s key msg).1.side = s.side ∧
    (State.signed s key msg).1.aux = s.aux ∧
    (State.signed s key msg).1.chan = s.chan ∧
    (State.signed s key msg).1.cfg = s.cfg ∧
    (State.signed s key msg).1.sticky = s.sticky ∧
    (State.signed s key msg).1.view = s.view ∧
    (State.signed s key msg).1.powered = s.powered ∧
    (State.signed s key msg).1.agt = s.agt := by
  have h := State.signed_keeps s key msg
  exact ⟨h .pending (by decide), h .time (by decide), h .freeCtr (by decide), h .outbox (by decide), h .regs (by decide), h .plat (by decide), h .keeper (by decide), h .chs (by decide), h .cellar (by decide), h .press (by decide), h .vault (by decide), h .ctl (by decide), h .cntr (by decide), h .tlm (by decide), h .wd0 (by decide), h .clk (by decide), h .host (by decide), h .ident (by decide), h .sealing (by decide), h .life (by decide), h .side (by decide), h .aux (by decide), State.chan_of (h .chs (by decide)), State.cfg_of (h .regs (by decide)), State.sticky_of (h .regs (by decide)), State.view_of (h .regs (by decide)), State.powered_of (h .plat (by decide)), State.agt_of (h .ctl (by decide))⟩

@[simp] theorem State.signedTwice_rest (s : State) (k1 : Nat) (k2 : Nat) (msg : List Byte) :
    (State.signedTwice s k1 k2 msg).1.pending = s.pending ∧
    (State.signedTwice s k1 k2 msg).1.time = s.time ∧
    (State.signedTwice s k1 k2 msg).1.freeCtr = s.freeCtr ∧
    (State.signedTwice s k1 k2 msg).1.outbox = s.outbox ∧
    (State.signedTwice s k1 k2 msg).1.regs = s.regs ∧
    (State.signedTwice s k1 k2 msg).1.plat = s.plat ∧
    (State.signedTwice s k1 k2 msg).1.keeper = s.keeper ∧
    (State.signedTwice s k1 k2 msg).1.chs = s.chs ∧
    (State.signedTwice s k1 k2 msg).1.cellar = s.cellar ∧
    (State.signedTwice s k1 k2 msg).1.press = s.press ∧
    (State.signedTwice s k1 k2 msg).1.vault = s.vault ∧
    (State.signedTwice s k1 k2 msg).1.ctl = s.ctl ∧
    (State.signedTwice s k1 k2 msg).1.cntr = s.cntr ∧
    (State.signedTwice s k1 k2 msg).1.tlm = s.tlm ∧
    (State.signedTwice s k1 k2 msg).1.wd0 = s.wd0 ∧
    (State.signedTwice s k1 k2 msg).1.clk = s.clk ∧
    (State.signedTwice s k1 k2 msg).1.host = s.host ∧
    (State.signedTwice s k1 k2 msg).1.ident = s.ident ∧
    (State.signedTwice s k1 k2 msg).1.sealing = s.sealing ∧
    (State.signedTwice s k1 k2 msg).1.life = s.life ∧
    (State.signedTwice s k1 k2 msg).1.side = s.side ∧
    (State.signedTwice s k1 k2 msg).1.aux = s.aux ∧
    (State.signedTwice s k1 k2 msg).1.chan = s.chan ∧
    (State.signedTwice s k1 k2 msg).1.cfg = s.cfg ∧
    (State.signedTwice s k1 k2 msg).1.sticky = s.sticky ∧
    (State.signedTwice s k1 k2 msg).1.view = s.view ∧
    (State.signedTwice s k1 k2 msg).1.powered = s.powered ∧
    (State.signedTwice s k1 k2 msg).1.agt = s.agt := by
  have h := State.signedTwice_keeps s k1 k2 msg
  exact ⟨h .pending (by decide), h .time (by decide), h .freeCtr (by decide), h .outbox (by decide), h .regs (by decide), h .plat (by decide), h .keeper (by decide), h .chs (by decide), h .cellar (by decide), h .press (by decide), h .vault (by decide), h .ctl (by decide), h .cntr (by decide), h .tlm (by decide), h .wd0 (by decide), h .clk (by decide), h .host (by decide), h .ident (by decide), h .sealing (by decide), h .life (by decide), h .side (by decide), h .aux (by decide), State.chan_of (h .chs (by decide)), State.cfg_of (h .regs (by decide)), State.sticky_of (h .regs (by decide)), State.view_of (h .regs (by decide)), State.powered_of (h .plat (by decide)), State.agt_of (h .ctl (by decide))⟩

@[simp] theorem State.spdmErr_rest (s : State) (eid : Nat) (tr : Nat) (e : SpdmErr) :
    (State.spdmErr s eid tr e).pending = s.pending ∧
    (State.spdmErr s eid tr e).time = s.time ∧
    (State.spdmErr s eid tr e).freeCtr = s.freeCtr ∧
    (State.spdmErr s eid tr e).regs = s.regs ∧
    (State.spdmErr s eid tr e).evt = s.evt ∧
    (State.spdmErr s eid tr e).plat = s.plat ∧
    (State.spdmErr s eid tr e).keeper = s.keeper ∧
    (State.spdmErr s eid tr e).chs = s.chs ∧
    (State.spdmErr s eid tr e).cellar = s.cellar ∧
    (State.spdmErr s eid tr e).press = s.press ∧
    (State.spdmErr s eid tr e).vault = s.vault ∧
    (State.spdmErr s eid tr e).ctl = s.ctl ∧
    (State.spdmErr s eid tr e).cntr = s.cntr ∧
    (State.spdmErr s eid tr e).tlm = s.tlm ∧
    (State.spdmErr s eid tr e).wd0 = s.wd0 ∧
    (State.spdmErr s eid tr e).clk = s.clk ∧
    (State.spdmErr s eid tr e).host = s.host ∧
    (State.spdmErr s eid tr e).ident = s.ident ∧
    (State.spdmErr s eid tr e).sealing = s.sealing ∧
    (State.spdmErr s eid tr e).crypt = s.crypt ∧
    (State.spdmErr s eid tr e).life = s.life ∧
    (State.spdmErr s eid tr e).aux = s.aux ∧
    (State.spdmErr s eid tr e).chan = s.chan ∧
    (State.spdmErr s eid tr e).cfg = s.cfg ∧
    (State.spdmErr s eid tr e).sticky = s.sticky ∧
    (State.spdmErr s eid tr e).view = s.view ∧
    (State.spdmErr s eid tr e).powered = s.powered ∧
    (State.spdmErr s eid tr e).agt = s.agt ∧
    (State.spdmErr s eid tr e).cask = s.cask := by
  have h := State.spdmErr_keeps s eid tr e
  exact ⟨h .pending (by decide), h .time (by decide), h .freeCtr (by decide), h .regs (by decide), h .evt (by decide), h .plat (by decide), h .keeper (by decide), h .chs (by decide), h .cellar (by decide), h .press (by decide), h .vault (by decide), h .ctl (by decide), h .cntr (by decide), h .tlm (by decide), h .wd0 (by decide), h .clk (by decide), h .host (by decide), h .ident (by decide), h .sealing (by decide), h .crypt (by decide), h .life (by decide), h .aux (by decide), State.chan_of (h .chs (by decide)), State.cfg_of (h .regs (by decide)), State.sticky_of (h .regs (by decide)), State.view_of (h .regs (by decide)), State.powered_of (h .plat (by decide)), State.agt_of (h .ctl (by decide)), State.cask_of (h .crypt (by decide))⟩

@[simp] theorem State.spdmSigned_rest (s : State) (eid : Nat) (tr : Nat) (code : Nat) (body : List Byte) (msg : List Byte) :
    (State.spdmSigned s eid tr code body msg).pending = s.pending ∧
    (State.spdmSigned s eid tr code body msg).time = s.time ∧
    (State.spdmSigned s eid tr code body msg).freeCtr = s.freeCtr ∧
    (State.spdmSigned s eid tr code body msg).regs = s.regs ∧
    (State.spdmSigned s eid tr code body msg).plat = s.plat ∧
    (State.spdmSigned s eid tr code body msg).keeper = s.keeper ∧
    (State.spdmSigned s eid tr code body msg).chs = s.chs ∧
    (State.spdmSigned s eid tr code body msg).cellar = s.cellar ∧
    (State.spdmSigned s eid tr code body msg).press = s.press ∧
    (State.spdmSigned s eid tr code body msg).vault = s.vault ∧
    (State.spdmSigned s eid tr code body msg).ctl = s.ctl ∧
    (State.spdmSigned s eid tr code body msg).cntr = s.cntr ∧
    (State.spdmSigned s eid tr code body msg).tlm = s.tlm ∧
    (State.spdmSigned s eid tr code body msg).wd0 = s.wd0 ∧
    (State.spdmSigned s eid tr code body msg).clk = s.clk ∧
    (State.spdmSigned s eid tr code body msg).host = s.host ∧
    (State.spdmSigned s eid tr code body msg).ident = s.ident ∧
    (State.spdmSigned s eid tr code body msg).sealing = s.sealing ∧
    (State.spdmSigned s eid tr code body msg).life = s.life ∧
    (State.spdmSigned s eid tr code body msg).aux = s.aux ∧
    (State.spdmSigned s eid tr code body msg).chan = s.chan ∧
    (State.spdmSigned s eid tr code body msg).cfg = s.cfg ∧
    (State.spdmSigned s eid tr code body msg).sticky = s.sticky ∧
    (State.spdmSigned s eid tr code body msg).view = s.view ∧
    (State.spdmSigned s eid tr code body msg).powered = s.powered ∧
    (State.spdmSigned s eid tr code body msg).agt = s.agt := by
  have h := State.spdmSigned_keeps s eid tr code body msg
  exact ⟨h .pending (by decide), h .time (by decide), h .freeCtr (by decide), h .regs (by decide), h .plat (by decide), h .keeper (by decide), h .chs (by decide), h .cellar (by decide), h .press (by decide), h .vault (by decide), h .ctl (by decide), h .cntr (by decide), h .tlm (by decide), h .wd0 (by decide), h .clk (by decide), h .host (by decide), h .ident (by decide), h .sealing (by decide), h .life (by decide), h .aux (by decide), State.chan_of (h .chs (by decide)), State.cfg_of (h .regs (by decide)), State.sticky_of (h .regs (by decide)), State.view_of (h .regs (by decide)), State.powered_of (h .plat (by decide)), State.agt_of (h .ctl (by decide))⟩

@[simp] theorem State.suspendInner_rest (s : State) (n : Ch) :
    (State.suspendInner s n).pending = s.pending ∧
    (State.suspendInner s n).time = s.time ∧
    (State.suspendInner s n).freeCtr = s.freeCtr ∧
    (State.suspendInner s n).regs = s.regs ∧
    (State.suspendInner s n).plat = s.plat ∧
    (State.suspendInner s n).keeper = s.keeper ∧
    (State.suspendInner s n).cellar = s.cellar ∧
    (State.suspendInner s n).press = s.press ∧
    (State.suspendInner s n).vault = s.vault ∧
    (State.suspendInner s n).ctl = s.ctl ∧
    (State.suspendInner s n).tlm = s.tlm ∧
    (State.suspendInner s n).wd0 = s.wd0 ∧
    (State.suspendInner s n).clk = s.clk ∧
    (State.suspendInner s n).host = s.host ∧
    (State.suspendInner s n).ident = s.ident ∧
    (State.suspendInner s n).sealing = s.sealing ∧
    (State.suspendInner s n).crypt = s.crypt ∧
    (State.suspendInner s n).life = s.life ∧
    (State.suspendInner s n).side = s.side ∧
    (State.suspendInner s n).aux = s.aux ∧
    (State.suspendInner s n).cfg = s.cfg ∧
    (State.suspendInner s n).sticky = s.sticky ∧
    (State.suspendInner s n).view = s.view ∧
    (State.suspendInner s n).powered = s.powered ∧
    (State.suspendInner s n).agt = s.agt ∧
    (State.suspendInner s n).cask = s.cask := by
  have h := State.suspendInner_keeps s n
  exact ⟨h .pending (by decide), h .time (by decide), h .freeCtr (by decide), h .regs (by decide), h .plat (by decide), h .keeper (by decide), h .cellar (by decide), h .press (by decide), h .vault (by decide), h .ctl (by decide), h .tlm (by decide), h .wd0 (by decide), h .clk (by decide), h .host (by decide), h .ident (by decide), h .sealing (by decide), h .crypt (by decide), h .life (by decide), h .side (by decide), h .aux (by decide), State.cfg_of (h .regs (by decide)), State.sticky_of (h .regs (by decide)), State.view_of (h .regs (by decide)), State.powered_of (h .plat (by decide)), State.agt_of (h .ctl (by decide)), State.cask_of (h .crypt (by decide))⟩

@[simp] theorem State.updOpen_rest (s : State) (f : Epoch → Epoch) :
    (State.updOpen s f).pending = s.pending ∧
    (State.updOpen s f).time = s.time ∧
    (State.updOpen s f).freeCtr = s.freeCtr ∧
    (State.updOpen s f).outbox = s.outbox ∧
    (State.updOpen s f).regs = s.regs ∧
    (State.updOpen s f).evt = s.evt ∧
    (State.updOpen s f).plat = s.plat ∧
    (State.updOpen s f).keeper = s.keeper ∧
    (State.updOpen s f).chs = s.chs ∧
    (State.updOpen s f).cellar = s.cellar ∧
    (State.updOpen s f).press = s.press ∧
    (State.updOpen s f).vault = s.vault ∧
    (State.updOpen s f).ctl = s.ctl ∧
    (State.updOpen s f).cntr = s.cntr ∧
    (State.updOpen s f).tlm = s.tlm ∧
    (State.updOpen s f).wd0 = s.wd0 ∧
    (State.updOpen s f).clk = s.clk ∧
    (State.updOpen s f).host = s.host ∧
    (State.updOpen s f).ident = s.ident ∧
    (State.updOpen s f).crypt = s.crypt ∧
    (State.updOpen s f).life = s.life ∧
    (State.updOpen s f).side = s.side ∧
    (State.updOpen s f).aux = s.aux ∧
    (State.updOpen s f).chan = s.chan ∧
    (State.updOpen s f).cfg = s.cfg ∧
    (State.updOpen s f).sticky = s.sticky ∧
    (State.updOpen s f).view = s.view ∧
    (State.updOpen s f).powered = s.powered ∧
    (State.updOpen s f).agt = s.agt ∧
    (State.updOpen s f).cask = s.cask := by
  have h := State.updOpen_keeps s f
  exact ⟨h .pending (by decide), h .time (by decide), h .freeCtr (by decide), h .outbox (by decide), h .regs (by decide), h .evt (by decide), h .plat (by decide), h .keeper (by decide), h .chs (by decide), h .cellar (by decide), h .press (by decide), h .vault (by decide), h .ctl (by decide), h .cntr (by decide), h .tlm (by decide), h .wd0 (by decide), h .clk (by decide), h .host (by decide), h .ident (by decide), h .crypt (by decide), h .life (by decide), h .side (by decide), h .aux (by decide), State.chan_of (h .chs (by decide)), State.cfg_of (h .regs (by decide)), State.sticky_of (h .regs (by decide)), State.view_of (h .regs (by decide)), State.powered_of (h .plat (by decide)), State.agt_of (h .ctl (by decide)), State.cask_of (h .crypt (by decide))⟩

@[simp] theorem State.vaultPartFailed_rest (s : State) (k : PartId) :
    (State.vaultPartFailed s k).pending = s.pending ∧
    (State.vaultPartFailed s k).time = s.time ∧
    (State.vaultPartFailed s k).outbox = s.outbox ∧
    (State.vaultPartFailed s k).regs = s.regs ∧
    (State.vaultPartFailed s k).chs = s.chs ∧
    (State.vaultPartFailed s k).cellar = s.cellar ∧
    (State.vaultPartFailed s k).press = s.press ∧
    (State.vaultPartFailed s k).ctl = s.ctl ∧
    (State.vaultPartFailed s k).cntr = s.cntr ∧
    (State.vaultPartFailed s k).tlm = s.tlm ∧
    (State.vaultPartFailed s k).wd0 = s.wd0 ∧
    (State.vaultPartFailed s k).clk = s.clk ∧
    (State.vaultPartFailed s k).host = s.host ∧
    (State.vaultPartFailed s k).ident = s.ident ∧
    (State.vaultPartFailed s k).sealing = s.sealing ∧
    (State.vaultPartFailed s k).crypt = s.crypt ∧
    (State.vaultPartFailed s k).life = s.life ∧
    (State.vaultPartFailed s k).side = s.side ∧
    (State.vaultPartFailed s k).aux = s.aux ∧
    (State.vaultPartFailed s k).chan = s.chan ∧
    (State.vaultPartFailed s k).cfg = s.cfg ∧
    (State.vaultPartFailed s k).sticky = s.sticky ∧
    (State.vaultPartFailed s k).view = s.view ∧
    (State.vaultPartFailed s k).agt = s.agt ∧
    (State.vaultPartFailed s k).cask = s.cask := by
  have h := State.vaultPartFailed_keeps s k
  exact ⟨h .pending (by decide), h .time (by decide), h .outbox (by decide), h .regs (by decide), h .chs (by decide), h .cellar (by decide), h .press (by decide), h .ctl (by decide), h .cntr (by decide), h .tlm (by decide), h .wd0 (by decide), h .clk (by decide), h .host (by decide), h .ident (by decide), h .sealing (by decide), h .crypt (by decide), h .life (by decide), h .side (by decide), h .aux (by decide), State.chan_of (h .chs (by decide)), State.cfg_of (h .regs (by decide)), State.sticky_of (h .regs (by decide)), State.view_of (h .regs (by decide)), State.agt_of (h .ctl (by decide)), State.cask_of (h .crypt (by decide))⟩

@[simp] theorem State.windowEnd_rest (s : State) (p : Nat) (bits : List Nat) :
    (State.windowEnd s p bits).pending = s.pending ∧
    (State.windowEnd s p bits).time = s.time ∧
    (State.windowEnd s p bits).freeCtr = s.freeCtr ∧
    (State.windowEnd s p bits).outbox = s.outbox ∧
    (State.windowEnd s p bits).plat = s.plat ∧
    (State.windowEnd s p bits).keeper = s.keeper ∧
    (State.windowEnd s p bits).chs = s.chs ∧
    (State.windowEnd s p bits).cellar = s.cellar ∧
    (State.windowEnd s p bits).press = s.press ∧
    (State.windowEnd s p bits).vault = s.vault ∧
    (State.windowEnd s p bits).ctl = s.ctl ∧
    (State.windowEnd s p bits).cntr = s.cntr ∧
    (State.windowEnd s p bits).tlm = s.tlm ∧
    (State.windowEnd s p bits).wd0 = s.wd0 ∧
    (State.windowEnd s p bits).clk = s.clk ∧
    (State.windowEnd s p bits).host = s.host ∧
    (State.windowEnd s p bits).ident = s.ident ∧
    (State.windowEnd s p bits).sealing = s.sealing ∧
    (State.windowEnd s p bits).crypt = s.crypt ∧
    (State.windowEnd s p bits).life = s.life ∧
    (State.windowEnd s p bits).side = s.side ∧
    (State.windowEnd s p bits).aux = s.aux ∧
    (State.windowEnd s p bits).chan = s.chan ∧
    (State.windowEnd s p bits).powered = s.powered ∧
    (State.windowEnd s p bits).agt = s.agt ∧
    (State.windowEnd s p bits).cask = s.cask := by
  have h := State.windowEnd_keeps s p bits
  exact ⟨h .pending (by decide), h .time (by decide), h .freeCtr (by decide), h .outbox (by decide), h .plat (by decide), h .keeper (by decide), h .chs (by decide), h .cellar (by decide), h .press (by decide), h .vault (by decide), h .ctl (by decide), h .cntr (by decide), h .tlm (by decide), h .wd0 (by decide), h .clk (by decide), h .host (by decide), h .ident (by decide), h .sealing (by decide), h .crypt (by decide), h .life (by decide), h .side (by decide), h .aux (by decide), State.chan_of (h .chs (by decide)), State.powered_of (h .plat (by decide)), State.agt_of (h .ctl (by decide)), State.cask_of (h .crypt (by decide))⟩

@[simp] theorem State.writeIgnored_rest (s : State) (t : Txn) (v : Nat) :
    (State.writeIgnored s t v).pending = s.pending ∧
    (State.writeIgnored s t v).time = s.time ∧
    (State.writeIgnored s t v).freeCtr = s.freeCtr ∧
    (State.writeIgnored s t v).outbox = s.outbox ∧
    (State.writeIgnored s t v).regs = s.regs ∧
    (State.writeIgnored s t v).plat = s.plat ∧
    (State.writeIgnored s t v).keeper = s.keeper ∧
    (State.writeIgnored s t v).cellar = s.cellar ∧
    (State.writeIgnored s t v).press = s.press ∧
    (State.writeIgnored s t v).vault = s.vault ∧
    (State.writeIgnored s t v).ctl = s.ctl ∧
    (State.writeIgnored s t v).cntr = s.cntr ∧
    (State.writeIgnored s t v).tlm = s.tlm ∧
    (State.writeIgnored s t v).wd0 = s.wd0 ∧
    (State.writeIgnored s t v).clk = s.clk ∧
    (State.writeIgnored s t v).host = s.host ∧
    (State.writeIgnored s t v).ident = s.ident ∧
    (State.writeIgnored s t v).sealing = s.sealing ∧
    (State.writeIgnored s t v).crypt = s.crypt ∧
    (State.writeIgnored s t v).life = s.life ∧
    (State.writeIgnored s t v).side = s.side ∧
    (State.writeIgnored s t v).aux = s.aux ∧
    (State.writeIgnored s t v).cfg = s.cfg ∧
    (State.writeIgnored s t v).sticky = s.sticky ∧
    (State.writeIgnored s t v).view = s.view ∧
    (State.writeIgnored s t v).powered = s.powered ∧
    (State.writeIgnored s t v).agt = s.agt ∧
    (State.writeIgnored s t v).cask = s.cask := by
  have h := State.writeIgnored_keeps s t v
  exact ⟨h .pending (by decide), h .time (by decide), h .freeCtr (by decide), h .outbox (by decide), h .regs (by decide), h .plat (by decide), h .keeper (by decide), h .cellar (by decide), h .press (by decide), h .vault (by decide), h .ctl (by decide), h .cntr (by decide), h .tlm (by decide), h .wd0 (by decide), h .clk (by decide), h .host (by decide), h .ident (by decide), h .sealing (by decide), h .crypt (by decide), h .life (by decide), h .side (by decide), h .aux (by decide), State.cfg_of (h .regs (by decide)), State.sticky_of (h .regs (by decide)), State.view_of (h .regs (by decide)), State.powered_of (h .plat (by decide)), State.agt_of (h .ctl (by decide)), State.cask_of (h .crypt (by decide))⟩

@[simp] theorem State.writeArray_rest (s : State) (t : Txn) (kind : OpKind) (r : Range) (phaseOk : Bool) (payload : List Byte) :
    (State.writeArray s t kind r phaseOk payload).pending = s.pending ∧
    (State.writeArray s t kind r phaseOk payload).time = s.time ∧
    (State.writeArray s t kind r phaseOk payload).freeCtr = s.freeCtr ∧
    (State.writeArray s t kind r phaseOk payload).regs = s.regs ∧
    (State.writeArray s t kind r phaseOk payload).keeper = s.keeper ∧
    (State.writeArray s t kind r phaseOk payload).cellar = s.cellar ∧
    (State.writeArray s t kind r phaseOk payload).press = s.press ∧
    (State.writeArray s t kind r phaseOk payload).vault = s.vault ∧
    (State.writeArray s t kind r phaseOk payload).ctl = s.ctl ∧
    (State.writeArray s t kind r phaseOk payload).tlm = s.tlm ∧
    (State.writeArray s t kind r phaseOk payload).wd0 = s.wd0 ∧
    (State.writeArray s t kind r phaseOk payload).clk = s.clk ∧
    (State.writeArray s t kind r phaseOk payload).host = s.host ∧
    (State.writeArray s t kind r phaseOk payload).ident = s.ident ∧
    (State.writeArray s t kind r phaseOk payload).sealing = s.sealing ∧
    (State.writeArray s t kind r phaseOk payload).crypt = s.crypt ∧
    (State.writeArray s t kind r phaseOk payload).life = s.life ∧
    (State.writeArray s t kind r phaseOk payload).side = s.side ∧
    (State.writeArray s t kind r phaseOk payload).aux = s.aux ∧
    (State.writeArray s t kind r phaseOk payload).cfg = s.cfg ∧
    (State.writeArray s t kind r phaseOk payload).sticky = s.sticky ∧
    (State.writeArray s t kind r phaseOk payload).view = s.view ∧
    (State.writeArray s t kind r phaseOk payload).agt = s.agt ∧
    (State.writeArray s t kind r phaseOk payload).cask = s.cask := by
  have h := State.writeArray_keeps s t kind r phaseOk payload
  exact ⟨h .pending (by decide), h .time (by decide), h .freeCtr (by decide), h .regs (by decide), h .keeper (by decide), h .cellar (by decide), h .press (by decide), h .vault (by decide), h .ctl (by decide), h .tlm (by decide), h .wd0 (by decide), h .clk (by decide), h .host (by decide), h .ident (by decide), h .sealing (by decide), h .crypt (by decide), h .life (by decide), h .side (by decide), h .aux (by decide), State.cfg_of (h .regs (by decide)), State.sticky_of (h .regs (by decide)), State.view_of (h .regs (by decide)), State.agt_of (h .ctl (by decide)), State.cask_of (h .crypt (by decide))⟩

end Sys2Proof.Machine
end

