-- ==== Sys2Proof/Laws/Chan.lean ====
section
/-! SUPPORT. Laws/Chan.lean: reading a channel after a change to one. -/

namespace Sys2Proof.Machine

/-! ## A state written out by its components (for simp only: with these, chan, agt, cfg and sticky stay folded) -/

theorem State.chan_mk {x0 x1 x2 x3 x4 x5 x6 x7 x8 x9 x10 x11 x12 x13 x14 x15 x16 x17 x18 x19 x20 x21 x22 x23} (n : Ch) : (State.mk x0 x1 x2 x3 x4 x5 x6 x7 x8 x9 x10 x11 x12 x13 x14 x15 x16 x17 x18 x19 x20 x21 x22 x23).chan n = x8[n.val] := rfl
theorem State.chs_get (s : State) (n : Ch) : s.chs[n.val] = s.chan n := rfl
theorem State.agt_mk {x0 x1 x2 x3 x4 x5 x6 x7 x8 x9 x10 x11 x12 x13 x14 x15 x16 x17 x18 x19 x20 x21 x22 x23} (n : Ch) : (State.mk x0 x1 x2 x3 x4 x5 x6 x7 x8 x9 x10 x11 x12 x13 x14 x15 x16 x17 x18 x19 x20 x21 x22 x23).agt n = x12.agents[n.val] := rfl
theorem State.agents_get (s : State) (n : Ch) : s.ctl.agents[n.val] = s.agt n := rfl
theorem State.cfg_mk {x0 x1 x2 x3 x4 x5 x6 x7 x8 x9 x10 x11 x12 x13 x14 x15 x16 x17 x18 x19 x20 x21 x22 x23} (k : Nat) : (State.mk x0 x1 x2 x3 x4 x5 x6 x7 x8 x9 x10 x11 x12 x13 x14 x15 x16 x17 x18 x19 x20 x21 x22 x23).cfg k = storeGet regReset x4.active k := rfl
theorem State.active_get (s : State) (k : Nat) : storeGet regReset s.regs.active k = s.cfg k := rfl
theorem State.sticky_mk {x0 x1 x2 x3 x4 x5 x6 x7 x8 x9 x10 x11 x12 x13 x14 x15 x16 x17 x18 x19 x20 x21 x22 x23} (k : Nat) : (State.mk x0 x1 x2 x3 x4 x5 x6 x7 x8 x9 x10 x11 x12 x13 x14 x15 x16 x17 x18 x19 x20 x21 x22 x23).sticky k = storeGet zeroDefault x4.sticky k := rfl
theorem State.sticky_get (s : State) (k : Nat) : storeGet zeroDefault s.regs.sticky k = s.sticky k := rfl

/-! ## One channel changed -/

@[simp] theorem State.setChan_same (s : State) (n : Ch) (c : Chan) : (s.setChan n c).chan n = c := by
  simp [State.setChan, State.chan]

theorem State.setChan_other (s : State) (n m : Ch) (c : Chan) (h : m ≠ n) : (s.setChan n c).chan m = s.chan m := by
  have h : n.val ≠ m.val := fun e => h (Fin.ext e.symm)
  simp [State.setChan, State.chan, Vector.getElem_set_ne _ _ h]

@[simp] theorem State.updChan_same (s : State) (n : Ch) (f : Chan → Chan) : (s.updChan n f).chan n = f (s.chan n) := by
  simp [State.updChan]

theorem State.updChan_other (s : State) (n m : Ch) (f : Chan → Chan) (h : m ≠ n) : (s.updChan n f).chan m = s.chan m :=
  s.setChan_other n m _ h

@[simp] theorem State.updPort_same (s : State) (n : Ch) (f : Port → Port) :
    (s.updPort n f).chan n = { s.chan n with port := f (s.chan n).port } := by
  simp [State.updPort]

theorem State.updPort_other (s : State) (n m : Ch) (f : Port → Port) (h : m ≠ n) : (s.updPort n f).chan m = s.chan m :=
  s.updChan_other n m _ h

/-- A change that leaves the channels alone leaves each channel. -/
theorem State.chan_congr {s t : State} (h : t.chs = s.chs) (n : Ch) : t.chan n = s.chan n := by
  simp [State.chan, h]

/-- The gate lets a transaction through that reaches its class's effect (R69, R73). -/
theorem State.gate_listed {s : State} {t : Txn} {cls : Nat} {e : Word} (h : s.admits t cls e) (k : Word → Bool → State → State) :
    s.gate t cls k = k e true ((s.updPort t.ch (fun p => { p with rstEn := false })).cnt t.ch 0 1) := by
  obtain ⟨h1, h2, h3, h4⟩ := h
  simp [State.gate, h1, h2, h3, h4]

end Sys2Proof.Machine
end

