-- ==== Sys2Proof/Laws/Answers.lean ====
section
/-! SUPPORT. Laws/Answers.lean: that an admin command's work ends in its completion, and what leaves toward the outside. -/

namespace Sys2Proof.Machine

/-! ## What has left stays left -/

/-- The messages of one state are the first of another's. -/
def State.sent (s u : State) : Prop := ∃ l, u.outbox = s.outbox ++ l

theorem State.sent.refl {s : State} : s.sent s := ⟨[], by simp⟩
theorem State.sent.trans {s t u : State} (h : s.sent t) (k : t.sent u) : s.sent u := by
  obtain ⟨l, h⟩ := h
  obtain ⟨m, k⟩ := k
  exact ⟨l ++ m, by rw [k, h, List.append_assoc]⟩
theorem State.sent.of_eq {s t u : State} (h : s.sent t) (k : u.outbox = t.outbox) : s.sent u := by
  obtain ⟨l, h⟩ := h
  exact ⟨l, by rw [k, h]⟩
theorem State.sent.sends {s t : State} (h : s.sent t) (o : Out) : s.sends (t.emit o) o := by
  obtain ⟨l, h⟩ := h
  exact ⟨l ++ [o], by simp [State.emit, h], by simp⟩
theorem State.sends.trans {s t u : State} {o : Out} (h : s.sends t o) (k : t.sent u) : s.sends u o := by
  obtain ⟨l, h, m⟩ := h
  obtain ⟨l2, k⟩ := k
  exact ⟨l ++ l2, by rw [k, h, List.append_assoc], List.mem_append_left _ m⟩
theorem State.sends.of_eq {s t u : State} {o : Out} (h : s.sends t o) (k : u.outbox = t.outbox) : s.sends u o :=
  h.trans (State.sent.refl.of_eq k)
theorem State.sent.then {s t u : State} {o : Out} (h : s.sent t) (k : t.sends u o) : s.sends u o := by
  obtain ⟨l, h⟩ := h
  obtain ⟨l2, k, m⟩ := k
  exact ⟨l ++ l2, by rw [k, h, List.append_assoc], List.mem_append_right _ m⟩

theorem State.emit_sent (s : State) (o : Out) : s.sent (s.emit o) := ⟨[o], rfl⟩
theorem State.msi_sent (s : State) (v : Nat) : s.sent (s.msi v) := by
  unfold State.msi
  split
  · extract_lets e
    split
    · exact State.sent.refl.of_eq rfl
    · exact (State.sent.refl.of_eq (by simp)).trans (State.emit_sent _ _)
  · exact .refl
theorem State.hostWrite_sends (s : State) (a : Nat) (bs : List Byte) : s.sends (s.hostWrite a bs) (.hostWrite a bs) := by
  unfold State.hostWrite
  exact ((State.sent.refl.of_eq (by simp)).sends _).of_eq rfl
theorem State.hostWrite_sent (s : State) (a : Nat) (bs : List Byte) : s.sent (s.hostWrite a bs) := by
  obtain ⟨l, h, _⟩ := s.hostWrite_sends a bs
  exact ⟨l, h⟩
theorem State.qWrite_sent (s : State) (q b : Nat) (n : Bool) (e : Bool → List Byte) : s.sent (s.qWrite q b n e) := by
  unfold State.qWrite
  extract_lets z t c k fire v
  have h : s.sent v := State.sent.of_eq (t := t) (s.hostWrite_sent _ _) (by simp [v])
  split
  · exact h.trans (State.msi_sent _ _)
  · exact h
theorem State.sendCpl_sent (s : State) (r : Retained) : s.sent (s.sendCpl r).1 := by
  unfold State.sendCpl
  by_cases h : s.cplGoes r = true
  · simp only [h, if_true]
    exact State.qWrite_sent s r.cq 32 r.noint _
  · simp only [h, if_false, Bool.false_eq_true]
    exact .refl
theorem State.sendCpl_cpl (s : State) (r : Retained) : (s.sendCpl r).2.cpl = r.cpl ∧ (s.sendCpl r).2.cq = r.cq := by
  unfold State.sendCpl
  split <;> exact ⟨rfl, rfl⟩
theorem State.postCpl_sent (s : State) (q : Nat) (c : Cpl) (n : Bool) (x : Option (Nat × List Byte)) : s.sent (s.postCpl q c n x) :=
  (s.sendCpl_sent _).of_eq rfl
theorem State.completeCmd_sent (s : State) (f : Fetched) (r : Reply) : s.sent (s.completeCmd f r) := by
  unfold State.completeCmd
  split
  · exact .refl
  · extract_lets a b
    exact (State.sent.refl.of_eq (t := s) (u := b) (by
      simp only [b, a]
      split <;> simp [State.dropFetched])).trans (State.postCpl_sent _ _ _ _ _)

/-! ## The completion -/

theorem State.postCpl_retained (s : State) (q : Nat) (c : Cpl) (n : Bool) (x : Option (Nat × List Byte)) :
    ∃ y ∈ (s.postCpl q c n x).host.retained, y.cq = q + 1 ∧ y.cpl = c := by
  refine ⟨(s.sendCpl { cq := q + 1, cpl := c, receipt := x, noint := n, sent := false, replay := false }).2, ?_, ?_⟩
  · simp [State.postCpl]
  · exact ⟨(State.sendCpl_cpl _ _).2, (State.sendCpl_cpl _ _).1⟩

/-- A command that is still fetched is answered by its completion. -/
theorem State.completeCmd_answered (s : State) (f : Fetched) (r : Reply) (h : f ∈ s.host.fetched) : (s.completeCmd f r).answered f r := by
  unfold State.completeCmd
  rw [if_neg (by simp [h])]
  extract_lets a b
  obtain ⟨y, m, e, k⟩ := b.postCpl_retained f.q
    { cid := f.cid, sqid := f.q, sqhead := f.head, status := r.st, detail := r.detail, result := r.result } f.noint none
  exact ⟨y, m, e, by rw [k], by rw [k], by rw [k], by rw [k], by rw [k]⟩

theorem State.adminHead_mem {s : State} {cid op : Nat} {f : Fetched} (h : s.adminHead cid op = some f) :
    f ∈ s.host.fetched ∧ f.q = 0 ∧ f.cid = cid := by
  unfold State.adminHead at h
  split at h
  · next g e =>
    split at h
    · next c =>
      cases h
      exact ⟨List.mem_of_find?_eq_some e, by simpa using List.find?_some e, c.1⟩
    · cases h
  · cases h

/-- A command that the Steward takes is worked and completed. -/
theorem State.admin_takes {s : State} {cid op : Nat} {f : Fetched} (h : s.takes cid op f) (k : State → State × Reply) :
    s.admin cid op k = (k s).1.completeCmd f (k s).2 := by
  obtain ⟨a, b, c, d, e⟩ := h
  simp [State.admin, a, b, c, d, e]

/-- … and answered, where its work has left the fetched commands alone. -/
theorem State.admin_answered {s : State} {cid op : Nat} {f : Fetched} (h : s.takes cid op f) (k : State → State × Reply)
    (e : (k s).1.host.fetched = s.host.fetched) : (s.admin cid op k).answered f (k s).2 := by
  rw [State.admin_takes h]
  exact State.completeCmd_answered _ _ _ (by rw [e]; exact (State.adminHead_mem h.1).1)

end Sys2Proof.Machine
end

