-- ==== Sys2Proof/Laws/FrameRows.lean ====
section
/-! SUPPORT. Laws/FrameRows.lean: for each command, the components of the state its meaning may change. -/

namespace Sys2Proof.Machine

theorem execCommitGo_keeps {q : Req} {mask : Word} {s s' : State} (h : execCommitGo q mask s = .next s') : s.sameBut s' [.regs, .evt] := by
  unfold execCommitGo at h
  refine .of_next ?_ h
  clear h
  refine .ite ?_ ?_
  · refine .step ?_ (State.commitGo_keeps _ _ _) rfl
    exact .refl
  · exact .refl

theorem execCommitDiscard_keeps {q : Req} {mask : Word} {s s' : State} (h : execCommitDiscard q mask s = .next s') : s.sameBut s' [.regs] := by
  unfold execCommitDiscard at h
  refine .of_next ?_ h
  clear h
  refine .ite ?_ ?_
  · refine .step ?_ (State.discard_keeps _ _ _) rfl
    exact .refl
  · exact .refl

theorem execLowHalfRead_keeps {q : Req} {off : Nat} {hi : Bool} {s s' : State} (h : execLowHalfRead q off hi s = .next s') :
    s.sameBut s' [.freeCtr, .outbox, .regs, .evt] := by
  refine State.access_keeps (k := fun s => if hi then (s.busRead q (off / 4 * 4)).busRead q (off / 4 * 4 + 4)
    else s.busRead q (off / 4 * 4)) ?_ rfl h
  exact .ite (.step (.mono (State.busRead_keeps _ _ _) rfl) (State.busRead_keeps _ _ _) rfl) (.mono (State.busRead_keeps _ _ _) rfl)

theorem execRcRead_keeps {q : Req} {n : Ch} {s s' : State} (h : execRcRead q n s = .next s') : s.sameBut s' [.freeCtr, .outbox, .regs, .evt] := by
  unfold execRcRead at h
  exact .mono (State.accessRead_keeps h) rfl

theorem execSnapshot_keeps {cid : Nat} {len : Nat} {mask : Nat} {addr : Nat} {s s' : State} (h : execSnapshot cid len mask addr s = .next s') : s.sameBut s' [.freeCtr, .outbox, .regs, .evt, .cntr, .tlm, .host] := by
  unfold execSnapshot at h
  refine .of_next ?_ h
  clear h
  refine State.admin_keeps _ _ _ _ (fun _ _ => ?_) ?_ rfl
  · extract_lets +onlyGivenNames x1
    clear_value x1
    refine .ite_fst ?_ ?_
    · refine .fst_mk ?_
      assumption
    · refine .ite_fst ?_ ?_
      · refine .fst_mk ?_
        assumption
      · refine .ite_fst ?_ ?_
        · refine .fst_mk ?_
          assumption
        · refine .fst_mk ?_
          refine .step ?_ (State.bumpFree_keeps _) rfl
          refine .step ?_ (State.hostWrite_keeps _ _ _) rfl
          assumption
  · exact .refl

theorem execLedgerViolation_keeps {l : Law} {s s' : State} (h : execLedgerViolation l s = .next s') : s.sameBut s' [.freeCtr, .outbox, .regs, .evt, .plat, .keeper, .chs, .cellar, .press, .vault, .ctl, .cntr, .tlm, .host, .ident, .sealing, .crypt, .life] := by
  unfold execLedgerViolation at h
  refine .of_next ?_ h
  clear h
  refine .ite ?_ ?_
  · exact .refl
  · refine .ite ?_ ?_
    · refine .step ?_ (State.fatalLedger_keeps _) rfl
      exact .refl
    · split
      · refine .step ?_ (State.ledgerRecover_keeps _) rfl
        refine .step ?_ (State.raise_keeps _ _ _) rfl
        exact .refl
      · refine .step ?_ (State.ledgerRecover_keeps _) rfl
        refine .step ?_ (State.raise_keeps _ _ _) rfl
        exact .refl
      · extract_lets +onlyGivenNames x1
        refine .letS x1 ?_ (fun hx1 => ?_)
        · unfold x1
          refine .step ?_ (State.raise_keeps _ _ _) rfl
          exact .refl
        clear_value x1
        split
        · refine .step ?_ (State.bankFails_keeps _ _) rfl
          assumption
        · refine .ite ?_ ?_
          · refine .step ?_ (State.raiseAt_keeps _ _ _ _) rfl
            refine .step ?_ (State.sameBut.cellar _) rfl
            assumption
          · assumption
      · refine .step ?_ (State.setEngine_keeps _ _ _) rfl
        refine .step ?_ (State.raise_keeps _ _ _) rfl
        exact .refl
      · refine .step ?_ (State.queueFault_keeps _ _) rfl
        refine .step ?_ (State.raise_keeps _ _ _) rfl
        exact .refl
      · refine .step ?_ (State.degrade_keeps _ _) rfl
        refine .step ?_ (State.raise_keeps _ _ _) rfl
        exact .refl
      · refine .step ?_ (State.setEngine_keeps _ _ _) rfl
        refine .step ?_ (State.raise_keeps _ _ _) rfl
        exact .refl
      · refine .step ?_ (State.setLane_keeps _ _ _) rfl
        refine .step ?_ (State.raise_keeps _ _ _) rfl
        exact .refl
      · refine .step ?_ (State.streamFault_keeps _ _) rfl
        refine .step ?_ (State.raise_keeps _ _ _) rfl
        exact .refl
      · refine .ite ?_ ?_
        · exact .refl
        · refine .ite ?_ ?_
          · refine .step ?_ (State.raise_keeps _ _ _) rfl
            exact .refl
          · refine .step ?_ (State.quarantine_keeps _ _ _) rfl
            refine .step ?_ (State.raise_keeps _ _ _) rfl
            exact .refl

theorem execBankUncorrectable_keeps {b : Fin 16} {bad : List Nat} {s s' : State} (h : execBankUncorrectable b bad s = .next s') : s.sameBut s' [.freeCtr, .outbox, .regs, .evt, .plat, .keeper, .chs, .cellar, .press, .vault, .ctl, .ident] := by
  unfold execBankUncorrectable at h
  refine .of_next ?_ h
  clear h
  refine .ite ?_ ?_
  · extract_lets +onlyGivenNames x1
    clear_value x1
    extract_lets +onlyGivenNames x2
    refine .letS x2 ?_ (fun hx2 => ?_)
    · unfold x2
      refine .step ?_ (State.sameBut.cellar _) rfl
      exact .refl
    clear_value x2
    refine .step ?_ (State.bankFails_keeps _ _) rfl
    refine .step ?_ (State.recheckSets_keeps _) rfl
    refine .step ?_ (State.freeFrames_keeps _ _) rfl
    assumption
  · exact .refl

theorem execBankCopyComplete_keeps {bad : List Nat} {s s' : State} (h : execBankCopyComplete bad s = .next s') : s.sameBut s' [.evt, .chs, .cellar] := by
  unfold execBankCopyComplete at h
  refine .of_next ?_ h
  clear h
  split
  · extract_lets +onlyGivenNames x1
    clear_value x1
    extract_lets +onlyGivenNames x2
    refine .letS x2 ?_ (fun hx2 => ?_)
    · unfold x2
      refine .step ?_ (State.sameBut.cellar _) rfl
      exact .refl
    clear_value x2
    refine .step ?_ (State.raiseAt_keeps _ _ _ _) rfl
    refine .step ?_ (State.recheckSets_keeps _) rfl
    refine .step ?_ (State.freeFrames_keeps _ _) rfl
    assumption
  · exact .refl

theorem execCellarScrubPass_keeps  {s s' : State} (h : execCellarScrubPass s = .next s') : s.sameBut s' [] := by
  unfold execCellarScrubPass at h
  refine .of_next ?_ h
  clear h
  exact .refl

theorem execMemtestBank_keeps {ok : Bool} {s s' : State} (h : execMemtestBank ok s = .next s') : s.sameBut s' [.freeCtr, .outbox, .regs, .evt, .plat, .keeper, .chs, .cellar, .press, .vault, .ctl, .cntr, .tlm, .host, .ident, .sealing, .crypt, .life] := by
  unfold execMemtestBank at h
  refine .of_next ?_ h
  clear h
  split
  · exact .refl
  · refine .ite ?_ ?_
    · exact .refl
    · refine .ite ?_ ?_
      · extract_lets +onlyGivenNames x1
        clear_value x1
        split
        · refine .step ?_ (State.sameBut.cellar _) rfl
          exact .refl
        · refine .step ?_ (State.sameBut.cellar _) rfl
          exact .refl
      · refine .ite ?_ ?_
        · refine .step ?_ (State.fatalLedger_keeps _) rfl
          exact .refl
        · refine .step ?_ (State.raiseAt_keeps _ _ _ _) rfl
          refine .step ?_ (State.sameBut.cellar _) rfl
          exact .refl

theorem execMainPowerGoodRise_keeps {addrSel : Nat} {strap : Nat} {perst : Bool} {halt : Bool} {s s' : State} (h : execMainPowerGoodRise addrSel strap perst halt s = .next s') : s.sameBut s' [.freeCtr, .regs, .evt, .plat, .keeper, .chs, .cellar, .press, .vault, .ctl, .cntr, .tlm, .wd0, .clk, .host, .ident, .sealing, .crypt, .life, .side, .aux] := by
  unfold execMainPowerGoodRise at h
  refine .of_next ?_ h
  clear h
  refine .ite ?_ ?_
  · exact .refl
  · extract_lets +onlyGivenNames x1
    clear_value x1
    extract_lets +onlyGivenNames x2
    clear_value x2
    extract_lets +onlyGivenNames x3
    clear_value x3
    extract_lets +onlyGivenNames x4
    refine .letS x4 ?_ (fun hx4 => ?_)
    · unfold x4
      refine .step ?_ (State.sameBut.plat_keeper_side _ _ _) rfl
      exact .refl
    clear_value x4
    refine .step ?_ (State.start_keeps _ _ _ _) rfl
    assumption

theorem execMainPowerGoodFall_keeps  {s s' : State} (h : execMainPowerGoodFall s = .next s') : s.sameBut s' [.plat, .keeper] := by
  unfold execMainPowerGoodFall at h
  refine .of_next ?_ h
  clear h
  refine .ite ?_ ?_
  · refine .step ?_ (State.sameBut.plat_keeper _ _) rfl
    exact .refl
  · exact .refl

theorem execPllLock_keeps  {s s' : State} (h : execPllLock s = .next s') : s.sameBut s' [.freeCtr, .outbox, .regs, .evt, .plat, .keeper, .chs, .cellar, .press, .vault, .ctl, .cntr, .tlm, .host, .ident, .sealing, .crypt, .life] := by
  unfold execPllLock at h
  refine .of_next ?_ h
  clear h
  refine .ite ?_ ?_
  · exact .refl
  · extract_lets +onlyGivenNames x1
    clear_value x1
    extract_lets +onlyGivenNames x2
    clear_value x2
    extract_lets +onlyGivenNames x3
    refine .letS x3 ?_ (fun hx3 => ?_)
    · unfold x3
      refine .step ?_ (State.sameBut.plat _) rfl
      exact .refl
    clear_value x3
    extract_lets +onlyGivenNames x4
    refine .letS x4 ?_ (fun hx4 => ?_)
    · unfold x4
      refine .step ?_ (State.finishEol_keeps _) rfl
      refine .step ?_ (State.reportWd_keeps _) rfl
      assumption
    clear_value x4
    extract_lets +onlyGivenNames x5
    refine .letS x5 ?_ (fun hx5 => ?_)
    · unfold x5
      refine .step ?_ (State.raiseIf_keeps _ _ _ _) rfl
      assumption
    clear_value x5
    extract_lets +onlyGivenNames x6
    clear_value x6
    extract_lets +onlyGivenNames x7
    refine .letS x7 ?_ (fun hx7 => ?_)
    · unfold x7
      refine .step ?_ (State.raiseIf_keeps _ _ _ _) rfl
      refine .step ?_ (State.sameBut.life _) rfl
      assumption
    clear_value x7
    extract_lets +onlyGivenNames x8
    refine .letS x8 ?_ (fun hx8 => ?_)
    · unfold x8
      refine .step ?_ (State.startChecks_keeps _) rfl
      refine .step ?_ (State.dropClass3_keeps _) rfl
      assumption
    clear_value x8
    refine .ite ?_ ?_
    · refine .step ?_ (State.sameBut.life _) rfl
      assumption
    · assumption

theorem execVaultIdentify_keeps {cs0 : Option PartFound} {cs1 : Option PartFound} {busMode : Nat} {hdrA : Option VaultHeader} {hdrB : Option VaultHeader} {s s' : State} (h : execVaultIdentify cs0 cs1 busMode hdrA s hdrB = .next s') : s.sameBut s' [.freeCtr, .evt, .plat, .keeper, .vault, .ident] := by
  unfold execVaultIdentify at h
  refine .of_next ?_ h
  clear h
  refine .ite ?_ ?_
  · exact .refl
  · extract_lets +onlyGivenNames x1
    clear_value x1
    extract_lets +onlyGivenNames x2
    clear_value x2
    extract_lets +onlyGivenNames x3
    clear_value x3
    extract_lets +onlyGivenNames x4
    refine .letS x4 ?_ (fun hx4 => ?_)
    · unfold x4
      refine .step ?_ (State.sameBut.plat_vault _ _) rfl
      exact .refl
    clear_value x4
    extract_lets +onlyGivenNames x5
    refine .letS x5 ?_ (fun hx5 => ?_)
    · unfold x5
      split
      · refine .step ?_ (State.vaultFound_keeps _ _ _) rfl
        assumption
      · refine .step ?_ (State.vaultPartFailed_keeps _ _) rfl
        assumption
    clear_value x5
    extract_lets +onlyGivenNames x6
    refine .letS x6 ?_ (fun hx6 => ?_)
    · unfold x6
      split
      · refine .step ?_ (State.vaultFound_keeps _ _ _) rfl
        assumption
      · assumption
    clear_value x6
    split
    · refine .step ?_ (State.sameBut.vault _) rfl
      assumption
    · refine .step ?_ (State.sameBut.vault_ident _ _) rfl
      assumption

theorem execRootstockRegenerate_keeps {d : PufDecode} {s s' : State} (h : execRootstockRegenerate d s = .next s') : s.sameBut s' [.evt, .plat, .crypt, .life] := by
  unfold execRootstockRegenerate at h
  refine .of_next ?_ h
  clear h
  refine .ite ?_ ?_
  · exact .refl
  · refine .ite ?_ ?_
    · refine .step ?_ (State.withholdRoot_keeps _) rfl
      exact .refl
    · refine .ite ?_ ?_
      · refine .step ?_ (State.rootAttempt_keeps _ _) rfl
        refine .step ?_ (State.enrol_keeps _) rfl
        exact .refl
      · refine .step ?_ (State.rootAttempt_keeps _ _) rfl
        exact .refl

theorem execRootstockRetry_keeps {d : PufDecode} {s s' : State} (h : execRootstockRetry d s = .next s') : s.sameBut s' [.evt, .plat, .crypt] := by
  unfold execRootstockRetry at h
  refine .of_next ?_ h
  clear h
  refine .ite ?_ ?_
  · exact .refl
  · refine .step ?_ (State.rootAttempt_keeps _ _) rfl
    exact .refl

theorem execSelfTestStartup_keeps {badEngines : List Nat} {badLanes : List Nat} {pku : Bool} {rng : Bool} {store : Bool} {ledger : Bool} {s s' : State} (h : execSelfTestStartup badEngines badLanes pku rng store ledger s = .next s') : s.sameBut s' [.evt, .plat, .press, .crypt] := by
  unfold execSelfTestStartup at h
  refine .of_next ?_ h
  clear h
  refine .ite ?_ ?_
  · exact .refl
  · extract_lets +onlyGivenNames x1
    refine .letS x1 ?_ (fun hx1 => ?_)
    · unfold x1
      refine .foldl (fun _ _ _ => ?_) ?_
      · refine .step ?_ (State.raise_keeps _ _ _) rfl
        refine .step ?_ (State.setEngine_keeps _ _ _) rfl
        assumption
      · exact .refl
    clear_value x1
    extract_lets +onlyGivenNames x2
    refine .letS x2 ?_ (fun hx2 => ?_)
    · unfold x2
      refine .foldl (fun _ _ _ => ?_) ?_
      · refine .step ?_ (State.raise_keeps _ _ _) rfl
        refine .step ?_ (State.setLane_keeps _ _ _) rfl
        assumption
      · assumption
    clear_value x2
    extract_lets +onlyGivenNames x3
    clear_value x3
    extract_lets +onlyGivenNames x4
    refine .letS x4 ?_ (fun hx4 => ?_)
    · unfold x4
      refine .step ?_ (State.raiseIf_keeps _ _ _ _) rfl
      refine .step ?_ (State.sameBut.crypt _) rfl
      assumption
    clear_value x4
    extract_lets +onlyGivenNames x5
    clear_value x5
    extract_lets +onlyGivenNames x6
    refine .letS x6 ?_ (fun hx6 => ?_)
    · unfold x6
      refine .ite ?_ ?_
      · refine .step ?_ (State.sameBut.crypt _) rfl
        assumption
      · refine .step ?_ (State.raise_keeps _ _ _) rfl
        refine .step ?_ (State.sameBut.crypt _) rfl
        assumption
    clear_value x6
    extract_lets +onlyGivenNames x7
    refine .letS x7 ?_ (fun hx7 => ?_)
    · unfold x7
      refine .step ?_ (State.raiseIf_keeps _ _ _ _) rfl
      assumption
    clear_value x7
    refine .step ?_ (State.sameBut.plat _) rfl
    assumption

theorem execFirmwareVerify_keeps {a : Bool} {b : Bool} {g : Bool} {dev : Bool} {s s' : State} (h : execFirmwareVerify a b g s dev = .next s') : s.sameBut s' [.freeCtr, .outbox, .evt, .plat, .keeper, .press, .vault, .cntr, .tlm, .host, .ident, .sealing, .crypt] := by
  unfold execFirmwareVerify at h
  refine .of_next ?_ h
  clear h
  extract_lets +onlyGivenNames x1
  clear_value x1
  refine .ite ?_ ?_
  · exact .refl
  · extract_lets +onlyGivenNames x2
    clear_value x2
    extract_lets +onlyGivenNames x3
    refine .letS x3 ?_ (fun hx3 => ?_)
    · unfold x3
      refine .step ?_ (State.raiseIf_keeps _ _ _ _) rfl
      refine .step ?_ (State.sameBut.ident _) rfl
      exact .refl
    clear_value x3
    extract_lets +onlyGivenNames x4
    clear_value x4
    extract_lets +onlyGivenNames x5
    clear_value x5
    extract_lets +onlyGivenNames x6
    clear_value x6
    extract_lets +onlyGivenNames x7
    clear_value x7
    extract_lets +onlyGivenNames x8
    clear_value x8
    extract_lets +onlyGivenNames x9
    clear_value x9
    extract_lets +onlyGivenNames x10
    clear_value x10
    refine .ite ?_ ?_
    · refine .step ?_ (State.romService_keeps _) rfl
      assumption
    · refine .ite ?_ ?_
      · refine .ite ?_ ?_
        · refine .step ?_ (State.startFirmware_keeps _ _) rfl
          refine .step ?_ (State.raise_keeps _ _ _) rfl
          refine .step ?_ (State.enterRecover_keeps _ _) rfl
          assumption
        · refine .step ?_ (State.romService_keeps _) rfl
          assumption
      · refine .ite ?_ ?_
        · refine .step ?_ (State.startFirmware_keeps _ _) rfl
          assumption
        · refine .ite ?_ ?_
          · refine .step ?_ (State.rewriteCopies_keeps _ _) rfl
            refine .step ?_ (State.startFirmware_keeps _ _) rfl
            assumption
          · refine .ite ?_ ?_
            · refine .step ?_ (State.rewriteCopies_keeps _ _) rfl
              refine .step ?_ (State.startFirmware_keeps _ _) rfl
              assumption
            · refine .step ?_ (State.romService_keeps _) rfl
              assumption

theorem execPolicyApply_keeps  {s s' : State} (h : execPolicyApply s = .next s') : s.sameBut s' [.freeCtr, .outbox, .regs, .evt, .plat, .keeper, .chs, .cellar, .press, .vault, .ctl, .cntr, .tlm, .host, .ident, .sealing, .crypt, .life] := by
  unfold execPolicyApply at h
  refine .of_next ?_ h
  clear h
  refine .ite ?_ ?_
  · exact .refl
  · split
    · refine .step ?_ (State.policyGo_keeps _ _) rfl
      exact .refl
    · refine .ite ?_ ?_
      · split
        · refine .step ?_ (State.policyGo_keeps _ _) rfl
          refine .step ?_ (State.sameBut.ident _) rfl
          exact .refl
        · refine .ite ?_ ?_
          · refine .step ?_ (State.sameBut.plat _) rfl
            exact .refl
          · refine .step ?_ (State.enterRecover_keeps _ _) rfl
            refine .step ?_ (State.sameBut.ident _) rfl
            exact .refl
      · exact .refl

theorem execChannelBringup_keeps {n : Ch} {p0 : Option PartFound} {p1 : Option PartFound} {s0 : SlotFound} {s1 : SlotFound} {s2 : SlotFound} {s3 : SlotFound} {s s' : State} (h : execChannelBringup n p0 p1 s0 s1 s2 s3 s = .next s') : s.sameBut s' [.freeCtr, .outbox, .regs, .evt, .plat, .keeper, .chs, .cellar, .press, .vault, .ctl, .cntr, .ident, .crypt] := by
  unfold execChannelBringup at h
  refine .of_next ?_ h
  clear h
  refine .ite ?_ ?_
  · exact .refl
  · extract_lets +onlyGivenNames x1
    refine .letP x1 ?_ (fun hx1 => ?_)
    · unfold x1
      refine .step ?_ (State.bringPart_keeps _ _ _ _) rfl
      exact .refl
    clear_value x1
    extract_lets +onlyGivenNames x2
    refine .letP x2 ?_ (fun hx2 => ?_)
    · unfold x2
      refine .ite_fst ?_ ?_
      · refine .step ?_ (State.bringPart_keeps _ _ _ _) rfl
        assumption
      · assumption
    clear_value x2
    refine .ite ?_ ?_
    · refine .step ?_ (State.broughtEnd_keeps _ _ _) rfl
      assumption
    · extract_lets +onlyGivenNames x3
      refine .letP x3 ?_ (fun hx3 => ?_)
      · unfold x3
        refine .step ?_ (State.pkuRun_keeps _) rfl
        refine .step ?_ (State.afterTraining_keeps _ _) rfl
        assumption
      clear_value x3
      extract_lets +onlyGivenNames x4
      refine .letS x4 ?_ (fun hx4 => ?_)
      · unfold x4
        assumption
      clear_value x4
      refine .ite ?_ ?_
      · assumption
      · extract_lets +onlyGivenNames x5
        refine .letP x5 ?_ (fun hx5 => ?_)
        · unfold x5
          refine .foldl_fst (fun _ _ _ => ?_) ?_
          · extract_lets +onlyGivenNames x6
            refine .letP x6 ?_ (fun hx6 => ?_)
            · unfold x6
              refine .step ?_ (State.bringSlot_keeps _ _ _ _) rfl
              assumption
            clear_value x6
            refine .fst_mk ?_
            assumption
          · refine .fst_mk ?_
            assumption
        clear_value x5
        extract_lets +onlyGivenNames x7
        refine .letS x7 ?_ (fun hx7 => ?_)
        · unfold x7
          refine .step ?_ (State.raiseIf_keeps _ _ _ _) rfl
          refine .step ?_ (State.broughtEnd_keeps _ _ _) rfl
          assumption
        clear_value x7
        extract_lets +onlyGivenNames x8
        refine .letS x8 ?_ (fun hx8 => ?_)
        · unfold x8
          refine .step ?_ (State.tryDecant_keeps _ _) rfl
          assumption
        clear_value x8
        refine .ite ?_ ?_
        · refine .step ?_ (State.enterReimaging_keeps _ _ _ _ _) rfl
          assumption
        · assumption

theorem execExitChecks_keeps {ok : Bool} {s s' : State} (h : execExitChecks ok s = .next s') : s.sameBut s' [.freeCtr, .outbox, .regs, .evt, .plat, .keeper, .chs, .cellar, .press, .vault, .ctl, .cntr, .tlm, .host, .ident, .sealing, .crypt, .life] := by
  unfold execExitChecks at h
  refine .of_next ?_ h
  clear h
  refine .ite ?_ ?_
  · refine .ite ?_ ?_
    · refine .step ?_ (State.enterVerify_keeps _) rfl
      exact .refl
    · exact .refl
  · refine .ite ?_ ?_
    · refine .ite ?_ ?_
      · refine .step ?_ (State.platformRestored_keeps _) rfl
        exact .refl
      · refine .ite ?_ ?_
        · refine .step ?_ (State.fatalLedger_keeps _) rfl
          exact .refl
        · exact .refl
    · exact .refl

theorem execIntentResume_keeps {kind : Nat} {chan : Nat} {slot : Nat} {m : Manifest} {ok : Bool} {s s' : State} (h : execIntentResume kind chan slot m ok s = .next s') : s.sameBut s' [.freeCtr, .outbox, .regs, .evt, .plat, .keeper, .chs, .cellar, .press, .vault, .ctl, .ident] := by
  unfold execIntentResume at h
  refine .of_next ?_ h
  clear h
  split
  · exact .refl
  · refine .ite ?_ ?_
    · exact .refl
    · extract_lets +onlyGivenNames x1
      extract_lets +onlyGivenNames x2
      clear_value x2
      extract_lets +onlyGivenNames x3
      refine .letS x3 ?_ (fun hx3 => ?_)
      · unfold x3
        refine .dite (fun _ => ?_) (fun _ => ?_)
        · extract_lets +onlyGivenNames x4
          clear_value x4
          split
          · refine .ite ?_ ?_
            · exact .refl
            · refine .step ?_ (State.resumeRecovery_keeps _ _ _ _ _) rfl
              refine .step ?_ (State.raise_keeps _ _ _) rfl
              exact .refl
          · refine .ite ?_ ?_
            · exact .refl
            · refine .step ?_ (State.resumeRefresh_keeps _ _ _ _) rfl
              refine .step ?_ (State.raise_keeps _ _ _) rfl
              exact .refl
          · refine .step ?_ (State.resumeSlot_keeps _ _ _ _ _ _) rfl
            refine .step ?_ (State.raise_keeps _ _ _) rfl
            exact .refl
          · refine .step ?_ (State.resumeSlot_keeps _ _ _ _ _ _) rfl
            refine .step ?_ (State.raise_keeps _ _ _) rfl
            exact .refl
          · refine .step ?_ (State.resumeSlot_keeps _ _ _ _ _ _) rfl
            refine .step ?_ (State.raise_keeps _ _ _) rfl
            exact .refl
          · unfold x1
            refine .step ?_ (State.intent_keeps _ _ _ _ _ _ _ _ _ _) rfl
            refine .step ?_ (State.raise_keeps _ _ _) rfl
            exact .refl
        · refine .ite ?_ ?_
          · refine .step ?_ (State.raise_keeps _ _ _) rfl
            exact .refl
          · unfold x1
            refine .step ?_ (State.intent_keeps _ _ _ _ _ _ _ _ _ _) rfl
            refine .step ?_ (State.raise_keeps _ _ _) rfl
            exact .refl
      clear_value x3
      refine .step ?_ (State.vaultRestored_keeps _) rfl
      assumption

theorem execPerstNRelease_keeps  {s s' : State} (h : execPerstNRelease s = .next s') : s.sameBut s' [.evt, .plat] := by
  unfold execPerstNRelease at h
  refine .of_next ?_ h
  clear h
  refine .ite ?_ ?_
  · exact .refl
  · refine .step ?_ (State.raise_keeps _ _ _) rfl
    refine .step ?_ (State.sameBut.plat _) rfl
    exact .refl

theorem execLinkTrained_keeps {speed : Nat} {width : Nat} {s s' : State} (h : execLinkTrained speed width s = .next s') : s.sameBut s' [.outbox, .evt, .cntr, .tlm, .host] := by
  unfold execLinkTrained at h
  refine .of_next ?_ h
  clear h
  refine .ite ?_ ?_
  · exact .refl
  · extract_lets +onlyGivenNames x1
    clear_value x1
    extract_lets +onlyGivenNames x2
    refine .letS x2 ?_ (fun hx2 => ?_)
    · unfold x2
      refine .step ?_ (State.raise_keeps _ _ _) rfl
      refine .step ?_ (State.sameBut.host _) rfl
      exact .refl
    clear_value x2
    refine .step ?_ (State.busBack_keeps _) rfl
    assumption

theorem execReadSfdp_keeps {t : Txn} {s s' : State} (h : execReadSfdp t s = .next s') : s.sameBut s' [.outbox, .evt, .plat, .chs, .cntr] := by
  unfold execReadSfdp at h
  refine .of_next ?_ h
  clear h
  refine State.gate_keeps _ _ _ _ (fun _ _ _ _ => ?_) ?_ rfl
  · refine .step ?_ (State.emit_keeps _ _) rfl
    refine .step ?_ (State.countSynth_keeps _ _ _) rfl
    assumption
  · exact .refl

theorem execReadId_keeps {t : Txn} {s s' : State} (h : execReadId t s = .next s') : s.sameBut s' [.outbox, .evt, .plat, .chs, .cntr] := by
  unfold execReadId at h
  refine .of_next ?_ h
  clear h
  refine State.gate_keeps _ _ _ _ (fun _ _ _ _ => ?_) ?_ rfl
  · refine .step ?_ (State.emit_keeps _ _) rfl
    refine .step ?_ (State.countSynth_keeps _ _ _) rfl
    assumption
  · exact .refl

theorem execReadReg_keeps {t : Txn} {s s' : State} (h : execReadReg t s = .next s') : s.sameBut s' [.outbox, .evt, .plat, .chs, .cntr] := by
  unfold execReadReg at h
  refine .of_next ?_ h
  clear h
  refine State.gate_keeps _ _ _ _ (fun _ _ _ _ => ?_) ?_ rfl
  · extract_lets +onlyGivenNames x1
    refine .letS x1 ?_ (fun hx1 => ?_)
    · unfold x1
      refine .step ?_ (State.countSynth_keeps _ _ _) rfl
      assumption
    clear_value x1
    split
    · refine .step ?_ (State.emit_keeps _ _) rfl
      assumption
    · extract_lets +onlyGivenNames x2
      refine .letS x2 ?_ (fun hx2 => ?_)
      · unfold x2
        refine .step ?_ (State.busyEnds_keeps _ _ _) rfl
        assumption
      clear_value x2
      refine .step ?_ (State.emit_keeps _ _) rfl
      assumption
  · exact .refl

theorem execWriteEnable_keeps {t : Txn} {s s' : State} (h : execWriteEnable t s = .next s') : s.sameBut s' [.outbox, .evt, .plat, .chs, .cntr] := by
  unfold execWriteEnable at h
  refine .of_next ?_ h
  clear h
  refine State.gate_keeps _ _ _ _ (fun _ _ _ _ => ?_) ?_ rfl
  · refine .step ?_ (State.updPort_keeps _ _ _) rfl
    assumption
  · exact .refl

theorem execWriteDisable_keeps {t : Txn} {s s' : State} (h : execWriteDisable t s = .next s') : s.sameBut s' [.outbox, .evt, .plat, .chs, .cntr] := by
  unfold execWriteDisable at h
  refine .of_next ?_ h
  clear h
  refine State.gate_keeps _ _ _ _ (fun _ _ _ _ => ?_) ?_ rfl
  · refine .step ?_ (State.updPort_keeps _ _ _) rfl
    assumption
  · exact .refl

theorem execProgram_keeps {t : Txn} {s s' : State} (h : execProgram t s = .next s') : s.sameBut s' [.freeCtr, .outbox, .regs, .evt, .plat, .keeper, .chs, .cellar, .press, .vault, .ctl, .cntr, .ident] := by
  unfold execProgram at h
  refine .of_next ?_ h
  clear h
  refine State.gate_keeps _ _ _ _ (fun _ _ _ _ => ?_) ?_ rfl
  · extract_lets +onlyGivenNames x1
    clear_value x1
    refine .ite ?_ ?_
    · refine .step ?_ (State.heartbeatProgram_keeps _ _ _ _) rfl
      assumption
    · extract_lets +onlyGivenNames x2
      clear_value x2
      refine .step ?_ (State.writeArray_keeps _ _ _ _ _ _) rfl
      assumption
  · exact .refl

theorem execErase_keeps {t : Txn} {s s' : State} (h : execErase t s = .next s') : s.sameBut s' [.outbox, .evt, .plat, .chs, .cntr] := by
  unfold execErase at h
  refine .of_next ?_ h
  clear h
  refine State.gate_keeps _ _ _ _ (fun _ _ _ _ => ?_) ?_ rfl
  · extract_lets +onlyGivenNames x1
    clear_value x1
    refine .step ?_ (State.writeArray_keeps _ _ _ _ _ _) rfl
    assumption
  · exact .refl

theorem execEraseChip_keeps {t : Txn} {s s' : State} (h : execEraseChip t s = .next s') : s.sameBut s' [.outbox, .evt, .plat, .chs, .cntr] := by
  unfold execEraseChip at h
  refine .of_next ?_ h
  clear h
  refine State.gate_keeps _ _ _ _ (fun _ _ _ _ => ?_) ?_ rfl
  · refine .step ?_ (State.writeArray_keeps _ _ _ _ _ _) rfl
    assumption
  · exact .refl

theorem execSuspend_keeps {t : Txn} {early : Bool} {s s' : State} (h : execSuspend t early s = .next s') : s.sameBut s' [.outbox, .evt, .plat, .chs, .cntr] := by
  unfold execSuspend at h
  refine .of_next ?_ h
  clear h
  refine State.gate_keeps _ _ _ _ (fun _ _ _ _ => ?_) ?_ rfl
  · split
    · assumption
    · refine .ite ?_ ?_
      · assumption
      · refine .ite ?_ ?_
        · refine .step ?_ (State.raiseCh_keeps _ _ _ _) rfl
          refine .step ?_ (State.updPort_keeps _ _ _) rfl
          assumption
        · refine .step ?_ (State.suspendInner_keeps _ _) rfl
          assumption
  · exact .refl

theorem execSuspendForward_keeps {n : Ch} {s s' : State} (h : execSuspendForward n s = .next s') : s.sameBut s' [.outbox, .evt, .chs, .cntr] := by
  unfold execSuspendForward at h
  refine .of_next ?_ h
  clear h
  split
  · refine .ite ?_ ?_
    · refine .step ?_ (State.suspendInner_keeps _ _) rfl
      exact .refl
    · exact .refl
  · exact .refl

theorem execResume_keeps {t : Txn} {s s' : State} (h : execResume t s = .next s') : s.sameBut s' [.outbox, .evt, .plat, .chs, .cntr] := by
  unfold execResume at h
  refine .of_next ?_ h
  clear h
  refine State.gate_keeps _ _ _ _ (fun _ _ _ _ => ?_) ?_ rfl
  · extract_lets +onlyGivenNames x1
    clear_value x1
    split
    · assumption
    · extract_lets +onlyGivenNames x2
      refine .letS x2 ?_ (fun hx2 => ?_)
      · unfold x2
        refine .ite ?_ ?_
        · refine .step ?_ (State.opCmd_keeps _ _ _ _) rfl
          refine .step ?_ (State.setBusy_keeps _ _ _ _) rfl
          assumption
        · assumption
      clear_value x2
      extract_lets +onlyGivenNames x3
      refine .letS x3 ?_ (fun hx3 => ?_)
      · unfold x3
        refine .step ?_ (State.updPort_keeps _ _ _) rfl
        assumption
      clear_value x3
      refine .ite ?_ ?_
      · refine .step ?_ (State.raiseCh_keeps _ _ _ _) rfl
        assumption
      · assumption
  · exact .refl

theorem execWriteReg_keeps {t : Txn} {s s' : State} (h : execWriteReg t s = .next s') : s.sameBut s' [.outbox, .evt, .plat, .chs, .cntr] := by
  unfold execWriteReg at h
  refine .of_next ?_ h
  clear h
  refine State.gate_keeps _ _ _ _ (fun _ _ _ _ => ?_) ?_ rfl
  · refine .ite ?_ ?_
    · split
      · assumption
      · refine .step ?_ (State.updPort_keeps _ _ _) rfl
        assumption
    · refine .step ?_ (State.writeIgnored_keeps _ _ _) rfl
      assumption
  · exact .refl

theorem execModeset_keeps {t : Txn} {s s' : State} (h : execModeset t s = .next s') : s.sameBut s' [.outbox, .evt, .plat, .chs, .cntr] := by
  unfold execModeset at h
  refine .of_next ?_ h
  clear h
  refine State.gate_keeps _ _ _ _ (fun _ _ _ _ => ?_) ?_ rfl
  · refine .ite ?_ ?_
    · split
      · refine .step ?_ (State.raiseCh_keeps _ _ _ _) rfl
        assumption
      · split
        · refine .step ?_ (State.raiseCh_keeps _ _ _ _) rfl
          refine .step ?_ (State.updPort_keeps _ _ _) rfl
          assumption
        · refine .step ?_ (State.raiseCh_keeps _ _ _ _) rfl
          refine .step ?_ (State.updPort_keeps _ _ _) rfl
          assumption
    · refine .step ?_ (State.writeIgnored_keeps _ _ _) rfl
      assumption
  · exact .refl

theorem execResetEnable_keeps {t : Txn} {s s' : State} (h : execResetEnable t s = .next s') : s.sameBut s' [.outbox, .evt, .plat, .chs, .cntr] := by
  unfold execResetEnable at h
  refine .of_next ?_ h
  clear h
  refine State.gate_keeps _ _ _ _ (fun _ _ _ _ => ?_) ?_ rfl
  · refine .step ?_ (State.updPort_keeps _ _ _) rfl
    assumption
  · exact .refl

theorem execReset_keeps {t : Txn} {s s' : State} (h : execReset t s = .next s') : s.sameBut s' [.outbox, .evt, .plat, .chs, .cntr] := by
  unfold execReset at h
  refine .of_next ?_ h
  clear h
  refine .ite ?_ ?_
  · refine State.gate_keeps _ _ _ _ (fun _ _ _ _ => ?_) ?_ rfl
    · refine .step ?_ (State.raiseCh_keeps _ _ _ _) rfl
      refine .step ?_ (State.bootPort_keeps _ _) rfl
      refine .step ?_ (State.resumeAll_keeps _ _) rfl
      assumption
    · exact .refl
  · refine State.gate_keeps _ _ _ _ (fun _ _ _ _ => ?_) ?_ rfl
    · assumption
    · exact .refl

theorem execClearFail_keeps {t : Txn} {s s' : State} (h : execClearFail t s = .next s') : s.sameBut s' [.outbox, .evt, .plat, .chs, .cntr] := by
  unfold execClearFail at h
  refine .of_next ?_ h
  clear h
  refine State.gate_keeps _ _ _ _ (fun _ _ _ _ => ?_) ?_ rfl
  · refine .step ?_ (State.updPort_keeps _ _ _) rfl
    assumption
  · exact .refl

theorem execAddrMode_keeps {t : Txn} {s s' : State} (h : execAddrMode t s = .next s') : s.sameBut s' [.outbox, .evt, .plat, .chs, .cntr] := by
  unfold execAddrMode at h
  refine .of_next ?_ h
  clear h
  refine State.gate_keeps _ _ _ _ (fun _ _ _ _ => ?_) ?_ rfl
  · refine .step ?_ (State.raiseCh_keeps _ _ _ _) rfl
    refine .step ?_ (State.updPort_keeps _ _ _) rfl
    assumption
  · exact .refl

theorem execAccept_keeps {t : Txn} {s s' : State} (h : execAccept t s = .next s') : s.sameBut s' [.outbox, .evt, .plat, .chs, .cntr] := by
  unfold execAccept at h
  refine .of_next ?_ h
  clear h
  refine State.gate_keeps _ _ _ _ (fun _ _ _ _ => ?_) ?_ rfl
  · assumption
  · exact .refl

theorem execUnlistedOpcode_keeps {t : Txn} {s s' : State} (h : execUnlistedOpcode t s = .next s') : s.sameBut s' [.outbox, .evt, .plat, .chs, .cntr] := by
  unfold execUnlistedOpcode at h
  refine .of_next ?_ h
  clear h
  refine State.gate_keeps _ _ _ _ (fun _ _ _ _ => ?_) ?_ rfl
  · assumption
  · exact .refl

theorem execHeartbeatService_keeps {t : Txn} {s s' : State} (h : execHeartbeatService t s = .next s') : s.sameBut s' [.freeCtr, .outbox, .regs, .evt, .plat, .keeper, .chs, .cellar, .press, .vault, .ctl, .cntr, .ident] := by
  unfold execHeartbeatService at h
  refine .of_next ?_ h
  clear h
  refine State.gate_keeps _ _ _ _ (fun _ _ _ _ => ?_) ?_ rfl
  · extract_lets +onlyGivenNames x1
    clear_value x1
    refine .ite ?_ ?_
    · refine .step ?_ (State.heartbeatProgram_keeps _ _ _ _) rfl
      assumption
    · assumption
  · exact .refl

theorem execSclkMeasure_keeps {n : Ch} {khz : Nat} {s s' : State} (h : execSclkMeasure n khz s = .next s') : s.sameBut s' [.regs, .evt, .chs] := by
  unfold execSclkMeasure at h
  refine .of_next ?_ h
  clear h
  refine .ite ?_ ?_
  · extract_lets +onlyGivenNames x1
    clear_value x1
    extract_lets +onlyGivenNames x2
    refine .letS x2 ?_ (fun hx2 => ?_)
    · unfold x2
      refine .step ?_ (State.updPort_keeps _ _ _) rfl
      exact .refl
    clear_value x2
    refine .ite ?_ ?_
    · refine .step ?_ (State.raiseCh_keeps _ _ _ _) rfl
      refine .step ?_ (State.setSticky_keeps _ _ _) rfl
      assumption
    · assumption
  · exact .refl

theorem execAgentOperationEnd_keeps {n : Ch} {ok : Bool} {s s' : State} (h : execAgentOperationEnd n ok s = .next s') : s.sameBut s' [.chs] := by
  unfold execAgentOperationEnd at h
  refine .of_next ?_ h
  clear h
  refine .ite ?_ ?_
  · refine .step ?_ (State.opEnd_keeps _ _ _) rfl
    exact .refl
  · exact .refl

theorem execBlockbusyEnd_keeps {n : Ch} {s s' : State} (h : execBlockbusyEnd n s = .next s') : s.sameBut s' [.chs] := by
  unfold execBlockbusyEnd at h
  refine .of_next ?_ h
  clear h
  refine .ite ?_ ?_
  · refine .step ?_ (State.blockEnd_keeps _ _) rfl
    exact .refl
  · exact .refl

theorem execSetPhase_keeps {cid : Nat} {channel : Nat} {phase : Nat} {s s' : State} (h : execSetPhase cid channel phase s = .next s') : s.sameBut s' [.outbox, .evt, .chs, .cntr, .tlm, .host] := by
  unfold execSetPhase at h
  refine .of_next ?_ h
  clear h
  refine State.admin_keeps _ _ _ _ (fun _ _ => ?_) ?_ rfl
  · refine .step ?_ (State.setPhaseReply_keeps _ _ _ _) rfl
    assumption
  · exact .refl

theorem execBoottimeElapsed_keeps {n : Ch} {s s' : State} (h : execBoottimeElapsed n s = .next s') : s.sameBut s' [.evt, .chs] := by
  unfold execBoottimeElapsed at h
  refine .of_next ?_ h
  clear h
  refine .ite ?_ ?_
  · refine .step ?_ (State.setPhase_keeps _ _ _) rfl
    exact .refl
  · exact .refl

theorem execUpdateTimeout_keeps {n : Ch} {s s' : State} (h : execUpdateTimeout n s = .next s') : s.sameBut s' [.evt, .chs] := by
  unfold execUpdateTimeout at h
  refine .of_next ?_ h
  clear h
  refine .ite ?_ ?_
  · refine .step ?_ (State.raiseCh_keeps _ _ _ _) rfl
    refine .step ?_ (State.setPhase_keeps _ _ _) rfl
    exact .refl
  · exact .refl

theorem execDeviceOpIssue_keeps {n : Ch} {s s' : State} (h : execDeviceOpIssue n s = .next s') : s.sameBut s' [.outbox, .evt, .chs, .cntr] := by
  unfold execDeviceOpIssue at h
  refine .of_next ?_ h
  clear h
  extract_lets +onlyGivenNames x1
  clear_value x1
  split
  · exact .refl
  · refine .ite ?_ ?_
    · exact .refl
    · extract_lets +onlyGivenNames x2
      refine .letS x2 ?_ (fun hx2 => ?_)
      · unfold x2
        refine .step ?_ (State.setBusy_keeps _ _ _ _) rfl
        refine .step ?_ (State.updPort_keeps _ _ _) rfl
        exact .refl
      clear_value x2
      refine .ite ?_ ?_
      · refine .step ?_ (State.opCmd_keeps _ _ _ _) rfl
        assumption
      · refine .step ?_ (State.issueNew_keeps _ _ _) rfl
        assumption

theorem execStatusPoll_keeps {n : Ch} {k : PartId} {s s' : State} (h : execStatusPoll n k s = .next s') : s.sameBut s' [.outbox, .evt, .cntr] := by
  unfold execStatusPoll at h
  refine .of_next ?_ h
  clear h
  refine .ite ?_ ?_
  · refine .step ?_ (State.flash_keeps _ _ _ _ _ _ _) rfl
    refine .step ?_ (State.cnt_keeps _ _ _ _) rfl
    exact .refl
  · exact .refl

theorem execExposedWaitEnd_keeps {n : Ch} {k : SlotId} {s s' : State} (h : execExposedWaitEnd n k s = .next s') : s.sameBut s' [.chs] := by
  unfold execExposedWaitEnd at h
  refine .of_next ?_ h
  clear h
  refine .ite ?_ ?_
  · refine .step ?_ (State.updSlot_keeps _ _ _ _) rfl
    exact .refl
  · exact .refl

theorem execActivate_keeps {cid : Nat} {channel : Nat} {slot : Nat} {mloc : Nat} {flipNow : Nat} {len : Nat} {m : Manifest} {s s' : State} (h : execActivate cid channel slot mloc flipNow len m s = .next s') : s.sameBut s' [.outbox, .evt, .chs, .cntr, .tlm, .host, .crypt] := by
  unfold execActivate at h
  refine .of_next ?_ h
  clear h
  refine State.admin_keeps _ _ _ _ (fun _ _ => ?_) ?_ rfl
  · refine .ite_fst ?_ ?_
    · refine .fst_mk ?_
      assumption
    · refine .ite_fst ?_ ?_
      · refine .fst_mk ?_
        refine .dite (fun _ => ?_) (fun _ => ?_)
        · refine .step ?_ (State.raiseCh_keeps _ _ _ _) rfl
          assumption
        · assumption
      · extract_lets +onlyGivenNames x1
        refine .letS x1 ?_ (fun hx1 => ?_)
        · unfold x1
          refine .ite ?_ ?_
          · refine .step ?_ (State.countRead_keeps _ _ _) rfl
            assumption
          · assumption
        clear_value x1
        refine .step ?_ (State.activateReply_keeps _ _ _ _ _) rfl
        assumption
  · exact .refl

theorem execStagingVerify_keeps {n : Ch} {k : SlotId} {ok : Bool} {s s' : State} (h : execStagingVerify n k ok s = .next s') : s.sameBut s' [.evt, .chs, .press, .vault, .cntr] := by
  unfold execStagingVerify at h
  refine .of_next ?_ h
  clear h
  split
  · refine .ite ?_ ?_
    · exact .refl
    · extract_lets +onlyGivenNames x1
      refine .letP x1 ?_ (fun hx1 => ?_)
      · unfold x1
        refine .step ?_ (State.pressRun_keeps _ _) rfl
        exact .refl
      clear_value x1
      refine .ite ?_ ?_
      · assumption
      · refine .ite ?_ ?_
        · refine .step ?_ (State.intent_keeps _ _ _ _ _ _ _ _ _ _) rfl
          refine .step ?_ (State.updSlot_keeps _ _ _ _) rfl
          assumption
        · refine .step ?_ (State.abandonUpdate_keeps _ _ _) rfl
          assumption
  · exact .refl

theorem execCopyUnit_keeps {n : Ch} {k : SlotId} {units : Nat} {ok : Bool} {s s' : State} (h : execCopyUnit n k units ok s = .next s') : s.sameBut s' [.freeCtr, .outbox, .regs, .evt, .keeper, .chs, .cellar, .vault, .ctl, .ident] := by
  unfold execCopyUnit at h
  refine .of_next ?_ h
  clear h
  split
  · extract_lets +onlyGivenNames x1
    clear_value x1
    split
    · refine .ite ?_ ?_
      · refine .step ?_ (State.copyDone_keeps _ _ _ _ _ _) rfl
        exact .refl
      · exact .refl
    · refine .ite ?_ ?_
      · exact .refl
      · refine .ite ?_ ?_
        · refine .step ?_ (State.raiseCh_keeps _ _ _ _) rfl
          refine .step ?_ (State.updSlot_keeps _ _ _ _) rfl
          exact .refl
        · refine .ite ?_ ?_
          · exact .refl
          · extract_lets +onlyGivenNames x2
            refine .letS x2 ?_ (fun hx2 => ?_)
            · unfold x2
              refine .step ?_ (State.setBusy_keeps _ _ _ _) rfl
              exact .refl
            clear_value x2
            extract_lets +onlyGivenNames x3
            clear_value x3
            extract_lets +onlyGivenNames x4
            clear_value x4
            refine .ite ?_ ?_
            · refine .ite ?_ ?_
              · refine .step ?_ (State.updSlot_keeps _ _ _ _) rfl
                assumption
              · refine .step ?_ (State.intent_keeps _ _ _ _ _ _ _ _ _ _) rfl
                refine .step ?_ (State.updSlot_keeps _ _ _ _) rfl
                refine .step ?_ (State.abandonUpdate_keeps _ _ _) rfl
                assumption
            · extract_lets +onlyGivenNames x5
              clear_value x5
              extract_lets +onlyGivenNames x6
              refine .letS x6 ?_ (fun hx6 => ?_)
              · unfold x6
                refine .step ?_ (State.updSlot_keeps _ _ _ _) rfl
                assumption
              clear_value x6
              refine .ite ?_ ?_
              · refine .step ?_ (State.intent_keeps _ _ _ _ _ _ _ _ _ _) rfl
                assumption
              · refine .step ?_ (State.copyDone_keeps _ _ _ _ _ _) rfl
                assumption
  · exact .refl

theorem execConfirm_keeps {cid : Nat} {channel : Nat} {slot : Nat} {s s' : State} (h : execConfirm cid channel slot s = .next s') : s.sameBut s' [.outbox, .evt, .chs, .vault, .cntr, .tlm, .host] := by
  unfold execConfirm at h
  refine .of_next ?_ h
  clear h
  refine State.admin_keeps _ _ _ _ (fun _ _ => ?_) ?_ rfl
  · extract_lets +onlyGivenNames x1
    refine .letP x1 ?_ (fun hx1 => ?_)
    · unfold x1
      refine .step ?_ (State.confirmCmd_keeps _ _ _) rfl
      assumption
    clear_value x1
    refine .fst_mk ?_
    assumption
  · exact .refl

theorem execConfirmWindowEnd_keeps {n : Ch} {k : SlotId} {s s' : State} (h : execConfirmWindowEnd n k s = .next s') : s.sameBut s' [.freeCtr, .outbox, .regs, .evt, .keeper, .chs, .cellar, .vault, .ctl, .ident] := by
  unfold execConfirmWindowEnd at h
  refine .of_next ?_ h
  clear h
  split
  · refine .ite ?_ ?_
    · refine .step ?_ (State.rollback_keeps _ _ _) rfl
      exact .refl
    · exact .refl
  · exact .refl

theorem execVintageBurnStep_keeps {n : Ch} {k : SlotId} {ok : Bool} {s s' : State} (h : execVintageBurnStep n k ok s = .next s') : s.sameBut s' [.evt, .chs, .vault, .life] := by
  unfold execVintageBurnStep at h
  refine .of_next ?_ h
  clear h
  split
  · refine .ite ?_ ?_
    · exact .refl
    · extract_lets +onlyGivenNames x1
      clear_value x1
      refine .ite ?_ ?_
      · extract_lets +onlyGivenNames x2
        refine .letS x2 ?_ (fun hx2 => ?_)
        · unfold x2
          refine .step ?_ (State.raiseCh_keeps _ _ _ _) rfl
          refine .step ?_ (State.burnVintage_keeps _ _) rfl
          exact .refl
        clear_value x2
        refine .ite ?_ ?_
        · refine .step ?_ (State.burnDone_keeps _ _ _) rfl
          assumption
        · refine .step ?_ (State.intent_keeps _ _ _ _ _ _ _ _ _ _) rfl
          refine .step ?_ (State.updSlot_keeps _ _ _ _) rfl
          assumption
      · refine .step ?_ (State.otpFail_keeps _) rfl
        exact .refl
  · exact .refl

theorem execEyeTraining_keeps {port : PortId} {k : PartId} {t : Training} {s s' : State} (h : execEyeTraining port k t s = .next s') : s.sameBut s' [.freeCtr, .outbox, .regs, .evt, .plat, .keeper, .chs, .cellar, .press, .vault, .ctl, .cntr, .ident] := by
  unfold execEyeTraining at h
  refine .of_next ?_ h
  clear h
  refine .ite ?_ ?_
  · exact .refl
  · extract_lets +onlyGivenNames x1
    clear_value x1
    extract_lets +onlyGivenNames x2
    refine .letS x2 ?_ (fun hx2 => ?_)
    · unfold x2
      refine .step ?_ (State.sameBut.plat _) rfl
      exact .refl
    clear_value x2
    refine .dite (fun _ => ?_) (fun _ => ?_)
    · extract_lets +onlyGivenNames x3
      clear_value x3
      refine .ite ?_ ?_
      · assumption
      · split
        · refine .step ?_ (State.partFailed_keeps _ _ _) rfl
          assumption
        · refine .step ?_ (State.afterTraining_keeps _ _) rfl
          refine .step ?_ (State.raiseDrops_keeps _ _ _) rfl
          refine .step ?_ (State.cnt_keeps _ _ _ _) rfl
          refine .step ?_ (State.updPart_keeps _ _ _ _) rfl
          assumption
    · refine .ite ?_ ?_
      · assumption
      · split
        · refine .step ?_ (State.vaultPartFailed_keeps _ _) rfl
          assumption
        · refine .step ?_ (State.raiseDrops_keeps _ _ _) rfl
          refine .step ?_ (State.updVaultPart_keeps _ _ _) rfl
          assumption

theorem execRetrainDue_keeps {port : PortId} {s s' : State} (h : execRetrainDue port s = .next s') : s.sameBut s' [.plat] := by
  unfold execRetrainDue at h
  refine .of_next ?_ h
  clear h
  refine .ite ?_ ?_
  · refine .step ?_ (State.sameBut.plat _) rfl
    exact .refl
  · exact .refl

theorem execPartBusyTimeout_keeps {port : PortId} {k : PartId} {s s' : State} (h : execPartBusyTimeout port k s = .next s') : s.sameBut s' [.outbox, .evt, .plat, .chs, .vault] := by
  unfold execPartBusyTimeout at h
  refine .of_next ?_ h
  clear h
  refine .ite ?_ ?_
  · exact .refl
  · refine .dite (fun _ => ?_) (fun _ => ?_)
    · extract_lets +onlyGivenNames x1
      clear_value x1
      extract_lets +onlyGivenNames x2
      clear_value x2
      extract_lets +onlyGivenNames x3
      clear_value x3
      extract_lets +onlyGivenNames x4
      refine .letS x4 ?_ (fun hx4 => ?_)
      · unfold x4
        refine .step ?_ (State.opLate_keeps _ _ _) rfl
        exact .refl
      clear_value x4
      refine .ite ?_ ?_
      · assumption
      · refine .ite ?_ ?_
        · refine .step ?_ (State.exception_keeps _ _ _) rfl
          refine .step ?_ (State.raiseCh_keeps _ _ _ _) rfl
          refine .step ?_ (State.updPart_keeps _ _ _ _) rfl
          assumption
        · refine .ite ?_ ?_
          · refine .step ?_ (State.flash_keeps _ _ _ _ _ _ _) rfl
            refine .step ?_ (State.updPart_keeps _ _ _ _) rfl
            assumption
          · assumption
    · extract_lets +onlyGivenNames x5
      clear_value x5
      extract_lets +onlyGivenNames x6
      clear_value x6
      refine .ite ?_ ?_
      · exact .refl
      · refine .ite ?_ ?_
        · refine .step ?_ (State.exception_keeps _ _ _) rfl
          refine .step ?_ (State.raise_keeps _ _ _) rfl
          refine .step ?_ (State.updVaultPart_keeps _ _ _) rfl
          exact .refl
        · refine .ite ?_ ?_
          · refine .step ?_ (State.vaultFlash_keeps _ _ _) rfl
            refine .step ?_ (State.updVaultPart_keeps _ _ _) rfl
            exact .refl
          · exact .refl

theorem execPartSoftwareResetEnd_keeps {port : PortId} {k : PartId} {busy : Bool} {s s' : State} (h : execPartSoftwareResetEnd port k busy s = .next s') : s.sameBut s' [.outbox, .chs, .vault] := by
  unfold execPartSoftwareResetEnd at h
  refine .of_next ?_ h
  clear h
  refine .ite ?_ ?_
  · exact .refl
  · refine .dite (fun _ => ?_) (fun _ => ?_)
    · extract_lets +onlyGivenNames x1
      clear_value x1
      refine .ite ?_ ?_
      · exact .refl
      · refine .ite ?_ ?_
        · refine .step ?_ (State.partRecovered_keeps _ _ _) rfl
          exact .refl
        · refine .ite ?_ ?_
          · exact .refl
          · refine .step ?_ (State.flash_keeps _ _ _ _ _ _ _) rfl
            refine .step ?_ (State.updPart_keeps _ _ _ _) rfl
            exact .refl
    · refine .ite ?_ ?_
      · exact .refl
      · refine .ite ?_ ?_
        · refine .step ?_ (State.vaultIdle_keeps _ _) rfl
          exact .refl
        · refine .ite ?_ ?_
          · exact .refl
          · refine .step ?_ (State.vaultFlash_keeps _ _ _) rfl
            refine .step ?_ (State.updVaultPart_keeps _ _ _) rfl
            exact .refl

theorem execPartResetPulseEnd_keeps {port : PortId} {k : PartId} {bad : Bool} {s s' : State} (h : execPartResetPulseEnd port k bad s = .next s') : s.sameBut s' [.freeCtr, .outbox, .regs, .evt, .plat, .keeper, .chs, .cellar, .press, .vault, .ctl, .ident] := by
  unfold execPartResetPulseEnd at h
  refine .of_next ?_ h
  clear h
  refine .ite ?_ ?_
  · exact .refl
  · refine .dite (fun _ => ?_) (fun _ => ?_)
    · extract_lets +onlyGivenNames x1
      clear_value x1
      refine .ite ?_ ?_
      · exact .refl
      · refine .ite ?_ ?_
        · refine .step ?_ (State.partFailed_keeps _ _ _) rfl
          exact .refl
        · refine .step ?_ (State.partRecovered_keeps _ _ _) rfl
          exact .refl
    · refine .ite ?_ ?_
      · exact .refl
      · refine .ite ?_ ?_
        · refine .step ?_ (State.vaultPartFailed_keeps _ _) rfl
          exact .refl
        · refine .step ?_ (State.vaultIdle_keeps _ _) rfl
          exact .refl

theorem execSectorRefreshStep_keeps {n : Ch} {k : PartId} {slot : SlotId} {unit : Nat} {active : Bool} {verified : Bool} {resident : Bool} {s s' : State} (h : execSectorRefreshStep n k slot unit active verified resident s = .next s') : s.sameBut s' [.outbox, .evt, .chs, .vault] := by
  unfold execSectorRefreshStep at h
  refine .of_next ?_ h
  clear h
  extract_lets +onlyGivenNames x1
  clear_value x1
  extract_lets +onlyGivenNames x2
  clear_value x2
  refine .ite ?_ ?_
  · exact .refl
  · refine .ite ?_ ?_
    · refine .ite ?_ ?_
      · exact .refl
      · refine .step ?_ (State.raiseCh_keeps _ _ _ _) rfl
        refine .step ?_ (State.updPart_keeps _ _ _ _) rfl
        exact .refl
    · extract_lets +onlyGivenNames x3
      refine .letS x3 ?_ (fun hx3 => ?_)
      · unfold x3
        refine .step ?_ (State.updPart_keeps _ _ _ _) rfl
        exact .refl
      clear_value x3
      split
      · refine .ite ?_ ?_
        · refine .step ?_ (State.raiseCh_keeps _ _ _ _) rfl
          assumption
        · refine .ite ?_ ?_
          · assumption
          · refine .step ?_ (State.updPart_keeps _ _ _ _) rfl
            refine .step ?_ (State.refreshRec_keeps _ _ _ _ _ _ _) rfl
            assumption
      · refine .ite ?_ ?_
        · assumption
        · refine .step ?_ (State.updPart_keeps _ _ _ _) rfl
          refine .step ?_ (State.flash_keeps _ _ _ _ _ _ _) rfl
          refine .step ?_ (State.refreshRec_keeps _ _ _ _ _ _ _) rfl
          assumption
      · refine .ite ?_ ?_
        · assumption
        · refine .step ?_ (State.raiseCh_keeps _ _ _ _) rfl
          refine .step ?_ (State.updPart_keeps _ _ _ _) rfl
          refine .step ?_ (State.refreshRec_keeps _ _ _ _ _ _ _) rfl
          assumption

theorem execRefreshPeriodRollover_keeps  {s s' : State} (h : execRefreshPeriodRollover s = .next s') : s.sameBut s' [.chs] := by
  unfold execRefreshPeriodRollover at h
  refine .of_next ?_ h
  clear h
  refine .ite ?_ ?_
  · refine forCh_keeps _ _ (fun _ _ _ => ?_) ?_ rfl
    · refine .foldl (fun _ _ _ => ?_) ?_
      · refine .step ?_ (State.updPart_keeps _ _ _ _) rfl
        assumption
      · assumption
    · exact .refl
  · exact .refl

theorem execJournalCompactionStep_keeps {key : Bool} {s s' : State} (h : execJournalCompactionStep key s = .next s') : s.sameBut s' [.evt, .vault, .crypt] := by
  unfold execJournalCompactionStep at h
  refine .of_next ?_ h
  clear h
  refine .ite ?_ ?_
  · exact .refl
  · split
    · refine .ite ?_ ?_
      · refine .step ?_ (State.compactBegin_keeps _ _) rfl
        exact .refl
      · exact .refl
    · refine .ite ?_ ?_
      · exact .refl
      · refine .ite ?_ ?_
        · refine .step ?_ (State.sameBut.vault _) rfl
          exact .refl
        · refine .step ?_ (State.compactEnd_keeps _ _ _) rfl
          exact .refl

theorem execVaultRetrain_keeps {t : Training} {header : Bool} {s s' : State} (h : execVaultRetrain t header s = .next s') : s.sameBut s' [.freeCtr, .outbox, .regs, .evt, .plat, .keeper, .chs, .cellar, .press, .vault, .ctl, .ident] := by
  unfold execVaultRetrain at h
  refine .of_next ?_ h
  clear h
  split
  · refine .ite ?_ ?_
    · refine .step ?_ (State.vaultRestored_keeps _) rfl
      refine .step ?_ (State.updVaultPart_keeps _ _ _) rfl
      exact .refl
    · exact .refl
  · exact .refl

theorem execDecantPage_keeps {n : Ch} {p : PageId} {node : Bool} {ok : Bool} {keyOk : Bool} {s s' : State} (h : execDecantPage n p node ok keyOk s = .next s') : s.sameBut s' [.freeCtr, .outbox, .regs, .evt, .keeper, .chs, .cellar, .press, .vault, .ctl, .cntr, .ident] := by
  unfold execDecantPage at h
  refine .of_next ?_ h
  clear h
  extract_lets +onlyGivenNames x1
  clear_value x1
  extract_lets +onlyGivenNames x2
  clear_value x2
  extract_lets +onlyGivenNames x3
  clear_value x3
  refine .ite ?_ ?_
  · exact .refl
  · refine .ite ?_ ?_
    · exact .refl
    · extract_lets +onlyGivenNames x4
      refine .letP x4 ?_ (fun hx4 => ?_)
      · unfold x4
        refine .step ?_ (State.pressRun_keeps _ _) rfl
        exact .refl
      clear_value x4
      refine .ite ?_ ?_
      · assumption
      · refine .ite ?_ ?_
        · refine .step ?_ (State.decantNode_keeps _ _ _ _) rfl
          assumption
        · refine .ite ?_ ?_
          · refine .step ?_ (State.decantPinned_keeps _ _ _ _ _) rfl
            assumption
          · refine .step ?_ (State.decantPrefetch_keeps _ _ _ _) rfl
            assumption

theorem execDeferredVerdict_keeps {n : Ch} {p : PageId} {found : Found} {s s' : State} (h : execDeferredVerdict n p found s = .next s') : s.sameBut s' [.freeCtr, .outbox, .regs, .evt, .plat, .keeper, .chs, .cellar, .press, .vault, .ctl, .cntr, .ident] := by
  unfold execDeferredVerdict at h
  refine .of_next ?_ h
  clear h
  split
  · extract_lets +onlyGivenNames x1
    refine .letP x1 ?_ (fun hx1 => ?_)
    · unfold x1
      refine .step ?_ (State.pressRun_keeps _ _) rfl
      exact .refl
    clear_value x1
    refine .ite ?_ ?_
    · assumption
    · refine .ite ?_ ?_
      · refine .step ?_ (State.passVerdict_keeps _ _ _) rfl
        refine .step ?_ (State.keepPath_keeps _ _ _) rfl
        assumption
      · refine .step ?_ (State.failVerdict_keeps _ _ _ _) rfl
        assumption
  · exact .refl

theorem execVerdictLate_keeps {n : Ch} {p : PageId} {s s' : State} (h : execVerdictLate n p s = .next s') : s.sameBut s' [.freeCtr, .outbox, .regs, .evt, .plat, .keeper, .chs, .cellar, .press, .vault, .ctl, .cntr, .ident] := by
  unfold execVerdictLate at h
  refine .of_next ?_ h
  clear h
  split
  · refine .step ?_ (State.lateVerdict_keeps _ _ _) rfl
    exact .refl
  · exact .refl

theorem execLateResult_keeps {n : Ch} {p : PageId} {found : Found} {s s' : State} (h : execLateResult n p found s = .next s') : s.sameBut s' [.freeCtr, .outbox, .regs, .evt, .keeper, .chs, .cellar, .press, .vault, .ctl, .cntr, .ident] := by
  unfold execLateResult at h
  refine .of_next ?_ h
  clear h
  split
  · extract_lets +onlyGivenNames x1
    refine .letP x1 ?_ (fun hx1 => ?_)
    · unfold x1
      refine .step ?_ (State.pressRun_keeps _ _) rfl
      exact .refl
    clear_value x1
    refine .ite ?_ ?_
    · assumption
    · refine .ite ?_ ?_
      · refine .step ?_ (State.updChan_keeps _ _ _) rfl
        refine .step ?_ (State.dropVerdict_keeps _ _ _) rfl
        assumption
      · refine .step ?_ (State.verdictFailure_keeps _ _ _ _) rfl
        refine .step ?_ (State.dropVerdict_keeps _ _ _) rfl
        assumption
  · exact .refl

theorem execPressCreditGrant_keeps  {s s' : State} (h : execPressCreditGrant s = .next s') : s.sameBut s' [.evt, .press, .cntr] := by
  unfold execPressCreditGrant at h
  refine .of_next ?_ h
  clear h
  split
  · refine .step ?_ (State.grantJob_keeps _ _ _) rfl
    exact .refl
  · exact .refl

theorem execRackingShareWindow_keeps {port : PortId} {u : Nat} {pressBusy : Bool} {s s' : State} (h : execRackingShareWindow port u pressBusy s = .next s') : s.sameBut s' [.chs, .vault] := by
  unfold execRackingShareWindow at h
  refine .of_next ?_ h
  clear h
  refine .ite ?_ ?_
  · exact .refl
  · refine .dite (fun _ => ?_) (fun _ => ?_)
    · extract_lets +onlyGivenNames x1
      clear_value x1
      refine .step ?_ (State.updChan_keeps _ _ _) rfl
      exact .refl
    · refine .step ?_ (State.sameBut.vault _) rfl
      exact .refl

theorem execRackSpan_keeps {port : PortId} {f : RackFind} {m : Option Manifest} {s s' : State} (h : execRackSpan port f m s = .next s') : s.sameBut s' [.freeCtr, .outbox, .regs, .evt, .keeper, .chs, .cellar, .press, .vault, .ctl, .cntr, .tlm, .ident, .crypt] := by
  unfold execRackSpan at h
  refine .of_next ?_ h
  clear h
  refine .dite (fun _ => ?_) (fun _ => ?_)
  · extract_lets +onlyGivenNames x1
    clear_value x1
    refine .ite ?_ ?_
    · exact .refl
    · extract_lets +onlyGivenNames x2
      refine .letP x2 ?_ (fun hx2 => ?_)
      · unfold x2
        refine .step ?_ (State.pressRun_keeps _ _) rfl
        exact .refl
      clear_value x2
      refine .ite ?_ ?_
      · assumption
      · split
        · refine .step ?_ (State.rackForRelease_keeps _ _ _ _) rfl
          assumption
        · refine .step ?_ (State.rackCursor_keeps _ _ _ _) rfl
          assumption
  · refine .ite ?_ ?_
    · exact .refl
    · extract_lets +onlyGivenNames x3
      refine .letP x3 ?_ (fun hx3 => ?_)
      · unfold x3
        refine .step ?_ (State.pressRun_keeps _ _) rfl
        exact .refl
      clear_value x3
      refine .ite ?_ ?_
      · assumption
      · refine .step ?_ (State.rackVault_keeps _ _ _) rfl
        assumption

theorem execGraftCandidate_keeps {n : Ch} {k : SlotId} {page copy : Nat} {node : Bool} {qualifies : Bool} {s s' : State} (h : execGraftCandidate n k page copy node qualifies s = .next s') : s.sameBut s' [.freeCtr, .outbox, .regs, .evt, .keeper, .chs, .cellar, .press, .vault, .ctl, .cntr, .ident] := by
  unfold execGraftCandidate at h
  refine .of_next ?_ h
  clear h
  split
  · refine .ite ?_ ?_
    · refine .step ?_ (State.tendRedirects_keeps _ _) rfl
      refine .step ?_ (State.graftExhausted_keeps _ _ _) rfl
      exact .refl
    · split
      · exact .refl
      · refine .ite ?_ ?_
        · exact .refl
        · extract_lets +onlyGivenNames x1
          refine .letP x1 ?_ (fun hx1 => ?_)
          · unfold x1
            refine .step ?_ (State.pressRun_keeps _ _) rfl
            exact .refl
          clear_value x1
          refine .ite ?_ ?_
          · assumption
          · refine .ite ?_ ?_
            · refine .step ?_ (State.tendRedirects_keeps _ _) rfl
              refine .step ?_ (State.candFails_keeps _ _ _ _) rfl
              assumption
            · refine .ite ?_ ?_
              · refine .step ?_ (State.xtsRefused_keeps _ _ _ _) rfl
                assumption
              · refine .step ?_ (State.tendRedirects_keeps _ _) rfl
                refine .step ?_ (State.graftQualifies_keeps _ _ _) rfl
                assumption
  · exact .refl

theorem execGraftRepairStep_keeps {n : Ch} {k : SlotId} {copy : Nat} {part : PartId} {unit : Nat} {bad : RackFind} {ok : Bool} {s s' : State} (h : execGraftRepairStep n k copy part s unit bad ok = .next s') : s.sameBut s' [.freeCtr, .outbox, .regs, .evt, .keeper, .chs, .cellar, .press, .vault, .ctl, .ident] := by
  unfold execGraftRepairStep at h
  refine .of_next ?_ h
  clear h
  split
  · refine .ite ?_ ?_
    · exact .refl
    · refine .ite ?_ ?_
      · refine .ite ?_ ?_
        · refine .step ?_ (State.raiseCh_keeps _ _ _ _) rfl
          refine .step ?_ (State.setRepair_keeps _ _ _) rfl
          exact .refl
        · exact .refl
      · split
        · refine .step ?_ (State.repairRead_keeps _ _ _ _) rfl
          exact .refl
        · refine .step ?_ (State.repairRec_keeps _ _ _ _ _) rfl
          refine .step ?_ (State.setRepair_keeps _ _ _) rfl
          refine .step ?_ (State.repairFlash_keeps _ _ _ _) rfl
          exact .refl
        · refine .step ?_ (State.repairRec_keeps _ _ _ _ _) rfl
          refine .step ?_ (State.setRepair_keeps _ _ _) rfl
          refine .step ?_ (State.repairFlash_keeps _ _ _ _) rfl
          exact .refl
        · refine .step ?_ (State.repairReadBack_keeps _ _ _ _) rfl
          exact .refl
        · refine .step ?_ (State.repairDone_keeps _ _ _) rfl
          exact .refl
  · exact .refl

theorem execAutorelRelease_keeps {n : Ch} {s s' : State} (h : execAutorelRelease n s = .next s') : s.sameBut s' [.freeCtr, .outbox, .regs, .evt, .keeper, .chs, .cellar, .press, .vault, .ctl, .ident] := by
  unfold execAutorelRelease at h
  refine .of_next ?_ h
  clear h
  split
  · refine .ite ?_ ?_
    · refine .step ?_ (State.releaseQuarantine_keeps _ _) rfl
      refine .step ?_ (State.updChan_keeps _ _ _) rfl
      exact .refl
    · exact .refl
  · exact .refl

theorem execPcOutMismatch_keeps {k : Nat} {s s' : State} (h : execPcOutMismatch k s = .next s') : s.sameBut s' [.regs, .evt] := by
  unfold execPcOutMismatch at h
  refine .of_next ?_ h
  clear h
  refine .ite ?_ ?_
  · refine .step ?_ (State.raise_keeps _ _ _) rfl
    refine .step ?_ (State.setSticky_keeps _ _ _) rfl
    exact .refl
  · exact .refl

theorem execPcInChange_keeps {k : Nat} {level : Bool} {s s' : State} (h : execPcInChange k level s = .next s') : s.sameBut s' [.evt, .ctl] := by
  unfold execPcInChange at h
  refine .of_next ?_ h
  clear h
  refine .ite ?_ ?_
  · exact .refl
  · extract_lets +onlyGivenNames x1
    clear_value x1
    refine .step ?_ (State.raiseIf_keeps _ _ _ _) rfl
    refine .step ?_ (State.sameBut.ctl _) rfl
    exact .refl

theorem execHaltNFall_keeps  {s s' : State} (h : execHaltNFall s = .next s') : s.sameBut s' [.freeCtr, .outbox, .regs, .evt, .plat, .keeper, .chs, .cellar, .vault, .ctl, .cntr, .ident] := by
  unfold execHaltNFall at h
  refine .of_next ?_ h
  clear h
  refine .ite ?_ ?_
  · exact .refl
  · extract_lets +onlyGivenNames x1
    clear_value x1
    extract_lets +onlyGivenNames x2
    refine .letS x2 ?_ (fun hx2 => ?_)
    · unfold x2
      refine .step ?_ (State.sameBut.plat _) rfl
      exact .refl
    clear_value x2
    extract_lets +onlyGivenNames x3
    refine .letS x3 ?_ (fun hx3 => ?_)
    · unfold x3
      refine forCh_keeps _ _ (fun _ _ _ => ?_) ?_ rfl
      · refine .ite ?_ ?_
        · refine .step ?_ (State.holdAgent_keeps _ _) rfl
          refine .step ?_ (State.raiseCh_keeps _ _ _ _) rfl
          refine .step ?_ (State.cnt_keeps _ _ _ _) rfl
          refine .step ?_ (State.updAgt_keeps _ _ _) rfl
          assumption
        · refine .foldl (fun _ _ _ => ?_) ?_
          · refine .step ?_ (State.rollback_keeps _ _ _) rfl
            assumption
          · assumption
      · assumption
    clear_value x3
    refine .step ?_ (State.raise_keeps _ _ _) rfl
    assumption

theorem execHaltNRise_keeps  {s s' : State} (h : execHaltNRise s = .next s') : s.sameBut s' [.evt, .plat, .ctl] := by
  unfold execHaltNRise at h
  refine .of_next ?_ h
  clear h
  refine .ite ?_ ?_
  · exact .refl
  · extract_lets +onlyGivenNames x1
    clear_value x1
    extract_lets +onlyGivenNames x2
    refine .letS x2 ?_ (fun hx2 => ?_)
    · unfold x2
      refine .step ?_ (State.sameBut.plat _) rfl
      exact .refl
    clear_value x2
    extract_lets +onlyGivenNames x3
    clear_value x3
    refine .step ?_ (State.raise_keeps _ _ _) rfl
    refine forCh_keeps _ _ (fun _ _ _ => ?_) ?_ rfl
    · refine .step ?_ (State.updAgt_keeps _ _ _) rfl
      assumption
    · assumption

theorem execSeqEnd_keeps  {s s' : State} (h : execSeqEnd s = .next s') : s.sameBut s' [.evt, .ctl] := by
  unfold execSeqEnd at h
  refine .of_next ?_ h
  clear h
  split
  · refine .ite ?_ ?_
    · extract_lets +onlyGivenNames x1
      refine .letS x1 ?_ (fun hx1 => ?_)
      · unfold x1
        refine .step ?_ (State.setProg_keeps _ _) rfl
        exact .refl
      clear_value x1
      refine .ite ?_ ?_
      · refine .step ?_ (State.raise_keeps _ _ _) rfl
        refine .step ?_ (State.sameBut.ctl _) rfl
        assumption
      · assumption
    · exact .refl
  · exact .refl

theorem execSeqSet_keeps  {s s' : State} (h : execSeqSet s = .next s') : s.sameBut s' [.ctl] := by
  unfold execSeqSet at h
  refine .of_next ?_ h
  clear h
  split
  · refine .ite ?_ ?_
    · refine .step ?_ (State.seqNext_keeps _ _) rfl
      refine .step ?_ (State.seqPin_keeps _ _ _ _) rfl
      exact .refl
    · exact .refl
  · exact .refl

theorem execSeqWaitIn_keeps  {s s' : State} (h : execSeqWaitIn s = .next s') : s.sameBut s' [.ctl] := by
  unfold execSeqWaitIn at h
  refine .of_next ?_ h
  clear h
  split
  · refine .ite ?_ ?_
    · refine .ite ?_ ?_
      · refine .step ?_ (State.seqNext_keeps _ _) rfl
        exact .refl
      · refine .step ?_ (State.seqWaitAt_keeps _ _ _) rfl
        exact .refl
    · exact .refl
  · exact .refl

theorem execSeqDelay_keeps  {s s' : State} (h : execSeqDelay s = .next s') : s.sameBut s' [.ctl] := by
  unfold execSeqDelay at h
  refine .of_next ?_ h
  clear h
  split
  · refine .ite ?_ ?_
    · refine .ite ?_ ?_
      · refine .step ?_ (State.seqNext_keeps _ _) rfl
        exact .refl
      · refine .step ?_ (State.seqWaitAt_keeps _ _ _) rfl
        exact .refl
    · exact .refl
  · exact .refl

theorem execSeqRelease_keeps  {s s' : State} (h : execSeqRelease s = .next s') : s.sameBut s' [.freeCtr, .evt, .plat, .keeper, .chs, .vault, .ctl] := by
  unfold execSeqRelease at h
  refine .of_next ?_ h
  clear h
  split
  · refine .ite ?_ ?_
    · extract_lets +onlyGivenNames x1
      clear_value x1
      refine .ite ?_ ?_
      · refine .step ?_ (State.seqNext_keeps _ _) rfl
        exact .refl
      · extract_lets +onlyGivenNames x2
        refine .letS x2 ?_ (fun hx2 => ?_)
        · unfold x2
          refine .foldl (fun _ _ _ => ?_) ?_
          · refine .step ?_ (State.updAgt_keeps _ _ _) rfl
            assumption
          · exact .refl
        clear_value x2
        extract_lets +onlyGivenNames x3
        clear_value x3
        refine .ite ?_ ?_
        · refine .step ?_ (State.seqRelease_keeps _ _ _ _) rfl
          assumption
        · refine .step ?_ (State.seqWaitAt_keeps _ _ _) rfl
          assumption
    · exact .refl
  · exact .refl

theorem execSeqWaitHb_keeps  {s s' : State} (h : execSeqWaitHb s = .next s') : s.sameBut s' [.ctl] := by
  unfold execSeqWaitHb at h
  refine .of_next ?_ h
  clear h
  split
  · refine .ite ?_ ?_
    · refine .ite ?_ ?_
      · refine .step ?_ (State.seqNext_keeps _ _) rfl
        exact .refl
      · refine .step ?_ (State.seqWaitAt_keeps _ _ _) rfl
        exact .refl
    · exact .refl
  · exact .refl

theorem execSeqWaitSatisfied_keeps  {s s' : State} (h : execSeqWaitSatisfied s = .next s') : s.sameBut s' [.freeCtr, .evt, .plat, .keeper, .chs, .vault, .ctl] := by
  unfold execSeqWaitSatisfied at h
  refine .of_next ?_ h
  clear h
  split
  · extract_lets +onlyGivenNames x1
    split
    · refine .ite ?_ ?_
      · refine .step ?_ (State.seqNext_keeps _ _) rfl
        exact .refl
      · exact .refl
    · refine .ite ?_ ?_
      · refine .step ?_ (State.seqNext_keeps _ _) rfl
        exact .refl
      · exact .refl
    · extract_lets +onlyGivenNames x2
      clear_value x2
      refine .ite ?_ ?_
      · refine .step ?_ (State.seqRelease_keeps _ _ _ _) rfl
        exact .refl
      · exact .refl
    · exact .refl
  · exact .refl

theorem execSeqTimeout_keeps  {s s' : State} (h : execSeqTimeout s = .next s') : s.sameBut s' [.freeCtr, .evt, .plat, .keeper, .chs, .vault, .ctl] := by
  unfold execSeqTimeout at h
  refine .of_next ?_ h
  clear h
  split
  · extract_lets +onlyGivenNames x1
    clear_value x1
    refine .ite ?_ ?_
    · exact .refl
    · refine .ite ?_ ?_
      · extract_lets +onlyGivenNames x2
        refine .letS x2 ?_ (fun hx2 => ?_)
        · unfold x2
          refine .ite ?_ ?_
          · refine .foldl (fun _ _ _ => ?_) ?_
            · refine .step ?_ (State.updAgt_keeps _ _ _) rfl
              assumption
            · exact .refl
          · exact .refl
        clear_value x2
        refine .step ?_ (State.seqStop_keeps _ _) rfl
        assumption
      · extract_lets +onlyGivenNames x3
        refine .letS x3 ?_ (fun hx3 => ?_)
        · unfold x3
          refine .step ?_ (State.raiseAt_keeps _ _ _ _) rfl
          exact .refl
        clear_value x3
        refine .ite ?_ ?_
        · extract_lets +onlyGivenNames x4
          clear_value x4
          refine .foldl (fun _ _ _ => ?_) ?_
          · refine .step ?_ (State.requestHeldAgain_keeps _ _) rfl
            assumption
          · refine .ite ?_ ?_
            · refine .step ?_ (State.seqRelease_keeps _ _ _ _) rfl
              assumption
            · refine .step ?_ (State.seqNext_keeps _ _) rfl
              assumption
        · refine .step ?_ (State.seqNext_keeps _ _) rfl
          assumption
  · exact .refl

theorem execDelayExpiry_keeps  {s s' : State} (h : execDelayExpiry s = .next s') : s.sameBut s' [.ctl] := by
  unfold execDelayExpiry at h
  refine .of_next ?_ h
  clear h
  split
  · refine .ite ?_ ?_
    · refine .step ?_ (State.seqNext_keeps _ _) rfl
      exact .refl
    · exact .refl
  · exact .refl

theorem execSubprogramStart_keeps  {s s' : State} (h : execSubprogramStart s = .next s') : s.sameBut s' [.evt, .ctl] := by
  unfold execSubprogramStart at h
  refine .of_next ?_ h
  clear h
  refine .ite ?_ ?_
  · exact .refl
  · split
    · exact .refl
    · refine .dite (fun _ => ?_) (fun _ => ?_)
      · extract_lets +onlyGivenNames x1
        clear_value x1
        extract_lets +onlyGivenNames x2
        clear_value x2
        extract_lets +onlyGivenNames x3
        refine .letS x3 ?_ (fun hx3 => ?_)
        · unfold x3
          refine .step ?_ (State.sameBut.ctl _) rfl
          exact .refl
        clear_value x3
        refine .ite ?_ ?_
        · refine .step ?_ (State.raise_keeps _ _ _) rfl
          refine .step ?_ (State.setProg_keeps _ _) rfl
          assumption
        · assumption
      · exact .refl

theorem execRerelease_keeps {n : Ch} {s s' : State} (h : execRerelease n s = .next s') : s.sameBut s' [.freeCtr, .evt, .plat, .keeper, .chs, .vault, .ctl] := by
  unfold execRerelease at h
  refine .of_next ?_ h
  clear h
  refine .ite ?_ ?_
  · refine .step ?_ (State.releaseMany_keeps _ _) rfl
    exact .refl
  · exact .refl

theorem execUrgentStop_keeps {side : Bool} {mask : Nat} {seq : Nat} {s s' : State} (h : execUrgentStop side mask seq s = .next s') : s.sameBut s' [.freeCtr, .outbox, .regs, .evt, .keeper, .chs, .cellar, .vault, .ctl, .cntr, .ident] := by
  unfold execUrgentStop at h
  refine .of_next ?_ h
  clear h
  refine .step ?_ (State.urgentStop_keeps _ _ _ _) rfl
  exact .refl

theorem execUrgentRelease_keeps {side : Bool} {mask : Nat} {seq : Nat} {s s' : State} (h : execUrgentRelease side mask seq s = .next s') : s.sameBut s' [.evt, .ctl, .cntr] := by
  unfold execUrgentRelease at h
  refine .of_next ?_ h
  clear h
  refine .step ?_ (State.urgentRelease_keeps _ _ _ _) rfl
  exact .refl

theorem execQclearElapsed_keeps {n : Ch} {s s' : State} (h : execQclearElapsed n s = .next s') : s.sameBut s' [.ctl] := by
  unfold execQclearElapsed at h
  refine .of_next ?_ h
  clear h
  refine .ite ?_ ?_
  · refine .step ?_ (State.updAgt_keeps _ _ _) rfl
    exact .refl
  · exact .refl

theorem execSbsvcWrite_keeps {n : Ch} {key : Word} {s s' : State} (h : execSbsvcWrite n key s = .next s') : s.sameBut s' [.freeCtr, .outbox, .regs, .evt, .keeper, .chs, .cellar, .press, .vault, .ctl, .cntr, .ident] := by
  unfold execSbsvcWrite at h
  refine .of_next ?_ h
  clear h
  refine .ite ?_ ?_
  · refine .step ?_ (State.sbsvc_keeps _ _ _) rfl
    exact .refl
  · exact .refl

theorem execWatchdogFirstExpiry_keeps {n : Ch} {s s' : State} (h : execWatchdogFirstExpiry n s = .next s') : s.sameBut s' [.evt, .ctl] := by
  unfold execWatchdogFirstExpiry at h
  refine .of_next ?_ h
  clear h
  refine .ite ?_ ?_
  · refine .step ?_ (State.raise_keeps _ _ _) rfl
    refine .step ?_ (State.updAgt_keeps _ _ _) rfl
    exact .refl
  · exact .refl

theorem execWatchdogSecondExpiry_keeps {n : Ch} {s s' : State} (h : execWatchdogSecondExpiry n s = .next s') : s.sameBut s' [.freeCtr, .outbox, .regs, .evt, .keeper, .chs, .cellar, .press, .vault, .ctl, .cntr, .ident] := by
  unfold execWatchdogSecondExpiry at h
  refine .of_next ?_ h
  clear h
  refine .ite ?_ ?_
  · refine .step ?_ (State.wdReset_keeps _ _) rfl
    exact .refl
  · exact .refl

theorem execStreamOpen_keeps {cid : Nat} {no : Nat} {qpair : Nat} {enc : Nat} {overlap : Nat} {label : Nat} {weight : Nat} {s s' : State} (h : execStreamOpen cid no qpair enc overlap label weight s = .next s') : s.sameBut s' [.outbox, .evt, .cntr, .tlm, .host, .sealing] := by
  unfold execStreamOpen at h
  refine .of_next ?_ h
  clear h
  refine State.admin_keeps _ _ _ _ (fun _ _ => ?_) ?_ rfl
  · extract_lets +onlyGivenNames x1
    clear_value x1
    refine .ite_fst ?_ ?_
    · refine .fst_mk ?_
      assumption
    · extract_lets +onlyGivenNames x2
      clear_value x2
      extract_lets +onlyGivenNames x3
      clear_value x3
      refine .fst_mk ?_
      refine .step ?_ (State.raiseSeal_keeps _ _ _) rfl
      refine .step ?_ (State.setStream_keeps _ _) rfl
      assumption
  · exact .refl

theorem execStreamClose_keeps {cid : Nat} {no : Nat} {s s' : State} (h : execStreamClose cid no s = .next s') : s.sameBut s' [.outbox, .evt, .cntr, .tlm, .host, .sealing] := by
  unfold execStreamClose at h
  refine .of_next ?_ h
  clear h
  split
  · refine .ite ?_ ?_
    · exact .refl
    · refine .ite ?_ ?_
      · refine .step ?_ (State.completeCmd_keeps _ _ _) rfl
        exact .refl
      · refine .ite ?_ ?_
        · refine .step ?_ (State.completeCmd_keeps _ _ _) rfl
          exact .refl
        · refine .ite ?_ ?_
          · refine .step ?_ (State.completeCmd_keeps _ _ _) rfl
            exact .refl
          · refine .ite ?_ ?_
            · refine .step ?_ (State.completeCmd_keeps _ _ _) rfl
              refine .step ?_ (State.closeStream_keeps _ _) rfl
              exact .refl
            · extract_lets +onlyGivenNames x1
              refine .letS x1 ?_ (fun hx1 => ?_)
              · unfold x1
                refine .step ?_ (State.setStream_keeps _ _) rfl
                refine .step ?_ (State.dropQueue_keeps _ _ _) rfl
                exact .refl
              clear_value x1
              refine .step ?_ (State.sameBut.host _) rfl
              assumption
  · refine State.admin_keeps _ _ _ _ (fun _ _ => ?_) ?_ rfl
    · refine .fst_mk ?_
      assumption
    · exact .refl

theorem execSealSegment_keeps {q : Nat} {cid : Nat} {no : Nat} {len : Nat} {src : Nat} {dst : Nat} {rcpt : Nat} {s s' : State} (h : execSealSegment q cid no len src dst rcpt s = .next s') : s.sameBut s' [.outbox, .evt, .cntr, .tlm, .host, .sealing] := by
  unfold execSealSegment at h
  refine .of_next ?_ h
  clear h
  split
  · exact .refl
  · extract_lets +onlyGivenNames x1
    clear_value x1
    refine .ite ?_ ?_
    · exact .refl
    · split
      · extract_lets +onlyGivenNames x2
        clear_value x2
        extract_lets +onlyGivenNames x3
        clear_value x3
        extract_lets +onlyGivenNames x4
        refine .letS x4 ?_ (fun hx4 => ?_)
        · unfold x4
          refine .step ?_ (State.sameBut.host _) rfl
          exact .refl
        clear_value x4
        extract_lets +onlyGivenNames x5
        clear_value x5
        refine .ite ?_ ?_
        · refine .step ?_ (State.failSeg_keeps _ _ _) rfl
          assumption
        · refine .step ?_ (State.setStream_keeps _ _) rfl
          assumption
      · refine .step ?_ (State.completeCmd_keeps _ _ _) rfl
        exact .refl

theorem execVerifySegment_keeps {q : Nat} {cid : Nat} {form : Nat} {len : Nat} {data : List Byte} {rcpt : List Byte} {prev : Option (List Byte)} {s s' : State} (h : execVerifySegment q cid form len data rcpt prev s = .next s') : s.sameBut s' [.outbox, .evt, .press, .cntr, .tlm, .host] := by
  unfold execVerifySegment at h
  refine .of_next ?_ h
  clear h
  split
  · exact .refl
  · refine .ite ?_ ?_
    · exact .refl
    · refine .ite ?_ ?_
      · refine .step ?_ (State.completeCmd_keeps _ _ _) rfl
        exact .refl
      · refine .ite ?_ ?_
        · refine .step ?_ (State.completeCmd_keeps _ _ _) rfl
          exact .refl
        · refine .ite ?_ ?_
          · refine .step ?_ (State.completeCmd_keeps _ _ _) rfl
            exact .refl
          · refine .ite ?_ ?_
            · refine .step ?_ (State.completeCmd_keeps _ _ _) rfl
              exact .refl
            · refine .ite ?_ ?_
              · refine .step ?_ (State.completeCmd_keeps _ _ _) rfl
                exact .refl
              · extract_lets +onlyGivenNames x1
                refine .letP x1 ?_ (fun hx1 => ?_)
                · unfold x1
                  refine .step ?_ (State.sealRun_keeps _ _) rfl
                  exact .refl
                clear_value x1
                refine .ite ?_ ?_
                · assumption
                · extract_lets +onlyGivenNames x2
                  refine .letS x2 ?_ (fun hx2 => ?_)
                  · unfold x2
                    assumption
                  clear_value x2
                  extract_lets +onlyGivenNames x3
                  clear_value x3
                  extract_lets +onlyGivenNames x4
                  refine .letS x4 ?_ (fun hx4 => ?_)
                  · unfold x4
                    refine .step ?_ (State.cntQ_keeps _ _ _) rfl
                    refine .step ?_ (State.countRead_keeps _ _ _) rfl
                    refine .step ?_ (State.countRead_keeps _ _ _) rfl
                    refine .step ?_ (State.countRead_keeps _ _ _) rfl
                    assumption
                  clear_value x4
                  refine .step ?_ (State.completeCmd_keeps _ _ _) rfl
                  refine .step ?_ (State.raiseIf_keeps _ _ _ _) rfl
                  assumption

theorem execSealLog_keeps {cid : Nat} {recBase : Nat} {listBase : Nat} {ctl : Nat} {recSlots : Nat} {listEnt : Nat} {s s' : State} (h : execSealLog cid recBase listBase ctl recSlots listEnt s = .next s') : s.sameBut s' [.outbox, .evt, .cntr, .tlm, .host, .sealing] := by
  unfold execSealLog at h
  refine .of_next ?_ h
  clear h
  refine State.admin_keeps _ _ _ _ (fun _ _ => ?_) ?_ rfl
  · extract_lets +onlyGivenNames x1
    clear_value x1
    refine .ite_fst ?_ ?_
    · refine .fst_mk ?_
      assumption
    · refine .ite_fst ?_ ?_
      · refine .fst_mk ?_
        assumption
      · split
        · refine .fst_mk ?_
          assumption
        · refine .ite_fst ?_ ?_
          · refine .fst_mk ?_
            assumption
          · refine .ite_fst ?_ ?_
            · refine .fst_mk ?_
              refine .step ?_ (State.sameBut.sealing _) rfl
              assumption
            · extract_lets +onlyGivenNames x2
              clear_value x2
              extract_lets +onlyGivenNames x3
              clear_value x3
              extract_lets +onlyGivenNames x4
              clear_value x4
              extract_lets +onlyGivenNames x5
              refine .letS x5 ?_ (fun hx5 => ?_)
              · unfold x5
                refine .step ?_ (State.sameBut.sealing _) rfl
                assumption
              clear_value x5
              refine .fst_mk ?_
              refine .ite ?_ ?_
              · refine .step ?_ (State.openEpoch_keeps _ _ _) rfl
                assumption
              · assumption
  · exact .refl

theorem execAnchorRequest_keeps {cid : Nat} {len : Nat} {addr : Nat} {s s' : State} (h : execAnchorRequest cid len addr s = .next s') : s.sameBut s' [.outbox, .evt, .cntr, .tlm, .host, .sealing, .crypt] := by
  unfold execAnchorRequest at h
  refine .of_next ?_ h
  clear h
  refine State.admin_keeps _ _ _ _ (fun _ _ => ?_) ?_ rfl
  · refine .ite_fst ?_ ?_
    · refine .fst_mk ?_
      assumption
    · refine .ite_fst ?_ ?_
      · refine .fst_mk ?_
        assumption
      · refine .ite_fst ?_ ?_
        · refine .fst_mk ?_
          assumption
        · refine .ite_fst ?_ ?_
          · refine .fst_mk ?_
            assumption
          · extract_lets +onlyGivenNames x1
            clear_value x1
            extract_lets +onlyGivenNames x2
            clear_value x2
            extract_lets +onlyGivenNames x3
            clear_value x3
            extract_lets +onlyGivenNames x4
            refine .letS x4 ?_ (fun hx4 => ?_)
            · unfold x4
              refine .step ?_ (State.drawn_keeps _) rfl
              assumption
            clear_value x4
            extract_lets +onlyGivenNames x5
            clear_value x5
            extract_lets +onlyGivenNames x6
            refine .letS x6 ?_ (fun hx6 => ?_)
            · unfold x6
              refine .step ?_ (State.sameBut.sealing _) rfl
              assumption
            clear_value x6
            refine .fst_mk ?_
            refine .step ?_ (State.raiseSeal_keeps _ _ _) rfl
            refine .step ?_ (State.hostWrite_keeps _ _ _) rfl
            assumption
  · exact .refl

theorem execAnchorSubmit_keeps {cid : Nat} {t : AnchorTok} {s s' : State} (h : execAnchorSubmit cid t s = .next s') : s.sameBut s' [.outbox, .evt, .cntr, .tlm, .host, .sealing, .crypt] := by
  unfold execAnchorSubmit at h
  refine .of_next ?_ h
  clear h
  refine State.admin_keeps _ _ _ _ (fun _ _ => ?_) ?_ rfl
  · refine .ite_fst ?_ ?_
    · refine .fst_mk ?_
      assumption
    · refine .ite_fst ?_ ?_
      · refine .fst_mk ?_
        assumption
      · extract_lets +onlyGivenNames x1
        clear_value x1
        extract_lets +onlyGivenNames x2
        refine .letP x2 ?_ (fun hx2 => ?_)
        · unfold x2
          refine State.withPku_keeps _ _ _ (fun _ _ => ?_) ?_ rfl
          · refine .fst_mk ?_
            assumption
          · assumption
        clear_value x2
        extract_lets +onlyGivenNames x3
        clear_value x3
        extract_lets +onlyGivenNames x4
        clear_value x4
        extract_lets +onlyGivenNames x5
        clear_value x5
        extract_lets +onlyGivenNames x6
        refine .letS x6 ?_ (fun hx6 => ?_)
        · unfold x6
          refine .step ?_ (State.countRead_keeps _ _ _) rfl
          assumption
        clear_value x6
        extract_lets +onlyGivenNames x7
        clear_value x7
        extract_lets +onlyGivenNames x8
        refine .letS x8 ?_ (fun hx8 => ?_)
        · unfold x8
          refine .step ?_ (State.sameBut.sealing _) rfl
          assumption
        clear_value x8
        split
        · extract_lets +onlyGivenNames x9
          clear_value x9
          refine .fst_mk ?_
          refine .step ?_ (State.sameBut.sealing _) rfl
          assumption
        · refine .fst_mk ?_
          refine .step ?_ (State.raiseSeal_keeps _ _ _) rfl
          assumption
  · exact .refl

theorem execRunStart_keeps  {s s' : State} (h : execRunStart s = .next s') : s.sameBut s' [.evt, .sealing, .crypt] := by
  unfold execRunStart at h
  refine .of_next ?_ h
  clear h
  refine .ite ?_ ?_
  · exact .refl
  · extract_lets +onlyGivenNames x1
    clear_value x1
    extract_lets +onlyGivenNames x2
    clear_value x2
    extract_lets +onlyGivenNames x3
    clear_value x3
    extract_lets +onlyGivenNames x4
    clear_value x4
    extract_lets +onlyGivenNames x5
    clear_value x5
    extract_lets +onlyGivenNames x6
    refine .letS x6 ?_ (fun hx6 => ?_)
    · unfold x6
      refine .step ?_ (State.sameBut.sealing_crypt _ _) rfl
      exact .refl
    clear_value x6
    refine .step ?_ (State.raiseIf_keeps _ _ _ _) rfl
    assumption

theorem execSegmentBegin_keeps {attention : Bool} {s s' : State} (h : execSegmentBegin s attention = .next s') : s.sameBut s' [.outbox, .evt, .plat, .press, .cntr, .tlm, .host, .sealing] := by
  unfold execSegmentBegin at h
  refine .of_next ?_ h
  clear h
  refine .ite ?_ ?_
  · exact .refl
  · refine .ite ?_ ?_
    · refine .ite ?_ ?_
      · exact .refl
      · refine .step ?_ (State.raiseSeal_keeps _ _ _) rfl
        refine .step ?_ (State.sameBut.sealing _) rfl
        exact .refl
    · extract_lets +onlyGivenNames x1
      clear_value x1
      extract_lets +onlyGivenNames x2
      refine .letS x2 ?_ (fun hx2 => ?_)
      · unfold x2
        refine .step ?_ (State.sameBut.sealing _) rfl
        exact .refl
      clear_value x2
      extract_lets +onlyGivenNames x3
      clear_value x3
      split
      · assumption
      · split
        · extract_lets +onlyGivenNames x4
          clear_value x4
          refine .ite ?_ ?_
          · refine .step ?_ (State.cntQ_keeps _ _ _) rfl
            assumption
          · extract_lets +onlyGivenNames x5
            clear_value x5
            extract_lets +onlyGivenNames x6
            clear_value x6
            extract_lets +onlyGivenNames x7
            refine .letS x7 ?_ (fun hx7 => ?_)
            · unfold x7
              refine .step ?_ (State.sameBut.sealing _) rfl
              assumption
            clear_value x7
            split
            · assumption
            · refine .ite ?_ ?_
              · refine .step ?_ (State.loseKey_keeps _ _) rfl
                refine .step ?_ (State.raise_keeps _ _ _) rfl
                assumption
              · refine .ite ?_ ?_
                · refine .step ?_ (State.failSeg_keeps _ _ _) rfl
                  refine .step ?_ (State.setStream_keeps _ _) rfl
                  assumption
                · refine .ite ?_ ?_
                  · refine .step ?_ (State.exception_keeps _ _ _) rfl
                    refine .step ?_ (State.failSeg_keeps _ _ _) rfl
                    refine .step ?_ (State.setStream_keeps _ _) rfl
                    assumption
                  · refine .step ?_ (State.beginSegment_keeps _ _ _ _) rfl
                    assumption
        · assumption

theorem execSegmentComplete_keeps {no : Nat} {data : List Byte} {s s' : State} (h : execSegmentComplete no data s = .next s') : s.sameBut s' [.outbox, .evt, .press, .cntr, .tlm, .host, .sealing] := by
  unfold execSegmentComplete at h
  refine .of_next ?_ h
  clear h
  split
  · split
    · exact .refl
    · extract_lets +onlyGivenNames x1
      refine .letP x1 ?_ (fun hx1 => ?_)
      · unfold x1
        refine .step ?_ (State.segRun_keeps _ _) rfl
        exact .refl
      clear_value x1
      refine .ite ?_ ?_
      · assumption
      · extract_lets +onlyGivenNames x2
        refine .letS x2 ?_ (fun hx2 => ?_)
        · unfold x2
          assumption
        clear_value x2
        extract_lets +onlyGivenNames x3
        clear_value x3
        extract_lets +onlyGivenNames x4
        clear_value x4
        extract_lets +onlyGivenNames x5
        clear_value x5
        extract_lets +onlyGivenNames x6
        clear_value x6
        extract_lets +onlyGivenNames x7
        clear_value x7
        extract_lets +onlyGivenNames x8
        clear_value x8
        extract_lets +onlyGivenNames x9
        clear_value x9
        extract_lets +onlyGivenNames x10
        clear_value x10
        extract_lets +onlyGivenNames x11
        clear_value x11
        extract_lets +onlyGivenNames x12
        clear_value x12
        extract_lets +onlyGivenNames x13
        clear_value x13
        extract_lets +onlyGivenNames x14
        clear_value x14
        extract_lets +onlyGivenNames x15
        clear_value x15
        extract_lets +onlyGivenNames x16
        refine .letS x16 ?_ (fun hx16 => ?_)
        · unfold x16
          refine .step ?_ (State.countSegment_keeps _ _ _ _ _ _) rfl
          refine .step ?_ (State.segCredit_keeps _ _) rfl
          assumption
        clear_value x16
        extract_lets +onlyGivenNames x17
        refine .letS x17 ?_ (fun hx17 => ?_)
        · unfold x17
          refine .step ?_ (State.raiseIf_keeps _ _ _ _) rfl
          refine .step ?_ (State.cntQ_keeps _ _ _) rfl
          refine .step ?_ (State.cntQ_keeps _ _ _) rfl
          assumption
        clear_value x17
        extract_lets +onlyGivenNames x18
        refine .letS x18 ?_ (fun hx18 => ?_)
        · unfold x18
          refine .step ?_ (State.updOpen_keeps _ _) rfl
          assumption
        clear_value x18
        extract_lets +onlyGivenNames x19
        clear_value x19
        extract_lets +onlyGivenNames x20
        refine .letS x20 ?_ (fun hx20 => ?_)
        · unfold x20
          refine .step ?_ (State.sameBut.sealing _) rfl
          assumption
        clear_value x20
        extract_lets +onlyGivenNames x21
        clear_value x21
        extract_lets +onlyGivenNames x22
        refine .letS x22 ?_ (fun hx22 => ?_)
        · unfold x22
          refine .step ?_ (State.setStream_keeps _ _) rfl
          assumption
        clear_value x22
        extract_lets +onlyGivenNames x23
        refine .letS x23 ?_ (fun hx23 => ?_)
        · unfold x23
          refine .step ?_ (State.hostWrite_keeps _ _ _) rfl
          refine .ite ?_ ?_
          · refine .step ?_ (State.hostWrite_keeps _ _ _) rfl
            assumption
          · assumption
        clear_value x23
        extract_lets +onlyGivenNames x24
        refine .letS x24 ?_ (fun hx24 => ?_)
        · unfold x24
          refine .step ?_ (State.postCpl_keeps _ _ _ _ _) rfl
          refine .step ?_ (State.dropFetched_keeps _ _) rfl
          assumption
        clear_value x24
        extract_lets +onlyGivenNames x25
        refine .letS x25 ?_ (fun hx25 => ?_)
        · unfold x25
          refine .ite ?_ ?_
          · refine .step ?_ (State.finalise_keeps _) rfl
            assumption
          · assumption
        clear_value x25
        refine .step ?_ (State.closeWaiting_keeps _ _) rfl
        assumption
  · exact .refl

theorem execEpochClose_keeps  {s s' : State} (h : execEpochClose s = .next s') : s.sameBut s' [.evt, .keeper, .cntr, .sealing] := by
  unfold execEpochClose at h
  refine .of_next ?_ h
  clear h
  split
  · refine .ite ?_ ?_
    · refine .ite ?_ ?_
      · exact .refl
      · refine .step ?_ (State.raiseSeal_keeps _ _ _) rfl
        refine .step ?_ (State.cntQ_keeps _ _ _) rfl
        refine .step ?_ (State.updOpen_keeps _ _) rfl
        exact .refl
    · extract_lets +onlyGivenNames x1
      clear_value x1
      extract_lets +onlyGivenNames x2
      refine .letP x2 ?_ (fun hx2 => ?_)
      · unfold x2
        refine .step ?_ (State.applyAnchor_keeps _ _) rfl
        exact .refl
      clear_value x2
      extract_lets +onlyGivenNames x3
      refine .letS x3 ?_ (fun hx3 => ?_)
      · unfold x3
        assumption
      clear_value x3
      extract_lets +onlyGivenNames x4
      clear_value x4
      extract_lets +onlyGivenNames x5
      refine .letS x5 ?_ (fun hx5 => ?_)
      · unfold x5
        refine .step ?_ (State.sameBut.sealing _) rfl
        assumption
      clear_value x5
      extract_lets +onlyGivenNames x6
      refine .letS x6 ?_ (fun hx6 => ?_)
      · unfold x6
        refine .step ?_ (State.openEpoch_keeps _ _ _) rfl
        assumption
      clear_value x6
      extract_lets +onlyGivenNames x7
      clear_value x7
      refine .step ?_ (State.raiseIf_keeps _ _ _ _) rfl
      refine .step ?_ (State.sameBut.sealing _) rfl
      assumption
  · exact .refl

theorem execEpochFinalise_keeps  {s s' : State} (h : execEpochFinalise s = .next s') : s.sameBut s' [.sealing] := by
  unfold execEpochFinalise at h
  refine .of_next ?_ h
  clear h
  split
  · refine .ite ?_ ?_
    · refine .step ?_ (State.finalise_keeps _) rfl
      exact .refl
    · exact .refl
  · exact .refl

theorem execSealSign_keeps  {s s' : State} (h : execSealSign s = .next s') : s.sameBut s' [.evt, .sealing, .crypt] := by
  unfold execSealSign at h
  refine .of_next ?_ h
  clear h
  split
  · refine .ite ?_ ?_
    · refine .ite ?_ ?_
      · exact .refl
      · refine .step ?_ (State.raise_keeps _ _ _) rfl
        refine .step ?_ (State.sameBut.sealing _) rfl
        exact .refl
    · refine .ite ?_ ?_
      · exact .refl
      · extract_lets +onlyGivenNames x1
        clear_value x1
        extract_lets +onlyGivenNames x2
        clear_value x2
        extract_lets +onlyGivenNames x3
        clear_value x3
        extract_lets +onlyGivenNames x4
        refine .letP x4 ?_ (fun hx4 => ?_)
        · unfold x4
          refine .step ?_ (State.signedTwice_keeps _ _ _ _) rfl
          exact .refl
        clear_value x4
        split
        · assumption
        · extract_lets +onlyGivenNames x5
          clear_value x5
          extract_lets +onlyGivenNames x6
          clear_value x6
          extract_lets +onlyGivenNames x7
          refine .letS x7 ?_ (fun hx7 => ?_)
          · unfold x7
            assumption
          clear_value x7
          extract_lets +onlyGivenNames x8
          clear_value x8
          extract_lets +onlyGivenNames x9
          refine .letS x9 ?_ (fun hx9 => ?_)
          · unfold x9
            refine .step ?_ (State.sameBut.sealing _) rfl
            assumption
          clear_value x9
          refine .step ?_ (State.raiseIf_keeps _ _ _ _) rfl
          assumption
  · exact .refl

theorem execSealJournalWrite_keeps {ok : Bool} {s s' : State} (h : execSealJournalWrite ok s = .next s') : s.sameBut s' [.evt, .vault, .sealing] := by
  unfold execSealJournalWrite at h
  refine .of_next ?_ h
  clear h
  split
  · refine .ite ?_ ?_
    · exact .refl
    · extract_lets +onlyGivenNames x1
      refine .letS x1 ?_ (fun hx1 => ?_)
      · unfold x1
        refine .step ?_ (State.vaultDone_keeps _) rfl
        exact .refl
      clear_value x1
      extract_lets +onlyGivenNames x2
      clear_value x2
      refine .ite ?_ ?_
      · refine .step ?_ (State.sameBut.sealing _) rfl
        assumption
      · refine .step ?_ (State.raise_keeps _ _ _) rfl
        refine .step ?_ (State.sameBut.sealing _) rfl
        assumption
  · exact .refl

theorem execSealOutput_keeps  {s s' : State} (h : execSealOutput s = .next s') : s.sameBut s' [.outbox, .evt, .cntr, .tlm, .sealing] := by
  unfold execSealOutput at h
  refine .of_next ?_ h
  clear h
  split
  · extract_lets +onlyGivenNames x1
    refine .letS x1 ?_ (fun hx1 => ?_)
    · unfold x1
      refine .foldl (fun _ _ _ => ?_) ?_
      · refine .step ?_ (State.writeEntry_keeps _ _ _) rfl
        assumption
      · exact .refl
    clear_value x1
    extract_lets +onlyGivenNames x2
    refine .letS x2 ?_ (fun hx2 => ?_)
    · unfold x2
      refine .foldl (fun _ _ _ => ?_) ?_
      · refine .step ?_ (State.writeRecord_keeps _ _ _) rfl
        assumption
      · assumption
    clear_value x2
    extract_lets +onlyGivenNames x3
    refine .letS x3 ?_ (fun hx3 => ?_)
    · unfold x3
      refine .step ?_ (State.raiseIf_keeps _ _ _ _) rfl
      assumption
    clear_value x3
    extract_lets +onlyGivenNames x4
    refine .letS x4 ?_ (fun hx4 => ?_)
    · unfold x4
      refine .step ?_ (State.writeRecord_keeps _ _ _) rfl
      assumption
    clear_value x4
    extract_lets +onlyGivenNames x5
    refine .letS x5 ?_ (fun hx5 => ?_)
    · unfold x5
      refine .step ?_ (State.hostWrite_keeps _ _ _) rfl
      assumption
    clear_value x5
    extract_lets +onlyGivenNames x6
    clear_value x6
    extract_lets +onlyGivenNames x7
    clear_value x7
    extract_lets +onlyGivenNames x8
    refine .letS x8 ?_ (fun hx8 => ?_)
    · unfold x8
      refine .step ?_ (State.sameBut.tlm_sealing _ _) rfl
      assumption
    clear_value x8
    refine .step ?_ (State.raise_keeps _ _ _) rfl
    refine .step ?_ (State.cntQ_keeps _ _ _) rfl
    assumption
  · exact .refl

theorem execSealLogPoll_keeps {counts : Option (Nat × Nat)} {s s' : State} (h : execSealLogPoll counts s = .next s') : s.sameBut s' [.evt, .cntr, .tlm, .sealing] := by
  unfold execSealLogPoll at h
  refine .of_next ?_ h
  clear h
  split
  · refine .step ?_ (State.countRead_keeps _ _ _) rfl
    refine .step ?_ (State.sameBut.sealing _) rfl
    exact .refl
  · exact .refl

theorem execUncWarn_keeps  {s s' : State} (h : execUncWarn s = .next s') : s.sameBut s' [.evt, .sealing] := by
  unfold execUncWarn at h
  refine .of_next ?_ h
  clear h
  extract_lets +onlyGivenNames x1
  clear_value x1
  refine .ite ?_ ?_
  · refine .step ?_ (State.raiseSeal_keeps _ _ _) rfl
    refine .step ?_ (State.sameBut.sealing _) rfl
    exact .refl
  · exact .refl

theorem execEntryFetch_keeps {q : Nat} {cid : Nat} {opcode : Nat} {flags : Nat} {reserved : Option Nat} {s s' : State} (h : execEntryFetch q cid opcode flags reserved s = .next s') : s.sameBut s' [.outbox, .evt, .cntr, .tlm, .host] := by
  unfold execEntryFetch at h
  refine .of_next ?_ h
  clear h
  refine .ite ?_ ?_
  · exact .refl
  · extract_lets +onlyGivenNames x1
    clear_value x1
    extract_lets +onlyGivenNames x2
    refine .letS x2 ?_ (fun hx2 => ?_)
    · unfold x2
      refine .ite ?_ ?_
      · exact .refl
      · refine .step ?_ (State.sameBut.host _) rfl
        exact .refl
    clear_value x2
    extract_lets +onlyGivenNames x3
    clear_value x3
    extract_lets +onlyGivenNames x4
    refine .letS x4 ?_ (fun hx4 => ?_)
    · unfold x4
      refine .step ?_ (State.countRead_keeps _ _ _) rfl
      assumption
    clear_value x4
    extract_lets +onlyGivenNames x5
    refine .letS x5 ?_ (fun hx5 => ?_)
    · unfold x5
      refine .step ?_ (State.updQueue_keeps _ _ _) rfl
      assumption
    clear_value x5
    extract_lets +onlyGivenNames x6
    clear_value x6
    extract_lets +onlyGivenNames x7
    refine .letS x7 ?_ (fun hx7 => ?_)
    · unfold x7
      refine .step ?_ (State.sameBut.host _) rfl
      assumption
    clear_value x7
    refine .ite ?_ ?_
    · refine .step ?_ (State.completeCmd_keeps _ _ _) rfl
      assumption
    · refine .ite ?_ ?_
      · refine .step ?_ (State.completeCmd_keeps _ _ _) rfl
        assumption
      · split
        · refine .step ?_ (State.completeCmd_keeps _ _ _) rfl
          assumption
        · assumption

theorem execSqDoorbell_keeps {q : Nat} {index : Nat} {s s' : State} (h : execSqDoorbell q index s = .next s') : s.sameBut s' [.evt, .cntr, .host] := by
  unfold execSqDoorbell at h
  refine .of_next ?_ h
  clear h
  refine .ite ?_ ?_
  · exact .refl
  · refine .step ?_ (State.sqBell_keeps _ _ _) rfl
    exact .refl

theorem execCqDoorbell_keeps {q : Nat} {index : Nat} {s s' : State} (h : execCqDoorbell q index s = .next s') : s.sameBut s' [.evt, .cntr, .host] := by
  unfold execCqDoorbell at h
  refine .of_next ?_ h
  clear h
  refine .ite ?_ ?_
  · exact .refl
  · refine .step ?_ (State.cqBell_keeps _ _ _) rfl
    exact .refl

theorem execMemoryReadError_keeps {w : ReadFor} {kind : Nat} {s s' : State} (h : execMemoryReadError w kind s = .next s') : s.sameBut s' [.outbox, .evt, .press, .cntr, .tlm, .host, .sealing] := by
  unfold execMemoryReadError at h
  refine .of_next ?_ h
  clear h
  refine .ite ?_ ?_
  · exact .refl
  · extract_lets +onlyGivenNames x1
    split
    · refine .ite ?_ ?_
      · refine .step ?_ (State.qFail_keeps _ _ _ _) rfl
        unfold x1
        refine .step ?_ (State.raise_keeps _ _ _) rfl
        refine .step ?_ (State.cntQ_keeps _ _ _) rfl
        exact .refl
      · exact .refl
    · split
      · split
        · extract_lets +onlyGivenNames x2
          refine .letS x2 ?_ (fun hx2 => ?_)
          · unfold x2
            refine .step ?_ (State.raiseSeal_keeps _ _ _) rfl
            unfold x1
            refine .step ?_ (State.raise_keeps _ _ _) rfl
            refine .step ?_ (State.cntQ_keeps _ _ _) rfl
            exact .refl
          clear_value x2
          extract_lets +onlyGivenNames x3
          refine .letS x3 ?_ (fun hx3 => ?_)
          · unfold x3
            refine .step ?_ (State.failSeg_keeps _ _ _) rfl
            refine .step ?_ (State.segCredit_keeps _ _) rfl
            assumption
          clear_value x3
          extract_lets +onlyGivenNames x4
          clear_value x4
          refine .step ?_ (State.closeWaiting_keeps _ _) rfl
          refine .step ?_ (State.setStream_keeps _ _) rfl
          assumption
        · exact .refl
      · exact .refl
    · split
      · refine .step ?_ (State.completeCmd_keeps _ _ _) rfl
        refine .step ?_ (State.raiseSeal_keeps _ _ _) rfl
        unfold x1
        refine .step ?_ (State.raise_keeps _ _ _) rfl
        refine .step ?_ (State.cntQ_keeps _ _ _) rfl
        exact .refl
      · exact .refl
    · split
      · refine .ite ?_ ?_
        · refine .step ?_ (State.completeCmd_keeps _ _ _) rfl
          unfold x1
          refine .step ?_ (State.raise_keeps _ _ _) rfl
          refine .step ?_ (State.cntQ_keeps _ _ _) rfl
          exact .refl
        · exact .refl
      · exact .refl
    · refine .ite ?_ ?_
      · unfold x1
        refine .step ?_ (State.raise_keeps _ _ _) rfl
        refine .step ?_ (State.cntQ_keeps _ _ _) rfl
        exact .refl
      · exact .refl

theorem execIdentify_keeps {cid : Nat} {len : Nat} {addr : Nat} {s s' : State} (h : execIdentify cid len addr s = .next s') : s.sameBut s' [.outbox, .evt, .cntr, .tlm, .host] := by
  unfold execIdentify at h
  refine .of_next ?_ h
  clear h
  refine State.admin_keeps _ _ _ _ (fun _ _ => ?_) ?_ rfl
  · refine .ite_fst ?_ ?_
    · refine .fst_mk ?_
      assumption
    · refine .ite_fst ?_ ?_
      · refine .fst_mk ?_
        assumption
      · refine .fst_mk ?_
        refine .step ?_ (State.hostWrite_keeps _ _ _) rfl
        assumption
  · exact .refl

theorem execLogRead_keeps {cid : Nat} {src : Nat} {len : Nat} {from_ : Nat} {addr : Nat} {s s' : State} (h : execLogRead cid src len from_ addr s = .next s') : s.sameBut s' [.outbox, .evt, .cntr, .tlm, .host] := by
  unfold execLogRead at h
  refine .of_next ?_ h
  clear h
  refine State.admin_keeps _ _ _ _ (fun _ _ => ?_) ?_ rfl
  · refine .ite_fst ?_ ?_
    · refine .fst_mk ?_
      assumption
    · refine .ite_fst ?_ ?_
      · refine .fst_mk ?_
        assumption
      · refine .ite_fst ?_ ?_
        · refine .fst_mk ?_
          assumption
        · extract_lets +onlyGivenNames x1
          clear_value x1
          refine .fst_mk ?_
          refine .step ?_ (State.hostWrite_keeps _ _ _) rfl
          assumption
  · exact .refl

theorem execLogClear_keeps {cid : Nat} {s s' : State} (h : execLogClear cid s = .next s') : s.sameBut s' [.outbox, .regs, .evt, .plat, .cntr, .tlm, .host] := by
  unfold execLogClear at h
  refine .of_next ?_ h
  clear h
  refine State.admin_keeps _ _ _ _ (fun _ _ => ?_) ?_ rfl
  · refine .fst_mk ?_
    refine .step ?_ (State.clearLog_keeps _) rfl
    assumption
  · exact .refl

theorem execCertRead_keeps {cid : Nat} {chain : Nat} {off : Nat} {len : Nat} {addr : Nat} {s s' : State} (h : execCertRead cid chain off len addr s = .next s') : s.sameBut s' [.outbox, .evt, .cntr, .tlm, .host] := by
  unfold execCertRead at h
  refine .of_next ?_ h
  clear h
  refine State.admin_keeps _ _ _ _ (fun _ _ => ?_) ?_ rfl
  · refine .ite_fst ?_ ?_
    · refine .fst_mk ?_
      assumption
    · refine .ite_fst ?_ ?_
      · refine .fst_mk ?_
        assumption
      · extract_lets +onlyGivenNames x1
        clear_value x1
        refine .ite_fst ?_ ?_
        · refine .fst_mk ?_
          assumption
        · extract_lets +onlyGivenNames x2
          clear_value x2
          refine .fst_mk ?_
          refine .step ?_ (State.hostWrite_keeps _ _ _) rfl
          assumption
  · exact .refl

theorem execGetNonce_keeps {src : Src} {len : Nat} {addr : Nat} {s s' : State} (h : execGetNonce src len addr s = .next s') : s.sameBut s' [.outbox, .evt, .cntr, .tlm, .host, .ident, .crypt, .side] := by
  unfold execGetNonce at h
  refine .of_next ?_ h
  clear h
  refine State.command_keeps _ _ _ _ (fun _ _ => ?_) ?_ rfl
  · split
    · refine .ite_fst ?_ ?_
      · refine .fst_mk ?_
        assumption
      · refine .ite_fst ?_ ?_
        · refine .fst_mk ?_
          assumption
        · refine .ite_fst ?_ ?_
          · refine .fst_mk ?_
            assumption
          · refine .fst_mk ?_
            refine .step ?_ (State.hostWrite_keeps _ _ _) rfl
            refine .step ?_ (State.newNonce_keeps _) rfl
            assumption
    · refine .ite_fst ?_ ?_
      · refine .fst_mk ?_
        assumption
      · refine .fst_mk ?_
        refine .step ?_ (State.newNonce_keeps _) rfl
        assumption
  · exact .refl

theorem execAgentHeartbeat_keeps {cid : Nat} {agent : Nat} {key : Word} {s s' : State} (h : execAgentHeartbeat cid agent key s = .next s') : s.sameBut s' [.freeCtr, .outbox, .regs, .evt, .keeper, .chs, .cellar, .press, .vault, .ctl, .cntr, .tlm, .host, .ident] := by
  unfold execAgentHeartbeat at h
  refine .of_next ?_ h
  clear h
  refine State.admin_keeps _ _ _ _ (fun _ _ => ?_) ?_ rfl
  · refine .dite_fst (fun _ => ?_) (fun _ => ?_)
    · extract_lets +onlyGivenNames x1
      refine .letP x1 ?_ (fun hx1 => ?_)
      · unfold x1
        refine .step ?_ (State.wdService_keeps _ _ _ _) rfl
        assumption
      clear_value x1
      refine .fst_mk ?_
      assumption
    · refine .fst_mk ?_
      assumption
  · exact .refl

theorem execReimage_keeps {cid : Nat} {agent : Nat} {source : Nat} {s s' : State} (h : execReimage cid agent source s = .next s') : s.sameBut s' [.freeCtr, .outbox, .evt, .keeper, .chs, .cellar, .press, .ctl, .cntr, .tlm, .host, .ident] := by
  unfold execReimage at h
  refine .of_next ?_ h
  clear h
  refine State.admin_keeps _ _ _ _ (fun _ _ => ?_) ?_ rfl
  · extract_lets +onlyGivenNames x1
    refine .letP x1 ?_ (fun hx1 => ?_)
    · unfold x1
      refine .step ?_ (State.reimageCmd_keeps _ _ _ _) rfl
      assumption
    clear_value x1
    refine .fst_mk ?_
    assumption
  · exact .refl

theorem execQrelease_keeps {cid : Nat} {len : Nat} {t : Token} {s s' : State} (h : execQrelease cid len t s = .next s') : s.sameBut s' [.freeCtr, .outbox, .regs, .evt, .keeper, .chs, .cellar, .press, .vault, .ctl, .cntr, .tlm, .host, .ident, .crypt] := by
  unfold execQrelease at h
  refine .of_next ?_ h
  clear h
  refine State.admin_keeps _ _ _ _ (fun _ _ => ?_) ?_ rfl
  · refine .ite_fst ?_ ?_
    · refine .fst_mk ?_
      assumption
    · extract_lets +onlyGivenNames x1
      refine .letP x1 ?_ (fun hx1 => ?_)
      · unfold x1
        refine .step ?_ (State.checkToken_keeps _ _) rfl
        assumption
      clear_value x1
      refine .ite_fst ?_ ?_
      · refine .fst_mk ?_
        assumption
      · refine .ite_fst ?_ ?_
        · refine .fst_mk ?_
          assumption
        · refine .fst_mk ?_
          refine .foldl (fun _ _ _ => ?_) ?_
          · refine .step ?_ (State.releaseQuarantine_keeps _ _) rfl
            assumption
          · assumption
  · exact .refl

theorem execImageStream_keeps {cid : Nat} {channel : Nat} {slot : Nat} {last : Bool} {off : Nat} {len : Nat} {s s' : State} (h : execImageStream cid channel slot last off len s = .next s') : s.sameBut s' [.outbox, .evt, .cntr, .tlm, .host, .ident] := by
  unfold execImageStream at h
  refine .of_next ?_ h
  clear h
  refine State.admin_keeps _ _ _ _ (fun _ _ => ?_) ?_ rfl
  · refine .ite_fst ?_ ?_
    · refine .fst_mk ?_
      assumption
    · refine .dite_fst (fun _ => ?_) (fun _ => ?_)
      · extract_lets +onlyGivenNames x1
        clear_value x1
        split
        · refine .ite_fst ?_ ?_
          · extract_lets +onlyGivenNames x2
            clear_value x2
            refine .ite_fst ?_ ?_
            · refine .fst_mk ?_
              refine .step ?_ (State.countRead_keeps _ _ _) rfl
              refine .step ?_ (State.updRec_keeps _ _ _) rfl
              assumption
            · refine .fst_mk ?_
              assumption
          · refine .fst_mk ?_
            assumption
        · refine .fst_mk ?_
          assumption
      · refine .fst_mk ?_
        assumption
  · exact .refl

theorem execImageChunkProgram_keeps {port : PortId} {ok : Bool} {s s' : State} (h : execImageChunkProgram port ok s = .next s') : s.sameBut s' [.freeCtr, .outbox, .regs, .evt, .keeper, .chs, .cellar, .press, .vault, .ctl, .ident] := by
  unfold execImageChunkProgram at h
  refine .of_next ?_ h
  clear h
  refine .ite ?_ ?_
  · exact .refl
  · refine .dite (fun _ => ?_) (fun _ => ?_)
    · extract_lets +onlyGivenNames x1
      clear_value x1
      split
      · split
        · refine .ite ?_ ?_
          · exact .refl
          · refine .ite ?_ ?_
            · refine .step ?_ (State.writeFails_keeps _ _ _) rfl
              exact .refl
            · extract_lets +onlyGivenNames x2
              clear_value x2
              refine .step ?_ (State.updRec_keeps _ _ _) rfl
              refine .step ?_ (State.recRecord_keeps _ _ _ _ _) rfl
              exact .refl
        · exact .refl
      · exact .refl
    · split
      · extract_lets +onlyGivenNames x3
        refine .letS x3 ?_ (fun hx3 => ?_)
        · unfold x3
          refine .step ?_ (State.vaultDone_keeps _) rfl
          exact .refl
        clear_value x3
        refine .ite ?_ ?_
        · extract_lets +onlyGivenNames x4
          clear_value x4
          refine .step ?_ (State.intent_keeps _ _ _ _ _ _ _ _ _ _) rfl
          refine .step ?_ (State.sameBut.ident _) rfl
          assumption
        · refine .step ?_ (State.raise_keeps _ _ _) rfl
          refine .step ?_ (State.intent_keeps _ _ _ _ _ _ _ _ _ _) rfl
          refine .step ?_ (State.sameBut.ident _) rfl
          assumption
      · exact .refl

theorem execImageVerify_keeps {n : Ch} {m : Manifest} {trellisOk : Bool} {s s' : State} (h : execImageVerify n m trellisOk s = .next s') : s.sameBut s' [.freeCtr, .outbox, .regs, .evt, .keeper, .chs, .cellar, .press, .vault, .ctl, .ident, .crypt] := by
  unfold execImageVerify at h
  refine .of_next ?_ h
  clear h
  split
  · refine .ite ?_ ?_
    · exact .refl
    · extract_lets +onlyGivenNames x1
      refine .letP x1 ?_ (fun hx1 => ?_)
      · unfold x1
        refine .step ?_ (State.pkuRun_keeps _) rfl
        exact .refl
      clear_value x1
      extract_lets +onlyGivenNames x2
      refine .letS x2 ?_ (fun hx2 => ?_)
      · unfold x2
        assumption
      clear_value x2
      refine .ite ?_ ?_
      · assumption
      · extract_lets +onlyGivenNames x3
        clear_value x3
        extract_lets +onlyGivenNames x4
        clear_value x4
        extract_lets +onlyGivenNames x5
        refine .letS x5 ?_ (fun hx5 => ?_)
        · unfold x5
          refine .ite ?_ ?_
          · refine .step ?_ (State.sameBut.ident _) rfl
            assumption
          · assumption
        clear_value x5
        refine .ite ?_ ?_
        · refine .step ?_ (State.recWritten_keeps _ _ _) rfl
          refine .step ?_ (State.updSlot_keeps _ _ _ _) rfl
          assumption
        · refine .step ?_ (State.writeFails_keeps _ _ _) rfl
          assumption
  · exact .refl

theorem execRecoverPlatform_keeps {src : Src} {len : Nat} {t : Token} {s s' : State} (h : execRecoverPlatform src len t s = .next s') : s.sameBut s' [.freeCtr, .outbox, .regs, .evt, .plat, .keeper, .chs, .cellar, .press, .vault, .ctl, .cntr, .tlm, .host, .ident, .crypt, .side] := by
  unfold execRecoverPlatform at h
  refine .of_next ?_ h
  clear h
  refine .ite ?_ ?_
  · exact .refl
  · refine State.command_keeps _ _ _ _ (fun _ _ => ?_) ?_ rfl
    · refine State.recoverCmd_keeps _ _ _ _ _ _ (fun _ _ => ?_) ?_ rfl
      · extract_lets +onlyGivenNames x1
        refine .letS x1 ?_ (fun hx1 => ?_)
        · unfold x1
          refine .step ?_ (State.enterRecover_keeps _ _) rfl
          assumption
        clear_value x1
        extract_lets +onlyGivenNames x2
        clear_value x2
        extract_lets +onlyGivenNames x3
        refine .letS x3 ?_ (fun hx3 => ?_)
        · unfold x3
          refine .step ?_ (State.sameBut.ident _) rfl
          assumption
        clear_value x3
        refine .foldl (fun _ _ _ => ?_) ?_
        · extract_lets +onlyGivenNames x4
          refine .letS x4 ?_ (fun hx4 => ?_)
          · unfold x4
            refine .step ?_ (State.quarantine_keeps _ _ _) rfl
            assumption
          clear_value x4
          refine .ite ?_ ?_
          · refine .step ?_ (State.enterReimaging_keeps _ _ _ _ _) rfl
            assumption
          · assumption
        · assumption
      · assumption
    · exact .refl

theorem execGoldenFirmwareRestore_keeps {src : Src} {len : Nat} {t : Token} {s s' : State} (h : execGoldenFirmwareRestore src len t s = .next s') : s.sameBut s' [.outbox, .evt, .cntr, .tlm, .host, .ident, .crypt, .side] := by
  unfold execGoldenFirmwareRestore at h
  refine .of_next ?_ h
  clear h
  refine .ite ?_ ?_
  · refine State.command_keeps _ _ _ _ (fun _ _ => ?_) ?_ rfl
    · refine State.recoverCmd_keeps _ _ _ _ _ _ (fun _ _ => ?_) ?_ rfl
      · refine .step ?_ (State.sameBut.ident _) rfl
        assumption
      · assumption
    · exact .refl
  · exact .refl

theorem execPolicyLoad_keeps {cid : Nat} {len : Nat} {b : Bundle} {s s' : State} (h : execPolicyLoad cid len b s = .next s') : s.sameBut s' [.outbox, .regs, .evt, .cntr, .tlm, .host, .ident, .crypt] := by
  unfold execPolicyLoad at h
  refine .of_next ?_ h
  clear h
  refine State.admin_keeps _ _ _ _ (fun _ _ => ?_) ?_ rfl
  · refine .ite_fst ?_ ?_
    · refine .fst_mk ?_
      assumption
    · refine .ite_fst ?_ ?_
      · refine .fst_mk ?_
        assumption
      · extract_lets +onlyGivenNames x1
        refine .letP x1 ?_ (fun hx1 => ?_)
        · unfold x1
          refine .step ?_ (State.policyLoad_keeps _ _ _) rfl
          assumption
        clear_value x1
        refine .fst_mk ?_
        assumption
  · exact .refl

theorem execPolicyStoreDurable_keeps  {s s' : State} (h : execPolicyStoreDurable s = .next s') : s.sameBut s' [.evt, .vault, .ident] := by
  unfold execPolicyStoreDurable at h
  refine .of_next ?_ h
  clear h
  split
  · extract_lets +onlyGivenNames x1
    refine .letS x1 ?_ (fun hx1 => ?_)
    · unfold x1
      refine .step ?_ (State.setPolSlot_keeps _ _ _) rfl
      refine .step ?_ (State.vaultDone_keeps _) rfl
      exact .refl
    clear_value x1
    refine .step ?_ (State.raise_keeps _ _ _) rfl
    refine .step ?_ (State.sameBut.ident _) rfl
    assumption
  · exact .refl

theorem execPolicyApplyRetry_keeps {expired : Bool} {s s' : State} (h : execPolicyApplyRetry expired s = .next s') : s.sameBut s' [.freeCtr, .outbox, .regs, .evt, .plat, .keeper, .chs, .cellar, .press, .vault, .ctl, .cntr, .tlm, .host, .ident, .sealing, .crypt, .life] := by
  unfold execPolicyApplyRetry at h
  refine .of_next ?_ h
  clear h
  split
  · refine .ite ?_ ?_
    · exact .refl
    · refine .ite ?_ ?_
      · refine .step ?_ (State.raise_keeps _ _ _) rfl
        refine .step ?_ (State.sameBut.ident _) rfl
        exact .refl
      · refine .step ?_ (State.policyGo_keeps _ _) rfl
        exact .refl
  · exact .refl

theorem execPolicyVintageBurn_keeps {ok : Bool} {s s' : State} (h : execPolicyVintageBurn ok s = .next s') : s.sameBut s' [.evt, .vault, .ident, .life] := by
  unfold execPolicyVintageBurn at h
  refine .of_next ?_ h
  clear h
  split
  · refine .ite ?_ ?_
    · exact .refl
    · refine .ite ?_ ?_
      · refine .step ?_ (State.sameBut.ident _) rfl
        exact .refl
      · refine .ite ?_ ?_
        · extract_lets +onlyGivenNames x1
          refine .letS x1 ?_ (fun hx1 => ?_)
          · unfold x1
            refine .step ?_ (State.burnStep_keeps _ _ _) rfl
            exact .refl
          clear_value x1
          refine .step ?_ (State.sameBut.ident _) rfl
          assumption
        · refine .step ?_ (State.otpFail_keeps _) rfl
          exact .refl
  · exact .refl

theorem execFwDownload_keeps {cid : Nat} {last : Bool} {off : Nat} {len : Nat} {pkg : Option Package} {s s' : State} (h : execFwDownload cid last off len pkg s = .next s') : s.sameBut s' [.outbox, .evt, .vault, .cntr, .tlm, .host, .ident] := by
  unfold execFwDownload at h
  refine .of_next ?_ h
  clear h
  refine State.admin_keeps _ _ _ _ (fun _ _ => ?_) ?_ rfl
  · refine .ite_fst ?_ ?_
    · refine .fst_mk ?_
      assumption
    · extract_lets +onlyGivenNames x1
      refine .letP x1 ?_ (fun hx1 => ?_)
      · unfold x1
        refine .step ?_ (State.fwDownload_keeps _ _ _ _ _ _) rfl
        assumption
      clear_value x1
      refine .fst_mk ?_
      refine .ite ?_ ?_
      · refine .step ?_ (State.countRead_keeps _ _ _) rfl
        assumption
      · assumption
  · exact .refl

theorem execHandoverHalt_keeps  {s s' : State} (h : execHandoverHalt s = .next s') : s.sameBut s' [.evt, .vault, .ident] := by
  unfold execHandoverHalt at h
  refine .of_next ?_ h
  clear h
  split
  · refine .ite ?_ ?_
    · refine .step ?_ (State.raise_keeps _ _ _) rfl
      refine .step ?_ (State.intent_keeps _ _ _ _ _ _ _ _ _ _) rfl
      refine .step ?_ (State.sameBut.ident _) rfl
      exact .refl
    · exact .refl
  · exact .refl

theorem execHandoverLoad_keeps {ok : Bool} {s s' : State} (h : execHandoverLoad ok s = .next s') : s.sameBut s' [.outbox, .evt, .plat, .press, .vault, .cntr, .tlm, .host, .ident, .sealing, .crypt] := by
  unfold execHandoverLoad at h
  refine .of_next ?_ h
  clear h
  split
  · refine .ite ?_ ?_
    · exact .refl
    · refine .ite ?_ ?_
      · extract_lets +onlyGivenNames x1
        clear_value x1
        extract_lets +onlyGivenNames x2
        refine .letS x2 ?_ (fun hx2 => ?_)
        · unfold x2
          refine .step ?_ (State.sameBut.ident _) rfl
          exact .refl
        clear_value x2
        split
        · refine .step ?_ (State.deriveL0_keeps _ _ _) rfl
          assumption
        · refine .step ?_ (State.deriveL0_keeps _ _ _) rfl
          assumption
        · assumption
      · refine .step ?_ (State.fallback_keeps _) rfl
        exact .refl
  · exact .refl

theorem execCheckIn_keeps  {s s' : State} (h : execCheckIn s = .next s') : s.sameBut s' [.outbox, .evt, .plat, .ident] := by
  unfold execCheckIn at h
  refine .of_next ?_ h
  clear h
  split
  · refine .ite ?_ ?_
    · exact .refl
    · extract_lets +onlyGivenNames x1
      clear_value x1
      extract_lets +onlyGivenNames x2
      clear_value x2
      extract_lets +onlyGivenNames x3
      refine .letS x3 ?_ (fun hx3 => ?_)
      · unfold x3
        refine .step ?_ (State.sameBut.ident _) rfl
        exact .refl
      clear_value x3
      extract_lets +onlyGivenNames x4
      refine .letS x4 ?_ (fun hx4 => ?_)
      · unfold x4
        refine .step ?_ (State.drainExceptions_keeps _) rfl
        refine .step ?_ (State.raise_keeps _ _ _) rfl
        assumption
      clear_value x4
      split
      · refine .step ?_ (State.sameBut.ident _) rfl
        assumption
      · extract_lets +onlyGivenNames x5
        refine .letS x5 ?_ (fun hx5 => ?_)
        · unfold x5
          refine .step ?_ (State.handoverDone_keeps _) rfl
          assumption
        clear_value x5
        refine .step ?_ (State.sameBut.ident _) rfl
        assumption
  · exact .refl

theorem execHandoverFallback_keeps  {s s' : State} (h : execHandoverFallback s = .next s') : s.sameBut s' [.outbox, .evt, .plat, .press, .vault, .cntr, .tlm, .host, .ident, .sealing, .crypt] := by
  unfold execHandoverFallback at h
  refine .of_next ?_ h
  clear h
  split
  · refine .ite ?_ ?_
    · exact .refl
    · refine .step ?_ (State.fallback_keeps _) rfl
      exact .refl
  · exact .refl

theorem execFwConfirm_keeps {ok : Bool} {s s' : State} (h : execFwConfirm ok s = .next s') : s.sameBut s' [.evt, .vault, .ident, .life] := by
  unfold execFwConfirm at h
  refine .of_next ?_ h
  clear h
  refine .ite ?_ ?_
  · exact .refl
  · extract_lets +onlyGivenNames x1
    clear_value x1
    extract_lets +onlyGivenNames x2
    clear_value x2
    extract_lets +onlyGivenNames x3
    split
    · refine .ite ?_ ?_
      · exact .refl
      · extract_lets +onlyGivenNames x4
        clear_value x4
        extract_lets +onlyGivenNames x5
        clear_value x5
        extract_lets +onlyGivenNames x6
        refine .letS x6 ?_ (fun hx6 => ?_)
        · unfold x6
          refine .step ?_ (State.raise_keeps _ _ _) rfl
          refine .step ?_ (State.writeHeader_keeps _) rfl
          refine .step ?_ (State.sameBut.ident _) rfl
          exact .refl
        clear_value x6
        extract_lets +onlyGivenNames x7
        refine .letS x7 ?_ (fun hx7 => ?_)
        · unfold x7
          refine .step ?_ (State.intent_keeps _ _ _ _ _ _ _ _ _ _) rfl
          assumption
        clear_value x7
        refine .ite ?_ ?_
        · unfold x3
          split
          · refine .ite ?_ ?_
            · refine .step ?_ (State.sameBut.ident _) rfl
              assumption
            · refine .step ?_ (State.sameBut.ident _) rfl
              assumption
          · refine .step ?_ (State.sameBut.ident _) rfl
            assumption
        · assumption
    · refine .ite ?_ ?_
      · refine .step ?_ (State.otpFail_keeps _) rfl
        exact .refl
      · refine .ite ?_ ?_
        · unfold x3
          split
          · refine .ite ?_ ?_
            · refine .step ?_ (State.sameBut.ident _) rfl
              exact .refl
            · refine .step ?_ (State.sameBut.ident _) rfl
              exact .refl
          · refine .step ?_ (State.sameBut.ident _) rfl
            exact .refl
        · extract_lets +onlyGivenNames x8
          refine .letS x8 ?_ (fun hx8 => ?_)
          · unfold x8
            refine .step ?_ (State.burnStep_keeps _ _ _) rfl
            exact .refl
          clear_value x8
          refine .ite ?_ ?_
          · unfold x3
            split
            · refine .ite ?_ ?_
              · refine .step ?_ (State.sameBut.ident _) rfl
                assumption
              · refine .step ?_ (State.sameBut.ident _) rfl
                assumption
            · refine .step ?_ (State.sameBut.ident _) rfl
              assumption
          · assumption
    · exact .refl

theorem execPlatformCertIssue_keeps  {s s' : State} (h : execPlatformCertIssue s = .next s') : s.sameBut s' [.outbox, .evt, .press, .cntr, .tlm, .host, .ident, .sealing, .crypt] := by
  unfold execPlatformCertIssue at h
  refine .of_next ?_ h
  clear h
  refine .ite ?_ ?_
  · extract_lets +onlyGivenNames x1
    refine .letP x1 ?_ (fun hx1 => ?_)
    · unfold x1
      refine .step ?_ (State.pkuRun_keeps _) rfl
      exact .refl
    clear_value x1
    refine .ite ?_ ?_
    · refine .step ?_ (State.raise_keeps _ _ _) rfl
      refine .step ?_ (State.deriveL2_keeps _ _) rfl
      extract_lets +onlyGivenNames x2
      refine .letS x2 ?_ (fun hx2 => ?_)
      · unfold x2
        assumption
      clear_value x2
      refine .step ?_ (State.sameBut.ident _) rfl
      assumption
    · assumption
  · exact .refl

theorem execRecoverySourceTry_keeps {n : Ch} {m : Option Manifest} {anchors : Bool} {s s' : State} (h : execRecoverySourceTry n m anchors s = .next s') : s.sameBut s' [.freeCtr, .outbox, .regs, .evt, .keeper, .chs, .cellar, .press, .vault, .ctl, .ident, .crypt] := by
  unfold execRecoverySourceTry at h
  refine .of_next ?_ h
  clear h
  split
  · refine .ite ?_ ?_
    · exact .refl
    · extract_lets +onlyGivenNames x1
      refine .letP x1 ?_ (fun hx1 => ?_)
      · unfold x1
        refine .step ?_ (State.pkuRun_keeps _) rfl
        exact .refl
      clear_value x1
      extract_lets +onlyGivenNames x2
      refine .letS x2 ?_ (fun hx2 => ?_)
      · unfold x2
        assumption
      clear_value x2
      refine .ite ?_ ?_
      · assumption
      · extract_lets +onlyGivenNames x3
        refine .letS x3 ?_ (fun hx3 => ?_)
        · unfold x3
          refine .step ?_ (State.checkInact_keeps _ _ _ _ _) rfl
          assumption
        clear_value x3
        refine .ite ?_ ?_
        · refine .ite ?_ ?_
          · refine .step ?_ (State.beginSource_keeps _ _ _ _ _) rfl
            assumption
          · refine .step ?_ (State.sourceFails_keeps _ _ _) rfl
            assumption
        · split
          · refine .step ?_ (State.beginSource_keeps _ _ _ _ _) rfl
            assumption
          · refine .step ?_ (State.recExhausted_keeps _ _) rfl
            assumption
  · exact .refl

theorem execRecoverySourceTimeout_keeps {n : Ch} {s s' : State} (h : execRecoverySourceTimeout n s = .next s') : s.sameBut s' [.freeCtr, .outbox, .regs, .evt, .keeper, .chs, .cellar, .press, .vault, .ctl, .ident] := by
  unfold execRecoverySourceTimeout at h
  refine .of_next ?_ h
  clear h
  split
  · refine .ite ?_ ?_
    · refine .step ?_ (State.writeFails_keeps _ _ _) rfl
      exact .refl
    · exact .refl
  · exact .refl

theorem execActCommitRetry_keeps {n : Ch} {s s' : State} (h : execActCommitRetry n s = .next s') : s.sameBut s' [.freeCtr, .outbox, .regs, .evt, .keeper, .chs, .cellar, .press, .vault, .ctl, .ident] := by
  unfold execActCommitRetry at h
  refine .of_next ?_ h
  clear h
  split
  · refine .ite ?_ ?_
    · refine .step ?_ (State.recActCommit_keeps _ _ _) rfl
      exact .refl
    · exact .refl
  · exact .refl

theorem execRecQuery_keeps {eid : Nat} {s s' : State} (h : execRecQuery eid s = .next s') : s.sameBut s' [.outbox, .side] := by
  unfold execRecQuery at h
  refine .of_next ?_ h
  clear h
  refine State.fromBmc_keeps _ _ _ (fun _ _ => ?_) ?_ rfl
  · split
    · refine .fst_mk ?_
      assumption
    · refine .fst_mk ?_
      assumption
  · exact .refl

theorem execRecChunk_keeps {eid : Nat} {off : Nat} {len : Nat} {s s' : State} (h : execRecChunk eid off len s = .next s') : s.sameBut s' [.outbox, .ident, .side] := by
  unfold execRecChunk at h
  refine .of_next ?_ h
  clear h
  refine State.fromBmc_keeps _ _ _ (fun _ _ => ?_) ?_ rfl
  · split
    · refine .ite_fst ?_ ?_
      · refine .fst_mk ?_
        assumption
      · extract_lets +onlyGivenNames x1
        clear_value x1
        extract_lets +onlyGivenNames x2
        clear_value x2
        refine .ite_fst ?_ ?_
        · refine .fst_mk ?_
          refine .step ?_ (State.updRec_keeps _ _ _) rfl
          assumption
        · refine .fst_mk ?_
          assumption
    · refine .fst_mk ?_
      assumption
  · exact .refl

theorem execRecEnd_keeps {eid : Nat} {s s' : State} (h : execRecEnd eid s = .next s') : s.sameBut s' [.outbox, .side] := by
  unfold execRecEnd at h
  refine .of_next ?_ h
  clear h
  refine State.fromBmc_keeps _ _ _ (fun _ _ => ?_) ?_ rfl
  · split
    · refine .fst_mk ?_
      assumption
    · refine .fst_mk ?_
      assumption
  · exact .refl

theorem execOwnerClaim_keeps {src : Src} {len : Nat} {t : LcToken} {stop : Option Nat} {s s' : State} (h : execOwnerClaim src len t stop s = .next s') : s.sameBut s' [.outbox, .evt, .cntr, .tlm, .host, .ident, .crypt, .life, .side] := by
  unfold execOwnerClaim at h
  refine .of_next ?_ h
  clear h
  refine .ite ?_ ?_
  · extract_lets +onlyGivenNames x1
    clear_value x1
    extract_lets +onlyGivenNames x2
    clear_value x2
    refine State.slotAction_keeps _ _ _ _ _ _ _ (fun _ _ => ?_) ?_ rfl
    · refine .step ?_ (State.burnOwners_keeps _ _ _) rfl
      assumption
    · exact .refl
  · exact .refl

theorem execOwnerAdd_keeps {src : Src} {len : Nat} {t : LcToken} {stop : Option Nat} {s s' : State} (h : execOwnerAdd src len t stop s = .next s') : s.sameBut s' [.outbox, .evt, .cntr, .tlm, .host, .ident, .crypt, .life, .side] := by
  unfold execOwnerAdd at h
  refine .of_next ?_ h
  clear h
  refine .ite ?_ ?_
  · extract_lets +onlyGivenNames x1
    clear_value x1
    refine State.slotAction_keeps _ _ _ _ _ _ _ (fun _ _ => ?_) ?_ rfl
    · refine .step ?_ (State.burnOwners_keeps _ _ _) rfl
      assumption
    · exact .refl
  · exact .refl

theorem execOwnerRevoke_keeps {src : Src} {len : Nat} {t : LcToken} {stop : Option Nat} {s s' : State} (h : execOwnerRevoke src len t stop s = .next s') : s.sameBut s' [.outbox, .evt, .cntr, .tlm, .host, .ident, .crypt, .life, .side] := by
  unfold execOwnerRevoke at h
  refine .of_next ?_ h
  clear h
  refine .ite ?_ ?_
  · refine State.slotAction_keeps _ _ _ _ _ _ _ (fun _ _ => ?_) ?_ rfl
    · refine .step ?_ (State.burnRevoke_keeps _ _ _ _) rfl
      assumption
    · exact .refl
  · exact .refl

theorem execSetSubsys_keeps {src : Src} {len : Nat} {t : LcToken} {stop : Option Nat} {s s' : State} (h : execSetSubsys src len t stop s = .next s') : s.sameBut s' [.outbox, .evt, .cntr, .tlm, .host, .ident, .crypt, .life, .side] := by
  unfold execSetSubsys at h
  refine .of_next ?_ h
  clear h
  refine .ite ?_ ?_
  · refine State.slotAction_keeps _ _ _ _ _ _ _ (fun _ _ => ?_) ?_ rfl
    · refine .step ?_ (State.burnSubsys_keeps _ _ _ _) rfl
      assumption
    · exact .refl
  · exact .refl

theorem execVendorRevoke_keeps {src : Src} {len : Nat} {t : LcToken} {stop : Option Nat} {s s' : State} (h : execVendorRevoke src len t stop s = .next s') : s.sameBut s' [.outbox, .evt, .cntr, .tlm, .host, .ident, .crypt, .life, .side] := by
  unfold execVendorRevoke at h
  refine .of_next ?_ h
  clear h
  refine .ite ?_ ?_
  · refine State.slotAction_keeps _ _ _ _ _ _ _ (fun _ _ => ?_) ?_ rfl
    · refine .step ?_ (State.burnRevoke_keeps _ _ _ _) rfl
      assumption
    · exact .refl
  · exact .refl

theorem execInfo_keeps {cid : Nat} {label : Nat} {len : Nat} {addr : Nat} {s s' : State} (h : execInfo cid label len addr s = .next s') : s.sameBut s' [.outbox, .evt, .cntr, .tlm, .host] := by
  unfold execInfo at h
  refine .of_next ?_ h
  clear h
  refine State.admin_keeps _ _ _ _ (fun _ _ => ?_) ?_ rfl
  · refine .ite_fst ?_ ?_
    · refine .fst_mk ?_
      assumption
    · split
      · refine .fst_mk ?_
        assumption
      · refine .ite_fst ?_ ?_
        · refine .fst_mk ?_
          assumption
        · refine .fst_mk ?_
          refine .step ?_ (State.hostWrite_keeps _ _ _) rfl
          assumption
  · exact .refl

theorem execList_keeps {cid : Nat} {len : Nat} {addr : Nat} {s s' : State} (h : execList cid len addr s = .next s') : s.sameBut s' [.outbox, .evt, .cntr, .tlm, .host] := by
  unfold execList at h
  refine .of_next ?_ h
  clear h
  refine State.admin_keeps _ _ _ _ (fun _ _ => ?_) ?_ rfl
  · refine .ite_fst ?_ ?_
    · refine .fst_mk ?_
      assumption
    · refine .ite_fst ?_ ?_
      · refine .fst_mk ?_
        assumption
      · refine .fst_mk ?_
        refine .step ?_ (State.hostWrite_keeps _ _ _) rfl
        assumption
  · exact .refl

theorem execImportPub_keeps {cid : Nat} {len : Nat} {addr : Nat} {s s' : State} (h : execImportPub cid len addr s = .next s') : s.sameBut s' [.outbox, .evt, .cntr, .tlm, .host, .crypt] := by
  unfold execImportPub at h
  refine .of_next ?_ h
  clear h
  refine State.admin_keeps _ _ _ _ (fun _ _ => ?_) ?_ rfl
  · refine .ite_fst ?_ ?_
    · refine .fst_mk ?_
      assumption
    · refine .ite_fst ?_ ?_
      · refine .fst_mk ?_
        assumption
      · refine .ite_fst ?_ ?_
        · refine .fst_mk ?_
          assumption
        · extract_lets +onlyGivenNames x1
          refine .letP x1 ?_ (fun hx1 => ?_)
          · unfold x1
            refine .step ?_ (State.signedTwice_keeps _ _ _ _) rfl
            assumption
          clear_value x1
          split
          · refine .fst_mk ?_
            refine .step ?_ (State.hostWrite_keeps _ _ _) rfl
            assumption
          · refine .fst_mk ?_
            assumption
  · exact .refl

theorem execImportKey_keeps {cid : Nat} {label : Nat} {len : Nat} {tlen : Nat} {t : Token} {kr : Option KeyReq} {b : ImportBlob} {s s' : State} (h : execImportKey cid label len tlen t kr b s = .next s') : s.sameBut s' [.outbox, .evt, .cntr, .tlm, .host, .ident, .crypt] := by
  unfold execImportKey at h
  refine .of_next ?_ h
  clear h
  refine State.adminHold_keeps _ _ _ _ (fun _ _ _ => ?_) ?_ rfl
  · refine .ite_fst ?_ ?_
    · refine .fst_mk ?_
      assumption
    · refine .ite_fst ?_ ?_
      · refine .fst_mk ?_
        assumption
      · refine .ite_fst ?_ ?_
        · refine .fst_mk ?_
          assumption
        · extract_lets +onlyGivenNames x1
          refine .letP x1 ?_ (fun hx1 => ?_)
          · unfold x1
            refine .step ?_ (State.keyToken_keeps _ _ _ _) rfl
            refine .step ?_ (State.countRead_keeps _ _ _) rfl
            assumption
          clear_value x1
          extract_lets +onlyGivenNames x2
          refine .letS x2 ?_ (fun hx2 => ?_)
          · unfold x2
            assumption
          clear_value x2
          refine .ite_fst ?_ ?_
          · refine .fst_mk ?_
            assumption
          · split
            · refine .fst_mk ?_
              assumption
            · extract_lets +onlyGivenNames x3
              refine .letP x3 ?_ (fun hx3 => ?_)
              · unfold x3
                refine .step ?_ (State.pkuRun_keeps _) rfl
                assumption
              clear_value x3
              extract_lets +onlyGivenNames x4
              refine .letS x4 ?_ (fun hx4 => ?_)
              · unfold x4
                assumption
              clear_value x4
              refine .ite_fst ?_ ?_
              · refine .fst_mk ?_
                assumption
              · split
                · refine .fst_mk ?_
                  assumption
                · split
                  · refine .ite_fst ?_ ?_
                    · refine .fst_mk ?_
                      assumption
                    · refine .fst_mk ?_
                      refine .step ?_ (State.beginChange_keeps _ _) rfl
                      assumption
                  · split
                    · refine .fst_mk ?_
                      refine .step ?_ (State.raise_keeps _ _ _) rfl
                      assumption
                    · refine .fst_mk ?_
                      refine .step ?_ (State.beginChange_keeps _ _) rfl
                      assumption
  · exact .refl

theorem execDestroy_keeps {cid : Nat} {label : Nat} {len : Nat} {tlen : Nat} {t : Token} {kr : Option KeyReq} {s s' : State} (h : execDestroy cid label len tlen t kr s = .next s') : s.sameBut s' [.outbox, .evt, .cntr, .tlm, .host, .ident, .crypt] := by
  unfold execDestroy at h
  refine .of_next ?_ h
  clear h
  refine State.adminHold_keeps _ _ _ _ (fun _ _ _ => ?_) ?_ rfl
  · refine .ite_fst ?_ ?_
    · refine .fst_mk ?_
      assumption
    · refine .ite_fst ?_ ?_
      · refine .fst_mk ?_
        assumption
      · refine .ite_fst ?_ ?_
        · refine .fst_mk ?_
          assumption
        · extract_lets +onlyGivenNames x1
          refine .letP x1 ?_ (fun hx1 => ?_)
          · unfold x1
            refine .step ?_ (State.keyToken_keeps _ _ _ _) rfl
            refine .step ?_ (State.countRead_keeps _ _ _) rfl
            assumption
          clear_value x1
          extract_lets +onlyGivenNames x2
          refine .letS x2 ?_ (fun hx2 => ?_)
          · unfold x2
            assumption
          clear_value x2
          refine .ite_fst ?_ ?_
          · refine .fst_mk ?_
            assumption
          · refine .ite_fst ?_ ?_
            · refine .fst_mk ?_
              assumption
            · split
              · refine .fst_mk ?_
                assumption
              · refine .fst_mk ?_
                refine .step ?_ (State.beginChange_keeps _ _) rfl
                assumption
  · exact .refl

theorem execSealRotate_keeps {cid : Nat} {len : Nat} {tlen : Nat} {t : Token} {kr : Option KeyReq} {s s' : State} (h : execSealRotate cid len tlen t kr s = .next s') : s.sameBut s' [.outbox, .evt, .cntr, .tlm, .host, .ident, .crypt] := by
  unfold execSealRotate at h
  refine .of_next ?_ h
  clear h
  refine State.adminHold_keeps _ _ _ _ (fun _ _ _ => ?_) ?_ rfl
  · refine .ite_fst ?_ ?_
    · refine .fst_mk ?_
      assumption
    · refine .ite_fst ?_ ?_
      · refine .fst_mk ?_
        assumption
      · refine .ite_fst ?_ ?_
        · refine .fst_mk ?_
          assumption
        · extract_lets +onlyGivenNames x1
          refine .letP x1 ?_ (fun hx1 => ?_)
          · unfold x1
            refine .step ?_ (State.keyToken_keeps _ _ _ _) rfl
            refine .step ?_ (State.countRead_keeps _ _ _) rfl
            assumption
          clear_value x1
          extract_lets +onlyGivenNames x2
          refine .letS x2 ?_ (fun hx2 => ?_)
          · unfold x2
            assumption
          clear_value x2
          refine .ite_fst ?_ ?_
          · refine .fst_mk ?_
            assumption
          · refine .ite_fst ?_ ?_
            · refine .fst_mk ?_
              assumption
            · refine .ite_fst ?_ ?_
              · refine .fst_mk ?_
                assumption
              · refine .fst_mk ?_
                refine .step ?_ (State.beginChange_keeps _ _) rfl
                assumption
  · exact .refl

theorem execKeyJournalCommit_keeps {ok : Bool} {s s' : State} (h : execKeyJournalCommit ok s = .next s') : s.sameBut s' [.outbox, .evt, .press, .vault, .cntr, .tlm, .host, .sealing, .crypt] := by
  unfold execKeyJournalCommit at h
  refine .of_next ?_ h
  clear h
  split
  · extract_lets +onlyGivenNames x1
    refine .letS x1 ?_ (fun hx1 => ?_)
    · unfold x1
      refine .step ?_ (State.vaultDone_keeps _) rfl
      exact .refl
    clear_value x1
    refine .ite ?_ ?_
    · extract_lets +onlyGivenNames x2
      clear_value x2
      extract_lets +onlyGivenNames x3
      refine .letS x3 ?_ (fun hx3 => ?_)
      · unfold x3
        refine .step ?_ (State.sameBut.crypt _) rfl
        assumption
      clear_value x3
      extract_lets +onlyGivenNames x4
      refine .letP x4 ?_ (fun hx4 => ?_)
      · unfold x4
        refine .step ?_ (State.applyChange_keeps _ _) rfl
        refine .step ?_ (State.journalRecords_keeps _ _) rfl
        assumption
      clear_value x4
      refine .step ?_ (State.completeCmd_keeps _ _ _) rfl
      assumption
    · extract_lets +onlyGivenNames x5
      clear_value x5
      extract_lets +onlyGivenNames x6
      refine .letS x6 ?_ (fun hx6 => ?_)
      · unfold x6
        refine .step ?_ (State.sameBut.crypt _) rfl
        assumption
      clear_value x6
      refine .ite ?_ ?_
      · refine .step ?_ (State.journalRecords_keeps _ _) rfl
        refine .step ?_ (State.sameBut.crypt _) rfl
        assumption
      · refine .step ?_ (State.dropChange_keeps _ _) rfl
        assumption
  · exact .refl

theorem execMsixAggregationTimeout_keeps {q : Nat} {s s' : State} (h : execMsixAggregationTimeout q s = .next s') : s.sameBut s' [.outbox, .evt, .cntr, .host] := by
  unfold execMsixAggregationTimeout at h
  refine .of_next ?_ h
  clear h
  extract_lets +onlyGivenNames x1
  clear_value x1
  refine .ite ?_ ?_
  · exact .refl
  · refine .step ?_ (State.msi_keeps _ _) rfl
    refine .step ?_ (State.updQueue_keeps _ _ _) rfl
    exact .refl

theorem execMsixVectorUnmask_keeps {v : Fin 64} {addr : Nat} {data : Nat} {masked : Bool} {s s' : State} (h : execMsixVectorUnmask v addr data masked s = .next s') : s.sameBut s' [.outbox, .evt, .cntr, .host] := by
  unfold execMsixVectorUnmask at h
  refine .of_next ?_ h
  clear h
  refine .ite ?_ ?_
  · exact .refl
  · extract_lets +onlyGivenNames x1
    clear_value x1
    extract_lets +onlyGivenNames x2
    clear_value x2
    extract_lets +onlyGivenNames x3
    refine .letS x3 ?_ (fun hx3 => ?_)
    · unfold x3
      refine .step ?_ (State.sameBut.host _) rfl
      exact .refl
    clear_value x3
    refine .ite ?_ ?_
    · refine .step ?_ (State.msi_keeps _ _) rfl
      assumption
    · assumption

theorem execRetentionAck_keeps {q : Nat} {s s' : State} (h : execRetentionAck q s = .next s') : s.sameBut s' [.host] := by
  unfold execRetentionAck at h
  refine .of_next ?_ h
  clear h
  split
  · refine .step ?_ (State.sameBut.host _) rfl
    exact .refl
  · exact .refl

theorem execBusMasterDisable_keeps  {s s' : State} (h : execBusMasterDisable s = .next s') : s.sameBut s' [.evt, .host] := by
  unfold execBusMasterDisable at h
  refine .of_next ?_ h
  clear h
  refine .ite ?_ ?_
  · refine .step ?_ (State.busOff_keeps _) rfl
    exact .refl
  · exact .refl

theorem execPowerStateChange_keeps {d3 : Bool} {s s' : State} (h : execPowerStateChange d3 s = .next s') : s.sameBut s' [.outbox, .evt, .cntr, .tlm, .host] := by
  unfold execPowerStateChange at h
  refine .of_next ?_ h
  clear h
  refine .ite ?_ ?_
  · extract_lets +onlyGivenNames x1
    clear_value x1
    extract_lets +onlyGivenNames x2
    refine .letS x2 ?_ (fun hx2 => ?_)
    · unfold x2
      refine .step ?_ (State.sameBut.host _) rfl
      exact .refl
    clear_value x2
    refine .ite ?_ ?_
    · assumption
    · refine .step ?_ (State.busBack_keeps _) rfl
      assumption
  · exact .refl

theorem execMctpMessage_keeps {tr : Nat} {type : Nat} {lens : List Nat} {s s' : State} (h : execMctpMessage tr type lens s = .next s') : s.sameBut s' [.outbox, .side] := by
  unfold execMctpMessage at h
  refine .of_next ?_ h
  clear h
  refine .ite ?_ ?_
  · exact .refl
  · refine .ite ?_ ?_
    · refine .ite ?_ ?_
      · refine .step ?_ (State.emit_keeps _ _) rfl
        exact .refl
      · exact .refl
    · split
      · exact .refl
      · extract_lets +onlyGivenNames x1
        refine .letS x1 ?_ (fun hx1 => ?_)
        · unfold x1
          refine .step ?_ (State.updSb_keeps _ _ _) rfl
          exact .refl
        clear_value x1
        refine .ite ?_ ?_
        · refine .step ?_ (State.emit_keeps _ _) rfl
          refine .step ?_ (State.sameBut.side _) rfl
          assumption
        · assumption

theorem execSetEndpointId_keeps {tr : Nat} {eid : Nat} {s s' : State} (h : execSetEndpointId tr eid s = .next s') : s.sameBut s' [.host, .side] := by
  unfold execSetEndpointId at h
  refine .of_next ?_ h
  clear h
  refine .ite ?_ ?_
  · exact .refl
  · refine .ite ?_ ?_
    · refine .ite ?_ ?_
      · refine .step ?_ (State.sameBut.host _) rfl
        exact .refl
      · exact .refl
    · refine .step ?_ (State.updSb_keeps _ _ _) rfl
      exact .refl

theorem execGetVersion_keeps {eid : Nat} {tr : Nat} {s s' : State} (h : execGetVersion eid tr s = .next s') : s.sameBut s' [.outbox, .ident, .crypt, .side] := by
  unfold execGetVersion at h
  refine .of_next ?_ h
  clear h
  refine State.spdmReq_keeps _ _ _ _ _ (fun _ _ _ => ?_) ?_ rfl
  · refine .step ?_ (State.spdmSay_keeps _ _ _ _ _) rfl
    refine .step ?_ (State.setConn_keeps _ _) rfl
    refine .step ?_ (State.endSession_keeps _ _) rfl
    assumption
  · exact .refl

theorem execGetCapabilities_keeps {eid : Nat} {tr : Nat} {s s' : State} (h : execGetCapabilities eid tr s = .next s') : s.sameBut s' [.outbox, .ident, .side] := by
  unfold execGetCapabilities at h
  refine .of_next ?_ h
  clear h
  refine State.spdmReq_keeps _ _ _ _ _ (fun _ _ _ => ?_) ?_ rfl
  · refine .step ?_ (State.spdmSay_keeps _ _ _ _ _) rfl
    refine .step ?_ (State.setConn_keeps _ _) rfl
    assumption
  · exact .refl

theorem execNegotiateAlgorithms_keeps {eid : Nat} {tr : Nat} {offered : Bool} {s s' : State} (h : execNegotiateAlgorithms eid tr offered s = .next s') : s.sameBut s' [.outbox, .ident, .side] := by
  unfold execNegotiateAlgorithms at h
  refine .of_next ?_ h
  clear h
  refine State.spdmReq_keeps _ _ _ _ _ (fun _ _ _ => ?_) ?_ rfl
  · refine .ite ?_ ?_
    · refine .step ?_ (State.spdmSay_keeps _ _ _ _ _) rfl
      refine .step ?_ (State.setConn_keeps _ _) rfl
      assumption
    · refine .step ?_ (State.spdmErr_keeps _ _ _ _) rfl
      refine .step ?_ (State.setConn_keeps _ _) rfl
      assumption
  · exact .refl

theorem execGetDigests_keeps {eid : Nat} {tr : Nat} {s s' : State} (h : execGetDigests eid tr s = .next s') : s.sameBut s' [.outbox, .ident, .side] := by
  unfold execGetDigests at h
  refine .of_next ?_ h
  clear h
  refine State.spdmReq_keeps _ _ _ _ _ (fun _ _ _ => ?_) ?_ rfl
  · refine .step ?_ (State.spdmSay_keeps _ _ _ _ _) rfl
    refine .step ?_ (State.setConn_keeps _ _) rfl
    assumption
  · exact .refl

theorem execGetCertificate_keeps {eid : Nat} {tr : Nat} {slot : Nat} {off : Nat} {len : Nat} {s s' : State} (h : execGetCertificate eid tr slot off len s = .next s') : s.sameBut s' [.outbox, .ident, .side] := by
  unfold execGetCertificate at h
  refine .of_next ?_ h
  clear h
  refine State.spdmReq_keeps _ _ _ _ _ (fun _ _ _ => ?_) ?_ rfl
  · refine .ite ?_ ?_
    · refine .step ?_ (State.spdmErr_keeps _ _ _ _) rfl
      refine .step ?_ (State.setConn_keeps _ _) rfl
      assumption
    · refine .step ?_ (State.spdmSay_keeps _ _ _ _ _) rfl
      refine .step ?_ (State.setConn_keeps _ _) rfl
      assumption
  · exact .refl

theorem execChallenge_keeps {eid : Nat} {tr : Nat} {slot : Nat} {hashType : Nat} {nonce : List Byte} {s s' : State} (h : execChallenge eid tr slot hashType nonce s = .next s') : s.sameBut s' [.outbox, .evt, .ident, .crypt, .side] := by
  unfold execChallenge at h
  refine .of_next ?_ h
  clear h
  refine State.spdmReq_keeps _ _ _ _ _ (fun _ _ _ => ?_) ?_ rfl
  · extract_lets +onlyGivenNames x1
    refine .letS x1 ?_ (fun hx1 => ?_)
    · unfold x1
      refine .step ?_ (State.setConn_keeps _ _) rfl
      assumption
    clear_value x1
    refine .ite ?_ ?_
    · refine .step ?_ (State.spdmErr_keeps _ _ _ _) rfl
      assumption
    · refine .ite ?_ ?_
      · refine .step ?_ (State.spdmErr_keeps _ _ _ _) rfl
        assumption
      · extract_lets +onlyGivenNames x2
        clear_value x2
        extract_lets +onlyGivenNames x3
        clear_value x3
        refine .step ?_ (State.spdmSigned_keeps _ _ _ _ _ _) rfl
        assumption
  · exact .refl

theorem execGetMeasurements_keeps {eid : Nat} {tr : Nat} {op : Nat} {signed : Bool} {nonce : List Byte} {s s' : State} (h : execGetMeasurements eid tr op signed nonce s = .next s') : s.sameBut s' [.outbox, .evt, .ident, .crypt, .side] := by
  unfold execGetMeasurements at h
  refine .of_next ?_ h
  clear h
  refine State.spdmReq_keeps _ _ _ _ _ (fun _ _ _ => ?_) ?_ rfl
  · extract_lets +onlyGivenNames x1
    refine .letS x1 ?_ (fun hx1 => ?_)
    · unfold x1
      refine .step ?_ (State.setConn_keeps _ _) rfl
      assumption
    clear_value x1
    refine .ite ?_ ?_
    · refine .step ?_ (State.spdmErr_keeps _ _ _ _) rfl
      assumption
    · extract_lets +onlyGivenNames x2
      clear_value x2
      extract_lets +onlyGivenNames x3
      clear_value x3
      refine .ite ?_ ?_
      · refine .step ?_ (State.spdmErr_keeps _ _ _ _) rfl
        assumption
      · refine .ite ?_ ?_
        · refine .step ?_ (State.spdmSigned_keeps _ _ _ _ _ _) rfl
          assumption
        · refine .step ?_ (State.spdmSay_keeps _ _ _ _ _) rfl
          assumption
  · exact .refl

theorem execKeyExchange_keeps {eid : Nat} {tr : Nat} {slot : Nat} {s s' : State} (h : execKeyExchange eid tr slot s = .next s') : s.sameBut s' [.outbox, .evt, .ident, .crypt, .side] := by
  unfold execKeyExchange at h
  refine .of_next ?_ h
  clear h
  refine State.spdmReq_keeps _ _ _ _ _ (fun _ _ _ => ?_) ?_ rfl
  · refine .ite ?_ ?_
    · refine .step ?_ (State.spdmErr_keeps _ _ _ _) rfl
      refine .step ?_ (State.setConn_keeps _ _) rfl
      assumption
    · refine .ite ?_ ?_
      · refine .step ?_ (State.spdmErr_keeps _ _ _ _) rfl
        refine .step ?_ (State.setConn_keeps _ _) rfl
        assumption
      · refine .ite ?_ ?_
        · refine .step ?_ (State.spdmErr_keeps _ _ _ _) rfl
          refine .step ?_ (State.setConn_keeps _ _) rfl
          assumption
        · extract_lets +onlyGivenNames x1
          clear_value x1
          extract_lets +onlyGivenNames x2
          clear_value x2
          extract_lets +onlyGivenNames x3
          refine .letP x3 ?_ (fun hx3 => ?_)
          · unfold x3
            refine .step ?_ (State.pkuRun_keeps _) rfl
            assumption
          clear_value x3
          extract_lets +onlyGivenNames x4
          refine .letP x4 ?_ (fun hx4 => ?_)
          · unfold x4
            refine .step ?_ (State.signed_keeps _ _ _) rfl
            assumption
          clear_value x4
          refine .ite ?_ ?_
          · refine .step ?_ (State.spdmErr_keeps _ _ _ _) rfl
            refine .step ?_ (State.setConn_keeps _ _) rfl
            assumption
          · split
            · refine .step ?_ (State.spdmSay_keeps _ _ _ _ _) rfl
              refine .step ?_ (State.setConn_keeps _ _) rfl
              refine .step ?_ (State.openSession_keeps _ _) rfl
              assumption
            · refine .step ?_ (State.spdmErr_keeps _ _ _ _) rfl
              refine .step ?_ (State.setConn_keeps _ _) rfl
              assumption
  · exact .refl

theorem execFinish_keeps {eid : Nat} {tr : Nat} {ok : Bool} {s s' : State} (h : execFinish eid tr ok s = .next s') : s.sameBut s' [.outbox, .evt, .ident, .crypt, .side] := by
  unfold execFinish at h
  refine .of_next ?_ h
  clear h
  refine State.spdmReq_keeps _ _ _ _ _ (fun _ _ _ => ?_) ?_ rfl
  · refine .ite ?_ ?_
    · refine .step ?_ (State.spdmErr_keeps _ _ _ _) rfl
      refine .step ?_ (State.setConn_keeps _ _) rfl
      assumption
    · refine .ite ?_ ?_
      · refine .step ?_ (State.spdmSay_keeps _ _ _ _ _) rfl
        refine .step ?_ (State.setConn_keeps _ _) rfl
        assumption
      · refine .step ?_ (State.spdmErr_keeps _ _ _ _) rfl
        refine .step ?_ (State.raise_keeps _ _ _) rfl
        refine .step ?_ (State.setConn_keeps _ _) rfl
        refine .step ?_ (State.endSession_keeps _ _) rfl
        assumption
  · exact .refl

theorem execHeartbeat_keeps {eid : Nat} {tr : Nat} {s s' : State} (h : execHeartbeat eid tr s = .next s') : s.sameBut s' [.outbox, .ident, .side] := by
  unfold execHeartbeat at h
  refine .of_next ?_ h
  clear h
  refine State.spdmReq_keeps _ _ _ _ _ (fun _ _ _ => ?_) ?_ rfl
  · refine .ite ?_ ?_
    · refine .step ?_ (State.spdmSay_keeps _ _ _ _ _) rfl
      refine .step ?_ (State.setConn_keeps _ _) rfl
      assumption
    · refine .step ?_ (State.spdmErr_keeps _ _ _ _) rfl
      refine .step ?_ (State.setConn_keeps _ _) rfl
      assumption
  · exact .refl

theorem execEndSession_keeps {eid : Nat} {tr : Nat} {s s' : State} (h : execEndSession eid tr s = .next s') : s.sameBut s' [.outbox, .ident, .crypt, .side] := by
  unfold execEndSession at h
  refine .of_next ?_ h
  clear h
  refine State.spdmReq_keeps _ _ _ _ _ (fun _ _ _ => ?_) ?_ rfl
  · refine .ite ?_ ?_
    · refine .step ?_ (State.spdmSay_keeps _ _ _ _ _) rfl
      refine .step ?_ (State.setConn_keeps _ _) rfl
      refine .step ?_ (State.endSession_keeps _ _) rfl
      assumption
    · refine .step ?_ (State.spdmErr_keeps _ _ _ _) rfl
      refine .step ?_ (State.setConn_keeps _ _) rfl
      assumption
  · exact .refl

theorem execSpdmUnsupportedRequest_keeps {eid : Nat} {tr : Nat} {s s' : State} (h : execSpdmUnsupportedRequest eid tr s = .next s') : s.sameBut s' [.outbox, .side] := by
  unfold execSpdmUnsupportedRequest at h
  refine .of_next ?_ h
  clear h
  refine State.spdmReq_keeps _ _ _ _ _ (fun _ _ _ => ?_) ?_ rfl
  · refine .step ?_ (State.spdmErr_keeps _ _ _ _) rfl
    assumption
  · exact .refl

theorem execSpdmSessionTimeout_keeps {eid : Nat} {tr : Nat} {s s' : State} (h : execSpdmSessionTimeout eid tr s = .next s') : s.sameBut s' [.evt, .ident, .crypt] := by
  unfold execSpdmSessionTimeout at h
  refine .of_next ?_ h
  clear h
  split
  · refine .ite ?_ ?_
    · refine .step ?_ (State.raise_keeps _ _ _) rfl
      refine .step ?_ (State.setConn_keeps _ _) rfl
      refine .step ?_ (State.endSession_keeps _ _) rfl
      exact .refl
    · exact .refl
  · exact .refl

theorem execSpdmConnectionIdle_keeps {eid : Nat} {tr : Nat} {s s' : State} (h : execSpdmConnectionIdle eid tr s = .next s') : s.sameBut s' [.ident, .crypt] := by
  unfold execSpdmConnectionIdle at h
  refine .of_next ?_ h
  clear h
  split
  · refine .ite ?_ ?_
    · refine .step ?_ (State.dropConn_keeps _ _ _) rfl
      refine .step ?_ (State.endSession_keeps _ _) rfl
      exact .refl
    · exact .refl
  · exact .refl

theorem execSpdmAgentRequest_keeps {n : Ch} {s s' : State} (h : execSpdmAgentRequest n s = .next s') : s.sameBut s' [.outbox, .ident, .crypt, .side] := by
  unfold execSpdmAgentRequest at h
  refine .of_next ?_ h
  clear h
  split
  · refine .ite ?_ ?_
    · refine .step ?_ (State.askAgent_keeps _ _ _) rfl
      refine .step ?_ (State.setSpdm_keeps _ _ _) rfl
      exact .refl
    · exact .refl
  · exact .refl

theorem execSpdmAgentResponse_keeps {n : Ch} {sigOk : Bool} {dig : Nat} {s s' : State} (h : execSpdmAgentResponse n sigOk dig s = .next s') : s.sameBut s' [.outbox, .evt, .ident, .crypt, .side] := by
  unfold execSpdmAgentResponse at h
  refine .of_next ?_ h
  clear h
  split
  · extract_lets +onlyGivenNames x1
    clear_value x1
    refine .ite ?_ ?_
    · exact .refl
    · refine .ite ?_ ?_
      · refine .step ?_ (State.askAgent_keeps _ _ _) rfl
        refine .step ?_ (State.setSpdm_keeps _ _ _) rfl
        exact .refl
      · extract_lets +onlyGivenNames x2
        clear_value x2
        refine .step ?_ (State.raiseIf_keeps _ _ _ _) rfl
        refine .step ?_ (State.setSpdm_keeps _ _ _) rfl
        exact .refl
  · exact .refl

theorem execSpdmAgentRetry_keeps {n : Ch} {s s' : State} (h : execSpdmAgentRetry n s = .next s') : s.sameBut s' [.outbox, .evt, .ident, .crypt, .side] := by
  unfold execSpdmAgentRetry at h
  refine .of_next ?_ h
  clear h
  split
  · extract_lets +onlyGivenNames x1
    clear_value x1
    refine .ite ?_ ?_
    · exact .refl
    · refine .ite ?_ ?_
      · refine .step ?_ (State.askAgent_keeps _ _ _) rfl
        refine .step ?_ (State.setSpdm_keeps _ _ _) rfl
        exact .refl
      · refine .step ?_ (State.raise_keeps _ _ _) rfl
        refine .step ?_ (State.setSpdm_keeps _ _ _) rfl
        exact .refl
  · exact .refl

theorem execPufDlMeasure_keeps {e : Nat} {s s' : State} (h : execPufDlMeasure e s = .next s') : s.sameBut s' [.evt, .crypt] := by
  unfold execPufDlMeasure at h
  refine .of_next ?_ h
  clear h
  refine .ite ?_ ?_
  · exact .refl
  · refine .ite ?_ ?_
    · refine .step ?_ (State.sameBut.crypt _) rfl
      exact .refl
    · extract_lets +onlyGivenNames x1
      clear_value x1
      refine .step ?_ (State.raise_keeps _ _ _) rfl
      refine .step ?_ (State.sameBut.crypt _) rfl
      exact .refl

theorem execReenrol_keeps {ok : Bool} {otp : Bool} {s s' : State} (h : execReenrol ok otp s = .next s') : s.sameBut s' [.evt, .crypt, .life] := by
  unfold execReenrol at h
  refine .of_next ?_ h
  clear h
  split
  · refine .ite ?_ ?_
    · refine .step ?_ (State.sameBut.crypt _) rfl
      exact .refl
    · extract_lets +onlyGivenNames x1
      clear_value x1
      extract_lets +onlyGivenNames x2
      clear_value x2
      extract_lets +onlyGivenNames x3
      clear_value x3
      extract_lets +onlyGivenNames x4
      refine .letS x4 ?_ (fun hx4 => ?_)
      · unfold x4
        refine .step ?_ (State.sameBut.crypt _) rfl
        exact .refl
      clear_value x4
      refine .step ?_ (State.burnHelper_keeps _ _ _) rfl
      refine .step ?_ (State.raise_keeps _ _ _) rfl
      assumption
  · exact .refl

theorem execPufBufferClear_keeps  {s s' : State} (h : execPufBufferClear s = .next s') : s.sameBut s' [.crypt] := by
  unfold execPufBufferClear at h
  refine .of_next ?_ h
  clear h
  refine .ite ?_ ?_
  · refine .step ?_ (State.sameBut.crypt _) rfl
    exact .refl
  · exact .refl

theorem execCaskRemask_keeps  {s s' : State} (h : execCaskRemask s = .next s') : s.sameBut s' [.crypt] := by
  unfold execCaskRemask at h
  refine .of_next ?_ h
  clear h
  refine .ite ?_ ?_
  · exact .refl
  · extract_lets +onlyGivenNames x1
    clear_value x1
    extract_lets +onlyGivenNames x2
    clear_value x2
    extract_lets +onlyGivenNames x3
    refine .letS x3 ?_ (fun hx3 => ?_)
    · unfold x3
      refine .step ?_ (State.drawn_keeps _) rfl
      exact .refl
    clear_value x3
    refine .step ?_ (State.sameBut.crypt _) rfl
    assumption

theorem execPeriodicSelfTest_keeps {lane : Bool} {s s' : State} (h : execPeriodicSelfTest lane s = .next s') : s.sameBut s' [.crypt] := by
  unfold execPeriodicSelfTest at h
  refine .of_next ?_ h
  clear h
  refine .ite ?_ ?_
  · exact .refl
  · refine .ite ?_ ?_
    · split
      · refine .step ?_ (State.sameBut.crypt _) rfl
        exact .refl
      · exact .refl
    · split
      · refine .step ?_ (State.sameBut.crypt _) rfl
        exact .refl
      · exact .refl

theorem execSelfTestDrainEnd_keeps {pass : Bool} {s s' : State} (h : execSelfTestDrainEnd pass s = .next s') : s.sameBut s' [.evt, .press, .crypt] := by
  unfold execSelfTestDrainEnd at h
  refine .of_next ?_ h
  clear h
  split
  · extract_lets +onlyGivenNames x1
    clear_value x1
    extract_lets +onlyGivenNames x2
    refine .letS x2 ?_ (fun hx2 => ?_)
    · unfold x2
      refine .step ?_ (State.sameBut.crypt _) rfl
      exact .refl
    clear_value x2
    refine .ite ?_ ?_
    · extract_lets +onlyGivenNames x3
      clear_value x3
      extract_lets +onlyGivenNames x4
      refine .letS x4 ?_ (fun hx4 => ?_)
      · unfold x4
        refine .step ?_ (State.setEngine_keeps _ _ _) rfl
        assumption
      clear_value x4
      refine .ite ?_ ?_
      · refine .step ?_ (State.raise_keeps _ _ _) rfl
        refine .step ?_ (State.setEngine_keeps _ _ _) rfl
        assumption
      · refine .step ?_ (State.raise_keeps _ _ _) rfl
        refine .step ?_ (State.setEngine_keeps _ _ _) rfl
        assumption
    · extract_lets +onlyGivenNames x5
      clear_value x5
      refine .ite ?_ ?_
      · refine .step ?_ (State.raise_keeps _ _ _) rfl
        assumption
      · refine .step ?_ (State.raise_keeps _ _ _) rfl
        refine .step ?_ (State.setLane_keeps _ _ _) rfl
        assumption
  · exact .refl

theorem execEngineDerate_keeps {e : Fin 8} {s s' : State} (h : execEngineDerate e s = .next s') : s.sameBut s' [.evt, .press] := by
  unfold execEngineDerate at h
  refine .of_next ?_ h
  clear h
  refine .ite ?_ ?_
  · exact .refl
  · refine .ite ?_ ?_
    · refine .step ?_ (State.raise_keeps _ _ _) rfl
      refine .step ?_ (State.setEngine_keeps _ _ _) rfl
      exact .refl
    · refine .step ?_ (State.raise_keeps _ _ _) rfl
      refine .step ?_ (State.setEngine_keeps _ _ _) rfl
      exact .refl

theorem execEngineRestore_keeps {e : Fin 8} {s s' : State} (h : execEngineRestore e s = .next s') : s.sameBut s' [.press] := by
  unfold execEngineRestore at h
  refine .of_next ?_ h
  clear h
  refine .ite ?_ ?_
  · refine .step ?_ (State.setEngine_keeps _ _ _) rfl
    exact .refl
  · exact .refl

theorem execDrbgReseed_keeps  {s s' : State} (h : execDrbgReseed s = .next s') : s.sameBut s' [.evt, .crypt] := by
  unfold execDrbgReseed at h
  refine .of_next ?_ h
  clear h
  refine .ite ?_ ?_
  · exact .refl
  · extract_lets +onlyGivenNames x1
    refine .letS x1 ?_ (fun hx1 => ?_)
    · unfold x1
      refine .step ?_ (State.seedDrbg_keeps _) rfl
      exact .refl
    clear_value x1
    refine .step ?_ (State.raise_keeps _ _ _) rfl
    refine .step ?_ (State.sameBut.crypt _) rfl
    assumption

theorem execEntropyTestFail_keeps  {s s' : State} (h : execEntropyTestFail s = .next s') : s.sameBut s' [.evt, .crypt] := by
  unfold execEntropyTestFail at h
  refine .of_next ?_ h
  clear h
  refine .ite ?_ ?_
  · exact .refl
  · extract_lets +onlyGivenNames x1
    clear_value x1
    extract_lets +onlyGivenNames x2
    clear_value x2
    extract_lets +onlyGivenNames x3
    refine .letS x3 ?_ (fun hx3 => ?_)
    · unfold x3
      refine .step ?_ (State.raise_keeps _ _ _) rfl
      refine .step ?_ (State.sameBut.crypt _) rfl
      exact .refl
    clear_value x3
    refine .ite ?_ ?_
    · refine .step ?_ (State.raise_keeps _ _ _) rfl
      refine .step ?_ (State.sameBut.crypt _) rfl
      assumption
    · assumption

theorem execDrbgReinstantiate_keeps {ok : Bool} {s s' : State} (h : execDrbgReinstantiate ok s = .next s') : s.sameBut s' [.evt, .plat, .crypt] := by
  unfold execDrbgReinstantiate at h
  refine .of_next ?_ h
  clear h
  refine .ite ?_ ?_
  · exact .refl
  · refine .ite ?_ ?_
    · refine .step ?_ (State.raise_keeps _ _ _) rfl
      refine .step ?_ (State.sameBut.crypt _) rfl
      exact .refl
    · extract_lets +onlyGivenNames x1
      refine .letS x1 ?_ (fun hx1 => ?_)
      · unfold x1
        refine .step ?_ (State.seedDrbg_keeps _) rfl
        exact .refl
      clear_value x1
      refine .step ?_ (State.sameBut.plat_crypt _ _) rfl
      assumption

theorem execTamperTrip_keeps {src : Fin 20} {level : Bool} {s s' : State} (h : execTamperTrip src level s = .next s') : s.sameBut s' [.freeCtr, .outbox, .regs, .evt, .plat, .keeper, .chs, .cellar, .press, .vault, .ctl, .cntr, .tlm, .host, .ident, .sealing, .crypt, .life] := by
  unfold execTamperTrip at h
  refine .of_next ?_ h
  clear h
  refine .ite ?_ ?_
  · exact .refl
  · refine .ite ?_ ?_
    · extract_lets +onlyGivenNames x1
      clear_value x1
      extract_lets +onlyGivenNames x2
      clear_value x2
      extract_lets +onlyGivenNames x3
      clear_value x3
      extract_lets +onlyGivenNames x4
      refine .letS x4 ?_ (fun hx4 => ?_)
      · unfold x4
        refine .step ?_ (State.sameBut.life _) rfl
        exact .refl
      clear_value x4
      refine .ite ?_ ?_
      · refine .step ?_ (State.trip_keeps _ _) rfl
        assumption
      · assumption
    · refine .step ?_ (State.trip_keeps _ _) rfl
      exact .refl

theorem execMeshSample_keeps {k : Fin 2} {good : Bool} {s s' : State} (h : execMeshSample k good s = .next s') : s.sameBut s' [.freeCtr, .outbox, .regs, .evt, .plat, .keeper, .chs, .cellar, .press, .vault, .ctl, .cntr, .tlm, .host, .ident, .sealing, .crypt, .life] := by
  unfold execMeshSample at h
  refine .of_next ?_ h
  clear h
  refine .ite ?_ ?_
  · refine .step ?_ (State.meshSample_keeps _ _ _) rfl
    exact .refl
  · exact .refl

theorem execShelfMeshBurst_keeps {k : Fin 2} {good : List Bool} {s s' : State} (h : execShelfMeshBurst k good s = .next s') : s.sameBut s' [.freeCtr, .outbox, .regs, .evt, .plat, .keeper, .chs, .cellar, .press, .vault, .ctl, .cntr, .tlm, .host, .ident, .sealing, .crypt, .life] := by
  unfold execShelfMeshBurst at h
  refine .of_next ?_ h
  clear h
  refine .ite ?_ ?_
  · refine .foldl (fun _ _ _ => ?_) ?_
    · refine .step ?_ (State.meshSample_keeps _ _ _) rfl
      assumption
    · exact .refl
  · exact .refl

theorem execShelfTempSample_keeps {quarter : Int} {s s' : State} (h : execShelfTempSample quarter s = .next s') : s.sameBut s' [.freeCtr, .outbox, .regs, .evt, .plat, .keeper, .chs, .cellar, .press, .vault, .ctl, .cntr, .tlm, .host, .ident, .sealing, .crypt, .life] := by
  unfold execShelfTempSample at h
  refine .of_next ?_ h
  clear h
  refine .ite ?_ ?_
  · exact .refl
  · refine .ite ?_ ?_
    · refine .step ?_ (State.trip_keeps _ _) rfl
      exact .refl
    · refine .ite ?_ ?_
      · refine .step ?_ (State.trip_keeps _ _) rfl
        exact .refl
      · exact .refl

theorem execVbatLow_keeps  {s s' : State} (h : execVbatLow s = .next s') : s.sameBut s' [.freeCtr, .outbox, .regs, .evt, .plat, .keeper, .chs, .cellar, .press, .vault, .ctl, .cntr, .tlm, .host, .ident, .sealing, .crypt, .life] := by
  unfold execVbatLow at h
  refine .of_next ?_ h
  clear h
  refine .ite ?_ ?_
  · refine .step ?_ (State.trip_keeps _ _) rfl
    refine .step ?_ (State.raise_keeps _ _ _) rfl
    refine .step ?_ (State.sameBut.life _) rfl
    exact .refl
  · exact .refl

theorem execEventRaise_keeps  {s s' : State} (h : execEventRaise s = .next s') : s.sameBut s' [.outbox, .regs, .evt, .plat, .cntr, .host] := by
  unfold execEventRaise at h
  refine .of_next ?_ h
  clear h
  split
  · refine .step ?_ (State.takeRaise_keeps _ _) rfl
    refine .step ?_ (State.sameBut.evt _) rfl
    exact .refl
  · exact .refl

theorem execRingWrite_keeps  {s s' : State} (h : execRingWrite s = .next s') : s.sameBut s' [.outbox, .evt, .keeper, .cntr, .tlm, .host] := by
  unfold execRingWrite at h
  refine .of_next ?_ h
  clear h
  split
  · refine .step ?_ (State.writeRec_keeps _ _) rfl
    refine .step ?_ (State.sameBut.evt _) rfl
    exact .refl
  · exact .refl

theorem execJournalBlockDue_keeps  {s s' : State} (h : execJournalBlockDue s = .next s') : s.sameBut s' [.evt] := by
  unfold execJournalBlockDue at h
  refine .of_next ?_ h
  clear h
  refine .ite ?_ ?_
  · refine .step ?_ (State.makeBlock_keeps _) rfl
    exact .refl
  · exact .refl

theorem execJournalBlockDurable_keeps {passed : Bool} {s s' : State} (h : execJournalBlockDurable passed s = .next s') : s.sameBut s' [.evt, .vault] := by
  unfold execJournalBlockDurable at h
  refine .of_next ?_ h
  clear h
  split
  · refine .ite ?_ ?_
    · exact .refl
    · refine .ite ?_ ?_
      · refine .step ?_ (State.degrade_keeps _ _) rfl
        refine .step ?_ (State.vaultDone_keeps _) rfl
        exact .refl
      · refine .ite ?_ ?_
        · refine .step ?_ (State.blockDurable_keeps _ _ _) rfl
          refine .step ?_ (State.vaultDone_keeps _) rfl
          exact .refl
        · exact .refl
  · exact .refl

theorem execJournalRetry_keeps {passed : Bool} {s s' : State} (h : execJournalRetry passed s = .next s') : s.sameBut s' [.evt, .vault] := by
  unfold execJournalRetry at h
  refine .of_next ?_ h
  clear h
  refine .ite ?_ ?_
  · extract_lets +onlyGivenNames x1
    refine .letS x1 ?_ (fun hx1 => ?_)
    · unfold x1
      refine .step ?_ (State.vaultDone_keeps _) rfl
      exact .refl
    clear_value x1
    extract_lets +onlyGivenNames x2
    clear_value x2
    extract_lets +onlyGivenNames x3
    refine .letS x3 ?_ (fun hx3 => ?_)
    · unfold x3
      refine .step ?_ (State.raise_keeps _ _ _) rfl
      refine .step ?_ (State.sameBut.evt _) rfl
      assumption
    clear_value x3
    split
    · refine .step ?_ (State.blockDurable_keeps _ _ _) rfl
      assumption
    · assumption
  · exact .refl

theorem execLwClear_keeps  {s s' : State} (h : execLwClear s = .next s') : s.sameBut s' [.keeper] := by
  unfold execLwClear at h
  refine .of_next ?_ h
  clear h
  refine .ite ?_ ?_
  · refine .step ?_ (State.sameBut.keeper _) rfl
    exact .refl
  · exact .refl

theorem execRdataRead_keeps {q : Req} {k : Fin 8} {s s' : State} (h : execRdataRead q k s = .next s') : s.sameBut s' [.freeCtr, .outbox, .regs, .evt] := by
  unfold execRdataRead at h
  exact .mono (State.accessRead_keeps h) rfl

theorem execMsigapExpiry_keeps {v : Nat} {s s' : State} (h : execMsigapExpiry v s = .next s') : s.sameBut s' [.outbox, .evt, .cntr, .host] := by
  unfold execMsigapExpiry at h
  refine .of_next ?_ h
  clear h
  split
  · refine .ite ?_ ?_
    · refine .step ?_ (State.msi_keeps _ _) rfl
      refine .step ?_ (State.sameBut.evt _) rfl
      exact .refl
    · refine .step ?_ (State.sameBut.evt _) rfl
      exact .refl
  · exact .refl

theorem execPendHiRead_keeps {q : Req} {s s' : State} (h : execPendHiRead q s = .next s') : s.sameBut s' [.freeCtr, .outbox, .regs, .evt] := by
  unfold execPendHiRead at h
  exact .mono (State.accessRead_keeps h) rfl

theorem execCounterDataRead_keeps {q : Req} {hi : Bool} {s s' : State} (h : execCounterDataRead q hi s = .next s') : s.sameBut s' [.freeCtr, .outbox, .regs, .evt] := by
  unfold execCounterDataRead at h
  exact .mono (State.accessRead_keeps h) rfl

theorem execBar4Read_keeps {k : Fin 8192} {h : Half} {s s' : State} (h : execBar4Read k h s = .next s') : s.sameBut s' [.outbox, .regs, .evt] := by
  unfold execBar4Read at h
  refine .of_next ?_ h
  clear h
  refine .ite ?_ ?_
  · exact .refl
  · refine .step ?_ (State.bar4Served_keeps _ _ _) rfl
    exact .refl

theorem execTelemetryPeriod_keeps {m : TlmMeas} {formed : Bool} {s s' : State} (h : execTelemetryPeriod m formed s = .next s') : s.sameBut s' [.outbox, .evt, .cntr, .tlm, .host] := by
  unfold execTelemetryPeriod at h
  refine .of_next ?_ h
  clear h
  refine .ite ?_ ?_
  · exact .refl
  · extract_lets +onlyGivenNames x1
    clear_value x1
    refine .ite ?_ ?_
    · refine .step ?_ (State.sameBut.tlm _) rfl
      exact .refl
    · extract_lets +onlyGivenNames x2
      clear_value x2
      extract_lets +onlyGivenNames x3
      clear_value x3
      extract_lets +onlyGivenNames x4
      refine .letS x4 ?_ (fun hx4 => ?_)
      · unfold x4
        refine .step ?_ (State.sameBut.tlm _) rfl
        exact .refl
      clear_value x4
      extract_lets +onlyGivenNames x5
      clear_value x5
      extract_lets +onlyGivenNames x6
      clear_value x6
      extract_lets +onlyGivenNames x7
      refine .letS x7 ?_ (fun hx7 => ?_)
      · unfold x7
        refine .ite ?_ ?_
        · refine .step ?_ (State.formTlm_keeps _ _) rfl
          assumption
        · refine .step ?_ (State.sameBut.tlm _) rfl
          assumption
      clear_value x7
      refine .step ?_ (State.sameBut.tlm _) rfl
      assumption

theorem execTelemetryLate_keeps  {s s' : State} (h : execTelemetryLate s = .next s') : s.sameBut s' [.outbox, .evt, .cntr, .tlm, .host] := by
  unfold execTelemetryLate at h
  refine .of_next ?_ h
  clear h
  split
  · refine .step ?_ (State.formTlm_keeps _ _) rfl
    refine .step ?_ (State.raise_keeps _ _ _) rfl
    exact .refl
  · exact .refl

theorem execSfdpdataRead_keeps {q : Req} {n : Ch} {s s' : State} (h : execSfdpdataRead q n s = .next s') : s.sameBut s' [.freeCtr, .outbox, .regs, .evt] := by
  unfold execSfdpdataRead at h
  exact .mono (State.accessRead_keeps h) rfl

theorem execBaddataRead_keeps {q : Req} {n : Ch} {s s' : State} (h : execBaddataRead q n s = .next s') : s.sameBut s' [.freeCtr, .outbox, .regs, .evt] := by
  unfold execBaddataRead at h
  exact .mono (State.accessRead_keeps h) rfl

theorem execStrdataRead_keeps {q : Req} {k : Fin 2} {s s' : State} (h : execStrdataRead q k s = .next s') : s.sameBut s' [.freeCtr, .outbox, .regs, .evt] := by
  unfold execStrdataRead at h
  exact .mono (State.accessRead_keeps h) rfl

theorem execStrattRead_keeps {q : Req} {s s' : State} (h : execStrattRead q s = .next s') : s.sameBut s' [.freeCtr, .outbox, .regs, .evt] := by
  unfold execStrattRead at h
  exact .mono (State.accessRead_keeps h) rfl

theorem execCaskdataRead_keeps {q : Req} {k : Fin 8} {s s' : State} (h : execCaskdataRead q k s = .next s') : s.sameBut s' [.freeCtr, .outbox, .regs, .evt] := by
  unfold execCaskdataRead at h
  exact .mono (State.accessRead_keeps h) rfl

theorem execThdataRead_keeps {q : Req} {k : Fin 4} {s s' : State} (h : execThdataRead q k s = .next s') : s.sameBut s' [.freeCtr, .outbox, .regs, .evt] := by
  unfold execThdataRead at h
  exact .mono (State.accessRead_keeps h) rfl

theorem execVctrRead_keeps {q : Req} {s s' : State} (h : execVctrRead q s = .next s') : s.sameBut s' [.freeCtr, .outbox, .regs, .evt] := by
  unfold execVctrRead at h
  exact .mono (State.accessRead_keeps h) rfl

theorem execTlmDataRead_keeps {q : Req} {s s' : State} (h : execTlmDataRead q s = .next s') : s.sameBut s' [.freeCtr, .outbox, .regs, .evt] := by
  unfold execTlmDataRead at h
  exact .mono (State.accessRead_keeps h) rfl

theorem execRxdataRead_keeps {q : Req} {a : Fin 2} {s s' : State} (h : execRxdataRead q a s = .next s') : s.sameBut s' [.freeCtr, .outbox, .regs, .evt] := by
  unfold execRxdataRead at h
  exact .mono (State.accessRead_keeps h) rfl

theorem execWd0CfgWrite_keeps {q : Req} {v : Word} {s s' : State} (h : execWd0CfgWrite q v s = .next s') : s.sameBut s' [.evt, .wd0] := by
  unfold execWd0CfgWrite at h
  refine .of_next ?_ h
  clear h
  refine .ite ?_ ?_
  · refine .step ?_ (State.wd0CfgWrite_keeps _ _ _) rfl
    exact .refl
  · exact .refl

theorem execWd0WindowWrite_keeps {q : Req} {v : Word} {s s' : State} (h : execWd0WindowWrite q v s = .next s') : s.sameBut s' [.evt, .wd0] := by
  unfold execWd0WindowWrite at h
  refine .of_next ?_ h
  clear h
  refine .ite ?_ ?_
  · refine .step ?_ (State.wd0WindowWrite_keeps _ _ _) rfl
    exact .refl
  · exact .refl

theorem execWd0FirstExpiry_keeps  {s s' : State} (h : execWd0FirstExpiry s = .next s') : s.sameBut s' [.evt, .wd0] := by
  unfold execWd0FirstExpiry at h
  refine .of_next ?_ h
  clear h
  refine .ite ?_ ?_
  · refine .step ?_ (State.raise_keeps _ _ _) rfl
    refine .step ?_ (State.sameBut.wd0 _) rfl
    exact .refl
  · exact .refl

theorem execFlashClockLoss_keeps  {s s' : State} (h : execFlashClockLoss s = .next s') : s.sameBut s' [.regs, .evt, .clk] := by
  unfold execFlashClockLoss at h
  refine .of_next ?_ h
  clear h
  refine .ite ?_ ?_
  · refine .step ?_ (State.flashLoss_keeps _) rfl
    exact .refl
  · exact .refl

theorem execFlashRelock_keeps  {s s' : State} (h : execFlashRelock s = .next s') : s.sameBut s' [.evt, .plat, .clk] := by
  unfold execFlashRelock at h
  refine .of_next ?_ h
  clear h
  refine .ite ?_ ?_
  · refine .step ?_ (State.raise_keeps _ _ _) rfl
    refine .step ?_ (State.sameBut.plat_clk _ _) rfl
    exact .refl
  · exact .refl

theorem execKeeperCrystalLoss_keeps  {s s' : State} (h : execKeeperCrystalLoss s = .next s') : s.sameBut s' [.regs, .evt, .keeper, .clk] := by
  unfold execKeeperCrystalLoss at h
  refine .of_next ?_ h
  clear h
  refine .ite ?_ ?_
  · refine .step ?_ (State.raise_keeps _ _ _) rfl
    refine .step ?_ (State.setSticky_keeps _ _ _) rfl
    refine .step ?_ (State.rtcInvalid_keeps _) rfl
    refine .step ?_ (State.sameBut.clk _) rfl
    exact .refl
  · exact .refl

theorem execKeeperCrystalReturn_keeps  {s s' : State} (h : execKeeperCrystalReturn s = .next s') : s.sameBut s' [.evt, .clk] := by
  unfold execKeeperCrystalReturn at h
  refine .of_next ?_ h
  clear h
  refine .ite ?_ ?_
  · refine .step ?_ (State.raise_keeps _ _ _) rfl
    refine .step ?_ (State.sameBut.clk _) rfl
    exact .refl
  · exact .refl

theorem execRingLoss_keeps  {s s' : State} (h : execRingLoss s = .next s') : s.sameBut s' [.regs, .evt, .clk] := by
  unfold execRingLoss at h
  refine .of_next ?_ h
  clear h
  refine .ite ?_ ?_
  · refine .step ?_ (State.raise_keeps _ _ _) rfl
    refine .step ?_ (State.setSticky_keeps _ _ _) rfl
    refine .step ?_ (State.sameBut.clk _) rfl
    exact .refl
  · exact .refl

theorem execTempThreshold_keeps {quarter : Int} {s s' : State} (h : execTempThreshold quarter s = .next s') : s.sameBut s' [.evt, .clk] := by
  unfold execTempThreshold at h
  refine .of_next ?_ h
  clear h
  refine .ite ?_ ?_
  · exact .refl
  · extract_lets +onlyGivenNames x1
    clear_value x1
    extract_lets +onlyGivenNames x2
    clear_value x2
    extract_lets +onlyGivenNames x3
    clear_value x3
    extract_lets +onlyGivenNames x4
    clear_value x4
    extract_lets +onlyGivenNames x5
    clear_value x5
    extract_lets +onlyGivenNames x6
    clear_value x6
    extract_lets +onlyGivenNames x7
    clear_value x7
    extract_lets +onlyGivenNames x8
    clear_value x8
    extract_lets +onlyGivenNames x9
    refine .letS x9 ?_ (fun hx9 => ?_)
    · unfold x9
      refine .step ?_ (State.sameBut.clk _) rfl
      exact .refl
    clear_value x9
    refine .step ?_ (State.raiseIf_keeps _ _ _ _) rfl
    refine .step ?_ (State.raiseIf_keeps _ _ _ _) rfl
    assumption

theorem execRailExcursion_keeps {rail : Nat} {s s' : State} (h : execRailExcursion rail s = .next s') : s.sameBut s' [.evt] := by
  unfold execRailExcursion at h
  refine .of_next ?_ h
  clear h
  refine .ite ?_ ?_
  · refine .step ?_ (State.raise_keeps _ _ _) rfl
    exact .refl
  · exact .refl

theorem execWindowRead_keeps {p : Fin 2} {bank : Nat} {off : Nat} {n : Nat} {s s' : State} (h : execWindowRead p bank off n s = .next s') : s.sameBut s' [.freeCtr, .outbox, .regs, .evt] := by
  unfold execWindowRead at h
  refine .of_next ?_ h
  clear h
  extract_lets +onlyGivenNames x1
  clear_value x1
  refine .ite ?_ ?_
  · exact .refl
  · split
    · refine .step ?_ (State.windowEnd_keeps _ _ _) rfl
      refine .step ?_ (State.nack_keeps _ _) rfl
      exact .refl
    · refine .ite ?_ ?_
      · exact .refl
      · extract_lets +onlyGivenNames x2
        refine .letP x2 ?_ (fun hx2 => ?_)
        · unfold x2
          refine .step ?_ (State.windowWords_keeps _ _ _) rfl
          exact .refl
        clear_value x2
        extract_lets +onlyGivenNames x3
        clear_value x3
        extract_lets +onlyGivenNames x4
        clear_value x4
        extract_lets +onlyGivenNames x5
        clear_value x5
        extract_lets +onlyGivenNames x6
        clear_value x6
        refine .step ?_ (State.windowEnd_keeps _ _ _) rfl
        refine .step ?_ (State.emit_keeps _ _) rfl
        assumption

theorem execSmbusTimeout_keeps {p : Fin 2} {s s' : State} (h : execSmbusTimeout p s = .next s') : s.sameBut s' [.regs, .evt] := by
  unfold execSmbusTimeout at h
  refine .of_next ?_ h
  clear h
  refine .ite ?_ ?_
  · refine .step ?_ (State.raise_keeps _ _ _) rfl
    refine .step ?_ (State.sideBit_keeps _ _ _) rfl
    exact .refl
  · exact .refl

theorem execMctpResponseRetry_keeps {p : Fin 2} {lost : Bool} {s s' : State} (h : execMctpResponseRetry p lost s = .next s') : s.sameBut s' [.outbox, .regs, .evt, .side] := by
  unfold execMctpResponseRetry at h
  refine .of_next ?_ h
  clear h
  split
  · refine .ite ?_ ?_
    · refine .step ?_ (State.emit_keeps _ _) rfl
      refine .step ?_ (State.updSb_keeps _ _ _) rfl
      exact .refl
    · refine .ite ?_ ?_
      · refine .step ?_ (State.updSb_keeps _ _ _) rfl
        exact .refl
      · refine .step ?_ (State.mctpDrop_keeps _ _) rfl
        refine .step ?_ (State.raise_keeps _ _ _) rfl
        refine .step ?_ (State.updSb_keeps _ _ _) rfl
        exact .refl
  · exact .refl

theorem execMctpPacket_keeps {p : Fin 2} {eid : Nat} {type : Nat} {len : Nat} {som : Bool} {eom : Bool} {s s' : State} (h : execMctpPacket p eid type len som eom s = .next s') : s.sameBut s' [.outbox, .regs, .evt, .side] := by
  unfold execMctpPacket at h
  refine .of_next ?_ h
  clear h
  refine .ite ?_ ?_
  · exact .refl
  · refine .ite ?_ ?_
    · refine .step ?_ (State.mctpDrop_keeps _ _) rfl
      refine .step ?_ (State.nack_keeps _ _) rfl
      exact .refl
    · refine .ite ?_ ?_
      · exact .refl
      · extract_lets +onlyGivenNames x1
        clear_value x1
        split
        · refine .step ?_ (State.updSb_keeps _ _ _) rfl
          exact .refl
        · refine .step ?_ (State.updSb_keeps _ _ _) rfl
          exact .refl

theorem execMctpPacketRead_keeps {p : Fin 2} {s s' : State} (h : execMctpPacketRead p s = .next s') : s.sameBut s' [.outbox, .side] := by
  unfold execMctpPacketRead at h
  refine .of_next ?_ h
  clear h
  split
  · refine .step ?_ (State.emit_keeps _ _) rfl
    refine .step ?_ (State.updSb_keeps _ _ _) rfl
    exact .refl
  · refine .step ?_ (State.emit_keeps _ _) rfl
    exact .refl
  · exact .refl

theorem execEntdaa_keeps {p : Fin 2} {addr : Nat} {s s' : State} (h : execEntdaa p addr s = .next s') : s.sameBut s' [.side] := by
  unfold execEntdaa at h
  refine .of_next ?_ h
  clear h
  refine State.i3c_keeps _ _ _ _ (fun _ _ => ?_) ?_ rfl
  · refine .ite ?_ ?_
    · assumption
    · refine .step ?_ (State.updSb_keeps _ _ _) rfl
      assumption
  · exact .refl

theorem execSetdasa_keeps {p : Fin 2} {addr : Nat} {new : Nat} {s s' : State} (h : execSetdasa p addr new s = .next s') : s.sameBut s' [.side] := by
  unfold execSetdasa at h
  refine .of_next ?_ h
  clear h
  refine State.i3c_keeps _ _ _ _ (fun _ _ => ?_) ?_ rfl
  · refine .ite ?_ ?_
    · assumption
    · refine .step ?_ (State.updSb_keeps _ _ _) rfl
      assumption
  · exact .refl

theorem execSetnewda_keeps {p : Fin 2} {addr : Nat} {new : Nat} {s s' : State} (h : execSetnewda p addr new s = .next s') : s.sameBut s' [.side] := by
  unfold execSetnewda at h
  refine .of_next ?_ h
  clear h
  refine State.i3c_keeps _ _ _ _ (fun _ _ => ?_) ?_ rfl
  · refine .ite ?_ ?_
    · refine .step ?_ (State.updSb_keeps _ _ _) rfl
      assumption
    · assumption
  · exact .refl

theorem execRstdaa_keeps {p : Fin 2} {s s' : State} (h : execRstdaa p s = .next s') : s.sameBut s' [.side] := by
  unfold execRstdaa at h
  refine .of_next ?_ h
  clear h
  refine State.i3c_keeps _ _ _ _ (fun _ _ => ?_) ?_ rfl
  · refine .step ?_ (State.updSb_keeps _ _ _) rfl
    assumption
  · exact .refl

theorem execEnec_keeps {p : Fin 2} {addr : Option Nat} {int : Bool} {s s' : State} (h : execEnec p addr int s = .next s') : s.sameBut s' [.side] := by
  unfold execEnec at h
  refine .of_next ?_ h
  clear h
  refine State.i3c_keeps _ _ _ _ (fun _ _ => ?_) ?_ rfl
  · refine .ite ?_ ?_
    · refine .step ?_ (State.updSb_keeps _ _ _) rfl
      assumption
    · assumption
  · exact .refl

theorem execDisec_keeps {p : Fin 2} {addr : Option Nat} {int : Bool} {s s' : State} (h : execDisec p addr int s = .next s') : s.sameBut s' [.side] := by
  unfold execDisec at h
  refine .of_next ?_ h
  clear h
  refine State.i3c_keeps _ _ _ _ (fun _ _ => ?_) ?_ rfl
  · refine .ite ?_ ?_
    · refine .step ?_ (State.updSb_keeps _ _ _) rfl
      assumption
    · assumption
  · exact .refl

theorem execGetpid_keeps {p : Fin 2} {addr : Nat} {s s' : State} (h : execGetpid p addr s = .next s') : s.sameBut s' [.outbox] := by
  unfold execGetpid at h
  refine .of_next ?_ h
  clear h
  refine .step ?_ (State.cccRead_keeps _ _ _ _) rfl
  exact .refl

theorem execGetbcr_keeps {p : Fin 2} {addr : Nat} {s s' : State} (h : execGetbcr p addr s = .next s') : s.sameBut s' [.outbox] := by
  unfold execGetbcr at h
  refine .of_next ?_ h
  clear h
  refine .step ?_ (State.cccRead_keeps _ _ _ _) rfl
  exact .refl

theorem execGetdcr_keeps {p : Fin 2} {addr : Nat} {s s' : State} (h : execGetdcr p addr s = .next s') : s.sameBut s' [.outbox] := by
  unfold execGetdcr at h
  refine .of_next ?_ h
  clear h
  refine .step ?_ (State.cccRead_keeps _ _ _ _) rfl
  exact .refl

theorem execGetstatus_keeps {p : Fin 2} {addr : Nat} {s s' : State} (h : execGetstatus p addr s = .next s') : s.sameBut s' [.freeCtr, .outbox] := by
  unfold execGetstatus at h
  refine .of_next ?_ h
  clear h
  refine .step ?_ (State.freeRead_keeps _ _ _) rfl
  exact .refl

theorem execGetmwl_keeps {p : Fin 2} {addr : Nat} {s s' : State} (h : execGetmwl p addr s = .next s') : s.sameBut s' [.outbox] := by
  unfold execGetmwl at h
  refine .of_next ?_ h
  clear h
  refine .step ?_ (State.cccRead_keeps _ _ _ _) rfl
  exact .refl

theorem execSetmwl_keeps {p : Fin 2} {addr : Option Nat} {v : Nat} {s s' : State} (h : execSetmwl p addr v s = .next s') : s.sameBut s' [.side] := by
  unfold execSetmwl at h
  refine .of_next ?_ h
  clear h
  refine State.i3c_keeps _ _ _ _ (fun _ _ => ?_) ?_ rfl
  · refine .step ?_ (State.updSb_keeps _ _ _) rfl
    assumption
  · exact .refl

theorem execGetmrl_keeps {p : Fin 2} {addr : Nat} {s s' : State} (h : execGetmrl p addr s = .next s') : s.sameBut s' [.outbox] := by
  unfold execGetmrl at h
  refine .of_next ?_ h
  clear h
  refine .step ?_ (State.cccRead_keeps _ _ _ _) rfl
  exact .refl

theorem execSetmrl_keeps {p : Fin 2} {addr : Option Nat} {v : Nat} {s s' : State} (h : execSetmrl p addr v s = .next s') : s.sameBut s' [.side] := by
  unfold execSetmrl at h
  refine .of_next ?_ h
  clear h
  refine State.i3c_keeps _ _ _ _ (fun _ _ => ?_) ?_ rfl
  · refine .step ?_ (State.updSb_keeps _ _ _) rfl
    assumption
  · exact .refl

theorem execGetmxds_keeps {p : Fin 2} {addr : Nat} {s s' : State} (h : execGetmxds p addr s = .next s') : s.sameBut s' [.freeCtr, .outbox] := by
  unfold execGetmxds at h
  refine .of_next ?_ h
  clear h
  refine .step ?_ (State.freeRead_keeps _ _ _) rfl
  exact .refl

theorem execMctpIdentify_keeps {eid : Nat} {s s' : State} (h : execMctpIdentify eid s = .next s') : s.sameBut s' [.outbox, .side] := by
  unfold execMctpIdentify at h
  refine .of_next ?_ h
  clear h
  refine State.sideCmd_keeps _ _ _ _ _ (fun _ _ => ?_) ?_ rfl
  · refine .fst_mk ?_
    assumption
  · exact .refl

theorem execMctpLogRead_keeps {eid : Nat} {src : Nat} {from_ : Nat} {max : Nat} {s s' : State} (h : execMctpLogRead eid src from_ max s = .next s') : s.sameBut s' [.outbox, .side] := by
  unfold execMctpLogRead at h
  refine .of_next ?_ h
  clear h
  refine State.sideCmd_keeps _ _ _ _ _ (fun _ _ => ?_) ?_ rfl
  · refine .ite_fst ?_ ?_
    · refine .fst_mk ?_
      assumption
    · refine .ite_fst ?_ ?_
      · refine .fst_mk ?_
        assumption
      · extract_lets +onlyGivenNames x1
        clear_value x1
        refine .fst_mk ?_
        assumption
  · exact .refl

theorem execMctpCertRead_keeps {eid : Nat} {chain : Nat} {off : Nat} {len : Nat} {s s' : State} (h : execMctpCertRead eid chain off len s = .next s') : s.sameBut s' [.outbox, .side] := by
  unfold execMctpCertRead at h
  refine .of_next ?_ h
  clear h
  refine State.sideCmd_keeps _ _ _ _ _ (fun _ _ => ?_) ?_ rfl
  · extract_lets +onlyGivenNames x1
    clear_value x1
    refine .ite_fst ?_ ?_
    · refine .fst_mk ?_
      assumption
    · refine .ite_fst ?_ ?_
      · refine .fst_mk ?_
        assumption
      · refine .fst_mk ?_
        assumption
  · exact .refl

theorem execMctpLogClear_keeps {eid : Nat} {s s' : State} (h : execMctpLogClear eid s = .next s') : s.sameBut s' [.outbox, .regs, .evt, .plat, .cntr, .host, .side] := by
  unfold execMctpLogClear at h
  refine .of_next ?_ h
  clear h
  refine State.sideCmd_keeps _ _ _ _ _ (fun _ _ => ?_) ?_ rfl
  · refine .fst_mk ?_
    refine .step ?_ (State.clearLog_keeps _) rfl
    assumption
  · exact .refl

theorem execMctpSetPhase_keeps {eid : Nat} {channel : Nat} {phase : Nat} {s s' : State} (h : execMctpSetPhase eid channel phase s = .next s') : s.sameBut s' [.outbox, .evt, .chs, .side] := by
  unfold execMctpSetPhase at h
  refine .of_next ?_ h
  clear h
  refine State.sideCmd_keeps _ _ _ _ _ (fun _ _ => ?_) ?_ rfl
  · refine .step ?_ (State.setPhaseReply_keeps _ _ _ _) rfl
    assumption
  · exact .refl

theorem execMctpActivate_keeps {eid : Nat} {channel : Nat} {slot : Nat} {flipNow : Nat} {m : Manifest} {s s' : State} (h : execMctpActivate eid channel slot flipNow m s = .next s') : s.sameBut s' [.outbox, .evt, .chs, .crypt, .side] := by
  unfold execMctpActivate at h
  refine .of_next ?_ h
  clear h
  refine State.sideCmd_keeps _ _ _ _ _ (fun _ _ => ?_) ?_ rfl
  · refine .ite_fst ?_ ?_
    · refine .fst_mk ?_
      refine .step ?_ (State.activateRefused_keeps _ _ _) rfl
      assumption
    · refine .step ?_ (State.activateReply_keeps _ _ _ _ _) rfl
      assumption
  · exact .refl

theorem execMctpReimage_keeps {eid : Nat} {agent : Nat} {source : Nat} {s s' : State} (h : execMctpReimage eid agent source s = .next s') : s.sameBut s' [.freeCtr, .outbox, .evt, .keeper, .chs, .cellar, .press, .ctl, .ident, .side] := by
  unfold execMctpReimage at h
  refine .of_next ?_ h
  clear h
  refine State.sideCmd_keeps _ _ _ _ _ (fun _ _ => ?_) ?_ rfl
  · extract_lets +onlyGivenNames x1
    refine .letP x1 ?_ (fun hx1 => ?_)
    · unfold x1
      refine .step ?_ (State.reimageCmd_keeps _ _ _ _) rfl
      assumption
    clear_value x1
    refine .fst_mk ?_
    assumption
  · exact .refl

theorem execMctpPolicyLoad_keeps {eid : Nat} {off : Nat} {last : Bool} {len : Nat} {b : Bundle} {s s' : State} (h : execMctpPolicyLoad eid off last len b s = .next s') : s.sameBut s' [.outbox, .regs, .evt, .cntr, .ident, .crypt, .side] := by
  unfold execMctpPolicyLoad at h
  refine .of_next ?_ h
  clear h
  refine State.sideCmd_keeps _ _ _ _ _ (fun _ _ => ?_) ?_ rfl
  · refine .ite_fst ?_ ?_
    · refine .fst_mk ?_
      assumption
    · refine .ite_fst ?_ ?_
      · refine .fst_mk ?_
        assumption
      · refine .ite_fst ?_ ?_
        · refine .fst_mk ?_
          assumption
        · refine .ite_fst ?_ ?_
          · refine .fst_mk ?_
            refine .step ?_ (State.sameBut.ident _) rfl
            assumption
          · extract_lets +onlyGivenNames x1
            clear_value x1
            extract_lets +onlyGivenNames x2
            refine .letP x2 ?_ (fun hx2 => ?_)
            · unfold x2
              refine .step ?_ (State.policyLoad_keeps _ _ _) rfl
              refine .step ?_ (State.sameBut.ident _) rfl
              assumption
            clear_value x2
            refine .fst_mk ?_
            assumption
  · exact .refl

theorem execMctpFwDownload_keeps {eid : Nat} {off : Nat} {last : Bool} {len : Nat} {pkg : Option Package} {s s' : State} (h : execMctpFwDownload eid off last len pkg s = .next s') : s.sameBut s' [.outbox, .vault, .ident, .side] := by
  unfold execMctpFwDownload at h
  refine .of_next ?_ h
  clear h
  refine State.sideCmd_keeps _ _ _ _ _ (fun _ _ => ?_) ?_ rfl
  · refine .ite_fst ?_ ?_
    · refine .fst_mk ?_
      assumption
    · refine .ite_fst ?_ ?_
      · refine .fst_mk ?_
        assumption
      · refine .ite_fst ?_ ?_
        · refine .fst_mk ?_
          assumption
        · refine .step ?_ (State.fwDownload_keeps _ _ _ _ _ _) rfl
          assumption
  · exact .refl

theorem execAuxGo_keeps {q : Req} {a : Fin 2} {sel : Nat} {len : Nat} {s s' : State} (h : execAuxGo q a sel len s = .next s') : s.sameBut s' [.outbox, .regs, .evt, .aux] := by
  unfold execAuxGo at h
  refine .of_next ?_ h
  clear h
  refine .ite ?_ ?_
  · refine .step ?_ (State.auxGo_keeps _ _ _ _) rfl
    exact .refl
  · exact .refl

theorem execAuxAbort_keeps {q : Req} {a : Fin 2} {n : Nat} {rx : List Byte} {s s' : State} (h : execAuxAbort q a n rx s = .next s') : s.sameBut s' [.regs, .evt, .aux] := by
  unfold execAuxAbort at h
  refine .of_next ?_ h
  clear h
  refine .ite ?_ ?_
  · refine .step ?_ (State.auxAbort_keeps _ _ _ _) rfl
    exact .refl
  · exact .refl

theorem execFrameSend_keeps {q : Req} {a : Fin 2} {v : Word} {s s' : State} (h : execFrameSend q a v s = .next s') : s.sameBut s' [.outbox, .regs, .evt, .aux] := by
  unfold execFrameSend at h
  refine .of_next ?_ h
  clear h
  refine .ite ?_ ?_
  · refine .step ?_ (State.frameSend_keeps _ _ _) rfl
    exact .refl
  · exact .refl

theorem execAuxTransferDone_keeps {a : Fin 2} {rx : List Byte} {s s' : State} (h : execAuxTransferDone a rx s = .next s') : s.sameBut s' [.regs, .evt, .aux] := by
  unfold execAuxTransferDone at h
  refine .of_next ?_ h
  clear h
  refine .ite ?_ ?_
  · refine .step ?_ (State.raise_keeps _ _ _) rfl
    refine .step ?_ (State.setSticky_keeps _ _ _) rfl
    refine .step ?_ (State.auxEnd_keeps _ _ _ _) rfl
    exact .refl
  · exact .refl

theorem execSlaveTransferEnd_keeps {a : Fin 2} {n : Nat} {rx : List Byte} {s s' : State} (h : execSlaveTransferEnd a n rx s = .next s') : s.sameBut s' [.outbox, .regs, .evt, .aux] := by
  unfold execSlaveTransferEnd at h
  refine .of_next ?_ h
  clear h
  extract_lets +onlyGivenNames x1
  clear_value x1
  refine .ite ?_ ?_
  · exact .refl
  · refine .ite ?_ ?_
    · extract_lets +onlyGivenNames x2
      refine .letS x2 ?_ (fun hx2 => ?_)
      · unfold x2
        refine .step ?_ (State.emit_keeps _ _) rfl
        exact .refl
      clear_value x2
      extract_lets +onlyGivenNames x3
      refine .letS x3 ?_ (fun hx3 => ?_)
      · unfold x3
        refine .step ?_ (State.raise_keeps _ _ _) rfl
        refine .step ?_ (State.setSticky_keeps _ _ _) rfl
        refine .step ?_ (State.auxEnd_keeps _ _ _ _) rfl
        assumption
      clear_value x3
      refine .ite ?_ ?_
      · refine .step ?_ (State.raise_keeps _ _ _) rfl
        refine .step ?_ (State.setSticky_keeps _ _ _) rfl
        assumption
      · assumption
    · refine .step ?_ (State.raise_keeps _ _ _) rfl
      refine .step ?_ (State.setSticky_keeps _ _ _) rfl
      exact .refl

theorem execUartReceive_keeps {b : Byte} {overrun : Bool} {s s' : State} (h : execUartReceive b overrun s = .next s') : s.sameBut s' [.regs, .evt, .aux] := by
  unfold execUartReceive at h
  refine .of_next ?_ h
  clear h
  refine .ite ?_ ?_
  · exact .refl
  · refine .ite ?_ ?_
    · refine .step ?_ (State.raise_keeps _ _ _) rfl
      refine .step ?_ (State.setSticky_keeps _ _ _) rfl
      exact .refl
    · refine .step ?_ (State.sameBut.aux _) rfl
      exact .refl

theorem execGpioEdge_keeps {k : Fin 16} {level : Bool} {s s' : State} (h : execGpioEdge k level s = .next s') : s.sameBut s' [.evt, .aux] := by
  unfold execGpioEdge at h
  refine .of_next ?_ h
  clear h
  refine .ite ?_ ?_
  · exact .refl
  · extract_lets +onlyGivenNames x1
    clear_value x1
    refine .step ?_ (State.raiseIf_keeps _ _ _ _) rfl
    refine .step ?_ (State.sameBut.aux _) rfl
    exact .refl

theorem execKeeperPowerLoss_keeps  {s s' : State} (h : execKeeperPowerLoss s = .next s') : s.sameBut s' [.regs, .keeper, .life] := by
  unfold execKeeperPowerLoss at h
  refine .of_next ?_ h
  clear h
  refine .ite ?_ ?_
  · exact .refl
  · refine .step ?_ (State.sameBut.regs_keeper_life _ _ _) rfl
    exact .refl

theorem execTapReset_keeps  {s s' : State} (h : execTapReset s = .next s') : s.sameBut s' [] := by
  unfold execTapReset at h
  refine .of_next ?_ h
  clear h
  exact .refl

theorem execDebuggerHalt_keeps {warden : Bool} {s s' : State} (h : execDebuggerHalt warden s = .next s') : s.sameBut s' [.wd0, .life] := by
  unfold execDebuggerHalt at h
  refine .of_next ?_ h
  clear h
  refine .ite ?_ ?_
  · extract_lets +onlyGivenNames x1
    clear_value x1
    extract_lets +onlyGivenNames x2
    refine .letS x2 ?_ (fun hx2 => ?_)
    · unfold x2
      refine .step ?_ (State.sameBut.life _) rfl
      exact .refl
    clear_value x2
    refine .ite ?_ ?_
    · refine .step ?_ (State.sameBut.wd0 _) rfl
      assumption
    · assumption
  · exact .refl

theorem execDebuggerResume_keeps {warden : Bool} {s s' : State} (h : execDebuggerResume warden s = .next s') : s.sameBut s' [.wd0, .life] := by
  unfold execDebuggerResume at h
  refine .of_next ?_ h
  clear h
  refine .ite ?_ ?_
  · extract_lets +onlyGivenNames x1
    clear_value x1
    extract_lets +onlyGivenNames x2
    refine .letS x2 ?_ (fun hx2 => ?_)
    · unfold x2
      refine .step ?_ (State.sameBut.life _) rfl
      exact .refl
    clear_value x2
    refine .ite ?_ ?_
    · refine .step ?_ (State.sameBut.wd0 _) rfl
      assumption
    · assumption
  · exact .refl

theorem execRingReturn_keeps  {s s' : State} (h : execRingReturn s = .next s') : s.sameBut s' [.clk] := by
  unfold execRingReturn at h
  refine .of_next ?_ h
  clear h
  refine .ite ?_ ?_
  · refine .step ?_ (State.sameBut.clk _) rfl
    exact .refl
  · exact .refl

theorem execRefclkReturn_keeps  {s s' : State} (h : execRefclkReturn s = .next s') : s.sameBut s' [.clk] := by
  unfold execRefclkReturn at h
  refine .of_next ?_ h
  clear h
  refine .ite ?_ ?_
  · refine .step ?_ (State.sameBut.clk _) rfl
    exact .refl
  · exact .refl

theorem execConfigRequest_keeps {r : CfgReq} {s s' : State} (h : execConfigRequest r s = .next s') : s.sameBut s' [.freeCtr, .outbox, .evt, .cntr, .tlm, .host] := by
  unfold execConfigRequest at h
  refine .of_next ?_ h
  clear h
  refine .ite ?_ ?_
  · exact .refl
  · refine .ite ?_ ?_
    · refine .step ?_ (State.emit_keeps _ _) rfl
      exact .refl
    · split
      · extract_lets +onlyGivenNames x1
        clear_value x1
        refine .ite ?_ ?_
        · refine .step ?_ (State.emit_keeps _ _) rfl
          exact .refl
        · refine .step ?_ (State.emit_keeps _ _) rfl
          refine .step ?_ (State.bumpFree_keeps _) rfl
          exact .refl
      · refine .step ?_ (State.sameBut.host _) rfl
        exact .refl
      · refine .step ?_ (State.sameBut.host _) rfl
        exact .refl
      · refine .ite ?_ ?_
        · refine .step ?_ (State.busBack_keeps _) rfl
          refine .step ?_ (State.sameBut.host _) rfl
          exact .refl
        · refine .step ?_ (State.busOff_keeps _) rfl
          exact .refl
      · refine .step ?_ (State.sameBut.host _) rfl
        exact .refl
      · refine .step ?_ (State.sameBut.host _) rfl
        exact .refl
      · refine .ite ?_ ?_
        · refine .step ?_ (State.sameBut.host _) rfl
          exact .refl
        · exact .refl
      · refine .ite ?_ ?_
        · refine .step ?_ (State.sameBut.host _) rfl
          exact .refl
        · exact .refl
      · refine .step ?_ (State.sameBut.host _) rfl
        exact .refl
      · refine .step ?_ (State.flushMsi_keeps _) rfl
        refine .step ?_ (State.sameBut.host _) rfl
        exact .refl
      · refine .step ?_ (State.flushMsi_keeps _) rfl
        refine .step ?_ (State.sameBut.host _) rfl
        exact .refl

theorem execRecorderSramError_keeps  {s s' : State} (h : execRecorderSramError s = .next s') : s.sameBut s' [.evt] := by
  unfold execRecorderSramError at h
  refine .of_next ?_ h
  clear h
  refine .ite ?_ ?_
  · refine .step ?_ (State.degrade_keeps _ _) rfl
    exact .refl
  · exact .refl

theorem execOwnFirmwareFault_keeps  {s s' : State} (h : execOwnFirmwareFault s = .next s') : s.sameBut s' [.freeCtr, .outbox, .evt, .plat, .keeper, .press, .cntr, .tlm, .host, .ident, .sealing, .crypt] := by
  unfold execOwnFirmwareFault at h
  refine .of_next ?_ h
  clear h
  refine .ite ?_ ?_
  · exact .refl
  · extract_lets +onlyGivenNames x1
    refine .letS x1 ?_ (fun hx1 => ?_)
    · unfold x1
      refine .step ?_ (State.enterRecover_keeps _ _) rfl
      exact .refl
    clear_value x1
    extract_lets +onlyGivenNames x2
    clear_value x2
    extract_lets +onlyGivenNames x3
    clear_value x3
    extract_lets +onlyGivenNames x4
    refine .letS x4 ?_ (fun hx4 => ?_)
    · unfold x4
      split
      · refine .step ?_ (State.deriveL0_keeps _ _ _) rfl
        assumption
      · assumption
    clear_value x4
    refine .step ?_ (State.platChange_keeps _) rfl
    refine .step ?_ (State.sameBut.ident _) rfl
    assumption

theorem execRecoveryWriteStep_keeps {n : Ch} {last : Bool} {ok : Bool} {s s' : State} (h : execRecoveryWriteStep n last ok s = .next s') : s.sameBut s' [.freeCtr, .outbox, .regs, .evt, .keeper, .chs, .cellar, .press, .vault, .ctl, .ident] := by
  unfold execRecoveryWriteStep at h
  refine .of_next ?_ h
  clear h
  refine .ite ?_ ?_
  · exact .refl
  · split
    · refine .ite ?_ ?_
      · refine .step ?_ (State.recWrite_keeps _ _ _ _ _) rfl
        exact .refl
      · exact .refl
    · split
      · refine .step ?_ (State.rewriteStep_keeps _ _ _ _ _) rfl
        exact .refl
      · exact .refl

theorem execCommitApply_keeps  {s s' : State} (h : execCommitApply s = .next s') : s.sameBut s' [.freeCtr, .outbox, .regs, .evt, .plat, .keeper, .chs, .cellar, .press, .vault, .ctl, .cntr, .tlm, .host, .ident, .sealing, .crypt, .life] := by
  unfold execCommitApply at h
  refine .of_next ?_ h
  clear h
  split
  · refine .ite ?_ ?_
    · exact .refl
    · extract_lets +onlyGivenNames x1
      clear_value x1
      refine .step ?_ (State.endCommit_keeps _ _ _ _ _) rfl
      refine .step ?_ (State.applyEffects_keeps _ _ _ _) rfl
      refine .step ?_ (State.mergeStaged_keeps _ _ _) rfl
      exact .refl
  · exact .refl

theorem execCommitTimeout_keeps  {s s' : State} (h : execCommitTimeout s = .next s') : s.sameBut s' [.freeCtr, .outbox, .regs, .evt, .plat, .keeper, .chs, .cellar, .press, .vault, .ctl, .cntr, .tlm, .host, .ident, .sealing, .crypt, .life] := by
  unfold execCommitTimeout at h
  refine .of_next ?_ h
  clear h
  split
  · refine .ite ?_ ?_
    · exact .refl
    · refine .step ?_ (State.endCommit_keeps _ _ _ _ _) rfl
      exact .refl
  · exact .refl

theorem execHighHalfWrite_keeps {q : Req} {off : Nat} {v : Word} {s s' : State} (h : execHighHalfWrite q off v s = .next s') :
    s.sameBut s' Comp.device :=
  State.access_keeps (k := fun s => s.busWrite q off v) (.mono (State.busWrite_keeps _ _ _ _) rfl) rfl h

theorem execRegisterWrite_keeps {q : Req} {off : Nat} {v : Word} {s s' : State} (h : execRegisterWrite q off v s = .next s') :
    s.sameBut s' Comp.device :=
  State.access_keeps (k := fun s => s.busWrite q off v) (.mono (State.busWrite_keeps _ _ _ _) rfl) rfl h

theorem execModeWrite_keeps {m : Nat} {cause : Nat} {s s' : State} (h : execModeWrite m cause s = .next s') : s.sameBut s' Comp.device := by
  unfold execModeWrite at h
  refine .of_next ?_ h
  clear h
  refine .ite ?_ ?_
  · refine .step ?_ (State.modeWrite_keeps _ _ _) rfl
    exact .refl
  · exact .refl

theorem execDeviceRestart_keeps {cause : Nat} {s s' : State} (h : execDeviceRestart cause s = .next s') : s.sameBut s' Comp.device := by
  unfold execDeviceRestart at h
  refine .of_next ?_ h
  clear h
  split
  · refine .step ?_ (State.deviceRestart_keeps _ _ _ _) rfl
    exact .refl
  · refine .step ?_ (State.deviceRestart_keeps _ _ _ _) rfl
    exact .refl
  · refine .step ?_ (State.deviceRestart_keeps _ _ _ _) rfl
    exact .refl
  · refine .step ?_ (State.deviceRestart_keeps _ _ _ _) rfl
    exact .refl
  · refine .step ?_ (State.deviceRestart_keeps _ _ _ _) rfl
    exact .refl
  · exact .refl

theorem execPerstNAssert_keeps  {s s' : State} (h : execPerstNAssert s = .next s') : s.sameBut s' [.freeCtr, .outbox, .regs, .evt, .plat, .keeper, .chs, .cellar, .press, .vault, .ctl, .cntr, .tlm, .host, .ident, .sealing, .crypt, .life] := by
  unfold execPerstNAssert at h
  refine .of_next ?_ h
  clear h
  refine .ite ?_ ?_
  · exact .refl
  · extract_lets +onlyGivenNames x1
    refine .letS x1 ?_ (fun hx1 => ?_)
    · unfold x1
      refine .step ?_ (State.notePerst_keeps _) rfl
      refine .step ?_ (State.dropVdm_keeps _) rfl
      refine .step ?_ (State.hostGone_keeps _) rfl
      exact .refl
    clear_value x1
    extract_lets +onlyGivenNames x2
    clear_value x2
    extract_lets +onlyGivenNames x3
    clear_value x3
    extract_lets +onlyGivenNames x4
    clear_value x4
    extract_lets +onlyGivenNames x5
    refine .letS x5 ?_ (fun hx5 => ?_)
    · unfold x5
      refine .step ?_ (State.sameBut.plat_ctl_host _ _ _) rfl
      assumption
    clear_value x5
    refine .step ?_ (State.raise_keeps _ _ _) rfl
    assumption

theorem execFunctionLevelReset_keeps {done : Bool} {s s' : State} (h : execFunctionLevelReset done s = .next s') : s.sameBut s' [.freeCtr, .outbox, .regs, .evt, .plat, .keeper, .chs, .cellar, .press, .vault, .ctl, .cntr, .tlm, .host, .ident, .sealing, .crypt, .life] := by
  unfold execFunctionLevelReset at h
  refine .of_next ?_ h
  clear h
  refine .ite ?_ ?_
  · exact .refl
  · refine .ite ?_ ?_
    · refine .step ?_ (State.sameBut.host _) rfl
      exact .refl
    · extract_lets +onlyGivenNames x1
      refine .letS x1 ?_ (fun hx1 => ?_)
      · unfold x1
        refine .step ?_ (State.dropVdm_keeps _) rfl
        refine .step ?_ (State.hostGone_keeps _) rfl
        exact .refl
      clear_value x1
      extract_lets +onlyGivenNames x2
      clear_value x2
      extract_lets +onlyGivenNames x3
      clear_value x3
      extract_lets +onlyGivenNames x4
      refine .letS x4 ?_ (fun hx4 => ?_)
      · unfold x4
        refine .step ?_ (State.sameBut.ctl_host _ _) rfl
        assumption
      clear_value x4
      refine .step ?_ (State.raise_keeps _ _ _) rfl
      assumption

theorem execLinkDown_keeps  {s s' : State} (h : execLinkDown s = .next s') : s.sameBut s' [.freeCtr, .outbox, .regs, .evt, .plat, .keeper, .chs, .cellar, .press, .vault, .ctl, .cntr, .tlm, .host, .ident, .sealing, .crypt, .life] := by
  unfold execLinkDown at h
  refine .of_next ?_ h
  clear h
  refine .ite ?_ ?_
  · refine .step ?_ (State.linkDown_keeps _) rfl
    exact .refl
  · exact .refl

theorem execAgentRead_keeps {t : Txn} {s s' : State} (h : execAgentRead t s = .next s') : s.sameBut s' [.freeCtr, .outbox, .regs, .evt, .plat, .keeper, .chs, .cellar, .press, .vault, .ctl, .cntr, .ident] := by
  unfold execAgentRead at h
  refine .of_next ?_ h
  clear h
  refine State.gate_keeps _ _ _ _ (fun _ _ _ _ => ?_) ?_ rfl
  · extract_lets +onlyGivenNames x1
    refine .letP x1 ?_ (fun hx1 => ?_)
    · unfold x1
      refine .step ?_ (State.readArray_keeps _ _ _) rfl
      assumption
    clear_value x1
    refine .step ?_ (State.armXip_keeps _ _ _ _ _) rfl
    assumption
  · exact .refl

theorem execContinuousRead_keeps {t : Txn} {s s' : State} (h : execContinuousRead t s = .next s') : s.sameBut s' [.freeCtr, .outbox, .regs, .evt, .plat, .keeper, .chs, .cellar, .press, .vault, .ctl, .cntr, .ident] := by
  unfold execContinuousRead at h
  refine .of_next ?_ h
  clear h
  split
  · exact .refl
  · refine .ite ?_ ?_
    · extract_lets +onlyGivenNames x1
      clear_value x1
      extract_lets +onlyGivenNames x2
      clear_value x2
      extract_lets +onlyGivenNames x3
      refine .letS x3 ?_ (fun hx3 => ?_)
      · unfold x3
        refine .step ?_ (State.cnt_keeps _ _ _ _) rfl
        refine .step ?_ (State.updPort_keeps _ _ _) rfl
        exact .refl
      clear_value x3
      extract_lets +onlyGivenNames x4
      refine .letP x4 ?_ (fun hx4 => ?_)
      · unfold x4
        refine .step ?_ (State.readArray_keeps _ _ _) rfl
        assumption
      clear_value x4
      refine .step ?_ (State.armXip_keeps _ _ _ _ _) rfl
      assumption
    · exact .refl

theorem execUrgentRestart_keeps {side : Bool} {mask : Nat} {seq : Nat} {s s' : State} (h : execUrgentRestart side mask seq s = .next s') : s.sameBut s' Comp.device := by
  unfold execUrgentRestart at h
  refine .of_next ?_ h
  clear h
  refine .step ?_ (State.urgentRestart_keeps _ _ _ _) rfl
  exact .refl

theorem execAuthorisedRecovery_keeps {src : Src} {len : Nat} {t : Token} {s s' : State} (h : execAuthorisedRecovery src len t s = .next s') : s.sameBut s' Comp.device := by
  unfold execAuthorisedRecovery at h
  refine .of_next ?_ h
  clear h
  refine .ite ?_ ?_
  · extract_lets +onlyGivenNames x1
    clear_value x1
    extract_lets +onlyGivenNames x2
    refine .letP x2 ?_ (fun hx2 => ?_)
    · unfold x2
      refine State.command_keeps _ _ _ _ (fun _ _ => ?_) ?_ rfl
      · refine State.recoverCmd_keeps _ _ _ _ _ _ (fun _ _ => ?_) ?_ rfl
        · refine .step ?_ (State.raiseIf_keeps _ _ _ _) rfl
          refine .step ?_ (State.sameBut.keeper _) rfl
          assumption
        · assumption
      · exact .refl
    clear_value x2
    refine .ite ?_ ?_
    · refine .step ?_ (State.deviceRestart_keeps _ _ _ _) rfl
      assumption
    · assumption
  · exact .refl

theorem execFwPackageVerify_keeps  {s s' : State} (h : execFwPackageVerify s = .next s') : s.sameBut s' Comp.device := by
  unfold execFwPackageVerify at h
  refine .of_next ?_ h
  clear h
  split
  · refine .ite ?_ ?_
    · exact .refl
    · extract_lets +onlyGivenNames x1
      refine .letP x1 ?_ (fun hx1 => ?_)
      · unfold x1
        refine .step ?_ (State.pressRun_keeps _ _) rfl
        exact .refl
      clear_value x1
      refine .ite ?_ ?_
      · assumption
      · extract_lets +onlyGivenNames x2
        refine .letP x2 ?_ (fun hx2 => ?_)
        · unfold x2
          refine .step ?_ (State.pkuRun_keeps _) rfl
          assumption
        clear_value x2
        refine .ite ?_ ?_
        · assumption
        · extract_lets +onlyGivenNames x3
          refine .letS x3 ?_ (fun hx3 => ?_)
          · unfold x3
            assumption
          clear_value x3
          extract_lets +onlyGivenNames x4
          clear_value x4
          extract_lets +onlyGivenNames x5
          clear_value x5
          extract_lets +onlyGivenNames x6
          clear_value x6
          refine .ite ?_ ?_
          · extract_lets +onlyGivenNames x7
            clear_value x7
            extract_lets +onlyGivenNames x8
            refine .letS x8 ?_ (fun hx8 => ?_)
            · unfold x8
              refine .step ?_ (State.raise_keeps _ _ _) rfl
              refine .step ?_ (State.writeHeader_keeps _) rfl
              refine .step ?_ (State.sameBut.ident _) rfl
              assumption
            clear_value x8
            extract_lets +onlyGivenNames x9
            refine .letS x9 ?_ (fun hx9 => ?_)
            · unfold x9
              refine .step ?_ (State.intent_keeps _ _ _ _ _ _ _ _ _ _) rfl
              assumption
            clear_value x9
            refine .ite ?_ ?_
            · refine .step ?_ (State.deviceRestart_keeps _ _ _ _) rfl
              refine .step ?_ (State.sameBut.ident _) rfl
              assumption
            · assumption
          · refine .step ?_ (State.intent_keeps _ _ _ _ _ _ _ _ _ _) rfl
            refine .step ?_ (State.raise_keeps _ _ _) rfl
            refine .step ?_ (State.sameBut.ident _) rfl
            assumption
  · exact .refl

theorem execFwActivate_keeps {cid : Nat} {target : Nat} {s s' : State} (h : execFwActivate cid target s = .next s') : s.sameBut s' Comp.device := by
  unfold execFwActivate at h
  refine .of_next ?_ h
  clear h
  extract_lets +onlyGivenNames x1
  clear_value x1
  extract_lets +onlyGivenNames x2
  refine .letS x2 ?_ (fun hx2 => ?_)
  · unfold x2
    refine State.admin_keeps _ _ _ _ (fun _ _ => ?_) ?_ rfl
    · extract_lets +onlyGivenNames x3
      refine .letP x3 ?_ (fun hx3 => ?_)
      · unfold x3
        refine .step ?_ (State.fwActivate_keeps _ _ _) rfl
        assumption
      clear_value x3
      refine .fst_mk ?_
      assumption
    · exact .refl
  clear_value x2
  refine .ite ?_ ?_
  · refine .step ?_ (State.deviceRestart_keeps _ _ _ _) rfl
    assumption
  · assumption

theorem execGoldenCopyStep_keeps {last : Bool} {s s' : State} (h : execGoldenCopyStep last s = .next s') : s.sameBut s' Comp.device := by
  unfold execGoldenCopyStep at h
  refine .of_next ?_ h
  clear h
  split
  · extract_lets +onlyGivenNames x1
    clear_value x1
    refine .ite ?_ ?_
    · exact .refl
    · refine .ite ?_ ?_
      · extract_lets +onlyGivenNames x2
        clear_value x2
        extract_lets +onlyGivenNames x3
        refine .letS x3 ?_ (fun hx3 => ?_)
        · unfold x3
          refine .ite ?_ ?_
          · exact .refl
          · refine .step ?_ (State.sameBut.ident _) rfl
            exact .refl
        clear_value x3
        refine .step ?_ (State.intent_keeps _ _ _ _ _ _ _ _ _ _) rfl
        refine .step ?_ (State.vaultDone_keeps _) rfl
        assumption
      · extract_lets +onlyGivenNames x4
        refine .letS x4 ?_ (fun hx4 => ?_)
        · unfold x4
          refine .step ?_ (State.vaultDone_keeps _) rfl
          exact .refl
        clear_value x4
        extract_lets +onlyGivenNames x5
        clear_value x5
        extract_lets +onlyGivenNames x6
        clear_value x6
        extract_lets +onlyGivenNames x7
        clear_value x7
        extract_lets +onlyGivenNames x8
        refine .letS x8 ?_ (fun hx8 => ?_)
        · unfold x8
          refine .step ?_ (State.sameBut.ident _) rfl
          assumption
        clear_value x8
        extract_lets +onlyGivenNames x9
        refine .letS x9 ?_ (fun hx9 => ?_)
        · unfold x9
          refine .step ?_ (State.writeHeader_keeps _) rfl
          assumption
        clear_value x9
        extract_lets +onlyGivenNames x10
        refine .letS x10 ?_ (fun hx10 => ?_)
        · unfold x10
          refine .step ?_ (State.intent_keeps _ _ _ _ _ _ _ _ _ _) rfl
          assumption
        clear_value x10
        split
        · refine .step ?_ (State.deviceRestart_keeps _ _ _ _) rfl
          refine .step ?_ (State.sameBut.ident _) rfl
          assumption
        · assumption
  · exact .refl

theorem execRestart_keeps {cid : Nat} {s s' : State} (h : execRestart cid s = .next s') : s.sameBut s' Comp.device := by
  unfold execRestart at h
  refine .of_next ?_ h
  clear h
  extract_lets +onlyGivenNames x1
  clear_value x1
  extract_lets +onlyGivenNames x2
  refine .letS x2 ?_ (fun hx2 => ?_)
  · unfold x2
    refine State.admin_keeps _ _ _ _ (fun _ _ => ?_) ?_ rfl
    · refine .fst_mk ?_
      assumption
    · exact .refl
  clear_value x2
  refine .ite ?_ ?_
  · refine .step ?_ (State.deviceRestart_keeps _ _ _ _) rfl
    assumption
  · assumption

theorem execDebugOpen_keeps {src : Src} {len : Nat} {t1 : Nat} {a : DbgToken} {second : Option (Nat × DbgToken)} {s s' : State} (h : execDebugOpen src len t1 a second s = .next s') : s.sameBut s' Comp.device := by
  unfold execDebugOpen at h
  refine .of_next ?_ h
  clear h
  extract_lets +onlyGivenNames x1
  clear_value x1
  extract_lets +onlyGivenNames x2
  clear_value x2
  extract_lets +onlyGivenNames x3
  refine .letS x3 ?_ (fun hx3 => ?_)
  · unfold x3
    refine .ite ?_ ?_
    · refine .step ?_ (State.rejectDebug_keeps _ _) rfl
      exact .refl
    · exact .refl
  clear_value x3
  extract_lets +onlyGivenNames x4
  refine .letP x4 ?_ (fun hx4 => ?_)
  · unfold x4
    refine State.command_keeps _ _ _ _ (fun _ _ => ?_) ?_ rfl
    · refine .step ?_ (State.debugReply_keeps _ _ _ _) rfl
      assumption
    · assumption
  clear_value x4
  refine .ite ?_ ?_
  · refine .step ?_ (State.pathRestart_keeps _ _) rfl
    assumption
  · assumption

theorem execEnterTest_keeps {src : Src} {len : Nat} {t : LcToken} {stop : Option Nat} {s s' : State} (h : execEnterTest src len t stop s = .next s') : s.sameBut s' Comp.device := by
  unfold execEnterTest at h
  refine .of_next ?_ h
  clear h
  refine .ite ?_ ?_
  · exact .refl
  · refine State.transition_keeps _ _ _ _ _ _ _ (fun _ _ => ?_) ?_ rfl
    · refine .step ?_ (State.burnTest_keeps _ _) rfl
      assumption
    · exact .refl

theorem execEnterProduction_keeps {src : Src} {len : Nat} {t : LcToken} {stop : Option Nat} {s s' : State} (h : execEnterProduction src len t stop s = .next s') : s.sameBut s' Comp.device := by
  unfold execEnterProduction at h
  refine .of_next ?_ h
  clear h
  refine .ite ?_ ?_
  · refine State.transition_keeps _ _ _ _ _ _ _ (fun _ _ => ?_) ?_ rfl
    · refine .step ?_ (State.burnProd_keeps _ _) rfl
      assumption
    · exact .refl
  · exact .refl

theorem execEnterEol_keeps {src : Src} {len : Nat} {t : LcToken} {stop : Option Nat} {s s' : State} (h : execEnterEol src len t stop s = .next s') : s.sameBut s' Comp.device := by
  unfold execEnterEol at h
  refine .of_next ?_ h
  clear h
  refine .ite ?_ ?_
  · refine State.transition_keeps _ _ _ _ _ _ _ (fun _ _ => ?_) ?_ rfl
    · refine .step ?_ (State.burnEol_keeps _ _) rfl
      assumption
    · exact .refl
  · exact .refl

theorem execCompleteTransition_keeps {src : Src} {len : Nat} {t : LcToken} {stop : Option Nat} {s s' : State} (h : execCompleteTransition src len t stop s = .next s') : s.sameBut s' Comp.device := by
  unfold execCompleteTransition at h
  refine .of_next ?_ h
  clear h
  extract_lets +onlyGivenNames x1
  clear_value x1
  extract_lets +onlyGivenNames x2
  refine .letP x2 ?_ (fun hx2 => ?_)
  · unfold x2
    refine State.command_keeps _ _ _ _ (fun _ _ => ?_) ?_ rfl
    · refine State.lcReply_keeps _ _ _ _ _ _ _ (fun _ _ => ?_) ?_ rfl
      · refine .step ?_ (markMoved_keeps _) rfl
        refine .step ?_ (State.burnWord_keeps _ _ _) rfl
        assumption
      · assumption
    · exact .refl
  clear_value x2
  refine .ite ?_ ?_
  · refine .step ?_ (State.deviceRestart_keeps _ _ _ _) rfl
    assumption
  · assumption

theorem execRouteWrite_keeps {q : Req} {v : Word} {s s' : State} (h : execRouteWrite q v s = .next s') : s.sameBut s' Comp.device := by
  unfold execRouteWrite at h
  exact .mono (State.dataAccess_keeps h) rfl

theorem execCounterWrite_keeps {q : Req} {v : Word} {s s' : State} (h : execCounterWrite q v s = .next s') : s.sameBut s' Comp.device := by
  unfold execCounterWrite at h
  exact .mono (State.dataAccess_keeps h) rfl

theorem execOpdataAccess_keeps {q : Req} {n : Ch} {w : Option Word} {s s' : State} (h : execOpdataAccess q n w s = .next s') : s.sameBut s' Comp.device := by
  unfold execOpdataAccess at h
  exact .mono (State.dataAccess_keeps h) rfl

theorem execStdataAccess_keeps {q : Req} {n : Ch} {k : Fin 3} {w : Option Word} {s s' : State} (h : execStdataAccess q n k w s = .next s') : s.sameBut s' Comp.device := by
  unfold execStdataAccess at h
  exact .mono (State.dataAccess_keeps h) rfl

theorem execRgdataAccess_keeps {q : Req} {n : Ch} {k : Fin 3} {w : Option Word} {s s' : State} (h : execRgdataAccess q n k w s = .next s') : s.sameBut s' Comp.device := by
  unfold execRgdataAccess at h
  exact .mono (State.dataAccess_keeps h) rfl

theorem execSeqdataAccess_keeps {q : Req} {w : Option Word} {s s' : State} (h : execSeqdataAccess q w s = .next s') : s.sameBut s' Comp.device := by
  unfold execSeqdataAccess at h
  exact .mono (State.dataAccess_keeps h) rfl

theorem execTxdataWrite_keeps {q : Req} {a : Fin 2} {v : Word} {s s' : State} (h : execTxdataWrite q a v s = .next s') : s.sameBut s' Comp.device := by
  unfold execTxdataWrite at h
  exact .mono (State.dataAccess_keeps h) rfl

theorem execWd0Service_keeps {q : Req} {key : Word} {s s' : State} (h : execWd0Service q key s = .next s') : s.sameBut s' Comp.device := by
  unfold execWd0Service at h
  refine .of_next ?_ h
  clear h
  refine .ite ?_ ?_
  · refine .step ?_ (State.wd0Serve_keeps _ _ _) rfl
    exact .refl
  · exact .refl

theorem execWd0SecondExpiry_keeps  {s s' : State} (h : execWd0SecondExpiry s = .next s') : s.sameBut s' Comp.device := by
  unfold execWd0SecondExpiry at h
  refine .of_next ?_ h
  clear h
  refine .ite ?_ ?_
  · refine .step ?_ (State.wd0Reset_keeps _ _) rfl
    exact .refl
  · exact .refl

theorem execRingMonitorTrip_keeps  {s s' : State} (h : execRingMonitorTrip s = .next s') : s.sameBut s' Comp.device := by
  unfold execRingMonitorTrip at h
  refine .of_next ?_ h
  clear h
  refine .ite ?_ ?_
  · refine .step ?_ (State.wd0Reset_keeps _ _) rfl
    exact .refl
  · exact .refl

theorem execClockMonitorTrip_keeps {c : MonClk} {byLock : Bool} {s s' : State} (h : execClockMonitorTrip c byLock s = .next s') : s.sameBut s' Comp.device := by
  unfold execClockMonitorTrip at h
  refine .of_next ?_ h
  clear h
  refine .ite ?_ ?_
  · exact .refl
  · split
    · refine .step ?_ (State.flashLoss_keeps _) rfl
      exact .refl
    · refine .step ?_ (State.fatalTrip_keeps _ _) rfl
      exact .refl

theorem execFlashRelockTimeout_keeps  {s s' : State} (h : execFlashRelockTimeout s = .next s') : s.sameBut s' Comp.device := by
  unfold execFlashRelockTimeout at h
  refine .of_next ?_ h
  clear h
  refine .ite ?_ ?_
  · refine .step ?_ (State.fatalTrip_keeps _ _) rfl
    exact .refl
  · exact .refl

theorem execRefclkLoss_keeps  {s s' : State} (h : execRefclkLoss s = .next s') : s.sameBut s' [.freeCtr, .outbox, .regs, .evt, .plat, .keeper, .chs, .cellar, .press, .vault, .ctl, .cntr, .tlm, .clk, .host, .ident, .sealing, .crypt, .life] := by
  unfold execRefclkLoss at h
  refine .of_next ?_ h
  clear h
  refine .ite ?_ ?_
  · extract_lets +onlyGivenNames x1
    clear_value x1
    extract_lets +onlyGivenNames x2
    refine .letS x2 ?_ (fun hx2 => ?_)
    · unfold x2
      refine .step ?_ (State.setSticky_keeps _ _ _) rfl
      refine .step ?_ (State.sameBut.clk _) rfl
      exact .refl
    clear_value x2
    refine .step ?_ (State.raise_keeps _ _ _) rfl
    refine .ite ?_ ?_
    · refine .step ?_ (State.linkDown_keeps _) rfl
      assumption
    · assumption
  · exact .refl

theorem execWindowWrite_keeps {p : Fin 2} {bank : Nat} {off : Nat} {n : Nat} {data : List Byte} {pecOk : Bool} {s s' : State} (h : execWindowWrite p bank off n data pecOk s = .next s') : s.sameBut s' Comp.device := by
  unfold execWindowWrite at h
  refine .of_next ?_ h
  clear h
  extract_lets +onlyGivenNames x1
  clear_value x1
  refine .ite ?_ ?_
  · exact .refl
  · split
    · refine .step ?_ (State.windowEnd_keeps _ _ _) rfl
      refine .step ?_ (State.nack_keeps _ _) rfl
      exact .refl
    · refine .ite ?_ ?_
      · exact .refl
      · refine .ite ?_ ?_
        · refine .step ?_ (State.windowEnd_keeps _ _ _) rfl
          exact .refl
        · refine .ite ?_ ?_
          · refine .step ?_ (State.windowEnd_keeps _ _ _) rfl
            refine .step ?_ (State.nack_keeps _ _) rfl
            exact .refl
          · extract_lets +onlyGivenNames x2
            clear_value x2
            extract_lets +onlyGivenNames x3
            clear_value x3
            extract_lets +onlyGivenNames x4
            clear_value x4
            extract_lets +onlyGivenNames x5
            clear_value x5
            extract_lets +onlyGivenNames x6
            refine .letS x6 ?_ (fun hx6 => ?_)
            · unfold x6
              refine .foldl (fun _ _ _ => ?_) ?_
              · refine .step ?_ (State.busWrite_keeps _ _ _ _) rfl
                assumption
              · exact .refl
            clear_value x6
            refine .step ?_ (State.windowEnd_keeps _ _ _) rfl
            assumption

theorem execMctpFwActivate_keeps {eid : Nat} {target : Nat} {s s' : State} (h : execMctpFwActivate eid target s = .next s') : s.sameBut s' Comp.device := by
  unfold execMctpFwActivate at h
  refine .of_next ?_ h
  clear h
  extract_lets +onlyGivenNames x1
  clear_value x1
  extract_lets +onlyGivenNames x2
  refine .letS x2 ?_ (fun hx2 => ?_)
  · unfold x2
    refine State.sideCmd_keeps _ _ _ _ _ (fun _ _ => ?_) ?_ rfl
    · extract_lets +onlyGivenNames x3
      refine .letP x3 ?_ (fun hx3 => ?_)
      · unfold x3
        refine .step ?_ (State.fwActivate_keeps _ _ _) rfl
        assumption
      clear_value x3
      refine .fst_mk ?_
      assumption
    · exact .refl
  clear_value x2
  refine .ite ?_ ?_
  · refine .step ?_ (State.deviceRestart_keeps _ _ _ _) rfl
    assumption
  · assumption

theorem execUnsupportedRequest_keeps {a : BarAcc} {s s' : State} (h : execUnsupportedRequest s a = .next s') : s.sameBut s' Comp.device := by
  unfold execUnsupportedRequest at h
  refine .of_next ?_ h
  clear h
  refine .ite ?_ ?_
  · exact .refl
  · refine .ite ?_ ?_
    · refine .step ?_ (State.barAccess_keeps _ _) rfl
      exact .refl
    · refine .step ?_ (State.unsupported_keeps _) rfl
      exact .refl

end Sys2Proof.Machine
end

