-- ==== Sys2Proof/Laws/Grows.lean ====
section
/-! SUPPORT. Laws/Grows.lean: that a change only adds raises to those on their way to the router, and how such claims are put
together. -/

namespace Sys2Proof.Machine

/-- Raises only join those that are under way. -/
def State.grows (s u : State) : Prop := ∃ l, u.evt.transit = s.evt.transit ++ l

theorem State.grows.refl {s : State} : s.grows s := ⟨[], by simp⟩

theorem State.grows.trans {s t u : State} (h : s.grows t) (k : t.grows u) : s.grows u := by
  obtain ⟨l, h⟩ := h
  obtain ⟨m, k⟩ := k
  exact ⟨l ++ m, by rw [k, h, List.append_assoc]⟩

theorem State.grows.of_eq {s t u : State} (h : s.grows t) (k : u.evt.transit = t.evt.transit) : s.grows u := by
  obtain ⟨l, h⟩ := h
  exact ⟨l, by rw [k, h]⟩

theorem State.grows.ite {s a b : State} {c : Prop} [Decidable c] (h : s.grows a) (k : s.grows b) :
    s.grows (if c then a else b) := by split <;> assumption

theorem State.grows.dite {s : State} {c : Prop} [Decidable c] {a : c → State} {b : ¬c → State}
    (h : ∀ x, s.grows (a x)) (k : ∀ x, s.grows (b x)) : s.grows (if x : c then a x else b x) := by
  split <;> simp_all

theorem State.grows.ite_fst {α : Type} {s : State} {a b : State × α} {c : Prop} [Decidable c]
    (h : s.grows a.1) (k : s.grows b.1) : s.grows (if c then a else b).1 := by split <;> assumption

theorem State.grows.dite_fst {α : Type} {s : State} {c : Prop} [Decidable c] {a : c → State × α} {b : ¬c → State × α}
    (h : ∀ x, s.grows (a x).1) (k : ∀ x, s.grows (b x).1) : s.grows (if x : c then a x else b x).1 := by
  split <;> simp_all

theorem State.grows.foldl {α : Type} {s a : State} {f : State → α → State} {l : List α}
    (k : ∀ t x, s.grows t → s.grows (f t x)) (h : s.grows a) : s.grows (l.foldl f a) := by
  induction l generalizing a with
  | nil => exact h
  | cons x r ih => exact ih (k a x h)

theorem State.grows.foldl_fst {α β : Type} {s : State} {a : State × β} {f : State × β → α → State × β} {l : List α}
    (k : ∀ t x, s.grows t.1 → s.grows (f t x).1) (h : s.grows a.1) : s.grows (l.foldl f a).1 := by
  induction l generalizing a with
  | nil => exact h
  | cons x r ih => exact ih (k a x h)

theorem State.grows.letS {s e : State} (x : State) (h : s.grows x) (k : s.grows x → s.grows e) : s.grows e := k h

theorem State.grows.letP {α : Type} {s e : State} (x : State × α) (h : s.grows x.1) (k : s.grows x.1 → s.grows e) :
    s.grows e := k h

theorem State.grows.fst_mk {α : Type} {s a : State} {b : α} (h : s.grows a) : s.grows (a, b).1 := h

/-! ## A raise among those that join -/

theorem State.grows.raises {s t : State} (h : s.grows t) (src arg : Nat) : s.raises (t.raise src arg) src arg := by
  obtain ⟨l, h⟩ := h
  exact ⟨l ++ [⟨src, sevOf src, arg⟩], by simp [State.raise, State.raiseAt, h], by simp⟩

theorem State.raises.of_eq {s t u : State} {src arg : Nat} (h : s.raises t src arg) (k : u.evt.transit = t.evt.transit) :
    s.raises u src arg := by
  obtain ⟨l, h, m⟩ := h
  exact ⟨l, by rw [k, h], m⟩

theorem State.raises.trans {s t u : State} {src arg : Nat} (h : s.raises t src arg) (k : t.grows u) : s.raises u src arg := by
  obtain ⟨l, h, m⟩ := h
  obtain ⟨l2, k⟩ := k
  exact ⟨l ++ l2, by rw [k, h, List.append_assoc], List.mem_append_left _ m⟩

theorem State.grows.then {s t u : State} {src arg : Nat} (h : s.grows t) (k : t.raises u src arg) : s.raises u src arg := by
  obtain ⟨l, h⟩ := h
  obtain ⟨l2, k, m⟩ := k
  exact ⟨l ++ l2, by rw [k, h, List.append_assoc], List.mem_append_right _ m⟩

/-! ## Components replaced -/

theorem State.grows.up_pending {s : State} (x0) : s.grows { s with pending := x0 } := ⟨[], by simp⟩

theorem State.grows.up_time {s : State} (x0) : s.grows { s with time := x0 } := ⟨[], by simp⟩

theorem State.grows.up_freeCtr {s : State} (x0) : s.grows { s with freeCtr := x0 } := ⟨[], by simp⟩

theorem State.grows.up_outbox {s : State} (x0) : s.grows { s with outbox := x0 } := ⟨[], by simp⟩

theorem State.grows.up_regs {s : State} (x0) : s.grows { s with regs := x0 } := ⟨[], by simp⟩

theorem State.grows.up_evt {s : State} (x0) (h : x0.transit = s.evt.transit) : s.grows { s with evt := x0 } := ⟨[], by simp [h]⟩

theorem State.grows.up_plat {s : State} (x0) : s.grows { s with plat := x0 } := ⟨[], by simp⟩

theorem State.grows.up_keeper {s : State} (x0) : s.grows { s with keeper := x0 } := ⟨[], by simp⟩

theorem State.grows.up_chs {s : State} (x0) : s.grows { s with chs := x0 } := ⟨[], by simp⟩

theorem State.grows.up_cellar {s : State} (x0) : s.grows { s with cellar := x0 } := ⟨[], by simp⟩

theorem State.grows.up_press {s : State} (x0) : s.grows { s with press := x0 } := ⟨[], by simp⟩

theorem State.grows.up_vault {s : State} (x0) : s.grows { s with vault := x0 } := ⟨[], by simp⟩

theorem State.grows.up_ctl {s : State} (x0) : s.grows { s with ctl := x0 } := ⟨[], by simp⟩

theorem State.grows.up_cntr {s : State} (x0) : s.grows { s with cntr := x0 } := ⟨[], by simp⟩

theorem State.grows.up_tlm {s : State} (x0) : s.grows { s with tlm := x0 } := ⟨[], by simp⟩

theorem State.grows.up_wd0 {s : State} (x0) : s.grows { s with wd0 := x0 } := ⟨[], by simp⟩

theorem State.grows.up_clk {s : State} (x0) : s.grows { s with clk := x0 } := ⟨[], by simp⟩

theorem State.grows.up_host {s : State} (x0) : s.grows { s with host := x0 } := ⟨[], by simp⟩

theorem State.grows.up_ident {s : State} (x0) : s.grows { s with ident := x0 } := ⟨[], by simp⟩

theorem State.grows.up_sealing {s : State} (x0) : s.grows { s with sealing := x0 } := ⟨[], by simp⟩

theorem State.grows.up_crypt {s : State} (x0) : s.grows { s with crypt := x0 } := ⟨[], by simp⟩

theorem State.grows.up_life {s : State} (x0) : s.grows { s with life := x0 } := ⟨[], by simp⟩

theorem State.grows.up_side {s : State} (x0) : s.grows { s with side := x0 } := ⟨[], by simp⟩

theorem State.grows.up_aux {s : State} (x0) : s.grows { s with aux := x0 } := ⟨[], by simp⟩

theorem State.grows.up_cellar_crypt {s : State} (x0 x1) : s.grows { s with cellar := x0, crypt := x1 } := ⟨[], by simp⟩

theorem State.grows.up_cellar_vault {s : State} (x0 x1) : s.grows { s with cellar := x0, vault := x1 } := ⟨[], by simp⟩

theorem State.grows.up_ctl_ident {s : State} (x0 x1) : s.grows { s with ctl := x0, ident := x1 } := ⟨[], by simp⟩

theorem State.grows.up_evt_vault_sealing_crypt {s : State} (x0 x1 x2 x3) (h : x0.transit = s.evt.transit) : s.grows { s with evt := x0, vault := x1, sealing := x2, crypt := x3 } := ⟨[], by simp [h]⟩

theorem State.grows.up_host_ident {s : State} (x0 x1) : s.grows { s with host := x0, ident := x1 } := ⟨[], by simp⟩

theorem State.grows.up_keeper_life {s : State} (x0 x1) : s.grows { s with keeper := x0, life := x1 } := ⟨[], by simp⟩

theorem State.grows.up_plat_ctl_ident {s : State} (x0 x1 x2) : s.grows { s with plat := x0, ctl := x1, ident := x2 } := ⟨[], by simp⟩

theorem State.grows.up_plat_ident {s : State} (x0 x1) : s.grows { s with plat := x0, ident := x1 } := ⟨[], by simp⟩

theorem State.grows.up_plat_keeper {s : State} (x0 x1) : s.grows { s with plat := x0, keeper := x1 } := ⟨[], by simp⟩

theorem State.grows.up_regs_press_host_sealing {s : State} (x0 x1 x2 x3) : s.grows { s with regs := x0, press := x1, host := x2, sealing := x3 } := ⟨[], by simp⟩

theorem State.grows.up_tlm_sealing {s : State} (x0 x1) : s.grows { s with tlm := x0, sealing := x1 } := ⟨[], by simp⟩

theorem State.grows.up_ctl_ident_life {s : State} (x0 x1 x2) : s.grows { s with ctl := x0, ident := x1, life := x2 } := ⟨[], by simp⟩

theorem State.grows.up_ctl_host {s : State} (x0 x1) : s.grows { s with ctl := x0, host := x1 } := ⟨[], by simp⟩

theorem State.grows.up_plat_ctl_host {s : State} (x0 x1 x2) : s.grows { s with plat := x0, ctl := x1, host := x2 } := ⟨[], by simp⟩

theorem State.grows.up_plat_keeper_side {s : State} (x0 x1 x2) : s.grows { s with plat := x0, keeper := x1, side := x2 } := ⟨[], by simp⟩

theorem State.grows.up_plat_vault {s : State} (x0 x1) : s.grows { s with plat := x0, vault := x1 } := ⟨[], by simp⟩

theorem State.grows.up_plat_crypt {s : State} (x0 x1) : s.grows { s with plat := x0, crypt := x1 } := ⟨[], by simp⟩

theorem State.grows.up_plat_clk {s : State} (x0 x1) : s.grows { s with plat := x0, clk := x1 } := ⟨[], by simp⟩

theorem State.grows.up_regs_keeper {s : State} (x0 x1) : s.grows { s with regs := x0, keeper := x1 } := ⟨[], by simp⟩

theorem State.grows.up_plat_vault_ident {s : State} (x0 x1 x2) : s.grows { s with plat := x0, vault := x1, ident := x2 } := ⟨[], by simp⟩

theorem State.grows.up_vault_ident {s : State} (x0 x1) : s.grows { s with vault := x0, ident := x1 } := ⟨[], by simp⟩

/-! ## The shared operations -/

theorem State.raiseAt_grows (s : State) (src sev arg : Nat) : s.grows (s.raiseAt src sev arg) := ⟨_, rfl⟩

end Sys2Proof.Machine
end

