-- ==== Sys2Proof/Laws/GrowsOps.lean ====
section
/-! SUPPORT. Laws/GrowsOps.lean: the shared operations that only add raises to those on their way to the router. -/

namespace Sys2Proof.Machine

theorem State.raise_grows (s : State) (src : Nat) (arg : Nat) : s.grows (State.raise s src arg) := by
  unfold State.raise
  refine .trans ?_ (State.raiseAt_grows _ _ _ _)
  exact .refl

theorem State.raiseCh_grows (s : State) (n : Ch) (k : Nat) (arg : Nat) : s.grows (State.raiseCh s n k arg) := by
  unfold State.raiseCh
  refine .trans ?_ (State.raise_grows _ _ _)
  exact .refl

theorem State.setChan_grows (s : State) (n : Ch) (c : Chan) : s.grows (State.setChan s n c) := by
  unfold State.setChan
  refine .trans ?_ (State.grows.up_chs _)
  exact .refl

theorem State.updChan_grows (s : State) (n : Ch) (f : Chan → Chan) : s.grows (State.updChan s n f) := by
  unfold State.updChan
  refine .trans ?_ (State.setChan_grows _ _ _)
  exact .refl

theorem State.setPhase_grows (s : State) (n : Ch) (p : Phase) : s.grows (State.setPhase s n p) := by
  unfold State.setPhase
  refine .ite ?_ ?_
  · exact .refl
  · refine .trans ?_ (State.raiseCh_grows _ _ _ _)
    refine .trans ?_ (State.updChan_grows _ _ _)
    exact .refl

theorem State.runAfterCopy_grows (s : State) (n : Ch) : s.grows (State.runAfterCopy s n) := by
  unfold State.runAfterCopy
  refine .ite ?_ ?_
  · refine .trans ?_ (State.setPhase_grows _ _ _)
    exact .refl
  · exact .refl

theorem State.updSlot_grows (s : State) (n : Ch) (k : SlotId) (f : Slot → Slot) : s.grows (State.updSlot s n k f) := by
  unfold State.updSlot
  refine .trans ?_ (State.updChan_grows _ _ _)
  exact .refl

theorem State.abandonUpdate_grows (s : State) (n : Ch) (k : SlotId) : s.grows (State.abandonUpdate s n k) := by
  unfold State.abandonUpdate
  refine .trans ?_ (State.raiseCh_grows _ _ _ _)
  refine .trans ?_ (State.runAfterCopy_grows _ _)
  refine .trans ?_ (State.updSlot_grows _ _ _ _)
  exact .refl

theorem State.raiseIf_grows (s : State) (c : Bool) (src : Nat) (arg : Nat) : s.grows (State.raiseIf s c src arg) := by
  unfold State.raiseIf
  refine .ite ?_ ?_
  · refine .trans ?_ (State.raise_grows _ _ _)
    exact .refl
  · exact .refl

theorem State.storeCounter_grows (s : State) (i : Nat) (sum : Nat) : s.grows (State.storeCounter s i sum) := by
  unfold State.storeCounter
  refine .ite ?_ ?_
  · exact .refl
  · extract_lets +onlyGivenNames x1
    clear_value x1
    extract_lets +onlyGivenNames x2
    refine .letS x2 ?_ (fun hx2 => ?_)
    · unfold x2
      refine .trans ?_ (State.grows.up_cntr _)
      exact .refl
    clear_value x2
    refine .trans ?_ (State.raiseIf_grows _ _ _ _)
    assumption

theorem State.addCounter_grows (s : State) (i : Nat) (k : Nat) : s.grows (State.addCounter s i k) := by
  unfold State.addCounter
  refine .ite ?_ ?_
  · exact .refl
  · refine .trans ?_ (State.storeCounter_grows _ _ _)
    exact .refl

theorem State.cntQ_grows (s : State) (i : Nat) (k : Nat) : s.grows (State.cntQ s i k) := by
  unfold State.cntQ
  refine .trans ?_ (State.addCounter_grows _ _ _)
  exact .refl

theorem State.dropFetched_grows (s : State) (f : Fetched) : s.grows (State.dropFetched s f) := by
  unfold State.dropFetched
  refine .trans ?_ (State.grows.up_host _)
  exact .refl

theorem State.emit_grows (s : State) (o : Out) : s.grows (State.emit s o) := by
  unfold State.emit
  refine .trans ?_ (State.grows.up_outbox _)
  exact .refl

theorem State.hostWrite_grows (s : State) (addr : Nat) (bs : List Byte) : s.grows (State.hostWrite s addr bs) := by
  unfold State.hostWrite
  extract_lets +onlyGivenNames x1
  refine .letS x1 ?_ (fun hx1 => ?_)
  · unfold x1
    refine .trans ?_ (State.emit_grows _ _)
    refine .trans ?_ (State.cntQ_grows _ _ _)
    exact .refl
  clear_value x1
  refine .trans ?_ (State.grows.up_tlm _)
  assumption

theorem State.updQueue_grows (s : State) (q : Nat) (f : HQueue → HQueue) : s.grows (State.updQueue s q f) := by
  unfold State.updQueue
  refine .dite (fun _ => ?_) (fun _ => ?_)
  · refine .trans ?_ (State.grows.up_host _)
    exact .refl
  · exact .refl

theorem State.msi_grows (s : State) (v : Nat) : s.grows (State.msi s v) := by
  unfold State.msi
  refine .dite (fun _ => ?_) (fun _ => ?_)
  · extract_lets +onlyGivenNames x1
    clear_value x1
    refine .ite ?_ ?_
    · refine .trans ?_ (State.grows.up_host _)
      exact .refl
    · refine .trans ?_ (State.emit_grows _ _)
      refine .trans ?_ (State.cntQ_grows _ _ _)
      exact .refl
  · exact .refl

theorem State.qWrite_grows (s : State) (q : Nat) (bytes : Nat) (noint : Bool) (entry : Bool → List Byte) : s.grows (State.qWrite s q bytes noint entry) := by
  unfold State.qWrite
  extract_lets +onlyGivenNames x1
  clear_value x1
  extract_lets +onlyGivenNames x2
  refine .letS x2 ?_ (fun hx2 => ?_)
  · unfold x2
    refine .trans ?_ (State.hostWrite_grows _ _ _)
    exact .refl
  clear_value x2
  extract_lets +onlyGivenNames x3
  clear_value x3
  extract_lets +onlyGivenNames x4
  clear_value x4
  extract_lets +onlyGivenNames x5
  clear_value x5
  extract_lets +onlyGivenNames x6
  refine .letS x6 ?_ (fun hx6 => ?_)
  · unfold x6
    refine .trans ?_ (State.updQueue_grows _ _ _)
    assumption
  clear_value x6
  refine .ite ?_ ?_
  · refine .trans ?_ (State.msi_grows _ _)
    assumption
  · assumption

theorem State.sendCpl_grows (s : State) (r : Retained) : s.grows (State.sendCpl s r).1 := by
  unfold State.sendCpl
  refine .ite_fst ?_ ?_
  · refine .fst_mk ?_
    refine .trans ?_ (State.qWrite_grows _ _ _ _ _)
    exact .refl
  · refine .fst_mk ?_
    exact .refl

theorem State.postCpl_grows (s : State) (sq : Nat) (c : Cpl) (noint : Bool) (receipt : Option (Nat × List Byte)) : s.grows (State.postCpl s sq c noint receipt) := by
  unfold State.postCpl
  extract_lets +onlyGivenNames x1
  refine .letP x1 ?_ (fun hx1 => ?_)
  · unfold x1
    refine .trans ?_ (State.sendCpl_grows _ _)
    exact .refl
  clear_value x1
  extract_lets +onlyGivenNames x2
  refine .letS x2 ?_ (fun hx2 => ?_)
  · unfold x2
    assumption
  clear_value x2
  refine .trans ?_ (State.grows.up_host _)
  assumption

theorem State.completeCmd_grows (s : State) (f : Fetched) (r : Reply) : s.grows (State.completeCmd s f r) := by
  unfold State.completeCmd
  refine .ite ?_ ?_
  · exact .refl
  · extract_lets +onlyGivenNames x1
    refine .letS x1 ?_ (fun hx1 => ?_)
    · unfold x1
      refine .trans ?_ (State.dropFetched_grows _ _)
      exact .refl
    clear_value x1
    extract_lets +onlyGivenNames x2
    refine .letS x2 ?_ (fun hx2 => ?_)
    · unfold x2
      refine .ite ?_ ?_
      · refine .trans ?_ (State.cntQ_grows _ _ _)
        refine .trans ?_ (State.cntQ_grows _ _ _)
        assumption
      · assumption
    clear_value x2
    refine .trans ?_ (State.postCpl_grows _ _ _ _ _)
    assumption

theorem State.failSeg_grows (s : State) (g : Seg) (st : Status) : s.grows (State.failSeg s g st) := by
  unfold State.failSeg
  extract_lets +onlyGivenNames x1
  clear_value x1
  extract_lets +onlyGivenNames x2
  clear_value x2
  extract_lets +onlyGivenNames x3
  refine .letS x3 ?_ (fun hx3 => ?_)
  · unfold x3
    refine .ite ?_ ?_
    · refine .trans ?_ (State.grows.up_tlm_sealing _ _)
      exact .refl
    · exact .refl
  clear_value x3
  extract_lets +onlyGivenNames x4
  refine .letS x4 ?_ (fun hx4 => ?_)
  · unfold x4
    refine .ite ?_ ?_
    · refine .trans ?_ (State.cntQ_grows _ _ _)
      assumption
    · refine .ite ?_ ?_
      · refine .trans ?_ (State.cntQ_grows _ _ _)
        assumption
      · assumption
  clear_value x4
  refine .trans ?_ (State.completeCmd_grows _ _ _)
  assumption

theorem State.abortQueue_grows (s : State) (q : Nat) : s.grows (State.abortQueue s q) := by
  unfold State.abortQueue
  extract_lets +onlyGivenNames x1
  clear_value x1
  extract_lets +onlyGivenNames x2
  clear_value x2
  extract_lets +onlyGivenNames x3
  refine .letS x3 ?_ (fun hx3 => ?_)
  · unfold x3
    refine .trans ?_ (State.grows.up_sealing _)
    exact .refl
  clear_value x3
  extract_lets +onlyGivenNames x4
  refine .letS x4 ?_ (fun hx4 => ?_)
  · unfold x4
    refine .foldl (fun _ _ _ => ?_) ?_
    · refine .trans ?_ (State.failSeg_grows _ _ _)
      assumption
    · assumption
  clear_value x4
  refine .foldl (fun _ _ _ => ?_) ?_
  · refine .trans ?_ (State.completeCmd_grows _ _ _)
    assumption
  · assumption

theorem State.updPort_grows (s : State) (n : Ch) (f : Port → Port) : s.grows (State.updPort s n f) := by
  unfold State.updPort
  refine .trans ?_ (State.updChan_grows _ _ _)
  exact .refl

theorem State.cntNat_grows (s : State) (n : Nat) (code : Nat) (k : Nat) : s.grows (State.cntNat s n code k) := by
  unfold State.cntNat
  refine .foldl (fun _ _ _ => ?_) ?_
  · refine .ite ?_ ?_
    · refine .trans ?_ (State.addCounter_grows _ _ _)
      assumption
    · assumption
  · exact .refl

theorem State.cnt_grows (s : State) (n : Ch) (code : Nat) (k : Nat) : s.grows (State.cnt s n code k) := by
  unfold State.cnt
  refine .trans ?_ (State.cntNat_grows _ _ _ _)
  exact .refl

theorem State.acceptOp_grows (s : State) (t : Txn) (kind : OpKind) (r : Range) (payload : List Byte) : s.grows (State.acceptOp s t kind r payload) := by
  unfold State.acceptOp
  split
  · refine .trans ?_ (State.updPort_grows _ _ _)
    exact .refl
  · refine .trans ?_ (State.cnt_grows _ _ _ _)
    refine .trans ?_ (State.updPort_grows _ _ _)
    exact .refl

theorem State.setCfg_grows (s : State) (key : Nat) (v : Word) : s.grows (State.setCfg s key v) := by
  unfold State.setCfg
  refine .trans ?_ (State.grows.up_regs _)
  exact .refl

theorem State.commitField_grows (s : State) (key : Nat) (v : Word) : s.grows (State.commitField s key v) := by
  unfold State.commitField
  extract_lets +onlyGivenNames x1
  refine .letS x1 ?_ (fun hx1 => ?_)
  · unfold x1
    refine .trans ?_ (State.setCfg_grows _ _ _)
    exact .refl
  clear_value x1
  extract_lets +onlyGivenNames x2
  clear_value x2
  refine .trans ?_ (State.grows.up_regs _)
  assumption

theorem State.platChange_grows (s : State) : s.grows (State.platChange s) := by
  unfold State.platChange
  refine .trans ?_ (State.grows.up_ident _)
  exact .refl

theorem State.writeHeader_grows (s : State) : s.grows (State.writeHeader s) := by
  unfold State.writeHeader
  extract_lets +onlyGivenNames x1
  clear_value x1
  extract_lets +onlyGivenNames x2
  clear_value x2
  extract_lets +onlyGivenNames x3
  clear_value x3
  refine .ite ?_ ?_
  · refine .trans ?_ (State.grows.up_vault _)
    exact .refl
  · refine .trans ?_ (State.grows.up_vault _)
    exact .refl

theorem State.freeFrames_grows (s : State) (p : Frame → Bool) : s.grows (State.freeFrames s p) := by
  unfold State.freeFrames
  refine .trans ?_ (State.grows.up_cellar _)
  exact .refl

theorem State.freeChan_grows (s : State) (n : Ch) : s.grows (State.freeChan s n) := by
  unfold State.freeChan
  refine .trans ?_ (State.freeFrames_grows _ _)
  exact .refl

theorem State.commitAct_grows (s : State) (n : Ch) (k : SlotId) : s.grows (State.commitAct s n k) := by
  unfold State.commitAct
  extract_lets +onlyGivenNames x1
  refine .letS x1 ?_ (fun hx1 => ?_)
  · unfold x1
    refine .trans ?_ (State.commitField_grows _ _ _)
    exact .refl
  clear_value x1
  extract_lets +onlyGivenNames x2
  clear_value x2
  extract_lets +onlyGivenNames x3
  clear_value x3
  extract_lets +onlyGivenNames x4
  refine .letS x4 ?_ (fun hx4 => ?_)
  · unfold x4
    refine .trans ?_ (State.grows.up_vault _)
    assumption
  clear_value x4
  extract_lets +onlyGivenNames x5
  refine .letS x5 ?_ (fun hx5 => ?_)
  · unfold x5
    refine .trans ?_ (State.updChan_grows _ _ _)
    assumption
  clear_value x5
  refine .trans ?_ (State.platChange_grows _)
  refine .trans ?_ (State.writeHeader_grows _)
  refine .trans ?_ (State.freeChan_grows _ _)
  assumption

theorem State.intent_grows (s : State) (kind : Nat) (chan : Nat) (slot : Nat) (state : Nat) (step : Nat) (nsteps : Nat) (src : Nat) (dst : Nat) (arg : Nat) : s.grows (State.intent s kind chan slot state step nsteps src dst arg) := by
  unfold State.intent
  refine .ite ?_ ?_
  · exact .refl
  · refine .trans ?_ (State.grows.up_vault _)
    exact .refl

theorem State.flip_grows (s : State) (n : Ch) (k : SlotId) : s.grows (State.flip s n k) := by
  unfold State.flip
  extract_lets +onlyGivenNames x1
  refine .letS x1 ?_ (fun hx1 => ?_)
  · unfold x1
    refine .trans ?_ (State.commitAct_grows _ _ _)
    exact .refl
  clear_value x1
  extract_lets +onlyGivenNames x2
  refine .letS x2 ?_ (fun hx2 => ?_)
  · unfold x2
    refine .trans ?_ (State.updSlot_grows _ _ _ _)
    assumption
  clear_value x2
  extract_lets +onlyGivenNames x3
  clear_value x3
  refine .trans ?_ (State.raiseCh_grows _ _ _ _)
  refine .trans ?_ (State.intent_grows _ _ _ _ _ _ _ _ _ _)
  assumption

theorem State.actNow_grows (s : State) (n : Ch) (k : SlotId) : s.grows (State.actNow s n k) := by
  unfold State.actNow
  extract_lets +onlyGivenNames x1
  refine .letS x1 ?_ (fun hx1 => ?_)
  · unfold x1
    refine .trans ?_ (State.updSlot_grows _ _ _ _)
    exact .refl
  clear_value x1
  split
  · refine .trans ?_ (State.flip_grows _ _ _)
    assumption
  · refine .trans ?_ (State.commitAct_grows _ _ _)
    assumption
  · assumption

theorem State.pkuRun_grows (s : State) : s.grows (State.pkuRun s).1 := by
  unfold State.pkuRun
  extract_lets +onlyGivenNames x1
  clear_value x1
  extract_lets +onlyGivenNames x2
  clear_value x2
  extract_lets +onlyGivenNames x3
  clear_value x3
  extract_lets +onlyGivenNames x4
  refine .letS x4 ?_ (fun hx4 => ?_)
  · unfold x4
    refine .trans ?_ (State.grows.up_crypt _)
    exact .refl
  clear_value x4
  refine .fst_mk ?_
  refine .trans ?_ (State.raiseIf_grows _ _ _ _)
  assumption

theorem State.withPku_grows {s0 : State} (s : State) (asks : Bool) (k : State → State × Status) (hk : ∀ (y0 : State), s0.grows y0 → s0.grows (k y0).1) (hs : s0.grows s) : s0.grows (State.withPku s asks k).1 := by
  unfold State.withPku
  refine .ite_fst ?_ ?_
  · extract_lets +onlyGivenNames x1
    refine .letP x1 ?_ (fun hx1 => ?_)
    · unfold x1
      refine .trans ?_ (State.pkuRun_grows _)
      assumption
    clear_value x1
    refine .ite_fst ?_ ?_
    · apply hk
      assumption
    · refine .fst_mk ?_
      assumption
  · apply hk
    assumption

theorem State.activateRefused_grows (s : State) (channel : Nat) (slot : Nat) : s.grows (State.activateRefused s channel slot) := by
  unfold State.activateRefused
  refine .dite (fun _ => ?_) (fun _ => ?_)
  · refine .trans ?_ (State.raiseCh_grows _ _ _ _)
    exact .refl
  · exact .refl

theorem State.activateCmd_grows (s : State) (channel : Nat) (slot : Nat) (flipNow : Nat) (m : Manifest) : s.grows (State.activateCmd s channel slot flipNow m).1 := by
  unfold State.activateCmd
  refine .dite_fst (fun _ => ?_) (fun _ => ?_)
  · extract_lets +onlyGivenNames x1
    clear_value x1
    extract_lets +onlyGivenNames x2
    clear_value x2
    extract_lets +onlyGivenNames x3
    clear_value x3
    extract_lets +onlyGivenNames x4
    refine .letP x4 ?_ (fun hx4 => ?_)
    · unfold x4
      refine State.withPku_grows _ _ _ (fun _ _ => ?_) ?_
      · refine .fst_mk ?_
        assumption
      · exact .refl
    clear_value x4
    extract_lets +onlyGivenNames x5
    refine .letS x5 ?_ (fun hx5 => ?_)
    · unfold x5
      assumption
    clear_value x5
    extract_lets +onlyGivenNames x6
    clear_value x6
    extract_lets +onlyGivenNames x7
    clear_value x7
    refine .ite_fst ?_ ?_
    · refine .fst_mk ?_
      refine .trans ?_ (State.raiseCh_grows _ _ _ _)
      refine .trans ?_ (State.updSlot_grows _ _ _ _)
      assumption
    · refine .fst_mk ?_
      refine .trans ?_ (State.raiseCh_grows _ _ _ _)
      assumption
  · refine .fst_mk ?_
    refine .trans ?_ (State.activateRefused_grows _ _ _)
    exact .refl

theorem State.activateReply_grows (s : State) (channel : Nat) (slot : Nat) (flipNow : Nat) (m : Manifest) : s.grows (State.activateReply s channel slot flipNow m).1 := by
  unfold State.activateReply
  extract_lets +onlyGivenNames x1
  refine .letP x1 ?_ (fun hx1 => ?_)
  · unfold x1
    refine .trans ?_ (State.activateCmd_grows _ _ _ _ _)
    exact .refl
  clear_value x1
  refine .fst_mk ?_
  assumption

theorem forCh_grows {s0 : State} (f : State → Ch → State) (s : State) (hf : ∀ (y0 : State) (y1 : Ch), s0.grows y0 → s0.grows (f y0 y1)) (hs : s0.grows s) : s0.grows (forCh f s) := by
  unfold forCh
  refine .foldl (fun _ _ _ => ?_) ?_
  · apply hf
    assumption
  · assumption

theorem State.applyActs_grows (s : State) (n : Ch) : s.grows (State.applyActs s n) := by
  unfold State.applyActs
  refine .ite ?_ ?_
  · exact .refl
  · refine .foldl (fun _ _ _ => ?_) ?_
    · refine .ite ?_ ?_
      · refine .trans ?_ (State.actNow_grows _ _ _)
        assumption
      · assumption
    · exact .refl

theorem State.updAgt_grows (s : State) (n : Ch) (f : AgentCtl → AgentCtl) : s.grows (State.updAgt s n f) := by
  unfold State.updAgt
  refine .trans ?_ (State.grows.up_ctl _)
  exact .refl

theorem State.noteSet_grows (s : State) (n : Ch) : s.grows (State.noteSet s n) := by
  unfold State.noteSet
  refine .ite ?_ ?_
  · refine .trans ?_ (State.raiseCh_grows _ _ _ _)
    refine .trans ?_ (State.updChan_grows _ _ _)
    exact .refl
  · exact .refl

theorem State.writeLast_grows (s : State) : s.grows (State.writeLast s) := by
  unfold State.writeLast
  extract_lets +onlyGivenNames x1
  clear_value x1
  extract_lets +onlyGivenNames x2
  refine .letS x2 ?_ (fun hx2 => ?_)
  · unfold x2
    refine .trans ?_ (State.grows.up_freeCtr _)
    exact .refl
  clear_value x2
  refine .ite ?_ ?_
  · refine .trans ?_ (State.grows.up_keeper _)
    assumption
  · refine .trans ?_ (State.grows.up_keeper _)
    assumption

theorem State.setAgent_grows (s : State) (n : Ch) (a : AgentSt) : s.grows (State.setAgent s n a) := by
  unfold State.setAgent
  refine .ite ?_ ?_
  · exact .refl
  · refine .trans ?_ (State.raiseAt_grows _ _ _ _)
    refine .trans ?_ (State.writeLast_grows _)
    refine .trans ?_ (State.updChan_grows _ _ _)
    exact .refl

theorem State.startDecant_grows (s : State) (n : Ch) : s.grows (State.startDecant s n) := by
  unfold State.startDecant
  extract_lets +onlyGivenNames x1
  refine .letS x1 ?_ (fun hx1 => ?_)
  · unfold x1
    refine .trans ?_ (State.updAgt_grows _ _ _)
    refine .trans ?_ (State.updChan_grows _ _ _)
    exact .refl
  clear_value x1
  refine .trans ?_ (State.noteSet_grows _ _)
  refine .trans ?_ (State.setAgent_grows _ _ _)
  assumption

theorem State.decantNew_grows (s : State) (n : Ch) : s.grows (State.decantNew s n) := by
  unfold State.decantNew
  refine .ite ?_ ?_
  · exact .refl
  · refine .ite ?_ ?_
    · refine .trans ?_ (State.startDecant_grows _ _)
      exact .refl
    · refine .trans ?_ (State.updAgt_grows _ _ _)
      exact .refl

theorem State.actsDue_grows (s : State) : s.grows (State.actsDue s) := by
  unfold State.actsDue
  refine forCh_grows _ _ (fun _ _ _ => ?_) ?_
  · refine .ite ?_ ?_
    · extract_lets +onlyGivenNames x1
      refine .letS x1 ?_ (fun hx1 => ?_)
      · unfold x1
        refine .trans ?_ (State.applyActs_grows _ _)
        assumption
      clear_value x1
      refine .ite ?_ ?_
      · refine .trans ?_ (State.decantNew_grows _ _)
        assumption
      · assumption
    · assumption
  · exact .refl

theorem State.addRepair_grows (s : State) (n : Ch) (k : SlotId) (copy : Nat) (metaPg : Bool) (i : Nat) (f : Repair → Repair) : s.grows (State.addRepair s n k copy metaPg i f) := by
  unfold State.addRepair
  split
  · exact .refl
  · extract_lets +onlyGivenNames x1
    clear_value x1
    extract_lets +onlyGivenNames x2
    clear_value x2
    extract_lets +onlyGivenNames x3
    clear_value x3
    extract_lets +onlyGivenNames x4
    clear_value x4
    extract_lets +onlyGivenNames x5
    clear_value x5
    refine .trans ?_ (State.updChan_grows _ _ _)
    exact .refl

theorem State.setView_grows (s : State) (q : Req) (v : ReqView) : s.grows (State.setView s q v) := by
  unfold State.setView
  split
  · refine .trans ?_ (State.grows.up_regs _)
    exact .refl
  · refine .trans ?_ (State.grows.up_regs _)
    exact .refl
  · refine .trans ?_ (State.grows.up_regs _)
    exact .refl

theorem State.addSample_grows (s : State) (q : Req) (key : Nat) (stride : Nat) (ws : List Word) : s.grows (State.addSample s q key stride ws) := by
  unfold State.addSample
  refine .trans ?_ (State.setView_grows _ _ _)
  exact .refl

theorem State.admin_grows {s0 : State} (s : State) (cid : Nat) (opcode : Nat) (k : State → State × Reply) (hk : ∀ (y0 : State), s0.grows y0 → s0.grows (k y0).1) (hs : s0.grows s) : s0.grows (State.admin s cid opcode k) := by
  unfold State.admin
  split
  · assumption
  · refine .ite ?_ ?_
    · assumption
    · refine .ite ?_ ?_
      · refine .trans ?_ (State.completeCmd_grows _ _ _)
        assumption
      · refine .ite ?_ ?_
        · refine .trans ?_ (State.completeCmd_grows _ _ _)
          assumption
        · extract_lets +onlyGivenNames x1
          refine .letP x1 ?_ (fun hx1 => ?_)
          · unfold x1
            apply hk
            assumption
          clear_value x1
          refine .trans ?_ (State.completeCmd_grows _ _ _)
          assumption

theorem State.adminHold_grows {s0 : State} (s : State) (cid : Nat) (opcode : Nat) (k : State → Fetched → State × Option Reply) (hk : ∀ (y0 : State) (y1 : Fetched), s0.grows y0 → s0.grows (k y0 y1).1) (hs : s0.grows s) : s0.grows (State.adminHold s cid opcode k) := by
  unfold State.adminHold
  split
  · assumption
  · refine .ite ?_ ?_
    · assumption
    · refine .ite ?_ ?_
      · refine .trans ?_ (State.completeCmd_grows _ _ _)
        assumption
      · refine .ite ?_ ?_
        · refine .trans ?_ (State.completeCmd_grows _ _ _)
          assumption
        · extract_lets +onlyGivenNames x1
          clear_value x1
          extract_lets +onlyGivenNames x2
          refine .letP x2 ?_ (fun hx2 => ?_)
          · unfold x2
            apply hk
            assumption
          clear_value x2
          split
          · refine .trans ?_ (State.completeCmd_grows _ _ _)
            assumption
          · extract_lets +onlyGivenNames x3
            refine .letS x3 ?_ (fun hx3 => ?_)
            · unfold x3
              assumption
            clear_value x3
            refine .trans ?_ (State.grows.up_host _)
            assumption

theorem State.placeData_grows (s : State) (f : Frame) : s.grows (State.placeData s f) := by
  unfold State.placeData
  extract_lets +onlyGivenNames x1
  clear_value x1
  split
  · exact .refl
  · refine .trans ?_ (State.grows.up_cellar _)
    exact .refl

theorem State.clearRefs_grows (s : State) (passed : List Nat) : s.grows (State.clearRefs s passed) := by
  unfold State.clearRefs
  refine .trans ?_ (State.grows.up_cellar _)
  exact .refl

theorem State.evict_grows (s : State) (ch : Nat) : s.grows (State.evict s ch) := by
  unfold State.evict
  split
  · exact .refl
  · extract_lets +onlyGivenNames x1
    refine .letS x1 ?_ (fun hx1 => ?_)
    · unfold x1
      refine .trans ?_ (State.clearRefs_grows _ _)
      refine .trans ?_ (State.cntNat_grows _ _ _ _)
      refine .trans ?_ (State.freeFrames_grows _ _)
      exact .refl
    clear_value x1
    refine .trans ?_ (State.grows.up_cellar _)
    assumption

theorem State.admitData_grows (s : State) (n : Ch) (anyway : Bool) (f : Frame) : s.grows (State.admitData s n anyway f).1 := by
  unfold State.admitData
  refine .ite_fst ?_ ?_
  · refine .fst_mk ?_
    refine .trans ?_ (State.cnt_grows _ _ _ _)
    refine .trans ?_ (State.placeData_grows _ _)
    exact .refl
  · split
    · refine .fst_mk ?_
      exact .refl
    · refine .fst_mk ?_
      refine .trans ?_ (State.cnt_grows _ _ _ _)
      refine .trans ?_ (State.placeData_grows _ _)
      refine .trans ?_ (State.evict_grows _ _)
      exact .refl

theorem State.evictNode_grows (s : State) : s.grows (State.evictNode s) := by
  unfold State.evictNode
  split
  · exact .refl
  · extract_lets +onlyGivenNames x1
    refine .letS x1 ?_ (fun hx1 => ?_)
    · unfold x1
      refine .trans ?_ (State.clearRefs_grows _ _)
      refine .trans ?_ (State.freeFrames_grows _ _)
      exact .refl
    clear_value x1
    refine .trans ?_ (State.grows.up_cellar _)
    assumption

theorem State.admitNode_grows (s : State) (f : Frame) : s.grows (State.admitNode s f) := by
  unfold State.admitNode
  extract_lets +onlyGivenNames x1
  refine .letS x1 ?_ (fun hx1 => ?_)
  · unfold x1
    refine .ite ?_ ?_
    · exact .refl
    · refine .trans ?_ (State.evictNode_grows _)
      exact .refl
  clear_value x1
  refine .ite ?_ ?_
  · assumption
  · extract_lets +onlyGivenNames x2
    refine .letS x2 ?_ (fun hx2 => ?_)
    · unfold x2
      refine .ite ?_ ?_
      · split
        · refine .trans ?_ (State.evict_grows _ _)
          assumption
        · assumption
      · assumption
    clear_value x2
    split
    · assumption
    · refine .trans ?_ (State.grows.up_cellar _)
      assumption

theorem State.bumpFree_grows (s : State) : s.grows (State.bumpFree s) := by
  unfold State.bumpFree
  refine .trans ?_ (State.grows.up_freeCtr _)
  exact .refl

theorem State.setOwn_grows (s : State) (q : Req) (off : Nat) (v : Word) : s.grows (State.setOwn s q off v) := by
  unfold State.setOwn
  refine .trans ?_ (State.setView_grows _ _ _)
  exact .refl

theorem State.autoInc_grows (s : State) (q : Req) (off : Nat) (autoBit : Nat) (wrap : Nat) : s.grows (State.autoInc s q off autoBit wrap) := by
  unfold State.autoInc
  refine .trans ?_ (State.setOwn_grows _ _ _ _)
  exact .refl

theorem State.moveIndex_grows (s : State) (q : Req) (off : Nat) : s.grows (State.moveIndex s q off) := by
  unfold State.moveIndex
  split
  · refine .trans ?_ (State.autoInc_grows _ _ _ _ _)
    exact .refl
  · exact .refl

theorem State.afterRead_grows (s : State) (q : Req) (off : Nat) : s.grows (State.afterRead s q off) := by
  unfold State.afterRead
  extract_lets +onlyGivenNames x1
  extract_lets +onlyGivenNames x2
  refine .letS x2 ?_ (fun hx2 => ?_)
  · unfold x2
    split
    · refine .trans ?_ (State.setView_grows _ _ _)
      exact .refl
    · exact .refl
  extract_lets +onlyGivenNames x3
  extract_lets +onlyGivenNames x4
  extract_lets +onlyGivenNames x5
  refine .letS x5 ?_ (fun hx5 => ?_)
  · unfold x5
    refine .ite ?_ ?_
    · refine .ite ?_ ?_
      · assumption
      · refine .trans ?_ (State.setView_grows _ _ _)
        assumption
    · assumption
  clear_value x5
  extract_lets +onlyGivenNames x6
  clear_value x6
  extract_lets +onlyGivenNames x7
  refine .letS x7 ?_ (fun hx7 => ?_)
  · unfold x7
    refine .ite ?_ ?_
    · refine .trans ?_ (State.setView_grows _ _ _)
      assumption
    · assumption
  clear_value x7
  extract_lets +onlyGivenNames x8
  refine .letS x8 ?_ (fun hx8 => ?_)
  · unfold x8
    refine .ite ?_ ?_
    · refine .trans ?_ (State.bumpFree_grows _)
      assumption
    · assumption
  clear_value x8
  refine .trans ?_ (State.moveIndex_grows _ _ _)
  assumption

theorem State.recomputeHitOnly_grows (s : State) (n : Ch) : s.grows (State.recomputeHitOnly s n) := by
  unfold State.recomputeHitOnly
  extract_lets +onlyGivenNames x1
  clear_value x1
  refine .trans ?_ (State.raiseIf_grows _ _ _ _)
  refine .trans ?_ (State.updPort_grows _ _ _)
  exact .refl

theorem State.buildSfdp_grows (s : State) (n : Ch) (words : Store) : s.grows (State.buildSfdp s n words) := by
  unfold State.buildSfdp
  extract_lets +onlyGivenNames x1
  clear_value x1
  refine .trans ?_ (State.updPort_grows _ _ _)
  exact .refl

theorem State.recomputeVworst_grows (s : State) (n : Ch) : s.grows (State.recomputeVworst s n) := by
  unfold State.recomputeVworst
  extract_lets +onlyGivenNames x1
  clear_value x1
  extract_lets +onlyGivenNames x2
  clear_value x2
  refine .trans ?_ (State.raiseIf_grows _ _ _ _)
  refine .trans ?_ (State.updChan_grows _ _ _)
  exact .refl

theorem State.afterTraining_grows (s : State) (n : Ch) : s.grows (State.afterTraining s n) := by
  unfold State.afterTraining
  extract_lets +onlyGivenNames x1
  clear_value x1
  extract_lets +onlyGivenNames x2
  refine .letS x2 ?_ (fun hx2 => ?_)
  · unfold x2
    refine .trans ?_ (State.recomputeHitOnly_grows _ _)
    exact .refl
  clear_value x2
  extract_lets +onlyGivenNames x3
  refine .letS x3 ?_ (fun hx3 => ?_)
  · unfold x3
    refine .ite ?_ ?_
    · assumption
    · refine .trans ?_ (State.buildSfdp_grows _ _ _)
      assumption
  clear_value x3
  refine .trans ?_ (State.recomputeVworst_grows _ _)
  assumption

theorem State.raiseSeal_grows (s : State) (src : Nat) (stream : Nat) : s.grows (State.raiseSeal s src stream) := by
  unfold State.raiseSeal
  refine .trans ?_ (State.raise_grows _ _ _)
  exact .refl

theorem State.applyAnchor_grows (s : State) (epoch : Nat) : s.grows (State.applyAnchor s epoch).1 := by
  unfold State.applyAnchor
  split
  · refine .fst_mk ?_
    exact .refl
  · extract_lets +onlyGivenNames x1
    clear_value x1
    extract_lets +onlyGivenNames x2
    clear_value x2
    extract_lets +onlyGivenNames x3
    clear_value x3
    extract_lets +onlyGivenNames x4
    clear_value x4
    extract_lets +onlyGivenNames x5
    clear_value x5
    extract_lets +onlyGivenNames x6
    clear_value x6
    extract_lets +onlyGivenNames x7
    clear_value x7
    extract_lets +onlyGivenNames x8
    clear_value x8
    extract_lets +onlyGivenNames x9
    clear_value x9
    extract_lets +onlyGivenNames x10
    clear_value x10
    extract_lets +onlyGivenNames x11
    refine .letS x11 ?_ (fun hx11 => ?_)
    · unfold x11
      refine .trans ?_ (State.grows.up_keeper _)
      exact .refl
    clear_value x11
    extract_lets +onlyGivenNames x12
    clear_value x12
    extract_lets +onlyGivenNames x13
    clear_value x13
    extract_lets +onlyGivenNames x14
    clear_value x14
    extract_lets +onlyGivenNames x15
    refine .letS x15 ?_ (fun hx15 => ?_)
    · unfold x15
      refine .trans ?_ (State.grows.up_sealing _)
      assumption
    clear_value x15
    refine .fst_mk ?_
    refine .trans ?_ (State.raiseIf_grows _ _ _ _)
    refine .trans ?_ (State.raiseSeal_grows _ _ _)
    refine .trans ?_ (State.cntQ_grows _ _ _)
    assumption

theorem State.setCask_grows (s : State) (i : Nat) (c : Cask) : s.grows (State.setCask s i c) := by
  unfold State.setCask
  refine .dite (fun _ => ?_) (fun _ => ?_)
  · refine .trans ?_ (State.grows.up_crypt _)
    exact .refl
  · exact .refl

theorem State.segCredit_grows (s : State) (stream : Nat) : s.grows (State.segCredit s stream) := by
  unfold State.segCredit
  extract_lets +onlyGivenNames x1
  clear_value x1
  refine .trans ?_ (State.grows.up_press _)
  exact .refl

theorem State.dropQueue_grows (s : State) (a1 : Stream) (st : Status) : s.grows (State.dropQueue s a1 st) := by
  unfold State.dropQueue
  refine .foldl (fun _ _ _ => ?_) ?_
  · refine .trans ?_ (State.failSeg_grows _ _ _)
    assumption
  · exact .refl

theorem State.setStream_grows (s : State) (a1 : Stream) : s.grows (State.setStream s a1) := by
  unfold State.setStream
  refine .trans ?_ (State.grows.up_sealing _)
  exact .refl

theorem State.closeStream_grows (s : State) (a1 : Stream) : s.grows (State.closeStream s a1) := by
  unfold State.closeStream
  extract_lets +onlyGivenNames x1
  refine .letS x1 ?_ (fun hx1 => ?_)
  · unfold x1
    refine .trans ?_ (State.dropQueue_grows _ _ _)
    exact .refl
  clear_value x1
  refine .trans ?_ (State.raiseSeal_grows _ _ _)
  refine .trans ?_ (State.setStream_grows _ _)
  assumption

theorem State.closeWaiting_grows (s : State) (a1 : Stream) : s.grows (State.closeWaiting s a1) := by
  unfold State.closeWaiting
  split
  · refine .trans ?_ (State.completeCmd_grows _ _ _)
    refine .trans ?_ (State.closeStream_grows _ _)
    exact .refl
  · exact .refl

theorem State.loseKey_grows (s : State) (a1 : Stream) : s.grows (State.loseKey s a1) := by
  unfold State.loseKey
  extract_lets +onlyGivenNames x1
  refine .letS x1 ?_ (fun hx1 => ?_)
  · unfold x1
    split
    · refine .trans ?_ (State.raise_grows _ _ _)
      refine .trans ?_ (State.failSeg_grows _ _ _)
      refine .trans ?_ (State.segCredit_grows _ _)
      exact .refl
    · exact .refl
  clear_value x1
  extract_lets +onlyGivenNames x2
  refine .letS x2 ?_ (fun hx2 => ?_)
  · unfold x2
    refine .trans ?_ (State.dropQueue_grows _ _ _)
    assumption
  clear_value x2
  extract_lets +onlyGivenNames x3
  clear_value x3
  extract_lets +onlyGivenNames x4
  refine .letS x4 ?_ (fun hx4 => ?_)
  · unfold x4
    refine .trans ?_ (State.raiseSeal_grows _ _ _)
    refine .trans ?_ (State.setStream_grows _ _)
    assumption
  clear_value x4
  refine .trans ?_ (State.closeWaiting_grows _ _)
  assumption

theorem State.loseKeys_grows (s : State) (casks : List Nat) : s.grows (State.loseKeys s casks) := by
  unfold State.loseKeys
  refine .foldl (fun _ _ _ => ?_) ?_
  · refine .trans ?_ (State.loseKey_grows _ _)
    assumption
  · exact .refl

theorem State.invalidate_grows (s : State) (i : Nat) : s.grows (State.invalidate s i) := by
  unfold State.invalidate
  extract_lets +onlyGivenNames x1
  clear_value x1
  extract_lets +onlyGivenNames x2
  refine .letS x2 ?_ (fun hx2 => ?_)
  · unfold x2
    refine .foldl (fun _ _ _ => ?_) ?_
    · refine .trans ?_ (State.setCask_grows _ _ _)
      assumption
    · exact .refl
  clear_value x2
  extract_lets +onlyGivenNames x3
  clear_value x3
  extract_lets +onlyGivenNames x4
  refine .letS x4 ?_ (fun hx4 => ?_)
  · unfold x4
    refine .trans ?_ (State.grows.up_crypt _)
    assumption
  clear_value x4
  refine .trans ?_ (State.raise_grows _ _ _)
  refine .trans ?_ (State.loseKeys_grows _ _)
  assumption

theorem State.drawn_grows (s : State) : s.grows (State.drawn s) := by
  unfold State.drawn
  refine .trans ?_ (State.grows.up_crypt _)
  exact .refl

theorem State.fill_grows (s : State) (i : Nat) (c : Cask) (material : Nat) : s.grows (State.fill s i c material) := by
  unfold State.fill
  extract_lets +onlyGivenNames x1
  clear_value x1
  refine .trans ?_ (State.setCask_grows _ _ _)
  refine .trans ?_ (State.drawn_grows _)
  exact .refl

theorem State.loadKey_grows (s : State) (k : KeyRec) : s.grows (State.loadKey s k) := by
  unfold State.loadKey
  refine .trans ?_ (State.fill_grows _ _ _ _)
  exact .refl

theorem State.applyChange_grows (s : State) (c : KeyChange) : s.grows (State.applyChange s c).1 := by
  unfold State.applyChange
  extract_lets +onlyGivenNames x1
  clear_value x1
  split
  · extract_lets +onlyGivenNames x2
    clear_value x2
    extract_lets +onlyGivenNames x3
    refine .letS x3 ?_ (fun hx3 => ?_)
    · unfold x3
      refine .ite ?_ ?_
      · refine .trans ?_ (State.invalidate_grows _ _)
        exact .refl
      · exact .refl
    clear_value x3
    extract_lets +onlyGivenNames x4
    refine .letS x4 ?_ (fun hx4 => ?_)
    · unfold x4
      refine .trans ?_ (State.loadKey_grows _ _)
      assumption
    clear_value x4
    refine .fst_mk ?_
    refine .trans ?_ (State.raise_grows _ _ _)
    refine .trans ?_ (State.grows.up_crypt _)
    assumption
  · extract_lets +onlyGivenNames x5
    refine .letS x5 ?_ (fun hx5 => ?_)
    · unfold x5
      refine .trans ?_ (State.setCask_grows _ _ _)
      refine .trans ?_ (State.invalidate_grows _ _)
      exact .refl
    clear_value x5
    refine .fst_mk ?_
    refine .trans ?_ (State.raise_grows _ _ _)
    refine .trans ?_ (State.grows.up_crypt _)
    assumption
  · refine .fst_mk ?_
    refine .trans ?_ (State.raise_grows _ _ _)
    refine .trans ?_ (State.grows.up_crypt _)
    exact .refl

theorem State.restoreActs_grows (s : State) (n : Ch) : s.grows (State.restoreActs s n) := by
  unfold State.restoreActs
  refine .foldl (fun _ _ _ => ?_) ?_
  · refine .ite ?_ ?_
    · refine .trans ?_ (State.setCfg_grows _ _ _)
      assumption
    · assumption
  · exact .refl

theorem State.disableAgent_grows (s : State) (n : Ch) : s.grows (State.disableAgent s n) := by
  unfold State.disableAgent
  extract_lets +onlyGivenNames x1
  clear_value x1
  extract_lets +onlyGivenNames x2
  clear_value x2
  extract_lets +onlyGivenNames x3
  refine .letS x3 ?_ (fun hx3 => ?_)
  · unfold x3
    refine .trans ?_ (State.grows.up_regs _)
    exact .refl
  clear_value x3
  extract_lets +onlyGivenNames x4
  refine .letS x4 ?_ (fun hx4 => ?_)
  · unfold x4
    refine .trans ?_ (State.setAgent_grows _ _ _)
    refine .trans ?_ (State.updChan_grows _ _ _)
    assumption
  clear_value x4
  refine .trans ?_ (State.grows.up_ctl_ident _ _)
  assumption

theorem State.requestSub_grows (s : State) (n : Ch) : s.grows (State.requestSub s n) := by
  unfold State.requestSub
  refine .ite ?_ ?_
  · refine .trans ?_ (State.grows.up_ctl _)
    exact .refl
  · exact .refl

theorem State.bootPort_grows (s : State) (n : Ch) : s.grows (State.bootPort s n) := by
  unfold State.bootPort
  extract_lets +onlyGivenNames x1
  clear_value x1
  extract_lets +onlyGivenNames x2
  clear_value x2
  refine .trans ?_ (State.updPort_grows _ _ _)
  exact .refl

theorem State.flash_grows (s : State) (n : Ch) (k : PartId) (op : FlashOp) (addr : List Byte) (len : Nat) (data : List Byte) : s.grows (State.flash s n k op addr len data) := by
  unfold State.flash
  refine .trans ?_ (State.emit_grows _ _)
  exact .refl

theorem State.opCmd_grows (s : State) (n : Ch) (o : AgentOp) (c : FlashOp) : s.grows (State.opCmd s n o c) := by
  unfold State.opCmd
  refine .foldl (fun _ _ _ => ?_) ?_
  · refine .trans ?_ (State.flash_grows _ _ _ _ _ _ _)
    assumption
  · exact .refl

theorem State.updPart_grows (s : State) (n : Ch) (k : PartId) (f : Part → Part) : s.grows (State.updPart s n k f) := by
  unfold State.updPart
  refine .trans ?_ (State.updChan_grows _ _ _)
  exact .refl

theorem State.setBusy_grows (s : State) (n : Ch) (ks : List PartId) (b : Option Busy) : s.grows (State.setBusy s n ks b) := by
  unfold State.setBusy
  refine .foldl (fun _ _ _ => ?_) ?_
  · refine .trans ?_ (State.updPart_grows _ _ _ _)
    assumption
  · exact .refl

theorem State.resumeAll_grows (s : State) (n : Ch) : s.grows (State.resumeAll s n) := by
  unfold State.resumeAll
  extract_lets +onlyGivenNames x1
  clear_value x1
  extract_lets +onlyGivenNames x2
  refine .letS x2 ?_ (fun hx2 => ?_)
  · unfold x2
    split
    · refine .trans ?_ (State.opCmd_grows _ _ _ _)
      refine .trans ?_ (State.setBusy_grows _ _ _ _)
      exact .refl
    · exact .refl
  clear_value x2
  refine .trans ?_ (State.updPort_grows _ _ _)
  assumption

theorem State.dropReset_grows (s : State) (n : Ch) : s.grows (State.dropReset s n) := by
  unfold State.dropReset
  extract_lets +onlyGivenNames x1
  refine .letS x1 ?_ (fun hx1 => ?_)
  · unfold x1
    refine .trans ?_ (State.bootPort_grows _ _)
    refine .trans ?_ (State.resumeAll_grows _ _)
    exact .refl
  clear_value x1
  extract_lets +onlyGivenNames x2
  refine .letS x2 ?_ (fun hx2 => ?_)
  · unfold x2
    refine .trans ?_ (State.updAgt_grows _ _ _)
    assumption
  clear_value x2
  refine .trans ?_ (State.setPhase_grows _ _ _)
  assumption

theorem State.pressEnd_grows (s : State) (p : Job → Bool) : s.grows (State.pressEnd s p) := by
  unfold State.pressEnd
  refine .trans ?_ (State.grows.up_press _)
  exact .refl

theorem State.dropFrames_grows (s : State) (n : Ch) : s.grows (State.dropFrames s n) := by
  unfold State.dropFrames
  refine .trans ?_ (State.updChan_grows _ _ _)
  refine .trans ?_ (State.pressEnd_grows _ _)
  refine .trans ?_ (State.freeChan_grows _ _)
  exact .refl

theorem State.beginRollback_grows (s : State) (n : Ch) (k : SlotId) : s.grows (State.beginRollback s n k) := by
  unfold State.beginRollback
  extract_lets +onlyGivenNames x1
  clear_value x1
  extract_lets +onlyGivenNames x2
  refine .letS x2 ?_ (fun hx2 => ?_)
  · unfold x2
    refine .trans ?_ (State.raiseCh_grows _ _ _ _)
    refine .trans ?_ (State.updSlot_grows _ _ _ _)
    exact .refl
  clear_value x2
  refine .trans ?_ (State.intent_grows _ _ _ _ _ _ _ _ _ _)
  assumption

theorem State.resetSlot_grows (s : State) (n : Ch) (k : SlotId) : s.grows (State.resetSlot s n k) := by
  unfold State.resetSlot
  split
  · refine .trans ?_ (State.updSlot_grows _ _ _ _)
    exact .refl
  · refine .trans ?_ (State.updSlot_grows _ _ _ _)
    refine .trans ?_ (State.beginRollback_grows _ _ _)
    exact .refl
  · exact .refl

theorem State.resetSlots_grows (s : State) (n : Ch) : s.grows (State.resetSlots s n).1 := by
  unfold State.resetSlots
  extract_lets +onlyGivenNames x1
  refine .letS x1 ?_ (fun hx1 => ?_)
  · unfold x1
    refine .foldl (fun _ _ _ => ?_) ?_
    · refine .trans ?_ (State.resetSlot_grows _ _ _)
      assumption
    · exact .refl
  clear_value x1
  refine .fst_mk ?_
  refine .trans ?_ (State.applyActs_grows _ _)
  assumption

theorem State.setPin_grows (s : State) (k : Nat) (on : Bool) : s.grows (State.setPin s k on) := by
  unfold State.setPin
  extract_lets +onlyGivenNames x1
  clear_value x1
  refine .trans ?_ (State.grows.up_ctl _)
  exact .refl

theorem State.powerOffQ_grows (s : State) (n : Ch) : s.grows (State.powerOffQ s n) := by
  unfold State.powerOffQ
  refine .ite ?_ ?_
  · split
    · refine .trans ?_ (State.setPin_grows _ _ _)
      refine .trans ?_ (State.updAgt_grows _ _ _)
      exact .refl
    · exact .refl
  · exact .refl

theorem State.reimage_grows (s : State) (n : Ch) (job : RecJob) : s.grows (State.reimage s n job) := by
  unfold State.reimage
  extract_lets +onlyGivenNames x1
  refine .letS x1 ?_ (fun hx1 => ?_)
  · unfold x1
    refine .trans ?_ (State.powerOffQ_grows _ _)
    refine .trans ?_ (State.setAgent_grows _ _ _)
    refine .trans ?_ (State.dropFrames_grows _ _)
    exact .refl
  clear_value x1
  extract_lets +onlyGivenNames x2
  refine .letS x2 ?_ (fun hx2 => ?_)
  · unfold x2
    refine .trans ?_ (State.updAgt_grows _ _ _)
    assumption
  clear_value x2
  refine .trans ?_ (State.grows.up_ident _)
  assumption

theorem State.enterReimaging_grows (s : State) (n : Ch) (slots : List Nat) (source : Nat) (single : Bool) : s.grows (State.enterReimaging s n slots source single) := by
  unfold State.enterReimaging
  refine .trans ?_ (State.raise_grows _ _ _)
  refine .trans ?_ (State.reimage_grows _ _ _)
  exact .refl

theorem State.quarantine_grows (s : State) (n : Ch) (cause : Nat) : s.grows (State.quarantine s n cause) := by
  unfold State.quarantine
  extract_lets +onlyGivenNames x1
  clear_value x1
  refine .ite ?_ ?_
  · exact .refl
  · extract_lets +onlyGivenNames x2
    refine .letS x2 ?_ (fun hx2 => ?_)
    · unfold x2
      refine .ite ?_ ?_
      · refine .trans ?_ (State.dropReset_grows _ _)
        exact .refl
      · exact .refl
    clear_value x2
    extract_lets +onlyGivenNames x3
    refine .letS x3 ?_ (fun hx3 => ?_)
    · unfold x3
      refine .trans ?_ (State.updChan_grows _ _ _)
      refine .trans ?_ (State.updPort_grows _ _ _)
      assumption
    clear_value x3
    extract_lets +onlyGivenNames x4
    refine .letS x4 ?_ (fun hx4 => ?_)
    · unfold x4
      refine .trans ?_ (State.setAgent_grows _ _ _)
      refine .trans ?_ (State.dropFrames_grows _ _)
      refine .trans ?_ (State.resetSlots_grows _ _)
      assumption
    clear_value x4
    extract_lets +onlyGivenNames x5
    clear_value x5
    extract_lets +onlyGivenNames x6
    refine .letS x6 ?_ (fun hx6 => ?_)
    · unfold x6
      refine .trans ?_ (State.updAgt_grows _ _ _)
      assumption
    clear_value x6
    extract_lets +onlyGivenNames x7
    clear_value x7
    extract_lets +onlyGivenNames x8
    refine .letS x8 ?_ (fun hx8 => ?_)
    · unfold x8
      refine .trans ?_ (State.grows.up_ctl _)
      assumption
    clear_value x8
    extract_lets +onlyGivenNames x9
    refine .letS x9 ?_ (fun hx9 => ?_)
    · unfold x9
      refine .trans ?_ (State.powerOffQ_grows _ _)
      assumption
    clear_value x9
    extract_lets +onlyGivenNames x10
    clear_value x10
    refine .ite ?_ ?_
    · refine .trans ?_ (State.raise_grows _ _ _)
      refine .trans ?_ (State.enterReimaging_grows _ _ _ _ _)
      assumption
    · refine .ite ?_ ?_
      · refine .trans ?_ (State.enterReimaging_grows _ _ _ _ _)
        assumption
      · assumption

theorem State.noFit_grows (s : State) (n : Ch) : s.grows (State.noFit s n) := by
  unfold State.noFit
  refine .trans ?_ (State.quarantine_grows _ _ _)
  refine .trans ?_ (State.raiseCh_grows _ _ _ _)
  refine .trans ?_ (State.updChan_grows _ _ _)
  refine .trans ?_ (State.grows.up_cellar _)
  exact .refl

theorem State.reserve_grows (s : State) (n : Ch) : s.grows (State.reserve s n) := by
  unfold State.reserve
  refine .ite ?_ ?_
  · refine .trans ?_ (State.startDecant_grows _ _)
    refine .trans ?_ (State.updChan_grows _ _ _)
    exact .refl
  · refine .trans ?_ (State.noFit_grows _ _)
    refine .trans ?_ (State.setAgent_grows _ _ _)
    exact .refl

theorem State.tryDecant_grows (s : State) (n : Ch) : s.grows (State.tryDecant s n) := by
  unfold State.tryDecant
  refine .ite ?_ ?_
  · refine .trans ?_ (State.reserve_grows _ _)
    exact .refl
  · exact .refl

theorem State.enableAgent_grows (s : State) (n : Ch) : s.grows (State.enableAgent s n) := by
  unfold State.enableAgent
  extract_lets +onlyGivenNames x1
  refine .letS x1 ?_ (fun hx1 => ?_)
  · unfold x1
    refine .trans ?_ (State.setAgent_grows _ _ _)
    refine .trans ?_ (State.updAgt_grows _ _ _)
    exact .refl
  clear_value x1
  refine .trans ?_ (State.requestSub_grows _ _)
  refine .trans ?_ (State.tryDecant_grows _ _)
  assumption

theorem State.redecant_grows (s : State) (n : Ch) : s.grows (State.redecant s n) := by
  unfold State.redecant
  refine .ite ?_ ?_
  · refine .trans ?_ (State.reserve_grows _ _)
    exact .refl
  · refine .trans ?_ (State.updAgt_grows _ _ _)
    exact .refl

theorem State.applyLayout_grows (s : State) (old : Nat → Word) (n : Ch) : s.grows (State.applyLayout s old n) := by
  unfold State.applyLayout
  extract_lets +onlyGivenNames x1
  clear_value x1
  extract_lets +onlyGivenNames x2
  clear_value x2
  extract_lets +onlyGivenNames x3
  refine .letS x3 ?_ (fun hx3 => ?_)
  · unfold x3
    refine .ite ?_ ?_
    · exact .refl
    · refine .trans ?_ (State.restoreActs_grows _ _)
      exact .refl
  clear_value x3
  extract_lets +onlyGivenNames x4
  clear_value x4
  extract_lets +onlyGivenNames x5
  refine .letS x5 ?_ (fun hx5 => ?_)
  · unfold x5
    refine .trans ?_ (State.updChan_grows _ _ _)
    refine .trans ?_ (State.freeChan_grows _ _)
    assumption
  clear_value x5
  extract_lets +onlyGivenNames x6
  clear_value x6
  extract_lets +onlyGivenNames x7
  refine .letS x7 ?_ (fun hx7 => ?_)
  · unfold x7
    refine .trans ?_ (State.grows.up_vault _)
    assumption
  clear_value x7
  refine .ite ?_ ?_
  · refine .trans ?_ (State.disableAgent_grows _ _)
    assumption
  · refine .ite ?_ ?_
    · refine .trans ?_ (State.enableAgent_grows _ _)
      assumption
    · refine .ite ?_ ?_
      · refine .trans ?_ (State.redecant_grows _ _)
        assumption
      · assumption

theorem State.sendReceipt_grows (s : State) (r : Retained) : s.grows (State.sendReceipt s r) := by
  unfold State.sendReceipt
  split
  · refine .trans ?_ (State.hostWrite_grows _ _ _)
    exact .refl
  · exact .refl

theorem State.flushCpl_grows (s : State) : s.grows (State.flushCpl s) := by
  unfold State.flushCpl
  extract_lets +onlyGivenNames x1
  refine .letS x1 ?_ (fun hx1 => ?_)
  · unfold x1
    refine .foldl (fun _ _ _ => ?_) ?_
    · refine .trans ?_ (State.sendReceipt_grows _ _)
      assumption
    · exact .refl
  clear_value x1
  extract_lets +onlyGivenNames x2
  refine .letP x2 ?_ (fun hx2 => ?_)
  · unfold x2
    refine .foldl_fst (fun _ _ _ => ?_) ?_
    · extract_lets +onlyGivenNames x3
      refine .letP x3 ?_ (fun hx3 => ?_)
      · unfold x3
        refine .trans ?_ (State.sendCpl_grows _ _)
        assumption
      clear_value x3
      refine .fst_mk ?_
      assumption
    · refine .fst_mk ?_
      assumption
  clear_value x2
  extract_lets +onlyGivenNames x4
  refine .letS x4 ?_ (fun hx4 => ?_)
  · unfold x4
    assumption
  clear_value x4
  refine .trans ?_ (State.grows.up_host _)
  assumption

theorem State.replay_grows (s : State) (q : Nat) : s.grows (State.replay s q) := by
  unfold State.replay
  refine .ite ?_ ?_
  · extract_lets +onlyGivenNames x1
    clear_value x1
    extract_lets +onlyGivenNames x2
    refine .letS x2 ?_ (fun hx2 => ?_)
    · unfold x2
      refine .trans ?_ (State.grows.up_host _)
      exact .refl
    clear_value x2
    refine .trans ?_ (State.raise_grows _ _ _)
    refine .trans ?_ (State.flushCpl_grows _)
    assumption
  · exact .refl

theorem State.applyQueues_grows (s : State) (old : Nat → Word) : s.grows (State.applyQueues s old) := by
  unfold State.applyQueues
  extract_lets +onlyGivenNames x1
  clear_value x1
  extract_lets +onlyGivenNames x2
  clear_value x2
  extract_lets +onlyGivenNames x3
  clear_value x3
  extract_lets +onlyGivenNames x4
  refine .letS x4 ?_ (fun hx4 => ?_)
  · unfold x4
    refine .foldl (fun _ _ _ => ?_) ?_
    · refine .trans ?_ (State.abortQueue_grows _ _)
      assumption
    · exact .refl
  clear_value x4
  extract_lets +onlyGivenNames x5
  refine .letS x5 ?_ (fun hx5 => ?_)
  · unfold x5
    refine .foldl (fun _ _ _ => ?_) ?_
    · refine .trans ?_ (State.updQueue_grows _ _ _)
      assumption
    · assumption
  clear_value x5
  extract_lets +onlyGivenNames x6
  clear_value x6
  extract_lets +onlyGivenNames x7
  refine .letS x7 ?_ (fun hx7 => ?_)
  · unfold x7
    refine .foldl (fun _ _ _ => ?_) ?_
    · refine .trans ?_ (State.updQueue_grows _ _ _)
      assumption
    · assumption
  clear_value x7
  refine .foldl (fun _ _ _ => ?_) ?_
  · refine .trans ?_ (State.replay_grows _ _)
    assumption
  · assumption

theorem State.sealDisable_grows (s : State) : s.grows (State.sealDisable s) := by
  unfold State.sealDisable
  refine .ite ?_ ?_
  · exact .refl
  · extract_lets +onlyGivenNames x1
    refine .letS x1 ?_ (fun hx1 => ?_)
    · unfold x1
      refine .foldl (fun _ _ _ => ?_) ?_
      · extract_lets +onlyGivenNames x2
        refine .letS x2 ?_ (fun hx2 => ?_)
        · unfold x2
          split
          · refine .trans ?_ (State.failSeg_grows _ _ _)
            refine .trans ?_ (State.segCredit_grows _ _)
            assumption
          · assumption
        clear_value x2
        extract_lets +onlyGivenNames x3
        refine .letS x3 ?_ (fun hx3 => ?_)
        · unfold x3
          refine .trans ?_ (State.dropQueue_grows _ _ _)
          assumption
        clear_value x3
        split
        · refine .trans ?_ (State.completeCmd_grows _ _ _)
          assumption
        · assumption
      · exact .refl
    clear_value x1
    refine .trans ?_ (State.grows.up_sealing _)
    assumption

theorem State.applyEffects_grows (s : State) (old : Nat → Word) (staged : Store) (groups : List Nat) : s.grows (State.applyEffects s old staged groups) := by
  unfold State.applyEffects
  extract_lets +onlyGivenNames x1
  refine .letS x1 ?_ (fun hx1 => ?_)
  · unfold x1
    refine forCh_grows _ _ (fun _ _ _ => ?_) ?_
    · refine .ite ?_ ?_
      · refine .trans ?_ (State.recomputeHitOnly_grows _ _)
        assumption
      · assumption
    · exact .refl
  clear_value x1
  extract_lets +onlyGivenNames x2
  refine .letS x2 ?_ (fun hx2 => ?_)
  · unfold x2
    refine forCh_grows _ _ (fun _ _ _ => ?_) ?_
    · refine .ite ?_ ?_
      · refine .trans ?_ (State.buildSfdp_grows _ _ _)
        assumption
      · assumption
    · assumption
  clear_value x2
  extract_lets +onlyGivenNames x3
  refine .letS x3 ?_ (fun hx3 => ?_)
  · unfold x3
    refine forCh_grows _ _ (fun _ _ _ => ?_) ?_
    · refine .ite ?_ ?_
      · refine .trans ?_ (State.applyLayout_grows _ _ _)
        assumption
      · assumption
    · assumption
  clear_value x3
  extract_lets +onlyGivenNames x4
  refine .letS x4 ?_ (fun hx4 => ?_)
  · unfold x4
    refine .ite ?_ ?_
    · refine .trans ?_ (State.applyQueues_grows _ _)
      assumption
    · assumption
  clear_value x4
  extract_lets +onlyGivenNames x5
  refine .letS x5 ?_ (fun hx5 => ?_)
  · unfold x5
    refine .ite ?_ ?_
    · refine forCh_grows _ _ (fun _ _ _ => ?_) ?_
      · refine .ite ?_ ?_
        · refine .trans ?_ (State.updAgt_grows _ _ _)
          assumption
        · assumption
      · assumption
    · assumption
  clear_value x5
  refine .ite ?_ ?_
  · refine .trans ?_ (State.sealDisable_grows _)
    assumption
  · assumption

theorem State.armXip_grows (s : State) (t : Txn) (acfg : Word) (e : Word) (done : Bool) : s.grows (State.armXip s t acfg e done) := by
  unfold State.armXip
  extract_lets +onlyGivenNames x1
  clear_value x1
  extract_lets +onlyGivenNames x2
  clear_value x2
  refine .trans ?_ (State.updPort_grows _ _ _)
  exact .refl

theorem State.updSb_grows (s : State) (p : Nat) (f : SbPort → SbPort) : s.grows (State.updSb s p f) := by
  unfold State.updSb
  refine .dite (fun _ => ?_) (fun _ => ?_)
  · refine .trans ?_ (State.grows.up_side _)
    exact .refl
  · exact .refl

theorem State.queueResponse_grows (s : State) (p : Nat) (bs : List Byte) : s.grows (State.queueResponse s p bs) := by
  unfold State.queueResponse
  extract_lets +onlyGivenNames x1
  clear_value x1
  extract_lets +onlyGivenNames x2
  refine .letS x2 ?_ (fun hx2 => ?_)
  · unfold x2
    refine .trans ?_ (State.updSb_grows _ _ _)
    exact .refl
  clear_value x2
  refine .ite ?_ ?_
  · refine .trans ?_ (State.emit_grows _ _)
    assumption
  · assumption

theorem State.spdmSay_grows (s : State) (eid : Nat) (tr : Nat) (code : Nat) (body : List Byte) : s.grows (State.spdmSay s eid tr code body) := by
  unfold State.spdmSay
  extract_lets +onlyGivenNames x1
  refine .letS x1 ?_ (fun hx1 => ?_)
  · unfold x1
    refine .trans ?_ (State.emit_grows _ _)
    exact .refl
  clear_value x1
  refine .ite ?_ ?_
  · refine .trans ?_ (State.queueResponse_grows _ _ _)
    assumption
  · refine .foldl (fun _ _ _ => ?_) ?_
    · refine .trans ?_ (State.emit_grows _ _)
      assumption
    · assumption

theorem State.askAgent_grows (s : State) (r : SpdmReq) (step : Nat) : s.grows (State.askAgent s r step) := by
  unfold State.askAgent
  split
  · refine .trans ?_ (State.spdmSay_grows _ _ _ _ _)
    exact .refl
  · refine .trans ?_ (State.spdmSay_grows _ _ _ _ _)
    refine .trans ?_ (State.drawn_grows _)
    exact .refl
  · refine .trans ?_ (State.spdmSay_grows _ _ _ _ _)
    exact .refl

theorem State.setSticky_grows (s : State) (off : Nat) (bits : Word) : s.grows (State.setSticky s off bits) := by
  unfold State.setSticky
  refine .trans ?_ (State.grows.up_regs _)
  exact .refl

theorem State.updAux_grows (s : State) (a : Nat) (f : AuxPort → AuxPort) : s.grows (State.updAux s a f) := by
  unfold State.updAux
  refine .dite (fun _ => ?_) (fun _ => ?_)
  · refine .trans ?_ (State.grows.up_aux _)
    exact .refl
  · exact .refl

theorem State.auxEnd_grows (s : State) (a : Nat) (n : Nat) (rx : List Byte) : s.grows (State.auxEnd s a n rx) := by
  unfold State.auxEnd
  refine .trans ?_ (State.updAux_grows _ _ _)
  exact .refl

theorem State.auxAbort_grows (s : State) (a : Nat) (n : Nat) (rx : List Byte) : s.grows (State.auxAbort s a n rx) := by
  unfold State.auxAbort
  refine .ite ?_ ?_
  · refine .trans ?_ (State.raise_grows _ _ _)
    refine .trans ?_ (State.setSticky_grows _ _ _)
    refine .trans ?_ (State.auxEnd_grows _ _ _ _)
    exact .refl
  · exact .refl

theorem State.auxBegin_grows (s : State) (a : Nat) (sel : Nat) (len : Nat) (frame : Bool) (ftx : Word) : s.grows (State.auxBegin s a sel len frame ftx) := by
  unfold State.auxBegin
  extract_lets +onlyGivenNames x1
  refine .letS x1 ?_ (fun hx1 => ?_)
  · unfold x1
    refine .trans ?_ (State.updAux_grows _ _ _)
    exact .refl
  clear_value x1
  refine .ite ?_ ?_
  · refine .trans ?_ (State.emit_grows _ _)
    assumption
  · assumption

theorem State.auxReject_grows (s : State) (a : Nat) : s.grows (State.auxReject s a) := by
  unfold State.auxReject
  refine .trans ?_ (State.raise_grows _ _ _)
  refine .trans ?_ (State.setSticky_grows _ _ _)
  exact .refl

theorem State.auxGo_grows (s : State) (a : Nat) (sel : Nat) (len : Nat) : s.grows (State.auxGo s a sel len) := by
  unfold State.auxGo
  refine .ite ?_ ?_
  · exact .refl
  · refine .ite ?_ ?_
    · refine .trans ?_ (State.auxReject_grows _ _)
      exact .refl
    · refine .trans ?_ (State.auxBegin_grows _ _ _ _ _ _)
      exact .refl

theorem State.auxCtl_grows (s : State) (a : Nat) (v : Word) : s.grows (State.auxCtl s a v) := by
  unfold State.auxCtl
  extract_lets +onlyGivenNames x1
  clear_value x1
  extract_lets +onlyGivenNames x2
  refine .letS x2 ?_ (fun hx2 => ?_)
  · unfold x2
    refine .ite ?_ ?_
    · refine .trans ?_ (State.auxGo_grows _ _ _ _)
      exact .refl
    · exact .refl
  clear_value x2
  refine .ite ?_ ?_
  · extract_lets +onlyGivenNames x3
    clear_value x3
    refine .trans ?_ (State.auxAbort_grows _ _ _ _)
    refine .trans ?_ (State.bumpFree_grows _)
    assumption
  · assumption

theorem State.recheckSets_grows (s : State) : s.grows (State.recheckSets s) := by
  unfold State.recheckSets
  refine forCh_grows _ _ (fun _ _ _ => ?_) ?_
  · refine .trans ?_ (State.updChan_grows _ _ _)
    assumption
  · exact .refl

theorem State.refit_grows (s : State) : s.grows (State.refit s) := by
  unfold State.refit
  refine .foldl_fst (fun _ _ _ => ?_) ?_
  · extract_lets +onlyGivenNames x1
    clear_value x1
    refine .ite_fst ?_ ?_
    · assumption
    · refine .ite_fst ?_ ?_
      · refine .fst_mk ?_
        assumption
      · refine .fst_mk ?_
        refine .trans ?_ (State.noFit_grows _ _)
        assumption
  · refine .fst_mk ?_
    exact .refl

theorem State.setMode_grows (s : State) (m : Mode) (cause : Nat) : s.grows (State.setMode s m cause) := by
  unfold State.setMode
  extract_lets +onlyGivenNames x1
  clear_value x1
  extract_lets +onlyGivenNames x2
  clear_value x2
  extract_lets +onlyGivenNames x3
  clear_value x3
  extract_lets +onlyGivenNames x4
  refine .letS x4 ?_ (fun hx4 => ?_)
  · unfold x4
    refine .trans ?_ (State.grows.up_plat_keeper _ _)
    exact .refl
  clear_value x4
  refine .trans ?_ (State.raiseAt_grows _ _ _ _)
  refine .trans ?_ (State.writeLast_grows _)
  assumption

theorem State.enterRecover_grows (s : State) (cause : Nat) : s.grows (State.enterRecover s cause) := by
  unfold State.enterRecover
  extract_lets +onlyGivenNames x1
  clear_value x1
  refine .ite ?_ ?_
  · refine .trans ?_ (State.setMode_grows _ _ _)
    exact .refl
  · exact .refl

theorem State.bankLost_grows (s : State) (b : Nat) : s.grows (State.bankLost s b) := by
  unfold State.bankLost
  extract_lets +onlyGivenNames x1
  clear_value x1
  extract_lets +onlyGivenNames x2
  refine .letS x2 ?_ (fun hx2 => ?_)
  · unfold x2
    refine .trans ?_ (State.grows.up_cellar _)
    exact .refl
  clear_value x2
  extract_lets +onlyGivenNames x3
  refine .letS x3 ?_ (fun hx3 => ?_)
  · unfold x3
    refine .trans ?_ (State.raiseAt_grows _ _ _ _)
    refine .trans ?_ (State.recheckSets_grows _)
    refine .trans ?_ (State.freeFrames_grows _ _)
    assumption
  clear_value x3
  refine .ite ?_ ?_
  · refine .trans ?_ (State.refit_grows _)
    refine .trans ?_ (State.enterRecover_grows _ _)
    assumption
  · assumption

theorem State.bankFails_grows (s : State) (b : Nat) : s.grows (State.bankFails s b) := by
  unfold State.bankFails
  refine .ite ?_ ?_
  · exact .refl
  · refine .ite ?_ ?_
    · refine .trans ?_ (State.grows.up_cellar _)
      exact .refl
    · refine .trans ?_ (State.bankLost_grows _ _)
      exact .refl

theorem State.noBell_grows (s : State) (q : Nat) : s.grows (State.noBell s q) := by
  unfold State.noBell
  refine .trans ?_ (State.raise_grows _ _ _)
  exact .refl

theorem State.qFail_grows (s : State) (q : Nat) (st : QState) (cause : Nat) : s.grows (State.qFail s q st cause) := by
  unfold State.qFail
  refine .trans ?_ (State.raise_grows _ _ _)
  refine .trans ?_ (State.updQueue_grows _ _ _)
  exact .refl

theorem State.cqBell_grows (s : State) (q : Nat) (index : Nat) : s.grows (State.cqBell s q index) := by
  unfold State.cqBell
  extract_lets +onlyGivenNames x1
  clear_value x1
  extract_lets +onlyGivenNames x2
  clear_value x2
  extract_lets +onlyGivenNames x3
  clear_value x3
  refine .ite ?_ ?_
  · refine .trans ?_ (State.noBell_grows _ _)
    exact .refl
  · refine .ite ?_ ?_
    · exact .refl
    · refine .ite ?_ ?_
      · refine .trans ?_ (State.qFail_grows _ _ _ _)
        exact .refl
      · refine .ite ?_ ?_
        · refine .trans ?_ (State.qFail_grows _ _ _ _)
          exact .refl
        · refine .trans ?_ (State.cntQ_grows _ _ _)
          refine .trans ?_ (State.updQueue_grows _ _ _)
          exact .refl

theorem State.sqBell_grows (s : State) (q : Nat) (index : Nat) : s.grows (State.sqBell s q index) := by
  unfold State.sqBell
  extract_lets +onlyGivenNames x1
  clear_value x1
  extract_lets +onlyGivenNames x2
  clear_value x2
  refine .ite ?_ ?_
  · refine .trans ?_ (State.noBell_grows _ _)
    exact .refl
  · refine .ite ?_ ?_
    · exact .refl
    · refine .ite ?_ ?_
      · refine .trans ?_ (State.qFail_grows _ _ _ _)
        exact .refl
      · refine .trans ?_ (State.cntQ_grows _ _ _)
        refine .trans ?_ (State.updQueue_grows _ _ _)
        exact .refl

theorem State.bell_grows (s : State) (q : Nat) (index : Nat) : s.grows (State.bell s q index) := by
  unfold State.bell
  refine .ite ?_ ?_
  · refine .trans ?_ (State.cqBell_grows _ _ _)
    exact .refl
  · refine .trans ?_ (State.sqBell_grows _ _ _)
    exact .refl

theorem State.takeSeq_grows (s : State) (side : Bool) (seq : Nat) : s.grows (State.takeSeq s side seq) := by
  unfold State.takeSeq
  refine .trans ?_ (State.grows.up_ctl _)
  exact .refl

theorem State.urgent_grows {s0 : State} (s : State) (side : Bool) (code : Nat) (mask : Nat) (seq : Nat) (act : State → State) (hact : ∀ (y0 : State), s0.grows y0 → s0.grows (act y0)) (hs : s0.grows s) : s0.grows (State.urgent s side code mask seq act) := by
  unfold State.urgent
  refine .ite ?_ ?_
  · assumption
  · refine .ite ?_ ?_
    · extract_lets +onlyGivenNames x1
      refine .letS x1 ?_ (fun hx1 => ?_)
      · unfold x1
        refine .trans ?_ (State.cntQ_grows _ _ _)
        refine .trans ?_ (State.takeSeq_grows _ _ _)
        assumption
      clear_value x1
      refine .ite ?_ ?_
      · assumption
      · apply hact
        assumption
    · refine .trans ?_ (State.raise_grows _ _ _)
      assumption

theorem State.holdAgent_grows (s : State) (n : Ch) : s.grows (State.holdAgent s n) := by
  unfold State.holdAgent
  refine .ite ?_ ?_
  · extract_lets +onlyGivenNames x1
    refine .letP x1 ?_ (fun hx1 => ?_)
    · unfold x1
      refine .trans ?_ (State.resetSlots_grows _ _)
      refine .trans ?_ (State.dropReset_grows _ _)
      exact .refl
    clear_value x1
    extract_lets +onlyGivenNames x2
    refine .letS x2 ?_ (fun hx2 => ?_)
    · unfold x2
      refine .ite ?_ ?_
      · refine .trans ?_ (State.startDecant_grows _ _)
        assumption
      · refine .trans ?_ (State.setAgent_grows _ _ _)
        refine .trans ?_ (State.updAgt_grows _ _ _)
        assumption
    clear_value x2
    refine .trans ?_ (State.requestSub_grows _ _)
    assumption
  · exact .refl

theorem State.rollback_grows (s : State) (n : Ch) (k : SlotId) : s.grows (State.rollback s n k) := by
  unfold State.rollback
  refine .ite ?_ ?_
  · refine .trans ?_ (State.holdAgent_grows _ _)
    exact .refl
  · refine .ite ?_ ?_
    · extract_lets +onlyGivenNames x1
      refine .letS x1 ?_ (fun hx1 => ?_)
      · unfold x1
        refine .trans ?_ (State.applyActs_grows _ _)
        refine .trans ?_ (State.resetSlot_grows _ _ _)
        exact .refl
      clear_value x1
      refine .ite ?_ ?_
      · refine .trans ?_ (State.decantNew_grows _ _)
        assumption
      · assumption
    · exact .refl

theorem State.urgentStop_grows (s : State) (side : Bool) (mask : Nat) (seq : Nat) : s.grows (State.urgentStop s side mask seq) := by
  unfold State.urgentStop
  refine State.urgent_grows _ _ _ _ _ _ (fun _ _ => ?_) ?_
  · refine .trans ?_ (State.raise_grows _ _ _)
    refine .foldl (fun _ _ _ => ?_) ?_
    · extract_lets +onlyGivenNames x1
      refine .letS x1 ?_ (fun hx1 => ?_)
      · unfold x1
        refine .trans ?_ (State.updAgt_grows _ _ _)
        assumption
      refine .ite ?_ ?_
      · refine .trans ?_ (State.holdAgent_grows _ _)
        refine .trans ?_ (State.raiseCh_grows _ _ _ _)
        refine .trans ?_ (State.cnt_grows _ _ _ _)
        assumption
      · refine .foldl (fun _ _ _ => ?_) ?_
        · refine .trans ?_ (State.rollback_grows _ _ _)
          assumption
        · assumption
    · assumption
  · exact .refl

theorem State.requestHeld_grows (s : State) (n : Ch) : s.grows (State.requestHeld s n) := by
  unfold State.requestHeld
  refine .ite ?_ ?_
  · refine .trans ?_ (State.requestSub_grows _ _)
    exact .refl
  · exact .refl

theorem State.urgentRelease_grows (s : State) (side : Bool) (mask : Nat) (seq : Nat) : s.grows (State.urgentRelease s side mask seq) := by
  unfold State.urgentRelease
  refine State.urgent_grows _ _ _ _ _ _ (fun _ _ => ?_) ?_
  · refine .trans ?_ (State.raise_grows _ _ _)
    refine .foldl (fun _ _ _ => ?_) ?_
    · refine .trans ?_ (State.requestHeld_grows _ _)
      refine .trans ?_ (State.updAgt_grows _ _ _)
      assumption
    · assumption
  · exact .refl

theorem State.exception_grows (s : State) (warden : Bool) (src : Nat) : s.grows (State.exception s warden src) := by
  unfold State.exception
  refine .ite (State.emit_grows _ _) ?_
  extract_lets held
  refine .ite (.up_plat _) ?_
  exact .trans (t := { s with evt := { s.evt with pend := bumpPend s.evt.pend src } }) ⟨[], by simp⟩ (State.raiseIf_grows _ _ _ _)

theorem State.vecEvent_grows (s : State) (v : Nat) : s.grows (State.vecEvent s v) := by
  unfold State.vecEvent
  refine .ite ?_ ?_
  · refine .trans ?_ (State.msi_grows _ _)
    exact .refl
  · refine .ite ?_ ?_
    · refine .trans ?_ (State.grows.up_evt _ rfl)
      exact .refl
    · refine .trans ?_ (State.msi_grows _ _)
      refine .trans ?_ (State.grows.up_evt _ rfl)
      exact .refl

theorem State.deliver_grows (s : State) (r : Raise) : s.grows (State.deliver s r) := by
  unfold State.deliver
  extract_lets +onlyGivenNames x1
  clear_value x1
  extract_lets +onlyGivenNames x2
  clear_value x2
  extract_lets +onlyGivenNames x3
  refine .letS x3 ?_ (fun hx3 => ?_)
  · unfold x3
    refine .ite ?_ ?_
    · refine .trans ?_ (State.exception_grows _ _ _)
      exact .refl
    · exact .refl
  clear_value x3
  extract_lets +onlyGivenNames x4
  refine .letS x4 ?_ (fun hx4 => ?_)
  · unfold x4
    refine .ite ?_ ?_
    · refine .trans ?_ (State.exception_grows _ _ _)
      assumption
    · assumption
  clear_value x4
  extract_lets +onlyGivenNames x5
  refine .letS x5 ?_ (fun hx5 => ?_)
  · unfold x5
    refine .ite ?_ ?_
    · refine .trans ?_ (State.vecEvent_grows _ _)
      assumption
    · assumption
  clear_value x5
  refine .ite ?_ ?_
  · refine .trans ?_ (State.emit_grows _ _)
    refine .trans ?_ (State.setSticky_grows _ _ _)
    assumption
  · assumption

theorem State.formRec_grows (s : State) (src : Nat) (sev : Nat) (count : Nat) (arg : Nat) : s.grows (State.formRec s src sev count arg) := by
  unfold State.formRec
  extract_lets +onlyGivenNames x1
  clear_value x1
  refine .trans ?_ (State.grows.up_evt _ rfl)
  exact .refl

theorem State.takeRaise_grows (s : State) (r : Raise) : s.grows (State.takeRaise s r) := by
  unfold State.takeRaise
  extract_lets +onlyGivenNames x1
  refine .letS x1 ?_ (fun hx1 => ?_)
  · unfold x1
    refine .trans ?_ (State.deliver_grows _ _)
    exact .refl
  clear_value x1
  refine .ite ?_ ?_
  · refine .trans ?_ (State.grows.up_evt _ rfl)
    assumption
  · refine .ite ?_ ?_
    · refine .trans ?_ (State.grows.up_evt _ rfl)
      assumption
    · refine .trans ?_ (State.formRec_grows _ _ _ _ _)
      assumption

theorem State.toRing_grows (s : State) (r : Rec) : s.grows (State.toRing s r).1 := by
  unfold State.toRing
  refine .ite_fst ?_ ?_
  · refine .fst_mk ?_
    refine .trans ?_ (State.grows.up_evt _ rfl)
    exact .refl
  · split
    · refine .fst_mk ?_
      refine .trans ?_ (State.grows.up_evt _ rfl)
      exact .refl
    · refine .fst_mk ?_
      refine .trans ?_ (State.raiseIf_grows _ _ _ _)
      refine .trans ?_ (State.grows.up_evt _ rfl)
      exact .refl

theorem State.stage_grows (s : State) (r : Rec) : s.grows (State.stage s r).1 := by
  unfold State.stage
  refine .ite_fst ?_ ?_
  · refine .fst_mk ?_
    exact .refl
  · refine .ite_fst ?_ ?_
    · refine .fst_mk ?_
      refine .trans ?_ (State.raise_grows _ _ _)
      refine .trans ?_ (State.grows.up_evt _ rfl)
      exact .refl
    · split
      · refine .fst_mk ?_
        refine .trans ?_ (State.grows.up_evt _ rfl)
        exact .refl
      · refine .ite_fst ?_ ?_
        · refine .fst_mk ?_
          refine .trans ?_ (State.grows.up_evt _ rfl)
          exact .refl
        · refine .fst_mk ?_
          refine .trans ?_ (State.raise_grows _ _ _)
          exact .refl

theorem State.qReport_grows (s : State) (q : Nat) (bytes : Nat) (body : List Byte) : s.grows (State.qReport s q bytes body) := by
  unfold State.qReport
  extract_lets +onlyGivenNames x1
  clear_value x1
  refine .ite ?_ ?_
  · exact .refl
  · extract_lets +onlyGivenNames x2
    refine .letS x2 ?_ (fun hx2 => ?_)
    · unfold x2
      refine .trans ?_ (State.updQueue_grows _ _ _)
      exact .refl
    clear_value x2
    refine .ite ?_ ?_
    · extract_lets +onlyGivenNames x3
      clear_value x3
      extract_lets +onlyGivenNames x4
      refine .letS x4 ?_ (fun hx4 => ?_)
      · unfold x4
        refine .trans ?_ (State.cntQ_grows _ _ _)
        refine .trans ?_ (State.updQueue_grows _ _ _)
        assumption
      clear_value x4
      refine .ite ?_ ?_
      · refine .trans ?_ (State.raiseIf_grows _ _ _ _)
        assumption
      · refine .trans ?_ (State.raise_grows _ _ _)
        assumption
    · extract_lets +onlyGivenNames x5
      clear_value x5
      extract_lets +onlyGivenNames x6
      refine .letS x6 ?_ (fun hx6 => ?_)
      · unfold x6
        refine .trans ?_ (State.cntQ_grows _ _ _)
        refine .trans ?_ (State.qWrite_grows _ _ _ _ _)
        assumption
      clear_value x6
      refine .trans ?_ (State.updQueue_grows _ _ _)
      assumption

theorem State.lastWord_grows (s : State) (r : Rec) : s.grows (State.lastWord s r) := by
  unfold State.lastWord
  extract_lets +onlyGivenNames x1
  clear_value x1
  refine .trans ?_ (State.raise_grows _ _ _)
  refine .trans ?_ (State.grows.up_keeper _)
  exact .refl

theorem State.writeRec_grows (s : State) (r : Rec) : s.grows (State.writeRec s r) := by
  unfold State.writeRec
  extract_lets +onlyGivenNames x1
  refine .letP x1 ?_ (fun hx1 => ?_)
  · unfold x1
    refine .trans ?_ (State.toRing_grows _ _)
    exact .refl
  clear_value x1
  extract_lets +onlyGivenNames x2
  refine .letP x2 ?_ (fun hx2 => ?_)
  · unfold x2
    refine .trans ?_ (State.stage_grows _ _)
    assumption
  clear_value x2
  extract_lets +onlyGivenNames x3
  refine .letS x3 ?_ (fun hx3 => ?_)
  · unfold x3
    assumption
  clear_value x3
  extract_lets +onlyGivenNames x4
  refine .letS x4 ?_ (fun hx4 => ?_)
  · unfold x4
    refine .ite ?_ ?_
    · refine .trans ?_ (State.qReport_grows _ _ _ _)
      assumption
    · assumption
  clear_value x4
  extract_lets +onlyGivenNames x5
  refine .letS x5 ?_ (fun hx5 => ?_)
  · unfold x5
    refine .ite ?_ ?_
    · refine .trans ?_ (State.lastWord_grows _ _)
      assumption
    · assumption
  clear_value x5
  split
  · refine .trans ?_ (State.formRec_grows _ _ _ _ _)
    refine .trans ?_ (State.grows.up_evt _ rfl)
    assumption
  · assumption

theorem State.flushVec_grows (s : State) (v : Nat) : s.grows (State.flushVec s v) := by
  unfold State.flushVec
  refine .dite (fun _ => ?_) (fun _ => ?_)
  · extract_lets +onlyGivenNames x1
    clear_value x1
    refine .ite ?_ ?_
    · exact .refl
    · refine .trans ?_ (State.msi_grows _ _)
      refine .trans ?_ (State.grows.up_host _)
      exact .refl
  · exact .refl

theorem State.vecWrite_grows (s : State) (off : Nat) (w : Word) : s.grows (State.vecWrite s off w) := by
  unfold State.vecWrite
  extract_lets +onlyGivenNames x1
  clear_value x1
  refine .dite (fun _ => ?_) (fun _ => ?_)
  · extract_lets +onlyGivenNames x2
    clear_value x2
    extract_lets +onlyGivenNames x3
    clear_value x3
    refine .trans ?_ (State.flushVec_grows _ _)
    refine .trans ?_ (State.grows.up_host _)
    exact .refl
  · exact .refl

theorem State.bar4Read_grows (s : State) (i : Nat) (h : Half) : s.grows (State.bar4Read s i h) := by
  unfold State.bar4Read
  extract_lets +onlyGivenNames x1
  clear_value x1
  extract_lets +onlyGivenNames x2
  clear_value x2
  split
  · refine .trans ?_ (State.emit_grows _ _)
    refine .trans ?_ (State.setView_grows _ _ _)
    exact .refl
  · refine .trans ?_ (State.emit_grows _ _)
    refine .trans ?_ (State.setView_grows _ _ _)
    exact .refl
  · refine .trans ?_ (State.emit_grows _ _)
    exact .refl

theorem State.bar4Served_grows (s : State) (k : Nat) (h : Half) : s.grows (State.bar4Served s k h) := by
  unfold State.bar4Served
  refine .ite ?_ ?_
  · refine .trans ?_ (State.bar4Read_grows _ _ _)
    exact .refl
  · refine .trans ?_ (State.emit_grows _ _)
    refine .trans ?_ (State.raiseIf_grows _ _ _ _)
    refine .trans ?_ (State.setSticky_grows _ _ _)
    exact .refl

theorem State.unsupported_grows (s : State) : s.grows (State.unsupported s) := by
  unfold State.unsupported
  refine .trans ?_ (State.raise_grows _ _ _)
  refine .trans ?_ (State.emit_grows _ _)
  exact .refl

theorem State.sampleRec_grows (s : State) (q : Req) : s.grows (State.sampleRec s q) := by
  unfold State.sampleRec
  split
  · refine .trans ?_ (State.addSample_grows _ _ _ _ _)
    exact .refl
  · refine .trans ?_ (State.addSample_grows _ _ _ _ _)
    exact .refl

theorem State.sampleStream_grows (s : State) (q : Req) : s.grows (State.sampleStream s q) := by
  unfold State.sampleStream
  split
  · extract_lets +onlyGivenNames x1
    clear_value x1
    refine .trans ?_ (State.addSample_grows _ _ _ _ _)
    exact .refl
  · refine .trans ?_ (State.addSample_grows _ _ _ _ _)
    exact .refl

theorem State.sampleFor_grows (s : State) (q : Req) (off : Nat) : s.grows (State.sampleFor s q off) := by
  unfold State.sampleFor
  refine .ite ?_ ?_
  · refine .trans ?_ (State.sampleRec_grows _ _)
    exact .refl
  · refine .ite ?_ ?_
    · refine .trans ?_ (State.sampleStream_grows _ _)
      exact .refl
    · refine .ite ?_ ?_
      · extract_lets +onlyGivenNames x1
        clear_value x1
        refine .trans ?_ (State.addSample_grows _ _ _ _ _)
        exact .refl
      · refine .ite ?_ ?_
        · refine .trans ?_ (State.addSample_grows _ _ _ _ _)
          exact .refl
        · refine .ite ?_ ?_
          · refine .trans ?_ (State.addSample_grows _ _ _ _ _)
            exact .refl
          · exact .refl

theorem State.busRead_grows (s : State) (q : Req) (off : Nat) : s.grows (State.busRead s q off) := by
  unfold State.busRead
  extract_lets +onlyGivenNames x1
  refine .letS x1 ?_ (fun hx1 => ?_)
  · unfold x1
    refine .trans ?_ (State.sampleFor_grows _ _ _)
    exact .refl
  clear_value x1
  refine .trans ?_ (State.afterRead_grows _ _ _)
  refine .trans ?_ (State.emit_grows _ _)
  assumption

theorem State.stageKey_grows (s : State) (q : Req) (key : Nat) (v : Word) : s.grows (State.stageKey s q key v) := by
  unfold State.stageKey
  extract_lets +onlyGivenNames x1
  clear_value x1
  refine .ite ?_ ?_
  · exact .refl
  · refine .trans ?_ (State.setView_grows _ _ _)
    exact .refl

theorem State.writeRoute_grows (s : State) (q : Req) (v : Word) : s.grows (State.writeRoute s q v) := by
  unfold State.writeRoute
  extract_lets +onlyGivenNames x1
  clear_value x1
  extract_lets +onlyGivenNames x2
  refine .letS x2 ?_ (fun hx2 => ?_)
  · unfold x2
    refine .ite ?_ ?_
    · exact .refl
    · refine .trans ?_ (State.stageKey_grows _ _ _ _)
      exact .refl
  clear_value x2
  refine .trans ?_ (State.autoInc_grows _ _ _ _ _)
  assumption

theorem State.writeCounter_grows (s : State) (q : Req) (hi : Word) : s.grows (State.writeCounter s q hi) := by
  unfold State.writeCounter
  extract_lets +onlyGivenNames x1
  clear_value x1
  extract_lets +onlyGivenNames x2
  clear_value x2
  extract_lets +onlyGivenNames x3
  clear_value x3
  extract_lets +onlyGivenNames x4
  clear_value x4
  extract_lets +onlyGivenNames x5
  refine .letS x5 ?_ (fun hx5 => ?_)
  · unfold x5
    refine .trans ?_ (State.setView_grows _ _ _)
    exact .refl
  clear_value x5
  extract_lets +onlyGivenNames x6
  clear_value x6
  extract_lets +onlyGivenNames x7
  refine .letS x7 ?_ (fun hx7 => ?_)
  · unfold x7
    refine .ite ?_ ?_
    · assumption
    · refine .trans ?_ (State.grows.up_cntr _)
      assumption
  clear_value x7
  refine .trans ?_ (State.autoInc_grows _ _ _ _ _)
  assumption

theorem State.clearSticky_grows (s : State) (off : Nat) (bits : Word) : s.grows (State.clearSticky s off bits) := by
  unfold State.clearSticky
  refine .trans ?_ (State.grows.up_regs _)
  exact .refl

theorem State.beginChange_grows (s : State) (c : KeyChange) : s.grows (State.beginChange s c) := by
  unfold State.beginChange
  extract_lets +onlyGivenNames x1
  clear_value x1
  extract_lets +onlyGivenNames x2
  refine .letS x2 ?_ (fun hx2 => ?_)
  · unfold x2
    refine .ite ?_ ?_
    · refine .trans ?_ (State.setCask_grows _ _ _)
      exact .refl
    · exact .refl
  clear_value x2
  refine .trans ?_ (State.grows.up_crypt _)
  assumption

theorem State.wdZeroPeriod_grows (s : State) (rd : Nat → Word) : s.grows (State.wdZeroPeriod s rd) := by
  unfold State.wdZeroPeriod
  refine forCh_grows _ _ (fun _ _ _ => ?_) ?_
  · refine .trans ?_ (State.raiseIf_grows _ _ _ _)
    assumption
  · exact .refl

theorem State.setResult_grows (s : State) (q : Req) (st : Status) (mask : Word) (failGrp : Word) : s.grows (State.setResult s q st mask failGrp) := by
  unfold State.setResult
  refine .trans ?_ (State.setView_grows _ _ _)
  exact .refl

theorem State.beginCommit_grows (s : State) (q : Req) (mask : Word) : s.grows (State.beginCommit s q mask) := by
  unfold State.beginCommit
  extract_lets +onlyGivenNames x1
  clear_value x1
  refine .ite ?_ ?_
  · refine .trans ?_ (State.grows.up_regs _)
    exact .refl
  · extract_lets +onlyGivenNames x2
    refine .letS x2 ?_ (fun hx2 => ?_)
    · unfold x2
      refine .ite ?_ ?_
      · refine .trans ?_ (State.wdZeroPeriod_grows _ _)
        exact .refl
      · exact .refl
    clear_value x2
    refine .trans ?_ (State.setResult_grows _ _ _ _ _)
    assumption

theorem State.beginSegment_grows (s : State) (a1 : Stream) (g : Seg) (e : Nat) : s.grows (State.beginSegment s a1 g e) := by
  unfold State.beginSegment
  extract_lets +onlyGivenNames x1
  clear_value x1
  extract_lets +onlyGivenNames x2
  clear_value x2
  extract_lets +onlyGivenNames x3
  refine .letS x3 ?_ (fun hx3 => ?_)
  · unfold x3
    refine .trans ?_ (State.grows.up_press _)
    exact .refl
  clear_value x3
  refine .trans ?_ (State.setStream_grows _ _)
  assumption

theorem State.keepInact_grows (s : State) (n : Ch) (k : SlotId) (m : Option Manifest) : s.grows (State.keepInact s n k m) := by
  unfold State.keepInact
  refine .ite ?_ ?_
  · exact .refl
  · refine .trans ?_ (State.updSlot_grows _ _ _ _)
    exact .refl

theorem State.updRec_grows (s : State) (n : Ch) (f : RecJob → RecJob) : s.grows (State.updRec s n f) := by
  unfold State.updRec
  refine .trans ?_ (State.grows.up_ident _)
  exact .refl

theorem State.recExhausted_grows (s : State) (n : Ch) : s.grows (State.recExhausted s n) := by
  unfold State.recExhausted
  refine .trans ?_ (State.quarantine_grows _ _ _)
  refine .trans ?_ (State.raise_grows _ _ _)
  refine .trans ?_ (State.grows.up_ident _)
  exact .refl

theorem State.sourceFails_grows (s : State) (n : Ch) (j : RecJob) : s.grows (State.sourceFails s n j) := by
  unfold State.sourceFails
  extract_lets +onlyGivenNames x1
  refine .letS x1 ?_ (fun hx1 => ?_)
  · unfold x1
    refine .trans ?_ (State.raise_grows _ _ _)
    exact .refl
  clear_value x1
  refine .ite ?_ ?_
  · refine .trans ?_ (State.recExhausted_grows _ _)
    assumption
  · refine .trans ?_ (State.updRec_grows _ _ _)
    assumption

theorem State.slotRestored_grows (s : State) (n : Ch) (j : RecJob) : s.grows (State.slotRestored s n j) := by
  unfold State.slotRestored
  split
  · refine .trans ?_ (State.updRec_grows _ _ _)
    exact .refl
  · extract_lets +onlyGivenNames x1
    clear_value x1
    extract_lets +onlyGivenNames x2
    refine .letS x2 ?_ (fun hx2 => ?_)
    · unfold x2
      refine .trans ?_ (State.raise_grows _ _ _)
      refine .trans ?_ (State.grows.up_ident _)
      exact .refl
    clear_value x2
    extract_lets +onlyGivenNames x3
    refine .letS x3 ?_ (fun hx3 => ?_)
    · unfold x3
      refine .trans ?_ (State.platChange_grows _)
      assumption
    clear_value x3
    refine .ite ?_ ?_
    · refine .trans ?_ (State.requestSub_grows _ _)
      refine .trans ?_ (State.reserve_grows _ _)
      assumption
    · refine .trans ?_ (State.reserve_grows _ _)
      assumption

theorem State.recActCommit_grows (s : State) (n : Ch) (j : RecJob) : s.grows (State.recActCommit s n j) := by
  unfold State.recActCommit
  extract_lets +onlyGivenNames x1
  clear_value x1
  refine .ite ?_ ?_
  · refine .trans ?_ (State.updRec_grows _ _ _)
    exact .refl
  · extract_lets +onlyGivenNames x2
    clear_value x2
    extract_lets +onlyGivenNames x3
    refine .letS x3 ?_ (fun hx3 => ?_)
    · unfold x3
      refine .trans ?_ (State.commitAct_grows _ _ _)
      exact .refl
    clear_value x3
    refine .ite ?_ ?_
    · refine .trans ?_ (State.sourceFails_grows _ _ _)
      refine .trans ?_ (State.updSlot_grows _ _ _ _)
      exact .refl
    · extract_lets +onlyGivenNames x4
      refine .letS x4 ?_ (fun hx4 => ?_)
      · unfold x4
        refine .trans ?_ (State.updSlot_grows _ _ _ _)
        assumption
      clear_value x4
      refine .trans ?_ (State.slotRestored_grows _ _ _)
      refine .trans ?_ (State.grows.up_ident _)
      assumption

theorem State.recRecord_grows (s : State) (n : Ch) (j : RecJob) (state : Nat) (step : Nat) : s.grows (State.recRecord s n j state step) := by
  unfold State.recRecord
  refine .trans ?_ (State.intent_grows _ _ _ _ _ _ _ _ _ _)
  exact .refl

theorem State.beginSource_grows (s : State) (n : Ch) (j : RecJob) (src : Nat) (m : Option Manifest) : s.grows (State.beginSource s n j src m) := by
  unfold State.beginSource
  extract_lets +onlyGivenNames x1
  refine .letS x1 ?_ (fun hx1 => ?_)
  · unfold x1
    refine .ite ?_ ?_
    · refine .trans ?_ (State.keepInact_grows _ _ _ _)
      exact .refl
    · exact .refl
  clear_value x1
  extract_lets +onlyGivenNames x2
  refine .letS x2 ?_ (fun hx2 => ?_)
  · unfold x2
    refine .trans ?_ (State.updRec_grows _ _ _)
    assumption
  clear_value x2
  extract_lets +onlyGivenNames x3
  clear_value x3
  refine .ite ?_ ?_
  · refine .trans ?_ (State.recActCommit_grows _ _ _)
    assumption
  · refine .ite ?_ ?_
    · refine .trans ?_ (State.recRecord_grows _ _ _ _ _)
      assumption
    · refine .trans ?_ (State.raise_grows _ _ _)
      refine .ite ?_ ?_
      · refine .trans ?_ (State.grows.up_ident _)
        assumption
      · assumption

theorem State.wearErase_grows (s : State) (area : Nat) : s.grows (State.wearErase s area) := by
  unfold State.wearErase
  extract_lets +onlyGivenNames x1
  clear_value x1
  refine .trans ?_ (State.raiseIf_grows _ _ _ _)
  refine .trans ?_ (State.grows.up_vault _)
  exact .refl

theorem State.carryUnit_grows (s : State) : s.grows (State.carryUnit s) := by
  unfold State.carryUnit
  extract_lets +onlyGivenNames x1
  clear_value x1
  extract_lets +onlyGivenNames x2
  clear_value x2
  extract_lets +onlyGivenNames x3
  clear_value x3
  extract_lets +onlyGivenNames x4
  clear_value x4
  extract_lets +onlyGivenNames x5
  clear_value x5
  refine .trans ?_ (State.grows.up_evt _ rfl)
  exact .refl

theorem State.blockEnd_grows (s : State) (n : Ch) : s.grows (State.blockEnd s n) := by
  unfold State.blockEnd
  refine .ite ?_ ?_
  · refine .trans ?_ (State.updPort_grows _ _ _)
    exact .refl
  · exact .refl

theorem State.blockWrite_grows (s : State) (t : Txn) (kind : OpKind) (v : Nat) : s.grows (State.blockWrite s t kind v) := by
  unfold State.blockWrite
  extract_lets +onlyGivenNames x1
  clear_value x1
  extract_lets +onlyGivenNames x2
  clear_value x2
  refine .trans ?_ (State.exception_grows _ _ _)
  refine .trans ?_ (State.raiseCh_grows _ _ _ _)
  refine .trans ?_ (State.cnt_grows _ _ _ _)
  refine .trans ?_ (State.updPort_grows _ _ _)
  exact .refl

theorem State.partFailed_grows (s : State) (n : Ch) (k : PartId) : s.grows (State.partFailed s n k) := by
  unfold State.partFailed
  extract_lets +onlyGivenNames x1
  refine .letS x1 ?_ (fun hx1 => ?_)
  · unfold x1
    refine .trans ?_ (State.updPart_grows _ _ _ _)
    exact .refl
  clear_value x1
  extract_lets +onlyGivenNames x2
  clear_value x2
  extract_lets +onlyGivenNames x3
  refine .letS x3 ?_ (fun hx3 => ?_)
  · unfold x3
    refine .foldl (fun _ _ _ => ?_) ?_
    · refine .ite ?_ ?_
      · refine .trans ?_ (State.setBusy_grows _ _ _ _)
        assumption
      · assumption
    · assumption
  clear_value x3
  extract_lets +onlyGivenNames x4
  refine .letS x4 ?_ (fun hx4 => ?_)
  · unfold x4
    refine .trans ?_ (State.updPort_grows _ _ _)
    assumption
  clear_value x4
  extract_lets +onlyGivenNames x5
  refine .letS x5 ?_ (fun hx5 => ?_)
  · unfold x5
    refine .trans ?_ (State.raiseCh_grows _ _ _ _)
    assumption
  clear_value x5
  refine .ite ?_ ?_
  · refine .trans ?_ (State.quarantine_grows _ _ _)
    assumption
  · assumption

theorem State.raiseDrops_grows (s : State) (t : Training) (src : Nat) : s.grows (State.raiseDrops s t src) := by
  unfold State.raiseDrops
  refine .foldl (fun _ _ _ => ?_) ?_
  · refine .trans ?_ (State.raise_grows _ _ _)
    assumption
  · exact .refl

theorem State.writePattern_grows (s : State) (n : Ch) (k : PartId) (erased : Bool) : s.grows (State.writePattern s n k erased) := by
  unfold State.writePattern
  split
  · refine .trans ?_ (State.flash_grows _ _ _ _ _ _ _)
    exact .refl
  · exact .refl

theorem State.bringPart_grows (s : State) (n : Ch) (k : PartId) (f : Option PartFound) : s.grows (State.bringPart s n k f).1 := by
  unfold State.bringPart
  extract_lets +onlyGivenNames x1
  clear_value x1
  refine .ite_fst ?_ ?_
  · refine .fst_mk ?_
    exact .refl
  · split
    · refine .fst_mk ?_
      refine .trans ?_ (State.raiseCh_grows _ _ _ _)
      refine .trans ?_ (State.updPart_grows _ _ _ _)
      exact .refl
    · refine .ite_fst ?_ ?_
      · refine .fst_mk ?_
        refine .trans ?_ (State.raiseCh_grows _ _ _ _)
        refine .trans ?_ (State.updPart_grows _ _ _ _)
        exact .refl
      · split
        · refine .fst_mk ?_
          refine .trans ?_ (State.partFailed_grows _ _ _)
          exact .refl
        · refine .ite_fst ?_ ?_
          · refine .fst_mk ?_
            refine .trans ?_ (State.partFailed_grows _ _ _)
            refine .trans ?_ (State.exception_grows _ _ _)
            refine .trans ?_ (State.raiseCh_grows _ _ _ _)
            exact .refl
          · extract_lets +onlyGivenNames x2
            refine .letS x2 ?_ (fun hx2 => ?_)
            · unfold x2
              refine .trans ?_ (State.updPart_grows _ _ _ _)
              exact .refl
            clear_value x2
            refine .fst_mk ?_
            refine .trans ?_ (State.raiseDrops_grows _ _ _)
            refine .trans ?_ (State.writePattern_grows _ _ _ _)
            refine .trans ?_ (State.cnt_grows _ _ _ _)
            assumption

theorem State.loadAnchors_grows (s : State) (n : Ch) (k : SlotId) (copy : Nat) (npages : Nat) : s.grows (State.loadAnchors s n k copy npages) := by
  unfold State.loadAnchors
  refine .foldl (fun _ _ _ => ?_) ?_
  · refine .trans ?_ (State.admitNode_grows _ _)
    assumption
  · exact .refl

theorem State.bringSlot_grows (s : State) (n : Ch) (k : SlotId) (f : SlotFound) : s.grows (State.bringSlot s n k f).1 := by
  unfold State.bringSlot
  refine .ite_fst ?_ ?_
  · refine .fst_mk ?_
    exact .refl
  · extract_lets +onlyGivenNames x1
    extract_lets +onlyGivenNames x2
    extract_lets +onlyGivenNames x3
    clear_value x3
    split
    · refine .fst_mk ?_
      refine .trans ?_ (State.loadAnchors_grows _ _ _ _ _)
      refine .trans ?_ (State.updSlot_grows _ _ _ _)
      exact .refl
    · refine .fst_mk ?_
      refine .trans ?_ (State.raiseCh_grows _ _ _ _)
      exact .refl

theorem State.broughtEnd_grows (s : State) (n : Ch) (good : Bool) : s.grows (State.broughtEnd s n good) := by
  unfold State.broughtEnd
  extract_lets +onlyGivenNames x1
  clear_value x1
  extract_lets +onlyGivenNames x2
  clear_value x2
  extract_lets +onlyGivenNames x3
  refine .letS x3 ?_ (fun hx3 => ?_)
  · unfold x3
    refine .trans ?_ (State.grows.up_plat _)
    exact .refl
  clear_value x3
  refine .trans ?_ (State.updChan_grows _ _ _)
  assumption

theorem State.burnDone_grows (s : State) (n : Ch) (k : SlotId) : s.grows (State.burnDone s n k) := by
  unfold State.burnDone
  extract_lets +onlyGivenNames x1
  clear_value x1
  extract_lets +onlyGivenNames x2
  clear_value x2
  refine .trans ?_ (State.intent_grows _ _ _ _ _ _ _ _ _ _)
  refine .trans ?_ (State.updSlot_grows _ _ _ _)
  exact .refl

theorem State.updOtp_grows (s : State) (f : Otp → Otp) : s.grows (State.updOtp s f) := by
  unfold State.updOtp
  refine .trans ?_ (State.grows.up_life _)
  exact .refl

theorem State.burnEol_grows (s : State) (stop : Option Nat) : s.grows (State.burnEol s stop).1 := by
  unfold State.burnEol
  extract_lets +onlyGivenNames x1
  clear_value x1
  extract_lets +onlyGivenNames x2
  refine .letS x2 ?_ (fun hx2 => ?_)
  · unfold x2
    refine .trans ?_ (State.updOtp_grows _ _)
    exact .refl
  clear_value x2
  refine .fst_mk ?_
  refine .trans ?_ (State.raiseIf_grows _ _ _ _)
  assumption

theorem State.burnFuses_grows (s : State) : s.grows (State.burnFuses s) := by
  unfold State.burnFuses
  extract_lets +onlyGivenNames x1
  refine .letS x1 ?_ (fun hx1 => ?_)
  · unfold x1
    refine .trans ?_ (State.updOtp_grows _ _)
    exact .refl
  clear_value x1
  refine .trans ?_ (State.raise_grows _ _ _)
  refine .trans ?_ (State.grows.up_crypt _)
  assumption

theorem State.otpFail_grows (s : State) : s.grows (State.otpFail s) := by
  unfold State.otpFail
  refine .trans ?_ (State.raise_grows _ _ _)
  refine .trans ?_ (State.grows.up_life _)
  exact .refl

theorem State.burnHelper_grows (s : State) (h : Helper) (ok : Bool) : s.grows (State.burnHelper s h ok) := by
  unfold State.burnHelper
  refine .ite ?_ ?_
  · exact .refl
  · refine .ite ?_ ?_
    · refine .trans ?_ (State.raise_grows _ _ _)
      refine .trans ?_ (State.updOtp_grows _ _)
      exact .refl
    · refine .trans ?_ (State.otpFail_grows _)
      exact .refl

theorem State.burnOwners_grows (s : State) (ks : List KeyEnt) (stop : Option Nat) : s.grows (State.burnOwners s ks stop).1 := by
  unfold State.burnOwners
  extract_lets +onlyGivenNames x1
  clear_value x1
  extract_lets +onlyGivenNames x2
  clear_value x2
  extract_lets +onlyGivenNames x3
  refine .letS x3 ?_ (fun hx3 => ?_)
  · unfold x3
    refine .trans ?_ (State.updOtp_grows _ _)
    exact .refl
  clear_value x3
  refine .fst_mk ?_
  refine .ite ?_ ?_
  · refine .foldl (fun _ _ _ => ?_) ?_
    · refine .trans ?_ (State.raise_grows _ _ _)
      assumption
    · assumption
  · assumption

theorem State.burnProd_grows (s : State) (stop : Option Nat) : s.grows (State.burnProd s stop).1 := by
  unfold State.burnProd
  extract_lets +onlyGivenNames x1
  clear_value x1
  refine .fst_mk ?_
  refine .trans ?_ (State.updOtp_grows _ _)
  exact .refl

theorem State.burnRevoke_grows (s : State) (vendor : Bool) (target : Nat) (stop : Option Nat) : s.grows (State.burnRevoke s vendor target stop).1 := by
  unfold State.burnRevoke
  extract_lets +onlyGivenNames x1
  clear_value x1
  extract_lets +onlyGivenNames x2
  clear_value x2
  extract_lets +onlyGivenNames x3
  clear_value x3
  extract_lets +onlyGivenNames x4
  refine .letS x4 ?_ (fun hx4 => ?_)
  · unfold x4
    refine .trans ?_ (State.updOtp_grows _ _)
    exact .refl
  clear_value x4
  refine .fst_mk ?_
  refine .ite ?_ ?_
  · refine .foldl (fun _ _ _ => ?_) ?_
    · refine .trans ?_ (State.raise_grows _ _ _)
      assumption
    · assumption
  · assumption

theorem State.noteBurn_grows (s : State) (ctr : Nat) (v : Nat) : s.grows (State.noteBurn s ctr v) := by
  unfold State.noteBurn
  extract_lets +onlyGivenNames x1
  clear_value x1
  extract_lets +onlyGivenNames x2
  clear_value x2
  refine .trans ?_ (State.intent_grows _ _ _ _ _ _ _ _ _ _)
  exact .refl

theorem State.burnVintage_grows (s : State) (k : Nat) : s.grows (State.burnVintage s k) := by
  unfold State.burnVintage
  refine .trans ?_ (State.updOtp_grows _ _)
  exact .refl

theorem State.burnStep_grows (s : State) (ctr : Nat) (v : Nat) : s.grows (State.burnStep s ctr v) := by
  unfold State.burnStep
  extract_lets +onlyGivenNames x1
  clear_value x1
  extract_lets +onlyGivenNames x2
  refine .letS x2 ?_ (fun hx2 => ?_)
  · unfold x2
    refine .ite ?_ ?_
    · exact .refl
    · refine .trans ?_ (State.noteBurn_grows _ _ _)
      exact .refl
  clear_value x2
  refine .trans ?_ (State.raise_grows _ _ _)
  refine .trans ?_ (State.noteBurn_grows _ _ _)
  refine .trans ?_ (State.burnVintage_grows _ _)
  assumption

theorem State.burnSubsys_grows (s : State) (ssvid : Nat) (ssid : Nat) (stop : Option Nat) : s.grows (State.burnSubsys s ssvid ssid stop).1 := by
  unfold State.burnSubsys
  extract_lets +onlyGivenNames x1
  clear_value x1
  extract_lets +onlyGivenNames x2
  refine .letS x2 ?_ (fun hx2 => ?_)
  · unfold x2
    refine .trans ?_ (State.updOtp_grows _ _)
    exact .refl
  clear_value x2
  refine .fst_mk ?_
  refine .trans ?_ (State.raiseIf_grows _ _ _ _)
  assumption

theorem State.burnTest_grows (s : State) (stop : Option Nat) : s.grows (State.burnTest s stop).1 := by
  unfold State.burnTest
  extract_lets +onlyGivenNames x1
  clear_value x1
  refine .fst_mk ?_
  refine .trans ?_ (State.updOtp_grows _ _)
  exact .refl

theorem State.burnWord_grows (s : State) (w : Nat) (stop : Option Nat) : s.grows (State.burnWord s w stop).1 := by
  unfold State.burnWord
  refine .ite_fst ?_ ?_
  · refine .trans ?_ (State.burnTest_grows _ _)
    exact .refl
  · refine .ite_fst ?_ ?_
    · refine .trans ?_ (State.burnProd_grows _ _)
      exact .refl
    · refine .trans ?_ (State.burnEol_grows _ _)
      exact .refl

theorem State.flushMsi_grows (s : State) : s.grows (State.flushMsi s) := by
  unfold State.flushMsi
  refine .foldl (fun _ _ _ => ?_) ?_
  · refine .trans ?_ (State.flushVec_grows _ _)
    assumption
  · exact .refl

theorem State.busBack_grows (s : State) : s.grows (State.busBack s) := by
  unfold State.busBack
  refine .trans ?_ (State.flushMsi_grows _)
  refine .trans ?_ (State.flushCpl_grows _)
  exact .refl

theorem State.busOff_grows (s : State) : s.grows (State.busOff s) := by
  unfold State.busOff
  refine .ite ?_ ?_
  · exact .refl
  · refine .trans ?_ (State.raiseIf_grows _ _ _ _)
    refine .trans ?_ (State.grows.up_host _)
    exact .refl

theorem State.opEnd_grows (s : State) (n : Ch) (ok : Bool) : s.grows (State.opEnd s n ok) := by
  unfold State.opEnd
  split
  · refine .trans ?_ (State.updPort_grows _ _ _)
    refine .trans ?_ (State.setBusy_grows _ _ _ _)
    exact .refl
  · exact .refl

theorem State.busyEnds_grows (s : State) (n : Ch) (ok : Bool) : s.grows (State.busyEnds s n ok) := by
  unfold State.busyEnds
  refine .ite ?_ ?_
  · refine .trans ?_ (State.blockEnd_grows _ _)
    exact .refl
  · refine .trans ?_ (State.opEnd_grows _ _ _)
    exact .refl

theorem State.goldenInvalid_grows (s : State) (n : Ch) (k : SlotId) : s.grows (State.goldenInvalid s n k) := by
  unfold State.goldenInvalid
  split
  · exact .refl
  · extract_lets +onlyGivenNames x1
    clear_value x1
    refine .trans ?_ (State.raise_grows _ _ _)
    refine .trans ?_ (State.writeHeader_grows _)
    refine .trans ?_ (State.grows.up_vault _)
    exact .refl

theorem State.noSource_grows (s : State) (n : Ch) (k : SlotId) (copy : Nat) : s.grows (State.noSource s n k copy) := by
  unfold State.noSource
  refine .ite ?_ ?_
  · refine .trans ?_ (State.goldenInvalid_grows _ _ _)
    exact .refl
  · refine .trans ?_ (State.raiseCh_grows _ _ _ _)
    refine .trans ?_ (State.updSlot_grows _ _ _ _)
    exact .refl

theorem State.startReimage_grows (s : State) (n : Ch) (k : SlotId) : s.grows (State.startReimage s n k) := by
  unfold State.startReimage
  refine .ite ?_ ?_
  · refine .trans ?_ (State.enterReimaging_grows _ _ _ _ _)
    exact .refl
  · exact .refl

theorem State.knowBad_grows (s : State) (n : Ch) (p : PageId) : s.grows (State.knowBad s n p) := by
  unfold State.knowBad
  refine .ite ?_ ?_
  · exact .refl
  · extract_lets +onlyGivenNames x1
    refine .letS x1 ?_ (fun hx1 => ?_)
    · unfold x1
      refine .trans ?_ (State.updChan_grows _ _ _)
      exact .refl
    clear_value x1
    refine .ite ?_ ?_
    · refine .trans ?_ (State.quarantine_grows _ _ _)
      assumption
    · assumption

theorem State.graftExhausted_grows (s : State) (n : Ch) (g : Graft) : s.grows (State.graftExhausted s n g) := by
  unfold State.graftExhausted
  extract_lets +onlyGivenNames x1
  refine .letS x1 ?_ (fun hx1 => ?_)
  · unfold x1
    refine .trans ?_ (State.updChan_grows _ _ _)
    exact .refl
  clear_value x1
  extract_lets +onlyGivenNames x2
  refine .letS x2 ?_ (fun hx2 => ?_)
  · unfold x2
    refine .trans ?_ (State.raiseCh_grows _ _ _ _)
    assumption
  clear_value x2
  refine .ite ?_ ?_
  · refine .trans ?_ (State.noSource_grows _ _ _ _)
    assumption
  · refine .ite ?_ ?_
    · refine .trans ?_ (State.startReimage_grows _ _ _)
      assumption
    · refine .ite ?_ ?_
      · refine .foldl (fun _ _ _ => ?_) ?_
        · refine .trans ?_ (State.knowBad_grows _ _ _)
          assumption
        · assumption
      · assumption

theorem State.candFails_grows (s : State) (n : Ch) (g : Graft) (c : Nat) : s.grows (State.candFails s n g c) := by
  unfold State.candFails
  extract_lets +onlyGivenNames x1
  clear_value x1
  refine .ite ?_ ?_
  · refine .trans ?_ (State.graftExhausted_grows _ _ _)
    exact .refl
  · refine .trans ?_ (State.updChan_grows _ _ _)
    exact .refl

theorem State.i3c_grows {s0 : State} (s : State) (p : Nat) (addr : Option Nat) (k : State → State) (hk : ∀ (y0 : State), s0.grows y0 → s0.grows (k y0)) (hs : s0.grows s) : s0.grows (State.i3c s p addr k) := by
  unfold State.i3c
  refine .ite ?_ ?_
  · apply hk
    assumption
  · assumption

theorem State.cccRead_grows (s : State) (p : Nat) (addr : Nat) (bs : List Byte) : s.grows (State.cccRead s p addr bs) := by
  unfold State.cccRead
  refine State.i3c_grows _ _ _ _ (fun _ _ => ?_) ?_
  · refine .trans ?_ (State.emit_grows _ _)
    assumption
  · exact .refl

theorem State.checkGuard_grows (s : State) : s.grows (State.checkGuard s) := by
  unfold State.checkGuard
  refine .ite ?_ ?_
  · refine .trans ?_ (State.setMode_grows _ _ _)
    exact .refl
  · exact .refl

theorem State.checkInact_grows (s : State) (n : Ch) (j : RecJob) (m : Option Manifest) (anchors : Bool) : s.grows (State.checkInact s n j m anchors) := by
  unfold State.checkInact
  refine .ite ?_ ?_
  · exact .refl
  · extract_lets +onlyGivenNames x1
    clear_value x1
    extract_lets +onlyGivenNames x2
    clear_value x2
    refine .trans ?_ (State.raiseIf_grows _ _ _ _)
    exact .refl

theorem State.checkRtc_grows (s : State) : s.grows (State.checkRtc s) := by
  unfold State.checkRtc
  split
  · refine .ite ?_ ?_
    · refine .trans ?_ (State.grows.up_keeper _)
      exact .refl
    · exact .refl
  · exact .refl

theorem State.useNonce_grows (s : State) : s.grows (State.useNonce s) := by
  unfold State.useNonce
  refine .trans ?_ (State.grows.up_ident _)
  exact .refl

theorem State.checkToken_grows (s : State) (t : Token) : s.grows (State.checkToken s t).1 := by
  unfold State.checkToken
  extract_lets +onlyGivenNames x1
  refine .letP x1 ?_ (fun hx1 => ?_)
  · unfold x1
    refine State.withPku_grows _ _ _ (fun _ _ => ?_) ?_
    · refine .fst_mk ?_
      assumption
    · exact .refl
  clear_value x1
  refine .fst_mk ?_
  refine .trans ?_ (State.raiseIf_grows _ _ _ _)
  refine .trans ?_ (State.useNonce_grows _)
  assumption

theorem State.clearStores_grows (s : State) : s.grows (State.clearStores s) := by
  unfold State.clearStores
  extract_lets +onlyGivenNames x1
  refine .letS x1 ?_ (fun hx1 => ?_)
  · unfold x1
    split
    · refine .trans ?_ (State.completeCmd_grows _ _ _)
      exact .refl
    · exact .refl
  clear_value x1
  refine .trans ?_ (State.grows.up_cellar_crypt _ _)
  assumption

theorem State.closeRepairs_grows (s : State) (n : Ch) (k : SlotId) (copy : Nat) : s.grows (State.closeRepairs s n k copy) := by
  unfold State.closeRepairs
  extract_lets +onlyGivenNames x1
  clear_value x1
  extract_lets +onlyGivenNames x2
  refine .letS x2 ?_ (fun hx2 => ?_)
  · unfold x2
    refine .foldl (fun _ _ _ => ?_) ?_
    · refine .trans ?_ (State.intent_grows _ _ _ _ _ _ _ _ _ _)
      assumption
    · exact .refl
  clear_value x2
  refine .trans ?_ (State.updChan_grows _ _ _)
  assumption

theorem State.mctpSend_grows (s : State) (eid : Nat) (bs : List Byte) : s.grows (State.mctpSend s eid bs) := by
  unfold State.mctpSend
  extract_lets +onlyGivenNames x1
  refine .letS x1 ?_ (fun hx1 => ?_)
  · unfold x1
    refine .trans ?_ (State.emit_grows _ _)
    exact .refl
  clear_value x1
  split
  · refine .ite ?_ ?_
    · refine .trans ?_ (State.queueResponse_grows _ _ _)
      assumption
    · assumption
  · assumption

theorem State.command_grows {s0 : State} (s : State) (src : Src) (opcode : Nat) (k : State → State × Reply) (hk : ∀ (y0 : State), s0.grows y0 → s0.grows (k y0).1) (hs : s0.grows s) : s0.grows (State.command s src opcode k).1 := by
  unfold State.command
  split
  · split
    · refine .fst_mk ?_
      assumption
    · refine .ite_fst ?_ ?_
      · refine .fst_mk ?_
        assumption
      · refine .ite_fst ?_ ?_
        · refine .fst_mk ?_
          refine .trans ?_ (State.completeCmd_grows _ _ _)
          assumption
        · refine .ite_fst ?_ ?_
          · refine .fst_mk ?_
            refine .trans ?_ (State.completeCmd_grows _ _ _)
            assumption
          · extract_lets +onlyGivenNames x1
            refine .letP x1 ?_ (fun hx1 => ?_)
            · unfold x1
              apply hk
              assumption
            clear_value x1
            refine .fst_mk ?_
            refine .trans ?_ (State.completeCmd_grows _ _ _)
            assumption
  · refine .ite_fst ?_ ?_
    · refine .fst_mk ?_
      assumption
    · refine .ite_fst ?_ ?_
      · refine .fst_mk ?_
        refine .trans ?_ (State.mctpSend_grows _ _ _)
        assumption
      · refine .ite_fst ?_ ?_
        · refine .fst_mk ?_
          refine .trans ?_ (State.mctpSend_grows _ _ _)
          assumption
        · extract_lets +onlyGivenNames x2
          refine .letP x2 ?_ (fun hx2 => ?_)
          · unfold x2
            apply hk
            assumption
          clear_value x2
          refine .fst_mk ?_
          refine .trans ?_ (State.mctpSend_grows _ _ _)
          assumption
  · refine .ite_fst ?_ ?_
    · refine .fst_mk ?_
      assumption
    · refine .ite_fst ?_ ?_
      · refine .fst_mk ?_
        refine .trans ?_ (State.emit_grows _ _)
        assumption
      · extract_lets +onlyGivenNames x3
        refine .letP x3 ?_ (fun hx3 => ?_)
        · unfold x3
          apply hk
          assumption
        clear_value x3
        refine .fst_mk ?_
        refine .trans ?_ (State.emit_grows _ _)
        assumption

theorem State.commitGo_grows (s : State) (q : Req) (mask : Word) : s.grows (State.commitGo s q mask) := by
  unfold State.commitGo
  refine .ite ?_ ?_
  · refine .trans ?_ (State.setView_grows _ _ _)
    exact .refl
  · refine .ite ?_ ?_
    · refine .trans ?_ (State.setResult_grows _ _ _ _ _)
      exact .refl
    · refine .ite ?_ ?_
      · refine .trans ?_ (State.beginCommit_grows _ _ _)
        exact .refl
      · refine .trans ?_ (State.grows.up_regs _)
        exact .refl

theorem State.latchTrip_grows (s : State) (src : Nat) (cls : Nat) : s.grows (State.latchTrip s src cls) := by
  unfold State.latchTrip
  extract_lets +onlyGivenNames x1
  clear_value x1
  refine .ite ?_ ?_
  · exact .refl
  · refine .ite ?_ ?_
    · refine .trans ?_ (State.grows.up_keeper _)
      exact .refl
    · refine .ite ?_ ?_
      · refine .trans ?_ (State.grows.up_keeper _)
        exact .refl
      · exact .refl

theorem State.history_grows (s : State) (src : Nat) (cls : Nat) : s.grows (State.history s src cls) := by
  unfold State.history
  extract_lets +onlyGivenNames x1
  clear_value x1
  extract_lets +onlyGivenNames x2
  clear_value x2
  refine .ite ?_ ?_
  · extract_lets +onlyGivenNames x3
    clear_value x3
    extract_lets +onlyGivenNames x4
    clear_value x4
    extract_lets +onlyGivenNames x5
    clear_value x5
    refine .trans ?_ (State.grows.up_keeper _)
    exact .refl
  · extract_lets +onlyGivenNames x6
    clear_value x6
    extract_lets +onlyGivenNames x7
    clear_value x7
    refine .trans ?_ (State.grows.up_keeper _)
    exact .refl

theorem State.noteTrip_grows (s : State) (src : Nat) (cls : Nat) : s.grows (State.noteTrip s src cls) := by
  unfold State.noteTrip
  extract_lets +onlyGivenNames x1
  clear_value x1
  extract_lets +onlyGivenNames x2
  refine .letS x2 ?_ (fun hx2 => ?_)
  · unfold x2
    refine .trans ?_ (State.grows.up_keeper _)
    exact .refl
  clear_value x2
  refine .trans ?_ (State.latchTrip_grows _ _ _)
  refine .trans ?_ (State.history_grows _ _ _)
  assumption

theorem State.endRun_grows (s : State) (cause : Nat) (st : Status) : s.grows (State.endRun s cause st) := by
  unfold State.endRun
  refine .ite ?_ ?_
  · exact .refl
  · extract_lets +onlyGivenNames x1
    refine .letS x1 ?_ (fun hx1 => ?_)
    · unfold x1
      refine .foldl (fun _ _ _ => ?_) ?_
      · extract_lets +onlyGivenNames x2
        refine .letS x2 ?_ (fun hx2 => ?_)
        · unfold x2
          split
          · refine .trans ?_ (State.failSeg_grows _ _ _)
            refine .trans ?_ (State.segCredit_grows _ _)
            assumption
          · assumption
        clear_value x2
        extract_lets +onlyGivenNames x3
        refine .letS x3 ?_ (fun hx3 => ?_)
        · unfold x3
          refine .trans ?_ (State.dropQueue_grows _ _ _)
          assumption
        clear_value x3
        split
        · refine .trans ?_ (State.completeCmd_grows _ _ _)
          assumption
        · assumption
      · exact .refl
    clear_value x1
    refine .trans ?_ (State.grows.up_sealing _)
    assumption

theorem State.zeroiseLine_grows (s : State) (cause : Nat) : s.grows (State.zeroiseLine s cause) := by
  unfold State.zeroiseLine
  refine .trans ?_ (State.raise_grows _ _ _)
  refine .trans ?_ (State.clearStores_grows _)
  refine .trans ?_ (State.endRun_grows _ _ _)
  exact .refl

theorem State.holdAll_grows (s : State) : s.grows (State.holdAll s) := by
  unfold State.holdAll
  refine forCh_grows _ _ (fun _ _ _ => ?_) ?_
  · split
    · assumption
    · extract_lets +onlyGivenNames x1
      refine .letP x1 ?_ (fun hx1 => ?_)
      · unfold x1
        refine .trans ?_ (State.resetSlots_grows _ _)
        refine .trans ?_ (State.dropReset_grows _ _)
        assumption
      clear_value x1
      refine .trans ?_ (State.setAgent_grows _ _ _)
      refine .trans ?_ (State.updAgt_grows _ _ _)
      assumption
    · refine .trans ?_ (State.setAgent_grows _ _ _)
      assumption
  · exact .refl

theorem State.enterLockdown_grows (s : State) (cause : Nat) : s.grows (State.enterLockdown s cause) := by
  unfold State.enterLockdown
  refine .ite ?_ ?_
  · exact .refl
  · extract_lets +onlyGivenNames x1
    refine .letS x1 ?_ (fun hx1 => ?_)
    · unfold x1
      refine .trans ?_ (State.clearStores_grows _)
      refine .trans ?_ (State.endRun_grows _ _ _)
      exact .refl
    clear_value x1
    extract_lets +onlyGivenNames x2
    refine .letS x2 ?_ (fun hx2 => ?_)
    · unfold x2
      refine .trans ?_ (State.setMode_grows _ _ _)
      refine .trans ?_ (State.holdAll_grows _)
      assumption
    clear_value x2
    extract_lets +onlyGivenNames x3
    clear_value x3
    refine .trans ?_ (State.grows.up_ctl_ident_life _ _ _)
    assumption

theorem State.trip_grows (s : State) (src : Nat) : s.grows (State.trip s src) := by
  unfold State.trip
  extract_lets +onlyGivenNames x1
  clear_value x1
  extract_lets +onlyGivenNames x2
  clear_value x2
  refine .ite ?_ ?_
  · exact .refl
  · extract_lets +onlyGivenNames x3
    refine .letS x3 ?_ (fun hx3 => ?_)
    · unfold x3
      refine .trans ?_ (State.noteTrip_grows _ _ _)
      exact .refl
    clear_value x3
    refine .ite ?_ ?_
    · assumption
    · refine .ite ?_ ?_
      · refine .trans ?_ (State.raiseAt_grows _ _ _ _)
        assumption
      · refine .ite ?_ ?_
        · refine .trans ?_ (State.raiseAt_grows _ _ _ _)
          assumption
        · extract_lets +onlyGivenNames x4
          clear_value x4
          extract_lets +onlyGivenNames x5
          refine .letS x5 ?_ (fun hx5 => ?_)
          · unfold x5
            refine .trans ?_ (State.zeroiseLine_grows _ _)
            assumption
          clear_value x5
          extract_lets +onlyGivenNames x6
          refine .letS x6 ?_ (fun hx6 => ?_)
          · unfold x6
            refine forCh_grows _ _ (fun _ _ _ => ?_) ?_
            · refine .trans ?_ (State.updPort_grows _ _ _)
              assumption
            · assumption
          clear_value x6
          extract_lets +onlyGivenNames x7
          refine .letS x7 ?_ (fun hx7 => ?_)
          · unfold x7
            refine .trans ?_ (State.raiseAt_grows _ _ _ _)
            refine .trans ?_ (State.enterLockdown_grows _ _)
            assumption
          clear_value x7
          refine .ite ?_ ?_
          · refine .trans ?_ (State.burnFuses_grows _)
            assumption
          · assumption

theorem State.judgeLoss_grows (s : State) : s.grows (State.judgeLoss s) := by
  unfold State.judgeLoss
  refine .ite ?_ ?_
  · refine .trans ?_ (State.trip_grows _ _)
    refine .trans ?_ (State.grows.up_life _)
    exact .refl
  · exact .refl

theorem State.decantAgain_grows (s : State) (n : Ch) : s.grows (State.decantAgain s n) := by
  unfold State.decantAgain
  refine .ite ?_ ?_
  · extract_lets +onlyGivenNames x1
    refine .letS x1 ?_ (fun hx1 => ?_)
    · unfold x1
      refine .trans ?_ (State.updAgt_grows _ _ _)
      refine .trans ?_ (State.updChan_grows _ _ _)
      refine .trans ?_ (State.freeChan_grows _ _)
      exact .refl
    clear_value x1
    refine .ite ?_ ?_
    · refine .trans ?_ (State.startDecant_grows _ _)
      assumption
    · refine .trans ?_ (State.tryDecant_grows _ _)
      assumption
  · exact .refl

theorem State.seqStart_grows (s : State) : s.grows (State.seqStart s) := by
  unfold State.seqStart
  refine .trans ?_ (State.grows.up_ctl _)
  exact .refl

theorem State.platformRestored_grows (s : State) : s.grows (State.platformRestored s) := by
  unfold State.platformRestored
  refine .ite ?_ ?_
  · extract_lets +onlyGivenNames x1
    clear_value x1
    extract_lets +onlyGivenNames x2
    refine .letS x2 ?_ (fun hx2 => ?_)
    · unfold x2
      refine forCh_grows _ _ (fun _ _ _ => ?_) ?_
      · refine .ite ?_ ?_
        · refine .trans ?_ (State.decantAgain_grows _ _)
          assumption
        · refine .trans ?_ (State.tryDecant_grows _ _)
          assumption
      · refine .trans ?_ (State.setMode_grows _ _ _)
        exact .refl
    clear_value x2
    refine .ite ?_ ?_
    · refine .trans ?_ (State.seqStart_grows _)
      assumption
    · assumption
  · exact .refl

theorem State.setPolSlot_grows (s : State) (k : Nat) (p : Option PolSlot) : s.grows (State.setPolSlot s k p) := by
  unfold State.setPolSlot
  refine .trans ?_ (State.grows.up_ident _)
  exact .refl

theorem State.policyOutcome_grows (s : State) (st : Status) (failGrp : Word) : s.grows (State.policyOutcome s st failGrp) := by
  unfold State.policyOutcome
  split
  · split
    · extract_lets +onlyGivenNames x1
      refine .letS x1 ?_ (fun hx1 => ?_)
      · unfold x1
        refine .ite ?_ ?_
        · exact .refl
        · refine .trans ?_ (State.writeHeader_grows _)
          exact .refl
      clear_value x1
      extract_lets +onlyGivenNames x2
      clear_value x2
      extract_lets +onlyGivenNames x3
      clear_value x3
      extract_lets +onlyGivenNames x4
      clear_value x4
      extract_lets +onlyGivenNames x5
      clear_value x5
      extract_lets +onlyGivenNames x6
      refine .letS x6 ?_ (fun hx6 => ?_)
      · unfold x6
        refine .trans ?_ (State.grows.up_plat_ctl_ident _ _ _)
        assumption
      clear_value x6
      extract_lets +onlyGivenNames x7
      refine .letS x7 ?_ (fun hx7 => ?_)
      · unfold x7
        refine .trans ?_ (State.platChange_grows _)
        refine .trans ?_ (State.raise_grows _ _ _)
        assumption
      clear_value x7
      extract_lets +onlyGivenNames x8
      refine .letS x8 ?_ (fun hx8 => ?_)
      · unfold x8
        refine .trans ?_ (State.judgeLoss_grows _)
        refine forCh_grows _ _ (fun _ _ _ => ?_) ?_
        · refine .trans ?_ (State.tryDecant_grows _ _)
          assumption
        · assumption
      clear_value x8
      refine .ite ?_ ?_
      · refine .trans ?_ (State.platformRestored_grows _)
        assumption
      · assumption
    · extract_lets +onlyGivenNames x9
      clear_value x9
      extract_lets +onlyGivenNames x10
      refine .letS x10 ?_ (fun hx10 => ?_)
      · unfold x10
        refine .trans ?_ (State.setPolSlot_grows _ _ _)
        exact .refl
      clear_value x10
      refine .trans ?_ (State.raise_grows _ _ _)
      refine .trans ?_ (State.grows.up_ident _)
      assumption
    · exact .refl
  · exact .refl

theorem State.commitOutcome_grows (s : State) (q : Req) (st : Status) (mask : Word) (failGrp : Word) : s.grows (State.commitOutcome s q st mask failGrp) := by
  unfold State.commitOutcome
  extract_lets +onlyGivenNames x1
  refine .letS x1 ?_ (fun hx1 => ?_)
  · unfold x1
    refine .trans ?_ (State.setResult_grows _ _ _ _ _)
    exact .refl
  clear_value x1
  refine .ite ?_ ?_
  · refine .trans ?_ (State.policyOutcome_grows _ _ _)
    assumption
  · assumption

theorem State.compactBegin_grows (s : State) (key : Bool) : s.grows (State.compactBegin s key) := by
  unfold State.compactBegin
  extract_lets +onlyGivenNames x1
  clear_value x1
  extract_lets +onlyGivenNames x2
  refine .letS x2 ?_ (fun hx2 => ?_)
  · unfold x2
    refine .trans ?_ (State.intent_grows _ _ _ _ _ _ _ _ _ _)
    exact .refl
  clear_value x2
  refine .trans ?_ (State.grows.up_vault _)
  assumption

theorem State.updVaultPart_grows (s : State) (k : PartId) (f : Part → Part) : s.grows (State.updVaultPart s k f) := by
  unfold State.updVaultPart
  refine .trans ?_ (State.grows.up_vault _)
  exact .refl

theorem State.vaultIdle_grows (s : State) (k : PartId) : s.grows (State.vaultIdle s k) := by
  unfold State.vaultIdle
  refine .trans ?_ (State.updVaultPart_grows _ _ _)
  exact .refl

theorem State.vaultDone_grows (s : State) : s.grows (State.vaultDone s) := by
  unfold State.vaultDone
  refine .ite ?_ ?_
  · refine .trans ?_ (State.vaultIdle_grows _ _)
    exact .refl
  · exact .refl

theorem State.compactEnd_grows (s : State) (key : Bool) (n : Nat) : s.grows (State.compactEnd s key n) := by
  unfold State.compactEnd
  extract_lets +onlyGivenNames x1
  refine .letS x1 ?_ (fun hx1 => ?_)
  · unfold x1
    refine .trans ?_ (State.vaultDone_grows _)
    exact .refl
  clear_value x1
  extract_lets +onlyGivenNames x2
  clear_value x2
  extract_lets +onlyGivenNames x3
  refine .letS x3 ?_ (fun hx3 => ?_)
  · unfold x3
    refine .trans ?_ (State.grows.up_vault _)
    assumption
  clear_value x3
  extract_lets +onlyGivenNames x4
  clear_value x4
  extract_lets +onlyGivenNames x5
  clear_value x5
  extract_lets +onlyGivenNames x6
  clear_value x6
  extract_lets +onlyGivenNames x7
  refine .letS x7 ?_ (fun hx7 => ?_)
  · unfold x7
    refine .ite ?_ ?_
    · refine .trans ?_ (State.wearErase_grows _ _)
      refine .trans ?_ (State.grows.up_crypt _)
      assumption
    · refine .trans ?_ (State.wearErase_grows _ _)
      refine .trans ?_ (State.grows.up_vault _)
      assumption
  clear_value x7
  refine .trans ?_ (State.intent_grows _ _ _ _ _ _ _ _ _ _)
  assumption

theorem State.confirmImage_grows (s : State) (n : Ch) (k : SlotId) : s.grows (State.confirmImage s n k) := by
  unfold State.confirmImage
  split
  · extract_lets +onlyGivenNames x1
    clear_value x1
    extract_lets +onlyGivenNames x2
    clear_value x2
    extract_lets +onlyGivenNames x3
    refine .letS x3 ?_ (fun hx3 => ?_)
    · unfold x3
      refine .trans ?_ (State.raiseCh_grows _ _ _ _)
      refine .trans ?_ (State.updSlot_grows _ _ _ _)
      exact .refl
    clear_value x3
    extract_lets +onlyGivenNames x4
    clear_value x4
    extract_lets +onlyGivenNames x5
    refine .letS x5 ?_ (fun hx5 => ?_)
    · unfold x5
      refine .trans ?_ (State.intent_grows _ _ _ _ _ _ _ _ _ _)
      assumption
    clear_value x5
    refine .ite ?_ ?_
    · refine .trans ?_ (State.burnDone_grows _ _ _)
      assumption
    · refine .trans ?_ (State.intent_grows _ _ _ _ _ _ _ _ _ _)
      assumption
  · exact .refl

theorem State.confirmSlot_grows (s : State) (n : Ch) (k : SlotId) : s.grows (State.confirmSlot s n k).1 := by
  unfold State.confirmSlot
  refine .ite_fst ?_ ?_
  · refine .fst_mk ?_
    refine .trans ?_ (State.confirmImage_grows _ _ _)
    exact .refl
  · refine .fst_mk ?_
    exact .refl

theorem State.confirmCmd_grows (s : State) (channel : Nat) (slot : Nat) : s.grows (State.confirmCmd s channel slot).1 := by
  unfold State.confirmCmd
  refine .dite_fst (fun _ => ?_) (fun _ => ?_)
  · exact State.confirmSlot_grows _ _ _
  · refine .fst_mk ?_
    exact .refl

theorem State.vaultFlash_grows (s : State) (k : PartId) (op : FlashOp) : s.grows (State.vaultFlash s k op) := by
  unfold State.vaultFlash
  refine .trans ?_ (State.emit_grows _ _)
  exact .refl

theorem State.tendRedirects_grows (s : State) (n : Ch) : s.grows (State.tendRedirects s n) := by
  unfold State.tendRedirects
  extract_lets +onlyGivenNames x1
  refine .letS x1 ?_ (fun hx1 => ?_)
  · unfold x1
    refine .foldl (fun _ _ _ => ?_) ?_
    · extract_lets +onlyGivenNames x2
      extract_lets +onlyGivenNames x3
      refine .ite ?_ ?_
      · refine .trans ?_ (State.flash_grows _ _ _ _ _ _ _)
        refine .trans ?_ (State.updPart_grows _ _ _ _)
        assumption
      · refine .ite ?_ ?_
        · refine .trans ?_ (State.flash_grows _ _ _ _ _ _ _)
          refine .trans ?_ (State.updPart_grows _ _ _ _)
          assumption
        · assumption
    · exact .refl
  clear_value x1
  extract_lets +onlyGivenNames x4
  extract_lets +onlyGivenNames x5
  clear_value x5
  extract_lets +onlyGivenNames x6
  clear_value x6
  refine .ite ?_ ?_
  · unfold x4
    refine .trans ?_ (State.vaultFlash_grows _ _ _)
    refine .trans ?_ (State.grows.up_vault _)
    assumption
  · refine .ite ?_ ?_
    · unfold x4
      refine .trans ?_ (State.vaultFlash_grows _ _ _)
      refine .trans ?_ (State.grows.up_vault _)
      assumption
    · assumption

theorem State.confirmedFailure_grows (s : State) (n : Ch) (p : PageId) (copy : Nat) (cause : Nat) (node : Bool) : s.grows (State.confirmedFailure s n p copy cause node) := by
  unfold State.confirmedFailure
  extract_lets +onlyGivenNames x1
  clear_value x1
  extract_lets +onlyGivenNames x2
  clear_value x2
  extract_lets +onlyGivenNames x3
  clear_value x3
  extract_lets +onlyGivenNames x4
  refine .letS x4 ?_ (fun hx4 => ?_)
  · unfold x4
    refine .trans ?_ (State.updChan_grows _ _ _)
    exact .refl
  clear_value x4
  refine .ite ?_ ?_
  · refine .trans ?_ (State.graftExhausted_grows _ _ _)
    assumption
  · refine .ite ?_ ?_
    · assumption
    · refine .trans ?_ (State.tendRedirects_grows _ _)
      refine .trans ?_ (State.updChan_grows _ _ _)
      assumption

theorem State.flipReset_grows (s : State) (n : Ch) : s.grows (State.flipReset s n) := by
  unfold State.flipReset
  refine .ite ?_ ?_
  · refine .trans ?_ (State.holdAgent_grows _ _)
    exact .refl
  · refine .ite ?_ ?_
    · extract_lets +onlyGivenNames x1
      refine .letP x1 ?_ (fun hx1 => ?_)
      · unfold x1
        refine .trans ?_ (State.resetSlots_grows _ _)
        exact .refl
      clear_value x1
      refine .ite ?_ ?_
      · refine .trans ?_ (State.decantNew_grows _ _)
        assumption
      · assumption
    · exact .refl

theorem State.copyDone_grows (s : State) (n : Ch) (k : SlotId) (u : Update) (src : Nat) (dst : Nat) : s.grows (State.copyDone s n k u src dst) := by
  unfold State.copyDone
  extract_lets +onlyGivenNames x1
  clear_value x1
  extract_lets +onlyGivenNames x2
  refine .letS x2 ?_ (fun hx2 => ?_)
  · unfold x2
    refine .trans ?_ (State.closeRepairs_grows _ _ _ _)
    exact .refl
  clear_value x2
  extract_lets +onlyGivenNames x3
  refine .letS x3 ?_ (fun hx3 => ?_)
  · unfold x3
    refine .trans ?_ (State.intent_grows _ _ _ _ _ _ _ _ _ _)
    refine .trans ?_ (State.updSlot_grows _ _ _ _)
    assumption
  clear_value x3
  extract_lets +onlyGivenNames x4
  refine .letS x4 ?_ (fun hx4 => ?_)
  · unfold x4
    refine .trans ?_ (State.intent_grows _ _ _ _ _ _ _ _ _ _)
    assumption
  clear_value x4
  extract_lets +onlyGivenNames x5
  refine .letS x5 ?_ (fun hx5 => ?_)
  · unfold x5
    refine .trans ?_ (State.runAfterCopy_grows _ _)
    refine .trans ?_ (State.raiseCh_grows _ _ _ _)
    assumption
  clear_value x5
  refine .ite ?_ ?_
  · refine .trans ?_ (State.flipReset_grows _ _)
    assumption
  · assumption

theorem State.countCellar_grows (s : State) (n : Ch) (k : Nat) : s.grows (State.countCellar s n k) := by
  unfold State.countCellar
  refine .trans ?_ (State.cnt_grows _ _ _ _)
  refine .trans ?_ (State.updPort_grows _ _ _)
  exact .refl

theorem State.countCycle_grows (s : State) (n : Ch) : s.grows (State.countCycle s n) := by
  unfold State.countCycle
  extract_lets +onlyGivenNames x1
  clear_value x1
  extract_lets +onlyGivenNames x2
  clear_value x2
  extract_lets +onlyGivenNames x3
  refine .letS x3 ?_ (fun hx3 => ?_)
  · unfold x3
    refine .trans ?_ (State.cnt_grows _ _ _ _)
    exact .refl
  clear_value x3
  refine .ite ?_ ?_
  · extract_lets +onlyGivenNames x4
    clear_value x4
    extract_lets +onlyGivenNames x5
    clear_value x5
    extract_lets +onlyGivenNames x6
    clear_value x6
    extract_lets +onlyGivenNames x7
    refine .letS x7 ?_ (fun hx7 => ?_)
    · unfold x7
      refine .trans ?_ (State.addCounter_grows _ _ _)
      assumption
    clear_value x7
    refine .trans ?_ (State.cnt_grows _ _ _ _)
    refine .trans ?_ (State.cnt_grows _ _ _ _)
    refine .trans ?_ (State.cnt_grows _ _ _ _)
    refine .trans ?_ (State.cnt_grows _ _ _ _)
    assumption
  · assumption

theorem State.countHeartbeat_grows (s : State) (n : Ch) : s.grows (State.countHeartbeat s n) := by
  unfold State.countHeartbeat
  extract_lets +onlyGivenNames x1
  refine .letS x1 ?_ (fun hx1 => ?_)
  · unfold x1
    refine .ite ?_ ?_
    · refine .trans ?_ (State.setPhase_grows _ _ _)
      exact .refl
    · exact .refl
  clear_value x1
  refine .foldl (fun _ _ _ => ?_) ?_
  · split
    · refine .ite ?_ ?_
      · extract_lets +onlyGivenNames x2
        refine .letS x2 ?_ (fun hx2 => ?_)
        · unfold x2
          refine .trans ?_ (State.updSlot_grows _ _ _ _)
          assumption
        clear_value x2
        extract_lets +onlyGivenNames x3
        clear_value x3
        refine .ite ?_ ?_
        · refine .trans ?_ (State.confirmImage_grows _ _ _)
          assumption
        · assumption
      · assumption
    · assumption
  · assumption

theorem State.countRead_grows (s : State) (k : Nat) (addr : optParam Nat 0) : s.grows (State.countRead s k addr) := by
  unfold State.countRead
  extract_lets +onlyGivenNames x1
  refine .letS x1 ?_ (fun hx1 => ?_)
  · unfold x1
    refine .trans ?_ (State.cntQ_grows _ _ _)
    refine .trans ?_ (State.cntQ_grows _ _ _)
    exact .refl
  clear_value x1
  refine .trans ?_ (State.grows.up_tlm _)
  assumption

theorem State.countRt_grows (s : State) (n : Ch) (k : Nat) : s.grows (State.countRt s n k) := by
  unfold State.countRt
  refine .trans ?_ (State.cnt_grows _ _ _ _)
  refine .trans ?_ (State.updPort_grows _ _ _)
  exact .refl

theorem State.countSegment_grows (s : State) (p : Nat) (len : Nat) (src : Nat) (overlap : Nat) (enc : Bool) : s.grows (State.countSegment s p len src overlap enc) := by
  unfold State.countSegment
  extract_lets +onlyGivenNames x1
  refine .letS x1 ?_ (fun hx1 => ?_)
  · unfold x1
    refine .trans ?_ (State.countRead_grows _ _ _)
    refine .trans ?_ (State.cntQ_grows _ _ _)
    refine .trans ?_ (State.cntQ_grows _ _ _)
    refine .trans ?_ (State.cntQ_grows _ _ _)
    refine .trans ?_ (State.cntQ_grows _ _ _)
    exact .refl
  clear_value x1
  refine .trans ?_ (State.grows.up_tlm_sealing _ _)
  assumption

theorem State.countSpan_grows (s : State) (n : Ch) : s.grows (State.countSpan s n) := by
  unfold State.countSpan
  refine .trans ?_ (State.grows.up_tlm _)
  exact .refl

theorem State.countSynth_grows (s : State) (n : Ch) (k : Nat) : s.grows (State.countSynth s n k) := by
  unfold State.countSynth
  refine .trans ?_ (State.cnt_grows _ _ _ _)
  refine .trans ?_ (State.updPort_grows _ _ _)
  exact .refl

theorem State.rejectDebug_grows (s : State) (check : Nat) : s.grows (State.rejectDebug s check) := by
  unfold State.rejectDebug
  refine .trans ?_ (State.raise_grows _ _ _)
  refine .trans ?_ (State.grows.up_life _)
  exact .refl

theorem State.debugReply_grows (s : State) (len : Nat) (lenOk : Bool) (ts : List DbgToken) : s.grows (State.debugReply s len lenOk ts).1 := by
  unfold State.debugReply
  refine .ite_fst ?_ ?_
  · refine .fst_mk ?_
    exact .refl
  · extract_lets +onlyGivenNames x1
    clear_value x1
    extract_lets +onlyGivenNames x2
    refine .letS x2 ?_ (fun hx2 => ?_)
    · unfold x2
      refine .ite ?_ ?_
      · refine .trans ?_ (State.useNonce_grows _)
        exact .refl
      · exact .refl
    clear_value x2
    extract_lets +onlyGivenNames x3
    refine .letP x3 ?_ (fun hx3 => ?_)
    · unfold x3
      refine State.withPku_grows _ _ _ (fun _ _ => ?_) ?_
      · refine .fst_mk ?_
        assumption
      · assumption
    clear_value x3
    extract_lets +onlyGivenNames x4
    refine .letS x4 ?_ (fun hx4 => ?_)
    · unfold x4
      assumption
    clear_value x4
    refine .ite_fst ?_ ?_
    · refine .fst_mk ?_
      refine .trans ?_ (State.rejectDebug_grows _ _)
      assumption
    · split
      · refine .ite_fst ?_ ?_
        · refine .fst_mk ?_
          refine .trans ?_ (State.raise_grows _ _ _)
          refine .trans ?_ (State.grows.up_life _)
          assumption
        · refine .fst_mk ?_
          refine .trans ?_ (State.grows.up_keeper_life _ _)
          assumption
      · refine .fst_mk ?_
        refine .ite ?_ ?_
        · assumption
        · refine .trans ?_ (State.rejectDebug_grows _ _)
          assumption

theorem State.keepNode_grows (s : State) (n : Ch) (p : PageId) (copy : Nat) : s.grows (State.keepNode s n p copy) := by
  unfold State.keepNode
  extract_lets +onlyGivenNames x1
  clear_value x1
  refine .ite ?_ ?_
  · refine .trans ?_ (State.grows.up_cellar _)
    exact .refl
  · refine .trans ?_ (State.admitNode_grows _ _)
    exact .refl

theorem State.decantNode_grows (s : State) (n : Ch) (p : PageId) (ok : Bool) : s.grows (State.decantNode s n p ok) := by
  unfold State.decantNode
  extract_lets +onlyGivenNames x1
  clear_value x1
  refine .ite ?_ ?_
  · exact .refl
  · refine .ite ?_ ?_
    · refine .trans ?_ (State.keepNode_grows _ _ _ _)
      exact .refl
    · refine .trans ?_ (State.confirmedFailure_grows _ _ _ _ _ _)
      refine .trans ?_ (State.raiseCh_grows _ _ _ _)
      exact .refl

theorem State.xtsRefused_grows (s : State) (n : Ch) (k : SlotId) (copy : Nat) : s.grows (State.xtsRefused s n k copy) := by
  unfold State.xtsRefused
  split
  · refine .trans ?_ (State.raiseIf_grows _ _ _ _)
    exact .refl
  · exact .refl

theorem State.xtsPage_grows (s : State) (n : Ch) (p : PageId) (copy : Nat) (decrypt : Bool) : s.grows (State.xtsPage s n p copy decrypt) := by
  unfold State.xtsPage
  split
  · refine .trans ?_ (State.emit_grows _ _)
    exact .refl
  · exact .refl

theorem State.decantPinned_grows (s : State) (n : Ch) (p : PageId) (ok : Bool) (keyOk : Bool) : s.grows (State.decantPinned s n p ok keyOk) := by
  unfold State.decantPinned
  extract_lets +onlyGivenNames x1
  clear_value x1
  extract_lets +onlyGivenNames x2
  refine .letS x2 ?_ (fun hx2 => ?_)
  · unfold x2
    refine .trans ?_ (State.updChan_grows _ _ _)
    exact .refl
  clear_value x2
  refine .ite ?_ ?_
  · assumption
  · refine .ite ?_ ?_
    · refine .trans ?_ (State.confirmedFailure_grows _ _ _ _ _ _)
      refine .trans ?_ (State.raiseCh_grows _ _ _ _)
      assumption
    · refine .ite ?_ ?_
      · refine .trans ?_ (State.xtsRefused_grows _ _ _ _)
        assumption
      · refine .trans ?_ (State.noteSet_grows _ _)
        refine .trans ?_ (State.cnt_grows _ _ _ _)
        refine .trans ?_ (State.xtsPage_grows _ _ _ _ _)
        refine .trans ?_ (State.admitData_grows _ _ _ _)
        assumption

theorem State.decantPrefetch_grows (s : State) (n : Ch) (p : PageId) (ok : Bool) : s.grows (State.decantPrefetch s n p ok) := by
  unfold State.decantPrefetch
  extract_lets +onlyGivenNames x1
  clear_value x1
  extract_lets +onlyGivenNames x2
  refine .ite ?_ ?_
  · unfold x2
    refine .trans ?_ (State.updChan_grows _ _ _)
    exact .refl
  · extract_lets +onlyGivenNames x3
    refine .letS x3 ?_ (fun hx3 => ?_)
    · unfold x3
      refine .trans ?_ (State.updChan_grows _ _ _)
      exact .refl
    clear_value x3
    refine .ite ?_ ?_
    · assumption
    · refine .ite ?_ ?_
      · refine .trans ?_ (State.confirmedFailure_grows _ _ _ _ _ _)
        assumption
      · extract_lets +onlyGivenNames x4
        refine .letP x4 ?_ (fun hx4 => ?_)
        · unfold x4
          refine .trans ?_ (State.admitData_grows _ _ _ _)
          assumption
        clear_value x4
        refine .ite ?_ ?_
        · refine .trans ?_ (State.cnt_grows _ _ _ _)
          assumption
        · unfold x2
          refine .trans ?_ (State.updChan_grows _ _ _)
          assumption

theorem State.degrade_grows (s : State) (ring : Bool) : s.grows (State.degrade s ring) := by
  unfold State.degrade
  refine .trans ?_ (State.raise_grows _ _ _)
  refine .trans ?_ (State.grows.up_evt _ rfl)
  exact .refl

theorem State.withoutRoot_grows (s : State) (i : Nat) (drbg : List Byte) : s.grows (State.withoutRoot s i drbg) := by
  unfold State.withoutRoot
  extract_lets +onlyGivenNames x1
  clear_value x1
  extract_lets +onlyGivenNames x2
  clear_value x2
  extract_lets +onlyGivenNames x3
  clear_value x3
  refine .ite ?_ ?_
  · exact .refl
  · refine .ite ?_ ?_
    · refine .trans ?_ (State.fill_grows _ _ _ _)
      exact .refl
    · refine .trans ?_ (State.setCask_grows _ _ _)
      exact .refl

theorem State.deriveFixed_grows (s : State) (i : Nat) (ctx : List Byte) (gen : Option Nat) : s.grows (State.deriveFixed s i ctx gen) := by
  unfold State.deriveFixed
  extract_lets +onlyGivenNames x1
  clear_value x1
  extract_lets +onlyGivenNames x2
  clear_value x2
  split
  · refine .trans ?_ (State.withoutRoot_grows _ _ _)
    exact .refl
  · refine .trans ?_ (State.fill_grows _ _ _ _)
    exact .refl

theorem State.invalidateLive_grows (s : State) (i : Nat) : s.grows (State.invalidateLive s i) := by
  unfold State.invalidateLive
  refine .ite ?_ ?_
  · refine .trans ?_ (State.invalidate_grows _ _)
    exact .refl
  · exact .refl

theorem State.deriveL0_grows (s : State) (w : Package) (st : Package) : s.grows (State.deriveL0 s w st) := by
  unfold State.deriveL0
  extract_lets +onlyGivenNames x1
  refine .letS x1 ?_ (fun hx1 => ?_)
  · unfold x1
    refine .trans ?_ (State.invalidateLive_grows _ _)
    exact .refl
  clear_value x1
  extract_lets +onlyGivenNames x2
  clear_value x2
  extract_lets +onlyGivenNames x3
  refine .letS x3 ?_ (fun hx3 => ?_)
  · unfold x3
    refine .trans ?_ (State.deriveFixed_grows _ _ _ _)
    refine .trans ?_ (State.deriveFixed_grows _ _ _ _)
    refine .trans ?_ (State.deriveFixed_grows _ _ _ _)
    assumption
  clear_value x3
  extract_lets +onlyGivenNames x4
  clear_value x4
  refine .trans ?_ (State.grows.up_ident _)
  assumption

theorem State.deriveL2_grows (s : State) (platDig : List Byte) : s.grows (State.deriveL2 s platDig) := by
  unfold State.deriveL2
  extract_lets +onlyGivenNames x1
  refine .letS x1 ?_ (fun hx1 => ?_)
  · unfold x1
    refine .trans ?_ (State.deriveFixed_grows _ _ _ _)
    refine .trans ?_ (State.deriveFixed_grows _ _ _ _)
    refine .trans ?_ (State.deriveFixed_grows _ _ _ _)
    refine .trans ?_ (State.invalidateLive_grows _ _)
    exact .refl
  clear_value x1
  extract_lets +onlyGivenNames x2
  clear_value x2
  refine .trans ?_ (State.grows.up_ident _)
  assumption

theorem State.journalsLost_grows (s : State) : s.grows (State.journalsLost s) := by
  unfold State.journalsLost
  extract_lets +onlyGivenNames x1
  clear_value x1
  extract_lets +onlyGivenNames x2
  refine .letS x2 ?_ (fun hx2 => ?_)
  · unfold x2
    refine .foldl (fun _ _ _ => ?_) ?_
    · refine .trans ?_ (State.raise_grows _ _ _)
      assumption
    · exact .refl
  clear_value x2
  extract_lets +onlyGivenNames x3
  refine .letS x3 ?_ (fun hx3 => ?_)
  · unfold x3
    refine .foldl (fun _ _ _ => ?_) ?_
    · refine .trans ?_ (State.raiseIf_grows _ _ _ _)
      assumption
    · assumption
  clear_value x3
  refine .trans ?_ (State.grows.up_evt_vault_sealing_crypt _ _ _ _ rfl)
  assumption

theorem State.issueSeal_grows (s : State) (auth : Nat) : s.grows (State.issueSeal s auth) := by
  unfold State.issueSeal
  extract_lets g
  refine .ite .refl ?_
  exact ⟨[], by simp⟩

theorem State.deriveStart_grows (s : State) (p : Package) : s.grows (State.deriveStart s p) := by
  unfold State.deriveStart
  extract_lets +onlyGivenNames x1
  refine .letS x1 ?_ (fun hx1 => ?_)
  · unfold x1
    refine .trans ?_ (State.deriveL0_grows _ _ _)
    exact .refl
  clear_value x1
  extract_lets +onlyGivenNames x2
  clear_value x2
  extract_lets +onlyGivenNames x3
  refine .letS x3 ?_ (fun hx3 => ?_)
  · unfold x3
    refine .trans ?_ (State.deriveFixed_grows _ _ _ _)
    refine .trans ?_ (State.deriveFixed_grows _ _ _ _)
    refine .trans ?_ (State.deriveFixed_grows _ _ _ _)
    refine .trans ?_ (State.deriveFixed_grows _ _ _ _)
    assumption
  clear_value x3
  extract_lets +onlyGivenNames x4
  clear_value x4
  extract_lets +onlyGivenNames x5
  refine .letS x5 ?_ (fun hx5 => ?_)
  · unfold x5
    refine .trans ?_ (State.deriveFixed_grows _ _ _ _)
    refine .trans ?_ (State.deriveFixed_grows _ _ _ _)
    refine .trans ?_ (State.deriveFixed_grows _ _ _ _)
    refine .trans ?_ (State.drawn_grows _)
    assumption
  clear_value x5
  split
  · refine .trans ?_ (State.degrade_grows _ _)
    refine .trans ?_ (State.withoutRoot_grows _ _ _)
    refine .trans ?_ (State.withoutRoot_grows _ _ _)
    assumption
  · extract_lets +onlyGivenNames x6
    refine .letS x6 ?_ (fun hx6 => ?_)
    · unfold x6
      split
      · refine .ite ?_ ?_
        · assumption
        · refine .trans ?_ (State.journalsLost_grows _)
          assumption
      · assumption
    clear_value x6
    extract_lets +onlyGivenNames x7
    clear_value x7
    extract_lets +onlyGivenNames x8
    refine .letS x8 ?_ (fun hx8 => ?_)
    · unfold x8
      refine .trans ?_ (State.checkRtc_grows _)
      refine .trans ?_ (State.grows.up_crypt _)
      assumption
    clear_value x8
    extract_lets +onlyGivenNames x9
    refine .letS x9 ?_ (fun hx9 => ?_)
    · unfold x9
      refine .foldl (fun _ _ _ => ?_) ?_
      · refine .trans ?_ (State.loadKey_grows _ _)
        assumption
      · assumption
    clear_value x9
    extract_lets +onlyGivenNames x10
    clear_value x10
    extract_lets +onlyGivenNames x11
    refine .letS x11 ?_ (fun hx11 => ?_)
    · unfold x11
      refine .trans ?_ (State.deriveFixed_grows _ _ _ _)
      refine .trans ?_ (State.deriveFixed_grows _ _ _ _)
      assumption
    clear_value x11
    refine .trans ?_ (State.issueSeal_grows _ _)
    assumption

theorem State.discard_grows (s : State) (q : Req) (mask : Word) : s.grows (State.discard s q mask) := by
  unfold State.discard
  extract_lets +onlyGivenNames x1
  clear_value x1
  extract_lets +onlyGivenNames x2
  clear_value x2
  refine .trans ?_ (State.setView_grows _ _ _)
  exact .refl

theorem State.drainExceptions_grows (s : State) : s.grows (State.drainExceptions s) := by
  unfold State.drainExceptions
  extract_lets +onlyGivenNames x1
  clear_value x1
  extract_lets +onlyGivenNames x2
  clear_value x2
  extract_lets +onlyGivenNames x3
  refine .letS x3 ?_ (fun hx3 => ?_)
  · unfold x3
    refine .foldl (fun _ _ _ => ?_) ?_
    · refine .trans ?_ (State.emit_grows _ _)
      assumption
    · refine .foldl (fun _ _ _ => ?_) ?_
      · refine .trans ?_ (State.emit_grows _ _)
        assumption
      · exact .refl
  clear_value x3
  refine .trans ?_ (State.grows.up_plat _)
  assumption

theorem State.dropAnchors_grows (s : State) (n : Ch) (k : SlotId) (copy : Nat) : s.grows (State.dropAnchors s n k copy) := by
  unfold State.dropAnchors
  refine .ite ?_ ?_
  · exact .refl
  · refine .trans ?_ (State.freeFrames_grows _ _)
    exact .refl

theorem State.dropChange_grows (s : State) (c : KeyChange) : s.grows (State.dropChange s c) := by
  unfold State.dropChange
  extract_lets +onlyGivenNames x1
  clear_value x1
  extract_lets +onlyGivenNames x2
  refine .letS x2 ?_ (fun hx2 => ?_)
  · unfold x2
    refine .ite ?_ ?_
    · refine .trans ?_ (State.setCask_grows _ _ _)
      exact .refl
    · exact .refl
  clear_value x2
  refine .trans ?_ (State.completeCmd_grows _ _ _)
  refine .trans ?_ (State.raise_grows _ _ _)
  refine .trans ?_ (State.grows.up_crypt _)
  assumption

theorem State.dropClass3_grows (s : State) : s.grows (State.dropClass3 s) := by
  unfold State.dropClass3
  refine .ite ?_ ?_
  · refine .trans ?_ (State.grows.up_keeper _)
    exact .refl
  · exact .refl

theorem State.dropConn_grows (s : State) (eid : Nat) (tr : Nat) : s.grows (State.dropConn s eid tr) := by
  unfold State.dropConn
  refine .trans ?_ (State.grows.up_ident _)
  exact .refl

theorem State.dropRepair_grows (s : State) (n : Ch) (r : Repair) : s.grows (State.dropRepair s n r) := by
  unfold State.dropRepair
  refine .trans ?_ (State.updChan_grows _ _ _)
  exact .refl

theorem State.endSession_grows (s : State) (c : Conn) : s.grows (State.endSession s c) := by
  unfold State.endSession
  refine .ite ?_ ?_
  · refine .trans ?_ (State.setCask_grows _ _ _)
    exact .refl
  · exact .refl

theorem State.dropVdm_grows (s : State) : s.grows (State.dropVdm s) := by
  unfold State.dropVdm
  extract_lets +onlyGivenNames x1
  refine .letS x1 ?_ (fun hx1 => ?_)
  · unfold x1
    refine .foldl (fun _ _ _ => ?_) ?_
    · refine .trans ?_ (State.endSession_grows _ _)
      assumption
    · exact .refl
  clear_value x1
  refine .trans ?_ (State.grows.up_host_ident _ _)
  assumption

theorem State.dropVerdict_grows (s : State) (n : Ch) (p : PageId) : s.grows (State.dropVerdict s n p) := by
  unfold State.dropVerdict
  refine .trans ?_ (State.pressEnd_grows _ _)
  refine .trans ?_ (State.updChan_grows _ _ _)
  exact .refl

theorem State.startWaiting_grows (k : Nat) (s : State) : s.grows (State.startWaiting k s) := by
  induction k generalizing s with
  | zero => exact .refl
  | succ k ih =>
    unfold State.startWaiting
    split
    · extract_lets rg t
      have ht : s.grows t := by
        unfold t
        exact .trans (.up_regs _) (State.beginCommit_grows _ _ _)
      exact .trans (.ite (.trans ht (State.policyOutcome_grows _ _ _)) ht) (ih _)
    · exact .refl

theorem State.enrol_grows (s : State) : s.grows (State.enrol s) := by
  unfold State.enrol
  extract_lets +onlyGivenNames x1
  clear_value x1
  extract_lets +onlyGivenNames x2
  refine .letS x2 ?_ (fun hx2 => ?_)
  · unfold x2
    refine .trans ?_ (State.updOtp_grows _ _)
    refine .trans ?_ (State.drawn_grows _)
    exact .refl
  clear_value x2
  refine .trans ?_ (State.grows.up_crypt _)
  assumption

theorem State.enterVerify_grows (s : State) : s.grows (State.enterVerify s) := by
  unfold State.enterVerify
  refine .trans ?_ (State.seqStart_grows _)
  refine .trans ?_ (State.setMode_grows _ _ _)
  exact .refl

theorem State.noteVmax_grows (s : State) (n : Ch) (ns : Nat) : s.grows (State.noteVmax s n ns) := by
  unfold State.noteVmax
  refine .trans ?_ (State.grows.up_regs _)
  exact .refl

theorem State.verdictFailure_grows (s : State) (n : Ch) (d : Pend) (found : Found) : s.grows (State.verdictFailure s n d found) := by
  unfold State.verdictFailure
  split
  · refine .trans ?_ (State.tendRedirects_grows _ _)
    refine .trans ?_ (State.candFails_grows _ _ _ _)
    exact .refl
  · refine .trans ?_ (State.confirmedFailure_grows _ _ _ _ _ _)
    refine .trans ?_ (State.raiseCh_grows _ _ _ _)
    exact .refl
  · refine .trans ?_ (State.confirmedFailure_grows _ _ _ _ _ _)
    exact .refl

theorem State.failedVerdict_grows (s : State) (n : Ch) (cause : Nat) : s.grows (State.failedVerdict s n cause) := by
  unfold State.failedVerdict
  refine .trans ?_ (State.quarantine_grows _ _ _)
  refine .trans ?_ (State.exception_grows _ _ _)
  refine .trans ?_ (State.raiseCh_grows _ _ _ _)
  exact .refl

theorem State.failVerdict_grows (s : State) (n : Ch) (d : Pend) (found : Found) : s.grows (State.failVerdict s n d found) := by
  unfold State.failVerdict
  extract_lets +onlyGivenNames x1
  refine .letS x1 ?_ (fun hx1 => ?_)
  · unfold x1
    refine .trans ?_ (State.freeFrames_grows _ _)
    refine .trans ?_ (State.noteVmax_grows _ _ _)
    refine .trans ?_ (State.dropVerdict_grows _ _ _)
    exact .refl
  clear_value x1
  extract_lets +onlyGivenNames x2
  refine .letS x2 ?_ (fun hx2 => ?_)
  · unfold x2
    refine .trans ?_ (State.updChan_grows _ _ _)
    assumption
  clear_value x2
  refine .trans ?_ (State.verdictFailure_grows _ _ _ _)
  refine .trans ?_ (State.failedVerdict_grows _ _ _)
  refine .trans ?_ (State.raiseCh_grows _ _ _ _)
  refine .trans ?_ (State.cnt_grows _ _ _ _)
  refine .trans ?_ (State.cnt_grows _ _ _ _)
  assumption

theorem State.fallback_grows (s : State) : s.grows (State.fallback s) := by
  unfold State.fallback
  extract_lets +onlyGivenNames x1
  clear_value x1
  extract_lets +onlyGivenNames x2
  refine .letS x2 ?_ (fun hx2 => ?_)
  · unfold x2
    split
    · refine .trans ?_ (State.deriveL0_grows _ _ _)
      exact .refl
    · exact .refl
  clear_value x2
  extract_lets +onlyGivenNames x3
  clear_value x3
  extract_lets +onlyGivenNames x4
  refine .letS x4 ?_ (fun hx4 => ?_)
  · unfold x4
    refine .trans ?_ (State.grows.up_ident _)
    assumption
  clear_value x4
  refine .trans ?_ (State.drainExceptions_grows _)
  refine .trans ?_ (State.raise_grows _ _ _)
  refine .trans ?_ (State.intent_grows _ _ _ _ _ _ _ _ _ _)
  assumption

theorem State.fatalLedger_grows (s : State) : s.grows (State.fatalLedger s) := by
  unfold State.fatalLedger
  refine .trans ?_ (State.enterLockdown_grows _ _)
  refine .trans ?_ (State.raise_grows _ _ _)
  exact .refl

theorem State.faultEntries_grows (s : State) (q : Nat) : s.grows (State.faultEntries s q) := by
  unfold State.faultEntries
  extract_lets +onlyGivenNames x1
  clear_value x1
  extract_lets +onlyGivenNames x2
  clear_value x2
  extract_lets +onlyGivenNames x3
  refine .letS x3 ?_ (fun hx3 => ?_)
  · unfold x3
    refine .foldl (fun _ _ _ => ?_) ?_
    · refine .trans ?_ (State.segCredit_grows _ _)
      assumption
    · exact .refl
  clear_value x3
  extract_lets +onlyGivenNames x4
  clear_value x4
  extract_lets +onlyGivenNames x5
  refine .letS x5 ?_ (fun hx5 => ?_)
  · unfold x5
    refine .trans ?_ (State.grows.up_sealing _)
    assumption
  clear_value x5
  extract_lets +onlyGivenNames x6
  refine .letS x6 ?_ (fun hx6 => ?_)
  · unfold x6
    refine .foldl (fun _ _ _ => ?_) ?_
    · refine .trans ?_ (State.failSeg_grows _ _ _)
      assumption
    · assumption
  clear_value x6
  extract_lets +onlyGivenNames x7
  refine .letS x7 ?_ (fun hx7 => ?_)
  · unfold x7
    refine .foldl (fun _ _ _ => ?_) ?_
    · refine .trans ?_ (State.closeWaiting_grows _ _)
      assumption
    · assumption
  clear_value x7
  refine .foldl (fun _ _ _ => ?_) ?_
  · refine .trans ?_ (State.completeCmd_grows _ _ _)
    assumption
  · assumption

theorem State.finalise_grows (s : State) : s.grows (State.finalise s) := by
  unfold State.finalise
  split
  · extract_lets +onlyGivenNames x1
    clear_value x1
    refine .trans ?_ (State.grows.up_sealing _)
    exact .refl
  · exact .refl

theorem State.finishEol_grows (s : State) : s.grows (State.finishEol s) := by
  unfold State.finishEol
  refine .ite ?_ ?_
  · refine .trans ?_ (State.burnFuses_grows _)
    exact .refl
  · exact .refl

theorem State.firmwareFound_grows (s : State) : s.grows (State.firmwareFound s) := by
  unfold State.firmwareFound
  split
  · refine .ite ?_ ?_
    · exact .refl
    · refine .trans ?_ (State.raiseIf_grows _ _ _ _)
      refine .trans ?_ (State.intent_grows _ _ _ _ _ _ _ _ _ _)
      exact .refl
  · exact .refl

theorem State.flashLoss_grows (s : State) : s.grows (State.flashLoss s) := by
  unfold State.flashLoss
  refine .ite ?_ ?_
  · exact .refl
  · refine .trans ?_ (State.raise_grows _ _ _)
    refine .trans ?_ (State.setSticky_grows _ _ _)
    refine .trans ?_ (State.grows.up_clk _)
    exact .refl

theorem State.formTlm_grows (s : State) (r : List Byte) : s.grows (State.formTlm s r) := by
  unfold State.formTlm
  refine .trans ?_ (State.raise_grows _ _ _)
  refine .trans ?_ (State.qReport_grows _ _ _ _)
  refine .trans ?_ (State.grows.up_tlm _)
  exact .refl

theorem State.frameSend_grows (s : State) (a : Nat) (v : Word) : s.grows (State.frameSend s a v) := by
  unfold State.frameSend
  refine .ite ?_ ?_
  · exact .refl
  · refine .ite ?_ ?_
    · refine .trans ?_ (State.auxReject_grows _ _)
      exact .refl
    · refine .trans ?_ (State.auxBegin_grows _ _ _ _ _ _)
      exact .refl

theorem State.freeRead_grows (s : State) (p : Nat) (addr : Nat) : s.grows (State.freeRead s p addr) := by
  unfold State.freeRead
  refine .ite ?_ ?_
  · refine .trans ?_ (State.bumpFree_grows _)
    refine .trans ?_ (State.emit_grows _ _)
    exact .refl
  · exact .refl

theorem State.fromBmc_grows {s0 : State} (s : State) (eid : Nat) (k : State → State × List Byte) (hk : ∀ (y0 : State), s0.grows y0 → s0.grows (k y0).1) (hs : s0.grows s) : s0.grows (State.fromBmc s eid k) := by
  unfold State.fromBmc
  split
  · refine .ite ?_ ?_
    · refine .trans ?_ (State.mctpSend_grows _ _ _)
      apply hk
      assumption
    · assumption
  · assumption

theorem State.fwActivate_grows (s : State) (side : Bool) (target : Nat) : s.grows (State.fwActivate s side target).1 := by
  unfold State.fwActivate
  extract_lets +onlyGivenNames x1
  clear_value x1
  refine .ite_fst ?_ ?_
  · refine .fst_mk ?_
    exact .refl
  · refine .ite_fst ?_ ?_
    · extract_lets +onlyGivenNames x2
      clear_value x2
      refine .fst_mk ?_
      refine .trans ?_ (State.grows.up_ident _)
      exact .refl
    · extract_lets +onlyGivenNames x3
      clear_value x3
      refine .fst_mk ?_
      refine .trans ?_ (State.writeHeader_grows _)
      refine .trans ?_ (State.grows.up_ident _)
      exact .refl

theorem State.fwDownload_grows (s : State) (side : Bool) (last : Bool) (off : Nat) (len : Nat) (pkg : Option Package) : s.grows (State.fwDownload s side last off len pkg).1 := by
  unfold State.fwDownload
  extract_lets +onlyGivenNames x1
  clear_value x1
  refine .ite_fst ?_ ?_
  · refine .fst_mk ?_
    exact .refl
  · refine .ite_fst ?_ ?_
    · refine .fst_mk ?_
      exact .refl
    · refine .ite_fst ?_ ?_
      · split
        · refine .fst_mk ?_
          exact .refl
        · refine .ite_fst ?_ ?_
          · refine .fst_mk ?_
            exact .refl
          · extract_lets +onlyGivenNames x2
            clear_value x2
            refine .ite_fst ?_ ?_
            · refine .fst_mk ?_
              exact .refl
            · extract_lets +onlyGivenNames x3
              clear_value x3
              extract_lets +onlyGivenNames x4
              refine .letS x4 ?_ (fun hx4 => ?_)
              · unfold x4
                refine .trans ?_ (State.intent_grows _ _ _ _ _ _ _ _ _ _)
                exact .refl
              clear_value x4
              extract_lets +onlyGivenNames x5
              clear_value x5
              refine .fst_mk ?_
              refine .trans ?_ (State.writeHeader_grows _)
              refine .trans ?_ (State.grows.up_ident _)
              assumption
      · split
        · refine .fst_mk ?_
          exact .refl
        · extract_lets +onlyGivenNames x6
          clear_value x6
          refine .ite_fst ?_ ?_
          · refine .fst_mk ?_
            exact .refl
          · refine .fst_mk ?_
            refine .trans ?_ (State.grows.up_ident _)
            exact .refl

theorem State.fwInvalid_grows (s : State) (i : Nat) : s.grows (State.fwInvalid s i) := by
  unfold State.fwInvalid
  extract_lets +onlyGivenNames x1
  clear_value x1
  extract_lets +onlyGivenNames x2
  clear_value x2
  refine .trans ?_ (State.raise_grows _ _ _)
  refine .trans ?_ (State.writeHeader_grows _)
  refine .trans ?_ (State.grows.up_ident _)
  exact .refl

theorem State.refuseOp_grows (s : State) (n : Ch) (k : Nat) (op : Byte) : s.grows (State.refuseOp s n k op) := by
  unfold State.refuseOp
  extract_lets +onlyGivenNames x1
  refine .letS x1 ?_ (fun hx1 => ?_)
  · unfold x1
    refine .trans ?_ (State.raiseCh_grows _ _ _ _)
    refine .trans ?_ (State.cnt_grows _ _ _ _)
    refine .trans ?_ (State.updPort_grows _ _ _)
    exact .refl
  clear_value x1
  refine .ite ?_ ?_
  · refine .trans ?_ (State.exception_grows _ _ _)
    assumption
  · assumption

theorem State.gate_grows {s0 : State} (s : State) (t : Txn) (cls : Nat) (k : Word → Bool → State → State) (hk : ∀ (y0 : Word) (y1 : Bool) (y2 : State), s0.grows y2 → s0.grows (k y0 y1 y2)) (hs : s0.grows s) : s0.grows (State.gate s t cls k) := by
  unfold State.gate
  refine .ite ?_ ?_
  · assumption
  · extract_lets +onlyGivenNames x1
    refine .letS x1 ?_ (fun hx1 => ?_)
    · unfold x1
      refine .trans ?_ (State.cnt_grows _ _ _ _)
      refine .trans ?_ (State.updPort_grows _ _ _)
      assumption
    clear_value x1
    split
    · refine .trans ?_ (State.refuseOp_grows _ _ _ _)
      assumption
    · refine .ite ?_ ?_
      · apply hk
        assumption
      · refine .ite ?_ ?_
        · assumption
        · refine .trans ?_ (State.refuseOp_grows _ _ _ _)
          assumption
    · refine .ite ?_ ?_
      · apply hk
        assumption
      · assumption

theorem State.graftHold_grows (s : State) (n : Ch) (p : PageId) (copy : Nat) : s.grows (State.graftHold s n p copy) := by
  unfold State.graftHold
  extract_lets +onlyGivenNames x1
  clear_value x1
  extract_lets +onlyGivenNames x2
  refine .letS x2 ?_ (fun hx2 => ?_)
  · unfold x2
    refine .ite ?_ ?_
    · refine .trans ?_ (State.grows.up_cellar _)
      exact .refl
    · refine .trans ?_ (State.admitData_grows _ _ _ _)
      exact .refl
  clear_value x2
  refine .trans ?_ (State.xtsPage_grows _ _ _ _ _)
  assumption

theorem State.graftQualifies_grows (s : State) (n : Ch) (g : Graft) : s.grows (State.graftQualifies s n g) := by
  unfold State.graftQualifies
  extract_lets +onlyGivenNames x1
  clear_value x1
  extract_lets +onlyGivenNames x2
  clear_value x2
  extract_lets +onlyGivenNames x3
  refine .letS x3 ?_ (fun hx3 => ?_)
  · unfold x3
    refine .trans ?_ (State.updChan_grows _ _ _)
    exact .refl
  clear_value x3
  extract_lets +onlyGivenNames x4
  refine .letS x4 ?_ (fun hx4 => ?_)
  · unfold x4
    refine .ite ?_ ?_
    · refine .trans ?_ (State.addRepair_grows _ _ _ _ _ _ _)
      assumption
    · refine .trans ?_ (State.addRepair_grows _ _ _ _ _ _ _)
      assumption
  clear_value x4
  refine .ite ?_ ?_
  · assumption
  · refine .ite ?_ ?_
    · refine .trans ?_ (State.raiseCh_grows _ _ _ _)
      refine .trans ?_ (State.keepNode_grows _ _ _ _)
      assumption
    · refine .ite ?_ ?_
      · refine .trans ?_ (State.knowBad_grows _ _ _)
        refine .trans ?_ (State.raiseCh_grows _ _ _ _)
        assumption
      · refine .trans ?_ (State.noteSet_grows _ _)
        refine .trans ?_ (State.raiseCh_grows _ _ _ _)
        refine .trans ?_ (State.cnt_grows _ _ _ _)
        refine .trans ?_ (State.graftHold_grows _ _ _ _)
        assumption

theorem State.grantJob_grows (s : State) (j : Job) (e : Nat) : s.grows (State.grantJob s j e) := by
  unfold State.grantJob
  extract_lets +onlyGivenNames x1
  clear_value x1
  extract_lets +onlyGivenNames x2
  refine .letS x2 ?_ (fun hx2 => ?_)
  · unfold x2
    refine .trans ?_ (State.grows.up_press _)
    exact .refl
  clear_value x2
  split
  · refine .dite (fun _ => ?_) (fun _ => ?_)
    · refine .trans ?_ (State.raiseIf_grows _ _ _ _)
      refine .trans ?_ (State.cnt_grows _ _ _ _)
      assumption
    · assumption
  · assumption

theorem State.handoverDone_grows (s : State) : s.grows (State.handoverDone s) := by
  unfold State.handoverDone
  extract_lets +onlyGivenNames x1
  clear_value x1
  extract_lets +onlyGivenNames x2
  refine .letS x2 ?_ (fun hx2 => ?_)
  · unfold x2
    refine .trans ?_ (State.grows.up_ident _)
    exact .refl
  clear_value x2
  refine .trans ?_ (State.platChange_grows _)
  assumption

theorem State.harvest_grows (s : State) : s.grows (State.harvest s) := by
  unfold State.harvest
  refine .ite ?_ ?_
  · extract_lets +onlyGivenNames x1
    refine .letS x1 ?_ (fun hx1 => ?_)
    · unfold x1
      refine forCh_grows _ _ (fun _ _ _ => ?_) ?_
      · refine .trans ?_ (State.updChan_grows _ _ _)
        assumption
      · exact .refl
    clear_value x1
    refine .trans ?_ (State.grows.up_cellar_vault _ _)
    assumption
  · exact .refl

theorem State.wdAccept_grows (s : State) (n : Ch) (page : Bool) : s.grows (State.wdAccept s n page) := by
  unfold State.wdAccept
  extract_lets +onlyGivenNames x1
  refine .letS x1 ?_ (fun hx1 => ?_)
  · unfold x1
    refine .trans ?_ (State.updAgt_grows _ _ _)
    exact .refl
  clear_value x1
  assumption

theorem State.wdReset_grows (s : State) (n : Ch) : s.grows (State.wdReset s n) := by
  unfold State.wdReset
  extract_lets +onlyGivenNames x1
  clear_value x1
  extract_lets +onlyGivenNames x2
  refine .letS x2 ?_ (fun hx2 => ?_)
  · unfold x2
    refine .trans ?_ (State.cnt_grows _ _ _ _)
    refine .trans ?_ (State.updAgt_grows _ _ _)
    exact .refl
  clear_value x2
  extract_lets +onlyGivenNames x3
  clear_value x3
  refine .ite ?_ ?_
  · refine .trans ?_ (State.quarantine_grows _ _ _)
    refine .trans ?_ (State.raise_grows _ _ _)
    refine .trans ?_ (State.raise_grows _ _ _)
    assumption
  · refine .trans ?_ (State.holdAgent_grows _ _)
    refine .trans ?_ (State.raise_grows _ _ _)
    assumption

theorem State.wdService_grows (s : State) (n : Ch) (src : Nat) (key : Bool) : s.grows (State.wdService s n src key).1 := by
  unfold State.wdService
  split
  · refine .fst_mk ?_
    exact .refl
  · refine .fst_mk ?_
    refine .trans ?_ (State.raise_grows _ _ _)
    exact .refl
  · refine .fst_mk ?_
    refine .trans ?_ (State.wdAccept_grows _ _ _)
    exact .refl
  · refine .fst_mk ?_
    exact .refl
  · extract_lets +onlyGivenNames x1
    refine .letS x1 ?_ (fun hx1 => ?_)
    · unfold x1
      refine .trans ?_ (State.updAgt_grows _ _ _)
      refine .trans ?_ (State.raise_grows _ _ _)
      exact .refl
    clear_value x1
    refine .fst_mk ?_
    refine .ite ?_ ?_
    · assumption
    · refine .trans ?_ (State.wdReset_grows _ _)
      assumption

theorem State.heartbeat_grows (s : State) (n : Ch) (good : Bool) (op : Nat) : s.grows (State.heartbeat s n good op) := by
  unfold State.heartbeat
  extract_lets +onlyGivenNames x1
  refine .letP x1 ?_ (fun hx1 => ?_)
  · unfold x1
    refine .trans ?_ (State.wdService_grows _ _ _ _)
    exact .refl
  clear_value x1
  split
  · refine .trans ?_ (State.countHeartbeat_grows _ _)
    refine .trans ?_ (State.raiseCh_grows _ _ _ _)
    refine .trans ?_ (State.cnt_grows _ _ _ _)
    refine .trans ?_ (State.updPort_grows _ _ _)
    assumption
  · refine .ite ?_ ?_
    · assumption
    · refine .trans ?_ (State.raiseCh_grows _ _ _ _)
      refine .trans ?_ (State.updPort_grows _ _ _)
      assumption
  · assumption
  · assumption
  · refine .trans ?_ (State.raiseCh_grows _ _ _ _)
    refine .trans ?_ (State.updPort_grows _ _ _)
    assumption

theorem State.heartbeatProgram_grows (s : State) (t : Txn) (addr : Nat) (phaseOk : Bool) : s.grows (State.heartbeatProgram s t addr phaseOk) := by
  unfold State.heartbeatProgram
  extract_lets +onlyGivenNames x1
  clear_value x1
  refine .trans ?_ (State.heartbeat_grows _ _ _ _)
  refine .trans ?_ (State.updPort_grows _ _ _)
  exact .refl

theorem State.hostReset_grows (s : State) : s.grows (State.hostReset s) := by
  unfold State.hostReset
  extract_lets +onlyGivenNames x1
  clear_value x1
  extract_lets +onlyGivenNames x2
  clear_value x2
  extract_lets +onlyGivenNames x3
  clear_value x3
  extract_lets +onlyGivenNames x4
  clear_value x4
  extract_lets +onlyGivenNames x5
  clear_value x5
  extract_lets +onlyGivenNames x6
  refine .letS x6 ?_ (fun hx6 => ?_)
  · unfold x6
    refine .trans ?_ (State.grows.up_regs_press_host_sealing _ _ _ _)
    exact .refl
  clear_value x6
  refine .foldl (fun _ _ _ => ?_) ?_
  · refine .trans ?_ (State.raiseSeal_grows _ _ _)
    assumption
  · assumption

theorem State.imageState_grows (s : State) : s.grows (State.imageState s) := by
  unfold State.imageState
  extract_lets +onlyGivenNames x1
  clear_value x1
  extract_lets +onlyGivenNames x2
  refine .letS x2 ?_ (fun hx2 => ?_)
  · unfold x2
    refine .trans ?_ (State.sampleFor_grows _ _ _)
    refine .trans ?_ (State.addSample_grows _ _ _ _ _)
    refine .trans ?_ (State.sampleStream_grows _ _)
    refine .trans ?_ (State.sampleRec_grows _ _)
    exact .refl
  clear_value x2
  extract_lets +onlyGivenNames x3
  refine .letS x3 ?_ (fun hx3 => ?_)
  · unfold x3
    refine .trans ?_ (State.addSample_grows _ _ _ _ _)
    assumption
  clear_value x3
  refine .trans ?_ (State.setView_grows _ _ _)
  assumption

theorem State.issueNew_grows (s : State) (n : Ch) (o : AgentOp) : s.grows (State.issueNew s n o) := by
  unfold State.issueNew
  split
  · extract_lets +onlyGivenNames x1
    clear_value x1
    split
    · refine .trans ?_ (State.flash_grows _ _ _ _ _ _ _)
      refine .trans ?_ (State.cnt_grows _ _ _ _)
      exact .refl
    · exact .refl
  · refine .foldl (fun _ _ _ => ?_) ?_
    · refine .trans ?_ (State.flash_grows _ _ _ _ _ _ _)
      refine .trans ?_ (State.cnt_grows _ _ _ _)
      assumption
    · exact .refl

theorem State.journalRecords_grows (s : State) (k : Nat) : s.grows (State.journalRecords s k) := by
  unfold State.journalRecords
  refine .trans ?_ (State.grows.up_crypt _)
  exact .refl

theorem State.withAnchors_grows (s : State) (n : Ch) (k : SlotId) (copy : Nat) : s.grows (State.withAnchors s n k copy) := by
  unfold State.withAnchors
  refine .ite ?_ ?_
  · exact .refl
  · refine .trans ?_ (State.loadAnchors_grows _ _ _ _ _)
    exact .refl

theorem State.keepPath_grows (s : State) (n : Ch) (d : Pend) : s.grows (State.keepPath s n d) := by
  unfold State.keepPath
  refine .ite ?_ ?_
  · refine .foldl (fun _ _ _ => ?_) ?_
    · refine .trans ?_ (State.keepNode_grows _ _ _ _)
      assumption
    · refine .trans ?_ (State.withAnchors_grows _ _ _ _)
      exact .refl
  · exact .refl

theorem State.keyToken_grows (s : State) (t : Token) (kr : Option KeyReq) (want : KeyReq → Bool) : s.grows (State.keyToken s t kr want).1 := by
  unfold State.keyToken
  extract_lets +onlyGivenNames x1
  refine .letP x1 ?_ (fun hx1 => ?_)
  · unfold x1
    refine .trans ?_ (State.checkToken_grows _ _)
    exact .refl
  clear_value x1
  refine .ite_fst ?_ ?_
  · assumption
  · refine .ite_fst ?_ ?_
    · refine .fst_mk ?_
      refine .trans ?_ (State.raise_grows _ _ _)
      assumption
    · assumption

theorem State.lateVerdict_grows (s : State) (n : Ch) (d : Pend) : s.grows (State.lateVerdict s n d) := by
  unfold State.lateVerdict
  extract_lets +onlyGivenNames x1
  refine .letS x1 ?_ (fun hx1 => ?_)
  · unfold x1
    refine .trans ?_ (State.updChan_grows _ _ _)
    exact .refl
  clear_value x1
  extract_lets +onlyGivenNames x2
  refine .letS x2 ?_ (fun hx2 => ?_)
  · unfold x2
    refine .trans ?_ (State.freeFrames_grows _ _)
    refine .trans ?_ (State.noteVmax_grows _ _ _)
    assumption
  clear_value x2
  refine .trans ?_ (State.failedVerdict_grows _ _ _)
  refine .trans ?_ (State.raiseCh_grows _ _ _ _)
  refine .trans ?_ (State.cnt_grows _ _ _ _)
  refine .trans ?_ (State.cnt_grows _ _ _ _)
  assumption

theorem State.lcReply_grows {s0 : State} (s : State) (len : Nat) (t : LcToken) (modeOk : Bool) (a : Authority) (accepted : Bool) (program : State → State × Bool) (hprogram : ∀ (y0 : State), s0.grows y0 → s0.grows (program y0).1) (hs : s0.grows s) : s0.grows (State.lcReply s len t modeOk a accepted program).1 := by
  unfold State.lcReply
  refine .ite_fst ?_ ?_
  · refine .fst_mk ?_
    assumption
  · refine .ite_fst ?_ ?_
    · refine .fst_mk ?_
      assumption
    · refine .ite_fst ?_ ?_
      · refine .fst_mk ?_
        assumption
      · refine .ite_fst ?_ ?_
        · refine .fst_mk ?_
          assumption
        · refine .ite_fst ?_ ?_
          · refine .fst_mk ?_
            assumption
          · extract_lets +onlyGivenNames x1
            clear_value x1
            extract_lets +onlyGivenNames x2
            refine .letS x2 ?_ (fun hx2 => ?_)
            · unfold x2
              refine .trans ?_ (State.useNonce_grows _)
              assumption
            clear_value x2
            refine .ite_fst ?_ ?_
            · refine .fst_mk ?_
              assumption
            · refine .ite_fst ?_ ?_
              · refine .fst_mk ?_
                assumption
              · extract_lets +onlyGivenNames x3
                refine .letP x3 ?_ (fun hx3 => ?_)
                · unfold x3
                  refine .trans ?_ (State.pkuRun_grows _)
                  assumption
                clear_value x3
                extract_lets +onlyGivenNames x4
                refine .letS x4 ?_ (fun hx4 => ?_)
                · unfold x4
                  assumption
                clear_value x4
                refine .ite_fst ?_ ?_
                · refine .fst_mk ?_
                  assumption
                · refine .ite_fst ?_ ?_
                  · refine .fst_mk ?_
                    assumption
                  · refine .ite_fst ?_ ?_
                    · refine .fst_mk ?_
                      assumption
                    · extract_lets +onlyGivenNames x5
                      refine .letP x5 ?_ (fun hx5 => ?_)
                      · unfold x5
                        apply hprogram
                        assumption
                      clear_value x5
                      refine .ite_fst ?_ ?_
                      · refine .fst_mk ?_
                        assumption
                      · refine .fst_mk ?_
                        refine .trans ?_ (State.otpFail_grows _)
                        assumption

theorem State.ledgerRecover_grows (s : State) : s.grows (State.ledgerRecover s) := by
  unfold State.ledgerRecover
  extract_lets +onlyGivenNames x1
  refine .letS x1 ?_ (fun hx1 => ?_)
  · unfold x1
    refine .trans ?_ (State.enterRecover_grows _ _)
    exact .refl
  clear_value x1
  refine .ite ?_ ?_
  · refine forCh_grows _ _ (fun _ _ _ => ?_) ?_
    · refine .trans ?_ (State.holdAgent_grows _ _)
      assumption
    · refine .trans ?_ (State.grows.up_cellar _)
      assumption
  · assumption

theorem State.makeBlock_grows (s : State) : s.grows (State.makeBlock s) := by
  unfold State.makeBlock
  split
  · exact .refl
  · extract_lets +onlyGivenNames x1
    clear_value x1
    refine .trans ?_ (State.grows.up_evt _ rfl)
    exact .refl

theorem State.sideBit_grows (s : State) (p : Nat) (k : Nat) : s.grows (State.sideBit s p k) := by
  unfold State.sideBit
  refine .trans ?_ (State.setSticky_grows _ _ _)
  exact .refl

theorem State.mctpDrop_grows (s : State) (p : Nat) : s.grows (State.mctpDrop s p) := by
  unfold State.mctpDrop
  refine .trans ?_ (State.raise_grows _ _ _)
  refine .trans ?_ (State.sideBit_grows _ _ _)
  exact .refl

theorem State.mergeStaged_grows (s : State) (q : Req) (mask : Word) : s.grows (State.mergeStaged s q mask) := by
  unfold State.mergeStaged
  extract_lets +onlyGivenNames x1
  clear_value x1
  extract_lets +onlyGivenNames x2
  clear_value x2
  extract_lets +onlyGivenNames x3
  clear_value x3
  extract_lets +onlyGivenNames x4
  refine .letS x4 ?_ (fun hx4 => ?_)
  · unfold x4
    refine .trans ?_ (State.grows.up_regs _)
    exact .refl
  clear_value x4
  refine .trans ?_ (State.setView_grows _ _ _)
  assumption

theorem State.meshSample_grows (s : State) (k : Fin 2) (good : Bool) : s.grows (State.meshSample s k good) := by
  unfold State.meshSample
  extract_lets +onlyGivenNames x1
  clear_value x1
  extract_lets +onlyGivenNames x2
  clear_value x2
  extract_lets +onlyGivenNames x3
  clear_value x3
  extract_lets +onlyGivenNames x4
  clear_value x4
  extract_lets +onlyGivenNames x5
  clear_value x5
  extract_lets +onlyGivenNames x6
  clear_value x6
  extract_lets +onlyGivenNames x7
  clear_value x7
  extract_lets +onlyGivenNames x8
  refine .letS x8 ?_ (fun hx8 => ?_)
  · unfold x8
    refine .trans ?_ (State.grows.up_life _)
    exact .refl
  clear_value x8
  refine .ite ?_ ?_
  · refine .trans ?_ (State.trip_grows _ _)
    assumption
  · assumption

theorem State.romService_grows (s : State) : s.grows (State.romService s) := by
  unfold State.romService
  extract_lets +onlyGivenNames x1
  refine .letS x1 ?_ (fun hx1 => ?_)
  · unfold x1
    refine .trans ?_ (State.enterRecover_grows _ _)
    exact .refl
  clear_value x1
  refine .ite ?_ ?_
  · refine .trans ?_ (State.grows.up_plat _)
    assumption
  · assumption

theorem State.nack_grows (s : State) (p : Nat) : s.grows (State.nack s p) := by
  unfold State.nack
  refine .ite ?_ ?_
  · refine .trans ?_ (State.emit_grows _ _)
    exact .refl
  · exact .refl

theorem State.newNonce_grows (s : State) : s.grows (State.newNonce s).1 := by
  unfold State.newNonce
  extract_lets +onlyGivenNames x1
  clear_value x1
  extract_lets +onlyGivenNames x2
  refine .letS x2 ?_ (fun hx2 => ?_)
  · unfold x2
    refine .trans ?_ (State.drawn_grows _)
    exact .refl
  clear_value x2
  refine .fst_mk ?_
  refine .trans ?_ (State.grows.up_ident _)
  assumption

theorem State.notServed_grows (s : State) (n : Ch) (v : Nat) (op : Nat) : s.grows (State.notServed s n v op) := by
  unfold State.notServed
  refine .trans ?_ (State.raiseCh_grows _ _ _ _)
  exact .refl

theorem State.notePerst_grows (s : State) : s.grows (State.notePerst s) := by
  unfold State.notePerst
  extract_lets +onlyGivenNames x1
  clear_value x1
  refine .trans ?_ (State.grows.up_regs _)
  exact .refl

theorem State.opLate_grows (s : State) (n : Ch) (k : PartId) : s.grows (State.opLate s n k) := by
  unfold State.opLate
  split
  · refine .trans ?_ (State.raiseAt_grows _ _ _ _)
    refine .trans ?_ (State.updPort_grows _ _ _)
    exact .refl
  · exact .refl

theorem State.openEpoch_grows (s : State) (no : Nat) (anchor : Option (List Byte)) : s.grows (State.openEpoch s no anchor) := by
  unfold State.openEpoch
  refine .trans ?_ (State.grows.up_sealing _)
  exact .refl

theorem State.openSession_grows (s : State) (i : Nat) : s.grows (State.openSession s i) := by
  unfold State.openSession
  refine .trans ?_ (State.fill_grows _ _ _ _)
  exact .refl

theorem State.pressWait_grows (s : State) (j : Job) : s.grows (State.pressWait s j) := by
  unfold State.pressWait
  refine .trans ?_ (State.grows.up_press _)
  exact .refl

theorem State.openVerdict_grows (s : State) (n : Ch) (p : PageId) (copy : Nat) : s.grows (State.openVerdict s n p copy) := by
  unfold State.openVerdict
  extract_lets +onlyGivenNames x1
  clear_value x1
  extract_lets +onlyGivenNames x2
  refine .letS x2 ?_ (fun hx2 => ?_)
  · unfold x2
    refine .ite ?_ ?_
    · split
      · refine .trans ?_ (State.lateVerdict_grows _ _ _)
        exact .refl
      · exact .refl
    · exact .refl
  clear_value x2
  refine .ite ?_ ?_
  · extract_lets +onlyGivenNames x3
    refine .letP x3 ?_ (fun hx3 => ?_)
    · unfold x3
      refine .trans ?_ (State.admitData_grows _ _ _ _)
      assumption
    clear_value x3
    refine .trans ?_ (State.pressWait_grows _ _)
    refine .trans ?_ (State.updChan_grows _ _ _)
    assumption
  · assumption

theorem State.partRecovered_grows (s : State) (n : Ch) (k : PartId) : s.grows (State.partRecovered s n k) := by
  unfold State.partRecovered
  extract_lets +onlyGivenNames x1
  clear_value x1
  extract_lets +onlyGivenNames x2
  refine .letS x2 ?_ (fun hx2 => ?_)
  · unfold x2
    refine .foldl (fun _ _ _ => ?_) ?_
    · refine .trans ?_ (State.setBusy_grows _ _ _ _)
      assumption
    · refine .trans ?_ (State.setBusy_grows _ _ _ _)
      exact .refl
  clear_value x2
  refine .trans ?_ (State.updPort_grows _ _ _)
  assumption

theorem State.passVerdict_grows (s : State) (n : Ch) (d : Pend) : s.grows (State.passVerdict s n d) := by
  unfold State.passVerdict
  extract_lets +onlyGivenNames x1
  refine .letS x1 ?_ (fun hx1 => ?_)
  · unfold x1
    refine .trans ?_ (State.noteVmax_grows _ _ _)
    refine .trans ?_ (State.dropVerdict_grows _ _ _)
    exact .refl
  clear_value x1
  extract_lets +onlyGivenNames x2
  clear_value x2
  extract_lets +onlyGivenNames x3
  refine .letS x3 ?_ (fun hx3 => ?_)
  · unfold x3
    refine .trans ?_ (State.grows.up_cellar _)
    assumption
  clear_value x3
  refine .trans ?_ (State.cnt_grows _ _ _ _)
  refine .trans ?_ (State.cnt_grows _ _ _ _)
  refine .trans ?_ (State.updChan_grows _ _ _)
  assumption

theorem State.policyLoad_grows (s : State) (side : Bool) (b : Bundle) : s.grows (State.policyLoad s side b).1 := by
  unfold State.policyLoad
  extract_lets +onlyGivenNames x1
  clear_value x1
  extract_lets +onlyGivenNames x2
  refine .letP x2 ?_ (fun hx2 => ?_)
  · unfold x2
    refine State.withPku_grows _ _ _ (fun _ _ => ?_) ?_
    · refine .fst_mk ?_
      assumption
    · exact .refl
  clear_value x2
  refine .ite_fst ?_ ?_
  · assumption
  · extract_lets +onlyGivenNames x3
    refine .letS x3 ?_ (fun hx3 => ?_)
    · unfold x3
      assumption
    clear_value x3
    refine .ite_fst ?_ ?_
    · extract_lets +onlyGivenNames x4
      clear_value x4
      refine .fst_mk ?_
      refine .trans ?_ (State.grows.up_ident _)
      assumption
    · refine .fst_mk ?_
      refine .trans ?_ (State.raise_grows _ _ _)
      refine .trans ?_ (State.grows.up_ident _)
      assumption

theorem State.pressRun_grows (s : State) (j : Job) : s.grows (State.pressRun s j).1 := by
  unfold State.pressRun
  refine .ite_fst ?_ ?_
  · refine .fst_mk ?_
    refine .trans ?_ (State.pressEnd_grows _ _)
    exact .refl
  · extract_lets +onlyGivenNames x1
    refine .letS x1 ?_ (fun hx1 => ?_)
    · unfold x1
      refine .ite ?_ ?_
      · exact .refl
      · refine .trans ?_ (State.pressWait_grows _ _)
        exact .refl
    clear_value x1
    split
    · refine .ite_fst ?_ ?_
      · refine .fst_mk ?_
        refine .trans ?_ (State.pressEnd_grows _ _)
        refine .trans ?_ (State.grantJob_grows _ _ _)
        assumption
      · refine .fst_mk ?_
        assumption
    · refine .fst_mk ?_
      assumption

theorem State.queueFault_grows (s : State) (q : Nat) : s.grows (State.queueFault s q) := by
  unfold State.queueFault
  refine .ite ?_ ?_
  · exact .refl
  · refine .trans ?_ (State.qFail_grows _ _ _ _)
    refine .ite ?_ ?_
    · refine .trans ?_ (State.faultEntries_grows _ _)
      exact .refl
    · exact .refl

theorem State.rackAnchors_grows (s : State) (n : Ch) (k : SlotId) (copy : Nat) (f : RackFind) : s.grows (State.rackAnchors s n k copy f) := by
  unfold State.rackAnchors
  extract_lets +onlyGivenNames x1
  clear_value x1
  refine .ite ?_ ?_
  · exact .refl
  · refine .trans ?_ (State.withAnchors_grows _ _ _ _)
    exact .refl

theorem State.replaceManifest_grows (s : State) (n : Ch) (k : SlotId) (copy : Nat) : s.grows (State.replaceManifest s n k copy) := by
  unfold State.replaceManifest
  split
  · exact .refl
  · refine .ite ?_ ?_
    · refine .trans ?_ (State.addRepair_grows _ _ _ _ _ _ _)
      exact .refl
    · exact .refl

theorem State.rackManifest_grows (s : State) (n : Ch) (k : SlotId) (copy : Nat) (m : Option Manifest) : s.grows (State.rackManifest s n k copy m).1 := by
  unfold State.rackManifest
  extract_lets +onlyGivenNames x1
  refine .letP x1 ?_ (fun hx1 => ?_)
  · unfold x1
    refine .trans ?_ (State.pkuRun_grows _)
    exact .refl
  clear_value x1
  extract_lets +onlyGivenNames x2
  refine .letS x2 ?_ (fun hx2 => ?_)
  · unfold x2
    assumption
  clear_value x2
  refine .ite_fst ?_ ?_
  · refine .fst_mk ?_
    assumption
  · extract_lets +onlyGivenNames x3
    clear_value x3
    extract_lets +onlyGivenNames x4
    clear_value x4
    extract_lets +onlyGivenNames x5
    refine .letS x5 ?_ (fun hx5 => ?_)
    · unfold x5
      refine .ite ?_ ?_
      · assumption
      · refine .trans ?_ (State.updSlot_grows _ _ _ _)
        assumption
    clear_value x5
    extract_lets +onlyGivenNames x6
    refine .letS x6 ?_ (fun hx6 => ?_)
    · unfold x6
      refine .trans ?_ (State.raiseIf_grows _ _ _ _)
      assumption
    clear_value x6
    refine .fst_mk ?_
    refine .ite ?_ ?_
    · refine .trans ?_ (State.updSlot_grows _ _ _ _)
      assumption
    · refine .trans ?_ (State.replaceManifest_grows _ _ _ _)
      assumption

theorem State.rackOnward_grows (s : State) (n : Ch) (c : Cursor) (a : Cursor × Bool) : s.grows (State.rackOnward s n c a) := by
  unfold State.rackOnward
  extract_lets +onlyGivenNames x1
  refine .letS x1 ?_ (fun hx1 => ?_)
  · unfold x1
    refine .ite ?_ ?_
    · exact .refl
    · refine .trans ?_ (State.dropAnchors_grows _ _ _ _)
      exact .refl
  clear_value x1
  extract_lets +onlyGivenNames x2
  refine .letS x2 ?_ (fun hx2 => ?_)
  · unfold x2
    refine .trans ?_ (State.updChan_grows _ _ _)
    assumption
  clear_value x2
  refine .ite ?_ ?_
  · refine .trans ?_ (State.harvest_grows _)
    refine .trans ?_ (State.raiseCh_grows _ _ _ _)
    assumption
  · assumption

theorem State.rackFindings_grows (s : State) (n : Ch) (k : SlotId) (copy : Nat) (f : RackFind) : s.grows (State.rackFindings s n k copy f) := by
  unfold State.rackFindings
  extract_lets +onlyGivenNames x1
  clear_value x1
  extract_lets +onlyGivenNames x2
  refine .letS x2 ?_ (fun hx2 => ?_)
  · unfold x2
    exact .refl
  clear_value x2
  extract_lets +onlyGivenNames x3
  refine .letS x3 ?_ (fun hx3 => ?_)
  · unfold x3
    refine .foldl (fun _ _ _ => ?_) ?_
    · refine .trans ?_ (State.raiseCh_grows _ _ _ _)
      refine .trans ?_ (State.updChan_grows _ _ _)
      assumption
    · exact .refl
  clear_value x3
  extract_lets +onlyGivenNames x4
  refine .letS x4 ?_ (fun hx4 => ?_)
  · unfold x4
    refine .foldl (fun _ _ _ => ?_) ?_
    · refine .trans ?_ (State.confirmedFailure_grows _ _ _ _ _ _)
      refine .trans ?_ (State.raiseCh_grows _ _ _ _)
      refine .trans ?_ (State.cnt_grows _ _ _ _)
      assumption
    · assumption
  clear_value x4
  extract_lets +onlyGivenNames x5
  refine .letS x5 ?_ (fun hx5 => ?_)
  · unfold x5
    refine .foldl (fun _ _ _ => ?_) ?_
    · refine .trans ?_ (State.confirmedFailure_grows _ _ _ _ _ _)
      refine .trans ?_ (State.raiseCh_grows _ _ _ _)
      refine .trans ?_ (State.cnt_grows _ _ _ _)
      assumption
    · assumption
  clear_value x5
  refine .foldl (fun _ _ _ => ?_) ?_
  · refine .ite ?_ ?_
    · extract_lets +onlyGivenNames x6
      refine .letS x6 ?_ (fun hx6 => ?_)
      · unfold x6
        refine .trans ?_ (State.freeFrames_grows _ _)
        refine .trans ?_ (State.raiseCh_grows _ _ _ _)
        refine .trans ?_ (State.xtsPage_grows _ _ _ _ _)
        assumption
      clear_value x6
      refine .ite ?_ ?_
      · refine .trans ?_ (State.confirmedFailure_grows _ _ _ _ _ _)
        assumption
      · assumption
    · assumption
  · assumption

theorem State.rackHere_grows (s : State) (n : Ch) (k : SlotId) (c : Cursor) (f : RackFind) : s.grows (State.rackHere s n k c f) := by
  unfold State.rackHere
  extract_lets +onlyGivenNames x1
  clear_value x1
  refine .ite ?_ ?_
  · exact .refl
  · extract_lets +onlyGivenNames x2
    refine .letS x2 ?_ (fun hx2 => ?_)
    · unfold x2
      refine .trans ?_ (State.cnt_grows _ _ _ _)
      refine .trans ?_ (State.rackFindings_grows _ _ _ _ _)
      exact .refl
    clear_value x2
    refine .ite ?_ ?_
    · assumption
    · refine .trans ?_ (State.countSpan_grows _ _)
      assumption

theorem State.rackAt_grows (s : State) (n : Ch) (c : Cursor) (f : RackFind) (m : Option Manifest) : s.grows (State.rackAt s n c f m) := by
  unfold State.rackAt
  extract_lets +onlyGivenNames x1
  clear_value x1
  extract_lets +onlyGivenNames x2
  clear_value x2
  extract_lets +onlyGivenNames x3
  clear_value x3
  refine .ite ?_ ?_
  · extract_lets +onlyGivenNames x4
    refine .letP x4 ?_ (fun hx4 => ?_)
    · unfold x4
      refine .trans ?_ (State.rackManifest_grows _ _ _ _ _)
      exact .refl
    clear_value x4
    refine .ite ?_ ?_
    · refine .trans ?_ (State.rackOnward_grows _ _ _ _)
      assumption
    · refine .trans ?_ (State.rackOnward_grows _ _ _ _)
      refine .trans ?_ (State.rackHere_grows _ _ _ _ _)
      refine .trans ?_ (State.rackAnchors_grows _ _ _ _ _)
      assumption
  · refine .trans ?_ (State.rackOnward_grows _ _ _ _)
    refine .trans ?_ (State.rackHere_grows _ _ _ _ _)
    exact .refl

theorem State.rackCursor_grows (s : State) (n : Ch) (f : RackFind) (m : Option Manifest) : s.grows (State.rackCursor s n f m) := by
  unfold State.rackCursor
  refine .ite ?_ ?_
  · exact .refl
  · refine .trans ?_ (State.rackAt_grows _ _ _ _ _)
    exact .refl

theorem State.rackForRelease_grows (s : State) (n : Ch) (p : PageId) (f : RackFind) : s.grows (State.rackForRelease s n p f) := by
  unfold State.rackForRelease
  extract_lets +onlyGivenNames x1
  clear_value x1
  extract_lets +onlyGivenNames x2
  clear_value x2
  extract_lets +onlyGivenNames x3
  clear_value x3
  extract_lets +onlyGivenNames x4
  refine .letS x4 ?_ (fun hx4 => ?_)
  · unfold x4
    refine .trans ?_ (State.countSpan_grows _ _)
    refine .trans ?_ (State.cnt_grows _ _ _ _)
    refine .trans ?_ (State.rackFindings_grows _ _ _ _ _)
    exact .refl
  clear_value x4
  refine .trans ?_ (State.updChan_grows _ _ _)
  assumption

theorem State.vaultOnward_grows (s : State) (a : Cursor × Bool) : s.grows (State.vaultOnward s a) := by
  unfold State.vaultOnward
  extract_lets +onlyGivenNames x1
  clear_value x1
  extract_lets +onlyGivenNames x2
  refine .letS x2 ?_ (fun hx2 => ?_)
  · unfold x2
    refine .trans ?_ (State.grows.up_vault _)
    exact .refl
  clear_value x2
  refine .ite ?_ ?_
  · refine .trans ?_ (State.harvest_grows _)
    assumption
  · assumption

theorem State.rackVault_grows (s : State) (f : RackFind) (m : Option Manifest) : s.grows (State.rackVault s f m) := by
  unfold State.rackVault
  extract_lets +onlyGivenNames x1
  clear_value x1
  extract_lets +onlyGivenNames x2
  clear_value x2
  refine .ite ?_ ?_
  · exact .refl
  · refine .ite ?_ ?_
    · refine .trans ?_ (State.vaultOnward_grows _ _)
      refine .ite ?_ ?_
      · exact .refl
      · refine .trans ?_ (State.fwInvalid_grows _ _)
        exact .refl
    · split
      · refine .trans ?_ (State.vaultOnward_grows _ _)
        exact .refl
      · refine .dite (fun _ => ?_) (fun _ => ?_)
        · extract_lets +onlyGivenNames x3
          clear_value x3
          extract_lets +onlyGivenNames x4
          clear_value x4
          extract_lets +onlyGivenNames x5
          clear_value x5
          refine .ite ?_ ?_
          · refine .trans ?_ (State.vaultOnward_grows _ _)
            refine .trans ?_ (State.goldenInvalid_grows _ _ _)
            refine .trans ?_ (State.raiseCh_grows _ _ _ _)
            exact .refl
          · extract_lets +onlyGivenNames x6
            clear_value x6
            extract_lets +onlyGivenNames x7
            refine .letS x7 ?_ (fun hx7 => ?_)
            · unfold x7
              refine .ite ?_ ?_
              · refine .trans ?_ (State.grows.up_vault _)
                exact .refl
              · exact .refl
            clear_value x7
            refine .trans ?_ (State.vaultOnward_grows _ _)
            refine .trans ?_ (State.rackFindings_grows _ _ _ _ _)
            assumption
        · refine .trans ?_ (State.vaultOnward_grows _ _)
          exact .refl

theorem State.underrun_grows (s : State) (n : Ch) (vpage : Nat) (op : Nat) : s.grows (State.underrun s n vpage op) := by
  unfold State.underrun
  extract_lets +onlyGivenNames x1
  refine .letS x1 ?_ (fun hx1 => ?_)
  · unfold x1
    refine .trans ?_ (State.raiseCh_grows _ _ _ _)
    refine .trans ?_ (State.cnt_grows _ _ _ _)
    refine .trans ?_ (State.updPort_grows _ _ _)
    exact .refl
  clear_value x1
  refine .ite ?_ ?_
  · refine .trans ?_ (State.holdAgent_grows _ _)
    assumption
  · assumption

theorem State.readThrough_grows (s : State) (t : Txn) (v : Nat) (len : Nat) (prev : Option Served) (part : PartId) (copy : Nat) (phys : Nat) : s.grows (State.readThrough s t v len prev part copy phys).1 := by
  unfold State.readThrough
  extract_lets +onlyGivenNames x1
  clear_value x1
  extract_lets +onlyGivenNames x2
  clear_value x2
  refine .ite_fst ?_ ?_
  · refine .fst_mk ?_
    refine .trans ?_ (State.notServed_grows _ _ _ _)
    exact .refl
  · refine .ite_fst ?_ ?_
    · refine .fst_mk ?_
      refine .trans ?_ (State.underrun_grows _ _ _ _)
      exact .refl
    · split
      · refine .ite_fst ?_ ?_
        · refine .fst_mk ?_
          refine .trans ?_ (State.countRt_grows _ _ _)
          exact .refl
        · refine .fst_mk ?_
          refine .trans ?_ (State.underrun_grows _ _ _ _)
          exact .refl
      · refine .fst_mk ?_
        refine .trans ?_ (State.countRt_grows _ _ _)
        refine .trans ?_ (State.cnt_grows _ _ _ _)
        exact .refl

theorem State.writeFails_grows (s : State) (n : Ch) (j : RecJob) : s.grows (State.writeFails s n j) := by
  unfold State.writeFails
  refine .trans ?_ (State.sourceFails_grows _ _ _)
  refine .ite ?_ ?_
  · refine .trans ?_ (State.recRecord_grows _ _ _ _ _)
    exact .refl
  · exact .refl

theorem State.recWritten_grows (s : State) (n : Ch) (j : RecJob) : s.grows (State.recWritten s n j) := by
  unfold State.recWritten
  extract_lets +onlyGivenNames x1
  refine .letS x1 ?_ (fun hx1 => ?_)
  · unfold x1
    refine .ite ?_ ?_
    · refine .trans ?_ (State.updSlot_grows _ _ _ _)
      exact .refl
    · exact .refl
  clear_value x1
  refine .trans ?_ (State.slotRestored_grows _ _ _)
  refine .trans ?_ (State.closeRepairs_grows _ _ _ _)
  refine .trans ?_ (State.recRecord_grows _ _ _ _ _)
  assumption

theorem State.recWrite_grows (s : State) (n : Ch) (j : RecJob) (last : Bool) (ok : Bool) : s.grows (State.recWrite s n j last ok) := by
  unfold State.recWrite
  extract_lets +onlyGivenNames x1
  clear_value x1
  split
  · refine .ite ?_ ?_
    · refine .trans ?_ (State.writeFails_grows _ _ _)
      exact .refl
    · refine .ite ?_ ?_
      · refine .trans ?_ (State.recWritten_grows _ _ _)
        exact .refl
      · exact .refl
  · refine .ite ?_ ?_
    · exact .refl
    · extract_lets +onlyGivenNames x2
      refine .letS x2 ?_ (fun hx2 => ?_)
      · unfold x2
        refine .trans ?_ (State.setBusy_grows _ _ _ _)
        exact .refl
      clear_value x2
      refine .ite ?_ ?_
      · refine .ite ?_ ?_
        · refine .trans ?_ (State.updRec_grows _ _ _)
          assumption
        · refine .trans ?_ (State.sourceFails_grows _ _ _)
          refine .trans ?_ (State.recRecord_grows _ _ _ _ _)
          assumption
      · refine .ite ?_ ?_
        · refine .trans ?_ (State.recWritten_grows _ _ _)
          assumption
        · refine .trans ?_ (State.recRecord_grows _ _ _ _ _)
          refine .trans ?_ (State.updRec_grows _ _ _)
          assumption

theorem State.recoverAgain_grows (s : State) : s.grows (State.recoverAgain s) := by
  unfold State.recoverAgain
  split
  · refine .ite ?_ ?_
    · refine .trans ?_ (State.setMode_grows _ _ _)
      exact .refl
    · exact .refl
  · exact .refl

theorem State.recoverCmd_grows {s0 : State} (s : State) (len : Nat) (t : Token) (mine : Bool) (modeOk : Bool) (act : State → State) (hact : ∀ (y0 : State), s0.grows y0 → s0.grows (act y0)) (hs : s0.grows s) : s0.grows (State.recoverCmd s len t mine modeOk act).1 := by
  unfold State.recoverCmd
  refine .ite_fst ?_ ?_
  · refine .fst_mk ?_
    assumption
  · extract_lets +onlyGivenNames x1
    refine .letP x1 ?_ (fun hx1 => ?_)
    · unfold x1
      refine .trans ?_ (State.checkToken_grows _ _)
      assumption
    clear_value x1
    refine .ite_fst ?_ ?_
    · refine .fst_mk ?_
      assumption
    · refine .ite_fst ?_ ?_
      · refine .fst_mk ?_
        assumption
      · refine .fst_mk ?_
        apply hact
        assumption

theorem State.refreshRec_grows (s : State) (n : Ch) (k : PartId) (slot : SlotId) (unit : Nat) (state : Nat) (st : Nat) : s.grows (State.refreshRec s n k slot unit state st) := by
  unfold State.refreshRec
  refine .trans ?_ (State.intent_grows _ _ _ _ _ _ _ _ _ _)
  exact .refl

theorem State.reimageCmd_grows (s : State) (side : Bool) (agent : Nat) (source : Nat) : s.grows (State.reimageCmd s side agent source).1 := by
  unfold State.reimageCmd
  refine .dite_fst (fun _ => ?_) (fun _ => ?_)
  · extract_lets +onlyGivenNames x1
    clear_value x1
    refine .ite_fst ?_ ?_
    · refine .fst_mk ?_
      exact .refl
    · refine .ite_fst ?_ ?_
      · refine .fst_mk ?_
        exact .refl
      · refine .ite_fst ?_ ?_
        · refine .fst_mk ?_
          exact .refl
        · refine .fst_mk ?_
          refine .trans ?_ (State.enterReimaging_grows _ _ _ _ _)
          exact .refl
  · refine .fst_mk ?_
    exact .refl

theorem State.releaseSlot_grows (s : State) (n : Ch) (k : SlotId) : s.grows (State.releaseSlot s n k) := by
  unfold State.releaseSlot
  split
  · extract_lets +onlyGivenNames x1
    refine .letS x1 ?_ (fun hx1 => ?_)
    · unfold x1
      refine .trans ?_ (State.updSlot_grows _ _ _ _)
      exact .refl
    clear_value x1
    extract_lets +onlyGivenNames x2
    clear_value x2
    refine .ite ?_ ?_
    · refine .trans ?_ (State.confirmImage_grows _ _ _)
      assumption
    · assumption
  · refine .trans ?_ (State.intent_grows _ _ _ _ _ _ _ _ _ _)
    refine .trans ?_ (State.updSlot_grows _ _ _ _)
    exact .refl
  · exact .refl

theorem State.releaseAgent_grows (s : State) (n : Ch) : s.grows (State.releaseAgent s n) := by
  unfold State.releaseAgent
  extract_lets +onlyGivenNames x1
  refine .letS x1 ?_ (fun hx1 => ?_)
  · unfold x1
    refine .trans ?_ (State.updPort_grows _ _ _)
    refine .trans ?_ (State.bootPort_grows _ _)
    exact .refl
  clear_value x1
  extract_lets +onlyGivenNames x2
  refine .letS x2 ?_ (fun hx2 => ?_)
  · unfold x2
    refine .trans ?_ (State.updChan_grows _ _ _)
    assumption
  clear_value x2
  extract_lets +onlyGivenNames x3
  refine .letS x3 ?_ (fun hx3 => ?_)
  · unfold x3
    refine .trans ?_ (State.updAgt_grows _ _ _)
    assumption
  clear_value x3
  extract_lets +onlyGivenNames x4
  refine .letS x4 ?_ (fun hx4 => ?_)
  · unfold x4
    refine .trans ?_ (State.setAgent_grows _ _ _)
    assumption
  clear_value x4
  refine .foldl (fun _ _ _ => ?_) ?_
  · refine .trans ?_ (State.releaseSlot_grows _ _ _)
    assumption
  · assumption

theorem State.releaseMany_grows (s : State) (ns : List Ch) : s.grows (State.releaseMany s ns) := by
  unfold State.releaseMany
  refine .trans ?_ (State.checkGuard_grows _)
  refine .foldl (fun _ _ _ => ?_) ?_
  · refine .trans ?_ (State.releaseAgent_grows _ _)
    assumption
  · exact .refl

theorem State.releaseQuarantine_grows (s : State) (n : Ch) : s.grows (State.releaseQuarantine s n) := by
  unfold State.releaseQuarantine
  refine .ite ?_ ?_
  · refine .trans ?_ (State.tryDecant_grows _ _)
    refine .trans ?_ (State.requestSub_grows _ _)
    refine .trans ?_ (State.setAgent_grows _ _ _)
    exact .refl
  · exact .refl

theorem State.repairRec_grows (s : State) (n : Ch) (r : Repair) (state : Nat) (step : Nat) : s.grows (State.repairRec s n r state step) := by
  unfold State.repairRec
  refine .trans ?_ (State.intent_grows _ _ _ _ _ _ _ _ _ _)
  exact .refl

theorem State.repairDone_grows (s : State) (n : Ch) (r : Repair) : s.grows (State.repairDone s n r) := by
  unfold State.repairDone
  extract_lets +onlyGivenNames x1
  refine .letS x1 ?_ (fun hx1 => ?_)
  · unfold x1
    refine .trans ?_ (State.repairRec_grows _ _ _ _ _)
    refine .trans ?_ (State.dropRepair_grows _ _ _)
    exact .refl
  clear_value x1
  extract_lets +onlyGivenNames x2
  clear_value x2
  extract_lets +onlyGivenNames x3
  clear_value x3
  extract_lets +onlyGivenNames x4
  refine .letS x4 ?_ (fun hx4 => ?_)
  · unfold x4
    refine .trans ?_ (State.grows.up_cellar _)
    assumption
  clear_value x4
  refine .trans ?_ (State.raiseCh_grows _ _ _ _)
  refine .trans ?_ (State.updChan_grows _ _ _)
  assumption

theorem State.repairFlash_grows (s : State) (n : Ch) (r : Repair) (op : FlashOp) : s.grows (State.repairFlash s n r op) := by
  unfold State.repairFlash
  extract_lets +onlyGivenNames x1
  clear_value x1
  refine .ite ?_ ?_
  · refine .trans ?_ (State.emit_grows _ _)
    exact .refl
  · refine .trans ?_ (State.flash_grows _ _ _ _ _ _ _)
    exact .refl

theorem State.setRepair_grows (s : State) (n : Ch) (r : Repair) : s.grows (State.setRepair s n r) := by
  unfold State.setRepair
  refine .trans ?_ (State.updChan_grows _ _ _)
  exact .refl

theorem State.repairRead_grows (s : State) (n : Ch) (r : Repair) (bad : RackFind) : s.grows (State.repairRead s n r bad) := by
  unfold State.repairRead
  extract_lets +onlyGivenNames x1
  refine .letS x1 ?_ (fun hx1 => ?_)
  · unfold x1
    refine .ite ?_ ?_
    · exact .refl
    · refine .trans ?_ (State.repairRec_grows _ _ _ _ _)
      exact .refl
  clear_value x1
  extract_lets +onlyGivenNames x2
  refine .letS x2 ?_ (fun hx2 => ?_)
  · unfold x2
    refine .foldl (fun _ _ _ => ?_) ?_
    · refine .trans ?_ (State.confirmedFailure_grows _ _ _ _ _ _)
      assumption
    · assumption
  clear_value x2
  extract_lets +onlyGivenNames x3
  refine .letS x3 ?_ (fun hx3 => ?_)
  · unfold x3
    refine .foldl (fun _ _ _ => ?_) ?_
    · refine .trans ?_ (State.confirmedFailure_grows _ _ _ _ _ _)
      assumption
    · assumption
  clear_value x3
  refine .ite ?_ ?_
  · assumption
  · split
    · refine .trans ?_ (State.repairRec_grows _ _ _ _ _)
      refine .trans ?_ (State.setRepair_grows _ _ _)
      assumption
    · assumption

theorem State.repairReadBack_grows (s : State) (n : Ch) (r : Repair) (ok : Bool) : s.grows (State.repairReadBack s n r ok) := by
  unfold State.repairReadBack
  refine .ite ?_ ?_
  · refine .trans ?_ (State.repairRec_grows _ _ _ _ _)
    refine .trans ?_ (State.setRepair_grows _ _ _)
    exact .refl
  · refine .ite ?_ ?_
    · refine .trans ?_ (State.setRepair_grows _ _ _)
      exact .refl
    · extract_lets +onlyGivenNames x1
      refine .letS x1 ?_ (fun hx1 => ?_)
      · unfold x1
        refine .trans ?_ (State.repairRec_grows _ _ _ _ _)
        refine .trans ?_ (State.dropRepair_grows _ _ _)
        exact .refl
      clear_value x1
      refine .ite ?_ ?_
      · assumption
      · refine .trans ?_ (State.noSource_grows _ _ _ _)
        assumption

theorem State.reportWd_grows (s : State) : s.grows (State.reportWd s) := by
  unfold State.reportWd
  extract_lets +onlyGivenNames x1
  clear_value x1
  refine .ite ?_ ?_
  · extract_lets +onlyGivenNames x2
    refine .letS x2 ?_ (fun hx2 => ?_)
    · unfold x2
      refine .trans ?_ (State.grows.up_keeper _)
      exact .refl
    clear_value x2
    refine .trans ?_ (State.raiseIf_grows _ _ _ _)
    assumption
  · refine .ite ?_ ?_
    · exact .refl
    · refine .ite ?_ ?_
      · refine .trans ?_ (State.raise_grows _ _ _)
        exact .refl
      · refine .ite ?_ ?_
        · refine .trans ?_ (State.raise_grows _ _ _)
          exact .refl
        · refine .ite ?_ ?_
          · refine .trans ?_ (State.raise_grows _ _ _)
            exact .refl
          · exact .refl

theorem State.requestHeldAgain_grows (s : State) (n : Ch) : s.grows (State.requestHeldAgain s n) := by
  unfold State.requestHeldAgain
  refine .ite ?_ ?_
  · refine .trans ?_ (State.grows.up_ctl _)
    exact .refl
  · exact .refl

theorem State.restartJobs_grows (s : State) (e : Nat) : s.grows (State.restartJobs s e) := by
  unfold State.restartJobs
  extract_lets +onlyGivenNames x1
  clear_value x1
  refine .trans ?_ (State.grows.up_press _)
  exact .refl

theorem State.resumeRecovery_grows (s : State) (n : Ch) (k : SlotId) (i : Intent) (m : Manifest) : s.grows (State.resumeRecovery s n k i m) := by
  unfold State.resumeRecovery
  extract_lets +onlyGivenNames x1
  refine .letS x1 ?_ (fun hx1 => ?_)
  · unfold x1
    refine .trans ?_ (State.recoverAgain_grows _)
    exact .refl
  clear_value x1
  refine .ite ?_ ?_
  · assumption
  · extract_lets +onlyGivenNames x2
    clear_value x2
    extract_lets +onlyGivenNames x3
    clear_value x3
    refine .trans ?_ (State.reimage_grows _ _ _)
    assumption

theorem State.resumeRefresh_grows (s : State) (n : Ch) (k : SlotId) (i : Intent) : s.grows (State.resumeRefresh s n k i) := by
  unfold State.resumeRefresh
  extract_lets +onlyGivenNames x1
  clear_value x1
  extract_lets +onlyGivenNames x2
  clear_value x2
  refine .trans ?_ (State.updPart_grows _ _ _ _)
  exact .refl

theorem State.resumeUpdate_grows (s : State) (n : Ch) (k : SlotId) (i : Intent) (m : Manifest) (ok : Bool) : s.grows (State.resumeUpdate s n k i m ok) := by
  unfold State.resumeUpdate
  extract_lets +onlyGivenNames x1
  clear_value x1
  extract_lets +onlyGivenNames x2
  split
  · refine .ite ?_ ?_
    · refine .trans ?_ (State.intent_grows _ _ _ _ _ _ _ _ _ _)
      refine .trans ?_ (State.updSlot_grows _ _ _ _)
      exact .refl
    · refine .ite ?_ ?_
      · refine .trans ?_ (State.applyActs_grows _ _)
        refine .trans ?_ (State.updSlot_grows _ _ _ _)
        refine .trans ?_ (State.intent_grows _ _ _ _ _ _ _ _ _ _)
        exact .refl
      · refine .trans ?_ (State.updSlot_grows _ _ _ _)
        unfold x2
        refine .trans ?_ (State.updSlot_grows _ _ _ _)
        exact .refl
  · refine .trans ?_ (State.applyActs_grows _ _)
    refine .trans ?_ (State.resetSlot_grows _ _ _)
    unfold x2
    refine .trans ?_ (State.updSlot_grows _ _ _ _)
    exact .refl
  · refine .ite ?_ ?_
    · refine .trans ?_ (State.applyActs_grows _ _)
      refine .trans ?_ (State.updSlot_grows _ _ _ _)
      unfold x2
      refine .trans ?_ (State.updSlot_grows _ _ _ _)
      exact .refl
    · refine .ite ?_ ?_
      · refine .trans ?_ (State.intent_grows _ _ _ _ _ _ _ _ _ _)
        unfold x2
        refine .trans ?_ (State.updSlot_grows _ _ _ _)
        exact .refl
      · refine .trans ?_ (State.applyActs_grows _ _)
        refine .trans ?_ (State.updSlot_grows _ _ _ _)
        unfold x2
        refine .trans ?_ (State.updSlot_grows _ _ _ _)
        exact .refl
  · unfold x2
    refine .trans ?_ (State.updSlot_grows _ _ _ _)
    exact .refl

theorem State.resumeSlot_grows (s : State) (n : Ch) (k : SlotId) (i : Intent) (m : Manifest) (ok : Bool) : s.grows (State.resumeSlot s n k i m ok) := by
  unfold State.resumeSlot
  refine .ite ?_ ?_
  · exact .refl
  · extract_lets +onlyGivenNames x1
    refine .letS x1 ?_ (fun hx1 => ?_)
    · unfold x1
      refine .trans ?_ (State.resumeUpdate_grows _ _ _ _ _ _)
      exact .refl
    clear_value x1
    refine .ite ?_ ?_
    · refine .trans ?_ (State.startDecant_grows _ _)
      assumption
    · assumption

theorem State.rewriteCopies_grows (s : State) (l : List (Nat × Nat)) : s.grows (State.rewriteCopies s l) := by
  unfold State.rewriteCopies
  refine .trans ?_ (State.grows.up_ident _)
  exact .refl

theorem State.rewriteRecord_grows (s : State) (n : Ch) (r : Rewrite) (k : SlotId) (state : Nat) (step : Nat) : s.grows (State.rewriteRecord s n r k state step) := by
  unfold State.rewriteRecord
  refine .trans ?_ (State.intent_grows _ _ _ _ _ _ _ _ _ _)
  exact .refl

theorem State.updRewrite_grows (s : State) (r : Rewrite) (g : Rewrite → Rewrite) : s.grows (State.updRewrite s r g) := by
  unfold State.updRewrite
  refine .trans ?_ (State.grows.up_ident _)
  exact .refl

theorem State.rewriteStep_grows (s : State) (n : Ch) (r : Rewrite) (last : Bool) (ok : Bool) : s.grows (State.rewriteStep s n r last ok) := by
  unfold State.rewriteStep
  extract_lets +onlyGivenNames x1
  clear_value x1
  extract_lets +onlyGivenNames x2
  clear_value x2
  split
  · refine .trans ?_ (State.grows.up_ident _)
    exact .refl
  · refine .ite ?_ ?_
    · refine .ite ?_ ?_
      · exact .refl
      · refine .trans ?_ (State.raiseCh_grows _ _ _ _)
        refine .trans ?_ (State.updRewrite_grows _ _ _)
        exact .refl
    · refine .ite ?_ ?_
      · exact .refl
      · extract_lets +onlyGivenNames x3
        refine .letS x3 ?_ (fun hx3 => ?_)
        · unfold x3
          refine .trans ?_ (State.setBusy_grows _ _ _ _)
          exact .refl
        clear_value x3
        refine .ite ?_ ?_
        · refine .ite ?_ ?_
          · refine .trans ?_ (State.updRewrite_grows _ _ _)
            assumption
          · refine .trans ?_ (State.rewriteRecord_grows _ _ _ _ _ _)
            refine .trans ?_ (State.grows.up_ident _)
            assumption
        · refine .ite ?_ ?_
          · refine .trans ?_ (State.rewriteRecord_grows _ _ _ _ _ _)
            refine .trans ?_ (State.updRewrite_grows _ _ _)
            assumption
          · refine .ite ?_ ?_
            · extract_lets +onlyGivenNames x4
              clear_value x4
              extract_lets +onlyGivenNames x5
              refine .letS x5 ?_ (fun hx5 => ?_)
              · unfold x5
                refine .trans ?_ (State.rewriteRecord_grows _ _ _ _ _ _)
                refine .trans ?_ (State.grows.up_ident _)
                assumption
              clear_value x5
              refine .ite ?_ ?_
              · refine .trans ?_ (State.updSlot_grows _ _ _ _)
                refine .trans ?_ (State.closeRepairs_grows _ _ _ _)
                assumption
              · assumption
            · assumption

theorem State.rootEnd_grows (s : State) : s.grows (State.rootEnd s) := by
  unfold State.rootEnd
  refine .trans ?_ (State.grows.up_plat _)
  exact .refl

theorem State.rootWins_grows (s : State) (src : Nat) (h : Helper) (eS : Nat) (eD : Nat) (d : PufDecode) : s.grows (State.rootWins s src h eS eD d) := by
  unfold State.rootWins
  extract_lets +onlyGivenNames x1
  clear_value x1
  extract_lets +onlyGivenNames x2
  clear_value x2
  extract_lets +onlyGivenNames x3
  clear_value x3
  extract_lets +onlyGivenNames x4
  clear_value x4
  extract_lets +onlyGivenNames x5
  refine .letS x5 ?_ (fun hx5 => ?_)
  · unfold x5
    refine .trans ?_ (State.grows.up_crypt _)
    exact .refl
  clear_value x5
  extract_lets +onlyGivenNames x6
  refine .letS x6 ?_ (fun hx6 => ?_)
  · unfold x6
    refine .trans ?_ (State.raiseIf_grows _ _ _ _)
    refine .trans ?_ (State.raise_grows _ _ _)
    assumption
  clear_value x6
  refine .trans ?_ (State.rootEnd_grows _)
  refine .trans ?_ (State.deriveFixed_grows _ _ _ _)
  refine .trans ?_ (State.deriveFixed_grows _ _ _ _)
  assumption

theorem State.rootAttempt_grows (s : State) (d : PufDecode) : s.grows (State.rootAttempt s d) := by
  unfold State.rootAttempt
  split
  · refine .trans ?_ (State.rootWins_grows _ _ _ _ _ _)
    exact .refl
  · extract_lets +onlyGivenNames x1
    clear_value x1
    extract_lets +onlyGivenNames x2
    refine .letS x2 ?_ (fun hx2 => ?_)
    · unfold x2
      refine .trans ?_ (State.grows.up_crypt _)
      exact .refl
    clear_value x2
    refine .ite ?_ ?_
    · refine .trans ?_ (State.raise_grows _ _ _)
      assumption
    · refine .trans ?_ (State.rootEnd_grows _)
      refine .trans ?_ (State.withoutRoot_grows _ _ _)
      refine .trans ?_ (State.withoutRoot_grows _ _ _)
      refine .trans ?_ (State.raise_grows _ _ _)
      refine .trans ?_ (State.grows.up_crypt _)
      assumption

theorem State.rtcInvalid_grows (s : State) : s.grows (State.rtcInvalid s) := by
  unfold State.rtcInvalid
  refine .trans ?_ (State.grows.up_keeper _)
  exact .refl

theorem State.sbsvc_grows (s : State) (n : Ch) (key : Word) : s.grows (State.sbsvc s n key) := by
  unfold State.sbsvc
  refine .trans ?_ (State.wdService_grows _ _ _ _)
  exact .refl

theorem State.sbsvcWrite_grows (s : State) (q : Req) (off : Nat) (v : Word) : s.grows (State.sbsvcWrite s q off v) := by
  unfold State.sbsvcWrite
  refine .ite ?_ ?_
  · exact .refl
  · refine .trans ?_ (State.sbsvc_grows _ _ _)
    exact .refl

theorem State.sealRun_grows (s : State) (tag : Nat) : s.grows (State.sealRun s tag).1 := by
  unfold State.sealRun
  refine .trans ?_ (State.pressRun_grows _ _)
  exact .refl

theorem State.seedDrbg_grows (s : State) : s.grows (State.seedDrbg s) := by
  unfold State.seedDrbg
  refine .trans ?_ (State.grows.up_crypt _)
  exact .refl

theorem State.segRun_grows (s : State) (a1 : Stream) : s.grows (State.segRun s a1).1 := by
  unfold State.segRun
  extract_lets +onlyGivenNames x1
  refine .letP x1 ?_ (fun hx1 => ?_)
  · unfold x1
    refine .ite_fst ?_ ?_
    · refine .trans ?_ (State.sealRun_grows _ _)
      exact .refl
    · refine .fst_mk ?_
      exact .refl
  clear_value x1
  refine .ite_fst ?_ ?_
  · assumption
  · refine .trans ?_ (State.sealRun_grows _ _)
    assumption

theorem State.setProg_grows (s : State) (p : Option Prog) : s.grows (State.setProg s p) := by
  unfold State.setProg
  refine .trans ?_ (State.grows.up_ctl _)
  exact .refl

theorem State.seqNext_grows (s : State) (p : Prog) : s.grows (State.seqNext s p) := by
  unfold State.seqNext
  refine .trans ?_ (State.setProg_grows _ _)
  exact .refl

theorem State.seqPin_grows (s : State) (p : Prog) (k : Nat) (on : Bool) : s.grows (State.seqPin s p k on) := by
  unfold State.seqPin
  split
  · refine .ite ?_ ?_
    · refine .trans ?_ (State.setPin_grows _ _ _)
      exact .refl
    · refine .ite ?_ ?_
      · refine .trans ?_ (State.setPin_grows _ _ _)
        refine .trans ?_ (State.updAgt_grows _ _ _)
        exact .refl
      · exact .refl
  · refine .trans ?_ (State.setPin_grows _ _ _)
    exact .refl

theorem State.seqRelease_grows (s : State) (p : Prog) (w : Word) (ns : List Ch) : s.grows (State.seqRelease s p w ns) := by
  unfold State.seqRelease
  extract_lets +onlyGivenNames x1
  refine .letS x1 ?_ (fun hx1 => ?_)
  · unfold x1
    refine .trans ?_ (State.seqNext_grows _ _)
    exact .refl
  clear_value x1
  extract_lets +onlyGivenNames x2
  clear_value x2
  extract_lets +onlyGivenNames x3
  refine .letS x3 ?_ (fun hx3 => ?_)
  · unfold x3
    refine .ite ?_ ?_
    · refine .trans ?_ (State.grows.up_ctl _)
      assumption
    · assumption
  clear_value x3
  refine .trans ?_ (State.releaseMany_grows _ _)
  assumption

theorem State.seqStop_grows (s : State) (p : Prog) : s.grows (State.seqStop s p) := by
  unfold State.seqStop
  extract_lets +onlyGivenNames x1
  refine .letS x1 ?_ (fun hx1 => ?_)
  · unfold x1
    refine .trans ?_ (State.setProg_grows _ _)
    exact .refl
  clear_value x1
  refine .trans ?_ (State.raiseAt_grows _ _ _ _)
  refine .trans ?_ (State.grows.up_ctl _)
  assumption

theorem State.seqWaitAt_grows (s : State) (p : Prog) (w : SeqWait) : s.grows (State.seqWaitAt s p w) := by
  unfold State.seqWaitAt
  refine .trans ?_ (State.setProg_grows _ _)
  exact .refl

theorem State.touch_grows (s : State) (n : Ch) (p : PageId) : s.grows (State.touch s n p) := by
  unfold State.touch
  refine .trans ?_ (State.grows.up_cellar _)
  exact .refl

theorem State.servePending_grows (s : State) (t : Txn) (v : Nat) (i : Nat) (len : Nat) (prev : Option Served) (d : Pend) : s.grows (State.servePending s t v i len prev d).1 := by
  unfold State.servePending
  extract_lets +onlyGivenNames x1
  clear_value x1
  extract_lets +onlyGivenNames x2
  clear_value x2
  refine .ite_fst ?_ ?_
  · refine .fst_mk ?_
    refine .trans ?_ (State.countCellar_grows _ _ _)
    exact .refl
  · split
    · refine .fst_mk ?_
      refine .trans ?_ (State.notServed_grows _ _ _ _)
      exact .refl
    · extract_lets +onlyGivenNames x3
      refine .letP x3 ?_ (fun hx3 => ?_)
      · unfold x3
        refine .trans ?_ (State.readThrough_grows _ _ _ _ _ _ _ _)
        exact .refl
      clear_value x3
      split
      · refine .fst_mk ?_
        refine .trans ?_ (State.countCellar_grows _ _ _)
        assumption
      · refine .fst_mk ?_
        refine .trans ?_ (State.countCellar_grows _ _ _)
        assumption

theorem State.withVerdict_grows (r : State × Served) (n : Ch) (p : PageId) (copy : Nat) :
    r.1.grows (State.withVerdict r n p copy).1 := by
  unfold State.withVerdict
  split
  · exact .ite_fst .refl (State.openVerdict_grows _ _ _ _)
  · exact .refl

theorem State.serveImage_grows (s : State) (t : Txn) (v : Nat) (i : Nat) (len : Nat) (prev : Option Served) (r : Region) (p : PageId) : s.grows (State.serveImage s t v i len prev r p).1 := by
  unfold State.serveImage
  extract_lets +onlyGivenNames x1
  clear_value x1
  extract_lets +onlyGivenNames x2
  clear_value x2
  refine .ite_fst ?_ ?_
  · extract_lets +onlyGivenNames x3
    refine .letS x3 ?_ (fun hx3 => ?_)
    · unfold x3
      refine .trans ?_ (State.updChan_grows _ _ _)
      exact .refl
    clear_value x3
    refine .fst_mk ?_
    refine .trans ?_ (State.failedVerdict_grows _ _ _)
    refine .trans ?_ (State.raiseCh_grows _ _ _ _)
    assumption
  · refine .ite_fst ?_ ?_
    · refine .fst_mk ?_
      refine .trans ?_ (State.countCellar_grows _ _ _)
      refine .trans ?_ (State.cnt_grows _ _ _ _)
      refine .trans ?_ (State.touch_grows _ _ _)
      exact .refl
    · refine .ite_fst ?_ ?_
      · refine .fst_mk ?_
        refine .trans ?_ (State.underrun_grows _ _ _ _)
        exact .refl
      · split
        · refine .trans ?_ (State.servePending_grows _ _ _ _ _ _ _)
          exact .refl
        · split
          · refine .trans ?_ (State.withVerdict_grows _ _ _ _)
            refine .trans ?_ (State.readThrough_grows _ _ _ _ _ _ _ _)
            exact .refl
          · refine .fst_mk ?_
            refine .trans ?_ (State.notServed_grows _ _ _ _)
            exact .refl
        · split
          · refine .trans ?_ (State.withVerdict_grows _ _ _ _)
            refine .trans ?_ (State.readThrough_grows _ _ _ _ _ _ _ _)
            exact .refl
          · refine .fst_mk ?_
            refine .trans ?_ (State.underrun_grows _ _ _ _)
            exact .refl

theorem State.servePage_grows (s : State) (t : Txn) (v : Nat) (off : Nat) (i : Nat) (len : Nat) (prev : Option Served) : s.grows (State.servePage s t v off i len prev).1 := by
  unfold State.servePage
  extract_lets +onlyGivenNames x1
  clear_value x1
  refine .ite_fst ?_ ?_
  · refine .fst_mk ?_
    refine .trans ?_ (State.emit_grows _ _)
    refine .trans ?_ (State.countSynth_grows _ _ _)
    exact .refl
  · split
    · refine .fst_mk ?_
      refine .trans ?_ (State.raiseCh_grows _ _ _ _)
      exact .refl
    · refine .ite_fst ?_ ?_
      · refine .fst_mk ?_
        refine .trans ?_ (State.raiseCh_grows _ _ _ _)
        exact .refl
      · refine .ite_fst ?_ ?_
        · refine .fst_mk ?_
          refine .trans ?_ (State.notServed_grows _ _ _ _)
          exact .refl
        · refine .ite_fst ?_ ?_
          · split
            · refine .trans ?_ (State.readThrough_grows _ _ _ _ _ _ _ _)
              exact .refl
            · refine .fst_mk ?_
              refine .trans ?_ (State.underrun_grows _ _ _ _)
              exact .refl
          · refine .trans ?_ (State.serveImage_grows _ _ _ _ _ _ _ _)
            exact .refl

theorem State.setConn_grows (s : State) (c : Conn) : s.grows (State.setConn s c) := by
  unfold State.setConn
  refine .trans ?_ (State.grows.up_ident _)
  exact .refl

theorem State.setEngine_grows (s : State) (e : Nat) (st : EngineSt) : s.grows (State.setEngine s e st) := by
  unfold State.setEngine
  extract_lets +onlyGivenNames x1
  clear_value x1
  extract_lets +onlyGivenNames x2
  refine .letS x2 ?_ (fun hx2 => ?_)
  · unfold x2
    refine .trans ?_ (State.grows.up_press _)
    exact .refl
  clear_value x2
  refine .ite ?_ ?_
  · refine .trans ?_ (State.restartJobs_grows _ _)
    assumption
  · assumption

theorem State.setLane_grows (s : State) (l : Nat) (st : EngineSt) : s.grows (State.setLane s l st) := by
  unfold State.setLane
  refine .trans ?_ (State.grows.up_crypt _)
  exact .refl

theorem State.setPhaseCmd_grows (s : State) (side : Bool) (channel : Nat) (phase : Nat) : s.grows (State.setPhaseCmd s side channel phase).1 := by
  unfold State.setPhaseCmd
  refine .dite_fst (fun _ => ?_) (fun _ => ?_)
  · extract_lets +onlyGivenNames x1
    clear_value x1
    extract_lets +onlyGivenNames x2
    clear_value x2
    extract_lets +onlyGivenNames x3
    clear_value x3
    refine .ite_fst ?_ ?_
    · refine .fst_mk ?_
      exact .refl
    · refine .ite_fst ?_ ?_
      · refine .fst_mk ?_
        exact .refl
      · refine .ite_fst ?_ ?_
        · refine .fst_mk ?_
          exact .refl
        · split
          · refine .fst_mk ?_
            refine .trans ?_ (State.setPhase_grows _ _ _)
            exact .refl
          · refine .ite_fst ?_ ?_
            · refine .fst_mk ?_
              exact .refl
            · refine .ite_fst ?_ ?_
              · refine .fst_mk ?_
                exact .refl
              · refine .fst_mk ?_
                refine .trans ?_ (State.setPhase_grows _ _ _)
                exact .refl
          · refine .ite_fst ?_ ?_
            · refine .fst_mk ?_
              exact .refl
            · refine .fst_mk ?_
              refine .trans ?_ (State.setPhase_grows _ _ _)
              exact .refl
          · refine .fst_mk ?_
            exact .refl
  · refine .fst_mk ?_
    exact .refl

theorem State.setPhaseReply_grows (s : State) (side : Bool) (channel : Nat) (phase : Nat) : s.grows (State.setPhaseReply s side channel phase).1 := by
  unfold State.setPhaseReply
  extract_lets +onlyGivenNames x1
  refine .letP x1 ?_ (fun hx1 => ?_)
  · unfold x1
    refine .trans ?_ (State.setPhaseCmd_grows _ _ _ _)
    exact .refl
  clear_value x1
  refine .fst_mk ?_
  assumption

theorem State.setSpdm_grows (s : State) (n : Ch) (f : SpdmRes → SpdmRes) : s.grows (State.setSpdm s n f) := by
  unfold State.setSpdm
  refine .trans ?_ (State.grows.up_ident _)
  exact .refl

theorem State.sideCmd_grows {s0 : State} (s : State) (eid : Nat) (opcode : Nat) (bmc : Bool) (k : State → State × Reply) (hk : ∀ (y0 : State), s0.grows y0 → s0.grows (k y0).1) (hs : s0.grows s) : s0.grows (State.sideCmd s eid opcode bmc k) := by
  unfold State.sideCmd
  refine .ite ?_ ?_
  · assumption
  · extract_lets +onlyGivenNames x1
    clear_value x1
    refine .ite ?_ ?_
    · refine .trans ?_ (State.mctpSend_grows _ _ _)
      assumption
    · refine .ite ?_ ?_
      · refine .trans ?_ (State.mctpSend_grows _ _ _)
        assumption
      · extract_lets +onlyGivenNames x2
        refine .letP x2 ?_ (fun hx2 => ?_)
        · unfold x2
          apply hk
          assumption
        clear_value x2
        refine .trans ?_ (State.mctpSend_grows _ _ _)
        assumption

theorem State.signed_grows (s : State) (key : Nat) (msg : List Byte) : s.grows (State.signed s key msg).1 := by
  unfold State.signed
  refine .ite_fst ?_ ?_
  · refine .fst_mk ?_
    exact .refl
  · extract_lets +onlyGivenNames x1
    refine .letP x1 ?_ (fun hx1 => ?_)
    · unfold x1
      refine .trans ?_ (State.pkuRun_grows _)
      exact .refl
    clear_value x1
    refine .ite_fst ?_ ?_
    · refine .fst_mk ?_
      refine .trans ?_ (State.drawn_grows _)
      assumption
    · refine .fst_mk ?_
      assumption

theorem State.signedTwice_grows (s : State) (k1 : Nat) (k2 : Nat) (msg : List Byte) : s.grows (State.signedTwice s k1 k2 msg).1 := by
  unfold State.signedTwice
  extract_lets +onlyGivenNames x1
  refine .letP x1 ?_ (fun hx1 => ?_)
  · unfold x1
    refine .trans ?_ (State.signed_grows _ _ _)
    exact .refl
  clear_value x1
  split
  · refine .fst_mk ?_
    assumption
  · extract_lets +onlyGivenNames x2
    refine .letP x2 ?_ (fun hx2 => ?_)
    · unfold x2
      refine .trans ?_ (State.signed_grows _ _ _)
      assumption
    clear_value x2
    refine .fst_mk ?_
    assumption

theorem State.slotAction_grows {s0 : State} (s : State) (src : Src) (len : Nat) (t : LcToken) (a : Authority) (accepted : Bool) (program : State → State × Bool) (hprogram : ∀ (y0 : State), s0.grows y0 → s0.grows (program y0).1) (hs : s0.grows s) : s0.grows (State.slotAction s src len t a accepted program) := by
  unfold State.slotAction
  refine State.command_grows _ _ _ _ (fun _ _ => ?_) ?_
  · refine State.lcReply_grows _ _ _ _ _ _ _ (fun _ _ => ?_) ?_
    · apply hprogram
      assumption
    · assumption
  · assumption

theorem State.spdmErr_grows (s : State) (eid : Nat) (tr : Nat) (e : SpdmErr) : s.grows (State.spdmErr s eid tr e) := by
  unfold State.spdmErr
  refine .trans ?_ (State.spdmSay_grows _ _ _ _ _)
  exact .refl

theorem State.spdmReq_grows {s0 : State} (s : State) (eid : Nat) (tr : Nat) (stage : Nat) (k : Conn → State → State) (hk : ∀ (y0 : Conn) (y1 : State), s0.grows y1 → s0.grows (k y0 y1)) (hs : s0.grows s) : s0.grows (State.spdmReq s eid tr stage k) := by
  unfold State.spdmReq
  refine .ite ?_ ?_
  · assumption
  · split
    · refine .ite ?_ ?_
      · refine .trans ?_ (State.spdmErr_grows _ _ _ _)
        assumption
      · apply hk
        assumption
    · refine .ite ?_ ?_
      · refine .trans ?_ (State.spdmErr_grows _ _ _ _)
        assumption
      · refine .ite ?_ ?_
        · refine .trans ?_ (State.spdmErr_grows _ _ _ _)
          assumption
        · apply hk
          assumption

theorem State.spdmSigned_grows (s : State) (eid : Nat) (tr : Nat) (code : Nat) (body : List Byte) (msg : List Byte) : s.grows (State.spdmSigned s eid tr code body msg) := by
  unfold State.spdmSigned
  extract_lets +onlyGivenNames x1
  refine .letP x1 ?_ (fun hx1 => ?_)
  · unfold x1
    refine .trans ?_ (State.signed_grows _ _ _)
    exact .refl
  clear_value x1
  split
  · refine .trans ?_ (State.spdmSay_grows _ _ _ _ _)
    assumption
  · refine .trans ?_ (State.spdmErr_grows _ _ _ _)
    assumption

theorem State.startChecks_grows (s : State) : s.grows (State.startChecks s) := by
  unfold State.startChecks
  extract_lets +onlyGivenNames x1
  clear_value x1
  extract_lets +onlyGivenNames x2
  refine .letS x2 ?_ (fun hx2 => ?_)
  · unfold x2
    refine .ite ?_ ?_
    · refine .trans ?_ (State.enterLockdown_grows _ _)
      refine .ite ?_ ?_
      · exact .refl
      · refine .trans ?_ (State.burnFuses_grows _)
        exact .refl
    · refine .ite ?_ ?_
      · refine .trans ?_ (State.enterLockdown_grows _ _)
        exact .refl
      · exact .refl
  clear_value x2
  refine .ite ?_ ?_
  · refine .trans ?_ (State.enterLockdown_grows _ _)
    refine .trans ?_ (State.raise_grows _ _ _)
    assumption
  · refine .ite ?_ ?_
    · refine .trans ?_ (State.enterLockdown_grows _ _)
      assumption
    · refine .ite ?_ ?_
      · refine .trans ?_ (State.enterLockdown_grows _ _)
        assumption
      · assumption

theorem State.startFirmware_grows (s : State) (k : Nat) : s.grows (State.startFirmware s k) := by
  unfold State.startFirmware
  extract_lets +onlyGivenNames x1
  clear_value x1
  extract_lets +onlyGivenNames x2
  clear_value x2
  extract_lets +onlyGivenNames x3
  clear_value x3
  extract_lets +onlyGivenNames x4
  clear_value x4
  extract_lets +onlyGivenNames x5
  clear_value x5
  extract_lets +onlyGivenNames x6
  refine .letS x6 ?_ (fun hx6 => ?_)
  · unfold x6
    refine .trans ?_ (State.grows.up_plat_ident _ _)
    exact .refl
  clear_value x6
  extract_lets +onlyGivenNames x7
  refine .letS x7 ?_ (fun hx7 => ?_)
  · unfold x7
    split
    · refine .trans ?_ (State.deriveStart_grows _ _)
      assumption
    · assumption
  clear_value x7
  refine .trans ?_ (State.drainExceptions_grows _)
  refine .trans ?_ (State.firmwareFound_grows _)
  assumption

theorem State.streamFault_grows (s : State) (k : Nat) : s.grows (State.streamFault s k) := by
  unfold State.streamFault
  split
  · refine .ite ?_ ?_
    · exact .refl
    · extract_lets +onlyGivenNames x1
      refine .letS x1 ?_ (fun hx1 => ?_)
      · unfold x1
        split
        · refine .trans ?_ (State.failSeg_grows _ _ _)
          refine .trans ?_ (State.segCredit_grows _ _)
          exact .refl
        · exact .refl
      clear_value x1
      extract_lets +onlyGivenNames x2
      refine .letS x2 ?_ (fun hx2 => ?_)
      · unfold x2
        refine .trans ?_ (State.dropQueue_grows _ _ _)
        assumption
      clear_value x2
      extract_lets +onlyGivenNames x3
      clear_value x3
      extract_lets +onlyGivenNames x4
      refine .letS x4 ?_ (fun hx4 => ?_)
      · unfold x4
        refine .trans ?_ (State.raiseSeal_grows _ _ _)
        refine .trans ?_ (State.setStream_grows _ _)
        assumption
      clear_value x4
      refine .trans ?_ (State.queueFault_grows _ _)
      refine .trans ?_ (State.closeWaiting_grows _ _)
      assumption
  · exact .refl

theorem State.suspendInner_grows (s : State) (n : Ch) : s.grows (State.suspendInner s n) := by
  unfold State.suspendInner
  split
  · exact .refl
  · split
    · refine .trans ?_ (State.raiseCh_grows _ _ _ _)
      refine .trans ?_ (State.updPort_grows _ _ _)
      exact .refl
    · refine .trans ?_ (State.opCmd_grows _ _ _ _)
      refine .trans ?_ (State.raiseCh_grows _ _ _ _)
      refine .trans ?_ (State.cnt_grows _ _ _ _)
      refine .trans ?_ (State.updPort_grows _ _ _)
      refine .trans ?_ (State.setBusy_grows _ _ _ _)
      exact .refl
    · refine .trans ?_ (State.raiseCh_grows _ _ _ _)
      refine .trans ?_ (State.updPort_grows _ _ _)
      exact .refl
    · exact .refl

theorem State.tick_grows (s : State) : s.grows (State.tick s) := by
  unfold State.tick
  extract_lets +onlyGivenNames x1
  refine .letS x1 ?_ (fun hx1 => ?_)
  · unfold x1
    refine .trans ?_ (State.grows.up_time _)
    exact .refl
  clear_value x1
  refine .ite ?_ ?_
  · refine forCh_grows _ _ (fun _ _ _ => ?_) ?_
    · refine .trans ?_ (State.countCycle_grows _ _)
      assumption
    · assumption
  · assumption

theorem State.txWrite_grows (s : State) (q : Req) (a : Nat) (v : Word) : s.grows (State.txWrite s q a v) := by
  unfold State.txWrite
  extract_lets +onlyGivenNames x1
  clear_value x1
  extract_lets +onlyGivenNames x2
  refine .letS x2 ?_ (fun hx2 => ?_)
  · unfold x2
    refine .ite ?_ ?_
    · refine .trans ?_ (State.setSticky_grows _ _ _)
      exact .refl
    · refine .trans ?_ (State.updAux_grows _ _ _)
      exact .refl
  clear_value x2
  refine .trans ?_ (State.moveIndex_grows _ _ _)
  assumption

theorem State.updOpen_grows (s : State) (f : Epoch → Epoch) : s.grows (State.updOpen s f) := by
  unfold State.updOpen
  refine .trans ?_ (State.grows.up_sealing _)
  exact .refl

theorem State.vaultPartFailed_grows (s : State) (k : PartId) : s.grows (State.vaultPartFailed s k) := by
  unfold State.vaultPartFailed
  extract_lets +onlyGivenNames x1
  clear_value x1
  extract_lets +onlyGivenNames x2
  clear_value x2
  extract_lets +onlyGivenNames x3
  refine .letS x3 ?_ (fun hx3 => ?_)
  · unfold x3
    refine .trans ?_ (State.grows.up_vault _)
    exact .refl
  clear_value x3
  extract_lets +onlyGivenNames x4
  refine .letS x4 ?_ (fun hx4 => ?_)
  · unfold x4
    refine .trans ?_ (State.raise_grows _ _ _)
    assumption
  clear_value x4
  refine .ite ?_ ?_
  · refine .trans ?_ (State.enterRecover_grows _ _)
    assumption
  · extract_lets +onlyGivenNames x5
    clear_value x5
    extract_lets +onlyGivenNames x6
    refine .letS x6 ?_ (fun hx6 => ?_)
    · unfold x6
      refine .foldl (fun _ _ _ => ?_) ?_
      · refine .trans ?_ (State.raise_grows _ _ _)
        assumption
      · assumption
    clear_value x6
    refine .trans ?_ (State.grows.up_vault _)
    assumption

theorem State.vaultFound_grows (s : State) (k : PartId) (f : PartFound) : s.grows (State.vaultFound s k f) := by
  unfold State.vaultFound
  split
  · refine .ite ?_ ?_
    · refine .trans ?_ (State.vaultPartFailed_grows _ _)
      exact .refl
    · extract_lets +onlyGivenNames x1
      refine .letS x1 ?_ (fun hx1 => ?_)
      · unfold x1
        refine .trans ?_ (State.updVaultPart_grows _ _ _)
        exact .refl
      clear_value x1
      extract_lets +onlyGivenNames x2
      clear_value x2
      extract_lets +onlyGivenNames x3
      refine .letS x3 ?_ (fun hx3 => ?_)
      · unfold x3
        refine .trans ?_ (State.grows.up_vault _)
        assumption
      clear_value x3
      refine .trans ?_ (State.raiseDrops_grows _ _ _)
      assumption
  · refine .trans ?_ (State.vaultPartFailed_grows _ _)
    exact .refl

theorem State.vaultRestored_grows (s : State) : s.grows (State.vaultRestored s) := by
  unfold State.vaultRestored
  refine .ite ?_ ?_
  · refine .trans ?_ (State.platformRestored_grows _)
    exact .refl
  · exact .refl

theorem State.wd0CfgWrite_grows (s : State) (q : Req) (v : Word) : s.grows (State.wd0CfgWrite s q v) := by
  unfold State.wd0CfgWrite
  refine .ite ?_ ?_
  · exact .refl
  · refine .ite ?_ ?_
    · refine .trans ?_ (State.raise_grows _ _ _)
      exact .refl
    · refine .trans ?_ (State.grows.up_wd0 _)
      exact .refl

theorem State.wd0WindowWrite_grows (s : State) (q : Req) (v : Word) : s.grows (State.wd0WindowWrite s q v) := by
  unfold State.wd0WindowWrite
  refine .ite ?_ ?_
  · exact .refl
  · refine .ite ?_ ?_
    · refine .trans ?_ (State.raise_grows _ _ _)
      exact .refl
    · refine .trans ?_ (State.grows.up_wd0 _)
      exact .refl

theorem State.windowEnd_grows (s : State) (p : Nat) (bits : List Nat) : s.grows (State.windowEnd s p bits) := by
  unfold State.windowEnd
  refine .ite ?_ ?_
  · exact .refl
  · extract_lets +onlyGivenNames x1
    refine .letS x1 ?_ (fun hx1 => ?_)
    · unfold x1
      refine .foldl (fun _ _ _ => ?_) ?_
      · refine .trans ?_ (State.sideBit_grows _ _ _)
        assumption
      · exact .refl
    clear_value x1
    refine .trans ?_ (State.raise_grows _ _ _)
    refine .trans ?_ (State.raiseIf_grows _ _ _ _)
    assumption

theorem State.windowWord_grows (s : State) (bank : Nat) (w : Nat) : s.grows (State.windowWord s bank w).1 := by
  unfold State.windowWord
  refine .ite_fst ?_ ?_
  · refine .fst_mk ?_
    exact .refl
  · extract_lets +onlyGivenNames x1
    clear_value x1
    extract_lets +onlyGivenNames x2
    refine .letS x2 ?_ (fun hx2 => ?_)
    · unfold x2
      refine .trans ?_ (State.sampleFor_grows _ _ _)
      exact .refl
    clear_value x2
    refine .fst_mk ?_
    refine .trans ?_ (State.afterRead_grows _ _ _)
    assumption

theorem State.withFetchWord_grows (s : State) (nbits : Nat) (w : Nat) : s.grows (State.withFetchWord s nbits w) := by
  unfold State.withFetchWord
  split
  · refine .trans ?_ (State.grows.up_pending _)
    exact .refl
  · exact .refl

theorem State.withholdRoot_grows (s : State) : s.grows (State.withholdRoot s) := by
  unfold State.withholdRoot
  extract_lets +onlyGivenNames x1
  clear_value x1
  extract_lets +onlyGivenNames x2
  refine .letS x2 ?_ (fun hx2 => ?_)
  · unfold x2
    refine .trans ?_ (State.grows.up_crypt _)
    exact .refl
  clear_value x2
  extract_lets +onlyGivenNames x3
  refine .letS x3 ?_ (fun hx3 => ?_)
  · unfold x3
    refine .trans ?_ (State.rootEnd_grows _)
    refine .trans ?_ (State.withoutRoot_grows _ _ _)
    refine .trans ?_ (State.withoutRoot_grows _ _ _)
    refine .trans ?_ (State.raise_grows _ _ _)
    assumption
  clear_value x3
  refine .ite ?_ ?_
  · refine .trans ?_ (State.raise_grows _ _ _)
    refine .trans ?_ (State.grows.up_life _)
    assumption
  · assumption

theorem State.writeIgnored_grows (s : State) (t : Txn) (v : Nat) : s.grows (State.writeIgnored s t v) := by
  unfold State.writeIgnored
  refine .trans ?_ (State.raiseCh_grows _ _ _ _)
  refine .trans ?_ (State.updPort_grows _ _ _)
  exact .refl

theorem State.writeArray_grows (s : State) (t : Txn) (kind : OpKind) (r : Range) (phaseOk : Bool) (payload : List Byte) : s.grows (State.writeArray s t kind r phaseOk payload) := by
  unfold State.writeArray
  extract_lets +onlyGivenNames x1
  clear_value x1
  extract_lets +onlyGivenNames x2
  clear_value x2
  refine .ite ?_ ?_
  · refine .trans ?_ (State.writeIgnored_grows _ _ _)
    exact .refl
  · refine .ite ?_ ?_
    · refine .trans ?_ (State.raiseCh_grows _ _ _ _)
      exact .refl
    · refine .ite ?_ ?_
      · refine .trans ?_ (State.raiseCh_grows _ _ _ _)
        exact .refl
      · refine .ite ?_ ?_
        · refine .trans ?_ (State.blockWrite_grows _ _ _ _)
          exact .refl
        · refine .ite ?_ ?_
          · refine .trans ?_ (State.updPort_grows _ _ _)
            exact .refl
          · refine .trans ?_ (State.acceptOp_grows _ _ _ _ _)
            exact .refl

theorem State.writeEntry_grows (s : State) (l : SealLog) (a2 : ListEnt) : s.grows (State.writeEntry s l a2) := by
  unfold State.writeEntry
  extract_lets +onlyGivenNames x1
  refine .letS x1 ?_ (fun hx1 => ?_)
  · unfold x1
    refine .trans ?_ (State.cntQ_grows _ _ _)
    refine .trans ?_ (State.hostWrite_grows _ _ _)
    exact .refl
  clear_value x1
  refine .trans ?_ (State.grows.up_sealing _)
  assumption

theorem State.writeRecord_grows (s : State) (l : SealLog) (r : List Byte) : s.grows (State.writeRecord s l r) := by
  unfold State.writeRecord
  extract_lets +onlyGivenNames x1
  refine .letS x1 ?_ (fun hx1 => ?_)
  · unfold x1
    refine .trans ?_ (State.cntQ_grows _ _ _)
    refine .trans ?_ (State.hostWrite_grows _ _ _)
    exact .refl
  clear_value x1
  refine .trans ?_ (State.grows.up_sealing _)
  assumption

theorem State.commitFree_grows (s : State) : s.grows (State.commitFree s) := by
  unfold State.commitFree
  refine .trans ?_ (State.startWaiting_grows _ _)
  refine .trans ?_ (State.actsDue_grows _)
  exact .refl

theorem State.endCommit_grows (s : State) (q : Req) (st : Status) (mask : Word) (failGrp : Word) : s.grows (State.endCommit s q st mask failGrp) := by
  unfold State.endCommit
  refine .trans ?_ (State.commitFree_grows _)
  refine .trans ?_ (State.commitOutcome_grows _ _ _ _ _)
  refine .trans ?_ (State.grows.up_regs _)
  exact .refl

theorem State.hostGone_grows (s : State) : s.grows (State.hostGone s) := by
  unfold State.hostGone
  refine .trans ?_ (State.commitFree_grows _)
  refine .trans ?_ (State.hostReset_grows _)
  exact .refl

theorem State.linkDown_grows (s : State) : s.grows (State.linkDown s) := by
  unfold State.linkDown
  extract_lets +onlyGivenNames x1
  refine .letS x1 ?_ (fun hx1 => ?_)
  · unfold x1
    refine .trans ?_ (State.hostGone_grows _)
    exact .refl
  clear_value x1
  refine .trans ?_ (State.raise_grows _ _ _)
  refine .trans ?_ (State.grows.up_host _)
  assumption

/-- What every transaction does before its class's effect (R75, R96). -/
theorem State.opened_grows (s : State) (n : Ch) : s.grows ((s.updPort n (fun p => { p with rstEn := false })).cnt n 0 1) :=
  .trans (State.updPort_grows _ _ _) (State.cnt_grows _ _ _ _)

end Sys2Proof.Machine
end

