-- ==== Sys2Proof/Laws/Reads.lean ====
section
/-! SUPPORT. Laws/Reads.lean: what a read of a register answers and leaves. -/

namespace Sys2Proof.Machine

/-- An access that arrives acts. -/
theorem State.access_arrives (s : State) (q : Req) (off : Nat) (k : State → State) (h : s.reaches_ q = true) (h1 : off % 4 = 0)
    (h2 : off < 0x10000) : s.access q off k = .next (k s) := by simp [State.access, h, h1, h2]

/-- A read that arrives is a read on the register bus. -/
theorem State.accessRead_arrives (s : State) (q : Req) (off : Nat) (h : s.reaches_ q = true) (h1 : off % 4 = 0) (h2 : off < 0x10000) :
    s.accessRead q off = .next (s.busRead q off) := by
  have e : off / 4 * 4 = off := by omega
  simp [State.accessRead, e, State.access_arrives s q off _ h h1 h2]

@[simp] theorem State.emit_view (s : State) (q : Req) (o : Out) : (s.emit o).view q = s.view q := by cases q <;> rfl

/-- A read answers the value that it finds once it has sampled what it samples. -/
theorem State.busRead_outbox (s : State) (q : Req) (off : Nat) :
    (s.busRead q off).outbox = s.outbox ++ [.regValue q off ((s.sampleFor q off).readWord q off)] := by
  simp [State.busRead, State.emit]

/-- A read of the other offsets samples nothing. -/
theorem State.sampleFor_none (s : State) (q : Req) (off : Nat)
    (h : off ≠ 0x524 ∧ off ≠ 0x2450 ∧ off ≠ 0x2624 ∧ off ≠ 0xE4 ∧ off ≠ 0x2C0C) : s.sampleFor q off = s := by
  obtain ⟨a, b, c, d, e⟩ := h
  simp [State.sampleFor, a, b, c, d, e]

theorem State.wide_fch (s : State) (q : Req) (n : Ch) (o : Nat) (h : o < 0x200) (h1 : o ≠ 0x50) (h2 : o ≠ 0x58) :
    s.wide q (fch n o) = none := by
  have a : 0x1000 ≤ fch n o ∧ fch n o < 0x2000 := by simp only [fch]; omega
  have b : fch n o % 0x200 = o := by simp only [fch]; omega
  generalize fch n o = x at a b
  unfold State.wide
  split
  any_goals omega
  simp [a, b, h1, h2]

theorem State.wide_fch_before (s : State) (q : Req) (n : Ch) (o : Nat) (h : o < 0x200) (h1 : o ≠ 0x54) (h2 : o ≠ 0x5C)
    (h3 : 4 ≤ o) : s.wide q (fch n o - 4) = none := by
  have e : fch n o - 4 = fch n (o - 4) := by simp only [fch]; omega
  rw [e]
  exact s.wide_fch q n (o - 4) (by omega) (by omega) (by omega)

theorem State.liveWord_fch (s : State) (q : Req) (n : Ch) (o : Nat) (h : o < 0x200) : s.liveWord q (fch n o) = s.fchWord q n o := by
  have a : 0x1000 ≤ fch n o ∧ fch n o < 0x2000 := by simp only [fch]; omega
  have b : fch n o % 0x200 = o := by simp only [fch]; omega
  have c : chAt 0x1000 0x200 (fch n o) = n := by
    apply Fin.ext
    simp only [chAt, fch]
    omega
  generalize fch n o = x at a b c
  unfold State.liveWord
  rw [b, c]
  repeat (first | rw [if_neg (by omega)] | rw [if_pos (by omega)])

/-- A read of a live register of a channel's block, but for the halves of a 64-bit value. -/
theorem State.readWord_fch (s : State) (q : Req) (n : Ch) (o : Nat) (w : Word) (h : o < 0x200) (h0 : 4 ≤ o)
    (h1 : o ≠ 0x50 ∧ o ≠ 0x54 ∧ o ≠ 0x58 ∧ o ≠ 0x5C) (k : s.fchWord q n o = some w) : s.readWord q (fch n o) = w := by
  have e : 4 ≤ fch n o := by simp only [fch]; omega
  simp only [State.readWord, s.wide_fch q n o h h1.1 h1.2.2.1, e, if_true, s.wide_fch_before q n o h h1.2.1 h1.2.2.2 h0,
    s.liveWord_fch q n o h, k]

/-- What a read of a 32-bit register that moves no index and clears nothing leaves. -/
theorem State.afterRead_plain (s : State) (q : Req) (off : Nat) (h : s.wide q off = none) (h1 : off ≠ 0x540)
    (h2 : ¬(0x1000 ≤ off ∧ off < 0x2000 ∧ off % 0x200 = 0x138)) (h3 : [0x2E0, 0x280C, 0x284C, 0x2818, 0x2858, 0x2E04].contains off = false) :
    s.afterRead q off = s.moveIndex q off := by
  simp only [State.afterRead, h, h1, h2, h3, if_false, Bool.false_eq_true]

end Sys2Proof.Machine
end

