-- ==== Sys2Proof/Laws/Stores.lean ====
section
/-! SUPPORT. Laws/Stores.lean: the sparse stores: reading after a write, and the canonical form that a write keeps. -/

namespace Sys2Proof.Machine

theorem storeGet_put_other (d : Nat → Word) (st : Store) (k j : Nat) (v : Word) (h : j ≠ k) :
    storeGet d (storePut d st k v) j = storeGet d st j := by
  induction st with
  | nil =>
    unfold storePut
    split
    · rfl
    · simp [storeGet, Ne.symm h]
  | cons e r ih =>
    obtain ⟨a, w⟩ := e
    unfold storePut
    split
    · split
      · rfl
      · simp [storeGet, Ne.symm h]
    · split
      · next e =>
        subst e
        split <;> simp [storeGet, Ne.symm h]
      · simp only [storeGet]
        split
        · rfl
        · exact ih

theorem storeGet_put_listed (d : Nat → Word) (st : Store) (k : Nat) (v : Word) (h : v ≠ d k) :
    storeGet d (storePut d st k v) k = v := by
  induction st with
  | nil => simp [storePut, h, storeGet]
  | cons e r ih =>
    obtain ⟨a, w⟩ := e
    unfold storePut
    split
    · simp [storeGet]
    · split
      · simp [storeGet]
      · next h1 h2 => simp [storeGet, Ne.symm h2, ih]

theorem storeWfFrom_mono (d : Nat → Word) (st : Store) {lo hi : Nat} (h : lo ≤ hi) (w : storeWfFrom d hi st = true) :
    storeWfFrom d lo st = true := by
  cases st with
  | nil => rfl
  | cons e r =>
    obtain ⟨a, v⟩ := e
    simp only [storeWfFrom, Bool.and_eq_true, decide_eq_true_eq] at w ⊢
    exact ⟨⟨by omega, w.1.2⟩, w.2⟩

/-- In canonical form a key below the bound reads its default. -/
theorem storeGet_below (d : Nat → Word) (st : Store) {lo : Nat} (w : storeWfFrom d lo st = true) {k : Nat} (h : k < lo) :
    storeGet d st k = d k := by
  induction st generalizing lo with
  | nil => rfl
  | cons e r ih =>
    obtain ⟨a, v⟩ := e
    simp only [storeWfFrom, Bool.and_eq_true, decide_eq_true_eq] at w
    have : a ≠ k := by omega
    simp only [storeGet, this, if_false]
    exact ih w.2 (by omega)

theorem storeGet_put_same (d : Nat → Word) (st : Store) (k : Nat) (v : Word) (w : storeWf d st = true) :
    storeGet d (storePut d st k v) k = v := by
  by_cases h : v = d k
  · subst h
    have all : ∀ (lo : Nat) (l : Store), storeWfFrom d lo l = true → storeGet d (storePut d l k (d k)) k = d k := by
      intro lo l
      induction l generalizing lo with
      | nil => intro _; simp [storePut, storeGet]
      | cons e r ih =>
        obtain ⟨a, x⟩ := e
        intro w
        have w0 := w
        simp only [storeWfFrom, Bool.and_eq_true, decide_eq_true_eq] at w
        unfold storePut
        split
        · next hk =>
          simp only [if_true]
          exact storeGet_below d ((a, x) :: r) (lo := a) (by simp [storeWfFrom, w.1.2, w.2]) hk
        · split
          · next e =>
            subst e
            simp only [if_true]
            exact storeGet_below d r w.2 (by omega)
          · next h1 h2 =>
            simp only [storeGet, Ne.symm h2, if_false]
            exact ih _ w.2
    exact all 0 st w
  · exact storeGet_put_listed d st k v h

theorem storePut_wfFrom (d : Nat → Word) (st : Store) (lo k : Nat) (v : Word) (h : lo ≤ k) (w : storeWfFrom d lo st = true) :
    storeWfFrom d lo (storePut d st k v) = true := by
  induction st generalizing lo with
  | nil =>
    unfold storePut
    split
    · rfl
    · simp_all [storeWfFrom]
  | cons e r ih =>
    obtain ⟨a, x⟩ := e
    have w0 := w
    simp only [storeWfFrom, Bool.and_eq_true, decide_eq_true_eq] at w
    unfold storePut
    split
    · split
      · exact w0
      · simp only [storeWfFrom, Bool.and_eq_true, decide_eq_true_eq]
        exact ⟨⟨h, by assumption⟩, ⟨by omega, w.1.2⟩, w.2⟩
    · split
      · next e =>
        subst e
        split
        · exact storeWfFrom_mono d r (by omega) w.2
        · simp only [storeWfFrom, Bool.and_eq_true, decide_eq_true_eq]
          exact ⟨⟨h, by assumption⟩, w.2⟩
      · simp only [storeWfFrom, Bool.and_eq_true, decide_eq_true_eq]
        exact ⟨w.1, ih (a + 1) (by omega) w.2⟩

/-- A write keeps the canonical form. -/
theorem storePut_wf (d : Nat → Word) (st : Store) (k : Nat) (v : Word) (w : storeWf d st = true) :
    storeWf d (storePut d st k v) = true := storePut_wfFrom d st 0 k v (Nat.zero_le _) w

/-- Leaving entries out keeps the canonical form. -/
theorem storeFilter_wfFrom (d : Nat → Word) (p : Nat × Word → Bool) (st : Store) (lo : Nat) (w : storeWfFrom d lo st = true) :
    storeWfFrom d lo (st.filter p) = true := by
  induction st generalizing lo with
  | nil => rfl
  | cons e r ih =>
    obtain ⟨a, x⟩ := e
    simp only [storeWfFrom, Bool.and_eq_true, decide_eq_true_eq] at w
    simp only [List.filter_cons]
    split
    · simp only [storeWfFrom, Bool.and_eq_true, decide_eq_true_eq]
      exact ⟨w.1, ih _ w.2⟩
    · exact storeWfFrom_mono d _ (by omega) (ih _ w.2)

theorem storeFilter_wf (d : Nat → Word) (p : Nat × Word → Bool) (st : Store) (w : storeWf d st = true) :
    storeWf d (st.filter p) = true := storeFilter_wfFrom d p st 0 w

/-! ## Registers of the active copy -/

/-- Setting sticky bits sets them. -/
theorem State.setSticky_same (s : State) (off : Nat) (b : Word) (h : s.sticky off ||| b ≠ 0#32) :
    (s.setSticky off b).sticky off = s.sticky off ||| b := by
  simp only [State.setSticky, State.sticky]
  exact storeGet_put_listed zeroDefault _ _ _ h

theorem State.setCfg_other (s : State) (k j : Nat) (v : Word) (h : j ≠ k) : (s.setCfg k v).cfg j = s.cfg j := by
  simp only [State.setCfg, State.cfg]
  exact storeGet_put_other regReset _ _ _ _ h

theorem State.setCfg_same (s : State) (k : Nat) (v : Word) (w : storeWf regReset s.regs.active = true) :
    (s.setCfg k v).cfg k = v := by
  simp only [State.setCfg, State.cfg]
  exact storeGet_put_same regReset _ _ _ w

@[simp] theorem State.setView_same (s : State) (q : Req) (v : ReqView) : (s.setView q v).view q = v := by cases q <;> rfl
theorem State.setView_other (s : State) (q r : Req) (v : ReqView) (h : r ≠ q) : (s.setView q v).view r = s.view r := by
  cases q <;> cases r <;> first | rfl | exact absurd rfl h

@[simp] theorem State.updAgt_same (s : State) (n : Ch) (f : AgentCtl → AgentCtl) : (s.updAgt n f).agt n = f (s.agt n) := by
  simp [State.updAgt, State.agt]
theorem State.updAgt_other (s : State) (n m : Ch) (f : AgentCtl → AgentCtl) (h : m ≠ n) : (s.updAgt n f).agt m = s.agt m := by
  have h : n.val ≠ m.val := fun e => h (Fin.ext e.symm)
  simp [State.updAgt, State.agt, Vector.getElem_set_ne _ _ h]

end Sys2Proof.Machine
end

