-- ==== Sys2Proof/Tests/Slice0.lean ====
section
/-! SUPPORT. Tests/Slice0.lean: small states, the WellFormed smoke, the spec's worked figures, one command each, and for every
statement with hypotheses a state and operands that meet them. -/

namespace Sys2Proof.Tests
open Sys2Proof Sys2Proof.Machine
set_option Elab.async false

/-! ## Small states -/

/-- A machine in a mode, its firmware running. -/
def wMode (m : Mode) : State := { State.reset with plat.mode := m, plat.fwRuns := true }
def wGuard : State := wMode .guard
/-- Channel 0 changed. -/
def wChan (s : State) (f : Chan → Chan) : State := s.updChan 0 f
def wPort (s : State) (f : Port → Port) : State := s.updPort 0 f
def wSlot (s : State) (f : Slot → Slot) : State := s.updSlot 0 0 f
def wPart (s : State) (f : Part → Part) : State := s.updPart 0 0 f
/-- Agent 0 released in GUARD. -/
def wRel : State := wChan wGuard (fun c => { c with st := .released })
/-- Opcode 1 of channel 0 listed for every mode and phase, of a class, address kind and ARG. -/
def wEntry (cls addr arg : Nat) : Word := word (cls + 0xFE0 + 0x1000 * addr + 0x400000 * arg)
def wOpcode (cls addr arg : Nat) (s : State) : State := s.setCfg (opKey 0 1) (wEntry cls addr arg)
def wTxn : Txn := { ch := 0, op := 1#8 }
/-- A region of 16 pages of slot 0 with a policy and every permission, its copy A on part 0; 1 MiB of virtual flash. -/
def wMap (policy : Nat) (s : State) : State :=
  ((((((s.setCfg (fch 0 0xA0) 20#32).setCfg (rgKey 0 0 0) (word (0x800 + 0x200 * policy))).setCfg (rgKey 0 0 1) 16#32).setCfg
    (rgKey 0 0 2) 0x777#32).setCfg (stKey 0 0 0) (word (0x800 + 0x100 * (if policy = 3 then 0 else 1)))).setCfg (stKey 0 0 1) 0#32).setCfg (stKey 0 0 2) 16#32
def wOp (st : OpSt) : AgentOp :=
  { kind := .program, st := st, base := 0, len := 256, parts := [0], payload := [], suspendHeld := false, late := false }
def wMan (vintage npages : Nat) : Manifest :=
  { len := 4096, wellFormed := true, ctype := 1, format := 1, hash := -43, channel := 0, slot := 0, vintage := vintage
    npages := npages, nmeta := 17, height := 2, root := 7, regions := [], sealkey := none, prefetch := [], imageId := 1, sigs := []
    digest := 9 }
def wUp : Update :=
  { man := wMan 1 16, flipNow := false, step := 0, nsteps := 8, fails := 0, oldAct := false, hb := 0, windowOpen := true }
def wTrain (drops : Nat) : Training := { drops := some drops, window := 120, tap := 4, dlat := 100, temp := 25 }
def wIntent (kind state : Nat) : Intent :=
  { seq := 0, kind := kind, chan := 0, slot := 0, state := state, step := 0, nsteps := 1, src := 0, dst := 0, arg := 0, macOk := true }
/-- A cask that holds a key. -/
def wCask (type : Nat) : Cask :=
  { st := .valid, type := type, parent := 0xFF, label := 0, gen := 1, pgen := 0, rights := 0xFFFF, origin := 0, flags := 0, share0 := 5#512
    share1 := 6#512 }
def wCaskAt (k : Nat) (c : Cask) (s : State) : State := { s with crypt.casks := s.crypt.casks.setIfInBounds k c }
/-- The Rootstock and the journal key stand. -/
def wKeyed : State := wCaskAt 10 (wCask 4) { wGuard with crypt.root := some 1 }
/-- The host's link is up and its accesses arrive. -/
def wLinked (s : State) : State :=
  { s with host.linkUp := true, host.mse := true, host.bme := true, host.extTag := true, host.speed := 4, host.width := 4 }
def wLink : State := wLinked wGuard
def wSigs : List Sig := [⟨-35, 3, true⟩, ⟨-65603, 3, true⟩]
def wDig : Nat := 3 * 2 ^ 256
def wPkg : Package :=
  { len := 4096, wellFormed := true, version := 1, size := 0x20000, vintage := 0, interface := 1, wardenDig := 5, stewardDig := 6
    compEnd := 0x10000, sigs := wSigs, digestsOk := true }
def wFw : FwCopy := { pkg := some wPkg, bootable := true, confirmed := true }
def wBundle : Bundle :=
  { wellFormed := true, ctype := 2, format := 1, version := 1, unitid := none, vintage := 0, lifecycle := 7, owners := [], sigs := wSigs
    regs := [], mkeys := [], slotkeys := [], tsa := [], perms := 0xFF, sources := [7, 7, 7, 7, 7, 7, 7, 7], hostAgent := 0
    bmcAgent := 0xFF, bmcEid := 9, hostWait := 1, bmcWait := 1, streamGap := 1, confirm := 0, fwesc := 3, hbPeriod := 0, spdmReq := []
    digest := 11 }
def wApplied : Nat × Bundle := (0, wBundle)
def wPuf : PufDecode := { vault := none, otp0 := none, otp1 := none, otp2 := none }
def wHelper : Helper := { seq := 1, region := 0, origin := 0, secret := 1 }
/-- A start whose steps before the firmware are over. -/
def wStarted : State :=
  { State.reset with plat.boot := { startBoot with pll := true, vault := true, root := true, selfTest := true }
                     life.otp := { shippedOtp with vendors := [wDig, 0, 0, 0] } }
/-- A part of 64 MiB that identifies and trains. -/
def wSfdp : Sfdp := { sizeLog := 26, erases := [4096], canSuspend := true, progInErase := false }
def wPartF : PartFound := { sfdp := some wSfdp, train := wTrain 0 }
def wFound : SlotFound := { man := none, rootOk := false, anchors := false }
/-- The main program stands at word 0, which holds `w`. -/
def wProg (w : Word) (wait : SeqWait) (s : State) : State :=
  { s.setCfg (seqKey 0) w with ctl.prog := some { pc := 0, sub := none, wait := wait } }
def wProg0 (wait : SeqWait) : Prog := { pc := 0, sub := none, wait := wait }
def wWd (s : State) : State := (s.setCfg 0x680 0x80000100#32).setCfg 0x684 0xF0000000#32
def wPend (late : Bool) : Pend := { pg := ⟨0, 2⟩, copy := 1, framed := false, at_ := 0, late := late }
def wGraft : Graft := { pg := ⟨0, 2⟩, copy := 1, node := false, served := false, pinned := false, left := [2] }
/-- The frame of level-1 node 1 of copy A of slot 0. -/
def wNode : Frame :=
  { no := 0, st := .resident, node := true, ch := 0, slot := 0, copy := 1, index := 1, anchor := false, graft := false, ref := false }
def wRepair (step : Nat) : Repair := { slot := 0, copy := 1, part := 0, unit := 0, pages := [2], nodes := [], manifest := false, step := step, fails := 0, waits := false }
/-- Copies A and GOLDEN of slot 0 stand on part 0. -/
def wCopies (s : State) : State :=
  (((wMap 1 s).setCfg (stKey 0 1 0) 0xB00#32).setCfg (stKey 0 1 1) 0x100000#32).setCfg (stKey 0 1 2) 16#32
/-- Copies A and B of slot 0 stand on part 0, an update of the slot in a state. -/
def wUpdS (st : Upd) (u : Update) : State :=
  wSlot ((((wMap 1 wGuard).setCfg (stKey 0 1 0) 0xA00#32).setCfg (stKey 0 1 1) 0x100000#32).setCfg (stKey 0 1 2) 16#32)
    (fun z => { z with upd := st, up := some u, locked := true })
def wUnit (k : Nat) : CopyUnit := { part := 0, addr := 0x100000 + 4096 * k, size := 4096, metaPg := false, page := k }
/-- Q0 and Q1 of 16 entries run and the host has rung for one entry. -/
def wRun (q : Nat) (f : HQueue → HQueue) (s : State) : State :=
  { (s.setCfg (qBase q + 8) 0x84008001#32) with host.queues := s.host.queues.setIfInBounds q (f { emptyQueue with st := .running }) }
def wQueues (s : State) : State := wRun 1 id (wRun 0 (fun z => { z with bell := 1 }) s)
def wFetched (op : Nat) : Fetched := { q := 0, cid := 5, opcode := op, noint := false, head := 1, taken := false }
/-- An admin command has been fetched; the Steward serves. -/
def wAdm (op : Nat) (s : State) : State := { wQueues (wLinked s) with host.fetched := [wFetched op] }
def wCpl : Cpl := { cid := 5, sqid := 0, sqhead := 0, status := .ok, detail := 0, result := [] }
def wRet (sent : Bool) : Retained := { cq := 1, cpl := wCpl, receipt := none, noint := false, sent := sent, replay := false }
/-- The Rootstock, an owner key and a vendor key in slot 0, an open nonce 7. -/
def wSigned (s : State) : State :=
  { s with life.otp := { s.life.otp with owners := [wDig, 0, 0, 0, 0, 0, 0, 0], vendors := [wDig, 0, 0, 0] }
           ident.nonce := some 7, crypt.root := some 1 }
def wPubs : List OwnerPub := [⟨0, wDig⟩]
def wToken (action agents : Nat) : Token :=
  { wellFormed := true, ctype := 5, format := 1, unitid := some 0, nonce := 7, action := action, agents := agents, owners := wPubs
    sigs := wSigs }
def wLc (action : Nat) (keys : List KeyEnt) (target : Nat) : LcToken :=
  { wellFormed := true, ctype := 7, format := 1, unitid := some 0, nonce := 7, action := action, keys := keys, target := target
    ssvid := 1, ssid := 1, signers := wPubs, sigs := wSigs }
def wDbg (role scope : Nat) : DbgToken :=
  { wellFormed := true, ctype := 6, format := 1, unitid := some 0, nonce := 7, role := role, scope := scope, consentDig := 0
    digest := 1, signers := wPubs, sigs := wSigs }
def wSignedBundle : Bundle := { wBundle with ctype := 3, owners := wPubs }
def wLcState (t p : BitVec 16) : State :=
  { wSigned wGuard with life.otp.wTest := t, life.otp.wProd := p, life.otp.owners := List.replicate 8 0 }
def wTest : State := wLcState 0xA5C3#16 0#16
/-- A bundle that permits every recovery source and gives slot 0 of channel 0 a key. -/
def wFull : Bundle :=
  { wSignedBundle with sources := List.replicate 8 31, hostAgent := 1, mkeys := [3], slotkeys := [⟨0, 0, .classical, [0]⟩] }
def wFullSt (s : State) : State := { wSigned s with ident.applied := some (0, wFull) }
def wRec (st : RecSt) (source : Nat) : RecJob :=
  { ch := 0, slots := [0], source := source, single := false, st := st, stream := noStream, step := 0, fails := 0, at_ := 0
    man := none }
def wReim (j : RecJob) : State :=
  let s := wFullSt (wMap 1 (wChan wGuard (fun c => { c with st := .reimaging })))
  { s with ident.recs := [j] }
/-- A manifest of slot 0 as `wMap 1` lays it out, signed as `wFull` asks. -/
def wGoodMan : Manifest := { wMan 1 16 with ctype := 2, nmeta := 0, regions := [⟨0, 0, 16, 1⟩], height := trellisHeight 16, sigs := wSigs }

def wFwSt : State := { wFullSt wGuard with ident.fwA := wFw, ident.fwB := wFw, ident.fwGold := wFw, ident.runCopy := 0, ident.dlCopy := 1 }
def wFwIn (f : FwSt) : State := { wFwSt with ident.fwState := f, ident.dlPkg := some wPkg, ident.dl := ⟨wPkg.size, [], true⟩ }
def wHand (st : HandSt) (rest : List Bool) : Hand := { warden := true, rest := rest, st := st }
def wHanding (h : Hand) : State := { wFwIn .handover with ident.hand := some h }
def wBlob : ImportBlob := { type := 2, rights := 0x100, label := 1, len := 1753, digest := 8, material := some 77 }
def wReq (subop : Nat) (digest : Nat) : KeyReq := { subop := subop, label := 1, digest := digest }
/-- An owner Cask of label 1 in place 30, and an admin command of opcode 0x2B. -/
def wOwn : State := wAdm 0x2B (wCaskAt 30 { wCask 2 with label := 1, rights := 0x100 } (wSigned wGuard))
def wChange (kind fails : Nat) : KeyChange :=
  { kind := kind, cask := 30, label := 1, type := 2, rights := 0x100, gen := 2, material := 7, f := { wFetched 0x2B with taken := true }
    fails := fails }
def wChanging (c : KeyChange) : State := { wOwn with crypt.change := some c, host.fetched := [{ wFetched 0x2B with taken := true }] }
theorem keyToken_ok (s : State) (t : Token) (k : KeyReq) (want : KeyReq → Bool) (h : (s.checkToken t).2 = .ok) (ha : t.action = 5)
    (hg : t.agents = 0) (hw : want k = true) : (s.keyToken t (some k) want).2 = .ok := by simp [State.keyToken, h, ha, hg, hw]

def wSeg : Seg := { f := { q := 8, cid := 5, opcode := 0x80, noint := false, head := 1, taken := true }, len := 4096, src := 0, dst := 0, rcpt := 0 }
def wStream (queue : List Seg) (run : Option SegRun) : Stream :=
  { no := 0, st := .open_, gen := 0, seq := 0, attempt := 0, overlap := 0, enc := false, label := 0, cask := 0, caskGen := 0, weight := 1
    qpair := 0, tailPrev := [], prevRcpt := [], queue := queue, run := run, deficit := 0, closing := none }
def wSegRun : SegRun := { seg := wSeg, begin_ := 1, attempt := 0 }
def wListEnt : ListEnt := { stream := 0, gen := 0, run := 1, seq := 0, digest := [], len := 1 }
def wLog : SealLog := { recBase := 0, recSlots := 16, listBase := 0, listEnt := 1024, ctl := 0 }
def wEpoch : Epoch :=
  { no := 1, run := 1, tstart := 0#64, tend := 0#64, openTick := 0, closeTick := 0, unc := 0, extended := false, anchor := none
    platdig := [], entries := [], straddlers := [], listStart := 0 }
def wSealOut (covered : Bool) : SealOut :=
  { epoch := 1, run := 1, bytes := [], digest := [1#8], tend := 0#64, unc := 0, entries := [], before := [], covered := covered }
/-- A run of the sealing engine goes on: its keys stand, a seal log is set, epoch 1 is open, Q8 and Q9 run. -/
def wSealing : State :=
  let s := wRun 9 id (wRun 8 id (wQueues (wLinked (wCaskAt 15 (wCask 4) (wCaskAt 16 (wCask 4) (wKeyed.setCfg 0x2400 0x80000000#32))))))
  { s with ident.applied := some (0, wFull), keeper.rtcValid := true, sealing.running := true, sealing.run := 1, sealing.lastRun := 1
           sealing.log := some wLog, sealing.open_ := some wEpoch, sealing.base := some (0, 0), crypt.rngSt := 1 }
def wStr (queue : List Seg) (run : Option SegRun) : State := { wSealing with sealing.streams := [wStream queue run] }
/-- An admin command has been fetched while the engine runs. -/
def wSAdm (op : Nat) (s : State) : State := { s with host.fetched := [wFetched op] }
/-- The head of Q8. -/
def wHead (op : Nat) : Fetched := { q := 8, cid := 5, opcode := op, noint := false, head := 1, taken := false }
def wSHead (op : Nat) (s : State) : State := { s with host.fetched := [wHead op] }
/-- A receipt of 256 bytes with a version, for one byte of data. -/
def wRcpt (version : Byte) : List Byte := version :: (List.replicate 23 0#8 ++ [1#8] ++ List.replicate 231 0#8)
theorem listFull_of (s : State) (e : Epoch) (h1 : s.sealing.unsigned = []) (h2 : s.sealing.signed = []) (h3 : s.sealing.closed = [])
    (h4 : s.sealing.open_ = some e) (h5 : s.sealing.log = none) (h6 : 65536 ≤ e.entries.length) : s.listFull = true := by
  simp [State.listFull, State.listHeld, h1, h2, h3, h4, h5]; omega
def wAnchorReq : AnchorReq := { nonce := [1#8], imprint := [2#8], q := 0 }
def wAnchorTok : AnchorTok :=
  { len := 100, wellFormed := true, spki := 3, sigOk := true, imprint := [2#8], nonce := [1#8], genTime := 0, accuracy := none, digest := [] }
def wAnchored : State :=
  let s := wSAdm 0x34 (wSealing.setCfg 0x2404 0x10010000#32)
  { s with sealing.request := some wAnchorReq, ident.applied := some (0, { wFull with tsa := [3] }) }

def wConn (stage : Nat) : Conn := { eid := 8, transport := 1, stage := stage, session := false, sess := 17, finished := false, ended := false }
/-- A responder with a connection; Afdon's keys and a policy stand. -/
def wSpdm (m : Mode) (c : Conn) : State :=
  { wFullSt (wMode m) with ident.conns := [c], crypt.rngSt := 1 }
def wSReq : SpdmReq := { agent := 0, eid := 20, delay := 1, refdig := 9 }
def wAsked (tries step : Nat) : State :=
  let s := wFullSt wRel
  { s with ident.applied := some (0, { wFull with spdmReq := [wSReq] })
           ident.spdm := s.ident.spdm.set 0 { res := 0, dig := 0, tries := tries, step := step, open_ := true } }
/-- Sideband port 0 under an SB.CFG, with a change of its state. -/
def wSide (cfg : Nat) (f : SbPort → SbPort) : State :=
  let s := wFullSt (wGuard.setCfg 0x2A00 (word cfg))
  { s with side.ports := s.side.ports.set 0 (f s.side.ports[0]) }

/-- Auxiliary port 0 under an AS.CFG, with a change of its state; every select is on. -/
def wAux (cfg : Nat) (f : AuxPort → AuxPort) : State :=
  let s := ((wLinked wGuard).setCfg 0x2800 (word cfg)).setCfg 0x2804 0x4444#32
  { s with aux.ports := s.aux.ports.set 0 (f s.aux.ports[0]) }
/-- The key store's start is over, a re-enrolment is due. -/
def wDue : State := { wSigned wGuard with crypt.buffers := some 3, crypt.dueNow := true, crypt.due := true }
def wRng (st : Nat) : State := { wSigned wGuard with crypt.rngSt := st }

def wMeas : TlmMeas :=
  { pressBusy := [], aesBusy := [], creditMin := 0, unitsOut := 0, freeMin := 0, inflMax := 0, tempMin := 0, tempMax := 0, rails := []
    dbusy := [], vmax := [], rack := [] }
def wRaise (src : Nat) : Raise := { src := src, sev := 3, arg := 7 }
def wRec1 (src : Nat) : Rec := { recno := 2, src := src, sev := 3, kind := .event, time := 0#64, cycle := 0, count := 1, arg := 7 }
def wPendCnt : PendCnt := { src := 17, count := 2, sev := 3, arg := 7 }
def wBlock : JBlock := { bseq := 1, first := true, prevFailed := false, carried := false, recs := [], bad := false }
/-- The event path of a machine under way, changed. -/
def wEvt (f : Evt → Evt) : State := { wGuard.setCfg (routeKey 17) 0x40000000#32 with evt := f wGuard.evt }
def wLock (cfg : Word) (warn : Bool) : State := { wGuard with wd0.locked := true, wd0.cfg := cfg, wd0.warn := warn }
def wTamp (classes : Word) : State := wGuard.setCfg 0xC4 classes

/-- A command answers a next state that passes a test. -/
def nextIs (o : Host.Outcome State Fault Refusal) (p : State → Bool) : Bool :=
  match o with | .next z => p z | _ => false
theorem next_of (o : Host.Outcome State Fault Refusal) (p : State → Bool) (h : nextIs o p = true) : ∃ z, o = .next z ∧ p z = true := by
  cases o with
  | next z => exact ⟨z, rfl, h⟩
  | fault f => cases h
  | refused r => cases h
/-- Every command of a list answers a next state. -/
def Runs (l : List Instr) (s : State) : Prop := ∀ c ∈ l, ∃ z, exec c s = .next z
theorem runs_of (l : List Instr) (s : State) (h : (l.all fun c => nextIs (exec c s) (fun _ => true)) = true) : Runs l s := by
  intro c hc
  obtain ⟨z, hz, _⟩ := next_of _ _ (List.all_eq_true.mp h c hc)
  exact ⟨z, hz⟩

/-! ## WellFormed -/

/-- Each check of WellFormed refuses a term that breaks it, and no other check of that term (one term for each check). -/
theorem test_illFormed :
  ([.lowHalfRead .host (2 ^ 32) true, .snapshot (2 ^ 16) 0 0 0, .snapshot 0 (2 ^ 32) 0 0, .snapshot 0 0 (2 ^ 64) 0,
   .snapshot 0 0 0 (2 ^ 64), .mainPowerGoodRise (2 ^ 2) 0 true true, .mainPowerGoodRise 0 (2 ^ 2) true true,
   .vaultIdentify (some { wPartF with train := { wTrain 0 with tap := 128 } }) none 0 none none,
   .vaultIdentify none (some { wPartF with train := { wTrain 0 with tap := 128 } }) 0 none none,
   .vaultIdentify none none 0 (some ⟨2 ^ 32, []⟩) none, .vaultIdentify none none 0 none (some ⟨2 ^ 32, []⟩),
   .channelBringup 0 (some { wPartF with train := { wTrain 0 with tap := 128 } }) none wFound wFound wFound wFound,
   .channelBringup 0 none (some { wPartF with train := { wTrain 0 with tap := 128 } }) wFound wFound wFound wFound,
   .intentResume 0 0 (2 ^ 8) wGoodMan true, .modeWrite (2 ^ 3) 0, .modeWrite 0 (2 ^ 8), .linkTrained (2 ^ 3) 0, .linkTrained 0 (2 ^ 5),
   .agentRead { wTxn with addr := [0#8, 0#8, 0#8, 0#8, 0#8] }, .setPhase 0 (2 ^ 8) 0, .setPhase 0 0 (2 ^ 8),
   .activate 0 0 0 (2 ^ 8) 0 0 wGoodMan, .activate 0 0 0 0 (2 ^ 8) 0 wGoodMan, .eyeTraining 0 0 { wTrain 0 with tap := 128 },
   .urgentStop true (2 ^ 8) 0, .urgentStop true 0 (2 ^ 16), .streamOpen 0 (2 ^ 16) 0 0 0 0 0, .streamOpen 0 0 (2 ^ 8) 0 0 0 0,
   .streamOpen 0 0 0 (2 ^ 8) 0 0 0, .streamOpen 0 0 0 0 (2 ^ 32) 0 0, .streamOpen 0 0 0 0 0 (2 ^ 32) 0,
   .streamOpen 0 0 0 0 0 0 (2 ^ 8), .sealSegment (2 ^ 8) 0 0 0 0 0 0, .sealSegment 0 0 0 (2 ^ 64) 0 0 0,
   .sealSegment 0 0 0 0 (2 ^ 64) 0 0, .sealSegment 0 0 0 0 0 (2 ^ 64) 0, .sealSegment 0 0 0 0 0 0 (2 ^ 64),
   .verifySegment 0 0 (2 ^ 8) 0 [] [] none, .sealLog 0 (2 ^ 64) 0 0 0 0, .sealLog 0 0 (2 ^ 64) 0 0 0, .sealLog 0 0 0 (2 ^ 64) 0 0,
   .sealLog 0 0 0 0 (2 ^ 32) 0, .sealLog 0 0 0 0 0 (2 ^ 32), .entryFetch 0 0 (2 ^ 8) 0 none, .entryFetch 0 0 0 (2 ^ 8) none,
   .sqDoorbell 0 (2 ^ 16), .unsupportedRequest (.read 1 0 4), .logRead 0 (2 ^ 8) 0 0 0, .logRead 0 0 0 (2 ^ 64) 0,
   .certRead 0 (2 ^ 8) 0 0 0, .agentHeartbeat 0 (2 ^ 8) 1#32, .reimage 0 0 (2 ^ 8), .fwActivate 0 (2 ^ 8), .recQuery (2 ^ 8),
   .debugOpen .tap 0 (2 ^ 32) (wDbg 1 2) none, .importKey 0 0 0 (2 ^ 32) (wToken 1 1) none wBlob, .msixVectorUnmask 0 0 (2 ^ 32) true,
   .mctpMessage 3 0 [], .mctpMessage 0 (2 ^ 8) [], .mctpMessage 0 0 [128], .challenge 0 0 0 (2 ^ 8) (List.replicate 32 0#8),
   .challenge 0 0 0 0 [1#8], .getMeasurements 0 0 (2 ^ 8) true (List.replicate 32 0#8), .spdmAgentResponse 0 true (2 ^ 384),
   .msigapExpiry (2 ^ 6), .windowRead 0 (2 ^ 8) 0 0, .windowRead 0 0 (2 ^ 8) 0, .windowRead 0 0 0 (2 ^ 8),
   .mctpPacket 0 0 0 (2 ^ 7) true true, .entdaa 0 (2 ^ 7), .setdasa 0 0 (2 ^ 7), .setmwl 0 none (2 ^ 16), .mctpLogRead 0 0 0 (2 ^ 8),
   .auxGo .host 0 (2 ^ 2) 0, .auxGo .host 0 0 (2 ^ 14)] : List Instr).all (fun c => !c.wf) = true := by decide +kernel

/-- The same commands with that operand in range. -/
theorem test_wellFormed :
  ([.lowHalfRead .host 0 true, .snapshot 0 0 0 0, .snapshot 0 0 0 0, .snapshot 0 0 0 0, .snapshot 0 0 0 0,
   .mainPowerGoodRise 0 0 true true, .mainPowerGoodRise 0 0 true true, .vaultIdentify none none 0 none none,
   .vaultIdentify none none 0 none none, .vaultIdentify none none 0 none none, .vaultIdentify none none 0 none none,
   .channelBringup 0 none none wFound wFound wFound wFound, .channelBringup 0 none none wFound wFound wFound wFound,
   .intentResume 0 0 0 wGoodMan true, .modeWrite 0 0, .modeWrite 0 0, .linkTrained 0 0, .linkTrained 0 0, .agentRead wTxn,
   .setPhase 0 0 0, .setPhase 0 0 0, .activate 0 0 0 0 0 0 wGoodMan, .activate 0 0 0 0 0 0 wGoodMan, .eyeTraining 0 0 (wTrain 0),
   .urgentStop true 0 0, .urgentStop true 0 0, .streamOpen 0 0 0 0 0 0 0, .streamOpen 0 0 0 0 0 0 0, .streamOpen 0 0 0 0 0 0 0,
   .streamOpen 0 0 0 0 0 0 0, .streamOpen 0 0 0 0 0 0 0, .streamOpen 0 0 0 0 0 0 0, .sealSegment 0 0 0 0 0 0 0,
   .sealSegment 0 0 0 0 0 0 0, .sealSegment 0 0 0 0 0 0 0, .sealSegment 0 0 0 0 0 0 0, .sealSegment 0 0 0 0 0 0 0,
   .verifySegment 0 0 0 0 [] [] none, .sealLog 0 0 0 0 0 0, .sealLog 0 0 0 0 0 0, .sealLog 0 0 0 0 0 0, .sealLog 0 0 0 0 0 0,
   .sealLog 0 0 0 0 0 0, .entryFetch 0 0 0 0 none, .entryFetch 0 0 0 0 none, .sqDoorbell 0 0, .unsupportedRequest (.read 0 0 4),
   .logRead 0 0 0 0 0, .logRead 0 0 0 0 0, .certRead 0 0 0 0 0, .agentHeartbeat 0 0 1#32, .reimage 0 0 0, .fwActivate 0 0, .recQuery 0,
   .debugOpen .tap 0 0 (wDbg 1 2) none, .importKey 0 0 0 0 (wToken 1 1) none wBlob, .msixVectorUnmask 0 0 0 true, .mctpMessage 0 0 [],
   .mctpMessage 0 0 [], .mctpMessage 0 0 [], .challenge 0 0 0 0 (List.replicate 32 0#8), .challenge 0 0 0 0 (List.replicate 32 0#8),
   .getMeasurements 0 0 0 true (List.replicate 32 0#8), .spdmAgentResponse 0 true 0, .msigapExpiry 0, .windowRead 0 0 0 0,
   .windowRead 0 0 0 0, .windowRead 0 0 0 0, .mctpPacket 0 0 0 0 true true, .entdaa 0 0, .setdasa 0 0 0, .setmwl 0 none 0,
   .mctpLogRead 0 0 0 0, .auxGo .host 0 0 0, .auxGo .host 0 0 0] : List Instr).all (fun c => c.wf) = true := by decide +kernel

/-! ## The spec's worked figures -/

/-- 05, R131, R132: the estate recorder's slot of 6,144 pages: five levels, 879 nodes, 104 metadata pages, 15 anchors in 2 frames. -/
theorem test_trellis_6144 : levels 6144 = [768, 96, 12, 2, 1] ∧ trellisHeight 6144 = 5 ∧ trellisNodes 6144 = 879 ∧
    metaUsed 6144 = 104 ∧ anchorNodes 6144 = 15 ∧ anchorFrames 6144 = 2 := by decide +kernel

/-- 05, R132: an image of 1,048,576 pages has 2,341 anchor nodes in 235 frames. -/
theorem test_trellis_large : anchorNodes 1048576 = 2341 ∧ anchorFrames 1048576 = 235 := by decide +kernel

/-- 03, R62, R64: 1-4-4 at 133 MHz needs 3 dummy cycles for a hit; 8D-8D-8D at 200 MHz needs 9, and 29 for a miss in 145 ns;
1-1-1 at 50 MHz needs none for a hit and 7 for a miss. -/
theorem test_dummy_minima : hitMin 4 133 = 3 ∧ hitMin 5 133 = 3 ∧ hitMin 9 200 = 9 ∧ missMin 200 145 = 29 ∧ hitMin 0 50 = 0 ∧
    missMin 50 145 = 7 := by decide +kernel

/-- 05, R148: DLAT 125 ns at 400 MB/s gives VWORST 15,740 ns; 1-8-8 at 133.3 MHz with DLAT 200 ns gives 40,360 ns. -/
theorem test_vworst : vworstNs 125 9600 = 15740 ∧ vworstNs 200 (rawRate 6 133) = 40360 := by decide +kernel

/-- 11, R327, R330: W_PROD 0x0016 is a partial word: INVALID, and ENTER_PRODUCTION can be completed under a vendor key. -/
theorem test_partial_production : lcCode patTest 0x0016#16 0#16 = 7 ∧
    Otp.completable { shippedOtp with wProd := 0x0016#16 } = some (2, .vendor) := by decide +kernel

/-- 13, R386: WDT.WINDOW 0x2FAF and WDT.CFG 0x0600BEBC are accepted. -/
theorem test_wd0_example : ({ State.reset with wd0.open_ := 0x2FAF#32 } : State).wd0CfgOk 0x0600BEBC#32 = true := by decide +kernel

/-- 07, R209, R212: the drift of 0.8 s is 16 µs. -/
theorem test_drift : drift 26214 = 16 := by decide +kernel

/-! ## One command -/

/-- R72: an accepted WRITE_ENABLE sets WEL. -/
theorem test_write_enable : nextIs (exec (.writeEnable wTxn) (wOpcode 5 0 0 wRel)) (fun z => (z.chan 0).port.wel) = true := by
  decide +kernel

/-- R71: an opcode that no entry lists changes no port flag. -/
theorem test_unlisted : nextIs (exec (.unlistedOpcode wTxn) wRel) (fun z => !(z.chan 0).port.wel) = true := by decide +kernel

/-- R18: a write stages in the requester's own shadow and leaves the active register. -/
theorem test_shadow_write : nextIs (exec (.registerWrite .side 0x2C00 500#32) wGuard)
    (fun z => decide (stagedGet? z.regs.side.staged 0x2C00 = some 500#32 ∧ z.cfg 0x2C00 = 1000#32)) = true := by decide +kernel

/-- R40: main power good falling leaves SHELF. -/
theorem test_shelf : nextIs (exec .mainPowerGoodFall wGuard) (fun z => decide (z.plat.mode = .shelf)) = true := by decide +kernel

/-- An empty queue: only the time advances. -/
theorem test_idle : nextIs (step State.reset) (fun z => decide (z.time = 1 ∧ z.pending = [])) = true := by decide +kernel

/-- The front of the queue runs and leaves it. -/
theorem test_step : nextIs (step { wGuard with pending := [.railExcursion 3, .tapReset] })
    (fun z => decide (z.pending = [.tapReset] ∧ z.evt.transit.any (fun r => r.src = 972) = true)) = true := by decide +kernel

/-! ## Witnesses of the statements' hypotheses -/

/-- A state and operands that meet the hypotheses of each clause of AgentFlagCommands. -/
theorem wit_AgentFlagCommands :
  (∃ (s : State) (t : Txn) (e : Word), s.admits t 5 e) ∧
  (∃ (s : State) (t : Txn) (e : Word), s.admits t 6 e) ∧
  (∃ (s : State) (t : Txn) (e : Word), s.admits t 14 e) ∧
  (∃ (s : State) (t : Txn) (e : Word), s.admits t 16 e) ∧
  (∃ (s : State) (t : Txn) (e : Word), s.admits t 17 e) ∧
  (∃ (s : State) (t : Txn) (e : Word), s.admits t 18 e) ∧
  (∃ (s : State) (t : Txn) (e : Word), s.admits t 15 e ∧ (s.chan t.ch).port.rstEn = true) ∧
  (∃ (s : State) (t : Txn), s.portOpen t.ch = true ∧ (s.chan t.ch).port.xip = none ∧ s.lookOp t.ch t.op t.ext = .unlisted) ∧
  (∃ (s : State) (t : Txn) (e : Word) (b : Byte) (r : List Byte), s.admits t 12 e ∧ (s.chan t.ch).port.wel = true ∧ t.onByte = true ∧
      t.data = b :: r) ∧
  (∃ (s : State) (t : Txn) (e : Word) (m : Word) (b : Byte) (r : List Byte), s.admits t 13 e ∧ (s.chan t.ch).port.wel = true ∧
      t.onByte = true ∧ t.data = b :: r ∧ s.modeSwitch t b = some m) :=
  ⟨⟨wOpcode 5 0 0 wRel, wTxn, wEntry 5 0 0, by decide +kernel⟩,
   ⟨wOpcode 6 0 0 wRel, wTxn, wEntry 6 0 0, by decide +kernel⟩,
   ⟨wOpcode 14 0 0 wRel, wTxn, wEntry 14 0 0, by decide +kernel⟩,
   ⟨wOpcode 16 0 0 (wPort wRel (fun p => { p with pfail := true, prot := true })), wTxn, wEntry 16 0 0, by decide +kernel⟩,
   ⟨wOpcode 17 0 0 wRel, wTxn, wEntry 17 0 0, by decide +kernel⟩,
   ⟨wOpcode 18 0 0 wRel, wTxn, wEntry 18 0 0, by decide +kernel⟩,
   ⟨wOpcode 15 0 0 (wPort wRel (fun p => { p with rstEn := true })), wTxn, wEntry 15 0 0, by decide +kernel⟩,
   ⟨wRel, wTxn, by decide +kernel⟩,
   ⟨wOpcode 12 0 1 (wPort wRel (fun p => { p with wel := true })), { wTxn with data := [5#8] }, wEntry 12 0 1, 5#8, [], by decide +kernel⟩,
   ⟨(wOpcode 13 0 0 (wPort wRel (fun p => { p with wel := true }))).setCfg (fch 0 0x28) 0x80050501#32, { wTxn with data := [5#8] },
       wEntry 13 0 0, 0x80050501#32, 5#8, [], by decide +kernel⟩⟩

/-- A state and operands that meet the hypotheses of each clause of AgentReads. -/
theorem wit_AgentReads :
  (∃ (s : State) (t : Txn) (e : Word) (r : Region) (p : PageId) (a : Nat), s.admits t 1 e ∧ a = s.txnAddr t e ∧ 0 < t.n ∧
      a % 4096 + t.n ≤ 4096 ∧ t.lateAt = none ∧ s.hbPage t.ch (s.vwrap t.ch (a / 4096)) = false ∧
      s.regionAt t.ch (s.vwrap t.ch (a / 4096)) = some r ∧ r.policy ≠ 3 ∧ s.permNow t.ch r 0 = true ∧
      (s.chan t.ch).port.inSuspended (4096 * s.vwrap t.ch (a / 4096) + a % 4096) t.n = false ∧ p = ⟨r.slot,
      imageIndex (s.regions t.ch) r.slot (s.vwrap t.ch (a / 4096))⟩ ∧ (s.chan t.ch).bad.contains p = false ∧
      (s.frameOf t.ch p).isSome = true) ∧
  (∃ (s : State) (t : Txn) (op : Byte) (r : Region) (p : PageId) (a : Nat), s.portOpen t.ch = true ∧ (s.chan t.ch).port.xip = some op ∧
      a = s.txnAddr { t with op := op } (s.cfg (opKey t.ch.val op.toNat)) ∧ 0 < t.n ∧ a % 4096 + t.n ≤ 4096 ∧ t.lateAt = none ∧
      s.hbPage t.ch (s.vwrap t.ch (a / 4096)) = false ∧ s.regionAt t.ch (s.vwrap t.ch (a / 4096)) = some r ∧ r.policy ≠ 3 ∧
      s.permNow t.ch r 0 = true ∧ (s.chan t.ch).port.inSuspended (4096 * s.vwrap t.ch (a / 4096) + a % 4096) t.n = false ∧ p = ⟨r.slot,
      imageIndex (s.regions t.ch) r.slot (s.vwrap t.ch (a / 4096))⟩ ∧ (s.chan t.ch).bad.contains p = false ∧
      (s.frameOf t.ch p).isSome = true) ∧
  (∃ (s : State) (t : Txn) (op : Byte), s.portOpen t.ch = true ∧ (s.chan t.ch).port.xip = some op ∧
      fld (s.cfg (fch t.ch 4)) 31 24 ≠ t.modeBits.toNat) ∧
  (∃ (s : State) (t : Txn) (e : Word), s.admits t 2 e) ∧
  (∃ (s : State) (t : Txn) (e : Word), s.admits t 3 e) ∧
  (∃ (s : State) (t : Txn) (e : Word), s.admits t 4 e ∧ t.endsAt = none) ∧
  (∃ (s : State) (t : Txn) (e : Word) (k : Nat) (ok : Bool), s.admits t 4 e ∧ t.endsAt = some (k, ok) ∧ k ≤ t.n ∧
      (s.chan t.ch).port.blockBusy = true) :=
  ⟨⟨{ wMap 0 (wOpcode 1 3 0 wRel) with cellar.frames := [{ no := 300, st := .pinned, node := false, ch := 0, slot := 0, copy := 1, index := 2, anchor := false, graft := false, ref := false }] }, { wTxn with addr := [0#8, 0x20#8, 0x10#8], n := 32 }, wEntry 1 3 0, regionOf (wMap 0 wRel).cfg 0 0, ⟨0, 2⟩, 0x2010, by decide +kernel⟩,
   ⟨{ wMap 0 (wOpcode 1 3 0 (wPort wRel (fun p => { p with xip := some 1#8 }))) with cellar.frames := [{ no := 300, st := .pinned, node := false, ch := 0, slot := 0, copy := 1, index := 2, anchor := false, graft := false, ref := false }] }, { wTxn with addr := [0#8, 0x20#8, 0x10#8], n := 32 }, 1#8, regionOf (wMap 0 wRel).cfg 0 0, ⟨0, 2⟩, 0x2010, by decide +kernel⟩,
   ⟨(wPort wRel (fun p => { p with xip := some 1#8 })).setCfg (fch 0 4) 0xA5000000#32, { wTxn with modeBits := 0xFF#8, n := 16 }, 1#8,
       by decide +kernel⟩,
   ⟨wOpcode 2 1 0 wRel, { wTxn with n := 8 }, wEntry 2 1 0, by decide +kernel⟩,
   ⟨wOpcode 3 0 0 wRel, { wTxn with n := 4 }, wEntry 3 0 0, by decide +kernel⟩,
   ⟨wOpcode 4 0 0 wRel, { wTxn with n := 2 }, wEntry 4 0 0, by decide +kernel⟩,
   ⟨wOpcode 4 0 0 (wPort wRel (fun p => { p with blockBusy := true, wip := true, wel := true })),
       { wTxn with n := 3, endsAt := some (1, true) }, wEntry 4 0 0, 1, true, by decide +kernel⟩⟩

/-- A state and operands that meet the hypotheses of each clause of AgentWrites. -/
theorem wit_AgentWrites :
  (∃ (s : State) (t : Txn) (e : Word) (sz : Nat) (a : Nat), s.admits t 7 e ∧ (s.chan t.ch).port.wel = true ∧ t.onByte = true ∧
      (s.chan t.ch).port.wip = false ∧ (s.chan t.ch).port.ops = [] ∧ sz = s.pgsz t.ch ∧ a = s.txnAddr t e ∧
      s.hbPage t.ch (s.vwrap t.ch (a / 4096)) = false ∧ t.data ≠ [] ∧ s.rangeOk t.ch ⟨a / sz * sz, sz⟩ 1 = true ∧
      s.partsOf t.ch ⟨a / sz * sz, sz⟩ ≠ []) ∧
  (∃ (s : State) (t : Txn) (e : Word) (sz : Nat) (a : Nat), s.admits t 8 e ∧ (s.chan t.ch).port.wel = true ∧ t.onByte = true ∧
      (s.chan t.ch).port.wip = false ∧ (s.chan t.ch).port.ops = [] ∧ sz = eraseSize (opArg e) ∧ a = s.txnAddr t e / sz * sz ∧
      s.rangeOk t.ch ⟨a, sz⟩ 2 = true ∧ s.partsOf t.ch ⟨a, sz⟩ ≠ []) ∧
  (∃ (s : State) (t : Txn) (e : Word), s.admits t 9 e ∧ (s.chan t.ch).port.wel = true ∧ t.onByte = true ∧ (s.chan t.ch).port.wip = false ∧
      (s.chan t.ch).port.ops = [] ∧ 0 < s.vpages t.ch ∧ s.rangeOk t.ch ⟨0, 4096 * s.vpages t.ch⟩ 2 = true ∧ s.partsOf t.ch ⟨0,
      4096 * s.vpages t.ch⟩ ≠ []) ∧
  (∃ (s : State) (t : Txn) (e : Word), s.admits t 7 e ∧ s.hbPage t.ch (s.vwrap t.ch (s.txnAddr t e / 4096)) = true ∧
      s.txnAddr t e % 4096 = 0 ∧ t.data.take 4 = [0x5E#8, 0xED#8, 0xC0#8, 0xDE#8] ∧ (s.chan t.ch).port.wel = true ∧ t.onByte = true ∧
      s.wdInWin t.ch = true ∧ bit (s.awin t.ch) 28 = true ∧ ((∀ k, ((s.chan t.ch).slot k).upd ≠ .confirming))) ∧
  (∃ (s : State) (t : Txn) (e : Word) (o : AgentOp), s.admits t 10 e ∧ (s.chan t.ch).port.ops = [o] ∧ o.st = .running ∧
      (s.chan t.ch).port.blockBusy = false) ∧
  (∃ (s : State) (n : Ch) (o : AgentOp), (s.chan n).port.ops = [o] ∧ o.st = .running ∧ o.suspendHeld = true ∧ s.powered = true) ∧
  (∃ (s : State) (t : Txn) (e : Word) (o : AgentOp), s.admits t 11 e ∧ (s.chan t.ch).port.ops = [o] ∧ o.st = .suspended) ∧
  (∃ (s : State) (n : Ch) (khz : Nat), s.portOpen n = true ∧ 1020 * modeLimit (fld (s.cfg (fch n 4)) 23 16) (s.chan n).port.mode < khz) ∧
  (∃ (s : State) (n : Ch) (o : AgentOp), s.powered = true ∧ (s.chan n).port.ops = [o] ∧ o.st = .running) ∧
  (∃ (s : State) (n : Ch), s.powered = true ∧ (s.chan n).port.blockBusy = true) :=
  ⟨⟨wMap 3 (wOpcode 7 3 0 (wPort wRel (fun p => { p with wel := true }))), { wTxn with addr := [0#8, 1#8, 0x20#8], data := [1#8, 2#8] },
      wEntry 7 3 0, 256, 0x120, by decide +kernel⟩,
   ⟨wMap 3 (wOpcode 8 3 0 (wPort wRel (fun p => { p with wel := true }))), { wTxn with addr := [0#8, 0x12#8, 0#8] }, wEntry 8 3 0, 4096,
       0x1000, by decide +kernel⟩,
   ⟨(wMap 3 (wOpcode 9 0 0 (wPort wRel (fun p => { p with wel := true })))).setCfg (fch 0 0xA0) 16#32, wTxn, wEntry 9 0 0,
       by decide +kernel⟩,
   ⟨((((wMap 3 (wOpcode 7 3 0 (wPort wRel (fun p => { p with wel := true })))).setCfg (fch 0 4) 0x1000#32).setCfg (fch 0 0x24) 0x4000#32).setCfg 0x680 0x80000100#32).setCfg 0x684 0x10000000#32, { wTxn with addr := [0#8, 0x40#8, 0#8], data := [0x5E#8, 0xED#8, 0xC0#8, 0xDE#8] }, wEntry 7 3 0, by decide +kernel⟩,
   ⟨wOpcode 10 0 0 (wPort wRel (fun p => { p with ops := [wOp .running], wip := true })), wTxn, wEntry 10 0 0, wOp .running,
       by decide +kernel⟩,
   ⟨wPort wRel (fun p => { p with ops := [{ wOp .running with suspendHeld := true }], wip := true }), 0,
       { wOp .running with suspendHeld := true }, by decide +kernel⟩,
   ⟨wOpcode 11 0 0 (wPort wRel (fun p => { p with ops := [wOp .suspended] })), wTxn, wEntry 11 0 0, wOp .suspended, by decide +kernel⟩,
   ⟨wRel, 0, 200000, by decide +kernel⟩,
   ⟨wPort wRel (fun p => { p with ops := [wOp .running], wip := true }), 0, wOp .running, by decide +kernel⟩,
   ⟨wPort wRel (fun p => { p with blockBusy := true, wip := true, wel := true }), 0, by decide +kernel⟩⟩

/-- A state and operands that meet the hypotheses of each clause of UpdateFlow. -/
theorem wit_UpdateFlow :
  (∃ (s : State) (n : Ch), s.powered = true ∧ (s.chan n).st = .released ∧ (s.chan n).phase = .boot ∧ fld (s.cfg (fch n 0xA4)) 3 2 = 1) ∧
  (∃ (s : State) (n : Ch), s.powered = true ∧ (s.chan n).phase = .update ∧ s.updating n = false) ∧
  (∃ (s : State) (n : Ch) (k : SlotId), s.powered = true ∧ ((s.chan n).slot k).upd = .waitPart ∧ s.exposed n (s.nextPart n k) = false) ∧
  (∃ (s : State) (n : Ch) (k : SlotId) (p : Update), s.powered = true ∧ ((s.chan n).slot k).upd = .verifying ∧
      ((s.chan n).slot k).up = some p ∧ s.portHeld n = false ∧
      (s.pressRun { cls := 2, ch := none, tag := 4 * n.val + k.val, engine := 8 }).2 = true) ∧
  (∃ (s : State) (n : Ch) (k : SlotId) (p : Update), s.powered = true ∧ ((s.chan n).slot k).upd = .verifying ∧
      ((s.chan n).slot k).up = some p ∧ s.portHeld n = false ∧
      (s.pressRun { cls := 2, ch := none, tag := 4 * n.val + k.val, engine := 8 }).2 = true) ∧
  (∃ (s : State) (n : Ch) (k : SlotId) (p : Update) (units : Nat) (x : CopyUnit) (r : List CopyUnit), s.powered = true ∧
      ((s.chan n).slot k).upd = .copying ∧ ((s.chan n).slot k).up = some p ∧
      ((s.copyUnitList n k (s.inactCopy n k)).drop p.step).take units = x :: r ∧
      unitsJoin ((s.chan n).prt x.part).erases (x :: r) = true ∧ s.exposed n x.part = false ∧ s.canWrite n x.part = true ∧
      p.step + (r.length + 1) < p.nsteps) ∧
  (∃ (s : State) (n : Ch) (k : SlotId) (p : Update) (units : Nat) (x : CopyUnit) (r : List CopyUnit), s.powered = true ∧
      ((s.chan n).slot k).upd = .copying ∧ ((s.chan n).slot k).up = some p ∧
      ((s.copyUnitList n k (s.inactCopy n k)).drop p.step).take units = x :: r ∧
      unitsJoin ((s.chan n).prt x.part).erases (x :: r) = true ∧ s.exposed n x.part = false ∧ s.canWrite n x.part = true ∧
      p.nsteps ≤ p.step + (r.length + 1) ∧ p.flipNow = false) ∧
  (∃ (s : State) (n : Ch) (k : SlotId) (p : Update), s.powered = true ∧ ((s.chan n).slot k).upd = .confirming ∧
      ((s.chan n).slot k).up = some p ∧ p.windowOpen = true ∧ (s.chan n).st ≠ .released) ∧
  (∃ (s : State) (n : Ch) (k : SlotId) (p : Update) (c : Fin 16), s.powered = true ∧ ((s.chan n).slot k).upd = .burning ∧
      ((s.chan n).slot k).up = some p ∧ fld (s.cfg (fch n (0xB8 + 4 * k.val))) 27 24 = c.val ∧ s.plat.mode ≠ .lockdown ∧
      (s.burnVintage c.val).vintage c.val < p.man.vintage) :=
  ⟨⟨wRel.setCfg (fch 0 0xA4) 4#32, 0, by decide +kernel⟩,
   ⟨wChan wRel (fun c => { c with phase := .update }), 0, by decide +kernel⟩,
   ⟨wSlot wGuard (fun z => { z with upd := .waitPart }), 0, 0, by decide +kernel⟩,
   ⟨wSlot wGuard (fun z => { z with upd := .verifying, up := some wUp, locked := true }), 0, 0, wUp, by decide +kernel⟩,
   ⟨wSlot wGuard (fun z => { z with upd := .verifying, up := some wUp, locked := true }), 0, 0, wUp, by decide +kernel⟩,
   ⟨wUpdS .copying wUp, 0, 0, wUp, 1, wUnit 0, [], by decide +kernel⟩,
   ⟨wUpdS .copying { wUp with step := 7 }, 0, 0, { wUp with step := 7 }, 1, wUnit 7, [], by decide +kernel⟩,
   ⟨wSlot wGuard (fun z => { z with upd := .confirming, up := some wUp }), 0, 0, wUp, by decide +kernel⟩,
   ⟨(wSlot wGuard (fun z => { z with upd := .burning, up := some { wUp with man := wMan 3 16 } })).setCfg (fch 0 0xB8) 0x05000000#32, 0,
       0, { wUp with man := wMan 3 16 }, 5, by decide +kernel⟩⟩

/-- A state and operands that meet the hypotheses of each clause of PartsAndJournals. -/
theorem wit_PartsAndJournals :
  (∃ (s : State) (n : Ch) (o : AgentOp) (x : Extent), s.powered = true ∧ (s.chan n).port.ops = [o] ∧ o.st = .waiting ∧ o.kind = .program ∧
      ((∀ k, k ∈ o.parts → ((s.chan n).prt k).failed = false ∧ ((s.chan n).prt k).busy = none)) ∧ s.clk.flashLost = false ∧
      s.servingExtent n (s.vwrap n (o.base / 4096)) = some x) ∧
  (∃ (s : State) (n : Ch) (k : PartId) (b : Busy), s.powered = true ∧ ((s.chan n).prt k).busy = some b ∧
      ((s.chan n).prt k).failed = false) ∧
  (∃ (s : State) (port : PortId) (n : Ch) (k : PartId) (t : Training) (f : Nat), s.powered = true ∧ port.val = n.val ∧
      ((s.chan n).prt k).present = true ∧ ((s.chan n).prt k).failed = false ∧ trainedSclk t (s.stepsOf n k) = some f) ∧
  (∃ (s : State) (port : PortId) (n : Ch) (k : PartId) (t : Training), s.powered = true ∧ port.val = n.val ∧
      ((s.chan n).prt k).present = true ∧ ((s.chan n).prt k).failed = false ∧ trainedSclk t (s.stepsOf n k) = none ∧
      (s.chan n).st = .held) ∧
  (∃ (s : State), s.background = true ∧ s.plat.training = none) ∧
  (∃ (s : State) (port : PortId) (n : Ch) (k : PartId) (b : Busy), s.powered = true ∧ port.val = n.val ∧
      ((s.chan n).prt k).busy = some b ∧ ((s.chan n).prt k).failed = false ∧ ((s.chan n).prt k).stage = 0 ∧ (s.chan n).port.ops = []) ∧
  (∃ (s : State) (port : PortId) (n : Ch) (k : PartId), s.powered = true ∧ port.val = n.val ∧ ((s.chan n).prt k).stage = 2 ∧
      ((s.chan n).prt (1 - k)).busy = none) ∧
  (∃ (s : State) (port : PortId) (n : Ch) (k : PartId), s.powered = true ∧ port.val = n.val ∧ ((s.chan n).prt k).stage = 3 ∧
      (s.chan n).st = .held) ∧
  (∃ (s : State) (port : PortId) (n : Ch) (k : PartId), s.powered = true ∧ port.val = n.val ∧ ((s.chan n).prt k).stage = 3) ∧
  (∃ (s : State) (n : Ch) (k : PartId) (unit : Nat), s.refreshOpen n k = true ∧ s.exposed n k = false ∧
      ((s.chan n).prt k).refresh = none ∧ ((s.chan n).prt k).used < fld (s.cfg (fch n 0xDC)) 31 16 ∧ ((∀ x ∈ ((s.chan n).prt k).refreshed,
      x.1 = unit → x.2 + dayCycles * fld (s.cfg (fch n 0xDC)) 15 0 ≤ s.time))) ∧
  (∃ (s : State) (n : Ch) (k : PartId) (z : SlotId) (v : Nat), s.refreshOpen n k = true ∧ s.exposed n k = false ∧
      ((s.chan n).prt k).refresh = some (z, v, 1)) ∧
  (∃ (s : State) (n : Ch) (k : PartId) (z : SlotId) (v : Nat), s.refreshOpen n k = true ∧ s.exposed n k = false ∧
      ((s.chan n).prt k).refresh = some (z, v, 2)) ∧
  (∃ (s : State), s.powered = true) ∧
  (∃ (s : State), s.vaultUp = true ∧ s.crypt.root ≠ none ∧ s.vault.compact = none ∧ 75 < s.intentFill) ∧
  (∃ (s : State) (key : Bool) (i : Nat) (total : Nat), s.vaultUp = true ∧ s.crypt.root ≠ none ∧ s.vault.compact = some (key, i, total) ∧
      i + 1 < total) ∧
  (∃ (s : State) (i : Nat) (total : Nat), s.vaultUp = true ∧ s.crypt.root ≠ none ∧ s.vault.compact = some (false, i, total) ∧
      total ≤ i + 1) ∧
  (∃ (s : State) (i : Nat) (total : Nat), s.vaultUp = true ∧ s.crypt.root ≠ none ∧ s.crypt.sealGen = 1 ∧ s.vault.compact = some (true, i,
      total) ∧ total ≤ i + 1) ∧
  (∃ (s : State) (t : Training) (f : Nat) (i : Intent), s.plat.mode = .recover ∧ s.plat.cause = 0x16 ∧
      trainedSclk t s.vaultSteps = some f ∧ liveIntents s.vault.intents = [i]) :=
  ⟨⟨wMap 3 (wPort wRel (fun p => { p with ops := [wOp .waiting], wip := true })), 0, wOp .waiting, extentOf (wMap 3 wRel).cfg 0 0,
      by decide +kernel⟩,
   ⟨wPart wGuard (fun p => { p with present := true, busy := some .copy }), 0, 0, .copy, by decide +kernel⟩,
   ⟨(wPart wGuard (fun p => { p with present := true })).setCfg (fch 0 0xC8) 0x00C80000#32, 0, 0, 0, wTrain 1, (sclkSteps 0 200).getD 1 0,
       by decide +kernel⟩,
   ⟨wPart (wChan wGuard (fun c => { c with st := .held })) (fun p => { p with present := true }), 0, 0, 0,
       { wTrain 0 with drops := none }, by decide +kernel⟩,
   ⟨wGuard, by decide +kernel⟩,
   ⟨wPart wGuard (fun p => { p with present := true, busy := some .copy }), 0, 0, 0, .copy, by decide +kernel⟩,
   ⟨wPart wGuard (fun p => { p with present := true, busy := some .copy, stage := 2 }), 0, 0, 0, by decide +kernel⟩,
   ⟨wPart (wChan wGuard (fun c => { c with st := .held })) (fun p => { p with present := true, busy := some .copy, stage := 3 }), 0, 0, 0,
       by decide +kernel⟩,
   ⟨wPart (wChan wGuard (fun c => { c with st := .held })) (fun p => { p with present := true, busy := some .copy, stage := 3 }), 0, 0, 0,
       by decide +kernel⟩,
   ⟨(wPart { wGuard with crypt.root := some 1 } (fun p => { p with present := true, unit := 4096 })).setCfg (fch 0 0xDC) 0x00050000#32, 0,
       0, 9, by decide +kernel⟩,
   ⟨(wPart { wGuard with crypt.root := some 1 } (fun p => { p with present := true, unit := 4096, refresh := some (1, 9, 1) })).setCfg (fch 0 0xDC) 0x00050000#32, 0, 0, 1, 9, by decide +kernel⟩,
   ⟨(wPart { wGuard with crypt.root := some 1 } (fun p => { p with present := true, unit := 4096, refresh := some (1, 9, 2) })).setCfg (fch 0 0xDC) 0x00050000#32, 0, 0, 1, 9, by decide +kernel⟩,
   ⟨wGuard, by decide +kernel⟩,
   ⟨{ wGuard with crypt.root := some 1, vault.intents := List.replicate 3113 (wIntent 2 0) }, by decide +kernel⟩,
   ⟨{ wGuard with crypt.root := some 1, vault.compact := some (true, 1, 3) }, true, 1, 3, by decide +kernel⟩,
   ⟨{ wGuard with crypt.root := some 1, vault.compact := some (false, 2, 3), vault.intents := [wIntent 2 0, wIntent 8 0] }, 2, 3,
       by decide +kernel⟩,
   ⟨{ wGuard with crypt.root := some 1, crypt.sealGen := 1, vault.compact := some (true, 2, 3) }, 2, 3, by decide +kernel⟩,
   ⟨{ wMode .recover with plat.cause := 0x16, vault.intents := [wIntent 2 0] }, wTrain 0, (sclkSteps 0 200).getD 0 0, wIntent 2 0,
       by decide +kernel⟩⟩

/-- A state and operands that meet the hypotheses of each clause of RegisterReads. -/
theorem wit_RegisterReads :
  (∃ (s : State) (q : Req), s.reaches_ q = true) ∧
  (∃ (s : State) (q : Req), s.reaches_ q = true) ∧
  (∃ (s : State) (q : Req), s.reaches_ q = true) ∧
  (∃ (s : State) (q : Req), s.reaches_ q = true) ∧
  (∃ (s : State) (q : Req), s.reaches_ q = true ∧ (s.view q).latch = []) ∧
  (∃ (s : State) (q : Req), s.reaches_ q = true) ∧
  (∃ (s : State) (q : Req) (w : Word), s.reaches_ q = true ∧ stagedGet? (s.view q).latch 0x70C = some w) ∧
  (∃ (s : State), s.reaches_ .host = true ∧ bit (s.cfg 0x700) 31 = true) ∧
  (∃ (s : State), s.reaches_ .host = true ∧ bit (s.cfg 0x700) 31 = false ∧ bit (s.sticky 0x704) 0 = false) ∧
  (∃ (s : State) (q : Req), s.reaches_ q = true) ∧
  (∃ (s : State) (q : Req), s.reaches_ q = true) ∧
  (∃ (s : State) (q : Req), s.reaches_ q = true) ∧
  (∃ (s : State) (q : Req), s.reaches_ q = true) ∧
  (∃ (s : State) (q : Req), s.reaches_ q = true) ∧
  (∃ (s : State) (q : Req), s.reaches_ q = true) ∧
  (∃ (s : State) (q : Req), s.reaches_ q = true) ∧
  (∃ (s : State) (q : Req), s.reaches_ q = true) ∧
  (∃ (s : State) (q : Req), s.reaches_ q = true) ∧
  (∃ (s : State) (q : Req), s.reaches_ q = true) ∧
  (∃ (s : State) (q : Req) (v : BitVec 64), s.reaches_ q = true ∧ v = s.vctr (fld (s.ownReg q 0x30) 3 0)) ∧
  (∃ (s : State) (q : Req), s.reaches_ q = true ∧ 119 < fld (s.ownReg q 0x2C08) 6 0) ∧
  (∃ (s : State) (q : Req), s.reaches_ q = true ∧ fld (s.ownReg q 0x2C08) 6 0 ≤ 119) ∧
  (∃ (s : State) (q : Req), s.reaches_ q = true) ∧
  (∃ (s : State) (q : Req) (off : Nat), s.reaches_ q = true ∧ q ≠ .host ∧ ((off % 4 ≠ 0 ∨ 0x10000 ≤ off))) ∧
  (∃ (s : State) (off : Nat), s.reaches_ .host = true ∧ ((off % 4 ≠ 0 ∨ 0x10000 ≤ off))) :=
  ⟨⟨wGuard, .int, by decide +kernel⟩,
   ⟨wGuard, .side, by decide +kernel⟩,
   ⟨wGuard, .int, by decide +kernel⟩,
   ⟨wGuard, .int, by decide +kernel⟩,
   ⟨wGuard, .int, by decide +kernel⟩,
   ⟨wGuard, .int, by decide +kernel⟩,
   ⟨{ wGuard with regs.int.latch := [(0x70C, 7#32)] }, .int, 7#32, by decide +kernel⟩,
   ⟨wLink.setCfg 0x700 0x80000000#32, by decide +kernel⟩,
   ⟨wLink, by decide +kernel⟩,
   ⟨wGuard, .int, by decide +kernel⟩,
   ⟨wGuard, .int, by decide +kernel⟩,
   ⟨wGuard, .int, by decide +kernel⟩,
   ⟨wGuard, .int, by decide +kernel⟩,
   ⟨wGuard, .int, by decide +kernel⟩,
   ⟨wGuard, .int, by decide +kernel⟩,
   ⟨wGuard, .int, by decide +kernel⟩,
   ⟨wGuard, .int, by decide +kernel⟩,
   ⟨wGuard, .int, by decide +kernel⟩,
   ⟨wGuard, .int, by decide +kernel⟩,
   ⟨wGuard, .int, 0#64, by decide +kernel⟩,
   ⟨wGuard.setOwn .int 0x2C08 120#32, .int, by decide +kernel⟩,
   ⟨wGuard.setOwn .int 0x2C08 119#32, .int, by decide +kernel⟩,
   ⟨wGuard, .int, by decide +kernel⟩,
   ⟨wGuard, .int, 0x10000, by decide +kernel⟩,
   ⟨wLink, 0xFFFE, by decide +kernel⟩⟩

/-- A state and operands that meet the hypotheses of each clause of RegisterWrites. -/
theorem wit_RegisterWrites :
  (∃ (s : State) (q : Req), s.reaches_ q = true) ∧
  (∃ (s : State) (q : Req), s.reaches_ q = true ∧ storeWf zeroDefault s.regs.sticky = true) ∧
  (∃ (s : State) (q : Req), s.reaches_ q = true) ∧
  (∃ (s : State) (q : Req) (lo : Word), s.reaches_ q = true ∧ (s.view q).wlatch = some (0x51C, lo)) ∧
  (∃ (s : State) (q : Req), s.reaches_ q = true ∧ q ≠ .int ∧ bit (s.cfg (routeKey (fld (s.ownReg q 0x400) 9 0))) 31 = true) ∧
  (∃ (s : State), s.reaches_ .int = true) ∧
  (∃ (s : State) (q : Req) (lo : Word) (c : Nat), s.reaches_ q = true ∧ (s.view q).wlatch = some (0x70C, lo) ∧
      c = fld (s.ownReg q 0x708) 8 0 ∧ counterOk c = true) ∧
  (∃ (s : State) (n : Ch) (k : Nat), s.reaches_ .int = true ∧ k = opKey n.val (fld (s.ownReg .int (fch n 0x38)) 7 0)) ∧
  (∃ (s : State) (n : Ch) (j : Fin 3) (k : Nat), s.reaches_ .int = true ∧ k = stKey n.val (fld (s.ownReg .int (fch n 0x80)) 5 0) j.val) ∧
  (∃ (s : State) (n : Ch) (j : Fin 3) (k : Nat), s.reaches_ .int = true ∧ k = rgKey n.val (fld (s.ownReg .int (fch n 0x90)) 6 0) j.val) ∧
  (∃ (s : State) (k : Nat), s.reaches_ .int = true ∧ k = seqKey (fld (s.ownReg .int 0x2F8) 7 0)) ∧
  (∃ (s : State) (q : Req), s.reaches_ q = true ∧ q ≠ .int) ∧
  (∃ (s : State) (q : Req) (a : Fin 2) (v : Word), s.reaches_ q = true ∧ s.aux.ports[a].busy = false ∧ v ≠ 0#32) ∧
  (∃ (s : State) (q : Req) (a : Fin 2), s.reaches_ q = true ∧ s.aux.ports[a].busy = true) :=
  ⟨⟨wGuard, .int, by decide +kernel⟩,
   ⟨{ wGuard with regs.sticky := [(0x704, 1#32)] }, .int, by decide +kernel⟩,
   ⟨wGuard, .int, by decide +kernel⟩,
   ⟨{ wGuard with regs.int.wlatch := some (0x51C, 9#32) }, .int, 9#32, by decide +kernel⟩,
   ⟨wGuard.setCfg (routeKey 0) 0xC0000000#32, .side, by decide +kernel⟩,
   ⟨wGuard, by decide +kernel⟩,
   ⟨{ wGuard with regs.int.wlatch := some (0x70C, 9#32), cntr.ovf := [0] }, .int, 9#32, 0, by decide +kernel⟩,
   ⟨wGuard, 7, opKey 7 0, by decide +kernel⟩,
   ⟨wGuard, 7, 2, stKey 7 0 2, by decide +kernel⟩,
   ⟨wGuard, 7, 2, rgKey 7 0 2, by decide +kernel⟩,
   ⟨wGuard, seqKey 0, by decide +kernel⟩,
   ⟨wGuard, .side, by decide +kernel⟩,
   ⟨wGuard, .side, 1, 5#32, by decide +kernel⟩,
   ⟨{ wGuard with aux.ports := wGuard.aux.ports.set 1 { startAuxPort with busy := true } }, .side, 1, by decide +kernel⟩⟩

/-- A state and operands that meet the hypotheses of each clause of Commits. -/
theorem wit_Commits :
  (∃ (s : State) (q : Req) (mask : Word), s.reaches_ q = true ∧ s.commitBusy q = false ∧ s.commitWaiting q = false ∧ s.regs.cur = none ∧
      mask ≠ 0#32 ∧ fld (s.ownReg q 0x108) 15 0 ≠ 0 ∧ s.badGroups q mask = 0#32) ∧
  (∃ (s : State) (q : Req) (mask : Word), s.reaches_ q = true ∧ s.commitBusy q = false ∧ s.commitWaiting q = false ∧ s.regs.cur = none ∧
      mask ≠ 0#32 ∧ fld (s.ownReg q 0x108) 15 0 ≠ 0 ∧ s.badGroups q mask ≠ 0#32) ∧
  (∃ (s : State) (q : Req), s.reaches_ q = true ∧ ((s.commitBusy q = true ∨ s.commitWaiting q = true))) ∧
  (∃ (s : State) (q : Req), s.reaches_ q = true ∧ s.commitBusy q = false ∧ s.commitWaiting q = false) ∧
  (∃ (s : State) (q : Req) (mask : Word), s.reaches_ q = true ∧ s.commitBusy q = false ∧ s.commitWaiting q = false ∧ s.regs.cur ≠ none ∧
      mask ≠ 0#32 ∧ fld (s.ownReg q 0x108) 15 0 ≠ 0) ∧
  (∃ (s : State) (q : Req) (mask : Word) (k : Nat) (g : Nat) (v : Word), s.powered = true ∧ s.regs.cur = some (q, mask) ∧
      s.regs.waiting = [] ∧ s.waitingGroups q mask = 0#32 ∧ q ≠ .int ∧ (s.view q).staged = [(k, v)] ∧ groupOf k = some g ∧ 21 < g ∧
      k < 0x60000 ∧ mask.getLsbD g = true ∧ ((∀ n : Ch, s.actPending n = false)) ∧ storeWf regReset s.regs.active = true) ∧
  (∃ (s : State) (q : Req) (mask : Word), s.powered = true ∧ s.regs.cur = some (q, mask) ∧ s.regs.waiting = [] ∧ q ≠ .int ∧
      s.waitingGroups q mask ≠ 0#32 ∧ ((∀ n : Ch, s.actPending n = false))) ∧
  (∃ (s : State) (q : Req), s.reaches_ q = true ∧ s.regs.cur = none ∧ s.regs.waiting = []) :=
  ⟨⟨(wGuard.setOwn .int 0x108 100#32).setView .int { wGuard.regs.int with own := [(0x108, 100#32)], staged := [(0x2C00, 500#32)] }, .int,
      0x10000000#32, by decide +kernel⟩,
   ⟨(wGuard.setView .int { wGuard.regs.int with own := [(0x108, 100#32)], staged := [(0x680, 0x80000000#32)] }), .int, 0x00080000#32,
       by decide +kernel⟩,
   ⟨{ wGuard with regs.cur := some (.side, 1#32) }, .side, by decide +kernel⟩,
   ⟨wGuard, .side, by decide +kernel⟩,
   ⟨{ wGuard with regs.cur := some (.int, 1#32), regs.side.own := [(0x108, 100#32)] }, .side, 2#32, by decide +kernel⟩,
   ⟨{ wGuard with regs.cur := some (.side, 0x10000000#32), regs.side.staged := [(0x2C00, 500#32)], tlm.period := 0 }, .side,
       0x10000000#32, 0x2C00, 28, 500#32, by decide +kernel⟩,
   ⟨{ wGuard with regs.cur := some (.side, 0x10000000#32), regs.side.staged := [(0x2C00, 500#32)] }, .side, 0x10000000#32,
       by decide +kernel⟩,
   ⟨{ wGuard with regs.side.staged := [(0x2C00, 500#32)] }, .side, by decide +kernel⟩⟩

/-- A state and operands that meet the hypotheses of each clause of LedgerAndBanks. -/
theorem wit_LedgerAndBanks :
  (∃ (s : State), s.powered = true ∧ s.plat.mode ≠ .recover) ∧
  (∃ (s : State), s.plat.mode = .recover) ∧
  (∃ (s : State), ((s.plat.mode = .verify ∨ s.plat.mode = .guard))) ∧
  (∃ (s : State) (p : Nat), s.powered = true ∧ s.cellar.lost = [] ∧ s.cellar.copying = none ∧ s.cellar.idle = some p) ∧
  (∃ (s : State) (b : Nat) (p : Nat), s.powered = true ∧ s.cellar.copying = some b ∧ s.cellar.idle = some p) ∧
  (∃ (s : State) (p : Nat) (b : Nat) (r : List Nat), s.cellar.idle = some p ∧ s.plat.mode = .verify ∧ s.cellar.copying = none ∧
      s.cellar.testDone = false ∧ s.cellar.testing = true ∧ s.cellar.toTest = b :: r) ∧
  (∃ (s : State) (p : Nat), s.cellar.idle = some p ∧ s.plat.mode = .guard ∧ s.cellar.copying = none ∧ s.cellar.testDone = false) :=
  ⟨⟨wGuard, by decide +kernel⟩,
   ⟨wMode .recover, by decide +kernel⟩,
   ⟨wMode .verify, by decide +kernel⟩,
   ⟨wGuard, 16, by decide +kernel⟩,
   ⟨{ wGuard with cellar.copying := some 3 }, 3, 16, by decide +kernel⟩,
   ⟨{ wMode .verify with cellar.testing := true, cellar.toTest := [0, 1] }, 16, 0, [1], by decide +kernel⟩,
   ⟨wGuard, 16, by decide +kernel⟩⟩

/-- A state and operands that meet the hypotheses of each clause of StartUp. -/
theorem wit_StartUp :
  (∃ (s : State), s.plat.mode = .shelf) ∧
  (∃ (s : State), s.powered = true) ∧
  (∃ (s : State), s.plat.mode = .shelf) ∧
  (∃ (s : State), s.plat.mode = .hold ∧ s.plat.boot.pll = false ∧ s.keeper.wdCount + s.keeper.wdInv = 255 ∧ s.plat.cause ≠ 1 ∧
      s.keeper.tlHolding = false ∧ s.lifeCode = 2 ∧ s.life.moved = false ∧ s.identOk = true ∧ s.lockdownStays = false) ∧
  (∃ (s : State), s.plat.mode = .hold ∧ s.plat.boot.pll = false ∧ s.keeper.wdCount + s.keeper.wdInv = 255 ∧ s.plat.cause ≠ 1 ∧
      s.keeper.tlHolding = false ∧ s.lifeCode = 7 ∧ s.life.otp.wEol ≠ patEol) ∧
  (∃ (s : State), s.starting = true ∧ s.plat.boot.pll = true ∧ s.plat.boot.vault = false) ∧
  (∃ (s : State) (f : PartFound) (d : Sfdp) (busMode : Nat) (hz : Nat) (hdrA : Option VaultHeader) (hdrB : Option VaultHeader) (h : VaultHeader), s.starting = true ∧ s.plat.boot.pll = true ∧ s.plat.boot.vault = false ∧ s.vault.parts[0].failed = false ∧ f.sfdp = some d ∧ trainedSclk f.train (sclkSteps (if busMode % 3 = 2 then 9 else 0) 200) = some hz ∧ f.stuck = false ∧ 26 ≤ d.sizeLog ∧ headerOf hdrA hdrB = some h) ∧
  (∃ (s : State), s.rootStep = true ∧ s.crypt.attempts = 0 ∧ s.rootWithheld = true ∧ s.keeper.dbgLatch = false) ∧
  (∃ (s : State) (d : PufDecode) (src : Nat) (eS : Nat) (eD : Nat) (h : Helper), s.rootStep = true ∧ s.crypt.attempts = 0 ∧
      s.rootWithheld = false ∧ s.lifeCode ≠ 1 ∧ s.rootWinner d = some (src, h, eS, eD)) ∧
  (∃ (s : State) (d : PufDecode), s.rootStep = true ∧ s.crypt.attempts = 1 ∧ s.rootWinner d = none) ∧
  (∃ (s : State) (d : PufDecode), s.rootStep = true ∧ s.crypt.attempts = 2 ∧ s.rootWinner d = none) ∧
  (∃ (s : State), s.starting = true ∧ s.plat.boot.pll = true ∧ s.plat.boot.selfTest = false) ∧
  (∃ (s : State) (p : Package), s.starting = true ∧ s.plat.boot.vault = true ∧ s.plat.boot.root = true ∧ s.plat.boot.selfTest = true ∧
      s.plat.boot.firmware = false ∧ s.keeper.wdCount = 0 ∧ s.ident.fwesc = 3 ∧ s.ident.preferred = 0 ∧ (s.ident.fw 0).pkg = some p ∧
      (s.ident.fw 0).confirmed = true ∧ s.fwVerifies 0 true = true) ∧
  (∃ (s : State), s.plat.mode = .hold ∧ s.plat.boot.vault = true ∧ s.plat.boot.root = true ∧ s.plat.boot.selfTest = true ∧
      s.plat.boot.firmware = false ∧ s.ident.fwesc = 3 ∧ 6 ≤ s.keeper.wdCount) ∧
  (∃ (s : State) (n : Ch), s.powered = true ∧ s.plat.mode = .hold ∧ s.plat.fwRuns = true ∧ s.policyApplied = true ∧ s.enabled n = true ∧
      s.plat.boot.brought = [] ∧ fld (s.cfg (fch n 0xC8)) 5 0 ≠ 0) ∧
  (∃ (s : State) (n : Ch) (p0 : Option PartFound) (p1 : Option PartFound), s.powered = true ∧ s.plat.mode ≠ .lockdown ∧
      s.plat.fwRuns = true ∧ s.policyApplied = true ∧ s.enabled n = true ∧ s.plat.boot.brought.contains n.val = false ∧
      (s.bringPart n 0 p0).2 = true ∧ ((s.bringPart n 0 p0).1.bringPart n 1 p1).2 = true ∧ s.crypt.pkuNext < 2 ∧ ((∀ k,
      s.slotEnabled n k = false))) ∧
  (∃ (s : State) (n : Ch) (p0 : Option PartFound) (p1 : Option PartFound), s.powered = true ∧ s.plat.mode ≠ .lockdown ∧
      s.plat.fwRuns = true ∧ s.policyApplied = true ∧ s.enabled n = true ∧ s.plat.boot.brought.contains n.val = false ∧
      (s.bringPart n 0 p0).2 = true ∧ ((s.bringPart n 0 p0).1.bringPart n 1 p1).2 = true ∧ s.crypt.pkuNext < 2) ∧
  (∃ (s : State) (i : Intent), s.powered = true ∧ s.plat.mode = .hold ∧ s.plat.fwRuns = true ∧ s.journalKey ≠ none ∧ s.crypt.root ≠ none ∧
      s.vault.intents = [i] ∧ i.kind = 4 ∧ i.chan < 8 ∧ i.state = 0 ∧ i.macOk = true) :=
  ⟨⟨{ State.reset with plat.mode := .shelf }, by decide +kernel⟩,
   ⟨wGuard, by decide +kernel⟩,
   ⟨{ State.reset with plat.mode := .shelf }, by decide +kernel⟩,
   ⟨{ State.reset with keeper.wdInv := 255 }, by decide +kernel⟩,
   ⟨{ State.reset with keeper.wdInv := 255, life.otp := { shippedOtp with wProd := 0x0C96#16 } }, by decide +kernel⟩,
   ⟨{ State.reset with plat.boot.pll := true }, by decide +kernel⟩,
   ⟨{ State.reset with plat.boot.pll := true }, wPartF, wSfdp, 2, (sclkSteps 9 200).getD 0 0, some ⟨1, []⟩, some ⟨2, []⟩, ⟨2, []⟩,
       by decide +kernel⟩,
   ⟨{ State.reset with plat.boot.pll := true, plat.boot.vault := true, life.otp := { shippedOtp with fuses := 1#8 } }, by decide +kernel⟩,
   ⟨{ State.reset with plat.boot.pll := true, plat.boot.vault := true, life.otp := { shippedOtp with helpers := [some wHelper, none, none] } }, { wPuf with otp0 := some (3, 4) }, 1, 3, 4, wHelper, by decide +kernel⟩,
   ⟨{ State.reset with plat.boot.pll := true, plat.boot.vault := true, crypt.attempts := 1 }, wPuf, by decide +kernel⟩,
   ⟨{ State.reset with plat.boot.pll := true, plat.boot.vault := true, crypt.attempts := 2 }, wPuf, by decide +kernel⟩,
   ⟨{ State.reset with plat.boot.pll := true }, by decide +kernel⟩,
   ⟨{ wStarted with ident.fwA := wFw }, wPkg, by decide +kernel⟩,
   ⟨{ wStarted with keeper.wdCount := 6 }, by decide +kernel⟩,
   ⟨{ wMap 3 (State.reset.setCfg (fch 0 0xC8) 20#32) with plat.fwRuns := true, ident.applied := some wApplied }, 0, by decide +kernel⟩,
   ⟨{ wMap 3 (State.reset.setCfg (fch 0 0xC8) 0x00C8001A#32) with plat.fwRuns := true, ident.applied := some wApplied }, 0, some wPartF,
       none, by decide +kernel⟩,
   ⟨{ wMap 3 (State.reset.setCfg (fch 0 0xC8) 0x00C8001A#32) with plat.fwRuns := true, ident.applied := some wApplied }, 0, some wPartF,
       none, by decide +kernel⟩,
   ⟨{ wKeyed with plat.mode := .hold, vault.intents := [wIntent 4 0] }, wIntent 4 0, by decide +kernel⟩⟩

/-- A state and operands that meet the hypotheses of each clause of Modes. -/
theorem wit_Modes :
  (∃ (s : State), s.exitReady = true) ∧
  (∃ (s : State), s.plat.mode = .verify ∧ s.plat.fwRuns = true ∧ ((∀ n, s.enabled n = true → (s.chan n).st = .released))) ∧
  (∃ (s : State), s.plat.mode = .guard ∧ s.plat.fwRuns = true) ∧
  (∃ (s : State), s.plat.mode = .recover ∧ s.plat.fwRuns = true ∧ s.plat.cause = 0x16 ∧ s.restoreReady = true) ∧
  (∃ (s : State), ((s.plat.mode = .verify ∨ s.plat.mode = .guard)) ∧ s.plat.fwRuns = true ∧ s.ident.hand = none) ∧
  (∃ (s : State), s.powered = true) ∧
  (∃ (s : State), s.powered = true) :=
  ⟨⟨{ State.reset with ident.applied := some wApplied, plat.fwRuns := true }, by decide +kernel⟩,
   ⟨wMode .verify, by decide +kernel⟩,
   ⟨wGuard, by decide +kernel⟩,
   ⟨{ wMode .recover with plat.cause := 0x16 }, by decide +kernel⟩,
   ⟨wGuard, by decide +kernel⟩,
   ⟨wGuard, by decide +kernel⟩,
   ⟨wGuard, by decide +kernel⟩⟩

/-- A state and operands that meet the hypotheses of each clause of SequencerAndPins. -/
theorem wit_SequencerAndPins :
  (∃ (s : State) (k : Nat) (b : Bool), k < 24 ∧ s.pinDrive k = some b) ∧
  (∃ (s : State) (k : Nat) (b : Bool), s.powered = true ∧ k < 16 ∧ bit s.ctl.pcIn k ≠ b) ∧
  (∃ (s : State), s.powered = true ∧ s.plat.haltN = true ∧ ((∀ n, (s.chan n).st ≠ .released)) ∧ ((∀ n k,
      ((s.chan n).slot k).upd ≠ .confirming))) ∧
  (∃ (s : State), s.powered = true ∧ s.plat.haltN = false ∧ bit (s.cfg 0x2E8) 3 = false) ∧
  (∃ (s : State), s.powered = true ∧ s.plat.haltN = false ∧ bit (s.cfg 0x2E8) 3 = true) ∧
  (∃ (s : State) (p : Prog) (w : Word), s.seqOp = some (p, w) ∧ fld w 31 28 = 0 ∧ p.sub = none) ∧
  (∃ (s : State) (p : Prog) (w : Word), s.seqOp = some (p, w) ∧ fld w 31 28 = 1 ∧ fld w 27 23 < 24 ∧ ((∀ n : Ch,
      ¬((s.agt n).pwrOff = true ∧ bit (s.agtCfg n) 7 = true ∧ s.pwrenOf n = some (fld w 27 23))))) ∧
  (∃ (s : State) (p : Prog) (w : Word) (n : Ch), s.seqOp = some (p, w) ∧ fld w 31 28 = 1 ∧ bit w 22 = true ∧
      allCh.find? (fun m => (s.agt m).pwrOff && bit (s.agtCfg m) 7 && decide (s.pwrenOf m = some (fld w 27 23))) = some n ∧
      p.sub ≠ some n.val) ∧
  (∃ (s : State) (p : Prog) (w : Word), s.seqOp = some (p, w) ∧ fld w 31 28 = 2 ∧ fld w 15 0 ≠ 0 ∧ s.inAsserted (fld w 27 24) ≠ bit w 23) ∧
  (∃ (s : State) (p : Prog) (w : Word), s.seqOp = some (p, w) ∧ fld w 31 28 = 2 ∧ s.inAsserted (fld w 27 24) = bit w 23) ∧
  (∃ (s : State) (p : Prog) (w : Word), s.seqOp = some (p, w) ∧ fld w 31 28 = 3 ∧ fld w 19 0 ≠ 0) ∧
  (∃ (s : State) (p : Prog), s.powered = true ∧ s.ctl.prog = some p ∧ p.wait = .delay) ∧
  (∃ (s : State) (p : Prog) (w : Word) (n : Ch), s.seqOp = some (p, w) ∧ fld w 31 28 = 4 ∧ fld w 7 0 = 2 ^ n.val ∧ fld w 19 8 ≠ 0 ∧
      (s.chan n).st = .held ∧ s.eligible n = false) ∧
  (∃ (s : State) (p : Prog) (w : Word), s.seqOp = some (p, w) ∧ fld w 31 28 = 4 ∧ fld w 7 0 = 0) ∧
  (∃ (s : State) (p : Prog) (w : Word) (n : Ch), s.seqOp = some (p, w) ∧ fld w 31 28 = 5 ∧ fld w 2 0 = n.val ∧ fld w 19 8 ≠ 0 ∧
      (s.agt n).hbSeen = false) ∧
  (∃ (s : State) (p : Prog) (w : Word) (n : Ch), s.seqOp = some (p, w) ∧ fld w 31 28 = 5 ∧ fld w 2 0 = n.val ∧ (s.agt n).hbSeen = true) ∧
  (∃ (s : State) (p : Prog), s.powered = true ∧ s.ctl.prog = some p ∧ p.wait = .input ∧
      s.inAsserted (fld (s.seqWord p.pc) 27 24) = bit (s.seqWord p.pc) 23) ∧
  (∃ (s : State) (p : Prog), s.powered = true ∧ s.ctl.prog = some p ∧ p.wait = .input ∧ p.sub = none ∧ fld (s.seqWord p.pc) 31 28 = 2 ∧
      fld (s.seqWord p.pc) 22 21 = 1) ∧
  (∃ (s : State) (p : Prog), s.powered = true ∧ s.ctl.prog = some p ∧ p.wait = .input ∧ fld (s.seqWord p.pc) 31 28 = 2 ∧
      fld (s.seqWord p.pc) 22 21 = 0) ∧
  (∃ (s : State) (n : Ch) (r : List Nat), s.powered = true ∧ s.plat.mode ≠ .lockdown ∧ s.ctl.mainOver = true ∧ s.ctl.prog = none ∧
      s.ctl.requests = n.val :: r ∧ (s.chan n).st = .held) ∧
  (∃ (s : State) (n : Ch), s.powered = true ∧ (s.agt n).stepReached = true ∧ s.subEntry n = 0xFF ∧ s.inRelease n = false ∧
      s.eligible n = true) :=
  ⟨⟨{ wGuard.setCfg 0x240 0x81#32 with ctl.driven := true }, 0, false, by decide +kernel⟩,
   ⟨wGuard, 15, true, by decide +kernel⟩,
   ⟨wGuard, by decide +kernel⟩,
   ⟨{ wGuard with plat.haltN := false }, by decide +kernel⟩,
   ⟨{ wGuard.setCfg 0x2E8 8#32 with plat.haltN := false }, by decide +kernel⟩,
   ⟨wProg 0#32 .ready wGuard, wProg0 .ready, 0#32, by decide +kernel⟩,
   ⟨wProg 0x1BC00000#32 .ready wGuard, wProg0 .ready, 0x1BC00000#32, by decide +kernel⟩,
   ⟨((wProg 0x1BC00000#32 .ready wGuard).setCfg (0x240 + 4 * 23) 0x2#32 |>.setCfg 0x300 0x80#32).updAgt 0 (fun a => { a with pwrOff := true }), wProg0 .ready, 0x1BC00000#32, 0, by decide +kernel⟩,
   ⟨wProg 0x2F800005#32 .ready (wGuard.setCfg (0x2A0 + 60) 0x80#32), wProg0 .ready, 0x2F800005#32, by decide +kernel⟩,
   ⟨wProg 0x20000005#32 .ready (wGuard.setCfg 0x2A0 0x80#32), wProg0 .ready, 0x20000005#32, by decide +kernel⟩,
   ⟨wProg 0x30000005#32 .ready wGuard, wProg0 .ready, 0x30000005#32, by decide +kernel⟩,
   ⟨wProg 0x30000005#32 .delay wGuard, wProg0 .delay, by decide +kernel⟩,
   ⟨wProg 0x40000580#32 .ready (wGuard.updChan 7 (fun c => { c with st := .held })), wProg0 .ready, 0x40000580#32, 7, by decide +kernel⟩,
   ⟨wProg 0x40000500#32 .ready wGuard, wProg0 .ready, 0x40000500#32, by decide +kernel⟩,
   ⟨wProg 0x50000507#32 .ready wGuard, wProg0 .ready, 0x50000507#32, 7, by decide +kernel⟩,
   ⟨wProg 0x50000500#32 .ready (wGuard.updAgt 0 (fun a => { a with hbSeen := true })), wProg0 .ready, 0x50000500#32, 0, by decide +kernel⟩,
   ⟨wProg 0x20000005#32 .input (wGuard.setCfg 0x2A0 0x80#32), wProg0 .input, by decide +kernel⟩,
   ⟨wProg 0x20200005#32 .input wGuard, wProg0 .input, by decide +kernel⟩,
   ⟨wProg 0x20000005#32 .input wGuard, wProg0 .input, by decide +kernel⟩,
   ⟨{ wChan wGuard (fun c => { c with st := .held }) with ctl.mainOver := true, ctl.requests := [0, 3] }, 0, [3], by decide +kernel⟩,
   ⟨((wChan wGuard (fun c => { c with st := .decanting })).updAgt 0 (fun a => { a with stepReached := true })).setCfg 0x2F0 0xFF#32, 0,
       by decide +kernel⟩⟩

/-- A state and operands that meet the hypotheses of each clause of UrgentAndWatchdogs. -/
theorem wit_UrgentAndWatchdogs :
  (∃ (s : State) (side : Bool) (n : Ch) (seq : Nat), s.powered = true ∧ s.urgentOk side 1 (2 ^ n.val) seq = true ∧
      (s.chan n).st ≠ .released ∧ ((∀ k, ((s.chan n).slot k).upd ≠ .confirming))) ∧
  (∃ (s : State) (side : Bool) (n : Ch) (seq : Nat), s.powered = true ∧ s.urgentOk side 1 (2 ^ n.val) seq = true ∧
      (s.chan n).st = .released) ∧
  (∃ (s : State) (side : Bool) (n : Ch) (seq : Nat), s.powered = true ∧ s.urgentOk side 2 (2 ^ n.val) seq = true ∧
      s.stopWins side n = false ∧ s.plat.haltN = true) ∧
  (∃ (s : State) (seq : Nat), s.powered = true ∧ s.urgentOk true 3 0 seq = true) ∧
  (∃ (s : State) (side : Bool) (mask : Nat) (seq : Nat), s.powered = true ∧ s.urgentOk side 1 (mask % 256) seq = false) ∧
  (∃ (s : State), s.powered = true) ∧
  (∃ (s : State) (n : Ch), s.powered = true ∧ fld (s.cfg (0x300 + 4 * n.val)) 15 8 ≠ 0) ∧
  (∃ (s : State) (n : Ch), s.powered = true ∧ s.wdInWin n = true ∧ bit (s.awin n) 30 = true) ∧
  (∃ (s : State) (n : Ch), s.powered = true ∧ s.wdRunning n = true ∧ (s.agt n).warn = false) ∧
  (∃ (s : State) (n : Ch), s.powered = true ∧ s.wdRunning n = true ∧ (s.agt n).warn = true ∧ (s.agt n).wdrst < 255 ∧
      fld (s.cfg (0x300 + 4 * n.val)) 27 24 = 0) :=
  ⟨⟨wGuard.setCfg 0x2E8 0xFF#32, false, 7, 1, by decide +kernel⟩,
   ⟨wRel.setCfg 0x2E8 0xFF#32, true, 0, 0x7FFF, by decide +kernel⟩,
   ⟨(wGuard.updAgt 3 (fun a => { a with stop := true })).setCfg 0x2E8 0xFF#32, true, 3, 1, by decide +kernel⟩,
   ⟨wGuard.setCfg 0x2E8 0x1FF#32, 1, by decide +kernel⟩,
   ⟨wGuard.setCfg 0x2E8 0xFF#32, true, 1, 0x8000, by decide +kernel⟩,
   ⟨wGuard, by decide +kernel⟩,
   ⟨wGuard.setCfg 0x31C 0x100#32, 7, by decide +kernel⟩,
   ⟨wWd wRel, 0, by decide +kernel⟩,
   ⟨wWd wRel, 0, by decide +kernel⟩,
   ⟨(wWd (wRel.updAgt 0 (fun a => { a with warn := true }))).setCfg 0x300 0#32, 0, by decide +kernel⟩⟩

/-- A state and operands that meet the hypotheses of each clause of TrellisWork. -/
theorem wit_TrellisWork :
  (∃ (s : State) (n : Ch) (p : PageId), s.powered = true ∧ s.portHeld n = false ∧ (s.chan n).st = .decanting ∧
      s.slotEnabled n p.slot = true ∧ s.policyOfPage n p = 0 ∧ s.decantTurn n p = true ∧ s.pathClear n p (s.actCopy n p.slot) = true ∧
      (s.pressRun (s.decantJob n p false false)).2 = true ∧ s.frameOf n p = none ∧ s.graftFor n p (s.actCopy n p.slot) = none ∧
      s.dataFree = true) ∧
  (∃ (s : State) (n : Ch) (p : PageId), s.powered = true ∧ s.portHeld n = false ∧ (s.chan n).st = .released ∧
      s.slotEnabled n p.slot = true ∧ s.policyOfPage n p = 1 ∧ s.decantTurn n p = true ∧ s.pathClear n p (s.actCopy n p.slot) = true ∧
      (s.pressRun (s.decantJob n p false true)).2 = true ∧ s.qmin n.val + 1024 ≤ s.evictableCount n.val) ∧
  (∃ (s : State) (n : Ch) (p : PageId) (d : Pend), s.powered = true ∧ s.liveVerdict n p = some d ∧ (s.pressRun (verdictJob n p)).2 = true) ∧
  (∃ (s : State) (n : Ch) (p : PageId) (d : Pend) (found : Found), s.powered = true ∧ s.liveVerdict n p = some d ∧
      (s.pressRun (verdictJob n p)).2 = true ∧ (s.chan n).st = .released ∧ found ≠ .pass) ∧
  (∃ (s : State) (n : Ch) (p : PageId) (d : Pend), s.powered = true ∧ s.liveVerdict n p = some d ∧ (s.chan n).st = .released) ∧
  (∃ (s : State) (n : Ch) (p : PageId) (d : Pend), s.powered = true ∧ (s.chan n).verdicts = [d] ∧ d.pg = p ∧ d.late = true ∧
      (s.pressRun (verdictJob n p)).2 = true) ∧
  (∃ (s : State) (j : Job) (e : Nat), s.powered = true ∧ s.nextJob = some j ∧ s.pickEngine = some e ∧ j.ch = none) ∧
  (∃ (s : State) (port : PortId) (n : Ch), s.powered = true ∧ port.val = n.val) ∧
  (∃ (s : State) (port : PortId) (n : Ch) (k : SlotId) (f : RackFind), port.val = n.val ∧ s.portHeld n = false ∧ s.rackAllowed n = true ∧
      (s.pressRun { cls := 6, ch := some n.val, tag := (s.chan n).cur.span, engine := 8 }).2 = true ∧ s.rackAhead n = none ∧
      (s.chan n).cur.slot = k.val ∧ (s.rackOrder n).contains (k.val, (s.chan n).cur.copy) = true ∧ f = ⟨[], [], [], []⟩ ∧
      (s.chan n).cur.metaPages = false ∧ 0 < (s.chan n).cur.span ∧ 64 * ((s.chan n).cur.span + 1) < imagePages (s.regions n) k) ∧
  (∃ (s : State) (n : Ch) (p : PageId) (copy : Nat) (c : Nat) (g : Graft) (h : Graft), s.powered = true ∧
      s.graftOf n p copy false = some g ∧ (s.chan n).grafts = [g] ∧ s.graftCand n g = some c ∧ s.copyHeld n c = false ∧
      (s.pressRun { cls := 4, ch := some n.val, tag := nodeTag p false, engine := 8 }).2 = true ∧
      h = { g with left := g.left.filter (fun x => x ≠ c) } ∧ s.candLeft n h ≠ []) ∧
  (∃ (s : State) (n : Ch) (p : PageId) (copy : Nat) (c : Nat) (g : Graft) (x : PartId × Nat), s.powered = true ∧
      s.graftOf n p copy false = some g ∧ (s.chan n).grafts = [g] ∧ s.graftCand n g = some c ∧ s.copyHeld n c = false ∧
      (s.pressRun { cls := 4, ch := some n.val, tag := nodeTag p false, engine := 8 }).2 = true ∧ g.served = false ∧
      (s.chan n).repairs = [] ∧ s.pagePlace n copy p.slot false p.page = some x) ∧
  (∃ (s : State) (n : Ch) (p : PageId) (c : Nat) (g : Graft), s.powered = true ∧ s.graftOf n p (s.actCopy n p.slot) false = some g ∧
      s.graftCand n g = some c ∧ s.copyHeld n c = false ∧
      (s.pressRun { cls := 4, ch := some n.val, tag := nodeTag p false, engine := 8 }).2 = true ∧ g.served = true ∧
      s.policyOfPage n p ≠ 2 ∧ s.graftHeld < s.graftMax) ∧
  (∃ (s : State) (n : Ch) (r : Repair), s.background = true ∧ s.copyHeld n r.copy = false ∧ (s.chan n).repairs = [r] ∧ r.step = 3 ∧
      s.repairAllowed n r = true ∧ s.crypt.root ≠ none) ∧
  (∃ (s : State) (n : Ch) (p : PageId) (r : Repair), s.background = true ∧ s.copyHeld n r.copy = false ∧ (s.chan n).repairs = [r] ∧
      r.step = 4 ∧ r.slot = p.slot ∧ r.pages = [p.page] ∧ r.copy = s.actCopy n p.slot) ∧
  (∃ (s : State) (n : Ch) (p : PageId), s.powered = true ∧ (s.chan n).st = .quarantined ∧ (s.chan n).autorel = some (p, true, true) ∧
      bit (s.cfg (fch n 0x100)) 4 = true ∧ s.spanClean n p = true ∧ s.mayDecant n = false) :=
  ⟨⟨{ (wMap 0 (wChan wGuard (fun c => { c with st := .decanting, decAt := 15 }))).setCfg (fch 0 0xB8) 0x80000000#32 with cellar.frames := [wNode] }, 0, ⟨0, 15⟩, by decide +kernel⟩,
   ⟨{ wSlot ((((wMap 1 wRel).setCfg (fch 0 0xB8) 0x80000000#32).setCfg 0x1104 0#32)) (fun z => { z with manA := some { wMan 1 16 with prefetch := [(15, 1)] } }) with cellar.frames := wNode :: List.replicate 1024 { no := 0, st := .resident, node := false, ch := 0, slot := 0, copy := 1, index := 0, anchor := false, graft := false, ref := false } }, 0, ⟨0, 15⟩, by decide +kernel⟩,
   ⟨wChan wRel (fun c => { c with verdicts := [wPend false] }), 0, ⟨0, 2⟩, wPend false, by decide +kernel⟩,
   ⟨wChan wRel (fun c => { c with verdicts := [wPend false] }), 0, ⟨0, 2⟩, wPend false, .leaf, by decide +kernel⟩,
   ⟨wChan wRel (fun c => { c with verdicts := [wPend false] }), 0, ⟨0, 2⟩, wPend false, by decide +kernel⟩,
   ⟨wChan wGuard (fun c => { c with verdicts := [wPend true] }), 0, ⟨0, 2⟩, wPend true, by decide +kernel⟩,
   ⟨{ wGuard with press.waiting := [{ cls := 5, ch := none, tag := 3, engine := 8 }] }, { cls := 5, ch := none, tag := 3, engine := 8 },
       0, by decide +kernel⟩,
   ⟨wGuard, 7, 7, by decide +kernel⟩,
   ⟨(((wMap 0 (wChan wGuard (fun c => { c with brought := true, cur := { c.cur with copy := 1, span := 1 } }))).setCfg (rgKey 0 0 1) 256#32).setCfg (fch 0 0xB8) 0x80000000#32), 0, 0, 0, ⟨[], [], [], []⟩, by decide +kernel⟩,
   ⟨{ wChan (wCopies wGuard) (fun c => { c with grafts := [{ wGraft with left := [3, 8] }] }) with vault.golden := [{ chan := 0, slot := 0, off := 0, len := 65536, part := 0, manOff := 0x10000, valid := true, man := none }] }, 0, ⟨0, 2⟩, 1, 3, { wGraft with left := [3, 8] }, { wGraft with left := [8] }, by decide +kernel⟩,
   ⟨wChan (wCopies wGuard) (fun c => { c with grafts := [{ wGraft with left := [3] }] }), 0, ⟨0, 2⟩, 1, 3, { wGraft with left := [3] },
       (0, 2), by decide +kernel⟩,
   ⟨(wChan (wCopies wGuard) (fun c => { c with grafts := [{ wGraft with left := [3], served := true }] })).setCfg 0x2210 0x800#32, 0, ⟨0,
       2⟩, 3, { wGraft with left := [3], served := true }, by decide +kernel⟩,
   ⟨{ wChan wGuard (fun c => { c with repairs := [wRepair 3] }) with crypt.root := some 1 }, 0, wRepair 3, by decide +kernel⟩,
   ⟨wChan wGuard (fun c => { c with repairs := [wRepair 4] }), 0, ⟨0, 2⟩, wRepair 4, by decide +kernel⟩,
   ⟨(wChan wGuard (fun c => { c with st := .quarantined, autorel := some (⟨0, 2⟩, true, true) })).setCfg (fch 0 0x100) 0x10#32, 0, ⟨0, 2⟩,
       by decide +kernel⟩⟩

/-- A state and operands that meet the hypotheses of each clause of HostLink. -/
theorem wit_HostLink :
  (∃ (s : State), s.powered = true ∧ s.plat.perstN = true) ∧
  (∃ (s : State), s.powered = true ∧ s.plat.perstN = false) ∧
  (∃ (s : State), s.powered = true ∧ s.host.linkUp = true) ∧
  (∃ (s : State), s.powered = true ∧ s.host.linkUp = true) ∧
  (∃ (s : State), s.powered = true ∧ s.host.linkUp = true) ∧
  (∃ (s : State) (x : Stream), s.powered = true ∧ s.host.linkUp = true ∧ x ∈ s.sealing.streams ∧ x.closing.isSome = true) ∧
  (∃ (s : State) (sp : Nat) (w : Nat), s.powered = true ∧ s.plat.perstN = true ∧ s.clk.refclkLost = false ∧ 1 ≤ sp ∧ sp ≤ 4 ∧
      ((w = 1 ∨ w = 2 ∨ w = 4))) ∧
  (∃ (s : State), s.powered = true ∧ s.plat.perstN = true ∧ s.host.linkUp = true ∧ s.plat.fwRuns = true ∧ s.host.flr = false) ∧
  (∃ (s : State), s.powered = true ∧ s.plat.perstN = true ∧ s.host.linkUp = true ∧ s.plat.fwRuns = true ∧ s.host.flr = false) ∧
  (∃ (s : State), s.powered = true ∧ s.plat.perstN = true ∧ s.host.linkUp = true ∧ s.plat.fwRuns = false ∧ s.plat.romsvc = false) ∧
  (∃ (s : State), s.powered = true ∧ s.host.linkUp = true ∧ s.host.bme = true) ∧
  (∃ (s : State), s.powered = true ∧ s.host.linkUp = true) ∧
  (∃ (s : State), s.powered = true ∧ s.plat.perstN = true ∧ s.host.linkUp = true ∧ s.plat.fwRuns = true ∧ s.host.flr = false) ∧
  (∃ (s : State) (off : Nat) (len : Nat), s.powered = true ∧ s.plat.perstN = true ∧ s.host.linkUp = true ∧
      ((len = 0 ∨ 8 < off % 8 + len))) ∧
  (∃ (s : State) (bar : Nat) (off : Nat) (len : Nat) (e : Bool), s.powered = true ∧ s.plat.perstN = true ∧ s.host.linkUp = true ∧
      ((bar = 4 ∨ (len ≠ 4 ∧ len ≠ 8) ∨ off % len ≠ 0 ∨ e = false))) ∧
  (∃ (s : State) (off : Nat), s.reaches_ .host = true ∧ off < 0x440 ∧ off % 4 = 0) ∧
  (∃ (s : State) (q : Nat), s.reaches_ .host = true ∧ q < 136 ∧ qWritten q = false) ∧
  (∃ (s : State) (v : Fin 64), s.reaches_ .host = true ∧ s.host.vecs[v].pending = true ∧ s.host.funcMask = false ∧ s.host.msixEn = true ∧
      s.busOk = true) ∧
  (∃ (s : State), s.reaches_ .host = true) :=
  ⟨⟨wLink, by decide +kernel⟩,
   ⟨{ wGuard with plat.perstN := false }, by decide +kernel⟩,
   ⟨wLink, by decide +kernel⟩,
   ⟨wLink, by decide +kernel⟩,
   ⟨wLink, by decide +kernel⟩,
   ⟨{ wStr [] none with sealing := { (wStr [] none).sealing with streams := [{ wStream [] none with closing := some (wFetched 0x31) }] } }, { wStream [] none with closing := some (wFetched 0x31) }, by decide +kernel⟩,
   ⟨wGuard, 4, 1, by decide +kernel⟩,
   ⟨wLink, by decide +kernel⟩,
   ⟨wLink, by decide +kernel⟩,
   ⟨{ wLinked State.reset with plat.fwRuns := false }, by decide +kernel⟩,
   ⟨wLink, by decide +kernel⟩,
   ⟨wLink, by decide +kernel⟩,
   ⟨wLink, by decide +kernel⟩,
   ⟨wLink, 4, 5, by decide +kernel⟩,
   ⟨wLink, 4, 8, 4, true, by decide +kernel⟩,
   ⟨wLink, 0x43C, by decide +kernel⟩,
   ⟨wLink, 134, by decide +kernel⟩,
   ⟨{ wLink with host.msixEn := true, host.vecs := wLink.host.vecs.set 63 { addr := 0, data := 0, masked := true, pending := true } }, 63,
       by decide +kernel⟩,
   ⟨wLink, by decide +kernel⟩⟩

/-- A state and operands that meet the hypotheses of each clause of HostQueues. -/
theorem wit_HostQueues :
  (∃ (s : State) (q : Nat) (i : Nat), s.reaches_ .host = true ∧ qSub q = true ∧ (s.queue q).st = .running ∧ i < 4096 ∧ i < s.qSize q ∧
      i ≠ (s.queue q).bell) ∧
  (∃ (s : State) (q : Nat) (i : Nat), s.reaches_ .host = true ∧ qSub q = true ∧ (s.queue q).st = .running ∧ i < 4096 ∧ s.qSize q ≤ i ∧
      i ≠ (s.queue q).bell) ∧
  (∃ (s : State) (q : Nat) (i : Nat), s.reaches_ .host = true ∧ qWritten q = true ∧ (s.queue q).st = .running ∧ i < 4096 ∧ i < s.qSize q ∧
      i ≠ (s.queue q).bell ∧
      (i + s.qSize q - (s.queue q).bell) % s.qSize q ≤ ((s.queue q).pos + s.qSize q - (s.queue q).bell) % s.qSize q) ∧
  (∃ (s : State) (q : Nat) (i : Nat), s.reaches_ .host = true ∧ qWritten q = true ∧ (s.queue q).st = .running ∧ i < 4096 ∧ i < s.qSize q ∧
      i ≠ (s.queue q).bell ∧
      ((s.queue q).pos + s.qSize q - (s.queue q).bell) % s.qSize q < (i + s.qSize q - (s.queue q).bell) % s.qSize q) ∧
  (∃ (s : State) (cid : Nat) (op : Nat), s.fetchable 0 = true ∧ cid < 65536 ∧ adminOpcodes.contains op = true ∧ op < 256) ∧
  (∃ (s : State) (q : Nat) (cid : Nat), q ≠ 0 ∧ s.nextSq = some q ∧ cid < 65536) ∧
  (∃ (s : State) (q : Nat), q ≠ 0 ∧ s.nextSq ≠ some q) ∧
  (∃ (s : State) (cid : Nat), s.fetchable 0 = true ∧ cid < 65536) ∧
  (∃ (s : State) (kind : Nat), s.powered = true ∧ s.host.linkUp = true ∧ 1 ≤ kind ∧ kind ≤ 4 ∧ s.fetchable 0 = true) ∧
  (∃ (s : State) (cid : Nat) (op : Nat) (kind : Nat) (f : Fetched), s.takes cid op f ∧ s.host.linkUp = true ∧ 1 ≤ kind ∧ kind ≤ 4) ∧
  (∃ (s : State) (q : Nat), s.powered = true ∧ qWritten q = true ∧ (s.queue q).st = .running ∧ bit (s.qCfg q) 15 = true ∧
      (s.queue q).unsig ≠ 0 ∧ fld (s.qCfg q) 7 0 ≠ 0 ∧ s.host.vecs[fld (s.qCfg q) 21 16]?.map (fun v => v.masked) = some false ∧
      s.host.funcMask = false ∧ s.host.msixEn = true ∧ s.busOk = true) ∧
  (∃ (s : State) (q : Nat) (r : Retained), s.powered = true ∧ s.host.retained = [r] ∧ r.cq = q ∧ r.sent = true) :=
  ⟨⟨wQueues wLink, 0, 15, by decide +kernel⟩,
   ⟨wQueues wLink, 0, 16, by decide +kernel⟩,
   ⟨wRun 1 (fun z => { z with pos := 3, bell := 1 }) wLink, 1, 3, by decide +kernel⟩,
   ⟨wRun 1 (fun z => { z with pos := 3, bell := 1 }) wLink, 1, 4, by decide +kernel⟩,
   ⟨wQueues wLink, 65535, 1, by decide +kernel⟩,
   ⟨wRun 8 (fun z => { z with bell := 1 }) wSealing, 8, 65535, by decide +kernel⟩,
   ⟨wLink, 8, by decide +kernel⟩,
   ⟨wQueues wLink, 65535, by decide +kernel⟩,
   ⟨wQueues wLink, 4, by decide +kernel⟩,
   ⟨wAdm 1 wGuard, 5, 1, 4, wFetched 1, by decide +kernel⟩,
   ⟨{ wRun 1 (fun z => { z with unsig := 2 }) wLink with host.msixEn := true, host.vecs := wLink.host.vecs.set 0 { addr := 0, data := 0, masked := false, pending := false } }, 1, by decide +kernel⟩,
   ⟨{ wGuard with host.retained := [wRet true] }, 1, wRet true, by decide +kernel⟩⟩

/-- A state and operands that meet the hypotheses of each clause of AdminReads. -/
theorem wit_AdminReads :
  (∃ (s : State) (cid : Nat) (len : Nat) (f : Fetched), s.takes cid 0x01 f ∧ 4096 ≤ len) ∧
  (∃ (s : State) (cid : Nat) (len : Nat) (f : Fetched), s.takes cid 0x01 f ∧ 1 ≤ len ∧ len < 4096) ∧
  (∃ (s : State) (cid : Nat) (len : Nat) (mask : Nat) (f : Fetched), s.takes cid 0x02 f ∧ 1 ≤ mask ∧ mask < 2 ^ 48 ∧
      (s.snapshotBytes mask).length ≤ len) ∧
  (∃ (s : State) (cid : Nat) (len : Nat) (mask : Nat) (f : Fetched), s.takes cid 0x02 f ∧ 1 ≤ len ∧ 2 ^ 48 ≤ mask) ∧
  (∃ (s : State) (cid : Nat) (len : Nat) (f : Fetched), s.takes cid 0x03 f ∧ 32 ≤ len) ∧
  (∃ (s : State) (cid : Nat) (len : Nat) (f : Fetched), s.takes cid 0x03 f ∧ 32 ≤ len) ∧
  (∃ (s : State) (cid : Nat) (f : Fetched), s.takes cid 0x04 f) ∧
  (∃ (s : State) (cid : Nat) (chain : Nat) (off : Nat) (len : Nat) (f : Fetched), s.takes cid 0x05 f ∧ chain ≤ 1 ∧ 1 ≤ len ∧
      off < (s.certImage (decide (chain = 1))).length) ∧
  (∃ (s : State) (cid : Nat) (len : Nat) (f : Fetched), s.takes cid 0x06 f ∧ 32 ≤ len ∧ s.crypt.rngSt = 1) ∧
  (∃ (s : State), s.powered = true ∧ s.plat.mode ≠ .lockdown ∧ s.crypt.rngSt = 1) :=
  ⟨⟨wAdm 1 (wSigned wGuard), 5, 4096, wFetched 1, by decide +kernel⟩,
   ⟨wAdm 1 (wSigned wGuard), 5, 64, wFetched 1, by decide +kernel⟩,
   ⟨wAdm 2 (wSigned wGuard), 5, 65536, 1, wFetched 2, by decide +kernel⟩,
   ⟨wAdm 2 (wSigned wGuard), 5, 1, 2 ^ 48, wFetched 2, by decide +kernel⟩,
   ⟨wAdm 3 (wSigned wGuard), 5, 32, wFetched 3, by decide +kernel⟩,
   ⟨wAdm 3 (wSigned wGuard), 5, 32, wFetched 3, by decide +kernel⟩,
   ⟨wAdm 4 (wSigned wGuard), 5, wFetched 4, by decide +kernel⟩,
   ⟨wAdm 5 (wSigned wGuard), 5, 1, 0, 64, wFetched 5, by decide +kernel⟩,
   ⟨{ wAdm 6 wGuard with crypt.rngSt := 1 }, 5, 32, wFetched 6, by decide +kernel⟩,
   ⟨{ wGuard with crypt.rngSt := 1 }, by decide +kernel⟩⟩

/-- A state and operands that meet the hypotheses of each clause of AdminActions. -/
theorem wit_AdminActions :
  (∃ (s : State) (cid : Nat) (n : Ch) (f : Fetched), s.takes cid 0x10 f ∧ (s.chan n).st ≠ .disabled ∧ (s.chan n).phase = .boot) ∧
  (∃ (s : State) (cid : Nat) (p : Nat) (f : Fetched), s.takes cid 0x10 f ∧ 2 < p) ∧
  (∃ (s : State) (cid : Nat) (n : Ch) (k : SlotId) (m : Manifest) (f : Fetched), s.takes cid 0x11 f ∧ s.activateStatus n k 0 m = .ok ∧
      s.crypt.pkuNext < 2) ∧
  (∃ (s : State) (cid : Nat) (n : Ch) (k : SlotId) (m : Manifest) (f : Fetched), s.takes cid 0x11 f ∧ s.activateStatus n k 0 m = .ok ∧
      2 ≤ s.crypt.pkuNext) ∧
  (∃ (s : State) (cid : Nat) (n : Ch) (k : SlotId) (m : Manifest) (f : Fetched), s.takes cid 0x11 f ∧
      s.activateStatus n k 0 m = .notPermitted) ∧
  (∃ (s : State) (cid : Nat) (n : Ch) (k : SlotId) (w : Update) (f : Fetched), s.takes cid 0x12 f ∧
      ((s.chan n).slot k).upd = .confirming ∧ bit (s.cfg (fch n (0xB8 + 4 * k.val))) 30 = true ∧ ((s.chan n).slot k).up = some w ∧
      w.windowOpen = true) ∧
  (∃ (s : State) (cid : Nat) (n : Ch) (k : SlotId) (f : Fetched), s.takes cid 0x12 f ∧ ((s.chan n).slot k).upd ≠ .confirming) ∧
  (∃ (s : State) (cid : Nat) (n : Ch) (f : Fetched), s.takes cid 0x13 f ∧ s.wdRunning n = true ∧ bit (s.awin n) 29 = true ∧
      s.wdInWin n = true) ∧
  (∃ (s : State) (cid : Nat) (n : Ch) (f : Fetched), s.takes cid 0x13 f ∧ s.wdRunning n = true ∧ bit (s.awin n) 29 = false) ∧
  (∃ (s : State) (cid : Nat) (n : Ch) (f : Fetched), s.takes cid 0x14 f ∧ (s.chan n).st = .quarantined ∧ s.perm 2 = true ∧
      s.intentsOk = true) ∧
  (∃ (s : State) (cid : Nat) (src : Nat) (n : Ch) (f : Fetched), s.takes cid 0x14 f ∧ src ≤ 5 ∧ (s.chan n).st ≠ .quarantined) ∧
  (∃ (s : State) (cid : Nat) (len : Nat) (n : Ch) (t : Token) (f : Fetched), s.takes cid 0x15 f ∧ 1 ≤ len ∧ (s.checkToken t).2 = .ok ∧
      t.action = 1 ∧ agentsOf t.agents = [n] ∧ (s.chan n).st = .quarantined ∧ (s.chan n).brought = false) ∧
  (∃ (s : State) (cid : Nat) (len : Nat) (off : Nat) (last : Bool) (n : Ch) (j : RecJob) (f : Fetched), s.takes cid 0x16 f ∧ 1 ≤ len ∧
      s.recOf n = some j ∧ j.st = .streaming ∧ j.source = 4 ∧ chunkStatus j.stream (s.recSize n j.slot) off len last = reply .ok) ∧
  (∃ (s : State) (cid : Nat) (f : Fetched), s.takes cid 0x23 f ∧ s.perm 0 = false) ∧
  (∃ (s : State) (cid : Nat) (f : Fetched), s.takes cid 0x23 f ∧ s.perm 0 = true) :=
  ⟨⟨wAdm 16 wRel, 5, 0, wFetched 0x10, by decide +kernel⟩,
   ⟨wAdm 16 wRel, 5, 3, wFetched 0x10, by decide +kernel⟩,
   ⟨wAdm 17 (((wChan (wFullSt (wMap 1 wGuard)) (fun c => { c with st := .released, phase := .update })).setCfg (fch 0 0xB8) 0x80000000#32).setCfg (stKey 0 1 0) (word (0x800 + 0x400))), 5, 0, 0, wGoodMan, wFetched 0x11, by decide +kernel⟩,
   ⟨{ wAdm 17 (((wChan (wFullSt (wMap 1 wGuard)) (fun c => { c with st := .released, phase := .update })).setCfg (fch 0 0xB8) 0x80000000#32).setCfg (stKey 0 1 0) (word (0x800 + 0x400))) with crypt.pkuNext := 2 }, 5, 0, 0, wGoodMan, wFetched 0x11, by decide +kernel⟩,
   ⟨wAdm 17 wRel, 5, 0, 0, wGoodMan, wFetched 0x11, by decide +kernel⟩,
   ⟨wAdm 18 (wSlot (wSigned (wGuard.setCfg (fch 0 0xB8) 0xC0000000#32)) (fun z => { z with upd := .confirming, up := some wUp })), 5, 0,
       0, wUp, wFetched 0x12, by decide +kernel⟩,
   ⟨wAdm 18 wRel, 5, 0, 0, wFetched 0x12, by decide +kernel⟩,
   ⟨wAdm 19 (wWd wRel), 5, 0, wFetched 0x13, by decide +kernel⟩,
   ⟨wAdm 19 ((wWd wRel).setCfg 0x684 0xD0000000#32), 5, 0, wFetched 0x13, by decide +kernel⟩,
   ⟨wAdm 20 (wChan (wFullSt wGuard) (fun c => { c with st := .quarantined })), 5, 0, wFetched 0x14, by decide +kernel⟩,
   ⟨wAdm 20 wRel, 5, 0, 0, wFetched 0x14, by decide +kernel⟩,
   ⟨wAdm 21 (wChan (wFullSt wGuard) (fun c => { c with st := .quarantined })), 5, 64, 0, wToken 1 1, wFetched 0x15, by decide +kernel⟩,
   ⟨wAdm 22 (wReim (wRec .streaming 4)), 5, 4096, 0, false, 0, wRec .streaming 4, wFetched 0x16, by decide +kernel⟩,
   ⟨wAdm 35 wRel, 5, wFetched 0x23, by decide +kernel⟩,
   ⟨wAdm 35 (wFullSt wRel), 5, wFetched 0x23, by decide +kernel⟩⟩

/-- A state and operands that meet the hypotheses of each clause of Recovery. -/
theorem wit_Recovery :
  (∃ (s : State) (n : Ch) (j : RecJob) (m : Option Manifest) (a : Bool), s.powered = true ∧ (s.chan n).st = .reimaging ∧
      s.recOf n = some j ∧ j.st = .trying ∧ s.plat.mode ≠ .lockdown ∧ s.intentsOk = true ∧ s.wardenAway = false ∧ s.crypt.pkuNext < 2 ∧
      j.single = false ∧ s.nextSource n j.slot m a j.source = some 2) ∧
  (∃ (s : State) (n : Ch) (j : RecJob) (m : Option Manifest) (a : Bool), s.powered = true ∧ (s.chan n).st = .reimaging ∧
      s.recOf n = some j ∧ j.st = .trying ∧ s.plat.mode ≠ .lockdown ∧ s.intentsOk = true ∧ s.wardenAway = false ∧ s.crypt.pkuNext < 2 ∧
      j.single = false ∧ s.nextSource n j.slot m a j.source = some 4) ∧
  (∃ (s : State) (n : Ch) (j : RecJob) (m : Option Manifest) (a : Bool), s.powered = true ∧ (s.chan n).st = .reimaging ∧
      s.recOf n = some j ∧ j.st = .trying ∧ s.plat.mode ≠ .lockdown ∧ s.intentsOk = true ∧ s.wardenAway = false ∧ s.crypt.pkuNext < 2 ∧
      j.single = false ∧ s.nextSource n j.slot m a j.source = none) ∧
  (∃ (s : State) (n : Ch) (j : RecJob), s.powered = true ∧ s.recOf n = some j ∧ j.st = .streaming ∧ j.single = false) ∧
  (∃ (s : State) (n : Ch) (j : RecJob) (c : Req × Word), s.powered = true ∧ s.recOf n = some j ∧ j.st = .actCommit ∧ s.regs.cur = some c) ∧
  (∃ (s : State) (n : Ch) (j : RecJob), s.powered = true ∧ s.recOf n = some j ∧ j.st = .actCommit ∧ s.regs.cur = none ∧
      (s.commitAct n j.slot).groupOk (8 + n.val) (s.commitAct n j.slot).cfg = true ∧ j.slots.length = 1 ∧ (s.chan n).st = .reimaging) ∧
  (∃ (s : State) (n : Ch) (j : RecJob) (w : CopyUnit) (rest : List CopyUnit), s.powered = true ∧ s.intentsOk = true ∧
      s.portHeld n = false ∧ s.wardenAway = false ∧ s.recOf n = some j ∧ j.st = .writing ∧
      (s.copyUnitList n j.slot (s.actCopy n j.slot)).drop j.step = w :: rest ∧ s.canWrite n w.part = true) ∧
  (∃ (s : State) (n : Ch) (j : RecJob) (w : CopyUnit) (rest : List CopyUnit), s.powered = true ∧ s.intentsOk = true ∧
      s.portHeld n = false ∧ s.wardenAway = false ∧ s.recOf n = some j ∧ j.st = .writing ∧
      (s.copyUnitList n j.slot (s.actCopy n j.slot)).drop j.step = w :: rest ∧ s.canWrite n w.part = true ∧ j.fails < 3) ∧
  (∃ (s : State) (n : Ch) (j : RecJob), s.powered = true ∧ s.intentsOk = true ∧ s.portHeld n = false ∧ s.wardenAway = false ∧
      s.recOf n = some j ∧ j.st = .writing ∧ j.slots.length = 1 ∧ (s.chan n).st = .reimaging ∧
      (s.copyUnitList n j.slot (s.actCopy n j.slot)).length ≤ j.step) ∧
  (∃ (s : State) (n : Ch) (j : RecJob) (w : CopyUnit), s.powered = true ∧ s.intentsOk = true ∧ s.portHeld n = false ∧
      s.wardenAway = false ∧ s.recOf n = some j ∧ j.st = .writing ∧ j.slots.length = 1 ∧ (s.chan n).st = .reimaging ∧
      (s.copyUnitList n j.slot (s.actCopy n j.slot)).drop j.step = [w] ∧ s.canWrite n w.part = true) ∧
  (∃ (s : State) (n : Ch) (p : PortId) (j : RecJob) (x : Nat) (rest : List Nat), p.val = n.val ∧ s.powered = true ∧ s.recOf n = some j ∧
      j.stream.bufs = x :: rest ∧ j.st = .streaming ∧ ((rest ≠ [] ∨ j.stream.last = false)) ∧ s.wardenAway = false ∧
      s.crypt.root.isSome = true) ∧
  (∃ (s : State) (n : Ch) (p : PortId) (j : RecJob) (x : Nat), p.val = n.val ∧ s.powered = true ∧ s.recOf n = some j ∧
      j.stream.bufs = [x] ∧ j.st = .streaming ∧ j.stream.last = true ∧ s.wardenAway = false) ∧
  (∃ (s : State) (n : Ch) (j : RecJob) (m : Manifest), s.powered = true ∧ s.recOf n = some j ∧ j.st = .verifying ∧ s.wardenAway = false ∧
      s.crypt.pkuNext < 2 ∧ j.slots.length = 1 ∧ (s.chan n).st = .reimaging ∧ s.manCheck n j.slot (s.actCopy n j.slot) m = 0) ∧
  (∃ (s : State) (n : Ch) (j : RecJob), s.powered = true ∧ s.recOf n = some j ∧ j.st = .verifying ∧ s.wardenAway = false ∧
      s.crypt.pkuNext < 2 ∧ j.single = false) ∧
  (∃ (s : State) (b : Bundle) (n : Ch) (j : RecJob), s.bundle = some b ∧ s.powered = true ∧ s.plat.fwRuns = true ∧ s.bmcJob = some (n, j)) ∧
  (∃ (s : State) (b : Bundle) (n : Ch) (j : RecJob) (off : Nat) (len : Nat), s.bundle = some b ∧ s.powered = true ∧ s.plat.fwRuns = true ∧
      s.bmcJob = some (n, j) ∧ j.st = .streaming ∧ len ≤ 4000 ∧
      chunkStatus j.stream (s.recSize n j.slot) off len (decide (off + len = s.recSize n j.slot)) = reply .ok) ∧
  (∃ (s : State) (b : Bundle), s.bundle = some b ∧ s.powered = true ∧ s.plat.fwRuns = true ∧ s.bmcJob = none ∧ s.ident.recEnd = some true) ∧
  (∃ (s : State) (b : Bundle), s.bundle = some b ∧ s.powered = true ∧ s.plat.fwRuns = true ∧ s.bmcJob = none ∧
      s.ident.recEnd = some false) ∧
  (∃ (s : State) (n : Ch) (len : Nat) (t : Token), ((s.plat.mode = .verify ∨ s.plat.mode = .guard)) ∧ 1 ≤ len ∧ t.action = 2 ∧
      (s.checkToken t).2 = .ok ∧ agentsOf t.agents = [n] ∧ (s.chan n).st = .held) ∧
  (∃ (s : State) (len : Nat) (t : Token), ((s.plat.mode = .verify ∨ s.plat.mode = .guard ∨ s.plat.mode = .recover)) ∧ s.intentsOk = true ∧
      1 ≤ len ∧ t.action = 3 ∧ (s.checkToken t).2 = .ok) ∧
  (∃ (s : State) (len : Nat) (t : Token), s.plat.mode = .lockdown ∧ ((s.plat.cause = 0x10 ∨ s.plat.cause = 0x11 ∨ s.plat.cause = 0x14)) ∧
      1 ≤ len ∧ t.action = 4 ∧ (s.checkToken t).2 = .ok ∧ s.keeper.tlClass ≠ 5) ∧
  (∃ (s : State) (len : Nat) (t : Token), s.plat.mode = .lockdown ∧ s.plat.cause = 0x12 ∧ 1 ≤ len ∧ t.action = 4 ∧
      (s.checkToken t).2 = .ok) :=
  ⟨⟨wSlot (wReim (wRec .trying 0)) (fun z => { z with goldValid := true }), 0, wRec .trying 0, none, false, by decide +kernel⟩,
   ⟨wQueues (wReim (wRec .trying 3)), 0, wRec .trying 3, none, false, by decide +kernel⟩,
   ⟨wReim (wRec .trying 5), 0, wRec .trying 5, none, false, by decide +kernel⟩,
   ⟨wReim (wRec .streaming 4), 0, wRec .streaming 4, by decide +kernel⟩,
   ⟨{ wReim (wRec .actCommit 1) with regs.cur := some (.host, 0#32) }, 0, wRec .actCommit 1, (.host, 0#32), by decide +kernel⟩,
   ⟨{ wFullSt (wChan wGuard (fun c => { c with st := .reimaging })) with ident.recs := [wRec .actCommit 1] }, 0, wRec .actCommit 1,
       by decide +kernel⟩,
   ⟨wReim (wRec .writing 2), 0, wRec .writing 2, ((wReim (wRec .writing 2)).copyUnitList 0 0 1).headD ⟨0, 0, 0, false, 0⟩,
       ((wReim (wRec .writing 2)).copyUnitList 0 0 1).tail, by decide +kernel⟩,
   ⟨wReim (wRec .writing 2), 0, wRec .writing 2, ((wReim (wRec .writing 2)).copyUnitList 0 0 1).headD ⟨0, 0, 0, false, 0⟩,
       ((wReim (wRec .writing 2)).copyUnitList 0 0 1).tail, by decide +kernel⟩,
   ⟨wReim { wRec .writing 2 with step := 1000 }, 0, { wRec .writing 2 with step := 1000 }, by decide +kernel⟩,
   ⟨wReim { wRec .writing 2 with step := ((wReim (wRec .writing 2)).copyUnitList 0 0 1).length - 1 }, 0,
       { wRec .writing 2 with step := ((wReim (wRec .writing 2)).copyUnitList 0 0 1).length - 1 },
       ((wReim (wRec .writing 2)).copyUnitList 0 0 1).getLastD ⟨0, 0, 0, false, 0⟩, by decide +kernel⟩,
   ⟨wReim { wRec .streaming 5 with stream := ⟨8192, [4096, 4096], false⟩ }, 0, 0,
       { wRec .streaming 5 with stream := ⟨8192, [4096, 4096], false⟩ }, 4096, [4096], by decide +kernel⟩,
   ⟨wReim { wRec .streaming 5 with stream := ⟨8192, [4096], true⟩ }, 0, 0, { wRec .streaming 5 with stream := ⟨8192, [4096], true⟩ },
       4096, by decide +kernel⟩,
   ⟨wReim (wRec .verifying 4), 0, wRec .verifying 4, wGoodMan, by decide +kernel⟩,
   ⟨wReim (wRec .verifying 5), 0, wRec .verifying 5, by decide +kernel⟩,
   ⟨wReim (wRec .verifying 5), wFull, 0, wRec .verifying 5, by decide +kernel⟩,
   ⟨wReim (wRec .streaming 5), wFull, 0, wRec .streaming 5, 0, 4000, by decide +kernel⟩,
   ⟨{ wFullSt wGuard with ident.recEnd := some true }, wFull, by decide +kernel⟩,
   ⟨{ wFullSt wGuard with ident.recEnd := some false }, wFull, by decide +kernel⟩,
   ⟨wChan (wFullSt wGuard) (fun c => { c with st := .held }), 0, 64, wToken 2 1, by decide +kernel⟩,
   ⟨wFullSt (wMode .recover), 64, wToken 3 0, by decide +kernel⟩,
   ⟨{ wFullSt (wMode .lockdown) with plat.cause := 0x14, keeper.tlClass := 4 }, 64, wToken 4 0, by decide +kernel⟩,
   ⟨{ wFullSt (wMode .lockdown) with plat.cause := 0x12 }, 64, wToken 4 0, by decide +kernel⟩⟩

/-- A state and operands that meet the hypotheses of each clause of PolicyBundles. -/
theorem wit_PolicyBundles :
  (∃ (s : State) (cid : Nat) (len : Nat) (b : Bundle) (f : Fetched), s.takes cid 0x20 f ∧ 1 ≤ len ∧ len ≤ 262140 ∧
      (s.policyCheck false b).2 = .ok ∧ s.crypt.pkuNext < 2) ∧
  (∃ (s : State) (cid : Nat) (len : Nat) (b : Bundle) (f : Fetched), s.takes cid 0x20 f ∧ 1 ≤ len ∧ len ≤ 262140 ∧
      (s.policyCheck false b).2 = .ok ∧ 2 ≤ s.crypt.pkuNext) ∧
  (∃ (s : State) (cid : Nat) (len : Nat) (b : Bundle) (f : Fetched), s.takes cid 0x20 f ∧ 1 ≤ len ∧ len ≤ 262140 ∧
      (s.policyCheck false b).2 = .verifyFail ∧ s.crypt.pkuNext < 2) ∧
  (∃ (s : State) (k : Nat) (b : Bundle), s.vaultUp = true ∧ s.ident.polState = 1 ∧ s.ident.storing = some (k, b)) ∧
  (∃ (s : State), s.plat.mode = .hold ∧ s.regs.cur = none ∧ s.ident.polState = 0 ∧ s.ident.storing = none ∧ s.plat.boot.firmware = true ∧
      s.plat.boot.policy = false ∧ s.ident.applied = none ∧ s.ident.slot0 = none ∧ s.ident.slot1 = none) ∧
  (∃ (s : State) (p : PolSlot), s.plat.mode = .hold ∧ s.regs.cur = none ∧ s.ident.polState = 0 ∧ s.ident.storing = none ∧
      s.plat.boot.firmware = true ∧ s.plat.boot.policy = false ∧ s.ident.applied = none ∧ s.ident.slot0 = some p ∧ p.valid = false ∧
      s.ident.slot1 = none) ∧
  (∃ (s : State) (k : Nat) (b : Bundle), s.powered = true ∧ s.regs.cur = none ∧ s.commitWaiting .int = false ∧ s.ident.polState = 2 ∧
      s.ident.storing = some (k, b)) ∧
  (∃ (s : State) (k : Nat) (b : Bundle), s.powered = true ∧ s.regs.cur = none ∧ s.regs.waiting = [] ∧ s.ident.polState = 2 ∧
      s.ident.storing = some (k, b)) ∧
  (∃ (s : State) (k : Nat) (b : Bundle), s.powered = true ∧ s.regs.cur = none ∧ s.regs.waiting = [] ∧ s.ident.polState = 2 ∧
      s.ident.storing = some (k, b)) ∧
  (∃ (s : State) (b : Bundle), s.bundle = some b ∧ ((s.plat.mode = .verify ∨ s.plat.mode = .guard)) ∧ s.ident.polBurn = true ∧
      s.vintage 14 < b.vintage) ∧
  (∃ (s : State) (b : Bundle), s.bundle = some b ∧ ((s.plat.mode = .verify ∨ s.plat.mode = .guard)) ∧ s.ident.polBurn = true ∧
      s.vintage 14 < b.vintage) :=
  ⟨⟨wAdm 32 (wFullSt wGuard), 5, 1024, { wFull with version := 2, digest := 12 }, wFetched 0x20, by decide +kernel⟩,
   ⟨{ wAdm 32 (wFullSt wGuard) with crypt.pkuNext := 2 }, 5, 1024, { wFull with version := 2, digest := 12 }, wFetched 0x20,
       by decide +kernel⟩,
   ⟨wAdm 32 (wFullSt wGuard), 5, 1024, { wFull with version := 1, digest := 12 }, wFetched 0x20, by decide +kernel⟩,
   ⟨{ wFullSt wGuard with ident.polState := 1, ident.storing := some (1, wFull) }, 1, wFull, by decide +kernel⟩,
   ⟨{ wStarted with plat.boot.firmware := true, plat.boot.policy := false }, by decide +kernel⟩,
   ⟨{ wStarted with plat.boot.firmware := true, plat.boot.policy := false, ident.slot0 := some ⟨wFull, false⟩ }, ⟨wFull, false⟩,
       by decide +kernel⟩,
   ⟨{ wFullSt wGuard with ident.polState := 2, ident.storing := some (1, { wFull with version := 2 }) }, 1, { wFull with version := 2 },
       by decide +kernel⟩,
   ⟨{ wFullSt wGuard with ident.polState := 2, ident.storing := some (1, { wFull with version := 2 }) }, 1, { wFull with version := 2 },
       by decide +kernel⟩,
   ⟨{ wFullSt wGuard with ident.polState := 2, ident.storing := some (1, { wFull with version := 2 }) }, 1, { wFull with version := 2 },
       by decide +kernel⟩,
   ⟨{ wFullSt wGuard with ident.polBurn := true, ident.applied := some (0, { wFull with vintage := 1 }) }, { wFull with vintage := 1 },
       by decide +kernel⟩,
   ⟨{ wFullSt wGuard with ident.polBurn := true, ident.applied := some (0, { wFull with vintage := 2 }) }, { wFull with vintage := 2 },
       by decide +kernel⟩⟩

/-- A state and operands that meet the hypotheses of each clause of FirmwareSteps. -/
theorem wit_FirmwareSteps :
  (∃ (s : State) (cid : Nat) (len : Nat) (last : Bool) (p : Package) (f : Fetched), s.takes cid 0x21 f ∧ s.intentsOk = true ∧
      s.ident.fwState = .idle ∧ s.ident.dl = noStream ∧ packageFormOk p = true ∧ 4 + p.len ≤ len ∧
      chunkStatus noStream p.size 0 len last = reply .ok) ∧
  (∃ (s : State) (cid : Nat) (off : Nat) (len : Nat) (last : Bool) (p : Package) (f : Fetched), s.takes cid 0x21 f ∧ s.intentsOk = true ∧
      s.ident.fwState = .downloading ∧ s.ident.dlSide = false ∧ 1 ≤ s.ident.dl.held ∧ s.ident.dl.last = false ∧ s.ident.dlPkg = some p ∧
      1 ≤ len ∧ chunkStatus s.ident.dl p.size off len last = reply .ok) ∧
  (∃ (s : State) (cid : Nat) (len : Nat) (f : Fetched), s.takes cid 0x21 f ∧ s.intentsOk = true ∧ s.ident.fwState = .downloading ∧
      s.ident.dlSide = true ∧ 1 ≤ len) ∧
  (∃ (s : State) (p : Package), s.powered = true ∧ s.ident.fwState = .downloading ∧ s.ident.dlPkg = some p ∧ s.ident.dl.last = true ∧
      s.ident.dl.bufs = [] ∧ (s.pressRun { cls := 2, ch := none, tag := 64, engine := 8 }).2 = false) ∧
  (∃ (s : State) (p : Package), s.powered = true ∧ s.ident.fwState = .downloading ∧ s.ident.dlPkg = some p ∧ s.ident.dl.last = true ∧
      s.ident.dl.bufs = [] ∧ (s.pressRun { cls := 2, ch := none, tag := 64, engine := 8 }).2 = true ∧ s.crypt.pkuNext < 2 ∧
      s.packageOk p = true ∧ s.plat.romsvc = false) ∧
  (∃ (s : State) (p : Package), s.powered = true ∧ s.ident.fwState = .downloading ∧ s.ident.dlPkg = some p ∧ s.ident.dl.last = true ∧
      s.ident.dl.bufs = [] ∧ (s.pressRun { cls := 2, ch := none, tag := 64, engine := 8 }).2 = true ∧ s.crypt.pkuNext < 2 ∧
      s.packageOk p = false) ∧
  (∃ (s : State) (cid : Nat) (target : Nat) (f : Fetched), s.takes cid 0x22 f ∧ s.plat.mode = .guard ∧
      s.fwActivateStatus false target = .ok) ∧
  (∃ (s : State) (cid : Nat) (target : Nat) (f : Fetched), s.takes cid 0x22 f ∧ s.fwActivateStatus false target = .notPermitted) ∧
  (∃ (s : State) (h : Hand), s.powered = true ∧ s.ident.hand = some h ∧ h.st = .waiting ∧ s.crypt.root ≠ none) ∧
  (∃ (s : State) (h : Hand), s.powered = true ∧ s.ident.hand = some h ∧ h.st = .halted) ∧
  (∃ (s : State) (h : Hand), s.powered = true ∧ s.ident.hand = some h ∧ h.st = .halted) ∧
  (∃ (s : State) (h : Hand), s.powered = true ∧ s.ident.hand = some h ∧ h.st = .loaded ∧ h.rest = []) ∧
  (∃ (s : State) (h : Hand), s.powered = true ∧ s.ident.hand = some h ∧ h.st = .loaded ∧ h.warden = true ∧ h.rest = [false]) ∧
  (∃ (s : State) (h : Hand), s.powered = true ∧ s.ident.hand = some h ∧ h.st ≠ .waiting) ∧
  (∃ (s : State) (p : Package), s.powered = true ∧ s.ident.fwState = .confirming ∧ s.plat.mode = .guard ∧ s.wd0.warn = false ∧
      s.runningPkg = some p ∧ s.vintage 15 < p.vintage) ∧
  (∃ (s : State) (p : Package), s.powered = true ∧ s.ident.fwState = .burning ∧ s.runningPkg = some p ∧ s.vintage 15 < p.vintage) ∧
  (∃ (s : State) (a : Nat) (b : Nat) (rest : List (Nat × Nat)), s.powered = true ∧ s.intentsOk = true ∧ s.ident.fwCopies = (a,
      b) :: rest ∧ 2 ≤ a ∧ (liveIntents s.vault.intents).any (fun i => decide (i.kind = 7 ∧ i.chan = 8)) = false) ∧
  (∃ (s : State) (a : Nat) (b : Nat) (rest : List (Nat × Nat)), s.powered = true ∧ s.intentsOk = true ∧ s.ident.fwCopies = (a,
      b) :: rest ∧ 2 ≤ a ∧ (liveIntents s.vault.intents).any (fun i => decide (i.kind = 7 ∧ i.chan = 8)) = true) ∧
  (∃ (s : State) (a : Nat) (b : Nat), s.powered = true ∧ s.intentsOk = true ∧ s.ident.fwCopies = [(a, b)] ∧ 2 ≤ a ∧
      (liveIntents s.vault.intents).any (fun i => decide (i.kind = 7 ∧ i.chan = 8)) = true) ∧
  (∃ (s : State), s.powered = true ∧ s.ident.certDue = true ∧ s.crypt.pkuNext < 2) ∧
  (∃ (s : State), s.powered = true ∧ s.ident.certDue = false) :=
  ⟨⟨wAdm 33 ({ wFwSt with ident.fwState := .idle }), 5, 65536, false, { wPkg with len := 4096 }, wFetched 0x21, by decide +kernel⟩,
   ⟨wAdm 33 ({ wFwIn .downloading with ident.dl := ⟨65536, [], false⟩ }), 5, 65536, 65536, true, wPkg, wFetched 0x21, by decide +kernel⟩,
   ⟨wAdm 33 ({ wFwIn .downloading with ident.dlSide := true }), 5, 4096, wFetched 0x21, by decide +kernel⟩,
   ⟨{ wFwIn .downloading with press.engines := [] }, wPkg, by decide +kernel⟩,
   ⟨wFwIn .downloading, wPkg, by decide +kernel⟩,
   ⟨{ wFwIn .downloading with ident.dlPkg := some { wPkg with digestsOk := false } }, { wPkg with digestsOk := false }, by decide +kernel⟩,
   ⟨wAdm 34 (wFwIn .downloaded), 5, 2, wFetched 0x22, by decide +kernel⟩,
   ⟨wAdm 34 (wMode .verify), 5, 2, wFetched 0x22, by decide +kernel⟩,
   ⟨wHanding (wHand .waiting []), wHand .waiting [], by decide +kernel⟩,
   ⟨wHanding (wHand .halted []), wHand .halted [], by decide +kernel⟩,
   ⟨wHanding (wHand .halted []), wHand .halted [], by decide +kernel⟩,
   ⟨wHanding (wHand .loaded []), wHand .loaded [], by decide +kernel⟩,
   ⟨wHanding (wHand .loaded [false]), wHand .loaded [false], by decide +kernel⟩,
   ⟨wHanding (wHand .loaded []), wHand .loaded [], by decide +kernel⟩,
   ⟨{ wFwIn .confirming with ident.fwA := { wFw with pkg := some { wPkg with vintage := 2 } } }, { wPkg with vintage := 2 },
       by decide +kernel⟩,
   ⟨{ wFwIn .burning with ident.fwA := { wFw with pkg := some { wPkg with vintage := 2 } } }, { wPkg with vintage := 2 },
       by decide +kernel⟩,
   ⟨{ wFwIn .goldcopy with ident.fwCopies := [(2, 0), (2, 1)] }, 2, 0, [(2, 1)], by decide +kernel⟩,
   ⟨{ wFwIn .goldcopy with ident.fwCopies := [(2, 0), (2, 1)], vault.intents := [{ wIntent 7 0 with chan := 8 }] }, 2, 0, [(2, 1)],
       by decide +kernel⟩,
   ⟨{ wFwIn .goldcopy with ident.fwCopies := [(2, 0)], vault.intents := [{ wIntent 7 0 with chan := 8 }] }, 2, 0, by decide +kernel⟩,
   ⟨{ wFwSt with ident.certDue := true }, by decide +kernel⟩,
   ⟨wFwSt, by decide +kernel⟩⟩

/-- A state and operands that meet the hypotheses of each clause of Lifecycle. -/
theorem wit_Lifecycle :
  (∃ (s : State) (len : Nat) (t : LcToken), s.lcPasses len t .vendor ∧ s.crypt.pkuNext < 2 ∧ t.action = 1 ∧ s.lifeCode = 0) ∧
  (∃ (s : State) (len : Nat) (t : LcToken), s.lcPasses len t .vendor ∧ 2 ≤ s.crypt.pkuNext ∧ t.action = 1) ∧
  (∃ (s : State) (len : Nat) (t : LcToken), s.lcPasses len t .vendor ∧ s.crypt.pkuNext < 2 ∧ t.action = 2 ∧ s.lifeCode = 1) ∧
  (∃ (s : State) (len : Nat) (t : LcToken), s.lcPasses len t .vendor ∧ s.crypt.pkuNext < 2 ∧ t.action = 2 ∧ s.lifeCode ≠ 1) ∧
  (∃ (s : State) (len : Nat) (t : LcToken), s.lcPasses len t .owner ∧ s.crypt.pkuNext < 2 ∧ t.action = 3 ∧ s.lifeCode = 2) ∧
  (∃ (s : State) (len : Nat) (t : LcToken) (a : KeyEnt) (b : KeyEnt), s.lcPasses len t .claim ∧ s.crypt.pkuNext < 2 ∧ t.action = 4 ∧
      s.lifeCode = 2 ∧ (List.range 8).all s.ownerBlank = true ∧ t.keys = [a, b] ∧ a.slot < b.slot ∧ b.slot < 8 ∧ claimAlgs [a, b] = true) ∧
  (∃ (s : State) (len : Nat) (t : LcToken) (a : KeyEnt), s.lcPasses len t .owner ∧ s.crypt.pkuNext < 2 ∧ t.action = 5 ∧ s.lifeCode = 2 ∧
      t.keys = [a] ∧ s.ownerBlank a.slot = true) ∧
  (∃ (s : State) (len : Nat) (t : LcToken), s.lcPasses len t .owner ∧ s.crypt.pkuNext < 2 ∧ t.action = 6 ∧ s.lifeCode = 2 ∧
      targetOk 8 t = true) ∧
  (∃ (s : State) (len : Nat) (t : LcToken), s.lcPasses len t .owner ∧ s.crypt.pkuNext < 2 ∧ t.action = 7 ∧ s.lifeCode = 2 ∧
      s.life.otp.written = 0 ∧ s.life.otp.ssvid = 0 ∧ s.life.otp.ssid = 0) ∧
  (∃ (s : State) (len : Nat) (t : LcToken), s.lcPasses len t .vendor ∧ s.crypt.pkuNext < 2 ∧ t.action = 8 ∧
      ((s.lifeCode = 1 ∨ s.lifeCode = 2)) ∧ targetOk 4 t = true) ∧
  (∃ (s : State) (len : Nat) (t : LcToken), s.plat.mode = .lockdown ∧ s.plat.cause = 0x13 ∧ 1 ≤ len ∧ len ≤ 65536 ∧ s.otpBusy = false ∧
      t.wellFormed = true ∧ t.ctype = 7 ∧ t.format = 1 ∧ t.unitid = some s.unitid ∧ s.ident.nonce = some t.nonce ∧
      s.vendorsRevoked t.signers = false ∧ s.vendorSigned t.signers t.sigs = true ∧ t.action = 9 ∧ s.crypt.pkuNext < 2 ∧
      s.life.otp.completable = some (2, .vendor)) ∧
  (∃ (s : State) (len : Nat) (t1 : Nat) (a : DbgToken), s.powered = true ∧ 1 ≤ len ∧ s.lifeCode = 1 ∧
      s.debugCheck (decide (len = 4 + t1)) [a] = ((0, .ok), some (3, 2)) ∧ s.crypt.pkuNext < 2) ∧
  (∃ (s : State) (len : Nat) (t1 : Nat) (g : Nat) (a : DbgToken), s.powered = true ∧ 1 ≤ len ∧ s.lifeCode = 2 ∧
      s.debugCheck (decide (len = 4 + t1)) [a] = ((0, .ok), some (g, 1)) ∧ s.crypt.pkuNext < 2) ∧
  (∃ (s : State), s.plat.mode = .lockdown) ∧
  (∃ (s : State), s.powered = true ∧ s.haltScope = true ∧ s.wd0.paused = false) ∧
  (∃ (s : State), s.haltScope = false) ∧
  (∃ (s : State), s.powered = true ∧ s.wd0.paused = true) :=
  ⟨⟨wLcState 0#16 0#16, 64, wLc 1 [] 0, by decide +kernel⟩,
   ⟨{ wLcState 0#16 0#16 with crypt.pkuNext := 2 }, 64, wLc 1 [] 0, by decide +kernel⟩,
   ⟨wTest, 64, wLc 2 [] 0, by decide +kernel⟩,
   ⟨wSigned wGuard, 64, wLc 2 [] 0, by decide +kernel⟩,
   ⟨wSigned wGuard, 64, wLc 3 [] 0, by decide +kernel⟩,
   ⟨(wLcState 0xA5C3#16 0x3C96#16), 64, wLc 4 [⟨0, -35, wDig⟩, ⟨1, -65603, wDig⟩] 0, ⟨0, -35, wDig⟩, ⟨1, -65603, wDig⟩, by decide +kernel⟩,
   ⟨wSigned wGuard, 64, wLc 5 [⟨7, -35, wDig⟩] 0, ⟨7, -35, wDig⟩, by decide +kernel⟩,
   ⟨wSigned wGuard, 64, wLc 6 [] 0xFE, by decide +kernel⟩,
   ⟨wSigned wGuard, 64, wLc 7 [] 0, by decide +kernel⟩,
   ⟨wTest, 64, wLc 8 [] 0xE, by decide +kernel⟩,
   ⟨{ wLcState 0xA5C3#16 0x3C90#16 with plat.mode := .lockdown, plat.cause := 0x13 }, 64, wLc 9 [] 0, by decide +kernel⟩,
   ⟨wTest, 104, 100, wDbg 2 3, by decide +kernel⟩,
   ⟨wSigned wGuard, 104, 100, 2, wDbg 1 2, by decide +kernel⟩,
   ⟨wMode .lockdown, by decide +kernel⟩,
   ⟨wLcState 0#16 0#16, by decide +kernel⟩,
   ⟨wGuard, by decide +kernel⟩,
   ⟨{ wLcState 0#16 0#16 with wd0.paused := true, life.haltedW := true }, by decide +kernel⟩⟩

/-- A state and operands that meet the hypotheses of each clause of KeyCommands. -/
theorem wit_KeyCommands :
  (∃ (s : State) (cid : Nat) (label : Nat) (len : Nat) (k : Nat) (f : Fetched), s.takes cid 0x2B f ∧ s.caskNamed label = some k ∧
      32 ≤ len) ∧
  (∃ (s : State) (cid : Nat) (label : Nat) (len : Nat) (f : Fetched), s.takes cid 0x2B f ∧ s.caskNamed label = none ∧ 1 ≤ len) ∧
  (∃ (s : State) (cid : Nat) (len : Nat) (f : Fetched), s.takes cid 0x2B f ∧ 4096 ≤ len) ∧
  (∃ (s : State) (cid : Nat) (len : Nat) (f : Fetched), s.takes cid 0x2B f ∧ s.rooted = true ∧ 5120 ≤ len ∧ s.crypt.rngSt = 1 ∧
      s.crypt.pkuNext < 2 ∧ s.pkuRun.1.crypt.pkuNext < 2) ∧
  (∃ (s : State) (cid : Nat) (len : Nat) (f : Fetched), s.takes cid 0x2B f ∧ s.rooted = true ∧ 5120 ≤ len ∧ s.crypt.rngSt ≠ 1) ∧
  (∃ (s : State) (cid : Nat) (len : Nat) (f : Fetched), s.takes cid 0x2B f ∧ s.rooted = true ∧ 5120 ≤ len ∧ s.crypt.rngSt = 1 ∧
      2 ≤ s.crypt.pkuNext) ∧
  (∃ (s : State) (cid : Nat) (len : Nat) (f : Fetched), s.takes cid 0x2B f ∧ s.rooted = false ∧ 1 ≤ len) ∧
  (∃ (s : State) (cid : Nat) (label : Nat) (len : Nat) (tlen : Nat) (k : Nat) (m : Nat) (t : Token) (r : Option KeyReq) (b : ImportBlob) (f : Fetched), s.takes cid 0x2B f ∧ 1 ≤ len ∧ s.keyMode = true ∧ s.crypt.change = none ∧ (s.keyToken t r (fun x => decide (x.subop = 4 ∧ x.label = label ∧ x.digest = b.digest))).2 = .ok ∧ ((s.keyToken t r (fun x => decide (x.subop = 4 ∧ x.label = label ∧ x.digest = b.digest))).1.pkuRun).2 = true ∧ importField label len tlen b = none ∧ b.material = some m ∧ s.ownerCask label = some k ∧ (s.cask k).type = b.type) ∧
  (∃ (s : State) (cid : Nat) (len : Nat) (f : Fetched), s.takes cid 0x2B f ∧ 1 ≤ len ∧ s.keyMode = false) ∧
  (∃ (s : State) (cid : Nat) (len : Nat) (c : KeyChange) (f : Fetched), s.takes cid 0x2B f ∧ 1 ≤ len ∧ s.keyMode = true ∧
      s.crypt.change = some c) ∧
  (∃ (s : State) (cid : Nat) (label : Nat) (k : Nat) (t : Token) (r : Option KeyReq) (f : Fetched), s.takes cid 0x2B f ∧
      s.keyMode = true ∧ s.crypt.change = none ∧ (s.keyToken t r (fun x => decide (x.subop = 5 ∧ x.label = label ∧
      x.digest = emptyDigest))).2 = .ok ∧ s.ownerCask label = some k ∧ (s.cask k).st = .valid) ∧
  (∃ (s : State) (cid : Nat) (label : Nat) (t : Token) (r : Option KeyReq) (f : Fetched), s.takes cid 0x2B f ∧ s.keyMode = true ∧
      s.crypt.change = none ∧ (s.keyToken t r (fun x => decide (x.subop = 5 ∧ x.label = label ∧ x.digest = emptyDigest))).2 = .verifyFail) ∧
  (∃ (s : State) (cid : Nat) (t : Token) (r : Option KeyReq) (f : Fetched), s.takes cid 0x2B f ∧ s.keyMode = true ∧
      s.crypt.change = none ∧ (s.keyToken t r (fun x => decide (x.subop = 6 ∧ x.digest = emptyDigest))).2 = .ok ∧
      s.crypt.sealGen ≠ 0xFFFFFFFF) ∧
  (∃ (s : State) (c : KeyChange), s.vaultUp = true ∧ s.crypt.change = some c ∧ c.kind = 1) ∧
  (∃ (s : State) (c : KeyChange), s.vaultUp = true ∧ s.crypt.change = some c ∧ c.kind = 2 ∧ c.cask < 128) ∧
  (∃ (s : State) (c : KeyChange), s.vaultUp = true ∧ s.crypt.change = some c ∧ c.kind = 3 ∧ c.f ∈ s.host.fetched) ∧
  (∃ (s : State) (c : KeyChange), s.vaultUp = true ∧ s.crypt.change = some c ∧ c.fails < 3) ∧
  (∃ (s : State) (c : KeyChange), s.vaultUp = true ∧ s.crypt.change = some c ∧ 3 ≤ c.fails ∧ c.f ∈ s.host.fetched) :=
  ⟨⟨wOwn, 5, 1, 32, 30, wFetched 0x2B, by decide +kernel⟩,
   ⟨wOwn, 5, 2, 32, wFetched 0x2B, by decide +kernel⟩,
   ⟨wOwn, 5, 4096, wFetched 0x2B, by decide +kernel⟩,
   ⟨{ wOwn with crypt.rngSt := 1, crypt.pkuAhead := [0] }, 5, 5120, wFetched 0x2B, by decide +kernel⟩,
   ⟨wOwn, 5, 5120, wFetched 0x2B, by decide +kernel⟩,
   ⟨{ wOwn with crypt.rngSt := 1, crypt.pkuNext := 2 }, 5, 5120, wFetched 0x2B, by decide +kernel⟩,
   ⟨wAdm 0x2B wGuard, 5, 5120, wFetched 0x2B, by decide +kernel⟩,
   ⟨{ wOwn with crypt.pkuAhead := [0] }, 5, 1, 1857, 100, 30, 77, wToken 5 0, some (wReq 4 8), wBlob, wFetched 0x2B, by decide +kernel⟩,
   ⟨wAdm 0x2B wGuard, 5, 1857, wFetched 0x2B, by decide +kernel⟩,
   ⟨{ wOwn with crypt.change := some (wChange 1 0) }, 5, 1857, wChange 1 0, wFetched 0x2B, by decide +kernel⟩,
   ⟨wOwn, 5, 1, 30, wToken 5 0, some (wReq 5 emptyDigest), wFetched 0x2B, by refine ⟨by decide +kernel, by decide +kernel, by decide +kernel, keyToken_ok _ _ _ _ (by decide +kernel) rfl rfl (by simp [wReq]), by decide +kernel, by decide +kernel⟩⟩,
   ⟨wOwn, 5, 1, wToken 4 0, some (wReq 5 8), wFetched 0x2B, by decide +kernel⟩,
   ⟨wOwn, 5, wToken 5 0, some (wReq 6 emptyDigest), wFetched 0x2B, by refine ⟨by decide +kernel, by decide +kernel, by decide +kernel, keyToken_ok _ _ _ _ (by decide +kernel) rfl rfl (by simp [wReq]), by decide +kernel⟩⟩,
   ⟨wChanging (wChange 1 0), wChange 1 0, by decide +kernel⟩,
   ⟨wChanging (wChange 2 0), wChange 2 0, by decide +kernel⟩,
   ⟨wChanging (wChange 3 0), wChange 3 0, by decide +kernel⟩,
   ⟨wChanging (wChange 1 2), wChange 1 2, by decide +kernel⟩,
   ⟨wChanging (wChange 1 3), wChange 1 3, by decide +kernel⟩⟩

/-- A state and operands that meet the hypotheses of each clause of SealingEngine. -/
theorem wit_SealingEngine :
  (∃ (s : State), s.sealing.running = false ∧ s.policyApplied = true ∧ bit (s.cfg 0x2400) 31 = true ∧ s.sealKeyOk = true ∧
      s.sealMode = true ∧ s.plat.fwRuns = true ∧ s.vaultUp = true ∧ s.runPending = false ∧ s.keeper.rtcValid = true) ∧
  (∃ (s : State), s.sealing.running = true) ∧
  (∃ (s : State) (x : Stream) (g : Seg) (rest : List Seg) (e : Nat), s.powered = true ∧ s.sealing.running = true ∧ s.busOk = true ∧
      s.listFull = false ∧ leastVisits s.waitingStreams = some x ∧ s.stream x.no = some x ∧ x.queue = g :: rest ∧ s.pickEngine = some e ∧
      x.enc = false ∧ s.grantable { cls := if s.sealHeld < s.sealRes then 3 else 5, ch := none, tag := segTag x.no, engine := e } = true) ∧
  (∃ (s : State) (x : Stream) (g : Seg) (rest : List Seg) (e : Nat), s.powered = true ∧ s.sealing.running = true ∧ s.busOk = true ∧
      s.listFull = false ∧ leastVisits s.waitingStreams = some x ∧ s.stream x.no = some x ∧ x.queue = g :: rest ∧ s.pickEngine = some e ∧
      x.enc = false ∧ g.f ∈ s.host.fetched ∧
      s.grantable { cls := if s.sealHeld < s.sealRes then 3 else 5, ch := none, tag := segTag x.no, engine := e } = true) ∧
  (∃ (s : State), s.powered = true ∧ s.sealing.running = true ∧ s.busOk = true ∧ s.listFull = true ∧ s.sealing.stalled = false) ∧
  (∃ (s : State) (no : Nat) (x : Stream) (r : SegRun), s.powered = true ∧ s.busOk = true ∧ s.host.retained.length < 256 ∧
      s.stream no = some x ∧ x.run = some r ∧ x.enc = false ∧ x.closing = none ∧ (s.segRun x).2 = true) ∧
  (∃ (s : State) (no : Nat) (x : Stream) (r : SegRun), s.powered = true ∧ s.busOk = true ∧ s.host.retained.length < 256 ∧
      s.stream no = some x ∧ x.run = some r ∧ (s.segRun x).2 = false) ∧
  (∃ (s : State) (e : Epoch), s.powered = true ∧ s.sealing.running = true ∧ s.sealing.open_ = some e ∧ s.sealing.signed.length < 16 ∧
      s.sealing.log.isSome = true ∧ s.busOk = true) ∧
  (∃ (s : State) (e : Epoch), s.powered = true ∧ s.sealing.running = true ∧ s.sealing.open_ = some e ∧ 16 ≤ s.sealing.signed.length ∧
      e.extended = false) ∧
  (∃ (s : State) (e : Epoch) (rest : List Epoch), s.powered = true ∧ s.sealing.closed = e :: rest ∧ s.mayFinalise e = true) ∧
  (∃ (s : State) (e : Epoch) (rest : List Epoch), s.powered = true ∧ s.sealing.closed = e :: rest ∧ s.mayFinalise e = false) ∧
  (∃ (s : State) (e : Epoch) (rest : List Epoch), s.powered = true ∧ s.sealing.unsigned = e :: rest ∧ s.sealKeyOk = true ∧
      s.sealing.signed.length < 16 ∧ s.crypt.rngSt = 1 ∧ 2 ≤ s.crypt.pkuNext) ∧
  (∃ (s : State) (e : Epoch) (rest : List Epoch), s.powered = true ∧ s.sealing.unsigned = e :: rest ∧ s.sealKeyOk = true ∧
      s.sealing.signed.length < 16 ∧ s.crypt.rngSt = 1 ∧ s.crypt.pkuNext < 2 ∧ s.pkuRun.1.crypt.pkuNext < 2) ∧
  (∃ (s : State) (e : Epoch) (rest : List Epoch), s.powered = true ∧ s.sealing.unsigned = e :: rest ∧ s.sealKeyOk = false ∧
      s.sealing.keyWait = false) ∧
  (∃ (s : State) (o : SealOut), s.vaultUp = true ∧ s.sealing.signed.getLast? = some o ∧ o.covered = false ∧ s.recordDue = true) ∧
  (∃ (s : State) (o : SealOut), s.vaultUp = true ∧ s.sealing.signed.getLast? = some o ∧ o.covered = false ∧ s.recordDue = true) ∧
  (∃ (s : State), s.recordDue = false) ∧
  (∃ (s : State) (l : SealLog) (o : SealOut), s.powered = true ∧ s.sealGoes = some (l, o)) ∧
  (∃ (s : State), s.powered = true ∧ s.busOk = true ∧ s.sealing.log.isSome = true) ∧
  (∃ (s : State), s.powered = true ∧ s.keeper.rtcValid = true ∧ fld (s.cfg 0x2404) 15 0 ≠ 0 ∧ s.sealing.uncWarned = false ∧
      s.sealing.base.isSome = true ∧ fld (s.cfg 0x2404) 15 0 * 1000000 < s.unc) :=
  ⟨⟨{ wSealing with sealing.running := false }, by decide +kernel⟩,
   ⟨wSealing, by decide +kernel⟩,
   ⟨wStr [wSeg] none, wStream [wSeg] none, wSeg, [], 0, by decide +kernel⟩,
   ⟨{ wStr [wSeg] none with host := { (wStr [wSeg] none).host with fetched := [wSeg.f] } }, wStream [wSeg] none, wSeg, [], 0,
       by decide +kernel⟩,
   ⟨{ wSealing with sealing := { wSealing.sealing with log := none, open_ := some { wEpoch with entries := List.replicate 65536 wListEnt } } }, by refine ⟨by decide +kernel, by decide +kernel, by decide +kernel, listFull_of _ _ rfl rfl rfl rfl rfl (Nat.le_of_eq List.length_replicate.symm), by decide +kernel⟩⟩,
   ⟨wStr [] (some wSegRun), 0, wStream [] (some wSegRun), wSegRun, by decide +kernel⟩,
   ⟨{ wStr [] none with press := { (wStr [] none).press with engines := [] }, sealing := { (wStr [] none).sealing with streams := [{ wStream [] (some wSegRun) with overlap := 64 }] } }, 0, { wStream [] (some wSegRun) with overlap := 64 }, wSegRun, by decide +kernel⟩,
   ⟨wSealing, wEpoch, by decide +kernel⟩,
   ⟨{ wSealing with sealing.signed := List.replicate 16 (wSealOut true) }, wEpoch, by decide +kernel⟩,
   ⟨{ wSealing with sealing.closed := [wEpoch] }, wEpoch, [], by decide +kernel⟩,
   ⟨(({ wStr [] (some wSegRun) with sealing := { (wStr [] (some wSegRun)).sealing with closed := [wEpoch] } } : State).setCfg 0x2400 0x83FF0000#32), wEpoch, [], by decide +kernel⟩,
   ⟨{ wSealing with sealing.unsigned := [wEpoch], crypt.pkuNext := 2 }, wEpoch, [], by decide +kernel⟩,
   ⟨{ wSealing with sealing.unsigned := [wEpoch], crypt.pkuAhead := [0] }, wEpoch, [], by decide +kernel⟩,
   ⟨{ wSealing with sealing.unsigned := [wEpoch], crypt.casks := wGuard.crypt.casks }, wEpoch, [], by decide +kernel⟩,
   ⟨{ wSealing with sealing.signed := [wSealOut false] }, wSealOut false, by decide +kernel⟩,
   ⟨{ wSealing with sealing.signed := [wSealOut false] }, wSealOut false, by decide +kernel⟩,
   ⟨{ wSealing with sealing.signed := [wSealOut false], sealing.jAt := some 0 }, by decide +kernel⟩,
   ⟨{ wSealing with sealing.signed := [wSealOut true] }, wLog, wSealOut true, by decide +kernel⟩,
   ⟨wSealing, by decide +kernel⟩,
   ⟨{ wSealing.setCfg 0x2404 1#32 with sealing.base := some (0, 2000000) }, by decide +kernel⟩⟩

/-- A state and operands that meet the hypotheses of each clause of SealingCommands. -/
theorem wit_SealingCommands :
  (∃ (s : State) (cid : Nat) (no : Nat) (qpair : Nat) (enc : Nat) (overlap : Nat) (label : Nat) (weight : Nat) (k : Nat) (f : Fetched),
      s.takes cid 0x30 f ∧ s.stream no = none ∧ s.streamOpenCheck no qpair enc overlap label weight = (reply .ok, k)) ∧
  (∃ (s : State) (cid : Nat) (no : Nat) (qpair : Nat) (enc : Nat) (overlap : Nat) (label : Nat) (weight : Nat) (f : Fetched),
      s.takes cid 0x30 f ∧ (s.streamOpenCheck no qpair enc overlap label weight).1.st ≠ .ok) ∧
  (∃ (s : State) (cid : Nat) (no : Nat) (x : Stream) (f : Fetched), s.takes cid 0x31 f ∧ s.sealMode = true ∧ s.stream no = some x ∧
      x.st ≠ .closed ∧ x.run = none ∧ x.queue = []) ∧
  (∃ (s : State) (cid : Nat) (no : Nat) (x : Stream) (r : SegRun) (f : Fetched), s.takes cid 0x31 f ∧ s.sealMode = true ∧
      s.stream no = some x ∧ x.st ≠ .closed ∧ x.run = some r ∧ x.queue = []) ∧
  (∃ (s : State) (cid : Nat) (no : Nat) (f : Fetched), s.takes cid 0x31 f ∧ s.sealMode = true ∧ s.stream no = none) ∧
  (∃ (s : State) (q : Nat) (cid : Nat) (no : Nat) (len : Nat) (dst : Nat) (rcpt : Nat) (d : Nat) (x : Stream) (f : Fetched),
      s.powered = true ∧ s.sealHead q cid 0x80 = some f ∧ s.segCheck q no len dst rcpt = (.ok, d) ∧ s.stream no = some x ∧
      x.closing = none) ∧
  (∃ (s : State) (q : Nat) (cid : Nat) (no : Nat) (len : Nat) (dst : Nat) (rcpt : Nat) (d : Nat) (st : Status) (f : Fetched),
      s.powered = true ∧ s.sealHead q cid 0x80 = some f ∧ s.segCheck q no len dst rcpt = (st, d) ∧ st ≠ .ok) ∧
  (∃ (s : State) (q : Nat) (cid : Nat) (form : Nat) (len : Nat) (rcpt : List Byte) (f : Fetched), s.powered = true ∧
      s.sealHead q cid 0x81 = some f ∧ s.busOk = true ∧ ((s.plat.mode = .verify ∨ s.plat.mode = .guard)) ∧ 1 ≤ len ∧ form ≤ 1 ∧
      len = leNat (bytesAt rcpt 24 8) ∧ s.tagCap q ≠ 0 ∧ (s.sealRun (1048576 + 65536 * q + cid)).2 = true) ∧
  (∃ (s : State) (q : Nat) (cid : Nat) (form : Nat) (len : Nat) (rcpt : List Byte) (f : Fetched), s.powered = true ∧
      s.sealHead q cid 0x81 = some f ∧ s.busOk = true ∧ ((s.plat.mode = .verify ∨ s.plat.mode = .guard)) ∧ 1 ≤ len ∧ form ≤ 1 ∧
      len = leNat (bytesAt rcpt 24 8) ∧ s.tagCap q ≠ 0 ∧ (s.sealRun (1048576 + 65536 * q + cid)).2 = false) ∧
  (∃ (s : State) (q : Nat) (cid : Nat) (form : Nat) (len : Nat) (rcpt : List Byte) (f : Fetched), s.powered = true ∧
      s.sealHead q cid 0x81 = some f ∧ s.busOk = true ∧ ((s.plat.mode = .verify ∨ s.plat.mode = .guard)) ∧ 1 ≤ len ∧ form ≤ 1 ∧
      len = leNat (bytesAt rcpt 24 8) ∧ leNat (bytesAt rcpt 0 2) ≠ 1 ∧ s.tagCap q ≠ 0 ∧ (s.sealRun (1048576 + 65536 * q + cid)).2 = true) ∧
  (∃ (s : State) (cid : Nat) (recBase : Nat) (listBase : Nat) (ctl : Nat) (recSlots : Nat) (listEnt : Nat) (f : Fetched),
      s.takes cid 0x32 f ∧ s.sealMode = true ∧
      logBad { recBase := recBase, recSlots := recSlots, listBase := listBase, listEnt := listEnt, ctl := ctl } = none ∧
      s.sealing.running = true ∧ s.sealing.log = none ∧ s.sealing.open_ = none) ∧
  (∃ (s : State) (cid : Nat) (recBase : Nat) (listBase : Nat) (ctl : Nat) (recSlots : Nat) (listEnt : Nat) (f : Fetched),
      s.takes cid 0x32 f ∧ s.sealMode = true ∧
      logBad { recBase := recBase, recSlots := recSlots, listBase := listBase, listEnt := listEnt, ctl := ctl } = none ∧
      s.sealing.running = true ∧ s.sealing.log.isSome = true) ∧
  (∃ (s : State) (cid : Nat) (len : Nat) (f : Fetched), s.takes cid 0x33 f ∧ s.sealMode = true ∧ 64 ≤ len ∧ s.crypt.rngSt = 1) ∧
  (∃ (s : State) (cid : Nat) (d : Nat) (t : AnchorTok) (q : AnchorReq) (f : Fetched), s.takes cid 0x34 f ∧ s.sealMode = true ∧ 1 ≤ t.len ∧
      s.sealing.request = some q ∧ s.anchorCheck t = (.ok, d) ∧ 2 ≤ s.crypt.pkuNext) ∧
  (∃ (s : State) (cid : Nat) (d : Nat) (t : AnchorTok) (q : AnchorReq) (f : Fetched), s.takes cid 0x34 f ∧ s.sealMode = true ∧ 1 ≤ t.len ∧
      s.sealing.request = some q ∧ s.anchorCheck t = (.ok, d) ∧ s.crypt.pkuNext < 2) ∧
  (∃ (s : State) (cid : Nat) (d : Nat) (t : AnchorTok) (st : Status) (f : Fetched), s.takes cid 0x34 f ∧ s.sealMode = true ∧ 1 ≤ t.len ∧
      s.anchorCheck t = (st, d) ∧ st ≠ .ok ∧ s.crypt.pkuNext < 2) :=
  ⟨⟨wSAdm 48 (wSealing), 5, 0, 0, 0, 0, 9, 1, 0, wFetched 0x30, by decide +kernel⟩,
   ⟨wSAdm 48 (wSealing), 5, 0, 1, 0, 0, 0, 1, wFetched 0x30, by decide +kernel⟩,
   ⟨wSAdm 49 (wStr [] none), 5, 0, wStream [] none, wFetched 0x31, by decide +kernel⟩,
   ⟨wSAdm 49 (wStr [] (some wSegRun)), 5, 0, wStream [] (some wSegRun), wSegRun, wFetched 0x31, by decide +kernel⟩,
   ⟨wSAdm 49 (wSealing), 5, 0, wFetched 0x31, by decide +kernel⟩,
   ⟨wSHead 128 (wStr [] none), 8, 5, 0, 67108864, 0, 64, 0, wStream [] none, wHead 0x80, by decide +kernel⟩,
   ⟨wSHead 128 (wStr [] none), 8, 5, 0, 67108865, 0, 64, 16, .invalidField, wHead 0x80, by decide +kernel⟩,
   ⟨wSHead 129 (wSealing), 8, 5, 0, 1, wRcpt 1#8, wHead 0x81, by decide +kernel⟩,
   ⟨{ wSHead 129 (wSealing) with press.engines := [] }, 8, 5, 0, 1, wRcpt 1#8, wHead 0x81, by decide +kernel⟩,
   ⟨wSHead 129 (wSealing), 8, 5, 1, 1, wRcpt 2#8, wHead 0x81, by decide +kernel⟩,
   ⟨wSAdm 50 ({ wSealing with sealing.log := none, sealing.open_ := none }), 5, 0, 64, 128, 16, 1024, wFetched 0x32, by decide +kernel⟩,
   ⟨wSAdm 50 (wSealing), 5, 0, 64, 128, 65536, 1024, wFetched 0x32, by decide +kernel⟩,
   ⟨wSAdm 51 (wSealing), 5, 64, wFetched 0x33, by decide +kernel⟩,
   ⟨{ wAnchored with crypt.pkuNext := 2 }, 5, 0, wAnchorTok, wAnchorReq, wFetched 0x34, by decide +kernel⟩,
   ⟨wAnchored, 5, 0, wAnchorTok, wAnchorReq, wFetched 0x34, by decide +kernel⟩,
   ⟨wAnchored, 5, 4, { wAnchorTok with sigOk := false }, .verifyFail, wFetched 0x34, by decide +kernel⟩⟩

/-- A state and operands that meet the hypotheses of each clause of Spdm. -/
theorem wit_Spdm :
  (∃ (s : State) (eid : Nat) (tr : Nat), s.spdmOn = true ∧ s.conn eid tr = none ∧ s.ident.conns.length < 4) ∧
  (∃ (s : State) (eid : Nat) (tr : Nat), s.spdmOn = true ∧ s.conn eid tr = none ∧ 4 ≤ s.ident.conns.length) ∧
  (∃ (s : State) (eid : Nat) (tr : Nat) (c : Conn), s.spdmOn = true ∧ s.conn eid tr = some c ∧ 1 ≤ c.stage) ∧
  (∃ (s : State) (eid : Nat) (tr : Nat) (c : Conn), s.spdmOn = true ∧ s.conn eid tr = some c ∧ 2 ≤ c.stage) ∧
  (∃ (s : State) (eid : Nat) (tr : Nat) (c : Conn), s.spdmOn = true ∧ s.conn eid tr = some c ∧ 2 ≤ c.stage) ∧
  (∃ (s : State) (eid : Nat) (tr : Nat) (c : Conn), s.spdmOn = true ∧ s.conn eid tr = some c ∧ c.stage < 3) ∧
  (∃ (s : State) (eid : Nat) (tr : Nat) (c : Conn), s.spdmOn = true ∧ s.conn eid tr = some c ∧ 3 ≤ c.stage) ∧
  (∃ (s : State) (eid : Nat) (tr : Nat) (c : Conn), s.spdmOn = true ∧ s.conn eid tr = some c ∧ 3 ≤ c.stage) ∧
  (∃ (s : State) (eid : Nat) (tr : Nat) (c : Conn), s.spdmOn = true ∧ s.conn eid tr = some c ∧ 3 ≤ c.stage ∧ s.spdmRestricted = false ∧
      s.crypt.rngSt = 1 ∧ s.crypt.pkuNext < 2) ∧
  (∃ (s : State) (eid : Nat) (tr : Nat) (c : Conn), s.spdmOn = true ∧ s.conn eid tr = some c ∧ 3 ≤ c.stage ∧ s.spdmRestricted = false ∧
      s.crypt.rngSt = 1 ∧ 2 ≤ s.crypt.pkuNext) ∧
  (∃ (s : State) (eid : Nat) (tr : Nat) (c : Conn), s.spdmOn = true ∧ s.conn eid tr = some c ∧ 3 ≤ c.stage ∧ s.spdmRestricted = true) ∧
  (∃ (s : State) (eid : Nat) (tr : Nat) (c : Conn), s.spdmOn = true ∧ s.conn eid tr = some c ∧ 3 ≤ c.stage) ∧
  (∃ (s : State) (eid : Nat) (tr : Nat) (c : Conn), s.spdmOn = true ∧ s.conn eid tr = some c ∧ 3 ≤ c.stage ∧ s.spdmRestricted = true) ∧
  (∃ (s : State) (eid : Nat) (tr : Nat) (c : Conn) (b : Bundle), s.spdmOn = true ∧ s.conn eid tr = some c ∧ 3 ≤ c.stage ∧
      s.spdmRestricted = false ∧ c.session = false ∧ s.sessions < 4 ∧ s.bundle = some b ∧ s.crypt.rngSt = 1 ∧ s.crypt.pkuNext < 2 ∧
      s.pkuRun.1.crypt.pkuNext < 2) ∧
  (∃ (s : State) (eid : Nat) (tr : Nat) (c : Conn), s.spdmOn = true ∧ s.conn eid tr = some c ∧ 3 ≤ c.stage ∧ c.session = true ∧
      c.finished = false) ∧
  (∃ (s : State) (eid : Nat) (tr : Nat) (c : Conn), s.spdmOn = true ∧ s.conn eid tr = some c ∧ 3 ≤ c.stage ∧ c.session = true ∧
      c.finished = false) ∧
  (∃ (s : State) (eid : Nat) (tr : Nat) (c : Conn), s.spdmOn = true ∧ s.conn eid tr = some c ∧ 3 ≤ c.stage ∧ c.session = true ∧
      c.finished = true) ∧
  (∃ (s : State) (eid : Nat) (tr : Nat) (c : Conn), s.spdmOn = true ∧ s.conn eid tr = some c ∧ 3 ≤ c.stage ∧ c.session = false) ∧
  (∃ (s : State) (eid : Nat) (tr : Nat) (c : Conn), s.spdmOn = true ∧ s.conn eid tr = some c ∧ 3 ≤ c.stage ∧ c.session = true ∧
      c.finished = true) ∧
  (∃ (s : State) (eid : Nat) (tr : Nat) (c : Conn), s.spdmOn = true ∧ s.conn eid tr = some c) ∧
  (∃ (s : State) (eid : Nat) (tr : Nat) (c : Conn), s.powered = true ∧ s.conn eid tr = some c ∧ c.session = true) ∧
  (∃ (s : State) (eid : Nat) (tr : Nat) (c : Conn), s.powered = true ∧ s.conn eid tr = some c ∧ c.ended = true) ∧
  (∃ (s : State) (n : Ch) (r : SpdmReq), s.spdmOn = true ∧ s.spdmEntry n = some r ∧ (s.chan n).st = .released) ∧
  (∃ (s : State) (n : Ch) (r : SpdmReq), s.spdmOn = true ∧ s.spdmEntry n = some r ∧ s.ident.spdm[n.val].open_ = true ∧
      s.ident.spdm[n.val].step < 5) ∧
  (∃ (s : State) (n : Ch) (r : SpdmReq), s.spdmOn = true ∧ s.spdmEntry n = some r ∧ s.ident.spdm[n.val].open_ = true ∧
      s.ident.spdm[n.val].step = 5) ∧
  (∃ (s : State) (n : Ch) (r : SpdmReq), s.spdmOn = true ∧ s.spdmEntry n = some r ∧ s.ident.spdm[n.val].open_ = true ∧
      s.ident.spdm[n.val].step = 5) ∧
  (∃ (s : State) (n : Ch) (d : Nat) (r : SpdmReq), s.spdmOn = true ∧ s.spdmEntry n = some r ∧ s.ident.spdm[n.val].open_ = true ∧
      s.ident.spdm[n.val].step = 5 ∧ d ≠ r.refdig) ∧
  (∃ (s : State) (n : Ch) (r : SpdmReq), s.spdmOn = true ∧ s.spdmEntry n = some r ∧ s.ident.spdm[n.val].open_ = true ∧
      s.ident.spdm[n.val].tries < 3) ∧
  (∃ (s : State) (n : Ch) (r : SpdmReq), s.spdmOn = true ∧ s.spdmEntry n = some r ∧ s.ident.spdm[n.val].open_ = true ∧
      3 ≤ s.ident.spdm[n.val].tries) :=
  ⟨⟨wFullSt wGuard, 8, 1, by decide +kernel⟩,
   ⟨{ wFullSt wGuard with ident.conns := List.replicate 4 (wConn 3) }, 9, 1, by decide +kernel⟩,
   ⟨wSpdm .guard (wConn 1), 8, 1, wConn 1, by decide +kernel⟩,
   ⟨wSpdm .guard (wConn 2), 8, 1, wConn 2, by decide +kernel⟩,
   ⟨wSpdm .guard (wConn 2), 8, 1, wConn 2, by decide +kernel⟩,
   ⟨wSpdm .guard (wConn 2), 8, 1, wConn 2, by decide +kernel⟩,
   ⟨wSpdm .guard (wConn 3), 8, 1, wConn 3, by decide +kernel⟩,
   ⟨wSpdm .guard (wConn 3), 8, 1, wConn 3, by decide +kernel⟩,
   ⟨wSpdm .guard (wConn 3), 8, 1, wConn 3, by decide +kernel⟩,
   ⟨{ wSpdm .guard (wConn 3) with crypt.pkuNext := 2 }, 8, 1, wConn 3, by decide +kernel⟩,
   ⟨wSpdm .lockdown (wConn 3), 8, 1, wConn 3, by decide +kernel⟩,
   ⟨wSpdm .guard (wConn 3), 8, 1, wConn 3, by decide +kernel⟩,
   ⟨wSpdm .lockdown (wConn 3), 8, 1, wConn 3, by decide +kernel⟩,
   ⟨{ wSpdm .guard (wConn 3) with crypt.pkuAhead := [0] }, 8, 1, wConn 3, wFull, by decide +kernel⟩,
   ⟨wSpdm .guard ({ wConn 3 with session := true }), 8, 1, { wConn 3 with session := true }, by decide +kernel⟩,
   ⟨wSpdm .guard ({ wConn 3 with session := true }), 8, 1, { wConn 3 with session := true }, by decide +kernel⟩,
   ⟨wSpdm .guard ({ wConn 3 with session := true, finished := true }), 8, 1, { wConn 3 with session := true, finished := true },
       by decide +kernel⟩,
   ⟨wSpdm .guard (wConn 3), 8, 1, wConn 3, by decide +kernel⟩,
   ⟨wSpdm .guard ({ wConn 3 with session := true, finished := true }), 8, 1, { wConn 3 with session := true, finished := true },
       by decide +kernel⟩,
   ⟨wSpdm .guard (wConn 3), 8, 1, wConn 3, by decide +kernel⟩,
   ⟨wSpdm .guard ({ wConn 3 with session := true }), 8, 1, { wConn 3 with session := true }, by decide +kernel⟩,
   ⟨wSpdm .guard ({ wConn 3 with ended := true }), 8, 1, { wConn 3 with ended := true }, by decide +kernel⟩,
   ⟨{ wAsked 0 0 with ident.spdm := wGuard.ident.spdm }, 0, wSReq, by decide +kernel⟩,
   ⟨wAsked 1 4, 0, wSReq, by decide +kernel⟩,
   ⟨wAsked 1 5, 0, wSReq, by decide +kernel⟩,
   ⟨wAsked 1 5, 0, wSReq, by decide +kernel⟩,
   ⟨wAsked 1 5, 0, 8, wSReq, by decide +kernel⟩,
   ⟨wAsked 2 2, 0, wSReq, by decide +kernel⟩,
   ⟨wAsked 3 5, 0, wSReq, by decide +kernel⟩⟩

/-- A state and operands that meet the hypotheses of each clause of SidebandPorts. -/
theorem wit_SidebandPorts :
  (∃ (s : State) (p : Fin 2) (bank : Nat) (off : Nat), s.portOn p.val = true ∧ s.sbCfg p.val 3 = true ∧ s.sbCfg p.val 2 = false ∧
      bank < 0x30 ∧ off < 256 ∧ off % 4 = 0) ∧
  (∃ (s : State) (p : Fin 2) (bank : Nat), s.portOn p.val = true ∧ s.sbCfg p.val 3 = true ∧ s.sbCfg p.val 2 = false ∧ 0x30 ≤ bank) ∧
  (∃ (s : State) (p : Fin 2), s.portOn p.val = true ∧ s.sbCfg p.val 3 = false ∧ s.sbMode p.val = 1) ∧
  (∃ (s : State) (p : Fin 2) (bank : Nat) (off : Nat) (data : List Byte), s.portOn p.val = true ∧ s.sbCfg p.val 3 = true ∧
      s.sbCfg p.val 2 = false ∧ s.windowRo p.val = false ∧ bank < 0x30 ∧ off < 256 ∧ off % 4 = 0 ∧ 4 ≤ data.length) ∧
  (∃ (s : State) (p : Fin 2) (bank : Nat) (off : Nat) (data : List Byte), s.portOn p.val = true ∧ s.sbCfg p.val 3 = true ∧
      s.sbCfg p.val 2 = false ∧ s.windowRo p.val = true ∧ windowFree (256 * bank + off) = false ∧ off < 256 ∧ off % 4 = 0 ∧
      4 ≤ data.length) ∧
  (∃ (s : State) (p : Fin 2) (n : Nat) (data : List Byte), s.portOn p.val = true ∧ s.sbCfg p.val 3 = true ∧ s.sbCfg p.val 2 = true ∧
      s.sbMode p.val = 2 ∧ 1 ≤ n ∧ n ≤ 32 ∧ n ≤ data.length) ∧
  (∃ (s : State) (p : Fin 2), s.portOn p.val = true ∧ s.sbMode p.val = 1) ∧
  (∃ (s : State) (p : Fin 2) (len : Nat), s.portOn p.val = true ∧ s.sbCfg p.val 5 = true ∧ (s.sb p.val).msgs.length < 8 ∧ len ≤ 64) ∧
  (∃ (s : State) (p : Fin 2) (len : Nat), s.portOn p.val = true ∧ s.sbCfg p.val 5 = true ∧ (s.sb p.val).msgs.length < 8 ∧ len ≤ 64) ∧
  (∃ (s : State) (p : Fin 2), s.portOn p.val = true ∧ 8 ≤ (s.sb p.val).msgs.length) ∧
  (∃ (s : State) (tr : Nat) (e : Nat) (t : Nat) (rest : List (Nat × Nat)), s.serving = true ∧ 1 ≤ tr ∧ tr ≤ 2 ∧ (s.sb (tr - 1)).msgs = (e,
      t) :: rest ∧ typeAccepted tr t = true) ∧
  (∃ (s : State) (type : Nat) (lens : List Nat), s.serving = true ∧ s.host.linkUp = true ∧ vdmWhole lens = true ∧
      typeAccepted 0 type = true) ∧
  (∃ (s : State) (lens : List Nat), s.serving = true ∧ vdmWhole lens = false) ∧
  (∃ (s : State) (eid : Nat), s.serving = true ∧ s.host.linkUp = true ∧ 1 ≤ eid ∧ eid < 255) ∧
  (∃ (s : State) (tr : Nat) (eid : Nat), s.serving = true ∧ 1 ≤ tr ∧ tr ≤ 2 ∧ 1 ≤ eid ∧ eid < 255) ∧
  (∃ (s : State) (p : Fin 2) (b : List Byte) (rest : List (List Byte)), s.portOn p.val = true ∧ s.sbMode p.val = 1 ∧
      (s.sb p.val).resp = b :: rest) ∧
  (∃ (s : State) (p : Fin 2) (b : List Byte) (rest : List (List Byte)), s.portOn p.val = true ∧ s.sbMode p.val = 1 ∧
      (s.sb p.val).resp = b :: rest ∧ 3 ≤ (s.sb p.val).tries) ∧
  (∃ (s : State) (p : Fin 2) (b : List Byte) (rest : List (List Byte)), s.portOn p.val = true ∧ s.sbMode p.val = 2 ∧
      (s.sb p.val).resp = b :: rest) ∧
  (∃ (s : State) (p : Fin 2), s.portOn p.val = true ∧ s.sbMode p.val = 2 ∧ (s.sb p.val).resp = []) :=
  ⟨⟨wSide 0x9 id, 0, 0x2F, 252, by decide +kernel⟩,
   ⟨wSide 0x9 id, 0, 0x30, by decide +kernel⟩,
   ⟨wSide 0x1 id, 0, by decide +kernel⟩,
   ⟨wSide 0x9 id, 0, 0x2F, 252, [1#8, 2#8, 3#8, 4#8], by decide +kernel⟩,
   ⟨wSide 0x19 id, 0, 0x2F, 252, [1#8, 2#8, 3#8, 4#8], by decide +kernel⟩,
   ⟨wSide 0xE id, 0, 4, [1#8, 2#8, 3#8, 4#8], by decide +kernel⟩,
   ⟨wSide 0x1 id, 0, by decide +kernel⟩,
   ⟨wSide 0x21 id, 0, 64, by decide +kernel⟩,
   ⟨wSide 0x21 id, 0, 64, by decide +kernel⟩,
   ⟨wSide 0x21 (fun z => { z with msgs := List.replicate 8 (9, 6) }), 0, by decide +kernel⟩,
   ⟨wSide 0x21 (fun z => { z with msgs := [(9, 6)] }), 1, 9, 6, [], by decide +kernel⟩,
   ⟨wLink, 5, [64, 64, 10], by decide +kernel⟩,
   ⟨wGuard, [60, 64], by decide +kernel⟩,
   ⟨wLink, 254, by decide +kernel⟩,
   ⟨wGuard, 2, 1, by decide +kernel⟩,
   ⟨wSide 0x21 (fun z => { z with resp := [[1#8]] }), 0, [1#8], [], by decide +kernel⟩,
   ⟨wSide 0x21 (fun z => { z with resp := [[1#8]], tries := 3 }), 0, [1#8], [], by decide +kernel⟩,
   ⟨wSide 0x22 (fun z => { z with resp := [[1#8]] }), 0, [1#8], [], by decide +kernel⟩,
   ⟨wSide 0x22 id, 0, by decide +kernel⟩⟩

/-- A state and operands that meet the hypotheses of each clause of I3cCodes. -/
theorem wit_I3cCodes :
  (∃ (s : State) (p : Fin 2), s.i3cOn p.val = true ∧ (s.sb p.val).dyn = none) ∧
  (∃ (s : State) (p : Fin 2), s.i3cOn p.val = true ∧ (s.sb p.val).dyn = none) ∧
  (∃ (s : State) (p : Fin 2) (a : Nat), s.i3cOn p.val = true ∧ (s.sb p.val).dyn = some a) ∧
  (∃ (s : State) (p : Fin 2), s.i3cOn p.val = true) ∧
  (∃ (s : State) (p : Fin 2), s.i3cOn p.val = true) ∧
  (∃ (s : State) (p : Fin 2), s.i3cOn p.val = true) ∧
  (∃ (s : State) (p : Fin 2) (a : Nat), s.i3cOn p.val = true ∧ a ≠ s.sbAddr p.val) ∧
  (∃ (s : State) (p : Fin 2), s.i3cOn p.val = true) ∧
  (∃ (s : State) (p : Fin 2), s.i3cOn p.val = true) ∧
  (∃ (s : State) (p : Fin 2), s.i3cOn p.val = true) ∧
  (∃ (s : State) (p : Fin 2), s.i3cOn p.val = true) ∧
  (∃ (s : State) (p : Fin 2), s.i3cOn p.val = true) ∧
  (∃ (s : State) (p : Fin 2), s.i3cOn p.val = true) ∧
  (∃ (s : State) (p : Fin 2), s.i3cOn p.val = true) ∧
  (∃ (s : State) (p : Fin 2), s.i3cOn p.val = true) ∧
  (∃ (s : State) (p : Fin 2), s.i3cOn p.val = true) :=
  ⟨⟨wSide 0x2A id, 0, by decide +kernel⟩,
   ⟨wSide 0x2A id, 0, by decide +kernel⟩,
   ⟨wSide 0x2A (fun z => { z with dyn := some 9 }), 0, 9, by decide +kernel⟩,
   ⟨wSide 0x2A (fun z => { z with dyn := some 9 }), 0, by decide +kernel⟩,
   ⟨wSide 0x2A id, 0, by decide +kernel⟩,
   ⟨wSide 0x2A id, 0, by decide +kernel⟩,
   ⟨wSide 0x2A id, 0, 1, by decide +kernel⟩,
   ⟨wSide 0x2A id, 0, by decide +kernel⟩,
   ⟨wSide 0x2A id, 0, by decide +kernel⟩,
   ⟨wSide 0x2A id, 0, by decide +kernel⟩,
   ⟨wSide 0x2A id, 0, by decide +kernel⟩,
   ⟨wSide 0x2A id, 0, by decide +kernel⟩,
   ⟨wSide 0x2A id, 0, by decide +kernel⟩,
   ⟨wSide 0x2A id, 0, by decide +kernel⟩,
   ⟨wSide 0x2A id, 0, by decide +kernel⟩,
   ⟨wSide 0x2A id, 0, by decide +kernel⟩⟩

/-- A state and operands that meet the hypotheses of each clause of SidebandCommands. -/
theorem wit_SidebandCommands :
  (∃ (s : State), s.serving = true ∧ s.adminAllowed 0x01 = true ∧ s.firmwareAway 0x01 = false) ∧
  (∃ (s : State) (max : Nat), s.serving = true ∧ s.adminAllowed 0x03 = true ∧ s.firmwareAway 0x03 = false ∧ 1 ≤ max ∧ max ≤ 120) ∧
  (∃ (s : State) (chain : Nat) (off : Nat) (len : Nat), s.serving = true ∧ s.adminAllowed 0x05 = true ∧ s.firmwareAway 0x05 = false ∧
      chain ≤ 1 ∧ 1 ≤ len ∧ len ≤ 4000 ∧ off < (s.certImage (decide (chain = 1))).length) ∧
  (∃ (s : State), s.serving = true ∧ s.adminAllowed 0x04 = true ∧ s.firmwareAway 0x04 = false) ∧
  (∃ (s : State) (n : Ch) (b : Bundle), s.serving = true ∧ s.adminAllowed 0x10 = true ∧ s.firmwareAway 0x10 = false ∧ s.bundle = some b ∧
      b.bmcEid ≠ 0 ∧ (s.chan n).st ≠ .disabled ∧ (s.chan n).phase = .boot) ∧
  (∃ (s : State) (eid : Nat) (b : Bundle), s.serving = true ∧ s.bundle = some b ∧ eid ≠ b.bmcEid) ∧
  (∃ (s : State) (n : Ch) (k : SlotId) (m : Manifest) (b : Bundle), s.serving = true ∧ s.adminAllowed 0x11 = true ∧
      s.firmwareAway 0x11 = false ∧ s.bundle = some b ∧ b.bmcEid ≠ 0 ∧ s.perm 1 = true ∧ s.activateStatus n k 0 m = .ok ∧
      s.crypt.pkuNext < 2) ∧
  (∃ (s : State) (b : Bundle), s.serving = true ∧ s.adminAllowed 0x11 = true ∧ s.firmwareAway 0x11 = false ∧ s.bundle = some b ∧
      b.bmcEid ≠ 0 ∧ s.perm 1 = false) ∧
  (∃ (s : State) (n : Ch) (b : Bundle), s.serving = true ∧ s.adminAllowed 0x14 = true ∧ s.firmwareAway 0x14 = false ∧ s.bundle = some b ∧
      b.bmcEid ≠ 0 ∧ (s.chan n).st = .quarantined ∧ s.perm 3 = true ∧ s.intentsOk = true) ∧
  (∃ (s : State) (off : Nat) (len : Nat) (b : Bundle), s.serving = true ∧ s.adminAllowed 0x20 = true ∧ s.firmwareAway 0x20 = false ∧
      s.bundle = some b ∧ b.bmcEid ≠ 0 ∧ s.perm 5 = true ∧ s.polChunkOk off len = true) ∧
  (∃ (s : State) (off : Nat) (len : Nat) (b : Bundle) (c : Bundle), s.serving = true ∧ s.adminAllowed 0x20 = true ∧
      s.firmwareAway 0x20 = false ∧ s.bundle = some b ∧ b.bmcEid ≠ 0 ∧ s.perm 5 = true ∧ s.polChunkOk off len = true ∧
      (s.policyCheck true c).2 = .ok ∧ s.crypt.pkuNext < 2) ∧
  (∃ (s : State) (len : Nat) (last : Bool) (b : Bundle) (p : Package), s.serving = true ∧ s.adminAllowed 0x21 = true ∧
      s.firmwareAway 0x21 = false ∧ s.bundle = some b ∧ b.bmcEid ≠ 0 ∧ s.perm 4 = true ∧ s.intentsOk = true ∧ s.ident.fwState = .idle ∧
      s.ident.dl = noStream ∧ packageFormOk p = true ∧ 4 + p.len ≤ len ∧ len ≤ 4000 ∧ chunkStatus noStream p.size 0 len last = reply .ok) ∧
  (∃ (s : State) (len : Nat) (last : Bool) (p : Package), s.serving = true ∧ s.adminAllowed 0x21 = true ∧ s.firmwareAway 0x21 = false ∧
      s.plat.romsvc = true ∧ s.intentsOk = true ∧ s.ident.fwState = .idle ∧ s.ident.dl = noStream ∧ packageFormOk p = true ∧
      4 + p.len ≤ len ∧ len ≤ 4000 ∧ chunkStatus noStream p.size 0 len last = reply .ok) ∧
  (∃ (s : State) (target : Nat) (b : Bundle), s.serving = true ∧ s.adminAllowed 0x22 = true ∧ s.firmwareAway 0x22 = false ∧
      s.bundle = some b ∧ b.bmcEid ≠ 0 ∧ s.plat.mode = .guard ∧ s.fwActivateStatus true target = .ok) ∧
  (∃ (s : State) (b : Bundle), s.serving = true ∧ s.adminAllowed 0x10 = true ∧ s.firmwareAway 0x10 = true ∧ s.bundle = some b ∧
      b.bmcEid ≠ 0) ∧
  (∃ (s : State), s.serving = true ∧ s.adminAllowed 0x05 = false) :=
  ⟨⟨wFullSt wGuard, by decide +kernel⟩,
   ⟨wFullSt wGuard, 120, by decide +kernel⟩,
   ⟨wFullSt wGuard, 1, 0, 4000, by decide +kernel⟩,
   ⟨wFullSt wGuard, by decide +kernel⟩,
   ⟨wFullSt wRel, 0, wFull, by decide +kernel⟩,
   ⟨wFullSt wRel, 8, wFull, by decide +kernel⟩,
   ⟨(wChan (wFullSt (wMap 1 wGuard)) (fun c => { c with st := .released, phase := .update })).setCfg (fch 0 0xB8) 0x80000000#32 |>.setCfg (stKey 0 1 0) (word (0x800 + 0x400)), 0, 0, wGoodMan, wFull, by decide +kernel⟩,
   ⟨{ wFullSt wRel with ident.applied := some (0, { wFull with perms := 0 }) }, { wFull with perms := 0 }, by decide +kernel⟩,
   ⟨wChan (wFullSt wGuard) (fun c => { c with st := .quarantined }), 0, wFull, by decide +kernel⟩,
   ⟨wFullSt wGuard, 0, 4000, wFull, by decide +kernel⟩,
   ⟨wFullSt wGuard, 0, 4000, wFull, { wFull with version := 2, digest := 12 }, by decide +kernel⟩,
   ⟨{ wFwSt with ident.fwState := .idle }, 4000, false, wFull, { wPkg with len := 3996 }, by decide +kernel⟩,
   ⟨{ wFwSt with ident.fwState := .idle, plat.romsvc := true, ident.applied := none }, 4000, false, { wPkg with len := 3996 },
       by decide +kernel⟩,
   ⟨wFwIn .downloaded, 2, wFull, by decide +kernel⟩,
   ⟨{ wFullSt wGuard with ident.hand := some { warden := true, rest := [], st := .halted } }, wFull, by decide +kernel⟩,
   ⟨{ wGuard with plat.romsvc := true }, by decide +kernel⟩⟩

/-- A state and operands that meet the hypotheses of each clause of AuxiliaryPorts. -/
theorem wit_AuxiliaryPorts :
  (∃ (s : State) (q : Req) (a : Fin 2) (sel : Nat) (len : Nat), s.reaches_ q = true ∧ sel < 4 ∧ 1 ≤ len ∧ len < 16384 ∧
      (s.auxPort a.val).busy = false ∧ s.asFrame a.val = false ∧ s.selOk a.val sel = true ∧ s.asMaster a.val = true) ∧
  (∃ (s : State) (q : Req) (a : Fin 2) (sel : Nat) (len : Nat), s.reaches_ q = true ∧ sel < 4 ∧ 1 ≤ len ∧ len < 16384 ∧
      (s.auxPort a.val).busy = false ∧ s.asFrame a.val = false ∧ s.selOk a.val sel = true ∧ s.asMaster a.val = false) ∧
  (∃ (s : State) (q : Req) (a : Fin 2) (len : Nat), s.reaches_ q = true ∧ 1 ≤ len ∧ len < 16384 ∧ (s.auxPort a.val).busy = true) ∧
  (∃ (s : State) (q : Req), s.reaches_ q = true) ∧
  (∃ (s : State) (q : Req) (a : Fin 2), s.reaches_ q = true ∧ (s.auxPort a.val).busy = true) ∧
  (∃ (s : State) (q : Req) (a : Fin 2), s.reaches_ q = true ∧ s.asFrame a.val = true ∧ (s.auxPort a.val).busy = false ∧
      4 ≤ s.asWidth a.val ∧ s.asWidth a.val ≤ 32 ∧ s.selOk a.val (s.asFsel a.val) = true ∧ s.asMaster a.val = true) ∧
  (∃ (s : State) (q : Req) (a : Fin 2), s.reaches_ q = true ∧ s.asFrame a.val = true ∧ s.asWidth a.val < 4) ∧
  (∃ (s : State) (a : Fin 2), s.powered = true ∧ (s.auxPort a.val).busy = true ∧ s.asMaster a.val = true ∧ (s.auxPort a.val).frame = true) ∧
  (∃ (s : State) (a : Fin 2), s.powered = true ∧ (s.auxPort a.val).busy = true ∧ s.asMaster a.val = true ∧
      (s.auxPort a.val).frame = false) ∧
  (∃ (s : State) (a : Fin 2) (n : Nat), s.powered = true ∧ s.asMaster a.val = false ∧ (s.auxPort a.val).busy = true ∧
      n ≤ (s.auxPort a.val).len) ∧
  (∃ (s : State) (a : Fin 2), s.powered = true ∧ s.asMaster a.val = false ∧ (s.auxPort a.val).busy = false) ∧
  (∃ (s : State), s.powered = true ∧ s.haltScope = true) ∧
  (∃ (s : State), s.powered = true ∧ s.haltScope = true) ∧
  (∃ (s : State), s.haltScope = false) ∧
  (∃ (s : State) (k : Fin 16), s.powered = true ∧ bit s.aux.gpioIn k.val = false ∧ s.gpioInput k.val = true ∧
      bit (s.cfg 0x2890) k.val = true) ∧
  (∃ (s : State) (k : Fin 16), s.powered = true ∧ bit s.aux.gpioIn k.val = true ∧ s.gpioInput k.val = false) :=
  ⟨⟨wAux 0x80000000 id, .host, 0, 3, 16383, by decide +kernel⟩,
   ⟨wAux 0 id, .host, 0, 0, 1, by decide +kernel⟩,
   ⟨wAux 0x80000000 (fun z => { z with busy := true, len := 16 }), .side, 0, 8, by decide +kernel⟩,
   ⟨wAux 0x80000000 id, .host, by decide +kernel⟩,
   ⟨wAux 0x80000000 (fun z => { z with busy := true, len := 16 }), .host, 0, by decide +kernel⟩,
   ⟨wAux 0xA0200000 id, .host, 0, by decide +kernel⟩,
   ⟨wAux 0xA0030000 id, .host, 0, by decide +kernel⟩,
   ⟨wAux 0xA0200000 (fun z => { z with busy := true, len := 32, frame := true }), 0, by decide +kernel⟩,
   ⟨wAux 0x80000000 (fun z => { z with busy := true, len := 16 }), 0, by decide +kernel⟩,
   ⟨wAux 0 (fun z => { z with busy := true, len := 16 }), 0, 16, by decide +kernel⟩,
   ⟨wAux 0 id, 0, by decide +kernel⟩,
   ⟨wLcState 0#16 0#16, by decide +kernel⟩,
   ⟨wLcState 0#16 0#16, by decide +kernel⟩,
   ⟨wGuard, by decide +kernel⟩,
   ⟨{ wGuard.setCfg 0x2890 0x8000#32 with ctl.driven := false }, 15, by decide +kernel⟩,
   ⟨{ wGuard.setCfg 0x2880 0x80000000#32 with aux.gpioIn := 0x8000#32, ctl.driven := true }, 15, by decide +kernel⟩⟩

/-- A state and operands that meet the hypotheses of each clause of CryptoUnits. -/
theorem wit_CryptoUnits :
  (∃ (s : State) (e : Nat), s.background = true ∧ s.crypt.root ≠ none ∧ e < 8) ∧
  (∃ (s : State) (e : Nat), s.background = true ∧ s.crypt.root ≠ none ∧ 8 ≤ e) ∧
  (∃ (s : State) (m : Nat), s.reenrolReady = true ∧ s.crypt.buffers = some m) ∧
  (∃ (s : State) (m : Nat), s.reenrolReady = true ∧ s.crypt.buffers = some m) ∧
  (∃ (s : State), s.powered = true) ∧
  (∃ (s : State), s.powered = true ∧ s.plat.mode ≠ .lockdown) ∧
  (∃ (s : State), s.plat.mode = .lockdown) ∧
  (∃ (s : State), s.background = false) ∧
  (∃ (s : State), s.background = false) ∧
  (∃ (s : State) (e : Nat), s.background = true ∧ s.crypt.draining = none ∧ nextUnit s.press.engines 8 s.crypt.nextEngine = some e) ∧
  (∃ (s : State) (l : Nat), s.background = true ∧ s.crypt.draining = none ∧ nextUnit s.crypt.lanes 4 s.crypt.nextLane = some l) ∧
  (∃ (s : State) (e : Nat), s.powered = true ∧ s.crypt.draining = some e ∧ e < 8) ∧
  (∃ (s : State) (e : Nat), s.powered = true ∧ s.crypt.draining = some e ∧ e < 8) ∧
  (∃ (s : State) (e : Nat), s.powered = true ∧ s.crypt.draining = some e ∧ 8 ≤ e) ∧
  (∃ (s : State) (e : Fin 8), s.powered = true ∧ s.press.engines.getD e.val .out = .inService ∧ bit (s.cfg 0x2610) 23 = true) ∧
  (∃ (s : State) (e : Fin 8), s.powered = true ∧ s.press.engines.getD e.val .out = .inService ∧ bit (s.cfg 0x2610) 23 = false) ∧
  (∃ (s : State) (e : Fin 8), s.powered = true ∧ s.press.engines.getD e.val .out = .derated) ∧
  (∃ (s : State), s.powered = true ∧ s.crypt.rngSt = 1) ∧
  (∃ (s : State), s.powered = true ∧ s.crypt.rngSt = 1 ∧ s.crypt.failTimes = []) ∧
  (∃ (s : State), s.powered = true ∧ s.crypt.rngSt = 1 ∧
      2 ≤ (s.crypt.failTimes.filter (fun t => decide (s.time - t ≤ secondCycles))).length) ∧
  (∃ (s : State), s.powered = true ∧ s.crypt.rngSt = 2) ∧
  (∃ (s : State), s.powered = true ∧ s.crypt.rngSt = 2) :=
  ⟨⟨wSigned wGuard, 7, by decide +kernel⟩,
   ⟨wSigned wGuard, 8, by decide +kernel⟩,
   ⟨wDue, 3, by decide +kernel⟩,
   ⟨wDue, 3, by decide +kernel⟩,
   ⟨wGuard, by decide +kernel⟩,
   ⟨wGuard, by decide +kernel⟩,
   ⟨wMode .lockdown, by decide +kernel⟩,
   ⟨wMode .hold, by decide +kernel⟩,
   ⟨wMode .lockdown, by decide +kernel⟩,
   ⟨wGuard, 0, by decide +kernel⟩,
   ⟨wGuard, 0, by decide +kernel⟩,
   ⟨{ wGuard with crypt.draining := some 7 }, 7, by decide +kernel⟩,
   ⟨{ wGuard with crypt.draining := some 7 }, 7, by decide +kernel⟩,
   ⟨{ wGuard with crypt.draining := some 8 }, 8, by decide +kernel⟩,
   ⟨wGuard.setCfg 0x2610 0x00800000#32, 7, by decide +kernel⟩,
   ⟨wGuard.setCfg 0x2610 0#32, 0, by decide +kernel⟩,
   ⟨{ wGuard with press.engines := wGuard.press.engines.set 1 .derated }, 1, by decide +kernel⟩,
   ⟨wRng 1, by decide +kernel⟩,
   ⟨wRng 1, by decide +kernel⟩,
   ⟨{ wRng 1 with crypt.failTimes := [0, 0] }, by decide +kernel⟩,
   ⟨wRng 2, by decide +kernel⟩,
   ⟨wRng 2, by decide +kernel⟩⟩

/-- A state and operands that meet the hypotheses of each clause of TamperResponse. -/
theorem wit_TamperResponse :
  (∃ (s : State) (x : Fin 20), s.powered = true ∧ 8 ≤ x.val ∧ s.sourceLive x.val = true ∧ s.tamperClass x.val = 1) ∧
  (∃ (s : State) (x : Fin 20), s.powered = true ∧ 8 ≤ x.val ∧ s.sourceLive x.val = true ∧ s.tamperClass x.val = 2) ∧
  (∃ (s : State) (x : Fin 20), s.powered = true ∧ 8 ≤ x.val ∧ s.sourceLive x.val = true ∧ s.tamperClass x.val = 3) ∧
  (∃ (s : State) (x : Fin 20), s.powered = true ∧ 8 ≤ x.val ∧ s.sourceLive x.val = true ∧ s.tamperClass x.val = 5) ∧
  (∃ (s : State) (x : Fin 20) (l : Bool), s.powered = true ∧ x.val < 8 ∧ l ≠ bit (s.cfg 0xC8) (24 + x.val)) ∧
  (∃ (s : State) (k : Fin 2), s.powered = true ∧ bit (s.cfg 0xCC) (30 + k.val) = true) ∧
  (∃ (s : State), s.powered = true ∧ bit (s.cfg 0xCC) 30 = true ∧ s.life.mesh0 + 1 < fld (s.cfg 0xCC) 3 0) ∧
  (∃ (s : State), s.powered = true ∧ bit (s.cfg 0xCC) 30 = true ∧ fld (s.cfg 0xCC) 3 0 ≤ s.life.mesh0 + 1 ∧ s.tamperClass 8 = 1) ∧
  (∃ (s : State) (k : Nat), s.plat.mode = .shelf ∧ s.keeper.vbat = true ∧ bit (s.cfg 0xCC) 30 = true ∧ 1 ≤ k) ∧
  (∃ (s : State) (q : Int), s.plat.mode = .shelf ∧ s.keeper.vbat = true ∧ q < -200 ∧ s.tamperClass 12 = 3) ∧
  (∃ (s : State) (q : Int), s.plat.mode = .shelf ∧ s.keeper.vbat = true ∧ -200 ≤ q ∧ q ≤ 520) ∧
  (∃ (s : State), s.powered = true ∧ s.tamperClass 19 = 0) :=
  ⟨⟨wTamp 0x200#32, 13, by decide +kernel⟩,
   ⟨wTamp 0x400#32, 13, by decide +kernel⟩,
   ⟨wTamp 0x600#32, 13, by decide +kernel⟩,
   ⟨wTamp 0xA00#32, 13, by decide +kernel⟩,
   ⟨wGuard.setCfg 0xC8 0x80000000#32, 7, false, by decide +kernel⟩,
   ⟨{ wGuard.setCfg 0xCC 0x80000011#32 with life.mesh1 := 1 }, 1, by decide +kernel⟩,
   ⟨wGuard.setCfg 0xCC 0x40000002#32, by decide +kernel⟩,
   ⟨(wGuard.setCfg 0xCC 0x40000001#32).setCfg 0xC0 0x01000000#32, by decide +kernel⟩,
   ⟨({ wMode .shelf with life.mesh0 := 3 } : State).setCfg 0xCC 0x40000004#32, 1, by decide +kernel⟩,
   ⟨(wMode .shelf).setCfg 0xC4 0xC0#32, -201, by decide +kernel⟩,
   ⟨wMode .shelf, -200, by decide +kernel⟩,
   ⟨wGuard.setCfg 0xC4 0#32, by decide +kernel⟩⟩

/-- A state and operands that meet the hypotheses of each clause of Recorder. -/
theorem wit_Recorder :
  (∃ (s : State) (r : Raise) (rest : List Raise), s.powered = true ∧ s.evt.transit = r :: rest ∧ bit (s.route r.src) 30 = true ∧
      s.evt.inflight.any (fun x => x.src = r.src) = false) ∧
  (∃ (s : State) (r : Raise) (rest : List Raise), s.powered = true ∧ s.evt.transit = r :: rest ∧ bit (s.route r.src) 30 = true ∧
      s.evt.inflight.any (fun x => x.src = r.src) = true) ∧
  (∃ (s : State) (r : Raise) (rest : List Raise), s.powered = true ∧ s.evt.transit = r :: rest ∧ bit (s.route r.src) 30 = false ∧
      r.src ≠ 872) ∧
  (∃ (s : State), s.evt.transit = []) ∧
  (∃ (s : State) (r : Rec) (rest : List Rec), s.powered = true ∧ s.evt.inflight = r :: rest ∧ s.evt.ringFail = false ∧
      s.evt.ring.length < 4096 ∧ s.evt.pend = []) ∧
  (∃ (s : State) (r : Rec) (rest : List Rec) (p : PendCnt), s.powered = true ∧ s.evt.inflight = r :: rest ∧ s.evt.ringFail = false ∧
      s.evt.ring.length < 4096 ∧ s.evt.pend = [p] ∧ p.src = r.src) ∧
  (∃ (s : State), s.powered = true ∧ s.evt.ringFail = false) ∧
  (∃ (s : State), s.powered = true ∧ s.journalKey ≠ none ∧ s.evt.staging ≠ []) ∧
  (∃ (s : State), s.journalKey = none) ∧
  (∃ (s : State) (b : JBlock) (rest : List JBlock), s.vaultUp = true ∧ s.evt.jwait = b :: rest ∧ s.evt.jFail = false ∧
      s.evt.journal.length < 127 * 256) ∧
  (∃ (s : State) (b : JBlock) (rest : List JBlock), s.powered = true ∧ s.clk.flashLost = false ∧ s.evt.jwait = b :: rest ∧
      s.evt.jFail = false) ∧
  (∃ (s : State), s.vaultUp = false) ∧
  (∃ (s : State), s.vaultUp = true ∧ s.journalKey ≠ none ∧ s.evt.jFail = true) ∧
  (∃ (s : State), s.powered = true) ∧
  (∃ (s : State) (v : Nat), s.powered = true ∧ s.evt.msiGap = [(v, false)]) ∧
  (∃ (s : State) (v : Fin 64), s.powered = true ∧ s.evt.msiGap = [(v.val, true)] ∧ s.host.vecs[v].masked = false ∧
      s.host.funcMask = false ∧ s.host.msixEn = true ∧ s.busOk = true) ∧
  (∃ (s : State), s.powered = true ∧ s.tlm.period ≠ 0 ∧ s.tlm.snaps ≠ []) ∧
  (∃ (s : State), s.powered = true ∧ s.tlm.period ≠ 0) ∧
  (∃ (s : State) (r : List Byte), s.powered = true ∧ s.tlm.due = some r) :=
  ⟨⟨wEvt (fun e => { e with transit := [wRaise 17] }), wRaise 17, [], by decide +kernel⟩,
   ⟨wEvt (fun e => { e with transit := [wRaise 17], inflight := [wRec1 17] }), wRaise 17, [], by decide +kernel⟩,
   ⟨(wEvt (fun e => { e with transit := [wRaise 17] })).setCfg (routeKey 17) 0#32, wRaise 17, [], by decide +kernel⟩,
   ⟨wGuard, by decide +kernel⟩,
   ⟨wEvt (fun e => { e with inflight := [wRec1 17] }), wRec1 17, [], by decide +kernel⟩,
   ⟨wEvt (fun e => { e with inflight := [wRec1 17], pend := [wPendCnt] }), wRec1 17, [], wPendCnt, by decide +kernel⟩,
   ⟨wGuard, by decide +kernel⟩,
   ⟨{ wKeyed with evt := { wKeyed.evt with staging := [wRec1 17] } }, by decide +kernel⟩,
   ⟨wMode .lockdown, by decide +kernel⟩,
   ⟨wEvt (fun e => { e with jwait := [wBlock] }), wBlock, [], by decide +kernel⟩,
   ⟨wEvt (fun e => { e with jwait := [wBlock] }), wBlock, [], by decide +kernel⟩,
   ⟨{ wGuard with clk.flashLost := true }, by decide +kernel⟩,
   ⟨{ wKeyed with evt.jFail := true }, by decide +kernel⟩,
   ⟨wGuard, by decide +kernel⟩,
   ⟨wEvt (fun e => { e with msiGap := [(63, false)] }), 63, by decide +kernel⟩,
   ⟨{ wLink with host.msixEn := true, host.funcMask := false, host.vecs := wLink.host.vecs.set 63 { addr := 0, data := 0, masked := false, pending := true }, evt.msiGap := [(63, true)] }, 63, by decide +kernel⟩,
   ⟨{ wGuard with tlm.snaps := [wGuard.snapshotNow] }, by decide +kernel⟩,
   ⟨wGuard, by decide +kernel⟩,
   ⟨{ wGuard with tlm.due := some [1#8] }, [1#8], by decide +kernel⟩⟩

/-- A state and operands that meet the hypotheses of each clause of WatchdogAndClocks. -/
theorem wit_WatchdogAndClocks :
  (∃ (s : State) (v : Word), s.powered = true ∧ s.wd0.locked = false ∧ s.wd0CfgOk v = true) ∧
  (∃ (s : State), s.powered = true ∧ s.wd0.locked = true) ∧
  (∃ (q : Req), q ≠ .int) ∧
  (∃ (s : State), s.powered = true ∧ s.wd0.locked = false) ∧
  (∃ (s : State), s.powered = true ∧ s.wd0.locked = true) ∧
  (∃ (s : State), s.powered = true ∧ s.wd0InWin = true) ∧
  (∃ (s : State) (k : Word), s.powered = true ∧ s.wd0.locked = true ∧ k ≠ 0x5EEDC0DE#32 ∧ bit s.wd0.cfg 29 = true) ∧
  (∃ (s : State) (k : Word), s.powered = true ∧ s.wd0.locked = true ∧ k ≠ 0x5EEDC0DE#32 ∧ bit s.wd0.cfg 29 = false) ∧
  (∃ (s : State), s.powered = true ∧ s.wd0.locked = true ∧ s.wd0.paused = false ∧ s.wd0.warn = false) ∧
  (∃ (s : State), s.powered = true ∧ s.wd0.locked = true ∧ s.wd0.paused = false ∧ s.wd0.warn = true) ∧
  (∃ (s : State), s.powered = true ∧ s.wd0.locked = true ∧ bit s.wd0.cfg 30 = true) ∧
  (∃ (s : State), s.powered = true ∧ bit s.wd0.cfg 30 = false) ∧
  (∃ (s : State), s.powered = true ∧ s.clk.ringLost = false) ∧
  (∃ (s : State), s.clk.ringLost = true) ∧
  (∃ (s : State), s.powered = true ∧ s.clk.flashLost = false) ∧
  (∃ (s : State), s.powered = true ∧ s.clk.flashLost = true) ∧
  (∃ (s : State), s.powered = true ∧ s.clk.flashLost = true) ∧
  (∃ (s : State), s.powered = true ∧ s.clk.refclkLost = false ∧ s.host.linkUp = true) ∧
  (∃ (s : State), s.powered = true ∧ s.clk.refclkLost = true) ∧
  (∃ (s : State), s.powered = true ∧ s.clk.keepSub = false ∧ s.clk.ringLost = false) ∧
  (∃ (s : State), s.powered = true ∧ s.clk.keepSub = true) ∧
  (∃ (s : State), s.powered = true ∧ s.clk.ringLost = false) ∧
  (∃ (s : State), s.powered = true) ∧
  (∃ (s : State) (t : Int), s.powered = true ∧ s.clk.warnArmed = true ∧ s.clk.critArmed = true ∧
      (4 * (fld (s.cfg 0x2E0C) 7 0 : Int)) < t ∧ t ≤ (4 * (fld (s.cfg 0x2E0C) 15 8 : Int))) ∧
  (∃ (s : State), s.powered = true) :=
  ⟨⟨wGuard, 0x010F4240#32, by decide +kernel⟩,
   ⟨wLock 0x020F4240#32 false, by decide +kernel⟩,
   ⟨.host, by decide +kernel⟩,
   ⟨wGuard, by decide +kernel⟩,
   ⟨wLock 0x020F4240#32 false, by decide +kernel⟩,
   ⟨wLock 0x020F4240#32 false, by decide +kernel⟩,
   ⟨wLock 0x220F4240#32 false, 0#32, by decide +kernel⟩,
   ⟨wLock 0x020F4240#32 false, 0#32, by decide +kernel⟩,
   ⟨wLock 0x020F4240#32 false, by decide +kernel⟩,
   ⟨wLock 0x020F4240#32 true, by decide +kernel⟩,
   ⟨wLock 0x420F4240#32 true, by decide +kernel⟩,
   ⟨wLock 0x020F4240#32 true, by decide +kernel⟩,
   ⟨wGuard, by decide +kernel⟩,
   ⟨{ wGuard with clk.ringLost := true }, by decide +kernel⟩,
   ⟨wGuard, by decide +kernel⟩,
   ⟨{ wGuard with clk.flashLost := true }, by decide +kernel⟩,
   ⟨{ wGuard with clk.flashLost := true }, by decide +kernel⟩,
   ⟨wLink, by decide +kernel⟩,
   ⟨{ wGuard with clk.refclkLost := true }, by decide +kernel⟩,
   ⟨wGuard, by decide +kernel⟩,
   ⟨{ wGuard with clk.keepSub := true }, by decide +kernel⟩,
   ⟨wGuard, by decide +kernel⟩,
   ⟨wGuard, by decide +kernel⟩,
   ⟨wGuard.setCfg 0x2E0C 0x7D64#32, 401, by decide +kernel⟩,
   ⟨wGuard, by decide +kernel⟩⟩

/-- A state and operands that meet the hypotheses of each clause of FrameAgentPort. -/
theorem wit_FrameAgentPort : Runs
  [.agentRead wTxn, .continuousRead wTxn, .readSfdp wTxn, .readId wTxn, .readReg wTxn, .writeEnable wTxn, .writeDisable wTxn,
   .program wTxn, .erase wTxn, .eraseChip wTxn, .suspend wTxn true, .suspendForward 0, .resume wTxn, .writeReg wTxn, .modeset wTxn,
   .resetEnable wTxn, .reset wTxn, .clearFail wTxn, .addrMode wTxn, .accept wTxn, .unlistedOpcode wTxn, .heartbeatService wTxn,
   .sclkMeasure 0 0, .agentOperationEnd 0 true, .blockbusyEnd 0, .boottimeElapsed 0, .updateTimeout 0, .deviceOpIssue 0,
   .statusPoll 0 0, .exposedWaitEnd 0 0, .stagingVerify 0 0 true, .copyUnit 0 0 0 true, .confirmWindowEnd 0 0,
   .vintageBurnStep 0 0 true, .eyeTraining 0 0 (wTrain 0), .retrainDue 0, .partBusyTimeout 0 0, .partSoftwareResetEnd 0 0 true,
   .partResetPulseEnd 0 0 true, .sectorRefreshStep 0 0 0 0 true true true, .refreshPeriodRollover, .journalCompactionStep true,
   .vaultRetrain (wTrain 0) true] wGuard :=
  runs_of _ _ (by decide +kernel)

/-- A state and operands that meet the hypotheses of each clause of FrameRegisters. -/
theorem wit_FrameRegisters : Runs
  [.commitGo .host 1#32, .commitApply, .commitTimeout, .commitDiscard .host 1#32, .lowHalfRead .host 0 true,
   .highHalfWrite .host 0 1#32, .registerWrite .host 0 1#32, .rcRead .host 0, .snapshot 0 0 0 0, .unsupportedRequest (.read 0 0 4),
   .rdataRead .host 0, .routeWrite .host 1#32, .pendHiRead .host, .counterDataRead .host true, .counterWrite .host 1#32,
   .bar4Read 0 .both, .opdataAccess .host 0 none, .sfdpdataRead .host 0, .stdataAccess .host 0 0 none, .rgdataAccess .host 0 0 none,
   .seqdataAccess .host none, .baddataRead .host 0, .strdataRead .host 0, .strattRead .host, .caskdataRead .host 0,
   .thdataRead .host 0, .vctrRead .host, .tlmDataRead .host, .txdataWrite .host 0 1#32, .rxdataRead .host 0, .auxGo .host 0 0 0,
   .auxAbort .host 0 0 [], .frameSend .host 0 1#32, .auxTransferDone 0 [], .slaveTransferEnd 0 0 [], .uartReceive 1#8 true,
   .gpioEdge 0 true] wGuard :=
  runs_of _ _ (by decide +kernel)

/-- A state and operands that meet the hypotheses of each clause of FrameStartUp. -/
theorem wit_FrameStartUp : Runs
  [.mainPowerGoodRise 0 0 true true, .mainPowerGoodFall, .pllLock, .vaultIdentify none none 0 none none, .rootstockRegenerate wPuf,
   .rootstockRetry wPuf, .selfTestStartup [] [] true true true true, .firmwareVerify true true true true,
   .channelBringup 0 none none wFound wFound wFound wFound, .exitChecks true, .intentResume 0 0 0 wGoodMan true, .modeWrite 0 0,
   .deviceRestart 0, .keeperPowerLoss, .tapReset, .ownFirmwareFault] wGuard :=
  runs_of _ _ (by decide +kernel)

/-- A state and operands that meet the hypotheses of each clause of FramePlatform. -/
theorem wit_FramePlatform : Runs
  [.pcOutMismatch 0, .pcInChange 0 true, .haltNFall, .haltNRise, .seqEnd, .seqSet, .seqWaitIn, .seqDelay, .seqRelease, .seqWaitHb,
   .seqWaitSatisfied, .seqTimeout, .delayExpiry, .subprogramStart, .rerelease 0, .urgentStop true 0 0, .urgentRelease true 0 0,
   .urgentRestart true 0 0, .qclearElapsed 0, .sbsvcWrite 0 1#32, .watchdogFirstExpiry 0, .watchdogSecondExpiry 0] wGuard :=
  runs_of _ _ (by decide +kernel)

/-- A state and operands that meet the hypotheses of each clause of FrameTrellis. -/
theorem wit_FrameTrellis : Runs
  [.ledgerViolation .tags, .bankUncorrectable 0 [], .bankCopyComplete [], .cellarScrubPass, .memtestBank true,
   .decantPage 0 ⟨0, 2⟩ true true true, .deferredVerdict 0 ⟨0, 2⟩ .pass, .verdictLate 0 ⟨0, 2⟩, .lateResult 0 ⟨0, 2⟩ .pass,
   .pressCreditGrant, .rackingShareWindow 0 0 true, .rackSpan 0 {} none, .graftCandidate 0 0 0 0 true true,
   .graftRepairStep 0 0 0 0 0 {} true, .autorelRelease 0] wGuard :=
  runs_of _ _ (by decide +kernel)

/-- A state and operands that meet the hypotheses of each clause of FrameHost. -/
theorem wit_FrameHost : Runs
  [.perstNAssert, .perstNRelease, .functionLevelReset true, .linkDown, .linkTrained 0 0, .setPhase 0 0 0,
   .activate 0 0 0 0 0 0 wGoodMan, .confirm 0 0 0, .entryFetch 0 0 0 0 none, .sqDoorbell 0 0, .cqDoorbell 0 0,
   .memoryReadError .logCtl 0, .identify 0 0 0, .certRead 0 0 0 0 0, .getNonce .tap 0 0, .agentHeartbeat 0 0 1#32, .restart 0,
   .msixAggregationTimeout 0, .msixVectorUnmask 0 0 0 true, .retentionAck 0, .busMasterDisable, .powerStateChange true,
   .configRequest (.read 0)] wGuard :=
  runs_of _ _ (by decide +kernel)

/-- A state and operands that meet the hypotheses of each clause of FrameRecovery. -/
theorem wit_FrameRecovery : Runs
  [.policyApply, .reimage 0 0 0, .qrelease 0 0 (wToken 1 1), .imageStream 0 0 0 true 0 0, .imageChunkProgram 0 true,
   .imageVerify 0 wGoodMan true, .recoverPlatform .tap 0 (wToken 1 1), .goldenFirmwareRestore .tap 0 (wToken 1 1),
   .authorisedRecovery .tap 0 (wToken 1 1), .policyLoad 0 0 wFull, .policyStoreDurable, .policyApplyRetry true,
   .policyVintageBurn true, .fwDownload 0 true 0 0 none, .fwPackageVerify, .fwActivate 0 0, .handoverHalt, .handoverLoad true,
   .checkIn, .handoverFallback, .fwConfirm true, .goldenCopyStep true, .recoverySourceTry 0 none true, .recoverySourceTimeout 0,
   .actCommitRetry 0, .recQuery 0, .recChunk 0 0 0, .recEnd 0, .recoveryWriteStep 0 true true] wGuard :=
  runs_of _ _ (by decide +kernel)

/-- A state and operands that meet the hypotheses of each clause of FrameSecurity. -/
theorem wit_FrameSecurity : Runs
  [.debugOpen .tap 0 0 (wDbg 1 2) none, .enterTest .tap 0 (wLc 1 [] 0) none, .enterProduction .tap 0 (wLc 1 [] 0) none,
   .enterEol .tap 0 (wLc 1 [] 0) none, .ownerClaim .tap 0 (wLc 1 [] 0) none, .ownerAdd .tap 0 (wLc 1 [] 0) none,
   .ownerRevoke .tap 0 (wLc 1 [] 0) none, .setSubsys .tap 0 (wLc 1 [] 0) none, .vendorRevoke .tap 0 (wLc 1 [] 0) none,
   .completeTransition .tap 0 (wLc 1 [] 0) none, .info 0 0 0 0, .list 0 0 0, .importPub 0 0 0,
   .importKey 0 0 0 0 (wToken 1 1) none wBlob, .destroy 0 0 0 0 (wToken 1 1) none, .sealRotate 0 0 0 (wToken 1 1) none,
   .keyJournalCommit true, .pufDlMeasure 0, .reenrol true true, .pufBufferClear, .caskRemask, .periodicSelfTest true,
   .selfTestDrainEnd true, .engineDerate 0, .engineRestore 0, .drbgReseed, .entropyTestFail, .drbgReinstantiate true,
   .tamperTrip 0 true, .meshSample 0 true, .shelfMeshBurst 0 [], .shelfTempSample 0, .vbatLow] wGuard :=
  runs_of _ _ (by decide +kernel)

/-- A state and operands that meet the hypotheses of each clause of FrameSealing. -/
theorem wit_FrameSealing : Runs
  [.streamOpen 0 0 0 0 0 0 0, .streamClose 0 0, .sealSegment 0 0 0 0 0 0 0, .verifySegment 0 0 0 0 [] [] none, .sealLog 0 0 0 0 0 0,
   .anchorRequest 0 0 0, .anchorSubmit 0 wAnchorTok, .runStart, .segmentBegin true, .segmentComplete 0 [], .epochClose, .epochFinalise,
   .sealSign, .sealJournalWrite true, .sealOutput, .sealLogPoll none, .uncWarn] wGuard :=
  runs_of _ _ (by decide +kernel)

/-- A state and operands that meet the hypotheses of each clause of FrameSpdmSideband. -/
theorem wit_FrameSpdmSideband : Runs
  [.platformCertIssue, .mctpMessage 0 0 [], .setEndpointId 0 0, .getVersion 0 0, .getCapabilities 0 0, .negotiateAlgorithms 0 0 true,
   .getDigests 0 0, .getCertificate 0 0 0 0 0, .challenge 0 0 0 0 [], .getMeasurements 0 0 0 true [], .keyExchange 0 0 0,
   .finish 0 0 true, .heartbeat 0 0, .endSession 0 0, .spdmUnsupportedRequest 0 0, .spdmSessionTimeout 0 0, .spdmConnectionIdle 0 0,
   .spdmAgentRequest 0, .spdmAgentResponse 0 true 0, .spdmAgentRetry 0, .windowRead 0 0 0 0, .windowWrite 0 0 0 0 [] true,
   .smbusTimeout 0, .mctpResponseRetry 0 true, .mctpPacket 0 0 0 0 true true, .mctpPacketRead 0, .entdaa 0 0, .setdasa 0 0 0,
   .setnewda 0 0 0, .rstdaa 0, .enec 0 none true, .disec 0 none true, .getpid 0 0, .getbcr 0 0, .getdcr 0 0, .getstatus 0 0,
   .getmwl 0 0, .setmwl 0 none 0, .getmrl 0 0, .setmrl 0 none 0, .getmxds 0 0, .mctpIdentify 0, .mctpLogRead 0 0 0 0,
   .mctpCertRead 0 0 0 0, .mctpLogClear 0, .mctpSetPhase 0 0 0, .mctpActivate 0 0 0 0 wGoodMan, .mctpReimage 0 0 0,
   .mctpPolicyLoad 0 0 true 0 wFull, .mctpFwDownload 0 0 true 0 none, .mctpFwActivate 0 0] wGuard :=
  runs_of _ _ (by decide +kernel)

/-- A state and operands that meet the hypotheses of each clause of FrameRecorder. -/
theorem wit_FrameRecorder : Runs
  [.logRead 0 0 0 0 0, .logClear 0, .eventRaise, .ringWrite, .journalBlockDue, .journalBlockDurable true, .journalRetry true, .lwClear,
   .msigapExpiry 0, .telemetryPeriod wMeas true, .telemetryLate, .wd0CfgWrite .host 1#32, .wd0WindowWrite .host 1#32,
   .wd0Service .host 1#32, .wd0FirstExpiry, .wd0SecondExpiry, .ringMonitorTrip, .clockMonitorTrip .core true, .flashClockLoss,
   .flashRelock, .flashRelockTimeout, .refclkLoss, .keeperCrystalLoss, .keeperCrystalReturn, .ringLoss, .tempThreshold 0,
   .railExcursion 0, .debuggerHalt true, .debuggerResume true, .ringReturn, .refclkReturn, .recorderSramError] wGuard :=
  runs_of _ _ (by decide +kernel)

/-- A state and operands that meet the hypotheses of each clause of StepRunsFront. -/
theorem wit_StepRunsFront : (∃ (c : Instr) (s : State) (rest : List Instr), s.pending = c :: rest) ∧ (∃ s : State, s.pending = []) :=
  ⟨⟨.tapReset, { wGuard with pending := [.tapReset] }, [], rfl⟩, wGuard, rfl⟩

/-- A state and operands that meet the hypotheses of each clause of OtpNeverClears. -/
theorem wit_OtpNeverClears : ∃ s t : State, step s = .next t :=
  let h := next_of (step { wGuard with pending := [.tapReset] }) (fun _ => true) (by decide +kernel)
  ⟨_, h.choose, h.choose_spec.1⟩

/-- A state and operands that meet the hypotheses of each clause of StoresStayCanonical. -/
theorem wit_StoresStayCanonical : ∃ s t : State, s.storesOk = true ∧ step s = .next t :=
  let h := next_of (step { wMap 1 wGuard with pending := [.tapReset] }) (fun _ => true) (by decide +kernel)
  ⟨_, h.choose, by decide +kernel, h.choose_spec.1⟩

/-- A state and operands that meet the hypotheses of each clause of ModeExits. -/
theorem wit_ModeExits :
  (∃ s t : State, s.plat.mode = .lockdown ∧ step s = .next t) ∧
  (∃ (c : Instr) (s t : State), s.plat.mode ≠ .shelf ∧ exec c s = .next t ∧ t.plat.mode = .shelf) ∧
  (∃ (c : Instr) (s t : State), s.plat.mode = .shelf ∧ exec c s = .next t ∧ t.plat.mode ≠ .shelf) :=
  let h := next_of (step (wMode .lockdown)) (fun _ => true) (by decide +kernel)
  let f := next_of (exec .mainPowerGoodFall wGuard) (fun z => decide (z.plat.mode = .shelf)) (by decide +kernel)
  let r := next_of (exec (.mainPowerGoodRise 0 0 true false) (wMode .shelf)) (fun z => decide (z.plat.mode ≠ .shelf)) (by decide +kernel)
  ⟨⟨_, h.choose, rfl, h.choose_spec.1⟩, ⟨_, _, f.choose, by decide, f.choose_spec.1, of_decide_eq_true f.choose_spec.2⟩,
   ⟨_, _, r.choose, rfl, r.choose_spec.1, of_decide_eq_true r.choose_spec.2⟩⟩

/-- A state and operands that meet the hypotheses of each clause of EmptyCommits. -/
theorem wit_EmptyCommits :
  (∃ (s : State) (q : Req) (mask : Word), s.reaches_ q = true ∧ s.commitBusy q = false ∧ s.commitWaiting q = false ∧
      ((mask = 0#32 ∨ fld (s.ownReg q 0x108) 15 0 = 0))) ∧
  (∃ (s : State) (q : Req) (g : Nat), (s.stagedMask q).getLsbD g = false) ∧
  (∃ (s : State) (q : Req) (g : Nat) (k : Nat), ((∀ e ∈ (s.view q).staged, groupOf e.1 ≠ some g)) ∧ groupOf k = some g) :=
  ⟨⟨wLink, .host, 0#32, by decide +kernel⟩,
   ⟨wGuard, .side, 31, by decide +kernel⟩,
   ⟨wGuard, .side, 28, 0x2C00, by decide +kernel⟩⟩

/-- A state and operands that meet the hypotheses of each clause of FatalLedgerFault. -/
theorem wit_FatalLedgerFault :
  (∃ (s : State), s.plat.mode = .recover) ∧
  (∃ (s : State), s.plat.mode = .recover ∧ s.plat.cause = 9 ∧ s.cellar.testDone = true) :=
  ⟨⟨wMode .recover, by decide +kernel⟩,
   ⟨{ wMode .recover with plat.cause := 9, cellar.testDone := true }, by decide +kernel⟩⟩

/-- A state and operands that meet the hypotheses of each clause of BankMappedOut. -/
theorem wit_BankMappedOut :
  (∃ (s : State) (b : Nat) (p : Nat), s.powered = true ∧ s.cellar.copying = some b ∧ s.cellar.idle = some p) ∧
  (∃ (s : State) (b : Fin 16), s.powered = true ∧ s.cellar.lost.contains b.val = false ∧ s.cellar.copying ≠ some b.val ∧
      s.cellar.idle = none) :=
  ⟨⟨{ wGuard with cellar.copying := some 15 }, 15, 16, by decide +kernel⟩,
   ⟨{ wGuard with cellar.idle := none }, 15, by decide +kernel⟩⟩

/-- A state and operands that meet the hypotheses of each clause of VintageCounters. -/
theorem wit_VintageCounters :
  (∃ v : BitVec 64, v ≠ 0#64) ∧ (∃ (s : State) (k : Nat), k < 16 ∧ s.vintage k < 64) :=
  ⟨⟨0x8000000000000000#64, by decide +kernel⟩, wGuard, 15, by decide +kernel⟩

/-- A state and operands that meet the hypotheses of each clause of OpenPeriods. -/
theorem wit_OpenPeriods :
  (∃ (s : State), s.powered = true ∧ s.wd0.locked = true ∧ ((s.wd0.served = false ∨ s.wd0.warn = true)) ∧ s.wd0Elapsed < s.wd0.period) ∧
  (∃ (s : State), s.powered = true ∧ s.wd0.locked = true ∧ s.wd0.served = true ∧ s.wd0.warn = false ∧ bit s.wd0.cfg 29 = true ∧
      s.wd0Elapsed < s.wd0.captured ∧ s.wd0Elapsed < s.wd0.period) ∧
  (∃ (s : State) (n : Ch), s.powered = true ∧ s.wdRunning n = true ∧ bit (s.awin n) 30 = true ∧
      (((s.agt n).served = false ∨ (s.agt n).warn = true)) ∧ s.wdElapsed n < fld (s.aper n) 23 0) ∧
  (∃ (s : State) (n : Ch), s.powered = true ∧ s.wdRunning n = true ∧ bit (s.awin n) 30 = true ∧ (s.agt n).served = true ∧
      (s.agt n).warn = false ∧ bit (s.awin n) 31 = true ∧ s.wdElapsed n < fld (s.awin n) 23 0 ∧ s.wdElapsed n < fld (s.aper n) 23 0) :=
  ⟨⟨wLock 0x020F4240#32 false, by decide +kernel⟩,
   ⟨{ wLock 0x220F4240#32 false with wd0.served := true, wd0.captured := 1 }, by decide +kernel⟩,
   ⟨(wWd wRel).setCfg 0x684 0xF0000000#32, 0, by decide +kernel⟩,
   ⟨((wWd wRel).setCfg 0x684 0xF0000001#32).updAgt 0 (fun a => { a with served := true, warn := false }), 0, by decide +kernel⟩⟩

/-- A state and operands that meet the hypotheses of each clause of OtherChannels. -/
theorem wit_OtherChannels : ∃ (t : Txn) (c : Instr) (s u : State) (m : Ch), c = .writeEnable t ∧ m ≠ t.ch ∧ exec c s = .next u :=
  let h := next_of (exec (.writeEnable wTxn) (wOpcode 5 0 0 wRel)) (fun _ => true) (by decide +kernel)
  ⟨wTxn, _, _, h.choose, 7, rfl, by decide, h.choose_spec.1⟩

/-- A state and operands that meet the hypotheses of each clause of ShadowWrites. -/
theorem wit_ShadowWrites :
  (∃ (s : State) (q : Req) (off : Nat) (g : Nat), s.reaches_ q = true ∧ off % 4 = 0 ∧ off < 0x10000 ∧ groupOf off = some g ∧
      rwMask q off ≠ 0#32) ∧
  (∃ (s : State) (q : Req) (off : Nat) (g : Nat), s.reaches_ q = true ∧ off % 4 = 0 ∧ off < 0x10000 ∧ groupOf off = some g ∧
      rwMask q off = 0#32) :=
  ⟨⟨wLink, .host, 0x2C00, 28, by decide +kernel⟩,
   ⟨wLink, .host, 192, 30, by decide +kernel⟩⟩

/-- A state and operands that meet the hypotheses of each clause of UnlistedOffsets. -/
theorem wit_UnlistedOffsets :
  (∃ (s : State) (q : Req) (off : Nat), s.reaches_ q = true ∧ off % 4 = 0 ∧ 0x3000 ≤ off ∧ off < 0x10000) ∧
  (∃ (s : State) (q : Req) (off : Nat), s.reaches_ q = true ∧ off % 4 = 0 ∧ 0x3000 ≤ off ∧ off < 0x10000) :=
  ⟨⟨wLink, .host, 0x3000, by decide +kernel⟩,
   ⟨wLink, .host, 0xFFFC, by decide +kernel⟩⟩

/-- A state and operands that meet the hypotheses of each clause of PortCommandsComplete. -/
theorem wit_PortCommandsComplete :
  (∃ (s : State) (t : Txn) (e : Word), s.portOpen t.ch = true ∧ (s.chan t.ch).port.xip = none ∧ s.lookOp t.ch t.op t.ext = .listed e ∧
      opClass e = 2) ∧
  (∃ (s : State) (t : Txn) (e : Word), s.portOpen t.ch = true ∧ (s.chan t.ch).port.xip = none ∧ s.lookOp t.ch t.op t.ext = .listed e ∧
      opClass e = 3) ∧
  (∃ (s : State) (t : Txn) (e : Word), s.portOpen t.ch = true ∧ (s.chan t.ch).port.xip = none ∧ s.lookOp t.ch t.op t.ext = .listed e ∧
      opClass e = 4 ∧ t.endsAt = none) ∧
  (∃ (s : State) (t : Txn) (e : Word), s.portOpen t.ch = true ∧ (s.chan t.ch).port.xip = none ∧ s.lookOp t.ch t.op t.ext = .listed e ∧
      opClass e = 5) ∧
  (∃ (s : State) (t : Txn) (e : Word), s.portOpen t.ch = true ∧ (s.chan t.ch).port.xip = none ∧ s.lookOp t.ch t.op t.ext = .listed e ∧
      opClass e = 6) ∧
  (∃ (s : State) (t : Txn) (e : Word) (b : Byte) (r : List Byte), s.portOpen t.ch = true ∧ (s.chan t.ch).port.xip = none ∧
      s.lookOp t.ch t.op t.ext = .listed e ∧ opClass e = 12 ∧ (s.chan t.ch).port.wel = true ∧ t.onByte = true ∧ t.data = b :: r ∧
      opArg e = 0) ∧
  (∃ (s : State) (t : Txn) (e : Word) (b : Byte) (r : List Byte), s.portOpen t.ch = true ∧ (s.chan t.ch).port.xip = none ∧
      s.lookOp t.ch t.op t.ext = .listed e ∧ opClass e = 12 ∧ (s.chan t.ch).port.wel = true ∧ t.onByte = true ∧ t.data = b :: r ∧
      opArg e ≠ 0) ∧
  (∃ (s : State) (t : Txn) (e : Word) (m : Word) (b : Byte) (r : List Byte), s.portOpen t.ch = true ∧ (s.chan t.ch).port.xip = none ∧
      s.lookOp t.ch t.op t.ext = .listed e ∧ opClass e = 13 ∧ (s.chan t.ch).port.wel = true ∧ t.onByte = true ∧ t.data = b :: r ∧
      s.modeSwitch t b = some m) ∧
  (∃ (s : State) (t : Txn) (e : Word), s.portOpen t.ch = true ∧ (s.chan t.ch).port.xip = none ∧ s.lookOp t.ch t.op t.ext = .listed e ∧
      opClass e = 14) ∧
  (∃ (s : State) (t : Txn) (e : Word), s.portOpen t.ch = true ∧ (s.chan t.ch).port.xip = none ∧ s.lookOp t.ch t.op t.ext = .listed e ∧
      opClass e = 15 ∧ (s.chan t.ch).port.rstEn = true) ∧
  (∃ (s : State) (t : Txn) (e : Word), s.portOpen t.ch = true ∧ (s.chan t.ch).port.xip = none ∧ s.lookOp t.ch t.op t.ext = .listed e ∧
      opClass e = 16) ∧
  (∃ (s : State) (t : Txn) (e : Word), s.portOpen t.ch = true ∧ (s.chan t.ch).port.xip = none ∧ s.lookOp t.ch t.op t.ext = .listed e ∧
      opClass e = 17) ∧
  (∃ (s : State) (t : Txn) (e : Word), s.portOpen t.ch = true ∧ (s.chan t.ch).port.xip = none ∧ s.lookOp t.ch t.op t.ext = .listed e ∧
      opClass e = 18) ∧
  (∃ (s : State) (t : Txn), s.portOpen t.ch = true ∧ (s.chan t.ch).port.xip = none ∧ s.lookOp t.ch t.op t.ext = .unlisted) :=
  ⟨⟨wOpcode 2 1 0 wRel, { wTxn with n := 8 }, wEntry 2 1 0, by decide +kernel⟩,
   ⟨wOpcode 3 0 0 wRel, { wTxn with n := 4 }, wEntry 3 0 0, by decide +kernel⟩,
   ⟨wOpcode 4 0 0 wRel, { wTxn with n := 2 }, wEntry 4 0 0, by decide +kernel⟩,
   ⟨wOpcode 5 0 0 wRel, wTxn, wEntry 5 0 0, by decide +kernel⟩,
   ⟨wOpcode 6 0 0 (wPort wRel (fun p => { p with wel := true })), wTxn, wEntry 6 0 0, by decide +kernel⟩,
   ⟨wOpcode 12 0 0 (wPort wRel (fun p => { p with wel := true })), { wTxn with data := [0x5C#8] }, wEntry 12 0 0, 0x5C#8, [],
       by decide +kernel⟩,
   ⟨wOpcode 12 0 1 (wPort wRel (fun p => { p with wel := true })), { wTxn with data := [0x5C#8] }, wEntry 12 0 1, 0x5C#8, [],
       by decide +kernel⟩,
   ⟨(wOpcode 13 0 0 (wPort wRel (fun p => { p with wel := true }))).setCfg (fch 0 0x28) 0x80050501#32, { wTxn with data := [5#8] },
       wEntry 13 0 0, 0x80050501#32, 5#8, [], by decide +kernel⟩,
   ⟨wOpcode 14 0 0 wRel, wTxn, wEntry 14 0 0, by decide +kernel⟩,
   ⟨wOpcode 15 0 0 (wPort wRel (fun p => { p with rstEn := true, mode := 3 })), wTxn, wEntry 15 0 0, by decide +kernel⟩,
   ⟨wOpcode 16 0 0 (wPort wRel (fun p => { p with efail := true })), wTxn, wEntry 16 0 0, by decide +kernel⟩,
   ⟨wOpcode 17 0 0 wRel, wTxn, wEntry 17 0 0, by decide +kernel⟩,
   ⟨wOpcode 18 0 0 wRel, wTxn, wEntry 18 0 0, by decide +kernel⟩,
   ⟨wRel, { wTxn with op := 9#8 }, by decide +kernel⟩⟩

/-- A state and operands that meet the hypotheses of each clause of CommandsComplete. -/
theorem wit_CommandsComplete :
  (∃ (s : State) (q : Req) (off : Nat), s.reaches_ q = true ∧ off % 4 = 0 ∧ off < 0x10000) ∧
  (∃ (s : State) (q : Req) (lo : Word), s.reaches_ q = true ∧ (s.view q).wlatch = some (0x51C, lo)) ∧
  (∃ (s : State) (q : Req) (lo : Word) (c : Nat), s.reaches_ q = true ∧ (s.view q).wlatch = some (0x70C, lo) ∧
      c = fld (s.ownReg q 0x708) 8 0 ∧ counterOk c = true) ∧
  (∃ (s : State) (q : Req) (lo : Word) (c : Nat), s.reaches_ q = true ∧ (s.view q).wlatch = some (0x70C, lo) ∧
      c = fld (s.ownReg q 0x708) 8 0 ∧ counterOk c = true) ∧
  (∃ (s : State) (k : Nat), s.reaches_ .int = true ∧ k = routeKey (fld (s.ownReg .int 0x400) 9 0)) ∧
  (∃ (s : State) (q : Req) (a : Fin 2) (v : Word), s.reaches_ q = true ∧ s.aux.ports[a].busy = false ∧ v ≠ 0#32) ∧
  (∃ (s : State) (f : PartFound) (d : Sfdp) (busMode : Nat) (hz : Nat), s.starting = true ∧ s.plat.boot.pll = true ∧
      s.plat.boot.vault = false ∧ f.sfdp = some d ∧ trainedSclk f.train (sclkSteps (if busMode % 3 = 2 then 9 else 0) 200) = some hz ∧
      f.stuck = false ∧ 26 ≤ d.sizeLog) ∧
  (∃ (s : State) (n : Ch) (p0 : Option PartFound) (p1 : Option PartFound), s.powered = true ∧ s.plat.mode ≠ .lockdown ∧
      s.plat.fwRuns = true ∧ s.policyApplied = true ∧ s.enabled n = true ∧ s.plat.boot.brought.contains n.val = false ∧
      (s.bringPart n 0 p0).2 = true ∧ ((s.bringPart n 0 p0).1.bringPart n 1 p1).2 = true ∧ s.crypt.pkuNext < 2) ∧
  (∃ (s : State) (k : Nat) (b : Bundle) (mask : Word), s.powered = true ∧ s.regs.cur = none ∧ s.regs.waiting = [] ∧ s.ident.polState = 2 ∧
      s.ident.storing = some (k, b) ∧ mask = (s.stageBundle b).stagedMask .int ||| 0x80000000#32 ∧
      ((s.stageBundle b).setOwn .int 0x108 0xFFFF#32).badGroups .int mask = 0#32) ∧
  (∃ (s : State), s.exitReady = true) ∧
  (∃ (s : State) (p : Fin 2), s.i3cOn p.val = true ∧ (s.sb p.val).dyn = none) ∧
  (∃ (s : State) (p : Fin 2), s.i3cOn p.val = true ∧ (s.sb p.val).dyn = none) ∧
  (∃ (s : State) (p : Fin 2) (a : Nat), s.i3cOn p.val = true ∧ (s.sb p.val).dyn = some a) ∧
  (∃ (s : State) (p : Fin 2), s.i3cOn p.val = true) ∧
  (∃ (s : State) (p : Fin 2) (dst : Option Nat), s.i3cOn p.val = true ∧ ((dst = none ∨ dst = some (s.sbAddr p.val)))) ∧
  (∃ (s : State) (p : Fin 2) (dst : Option Nat), s.i3cOn p.val = true ∧ ((dst = none ∨ dst = some (s.sbAddr p.val)))) ∧
  (∃ (s : State) (p : Fin 2) (dst : Option Nat), s.i3cOn p.val = true ∧ ((dst = none ∨ dst = some (s.sbAddr p.val)))) ∧
  (∃ (s : State) (p : Fin 2) (dst : Option Nat), s.i3cOn p.val = true ∧ ((dst = none ∨ dst = some (s.sbAddr p.val)))) ∧
  (∃ (s : State) (p : Fin 2), s.i3cOn p.val = true) ∧
  (∃ (s : State) (p : Fin 2), s.i3cOn p.val = true) ∧
  (∃ (s : State) (p : Fin 2), s.i3cOn p.val = true) ∧
  (∃ (s : State) (p : Fin 2), s.i3cOn p.val = true) ∧
  (∃ (s : State) (p : Fin 2), s.i3cOn p.val = true) ∧
  (∃ (s : State) (p : Fin 2), s.i3cOn p.val = true) ∧
  (∃ (s : State) (p : Fin 2), s.i3cOn p.val = true) :=
  ⟨⟨wGuard, .int, 0x704, by decide +kernel⟩,
   ⟨{ wGuard with regs.int.wlatch := some (0x51C, 9#32) }, .int, 9#32, by decide +kernel⟩,
   ⟨{ wGuard with regs.int.wlatch := some (0x70C, 9#32) }, .int, 9#32, 0, by decide +kernel⟩,
   ⟨{ wGuard with regs.int.wlatch := some (0x70C, 9#32) }, .int, 9#32, 0, by decide +kernel⟩,
   ⟨wGuard, routeKey 0, by decide +kernel⟩,
   ⟨wGuard, .side, 1, 5#32, by decide +kernel⟩,
   ⟨{ State.reset with plat.boot.pll := true }, wPartF, wSfdp, 2, (sclkSteps 9 200).getD 0 0, by decide +kernel⟩,
   ⟨{ wMap 3 (State.reset.setCfg (fch 0 0xC8) 0x00C8001A#32) with plat.fwRuns := true, ident.applied := some wApplied }, 0, some wPartF,
       none, by decide +kernel⟩,
   ⟨{ wGuard with ident.polState := 2, ident.storing := some (1, wBundle) }, 1, wBundle, 0x80000000#32, by decide +kernel⟩,
   ⟨{ wMode .hold with ident.applied := some wApplied }, by decide +kernel⟩,
   ⟨(wSide 0x2A id), 0, by decide +kernel⟩,
   ⟨(wSide 0x2A id), 0, by decide +kernel⟩,
   ⟨(wSide 0x2A (fun z => { z with dyn := some 9 })), 0, 9, by decide +kernel⟩,
   ⟨(wSide 0x2A (fun z => { z with dyn := some 9 })), 0, by decide +kernel⟩,
   ⟨(wSide 0x2A id), 0, none, by decide +kernel⟩,
   ⟨(wSide 0x2A id), 0, none, by decide +kernel⟩,
   ⟨(wSide 0x2A id), 0, none, by decide +kernel⟩,
   ⟨(wSide 0x2A id), 0, none, by decide +kernel⟩,
   ⟨(wSide 0x2A id), 0, by decide +kernel⟩,
   ⟨(wSide 0x2A id), 0, by decide +kernel⟩,
   ⟨(wSide 0x2A id), 0, by decide +kernel⟩,
   ⟨(wSide 0x2A id), 0, by decide +kernel⟩,
   ⟨(wSide 0x2A id), 0, by decide +kernel⟩,
   ⟨(wSide 0x2A id), 0, by decide +kernel⟩,
   ⟨(wSide 0x2A id), 0, by decide +kernel⟩⟩

end Sys2Proof.Tests
end

section
/-! PROOFS. Frames of the register and commit commands: each clause is the frame of one meaning (Laws/FrameRows). -/

namespace Sys2Proof.Machine

/-- Settles O36: each command's frame is the frame lemma of its meaning. -/
theorem frameRegisters : Obligations.FrameRegisters := by
  unfold Obligations.FrameRegisters
  exact ⟨fun _ _ _ _ h => execCommitGo_keeps h, fun _ _ h => execCommitApply_keeps h, fun _ _ h => execCommitTimeout_keeps h,
    fun _ _ _ _ h => execCommitDiscard_keeps h, fun _ _ _ _ _ h => execLowHalfRead_keeps h,
    fun _ _ _ _ _ h => execHighHalfWrite_keeps h, fun _ _ _ _ _ h => execRegisterWrite_keeps h,
    fun _ _ _ _ h => execRcRead_keeps h, fun _ _ _ _ _ _ h => execSnapshot_keeps h,
    fun _ _ _ h => execUnsupportedRequest_keeps h, fun _ _ _ _ h => execRdataRead_keeps h,
    fun _ _ _ _ h => execRouteWrite_keeps h, fun _ _ _ h => execPendHiRead_keeps h,
    fun _ _ _ _ h => execCounterDataRead_keeps h, fun _ _ _ _ h => execCounterWrite_keeps h,
    fun _ _ _ _ h => execBar4Read_keeps h, fun _ _ _ _ _ h => execOpdataAccess_keeps h,
    fun _ _ _ _ h => execSfdpdataRead_keeps h, fun _ _ _ _ _ _ h => execStdataAccess_keeps h,
    fun _ _ _ _ _ _ h => execRgdataAccess_keeps h, fun _ _ _ _ h => execSeqdataAccess_keeps h,
    fun _ _ _ _ h => execBaddataRead_keeps h, fun _ _ _ _ h => execStrdataRead_keeps h,
    fun _ _ _ h => execStrattRead_keeps h, fun _ _ _ _ h => execCaskdataRead_keeps h,
    fun _ _ _ _ h => execThdataRead_keeps h, fun _ _ _ h => execVctrRead_keeps h, fun _ _ _ h => execTlmDataRead_keeps h,
    fun _ _ _ _ _ h => execTxdataWrite_keeps h, fun _ _ _ _ h => execRxdataRead_keeps h,
    fun _ _ _ _ _ _ h => execAuxGo_keeps h, fun _ _ _ _ _ _ h => execAuxAbort_keeps h,
    fun _ _ _ _ _ h => execFrameSend_keeps h, fun _ _ _ _ h => execAuxTransferDone_keeps h,
    fun _ _ _ _ _ h => execSlaveTransferEnd_keeps h, fun _ _ _ _ h => execUartReceive_keeps h,
    fun _ _ _ _ h => execGpioEdge_keeps h⟩

end Sys2Proof.Machine
end

section
/-! PROOFS. What a register write does (R7, R16, R25): staging, the place of each kind of register, and the statements about
REGISTER_WRITE and the rows that write data registers. -/

namespace Sys2Proof.Machine

/-! ## Staged copies -/

theorem stagedGet?_put_same (st : Store) (k : Nat) (v : Word) : stagedGet? (stagedPut st k v) k = some v := by
  induction st with
  | nil => simp [stagedPut, stagedGet?]
  | cons e r ih =>
    obtain ⟨a, w⟩ := e
    unfold stagedPut
    split
    · simp [stagedGet?]
    · split
      · simp [stagedGet?]
      · next _ h => simp [stagedGet?, Ne.symm h, ih]

theorem stagedGet?_put_other (st : Store) (k j : Nat) (v : Word) (h : j ≠ k) :
    stagedGet? (stagedPut st k v) j = stagedGet? st j := by
  induction st with
  | nil => simp [stagedPut, stagedGet?, Ne.symm h]
  | cons e r ih =>
    obtain ⟨a, w⟩ := e
    unfold stagedPut
    split
    · simp [stagedGet?, Ne.symm h]
    · split
      · next e => simp [stagedGet?, Ne.symm h, ← e]
      · simp [stagedGet?, ih]

/-! ## A requester's view changed -/

@[simp] theorem State.setView_cfg (s : State) (q : Req) (v : ReqView) : (s.setView q v).cfg = s.cfg := by
  cases q <;> rfl

@[simp] theorem State.setView_gen (s : State) (q : Req) (v : ReqView) : (s.setView q v).regs.gen = s.regs.gen := by
  cases q <;> rfl

@[simp] theorem State.setView_sticky (s : State) (q : Req) (v : ReqView) : (s.setView q v).sticky = s.sticky := by
  cases q <;> rfl

theorem State.autoInc_view (s : State) (q : Req) (off b n : Nat) :
    (s.autoInc q off b n).view q =
      { s.view q with own := storePut regReset (s.view q).own off (nextIndex (s.ownReg q off) b n) } := by
  simp [State.autoInc, State.setOwn]

/-- Where an index goes on depends on its requester's view alone. -/
theorem State.autoInc_view_congr {s t : State} {q : Req} (h : t.view q = s.view q) (off b n : Nat) :
    (t.autoInc q off b n).view q = (s.autoInc q off b n).view q := by
  simp [State.autoInc_view, State.ownReg, h]

@[simp] theorem State.autoInc_staged (s : State) (q : Req) (off b n : Nat) :
    ((s.autoInc q off b n).view q).staged = (s.view q).staged := by
  rw [State.autoInc_view]

@[simp] theorem State.autoInc_wlatch (s : State) (q : Req) (off b n : Nat) :
    ((s.autoInc q off b n).view q).wlatch = (s.view q).wlatch := by
  rw [State.autoInc_view]

@[simp] theorem State.autoInc_cfg (s : State) (q : Req) (off b n : Nat) : (s.autoInc q off b n).cfg = s.cfg := by
  simp [State.autoInc, State.setOwn]

@[simp] theorem State.autoInc_sticky (s : State) (q : Req) (off b n : Nat) : (s.autoInc q off b n).sticky = s.sticky := by
  simp [State.autoInc, State.setOwn]

/-! ## Staging a value (R7, R16) -/

theorem State.stageKey_ignored (s : State) (q : Req) (key : Nat) (v : Word) (h : rwMask q key = 0#32) :
    s.stageKey q key v = s := by
  simp [State.stageKey, h]

theorem State.stageKey_stores (s : State) (q : Req) (key : Nat) (v : Word) (h : rwMask q key ≠ 0#32) :
    s.stageKey q key v = s.setView q
      { s.view q with staged := stagedPut (s.view q).staged key (merge (rwMask q key) (s.stagedView q key) v) } := by
  simp [State.stageKey, h]

@[simp] theorem State.stageKey_cfg (s : State) (q : Req) (key : Nat) (v : Word) : (s.stageKey q key v).cfg = s.cfg := by
  by_cases h : rwMask q key = 0#32
  · rw [s.stageKey_ignored q key v h]
  · rw [s.stageKey_stores q key v h, State.setView_cfg]

theorem State.stageKey_staged (s : State) (q : Req) (key : Nat) (v : Word) (h : rwMask q key ≠ 0#32) :
    stagedGet? ((s.stageKey q key v).view q).staged key = some (merge (rwMask q key) (s.stagedView q key) v) := by
  rw [s.stageKey_stores q key v h, State.setView_same]
  exact stagedGet?_put_same _ _ _

/-- What storing the whole word merges is the word. -/
theorem merge_all (old new : Word) : merge 0xFFFFFFFF#32 old new = new := by
  have h : (0xFFFFFFFF#32 : Word) = BitVec.allOnes 32 := rfl
  simp only [merge, h, BitVec.not_allOnes, BitVec.and_zero, BitVec.zero_or, BitVec.and_allOnes]

/-! ## The kinds of registers a write distinguishes -/

/-- The offsets whose write acts at once (`State.commandWrite`). -/
def actsAt (off : Nat) : Bool :=
  [0xD0, 0x100, 0x110, 0x114, 0x200, 0x208, 0x340, 0x500, 0x51C, 0x520, 0x600, 0x604, 0x608].contains off ||
    decide (0x680 ≤ off ∧ off < 0x700 ∧ off % 16 = 12) ||
    decide (0x2800 ≤ off ∧ off < 0x2880) && [0x08, 0x14, 0x1C].contains (off % 0x40)

/-- The data registers whose write goes to the table entry that an index selects (`State.writeTable`). -/
def tableAt (off : Nat) : Bool :=
  off == 0x2FC ||
    decide (0x1000 ≤ off ∧ off < 0x2000) && [0x3C, 0x44, 0x84, 0x88, 0x8C, 0x94, 0x98, 0x9C].contains (off % 0x200)

theorem State.asWrite_none (s : State) (q : Req) (a o : Nat) (v : Word) (h : [0x08, 0x14, 0x1C].contains o = false) :
    s.asWrite q a o v = none := by
  unfold State.asWrite
  split
  case h_4 => rfl
  all_goals simp at h

theorem State.commandWrite_none (s : State) (q : Req) (off : Nat) (v : Word) (h : actsAt off = false) :
    s.commandWrite q off v = none := by
  simp only [actsAt, Bool.or_eq_false_iff, Bool.and_eq_false_iff, decide_eq_false_iff_not] at h
  obtain ⟨⟨hlist, hsv⟩, hport⟩ := h
  unfold State.commandWrite
  split
  case h_14 =>
    rw [if_neg hsv]
    rcases hport with hport | hport
    · rw [if_neg hport]
    · split
      · exact s.asWrite_none q _ _ v hport
      · rfl
  all_goals simp at hlist

theorem State.writeTable_none (s : State) (q : Req) (off : Nat) (v : Word) (h : tableAt off = false) :
    s.writeTable q off v = none := by
  simp only [tableAt, Bool.or_eq_false_iff, Bool.and_eq_false_iff, beq_eq_false_iff_ne, decide_eq_false_iff_not] at h
  obtain ⟨hseq, hch⟩ := h
  unfold State.writeTable
  rw [if_neg hseq]
  rcases hch with hch | hch
  · rw [if_neg hch]
  · split
    · next hr =>
      have e : off - (0x1000 + 0x200 * ((off - 0x1000) / 0x200)) = off % 0x200 := by omega
      simp only [List.contains_eq_mem, List.mem_cons, List.not_mem_nil, or_false, decide_eq_false_iff_not, not_or] at hch
      simp only [e, hch, if_false]
    · rfl

/-! ## A write on the register bus -/

/-- A register that neither acts at once nor has W1C bits is staged, stored, or ignores the write. -/
theorem State.busWrite_stages (s : State) (q : Req) (off : Nat) (v : Word) (h : actsAt off = false) (hw : w1cOf off = 0#32) :
    s.busWrite q off v = s.stageWrite q off v := by
  simp [State.busWrite, s.commandWrite_none q off v h, hw]

/-- W1C bits clear (R7). -/
theorem State.busWrite_clears (s : State) (q : Req) (off : Nat) (v : Word) (h : actsAt off = false) (hw : w1cOf off ≠ 0#32) :
    s.busWrite q off v = s.clearSticky off (v &&& w1cOf off) := by
  simp [State.busWrite, s.commandWrite_none q off v h, hw]

theorem State.busWrite_acts {s t : State} {q : Req} {off : Nat} {v : Word} (h : s.commandWrite q off v = some t) :
    s.busWrite q off v = t := by
  simp [State.busWrite, h]

/-- A register of a commit group is staged. -/
theorem State.stageWrite_shadow (s : State) (q : Req) (off : Nat) (v : Word) (r : RegRow) (h : tableAt off = false)
    (ho : off ≠ 0x404 ∧ off ≠ 0x70C ∧ off ≠ 0x710 ∧ off ≠ 0x200) (hr : regRow? off = some r) (hp : r.perReq = false)
    (hg : r.group ≠ .none) : s.stageWrite q off v = s.stageKey q off v := by
  obtain ⟨h1, h2, h3, h4⟩ := ho
  simp [State.stageWrite, s.writeTable_none q off v h, h1, h2, h3, h4, hr, hp, hg]

/-- A register with no stored bits ignores a write (R425). -/
theorem State.stageWrite_ignored (s : State) (q : Req) (off : Nat) (v : Word) (h : tableAt off = false)
    (ho : off ≠ 0x404 ∧ off ≠ 0x70C ∧ off ≠ 0x710) (hr : regRow? off = none) : s.stageWrite q off v = s := by
  obtain ⟨h1, h2, h3⟩ := ho
  simp [State.stageWrite, s.writeTable_none q off v h, h1, h2, h3, hr]

/-! ## Registers of commit groups -/

/-- The offsets a row's registers lie at. -/
theorem RegRow.holds_place {r : RegRow} {off : Nat} (h : r.holds off = true) (hc : 0 < r.count) :
    ∃ i < r.count, off = r.base + r.stride * i := by
  unfold RegRow.holds at h
  split at h
  · next hs => exact ⟨0, hc, by simpa using h⟩
  · next hs =>
    simp only [decide_eq_true_eq] at h
    obtain ⟨hlo, hhi, hm⟩ := h
    have hd : r.stride * ((off - r.base) / r.stride) = off - r.base := Nat.mul_div_cancel' (Nat.dvd_of_mod_eq_zero hm)
    refine ⟨(off - r.base) / r.stride, ?_, by omega⟩
    rw [Nat.div_lt_iff_lt_mul (Nat.pos_of_ne_zero hs), Nat.mul_comm]
    omega

theorem regRow?_mem {off : Nat} {r : RegRow} (h : regRow? off = some r) : r ∈ regRows := List.mem_of_find?_eq_some h

theorem regRow?_holds {off : Nat} {r : RegRow} (h : regRow? off = some r) : r.holds off = true :=
  List.find?_some (p := fun r : RegRow => r.holds off) h

/-- An offset whose write neither acts at once nor goes to a table, a route or a 64-bit value. -/
def shadowAt (off : Nat) : Bool := !actsAt off && !tableAt off && !([0x404, 0x70C, 0x710, 0x200].contains off)

/-- The rows of the register table that belong to commit groups: shared by the requesters, without W1C bits, apart from the
registers that act at once or select entries. -/
theorem regRows_group : ∀ r ∈ regRows, r.group ≠ .none → r.w1c = 0#32 ∧ r.perReq = false ∧ 0 < r.count ∧
    ∀ i < r.count, shadowAt (r.base + r.stride * i) = true := by
  decide +kernel

/-- A register offset of a commit group has a row that says so. -/
theorem groupOf_row {off g : Nat} (h : off < 0x10000) (hg : groupOf off = some g) :
    ∃ r, regRow? off = some r ∧ r.group ≠ .none := by
  rw [groupOf, if_pos h] at hg
  cases hr : regRow? off with
  | none => simp [hr] at hg
  | some r =>
    refine ⟨r, rfl, fun hn => ?_⟩
    simp [hr, hn] at hg

/-- A write to a register of a commit group stages it (R16). -/
theorem State.busWrite_group (s : State) (q : Req) (off g : Nat) (v : Word) (h : off < 0x10000) (hg : groupOf off = some g) :
    s.busWrite q off v = s.stageKey q off v := by
  obtain ⟨r, hr, hn⟩ := groupOf_row h hg
  obtain ⟨hw, hp, hc, hs⟩ := regRows_group r (regRow?_mem hr) hn
  obtain ⟨i, hi, rfl⟩ := RegRow.holds_place (regRow?_holds hr) hc
  have hs := hs i hi
  simp only [shadowAt, Bool.and_eq_true, Bool.not_eq_true', List.contains_eq_mem, List.mem_cons, List.not_mem_nil, or_false,
    decide_eq_false_iff_not, not_or] at hs
  obtain ⟨⟨ha, ht⟩, ho⟩ := hs
  rw [s.busWrite_stages q _ v ha (by simp [w1cOf, hr, hw]), s.stageWrite_shadow q _ v r ht ho hr hp hn]

/-! ## The commands that write -/

/-- A write that arrives is a write on the register bus. -/
theorem Does.of_write {c : Instr} {s : State} {q : Req} {off : Nat} {v : Word} {P : State → Prop}
    (e : exec c s = s.access q off (fun s => s.busWrite q off v)) (h : s.reaches_ q = true) (h1 : off % 4 = 0)
    (h2 : off < 0x10000) (k : P (s.busWrite q off v)) : Does c s P :=
  ⟨_, e.trans (s.access_arrives q off _ h h1 h2), k⟩

/-- Settles O57: the write is a staging of the register's key, which changes the writer's staged copy at that key alone. -/
theorem shadowWrites : Obligations.ShadowWrites := by
  unfold Obligations.ShadowWrites
  refine ⟨fun s q off g v hr h4 hb hg hm => ?_, fun s q off g v hr h4 hb hg hm => ?_⟩
  · refine Does.of_write rfl hr h4 hb ?_
    rw [s.busWrite_group q off g v hb hg]
    refine ⟨s.stageKey_staged q off v hm, ?_, ?_, ?_, fun k => by rw [State.stageKey_cfg], ?_, s.stageKey_keeps q off v⟩
    all_goals rw [s.stageKey_stores q off v hm]
    · intro k hk
      rw [State.setView_same]
      exact stagedGet?_put_other _ _ _ _ hk
    · simp
    · exact fun p hp => s.setView_other q p _ hp
    · simp
  · refine Does.of_write rfl hr h4 hb ?_
    rw [s.busWrite_group q off g v hb hg, s.stageKey_ignored q off v hm]

/-! ## Which bits a requester stores (R7) -/

theorem fld_lt (w : Word) (hi lo : Nat) : fld w hi lo < 2 ^ (hi - lo + 1) := Nat.mod_lt _ (Nat.two_pow_pos _)

theorem rwMask_int_table {key : Nat} (h : 0x10000 ≤ key) (h1 : key < 0x50000) : rwMask .int key = tableBits key := by
  rw [rwMask, if_neg (by omega), if_pos (by omega)]

theorem rwMask_int_route {src : Nat} (h : src < 0x10000) : rwMask .int (routeKey src) = 0xF83F8F00#32 := by
  rw [rwMask, if_neg (by simp only [routeKey]; omega), if_neg (by simp only [routeKey]; omega)]

theorem rwMask_table_other {q : Req} {key : Nat} (hq : q ≠ .int) (h : 0x10000 ≤ key) (h1 : key < 0x50000) :
    rwMask q key = 0#32 := by
  rw [rwMask, if_neg (by omega), if_pos (by omega)]
  cases q <;> trivial

theorem tableBits_ne_zero (key : Nat) : tableBits key ≠ 0#32 := by
  unfold tableBits
  repeat' split
  all_goals decide

/-- A program word has no reserved bits (R172). -/
theorem tableBits_program {key : Nat} (h : 0x40000 ≤ key) : tableBits key = 0xFFFFFFFF#32 := by
  rw [tableBits, if_neg (by omega), if_neg (by omega), if_neg (by omega)]

theorem opKey_table (n : Ch) (w : Word) : 0x10000 ≤ opKey n.val (fld w 7 0) ∧ opKey n.val (fld w 7 0) < 0x50000 := by
  have := fld_lt w 7 0
  simp only [opKey]
  omega

theorem stKey_table (n : Ch) (w : Word) (k : Fin 3) :
    0x10000 ≤ stKey n.val (fld w 5 0) k.val ∧ stKey n.val (fld w 5 0) k.val < 0x50000 := by
  have := fld_lt w 5 0
  simp only [stKey]
  omega

theorem rgKey_table (n : Ch) (w : Word) (k : Fin 3) :
    0x10000 ≤ rgKey n.val (fld w 6 0) k.val ∧ rgKey n.val (fld w 6 0) k.val < 0x50000 := by
  have := fld_lt w 6 0
  simp only [rgKey]
  omega

theorem seqKey_table (w : Word) : 0x40000 ≤ seqKey (fld w 7 0) ∧ seqKey (fld w 7 0) < 0x50000 := by
  have := fld_lt w 7 0
  simp only [seqKey]
  omega

/-! ## Writes of table entries (R70, R99, R103, R172) -/

/-- Of a requester's staged copy and the active copy, what is left is what staging a value under a key leaves. -/
def State.stagesIn (s t : State) (q : Req) (key : Nat) (v : Word) : Prop :=
  (t.view q).staged = ((s.stageKey q key v).view q).staged ∧ ∀ j, t.cfg j = s.cfg j

theorem State.stagesIn.entry {s : State} {q : Req} {key : Nat} {v : Word} : s.stagesIn (s.stageKey q key v) q key v :=
  ⟨rfl, fun j => by rw [State.stageKey_cfg]⟩

theorem State.stagesIn.entry_autoInc {s : State} {q : Req} {key off b n : Nat} {v : Word} :
    s.stagesIn ((s.stageKey q key v).autoInc q off b n) q key v :=
  ⟨State.autoInc_staged _ _ _ _ _, fun j => by rw [State.autoInc_cfg, State.stageKey_cfg]⟩

/-- Firmware's write stages the bits of an entry that are not reserved. -/
theorem State.stagesIn.int {s t : State} {key : Nat} {v : Word} (h : s.stagesIn t .int key v)
    (hk : 0x10000 ≤ key ∧ key < 0x50000) :
    stagedGet? (t.view .int).staged key = some (merge (tableBits key) (s.stagedView .int key) v) ∧ ∀ j, t.cfg j = s.cfg j := by
  have hm := rwMask_int_table hk.1 hk.2
  refine ⟨?_, h.2⟩
  rw [h.1, s.stageKey_staged .int key v (by rw [hm]; exact tableBits_ne_zero key), hm]

/-- No other requester writes table entries. -/
theorem State.stagesIn.other {s t : State} {q : Req} {key : Nat} {v : Word} (h : s.stagesIn t q key v) (hq : q ≠ .int)
    (hk : 0x10000 ≤ key ∧ key < 0x50000) : (t.view q).staged = (s.view q).staged ∧ ∀ j, t.cfg j = s.cfg j := by
  refine ⟨?_, h.2⟩
  rw [h.1, s.stageKey_ignored q key v (rwMask_table_other hq hk.1 hk.2)]

theorem State.stagesIn.of_table {s t : State} {q : Req} {off key : Nat} {v : Word} (h : s.writeTable q off v = some t)
    (k : s.stagesIn t q key v) : s.stagesIn (s.stageWrite q off v) q key v := by
  simpa only [State.stageWrite, h] using k

/-! The block of channel n: where its registers lie. -/

theorem fch_base (n : Ch) (o : Nat) : 0x1000 + 0x200 * n.val + o = fch n o := rfl

theorem fch_range (n : Ch) {o : Nat} (h : o < 0x200) : 0x1000 ≤ fch n o ∧ fch n o < 0x2000 := by
  simp only [fch]; omega

theorem fch_chan (n : Ch) {o : Nat} (h : o < 0x200) : (fch n o - 0x1000) / 0x200 = n.val := by
  simp only [fch]; omega

theorem fch_sub (n : Ch) (o : Nat) : fch n o - (0x1000 + 0x200 * n.val) = o := by
  simp only [fch]; omega

theorem fch_ne (n : Ch) (o : Nat) : fch n o ≠ 0x2FC := by
  simp only [fch]; omega

theorem State.stageWrite_opdata (s : State) (q : Req) (n : Ch) (v : Word) :
    s.stagesIn (s.stageWrite q (fch n 0x3C) v) q (opKey n.val (fld (s.ownReg q (fch n 0x38)) 7 0)) v :=
  .of_table (by simp [State.writeTable, fch_ne, fch_range, fch_chan, fch_sub, fch_base])
    (.entry_autoInc (off := fch n 0x38) (b := 8) (n := 256))

theorem State.stageWrite_stdata (s : State) (q : Req) (n : Ch) (k : Fin 3) (v : Word) :
    s.stagesIn (s.stageWrite q (fch n (0x84 + 4 * k.val)) v) q (stKey n.val (fld (s.ownReg q (fch n 0x80)) 5 0) k.val) v := by
  match k with
  | 0 => exact .of_table (by simp [State.writeTable, fch_ne, fch_range, fch_chan, fch_sub, fch_base]) .entry
  | 1 => exact .of_table (by simp [State.writeTable, fch_ne, fch_range, fch_chan, fch_sub, fch_base]) .entry
  | 2 =>
    exact .of_table (by simp [State.writeTable, fch_ne, fch_range, fch_chan, fch_sub, fch_base])
      (.entry_autoInc (off := fch n 0x80) (b := 7) (n := 64))

theorem State.stageWrite_rgdata (s : State) (q : Req) (n : Ch) (k : Fin 3) (v : Word) :
    s.stagesIn (s.stageWrite q (fch n (0x94 + 4 * k.val)) v) q (rgKey n.val (fld (s.ownReg q (fch n 0x90)) 6 0) k.val) v := by
  match k with
  | 0 => exact .of_table (by simp [State.writeTable, fch_ne, fch_range, fch_chan, fch_sub, fch_base]) .entry
  | 1 => exact .of_table (by simp [State.writeTable, fch_ne, fch_range, fch_chan, fch_sub, fch_base]) .entry
  | 2 =>
    exact .of_table (by simp [State.writeTable, fch_ne, fch_range, fch_chan, fch_sub, fch_base])
      (.entry_autoInc (off := fch n 0x90) (b := 7) (n := 128))

theorem State.stageWrite_seqdata (s : State) (q : Req) (v : Word) :
    s.stagesIn (s.stageWrite q 0x2FC v) q (seqKey (fld (s.ownReg q 0x2F8) 7 0)) v :=
  .entry_autoInc

/-! ## The route, the counters and the transmit buffers (R359, R372, R415) -/

/-- A route locked against the writer keeps its value and the index goes on (R359). -/
theorem State.writeRoute_locked (s : State) (q : Req) (v : Word) (hq : q ≠ .int)
    (h : bit (s.cfg (routeKey (fld (s.ownReg q 0x400) 9 0))) 31 = true) : s.writeRoute q v = s.autoInc q 0x400 16 1024 := by
  simp [State.writeRoute, hq, h]

/-- Firmware's write to a route is staged. -/
theorem State.writeRoute_int (s : State) (v : Word) :
    s.writeRoute .int v = (s.stageKey .int (routeKey (fld (s.ownReg .int 0x400) 9 0)) v).autoInc .int 0x400 16 1024 := by
  simp [State.writeRoute]

/-- A counter that exists takes the held low half and 16 bits of the high half (R25, R373). -/
theorem State.writeCounter_takes (s : State) (q : Req) (lo hi : Word) (h : (s.view q).wlatch = some (0x70C, lo))
    (hc : counterOk (fld (s.ownReg q 0x708) 8 0) = true) :
    s.writeCounter q hi =
      ({ s.setView q { s.view q with wlatch := none } with
          cntr := { s.cntr with
            vals := natPut s.cntr.vals (fld (s.ownReg q 0x708) 8 0) (lo.toNat + 2 ^ 32 * fld hi 15 0)
            ovf := if bit hi 31 then s.cntr.ovf.filter (fun j => j ≠ fld (s.ownReg q 0x708) 8 0) else s.cntr.ovf } } :
        State).autoInc q 0x708 16 512 := by
  simp [State.writeCounter, h, hc]

theorem State.view_cntr (t : State) (c : Cntr) (q : Req) : ({ t with cntr := c } : State).view q = t.view q := by
  cases q <;> rfl

theorem State.auxPort_eq (s : State) (a : Fin 2) : s.auxPort a.val = s.aux.ports[a] := by
  have h : a.val < s.aux.ports.toList.length := by rw [Vector.length_toList]; exact a.isLt
  rw [State.auxPort, List.getD_eq_getElem?_getD, List.getElem?_eq_getElem h, Option.getD_some, Vector.getElem_toList]
  rfl

theorem State.updAux_same (s : State) (a : Fin 2) (f : AuxPort → AuxPort) :
    (s.updAux a.val f).aux.ports[a] = f s.aux.ports[a] := by
  rw [State.updAux, dif_pos a.isLt]
  simp

theorem State.commandWrite_txdata (s : State) (q : Req) (a : Fin 2) (v : Word) :
    s.commandWrite q (asReg a.val 0x14) v = some (s.txWrite q a.val v) := by
  match a with
  | 0 => rfl
  | 1 => rfl

theorem State.txWrite_idle (s : State) (q : Req) (a : Fin 2) (v : Word) (h : (s.auxPort a.val).busy = false) :
    s.txWrite q a.val v = (s.updAux a.val (fun p =>
      { p with tx := storePut zeroDefault p.tx (fld (s.ownReg q (asReg a.val 0x10)) 8 0) v })).moveIndex q (asReg a.val 0x14) := by
  simp [State.txWrite, h]

theorem State.txWrite_busy (s : State) (q : Req) (a : Fin 2) (v : Word) (h : (s.auxPort a.val).busy = true) :
    s.txWrite q a.val v = (s.setSticky (asReg a.val 0xC) 0x4000000#32).moveIndex q (asReg a.val 0x14) := by
  simp [State.txWrite, h]

theorem State.moveIndex_of {off r b n : Nat} (h : indexAfter off = some (r, b, n)) (s : State) (q : Req) :
    s.moveIndex q off = s.autoInc q r b n := by
  simp [State.moveIndex, h]

theorem indexAfter_txdata (a : Fin 2) : indexAfter (asReg a.val 0x14) = some (asReg a.val 0x10, 9, 512) := by
  match a with
  | 0 => rfl
  | 1 => rfl

/-! ## Data registers -/

/-- An aligned word of BAR0 whose write neither acts at once nor clears bits. -/
def dataAt (off : Nat) : Bool := decide (off % 4 = 0 ∧ off < 0x10000) && !actsAt off && w1cOf off == 0#32

/-- A write of a data register that arrives. -/
theorem Does.of_dataWrite {c : Instr} {s : State} {q : Req} {off : Nat} {v : Word} {P : State → Prop}
    (e : exec c s = s.access q off (fun s => s.busWrite q off v)) (h : s.reaches_ q = true) (hd : dataAt off = true)
    (k : P (s.stageWrite q off v)) : Does c s P := by
  simp only [dataAt, Bool.and_eq_true, decide_eq_true_eq, Bool.not_eq_true', beq_iff_eq] at hd
  obtain ⟨⟨⟨h4, hb⟩, ha⟩, hw⟩ := hd
  refine Does.of_write e h h4 hb ?_
  rwa [s.busWrite_stages q off v ha hw]

theorem dataAt_opdata : ∀ n : Ch, dataAt (fch n 0x3C) = true := by decide +kernel
theorem dataAt_stdata : ∀ (n : Ch) (k : Fin 3), dataAt (fch n (0x84 + 4 * k.val)) = true := by decide +kernel
theorem dataAt_rgdata : ∀ (n : Ch) (k : Fin 3), dataAt (fch n (0x94 + 4 * k.val)) = true := by decide +kernel

/-! ## RegisterWrites -/

theorem registerWrite_tlmCfg (s : State) (q : Req) (v : Word) (h : s.reaches_ q = true) :
    Does (.registerWrite q 0x2C00 v) s (fun u =>
      stagedGet? (u.view q).staged 0x2C00 = some (merge (rwMask q 0x2C00) (s.stagedView q 0x2C00) v) ∧
      (∀ k, u.cfg k = s.cfg k) ∧ (∀ p, p ≠ q → u.view p = s.view p)) := by
  have hm : rwMask q 0x2C00 ≠ 0#32 := by cases q <;> decide
  obtain ⟨u, e, hu, -, -, hp, hc, -⟩ := shadowWrites.1 s q 0x2C00 28 v h rfl (by decide) rfl hm
  exact ⟨u, e, hu, hc, hp⟩

theorem registerWrite_cntStat (s : State) (q : Req) (v : Word) (h : s.reaches_ q = true)
    (w : storeWf zeroDefault s.regs.sticky = true) :
    Does (.registerWrite q 0x704 v) s (fun u => u.sticky 0x704 = s.sticky 0x704 &&& ~~~(v &&& 1#32) ∧
      (∀ k, k ≠ 0x704 → u.sticky k = s.sticky k)) := by
  refine Does.of_write rfl h rfl (by decide) ?_
  rw [s.busWrite_clears q 0x704 v rfl (by decide)]
  exact ⟨storeGet_put_same _ _ _ _ w, fun k hk => storeGet_put_other _ _ _ _ _ hk⟩

theorem highHalfWrite_rdno (s : State) (q : Req) (lo hi : Word) (h : s.reaches_ q = true)
    (hl : (s.view q).wlatch = some (0x51C, lo)) : Does (.highHalfWrite q 0x520 hi) s (fun u =>
      (u.view q).rdno = lo.toNat + 2 ^ 32 * hi.toNat ∧ (u.view q).wlatch = none) := by
  refine Does.of_write rfl h rfl (by decide) ?_
  rw [State.busWrite_acts (t := s.setView q { s.view q with wlatch := none, rdno := lo.toNat + 2 ^ 32 * hi.toNat })
    (by simp [State.commandWrite, hl]), State.setView_same]
  exact ⟨rfl, rfl⟩

theorem counterWrite_takes (s : State) (q : Req) (lo hi : Word) (c : Nat) (h : s.reaches_ q = true)
    (hl : (s.view q).wlatch = some (0x70C, lo)) (hi' : c = fld (s.ownReg q 0x708) 8 0) (hc : counterOk c = true) :
    Does (.counterWrite q hi) s (fun u =>
      u.cntr.vals = natPut s.cntr.vals c (lo.toNat + 2 ^ 32 * fld hi 15 0) ∧ (u.view q).wlatch = none ∧
      (bit hi 31 = false → u.cntr.ovf = s.cntr.ovf) ∧
      (bit hi 31 = true → c ∉ u.cntr.ovf ∧ ∀ d, d ≠ c → (d ∈ u.cntr.ovf ↔ d ∈ s.cntr.ovf))) := by
  subst hi'
  refine Does.of_dataWrite rfl h (by decide +kernel) ?_
  have e : s.stageWrite q 0x710 hi = s.writeCounter q hi := rfl
  rw [e, s.writeCounter_takes q lo hi hl hc]
  refine ⟨by simp, ?_, fun hb => by simp [hb], fun hb => ?_⟩
  · rw [State.autoInc_wlatch]
    exact congrArg ReqView.wlatch ((State.view_cntr _ _ q).trans (State.setView_same _ _ _))
  · simp +contextual [hb]

theorem txdataWrite_stores (s : State) (q : Req) (a : Fin 2) (v : Word) (h : s.reaches_ q = true)
    (hb : s.aux.ports[a].busy = false) (hv : v ≠ 0#32) : Does (.txdataWrite q a v) s (fun u =>
      storeGet zeroDefault u.aux.ports[a].tx (fld (s.ownReg q (asReg a.val 0x10)) 8 0) = v ∧
      u.view q = (s.autoInc q (asReg a.val 0x10) 9 512).view q) := by
  refine Does.of_write rfl h (by simp only [asReg]; omega) (by simp only [asReg]; omega) ?_
  rw [State.busWrite_acts (s.commandWrite_txdata q a v), s.txWrite_idle q a v (s.auxPort_eq a ▸ hb),
    State.moveIndex_of (indexAfter_txdata a)]
  refine ⟨?_, State.autoInc_view_congr ?_ _ _ _⟩
  · rw [(State.autoInc_keeps _ _ _ _ _ : State.sameBut _ _ _) .aux (by decide), State.updAux_same]
    exact storeGet_put_listed _ _ _ _ hv
  · simp

theorem txdataWrite_refused (s : State) (q : Req) (a : Fin 2) (v : Word) (h : s.reaches_ q = true)
    (hb : s.aux.ports[a].busy = true) : Does (.txdataWrite q a v) s (fun u =>
      u.aux = s.aux ∧ bit (u.sticky (asReg a.val 0xC)) 26 = true) := by
  refine Does.of_write rfl h (by simp only [asReg]; omega) (by simp only [asReg]; omega) ?_
  rw [State.busWrite_acts (s.commandWrite_txdata q a v), s.txWrite_busy q a v (s.auxPort_eq a ▸ hb),
    State.moveIndex_of (indexAfter_txdata a)]
  have hb : bit (s.sticky (asReg a.val 0xC) ||| 0x4000000#32) 26 = true := by simp [bit]
  have hn : s.sticky (asReg a.val 0xC) ||| 0x4000000#32 ≠ 0#32 := fun e => by simp [e, bit] at hb
  exact ⟨by simp, by rw [State.autoInc_sticky, s.setSticky_same _ _ hn]; exact hb⟩

/-- Settles O7: which kind of register each offset is, and what a write does to that kind. -/
theorem registerWrites : Obligations.RegisterWrites := by
  unfold Obligations.RegisterWrites
  refine ⟨registerWrite_tlmCfg, registerWrite_cntStat, fun s q v h => ?_, highHalfWrite_rdno, fun s q v h hq hl => ?_,
    fun s v h => ?_, counterWrite_takes, fun s n v k h hk => ?_, fun s n j v k h hk => ?_, fun s n j v k h hk => ?_,
    fun s v k h hk => ?_, fun s q n v h hq => ?_, txdataWrite_stores, txdataWrite_refused⟩
  · refine Does.of_dataWrite rfl h (by decide +kernel) ?_
    exact s.stageWrite_ignored q 0 v rfl (by decide) (by decide +kernel)
  · refine Does.of_dataWrite rfl h (by decide +kernel) ?_
    rw [show s.stageWrite q 0x404 v = s.writeRoute q v from rfl, s.writeRoute_locked q v hq hl]
    exact ⟨State.autoInc_staged _ _ _ _ _, rfl⟩
  · refine Does.of_dataWrite rfl h (by decide +kernel) ?_
    have hm := rwMask_int_route (src := fld (s.ownReg .int 0x400) 9 0) (by have := fld_lt (s.ownReg .int 0x400) 9 0; omega)
    rw [show s.stageWrite .int 0x404 v = s.writeRoute .int v from rfl, s.writeRoute_int, State.autoInc_staged,
      s.stageKey_staged .int _ v (by rw [hm]; decide), hm]
  · subst hk
    exact Does.of_dataWrite rfl h (dataAt_opdata n) ((s.stageWrite_opdata .int n v).int (opKey_table n _))
  · subst hk
    exact Does.of_dataWrite rfl h (dataAt_stdata n j) ((s.stageWrite_stdata .int n j v).int (stKey_table n _ j))
  · subst hk
    exact Does.of_dataWrite rfl h (dataAt_rgdata n j) ((s.stageWrite_rgdata .int n j v).int (rgKey_table n _ j))
  · have hb := hk ▸ seqKey_table (s.ownReg .int 0x2F8)
    have hall := tableBits_program hb.1
    subst hk
    refine Does.of_dataWrite rfl h (by decide +kernel) ?_
    have := (s.stageWrite_seqdata .int v).int ⟨by omega, hb.2⟩
    rwa [hall, merge_all] at this
  · exact Does.of_dataWrite rfl h (dataAt_opdata n) ((s.stageWrite_opdata q n v).other hq (opKey_table n _))

end Sys2Proof.Machine
end

section
/-! PROOFS. What a register read answers and leaves (R7, R16, R24, R25): the value of each kind of register, the latch of a high
half, the index that goes on, and the statements about LOW_HALF_READ and the rows that read data registers. -/

namespace Sys2Proof.Machine

/-! ## Halves of 64-bit values (R25) -/

/-- The offsets outside the channels' blocks where the low half of a 64-bit value lies (`State.wide`). -/
def wideOffsets : List Nat :=
  [0x88, 0x90, 0x98, 0xD8, 0x214, 0x408, 0x50C, 0x514, 0x51C, 0x70C, 0x221C, 0x240C, 0x2418, 0x2420, 0x2428, 0x2430, 0x2440,
    0x2458]

/-- Whether the low half of a 64-bit value lies at an offset. -/
def wideAt (off : Nat) : Bool :=
  wideOffsets.contains off || decide (0x1000 ≤ off ∧ off < 0x2000) && (off % 0x200 == 0x50 || off % 0x200 == 0x58)

theorem State.wide_none (s : State) (q : Req) (off : Nat) (h : wideAt off = false) : s.wide q off = none := by
  simp only [wideAt, Bool.or_eq_false_iff, Bool.and_eq_false_iff, decide_eq_false_iff_not, beq_eq_false_iff_ne] at h
  obtain ⟨hlist, hch⟩ := h
  unfold State.wide
  split
  case h_19 =>
    rcases hch with hch | ⟨h1, h2⟩
    · rw [if_neg hch]
    · simp [h1, h2]
  all_goals simp [wideOffsets] at hlist

/-- A read of a live register that is no half of a 64-bit value. -/
theorem State.readWord_live (s : State) (q : Req) (off : Nat) (w : Word) (h : wideAt off = false) (h4 : wideAt (off - 4) = false)
    (k : s.liveWord q off = some w) : s.readWord q off = w := by
  simp [State.readWord, s.wide_none q off h, s.wide_none q (off - 4) h4, k]

theorem State.readWord_low (s : State) (q : Req) (off : Nat) (d : DWord) (h : s.wide q off = some d) :
    s.readWord q off = loHalf d := by
  simp [State.readWord, h]

/-- The high half is the latched one, and the live one where none is latched. -/
theorem State.readWord_high (s : State) (q : Req) (off : Nat) (d : DWord) (h : wideAt off = false) (h4 : 4 ≤ off)
    (k : s.wide q (off - 4) = some d) : s.readWord q off = (stagedGet? (s.view q).latch (off - 4)).getD (hiHalf d) := by
  simp [State.readWord, s.wide_none q off h, h4, k]

/-! ## Sampled words (R218, R325, R354, R364) -/

/-- The offsets that read a word sampled before. -/
def sampledAt (off : Nat) : Bool :=
  decide (0xE4 ≤ off ∧ off < 0xF4) || decide (0x524 ≤ off ∧ off < 0x544) || [0x2450, 0x2454, 0x2460].contains off ||
    decide (0x2624 ≤ off ∧ off < 0x2644)

/-- No sampled word is a half of a 64-bit value. -/
theorem sampledAt_single {off : Nat} (h : sampledAt off = true) : wideAt off = false ∧ wideAt (off - 4) = false := by
  simp only [sampledAt, wideAt, wideOffsets, List.contains_eq_mem, List.mem_cons, List.not_mem_nil, or_false, Bool.or_eq_true,
    Bool.or_eq_false_iff, Bool.and_eq_false_iff, decide_eq_true_eq, decide_eq_false_iff_not, beq_eq_false_iff_ne] at h ⊢
  omega

theorem State.liveWord_evt (s : State) (q : Req) (off : Nat) (h : 0x400 ≤ off ∧ off < 0x800) :
    s.liveWord q off = s.evtWord q off := by
  rw [State.liveWord, if_neg (by omega), if_neg (by omega), if_neg (by omega), if_neg (by omega), if_neg (by omega), if_pos h]

theorem State.liveWord_mid (s : State) (q : Req) (off : Nat) (h : 0x2000 ≤ off ∧ off < 0x2800) :
    s.liveWord q off = s.midWord q off := by
  rw [State.liveWord, if_neg (by omega), if_neg (by omega), if_neg (by omega), if_neg (by omega), if_neg (by omega),
    if_neg (by omega), if_neg (by omega), if_neg (by omega), if_neg (by omega), if_pos h]

theorem State.liveWord_sampled (s : State) (q : Req) (off : Nat) (h : sampledAt off = true) :
    s.liveWord q off = some (storeGet zeroDefault (s.view q).sample off) := by
  simp only [sampledAt, Bool.or_eq_true, decide_eq_true_eq] at h
  rcases h with ((h | h) | h) | h
  · have e : off ≠ 0x30 ∧ off ≠ 0xC0 ∧ off ≠ 0xC4 ∧ off ≠ 0xC8 ∧ off ≠ 0xCC ∧ off ≠ 0xE0 := by omega
    simp [State.liveWord, e, h]
  · rw [s.liveWord_evt q off (by omega)]
    unfold State.evtWord
    split
    case h_13 => rw [if_pos h]
    all_goals omega
  · simp only [List.contains_eq_mem, List.mem_cons, List.not_mem_nil, or_false, decide_eq_true_eq] at h
    rcases h with rfl | rfl | rfl <;> rfl
  · rw [s.liveWord_mid q off (by omega)]
    unfold State.midWord
    split
    case h_25 => rw [if_pos h]
    all_goals omega

/-! ## What sampling leaves -/

theorem State.addSample_view_other (s : State) (q p : Req) (key stride : Nat) (ws : List Word) (h : p ≠ q) :
    (s.addSample q key stride ws).view p = s.view p := s.setView_other q p _ h

theorem State.addSample_own (s : State) (q : Req) (key stride : Nat) (ws : List Word) :
    ((s.addSample q key stride ws).view q).own = (s.view q).own := by
  simp [State.addSample]

theorem State.sampleRec_adds (s : State) (q : Req) : ∃ key stride ws, s.sampleRec q = s.addSample q key stride ws := by
  unfold State.sampleRec
  split <;> exact ⟨_, _, _, rfl⟩

theorem State.sampleStream_adds (s : State) (q : Req) : ∃ key stride ws, s.sampleStream q = s.addSample q key stride ws := by
  unfold State.sampleStream
  split <;> exact ⟨_, _, _, rfl⟩

/-- A read samples, at most, words into its requester's samples. -/
theorem State.sampleFor_cases (s : State) (q : Req) (off : Nat) :
    s.sampleFor q off = s ∨ ∃ key stride ws, s.sampleFor q off = s.addSample q key stride ws := by
  unfold State.sampleFor
  split
  · exact .inr (s.sampleRec_adds q)
  · split
    · exact .inr (s.sampleStream_adds q)
    · split
      · exact .inr ⟨_, _, _, rfl⟩
      · split
        · exact .inr ⟨_, _, _, rfl⟩
        · split
          · exact .inr ⟨_, _, _, rfl⟩
          · exact .inl rfl

theorem State.sampleFor_view_other (s : State) (q p : Req) (off : Nat) (h : p ≠ q) :
    (s.sampleFor q off).view p = s.view p := by
  obtain e | ⟨key, stride, ws, e⟩ := s.sampleFor_cases q off
  · rw [e]
  · rw [e, s.addSample_view_other q p key stride ws h]

theorem State.sampleFor_ownReg (s : State) (q : Req) (off r : Nat) : (s.sampleFor q off).ownReg q r = s.ownReg q r := by
  obtain e | ⟨key, stride, ws, e⟩ := s.sampleFor_cases q off
  · rw [e]
  · rw [e, State.ownReg, State.addSample_own, State.ownReg]

/-! ## What a read leaves -/

@[simp] theorem State.autoInc_latch (s : State) (q : Req) (off b n : Nat) :
    ((s.autoInc q off b n).view q).latch = (s.view q).latch := by
  rw [State.autoInc_view]

@[simp] theorem State.autoInc_vmax (s : State) (q : Req) (off b n : Nat) :
    ((s.autoInc q off b n).view q).vmax = (s.view q).vmax := by
  rw [State.autoInc_view]

theorem State.autoInc_view_other (s : State) (q p : Req) (off b n : Nat) (h : p ≠ q) :
    (s.autoInc q off b n).view p = s.view p := s.setView_other q p _ h

@[simp] theorem State.moveIndex_latch (s : State) (q : Req) (off : Nat) :
    ((s.moveIndex q off).view q).latch = (s.view q).latch := by
  unfold State.moveIndex
  split <;> simp

@[simp] theorem State.moveIndex_vmax (s : State) (q : Req) (off : Nat) :
    ((s.moveIndex q off).view q).vmax = (s.view q).vmax := by
  unfold State.moveIndex
  split <;> simp

theorem State.moveIndex_view_other (s : State) (q p : Req) (off : Nat) (h : p ≠ q) :
    (s.moveIndex q off).view p = s.view p := by
  unfold State.moveIndex
  split
  · exact s.autoInc_view_other q p _ _ _ h
  · rfl

/-! The parts of what a read does besides (`State.afterRead_parts`). -/

/-- The high half of a 64-bit value is latched with its low half (R25). -/
def State.latchHigh (s : State) (q : Req) (off : Nat) : State :=
  match s.wide q off with
  | some d => s.setView q { s.view q with latch := stagedPut (s.view q).latch off (hiHalf d) }
  | none => s

/-- RDNO goes on with the last word of a record (R364). -/
def State.passRecord (s : State) (q : Req) (off : Nat) : State :=
  if off = 0x540 then
    let v := s.view q
    let no := (storeGet zeroDefault v.sample 0x524).toNat + 2 ^ 32 * (storeGet zeroDefault v.sample 0x544).toNat
    if no = 0 then s else s.setView q { v with rdno := no + 1 }
  else s

/-- VMAX clears (R165). -/
def State.clearVmax (s : State) (q : Req) (off : Nat) : State :=
  if 0x1000 ≤ off ∧ off < 0x2000 ∧ off % 0x200 = 0x138 then
    s.setView q { s.view q with vmax := (s.view q).vmax.set ((off - 0x1000) / 0x200) 0 }
  else s

/-- A register that reads a free value uses it (log entry 2). -/
def State.useFree (s : State) (off : Nat) : State :=
  if [0x2E0, 0x280C, 0x284C, 0x2818, 0x2858, 0x2E04].contains off then s.bumpFree else s

theorem State.afterRead_parts (s : State) (q : Req) (off : Nat) :
    s.afterRead q off = ((((s.latchHigh q off).passRecord q off).clearVmax q off).useFree off).moveIndex q off := rfl

theorem State.latchHigh_low (s : State) (q : Req) (off : Nat) (d : DWord) (h : s.wide q off = some d) :
    s.latchHigh q off = s.setView q { s.view q with latch := stagedPut (s.view q).latch off (hiHalf d) } := by
  simp [State.latchHigh, h]

theorem State.latchHigh_none (s : State) (q : Req) (off : Nat) (h : s.wide q off = none) : s.latchHigh q off = s := by
  simp [State.latchHigh, h]

theorem State.latchHigh_view_other (s : State) (q p : Req) (off : Nat) (h : p ≠ q) : (s.latchHigh q off).view p = s.view p := by
  cases hw : s.wide q off with
  | none => rw [s.latchHigh_none q off hw]
  | some d => rw [s.latchHigh_low q off d hw, s.setView_other q p _ h]

/-- RDNO is all that goes on with a record. -/
theorem State.passRecord_cases (s : State) (q : Req) (off : Nat) :
    s.passRecord q off = s ∨ ∃ no, s.passRecord q off = s.setView q { s.view q with rdno := no } := by
  unfold State.passRecord
  split
  · dsimp only
    split
    · exact .inl rfl
    · exact .inr ⟨_, rfl⟩
  · exact .inl rfl

theorem State.passRecord_none (s : State) (q : Req) (off : Nat) (h : off ≠ 0x540) : s.passRecord q off = s := if_neg h

theorem State.passRecord_view_other (s : State) (q p : Req) (off : Nat) (h : p ≠ q) :
    (s.passRecord q off).view p = s.view p := by
  obtain e | ⟨no, e⟩ := s.passRecord_cases q off
  · rw [e]
  · rw [e, s.setView_other q p _ h]

@[simp] theorem State.passRecord_latch (s : State) (q : Req) (off : Nat) :
    ((s.passRecord q off).view q).latch = (s.view q).latch := by
  obtain e | ⟨no, e⟩ := s.passRecord_cases q off
  · rw [e]
  · rw [e, State.setView_same]

theorem State.clearVmax_none (s : State) (q : Req) (off : Nat)
    (h : ¬(0x1000 ≤ off ∧ off < 0x2000 ∧ off % 0x200 = 0x138)) : s.clearVmax q off = s := if_neg h

theorem State.clearVmax_fch (s : State) (q : Req) (n : Ch) : s.clearVmax q (fch n 0x138) =
    s.setView q { s.view q with vmax := (s.view q).vmax.set n.val 0 } := by
  have h : 0x1000 ≤ fch n 0x138 ∧ fch n 0x138 < 0x2000 ∧ fch n 0x138 % 0x200 = 0x138 := by simp only [fch]; omega
  rw [State.clearVmax, if_pos h, fch_chan n (by decide)]

theorem State.clearVmax_view_other (s : State) (q p : Req) (off : Nat) (h : p ≠ q) : (s.clearVmax q off).view p = s.view p := by
  unfold State.clearVmax
  split
  · exact s.setView_other q p _ h
  · rfl

@[simp] theorem State.clearVmax_latch (s : State) (q : Req) (off : Nat) :
    ((s.clearVmax q off).view q).latch = (s.view q).latch := by
  unfold State.clearVmax
  split
  · rw [State.setView_same]
  · rfl

@[simp] theorem State.useFree_view (s : State) (off : Nat) : (s.useFree off).view = s.view := by
  unfold State.useFree
  split
  · simp
  · rfl

theorem State.afterRead_latch (s : State) (q : Req) (off : Nat) (d : DWord) (h : s.wide q off = some d) :
    ((s.afterRead q off).view q).latch = stagedPut (s.view q).latch off (hiHalf d) := by
  simp [State.afterRead_parts, s.latchHigh_low q off d h]

/-- A read changes no other requester's view. -/
theorem State.afterRead_view_other (s : State) (q p : Req) (off : Nat) (h : p ≠ q) : (s.afterRead q off).view p = s.view p := by
  rw [State.afterRead_parts, State.moveIndex_view_other _ q p off h, State.useFree_view, State.clearVmax_view_other _ q p off h,
    State.passRecord_view_other _ q p off h, State.latchHigh_view_other _ q p off h]

/-- A data register of 32 bits moves its index on and changes nothing else of its requester's view. -/
theorem State.afterRead_index (s : State) (q : Req) (off r b n : Nat) (hw : wideAt off = false) (h1 : off ≠ 0x540)
    (h2 : ¬(0x1000 ≤ off ∧ off < 0x2000 ∧ off % 0x200 = 0x138)) (hi : indexAfter off = some (r, b, n)) :
    (s.afterRead q off).view q = (s.autoInc q r b n).view q := by
  rw [State.afterRead_parts, s.latchHigh_none q off (s.wide_none q off hw), s.passRecord_none q off h1, s.clearVmax_none q off h2,
    State.moveIndex_of hi]
  exact State.autoInc_view_congr (by simp) r b n

theorem State.afterRead_vmax (s : State) (q : Req) (n : Ch) :
    ((s.afterRead q (fch n 0x138)).view q).vmax = (s.view q).vmax.set n.val 0 := by
  rw [State.afterRead_parts, s.latchHigh_none q _ (s.wide_fch q n 0x138 (by decide) (by decide) (by decide)),
    s.passRecord_none q _ (by simp only [fch]; omega), s.clearVmax_fch q n]
  simp

theorem State.busRead_view_other (s : State) (q p : Req) (off : Nat) (h : p ≠ q) : (s.busRead q off).view p = s.view p := by
  rw [State.busRead, State.afterRead_view_other _ q p off h, State.emit_view, s.sampleFor_view_other q p off h]

theorem indexAfter_ne {off : Nat} {x : Nat × Nat × Nat} (h : indexAfter off = some x) :
    off ≠ 0x540 ∧ ¬(0x1000 ≤ off ∧ off < 0x2000 ∧ off % 0x200 = 0x138) := by
  refine ⟨?_, ?_⟩
  · rintro rfl
    cases h
  · rintro ⟨h1, h2, h3⟩
    unfold indexAfter at h
    repeat rw [if_neg (by omega)] at h
    rw [if_pos ⟨h1, h2⟩, h3] at h
    cases h

/-- A read of a live word answers it as found once the read has sampled what it samples. -/
theorem State.busRead_answers (s : State) (q : Req) (off : Nat) (w : Word) (h0 : wideAt off = false)
    (h1 : wideAt (off - 4) = false) (hw : (s.sampleFor q off).liveWord q off = some w) :
    (s.busRead q off).outbox = s.outbox ++ [.regValue q off w] := by
  rw [State.busRead_outbox, State.readWord_live _ q off w h0 h1 hw]

/-- A read of the low half of a 64-bit value latches the high half. -/
theorem State.busRead_latch (s : State) (q : Req) (off : Nat) (d : DWord) (hs : s.sampleFor q off = s)
    (h : ∀ o, (s.emit o).wide q off = some d) :
    ((s.busRead q off).view q).latch = stagedPut (s.view q).latch off (hiHalf d) := by
  rw [State.busRead, hs, State.afterRead_latch _ q off d (h _), State.emit_view]

/-- A read of a data register moves its index on. -/
theorem State.busRead_index (s : State) (q : Req) (off r b n : Nat) (h : wideAt off = false) (hs : s.sampleFor q off = s)
    (hi : indexAfter off = some (r, b, n)) : (s.busRead q off).view q = (s.autoInc q r b n).view q := by
  obtain ⟨h1, h2⟩ := indexAfter_ne hi
  rw [State.busRead, hs, State.afterRead_index _ q off r b n h h1 h2 hi]
  exact State.autoInc_view_congr (State.emit_view _ _ _) r b n

/-! ## The commands that read -/

/-- A read that arrives is a read on the register bus. -/
theorem Does.of_read {c : Instr} {s : State} {q : Req} {off : Nat} {P : State → Prop}
    (e : exec c s = s.access q off (fun s => s.busRead q off)) (h : s.reaches_ q = true) (ha : off % 4 = 0 ∧ off < 0x10000)
    (k : P (s.busRead q off)) : Does c s P :=
  ⟨_, e.trans (s.access_arrives q off _ h ha.1 ha.2), k⟩

theorem State.accessRead_aligned (s : State) (q : Req) (off : Nat) (h : off % 4 = 0) :
    s.accessRead q off = s.access q off (fun s => s.busRead q off) := by
  have e : off / 4 * 4 = off := by omega
  simp [State.accessRead, e]

/-- A data register that samples nothing. -/
theorem Does.of_indexRead {c : Instr} {s : State} {q : Req} {off r b n : Nat} {w : Word}
    (e : exec c s = s.access q off (fun s => s.busRead q off)) (h : s.reaches_ q = true) (ha : off % 4 = 0 ∧ off < 0x10000)
    (h0 : wideAt off = false) (hs : s.sampleFor q off = s) (hw : s.readWord q off = w) (hi : indexAfter off = some (r, b, n)) :
    Does c s (fun u => u.outbox = s.outbox ++ [.regValue q off w] ∧ u.view q = (s.autoInc q r b n).view q) := by
  refine Does.of_read e h ha ⟨?_, s.busRead_index q off r b n h0 hs hi⟩
  rw [State.busRead_outbox, hs, hw]

/-- A word sampled before, or with this read. -/
theorem Does.of_sampleRead {c : Instr} {s : State} {q : Req} {off : Nat}
    (e : exec c s = s.access q off (fun s => s.busRead q off)) (h : s.reaches_ q = true) (ha : off % 4 = 0)
    (hd : sampledAt off = true) : Does c s (fun u =>
      u.outbox = s.outbox ++ [.regValue q off (storeGet zeroDefault ((s.sampleFor q off).view q).sample off)]) := by
  have hb : off < 0x10000 := by
    simp only [sampledAt, Bool.or_eq_true, decide_eq_true_eq, List.contains_eq_mem, List.mem_cons, List.not_mem_nil, or_false] at hd
    omega
  obtain ⟨h0, h1⟩ := sampledAt_single hd
  exact Does.of_read e h ⟨ha, hb⟩ (s.busRead_answers q off _ h0 h1 (State.liveWord_sampled _ q off hd))

/-! The block of channel n. -/

/-- A word of a channel's block that is no half of a 64-bit value. -/
abbrev fchWordAt (o : Nat) : Prop :=
  4 ≤ o ∧ o < 0x200 ∧ o % 4 = 0 ∧ o ≠ 0x50 ∧ o ≠ 0x54 ∧ o ≠ 0x58 ∧ o ≠ 0x5C

theorem fch_aligned (n : Ch) {o : Nat} (h : fchWordAt o) : fch n o % 4 = 0 ∧ fch n o < 0x10000 := by
  simp only [fch]; omega

theorem fch_sampleFor (s : State) (q : Req) (n : Ch) {o : Nat} (h : fchWordAt o) : s.sampleFor q (fch n o) = s :=
  s.sampleFor_none q _ (by simp only [fch]; omega)

theorem fch_readWord (s : State) (q : Req) (n : Ch) {o : Nat} {w : Word} (h : fchWordAt o) (k : s.fchWord q n o = some w) :
    s.readWord q (fch n o) = w :=
  s.readWord_fch q n o w (by omega) (by omega) (by omega) k

theorem fch_busRead (s : State) (q : Req) (n : Ch) {o : Nat} {w : Word} (h : fchWordAt o) (k : s.fchWord q n o = some w) :
    (s.busRead q (fch n o)).outbox = s.outbox ++ [.regValue q (fch n o) w] := by
  rw [State.busRead_outbox, fch_sampleFor s q n h, fch_readWord s q n h k]

theorem wideAt_fch (n : Ch) {o : Nat} (h : fchWordAt o) : wideAt (fch n o) = false := by
  have hr := fch_range n (o := o) (by omega)
  have hm : fch n o % 0x200 = o := by simp only [fch]; omega
  simp only [wideAt, wideOffsets, hm, List.contains_eq_mem, List.mem_cons, List.not_mem_nil, or_false, Bool.or_eq_false_iff,
    Bool.and_eq_false_iff, decide_eq_false_iff_not, beq_eq_false_iff_ne]
  omega

theorem fchWord_stdata (s : State) (q : Req) (n : Ch) (k : Fin 3) : s.fchWord q n (0x84 + 4 * k.val) =
    some (s.cfg (stKey n.val (fld (s.ownReg q (fch n 0x80)) 5 0) k.val)) :=
  match k with
  | 0 => rfl
  | 1 => rfl
  | 2 => rfl

theorem fchWord_rgdata (s : State) (q : Req) (n : Ch) (k : Fin 3) : s.fchWord q n (0x94 + 4 * k.val) =
    some (s.cfg (rgKey n.val (fld (s.ownReg q (fch n 0x90)) 6 0) k.val)) :=
  match k with
  | 0 => rfl
  | 1 => rfl
  | 2 => rfl

/-- A data register of a channel's block. -/
theorem Does.of_fchRead {c : Instr} {s : State} {q : Req} {n : Ch} {o r b m : Nat} {w : Word}
    (e : exec c s = s.access q (fch n o) (fun s => s.busRead q (fch n o))) (h : s.reaches_ q = true) (ho : fchWordAt o)
    (hw : s.fchWord q n o = some w) (hi : ∀ n : Ch, indexAfter (fch n o) = some (fch n r, b, m)) :
    Does c s (fun u => u.outbox = s.outbox ++ [.regValue q (fch n o) w] ∧ u.view q = (s.autoInc q (fch n r) b m).view q) :=
  Does.of_indexRead e h (fch_aligned n ho) (wideAt_fch n ho) (fch_sampleFor s q n ho) (fch_readWord s q n ho hw) (hi n)

/-! ## RegisterReads -/

theorem lowHalfRead_clearNo (s : State) (q : Req) (h : s.reaches_ q = true) : Does (.lowHalfRead q 0x514 true) s (fun u =>
    u.outbox = s.outbox ++ [.regValue q 0x514 (loHalf (BitVec.ofNat 64 s.evt.clearNo)),
      .regValue q 0x518 (hiHalf (BitVec.ofNat 64 s.evt.clearNo))]) := by
  refine ⟨(s.busRead q 0x514).busRead q 0x518,
    s.access_arrives q 0x514 (fun s => (s.busRead q 0x514).busRead q 0x518) h rfl (by decide), ?_⟩
  change ((s.busRead q 0x514).busRead q 0x518).outbox = _
  have hlo : s.wide q 0x514 = some (BitVec.ofNat 64 s.evt.clearNo) := rfl
  have hl := s.busRead_latch q 0x514 _ (s.sampleFor_none q 0x514 (by decide)) (fun _ => hlo)
  rw [State.busRead_outbox, State.busRead_outbox, State.sampleFor_none _ q 0x514 (by decide),
    State.sampleFor_none _ q 0x518 (by decide), s.readWord_low q 0x514 _ hlo,
    State.readWord_high _ q 0x518 _ rfl (by decide) rfl, hl, stagedGet?_put_same, Option.getD_some, List.append_assoc]
  rfl

theorem getD_set_self (l : List Nat) (i d : Nat) : (l.set i d).getD i d = d := by
  rw [List.getD_eq_getElem?_getD, List.getElem?_set_self']
  cases l[i]? <;> rfl

theorem rcRead_vmax (s : State) (q : Req) (n : Ch) (h : s.reaches_ q = true) : Does (.rcRead q n) s (fun u =>
    u.outbox = s.outbox ++ [.regValue q (fch n 0x138) (word ((s.view q).vmax.getD n.val 0))] ∧
    (u.view q).vmax.getD n.val 0 = 0 ∧ (∀ p, p ≠ q → u.view p = s.view p)) := by
  have ho : fchWordAt 0x138 := by decide
  refine Does.of_read (s.accessRead_aligned q _ (fch_aligned n ho).1) h (fch_aligned n ho)
    ⟨fch_busRead s q n ho rfl, ?_, fun p hp => s.busRead_view_other q p _ hp⟩
  rw [State.busRead, State.afterRead_vmax]
  exact getD_set_self _ _ _

theorem counterDataRead_low (s : State) (q : Req) (h : s.reaches_ q = true) : Does (.counterDataRead q false) s (fun u =>
    u.outbox = s.outbox ++ [.regValue q 0x70C (loHalf (s.counterWord (fld (s.ownReg q 0x708) 8 0)))] ∧
    stagedGet? (u.view q).latch 0x70C = some (hiHalf (s.counterWord (fld (s.ownReg q 0x708) 8 0)))) := by
  have hs := s.sampleFor_none q 0x70C (by decide)
  have hd : s.wide q 0x70C = some (s.counterWord (fld (s.ownReg q 0x708) 8 0)) := rfl
  refine Does.of_read (s.accessRead_aligned q 0x70C rfl) h (by decide) ⟨?_, ?_⟩
  · rw [State.busRead_outbox, hs, s.readWord_low q 0x70C _ hd]
  · rw [s.busRead_latch q 0x70C _ hs (fun _ => hd), stagedGet?_put_same]

theorem tlmDataRead_word (s : State) (q : Req) (h : s.reaches_ q = true) : Does (.tlmDataRead q) s (fun u =>
    u.outbox = s.outbox ++ [.regValue q 0x2C0C (if 119 < fld (s.ownReg q 0x2C08) 6 0 then 0#32
      else storeGet zeroDefault ((s.sampleFor q 0x2C0C).view q).sample (tlmKey (fld (s.ownReg q 0x2C08) 6 0)))]) := by
  refine Does.of_read (s.accessRead_aligned q _ rfl) h (by decide) (s.busRead_answers q 0x2C0C _ rfl rfl ?_)
  rw [← s.sampleFor_ownReg q 0x2C0C 0x2C08]
  rfl

theorem liveWord_rxdata (s : State) (q : Req) (a : Fin 2) : s.liveWord q (asReg a.val 0x18) =
    some (s.rxWord a.val (fld (s.ownReg q (asReg a.val 0x10)) 8 0)) :=
  match a with
  | 0 => rfl
  | 1 => rfl

/-- A register access that names no register (R222; log entry 53). -/
theorem State.access_nowhere (s : State) (q : Req) (off : Nat) (k : State → State) (h : s.reaches_ q = true) (hq : q ≠ .host)
    (hoff : off % 4 ≠ 0 ∨ 0x10000 ≤ off) : s.access q off k = .fault (.noRegister off) := by
  have ho : ¬(off % 4 = 0 ∧ off < 0x10000) := by omega
  simp [State.access, h, ho, hq]

theorem State.access_unsupported (s : State) (off : Nat) (k : State → State) (h : s.reaches_ .host = true)
    (hoff : off % 4 ≠ 0 ∨ 0x10000 ≤ off) : s.access .host off k = .next ((s.raise 683 0).emit .ur) := by
  have ho : ¬(off % 4 = 0 ∧ off < 0x10000) := by omega
  simp [State.access, h, ho]

theorem execBar4Read_arrives (s : State) (k : Fin 8192) (hf : Half) (h : s.reaches_ .host = true) :
    execBar4Read k hf s = .next (s.bar4Served k.val hf) := by
  simp [execBar4Read, h]

theorem bar4Read_exported (s : State) (k : Fin 8192) (h : s.reaches_ .host = true) (hx : bit (s.cfg 0x700) 31 = true) :
    Does (.bar4Read k .both) s (fun u => u.outbox = s.outbox ++ [.regValue64 (8 * k.val) (s.counterWord k.val)]) := by
  refine ⟨_, execBar4Read_arrives s k .both h, ?_⟩
  simp [State.bar4Served, hx, State.bar4Read, State.emit]

theorem bar4Read_denied (s : State) (k : Fin 8192) (h : s.reaches_ .host = true) (hx : bit (s.cfg 0x700) 31 = false)
    (hd : bit (s.sticky 0x704) 0 = false) : Does (.bar4Read k .both) s (fun u =>
      u.outbox = s.outbox ++ [.regValue64 (8 * k.val) 0#64] ∧ s.raises u 880 0) := by
  have e : s.bar4Served k.val .both = ((s.setSticky 0x704 0x1#32).raise 880 0).emit (.regValue64 (8 * k.val) 0#64) := by
    simp [State.bar4Served, hx, hd, State.raiseIf]
  refine ⟨_, execBar4Read_arrives s k .both h, ?_⟩
  rw [e]
  have hg : s.grows (s.setSticky 0x704 0x1#32) := State.grows.refl.of_eq (by simp)
  exact ⟨by simp [State.emit], (hg.raises 880 0).of_eq (by simp)⟩

/-- Settles O6: which kind of register each offset is, and what a read of that kind answers and leaves. -/
theorem registerReads : Obligations.RegisterReads := by
  unfold Obligations.RegisterReads
  refine ⟨lowHalfRead_clearNo, fun s q h => ?_, rcRead_vmax, fun s q k h => ?_, fun s q h hl => ?_, counterDataRead_low,
    fun s q w h hl => ?_, bar4Read_exported, bar4Read_denied, fun s q n h => ?_, fun s q n h => ?_, fun s q n k h => ?_,
    fun s q n k h => ?_, fun s q h => ?_, fun s q n h => ?_, fun s q k h => ?_, fun s q h => ?_, fun s q k h => ?_,
    fun s q k h => ?_, fun s q v h hv => ?_, fun s q h hi => ?_, fun s q h hi => ?_, fun s q a h => ?_,
    fun s q off h hq ho v => ?_, fun s off v h ho => ?_⟩
  -- IDENT, a record's words, EVT.PEND_HI, CNT.DATA_HI
  · exact Does.of_read rfl h (by decide) (s.busRead_answers q 0 _ rfl rfl rfl)
  · exact Does.of_sampleRead (s.accessRead_aligned q _ (by omega)) h (by omega) (by revert k; decide)
  · refine Does.of_indexRead (s.accessRead_aligned q _ rfl) h (by decide) rfl rfl ?_ rfl
    rw [s.readWord_high q 0x40C _ rfl (by decide) rfl, hl]
    rfl
  · refine Does.of_indexRead (s.accessRead_aligned q _ rfl) h (by decide) rfl rfl ?_ rfl
    rw [s.readWord_high q 0x710 _ rfl (by decide) rfl, hl, Option.getD_some]
  -- a channel's tables and the program
  · exact Does.of_fchRead rfl h (by decide) rfl (by decide)
  · exact Does.of_fchRead (s.accessRead_aligned q _ (fch_aligned n (by decide)).1) h (by decide) rfl (by decide)
  · have ho : fchWordAt (0x84 + 4 * k.val) := by omega
    exact Does.of_read rfl h (fch_aligned n ho) (fch_busRead s q n ho (fchWord_stdata s q n k))
  · have ho : fchWordAt (0x94 + 4 * k.val) := by omega
    exact Does.of_read rfl h (fch_aligned n ho) (fch_busRead s q n ho (fchWord_rgdata s q n k))
  · exact Does.of_indexRead rfl h (by decide) rfl rfl (s.readWord_live q 0x2FC _ rfl rfl rfl) rfl
  · exact Does.of_fchRead (s.accessRead_aligned q _ (fch_aligned n (by decide)).1) h (by decide) rfl (by decide)
  -- a stream's words, a Cask's, a tamper record's
  · exact Does.of_sampleRead (s.accessRead_aligned q _ (by omega)) h (by omega) (by revert k; decide)
  · exact Does.of_indexRead (s.accessRead_aligned q _ rfl) h (by decide) rfl rfl (s.readWord_live q 0x2460 _ rfl rfl rfl) rfl
  · exact Does.of_sampleRead (s.accessRead_aligned q _ (by omega)) h (by omega) (by revert k; decide)
  · exact Does.of_sampleRead (s.accessRead_aligned q _ (by omega)) h (by omega) (by revert k; decide)
  -- a Vintage counter, telemetry, a receive buffer
  · subst hv
    exact Does.of_indexRead (s.accessRead_aligned q _ rfl) h (by decide) rfl rfl (s.readWord_live q 0x34 _ rfl rfl rfl) rfl
  · simpa only [hi, if_true] using tlmDataRead_word s q h
  · simpa only [Nat.not_lt.mpr hi, if_false] using tlmDataRead_word s q h
  · exact Does.of_indexRead (s.accessRead_aligned q (asReg a.val 0x18) (by revert a; decide)) h (by revert a; decide)
      (by revert a; decide) (s.sampleFor_none q _ (by revert a; decide))
      (s.readWord_live q _ _ (by revert a; decide) (by revert a; decide) (liveWord_rxdata s q a)) (by revert a; decide)
  -- no register
  · exact s.access_nowhere q off (fun s => s.busWrite q off v) h hq ho
  · refine ⟨_, s.access_unsupported off (fun s => s.busWrite .host off v) h ho, ?_⟩
    exact ⟨by simp [State.emit], (State.grows.refl.raises 683 0).of_eq (by simp)⟩

end Sys2Proof.Machine
end

section
/-! PROOFS. Reading a channel after a change to one (chapter 04): what a slot, a part, the phase and the other channels are after each
operation of the update flow and of the device-side port. -/

namespace Sys2Proof.Machine

/-! ## Slots and parts -/

theorem State.updSlot_slot (s : State) (n : Ch) (k : SlotId) (f : Slot → Slot) :
    ((s.updSlot n k f).chan n).slot k = f ((s.chan n).slot k) := by
  simp [State.updSlot, Chan.slot]

theorem State.updSlot_slot_other (s : State) (n : Ch) {j k : SlotId} (f : Slot → Slot) (h : k ≠ j) :
    ((s.updSlot n j f).chan n).slot k = (s.chan n).slot k := by
  have h : j.val ≠ k.val := fun e => h (Fin.ext e.symm)
  simp [State.updSlot, Chan.slot, h]

theorem State.updSlot_other (s : State) {n m : Ch} (k : SlotId) (f : Slot → Slot) (h : m ≠ n) :
    (s.updSlot n k f).chan m = s.chan m := s.updChan_other n m _ h

theorem State.updPart_prt (s : State) (n : Ch) (k : PartId) (f : Part → Part) :
    ((s.updPart n k f).chan n).prt k = f ((s.chan n).prt k) := by
  simp [State.updPart, Chan.prt]

theorem State.updPart_prt_other (s : State) (n : Ch) {j k : PartId} (f : Part → Part) (h : k ≠ j) :
    ((s.updPart n j f).chan n).prt k = (s.chan n).prt k := by
  have h : j.val ≠ k.val := fun e => h (Fin.ext e.symm)
  simp [State.updPart, Chan.prt, h]

theorem State.updPart_slot (s : State) (n : Ch) (j : PartId) (f : Part → Part) (k : SlotId) :
    ((s.updPart n j f).chan n).slot k = (s.chan n).slot k := by
  simp [State.updPart, Chan.slot]

theorem State.updPart_port (s : State) (n : Ch) (k : PartId) (f : Part → Part) :
    ((s.updPart n k f).chan n).port = (s.chan n).port := by
  simp [State.updPart]

theorem State.updPart_st (s : State) (n : Ch) (k : PartId) (f : Part → Part) :
    ((s.updPart n k f).chan n).st = (s.chan n).st := by
  simp [State.updPart]

theorem State.updPart_other (s : State) {n m : Ch} (k : PartId) (f : Part → Part) (h : m ≠ n) :
    (s.updPart n k f).chan m = s.chan m := s.updChan_other n m _ h

theorem State.updPort_prt (s : State) (n : Ch) (f : Port → Port) (k : PartId) :
    ((s.updPort n f).chan n).prt k = (s.chan n).prt k := by
  simp [Chan.prt]

/-! ## One change to several parts of a channel -/

/-- Each listed part of a channel changed. -/
def State.updParts (s : State) (n : Ch) (ks : List PartId) (f : Part → Part) : State := ks.foldl (fun s k => s.updPart n k f) s

theorem State.updParts_slot (s : State) (n : Ch) (ks : List PartId) (f : Part → Part) (k : SlotId) :
    ((s.updParts n ks f).chan n).slot k = (s.chan n).slot k :=
  List.foldlRecOn (motive := fun t : State => (t.chan n).slot k = (s.chan n).slot k) ks _ rfl
    fun t h j _ => (t.updPart_slot n j f k).trans h

theorem State.updParts_port (s : State) (n : Ch) (ks : List PartId) (f : Part → Part) :
    ((s.updParts n ks f).chan n).port = (s.chan n).port :=
  List.foldlRecOn (motive := fun t : State => (t.chan n).port = (s.chan n).port) ks _ rfl
    fun t h j _ => (t.updPart_port n j f).trans h

theorem State.updParts_st (s : State) (n : Ch) (ks : List PartId) (f : Part → Part) :
    ((s.updParts n ks f).chan n).st = (s.chan n).st :=
  List.foldlRecOn (motive := fun t : State => (t.chan n).st = (s.chan n).st) ks _ rfl
    fun t h j _ => (t.updPart_st n j f).trans h

theorem State.updParts_other (s : State) {n m : Ch} (ks : List PartId) (f : Part → Part) (h : m ≠ n) :
    (s.updParts n ks f).chan m = s.chan m :=
  List.foldlRecOn (motive := fun t : State => t.chan m = s.chan m) ks _ rfl fun t e j _ => (t.updPart_other j f h).trans e

theorem State.updParts_prt_out (s : State) (n : Ch) {ks : List PartId} (f : Part → Part) {k : PartId} (h : k ∉ ks) :
    ((s.updParts n ks f).chan n).prt k = (s.chan n).prt k :=
  List.foldlRecOn (motive := fun t : State => (t.chan n).prt k = (s.chan n).prt k) ks _ rfl
    fun t ht j hj => (t.updPart_prt_other n f (fun e => h (by rwa [e]))).trans ht

/-- A change that makes no difference the second time: a listed part is changed once. -/
theorem State.updParts_prt_in (s : State) (n : Ch) {ks : List PartId} {f : Part → Part} (hf : ∀ p, f (f p) = f p) {k : PartId}
    (h : k ∈ ks) : ((s.updParts n ks f).chan n).prt k = f ((s.chan n).prt k) := by
  induction ks generalizing s with
  | nil => cases h
  | cons j r ih =>
    show (((s.updPart n j f).updParts n r f).chan n).prt k = _
    by_cases hr : k ∈ r
    · rw [ih _ hr]
      by_cases e : k = j
      · rw [e, State.updPart_prt, hf]
      · rw [State.updPart_prt_other _ _ _ e]
    · have e : k = j := by simpa [hr] using h
      rw [State.updParts_prt_out _ _ _ hr, e, State.updPart_prt]

/-! ## Parts that become busy or free (R108, R122) -/

theorem State.setBusy_eq (s : State) (n : Ch) (ks : List PartId) (b : Option Busy) :
    s.setBusy n ks b = s.updParts n ks (fun p => { p with busy := b, stage := 0 }) := rfl

theorem State.setBusy_other (s : State) {n m : Ch} (ks : List PartId) (b : Option Busy) (h : m ≠ n) :
    (s.setBusy n ks b).chan m = s.chan m := s.updParts_other ks _ h

theorem State.setBusy_prt_in (s : State) (n : Ch) {ks : List PartId} (b : Option Busy) {k : PartId} (h : k ∈ ks) :
    ((s.setBusy n ks b).chan n).prt k = { (s.chan n).prt k with busy := b, stage := 0 } :=
  s.updParts_prt_in (f := fun p => { p with busy := b, stage := 0 }) n (fun _ => rfl) h

theorem State.setBusy_prt_out (s : State) (n : Ch) {ks : List PartId} (b : Option Busy) {k : PartId} (h : k ∉ ks) :
    ((s.setBusy n ks b).chan n).prt k = (s.chan n).prt k := s.updParts_prt_out n _ h

/-! ## Phases and abandoned updates (R106, R112, R113) -/

theorem State.setPhase_chan (s : State) (n : Ch) (p : Phase) : (s.setPhase n p).chan n = { s.chan n with phase := p } := by
  unfold State.setPhase
  split
  · next h => rw [← h]
  · simp

theorem State.setPhase_other (s : State) {n m : Ch} (p : Phase) (h : m ≠ n) : (s.setPhase n p).chan m = s.chan m := by
  unfold State.setPhase
  split
  · rfl
  · simp [State.updChan_other _ _ _ _ h]

theorem State.setPhase_raises (s : State) (n : Ch) (p : Phase) (h : (s.chan n).phase ≠ p) :
    s.raises (s.setPhase n p) (64 * n.val + 17) 0 := by
  rw [State.setPhase, if_neg h]
  exact (State.updChan_grows _ _ _).raises _ _

theorem State.runAfterCopy_slot (s : State) (n : Ch) (k : SlotId) :
    ((s.runAfterCopy n).chan n).slot k = (s.chan n).slot k := by
  unfold State.runAfterCopy
  split
  · rw [State.setPhase_chan]; rfl
  · rfl

theorem State.runAfterCopy_phase (s : State) (n : Ch) : ((s.runAfterCopy n).chan n).phase ≠ .update := by
  unfold State.runAfterCopy
  split
  · simp [State.setPhase_chan]
  · assumption

theorem State.runAfterCopy_other (s : State) {n m : Ch} (h : m ≠ n) : (s.runAfterCopy n).chan m = s.chan m := by
  unfold State.runAfterCopy
  split
  · exact s.setPhase_other _ h
  · rfl

theorem State.abandonUpdate_slot (s : State) (n : Ch) (k : SlotId) :
    ((s.abandonUpdate n k).chan n).slot k = { (s.chan n).slot k with upd := .idle, locked := false, up := none, progress := 0 } := by
  simp [State.abandonUpdate, State.runAfterCopy_slot, State.updSlot_slot]

theorem State.abandonUpdate_phase (s : State) (n : Ch) (k : SlotId) : ((s.abandonUpdate n k).chan n).phase ≠ .update := by
  simp [State.abandonUpdate, State.runAfterCopy_phase]

theorem State.abandonUpdate_other (s : State) {n m : Ch} (k : SlotId) (h : m ≠ n) :
    (s.abandonUpdate n k).chan m = s.chan m := by
  simp [State.abandonUpdate, State.runAfterCopy_other _ h, State.updSlot_other _ _ _ h]

theorem State.abandonUpdate_raises (s : State) (n : Ch) (k : SlotId) :
    s.raises (s.abandonUpdate n k) (64 * n.val + 20) (chArg 0 0 4 k.val) :=
  ((State.updSlot_grows _ _ _ _).trans (State.runAfterCopy_grows _ _)).raises _ _

/-! ## Intent records (R127) -/

/-- With the Rootstock a record joins the journal, under the next sequence number. -/
theorem State.intent_intents (s : State) (kind chan slot state step nsteps src dst arg : Nat) (h : s.crypt.root ≠ none) :
    (s.intent kind chan slot state step nsteps src dst arg).vault.intents =
      s.vault.intents ++ [⟨s.vault.nextSeq, kind, chan, slot, state, step, nsteps, src, dst, arg, true⟩] := by
  simp [State.intent, h]

theorem State.intent_length (s : State) (kind chan slot state step nsteps src dst arg : Nat) :
    (s.intent kind chan slot state step nsteps src dst arg).vault.intents.length =
      s.vault.intents.length + (if s.crypt.root = none then 0 else 1) := by
  unfold State.intent
  split <;> simp

theorem State.intent_nextSeq (s : State) (kind chan slot state step nsteps src dst arg : Nat) (h : s.crypt.root ≠ none) :
    (s.intent kind chan slot state step nsteps src dst arg).vault.nextSeq = wrap32 (s.vault.nextSeq + 1) := by
  simp [State.intent, h]

/-- A command that answers a state does what holds of that state. -/
theorem Does.intro {c : Instr} {s u : State} {P : State → Prop} (e : exec c s = .next u) (h : P u) : Does c s P := ⟨u, e, h⟩

end Sys2Proof.Machine
end

section
/-! PROOFS. The image update of a slot, step by step (R106, R107, R112 to R116). -/

namespace Sys2Proof.Machine

/-! ## The phase and the wait for an exposed part (R106, R107) -/

theorem boottimeElapsed_runs (s : State) (n : Ch) (hp : s.powered = true) (hst : (s.chan n).st = .released)
    (hph : (s.chan n).phase = .boot) (hr : fld (s.cfg (fch n 0xA4)) 3 2 = 1) : Does (.boottimeElapsed n) s (fun u =>
      s.chanBecomes u n { s.chan n with phase := .run } ∧ s.raises u (64 * n.val + 17) 0 ∧ s.sameBut u [.evt, .chs]) := by
  refine Does.intro (u := s.setPhase n .run) ?_ ⟨⟨s.setPhase_chan n .run, fun m hm => s.setPhase_other .run hm⟩,
    s.setPhase_raises n .run (by simp [hph]), (s.setPhase_keeps n .run).mono rfl⟩
  show execBoottimeElapsed n s = _
  rw [execBoottimeElapsed, if_pos ⟨hp, hst, hph, hr⟩]

theorem updateTimeout_runs (s : State) (n : Ch) (hp : s.powered = true) (hph : (s.chan n).phase = .update)
    (hu : s.updating n = false) : Does (.updateTimeout n) s (fun u =>
      s.chanBecomes u n { s.chan n with phase := .run } ∧ s.raises u (64 * n.val + 18) 0 ∧ s.sameBut u [.evt, .chs]) := by
  refine Does.intro (u := (s.setPhase n .run).raiseCh n 18 0) ?_ ⟨⟨?_, fun m hm => ?_⟩,
    (s.setPhase_grows n .run).raises _ _, ((s.setPhase_keeps n .run).step (State.raiseCh_keeps _ _ _ _) rfl).mono rfl⟩
  · show execUpdateTimeout n s = _
    rw [execUpdateTimeout, if_pos ⟨hp, hph, hu⟩]
  · simp [State.setPhase_chan]
  · simp [State.setPhase_other _ _ hm]

theorem exposedWaitEnd_copies (s : State) (n : Ch) (k : SlotId) (hp : s.powered = true)
    (hw : ((s.chan n).slot k).upd = .waitPart) (he : s.exposed n (s.nextPart n k) = false) : Does (.exposedWaitEnd n k) s (fun u =>
      (u.chan n).slot k = { (s.chan n).slot k with upd := .copying } ∧ (∀ m, m ≠ n → u.chan m = s.chan m) ∧
      s.sameBut u [.chs]) := by
  refine Does.intro (u := s.updSlot n k (fun z => { z with upd := .copying })) ?_
    ⟨s.updSlot_slot n k _, fun m hm => s.updSlot_other k _ hm, s.updSlot_keeps n k _⟩
  show execExposedWaitEnd n k s = _
  rw [execExposedWaitEnd, if_pos ⟨hp, hw, he⟩]

/-! ## The check of the staged image (R112, R151) -/

/-- The job that checks the staged image of a slot. -/
def stagingJob (n : Ch) (k : SlotId) : Job := { cls := 2, ch := none, tag := 4 * n.val + k.val, engine := 8 }

/-- The check has run on its Press credit: a copy begins with its record, or the activation is abandoned. -/
theorem execStagingVerify_ran {s : State} {n : Ch} {k : SlotId} {p : Update} (ok : Bool) (hp : s.powered = true)
    (hv : ((s.chan n).slot k).upd = .verifying) (hu : ((s.chan n).slot k).up = some p) (hh : s.portHeld n = false)
    (hr : (s.pressRun (stagingJob n k)).2 = true) :
    exec (.stagingVerify n k ok) s = .next (
      let t := (s.pressRun (stagingJob n k)).1
      if ok then (t.updSlot n k (fun z => { z with upd := .copying, progress := 0 })).intent 1 n.val k.val 0 0 p.nsteps
        (placeWord (s.stagingPlace n k false 0)) (s.copyPlace n k (s.inactCopy n k)) 0
      else t.abandonUpdate n k) := by
  show execStagingVerify n k ok s = _
  simp only [stagingJob] at hr
  simp [execStagingVerify, stagingJob, hp, hv, hu, hh, hr]

theorem stagingVerify_copies (s : State) (n : Ch) (k : SlotId) (p : Update) (hp : s.powered = true)
    (hv : ((s.chan n).slot k).upd = .verifying) (hu : ((s.chan n).slot k).up = some p) (hh : s.portHeld n = false)
    (hr : (s.pressRun (stagingJob n k)).2 = true) : Does (.stagingVerify n k true) s (fun u =>
      (u.chan n).slot k = { (s.chan n).slot k with upd := .copying, progress := 0 } ∧
      (s.crypt.root ≠ none → u.vault.intents = s.vault.intents ++ [(⟨s.vault.nextSeq, 1, n.val, k.val, 0, 0, p.nsteps,
        placeWord (s.stagingPlace n k false 0), s.copyPlace n k (s.inactCopy n k), 0, true⟩ : Intent)]) ∧
      (∀ m, m ≠ n → u.chan m = s.chan m)) := by
  refine Does.intro (execStagingVerify_ran true hp hv hu hh hr) ⟨?_, fun hroot => ?_, fun m hm => ?_⟩
  · simp [State.updSlot_slot]
  · simp [State.intent_intents, hroot]
  · simp [State.updSlot_other _ _ _ hm]

theorem stagingVerify_abandons (s : State) (n : Ch) (k : SlotId) (p : Update) (hp : s.powered = true)
    (hv : ((s.chan n).slot k).upd = .verifying) (hu : ((s.chan n).slot k).up = some p) (hh : s.portHeld n = false)
    (hr : (s.pressRun (stagingJob n k)).2 = true) : Does (.stagingVerify n k false) s (fun u =>
      (u.chan n).slot k = { (s.chan n).slot k with upd := .idle, locked := false, up := none, progress := 0 } ∧
      (u.chan n).phase ≠ .update ∧ s.raises u (64 * n.val + 20) (chArg 0 0 4 k.val) ∧ (∀ m, m ≠ n → u.chan m = s.chan m)) := by
  refine Does.intro (execStagingVerify_ran false hp hv hu hh hr) ⟨?_, State.abandonUpdate_phase _ _ _,
    (s.pressRun_grows _).then (State.abandonUpdate_raises _ _ _), fun m hm => ?_⟩
  · simp [State.abandonUpdate_slot]
  · simp [State.abandonUpdate_other _ _ hm]

/-! ## Erase units copied (R113, R456) -/

@[simp] theorem Slot.setMan_rest (z : Slot) (copy : Nat) (m : Option Manifest) :
    (z.setMan copy m).upd = z.upd ∧ (z.setMan copy m).locked = z.locked := by
  unfold Slot.setMan
  split
  · exact ⟨rfl, rfl⟩
  · split
    · exact ⟨rfl, rfl⟩
    · exact ⟨rfl, rfl⟩

theorem State.closeRepairs_other (s : State) {n m : Ch} (k : SlotId) (copy : Nat) (h : m ≠ n) :
    (s.closeRepairs n k copy).chan m = s.chan m := by
  unfold State.closeRepairs
  rw [State.updChan_other _ _ _ _ h]
  exact List.foldlRecOn (motive := fun t : State => t.chan m = s.chan m) _ _ rfl (fun t e r _ => by simp [e])

/-- A complete copy, not to be flipped now: FLIP_PENDING and the lock lifted. -/
theorem State.copyDone_slot (s : State) (n : Ch) (k : SlotId) (p : Update) (src dst : Nat) (h : p.flipNow = false) :
    (((s.copyDone n k p src dst).chan n).slot k).upd = .flipPending ∧ (((s.copyDone n k p src dst).chan n).slot k).locked = false := by
  simp [State.copyDone, h, State.runAfterCopy_slot, State.updSlot_slot]

theorem State.copyDone_phase (s : State) (n : Ch) (k : SlotId) (p : Update) (src dst : Nat) (h : p.flipNow = false) :
    ((s.copyDone n k p src dst).chan n).phase ≠ .update := by
  simp [State.copyDone, h, State.runAfterCopy_phase]

theorem State.copyDone_other (s : State) {n m : Ch} (k : SlotId) (p : Update) (src dst : Nat) (h : p.flipNow = false) (hm : m ≠ n) :
    (s.copyDone n k p src dst).chan m = s.chan m := by
  simp [State.copyDone, h, State.runAfterCopy_other _ hm, State.updSlot_other _ _ _ hm, State.closeRepairs_other _ _ _ hm]

theorem State.copyDone_raises (s : State) (n : Ch) (k : SlotId) (p : Update) (src dst : Nat) (h : p.flipNow = false) :
    s.raises (s.copyDone n k p src dst) (64 * n.val + 21) (chArg 0 0 4 k.val) := by
  simp only [State.copyDone, h, if_false, Bool.false_eq_true]
  refine State.raises.trans ?_ (State.runAfterCopy_grows _ _)
  exact ((((State.closeRepairs_grows _ _ _ _).trans (State.updSlot_grows _ _ _ _)).trans (State.intent_grows ..)).trans
    (State.intent_grows ..)).raises _ _

/-- An update whose copy has gone on by some units. -/
def Update.advance (p : Update) (units : Nat) : Update := { p with step := p.step + units, fails := 0 }

/-- The state in which a step of a copy has verified: the part free, the step and the progress counted. -/
def State.unitsCopied (s : State) (n : Ch) (k : SlotId) (p : Update) (part : PartId) : State :=
  (s.setBusy n [part] none).updSlot n k (fun z => { z with up := some p, progress := 100 * p.step / max 1 p.nsteps })

theorem State.unitsCopied_slot (s : State) (n : Ch) (k : SlotId) (p : Update) (part : PartId) :
    ((s.unitsCopied n k p part).chan n).slot k =
      { (s.chan n).slot k with up := some p, progress := 100 * p.step / max 1 p.nsteps } := by
  simp [State.unitsCopied, State.updSlot_slot, State.setBusy_eq, State.updParts_slot]

theorem State.unitsCopied_other (s : State) {n m : Ch} (k : SlotId) (p : Update) (part : PartId) (h : m ≠ n) :
    (s.unitsCopied n k p part).chan m = s.chan m := by
  rw [State.unitsCopied, State.updSlot_other _ _ _ h, State.setBusy_other _ _ _ h]

theorem State.unitsCopied_grows (s : State) (n : Ch) (k : SlotId) (p : Update) (part : PartId) :
    s.grows (s.unitsCopied n k p part) := (State.setBusy_grows _ _ _ _).trans (State.updSlot_grows _ _ _ _)

/-- Where a place of the staging window lies rests on the configuration alone. -/
theorem State.stagingPlace_congr {s t : State} (h : t.cfg = s.cfg) (n : Ch) (k : SlotId) (m : Bool) (i : Nat) :
    t.stagingPlace n k m i = s.stagingPlace n k m i := by
  unfold State.stagingPlace State.extents State.regions
  rw [h]

/-- Units that may be written now are: the copy goes on with its record, or it is complete. -/
theorem execCopyUnit_writes {s : State} {n : Ch} {k : SlotId} {p : Update} {units : Nat} {x : CopyUnit} {r : List CopyUnit}
    (hp : s.powered = true) (hc : ((s.chan n).slot k).upd = .copying) (hu : ((s.chan n).slot k).up = some p)
    (hl : ((s.copyUnitList n k (s.inactCopy n k)).drop p.step).take units = x :: r)
    (hj : unitsJoin ((s.chan n).prt x.part).erases (x :: r) = true) (he : s.exposed n x.part = false)
    (hw : s.canWrite n x.part = true) :
    exec (.copyUnit n k units true) s = .next (
      let q := p.advance (r.length + 1)
      let t := s.unitsCopied n k q x.part
      let src := placeWord (s.stagingPlace n k x.metaPg x.page)
      let dst := placeWord (some (x.part, x.addr / 4096))
      if p.step + (r.length + 1) < p.nsteps then t.intent 1 n.val k.val 0 q.step q.nsteps src dst 0 else t.copyDone n k q src dst) := by
  have hs : ∀ m i, (s.setBusy n [x.part] none).stagingPlace n k m i = s.stagingPlace n k m i :=
    fun m i => State.stagingPlace_congr (by simp) n k m i
  show execCopyUnit n k units true s = _
  simp [execCopyUnit, State.unitsCopied, Update.advance, hp, hc, hu, hl, hj, he, hw, hs]

theorem copyUnit_goesOn (s : State) (n : Ch) (k : SlotId) (p : Update) (units : Nat) (x : CopyUnit) (r : List CopyUnit)
    (hp : s.powered = true) (hc : ((s.chan n).slot k).upd = .copying) (hu : ((s.chan n).slot k).up = some p)
    (hl : ((s.copyUnitList n k (s.inactCopy n k)).drop p.step).take units = x :: r)
    (hj : unitsJoin ((s.chan n).prt x.part).erases (x :: r) = true) (he : s.exposed n x.part = false)
    (hw : s.canWrite n x.part = true) (hn : p.step + (r.length + 1) < p.nsteps) : Does (.copyUnit n k units true) s (fun u =>
      (u.chan n).slot k = { (s.chan n).slot k with
        up := some { p with step := p.step + (r.length + 1), fails := 0 }
        progress := 100 * (p.step + (r.length + 1)) / p.nsteps } ∧
      (s.crypt.root ≠ none → u.vault.intents = s.vault.intents ++ [(⟨s.vault.nextSeq, 1, n.val, k.val, 0, p.step + (r.length + 1),
        p.nsteps, placeWord (s.stagingPlace n k x.metaPg x.page), placeWord (some (x.part, x.addr / 4096)), 0, true⟩ : Intent)]) ∧
      (∀ m, m ≠ n → u.chan m = s.chan m)) := by
  refine Does.intro (execCopyUnit_writes hp hc hu hl hj he hw) ?_
  have hmax : max 1 p.nsteps = p.nsteps := by omega
  simp only [hn, if_true]
  refine ⟨?_, fun hroot => ?_, fun m hm => ?_⟩
  · simp [State.unitsCopied_slot, Update.advance, hmax]
  · simp [State.intent_intents, State.unitsCopied, Update.advance, hroot]
  · simp [State.unitsCopied_other _ _ _ _ hm]

theorem copyUnit_completes (s : State) (n : Ch) (k : SlotId) (p : Update) (units : Nat) (x : CopyUnit) (r : List CopyUnit)
    (hp : s.powered = true) (hc : ((s.chan n).slot k).upd = .copying) (hu : ((s.chan n).slot k).up = some p)
    (hl : ((s.copyUnitList n k (s.inactCopy n k)).drop p.step).take units = x :: r)
    (hj : unitsJoin ((s.chan n).prt x.part).erases (x :: r) = true) (he : s.exposed n x.part = false)
    (hw : s.canWrite n x.part = true) (hn : p.nsteps ≤ p.step + (r.length + 1)) (hf : p.flipNow = false) :
    Does (.copyUnit n k units true) s (fun u =>
      ((u.chan n).slot k).upd = .flipPending ∧ ((u.chan n).slot k).locked = false ∧ (u.chan n).phase ≠ .update ∧
      s.raises u (64 * n.val + 21) (chArg 0 0 4 k.val) ∧ (∀ m, m ≠ n → u.chan m = s.chan m)) := by
  refine Does.intro (execCopyUnit_writes hp hc hu hl hj he hw) ?_
  have hf : (p.advance (r.length + 1)).flipNow = false := hf
  simp only [Nat.not_lt.mpr hn, if_false]
  obtain ⟨hupd, hlock⟩ := State.copyDone_slot (s.unitsCopied n k (p.advance (r.length + 1)) x.part) n k _ _ _ hf
  exact ⟨hupd, hlock, State.copyDone_phase _ _ _ _ _ _ hf,
    (State.unitsCopied_grows _ _ _ _ _).then (State.copyDone_raises _ _ _ _ _ _ hf),
    fun m hm => (State.copyDone_other _ _ _ _ _ hf hm).trans (State.unitsCopied_other _ _ _ _ hm)⟩

/-! ## The confirmation window ends (R115) -/

/-- A slot that rolls back: its rejected copy is no source. -/
def Slot.rejected (z : Slot) : Prop := z.upd = .rollingBack ∧ z.inactValid = false

theorem State.commitField_chan (s : State) (key : Nat) (v : Word) : (s.commitField key v).chan = s.chan :=
  State.chan_of (s.commitField_keeps key v .chs (by decide))

/-- A commit of ACT leaves every slot as it is. -/
theorem State.commitAct_slot (s : State) (n : Ch) (j k : SlotId) :
    ((s.commitAct n j).chan n).slot k = (s.chan n).slot k := by
  simp [State.commitAct, State.chan_mk, State.chs_get, State.commitField_chan, Chan.slot]

theorem State.flip_slot_other (s : State) (n : Ch) {j k : SlotId} (h : k ≠ j) :
    ((s.flip n j).chan n).slot k = (s.chan n).slot k := by
  simp [State.flip, State.updSlot_slot_other _ _ _ h, State.commitAct_slot]

/-- The ACT commits that are due leave a slot that rolls back rolling back. -/
theorem State.actNow_rejected {s : State} {n : Ch} {k : SlotId} (j : SlotId) (h : ((s.chan n).slot k).rejected) :
    (((s.actNow n j).chan n).slot k).rejected := by
  unfold State.actNow
  extract_lets t
  by_cases e : k = j
  · subst e
    have ht : (t.chan n).slot k = { (s.chan n).slot k with actWait := false } := s.updSlot_slot n k _
    have hr : ((t.chan n).slot k).upd = .rollingBack := by rw [ht]; exact h.1
    simp only [hr]
    rw [State.commitAct_slot, ht]
    exact h
  · have ht : (t.chan n).slot k = (s.chan n).slot k := s.updSlot_slot_other n _ e
    split
    · rwa [State.flip_slot_other _ _ e, ht]
    · rwa [State.commitAct_slot, ht]
    · rwa [ht]

theorem State.applyActs_rejected {s : State} {n : Ch} {k : SlotId} (h : ((s.chan n).slot k).rejected) :
    (((s.applyActs n).chan n).slot k).rejected := by
  unfold State.applyActs
  split
  · exact h
  · refine List.foldlRecOn (motive := fun t : State => ((t.chan n).slot k).rejected) _ _ h (fun t ht j _ => ?_)
    split
    · exact State.actNow_rejected j ht
    · exact ht

/-- An agent that changes its state, and one that Decants anew, keeps its slots. -/
theorem State.setAgent_slot (s : State) (n : Ch) (a : AgentSt) (k : SlotId) :
    ((s.setAgent n a).chan n).slot k = (s.chan n).slot k := by
  unfold State.setAgent
  split
  · rfl
  · simp [Chan.slot]

theorem State.noteSet_slot (s : State) (n : Ch) (k : SlotId) : ((s.noteSet n).chan n).slot k = (s.chan n).slot k := by
  unfold State.noteSet
  split
  · simp [Chan.slot]
  · rfl

theorem State.startDecant_slot (s : State) (n : Ch) (k : SlotId) : ((s.startDecant n).chan n).slot k = (s.chan n).slot k := by
  rw [State.startDecant, State.noteSet_slot, State.setAgent_slot]
  simp [Chan.slot]

theorem State.decantNew_slot (s : State) (n : Ch) (k : SlotId) : ((s.decantNew n).chan n).slot k = (s.chan n).slot k := by
  unfold State.decantNew
  split
  · rfl
  · split
    · exact s.startDecant_slot n k
    · simp

/-- The assertion of the agent's reset has an unconfirmed image begin its rollback. -/
theorem State.resetSlot_rejected {s : State} {n : Ch} {k : SlotId} (h : ((s.chan n).slot k).upd = .confirming) :
    (((s.resetSlot n k).chan n).slot k).rejected := by
  simp [State.resetSlot, h, State.beginRollback, State.updSlot_slot, Slot.rejected]

theorem State.resetSlot_raises {s : State} {n : Ch} {k : SlotId} (h : ((s.chan n).slot k).upd = .confirming) :
    s.raises (s.resetSlot n k) (64 * n.val + 24) (chArg 0 0 (s.actCopy n k) k.val) := by
  simp only [State.resetSlot, h, State.beginRollback]
  exact ((State.updSlot_grows _ _ _ _).raises _ _).trans ((State.intent_grows ..).trans (State.updSlot_grows _ _ _ _))

/-- The rollback of an agent that is in reset already: the slot, the ACT commits due, and Decanting anew. -/
theorem State.rollback_inReset {s : State} {n : Ch} {k : SlotId} (hst : (s.chan n).st ≠ .released)
    (hc : ((s.chan n).slot k).upd = .confirming) :
    (((s.rollback n k).chan n).slot k).rejected ∧
      s.raises (s.rollback n k) (64 * n.val + 24) (chArg 0 0 (s.actCopy n k) k.val) := by
  have hz := State.applyActs_rejected (State.resetSlot_rejected hc)
  have he := (State.resetSlot_raises hc).trans (State.applyActs_grows (s.resetSlot n k) n)
  simp only [State.rollback, hst, hc, if_true, if_false]
  split
  · exact ⟨by rwa [State.decantNew_slot], he.trans (State.decantNew_grows _ _)⟩
  · exact ⟨hz, he⟩

theorem confirmWindowEnd_rollsBack (s : State) (n : Ch) (k : SlotId) (p : Update) (hp : s.powered = true)
    (hc : ((s.chan n).slot k).upd = .confirming) (hu : ((s.chan n).slot k).up = some p) (hw : p.windowOpen = true)
    (hst : (s.chan n).st ≠ .released) : Does (.confirmWindowEnd n k) s (fun u =>
      ((u.chan n).slot k).upd = .rollingBack ∧ ((u.chan n).slot k).inactValid = false ∧
      s.raises u (64 * n.val + 24) (chArg 0 0 (s.actCopy n k) k.val)) := by
  obtain ⟨⟨hupd, hval⟩, he⟩ := State.rollback_inReset hst hc
  refine Does.intro (u := s.rollback n k) ?_ ⟨hupd, hval, he⟩
  show execConfirmWindowEnd n k s = _
  simp [execConfirmWindowEnd, hp, hc, hu, hw]

/-! ## The Vintage burn (R116, R335) -/

theorem State.vintage_eq (s : State) (c : Fin 16) : s.vintage c.val = vctrValue s.life.otp.vctr[c] := by
  simp [State.vintage, State.vctr]

/-- One burn programs the next position of its counter. -/
theorem State.burnVintage_same (s : State) (c : Fin 16) :
    (s.burnVintage c.val).life.otp.vctr[c] = s.life.otp.vctr[c] ||| BitVec.ofNat 64 (2 ^ s.vintage c.val) := by
  rw [State.vintage_eq]
  simp [State.burnVintage, State.updOtp]

theorem State.burnVintage_other (s : State) {c d : Fin 16} (h : d ≠ c) :
    (s.burnVintage c.val).life.otp.vctr[d] = s.life.otp.vctr[d] := by
  have h : c.val ≠ d.val := fun e => h (Fin.ext e.symm)
  simp [State.burnVintage, State.updOtp, h]

theorem vintageBurnStep_burns (s : State) (n : Ch) (k : SlotId) (p : Update) (c : Fin 16) (hp : s.powered = true)
    (hb : ((s.chan n).slot k).upd = .burning) (hu : ((s.chan n).slot k).up = some p)
    (hc : fld (s.cfg (fch n (0xB8 + 4 * k.val))) 27 24 = c.val) (hm : s.plat.mode ≠ .lockdown)
    (hv : (s.burnVintage c.val).vintage c.val < p.man.vintage) : Does (.vintageBurnStep n k true) s (fun u =>
      u.life.otp.vctr[c] = s.life.otp.vctr[c] ||| BitVec.ofNat 64 (2 ^ s.vintage c.val) ∧
      (∀ d : Fin 16, d ≠ c → u.life.otp.vctr[d] = s.life.otp.vctr[d]) ∧
      s.raises u (64 * n.val + 25) (chArg 0 0 (s.actCopy n k) k.val)) := by
  let t := (s.burnVintage c.val).raiseCh n 25 (chArg 0 0 (s.actCopy n k) k.val)
  have ht : t.vintage c.val = (s.burnVintage c.val).vintage c.val := by simp [t, State.vintage, State.vctr]
  have e : exec (.vintageBurnStep n k true) s = .next ((t.updSlot n k (fun z => { z with up := some { p with step := p.step + 1 } })).intent
      3 n.val k.val 0 (p.step + 1) p.nsteps (t.copyPlace n k (t.actCopy n k)) (t.copyPlace n k (t.actCopy n k)) p.man.vintage) := by
    show execVintageBurnStep n k true s = _
    simp [execVintageBurnStep, hp, hb, hu, hc, hm, t, ht, Nat.not_le.mpr hv]
  refine Does.intro e ⟨?_, fun d hd => ?_, ?_⟩
  · simp only [State.intent_rest, State.updSlot_rest, t, State.raiseCh_rest]
    exact s.burnVintage_same c
  · simp only [State.intent_rest, State.updSlot_rest, t, State.raiseCh_rest]
    exact s.burnVintage_other hd
  · exact ((State.burnVintage_grows _ _).raises _ _).trans ((State.updSlot_grows _ _ _ _).trans (State.intent_grows ..))

/-- Settles O4: each clause is the step of the flow that its command takes. -/
theorem updateFlow : Obligations.UpdateFlow := by
  unfold Obligations.UpdateFlow
  exact ⟨boottimeElapsed_runs, updateTimeout_runs, exposedWaitEnd_copies, stagingVerify_copies, stagingVerify_abandons,
    copyUnit_goesOn, copyUnit_completes, confirmWindowEnd_rollsBack, vintageBurnStep_burns⟩

end Sys2Proof.Machine
end

section
/-! PROOFS. The device-side port: operations issued and polled, training, the reset of a part that hangs, refresh (R108, R110, R120 to
R123). -/

namespace Sys2Proof.Machine

/-! ## Operations issued and polled (R108, R110) -/

/-- What serves a virtual page rests on the configuration alone. -/
theorem State.servingExtent_congr {s t : State} (h : t.cfg = s.cfg) (n : Ch) (v : Nat) :
    t.servingExtent n v = s.servingExtent n v := by
  unfold State.servingExtent State.served State.extents State.actCopy
  rw [h]

theorem State.vwrap_congr {s t : State} (h : t.cfg = s.cfg) (n : Ch) (v : Nat) : t.vwrap n v = s.vwrap n v := by
  unfold State.vwrap State.vpages
  rw [h]

/-- The one operation of a channel issued: it runs, and its parts are busy with it. -/
def State.startOp (s : State) (n : Ch) (o : AgentOp) : State :=
  (s.updPort n (fun p => { p with ops := [{ o with st := .running }] })).setBusy n o.parts (some .agent)

theorem execDeviceOpIssue_one {s : State} {n : Ch} {o : AgentOp} (hp : s.powered = true) (ho : (s.chan n).port.ops = [o])
    (hw : o.st = .waiting) (hk : ∀ k, k ∈ o.parts → ((s.chan n).prt k).failed = false ∧ ((s.chan n).prt k).busy = none)
    (hf : s.clk.flashLost = false) : exec (.deviceOpIssue n) s = .next ((s.startOp n o).issueNew n o) := by
  have hi : o.toIssue = true := by simp [AgentOp.toIssue, hw]
  have hr : (s.chan n).port.opRuns = false := by simp [Port.opRuns, ho, hw]
  have hb : o.parts.any (fun k => ((s.chan n).prt k).failed || ((s.chan n).prt k).busy.isSome) = false := by
    rw [List.any_eq_false]
    intro k hm
    simp [hk k hm]
  have hu : s.updPort n (fun p => { p with ops := startWaiting p.ops }) =
      s.updPort n (fun p => { p with ops := [{ o with st := .running }] }) := by
    simp only [State.updPort, State.updChan, ho, startWaiting, List.any_nil, hi, if_true, Bool.false_eq_true, if_false]
  show execDeviceOpIssue n s = _
  simp only [execDeviceOpIssue, ho, List.reverse_singleton, List.find?_cons, hi, hp, hr, hf, hb, hu, hw, State.startOp]
  simp

theorem State.issueNew_program (s : State) (n : Ch) (o : AgentOp) (x : Extent) (h : o.kind = .program)
    (hx : s.servingExtent n (s.vwrap n (o.base / 4096)) = some x) :
    s.issueNew n o = (s.cnt n 29 1).flash n x.part .program
      (beBytes 4 (4096 * x.phys (s.vwrap n (o.base / 4096)) + o.base % 4096)) o.len o.payload := by
  simp [State.issueNew, h, hx]

theorem deviceOpIssue_program (s : State) (n : Ch) (o : AgentOp) (x : Extent) (hp : s.powered = true)
    (ho : (s.chan n).port.ops = [o]) (hw : o.st = .waiting) (hk : o.kind = .program)
    (hi : ∀ k, k ∈ o.parts → ((s.chan n).prt k).failed = false ∧ ((s.chan n).prt k).busy = none)
    (hf : s.clk.flashLost = false) (hx : s.servingExtent n (s.vwrap n (o.base / 4096)) = some x) :
    Does (.deviceOpIssue n) s (fun u =>
      (u.chan n).port.ops = [{ o with st := .running }] ∧ (∀ k, k ∈ o.parts → ((u.chan n).prt k).busy = some .agent) ∧
      u.outbox = s.outbox ++ [Out.flashCmd ⟨n.val, Nat.lt_succ_of_lt n.isLt⟩ x.part .program
        (beBytes 4 (4096 * x.phys (s.vwrap n (o.base / 4096)) + o.base % 4096)) o.len o.payload] ∧
      (∀ m, m ≠ n → u.chan m = s.chan m)) := by
  have hc : (s.startOp n o).cfg = s.cfg := by simp [State.startOp]
  have hx' : (s.startOp n o).servingExtent n ((s.startOp n o).vwrap n (o.base / 4096)) = some x := by
    rw [State.vwrap_congr hc, State.servingExtent_congr hc, hx]
  refine Does.intro (execDeviceOpIssue_one hp ho hw hi hf) ?_
  rw [State.issueNew_program _ _ _ _ hk hx', State.vwrap_congr hc]
  refine ⟨?_, fun k hm => ?_, ?_, fun m hm => ?_⟩
  · simp [State.startOp, State.setBusy_eq, State.updParts_port]
  · simp [State.startOp, State.setBusy_prt_in _ _ _ hm]
  · simp [State.startOp, State.flash, State.emit]
  · simp [State.startOp, State.setBusy_other _ _ _ hm, State.updPort_other _ _ _ _ hm]

theorem statusPoll_polls (s : State) (n : Ch) (k : PartId) (b : Busy) (hp : s.powered = true)
    (hb : ((s.chan n).prt k).busy = some b) (hf : ((s.chan n).prt k).failed = false) : Does (.statusPoll n k) s (fun u =>
      u.outbox = s.outbox ++ partCmds n [k] .poll) := by
  refine Does.intro (u := (s.cnt n 27 1).flash n k .poll [] 0 []) ?_ (by simp [State.flash, State.emit, partCmds])
  show execStatusPoll n k s = _
  rw [execStatusPoll, if_pos ⟨hp, by simp [hb], hf⟩]

/-! ## The port of a channel -/

/-- The device-side port of channel n. -/
def chanPort (n : Ch) : PortId := ⟨n.val, Nat.lt_succ_of_lt n.isLt⟩

@[simp] theorem chanPort_val (n : Ch) : (chanPort n).val = n.val := rfl

theorem eq_chanPort {port : PortId} {n : Ch} (h : port.val = n.val) : port = chanPort n := Fin.ext h

/-! ## Training (R120, R121) -/

theorem State.recomputeHitOnly_chan (s : State) (n : Ch) :
    (s.recomputeHitOnly n).chan =
      (s.updPort n (fun p => { p with hitOnly := (List.range 256).filter (fun i => s.hitOnlyEntry n i) })).chan := by
  simp [State.recomputeHitOnly]

/-- What follows a training leaves the parts, and the other channels. -/
theorem State.afterTraining_prt (s : State) (n : Ch) (k : PartId) : ((s.afterTraining n).chan n).prt k = (s.chan n).prt k := by
  have h : ∀ t : State, ((t.recomputeVworst n).chan n).prt k = (t.chan n).prt k := fun t => by
    simp [State.recomputeVworst, Chan.prt]
  have hh : ((s.recomputeHitOnly n).chan n).prt k = (s.chan n).prt k := by rw [State.recomputeHitOnly_chan, State.updPort_prt]
  unfold State.afterTraining
  dsimp only
  rw [h]
  split
  · exact hh
  · rw [State.buildSfdp, State.updPort_prt, hh]

theorem State.afterTraining_other (s : State) {n m : Ch} (hm : m ≠ n) : (s.afterTraining n).chan m = s.chan m := by
  have h : ∀ t : State, (t.recomputeVworst n).chan m = t.chan m := fun t => by
    simp [State.recomputeVworst, State.updChan_other _ _ _ _ hm]
  have hh : (s.recomputeHitOnly n).chan m = s.chan m := by rw [State.recomputeHitOnly_chan, State.updPort_other _ _ _ _ hm]
  unfold State.afterTraining
  dsimp only
  rw [h]
  split
  · exact hh
  · rw [State.buildSfdp, State.updPort_other _ _ _ _ hm, hh]

/-- A dropped step is told. -/
theorem State.raiseDrops_raises (s : State) (t : Training) (src : Nat) (h : 0 < t.drops.getD 0) :
    s.raises (s.raiseDrops t src) src 0 := by
  obtain ⟨d, hd⟩ := Nat.exists_eq_succ_of_ne_zero (Nat.pos_iff_ne_zero.mp h)
  rw [State.raiseDrops, hd, List.replicate_succ, List.foldl_cons]
  exact (State.grows.refl.raises _ _).trans (.foldl (fun t _ h => h.trans (State.raise_grows _ _ _)) .refl)

/-- A retraining under way on channel n's port is over. -/
def State.trainingOver (s : State) (n : Ch) : State :=
  { s with plat := { s.plat with training := if s.plat.training = some n.val then none else s.plat.training } }

@[simp] theorem State.trainingOver_chan (s : State) (n : Ch) : (s.trainingOver n).chan = s.chan := rfl

@[simp] theorem State.trainingOver_stepsOf (s : State) (n m : Ch) (k : PartId) :
    (s.trainingOver n).stepsOf m k = s.stepsOf m k := rfl

theorem State.trainingOver_grows (s : State) (n : Ch) : s.grows (s.trainingOver n) := State.grows.up_plat _

theorem State.trainingOver_training (s : State) (n : Ch) : (s.trainingOver n).plat.training ≠ some n.val := by
  unfold State.trainingOver
  dsimp only
  split
  · exact nofun
  · assumption

/-- A present part that is not FAILED is trained, or is FAILED now. -/
theorem execEyeTraining_part {s : State} {n : Ch} {k : PartId} (t : Training) (hp : s.powered = true)
    (hk : ((s.chan n).prt k).present = true) (hf : ((s.chan n).prt k).failed = false) :
    exec (.eyeTraining (chanPort n) k t) s = .next ((trainedSclk t (s.stepsOf n k)).elim ((s.trainingOver n).partFailed n k)
      (fun f => ((((s.trainingOver n).updPart n k (fun p => p.train t f)).cnt n 44 1).raiseDrops t (64 * n.val + 28)).afterTraining n)) := by
  show execEyeTraining (chanPort n) k t s = _
  unfold execEyeTraining
  rw [if_neg (by simp [hp])]
  extract_lets p u
  have hu : u = s.trainingOver n := rfl
  cases e : trainedSclk t (s.stepsOf n k) <;> simp [hu, hk, hf, e]

theorem eyeTraining_trains (s : State) (port : PortId) (n : Ch) (k : PartId) (t : Training) (f : Nat) (hp : s.powered = true)
    (hn : port.val = n.val) (hk : ((s.chan n).prt k).present = true) (hf : ((s.chan n).prt k).failed = false)
    (ht : trainedSclk t (s.stepsOf n k) = some f) : Does (.eyeTraining port k t) s (fun u =>
      (u.chan n).prt k = ((s.chan n).prt k).train t f ∧ u.plat.training ≠ some n.val ∧
      (0 < t.drops.getD 0 → s.raises u (64 * n.val + 28) 0) ∧ (∀ m, m ≠ n → u.chan m = s.chan m)) := by
  rw [eq_chanPort hn]
  refine Does.intro (execEyeTraining_part t hp hk hf) ?_
  rw [ht, Option.elim_some]
  refine ⟨?_, ?_, fun hd => ?_, fun m hm => ?_⟩
  · simp [State.afterTraining_prt, State.updPart_prt]
  · simp [State.trainingOver_training]
  · exact ((((State.trainingOver_grows _ _).trans (State.updPart_grows _ _ _ _)).trans (State.cnt_grows _ _ _ _)).then
      (State.raiseDrops_raises _ _ _ hd)).trans (State.afterTraining_grows _ _)
  · simp [State.afterTraining_other _ hm, State.updPart_other _ _ _ hm]

theorem retrainDue_starts (s : State) (port : PortId) (hb : s.background = true) (ht : s.plat.training = none) :
    Does (.retrainDue port) s (fun u => u.plat.training = some port.val) := by
  refine Does.intro (u := { s with plat := { s.plat with training := some port.val } }) ?_ rfl
  show execRetrainDue port s = _
  rw [execRetrainDue, if_pos ⟨hb, ht⟩]

/-! ## A part that is FAILED (R119, R122) -/

/-- Channel n with its part k FAILED: the part is given up, and the agent's operations on it end with their fail bits. -/
def State.partOut (s : State) (n : Ch) (k : PartId) : State :=
  let t := s.updPart n k (fun p => { p with failed := true, busy := none, stage := 0, refresh := none })
  let hit := (t.chan n).port.ops.filter (fun o => o.parts.contains k)
  let t := hit.foldl (fun s o => if o.st = .running then s.setBusy n (o.parts.filter (fun j => decide (j ≠ k))) none else s) t
  t.updPort n (fun p =>
    { p.ended (p.ops.filter (fun o => !o.parts.contains k)) with
      pfail := p.pfail || hit.any (fun o => decide (o.kind = .program))
      efail := p.efail || hit.any (fun o => decide (o.kind = .erase)) })

/-- What a first change of the part and any parts freed leave is left by `partOut`, up to the port. -/
theorem State.partOut_induct {n : Ch} {k : PartId} {P : State → Prop} {s : State}
    (h : P (s.updPart n k (fun p => { p with failed := true, busy := none, stage := 0, refresh := none })))
    (busy : ∀ t ks, k ∉ ks → P t → P (t.setBusy n ks none)) (port : ∀ t f, P t → P (t.updPort n f)) : P (s.partOut n k) := by
  unfold State.partOut
  extract_lets t hit u
  refine port _ _ (List.foldlRecOn (motive := P) _ _ h fun t ht o _ => ?_)
  split
  · exact busy _ _ (by simp) ht
  · exact ht

theorem State.partOut_failed (s : State) (n : Ch) (k : PartId) : (((s.partOut n k).chan n).prt k).failed = true :=
  State.partOut_induct (P := fun t => ((t.chan n).prt k).failed = true) (by rw [State.updPart_prt])
    (fun t ks hk h => by rwa [State.setBusy_prt_out _ _ _ hk]) (fun t f h => by rwa [State.updPort_prt])

theorem State.partOut_st (s : State) (n : Ch) (k : PartId) : ((s.partOut n k).chan n).st = (s.chan n).st :=
  State.partOut_induct (P := fun t => (t.chan n).st = (s.chan n).st) (s.updPart_st n k _)
    (fun t ks _ h => by rw [State.setBusy_eq, State.updParts_st, h]) (fun t f h => by simp [h])

theorem State.partOut_other (s : State) {n m : Ch} (k : PartId) (hm : m ≠ n) : (s.partOut n k).chan m = s.chan m :=
  State.partOut_induct (P := fun t => t.chan m = s.chan m) (s.updPart_other k _ hm)
    (fun t ks _ h => by rw [State.setBusy_other _ _ _ hm, h]) (fun t f h => by rw [State.updPort_other _ _ _ _ hm, h])

theorem State.partOut_grows (s : State) (n : Ch) (k : PartId) : s.grows (s.partOut n k) :=
  State.partOut_induct (P := s.grows) (State.updPart_grows _ _ _ _) (fun _ _ _ h => h.trans (State.setBusy_grows _ _ _ _))
    (fun _ _ h => h.trans (State.updPort_grows _ _ _))

theorem State.partFailed_eq (s : State) (n : Ch) (k : PartId) : s.partFailed n k =
    let t := (s.partOut n k).raiseCh n 27 0
    if t.servedOutside n k ∧ ((t.chan n).st = .released ∨ (t.chan n).st = .decanting) ∧ (t.chan n).brought then t.quarantine n 6
    else t := rfl

/-- A held agent is not quarantined for a FAILED part. -/
theorem State.partFailed_held {s : State} {n : Ch} (k : PartId) (h : (s.chan n).st = .held) :
    s.partFailed n k = (s.partOut n k).raiseCh n 27 0 := by
  rw [State.partFailed_eq]
  simp [State.partOut_st, h]

/-- What a FAILED part leaves of a held agent's channel. -/
theorem State.partFailed_of_held {s t : State} {n : Ch} (k : PartId) (hc : t.chan = s.chan) (hg : s.grows t)
    (h : (s.chan n).st = .held) :
    (((t.partFailed n k).chan n).prt k).failed = true ∧ s.raises (t.partFailed n k) (64 * n.val + 27) 0 ∧
      (∀ m, m ≠ n → (t.partFailed n k).chan m = s.chan m) := by
  rw [State.partFailed_held k (by rwa [hc])]
  refine ⟨?_, (hg.trans (State.partOut_grows _ _ _)).raises _ _, fun m hm => ?_⟩
  · simp [State.partOut_failed]
  · simp [State.partOut_other _ _ hm, hc]

theorem eyeTraining_fails (s : State) (port : PortId) (n : Ch) (k : PartId) (t : Training) (hp : s.powered = true)
    (hn : port.val = n.val) (hk : ((s.chan n).prt k).present = true) (hf : ((s.chan n).prt k).failed = false)
    (ht : trainedSclk t (s.stepsOf n k) = none) (hst : (s.chan n).st = .held) : Does (.eyeTraining port k t) s (fun u =>
      ((u.chan n).prt k).failed = true ∧ s.raises u (64 * n.val + 27) 0 ∧ (∀ m, m ≠ n → u.chan m = s.chan m)) := by
  rw [eq_chanPort hn]
  refine Does.intro (execEyeTraining_part t hp hk hf) ?_
  rw [ht, Option.elim_none]
  exact State.partFailed_of_held k (s.trainingOver_chan n) (s.trainingOver_grows n) hst

/-! ## The reset of a part in stages (R122) -/

theorem partBusyTimeout_first (s : State) (port : PortId) (n : Ch) (k : PartId) (b : Busy) (hp : s.powered = true)
    (hn : port.val = n.val) (hb : ((s.chan n).prt k).busy = some b) (hf : ((s.chan n).prt k).failed = false)
    (hs : ((s.chan n).prt k).stage = 0) (ho : (s.chan n).port.ops = []) : Does (.partBusyTimeout port k) s (fun u =>
      (u.chan n).prt k = { (s.chan n).prt k with stage := 1 } ∧ s.raises u (64 * n.val + 26) 0) := by
  rw [eq_chanPort hn]
  have hl : s.opLate n k = s := by simp [State.opLate, ho]
  have hw : busyWith ((s.chan n).prt k) (s.ownWrite n k) = some b := by simp [busyWith, hb]
  refine Does.intro (u := ((s.updPart n k (fun p => { p with busy := some b, stage := 1 })).raiseCh n 26 0).exception true (64 * n.val + 26))
    ?_ ⟨?_, ((State.updPart_grows _ _ _ _).raises _ _).trans (State.exception_grows _ _ _)⟩
  · show execPartBusyTimeout (chanPort n) k s = _
    simp [execPartBusyTimeout, hp, hf, hs, hl, hw]
  · simp [State.updPart_prt, ← hb]

theorem partSoftwareResetEnd_pulses (s : State) (port : PortId) (n : Ch) (k : PartId) (hp : s.powered = true)
    (hn : port.val = n.val) (hs : ((s.chan n).prt k).stage = 2) (ho : ((s.chan n).prt (1 - k)).busy = none) :
    Does (.partSoftwareResetEnd port k true) s (fun u =>
      (u.chan n).prt k = { (s.chan n).prt k with stage := 3 } ∧ u.outbox = s.outbox ++ partCmds n [k] .rstPulse) := by
  rw [eq_chanPort hn]
  refine Does.intro (u := (s.updPart n k (fun p => { p with stage := 3 })).flash n k .rstPulse [] 0 []) ?_ ⟨?_, ?_⟩
  · show execPartSoftwareResetEnd (chanPort n) k true s = _
    simp [execPartSoftwareResetEnd, hp, hs, ho]
  · simp [State.updPart_prt]
  · simp [State.flash, State.emit, partCmds]

/-- The pulse of a part's RST_N has ended: the part is FAILED, or recovered. -/
theorem execPartResetPulseEnd_pulsed {s : State} {n : Ch} {k : PartId} (bad : Bool) (hp : s.powered = true)
    (hs : ((s.chan n).prt k).stage = 3) :
    exec (.partResetPulseEnd (chanPort n) k bad) s = .next (if bad then s.partFailed n k else s.partRecovered n k) := by
  show execPartResetPulseEnd (chanPort n) k bad s = _
  simp [execPartResetPulseEnd, hp, hs]

theorem partResetPulseEnd_fails (s : State) (port : PortId) (n : Ch) (k : PartId) (hp : s.powered = true)
    (hn : port.val = n.val) (hs : ((s.chan n).prt k).stage = 3) (hst : (s.chan n).st = .held) :
    Does (.partResetPulseEnd port k true) s (fun u =>
      ((u.chan n).prt k).failed = true ∧ s.raises u (64 * n.val + 27) 0 ∧ (∀ m, m ≠ n → u.chan m = s.chan m)) := by
  rw [eq_chanPort hn]
  exact Does.intro (execPartResetPulseEnd_pulsed true hp hs) (State.partFailed_of_held k rfl .refl hst)

/-- Whatever operations its reset ends, a part that has recovered is free. -/
theorem State.partRecovered_prt (s : State) (n : Ch) (k : PartId) :
    ((s.partRecovered n k).chan n).prt k = { (s.chan n).prt k with busy := none, stage := 0 } := by
  unfold State.partRecovered
  extract_lets hit t
  rw [State.updPort_prt]
  refine List.foldlRecOn (motive := fun t : State => (t.chan n).prt k = { (s.chan n).prt k with busy := none, stage := 0 }) _ _
    (s.setBusy_prt_in n _ (by simp)) fun t ht o _ => ?_
  by_cases hk : k ∈ o.parts
  · rw [State.setBusy_prt_in _ _ _ hk, ht]
  · rw [State.setBusy_prt_out _ _ _ hk, ht]

theorem State.partRecovered_other (s : State) {n m : Ch} (k : PartId) (hm : m ≠ n) :
    (s.partRecovered n k).chan m = s.chan m := by
  unfold State.partRecovered
  extract_lets hit t
  rw [State.updPort_other _ _ _ _ hm]
  exact List.foldlRecOn (motive := fun t : State => t.chan m = s.chan m) _ _ (s.setBusy_other _ _ hm)
    fun t ht o _ => (t.setBusy_other _ _ hm).trans ht

theorem partResetPulseEnd_recovers (s : State) (port : PortId) (n : Ch) (k : PartId) (hp : s.powered = true)
    (hn : port.val = n.val) (hs : ((s.chan n).prt k).stage = 3) : Does (.partResetPulseEnd port k false) s (fun u =>
      (u.chan n).prt k = { (s.chan n).prt k with busy := none, stage := 0 } ∧ (∀ m, m ≠ n → u.chan m = s.chan m)) := by
  rw [eq_chanPort hn]
  exact Does.intro (execPartResetPulseEnd_pulsed false hp hs) ⟨s.partRecovered_prt n k, fun m hm => s.partRecovered_other k hm⟩

/-! ## Refresh of erase units (R123) -/

/-- A refresh of the part goes on: it does not wait any more. -/
def State.refreshGoes (s : State) (n : Ch) (k : PartId) : State := s.updPart n k (fun p => { p with refreshWaits := false })

theorem State.refreshRec_chan (s : State) (n : Ch) (k : PartId) (slot : SlotId) (unit state st : Nat) :
    (s.refreshRec n k slot unit state st).chan = s.chan := by simp [State.refreshRec]

theorem sectorRefreshStep_begins (s : State) (n : Ch) (k : PartId) (slot : SlotId) (unit : Nat) (active : Bool)
    (ho : s.refreshOpen n k = true) (he : s.exposed n k = false) (hr : ((s.chan n).prt k).refresh = none)
    (hu : ((s.chan n).prt k).used < fld (s.cfg (fch n 0xDC)) 31 16)
    (hd : ∀ x ∈ ((s.chan n).prt k).refreshed, x.1 = unit → x.2 + dayCycles * fld (s.cfg (fch n 0xDC)) 15 0 ≤ s.time) :
    Does (.sectorRefreshStep n k slot unit active true true) s (fun u =>
      (u.chan n).prt k = { (s.chan n).prt k with refreshWaits := false, refresh := some (slot, unit, 1) } ∧
      u.vault.intents.length = s.vault.intents.length + (if s.crypt.root = none then 0 else 1) ∧
      (∀ m, m ≠ n → u.chan m = s.chan m)) := by
  have hn : ((s.chan n).prt k).refreshed.any (fun x =>
      decide (x.1 = unit) && decide (s.time < x.2 + dayCycles * fld (s.cfg (fch n 0xDC)) 15 0)) = false := by
    rw [List.any_eq_false]
    intro x hx
    simpa using hd x hx
  refine Does.intro (u := ((s.refreshGoes n k).refreshRec n k slot unit 0 1).updPart n k (fun p => { p with refresh := some (slot, unit, 1) }))
    ?_ ⟨?_, ?_, fun m hm => ?_⟩
  · show execSectorRefreshStep n k slot unit active true true s = _
    simp [execSectorRefreshStep, State.refreshGoes, ho, he, hr, Nat.not_le.mpr hu, hn]
  · simp [State.updPart_prt, State.refreshRec_chan, State.refreshGoes]
  · simp [State.refreshRec, State.intent_length, State.refreshGoes]
  · simp [State.updPart_other _ _ _ hm, State.refreshRec_chan, State.refreshGoes]

theorem sectorRefreshStep_erases (s : State) (n : Ch) (k : PartId) (slot z : SlotId) (unit v : Nat) (active : Bool)
    (ho : s.refreshOpen n k = true) (he : s.exposed n k = false) (hr : ((s.chan n).prt k).refresh = some (z, v, 1)) :
    Does (.sectorRefreshStep n k slot unit active true true) s (fun u =>
      (u.chan n).prt k = { (s.chan n).prt k with
        refreshWaits := false, refresh := some (z, v, 2), used := ((s.chan n).prt k).used + 1
        refreshed := (v, s.time) :: ((s.chan n).prt k).refreshed.filter (fun x => x.1 ≠ v) } ∧
      u.outbox = s.outbox ++ [Out.flashCmd ⟨n.val, Nat.lt_succ_of_lt n.isLt⟩ k .erase (beBytes 4 (v * ((s.chan n).prt k).unit))
        ((s.chan n).prt k).unit []] ∧ (∀ m, m ≠ n → u.chan m = s.chan m)) := by
  refine Does.intro (u := (((s.refreshGoes n k).refreshRec n k z v 0 2).flash n k .erase (beBytes 4 (v * ((s.chan n).prt k).unit))
      ((s.chan n).prt k).unit []).updPart n k (fun p =>
        { p with refresh := some (z, v, 2), used := p.used + 1, refreshed := (v, s.time) :: p.refreshed.filter (fun x => x.1 ≠ v) }))
    ?_ ⟨?_, ?_, fun m hm => ?_⟩
  · show execSectorRefreshStep n k slot unit active true true s = _
    simp [execSectorRefreshStep, State.refreshGoes, ho, he, hr]
  · simp [State.updPart_prt, State.refreshRec_chan, State.refreshGoes]
  · simp [State.flash, State.emit, State.refreshRec, State.refreshGoes]
  · simp [State.updPart_other _ _ _ hm, State.refreshRec_chan, State.refreshGoes]

theorem sectorRefreshStep_ends (s : State) (n : Ch) (k : PartId) (slot z : SlotId) (unit v : Nat) (active resident : Bool)
    (ho : s.refreshOpen n k = true) (he : s.exposed n k = false) (hr : ((s.chan n).prt k).refresh = some (z, v, 2)) :
    Does (.sectorRefreshStep n k slot unit active true resident) s (fun u =>
      (u.chan n).prt k = { (s.chan n).prt k with refreshWaits := false, refresh := none } ∧
      s.raises u (64 * n.val + 30) 0 ∧ (∀ m, m ≠ n → u.chan m = s.chan m)) := by
  refine Does.intro (u := (((s.refreshGoes n k).refreshRec n k z v 1 3).updPart n k (fun p => { p with refresh := none })).raiseCh n 30 0)
    ?_ ⟨?_, ?_, fun m hm => ?_⟩
  · show execSectorRefreshStep n k slot unit active true resident s = _
    simp [execSectorRefreshStep, State.refreshGoes, ho, he, hr]
  · simp [State.updPart_prt, State.refreshRec_chan, State.refreshGoes]
  · exact (((State.updPart_grows _ _ _ _).trans (State.refreshRec_grows ..)).trans (State.updPart_grows _ _ _ _)).raises _ _
  · simp [State.updPart_other _ _ _ hm, State.refreshRec_chan, State.refreshGoes]

theorem mem_allCh (n : Ch) : n ∈ allCh := by revert n; decide

theorem mem_allParts (k : PartId) : k ∈ allParts := by revert k; decide

/-- One change to every part of each listed channel, which makes no difference the second time. -/
theorem foldl_updParts_prt {f : Part → Part} (hf : ∀ p, f (f p) = f p) {l : List Ch} {n : Ch} (h : n ∈ l) (s : State) (k : PartId) :
    ((l.foldl (fun t m => t.updParts m allParts f) s).chan n).prt k = f ((s.chan n).prt k) := by
  have once : ∀ (t : State) (m : Ch), f ((t.updParts m allParts f).chan n |>.prt k) = f ((t.chan n).prt k) := fun t m => by
    by_cases e : n = m
    · rw [e, State.updParts_prt_in _ _ hf (mem_allParts k), hf]
    · rw [State.updParts_other _ _ _ e]
  obtain ⟨a, b, rfl⟩ := List.append_of_mem h
  rw [List.foldl_append, List.foldl_cons]
  generalize ht : a.foldl (fun t m => t.updParts m allParts f) s = t
  have hfirst : f ((t.chan n).prt k) = f ((s.chan n).prt k) := by
    rw [← ht]
    exact List.foldlRecOn (motive := fun t : State => f ((t.chan n).prt k) = f ((s.chan n).prt k)) _ _ rfl
      fun t h m _ => (once t m).trans h
  refine List.foldlRecOn (motive := fun t : State => (t.chan n).prt k = f ((s.chan n).prt k)) b _ ?_ fun t h m _ => ?_
  · rw [State.updParts_prt_in _ _ hf (mem_allParts k), hfirst]
  · by_cases e : n = m
    · rw [← e, State.updParts_prt_in _ _ hf (mem_allParts k), h, hf]
    · rw [State.updParts_other _ _ _ e, h]

theorem refreshPeriodRollover_clears (s : State) (n : Ch) (k : PartId) (hp : s.powered = true) :
    Does .refreshPeriodRollover s (fun u => (u.chan n).prt k = { (s.chan n).prt k with used := 0 }) := by
  refine Does.intro (u := allCh.foldl (fun t m => t.updParts m allParts (fun p => { p with used := 0 })) s) ?_
    (foldl_updParts_prt (f := fun p => { p with used := 0 }) (fun _ => rfl) (mem_allCh n) s k)
  show execRefreshPeriodRollover s = _
  rw [execRefreshPeriodRollover, if_pos hp]
  rfl

end Sys2Proof.Machine
end

section
/-! PROOFS. The vault's journals and its part: compaction past 75 % and the training after a vault failure (R127, R282). -/

namespace Sys2Proof.Machine

/-! ## What an erased area and an ended operation leave of the vault (R122, R128) -/

@[simp] theorem State.vaultDone_journal (s : State) :
    s.vaultDone.vault.intents = s.vault.intents ∧ s.vaultDone.vault.nextSeq = s.vault.nextSeq := by
  unfold State.vaultDone
  split
  · exact ⟨rfl, rfl⟩
  · exact ⟨rfl, rfl⟩

@[simp] theorem State.wearErase_journal (s : State) (area : Nat) :
    (s.wearErase area).vault.intents = s.vault.intents ∧ (s.wearErase area).vault.nextSeq = s.vault.nextSeq ∧
      (s.wearErase area).vault.compact = s.vault.compact := by
  simp [State.wearErase]

@[simp] theorem State.intent_compact (s : State) (kind chan slot state step nsteps src dst arg : Nat) :
    (s.intent kind chan slot state step nsteps src dst arg).vault.compact = s.vault.compact := by
  unfold State.intent
  split
  · rfl
  · rfl

/-! ## Compaction (R127, R312) -/

/-- The records of the intent journal that a compaction begins or ends with: SRC and DST name its first page on VP_CS0_N. -/
theorem State.compactBegin_intents (s : State) (h : s.crypt.root ≠ none) :
    (s.compactBegin false).vault.compact = some (false, 0, (liveIntents s.vault.intents).length + 1) ∧
      (s.compactBegin false).vault.intents = s.vault.intents ++ [(⟨s.vault.nextSeq, 8, 8, 0, 0, 0,
        (liveIntents s.vault.intents).length + 1, 0x20002, 0x20002, 0, true⟩ : Intent)] := by
  simp [State.compactBegin, State.compactTotal, State.intent_intents, h]

/-- The last step on the intent journal: the records in force, and the compaction's own. -/
theorem State.compactEnd_intents (s : State) (total : Nat) (h : s.crypt.root ≠ none) :
    (s.compactEnd false total).vault.compact = none ∧
      (s.compactEnd false total).vault.intents = liveIntents s.vault.intents ++ [(⟨s.vault.nextSeq, 8, 8, 0, 1, total, total,
        0x20002, 0x20002, 0, true⟩ : Intent)] ∧
      (s.compactEnd false total).vault.nextSeq = wrap32 (s.vault.nextSeq + 1) := by
  simp [State.compactEnd, State.intent_intents, State.intent_nextSeq, h]

/-- A compaction goes on where the vault can be written and the Rootstock is there. -/
theorem execJournalCompactionStep_on {s : State} {key : Bool} {i total : Nat} (hv : s.vaultUp = true) (hr : s.crypt.root ≠ none)
    (hc : s.vault.compact = some (key, i, total)) : exec (.journalCompactionStep key) s = .next (
      if i + 1 < total then { s with vault := { s.vault with compact := some (key, i + 1, total) } }
      else s.compactEnd key total) := by
  show execJournalCompactionStep key s = _
  simp [execJournalCompactionStep, hv, hr, hc]

theorem journalCompactionStep_begins (s : State) (hv : s.vaultUp = true) (hr : s.crypt.root ≠ none) (hc : s.vault.compact = none)
    (hf : 75 < s.intentFill) : Does (.journalCompactionStep false) s (fun u =>
      u.vault.compact = some (false, 0, (liveIntents s.vault.intents).length + 1) ∧
      u.vault.intents = s.vault.intents ++ [(⟨s.vault.nextSeq, 8, 8, 0, 0, 0, (liveIntents s.vault.intents).length + 1,
        0x20002, 0x20002, 0, true⟩ : Intent)]) := by
  refine Does.intro (u := s.compactBegin false) ?_ (s.compactBegin_intents hr)
  show execJournalCompactionStep false s = _
  simp [execJournalCompactionStep, hv, hr, hc, hf]

theorem journalCompactionStep_goesOn (s : State) (key : Bool) (i total : Nat) (hv : s.vaultUp = true) (hr : s.crypt.root ≠ none)
    (hc : s.vault.compact = some (key, i, total)) (hi : i + 1 < total) : Does (.journalCompactionStep key) s (fun u =>
      u.vault = { s.vault with compact := some (key, i + 1, total) } ∧ s.sameBut u [.vault]) := by
  refine Does.intro (execJournalCompactionStep_on hv hr hc) ?_
  rw [if_pos hi]
  exact ⟨rfl, State.sameBut.vault _⟩

theorem journalCompactionStep_ends (s : State) (i total : Nat) (hv : s.vaultUp = true) (hr : s.crypt.root ≠ none)
    (hc : s.vault.compact = some (false, i, total)) (hi : total ≤ i + 1) : Does (.journalCompactionStep false) s (fun u =>
      u.vault.compact = none ∧ (∀ r ∈ liveIntents s.vault.intents, r ∈ u.vault.intents) ∧
      u.vault.nextSeq = wrap32 (s.vault.nextSeq + 1) ∧
      u.vault.intents.length = (liveIntents s.vault.intents).length + 1) := by
  refine Does.intro (execJournalCompactionStep_on hv hr hc) ?_
  rw [if_neg (Nat.not_lt.mpr hi)]
  obtain ⟨hcompact, hintents, hseq⟩ := s.compactEnd_intents total hr
  refine ⟨hcompact, fun r h => ?_, hseq, ?_⟩
  · rw [hintents]
    exact List.mem_append_left _ h
  · simp [hintents]

/-- The last step on the key journal: four records a key and a SEALGEN past 1, the keys as they were. -/
theorem State.compactEnd_keys (s : State) (total : Nat) :
    (s.compactEnd true total).vault.compact = none ∧ (s.compactEnd true total).crypt.kjFill = 4 * s.compactTotal true ∧
      (s.compactEnd true total).crypt.keys = s.crypt.keys := by
  simp [State.compactEnd, State.compactTotal]

theorem journalCompactionStep_endsKeys (s : State) (i total : Nat) (hv : s.vaultUp = true) (hr : s.crypt.root ≠ none)
    (hg : s.crypt.sealGen = 1) (hc : s.vault.compact = some (true, i, total)) (hi : total ≤ i + 1) :
    Does (.journalCompactionStep true) s (fun u =>
      u.vault.compact = none ∧ u.crypt.kjFill = 4 * s.crypt.keys.length ∧ u.crypt.keys = s.crypt.keys) := by
  refine Does.intro (execJournalCompactionStep_on hv hr hc) ?_
  rw [if_neg (Nat.not_lt.mpr hi)]
  have hlive : s.compactTotal true = s.crypt.keys.length := by simp [State.compactTotal, hg, b2n]
  rw [← hlive]
  exact s.compactEnd_keys total

/-! ## The vault part trained again (R282) -/

theorem vaultRetrain_trains (s : State) (t : Training) (f : Nat) (i : Intent) (hm : s.plat.mode = .recover)
    (hc : s.plat.cause = 0x16) (ht : trainedSclk t s.vaultSteps = some f) (hi : liveIntents s.vault.intents = [i]) :
    Does (.vaultRetrain t true) s (fun u =>
      u.vault.parts[0] = { s.vault.parts[0].train t f with failed := false, present := true, busy := none, stage := 0 }) := by
  have hl : ∀ g : Part → Part, (s.updVaultPart 0 g).vaultRestored = s.updVaultPart 0 g := fun g => by
    have hi : liveIntents (s.updVaultPart 0 g).vault.intents ≠ [] := by simp [State.updVaultPart, hi]
    simp [State.vaultRestored, hi]
  refine Does.intro (u := s.updVaultPart 0 (fun p => { p.train t f with failed := false, present := true, busy := none, stage := 0 }))
    ?_ (by simp [State.updVaultPart])
  show execVaultRetrain t true s = _
  simp [execVaultRetrain, ht, hm, hc, hl]

/-- Settles O5: each clause is the step that its command takes. -/
theorem partsAndJournals : Obligations.PartsAndJournals := by
  unfold Obligations.PartsAndJournals
  exact ⟨deviceOpIssue_program, statusPoll_polls, eyeTraining_trains, eyeTraining_fails, retrainDue_starts, partBusyTimeout_first,
    partSoftwareResetEnd_pulses, partResetPulseEnd_fails, partResetPulseEnd_recovers, sectorRefreshStep_begins,
    sectorRefreshStep_erases, sectorRefreshStep_ends, refreshPeriodRollover_clears, journalCompactionStep_begins,
    journalCompactionStep_goesOn, journalCompactionStep_ends, journalCompactionStep_endsKeys, vaultRetrain_trains⟩

end Sys2Proof.Machine
end
